-- ==== Sys2Proof/Word.lean ====
section
/-! DEFINITION. The word types: register words, bytes and 64-bit words (spec/00_scope.md R4). -/

namespace Sys2Proof

/-- One byte. -/
abbrev Byte := BitVec 8

/-- One 32-bit register word (R4). -/
abbrev Word := BitVec 32

/-- One 64-bit word: counters (R15), local counts (R258), queue entries (R625). -/
abbrev DWord := BitVec 64

end Sys2Proof
end

