-- ==== Sys2Proof/Syntax.lean ====
section
/-! DEFINITION. The commands of the device: one constructor for each row of spec/opcode_table.json, with the
operands that the rule of the row names, and what the outside world or a measurement brings with an event. -/

namespace Sys2Proof

/-- Who makes an access (spec/00 R4, R18, spec/16 R600): one of the nine cores, the host, or a debugger through the debug port. -/
inductive Master where
  | core (c : Fin 9)
  | host
  | debug
  deriving DecidableEq, Repr

/-- What the scrubber of SORT finds at a row (spec/11 R419): agreement, a mismatch that a rewrite mends, a mismatch
that stays, or a double-bit error in the shadow. -/
inductive RowUpset where
  | agrees | transient | permanent | shadow
  deriving DecidableEq, Repr

/-- A bit error that DRAM shows (spec/15 R563): where it lies, and whether two bits are wrong. -/
structure DramUpset where
  addr : BitVec 36
  double : Bool
  rank : Bool
  bank : BitVec 4
  row : BitVec 18
  deriving DecidableEq, Repr

/-- What the read of a packet buffer meets (spec/15 R563, spec/18 R663): a poisoned word of shared SRAM, or an error in DRAM. -/
inductive BufUpset where
  | sram
  | dram (u : DramUpset)
  deriving DecidableEq, Repr

/-- How an advance of anti-rollback counter 0 goes (spec/03 R122): to its end, or cut after some bits, because VPP_FUSE is out
of range or because power is lost. -/
inductive SvnRun where
  | whole
  | noVpp (bits : BitVec 6)
  | cut (bits : BitVec 6)
  deriving DecidableEq, Repr

/-- A host access through BAR2 (spec/03 R126): its offset in the window, the bytes to read, or the bytes to write. -/
structure HostReq where
  write : Bool
  offset : BitVec 26
  size : Fin 9
  data : List Byte
  deriving DecidableEq, Repr

/-- How a root-complex access ends (spec/15 R556). -/
inductive RcResult where
  | done | ur | ca | timeout
  deriving DecidableEq, Repr

/-- Result of a chain's calibration (spec/04 R151): image rejection, EVM as dB below the carrier, a filter corner or a DC
residue outside its limit. -/
structure CalResult where
  irr : BitVec 8
  evm : BitVec 8
  filterBad : Bool
  dcBad : Bool
  deriving DecidableEq, Repr

/-- PPDU formats (spec/05 R178). -/
inductive PhyFormat where
  | dsss | ofdm | ht | vht | he | eht | vmode
  deriving DecidableEq, Repr

/-- Guard intervals (spec/05 R178): the short one of HT, 0.8, 1.6 and 3.2 µs. -/
inductive GuardInt where
  | short | g08 | g16 | g32
  deriving DecidableEq, Repr

/-- LTF types of HE and EHT (spec/05 R178). -/
inductive LtfType where
  | x1 | x2 | x4
  deriving DecidableEq, Repr

/-- A rate allowed for a PPDU, with the PPDU's duration at that rate in TIME ticks (spec/04 R160, spec/05 R178, R179): format,
MCS, bandwidth, streams (in all, for MU-MIMO), beamforming, GI, LTF, STBC, ER SU, a punctured channel or a multiple RU, DCM, and
whether the receiver supports LDPC. -/
structure TxRate where
  fmt : PhyFormat
  mcs : BitVec 5
  bw : Fin 5
  nss : BitVec 4
  steered : Bool
  dur : BitVec 24
  gi : GuardInt := .g08
  ltf : LtfType := .x2
  stbc : Bool := false
  er : Bool := false
  punct : Bool := false
  dcm : Bool := false
  ldpc : Bool := true
  deriving DecidableEq, Repr

/-- What AGC does on one receive chain (spec/04 R153, R156): an on-die gain of 0 to 76 dB in steps of 2 dB, and whether the
FEM's LNA is in bypass. -/
structure AgcStep where
  step : Fin 39
  bypass : Bool
  deriving DecidableEq, Repr

/-- What the header of a WLAN reception says (spec/05 R178, R187): its check fails, with the time its L-SIG gives, or
passes. Times in TIME ticks from the preamble. -/
inductive RxHeader where
  | failed (lsigOk : Bool) (dur : BitVec 24)
  | passed (fmt : PhyFormat) (dataDur dur : BitVec 24) (elicits : Bool)
  deriving DecidableEq, Repr

/-- A preamble that a detector of a WLAN baseband finds (spec/05 R186, R188): whether it is a DSSS preamble, its power in dBm
over its first 1.6 µs and on its L-LTF, saturation of the converters, what AGC settles on for each chain, the ticks until its
header has been checked, and what the check finds. -/
structure RxPreamble where
  dsss : Bool := false
  power : BitVec 8
  lltf : BitVec 8
  sat : Bool
  agc : List AgcStep := []
  after : BitVec 16 := 0
  header : RxHeader
  deriving DecidableEq, Repr

/-- A codeword whose LLRs are complete (spec/05 R190, spec/09 R338): whether it is a Nguord header, the registered flow
of its RU, the RU's place in the PPDU, the peer and TID of its frame where known, the ticks since the end of its last symbol,
and whether it is coded with BCC (spec/05 R179). -/
structure CwIn where
  header : Bool
  ru : BitVec 7 := 0
  bcc : Bool := false
  flow : Option (Fin 512)
  peerTid : Option (BitVec 11 × BitVec 3)
  lag : BitVec 16
  deriving DecidableEq, Repr

/-- A training section that the Nguord receiver finds (spec/09 R336, R337, R340): dechirped power in 0.25 dBm and
saturation on the port of detection, and on the other port where it was measured before the frame mark; SNR and carrier
offset; ticks until its reference point and the picoseconds below a tick; whether the network code matches; what AGC settles on
(spec/04 R153). -/
structure NgPreamble where
  power : BitVec 16
  sat : Bool
  other : Option (BitVec 16 × Bool)
  snr : BitVec 8
  cfo : Word
  ref : BitVec 32
  sub : Fin 2000
  codeA : BitVec 12
  codeB : BitVec 12
  agc : Option AgcStep := none
  deriving DecidableEq, Repr

/-- Where NGL takes a transmit descriptor from (spec/10 R385): the firmware ring, or the frame that TM has handed over. -/
inductive NgSource where
  | ring | handed
  deriving DecidableEq, Repr

/-- What WMAC reads in the first MPDU header of a PPDU, or of one of its RUs (spec/05 R191). -/
structure FirstHeader where
  ru : BitVec 7 := 0
  addressed : Bool
  response : Bool
  flow : Option (Fin 512)
  sta : BitVec 11
  tid : BitVec 3
  deriving DecidableEq, Repr

/-- A complete channel estimate (spec/05 R201, R202); the RSSI at the ports by chain number, in dBm. -/
structure CsiIn where
  ndp : Bool
  tbSta : Option (BitVec 12)
  format : BitVec 4
  bw : BitVec 3
  nss : BitVec 4
  rssi : List Byte
  ntones : BitVec 16
  exp : BitVec 8
  values : List Word
  deriving DecidableEq, Repr

/-- A frame that reaches WMAC for transmission (spec/06 R221, R247; spec/13 R475; spec/14 R504): a descriptor that
firmware posts, a management frame of firmware, a frame that TM has handed over for a peer or BSS, or the head of a
registered flow's queue. -/
inductive TxSource where
  | descriptor (words : List Word)
  | management (sta : BitVec 11) (bss : BitVec 6) (timed : Bool) (cookie : Word) (frame : List Byte)
  | handed (egress : BitVec 20)
  | registered (flow : Fin 512)
  deriving DecidableEq, Repr

/-- A received MPDU that passed its FCS (spec/06 R234): which of its radio's receptions brought it, the latest being 0; what its
header says, its body as on air, the management MIC element that it carries (spec/06 R242), the PPDU's RSSI at the port, and the
buffer status report, if it makes one. -/
structure RxMpduIn where
  back : BitVec 2 := 0
  bss : BitVec 6
  a1 : List Byte
  a2 : List Byte
  a3 : List Byte
  a4 : List Byte := []
  toDs : Bool := false
  fromDs : Bool := false
  group : Bool
  mgmt : Bool
  beacon : Bool := false
  robust : Bool
  retry : Bool
  pmClear : Bool
  tid : BitVec 3
  sn : BitVec 12
  frag : BitVec 4
  more : Bool
  prot : Bool
  oldCipher : Bool
  keyId : BitVec 2
  pn : BitVec 48
  amsdu : Bool
  mic : Option (List Byte) := none
  hdr : List Byte
  body : List Byte
  rssi : BitVec 8
  queueSize : Option (BitVec 8)
  deriving DecidableEq, Repr

/-- A station as ROUNDS sees it when a segment begins (spec/08 R297): the bytes that RUs of 26, 52, 106, 242, 484, 996,
1,992 and 3,984 tones, and the whole of a punctured channel, carry for it at its current rate. -/
structure StaCarry where
  sta : BitVec 11
  bytes : List (BitVec 24)
  deriving DecidableEq, Repr

/-- What a segment finds when it begins (spec/08 R297, R298, R299): carrying capacities, the duration of its data PPDU, or of the
feedback that one sounding draws, in TIME ticks, punctured 20 MHz subchannels, users of an uplink segment that send nothing, the
sounding feedback of stations, and the rates allowed. -/
structure SegmentIn where
  carry : List StaCarry
  dur : BitVec 24
  punct : BitVec 16 := 0
  silent : List (BitVec 11)
  reports : List (BitVec 11 × List Byte) := []
  rates : List TxRate
  deriving DecidableEq, Repr

/-- An error of shared SRAM found by the scrubber or a read (spec/18 R663): a single-bit error that its rewrite mends
or does not mend, or a double-bit error. -/
inductive SramUpset where
  | single | stuck | double
  deriving DecidableEq, Repr

/-- A fault that shows in a unit which has no command of its own: an uncorrectable error of a core (spec/18 R660), or an error in
the memory of a key slot, single-bit or double-bit (spec/16 R569). -/
inductive UnitError where
  | core (c : Fin 9)
  | keySlot (slot : BitVec 13) (double : Bool)
  deriving DecidableEq, Repr

/-- The commands the device takes: one constructor for each row of spec/opcode_table.json, in its order but for the register
writes with rows of their own that stand after the first. -/
inductive Instr where
  /-- REGISTER_WRITE (R5). A core or host write to a register that has no row of its own, applied field by field under its access types and the lock. -/
  | registerWrite (m : Master) (addr : BitVec 64) (size : Nat) (value : DWord)
  /-- PROVISION (R594). LC_CMD PROVISION blows IDSEED, the owner hash and the PROVISIONED bit. -/
  | provision (vpp : Bool) (cut : Option Bool)
  /-- RANDOM (R584). A firmware RANDOM operation writes DRBG output. -/
  | random
  /-- ENTROPY (R588). A continuous health test of the random source fails, and entropy-dependent commands are refused. -/
  | entropy
  /-- DEPLOY (R594). LC_CMD DEPLOY blows the DEPLOYED bit. -/
  | deploy (vpp : Bool)
  /-- SW_ENTRY_WRITE (R661). A write that makes DISPATCH.SW_ENTRY non-zero brings in a held spare core. -/
  | swEntryWrite (high : Bool) (value : Word)
  /-- INJ (R665). A write of FAULT.INJ with GO injects an event in RECORD or FULL mode. -/
  | inj (value : Word)
  /-- ABORT (R667). A write of SYSCTL.ABORT, or a queued FAULT reaction, aborts a named function. -/
  | abort (value : Word)
  /-- AFFINITY_WRITE (R620). A write of a thread's AFFINITY re-places it or makes a running thread MIGRATING. -/
  | affinityWrite (thread : Fin 1024) (value : Word)
  /-- BAD_SIZE (R4). A register access that is not 32 or 64 bits wide, or is misaligned, has no effect on the register and raises a bus error, reads zero or is discarded. -/
  | badSize (m : Master) (write : Bool) (addr : BitVec 64) (size : Nat)
  /-- CFG_STATUS_READ (R10). A read of CFG_STATUS returns the first recorded refusal and clears the register. -/
  | cfgStatusRead (m : Master) (block : BitVec 8)
  /-- COUNTER_READ (R15). A 64-bit read of a statistics counter returns the whole count atomically and clears it. -/
  | counterRead (m : Master) (addr : BitVec 64)
  /-- COUNTER_LOW_READ (R16). A 32-bit read of a counter's low word returns it, clears the counter and latches the high word into a shadow. -/
  | counterLowRead (m : Master) (addr : BitVec 64)
  /-- COUNTER_HIGH_READ (R16). A 32-bit read of a counter's high word returns and empties the shadow, or returns the live high word if the shadow is empty. -/
  | counterHighRead (m : Master) (addr : BitVec 64)
  /-- GATED_ACCESS (R18). An access to a block whose branch is OFF or whose power is off returns 0x5EA1_ED00 OR the block number, discards a write and is logged. -/
  | gatedAccess (m : Master) (write : Bool) (addr : BitVec 64)
  /-- ADDR_UNMAPPED (R125). An access to an unmapped address raises a bus error or reads zero, and is logged. -/
  | addrUnmapped (m : Master) (write : Bool) (addr : BitVec 64)
  /-- POWER_ON (R38). The rails rise and POR_N is released, so the device runs its start from power-on and cold-starts. -/
  | powerOn (straps : List (BitVec 6))
  /-- PIN (R39). POR_N held low for 1 µs or longer causes a cold reset with cause PIN. -/
  | pin (straps : List (BitVec 6))
  /-- POWER_FAIL (R40). PMIC_PG falls for longer than 2 µs while POR_N is high, and the device takes a cold reset that loses all retained banks. -/
  | powerFail
  /-- PMIC_PG_TIMEOUT (R42). PMIC_PG has not risen within 50 ms of PMIC_SLEEP falling, and the device takes a cold reset with POWER_FAIL. -/
  | pmicPgTimeout
  /-- VIN_AO_LOSS (R64). The loss of VIN_AO takes the device to Off. -/
  | vinAoLoss
  /-- BROWNOUT (R71). The low-power regulator is overloaded or its output sags, so every retained bank and DRAM count as lost and the device cold-starts. -/
  | brownout
  /-- THERMAL_WARN (R53). The hottest sensor reaches 108 °C and the device raises THERMAL_WARN once. -/
  | thermalWarn (sensor : Fin 12) (temp : Int)
  /-- THERMAL (R53). The hottest sensor reaches 118 °C, so every transmitter stops and the device takes a cold reset. -/
  | thermal (temp : Int)
  /-- THERMAL_RESET_RELEASE (R53). After a thermal trip, the device leaves reset once the hottest sensor reads below 95 °C. -/
  | thermalResetRelease (temp : Int)
  /-- AVS_RECOMPUTE (R79). PMU recomputes the voltage targets at PERIOD_MS, at a state transition, or on a 5 °C move of temperature. -/
  | avsRecompute (temp : Int) (core cpu : BitVec 6)
  /-- AVS_WRITE_DONE (R34). An AVS I2C write to the PMIC completes or fails to be acknowledged. -/
  | avsWriteDone (ack : Bool)
  /-- AVS_RETRY (R36). The 1 ms retry interval of an unacknowledged AVS write expires, and the write is retried. -/
  | avsRetry
  /-- AVS_SETTLE (R80). The 100 µs wait after the last voltage step ends, and the frequency is raised. -/
  | avsSettle
  /-- BRANCH_WAKE (R59). Work or a register access reaches a stopped AUTO branch, which starts its clock within its wake bound. -/
  | branchWake (b : Fin 16)
  /-- BRANCH_IDLE_STOP (R60). An AUTO branch has been without work for the idle time of the state, and its clock stops. -/
  | branchIdleStop (b : Fin 16)
  /-- GATE_WRITE (R62). A write of CKGEN.GATE sets the branch modes, refused for excluded modes or for pinned branches set to OFF. -/
  | gateWrite (value : Word)
  /-- PLL_CTRL_WRITE (R95). A write of CKGEN.PLL_CTRL starts PLLs or stops them, refused while a fed branch is ON or AUTO. -/
  | pllCtrlWrite (value : Word)
  /-- PLL_LOCK (R95). A started PLL locks, its LOCK bit rises and its branches release held work. -/
  | pllLock (p : Fin 5)
  /-- PLL_UNLOCK (R63). A PLL loses lock, stops its branches and raises PLL_UNLOCK. -/
  | pllUnlock (p : Fin 5)
  /-- CLOCK_LOSS (R63). The REF or AO input is lost, and the device sets REF_LOSS or AO_LOSS and raises CLOCK_LOSS. -/
  | clockLoss (ao : Bool)
  /-- STATE_REQ_RUN (R64). Firmware requests Run. -/
  | stateReqRun
  /-- STATE_REQ_TRIM (R64). Firmware requests Trim, which is refused in Watch. -/
  | stateReqTrim
  /-- STATE_REQ_WATCH (R64). Firmware requests Watch, which is checked and then starts the Watch entry sequence. -/
  | stateReqWatch
  /-- WATCH_ENTRY_DONE (R67). The Watch entry sequence completes, BUSY clears and CUR reads WATCH. -/
  | watchEntryDone
  /-- STATE_REQ_SLEEP (R64). Firmware requests Sleep, which is checked against the wake sources and the retention budget and then starts the Sleep entry sequence. -/
  | stateReqSleep (temp : Int)
  /-- SLEEP_ENTRY_DONE (R73). The Sleep entry sequence reaches its point of no return, and PMIC_SLEEP rises. -/
  | sleepEntryDone
  /-- ABORTED_WAKE (R75). An enabled wake event latched before PMIC_SLEEP rises undoes the Sleep entry. -/
  | abortedWake
  /-- WAKE_LINK_ENERGY (R81). Signal is detected on an EMAC port in ENERGY mode for 10 µs or more. -/
  | wakeLinkEnergy (p : Fin 4)
  /-- WAKE_PATTERN_MATCH (R84). A frame with a good FCS on a port in PATTERN mode matches an enabled wake pattern and is dropped. -/
  | wakePatternMatch (p : Fin 4) (frame : List Byte)
  /-- WAKE_WLAN_REQUEST (R68). A probe or association request on the watch radio is kept and wakes the device. -/
  | wakeWlanRequest (frame : List Byte)
  /-- WAKE_NGUORD_FRAME (R69). A Nguord frame for firmware arrives in Watch and wakes the device. -/
  | wakeNguordFrame (frame : List Byte)
  /-- WAKE_PCIE (R81). A PCIe sideband wake arrives: a rising PERST_N in endpoint mode, or WAKE_N low in root-complex mode. -/
  | wakePcie
  /-- WAKE_ALARM (R92). The PMU alarm count expires, or a Postmark alarm marked for wake fires. -/
  | wakeAlarm (postmark : Bool)
  /-- WAKE_IN (R81). An edge of the chosen polarity on WAKE_IN holds stable for 61 µs. -/
  | wakeIn (rising : Bool)
  /-- SLEEP_EXIT (R76). PMIC_PG rises after a wake from Sleep, and the device checks its retained banks, restores DRAM and warm-resets into the resume path. -/
  | sleepExit (changed : List (BitVec 22 × Byte))
  /-- BOOT (R103). The boot ROM starts after RST_OUT_N is released, chooses a slot, verifies the image and applies its records in order. -/
  | boot
  /-- PMIC (R114). The ROM applies a PMIC record to PMU.AVS_CFG and AVS_CTRL.EN. -/
  | pmic
  /-- NVM_TIMING (R114). The ROM applies an NVM_TIMING record to NVMC.MODE. -/
  | nvmTiming
  /-- CLOCKS (R114). The ROM applies a CLOCKS record to PLL_CTRL and GATE. -/
  | clocks
  /-- HOSTP (R116). The ROM applies a HOSTP record and the PCIe link starts to train. -/
  | hostpRecord
  /-- HOSTP_LATE (R116). 80 ms pass without a HOSTP record, so the link trains with reset values and a later HOSTP record is skipped. -/
  | hostpLate (perst : DWord)
  /-- DRAM (R559). The ROM applies a DRAM record, which trains DRAM and performs pending post-package repairs. -/
  | dramRecord (trains : Bool)
  /-- LOAD (R115). The ROM applies a LOAD record and copies its body to DEST. -/
  | load
  /-- REG_WRITES (R115). The ROM applies each masked register write of a REG_WRITES record and checks the block's CFG_STATUS. -/
  | regWrites
  /-- SEALED (R119). The ROM opens a SEALED section and applies its inner records, or boots UNBOUND if the tag fails. -/
  | sealed
  /-- LOCK (R117). A LOCK record sets SYSCTL.CFG_LOCK. -/
  | lockRecord
  /-- ENTRY (R103). The ENTRY record is reached, the lock is set if still clear, the boot watchdog starts and firmware is entered. -/
  | entry (run : SvnRun)
  /-- BOOT_CONFIRM (R107). Firmware writes BOOT_CONFIRM, which stops the watchdog and starts any anti-rollback advance. -/
  | bootConfirm (value : Word) (run : SvnRun)
  /-- BOOT_TIMEOUT (R107). The boot watchdog expires before confirmation, so the slot is marked failed and the device warm-resets. -/
  | bootTimeout
  /-- SOFTWARE (R132). A write of SYSCTL.RESET with the key causes a warm reset with cause SOFTWARE. -/
  | software (value : Word)
  /-- HOST (R98). PCIE_PERST_N falls in endpoint mode with PERST_RESETS = 1, and the device warm-resets. -/
  | host
  /-- PERST_HOSTP_RESET (R101). PCIE_PERST_N falls with PERST_RESETS = 0, and HOSTP alone is reset. -/
  | perstHostpReset
  /-- DEBUG (R98). An unlocked debugger requests a reset through JTAG. -/
  | debugReset
  /-- CFG_LOCK (R133). A write of SYSCTL.CFG_LOCK locks every RWL field until the next reset. -/
  | cfgLock (value : Word)
  /-- BAR2_WIN_WRITE (R128). A write of BAR2_WIN moves the host memory window for requests that arrive after it. -/
  | bar2WinWrite (value : Word) (received : List HostReq)
  /-- RB_ADV (R139). A write of SYSCTL.RB_ADV blows one bit of a firmware anti-rollback counter. -/
  | rbAdv (value : Word) (vpp : Bool)
  /-- IMAGE_OPEN (R129). A host message begins writing the slot that did not boot. -/
  | imageOpen (seq length : Word) (items : List Word)
  /-- IMAGE_WRITE (R130). A host message writes data into the open slot; a write into the booted slot is refused. -/
  | imageWrite (seq length : Word) (items : List Word)
  /-- IMAGE_COMMIT (R130). A host message checks the written slot and clears its SLOT_FAIL bit if every check passes. -/
  | imageCommit (seq length : Word) (items : List Word)
  /-- RESET (R130). A host message asks for a warm reset with cause SOFTWARE once any page program has finished. -/
  | resetMsg (seq length : Word) (items : List Word)
  /-- NVM_READ (R141). An NVMC READ operation copies flash bytes to memory. -/
  | nvmRead
  /-- NVM_PROGRAM (R141). An NVMC PROGRAM operation writes up to one page of flash. -/
  | nvmProgram
  /-- NVM_ERASE_4K (R141). An NVMC ERASE_4K operation erases 4 KiB sectors. -/
  | nvmErase4k
  /-- NVM_ERASE_64K (R141). An NVMC ERASE_64K operation erases 64 KiB sectors. -/
  | nvmErase64k
  /-- NVM_OP_DONE (R142). An NVMC operation finishes, sets its RESULT and raises its interrupt. -/
  | nvmOpDone
  /-- NVM_TIMEOUT (R142). The flash does not finish an operation within its limit, and the operation ends with NVM_TIMEOUT. -/
  | nvmTimeout
  /-- SYNTH_WRITE (R146). A write of RADIOn.SYNTH or NGR.SYNTH requests a retune. -/
  | synthWrite (radio : Fin 4) (value : Word)
  /-- RETUNE_START (R146). The end of the PPDU on air is reached, the radio goes deaf, and the pending retune starts. -/
  | retuneStart (radio : Fin 4)
  /-- RETUNE_DONE (R146). A retune completes its lock and calibrations, and the radio works again. -/
  | retuneDone (radio : Fin 4) (temp : BitVec 8) (results : List (CalResult × CalResult))
  /-- RF_UNLOCK (R147). A radio synthesiser loses lock in use, so its PA strobes drop, transmissions end TX_UNLOCK and it relocks. -/
  | rfUnlock (radio : Fin 4)
  /-- RADIO_START (R149). A radio island is powered and its start sequence with calibration begins. -/
  | radioStart (radio : Fin 4)
  /-- CAL_DONE (R149). A start or full calibration completes, so CAL_STATUS.BUSY clears and the radio accepts commands. -/
  | calDone (radio : Fin 4) (temp : BitVec 8) (results : List (CalResult × CalResult))
  /-- CAL_CMD_FULL (R171). A write of CAL_CMD.FULL runs a full calibration at once. -/
  | calCmdFull (radio : Fin 4)
  /-- CAL_DUE (R150). The sensor has moved by TEMP_STEP and 1 s has passed, so a tracking calibration falls due. -/
  | calDue (radio : Fin 4) (temp : BitVec 8)
  /-- CAL_TRACK (R309). A due tracking calibration runs in the first suitable gap that ROUNDS or NGL plans. -/
  | calTrack (radio : Fin 4) (temp : BitVec 8) (results : List (CalResult × CalResult))
  /-- RF_CAL_OVERDUE (R150). A calibration has been due for DEFER_MS, so OVERDUE is set and RF_CAL_OVERDUE is raised. -/
  | rfCalOverdue (radio : Fin 4)
  /-- CHAIN_EN_WRITE (R151). A write of CHAIN_EN changes the enabled chains at the end of the current PPDU and re-evaluates EVM_OK. -/
  | chainEnWrite (radio : Fin 3) (value : Word)
  /-- TX_READY (R163). A timed transmit command becomes ready, so the radio starts its strobes or completes the command with TX_LATE. -/
  | txReady (radio : Fin 4)
  /-- TX_UNTIMED_READY (R164). A command without a start time finds the radio ready and contends for the medium. -/
  | txUntimedReady (radio : Fin 4) (energy : BitVec 8)
  /-- DOZE_START (R308). In Trim, a radio enters doze inside a window in which no station may transmit to it. -/
  | dozeStart (radio : Fin 3)
  /-- DOZE_END (R66). A doze ends 12 µs before the next scheduled transmission or reception. -/
  | dozeEnd (radio : Fin 3)
  /-- RX_PREAMBLE (R186). The primary detector finds a preamble and a reception starts, with AGC freezing and the header checked. -/
  | rxPreamble (radio : Fin 3) (preamble : RxPreamble)
  /-- SECOND_DETECT (R188). The second detector finds a preamble during a reception, so the receiver restarts or continues. -/
  | secondDetect (radio : Fin 3) (preamble : RxPreamble)
  /-- CODEWORD_ENQUEUE (R190). A codeword's LLRs are complete and it enters the decoder pool with a class and a deadline, displacing one if the pool is full. -/
  | codewordEnqueue (radio : Fin 4) (cw : CwIn)
  /-- CODEWORD_RECLASS (R191). WMAC reads the first MPDU header and reclasses or cancels the queued codewords of the PPDU. -/
  | codewordReclass (radio : Fin 3) (hdr : FirstHeader)
  /-- ENGINE_FREE (R194). A decoder engine becomes free and chooses its next codeword, ending with DEC_MISSED any that cannot reach MIN. -/
  | engineFree (engine : Fin 14)
  /-- DECODE_END (R192). An engine finishes a decode, and the result is checked and delivered or requeued. -/
  | decodeEnd (engine : Fin 14) (iterations : BitVec 5) (zero agree : Bool)
  /-- LDPC_RETIRE (R199). A write of LDPC.RETIRE retires an engine and brings in the lowest spare. -/
  | ldpcRetire (value : Word)
  /-- BIST (R200). The known-answer period expires and an engine decodes a known-answer codeword in an idle gap. -/
  | bist (engine : Fin 14) (pass : Bool)
  /-- CSI_CAPTURE (R201). A matching PPDU's channel estimate is complete and is written to its FIFO or dropped. -/
  | csiCapture (radio : Fin 3) (est : CsiIn)
  /-- CTX_ADD (R219). A CTX_CMD ADD installs a peer context from staging between MPDUs. -/
  | ctxAdd (sta : BitVec 11)
  /-- CTX_UPDATE (R219). A CTX_CMD UPDATE replaces a peer context between MPDUs. -/
  | ctxUpdate (sta : BitVec 11)
  /-- CTX_REMOVE (R220). A CTX_CMD REMOVE deletes a peer context, and its queued MPDUs complete TX_NO_PEER. -/
  | ctxRemove (sta : BitVec 11)
  /-- CTX_READ (R219). A CTX_CMD READ copies a peer context and its per-TID state to staging. -/
  | ctxRead (sta : BitVec 11)
  /-- TX_DESCRIPTOR (R247). A transmit descriptor reaches WMAC, is checked, and the MSDU takes its sequence and packet numbers and is encrypted. -/
  | txDescriptor (source : TxSource)
  /-- PPDU_FILL (R224). At a planned or won transmit opportunity, WMAC fills a PPDU for a peer on a link. -/
  | ppduFill (sta : BitVec 11) (link : BitVec 6) (bytes : BitVec 24) (start : Option DWord) (rates : List TxRate)
  /-- BLOCK_ACK_RX (R224). A block ack arrives, and the MPDUs it covers are acknowledged and the others unbound. -/
  | blockAckRx (sta : BitVec 11) (link : Fin 3) (tid : BitVec 3) (ssn : BitVec 12) (acked : List (BitVec 12))
  /-- BLOCK_ACK_TIMEOUT (R224). No block ack arrives in time, so the MPDUs become unbound or end TX_RETRY_LIMIT at the limit. -/
  | blockAckTimeout (sta : BitVec 11) (link : Fin 3)
  /-- EMLSR_ICF_FAIL (R230). An initial control frame draws no response and is counted. -/
  | emlsrIcfFail (sta : BitVec 11)
  /-- MPDU_RX (R234). A received MPDU is matched, decrypted, deduplicated, reordered, replay-checked and converted. -/
  | mpduRx (mpdu : RxMpduIn)
  /-- BLOCK_ACK_REQ_RX (R237). A received BlockAckReq moves WinStart and releases held entries. -/
  | blockAckReqRx (sta : BitVec 11) (tid : BitVec 3) (ssn : BitVec 12)
  /-- REORDER_FLUSH (R239). The reorder flush timer expires, and WinStart skips to the next held entry. -/
  | reorderFlush (sta : BitVec 11) (tid : BitVec 3)
  /-- BEACON_TX (R216). A BSS's beacon interval expires and WMAC sends its beacon from the template. -/
  | beaconTx (bss : BitVec 6) (len : BitVec 12) (rates : List TxRate)
  /-- TRIGGER_FIRE (R269). A Postmark trigger's time base reaches its time, and the trigger fires and acts on its TARGET. -/
  | triggerFire (trigger : Fin 16)
  /-- TRIGGER_ARM (R271). A TRG_CTRL write that sets EN arms a trigger after the domain checks. -/
  | triggerArm (trigger : Fin 16) (value : Word)
  /-- TIME_STALE (R263). A domain's servo watchdog expires, so VALID clears, STALE is set and TIME_STALE is raised. -/
  | timeStale (d : Fin 2)
  /-- DOMAIN_SWITCH (R265). With AUTO set, the selected domain becomes invalid while the other is valid, and the device switches domains. -/
  | domainSwitch
  /-- SEL_WRITE (R264). Firmware writes SEL to select the other domain, which switches if that domain is valid. -/
  | selWrite (value : Word)
  /-- INC_NS_WRITE (R261). A write of INC_NS commits the staged increment from the next tick. -/
  | incNsWrite (d : Fin 2) (value : Word)
  /-- SET (R267). CMD.SET loads SET_SEC and SET_NS into a domain at the next tick. -/
  | set (d : Fin 2)
  /-- ADJ (R267). A write of ADJ steps a domain by a signed number of nanoseconds. -/
  | adj (d : Fin 2) (value : Word)
  /-- KICK (R263). CMD.KICK restarts a domain's servo watchdog. -/
  | kick (d : Fin 2)
  /-- NS_READ (R262). A read of a domain's NS returns it and latches SEC and FRAC into shadows. -/
  | nsRead (d : Fin 2)
  /-- LOCAL_LO_READ (R262). A read of LOCAL_LO latches LOCAL_HI into a shadow. -/
  | localLoRead (wide : Bool)
  /-- CAPTURE (R273). A capture channel's source event occurs and the channel records both domains and the local count. -/
  | capture (channel : Fin 8)
  /-- CAP_CMD (R286). A write of CAP_CMD captures on every channel whose source is 0x4. -/
  | capCmd (value : Word)
  /-- CAPTURE_READ (R273). A read of a capture channel's A_NS latches the other words of its record. -/
  | captureRead (channel : Fin 8)
  /-- CLK10M_UPDATE (R274). 10,000,000 cycles of CLK10M_IN end, and CLK10M_TICKS is updated and NEW set. -/
  | clk10mUpdate
  /-- CLK10M_LOSS (R274). CLK10M_IN shows no edge for 1 µs, and PRESENT clears. -/
  | clk10mLoss
  /-- PPS_OUT (R266). A second of the selected domain arrives and PPS_OUT pulses. -/
  | ppsOut
  /-- TSQ_RD_WRITE (R277). Firmware advances a timestamp queue's read index. -/
  | tsqRdWrite (queue : Fin 7) (value : Word)
  /-- PLAN_SWAP (R294). A write of PLAN_CMD.SWAP starts the check of the inactive plan bank. -/
  | planSwap (radio : Fin 3) (value : Word)
  /-- PLAN_CHECK_DONE (R294). The plan bank check ends, and the bank is pending activation or is refused. -/
  | planCheckDone (radio : Fin 3)
  /-- SEGMENT_START (R297). A planned DL_MU, UL_TRIG, QUIET or SOUND segment begins and ROUNDS chooses users and RUs. -/
  | segmentStart (radio : Fin 3) (segment : Fin 32) (seg : SegmentIn)
  /-- TWT_ENTRY_WRITE (R301). A write of a TWT entry's word 0 with VALID = 1 checks the service period. -/
  | twtEntryWrite (entry : BitVec 10) (value : Word)
  /-- TWT_SP_START (R304). A TWT service period begins and ROUNDS sends its trigger if TRIGGERED. -/
  | twtSpStart (entry : BitVec 10) (ul : BitVec 24) (rates : List TxRate)
  /-- TWT_MISSED (R303). A station misses its service period, and its frames stay buffered. -/
  | twtMissed (entry : BitVec 10) (sta : BitVec 11)
  /-- RSP_START (R306). A restricted service period begins and the flow's first PPDU or trigger is sent. -/
  | rspStart (index : BitVec 8) (idle ul : BitVec 24) (rates : List TxRate)
  /-- JOIN (R313). Firmware sets JOIN, which is checked and then enters JOINING. -/
  | join (radio : Fin 3) (value : Word)
  /-- LEFT (R312). Firmware clears JOIN, and the radio returns to SOLO at the next boundary. -/
  | left (radio : Fin 3) (value : Word)
  /-- PEER_BEACON_RX (R315). A beacon from a joint peer arrives and ROUNDS compares its attribute with its own plan. -/
  | peerBeaconRx (radio : Fin 3) (bssid : List Byte) (attr : Option (List Byte))
  /-- NG_RX_DETECT (R336). The Nguord receiver detects a training section and starts a reception with its diversity choice. -/
  | ngRxDetect (preamble : NgPreamble)
  /-- NG_HEADER_RESULT (R339). A Nguord header codeword's decode result arrives and the header check passes or fails. -/
  | ngHeaderResult (word : BitVec 192)
  /-- NG_RX_END (R339). A Nguord frame reaches its computed end and is delivered or dropped by its codeword and CRC outcomes. -/
  | ngRxEnd (crc : BitVec 16) (psdu : List Byte)
  /-- NG_SECOND_DETECT (R340). The Nguord second detector finds an offset preamble, so the receiver restarts or continues. -/
  | ngSecondDetect (preamble : NgPreamble)
  /-- ARM (R352). A write of RNG_CMD.ARM increments SEQ and arms a ranging POLL. -/
  | arm
  /-- ABORT_RANGING (R345). A write of RNG_CMD.ABORT ends the exchange with RNG_ABORTED. -/
  | abortRanging
  /-- POLL (R344). A responder with AUTO_RESP receives a POLL and schedules its RESP. -/
  | poll
  /-- RESP (R344). The initiator receives a RESP and schedules its FINAL. -/
  | resp
  /-- FINAL (R344). The responder receives a FINAL, computes the ToF and schedules its REPORT. -/
  | final
  /-- REPORT (R344). The initiator receives the REPORT and sets its result. -/
  | report
  /-- RNG_TIMEOUT (R345). The expected ranging frame does not arrive within WAIT_MS, and the exchange ends RNG_TIMEOUT. -/
  | rngTimeout
  /-- NGL_ENABLE (R364). A write of NGL.CTRL.EN = 1 checks the superframe and the channel plan and starts the network. -/
  | nglEnable (value : Word)
  /-- PARENT_BEACON_RX (R366). In ROUTER role the parent's beacon is received, timing is taken from it and the device's own beacon follows. -/
  | parentBeaconRx
  /-- RESYNC_SCAN (R382). No parent beacon falls in the window, so a resync scan runs and the parent is lost when PARENT_TO is reached. -/
  | resyncScan
  /-- NG_FRAME_RX (R376). A Nguord frame that passed its CRC goes through address, sender, MIC, FCNT and room checks, then is acknowledged and delivered or relayed. -/
  | ngFrameRx
  /-- NG_ACK_RX (R378). A matching ACK arrives, and the frame completes NG_OK. -/
  | ngAckRx
  /-- NG_ACK_TIMEOUT (R378). No acknowledgement arrives, so the frame is retried or completes NG_NO_ACK. -/
  | ngAckTimeout
  /-- BACKOFF_END (R368). A contention backoff ends, LBT runs and the attempt starts if it can end before CAP_END. -/
  | backoffEnd (energy : BitVec 8)
  /-- NG_SLOT_START (R369). An uplink or downlink slot of the slot table begins. -/
  | ngSlotStart (slot : BitVec 8)
  /-- NG_CAL_START (R370). A due Nguord tracking calibration starts in the quiet period once no ranging is busy. -/
  | ngCalStart (temp : BitVec 8) (result : CalResult × CalResult)
  /-- NG_LIFETIME (R375). A held Nguord frame's lifetime runs out, and it completes NG_LIFETIME. -/
  | ngLifetime
  /-- NG_TX_DESCRIPTOR (R385). A Nguord transmit descriptor is taken from the firmware ring or from TM, checked, routed and protected. -/
  | ngTxDescriptor (source : NgSource)
  /-- NG_DROP_RECORD (R380). A pending drop or parent-lost record is written once the receive FIFO has room. -/
  | ngDropRecord
  /-- NODE_ADD (R393). A NODE_CMD ADD installs a node context. -/
  | nodeAdd (node : BitVec 16)
  /-- NODE_UPDATE (R393). A NODE_CMD UPDATE replaces a node context and clears DROPPED and MISSED. -/
  | nodeUpdate (node : BitVec 16)
  /-- NODE_REMOVE (R393). A NODE_CMD REMOVE deletes a node context, and its queued frames complete NG_NO_NODE. -/
  | nodeRemove (node : BitVec 16)
  /-- NODE_READ (R393). A NODE_CMD READ copies a node context to staging. -/
  | nodeRead (node : BitVec 16)
  /-- LANE_ENTER (R400). A frame becomes ready for SORT and joins the registered, recirculation or normal lane. -/
  | laneEnter (source : Fin 6)
  /-- PASS_START (R401). A waiting packet enters the SORT pipeline and takes the active bank. -/
  | passStart
  /-- PASS_END (R399). A packet leaves the pipeline 256 cycles after entry, having walked the parser graph and matched the associative memory, and takes its action. -/
  | passEnd (upsets : List (BitVec 8 × Bool)) (rows : List (BitVec 13 × List Word))
  /-- CAM_WRITE (R413). A CAM_CMD WRITE replaces an entry from staging. -/
  | camWrite (index : BitVec 13)
  /-- CAM_READ (R413). A CAM_CMD READ copies an entry to staging. -/
  | camRead (index : BitVec 13)
  /-- CAM_CLEAR (R413). A CAM_CMD CLEAR zeroes an entry. -/
  | camClear (index : BitVec 13)
  /-- SET_BANKS (R413). A CAM_CMD SET_BANKS replaces an entry's BANKS. -/
  | setBanks (index : BitVec 13)
  /-- SWAP (R415). A write of SWAP.GO makes the other rule bank active and the swap PENDING. -/
  | swap
  /-- SWAP_DONE (R416). The old bank's in-flight count reaches zero and the swap is DONE. -/
  | swapDone
  /-- CAM_SCRUB (R419). The scrubber compares a row with its shadow, and repairs or moves it on a mismatch. -/
  | camScrub (entry : BitVec 13) (upset : RowUpset)
  /-- TABLES_LOOKUP (R429). TABLES takes a packet and bridges, routes and translates it under its profile. -/
  | tablesLookup (lost : List (Fin 8 × BitVec 17))
  /-- LEARN (R438). The insertion engine takes a learn request, inserts or relocates entries, or floods on failure. -/
  | learn
  /-- L2_SWEEP (R441). The L2 sweeper visits a slot and clears HIT or ages the entry out. -/
  | l2Sweep
  /-- SESS_SWEEP (R449). The session sweeper visits a record and ages it out after TIMEOUT or CLOSE_PASSES. -/
  | sessSweep
  /-- TABLES_ADD (R456). TABLES.CMD ADD inserts an L2 entry, route or session. -/
  | tablesAdd (table : BitVec 4) (index : BitVec 17)
  /-- TABLES_UPDATE (R456). TABLES.CMD UPDATE changes an L2 entry, route or session. -/
  | tablesUpdate (table : BitVec 4) (index : BitVec 17)
  /-- TABLES_DELETE (R450). TABLES.CMD DELETE removes an entry, route or session and writes a session end record. -/
  | tablesDelete (table : BitVec 4) (index : BitVec 17)
  /-- TABLES_READ_KEY (R456). TABLES.CMD READ by key copies an entry to staging. -/
  | tablesReadKey (table : BitVec 4) (index : BitVec 17)
  /-- TABLES_WRITE_INDEXED (R456). TABLES.CMD WRITE indexed writes a next hop, BD, RIF or profile. -/
  | tablesWriteIndexed (table : BitVec 4) (index : BitVec 17)
  /-- TABLES_READ_INDEX (R456). TABLES.CMD READ by index or L2 slot copies an entry to staging. -/
  | tablesReadIndex (table : BitVec 4) (index : BitVec 17)
  /-- FLUSH (R456). TABLES.CMD FLUSH removes non-static L2 entries of a BD or of all BDs. -/
  | flush (table : BitVec 4)
  /-- AUDIT_PASS (R452). The audit engine compares the shadow with the hardware for each region in MASK once per PERIOD_S. -/
  | auditPass
  /-- AUDIT_CONFIRM (R452). CONFIRM_US after a mismatch, a second comparison confirms it and corrects it if asked. -/
  | auditConfirm
  /-- TM_ENQUEUE (R461). TM polices a packet, copies it to flood members, selects queues and admits or drops each copy. -/
  | tmEnqueue
  /-- REFILL (R471). At each refill, every 1,024 FAB cycles, shaper and policer tokens are added and staged commits applied. -/
  | refill
  /-- EGRESS_READY (R474). An egress is ready for a frame, and TM chooses a queue by deadline, priority and DWRR and hands the frame over. -/
  | egressReady (egress : BitVec 20) (tid : BitVec 3) (upset : Option BufUpset)
  /-- QUEUE_COMMIT (R464). A write of a queue's word 0 commits the queue entry after its checks. -/
  | queueCommit (queue : BitVec 13) (value : Word)
  /-- EGMAP_COMMIT (R465). A write of an egress map entry's word 0 commits it after its checks. -/
  | egmapCommit (entry : BitVec 11) (value : Word)
  /-- FLOOD_COMMIT (R483). A write of a flood group's word 0 commits the group. -/
  | floodCommit (group : BitVec 10) (value : Word)
  /-- SHAPER_COMMIT (R473). A write of a shaper's or policer's word 0 stages a commit for the next refill. -/
  | shaperCommit (policer : Bool) (index : BitVec 13) (value : Word)
  /-- QUEUE_FLUSH (R479). A QCMD FLUSH drops every frame in a queue that its egress has not taken. -/
  | queueFlush (queue : BitVec 13)
  /-- SAMPLE_WALK (R478). A sampler period starts and a walk writes one record for each queue in range. -/
  | sampleWalk
  /-- MAX_DELAY_READ (R477). A read of a queue's MAX_DELAY returns the largest delay and clears it. -/
  | maxDelayRead (queue : BitVec 13)
  /-- FLOW_ADMIT (R496). A FLOW_CMD ADMIT computes a flow's bound, checks it and writes its reservations, or refuses the flow. -/
  | flowAdmit (flow : BitVec 9)
  /-- FLOW_RELEASE (R517). A FLOW_CMD RELEASE sets a flow RELEASING. -/
  | flowRelease (flow : BitVec 9)
  /-- FLOW_READ (R519). A FLOW_CMD READ copies a flow's descriptor and computed words to staging and clears its lost marks. -/
  | flowRead (flow : BitVec 9)
  /-- FLOW_FREE (R517). A releasing flow's last frame reaches its outcome, and its resources and pins are freed. -/
  | flowFreed (flow : BitVec 9)
  /-- BOOKING (R503). REGSVC books a registered frame from SORT into an occurrence, or declares it EXPIRED. -/
  | booking
  /-- OCCURRENCE_END (R505). An A2W occurrence ends, so WinStart moves past it and missing frames are declared EXPIRED. -/
  | occurrenceEnd (index : BitVec 8)
  /-- FRAME_DEADLINE (R506). A booked frame reaches its deadline less T_GUARD without an outcome and is declared EXPIRED. -/
  | frameDeadline (flow : BitVec 9) (fnum : BitVec 16)
  /-- FRER_RESET (R509). No copy has passed for RESET_MS, and the recovery state resets. -/
  | frerReset (flow : BitVec 9)
  /-- OUTCOME_RECORD (R515). A queued outcome record is written to its FIFO as room appears. -/
  | outcomeRecord
  /-- EMAC_RX_FRAME (R524). An EMAC receives a frame, checks it and MACsec, timestamps it and hands it to SORT or drops it. -/
  | emacRxFrame (p : Fin 4) (frame : List Byte) (codeErr : Bool)
  /-- EMAC_TX_END (R525). The last bit of a frame handed to an EMAC leaves the wire, and a registered frame becomes DELIVERED. -/
  | emacTxEnd (p : Fin 4)
  /-- LINK_UP (R523). An EMAC link comes up at a listed speed. -/
  | linkUp (p : Fin 4) (speed : BitVec 3) (half : Bool)
  /-- LINK_DOWN (R529). An EMAC link goes down, so the frame in transmission is abandoned and EMAC_LINK is raised. -/
  | linkDown (p : Fin 4)
  /-- EMAC_MODE_WRITE (R538). A write of EMACn.MODE enables the port or, clearing EN, takes the link down. -/
  | emacModeWrite (p : Fin 4) (value : Word)
  /-- PAUSE_RX (R528). A received PAUSE or PFC frame stops transmission of the paused traffic. -/
  | pauseRx (p : Fin 4) (classes : BitVec 8) (quanta : BitVec 16)
  /-- RX_BUFFER_XOFF (R528). The receive buffer crosses XOFF or falls back below it, and the port sends PAUSE, PFC or XON. -/
  | rxBufferXoff (p : Fin 4)
  /-- SDS_PRESET (R536). An equalisation preset fails, and the port retrains with the next usable preset. -/
  | sdsPreset (p : Fin 4) (errors : BitVec 32)
  /-- HOST_TX_FRAME (R548). HOSTP fetches a frame's descriptors from a transmit ring, segments it if asked and hands it to SORT. -/
  | hostTxFrame (ring : Fin 256) (dmaError : Bool)
  /-- HOST_TX_COMPLETION (R550). A host transmit frame completes and its completion is written. -/
  | hostTxCompletion (ring : Fin 256)
  /-- HOST_RX_FRAME (R552). HOSTP writes a frame into a receive ring's buffers and posts its completions, or drops it on an empty free list. -/
  | hostRxFrame (ring : Fin 256)
  /-- COAL_TIMEOUT (R553). COAL_US passes since the first waiting completion, and the ring's vector is raised. -/
  | coalTimeout (receive : Bool) (ring : Fin 256)
  /-- RC_ACCESS (R546). A write of RC_DATA starts one configuration or memory access to the endpoint in root-complex mode. -/
  | rcAccess (value : Word)
  /-- RC_ACCESS_DONE (R556). A root-complex access completes with DONE, UR or CA, or times out after 50 ms. -/
  | rcAccessDone (result : RcResult) (data : Word)
  /-- DRAM_REQUEST (R561). DRAMC serves a memory request in arrival order. -/
  | dramRequest (m : Master) (write : Bool) (addr : BitVec 36) (data : List Byte) (size : Nat) (upset : Option DramUpset)
  /-- DRAM_POWER_DOWN (R562). A rank has been idle for PD_IDLE_NS and enters power-down. -/
  | dramPowerDown (rank : Fin 2)
  /-- DRAM_SCRUB (R563). The DRAM scrubber reads memory, corrects or reports errors and queues repair rows. -/
  | dramScrub (upsets : List DramUpset)
  /-- RETRAIN (R565). A write of DRAMC.RETRAIN.GO applies CFG and runs full training. -/
  | retrain
  /-- RETRAIN_DONE (R565). Retraining ends with TRAINED set or with DRAM_TRAIN. -/
  | retrainDone (ok : Bool)
  /-- KEY_WRITE (R571). KEYS.CMD WRITE takes a slot to PENDING for a new key. -/
  | keyWrite (slot : BitVec 13)
  /-- KEY_ERASE (R571). KEYS.CMD ERASE takes a slot to PENDING for erasure. -/
  | keyErase (slot : BitVec 13)
  /-- ZEROISE (R572). KEYS.CMD ZEROISE aborts device-slot operations and erases every slot and the backing. -/
  | zeroise
  /-- READ_STATE (R571). KEYS.CMD READ_STATE copies a slot's state to SLOT_STATE. -/
  | readState (slot : BitVec 13)
  /-- CHANGE_LANDED (R572). A pending slot's INFLIGHT reaches zero, the change lands with GEN + 1 and stalled operations start. -/
  | changeLanded
  /-- ENCRYPT (R584). A firmware ENCRYPT operation on the SEAL ring. -/
  | encrypt
  /-- DECRYPT (R580). A firmware DECRYPT operation, which zeroes its output on a tag failure. -/
  | decrypt
  /-- MAC (R584). A firmware MAC operation. -/
  | mac
  /-- VERIFY (R584). A firmware VERIFY operation. -/
  | verify
  /-- HASH (R584). A firmware SHA-384 HASH operation. -/
  | hash
  /-- DERIVE (R584). A firmware DERIVE operation writes a derived key into a slot through a pending change. -/
  | derive
  /-- SEAL_CREATE (R590). A firmware SEAL_CREATE operation builds a sealed section body under the device's sealing key. -/
  | sealCreate
  /-- ATTEST (R592). A firmware ATTEST operation writes a report signed with both identity keys. -/
  | attest
  /-- SEAL_COMPLETION (R583). A firmware SEAL operation ends, and its completion is written in ring order and the vector raised. -/
  | sealCompletion
  /-- NEW_CHAL (R596). DBG.CMD.NEW_CHAL draws a fresh debug challenge. -/
  | newChal
  /-- SUBMIT (R597). DBG.CMD.SUBMIT verifies a debug response and grants a level or runs RETURN or SCRAP. -/
  | submit (vpp : Bool) (cut : Option (BitVec 3))
  /-- DROP (R599). DBG.CMD.DROP ends the debug grant. -/
  | drop
  /-- NEXT_READ (R616). A read of SELF.NEXT takes the running thread off the core and places the next thread on it. -/
  | nextRead (core : Fin 9)
  /-- YIELD (R621). The YIELD operation puts the thread at the tail of its level. -/
  | yieldOp (core : Fin 9)
  /-- EXIT (R615). The EXIT operation frees the thread at the core's next NEXT read. -/
  | exitOp (core : Fin 9)
  /-- WAIT_EV (R623). The WAIT_EV operation waits for event flags or times out. -/
  | waitEv (core : Fin 9)
  /-- SLEEP_UNTIL (R624). The SLEEP_UNTIL operation waits until a local count. -/
  | sleepUntil (core : Fin 9)
  /-- POST (R625). The POST operation puts an entry in a message queue or hands it to a waiter. -/
  | post (core : Fin 9)
  /-- RECV (R626). The RECV operation takes the oldest entry of a queue or waits. -/
  | recv (core : Fin 9)
  /-- TAKE_COMPL (R621). The TAKE_COMPL operation returns the oldest completion item. -/
  | takeCompl (core : Fin 9)
  /-- SET_EV (R621). The SET_EV operation ORs flags into a thread's event flags. -/
  | setEv (core : Fin 9)
  /-- CLR_EV (R621). The CLR_EV operation clears flags of a thread. -/
  | clrEv (core : Fin 9)
  /-- START (R615). The START operation makes a FREE or SUSPENDED thread READY. -/
  | start (core : Fin 9)
  /-- SUSPEND (R615). The SUSPEND operation removes a thread from every list. -/
  | suspend (core : Fin 9)
  /-- DELETE (R615). The DELETE operation frees a suspended thread. -/
  | delete (core : Fin 9)
  /-- WAKE_TIME (R624). A wake time on the delay list passes, and the thread times out or wakes. -/
  | wakeTime (thread : Fin 1024)
  /-- SLICE_END (R618). A thread has run SLICE_US and is pre-empted for an equal-priority thread. -/
  | sliceEnd (core : Fin 9)
  /-- VECTOR_RAISE (R627). A vector is raised and routed to the host, to a thread's completion list, or to a flag. -/
  | vectorRaise (vector : Fin 512)
  /-- COMPL_LATCH_DRAIN (R627). A latched completion item enters its thread's list once room appears. -/
  | complLatchDrain (vector : Fin 512)
  /-- SUP_ITEM_POST (R629). A waiting supervision item is posted once its queue has room. -/
  | supItemPost
  /-- COMMIT (R633). A firmware or host COMMIT write commits a record and may close the bank of a PIGEON FIFO. -/
  | commit (fifo : Fin 32) (value : Word)
  /-- HW_RECORD (R633). A hardware record reaches PIGEON and is written whole or refused. -/
  | hwRecord (fifo : Fin 32) (items : List Word)
  /-- POP (R635). The POP operation moves the read position past the record at HEAD. -/
  | pop (fifo : Fin 32)
  /-- MARK (R635). The MARK operation sets the mark at the read position. -/
  | mark (fifo : Fin 32)
  /-- REWIND (R635). The REWIND operation returns the read position to the mark. -/
  | rewind (fifo : Fin 32)
  /-- RELEASE (R635). The RELEASE operation frees every record before the read position. -/
  | release (fifo : Fin 32)
  /-- LEVEL_AGE (R637). A record has been unread for AGE_US, and the FIFO's level is asserted. -/
  | levelAge (fifo : Fin 32)
  /-- FIFO_DISABLE (R646). A CFG write that only clears EN empties and stops a FIFO. -/
  | fifoDisable (fifo : Fin 32)
  /-- FAULT_EVENT (R651). FAULT accepts a presented event, logs it, classifies it and issues its mapped reaction. `shown`: an error
  that shows in the same cycle, before. -/
  | faultEvent (shown : Option UnitError)
  /-- FAULT_RESET (R655). A RESET reaction's 1 µs delay expires and the device warm-resets with cause FAULT. -/
  | faultReset
  /-- CORE_RETIRE_DONE (R660). A retired core's spare is powered and enters SW_ENTRY to take threads. -/
  | coreRetireDone
  /-- SRAM_COPY_DONE (R662). The copier finishes moving a logical SRAM bank to its spare, and reads switch to the spare. -/
  | sramCopyDone (spare : Fin 4)
  /-- SRAM_SCRUB (R663). The SRAM scrubber reads a bank and corrects or poisons words in error. -/
  | sramScrub (bank : Fin 68) (word : BitVec 22) (upset : SramUpset)
  /-- FAULT_RETIRE (R664). A write of FAULT.RETIRE retires a core or an SRAM bank. -/
  | faultRetire (m : Master) (value : Word)
  /-- CLEAR_FIRST (R652). A write of CLEAR.FIRST clears FIRST_VALID and OVERFLOW. -/
  | clearFirst
  /-- ABORT_DONE (R667). An aborted function reaches its quiescent state and raises its completion vector. -/
  | abortDone
  /-- ABORT_FORCED (R668). A function has not quiesced at 90 % of its bound, so its unit is reset locally. -/
  | abortForced
  /-- WATCH_EXIT_DONE (R70). The Watch exit to Run completes within 300 µs: CPLL is locked, every island is powered and clocked, and DISPATCH places waiting threads on all active cores. -/
  | watchExitDone
  /-- RX_LAST0_READ (R351). A read of NGR.RX_LAST0 returns it and latches words 1–3 of the last-frame record. -/
  | rxLast0Read
  /-- PCIE_LINK_UP (R556). The PCIe link finishes training and HOSTP.LINK.UP becomes 1. -/
  | pcieLinkUp (gen width pm : BitVec 3) (ltssm : BitVec 6) (msix : Bool)
  /-- PCIE_LINK_DOWN (R628). The PCIe link goes down, so LINK.UP clears and vectors routed to the host are dropped and counted. -/
  | pcieLinkDown
  /-- HEALTH_OK (R588). A later continuous health test of the random source passes, and RANDOM, SEAL_CREATE, PROVISION and new challenges are accepted again. -/
  | healthOk
  /-- CLK10M_PRESENT (R274). After a loss, an edge returns on CLK10M_IN, PRESENT is set and a new 10,000,000-cycle count starts. -/
  | clk10mPresent
  /-- CODEWORD_DEADLINE (R682). A waiting codeword can no longer reach MIN iterations before its deadline and ends DEC_MISSED, even with no engine free. -/
  | codewordDeadline
  deriving DecidableEq, Repr

end Sys2Proof
end

