-- ==== Sys2Proof/Machine/State.lean ====
section
/-! DEFINITION. The state of the ZLH-9640: every register, counter, memory, queue, mode and pin that the spec gives
the device, as plain data, and the queue of waiting commands. A docstring names the rule, the width and the reset
value; the registers of the register map live in `State.regs` by address. -/

namespace Sys2Proof.Machine

/-- The answer of the last register read or command that answers a value on the bus. -/
structure BusResp where
  /-- R5; 64 bits; reset DESIGN CHOICE 0. Value returned to the reader. -/
  value : DWord := 0
  /-- R4; 1 bit; reset DESIGN CHOICE 0. The access raised a precise bus-error exception at the core. -/
  busError : Bool := false
  deriving DecidableEq, Repr

/-! ### DISPATCH -/

/-- What DISPATCH holds for a core beside CORE_STATUS. -/
structure CoreSt where
  /-- R640; 10 bits or none; reset none. The thread that DISPATCH counts as on the core (SELF.CUR). -/
  cur : Option Nat := none
  /-- R612; 1 bit; reset 0. Switch interrupt raised, NEXT not yet read. -/
  notified : Bool := false
  /-- R640; 32 bits; reset 0. SELF.ARG0 of the core. -/
  arg0 : Word := 0
  /-- R640; 32 bits; reset 0. SELF.ARG1 of the core. -/
  arg1 : Word := 0
  /-- R618; 64 bits; reset DESIGN CHOICE 0. Local count at which the running thread was placed. -/
  since : DWord := 0
  /-- R645; 64 bits; reset DESIGN CHOICE 0. Local count up to which BUSY_CYCLES has counted the running thread. -/
  busyFrom : DWord := 0
  deriving DecidableEq, Repr

/-- What DISPATCH holds for a thread beside its register words. -/
structure ThreadX where
  /-- R640; 64 bits; reset 0. SELF.ITEM of the thread. -/
  item : DWord := 0
  /-- R640; 4 bits; reset 0. SELF.RESULT of the thread. -/
  result : Nat := 0
  /-- R627; up to CMAX items of 64 bits; reset empty. Completion list, oldest first. -/
  compl : List DWord := []
  /-- R623; 1 bit; reset 0. The pending WAIT_EV waits for every flag of its mask. -/
  waitAll : Bool := false
  /-- R623; 1 bit; reset 0. The pending WAIT_EV consumes the flags it is satisfied by. -/
  consume : Bool := false
  /-- R615; 1 bit; reset 0. EXIT given; the thread is FREE at its core's next NEXT read. -/
  exiting : Bool := false
  deriving DecidableEq, Repr

/-- Scheduler state of DISPATCH that no register shows. -/
structure DispSt where
  /-- R611, R640; nine cores; reset none running. -/
  cores : List (Nat × CoreSt) := []
  /-- R615, R640; 1,024 threads. -/
  threads : List (Nat × ThreadX) := []
  /-- R617; up to 1,024 threads; reset empty. READY threads, in the order in which they became READY. -/
  ready : List Nat := []
  /-- R624; up to 1,024 threads; reset empty. Threads whose WAKE time is on the delay list. -/
  delay : List Nat := []
  /-- R625; 256 queues of up to 1,024 64-bit entries; reset empty. -/
  mq : List (Nat × List DWord) := []
  /-- R626; reset empty. (queue, thread) waiting in RECV, longest wait first. -/
  waiters : List (Nat × Nat) := []
  /-- R627; 512 latches of COUNT and first time; reset empty. -/
  latches : List (Nat × Option (Nat × Word)) := []
  /-- R629; reset empty. Supervision items that wait for room, oldest first. -/
  sup : List DWord := []
  deriving DecidableEq, Repr

/-! ### PIGEON -/

/-- A record held by a PIGEON FIFO. -/
structure PigRec where
  /-- R635; 15 bits. First item's position in the FIFO. -/
  index : Nat
  /-- R635; 15 bits. Items of the record. -/
  count : Nat
  /-- R637; 64 bits. Local count at which the record was written. -/
  time : DWord
  deriving DecidableEq, Repr

/-- A PIGEON FIFO beside its registers. -/
structure PigFifo where
  /-- R632; 1 bit; reset 0. Bank the producer owns, or left last: 0 PING, 1 PONG. -/
  bank : Nat := 0
  /-- R632; 1 bit; reset 0. The producer has left that bank and waits for the other. -/
  left : Bool := false
  /-- R633; 15 bits; reset 0. Position of the producer's next item. -/
  wr : Nat := 0
  /-- R631; up to 1,024 records; reset empty. Records held, oldest first. -/
  recs : List PigRec := []
  /-- R635; up to 1,024; reset 0. How many of the records held lie before the read position. -/
  read : Nat := 0
  /-- R635; up to 1,024 or none; reset none. How many of the records held lie before the mark. -/
  mark : Option Nat := none
  /-- R637; 1 bit; reset 0. The level as last reflected. -/
  level : Bool := false
  deriving DecidableEq, Repr

/-! ### FAULT and SYSCTL.ABORT -/

/-- An event presented to FAULT and not yet accepted (R651, R683). -/
structure FaultEv where
  /-- R648; 8 bits. Source number. -/
  src : Nat
  /-- R648; 32 bits. Unit. -/
  unit : Nat
  /-- R657; 1 bit. Marked permanent by its block. -/
  perm : Bool
  /-- R665; 1 bit. Injected. -/
  inj : Bool
  /-- R665; 1 bit. Injected in FULL mode. -/
  full : Bool
  deriving DecidableEq, Repr

/-- FAULT beside its registers. -/
structure FaultSt where
  /-- R651, R683; 16 events for each presenting block; reset empty. Events that wait to be accepted, oldest first. -/
  queue : List FaultEv := []
  /-- R657; the last 15 times of each unit of each U source; reset empty. (source, unit, local count), newest first. -/
  history : List (Nat × Nat × DWord) := []
  /-- R658; reset empty. (source, unit) whose reaction still runs. -/
  running : List (Nat × Nat) := []
  /-- R655; reset none. Source whose RESET reaction waits for its 1 µs. -/
  resetSrc : Option Nat := none
  /-- R655; 64 bits; reset DESIGN CHOICE 0. Local count at which the RESET reaction's event was accepted. -/
  resetAt : DWord := 0
  /-- R649, R677; 1 bit; reset 1. The SRAM_CE threshold is still the reset value 16 of R649, which THRESH cannot hold. -/
  ceDefault : Bool := true
  /-- R660; 9 cores or none; reset none. Retired core whose spare is coming in. -/
  coreMove : Option Nat := none
  /-- R661; 1 bit; reset 0. A retired core has no replacement, and core 8 is held back for want of SW_ENTRY. -/
  spareHeld : Bool := false
  /-- R662; 64 banks; reset each bank on the physical bank of its number. -/
  bankMap : List (Nat × Nat) := []
  /-- R662; reset empty. Logical banks for which SRAM_NO_SPARE was raised. -/
  noSpare : List Nat := []
  /-- R662; reset empty. Physical banks out of service: their logical bank has moved to a spare. -/
  worn : List Nat := []
  /-- R667, R670; reset none. Function whose abort runs: class, sub, index. -/
  abort : Option (Nat × Nat × Nat) := none
  /-- R668; 64 bits; reset DESIGN CHOICE 0. Local count at which that abort began. -/
  abortAt : DWord := 0
  /-- R668; 1 bit; reset 0. The unit that holds the function was reset locally. -/
  abortForced : Bool := false
  /-- R670; up to 16; reset empty. Aborts of FAULT reactions that wait: class, sub, index, injected. -/
  abortQ : List (Nat × Nat × Nat × Bool) := []
  deriving DecidableEq, Repr

/-! ### Always-on domain, PMU, boot -/

/-- Where the device is between states, beside PMU.STATE.CUR (R64). -/
inductive PMode where
  /-- Run, Trim or Watch, as CUR says. -/
  | on
  /-- The Watch entry sequence runs (R67). -/
  | watchEntry
  /-- The Watch exit sequence runs (R70), after a request RUN or a wake event. -/
  | watchExit (byRequest : Bool)
  /-- The Sleep entry sequence runs, PMIC_SLEEP not yet risen (R73). -/
  | sleepEntry
  /-- Sleep: PMIC_SLEEP high (R73). -/
  | sleep
  /-- Sleep exit: PMIC_SLEEP fell, PMIC_PG not yet risen (R76). -/
  | sleepExit
  /-- Held in reset after a thermal trip (R53). -/
  | thermalHold
  /-- Off (R64). -/
  | off
  deriving DecidableEq, Repr

/-- PMU and the always-on domain beside their registers. -/
structure PowerSt where
  /-- R64; reset on. Transition in progress, Sleep or Off. -/
  mode : PMode := .on
  /-- R53; °C; reset DESIGN CHOICE 25. Hottest sensor reading last taken. -/
  temp : Int := 25
  /-- R53; 1 bit; reset 1. THERMAL_WARN may be raised. -/
  warnArmed : Bool := true
  /-- R34, R35; 6 bits; reset 0x28. VDD_CORE last asked of the PMIC, in the coding of TARGET_CORE. -/
  voltCore : Nat := 0x28
  /-- R34, R35; 6 bits; reset 0x28. VDD_CPU last asked of the PMIC. -/
  voltCpu : Nat := 0x28
  /-- R36; reset none. AVS write in progress: rail (0 VDD_CORE, 1 VDD_CPU) and value. -/
  avsWrite : Option (Nat × Nat) := none
  /-- R36; 0 to 3; reset 0. Retries made of the write in progress. -/
  avsTries : Nat := 0
  /-- R36; 1 bit; reset 0. The write in progress waits its 1 ms for a retry. -/
  avsWait : Bool := false
  /-- R35, R80; local count or none; reset none. When the 100 µs wait after VDD_CORE's last step of a rise began. -/
  settleCore : Option DWord := none
  /-- R35, R80; local count or none; reset none. The same wait of VDD_CPU. -/
  settleCpu : Option DWord := none
  /-- R36, R80; 1 bit; reset 0. VDD_CORE is below its target: frequencies on the rail stay safe for the old voltage. -/
  holdCore : Bool := false
  /-- R36, R80; 1 bit; reset 0. The same of VDD_CPU. -/
  holdCpu : Bool := false
  /-- R57, R67, R80; MHz; reset 1,800 (R103). Clock frequency of the cores: 1,800, or 250 in Watch. -/
  coreMhz : Nat := 1800
  /-- R79; 1 bit; reset 0. A state transition since the last AVS computation asks for another. -/
  avsDue : Bool := false
  /-- R79; °C; reset DESIGN CHOICE 25. Hottest reading at the last AVS computation. -/
  avsTemp : Int := 25
  /-- R79; 64 bits; reset 0. Local count at the last AVS computation. -/
  avsTime : DWord := 0
  /-- R82; reset none. Wake event latched during Sleep entry (R75): source and pattern. -/
  latched : Option (Nat × Nat) := none
  /-- R57; 64 bits; reset 0. AO periods that ended while the TIME clock stood still, and before its last start. -/
  ao : Nat := 0
  /-- R92; 64 bits; reset 0. Count of AO periods at entry to Watch or Sleep. -/
  entryAo : Nat := 0
  /-- R82; 64 bits; reset 0. Count of AO periods at which FIRST_SRC was latched. -/
  firstAo : Nat := 0
  /-- R68; local count or none; reset none. End of the listening window after the last beacon of Watch. -/
  listenUntil : Option DWord := none
  /-- R68, R69; reset empty. Frames kept for WMAC (true) or NGL (false) until Run is reached. -/
  keptFrames : List (Bool × List Byte) := []
  /-- R60; 16 branches; reset 0. Local count at which each branch last had work, or its clock started. -/
  busyAt : List (Nat × Nat) := []
  deriving DecidableEq, Repr

/-- Levels that the device drives on its service pins (R29, R39, R42, R50, R142). -/
structure PinSt where
  /-- R29, R39; reset low. RST_OUT_N: low in every reset and for 100 µs after it. -/
  rstOutN : Bool := false
  /-- R29, R42; reset low. PMIC_SLEEP. -/
  pmicSleep : Bool := false
  /-- R29; reset high. NVM_CS_N: low while an operation runs on the flash. -/
  nvmCsN : Bool := true
  /-- R29; reset low. NVM_RESET_N: high once the boot ROM runs. -/
  nvmResetN : Bool := false
  /-- R29, R50; reset low. PPS_OUT: high for 100 ms from a second of the selected domain. -/
  ppsOut : Bool := false
  /-- R29; reset high. UART_TXD. -/
  uartTxd : Bool := true
  /-- R29; reset low. RFFE_SCLK, and RFFE_SDATA with it. -/
  rffe : Bool := false
  deriving DecidableEq, Repr

/-- Fuses (spec/03 R121 to R123, spec/16 R589, R593, R594). -/
structure Fuses where
  /-- R121; 64 fuse bits; reset DESIGN CHOICE 0. Blown bits of counter 0. -/
  rb0 : Nat := 0
  /-- R123; 64 fuse bits; reset DESIGN CHOICE 0. Blown bits of counter 1. -/
  rb1 : Nat := 0
  /-- R123; 64 fuse bits; reset DESIGN CHOICE 0. Blown bits of counter 2. -/
  rb2 : Nat := 0
  /-- R123; 64 fuse bits; reset DESIGN CHOICE 0. Blown bits of counter 3. -/
  rb3 : Nat := 0
  /-- R593; four fuse bits; reset DESIGN CHOICE 0. Life-cycle bits blown, 0 to 4. -/
  lcBits : Nat := 0
  /-- R589; fuse bits; reset DESIGN CHOICE none. IDSEED, once blown. -/
  idSeed : Option (BitVec 256) := none
  /-- R594; fuse bit; reset DESIGN CHOICE 0. IDSEED has been destroyed. -/
  idKilled : Bool := false
  /-- R112, R594; 384 fuse bits; reset DESIGN CHOICE 0. Owner key hash. -/
  ownerHash : BitVec 384 := 0
  /-- R556; 16 fuse bits; reset DESIGN CHOICE 0. PCIe vendor ID. -/
  vendorId : BitVec 16 := 0
  /-- R595; 1 bit; reset 0. OWNER_HASH has been written, if only in part. -/
  hashBlown : Bool := false
  deriving DecidableEq, Repr

/-- Progress of the boot ROM (spec/03 R103 to R120). -/
inductive BootPhase where
  /-- The ROM has not run since the reset. -/
  | waiting
  /-- Records are being applied. -/
  | records
  /-- Firmware has been entered. -/
  | firmware
  /-- Halted with STAGE 0xFF (R106). -/
  | halted
  deriving DecidableEq, Repr

/-- STATUS of a management reply (R129, R130): 0, or a result that the spec names without its number. -/
inductive ReplyStatus where
  /-- 0. -/
  | ok
  /-- BAD_LENGTH. -/
  | badLength
  /-- NVM_PROTECTED. -/
  | nvmProtected
  /-- The message asks for what cannot be done: no slot is open, or the data leave the slot. -/
  | refused
  /-- IMAGE_COMMIT: a check failed with this code of BOOT_STATUS.CODE. -/
  | imageBad (code : Nat)
  deriving DecidableEq, Repr

/-- A management message to the host (R129). -/
structure Reply where
  /-- 16 bits. TYPE, of the request in a reply. -/
  type : Nat
  /-- 1 bit. FLAGS.REPLY; the other bits of FLAGS are 0. -/
  reply : Bool := true
  /-- 32 bits. SEQ, of the request in a reply. -/
  seq : Nat
  /-- Body after the header, whose LENGTH is its length. -/
  body : List Byte := []
  /-- STATUS. -/
  status : ReplyStatus
  /-- IMAGE_OPEN: the slot opened. -/
  slot : Option Nat := none
  deriving DecidableEq, Repr

/-- The boot ROM beside SYSCTL's registers. -/
structure BootSt where
  /-- R103; reset waiting. Progress. -/
  phase : BootPhase := .waiting
  /-- R115; 0 to 256; reset 0. Next record. -/
  recIdx : Nat := 0
  /-- R120; 1 bit; reset 0. Records are replayed on the resume path. -/
  resume : Bool := false
  /-- R119; 1 bit; reset 0. Later SEALED records are skipped. -/
  unbound : Bool := false
  /-- R116; 1 bit; reset 0. The PCIe link started to train. -/
  hostpTrained : Bool := false
  /-- R39, R116; 64 bits; reset 0. Local count at which RST_OUT_N was released. -/
  released : DWord := 0
  /-- R107; ms or none; reset none. Boot watchdog left to run, in ms from firmware entry. -/
  wdogMs : Option Nat := none
  /-- R107; 64 bits; reset 0. Local count at firmware entry. -/
  entryTime : DWord := 0
  /-- R122; 1 bit; reset 0. ADVANCE of the booted image. -/
  advance : Bool := false
  /-- R109; 9 bits; reset 0. REC_COUNT of the image that boots. -/
  recCount : Nat := 0
  /-- R114, R120; 36 bits; reset 0. Address at which firmware was entered. -/
  entryAddr : Nat := 0
  /-- R129; slot or none; reset none. Slot opened by IMAGE_OPEN. -/
  openSlot : Option Nat := none
  /-- R130; 1 bit; reset 0. A RESET message waits for a page program to finish. -/
  resetAsked : Bool := false
  /-- R130; reset empty. Slots that an abandoned erase touched; their checks fail. Kept across resets. -/
  spoiled : List Nat := []
  /-- R129; reset empty. Management messages sent to the host, oldest first. -/
  replies : List Reply := []
  deriving DecidableEq, Repr

/-- An NVMC operation that runs (R141, R142). -/
structure NvmOp where
  /-- R141; 4 bits. Operation code. -/
  code : Nat
  /-- R141; 28 bits. Flash address. -/
  addr : Nat
  /-- R141; 36 bits. Memory address. -/
  mem : Nat
  /-- R141; 25 bits. Bytes or sectors. -/
  len : Nat
  /-- R141, R142; 4 bits. Result the operation ends with unless it times out. -/
  result : Nat
  /-- R142; 64 bits. Local count at which the operation started. -/
  start : DWord := 0
  deriving DecidableEq, Repr

/-! ### KEYS, SEAL, life cycle and debug -/

/-- One key slot (R568). -/
structure KeySlot where
  /-- R568; 128 or 256 bits; reset 0. KEY. -/
  key : BitVec 256 := 0
  /-- R568; 2 bits; reset 0. KTYPE. -/
  ktype : Nat := 0
  /-- R568; 2 bits; reset 0. PNW. -/
  pnw : Nat := 0
  /-- R568; 6 bits; reset 0. USE. -/
  use : Nat := 0
  /-- R605; 2 bits; reset 0 EMPTY. STATE. -/
  state : Nat := 0
  /-- R568; 8 bits; reset DESIGN CHOICE 0. GEN, less the KEYS-wide count of erasures of every slot. -/
  gen : Nat := 0
  /-- R568; up to 64 bits; reset 0. TX_PN. -/
  txPn : Nat := 0
  /-- R568; eight counters of up to 64 bits; reset 0. RX_PN by TID; a missing entry is 0. -/
  rxPn : List Nat := []
  /-- R568; 8 bits; reset 0. INFLIGHT. -/
  inflight : Nat := 0
  /-- R576; 1 bit; reset 0. KEY_PN_LOW was raised for the key. -/
  lowRaised : Bool := false
  deriving DecidableEq, Repr

/-- A pending change of a slot (R572). -/
structure KeyChange where
  /-- R571; 13 bits. Slot. -/
  slot : Nat
  /-- R571; 1 bit. ERASE. -/
  erase : Bool
  /-- R571; 256 bits. New KEY. -/
  key : BitVec 256
  /-- R571; 2 bits. New KTYPE. -/
  ktype : Nat
  /-- R571; 2 bits. New PNW. -/
  pnw : Nat
  /-- R571; 6 bits. New USE. -/
  use : Nat
  /-- R571; 64 bits. New TX_PN. -/
  pn : Nat
  deriving DecidableEq, Repr

/-- KEYS beside its registers. -/
structure KeysSt where
  /-- R568; 8,192 slots; reset EMPTY. -/
  slots : List (Nat × KeySlot) := []
  /-- R571, R572; reset 0. How often every slot was erased at once: each such landing adds 1 to every GEN. -/
  genBase : Nat := 0
  /-- R572; reset none. The change that is pending. -/
  change : Option KeyChange := none
  /-- R572; 1 bit; reset 0. ZEROISE is pending. -/
  zeroise : Bool := false
  /-- R598; 1 bit; reset 0. A D3 grant waits for ZEROISE to land. -/
  d3Waits : Bool := false
  /-- R589; 1 bit; reset 0 (the fuses hold no identity). The device slots hold the identity keys. -/
  idLoaded : Bool := false
  /-- R586; reset none. Wrapped backing in the KEY_BANK bank: slots saved at Sleep entry. -/
  backing : Option (List (Nat × KeySlot)) := none
  /-- R597; 2 bits; reset 0. Highest debug level granted since the last cold reset. -/
  dbgSeen : Nat := 0
  /-- R597; 8 bits; reset 0. Failed SUBMITs since the last cold reset. -/
  fails : Nat := 0
  /-- R592; 1 bit; reset 0. ZEROISE has landed since the last cold reset. -/
  zeroised : Bool := false
  /-- R592; 1 bit; reset 0. A retention check has failed since the last cold reset. -/
  retFailed : Bool := false
  /-- R588; reset 0. Values drawn from the random generator. -/
  drawn : Nat := 0
  /-- R586; reset 0. The wrapping key: the number of the draw that gave it, at the last cold reset. -/
  wrap : Nat := 0
  /-- R597; reset none. Local count of the current challenge, while not yet submitted. -/
  chalTime : Option DWord := none
  deriving DecidableEq, Repr

/-- A firmware operation on pipeline P4 (R581). -/
structure SealOp where
  /-- R584; 4 bits. OP. -/
  op : Nat
  /-- R583; 8 bits. Status the operation completes with. -/
  status : Nat
  /-- R581; 13 bits or none. Slot whose key it has loaded. -/
  slot : Option Nat
  /-- R583; 13 bits. SLOT of the descriptor. -/
  slotNo : Nat
  /-- R583; 8 bits. GEN used. -/
  gen : Nat
  /-- R583; 64 bits. PN used. -/
  pn : Nat
  /-- R581; 35 bits. DST. -/
  dst : Nat
  /-- R580, R585. Bytes of the DST range. -/
  dstLen : Nat
  /-- R584. Bytes written to DST at completion. -/
  out : List Byte
  /-- R583; 16 bytes. Tag of the completion. -/
  tag : List Byte
  /-- R581; 32 bits. COOKIE. -/
  cookie : Nat
  /-- R584; DERIVE: the change that the operation asks for when it completes. -/
  derive : Option KeyChange := none
  deriving DecidableEq, Repr

/-- SEAL's firmware ring beside its registers. -/
structure SealSt where
  /-- R581; reset none. Operation in progress on P4. -/
  cur : Option SealOp := none
  /-- R572; 1 bit; reset 0. The next operation has asked for a PENDING slot and stalls. -/
  stalled : Bool := false
  deriving DecidableEq, Repr

/-! ### POSTMARK -/

/-- A step of a domain that takes effect at the next tick (R267). -/
inductive TimeStep where
  /-- CMD.SET: seconds and nanoseconds to load. -/
  | set (sec ns : Nat)
  /-- ADJ: nanoseconds to add. -/
  | adj (ns : Int)
  deriving DecidableEq, Repr

/-- One time domain (R259). -/
structure TimeDomain where
  /-- R259; 48 bits; reset 0 (R257). SEC. -/
  sec : BitVec 48 := 0
  /-- R259; 30 bits; reset 0 (R257). NS, 0 to 999,999,999. -/
  ns : Nat := 0
  /-- R259; 32 bits; reset DESIGN CHOICE 0. FRAC, in 2^-32 ns. -/
  frac : Word := 0
  /-- R259, R260; 36 bits; reset 0x2_0000_0000 (R284). Increment: 4 integer bits, 32 fraction bits. -/
  inc : BitVec 36 := 0x200000000
  /-- R267; reset empty. Steps that take effect at the next tick, oldest first. -/
  steps : List TimeStep := []
  /-- R263; 64 bits; reset 0. Local count at which the watchdog last started from zero. -/
  watchdog : DWord := 0
  deriving DecidableEq, Repr

/-- POSTMARK beside its registers. -/
structure TimeSt where
  /-- R258; 64 bits; reset 0 (R257). Local count. -/
  tick : DWord := 0
  /-- R259; reset 0 s 0 ns (R257). Domain A. -/
  domA : TimeDomain := {}
  /-- R259; reset 0 s 0 ns (R257). Domain B. -/
  domB : TimeDomain := {}
  /-- R266; local count or none; reset none. Last rising edge of PPS_OUT. -/
  pps : Option DWord := none
  /-- R269, R271; reset empty. Triggers that a write, a step or a translation has made due, with the tick at which each fires. -/
  forced : List (Nat × DWord) := []
  /-- R263, R273; eight records of seven words; reset 0. Capture records: A NS, A SEC, B NS, B SEC, local low, local high; VALID of A
  in bit 31 and of B in bit 30. -/
  caps : List (Nat × List Word) := []
  /-- R274; 64 bits; reset 0. Local count at which the count of CLK10M_IN cycles in progress began. -/
  clk10m : DWord := 0
  deriving DecidableEq, Repr

/-! ### The packet path: SORT, TABLES, TM, REGSVC -/

/-- What a host transmit descriptor asks of each copy that leaves through an EMAC (R531, R532, R548). -/
structure TxOpts where
  /-- R548; 16 bits or none. TS_ID, where TS = 1. -/
  ts : Option Nat := none
  /-- R532; domain and PTP_OFF, where ONE_STEP = 1. -/
  oneStep : Option (Nat × Nat) := none
  /-- R531; 64 bits or none. Number of the host frame whose completion waits for the copies. -/
  job : Option Nat := none
  deriving DecidableEq, Repr

/-- A frame in the packet path, FCS excluded. -/
structure Pkt where
  /-- R398. Bytes of the frame, as rewritten so far. -/
  bytes : List Byte
  /-- R398; 0 to 5. Source of the frame's first pass. -/
  src : Nat
  /-- R431; 20 bits. Source egress. -/
  srcEg : Nat
  /-- R490; 64 bits. t_in: receive timestamp, hand-over of the descriptor, or start of the occurrence. -/
  time : DWord
  /-- R275, R551; domain words of the receive timestamp; empty for frames that are not from an EMAC. -/
  stamp : List Word := []
  /-- R408; 6 bits. BSS of the metadata. -/
  bss : Nat := 0
  /-- R400; 1 bit. The source asks for the registered lane. -/
  wantReg : Bool := false
  /-- R400; 1 bit. Entered by the registered lane. -/
  regIn : Bool := false
  /-- R548. Host transmit options. -/
  tx : TxOpts := {}
  /-- R414; 1 bit. Second pass. -/
  pass2 : Bool := false
  /-- R415; 1 bit. Epoch: the bank of its passes. -/
  bank : Nat := 0
  /-- R406. (offset, length) of each header walked in the last pass. -/
  hdrs : List (Nat × Nat) := []
  /-- R408; 320 bits. Key of the last pass. -/
  key : BitVec 320 := 0
  /-- R410; 64 bits. Action of the last pass, as R412 changed it. -/
  act : DWord := 0
  /-- R431; 20 bits or none. Egress that TABLES named. -/
  egress : Option Nat := none
  /-- R439; 20 bits or none. Egress that a flood also skips. -/
  skip : Option Nat := none
  /-- R503; flow and FNUM of a booked registered frame. -/
  reg : Option (Nat × Nat) := none
  /-- R514; 12 bits. Sequence number of the MPDU that brought an A2W frame. -/
  sn : Nat := 0
  /-- R249. The four words of WMAC's metadata record; empty for frames of other sources. -/
  md : List Word := []
  deriving DecidableEq, Repr

/-- An entry of the associative memory (R409). -/
structure CamEntry where
  /-- R425; 320 bits; reset 0. VALUE. -/
  value : BitVec 320 := 0
  /-- R425; 320 bits; reset 0. MASK. -/
  mask : BitVec 320 := 0
  /-- R410; 64 bits; reset 0. Action. -/
  act : DWord := 0
  /-- R409; 2 bits; reset 0. BANKS. -/
  banks : Nat := 0
  deriving DecidableEq, Repr

/-- SORT beside its registers. -/
structure SortSt where
  /-- R398, R402; reset empty. Frames ready at their sources, oldest first; the sources hold them. -/
  arrivals : List Pkt := []
  /-- R400; up to 32; reset empty. Registered lane. -/
  regLane : List Pkt := []
  /-- R400; up to 64; reset empty. Recirculation lane. -/
  recLane : List Pkt := []
  /-- R400; reset empty. Normal lane. -/
  normLane : List Pkt := []
  /-- R400; 0 to 5; reset DESIGN CHOICE 5. Source that the round robin of the normal lane served last. -/
  rr : Nat := 5
  /-- R399; reset empty. Packets in the pipeline, oldest first. -/
  pipe : List Pkt := []
  /-- R409; 8,192 entries; reset free (R417). Associative memory. -/
  cam : List (Nat × CamEntry) := []
  /-- R419; entry and spare row, 0 to 255; reset empty. Entries that have moved to a spare row. -/
  moved : List (Nat × Nat) := []
  /-- R418; reset empty. (bank, node) with a double-bit error, until the node is written. -/
  badNodes : List (Nat × Nat) := []
  deriving DecidableEq, Repr

/-- An L2 slot that is valid (R432 to R442, R457). -/
structure L2Slot where
  /-- R457; 12 bits. BD. -/
  bd : Nat
  /-- R457; 48 bits. MAC address, byte n in bits [8n + 7:8n]. -/
  mac : BitVec 48
  /-- R457; 1 bit. STATIC. -/
  static : Bool
  /-- R457; 1 bit. DISCARD. -/
  discard : Bool
  /-- R435; 1 bit. HIT. -/
  hit : Bool
  /-- R434; 2 bits. VERSION. -/
  version : Nat
  /-- R441; 2 bits. MISS. -/
  miss : Nat
  /-- R441; 1 bit. PASS. -/
  pass : Bool
  /-- R431; 20 bits. EGRESS. -/
  egress : Nat
  deriving DecidableEq, Repr

/-- A learn request (R436). -/
structure LearnReq where
  /-- R436; 12 bits. BD. -/
  bd : Nat
  /-- R436; 48 bits. MAC. -/
  mac : BitVec 48
  /-- R436; 20 bits. Source egress. -/
  egress : Nat
  /-- R439. Packet whose buffer is held, with the egress its DA result named. -/
  pkt : Pkt
  deriving DecidableEq, Repr

/-- A stored prefix (R444). -/
structure Route where
  /-- R457; 4 bits. VRF. -/
  vrf : Nat
  /-- R457; 8 bits. LEN. -/
  len : Nat
  /-- R457; 32 or 128 bits. Address, first byte most significant. -/
  addr : Nat
  /-- R457; 14 bits. Next hop. -/
  nh : Nat
  deriving DecidableEq, Repr

/-- A session (R447 to R450, R457). -/
structure Session where
  /-- R457; words 0 to 18 of the staging record. -/
  words : List Word
  /-- R448; 1 bit. HIT. -/
  hit : Bool := false
  /-- R449; 1 bit. CLOSING. -/
  closing : Bool := false
  /-- R449; 8 bits. MISS. -/
  miss : Nat := 0
  /-- R441; 1 bit. PASS. -/
  pass : Bool := false
  /-- R448; 64 bits. Packets. -/
  packets : DWord := 0
  /-- R448; 64 bits. Octets. -/
  octets : DWord := 0
  deriving DecidableEq, Repr

/-- TABLES beside its registers. -/
structure TablesSt where
  /-- R461; reset empty. Packets handed on by SORT, oldest first. -/
  inbox : List Pkt := []
  /-- R432; 131,072 slots by way × 32,768 + slot; reset empty. -/
  l2 : List (Nat × Option L2Slot) := []
  /-- R436; up to 1,024; reset empty. Learn queue. -/
  learnQ : List LearnReq := []
  /-- R439; 64 bits or none; reset none. Local count of the last `TABLE_FULL` event. -/
  fullTime : Option DWord := none
  /-- R440; 17 bits; reset 0. Next slot the L2 sweeper visits. -/
  l2Pos : Nat := 0
  /-- R440; 1 bit; reset DESIGN CHOICE 0. Pass parity of the L2 sweeper. -/
  l2Parity : Bool := false
  /-- R440; local count or none, before the first visit; reset none. Start of the L2 sweeper's pass. -/
  l2Start : Option Nat := none
  /-- R440; ms; reset 0. Length of that pass. -/
  l2Ms : Nat := 0
  /-- R449; local count or none, before the first visit; reset none. Start of the session sweeper's pass. -/
  sessStart : Option Nat := none
  /-- R449; ms; reset 0. Length of that pass. -/
  sessMs : Nat := 0
  /-- R449; 16 bits; reset 0. Next record the session sweeper visits. -/
  sessPos : Nat := 0
  /-- R449; 1 bit; reset DESIGN CHOICE 0. Pass parity of the session sweeper. -/
  sessParity : Bool := false
  /-- R444; up to 65,536; reset empty. IPv4 prefixes. -/
  v4 : List Route := []
  /-- R444; up to 16,384; reset empty. IPv6 prefixes. -/
  v6 : List Route := []
  /-- R447; 65,536 records; reset empty. Sessions. -/
  sess : List (Nat × Option Session) := []
  /-- R447; 131,072 key slots by way × 32,768 + slot: session index × 2, plus 1 for the reply key; reset empty. -/
  keySlots : List (Nat × Option Nat) := []
  /-- R450; reset empty. End records that wait for room: session index and words, oldest first. -/
  ends : List (Nat × List Word) := []
  /-- R457; 16,384 next hops of four words; reset DESIGN CHOICE 0. -/
  nhs : List (Nat × List Word) := []
  /-- R457; 4,096 bridge domains of one word; reset DESIGN CHOICE 0. -/
  bds : List (Nat × List Word) := []
  /-- R457; 256 router interfaces of three words; reset DESIGN CHOICE 0. -/
  rifs : List (Nat × List Word) := []
  /-- R457; 64 profiles of two words; reset DESIGN CHOICE 0. -/
  profs : List (Nat × List Word) := []
  /-- R452; reset empty. Mismatches found once: region, key of the entry, local count. -/
  suspects : List (Nat × Nat × DWord) := []
  /-- R452; local count or none; reset none. Start of the last audit pass. -/
  auditAt : Option Nat := none
  /-- R452; 64 bits or none; reset none. Local count of the last `TABLE_AUDIT` event. -/
  auditTime : Option DWord := none
  deriving DecidableEq, Repr

/-- Where a buffer lies (R467). -/
inductive Place where
  | reserve | pool | dram
  deriving DecidableEq, Repr

/-- A frame in a TM queue, or handed to an egress. -/
structure TmFrame where
  /-- R461. The frame. -/
  pkt : Pkt
  /-- R463; 20 bits. Egress of this copy. -/
  egress : Nat
  /-- R467. Buffer of the copy: copies of one packet share it. -/
  buf : Nat
  /-- R477; 64 bits. Local count of its admission. -/
  enq : DWord
  /-- R474, R490; local count or none. Deadline of a registered frame. -/
  deadline : Option Nat
  /-- R463; 3 bits. TID of the queue. -/
  tid : Nat
  /-- R275; 7 words, none before an EMAC has begun the frame. Its transmit timestamp: words 1 to 7 of an entry of R276. -/
  start : List Word := []
  /-- R534, R541; 32 bits. SECY_CFG under which an EMAC has begun the frame. -/
  secy : Word := 0
  deriving DecidableEq, Repr

/-- A buffer (R466, R467). -/
structure Buffer where
  /-- Number of the buffer. -/
  id : Nat
  /-- R467. Bytes charged. -/
  len : Nat
  /-- R467. Where it lies. -/
  place : Place
  deriving DecidableEq, Repr

/-- TM beside its registers. A queue, egress map entry or flood group takes effect as committed; its registers hold
what was last written. -/
structure TmSt where
  /-- R461; reset empty. Packets handed on by SORT, TABLES or REGSVC, oldest first. -/
  inbox : List Pkt := []
  /-- R464; 8,192 queues of four words; reset 0. Committed queue entries. -/
  queues : List (Nat × List Word) := []
  /-- R465; 2,048 entries of two words; reset 0. Committed egress map. -/
  egmap : List (Nat × List Word) := []
  /-- R483; 1,024 groups of three words; reset 0. Committed flood groups. -/
  floods : List (Nat × List Word) := []
  /-- R473; 8,192 shapers of three words; reset 0. Shapers in effect. -/
  shapers : List (Nat × List Word) := []
  /-- R473; reset empty. Shaper commits that wait for the next refill. -/
  shStage : List (Nat × List Word) := []
  /-- R471; reset 0. Refills of the grid that have been applied. -/
  refills : Nat := 0
  /-- R471; 2^-16 byte; reset 0. Shaper tokens. -/
  shTok : List (Nat × Int) := []
  /-- R473; 4,096 policers of four words; reset 0. Policers in effect. -/
  pols : List (Nat × List Word) := []
  /-- R473; reset empty. Policer commits that wait for the next refill. -/
  polStage : List (Nat × List Word) := []
  /-- R471; 2^-16 byte; reset 0. TC. -/
  tc : List (Nat × Nat) := []
  /-- R471; 2^-16 byte; reset 0. TP. -/
  tp : List (Nat × Nat) := []
  /-- R467; reset empty. Frames of each queue, oldest first. -/
  frames : List (Nat × List TmFrame) := []
  /-- R466, R467; reset empty. Buffers in use. -/
  bufs : List Buffer := []
  /-- Model's own; reset 0. Number of the next buffer. -/
  nextBuf : Nat := 0
  /-- R474; bytes; reset 0. DEFICIT of each queue. -/
  deficit : List (Nat × Nat) := []
  /-- R474; reset none. Queue whose DWRR turn runs, by map index × 8 + PRIO. -/
  turn : List (Nat × Option Nat) := []
  /-- R474; reset empty. Frames handed to an egress and not yet finished by it: map index and frame, oldest first. -/
  handed : List (Nat × TmFrame) := []
  /-- R478; 10 ns units; reset 0. The sampler's own delay marks. -/
  marks : List (Nat × Nat) := []
  /-- R478; local count or none, with EN clear; reset none. When the next walk begins. -/
  sampleNext : Option Nat := none
  /-- R478; local count; reset 0. End of the walk that began last. -/
  sampleEnd : Nat := 0
  /-- R478; 8 bits; reset 0. Sample records dropped since the last record. -/
  sampleDropped : Nat := 0
  /-- R453, R462; reset empty. Frames handed to firmware, oldest first. -/
  fwRx : List TmFrame := []
  deriving DecidableEq, Repr

/-- One air link of a booked frame (R503, R504). -/
structure AirTry where
  /-- R503; 0 or 1. Link A or B of the flow. -/
  link : Nat
  /-- R503. Start of the booked occurrence, local count. -/
  start : Nat
  /-- R504; 4 bits. Attempts used. -/
  attempts : Nat := 0
  /-- R504; 1 bit. An attempt went on air. -/
  onAir : Bool := false
  /-- R507; 1 bit. The link has ended the frame. -/
  ended : Bool := false
  deriving DecidableEq, Repr

/-- A frame record (R503). -/
structure FrameRec where
  /-- R503; 9 bits. Flow. -/
  flow : Nat
  /-- R503; 16 bits. FNUM. -/
  fnum : Nat
  /-- R514; 16 bits. ID. -/
  id : Nat
  /-- R490. Deadline, local count. -/
  deadline : Nat
  /-- R503. Air links of a W2A frame. -/
  tries : List AirTry
  /-- R510; wire copies of an A2W frame not yet ended. -/
  copies : Nat
  deriving DecidableEq, Repr

/-- A flow beside its status words. -/
structure FlowSt where
  /-- R519; words 0 to 15 of its descriptor. -/
  words : List Word := []
  /-- R509, R510; 16 bits; reset 0. Next sequence number to send, or highest received. -/
  seq : Nat := 0
  /-- R509; reset none. Recovery state: sequence numbers passed, newest first; none after a reset. -/
  frer : Option (List Nat) := none
  /-- R509; 64 bits; reset 0. Local count at which a copy last passed. -/
  frerTime : DWord := 0
  /-- R515, R520; 1 bit; reset 0. LOST_FIRST holds a mark since the last READ. -/
  lostMarked : Bool := false
  /-- R512; reset empty. Links still in use. -/
  links : List Nat := []
  /-- R505; 12 bits or none; reset none. Highest sequence number received in the occurrence. -/
  occHigh : Option Nat := none
  /-- R505; 1 bit; reset 0. A Registered codeword of the flow ended `DEC_MISSED` in the occurrence. -/
  decMissed : Bool := false
  /-- R505; 8 bits; reset 0. Queue size that the station last reported in the occurrence. -/
  residue : Nat := 0
  deriving DecidableEq, Repr

/-- REGSVC beside its registers. -/
structure RegSt where
  /-- R503; reset empty. Registered frames handed on by SORT, oldest first. -/
  inbox : List Pkt := []
  /-- R489; 512 flows. -/
  flows : List (Nat × FlowSt) := []
  /-- R503; up to 4,096; reset empty. Frame records in use. -/
  recs : List FrameRec := []
  /-- R515; up to 1,024 records of four words; reset empty. Outcome queue, oldest first. -/
  outq : List (List Word) := []
  deriving DecidableEq, Repr

/-! ### Wired ports and DRAM -/

/-- An EMAC beside its registers. -/
structure EmacSt where
  /-- R528; local count for each of 8 priorities; reset 0. Until when received PAUSE or PFC stops transmission. -/
  pausedTo : List Nat := []
  /-- R528; 8 bits; reset 0. Priorities that the port has stopped at its partner; 0 after XON. -/
  xoff : BitVec 8 := 0
  /-- R536; 64 bits; reset 0. Local count at which the port last began to bring its link up with a preset. -/
  tried : DWord := 0
  /-- R534; 64 bits or none; reset none. Local count of the last write of SECY_CFG. -/
  secyAt : Option DWord := none
  /-- R534; 32 bits; reset 0. SECY_CFG before the writes of that tick. -/
  secyOld : Word := 0
  deriving DecidableEq, Repr

/-- A host transmit frame that has been fetched (R548 to R550). -/
structure TxJob where
  /-- Number of the job. -/
  id : Nat
  /-- R557; 8 bits. Transmit ring. -/
  ring : Nat
  /-- R548; 32 bits. COOKIE. -/
  cookie : Word
  /-- R548; 16 bits or none. TS_ID, where TS = 1. -/
  ts : Option Nat
  /-- R550; 8 bits. STATUS, unless no copy reaches an EMAC. -/
  status : Nat
  /-- R549; 16 bits. Segments handed to SORT. -/
  segments : Nat
  /-- R548, R550; 16 bits. TS_ID of the SOP descriptor. -/
  tsId : Nat := 0
  /-- R531; 1 bit. A copy reached an EMAC. -/
  sent : Bool := false
  /-- R531; 1 bit. A copy lacked a timestamp entry. -/
  tsDropped : Bool := false
  deriving DecidableEq, Repr

/-- A frame for a host receive ring that does not come through TM (R527). -/
structure BadFrame where
  /-- R539; 8 bits. Ring. -/
  ring : Nat
  /-- R398; 0 to 3. Port. -/
  src : Nat
  /-- R527. Bytes, without the FCS. -/
  bytes : List Byte
  /-- R551; 6 bits. ERR. -/
  err : Nat
  /-- R551; domain words of the receive timestamp. -/
  stamp : List Word
  deriving DecidableEq, Repr

/-- HOSTP beside its registers. -/
structure HostSt where
  /-- R628; 1 bit; reset 0. The host has enabled MSI-X. -/
  msixEnable : Bool := false
  /-- R628; reset empty. Vectors sent to the host, oldest first. -/
  msiSent : List Nat := []
  /-- R550; reset empty. Fetched transmit frames whose completion is not written, oldest first. -/
  jobs : List TxJob := []
  /-- Model's own; reset 0. Number of the next job. -/
  nextJob : Nat := 0
  /-- R527; reset empty. Bad frames that wait for their ring, oldest first. -/
  bad : List BadFrame := []
  /-- R553; for each ring (256 + r for receive rings) the completions that wait and the local count of the first; reset
  none. -/
  coal : List (Nat × Nat × DWord) := []
  /-- R555; 8 bits; reset 0. Transmit ring that is next in the round robin. -/
  txNext : Nat := 0
  /-- R556; 64 bits; reset 0. Local count at which the root-complex access began. -/
  rcSince : DWord := 0
  deriving DecidableEq, Repr

/-- DRAMC beside its registers. -/
structure DramSt where
  /-- R562; 1 bit; reset 0. Training values are stored; kept across a warm reset. -/
  stored : Bool := false
  /-- R559; 8 bits; reset 0. DRIVE of the DRAM record. -/
  drive : Nat := 0
  /-- R559; 1 bit; reset 0. DBI of the DRAM record. -/
  dbi : Bool := false
  /-- R563; reset empty. (rank, bank, row) and the distinct scrub passes with a corrected error in it. -/
  ceRows : List ((Nat × Nat × Nat) × Nat) := []
  /-- R562; local count for each rank; reset 0. Its last access. -/
  used : List (Nat × DWord) := []
  /-- R563; 64 bits; reset 0. Local count at which the last scrub pass ended. -/
  scrubbed : DWord := 0
  deriving DecidableEq, Repr

/-! ### Radios, basebands, decoder pool -/

/-- What one peer and TID are told by a block ack (R232): the bitmap's size and the sequence numbers received. -/
structure BaEntry where
  /-- R232; 1 to 1,024. Peer. -/
  sta : Nat
  /-- R232; 3 bits. TID. -/
  tid : Nat
  /-- R232; 64, 256, 512 or 1,024. Bits of the bitmap. -/
  size : Nat
  /-- R232; 12 bits each. Sequence numbers received in the PPDU. -/
  sns : List Nat
  deriving DecidableEq, Repr

/-- A BSS of the AP MLD, as a beacon names it (R216). -/
structure MldLink where
  /-- R255; 4 bits. LINK_ID. -/
  link : Nat
  /-- R255; 6 bits. BSS. -/
  bss : Nat
  /-- R255; 2 bits. Radio. -/
  radio : Nat
  /-- R255. BSSID. -/
  bssid : List Byte
  /-- R216; 8 bits. Its BSS parameter change count. -/
  change : Nat
  deriving DecidableEq, Repr

/-- A restricted TWT schedule, as a beacon advertises it (R305). -/
structure RtwtAd where
  /-- R305; 24 to 31. Broadcast TWT ID. -/
  id : Nat
  /-- R305; 3 bits. TID of the flow. -/
  tid : Nat
  /-- R319; µs. OFFSET_US and LEN_US. -/
  slot : Nat × Nat
  /-- R319; rounds. PERIOD and PHASE. -/
  recur : Nat × Nat
  deriving DecidableEq, Repr

/-- A beacon (R216): the template, and what WMAC fills in. Where an element stands in the frame is the template's affair. -/
structure Beacon where
  /-- R255. The template's bytes. -/
  template : List Byte
  /-- R216, R291; µs. Timestamp: the TSF at the first sample. -/
  timestamp : Nat := 0
  /-- R216, R255. DTIM count and period of the TIM element. -/
  dtim : Nat × Nat
  /-- R216; 1 bit. Group-addressed frames are buffered. -/
  group : Bool
  /-- R216, R254. AIDs for which frames are buffered. -/
  aids : List Nat
  /-- R216; 8 bits. BSS parameter change count. -/
  change : Nat := 0
  /-- R216. The other BSSs of the AP MLD, in the reduced-neighbour and multi-link elements. -/
  links : List MldLink
  /-- R184, R315. The Vollekan vendor element, empty without an attribute. -/
  vendor : List Byte
  /-- R305. Restricted TWT schedules. -/
  rtwt : List RtwtAd
  /-- R292, R311; µs. Quiet elements: offset and length in the round. -/
  quiet : List (Nat × Nat)
  /-- R243. Packet number and MIC of beacon protection; empty without it. -/
  mic : List Byte := []
  deriving DecidableEq, Repr

/-- What a radio command sends. -/
inductive AirKind where
  /-- R224. A PPDU of WMAC for a peer, on its link; peer 0: group-addressed frames of the BSS with that number. -/
  | ppdu (sta link : Nat)
  /-- R227. A BlockAckReq to a peer on its link, for a TID, with its starting sequence number. -/
  | bar (sta link tid ssn : Nat)
  /-- R232. The block acks that answer the reception with a number. -/
  | blockAck (rx : Nat) (acks : List BaEntry)
  /-- R297. A multi-user PPDU of WMAC: MU-MIMO or OFDMA, the tones of its largest RU, and peers and their links. -/
  | mu (mimo : Bool) (tones : Nat) (users : List (Nat × Nat))
  /-- R230. An initial control frame: an MU-RTS trigger to EMLSR peers, each with its link. -/
  | muRts (users : List (Nat × Nat))
  /-- R292, R304, R306. A Basic or BSRP trigger: peers and their links, and the ticks of the TB PPDU that it asks for. -/
  | trigger (bsrp : Bool) (users : List (Nat × Nat)) (ul : Nat)
  /-- R292. An NDP announcement to the members of an MU group. -/
  | ndpa (users : List (Nat × Nat))
  /-- R292. The NDP. -/
  | ndp
  /-- R292. The beamforming report poll trigger. -/
  | bfPoll (users : List (Nat × Nat))
  /-- R216. The beacon of a BSS. -/
  | beacon (bss : Nat) (frame : Beacon)
  /-- R375. A Nguord frame, by its number in NGL. -/
  | ngFrame (id : Nat)
  /-- R377. A Nguord acknowledgement, by its words. -/
  | ngAck (words : List Word)
  /-- R365. The Nguord beacon. -/
  | ngBeacon
  /-- R343. A ranging frame: its TYPE and PSDU. -/
  | ranging (type : Nat) (psdu : List Byte)
  deriving DecidableEq, Repr

/-- A transmit command that waits at a radio (R163, R164). -/
structure AirCmd where
  /-- R224, R304, R365. What it sends. -/
  kind : AirKind
  /-- R163; local counts. Start time T and tolerance; none for a command without a start time. -/
  timed : Option (Nat × Nat)
  /-- R160, R178, R228. Rates allowed for the frame, in the order in which they are offered. -/
  rates : List TxRate := []
  /-- R296; local count. Earliest start of a command without a start time. -/
  after : Nat := 0
  /-- R342; ticks. Duration of a Nguord frame. -/
  dur : Nat := 0
  /-- R224. MPDUs of the PPDU, by their numbers in WMAC. -/
  mpdus : List Nat := []
  /-- R247; 8 bits. REDUCTION. -/
  red : Nat := 0
  /-- R146; ticks from the end of the PPDU to the end of the immediate response it elicits. -/
  resp : Nat := 0
  /-- R342; dBm. PORT_DBM under the regional cap, for a Nguord frame. -/
  dbm : Int := 0
  /-- R230. EMLSR peers, with their links, to which an initial control frame must go first. -/
  icf : List (Nat × Nat) := []
  /-- R229; ticks. Least duration, which EOF padding makes up. -/
  fill : Nat := 0
  /-- R327, R342. Chirps of a Nguord frame, at the PHY setting of its acceptance: whether each is an up-chirp, and its value. -/
  chirps : List (Bool × Nat) := []
  deriving DecidableEq, Repr

/-- How the data of a PPDU is coded (R179): neither, for DSSS and CCK; BCC; LDPC. -/
inductive Coding where
  | plain | bcc | ldpc
  deriving DecidableEq, Repr

/-- A transmission on air. -/
structure OnAir where
  /-- R163. Its command. -/
  cmd : AirCmd
  /-- R158. Local count of the first sample. -/
  t0 : Nat
  /-- R158. Local count of the last sample. -/
  t1 : Nat
  /-- R146. Local count of the end of the immediate response. -/
  stop : Nat
  /-- R179. Coding of its data. -/
  coding : Coding := .plain
  /-- R216, R275; 1 bit. Its first sample has left: timestamps are taken. -/
  begun : Bool := false
  deriving DecidableEq, Repr

/-- A WLAN reception (R186 to R188). -/
structure RxPpdu where
  /-- Number of the reception. -/
  id : Nat
  /-- Local count at which its preamble was found. -/
  begun : Nat := 0
  /-- R187; local count at which its header has been checked. -/
  hdrAt : Nat := 0
  /-- R187. What that check finds. -/
  header : RxHeader
  /-- R178. Its format, once the header check has passed. -/
  fmt : PhyFormat := .ofdm
  /-- R153, R154; by chain. Gains that AGC has frozen. -/
  agc : List AgcStep := []
  /-- R188; dBm. Power measured on its L-LTF. -/
  power : Int
  /-- R154; 1 bit. The converters are saturated. -/
  sat : Bool
  /-- R187; 1 bit. The header check has passed. -/
  hdrOk : Bool
  /-- R190. End of its last data symbol, local count. -/
  dataEnd : Nat
  /-- R188. End of the PPDU, local count. -/
  endT : Nat
  /-- R190; 1 bit. It may elicit an immediate response. -/
  elicits : Bool
  /-- R249. Domain, nanoseconds and seconds of its start. -/
  stamp : Nat × Nat × Nat
  /-- R275; ns. Nanoseconds of domains A and B at its start. -/
  ns : Nat × Nat := (0, 0)
  /-- R191; 11 bits or none. Its transmitter, once WMAC has read a header. -/
  sta : Option Nat := none
  /-- R191. First MPDU headers that WMAC has read, by RU. -/
  heads : List FirstHeader := []
  deriving DecidableEq, Repr

/-- What a radio does beside receiving and sending. -/
inductive RadioSeq where
  | off | starting | running | retuning | relocking | calibrating
  deriving DecidableEq, Repr

/-- A radio beside its registers; 3 is the Nguord radio. -/
structure RadioSt where
  /-- R149; reset off. Power-up, lock and calibration sequence that runs. -/
  seq : RadioSeq := .off
  /-- R146; 1 bit; reset 0. A retune waits. -/
  retune : Bool := false
  /-- R146; 3 bits; reset DESIGN CHOICE 0. Bandwidth of the last completed lock. -/
  tunedBw : Nat := 0
  /-- R146; MHz; reset DESIGN CHOICE 0. Centre at the last image-rejection calibration. -/
  imgCentre : Nat := 0
  /-- R151; 8 bits; reset 0. Chains that the PPDU on air uses. -/
  chains : Nat := 0
  /-- R163; reset none. Transmission on air. -/
  air : Option OnAir := none
  /-- R163, R164; reset empty. Commands that wait, oldest first. -/
  cmds : List AirCmd := []
  /-- R186; reset none. Reception. -/
  rx : Option RxPpdu := none
  /-- R190, R240; reset empty. Earlier receptions whose codewords were still in the pool when the next one began, latest first. -/
  past : List RxPpdu := []
  /-- R65, R163; local count; reset 0. From when the chains are awake. -/
  wakeAt : Nat := 0
  /-- R178, R186, R187; local count; reset 0. Until when a header holds the medium busy. -/
  busyUntil : Nat := 0
  /-- R150; local count; reset 0. Since when DUE has been set. -/
  dueSince : Nat := 0
  /-- R150; 1 bit; reset 0. RF_CAL_OVERDUE was raised for the due calibration. -/
  overdue : Bool := false
  /-- R150; local count or none; reset none. Last tracking calibration. -/
  lastTrack : Option Nat := none
  /-- R202; 16 bits; reset DESIGN CHOICE 0. SEQ of the next channel-state record. -/
  csiSeq : Nat := 0
  /-- R201; 8 bits; reset 0. Records dropped since the last record. -/
  csiDropped : Nat := 0
  /-- R201; reset 0. PPDUs that passed their header check. -/
  csiCount : Nat := 0
  deriving DecidableEq, Repr

/-- Classes of codewords (R190). -/
inductive CwClass where
  | registered | immediate | bulk
  deriving DecidableEq, Repr

/-- A codeword in the decoder pool (R190, R193). -/
structure Codeword where
  /-- Number of the codeword. -/
  id : Nat
  /-- R190; 0 to 3. Radio; 3 is the Nguord radio. -/
  radio : Nat
  /-- R189. Number of its reception. -/
  rx : Nat
  /-- R339. Its place in a Nguord frame: 0 the header, 1 on the payload. -/
  part : Nat
  /-- R191; 7 bits. Its RU's place in a WLAN PPDU. -/
  ru : Nat := 0
  /-- R190. Class. -/
  cls : CwClass
  /-- R190. Deadline, local count. -/
  deadline : Nat
  /-- R190. Arrival, local count. -/
  arrival : Nat
  /-- R190. End of the last data symbol, local count. -/
  dataEnd : Nat
  /-- R505; 9 bits or none. Registered flow. -/
  flow : Option Nat
  /-- R194. Order of arrival. -/
  order : Nat
  deriving DecidableEq, Repr

/-- A decode that runs (R192, R194). -/
structure Decode where
  /-- R194. Codeword. -/
  cw : Codeword
  /-- R194; 5 bits. Iteration limit. -/
  limit : Nat
  /-- R194. Start, local count. -/
  start : Nat
  deriving DecidableEq, Repr

/-- LDPC beside its registers. -/
structure LdpcSt where
  /-- R193; up to 768; reset empty. Codewords that wait, in order of arrival. -/
  waiting : List Codeword := []
  /-- R194; 14 engines; reset none. Decodes that run. -/
  engines : List (Nat × Option Decode) := []
  /-- R194; reset 0. Next order of arrival, and number of the next codeword. -/
  next : Nat := 0
  deriving DecidableEq, Repr

/-- The radios together. -/
structure AirSt where
  /-- R144; four radios. -/
  radios : List (Nat × RadioSt) := []
  /-- Model's own; reset 0. Number of the next reception. -/
  nextRx : Nat := 0
  deriving DecidableEq, Repr

/-! ### WMAC -/

/-- An MSDU or management frame to send (R247). -/
structure TxReq where
  /-- R247; 11 bits. STA_ID; 0 for a group-addressed frame. -/
  sta : Nat
  /-- R247; 6 bits. BSS. -/
  bss : Nat
  /-- R247; 3 bits. TID. -/
  tid : Nat
  /-- R246. Ethernet frame, or the management frame. -/
  frame : List Byte
  /-- R221; 1 bit. A management frame. -/
  mgmt : Bool := false
  /-- R275; 1 bit. Timed. -/
  timed : Bool := false
  /-- R247; 1 bit. NO_ACK. -/
  noAck : Bool := false
  /-- R225; 1 bit. DUP. -/
  dup : Bool := false
  /-- R503. Flow and FNUM of a registered frame. -/
  reg : Option (Nat × Nat) := none
  /-- R490. Deadline of a registered frame, local count. -/
  deadline : Nat := 0
  /-- R247; 8 bits. REDUCTION. -/
  red : Nat := 0
  /-- R247; 32 bits. COOKIE. -/
  cookie : Word := 0
  /-- R462; the frame's entry in TM, for a frame that came from TM. -/
  tm : Option (Nat × TmFrame) := none
  deriving DecidableEq, Repr

/-- An MPDU that has its numbers (R221). -/
structure TxMpdu where
  /-- Number of the MPDU. -/
  id : Nat
  /-- R221. The frame, or the first subframe of an A-MSDU. -/
  req : TxReq
  /-- R231. The frames of the A-MSDU's other subframes. -/
  rest : List TxReq := []
  /-- R222. A1 and A2, as written last. -/
  addrs : List Byte × List Byte := ([], [])
  /-- R221; 12 bits. Sequence number. -/
  sn : Nat
  /-- R221; 48 bits. Packet number; 0 without a cipher. -/
  pn : Nat
  /-- R222. Stored body, encrypted once. -/
  body : List Byte
  /-- R224; bytes. Length of the MPDU. -/
  len : Nat
  /-- R227; 8 bits. Attempts made, all links together. -/
  attempts : Nat := 0
  /-- R224. Links on which it is bound and awaits its end. -/
  links : List Nat := []
  /-- R224. Links on which it is on air or awaits its block ack. -/
  sent : List Nat := []
  /-- R248; 0 to 2. Link of the last attempt. -/
  link : Nat := 0
  /-- R275. Timestamp words of its last transmission; empty when it has none. -/
  stamp : List Word := []
  deriving DecidableEq, Repr

/-- An MPDU in the reorder buffer (R237). -/
structure Held where
  /-- R237; 12 bits. Sequence number. -/
  sn : Nat
  /-- R235; slot and packet number; none for a frame without a cipher. -/
  pn : Option (Nat × Nat)
  /-- R245. MSDU, or subframes of an A-MSDU: DA, SA and MSDU of each. -/
  msdus : List (List Byte × List Byte × List Byte)
  /-- R245. Header of the frame, delivered with TO_8023 = 0. -/
  hdr : List Byte
  /-- R408; 6 bits. BSS. -/
  bss : Nat
  /-- R490. Local count of the occurrence, or of the arrival. -/
  time : Nat
  /-- R249; 1 bit. Group-addressed. -/
  group : Bool := false
  /-- R249; 2 bits. Link of the peer. -/
  link : Nat := 0
  /-- R249; 8 bits. RSSI at the antenna. -/
  rssi : Byte := 0
  /-- R249; Postmark domain and nanoseconds of the PPDU start. -/
  start : Nat × Nat := (0, 0)
  deriving DecidableEq, Repr

/-- What WMAC keeps for a peer and TID (R217). -/
structure TidSt where
  /-- R221; 12 bits; reset 0. Next sequence number to send. -/
  txNext : Nat := 0
  /-- R237; 12 bits; reset DESIGN CHOICE 0. WinStart. -/
  rxWin : Nat := 0
  /-- R237; reset empty. Held entries. -/
  held : List Held := []
  /-- R239; local count or none; reset none. Since when the flush timer runs. -/
  flush : Option Nat := none
  /-- R238; 12 bits or none; reset none. Last sequence number without an agreement. -/
  lastSn : Option Nat := none
  /-- R233; sequence number and fragments; reset none. Partial MSDU. -/
  frag : Option (Nat × List (List Byte)) := none
  /-- R241; 12 bits each; reset empty. Sequence numbers behind WinStart, of a flow with DUP, whose first copy was received. -/
  got : List Nat := []
  deriving DecidableEq, Repr

/-- EMLSR state of a peer (R230). -/
structure EmlsrSt where
  /-- R230; link or none; reset none. Initial control frame outstanding. -/
  icf : Option Nat := none
  /-- R230; link and local count; reset none. The only link until that count. -/
  lock : Option (Nat × Nat) := none
  deriving DecidableEq, Repr

/-- WMAC beside its registers. -/
structure WmacSt where
  /-- R217, R254; 1,024 contexts of 30 words; reset none. -/
  ctx : List (Nat × List Word) := []
  /-- R217; by STA_ID × 8 + TID. -/
  tids : List (Nat × TidSt) := []
  /-- R221; 12 bits each; reset 0. Management counters by STA_ID. -/
  mgmtSn : List (Nat × Nat) := []
  /-- R221; 12 bits each; reset 0. Group counters by BSS. -/
  groupSn : List (Nat × Nat) := []
  /-- R221; reset empty. Frames that wait for their TID's window, oldest first. -/
  waiting : List TxReq := []
  /-- R221; reset empty. MPDUs not yet completed, in order of their numbers. -/
  mpdus : List TxMpdu := []
  /-- Model's own; reset 0. Number of the next MPDU. -/
  nextMpdu : Nat := 0
  /-- R227; reset empty. Peer and TID of BlockAckReqs to send. -/
  bars : List (Nat × Nat) := []
  /-- R230; by STA_ID. -/
  emlsr : List (Nat × EmlsrSt) := []
  /-- R248; reset empty. Completions of four words, oldest first. -/
  compl : List (List Word) := []
  /-- R236, R245; reset empty. Frames passed to firmware, oldest first. -/
  fwRx : List (List Byte) := []
  /-- R216; local count or none by BSS; reset none. Last beacon. -/
  beacons : List (Nat × Option Nat) := []
  /-- R216; by BSS; reset none. What the last beacon carried. -/
  shown : List (Nat × Option Beacon) := []
  /-- R234; 12 bits or none by STA_ID; reset none. Sequence number of the last individually addressed management frame. -/
  mgmtRx : List (Nat × Option Nat) := []
  /-- R235; by key slot; reset none. GEN and packet number of the last individually addressed management frame. -/
  mgmtPn : List (Nat × Option (Nat × Nat)) := []
  deriving DecidableEq, Repr

/-! ### ROUNDS -/

/-- What ROUNDS knows of a joint peer (R312, R315). -/
structure PeerSt where
  /-- R312; 32 bits. Rounds run when its last beacon was heard. -/
  heard : Nat
  /-- R315; bytes or none. The joint-round attribute of that beacon. -/
  attr : Option (List Byte)
  deriving DecidableEq, Repr

/-- ROUNDS for one radio, beside its registers. -/
structure RoundSt where
  /-- R290; local count; reset 0. Tick of the last boundary. -/
  boundary : Nat := 0
  /-- R294; local count or none; reset none. When the check of a bank that passed ended. -/
  passed : Option Nat := none
  /-- R291; ticks; reset 0. Corrections that the TSF has received. -/
  tsfAdj : Int := 0
  /-- R312; reset 0. Rounds spent in HOLD. -/
  holdRounds : Nat := 0
  /-- R312; 1 bit; reset 0. Firmware has cleared JOIN, until the next boundary. -/
  leaving : Bool := false
  /-- R312; reset empty. Peers heard, by member. -/
  peers : List (Nat × Option PeerSt) := []
  /-- R312; reset 0. Rounds since EN was set, by which peers are timed. -/
  count : Nat := 0
  /-- R310, R312; 1 bit; reset 0. The boundary of START_ROUND is armed. -/
  armed : Bool := false
  /-- R310, R291; ticks; reset 0. Correction of the next boundary, which the TSF takes there. -/
  slew : Int := 0
  /-- R292; reset empty. Segments that have begun in this round. -/
  ran : List Nat := []
  /-- R297; reset empty. Segments of this round that found no user and became contention time. -/
  free : List Nat := []
  /-- R309; 1 bit; reset 0. Rounds have stopped in Watch, until a boundary with the radio started. -/
  halted : Bool := false
  deriving DecidableEq, Repr

/-- A running occurrence of a restricted service period (R306). -/
structure RspRun where
  /-- R319; 8 bits. Index. -/
  index : Nat
  /-- R490; local count. Scheduled start. -/
  start : Nat
  /-- R306; local count. End. -/
  stop : Nat
  /-- R306; ticks. Airtime used. -/
  air : Nat := 0
  deriving DecidableEq, Repr

/-- A TWT service period that runs (R302 to R304). -/
structure SpRun where
  /-- R321; 10 bits. Entry. -/
  entry : Nat
  /-- R300; local count. Start. -/
  start : Nat := 0
  /-- R300; local count. End. -/
  stop : Nat
  /-- R303. Stations heard in it. -/
  heard : List Nat := []
  deriving DecidableEq, Repr

/-- ROUNDS together. -/
structure RoundsSt where
  /-- R289; three radios. -/
  radios : List (Nat × RoundSt) := []
  /-- R306; reset empty. Occurrences that run. -/
  rsps : List RspRun := []
  /-- R300; reset empty. TWT service periods that run, by radio. -/
  sps : List (Nat × SpRun) := []
  /-- R302; reset empty. Stations whose last frame had the power-management bit clear. -/
  pmClear : List Nat := []
  /-- R297; bytes by STA_ID; reset 0. Uplink demand: last buffer status report less what was delivered since. -/
  demand : List (Nat × Nat) := []
  /-- R299; local count or none by radio × 32 + group; reset none. Last sounding. -/
  sounded : List (Nat × Option Nat) := []
  /-- R299; by STA_ID; reset none. The last sounding feedback of the station, as it came. -/
  feedback : List (Nat × Option (List Byte)) := []
  /-- R302; local count by STA_ID; reset 0. Until when a station holds a TXOP. -/
  txops : List (Nat × Nat) := []
  deriving DecidableEq, Repr

/-! ### NGR -/

/-- A Nguord header (R329). -/
structure NgHeader where
  /-- R329; 2 bits. VERSION. -/
  version : Nat
  /-- R329; 2 bits. CR. -/
  cr : Nat
  /-- R329; 1 bit. RANGING. -/
  ranging : Bool
  /-- R329; 1 bit. ACKREQ. -/
  ackreq : Bool
  /-- R329; 8 bits. LENGTH. -/
  length : Nat
  /-- R329; 32 bits. LINK. -/
  link : Nat
  deriving DecidableEq, Repr

/-- A Nguord reception (R336 to R340). -/
structure NgRx where
  /-- Number of the reception. -/
  id : Nat
  /-- R337; 0.25 dBm. Power of its preamble. -/
  power : Int
  /-- R337; 1 bit. The converters were saturated. -/
  sat : Bool
  /-- R337; 1 bit. Port: 0 port 17, 1 port 18. -/
  port : Nat
  /-- R327; local count of its reference point. -/
  ref : Nat
  /-- R344; ps. Reference point, interpolated. -/
  refPs : Nat
  /-- R351; 0.25 dB. SNR. -/
  snr : Int
  /-- R351; Hz. Carrier offset. -/
  cfo : Int
  /-- R336, R349; 6 to 12. Order of NGR.PHY_CFG at its detection. -/
  order : Nat := 6
  /-- R340, R349; dB. CAP_DB at its detection. -/
  capDb : Nat := 6
  /-- R153, R154. Gain that AGC has frozen; none for full gain. -/
  agc : Option AgcStep := none
  /-- R329; reset none. The header, once its check has passed. -/
  hdr : Option NgHeader := none
  /-- R339; status of the header codeword: none while it is in the pool, else whether it ended `DEC_OK`. -/
  hdrDec : Option Bool := none
  /-- R339; 1 bit. A payload codeword ended `DEC_MISSED`. -/
  missed : Bool := false
  /-- R339; local count. Computed end. -/
  endT : Nat := 0
  /-- R356; 1 bit. NGL has cancelled the payload. -/
  cancelled : Bool := false
  deriving DecidableEq, Repr

/-- A Nguord frame that passed (R339), on its way to NGL or to the ranging exchange. -/
structure NgIn where
  /-- R329. Header. -/
  hdr : NgHeader
  /-- R330. PSDU. -/
  psdu : List Byte
  /-- R351; 0.25 dBm. RSSI. -/
  rssi : Int
  /-- R351; 0.25 dB. SNR. -/
  snr : Int
  /-- R337; 1 bit. Port. -/
  port : Nat
  /-- R327; local count of its reference point. -/
  ref : Nat
  /-- R344; ps. Reference point, interpolated. -/
  refPs : Nat
  /-- R331; local count of its end. -/
  endT : Nat
  /-- R336, R377; 6 to 12. Order of its symbols. -/
  order : Nat := 6
  deriving DecidableEq, Repr

/-- Steps of a ranging exchange (R344): idle; initiator armed, waiting for RESP, waiting for REPORT; responder waiting
for FINAL. -/
inductive RngStep where
  | idle | armed | waitResp | waitReport | waitFinal
  deriving DecidableEq, Repr

/-- The ranging exchange beside its registers (R344). -/
structure RngSt where
  /-- R344; reset idle. Step. -/
  step : RngStep := .idle
  /-- R343; 32 bits; reset 0. The other side's identifier. -/
  peer : Nat := 0
  /-- R344; ps; reset 0. t_tx(POLL) at the initiator, t_rx(POLL) at the responder. -/
  tPoll : Nat := 0
  /-- R344; ps; reset 0. t_rx(RESP) at the initiator, t_tx(RESP) at the responder. -/
  tResp : Nat := 0
  /-- R345; local count; reset 0. End of the side's own last transmission. -/
  sentAt : Nat := 0
  /-- R339; reset empty. Ranging frames that have passed, oldest first. -/
  inbox : List NgIn := []
  deriving DecidableEq, Repr

/-- NGR beside its front end and registers. -/
structure NgrSt where
  /-- R336; reset none. Reception. -/
  rx : Option NgRx := none
  /-- R339; reset empty. Receptions past their computed end whose codewords are still in the pool, oldest first. -/
  done : List NgRx := []
  /-- R337; 1 bit; reset 0, port 17. Port of the last frame that passed its header check. -/
  lastPort : Nat := 0
  /-- R351; 32 bits each; reset 0. Live words 1 to 3 of the last-frame record. -/
  last : List Word := []
  /-- R344. Ranging exchange. -/
  rng : RngSt := {}
  deriving DecidableEq, Repr

/-! ### NGL -/

/-- A node context (R394). -/
structure NgNode where
  /-- R394; six words; reset 0. Words 0 to 5: VALID, DROPPED, capabilities, EUI-64, keys, events, MISSED, parent. -/
  words : List Word := []
  /-- R362; 32 bits; reset 0. RX_FCNT0. -/
  fcnt0 : Nat := 0
  /-- R362; 32 bits; reset 0. RX_FCNT1. -/
  fcnt1 : Nat := 0
  /-- R394; 32 bits; reset 0. LAST_SFN. -/
  lastSfn : Nat := 0
  deriving DecidableEq, Repr

/-- Where a Nguord frame came from (R384, R385). -/
inductive NgFrom where
  /-- The firmware ring, by the COOKIE of its descriptor. -/
  | ring (cookie : Word)
  /-- TM. -/
  | tm (x : Nat × TmFrame)
  /-- A relay buffer. -/
  | relay
  deriving DecidableEq, Repr

/-- A frame that NGL holds for transmission (R375, R378, R379, R383). -/
structure NgFrame where
  /-- Number of the frame. -/
  id : Nat
  /-- R385. Source. -/
  source : NgFrom
  /-- R356; 4 bits. TYPE. -/
  typ : Nat
  /-- R385; 1 bit. ACKREQ. -/
  ack : Bool
  /-- R383; 16 bits. DST: the next hop, 0xFFFF for a broadcast, 0xFFFE for ENROL_ACC. -/
  dst : Nat
  /-- R357; 16, 16 and 8 bits. Mesh header: ORIG, FINAL, HOPS_LEFT. -/
  mesh : Option (Nat × Nat × Nat) := none
  /-- R385. Body in the clear. -/
  body : List Byte
  /-- R342; order, CR, NPRE. -/
  phy : Nat × Nat × Nat
  /-- R327, R342; 8 bits. NETCODE. -/
  net : Nat := 0
  /-- R385; local count or none. End of its lifetime. -/
  expiry : Option Nat := none
  /-- R385; local count, channel and key slot of an ENROL_ACC. -/
  enrol : Option (Nat × Nat × Nat) := none
  /-- R378; 4 bits; reset 0. Attempts. -/
  attempts : Nat := 0
  /-- R368; 4 bits. BE. -/
  be : Nat
  /-- R368. Backoff in symbols. -/
  backoff : Nat
  /-- R368; local count. Start of the backoff, which waits for the contention period. -/
  since : Nat
  /-- R375; 32 bits or none. Superframe in which the frame was last counted as held. -/
  held : Option Nat := none
  /-- R361; 32 bits; reset 0. FCNT, once protected. -/
  fcnt : Nat := 0
  /-- R356; 32 bits; reset 0. LINK field, once protected. -/
  link : Nat := 0
  /-- R378; reset empty. The protected PSDU. -/
  psdu : List Byte := []
  deriving DecidableEq, Repr

/-- The acknowledgement that NGL waits for (R378). -/
structure NgWait where
  /-- Number of the frame. -/
  id : Nat
  /-- R378; local count. Expected reference point. -/
  ref : Nat
  /-- R324; ticks. Symbol time. -/
  ts : Nat
  /-- R377; local count. End of the acknowledgement. -/
  stop : Nat
  deriving DecidableEq, Repr

/-- NGL beside its registers. -/
structure NglSt where
  /-- R355, R394; 4,096 contexts; reset none. -/
  nodes : List (Nat × NgNode) := []
  /-- R362; 32 bits each; reset 0. Last accepted FCNT of the parent's group key IDs 0 and 1. -/
  groupFcnt : List Nat := []
  /-- R362; 32 bits each; reset 0. Last accepted FCNT of the parent's link key IDs 0 and 1. -/
  parentFcnt : List Nat := []
  /-- R379, R384; reset empty. Frames for transmission, oldest first; up to 64 of them relayed. -/
  frames : List NgFrame := []
  /-- Model's own; reset 0. Number of the next frame. -/
  next : Nat := 0
  /-- R339; reset empty. Frames that NGR has delivered, oldest first. -/
  inbox : List NgIn := []
  /-- R378; reset none. Acknowledgement awaited. -/
  wait : Option NgWait := none
  /-- R363; local count or none; reset none. S_n of the current superframe. -/
  s0 : Option Nat := none
  /-- R374; local count; reset 0. When EN was set. -/
  enAt : Nat := 0
  /-- R373, R374; channel, start, airtime in ticks; reset empty. The device's own transmissions. -/
  air : List (Nat × Nat × Nat) := []
  /-- R371; 6 bits; reset 0. Channel in use. -/
  ch : Nat := 0
  /-- R365; reset empty. Beacon PSDU of the superframe. -/
  beacon : List Byte := []
  /-- R380; superframe and local count; reset empty. Superframes whose event checks are owed, and when: at the start of the next. -/
  owed : List (Nat × Nat) := []
  /-- R380; reset empty. Nodes of which a frame has passed its MIC check in this superframe. -/
  heard : List Nat := []
  /-- R380, R382; reset empty. Drop and parent-lost records that wait for room, oldest first. -/
  recs : List (List Word) := []
  /-- R366; 1 bit; reset 0. The superframe's beacon has been received or is the device's own. -/
  bcnOk : Bool := false
  /-- R381; local count; reset 0. Reference point of the last beacon received. -/
  lastBcn : Nat := 0
  /-- R381; 8 bits; reset 0. SCA_PPM of the parent. -/
  parentSca : Nat := 0
  /-- R382; local count or none; reset none. End of the resync scan. -/
  scan : Option Nat := none
  /-- R382; 1 bit; reset 0. The last scan failed: windows use MAX_GUARD_MS. -/
  wide : Bool := false
  /-- R369; reset empty. Slots that have begun in this superframe. -/
  slotsRun : List Nat := []
  /-- R369; node and local count of the end; reset none. Slot that runs. -/
  slot : Option (Nat × Nat) := none
  deriving DecidableEq, Repr

/-! ### The host's view of memory -/

/-- A host access through BAR2 that HOSTP has received (R126, R128). -/
structure HostAccess where
  /-- Write, or read. -/
  write : Bool
  /-- R128; device address, by the window base in force when the request was received. -/
  addr : Nat
  /-- Bytes to read. -/
  size : Nat
  /-- Bytes to write. -/
  data : List Byte
  deriving DecidableEq, Repr

/-- An RWL write that a LOCK of the same cycle would undo (R134). -/
structure RwlWrite where
  /-- Local count of the write. -/
  tick : DWord
  /-- Address of the register. -/
  addr : Nat
  /-- The register before it. -/
  old : Word
  deriving DecidableEq, Repr

/-! ### The whole device -/

/-- The state of the device and the queue of waiting commands. -/
structure State where
  /-- R4 to R9 and the register tables; 32 bits each; reset as the tables say. Registers, by address. -/
  regs : List (Nat × Word) := []
  /-- R15; 64 bits each; reset 0. Statistics counters, by address. -/
  ctrs : List (Nat × DWord) := []
  /-- R16; 32 bits or empty each; reset empty. High-word shadows of the counters, by address. -/
  ctrShadow : List (Nat × Option Word) := []
  /-- R124; bytes; reset 0 for shared SRAM (R102), DESIGN CHOICE 0 for retention SRAM and DRAM. -/
  mem : List (Nat × Byte) := []
  /-- R663; 64-bit words; reset empty. Poisoned words of shared SRAM, by address divided by 8. -/
  poison : List Nat := []
  /-- R105; 256 MiB; reset PRESUMED 0xFF. The attached flash. -/
  nvm : List (Nat × Byte) := []
  /-- R547; reset DESIGN CHOICE 0. Memory of the host, reached through PCIe. -/
  hostMem : List (Nat × Byte) := []
  /-- Model's own; reset 0. How many open values have been drawn. -/
  fresh : Nat := 0
  /-- R5; answer of the last read. -/
  resp : BusResp := {}
  /-- Fuses. -/
  fuses : Fuses := {}
  /-- PMU. -/
  power : PowerSt := {}
  /-- Service pins. -/
  pins : PinSt := {}
  /-- R95; reset empty. Register accesses that wait for their block's PLL to lock, with their addresses, oldest first. -/
  held : List (Nat × Instr) := []
  /-- R128; reset empty. BAR2 accesses received and not yet complete, oldest first. -/
  bar2 : List HostAccess := []
  /-- R134; reset empty. RWL writes of the present tick. -/
  rwl : List RwlWrite := []
  /-- Boot ROM. -/
  boot : BootSt := {}
  /-- R141; reset none. NVMC operation that runs. -/
  nvmc : Option NvmOp := none
  /-- POSTMARK. -/
  time : TimeSt := {}
  /-- DISPATCH. -/
  disp : DispSt := {}
  /-- R631; 32 FIFOs. -/
  pig : List (Nat × PigFifo) := []
  /-- SORT. -/
  sort : SortSt := {}
  /-- TABLES. -/
  tables : TablesSt := {}
  /-- TM. -/
  tm : TmSt := {}
  /-- REGSVC. -/
  regsvc : RegSt := {}
  /-- EMAC0 to EMAC3. -/
  emacs : List (Nat × EmacSt) := []
  /-- R525; reset empty. Frames the EMACs have put on the wire, FCS included: port and bytes, oldest first. -/
  wire : List (Nat × List Byte) := []
  /-- DRAMC. -/
  dram : DramSt := {}
  /-- RADIO24, RADIO5, RADIO6 and NGR's front end. -/
  air : AirSt := {}
  /-- LDPC. -/
  ldpc : LdpcSt := {}
  /-- WMAC. -/
  wmac : WmacSt := {}
  /-- ROUNDS. -/
  rounds : RoundsSt := {}
  /-- NGR. -/
  ngr : NgrSt := {}
  /-- NGL. -/
  ngl : NglSt := {}
  /-- HOSTP. -/
  hostp : HostSt := {}
  /-- KEYS, life cycle and debug. -/
  keys : KeysSt := {}
  /-- SEAL. -/
  sealer : SealSt := {}
  /-- FAULT. -/
  flt : FaultSt := {}
  /-- Model's own; reset empty. Commands that wait, first in, first out. -/
  pending : List Instr := []
  deriving DecidableEq, Repr

/-- The reasons a step can fault: none of the spec's rules stops the block with a fault. -/
inductive Fault where
  /-- Not raised by any meaning; kept so that the type has a member. Safe. -/
  | unused
  deriving DecidableEq, Repr

/-- The reasons a command can be refused. -/
inductive Refusal where
  /-- A command that has no meaning in the model, by its mnemonic. Safe. -/
  | notModelled (mnemonic : String)
  deriving DecidableEq, Repr

/-- The machine right after reset (spec/03 R98, R100): a cold start, every register at its reset value. -/
def State.reset : State := {}

end Sys2Proof.Machine
end

