-- ==== Sys2Proof/Machine/AirOps.lean ====
section
/-! DEFINITION. What a command of a radio sends, and to whom (spec/06_wlan_mac_multilink.md R224 to R230, spec/08 R292). -/

namespace Sys2Proof.Machine

/-- Peers of a command, each with its link. -/
def AirKind.users (k : AirKind) : List (Nat × Nat) :=
  match k with
  | .ppdu n l | .bar n l _ _ => [(n, l)]
  | .mu _ _ us | .trigger _ us _ | .muRts us | .ndpa us | .bfPoll us => us
  | _ => []

/-- The peer that a command addresses first, 0 without one. -/
def AirKind.sta (k : AirKind) : Nat := ((k.users.head?).map Prod.fst).getD 0

/-- The command addresses this link of the peer alone. -/
def AirKind.isTo (k : AirKind) (sta link : Nat) : Bool :=
  match k with
  | .ppdu n l | .bar n l _ _ => decide (n = sta ∧ l = link)
  | _ => false

/-- The command sends data of WMAC. -/
def AirKind.isData (k : AirKind) : Bool :=
  match k with
  | .ppdu _ _ | .mu _ _ _ => true
  | _ => false

/-- Link on which a command sends MPDUs of a peer. -/
def AirKind.linkOf (k : AirKind) (sta : Nat) : Nat :=
  match k with
  | .ppdu _ l => l
  | _ => ((k.users.find? (fun u => decide (u.1 = sta))).map Prod.snd).getD 0

/-- An MPDU becomes unbound from a link. -/
def TxMpdu.unbind (m : TxMpdu) (l : Nat) : TxMpdu :=
  { m with links := m.links.filter (fun x => decide (x ≠ l)), sent := m.sent.filter (fun x => decide (x ≠ l)) }

/-- The MPDUs of a command that has not started become unbound; a BlockAckReq is owed again (R226, R227). -/
def WmacSt.giveBack (w : WmacSt) (c : AirCmd) : WmacSt :=
  match c.kind with
  | .bar n _ t _ => { w with bars := if w.bars.contains (n, t) then w.bars else w.bars ++ [(n, t)] }
  | k =>
    { w with mpdus := w.mpdus.map (fun m => if c.mpdus.contains m.id then m.unbind (k.linkOf m.req.sta) else m) }

end Sys2Proof.Machine
end

