-- ==== Sys2Proof/Config.lean ====
section
/-! DEFINITION. What the spec leaves open, as constants without a body (no proof can see what they are), and the
numbers that fix the part (spec/00_scope.md, spec/07_postmark_time.md R258). -/

namespace Sys2Proof.Config

/-- A fresh open value: the n-th value the spec leaves undefined (notes/assumptions/4.md). -/
opaque freeValue : Nat → BitVec 64

/-- Cryptographic functions of the standards the spec names but does not write out (notes/assumptions/5.md). -/
opaque sha384 : List Byte → BitVec 384
/-- Ed25519 verification of a signature: public key, message, signature. -/
opaque ed25519Verify : List Byte → List Byte → List Byte → Bool
/-- Ed25519 signature over a message under a secret. -/
opaque ed25519Sign : BitVec 256 → List Byte → BitVec 512
/-- Ed25519 public key of a secret. -/
opaque ed25519Public : BitVec 256 → BitVec 256
/-- ML-DSA-65 verification of a signature: public key, message, signature. -/
opaque mldsaVerify : List Byte → List Byte → List Byte → Bool
/-- ML-DSA-65 signature over a message under a secret (3,309 bytes). -/
opaque mldsaSign : BitVec 256 → List Byte → BitVec 26472
/-- ML-DSA-65 public key of a secret (1,952 bytes). -/
opaque mldsaPublic : BitVec 256 → BitVec 15616
/-- The cipher a pipeline runs: algorithm, key, nonce, additional data, input; the answer's first `n` bytes are the output. -/
opaque cipher : Nat → BitVec 256 → List Byte → List Byte → List Byte → Nat → Byte
/-- The authentication tag of an algorithm: key, nonce, additional data, ciphertext; the answer's first bytes are the tag. -/
opaque tag : Nat → BitVec 256 → List Byte → List Byte → List Byte → Nat → Byte
/-- HMAC-SHA-384. -/
opaque hmac384 : BitVec 256 → List Byte → BitVec 384
/-- HKDF-SHA-384: input secret, salt, info. -/
opaque hkdf : BitVec 256 → List Byte → List Byte → BitVec 256
/-- Output of the random generator: the n-th 256 bits drawn. -/
opaque random : Nat → BitVec 256

/-- SHA-384 of the Vollekan manufacturing key that the ROM holds (spec/16 R593). -/
opaque romKeyHash : BitVec 384
/-- SHA-384 of the Vollekan return key that the ROM holds (spec/16 R593). -/
opaque returnKeyHash : BitVec 384

/-- A peer's maximum MPDU length, which no context field holds: 0 for 3,895, 1 for 7,991, 2 for 11,454 bytes, by STA_ID
(spec/06 R231; notes/assumptions/105.md). -/
opaque mpduLimit : Nat → Fin 3

/-- Vector number of an interrupt that the spec names without a number: unit kind and index
(notes/assumptions/6.md). -/
opaque vectorOf : Nat → Nat → Fin 512

/-- Packets of one source that SORT's normal lane holds, its share (spec/11 R402; notes/assumptions/111.md). -/
opaque laneShare : Nat

/-- Local-count ticks in a microsecond (R258: one tick is 2 ns). -/
def ticksPerUs : Nat := 500

/-- Local-count ticks in a millisecond (R258). -/
def ticksPerMs : Nat := 500000

end Sys2Proof.Config
end

