-- ==== Sys2Proof/Machine/RegTypes.lean ====
section
/-! DEFINITION. The shapes of a register description: fields, access types, reset values and stated ranges
(spec/00_scope.md R4, R5, R7, R11, R14). -/

namespace Sys2Proof.Machine

/-- The access types of R5. -/
inductive Access where
  | rw | ro | rc | w1c | w1s | wo | rwl
  deriving DecidableEq, Repr

/-- A field's stated range: what a write must hold, else `CFG_RANGE`; the `nz` forms refuse 0 with
`ZERO_LENGTH` (R11, R14). -/
inductive Range where
  /-- Every value is legal. -/
  | any
  /-- 0 is refused with `ZERO_LENGTH`. -/
  | nz
  /-- Values from `lo` to `hi`. -/
  | btw (lo hi : Nat)
  /-- Values from `lo` to `hi`; 0 is refused with `ZERO_LENGTH`. -/
  | nzBtw (lo hi : Nat)
  /-- Multiples of `m` from `lo` to `hi`. -/
  | mult (m lo hi : Nat)
  /-- Multiples of `m` from `lo` to `hi`; 0 is refused with `ZERO_LENGTH`. -/
  | nzMult (m lo hi : Nat)
  /-- 0, or values from `lo` to `hi` (R127). -/
  | orZero (lo hi : Nat)
  deriving DecidableEq, Repr

/-- A field's reset value: one value, one value counted from the register's first index, or one value for each
first (`table`) or second (`table2`) index. -/
inductive ResetVal where
  | const (v : Nat)
  | index (base : Nat)
  | table (vs : List Nat)
  | table2 (vs : List Nat)
  deriving DecidableEq, Repr

/-- One field of a register: bits [hi:lo], access, reset, range. -/
structure RegField where
  hi : Nat
  lo : Nat
  acc : Access
  reset : ResetVal
  range : Range
  deriving DecidableEq, Repr

/-- One register, or an array of registers: first address, the index ranges (count, stride) from the widest
stride to the narrowest, and the fields. Bits in no field are reserved (R7). -/
structure RegDesc where
  base : Nat
  dims : List (Nat × Nat)
  fields : List RegField
  deriving DecidableEq, Repr

/-- A named field of one register: its address, lowest bit and width. -/
structure Fld where
  addr : Nat
  lo : Nat
  len : Nat
  deriving DecidableEq, Repr

/-- The indices at which the offset `off` falls in an array with the index ranges `dims`, if it falls on one of
its registers. -/
def indicesAt : List (Nat × Nat) → Nat → Option (List Nat)
  | [], off => if off = 0 then some [] else none
  | (count, stride) :: rest, off =>
    if off / stride < count then (indicesAt rest (off % stride)).map (off / stride :: ·) else none

/-- The indices at which address `a` is a register of `d`. -/
def RegDesc.indices (d : RegDesc) (a : Nat) : Option (List Nat) :=
  if d.base ≤ a then indicesAt d.dims (a - d.base) else none

/-- The value of a reset description at the given indices. -/
def ResetVal.at (r : ResetVal) (ix : List Nat) : Nat :=
  match r with
  | .const v => v
  | .index base => base + ix.headD 0
  | .table vs => vs.getD (ix.headD 0) 0
  | .table2 vs => vs.getD (ix.tail.headD 0) 0

end Sys2Proof.Machine
end

