-- ==== Sys2Proof/Machine/RegMap.lean ====
section
/-! DEFINITION. The register map: every register of the spec with its fields, access types, reset values and
stated ranges, block by block (the register tables of spec/00 to spec/18). -/

namespace Sys2Proof.Machine

/-- Registers of SYSCTL. -/
def regsSysctl : List RegDesc := [
  -- CHIP_ID (R3)
  ⟨0x40000010, [], [⟨31, 16, .ro, .const 0x9640, .any⟩, ⟨15, 8, .ro, .const 0xa0, .any⟩]⟩,
  -- STRAPS (R131)
  ⟨0x40000014, [], [⟨8, 8, .ro, .const 0, .any⟩, ⟨5, 0, .ro, .const 0, .any⟩]⟩,
  -- RESET_CAUSE (R132)
  ⟨0x40000018, [], [⟨15, 8, .ro, .const 0, .any⟩, ⟨4, 4, .ro, .const 1, .any⟩, ⟨3, 0, .ro, .const 1, .any⟩]⟩,
  -- RESET (R132)
  ⟨0x4000001C, [], [⟨31, 16, .wo, .const 0, .any⟩, ⟨0, 0, .wo, .const 0, .any⟩]⟩,
  -- CFG_LOCK (R133)
  ⟨0x40000020, [], [⟨0, 0, .w1s, .const 0, .any⟩]⟩,
  -- BOOT_STATUS (R135)
  ⟨0x40000024, [], [⟨31, 31, .ro, .const 0, .any⟩, ⟨30, 30, .ro, .const 0, .any⟩, ⟨29, 29, .ro, .const 0, .any⟩, ⟨28, 28, .ro, .const 0, .any⟩, ⟨27, 26, .w1c, .const 0, .any⟩, ⟨25, 25, .ro, .const 0, .any⟩, ⟨23, 16, .ro, .const 0, .any⟩, ⟨15, 8, .ro, .const 0, .any⟩, ⟨7, 0, .ro, .const 0, .any⟩]⟩,
  -- BOOT_CONFIRM (R136)
  ⟨0x40000028, [], [⟨0, 0, .wo, .const 0, .any⟩]⟩,
  -- IMG_SEQ (R136)
  ⟨0x4000002C, [], [⟨31, 0, .ro, .const 0, .any⟩]⟩,
  -- SVN (R136)
  ⟨0x40000030, [], [⟨17, 17, .ro, .const 0, .any⟩, ⟨16, 16, .ro, .const 0, .any⟩, ⟨15, 8, .ro, .const 0, .any⟩, ⟨7, 0, .ro, .const 0, .any⟩]⟩,
  -- RST_CFG (R132)
  ⟨0x40000034, [], [⟨0, 0, .rwl, .const 0, .any⟩]⟩,
  -- IMAGE_DIGEST (R137)
  ⟨0x40000040, [(12, 0x4)], [⟨31, 0, .ro, .const 0, .any⟩]⟩,
  -- BAR2_WIN (R138)
  ⟨0x40000080, [], [⟨8, 0, .rw, .const 0, .orZero 64 319⟩]⟩,
  -- RB_CNT (R139)
  ⟨0x40000090, [(3, 0x4)], [⟨31, 0, .ro, .const 0, .any⟩]⟩,
  -- RB_ADV (R139)
  ⟨0x4000009C, [], [⟨1, 0, .wo, .const 0, .any⟩]⟩,
  -- ABORT (R679)
  ⟨0x400000C0, [], [⟨31, 28, .wo, .const 0, .any⟩, ⟨27, 24, .wo, .const 0, .any⟩, ⟨15, 0, .wo, .const 0, .any⟩]⟩,
  -- ABORT_STATUS (R679)
  ⟨0x400000C4, [], [⟨31, 31, .ro, .const 0, .any⟩, ⟨30, 30, .ro, .const 0, .any⟩, ⟨12, 8, .ro, .const 0, .any⟩, ⟨3, 0, .ro, .const 0, .any⟩]⟩]

/-- Registers of CKGEN. -/
def regsCkgen : List RegDesc := [
  -- PLL_CTRL (R95)
  ⟨0x40010010, [], [⟨4, 0, .rw, .const 0xf, .any⟩]⟩,
  -- PLL_STATUS (R95)
  ⟨0x40010014, [], [⟨17, 17, .w1c, .const 0, .any⟩, ⟨16, 16, .w1c, .const 0, .any⟩, ⟨12, 8, .w1c, .const 0, .any⟩, ⟨4, 0, .ro, .const 0, .any⟩]⟩,
  -- GATE (R96)
  ⟨0x40010020, [], [⟨31, 0, .rw, .const 0x80555555, .any⟩]⟩,
  -- ACTIVE (R96)
  ⟨0x40010024, [], [⟨15, 0, .ro, .const 0x8000, .any⟩]⟩,
  -- PIN (R96)
  ⟨0x40010028, [], [⟨15, 0, .ro, .const 0, .any⟩]⟩,
  -- IDLE (R97)
  ⟨0x4001002C, [], [⟨31, 16, .rw, .const 0xa, .any⟩, ⟨15, 0, .rw, .const 0x64, .any⟩]⟩]

/-- Registers of PMU. -/
def regsPmu : List RegDesc := [
  -- STATE (R85)
  ⟨0x40020010, [], [⟨16, 16, .ro, .const 0, .any⟩, ⟨11, 8, .ro, .const 0, .any⟩, ⟨2, 0, .ro, .const 0, .any⟩]⟩,
  -- STATE_REQ (R86)
  ⟨0x40020014, [], [⟨2, 0, .wo, .const 0, .any⟩]⟩,
  -- WATCH_CFG (R87)
  ⟨0x40020018, [], [⟨23, 16, .rw, .const 0, .any⟩, ⟨15, 12, .rw, .const 0, .btw 0 8⟩, ⟨11, 4, .rw, .const 0x55, .any⟩, ⟨2, 2, .rw, .const 0, .any⟩, ⟨1, 0, .rw, .const 3, .any⟩]⟩,
  -- RET_CFG (R88)
  ⟨0x4002001C, [], [⟨11, 11, .rwl, .const 0, .any⟩, ⟨10, 8, .rwl, .const 0, .any⟩, ⟨7, 0, .rw, .const 0xff, .any⟩]⟩,
  -- RET_STATUS (R89)
  ⟨0x40020020, [], [⟨15, 8, .ro, .const 0, .any⟩, ⟨7, 0, .ro, .const 0, .any⟩]⟩,
  -- RET_SIG_LO (R90)
  ⟨0x40020040, [(8, 0x8)], [⟨31, 0, .ro, .const 0, .any⟩]⟩,
  -- RET_SIG_HI (R90)
  ⟨0x40020044, [(8, 0x8)], [⟨31, 0, .ro, .const 0, .any⟩]⟩,
  -- WAKE_EN (R91)
  ⟨0x40020080, [], [⟨8, 0, .rw, .const 0, .any⟩, ⟨9, 9, .rw, .const 0, .any⟩]⟩,
  -- WAKE_CAUSE (R91)
  ⟨0x40020084, [], [⟨23, 20, .ro, .const 0, .any⟩, ⟨19, 16, .ro, .const 0xf, .any⟩, ⟨8, 0, .w1c, .const 0, .any⟩]⟩,
  -- ALARM (R92)
  ⟨0x40020088, [], [⟨31, 0, .rw, .const 0, .any⟩]⟩,
  -- AO_REG (R93)
  ⟨0x40020090, [], [⟨23, 16, .ro, .const 0, .any⟩, ⟨15, 8, .ro, .const 0, .any⟩, ⟨0, 0, .ro, .const 0, .any⟩]⟩,
  -- AVS_CFG (R94)
  ⟨0x400200A0, [], [⟨23, 16, .rwl, .const 0, .any⟩, ⟨15, 8, .rwl, .const 0, .any⟩, ⟨6, 0, .rwl, .const 0, .any⟩]⟩,
  -- AVS_CTRL (R94)
  ⟨0x400200A4, [], [⟨23, 16, .rw, .const 0xa, .nz⟩, ⟨13, 8, .rw, .const 0xa, .mult 5 0 50⟩, ⟨0, 0, .rw, .const 0, .any⟩]⟩,
  -- AVS_STATUS (R94)
  ⟨0x400200A8, [], [⟨17, 17, .ro, .const 0, .any⟩, ⟨16, 16, .ro, .const 0, .any⟩, ⟨13, 8, .ro, .const 0x28, .any⟩, ⟨5, 0, .ro, .const 0x28, .any⟩]⟩,
  -- PAT_VALUE (R83)
  ⟨0x40021000, [(16, 0x100), (32, 0x4)], [⟨31, 0, .rw, .const 0, .any⟩]⟩,
  -- PAT_MASK (R83)
  ⟨0x40021080, [(16, 0x100), (4, 0x4)], [⟨31, 0, .rw, .const 0, .any⟩]⟩,
  -- PAT_CTRL (R83)
  ⟨0x40021090, [(16, 0x100)], [⟨31, 21, .rw, .const 0, .btw 0 1390⟩, ⟨19, 16, .rw, .const 0, .any⟩, ⟨8, 8, .rw, .const 0, .any⟩, ⟨7, 0, .rw, .const 0, .btw 0 128⟩]⟩]

/-- Registers of FAULT. -/
def regsFault : List RegDesc := [
  -- STATE (R673)
  ⟨0x40030020, [], [⟨31, 31, .ro, .const 0, .any⟩, ⟨30, 30, .ro, .const 0, .any⟩, ⟨29, 29, .ro, .const 0, .any⟩, ⟨28, 28, .ro, .const 0, .any⟩, ⟨3, 0, .ro, .const 0, .any⟩]⟩,
  -- CTRL (R673)
  ⟨0x40030024, [], [⟨8, 0, .rw, .const 0x1df, .any⟩]⟩,
  -- CLEAR (R673)
  ⟨0x40030028, [], [⟨0, 0, .wo, .const 0, .any⟩]⟩,
  -- LOG_IDX (R673)
  ⟨0x4003002C, [], [⟨31, 16, .ro, .const 0, .any⟩, ⟨15, 0, .rw, .const 0, .any⟩]⟩,
  -- INJ (R674)
  ⟨0x40030030, [], [⟨31, 31, .wo, .const 0, .any⟩, ⟨30, 30, .wo, .const 0, .any⟩, ⟨7, 0, .wo, .const 0, .any⟩]⟩,
  -- INJ_UNIT (R674)
  ⟨0x40030034, [], [⟨31, 0, .rw, .const 0, .any⟩]⟩,
  -- FIRST (R672)
  ⟨0x40030010, [(4, 0x4)], [⟨31, 0, .ro, .const 0, .any⟩]⟩,
  -- PENDING (R675)
  ⟨0x40030040, [(8, 0x4)], [⟨31, 0, .w1c, .const 0, .any⟩]⟩,
  -- MAP (R677)
  ⟨0x40030400, [(65, 0x4)], [⟨30, 28, .rw, .table [0, 0, 0, 0, 0, 4, 0, 0, 2, 0, 2, 2, 0, 0, 0, 0, 1, 0, 2, 2, 0, 0, 0, 0, 0, 0, 0, 0, 0, 0, 0, 0, 0, 0, 0, 0, 0, 0, 0, 0, 0, 0, 0, 0, 0, 0, 0, 0, 0, 0, 0, 0, 0, 0, 0, 0, 0, 0, 0, 0, 0, 0, 0, 0, 0], .any⟩, ⟨26, 24, .rw, .table [0, 0, 0, 1, 1, 1, 4, 1, 1, 1, 0, 1, 1, 0, 0, 0, 0, 1, 1, 1, 1, 0, 0, 0, 1, 1, 1, 0, 0, 0, 0, 0, 1, 1, 1, 1, 1, 1, 1, 0, 1, 1, 1, 0, 0, 0, 0, 0, 1, 1, 1, 1, 1, 1, 0, 0, 1, 1, 1, 1, 1, 0, 0, 0, 1], .any⟩, ⟨19, 16, .rw, .table [0, 0, 0, 0, 0, 3, 0, 0, 3, 0, 0, 1, 0, 0, 0, 0, 5, 0, 1, 2, 0, 0, 0, 0, 0, 0, 0, 0, 0, 0, 0, 0, 0, 0, 0, 0, 0, 0, 0, 0, 0, 0, 0, 0, 0, 0, 0, 0, 0, 0, 0, 0, 0, 0, 0, 0, 0, 0, 0, 0, 0, 0, 0, 0, 0], .any⟩, ⟨15, 0, .rw, .table [0, 0, 0, 0, 0, 1000, 0, 0, 1000, 0, 10000, 1, 0, 0, 0, 0, 1000, 0, 1, 1000, 0, 0, 0, 0, 0, 0, 0, 0, 0, 0, 0, 0, 0, 0, 0, 0, 0, 0, 0, 0, 0, 0, 0, 0, 0, 0, 0, 0, 0, 0, 0, 0, 0, 0, 0, 0, 0, 0, 0, 0, 0, 0, 0, 0, 0], .any⟩]⟩,
  -- LOG (R673)
  ⟨0x40031000, [(64, 0x10), (4, 0x4)], [⟨31, 0, .ro, .const 0, .any⟩]⟩,
  -- SRAM_SPARE (R676)
  ⟨0x40030060, [(4, 0x4)], [⟨31, 31, .ro, .const 0, .any⟩, ⟨30, 30, .ro, .const 0, .any⟩, ⟨5, 0, .ro, .const 0, .any⟩]⟩,
  -- RETIRE (R676)
  ⟨0x40030070, [], [⟨31, 28, .wo, .const 0, .any⟩, ⟨7, 0, .wo, .const 0, .any⟩]⟩]

/-- Registers of NVMC. -/
def regsNvmc : List RegDesc := [
  -- MODE (R140)
  ⟨0x40050010, [], [⟨23, 16, .rwl, .const 8, .btw 0 31⟩, ⟨15, 8, .rwl, .const 0x3c, .btw 6 120⟩, ⟨1, 0, .rwl, .const 0, .any⟩]⟩,
  -- OP (R141)
  ⟨0x40050014, [], [⟨3, 0, .wo, .const 0, .any⟩]⟩,
  -- ADDR (R141)
  ⟨0x40050018, [], [⟨27, 0, .rw, .const 0, .any⟩]⟩,
  -- MEM (R141)
  ⟨0x4005001C, [], [⟨31, 0, .rw, .const 0, .any⟩]⟩,
  -- LEN (R141)
  ⟨0x40050020, [], [⟨24, 0, .rw, .const 0, .any⟩]⟩,
  -- STATUS (R141)
  ⟨0x40050024, [], [⟨7, 4, .ro, .const 0, .any⟩, ⟨0, 0, .ro, .const 0, .any⟩]⟩,
  -- PROTECT (R143)
  ⟨0x40050028, [], [⟨1, 1, .ro, .const 0, .any⟩, ⟨0, 0, .ro, .const 0, .any⟩]⟩]

/-- Registers of RADIO. -/
def regsRadio0 : List RegDesc := [
  -- SYNTH (R169)
  ⟨0x40900100, [(3, 0x100000)], [⟨18, 16, .rw, .const 0, .any⟩, ⟨12, 0, .rw, .table [2412, 5180, 5955], .any⟩]⟩,
  -- SYNTH_STATUS (R169)
  ⟨0x40900104, [(3, 0x100000)], [⟨3, 3, .ro, .const 0, .any⟩, ⟨2, 2, .ro, .const 0, .any⟩, ⟨1, 1, .ro, .const 0, .any⟩, ⟨0, 0, .ro, .const 0, .any⟩]⟩,
  -- CHAIN_EN (R170)
  ⟨0x40900108, [(3, 0x100000)], [⟨7, 0, .rw, .table [15, 15, 255], .any⟩]⟩,
  -- CAL_CFG (R171)
  ⟨0x40900110, [(3, 0x100000)], [⟨31, 31, .rw, .const 1, .any⟩, ⟨23, 16, .rw, .const 0x64, .nz⟩, ⟨4, 0, .rw, .const 0xa, .btw 2 30⟩]⟩,
  -- CAL_CMD (R171)
  ⟨0x40900114, [(3, 0x100000)], [⟨0, 0, .wo, .const 0, .any⟩]⟩,
  -- CAL_STATUS (R171)
  ⟨0x40900118, [(3, 0x100000)], [⟨15, 8, .ro, .const 0, .any⟩, ⟨3, 3, .ro, .const 0, .any⟩, ⟨2, 2, .w1c, .const 0, .any⟩, ⟨1, 1, .ro, .const 0, .any⟩, ⟨0, 0, .ro, .const 1, .any⟩]⟩,
  -- CHAIN_STATUS (R172)
  ⟨0x40900120, [(3, 0x100000), (8, 0x4)], [⟨31, 31, .ro, .const 0, .any⟩, ⟨23, 16, .ro, .const 0, .any⟩, ⟨15, 8, .ro, .const 0, .any⟩]⟩,
  -- FEM_TIMING (R173)
  ⟨0x40900140, [(3, 0x100000)], [⟨23, 16, .rw, .const 0x14, .any⟩, ⟨15, 8, .rw, .const 0x64, .any⟩, ⟨7, 0, .rw, .const 0x78, .any⟩]⟩,
  -- FEM_OWN_LO (R174)
  ⟨0x40900144, [(3, 0x100000)], [⟨31, 0, .rwl, .const 0, .any⟩]⟩,
  -- FEM_OWN_HI (R174)
  ⟨0x40900148, [(3, 0x100000)], [⟨7, 0, .rwl, .const 0, .any⟩]⟩,
  -- FEM_FUNC (R174)
  ⟨0x40900180, [(3, 0x100000), (40, 0x4)], [⟨7, 7, .rwl, .const 0, .any⟩, ⟨6, 4, .rwl, .const 0, .any⟩, ⟨3, 0, .rwl, .const 0, .any⟩]⟩,
  -- RFFE_CFG (R175)
  ⟨0x40900220, [(3, 0x100000)], [⟨15, 8, .rwl, .const 0x14, .btw 10 250⟩, ⟨2, 2, .rwl, .const 0, .any⟩, ⟨1, 0, .rwl, .const 0, .btw 0 2⟩]⟩,
  -- FEM_GAIN (R175)
  ⟨0x40900240, [(3, 0x100000), (8, 0x4)], [⟨25, 16, .rw, .const 0, .any⟩, ⟨9, 0, .rw, .const 0, .any⟩]⟩,
  -- ANT (R175)
  ⟨0x40900260, [(3, 0x100000)], [⟨9, 0, .rwl, .const 0, .any⟩]⟩,
  -- PWR_TABLE (R176)
  ⟨0x40900400, [(3, 0x100000), (5, 0x14), (5, 0x4)], [⟨9, 0, .rw, .const 0, .any⟩]⟩,
  -- PWR_CAP (R176)
  ⟨0x40900480, [(3, 0x100000), (5, 0x4)], [⟨25, 16, .rwl, .const 0x200, .any⟩, ⟨9, 0, .rwl, .const 0x200, .any⟩]⟩,
  -- BB_MODE (R203)
  ⟨0x40901000, [(3, 0x100000)], [⟨5, 5, .rw, .const 1, .any⟩, ⟨4, 4, .rw, .const 1, .any⟩, ⟨3, 3, .rw, .table [0, 1, 0], .any⟩, ⟨2, 2, .rw, .table [1, 1, 0], .any⟩, ⟨1, 1, .ro, .const 1, .any⟩, ⟨0, 0, .rw, .table [1, 0, 0], .any⟩]⟩,
  -- DET_CFG (R204)
  ⟨0x40901004, [(3, 0x100000)], [⟨20, 16, .rw, .const 0xa, .btw 3 20⟩, ⟨15, 8, .rw, .const 0xae, .any⟩, ⟨7, 0, .rw, .const 0xc2, .any⟩]⟩,
  -- VEXT_CFG (R205)
  ⟨0x40901010, [(3, 0x100000)], [⟨13, 12, .rw, .table [0, 0, 2], .btw 0 2⟩, ⟨10, 8, .rw, .table [0, 0, 7], .any⟩, ⟨3, 3, .rw, .table [0, 0, 1], .any⟩, ⟨2, 2, .rw, .table [0, 0, 1], .any⟩, ⟨1, 1, .rw, .const 0, .any⟩, ⟨0, 0, .rw, .const 0, .any⟩]⟩,
  -- CSI_CFG (R206)
  ⟨0x40901020, [(3, 0x100000)], [⟨31, 31, .rw, .const 0, .any⟩, ⟨23, 16, .rw, .const 2, .btw 2 31⟩, ⟨9, 8, .rw, .const 1, .btw 0 2⟩, ⟨2, 2, .rw, .const 0, .any⟩, ⟨1, 1, .rw, .const 0, .any⟩, ⟨0, 0, .rw, .const 1, .any⟩]⟩]

/-- Registers of RADIO. -/
def regsRadio1 : List RegDesc := [
  -- CSI_SEL (R206)
  ⟨0x40901024, [(3, 0x100000)], [⟨31, 16, .rw, .const 0x64, .nz⟩, ⟨11, 0, .rw, .const 0, .any⟩]⟩]

/-- Registers of RADIO. -/
def regsRadio : List RegDesc := regsRadio0 ++ regsRadio1

/-- Registers of LDPC. -/
def regsLdpc : List RegDesc := [
  -- ENGINE_MAP (R208)
  ⟨0x40800010, [], [⟨29, 16, .ro, .const 0, .any⟩, ⟨13, 0, .ro, .const 0xfff, .any⟩]⟩,
  -- RETIRE (R208)
  ⟨0x40800014, [], [⟨3, 0, .wo, .const 0, .any⟩]⟩,
  -- ITER_CFG (R209)
  ⟨0x40800018, [], [⟨28, 24, .rw, .const 2, .btw 0 16⟩, ⟨20, 16, .rw, .const 8, .nzBtw 0 16⟩, ⟨12, 8, .rw, .const 6, .nzBtw 0 16⟩, ⟨4, 0, .rw, .const 6, .nzBtw 0 16⟩]⟩,
  -- RESERVE (R210)
  ⟨0x4080001C, [], [⟨25, 16, .ro, .const 0, .any⟩, ⟨2, 0, .ro, .const 0, .any⟩]⟩,
  -- DL_CFG (R210)
  ⟨0x40800020, [], [⟨31, 16, .rw, .const 0x7d0, .nz⟩, ⟨6, 0, .rw, .const 0x3c, .btw 20 100⟩]⟩,
  -- QUEUE (R211)
  ⟨0x40800024, [], [⟨29, 20, .ro, .const 0, .any⟩, ⟨19, 10, .ro, .const 0, .any⟩, ⟨9, 0, .ro, .const 0, .any⟩]⟩,
  -- BIST_CFG (R211)
  ⟨0x40800028, [], [⟨15, 0, .rw, .const 0x64, .any⟩]⟩,
  -- ENG_STATUS (R212)
  ⟨0x40800040, [(14, 0x4)], [⟨31, 31, .ro, .const 0, .any⟩, ⟨30, 30, .ro, .table [0, 0, 0, 0, 0, 0, 0, 0, 0, 0, 0, 0, 1, 1], .any⟩, ⟨29, 29, .ro, .const 0, .any⟩, ⟨28, 28, .ro, .const 0, .any⟩, ⟨15, 0, .ro, .const 0, .any⟩]⟩]

/-- Registers of WMAC. -/
def regsWmac : List RegDesc := [
  -- CTRL (R250)
  ⟨0x40600010, [], [⟨2, 0, .rwl, .const 0, .any⟩]⟩,
  -- VND_OUI (R250)
  ⟨0x40600014, [], [⟨23, 0, .rwl, .const 0, .any⟩]⟩,
  -- CTX_CMD (R251)
  ⟨0x40600018, [], [⟨31, 28, .wo, .const 0, .any⟩, ⟨10, 0, .wo, .const 0, .any⟩]⟩,
  -- CTX_STATUS (R251)
  ⟨0x4060001C, [], [⟨31, 31, .ro, .const 0, .any⟩, ⟨13, 8, .ro, .const 0, .any⟩, ⟨3, 0, .ro, .const 0, .any⟩]⟩,
  -- AMPDU_CFG (R252)
  ⟨0x40600020, [], [⟨20, 16, .rw, .const 8, .nzBtw 1 16⟩, ⟨4, 0, .rw, .const 0xa, .nz⟩]⟩,
  -- RX_CFG (R252)
  ⟨0x40600024, [], [⟨0, 0, .rw, .const 1, .any⟩]⟩,
  -- MLD_LO (R253)
  ⟨0x40600100, [(24, 0x8)], [⟨31, 0, .rw, .const 0, .any⟩]⟩,
  -- MLD_HI (R253)
  ⟨0x40600104, [(24, 0x8)], [⟨15, 0, .rw, .const 0, .any⟩]⟩,
  -- STAGE_RW (R254)
  ⟨0x40600200, [(30, 0x4)], [⟨31, 0, .rw, .const 0, .any⟩]⟩,
  -- STAGE_RO (R254)
  ⟨0x40600278, [(18, 0x4)], [⟨31, 0, .ro, .const 0, .any⟩]⟩,
  -- BSS (R255)
  ⟨0x40610000, [(64, 0x20), (8, 0x4)], [⟨31, 0, .rw, .const 0, .any⟩]⟩]

/-- Registers of POSTMARK. -/
def regsPostmark0 : List RegDesc := [
  -- LOCAL_LO (R281)
  ⟨0x40080010, [], [⟨31, 0, .ro, .const 0, .any⟩]⟩,
  -- LOCAL_HI (R281)
  ⟨0x40080014, [], [⟨31, 0, .ro, .const 0, .any⟩]⟩,
  -- SEL (R282)
  ⟨0x40080020, [], [⟨31, 31, .rw, .const 0, .any⟩, ⟨16, 16, .ro, .const 0, .any⟩, ⟨15, 8, .ro, .const 0, .any⟩, ⟨0, 0, .rw, .const 0, .any⟩]⟩,
  -- SWITCH_DELTA_NS (R282)
  ⟨0x40080024, [], [⟨29, 0, .ro, .const 0, .any⟩]⟩,
  -- SWITCH_DELTA_SEC (R282)
  ⟨0x40080028, [], [⟨31, 0, .ro, .const 0, .any⟩]⟩,
  -- CLK10M_TICKS (R283)
  ⟨0x40080030, [], [⟨31, 0, .ro, .const 0, .any⟩]⟩,
  -- CLK10M_STATUS (R283)
  ⟨0x40080034, [], [⟨1, 1, .w1c, .const 0, .any⟩, ⟨0, 0, .ro, .const 0, .any⟩]⟩,
  -- PPS_CFG (R283)
  ⟨0x40080038, [], [⟨0, 0, .rw, .const 0, .any⟩]⟩,
  -- TSQ_IDX (R287)
  ⟨0x40080040, [(7, 0x4)], [⟨31, 16, .ro, .const 0, .any⟩, ⟨15, 0, .rw, .const 0, .any⟩]⟩,
  -- DOM_CTRL (R284)
  ⟨0x40080100, [(2, 0x80)], [⟨31, 31, .rw, .const 0, .any⟩, ⟨30, 30, .w1c, .const 0, .any⟩, ⟨15, 0, .rw, .const 0, .any⟩]⟩,
  -- DOM_INC_FRAC (R284)
  ⟨0x40080104, [(2, 0x80)], [⟨31, 0, .rw, .const 0, .any⟩]⟩,
  -- DOM_INC_NS (R284)
  ⟨0x40080108, [(2, 0x80)], [⟨3, 0, .rw, .const 2, .any⟩]⟩,
  -- DOM_NS (R284)
  ⟨0x4008010C, [(2, 0x80)], [⟨29, 0, .ro, .const 0, .any⟩]⟩,
  -- DOM_SEC_LO (R284)
  ⟨0x40080110, [(2, 0x80)], [⟨31, 0, .ro, .const 0, .any⟩]⟩,
  -- DOM_SEC_HI (R284)
  ⟨0x40080114, [(2, 0x80)], [⟨15, 0, .ro, .const 0, .any⟩]⟩,
  -- DOM_FRAC (R284)
  ⟨0x40080118, [(2, 0x80)], [⟨31, 0, .ro, .const 0, .any⟩]⟩,
  -- DOM_SET_NS (R284)
  ⟨0x40080120, [(2, 0x80)], [⟨29, 0, .rw, .const 0, .btw 0 999999999⟩]⟩,
  -- DOM_SET_SEC_LO (R284)
  ⟨0x40080124, [(2, 0x80)], [⟨31, 0, .rw, .const 0, .any⟩]⟩,
  -- DOM_SET_SEC_HI (R284)
  ⟨0x40080128, [(2, 0x80)], [⟨15, 0, .rw, .const 0, .any⟩]⟩,
  -- DOM_ADJ (R284)
  ⟨0x4008012C, [(2, 0x80)], [⟨31, 0, .wo, .const 0, .any⟩]⟩]

/-- Registers of POSTMARK. -/
def regsPostmark1 : List RegDesc := [
  -- DOM_CMD (R284)
  ⟨0x40080130, [(2, 0x80)], [⟨1, 1, .wo, .const 0, .any⟩, ⟨0, 0, .wo, .const 0, .any⟩]⟩,
  -- TRG_CTRL (R285)
  ⟨0x40080400, [(16, 0x20)], [⟨31, 31, .rw, .const 0, .any⟩, ⟨30, 29, .rw, .const 0, .any⟩, ⟨27, 24, .rw, .const 0, .any⟩, ⟨23, 16, .rw, .const 0, .any⟩]⟩,
  -- TRG_NS (R285)
  ⟨0x40080404, [(16, 0x20)], [⟨31, 0, .rw, .const 0, .any⟩]⟩,
  -- TRG_SEC_LO (R285)
  ⟨0x40080408, [(16, 0x20)], [⟨31, 0, .rw, .const 0, .any⟩]⟩,
  -- TRG_SEC_HI (R285)
  ⟨0x4008040C, [(16, 0x20)], [⟨15, 0, .rw, .const 0, .any⟩]⟩,
  -- TRG_PERIOD (R285)
  ⟨0x40080410, [(16, 0x20)], [⟨29, 0, .rw, .const 0, .btw 0 1000000000⟩]⟩,
  -- TRG_STATUS (R285)
  ⟨0x40080414, [(16, 0x20)], [⟨31, 16, .ro, .const 0, .any⟩, ⟨1, 1, .w1c, .const 0, .any⟩, ⟨0, 0, .w1c, .const 0, .any⟩]⟩,
  -- CAP_CTRL (R286)
  ⟨0x40080600, [(8, 0x20)], [⟨31, 31, .rw, .const 0, .any⟩, ⟨23, 16, .rw, .const 0, .btw 0 39⟩, ⟨3, 0, .rw, .const 0, .any⟩]⟩,
  -- CAP_REC (R286)
  ⟨0x40080604, [(8, 0x20), (6, 0x4)], [⟨31, 0, .ro, .const 0, .any⟩]⟩,
  -- CAP_STATUS (R286)
  ⟨0x4008061C, [(8, 0x20)], [⟨1, 1, .w1c, .const 0, .any⟩, ⟨0, 0, .w1c, .const 0, .any⟩]⟩,
  -- CAP_CMD (R286)
  ⟨0x400807F0, [], [⟨7, 0, .wo, .const 0, .any⟩]⟩,
  -- TSQ_ETH (R287)
  ⟨0x40088000, [(4, 0x800), (64, 0x20), (8, 0x4)], [⟨31, 0, .ro, .const 0, .any⟩]⟩,
  -- TSQ_AIR (R287)
  ⟨0x4008A000, [(3, 0x2000), (256, 0x20), (8, 0x4)], [⟨31, 0, .ro, .const 0, .any⟩]⟩]

/-- Registers of POSTMARK. -/
def regsPostmark : List RegDesc := regsPostmark0 ++ regsPostmark1

/-- Registers of ROUNDS. -/
def regsRounds0 : List RegDesc := [
  -- RCFG (R316)
  ⟨0x40700100, [(3, 0x100)], [⟨31, 31, .rw, .const 0, .any⟩, ⟨30, 30, .ro, .const 0, .any⟩, ⟨15, 0, .rw, .const 0x7d0, .nzBtw 250 32768⟩]⟩,
  -- PLAN_CMD (R316)
  ⟨0x40700104, [(3, 0x100)], [⟨0, 0, .wo, .const 0, .any⟩]⟩,
  -- PLAN_STATUS (R316)
  ⟨0x40700108, [(3, 0x100)], [⟨12, 8, .ro, .const 0, .any⟩, ⟨3, 0, .ro, .const 0, .any⟩]⟩,
  -- MU_CFG (R316)
  ⟨0x4070010C, [(3, 0x100)], [⟨31, 24, .rw, .const 0x32, .nz⟩, ⟨23, 16, .rw, .const 0x40, .nz⟩, ⟨14, 8, .rw, .table [18, 74, 74], .nz⟩, ⟨1, 0, .rw, .const 0, .any⟩]⟩,
  -- DOZE_CFG (R316)
  ⟨0x40700110, [(3, 0x100)], [⟨15, 0, .rw, .const 0xc8, .nzBtw 50 32768⟩]⟩,
  -- ROUND_NUM (R316)
  ⟨0x40700114, [(3, 0x100)], [⟨31, 0, .ro, .const 0, .any⟩]⟩,
  -- CONFLICT (R316)
  ⟨0x40700118, [(3, 0x100)], [⟨31, 28, .ro, .const 0, .any⟩, ⟨9, 0, .ro, .const 0, .any⟩]⟩,
  -- ROUND_TSF_LO (R316)
  ⟨0x40700144, [(3, 0x100)], [⟨31, 0, .ro, .const 0, .any⟩]⟩,
  -- ROUND_TSF_HI (R316)
  ⟨0x40700148, [(3, 0x100)], [⟨31, 0, .ro, .const 0, .any⟩]⟩,
  -- JOINT_CTRL (R317)
  ⟨0x40700120, [(3, 0x100)], [⟨31, 31, .rw, .const 0, .any⟩, ⟨26, 24, .rw, .const 0, .any⟩, ⟨23, 16, .rw, .const 0, .any⟩, ⟨7, 4, .ro, .const 0, .any⟩, ⟨2, 0, .ro, .const 0, .any⟩]⟩,
  -- JOINT_CFG (R317)
  ⟨0x40700124, [(3, 0x100)], [⟨31, 16, .rw, .const 0x64, .mult 2 2 1000⟩, ⟨15, 0, .rw, .const 0x3e8, .btw 100 10000⟩]⟩,
  -- JOINT_HOLD (R317)
  ⟨0x40700128, [(3, 0x100)], [⟨31, 24, .rw, .const 0x20, .nz⟩, ⟨23, 16, .rw, .const 0x40, .nz⟩, ⟨7, 0, .rw, .const 0xa, .nzBtw 1 100⟩]⟩,
  -- JOINT_ERR (R317)
  ⟨0x4070012C, [(3, 0x100)], [⟨31, 0, .ro, .const 0, .any⟩]⟩,
  -- EPOCH_NS (R317)
  ⟨0x40700130, [(3, 0x100)], [⟨29, 0, .rw, .const 0, .btw 0 999999999⟩]⟩,
  -- EPOCH_SEC_LO (R317)
  ⟨0x40700134, [(3, 0x100)], [⟨31, 0, .rw, .const 0, .any⟩]⟩,
  -- EPOCH_SEC_HI (R317)
  ⟨0x40700138, [(3, 0x100)], [⟨15, 0, .rw, .const 0, .any⟩]⟩,
  -- START_ROUND (R317)
  ⟨0x4070013C, [(3, 0x100)], [⟨31, 0, .rw, .const 0, .any⟩]⟩,
  -- SR_CAP (R317)
  ⟨0x40700140, [(3, 0x100)], [⟨9, 0, .rw, .const 0x200, .any⟩]⟩,
  -- PEER_STATUS (R317)
  ⟨0x40700150, [(3, 0x100)], [⟨23, 16, .ro, .const 0, .any⟩, ⟨15, 8, .ro, .const 0, .any⟩, ⟨7, 0, .ro, .const 0, .any⟩]⟩,
  -- PEER_W0 (R317)
  ⟨0x40700180, [(3, 0x100), (8, 0x8)], [⟨31, 0, .rw, .const 0, .any⟩]⟩]

/-- Registers of ROUNDS. -/
def regsRounds1 : List RegDesc := [
  -- PEER_W1 (R317)
  ⟨0x40700184, [(3, 0x100), (8, 0x8)], [⟨31, 31, .rw, .const 0, .any⟩, ⟨15, 0, .rw, .const 0, .any⟩]⟩,
  -- TURN_W0 (R317)
  ⟨0x407001C0, [(3, 0x100), (8, 0x8)], [⟨31, 16, .rw, .const 0, .any⟩, ⟨15, 0, .rw, .const 0, .any⟩]⟩,
  -- TURN_W1 (R317)
  ⟨0x407001C4, [(3, 0x100), (8, 0x8)], [⟨31, 31, .rw, .const 0, .any⟩, ⟨3, 3, .rw, .const 0, .any⟩, ⟨2, 0, .rw, .const 0, .any⟩]⟩,
  -- SEG_W0 (R318)
  ⟨0x40701000, [(3, 0x200), (2, 0x100), (32, 0x8)], [⟨31, 16, .rw, .const 0, .any⟩, ⟨15, 0, .rw, .const 0, .any⟩]⟩,
  -- SEG_W1 (R318)
  ⟨0x40701004, [(3, 0x200), (2, 0x100), (32, 0x8)], [⟨31, 28, .rw, .const 0, .any⟩, ⟨27, 27, .rw, .const 0, .any⟩, ⟨26, 21, .rw, .const 0, .any⟩, ⟨9, 8, .rw, .const 0, .btw 0 1⟩]⟩,
  -- RSP_W0 (R319)
  ⟨0x40702000, [(256, 0x10)], [⟨31, 31, .ro, .const 0, .any⟩, ⟨30, 29, .ro, .const 0, .any⟩, ⟨28, 28, .ro, .const 0, .any⟩, ⟨27, 27, .ro, .const 0, .any⟩, ⟨26, 18, .ro, .const 0, .any⟩, ⟨10, 0, .ro, .const 0, .any⟩]⟩,
  -- RSP_W1 (R319)
  ⟨0x40702004, [(256, 0x10)], [⟨31, 16, .ro, .const 0, .any⟩, ⟨15, 0, .ro, .const 0, .any⟩]⟩,
  -- RSP_W2 (R319)
  ⟨0x40702008, [(256, 0x10)], [⟨31, 24, .ro, .const 0, .any⟩, ⟨23, 16, .ro, .const 0, .any⟩, ⟨15, 8, .ro, .const 0, .any⟩]⟩,
  -- RSP_W3 (R319)
  ⟨0x4070200C, [(256, 0x10)], [⟨31, 16, .ro, .const 0, .any⟩, ⟨5, 0, .ro, .const 0, .any⟩]⟩,
  -- MUG_W0 (R320)
  ⟨0x40703000, [(3, 0x400), (32, 0x20)], [⟨31, 31, .rw, .const 0, .any⟩, ⟨30, 27, .rw, .const 0, .any⟩, ⟨15, 0, .ro, .const 0, .any⟩]⟩,
  -- MUG_STA (R320)
  ⟨0x40703004, [(3, 0x400), (32, 0x20), (4, 0x4)], [⟨26, 16, .rw, .const 0, .any⟩, ⟨10, 0, .rw, .const 0, .any⟩]⟩,
  -- MUG_NSS (R320)
  ⟨0x40703014, [(3, 0x400), (32, 0x20)], [⟨23, 0, .rw, .const 0, .any⟩]⟩,
  -- TWT_W0 (R321)
  ⟨0x40704000, [(1024, 0x10)], [⟨31, 31, .rw, .const 0, .any⟩, ⟨30, 29, .rw, .const 0, .any⟩, ⟨28, 28, .rw, .const 0, .any⟩, ⟨27, 27, .rw, .const 0, .any⟩, ⟨26, 21, .rw, .const 0, .any⟩, ⟨20, 16, .rw, .const 0, .any⟩, ⟨10, 0, .rw, .const 0, .any⟩]⟩,
  -- TWT_W1 (R321)
  ⟨0x40704004, [(1024, 0x10)], [⟨31, 16, .rw, .const 0, .any⟩, ⟨15, 0, .rw, .const 0, .any⟩]⟩,
  -- TWT_W2 (R321)
  ⟨0x40704008, [(1024, 0x10)], [⟨31, 16, .rw, .const 0, .any⟩, ⟨15, 0, .rw, .const 0, .any⟩]⟩,
  -- TWT_W3 (R321)
  ⟨0x4070400C, [(1024, 0x10)], [⟨23, 16, .rw, .const 0, .any⟩]⟩,
  -- STA_W0 (R322)
  ⟨0x40708000, [(1024, 0x8)], [⟨31, 24, .rw, .const 0, .any⟩, ⟨23, 19, .rw, .const 0, .btw 0 23⟩, ⟨18, 18, .rw, .const 0, .any⟩, ⟨17, 17, .ro, .const 0, .any⟩]⟩,
  -- STA_W1 (R322)
  ⟨0x40708004, [(1024, 0x8)], [⟨31, 0, .ro, .const 0, .any⟩]⟩]

/-- Registers of ROUNDS. -/
def regsRounds : List RegDesc := regsRounds0 ++ regsRounds1

/-- Registers of NGR. -/
def regsNgr0 : List RegDesc := [
  -- SYNTH (R348)
  ⟨0x40C00100, [], [⟨26, 25, .rw, .const 0, .any⟩, ⟨24, 0, .rw, .const 0x15b3333, .any⟩]⟩,
  -- SYNTH_STATUS (R347)
  ⟨0x40C00104, [], [⟨3, 3, .ro, .const 0, .any⟩, ⟨2, 2, .ro, .const 0, .any⟩, ⟨1, 1, .ro, .const 0, .any⟩, ⟨0, 0, .ro, .const 0, .any⟩]⟩,
  -- CAL_CFG (R347)
  ⟨0x40C00110, [], [⟨31, 31, .rw, .const 1, .any⟩, ⟨23, 16, .rw, .const 0x64, .nz⟩, ⟨4, 0, .rw, .const 0xa, .btw 2 30⟩]⟩,
  -- CAL_CMD (R347)
  ⟨0x40C00114, [], [⟨0, 0, .wo, .const 0, .any⟩]⟩,
  -- CAL_STATUS (R347)
  ⟨0x40C00118, [], [⟨15, 8, .ro, .const 0, .any⟩, ⟨3, 3, .ro, .const 0, .any⟩, ⟨2, 2, .w1c, .const 0, .any⟩, ⟨1, 1, .ro, .const 0, .any⟩, ⟨0, 0, .ro, .const 1, .any⟩]⟩,
  -- FEM_TIMING (R347)
  ⟨0x40C00140, [], [⟨23, 16, .rw, .const 0x14, .any⟩, ⟨15, 8, .rw, .const 0x64, .any⟩, ⟨7, 0, .rw, .const 0x78, .any⟩]⟩,
  -- FEM_OWN_LO (R347)
  ⟨0x40C00144, [], [⟨31, 0, .rwl, .const 0, .any⟩]⟩,
  -- FEM_OWN_HI (R347)
  ⟨0x40C00148, [], [⟨7, 0, .rwl, .const 0, .any⟩]⟩,
  -- FEM_FUNC (R347)
  ⟨0x40C00180, [(40, 0x4)], [⟨7, 7, .rwl, .const 0, .any⟩, ⟨6, 4, .rwl, .const 0, .any⟩, ⟨3, 0, .rwl, .const 0, .any⟩]⟩,
  -- RX_LAST0 (R351)
  ⟨0x40C00220, [], [⟨31, 16, .ro, .const 0, .any⟩, ⟨15, 8, .ro, .const 0, .any⟩, ⟨7, 7, .ro, .const 0, .any⟩]⟩,
  -- RX_LAST1 (R351)
  ⟨0x40C00224, [], [⟨31, 0, .ro, .const 0, .any⟩]⟩,
  -- RX_LAST2 (R351)
  ⟨0x40C00228, [], [⟨31, 0, .ro, .const 0, .any⟩]⟩,
  -- RX_LAST3 (R351)
  ⟨0x40C0022C, [], [⟨31, 0, .ro, .const 0, .any⟩]⟩,
  -- PHY_CFG (R349)
  ⟨0x40C00280, [], [⟨31, 24, .rw, .const 0xc, .nzBtw 8 255⟩, ⟨23, 16, .rw, .const 0x34, .any⟩, ⟨9, 8, .rw, .const 0, .btw 0 2⟩, ⟨3, 0, .rw, .const 0xc, .btw 6 12⟩]⟩,
  -- RX_CFG (R349)
  ⟨0x40C00284, [], [⟨31, 30, .rw, .const 2, .btw 0 2⟩, ⟨25, 24, .rw, .const 2, .nzBtw 1 2⟩, ⟨20, 16, .rw, .const 6, .btw 3 20⟩, ⟨11, 8, .rw, .const 2, .btw 0 10⟩]⟩,
  -- TX_PWR (R350)
  ⟨0x40C00288, [], [⟨7, 0, .rw, .const 0, .any⟩]⟩,
  -- DEC_CFG (R350)
  ⟨0x40C0028C, [], [⟨31, 16, .rw, .const 0x64, .nz⟩, ⟨15, 0, .rw, .const 0x64, .nz⟩]⟩,
  -- RNG_CFG (R352)
  ⟨0x40C00300, [], [⟨31, 31, .rw, .const 0, .any⟩, ⟨26, 8, .rw, .const 0x9c40, .nzBtw 1000 500000⟩, ⟨7, 0, .rw, .const 0x64, .nz⟩]⟩,
  -- RNG_ID (R352)
  ⟨0x40C00304, [], [⟨31, 0, .rw, .const 0, .any⟩]⟩,
  -- RNG_PEER (R352)
  ⟨0x40C00308, [], [⟨31, 0, .rw, .const 0, .any⟩]⟩]

/-- Registers of NGR. -/
def regsNgr1 : List RegDesc := [
  -- RNG_CMD (R352)
  ⟨0x40C0030C, [], [⟨1, 1, .wo, .const 0, .any⟩, ⟨0, 0, .wo, .const 0, .any⟩]⟩,
  -- RNG_STATUS (R352)
  ⟨0x40C00310, [], [⟨31, 31, .ro, .const 0, .any⟩, ⟨30, 30, .ro, .const 0, .any⟩, ⟨19, 16, .ro, .const 0, .any⟩, ⟨15, 8, .ro, .const 0, .any⟩]⟩,
  -- RNG_TOF (R352)
  ⟨0x40C00314, [], [⟨31, 0, .ro, .const 0, .any⟩]⟩,
  -- RNG_DLY_TX (R352)
  ⟨0x40C00318, [], [⟨15, 0, .rw, .const 0, .any⟩]⟩,
  -- RNG_DLY_RX (R352)
  ⟨0x40C0031C, [], [⟨31, 16, .rw, .const 0, .any⟩, ⟨15, 0, .rw, .const 0, .any⟩]⟩,
  -- RNG_INT_LO (R352)
  ⟨0x40C00320, [(4, 0x8)], [⟨31, 0, .ro, .const 0, .any⟩]⟩,
  -- RNG_INT_HI (R352)
  ⟨0x40C00324, [(4, 0x8)], [⟨7, 0, .ro, .const 0, .any⟩]⟩]

/-- Registers of NGR. -/
def regsNgr : List RegDesc := regsNgr0 ++ regsNgr1

/-- Registers of NGL. -/
def regsNgl0 : List RegDesc := [
  -- CTRL (R388)
  ⟨0x40D00010, [], [⟨31, 31, .rw, .const 0, .any⟩, ⟨30, 29, .rw, .const 0, .any⟩, ⟨28, 28, .rw, .const 0, .any⟩, ⟨26, 24, .rw, .const 0, .any⟩, ⟨19, 16, .ro, .const 0, .any⟩, ⟨15, 0, .rw, .const 0, .any⟩]⟩,
  -- NET_ID (R388)
  ⟨0x40D00014, [], [⟨31, 0, .rw, .const 0, .any⟩]⟩,
  -- SFN (R388)
  ⟨0x40D00018, [], [⟨31, 0, .ro, .const 0, .any⟩]⟩,
  -- SYNC (R388)
  ⟨0x40D0001C, [], [⟨31, 16, .ro, .const 0, .any⟩, ⟨13, 8, .rw, .const 0, .any⟩, ⟨2, 0, .ro, .const 0, .any⟩]⟩,
  -- SF_PERIOD (R389)
  ⟨0x40D00020, [], [⟨19, 0, .rw, .const 0xea60, .any⟩]⟩,
  -- SF_CAP (R389)
  ⟨0x40D00024, [], [⟨19, 0, .rw, .const 0x9c40, .any⟩]⟩,
  -- SF_ACTIVE (R389)
  ⟨0x40D00028, [], [⟨19, 0, .rw, .const 0xe290, .any⟩]⟩,
  -- SF_RELAY (R389)
  ⟨0x40D0002C, [], [⟨15, 0, .rw, .const 0x190, .any⟩]⟩,
  -- BCN_PHY (R389)
  ⟨0x40D00030, [], [⟨31, 24, .rw, .const 0xc, .any⟩, ⟨9, 8, .rw, .const 0, .any⟩, ⟨3, 0, .rw, .const 0xc, .any⟩]⟩,
  -- CH_BASE (R390)
  ⟨0x40D00040, [], [⟨24, 0, .rw, .const 0, .any⟩]⟩,
  -- CH_SPACING (R390)
  ⟨0x40D00044, [], [⟨23, 0, .rw, .const 0, .any⟩]⟩,
  -- CH_EN_LO (R390)
  ⟨0x40D00048, [], [⟨31, 0, .rw, .const 0, .any⟩]⟩,
  -- CH_EN_HI (R390)
  ⟨0x40D0004C, [], [⟨31, 0, .rw, .const 0, .any⟩]⟩,
  -- HOP (R390)
  ⟨0x40D00050, [], [⟨13, 8, .rw, .const 0, .any⟩, ⟨5, 0, .rw, .const 0, .any⟩]⟩,
  -- REG_CAP (R391)
  ⟨0x40D00060, [], [⟨25, 16, .rwl, .const 0, .any⟩, ⟨9, 0, .rwl, .const 0x200, .any⟩]⟩,
  -- REG_ANT (R391)
  ⟨0x40D00064, [], [⟨9, 0, .rwl, .const 0, .any⟩]⟩,
  -- REG_DWELL (R391)
  ⟨0x40D00068, [], [⟨31, 16, .rwl, .const 0, .any⟩, ⟨15, 0, .rwl, .const 0, .any⟩]⟩,
  -- REG_LBT (R391)
  ⟨0x40D0006C, [], [⟨31, 31, .rwl, .const 0, .any⟩, ⟨23, 16, .rwl, .const 0, .any⟩, ⟨15, 0, .rwl, .const 0, .any⟩]⟩,
  -- DUTY (R391)
  ⟨0x40D00070, [(4, 0x4)], [⟨31, 31, .rwl, .const 0, .any⟩, ⟨29, 24, .rwl, .const 0, .any⟩, ⟨21, 16, .rwl, .const 0, .any⟩, ⟨13, 0, .rwl, .const 0, .any⟩]⟩,
  -- DUTY_WIN (R391)
  ⟨0x40D00080, [], [⟨15, 0, .rwl, .const 0xe10, .nzMult 60 60 65520⟩]⟩]

/-- Registers of NGL. -/
def regsNgl1 : List RegDesc := [
  -- ACK_CFG (R392)
  ⟨0x40D00090, [], [⟨31, 16, .rw, .const 0x7d0, .nzBtw 300 65535⟩, ⟨15, 0, .rw, .const 0x1388, .nzBtw 300 65535⟩]⟩,
  -- TX_CFG (R392)
  ⟨0x40D00094, [], [⟨31, 28, .rw, .const 4, .nz⟩, ⟨27, 24, .rw, .const 2, .btw 0 10⟩, ⟨23, 20, .rw, .const 6, .btw 0 10⟩, ⟨15, 8, .rw, .const 8, .nzBtw 1 32⟩]⟩,
  -- GUARD (R392)
  ⟨0x40D00098, [], [⟨31, 16, .rw, .const 0x32, .nz⟩, ⟨15, 8, .rw, .const 5, .any⟩, ⟨7, 0, .rw, .const 0xa, .btw 1 255⟩]⟩,
  -- PARENT (R392)
  ⟨0x40D0009C, [], [⟨31, 16, .rw, .const 8, .nz⟩, ⟨15, 0, .rw, .const 0, .any⟩]⟩,
  -- PARENT_KEY (R392)
  ⟨0x40D000A0, [], [⟨29, 29, .rw, .const 0, .any⟩, ⟨28, 16, .rw, .const 0, .any⟩, ⟨12, 0, .rw, .const 0, .any⟩]⟩,
  -- GROUP_KEY (R392)
  ⟨0x40D000A4, [], [⟨29, 29, .rw, .const 0, .any⟩, ⟨28, 16, .rw, .const 0, .any⟩, ⟨12, 0, .rw, .const 0, .any⟩]⟩,
  -- FIFO (R392)
  ⟨0x40D000B0, [], [⟨23, 16, .rw, .const 4, .btw 2 31⟩, ⟨7, 0, .rw, .const 5, .btw 2 31⟩]⟩,
  -- TXR_BASE (R392)
  ⟨0x40D000C0, [], [⟨31, 0, .rw, .const 0, .any⟩]⟩,
  -- TXR_SIZE (R392)
  ⟨0x40D000C4, [], [⟨12, 0, .rw, .const 0x40, .nzBtw 1 4096⟩]⟩,
  -- TXR_IDX (R392)
  ⟨0x40D000C8, [], [⟨31, 16, .ro, .const 0, .any⟩, ⟨15, 0, .rw, .const 0, .any⟩]⟩,
  -- NODE_CMD (R393)
  ⟨0x40D00100, [], [⟨31, 28, .wo, .const 0, .any⟩, ⟨15, 0, .wo, .const 0, .any⟩]⟩,
  -- NODE_STATUS (R393)
  ⟨0x40D00104, [], [⟨31, 31, .ro, .const 0, .any⟩, ⟨13, 8, .ro, .const 0, .any⟩, ⟨3, 0, .ro, .const 0, .any⟩]⟩,
  -- STAGE (R394)
  ⟨0x40D00400, [(6, 0x4)], [⟨31, 0, .rw, .const 0, .any⟩]⟩,
  -- STAGE_RO (R394)
  ⟨0x40D00418, [(4, 0x4)], [⟨31, 0, .ro, .const 0, .any⟩]⟩,
  -- SLOT_W0 (R395)
  ⟨0x40D02000, [(256, 0x10)], [⟨31, 31, .rw, .const 0, .any⟩, ⟨30, 30, .rw, .const 0, .any⟩, ⟨19, 0, .rw, .const 0, .any⟩]⟩,
  -- SLOT_W1 (R395)
  ⟨0x40D02004, [(256, 0x10)], [⟨31, 16, .rw, .const 0, .any⟩, ⟨15, 0, .rw, .const 0, .any⟩]⟩,
  -- SLOT_W2 (R395)
  ⟨0x40D02008, [(256, 0x10)], [⟨31, 16, .rw, .const 0, .any⟩, ⟨15, 0, .rw, .const 0, .any⟩]⟩,
  -- ROUTE (R396)
  ⟨0x40D04000, [(4096, 0x4)], [⟨31, 31, .rw, .const 0, .any⟩, ⟨19, 16, .rw, .const 0, .any⟩, ⟨15, 0, .rw, .const 0, .any⟩]⟩]

/-- Registers of NGL. -/
def regsNgl : List RegDesc := regsNgl0 ++ regsNgl1

/-- Registers of SORT. -/
def regsSort : List RegDesc := [
  -- BANK (R421)
  ⟨0x40200010, [], [⟨0, 0, .ro, .const 0, .any⟩]⟩,
  -- SWAP (R421)
  ⟨0x40200014, [], [⟨0, 0, .wo, .const 0, .any⟩]⟩,
  -- SWAP_STATUS (R421)
  ⟨0x40200018, [], [⟨31, 16, .ro, .const 0, .any⟩, ⟨1, 0, .ro, .const 0, .any⟩]⟩,
  -- LATENCY (R421)
  ⟨0x4020001C, [], [⟨15, 0, .ro, .const 0x100, .any⟩]⟩,
  -- PORT_CFG (R422)
  ⟨0x40200020, [(4, 0x4)], [⟨10, 8, .rw, .const 0, .any⟩, ⟨7, 0, .rw, .const 0, .any⟩]⟩,
  -- SUSPECT (R423)
  ⟨0x40200040, [], [⟨20, 8, .rw, .const 0, .any⟩, ⟨7, 6, .rw, .const 1, .btw 0 2⟩, ⟨5, 0, .ro, .const 0x3f, .any⟩]⟩,
  -- CAM_CMD (R424)
  ⟨0x40200050, [], [⟨31, 28, .wo, .const 0, .any⟩, ⟨12, 0, .wo, .const 0, .any⟩]⟩,
  -- CAM_STATUS (R424)
  ⟨0x40200054, [], [⟨31, 31, .ro, .const 0, .any⟩, ⟨24, 16, .ro, .const 0x100, .any⟩, ⟨3, 0, .ro, .const 0, .any⟩]⟩,
  -- DEFAULT_LO (R426)
  ⟨0x40200080, [(2, 0x8)], [⟨31, 0, .rw, .const 0x400000, .any⟩]⟩,
  -- DEFAULT_HI (R426)
  ⟨0x40200084, [(2, 0x8)], [⟨31, 0, .rw, .const 0, .any⟩]⟩,
  -- START (R426)
  ⟨0x402000C0, [(2, 0x20), (7, 0x4)], [⟨8, 0, .rw, .const 0x100, .any⟩]⟩,
  -- STAGE (R425)
  ⟨0x40200100, [(23, 0x4)], [⟨31, 0, .rw, .const 0, .any⟩]⟩,
  -- NODE (R403)
  ⟨0x40210000, [(2, 0x4000), (256, 0x40), (16, 0x4)], [⟨31, 0, .rw, .const 0, .any⟩]⟩]

/-- Registers of TABLES. -/
def regsTables : List RegDesc := [
  -- AGE (R454)
  ⟨0x40300010, [], [⟨31, 16, .rw, .const 0x3e8, .any⟩, ⟨15, 0, .rw, .const 0x2710, .any⟩]⟩,
  -- CTRL (R454)
  ⟨0x40300014, [], [⟨1, 1, .rw, .const 0, .any⟩, ⟨0, 0, .rw, .const 1, .any⟩]⟩,
  -- HASH_SEED (R454)
  ⟨0x40300020, [(4, 0x4)], [⟨31, 0, .rwl, .table [0x1B873593, 0xCC9E2D51, 0x85EBCA6B, 0xC2B2AE35], .any⟩]⟩,
  -- CMD (R456)
  ⟨0x40300030, [], [⟨31, 28, .wo, .const 0, .any⟩, ⟨27, 24, .wo, .const 0, .any⟩, ⟨16, 0, .wo, .const 0, .any⟩]⟩,
  -- STATUS (R456)
  ⟨0x40300034, [], [⟨31, 31, .ro, .const 0, .any⟩, ⟨20, 4, .ro, .const 0, .any⟩, ⟨3, 0, .ro, .const 0, .any⟩]⟩,
  -- FIFO (R454)
  ⟨0x40300040, [], [⟨7, 0, .rw, .const 6, .btw 2 31⟩]⟩,
  -- AUDIT_CTRL (R458)
  ⟨0x40300050, [], [⟨31, 31, .rw, .const 0, .any⟩, ⟨30, 30, .rw, .const 0, .any⟩, ⟨22, 16, .rw, .const 0x7f, .any⟩, ⟨15, 0, .rw, .const 0x3c, .nz⟩]⟩,
  -- AUDIT_CFG (R458)
  ⟨0x40300054, [], [⟨15, 0, .rw, .const 0x3e8, .nz⟩]⟩,
  -- SHADOW_LO (R458)
  ⟨0x40300058, [], [⟨31, 0, .rw, .const 0, .any⟩]⟩,
  -- SHADOW_HI (R458)
  ⟨0x4030005C, [], [⟨2, 0, .rw, .const 0, .any⟩]⟩,
  -- AUDIT_STATUS (R458)
  ⟨0x40300060, [], [⟨31, 31, .ro, .const 0, .any⟩, ⟨30, 28, .ro, .const 0, .any⟩, ⟨27, 24, .ro, .const 0, .any⟩, ⟨16, 0, .ro, .const 0, .any⟩]⟩,
  -- FILL_L2 (R459)
  ⟨0x40300070, [], [⟨17, 0, .ro, .const 0, .any⟩]⟩,
  -- FILL_ROUTE (R459)
  ⟨0x40300074, [], [⟨31, 17, .ro, .const 0, .any⟩, ⟨16, 0, .ro, .const 0, .any⟩]⟩,
  -- FILL_SESS (R459)
  ⟨0x40300078, [], [⟨16, 0, .ro, .const 0, .any⟩]⟩,
  -- PORT_CFG (R455)
  ⟨0x403000A0, [(6, 0x4)], [⟨11, 0, .rw, .const 1, .btw 1 4094⟩]⟩,
  -- STAGE (R457)
  ⟨0x40300100, [(24, 0x4)], [⟨31, 0, .rw, .const 0, .any⟩]⟩]

/-- Registers of TM. -/
def regsTm0 : List RegDesc := [
  -- POOL_CFG (R480)
  ⟨0x40400010, [], [⟨25, 16, .ro, .const 0, .any⟩, ⟨8, 0, .rwl, .const 0x100, .nzBtw 16 448⟩]⟩,
  -- POOL_STATUS (R480)
  ⟨0x40400014, [], [⟨24, 0, .ro, .const 0, .any⟩]⟩,
  -- QCMD (R480)
  ⟨0x40400020, [], [⟨31, 28, .wo, .const 0, .any⟩, ⟨12, 0, .wo, .const 0, .any⟩]⟩,
  -- QSTATUS (R480)
  ⟨0x40400024, [], [⟨31, 31, .ro, .const 0, .any⟩, ⟨3, 0, .ro, .const 0, .any⟩]⟩,
  -- SAMPLE_CFG (R481)
  ⟨0x40400030, [], [⟨31, 31, .rw, .const 0, .any⟩, ⟨23, 16, .rw, .const 7, .btw 2 31⟩, ⟨15, 0, .rw, .const 0x3e8, .nz⟩]⟩,
  -- SAMPLE_RANGE (R481)
  ⟨0x40400034, [], [⟨28, 16, .rw, .const 0, .any⟩, ⟨12, 0, .rw, .const 0, .any⟩]⟩,
  -- EGMAP_W0 (R482)
  ⟨0x40404000, [(2048, 0x8)], [⟨31, 31, .rw, .const 0, .any⟩, ⟨29, 28, .rw, .const 0, .any⟩, ⟨26, 24, .rw, .const 0, .any⟩, ⟨12, 0, .rw, .const 0, .any⟩]⟩,
  -- EGMAP_W1 (R482)
  ⟨0x40404004, [(2048, 0x8)], [⟨31, 31, .rw, .const 0, .any⟩, ⟨12, 0, .rw, .const 0, .any⟩]⟩,
  -- CMAP (R482)
  ⟨0x40408000, [(8, 0x40), (16, 0x4)], [⟨26, 24, .rw, .const 0, .any⟩, ⟨18, 16, .rw, .const 0, .any⟩, ⟨10, 8, .rw, .const 0, .any⟩, ⟨2, 0, .rw, .const 0, .any⟩]⟩,
  -- FLOOD_W0 (R483)
  ⟨0x4040C000, [(1024, 0x10)], [⟨31, 31, .rw, .const 0, .any⟩, ⟨30, 30, .rw, .const 0, .any⟩, ⟨29, 29, .rw, .const 0, .any⟩, ⟨28, 28, .rw, .const 0, .any⟩, ⟨23, 16, .rw, .const 0, .any⟩, ⟨3, 0, .rw, .const 0, .any⟩]⟩,
  -- FLOOD_W1 (R483)
  ⟨0x4040C004, [(1024, 0x10)], [⟨31, 0, .rw, .const 0, .any⟩]⟩,
  -- FLOOD_W2 (R483)
  ⟨0x4040C008, [(1024, 0x10)], [⟨31, 0, .rw, .const 0, .any⟩]⟩,
  -- Q_W0 (R484)
  ⟨0x40410000, [(8192, 0x20)], [⟨31, 31, .rw, .const 0, .any⟩, ⟨30, 30, .ro, .const 0, .any⟩, ⟨29, 29, .rw, .const 0, .any⟩, ⟨28, 28, .rw, .const 0, .any⟩, ⟨26, 24, .rw, .const 0, .any⟩, ⟨23, 16, .rw, .const 0, .any⟩, ⟨12, 0, .rw, .const 0, .any⟩]⟩,
  -- Q_W1 (R484)
  ⟨0x40410004, [(8192, 0x20)], [⟨26, 24, .rw, .const 0, .any⟩, ⟨19, 0, .rw, .const 0, .any⟩]⟩,
  -- Q_W2 (R484)
  ⟨0x40410008, [(8192, 0x20)], [⟨31, 16, .rw, .const 0, .any⟩, ⟨13, 0, .rw, .const 0, .any⟩]⟩,
  -- Q_W3 (R484)
  ⟨0x4041000C, [(8192, 0x20)], [⟨31, 16, .rw, .const 0, .any⟩, ⟨15, 0, .rw, .const 0, .any⟩]⟩,
  -- Q_DEPTH_BYTES (R484)
  ⟨0x40410010, [(8192, 0x20)], [⟨31, 0, .ro, .const 0, .any⟩]⟩,
  -- Q_DEPTH_FRAMES (R484)
  ⟨0x40410014, [(8192, 0x20)], [⟨19, 0, .ro, .const 0, .any⟩]⟩,
  -- Q_HEAD_AGE (R484)
  ⟨0x40410018, [(8192, 0x20)], [⟨31, 0, .ro, .const 0, .any⟩]⟩,
  -- Q_MAX_DELAY (R484)
  ⟨0x4041001C, [(8192, 0x20)], [⟨31, 0, .rc, .const 0, .any⟩]⟩]

/-- Registers of TM. -/
def regsTm1 : List RegDesc := [
  -- SH_W0 (R485)
  ⟨0x40450000, [(8192, 0x10)], [⟨31, 31, .rw, .const 0, .any⟩, ⟨30, 30, .ro, .const 0, .any⟩, ⟨24, 0, .rw, .const 0, .any⟩]⟩,
  -- SH_W1 (R485)
  ⟨0x40450004, [(8192, 0x10)], [⟨23, 0, .rw, .const 0, .any⟩]⟩,
  -- SH_W2 (R485)
  ⟨0x40450008, [(8192, 0x10)], [⟨7, 0, .rw, .const 0, .any⟩]⟩,
  -- SH_TOKENS (R485)
  ⟨0x4045000C, [(8192, 0x10)], [⟨31, 0, .ro, .const 0, .any⟩]⟩,
  -- POL_W0 (R486)
  ⟨0x40470000, [(4096, 0x20)], [⟨31, 31, .rw, .const 0, .any⟩, ⟨30, 30, .rw, .const 0, .any⟩, ⟨29, 29, .rw, .const 0, .any⟩, ⟨24, 0, .rw, .const 0, .any⟩]⟩,
  -- POL_W1 (R486)
  ⟨0x40470004, [(4096, 0x20)], [⟨24, 0, .rw, .const 0, .any⟩]⟩,
  -- POL_W2 (R486)
  ⟨0x40470008, [(4096, 0x20)], [⟨23, 0, .rw, .const 0, .any⟩]⟩,
  -- POL_W3 (R486)
  ⟨0x4047000C, [(4096, 0x20)], [⟨23, 0, .rw, .const 0, .any⟩]⟩,
  -- POL_TC (R486)
  ⟨0x40470010, [(4096, 0x20)], [⟨31, 0, .ro, .const 0, .any⟩]⟩,
  -- POL_TP (R486)
  ⟨0x40470014, [(4096, 0x20)], [⟨31, 0, .ro, .const 0, .any⟩]⟩]

/-- Registers of TM. -/
def regsTm : List RegDesc := regsTm0 ++ regsTm1

/-- Registers of REGSVC. -/
def regsRegsvc : List RegDesc := [
  -- FLOW_CMD (R516)
  ⟨0x40500010, [], [⟨31, 28, .wo, .const 0, .any⟩, ⟨8, 0, .wo, .const 0, .any⟩]⟩,
  -- FLOW_STATUS (R516)
  ⟨0x40500014, [], [⟨31, 31, .ro, .const 0, .any⟩, ⟨3, 0, .ro, .const 0, .any⟩]⟩,
  -- REPORT_CFG (R518)
  ⟨0x40500018, [], [⟨23, 16, .rw, .const 8, .btw 2 31⟩]⟩,
  -- TOTALS (R518)
  ⟨0x4050001C, [], [⟨25, 16, .ro, .const 0, .any⟩, ⟨12, 0, .ro, .const 0, .any⟩]⟩,
  -- OUTQ (R518)
  ⟨0x40500020, [], [⟨10, 0, .ro, .const 0, .any⟩]⟩,
  -- STAGE (R519)
  ⟨0x40500100, [(11, 0x4)], [⟨31, 0, .rw, .const 0, .any⟩]⟩,
  -- STAGE_RO (R519)
  ⟨0x4050012C, [(5, 0x4)], [⟨31, 0, .ro, .const 0, .any⟩]⟩,
  -- FLOW_W0 (R520)
  ⟨0x40501000, [(512, 0x10)], [⟨31, 29, .ro, .const 0, .any⟩, ⟨27, 24, .ro, .const 0, .any⟩, ⟨23, 23, .ro, .const 0, .any⟩, ⟨15, 0, .ro, .const 0, .any⟩]⟩,
  -- FLOW_W1 (R520)
  ⟨0x40501004, [(512, 0x10)], [⟨31, 24, .ro, .const 0, .any⟩, ⟨23, 16, .ro, .const 0, .any⟩, ⟨12, 0, .ro, .const 0, .any⟩]⟩,
  -- FLOW_W2 (R520)
  ⟨0x40501008, [(512, 0x10)], [⟨31, 16, .ro, .const 0, .any⟩, ⟨15, 0, .ro, .const 0, .any⟩]⟩,
  -- FLOW_W3 (R520)
  ⟨0x4050100C, [(512, 0x10)], [⟨15, 0, .ro, .const 0, .any⟩]⟩]

/-- Registers of EMAC. -/
def regsEmac : List RegDesc := [
  -- MODE (R538)
  ⟨0x40100010, [(4, 0x10000)], [⟨31, 31, .rw, .const 0, .any⟩, ⟨8, 8, .rw, .const 1, .any⟩, ⟨3, 0, .rw, .const 0, .any⟩]⟩,
  -- STATUS (R538)
  ⟨0x40100014, [(4, 0x10000)], [⟨31, 31, .ro, .const 0, .any⟩, ⟨30, 28, .ro, .const 0, .any⟩, ⟨27, 27, .ro, .const 0, .any⟩, ⟨26, 24, .ro, .const 0, .any⟩, ⟨0, 0, .w1c, .const 0, .any⟩]⟩,
  -- RX_CFG (R539)
  ⟨0x40100018, [(4, 0x10000)], [⟨31, 31, .rw, .const 0, .any⟩, ⟨23, 16, .rw, .const 0, .any⟩, ⟨13, 0, .rw, .const 0x5f2, .btw 64 11458⟩]⟩,
  -- FC_CFG (R539)
  ⟨0x4010001C, [(4, 0x10000)], [⟨31, 31, .rw, .const 0, .any⟩, ⟨30, 30, .rw, .const 0, .any⟩, ⟨29, 29, .rw, .const 0, .any⟩, ⟨7, 0, .rw, .const 0xc0, .btw 48 240⟩]⟩,
  -- TX_CFG (R539)
  ⟨0x40100020, [(4, 0x10000)], [⟨0, 0, .rw, .const 0, .any⟩]⟩,
  -- EQ_PRESET (R540)
  ⟨0x40100040, [(4, 0x10000), (8, 0x4)], [⟨31, 31, .rwl, .table2 [1, 1, 1, 1, 0, 0, 0, 0], .any⟩, ⟨30, 30, .w1c, .const 0, .any⟩, ⟨20, 16, .rwl, .const 0, .any⟩, ⟨12, 8, .rwl, .const 0, .any⟩, ⟨4, 0, .rwl, .const 0, .any⟩]⟩,
  -- EQ_CFG (R540)
  ⟨0x40100060, [(4, 0x10000)], [⟨15, 0, .rw, .const 0x10, .nz⟩]⟩,
  -- SECY_CFG (R541)
  ⟨0x40100100, [(4, 0x10000)], [⟨31, 31, .rw, .const 0, .any⟩, ⟨30, 29, .rw, .const 2, .btw 0 2⟩, ⟨28, 27, .rw, .const 0, .any⟩, ⟨26, 25, .rw, .const 0, .btw 0 2⟩, ⟨24, 24, .rw, .const 1, .any⟩, ⟨23, 22, .rw, .const 0, .any⟩, ⟨3, 0, .rw, .const 0, .any⟩]⟩,
  -- TX_SCI_LO (R541)
  ⟨0x40100104, [(4, 0x10000)], [⟨31, 0, .rw, .const 0, .any⟩]⟩,
  -- TX_SCI_HI (R541)
  ⟨0x40100108, [(4, 0x10000)], [⟨31, 0, .rw, .const 0, .any⟩]⟩,
  -- REPLAY_WIN (R541)
  ⟨0x4010010C, [(4, 0x10000)], [⟨31, 0, .rw, .const 0, .any⟩]⟩,
  -- TX_SA (R542)
  ⟨0x40100110, [(4, 0x10000), (4, 0x4)], [⟨31, 31, .rw, .const 0, .any⟩, ⟨12, 0, .rw, .const 0, .any⟩]⟩,
  -- BYPASS_ETYPE (R542)
  ⟨0x40100130, [(4, 0x10000), (4, 0x4)], [⟨15, 0, .rw, .const 0, .any⟩]⟩,
  -- RXSC_SCI_LO (R542)
  ⟨0x40100200, [(4, 0x10000), (16, 0x20)], [⟨31, 0, .rw, .const 0, .any⟩]⟩,
  -- RXSC_SCI_HI (R542)
  ⟨0x40100204, [(4, 0x10000), (16, 0x20)], [⟨31, 0, .rw, .const 0, .any⟩]⟩,
  -- RXSC_CTRL (R542)
  ⟨0x40100208, [(4, 0x10000), (16, 0x20)], [⟨31, 31, .rw, .const 0, .any⟩]⟩,
  -- RX_SA (R542)
  ⟨0x4010020C, [(4, 0x10000), (16, 0x20), (4, 0x4)], [⟨31, 31, .rw, .const 0, .any⟩, ⟨12, 0, .rw, .const 0, .any⟩]⟩]

/-- Registers of HOSTP. -/
def regsHostp0 : List RegDesc := [
  -- CFG (R556)
  ⟨0x400C0010, [], [⟨31, 30, .ro, .const 0, .any⟩, ⟨26, 24, .rwl, .const 4, .btw 1 4⟩, ⟨9, 0, .rwl, .const 0x200, .nzBtw 1 512⟩]⟩,
  -- IDS (R556)
  ⟨0x400C0014, [], [⟨31, 16, .rwl, .const 0x9640, .any⟩, ⟨15, 0, .rwl, .const 0, .any⟩]⟩,
  -- SUBSYS (R556)
  ⟨0x400C0018, [], [⟨31, 16, .rwl, .const 0, .any⟩, ⟨15, 0, .rwl, .const 0, .any⟩]⟩,
  -- CLASS (R556)
  ⟨0x400C001C, [], [⟨23, 0, .rwl, .const 0x28000, .any⟩]⟩,
  -- LINK (R556)
  ⟨0x400C0020, [], [⟨31, 31, .ro, .const 0, .any⟩, ⟨26, 24, .ro, .const 0, .any⟩, ⟨21, 20, .ro, .const 0, .any⟩, ⟨18, 16, .ro, .const 0, .any⟩, ⟨5, 0, .ro, .const 0, .any⟩]⟩,
  -- PM_CFG (R556)
  ⟨0x400C0024, [], [⟨1, 1, .rwl, .const 0, .any⟩, ⟨0, 0, .rwl, .const 1, .any⟩]⟩,
  -- RC_ADDR_LO (R556)
  ⟨0x400C0030, [], [⟨31, 0, .rw, .const 0, .any⟩]⟩,
  -- RC_ADDR_HI (R556)
  ⟨0x400C0034, [], [⟨31, 31, .rw, .const 0, .any⟩, ⟨30, 30, .rw, .const 0, .any⟩, ⟨29, 0, .rw, .const 0, .any⟩]⟩,
  -- RC_DATA (R556)
  ⟨0x400C0038, [], [⟨31, 0, .rw, .const 0, .any⟩]⟩,
  -- RC_STATUS (R556)
  ⟨0x400C003C, [], [⟨31, 31, .ro, .const 0, .any⟩, ⟨3, 0, .ro, .const 0, .any⟩]⟩,
  -- TXR_BASE_LO (R557)
  ⟨0x400C1000, [(256, 0x20)], [⟨31, 0, .rw, .const 0, .any⟩]⟩,
  -- TXR_BASE_HI (R557)
  ⟨0x400C1004, [(256, 0x20)], [⟨31, 0, .rw, .const 0, .any⟩]⟩,
  -- TXR_CQ_LO (R557)
  ⟨0x400C1008, [(256, 0x20)], [⟨31, 0, .rw, .const 0, .any⟩]⟩,
  -- TXR_CQ_HI (R557)
  ⟨0x400C100C, [(256, 0x20)], [⟨31, 0, .rw, .const 0, .any⟩]⟩,
  -- TXR_CTRL (R557)
  ⟨0x400C1010, [(256, 0x20)], [⟨31, 31, .rw, .const 0, .any⟩, ⟨30, 30, .rw, .const 0, .any⟩, ⟨28, 16, .rw, .const 0, .any⟩, ⟨15, 10, .rw, .const 0, .any⟩, ⟨8, 0, .rw, .index 0, .any⟩]⟩,
  -- TXR_IDX (R557)
  ⟨0x400C1014, [(256, 0x20)], [⟨31, 16, .ro, .const 0, .any⟩, ⟨15, 0, .rw, .const 0, .any⟩]⟩,
  -- TXR_CQ_IDX (R557)
  ⟨0x400C1018, [(256, 0x20)], [⟨31, 16, .rw, .const 0, .any⟩, ⟨15, 0, .ro, .const 0, .any⟩]⟩,
  -- TXR_COAL (R557)
  ⟨0x400C101C, [(256, 0x20)], [⟨31, 16, .rw, .const 0, .any⟩, ⟨15, 8, .rw, .const 1, .nz⟩, ⟨0, 0, .w1c, .const 0, .any⟩]⟩,
  -- MSIX_TABLE (R544)
  ⟨0x400C8000, [(512, 0x10), (3, 0x4)], [⟨31, 0, .rw, .const 0, .any⟩]⟩,
  -- MSIX_CTRL (R544)
  ⟨0x400C800C, [(512, 0x10)], [⟨0, 0, .rw, .const 1, .any⟩]⟩]

/-- Registers of HOSTP. -/
def regsHostp1 : List RegDesc := [
  -- MSIX_PBA (R544)
  ⟨0x400CA000, [(16, 0x4)], [⟨31, 0, .ro, .const 0, .any⟩]⟩,
  -- RXR_BASE_LO (R557)
  ⟨0x400C3000, [(256, 0x20)], [⟨31, 0, .rw, .const 0, .any⟩]⟩,
  -- RXR_BASE_HI (R557)
  ⟨0x400C3004, [(256, 0x20)], [⟨31, 0, .rw, .const 0, .any⟩]⟩,
  -- RXR_CQ_LO (R557)
  ⟨0x400C3008, [(256, 0x20)], [⟨31, 0, .rw, .const 0, .any⟩]⟩,
  -- RXR_CQ_HI (R557)
  ⟨0x400C300C, [(256, 0x20)], [⟨31, 0, .rw, .const 0, .any⟩]⟩,
  -- RXR_CTRL (R557)
  ⟨0x400C3010, [(256, 0x20)], [⟨31, 31, .rw, .const 0, .any⟩, ⟨30, 30, .rw, .const 0, .any⟩, ⟨28, 16, .rw, .const 0, .any⟩, ⟨15, 10, .rw, .const 0, .any⟩, ⟨8, 0, .rw, .index 256, .any⟩]⟩,
  -- RXR_IDX (R557)
  ⟨0x400C3014, [(256, 0x20)], [⟨31, 16, .ro, .const 0, .any⟩, ⟨15, 0, .rw, .const 0, .any⟩]⟩,
  -- RXR_CQ_IDX (R557)
  ⟨0x400C3018, [(256, 0x20)], [⟨31, 16, .rw, .const 0, .any⟩, ⟨15, 0, .ro, .const 0, .any⟩]⟩,
  -- RXR_COAL (R557)
  ⟨0x400C301C, [(256, 0x20)], [⟨31, 16, .rw, .const 0, .any⟩, ⟨15, 8, .rw, .const 1, .nz⟩, ⟨0, 0, .w1c, .const 0, .any⟩]⟩]

/-- Registers of HOSTP. -/
def regsHostp : List RegDesc := regsHostp0 ++ regsHostp1

/-- Registers of DRAMC. -/
def regsDramc : List RegDesc := [
  -- CFG (R566)
  ⟨0x400B0010, [], [⟨31, 31, .rwl, .const 0, .any⟩, ⟨27, 24, .rwl, .const 0, .btw 0 5⟩, ⟨21, 20, .rwl, .const 0, .btw 1 2⟩, ⟨18, 16, .rwl, .const 0, .btw 0 3⟩, ⟨8, 8, .rwl, .const 0, .any⟩]⟩,
  -- STATUS (R566)
  ⟨0x400B0014, [], [⟨31, 31, .ro, .const 0, .any⟩, ⟨30, 30, .ro, .const 0, .any⟩, ⟨29, 28, .ro, .const 0, .any⟩, ⟨27, 27, .ro, .const 0, .any⟩, ⟨25, 24, .ro, .const 0, .any⟩, ⟨14, 0, .ro, .const 0, .any⟩]⟩,
  -- PD_CFG (R566)
  ⟨0x400B0018, [], [⟨15, 0, .rw, .const 0x64, .any⟩]⟩,
  -- SCRUB (R566)
  ⟨0x400B001C, [], [⟨15, 8, .rw, .const 3, .nz⟩, ⟨7, 0, .rw, .const 0x18, .any⟩]⟩,
  -- CE_ADDR_LO (R566)
  ⟨0x400B0020, [], [⟨31, 0, .ro, .const 0, .any⟩]⟩,
  -- CE_ADDR_HI (R566)
  ⟨0x400B0024, [], [⟨2, 0, .ro, .const 0, .any⟩]⟩,
  -- UE_ADDR_LO (R566)
  ⟨0x400B0028, [], [⟨31, 0, .ro, .const 0, .any⟩]⟩,
  -- UE_ADDR_HI (R566)
  ⟨0x400B002C, [], [⟨2, 0, .ro, .const 0, .any⟩]⟩,
  -- RETRAIN (R566)
  ⟨0x400B0030, [], [⟨0, 0, .wo, .const 0, .any⟩]⟩,
  -- PPR (R566)
  ⟨0x400B0040, [(8, 0x4)], [⟨31, 31, .rw, .const 0, .any⟩, ⟨30, 30, .ro, .const 0, .any⟩, ⟨29, 29, .rw, .const 0, .any⟩, ⟨27, 24, .rw, .const 0, .any⟩, ⟨17, 0, .rw, .const 0, .any⟩]⟩,
  -- PPR_USED (R566)
  ⟨0x400B0060, [], [⟨31, 16, .ro, .const 0, .any⟩, ⟨15, 0, .ro, .const 0, .any⟩]⟩]

/-- Registers of KEYS. -/
def regsKeys : List RegDesc := [
  -- CMD (R604)
  ⟨0x40060010, [], [⟨31, 28, .wo, .const 0, .any⟩, ⟨12, 0, .wo, .const 0, .any⟩]⟩,
  -- STATUS (R604)
  ⟨0x40060014, [], [⟨31, 31, .ro, .const 0, .any⟩, ⟨3, 0, .ro, .const 0, .any⟩]⟩,
  -- KEY_DATA (R604)
  ⟨0x40060020, [(8, 0x4)], [⟨31, 0, .wo, .const 0, .any⟩]⟩,
  -- SLOT_CFG (R604)
  ⟨0x40060040, [], [⟨13, 8, .rw, .const 0, .any⟩, ⟨5, 4, .rw, .const 1, .btw 0 2⟩, ⟨1, 0, .rw, .const 0, .btw 0 2⟩]⟩,
  -- PN_INIT_LO (R604)
  ⟨0x40060044, [], [⟨31, 0, .rw, .const 0, .any⟩]⟩,
  -- PN_INIT_HI (R604)
  ⟨0x40060048, [], [⟨31, 0, .rw, .const 0, .any⟩]⟩,
  -- SLOT_STATE (R605)
  ⟨0x40060050, [], [⟨31, 0, .ro, .const 0, .any⟩]⟩,
  -- TX_PN_LO (R605)
  ⟨0x40060054, [], [⟨31, 0, .ro, .const 0, .any⟩]⟩,
  -- TX_PN_HI (R605)
  ⟨0x40060058, [], [⟨31, 0, .ro, .const 0, .any⟩]⟩,
  -- LC (R606)
  ⟨0x40060060, [], [⟨9, 8, .ro, .const 0, .any⟩, ⟨4, 4, .ro, .const 0, .any⟩, ⟨3, 3, .ro, .const 0, .any⟩, ⟨2, 0, .ro, .const 0, .any⟩]⟩,
  -- LC_CMD (R606)
  ⟨0x40060064, [], [⟨3, 0, .wo, .const 0, .any⟩]⟩,
  -- LC_STATUS (R606)
  ⟨0x40060068, [], [⟨31, 31, .ro, .const 0, .any⟩, ⟨3, 0, .ro, .const 0, .any⟩]⟩,
  -- ENTROPY (R606)
  ⟨0x4006006C, [], [⟨31, 16, .ro, .const 0, .any⟩, ⟨0, 0, .ro, .const 1, .any⟩]⟩,
  -- OWNER_HASH (R606)
  ⟨0x40060080, [(12, 0x4)], [⟨31, 0, .rw, .const 0, .any⟩]⟩,
  -- FUSED_HASH (R606)
  ⟨0x400600C0, [(12, 0x4)], [⟨31, 0, .ro, .const 0, .any⟩]⟩,
  -- DEVICE_ID (R606)
  ⟨0x40060100, [(12, 0x4)], [⟨31, 0, .ro, .const 0, .any⟩]⟩,
  -- ED_PUB (R606)
  ⟨0x40060140, [(8, 0x4)], [⟨31, 0, .ro, .const 0, .any⟩]⟩,
  -- MLDSA_PUB (R606)
  ⟨0x40061000, [(488, 0x4)], [⟨31, 0, .ro, .const 0, .any⟩]⟩]

/-- Registers of DBG. -/
def regsDbg : List RegDesc := [
  -- CHAL (R608)
  ⟨0x40040010, [(8, 0x4)], [⟨31, 0, .ro, .const 0, .any⟩]⟩,
  -- CMD (R608)
  ⟨0x40040030, [], [⟨2, 2, .wo, .const 0, .any⟩, ⟨1, 1, .wo, .const 0, .any⟩, ⟨0, 0, .wo, .const 0, .any⟩]⟩,
  -- STATUS (R608)
  ⟨0x40040034, [], [⟨31, 31, .ro, .const 0, .any⟩, ⟨15, 8, .ro, .const 0, .any⟩, ⟨7, 4, .ro, .const 0, .any⟩, ⟨1, 0, .ro, .const 0, .any⟩]⟩,
  -- MAIL (R608)
  ⟨0x40041000, [(2048, 0x4)], [⟨31, 0, .wo, .const 0, .any⟩]⟩]

/-- Registers of SEAL. -/
def regsSeal : List RegDesc := [
  -- FW_BASE_LO (R609)
  ⟨0x40070010, [], [⟨31, 0, .rw, .const 0, .any⟩]⟩,
  -- FW_BASE_HI (R609)
  ⟨0x40070014, [], [⟨2, 0, .rw, .const 0, .any⟩]⟩,
  -- FW_CFG (R609)
  ⟨0x40070018, [], [⟨31, 31, .rw, .const 0, .any⟩, ⟨28, 16, .rw, .const 0x40, .nzBtw 16 4096⟩, ⟨8, 0, .rw, .const 0, .any⟩]⟩,
  -- FW_IDX (R609)
  ⟨0x4007001C, [], [⟨31, 16, .ro, .const 0, .any⟩, ⟨15, 0, .rw, .const 0, .any⟩]⟩,
  -- CQ_BASE_LO (R609)
  ⟨0x40070020, [], [⟨31, 0, .rw, .const 0, .any⟩]⟩,
  -- CQ_BASE_HI (R609)
  ⟨0x40070024, [], [⟨2, 0, .rw, .const 0, .any⟩]⟩,
  -- CQ_IDX (R609)
  ⟨0x40070028, [], [⟨31, 16, .rw, .const 0, .any⟩, ⟨15, 0, .ro, .const 0, .any⟩]⟩,
  -- PIPE_STATUS (R609)
  ⟨0x40070030, [], [⟨4, 0, .ro, .const 0, .any⟩]⟩]

/-- Registers of DISPATCH. -/
def regsDispatch : List RegDesc := [
  -- CTRL (R639)
  ⟨0x40090010, [], [⟨31, 16, .rw, .const 0x3e8, .any⟩, ⟨7, 0, .rw, .const 0, .any⟩]⟩,
  -- CORE_MAP (R639)
  ⟨0x40090014, [], [⟨24, 16, .ro, .const 0, .any⟩, ⟨8, 0, .ro, .const 0xff, .any⟩]⟩,
  -- SW_ENTRY_LO (R639)
  ⟨0x40090018, [], [⟨31, 0, .rwl, .const 0, .any⟩]⟩,
  -- SW_ENTRY_HI (R639)
  ⟨0x4009001C, [], [⟨2, 0, .rwl, .const 0, .any⟩]⟩,
  -- POOL (R639)
  ⟨0x40090020, [], [⟨31, 17, .ro, .const 0x4000, .any⟩, ⟨16, 0, .ro, .const 0x10000, .any⟩]⟩,
  -- CORE_STATUS (R641)
  ⟨0x40090100, [(9, 0x4)], [⟨31, 29, .ro, .table [1, 1, 1, 1, 1, 1, 1, 1, 0], .any⟩, ⟨28, 24, .ro, .const 0, .any⟩, ⟨9, 0, .ro, .const 0, .any⟩]⟩,
  -- MQ_W0 (R642)
  ⟨0x40091000, [(256, 0x8)], [⟨31, 31, .rw, .const 0, .any⟩, ⟨10, 0, .rw, .const 0, .any⟩]⟩,
  -- MQ_W1 (R642)
  ⟨0x40091004, [(256, 0x8)], [⟨26, 16, .ro, .const 0, .any⟩, ⟨9, 0, .ro, .const 0, .any⟩]⟩,
  -- TH_W0 (R643)
  ⟨0x40094000, [(1024, 0x20)], [⟨31, 29, .ro, .const 0, .any⟩, ⟨28, 24, .rw, .const 0, .any⟩, ⟨21, 21, .ro, .const 0, .any⟩, ⟨20, 20, .ro, .const 0, .any⟩, ⟨15, 12, .ro, .const 0, .any⟩, ⟨8, 0, .rw, .const 0xff, .any⟩]⟩,
  -- TH_CTX (R643)
  ⟨0x40094004, [(1024, 0x20)], [⟨31, 0, .rw, .const 0, .any⟩]⟩,
  -- TH_EVENTS (R643)
  ⟨0x40094008, [(1024, 0x20)], [⟨31, 0, .ro, .const 0, .any⟩]⟩,
  -- TH_MASK (R643)
  ⟨0x4009400C, [(1024, 0x20)], [⟨31, 0, .ro, .const 0, .any⟩]⟩,
  -- TH_WAIT (R643)
  ⟨0x40094010, [(1024, 0x20)], [⟨31, 28, .ro, .const 0, .any⟩, ⟨7, 0, .ro, .const 0, .any⟩]⟩,
  -- TH_WAKE_LO (R643)
  ⟨0x40094014, [(1024, 0x20)], [⟨31, 0, .ro, .const 0, .any⟩]⟩,
  -- TH_WAKE_HI (R643)
  ⟨0x40094018, [(1024, 0x20)], [⟨31, 0, .ro, .const 0, .any⟩]⟩,
  -- TH_W7 (R643)
  ⟨0x4009401C, [(1024, 0x20)], [⟨26, 16, .rw, .const 0x40, .nzBtw 1 1024⟩, ⟨10, 0, .ro, .const 0, .any⟩]⟩,
  -- VROUTE (R644)
  ⟨0x4009C000, [(512, 0x4)], [⟨31, 30, .rw, .const 0, .btw 0 2⟩, ⟨28, 24, .rw, .const 0, .any⟩, ⟨9, 0, .rw, .const 0, .any⟩]⟩]

/-- Registers of PIGEON. -/
def regsPigeon : List RegDesc := [
  -- LEVELS (R646)
  ⟨0x400A0010, [], [⟨31, 0, .ro, .const 0, .any⟩]⟩,
  -- CFG (R646)
  ⟨0x400A0100, [(32, 0x40)], [⟨31, 31, .rw, .const 0, .any⟩, ⟨30, 29, .rw, .const 2, .btw 0 2⟩, ⟨28, 28, .rw, .const 0, .any⟩, ⟨19, 16, .rw, .const 6, .btw 6 15⟩, ⟨10, 0, .rw, .const 1, .any⟩]⟩,
  -- BASE_LO (R646)
  ⟨0x400A0104, [(32, 0x40)], [⟨31, 0, .rw, .const 0, .any⟩]⟩,
  -- BASE_HI (R646)
  ⟨0x400A0108, [(32, 0x40)], [⟨2, 0, .rw, .const 0, .any⟩]⟩,
  -- IRQ (R646)
  ⟨0x400A010C, [(32, 0x40)], [⟨24, 16, .rw, .index 480, .any⟩, ⟨15, 0, .rw, .const 0, .any⟩]⟩,
  -- PROD (R646)
  ⟨0x400A0110, [(32, 0x40)], [⟨31, 31, .ro, .const 1, .any⟩, ⟨30, 16, .ro, .const 0x20, .any⟩, ⟨14, 0, .ro, .const 0, .any⟩]⟩,
  -- COMMIT (R646)
  ⟨0x400A0114, [(32, 0x40)], [⟨31, 31, .wo, .const 0, .any⟩, ⟨14, 0, .wo, .const 0, .any⟩]⟩,
  -- PROD_RESULT (R646)
  ⟨0x400A0118, [(32, 0x40)], [⟨3, 0, .ro, .const 0, .any⟩]⟩,
  -- HEAD (R646)
  ⟨0x400A011C, [(32, 0x40)], [⟨30, 16, .ro, .const 0, .any⟩, ⟨14, 0, .ro, .const 0, .any⟩]⟩,
  -- CONS_OP (R646)
  ⟨0x400A0120, [(32, 0x40)], [⟨2, 0, .wo, .const 0, .btw 1 4⟩]⟩,
  -- CONS_STATUS (R646)
  ⟨0x400A0124, [(32, 0x40)], [⟨31, 31, .ro, .const 0, .any⟩, ⟨30, 30, .ro, .const 0, .any⟩, ⟨29, 27, .ro, .const 0, .any⟩, ⟨26, 16, .ro, .const 0, .any⟩, ⟨14, 0, .ro, .const 0, .any⟩]⟩]

/-- The registers of the block whose 64 KiB window number is `b` (address bits [23:16]). -/
def regsOfBlock (b : Nat) : List RegDesc :=
  if b = 0x00 then regsSysctl else if b = 0x01 then regsCkgen else if b = 0x02 then regsPmu
  else if b = 0x03 then regsFault else if b = 0x04 then regsDbg else if b = 0x05 then regsNvmc
  else if b = 0x06 then regsKeys else if b = 0x07 then regsSeal else if b = 0x08 then regsPostmark
  else if b = 0x09 then regsDispatch else if b = 0x0A then regsPigeon else if b = 0x0B then regsDramc
  else if b = 0x0C then regsHostp else if 0x10 ≤ b ∧ b ≤ 0x13 then regsEmac
  else if 0x20 ≤ b ∧ b ≤ 0x2F then regsSort else if 0x30 ≤ b ∧ b ≤ 0x3F then regsTables
  else if 0x40 ≤ b ∧ b ≤ 0x4F then regsTm else if b = 0x50 then regsRegsvc
  else if 0x60 ≤ b ∧ b ≤ 0x6F then regsWmac else if b = 0x70 then regsRounds else if b = 0x80 then regsLdpc
  else if 0x90 ≤ b ∧ b ≤ 0xBF then regsRadio else if b = 0xC0 then regsNgr else if b = 0xD0 then regsNgl
  else []

/-- The 64-bit statistics counters: base address and index ranges (count, stride) of each. -/
def counterMap : List (Nat × List (Nat × Nat)) := [
  (0x40030800, [(65, 0x8)]),
  (0x40032000, []),
  (0x40032008, []),
  (0x40032010, []),
  (0x40900800, [(3, 0x100000)]),
  (0x40900808, [(3, 0x100000)]),
  (0x40900810, [(3, 0x100000)]),
  (0x40900818, [(3, 0x100000)]),
  (0x40901800, [(3, 0x100000)]),
  (0x40901808, [(3, 0x100000)]),
  (0x40901810, [(3, 0x100000)]),
  (0x40901818, [(3, 0x100000)]),
  (0x40901820, [(3, 0x100000)]),
  (0x40901828, [(3, 0x100000)]),
  (0x40901830, [(3, 0x100000)]),
  (0x40901838, [(3, 0x100000)]),
  (0x40800100, [(3, 0x8)]),
  (0x40800118, [(3, 0x8)]),
  (0x40800130, []),
  (0x40800138, []),
  (0x40800140, []),
  (0x40800148, []),
  (0x40600800, []),
  (0x40600808, []),
  (0x40600810, []),
  (0x40600818, []),
  (0x40600820, []),
  (0x40600828, []),
  (0x40600830, []),
  (0x40600838, []),
  (0x40600840, []),
  (0x40600848, []),
  (0x40600850, []),
  (0x40600858, []),
  (0x40600860, []),
  (0x40600868, []),
  (0x40600870, []),
  (0x40080080, [(7, 0x8)]),
  (0x40700800, [(3, 0x80)]),
  (0x40700808, [(3, 0x80)]),
  (0x40700810, [(3, 0x80)]),
  (0x40700818, [(3, 0x80)]),
  (0x40700820, [(3, 0x80)]),
  (0x40700828, [(3, 0x80)]),
  (0x40700830, [(3, 0x80)]),
  (0x40700838, [(3, 0x80)]),
  (0x40700840, [(3, 0x80)]),
  (0x40700848, [(3, 0x80)]),
  (0x40700850, [(3, 0x80)]),
  (0x40C00800, []),
  (0x40C00808, []),
  (0x40C00810, []),
  (0x40C00818, []),
  (0x40C00820, []),
  (0x40C00828, []),
  (0x40C00830, []),
  (0x40C00838, []),
  (0x40C00840, []),
  (0x40C00848, []),
  (0x40C00850, []),
  (0x40C00858, []),
  (0x40C00860, []),
  (0x40C00868, []),
  (0x40D00800, []),
  (0x40D00808, []),
  (0x40D00810, []),
  (0x40D00818, []),
  (0x40D00820, []),
  (0x40D00828, []),
  (0x40D00830, []),
  (0x40D00838, []),
  (0x40D00840, []),
  (0x40D00848, []),
  (0x40D00850, []),
  (0x40D00858, []),
  (0x40D00860, []),
  (0x40D00868, []),
  (0x40D00870, []),
  (0x40D00878, []),
  (0x40D00880, []),
  (0x40D00888, []),
  (0x40D00890, []),
  (0x40D00898, []),
  (0x40D008A0, []),
  (0x40D008A8, []),
  (0x40D008B0, []),
  (0x40D008B8, []),
  (0x40D008C0, []),
  (0x40D008C8, []),
  (0x40200800, []),
  (0x40200808, []),
  (0x40200810, []),
  (0x40200818, []),
  (0x40200820, []),
  (0x40200828, []),
  (0x40200830, []),
  (0x40200838, []),
  (0x40200840, []),
  (0x40200848, []),
  (0x40200850, []),
  (0x40200858, []),
  (0x40200860, []),
  (0x40220000, [(256, 0x10)]),
  (0x40220008, [(256, 0x10)]),
  (0x40300800, []),
  (0x40300808, []),
  (0x40300810, []),
  (0x40300818, []),
  (0x40300820, []),
  (0x40300828, []),
  (0x40300830, []),
  (0x40300838, []),
  (0x40300840, []),
  (0x40300848, []),
  (0x40300850, []),
  (0x40300858, []),
  (0x40300860, []),
  (0x40300868, []),
  (0x40300870, []),
  (0x40300878, []),
  (0x40300880, []),
  (0x40300888, []),
  (0x40300890, []),
  (0x40300898, []),
  (0x40400800, []),
  (0x40400808, []),
  (0x40400810, []),
  (0x40400818, []),
  (0x40400820, []),
  (0x40400828, []),
  (0x40400830, []),
  (0x40400838, []),
  (0x40400840, []),
  (0x40400848, []),
  (0x40400850, []),
  (0x40400858, []),
  (0x40400860, []),
  (0x40490000, [(8192, 0x20)]),
  (0x40490008, [(8192, 0x20)]),
  (0x40490010, [(8192, 0x20)]),
  (0x40490018, [(8192, 0x20)]),
  (0x404D0000, [(4096, 0x20)]),
  (0x404D0008, [(4096, 0x20)]),
  (0x404D0010, [(4096, 0x20)]),
  (0x404D0018, [(4096, 0x20)]),
  (0x40500800, []),
  (0x40500808, []),
  (0x40500810, []),
  (0x40500818, []),
  (0x40500820, []),
  (0x40500828, []),
  (0x40500830, []),
  (0x40504000, [(512, 0x20)]),
  (0x40504008, [(512, 0x20)]),
  (0x40504010, [(512, 0x20)]),
  (0x40504018, [(512, 0x20)]),
  (0x40100800, [(4, 0x10000)]),
  (0x40100808, [(4, 0x10000)]),
  (0x40100810, [(4, 0x10000)]),
  (0x40100818, [(4, 0x10000)]),
  (0x40100820, [(4, 0x10000)]),
  (0x40100828, [(4, 0x10000)]),
  (0x40100830, [(4, 0x10000)]),
  (0x40100838, [(4, 0x10000)]),
  (0x40100840, [(4, 0x10000)]),
  (0x40100848, [(4, 0x10000)]),
  (0x40100850, [(4, 0x10000)]),
  (0x40100858, [(4, 0x10000)]),
  (0x40100860, [(4, 0x10000)]),
  (0x40100868, [(4, 0x10000)]),
  (0x40100870, [(4, 0x10000)]),
  (0x40100878, [(4, 0x10000)]),
  (0x40100880, [(4, 0x10000)]),
  (0x40100888, [(4, 0x10000)]),
  (0x40100890, [(4, 0x10000)]),
  (0x40100898, [(4, 0x10000)]),
  (0x401008A0, [(4, 0x10000)]),
  (0x401008A8, [(4, 0x10000)]),
  (0x401008B0, [(4, 0x10000)]),
  (0x401008B8, [(4, 0x10000)]),
  (0x400C0800, []),
  (0x400C0808, []),
  (0x400C0810, []),
  (0x400C0818, []),
  (0x400C0820, []),
  (0x400C0828, []),
  (0x400C0830, []),
  (0x400C0838, []),
  (0x400B0800, []),
  (0x400B0808, []),
  (0x400B0810, []),
  (0x400B0818, []),
  (0x400B0820, []),
  (0x400B0828, []),
  (0x400B0830, []),
  (0x40060800, []),
  (0x40060808, []),
  (0x40060810, []),
  (0x40070800, []),
  (0x40070808, []),
  (0x40070810, []),
  (0x40070818, []),
  (0x40070820, []),
  (0x40090800, [(9, 0x20)]),
  (0x40090808, [(9, 0x20)]),
  (0x40090810, [(9, 0x20)]),
  (0x40090818, [(9, 0x20)]),
  (0x40090A00, []),
  (0x40090A08, []),
  (0x40093000, [(256, 0x8)]),
  (0x400A1000, [(32, 0x20)]),
  (0x400A1008, [(32, 0x20)]),
  (0x400A1010, [(32, 0x20)])]

end Sys2Proof.Machine
end

