-- ==== Sys2Proof/Machine/RegNames.lean ====
section
/-! DEFINITION. Names of the registers (`A`), register fields (`F`) and counters (`C`) that the meanings use; each
address and bit range is that of the register tables of spec/00 to spec/18. -/

namespace Sys2Proof.Machine

/-- SYSCTL.CHIP_ID (R3). -/
def A.SYSCTL_CHIP_ID : Nat := 0x40000010
/-- SYSCTL.STRAPS (R131). -/
def A.SYSCTL_STRAPS : Nat := 0x40000014
/-- Field [5:0] of SYSCTL.STRAPS (R131). -/
def F.SYSCTL_STRAPS_VALUE : Fld := ⟨A.SYSCTL_STRAPS, 0, 6⟩
/-- SYSCTL.RESET_CAUSE (R132). -/
def A.SYSCTL_RESET_CAUSE : Nat := 0x40000018
/-- Field [3:0] of SYSCTL.RESET_CAUSE (R132). -/
def F.SYSCTL_RESET_CAUSE_CAUSE : Fld := ⟨A.SYSCTL_RESET_CAUSE, 0, 4⟩
/-- SYSCTL.RESET (R132). -/
def A.SYSCTL_RESET : Nat := 0x4000001C
/-- SYSCTL.CFG_LOCK (R133). -/
def A.SYSCTL_CFG_LOCK : Nat := 0x40000020
/-- Field [0:0] of SYSCTL.CFG_LOCK (R133). -/
def F.SYSCTL_CFG_LOCK_LOCK : Fld := ⟨A.SYSCTL_CFG_LOCK, 0, 1⟩
/-- SYSCTL.BOOT_STATUS (R135). -/
def A.SYSCTL_BOOT_STATUS : Nat := 0x40000024
/-- Field [31:31] of SYSCTL.BOOT_STATUS (R135). -/
def F.SYSCTL_BOOT_STATUS_CONFIRMED : Fld := ⟨A.SYSCTL_BOOT_STATUS, 31, 1⟩
/-- Field [30:30] of SYSCTL.BOOT_STATUS (R135). -/
def F.SYSCTL_BOOT_STATUS_UNBOUND : Fld := ⟨A.SYSCTL_BOOT_STATUS, 30, 1⟩
/-- Field [29:29] of SYSCTL.BOOT_STATUS (R135). -/
def F.SYSCTL_BOOT_STATUS_RESUMED : Fld := ⟨A.SYSCTL_BOOT_STATUS, 29, 1⟩
/-- Field [28:28] of SYSCTL.BOOT_STATUS (R135). -/
def F.SYSCTL_BOOT_STATUS_SLOT : Fld := ⟨A.SYSCTL_BOOT_STATUS, 28, 1⟩
/-- Field [27:26] of SYSCTL.BOOT_STATUS (R135). -/
def F.SYSCTL_BOOT_STATUS_SLOT_FAIL : Fld := ⟨A.SYSCTL_BOOT_STATUS, 26, 2⟩
/-- Field [25:25] of SYSCTL.BOOT_STATUS (R135). -/
def F.SYSCTL_BOOT_STATUS_HOSTP_LATE : Fld := ⟨A.SYSCTL_BOOT_STATUS, 25, 1⟩
/-- Field [23:16] of SYSCTL.BOOT_STATUS (R135). -/
def F.SYSCTL_BOOT_STATUS_REC_INDEX : Fld := ⟨A.SYSCTL_BOOT_STATUS, 16, 8⟩
/-- Field [15:8] of SYSCTL.BOOT_STATUS (R135). -/
def F.SYSCTL_BOOT_STATUS_CODE : Fld := ⟨A.SYSCTL_BOOT_STATUS, 8, 8⟩
/-- Field [7:0] of SYSCTL.BOOT_STATUS (R135). -/
def F.SYSCTL_BOOT_STATUS_STAGE : Fld := ⟨A.SYSCTL_BOOT_STATUS, 0, 8⟩
/-- SYSCTL.BOOT_CONFIRM (R136). -/
def A.SYSCTL_BOOT_CONFIRM : Nat := 0x40000028
/-- SYSCTL.IMG_SEQ (R136). -/
def A.SYSCTL_IMG_SEQ : Nat := 0x4000002C
/-- SYSCTL.SVN (R136). -/
def A.SYSCTL_SVN : Nat := 0x40000030
/-- Field [17:17] of SYSCTL.SVN (R136). -/
def F.SYSCTL_SVN_ADV_FAILED : Fld := ⟨A.SYSCTL_SVN, 17, 1⟩
/-- Field [16:16] of SYSCTL.SVN (R136). -/
def F.SYSCTL_SVN_ADV_PENDING : Fld := ⟨A.SYSCTL_SVN, 16, 1⟩
/-- Field [15:8] of SYSCTL.SVN (R136). -/
def F.SYSCTL_SVN_FUSE_SVN : Fld := ⟨A.SYSCTL_SVN, 8, 8⟩
/-- Field [7:0] of SYSCTL.SVN (R136). -/
def F.SYSCTL_SVN_IMAGE_SVN : Fld := ⟨A.SYSCTL_SVN, 0, 8⟩
/-- SYSCTL.RST_CFG (R132). -/
def A.SYSCTL_RST_CFG : Nat := 0x40000034
/-- Field [0:0] of SYSCTL.RST_CFG (R132). -/
def F.SYSCTL_RST_CFG_PERST_RESETS : Fld := ⟨A.SYSCTL_RST_CFG, 0, 1⟩
/-- SYSCTL.IMAGE_DIGEST (R137). -/
def A.SYSCTL_IMAGE_DIGEST (n : Nat) : Nat := 0x40000040 + 0x4 * n
/-- SYSCTL.BAR2_WIN (R138). -/
def A.SYSCTL_BAR2_WIN : Nat := 0x40000080
/-- Field [8:0] of SYSCTL.BAR2_WIN (R138). -/
def F.SYSCTL_BAR2_WIN_WIN : Fld := ⟨A.SYSCTL_BAR2_WIN, 0, 9⟩
/-- SYSCTL.RB_CNT (R139). -/
def A.SYSCTL_RB_CNT (n : Nat) : Nat := 0x40000090 + 0x4 * n
/-- SYSCTL.RB_ADV (R139). -/
def A.SYSCTL_RB_ADV : Nat := 0x4000009C
/-- SYSCTL.ABORT (R679). -/
def A.SYSCTL_ABORT : Nat := 0x400000C0
/-- SYSCTL.ABORT_STATUS (R679). -/
def A.SYSCTL_ABORT_STATUS : Nat := 0x400000C4
/-- Field [31:31] of SYSCTL.ABORT_STATUS (R679). -/
def F.SYSCTL_ABORT_STATUS_BUSY : Fld := ⟨A.SYSCTL_ABORT_STATUS, 31, 1⟩
/-- Field [30:30] of SYSCTL.ABORT_STATUS (R679). -/
def F.SYSCTL_ABORT_STATUS_FORCED : Fld := ⟨A.SYSCTL_ABORT_STATUS, 30, 1⟩
/-- Field [12:8] of SYSCTL.ABORT_STATUS (R679). -/
def F.SYSCTL_ABORT_STATUS_QUEUED : Fld := ⟨A.SYSCTL_ABORT_STATUS, 8, 5⟩
/-- Field [3:0] of SYSCTL.ABORT_STATUS (R679). -/
def F.SYSCTL_ABORT_STATUS_RESULT : Fld := ⟨A.SYSCTL_ABORT_STATUS, 0, 4⟩
/-- CKGEN.PLL_CTRL (R95). -/
def A.CKGEN_PLL_CTRL : Nat := 0x40010010
/-- Field [4:0] of CKGEN.PLL_CTRL (R95). -/
def F.CKGEN_PLL_CTRL_EN : Fld := ⟨A.CKGEN_PLL_CTRL, 0, 5⟩
/-- CKGEN.PLL_STATUS (R95). -/
def A.CKGEN_PLL_STATUS : Nat := 0x40010014
/-- Field [17:17] of CKGEN.PLL_STATUS (R95). -/
def F.CKGEN_PLL_STATUS_AO_LOSS : Fld := ⟨A.CKGEN_PLL_STATUS, 17, 1⟩
/-- Field [16:16] of CKGEN.PLL_STATUS (R95). -/
def F.CKGEN_PLL_STATUS_REF_LOSS : Fld := ⟨A.CKGEN_PLL_STATUS, 16, 1⟩
/-- Field [12:8] of CKGEN.PLL_STATUS (R95). -/
def F.CKGEN_PLL_STATUS_UNLOCK : Fld := ⟨A.CKGEN_PLL_STATUS, 8, 5⟩
/-- Field [4:0] of CKGEN.PLL_STATUS (R95). -/
def F.CKGEN_PLL_STATUS_LOCK : Fld := ⟨A.CKGEN_PLL_STATUS, 0, 5⟩
/-- CKGEN.GATE (R96). -/
def A.CKGEN_GATE : Nat := 0x40010020
/-- CKGEN.ACTIVE (R96). -/
def A.CKGEN_ACTIVE : Nat := 0x40010024
/-- Field [15:0] of CKGEN.ACTIVE (R96). -/
def F.CKGEN_ACTIVE_BRANCHES : Fld := ⟨A.CKGEN_ACTIVE, 0, 16⟩
/-- CKGEN.PIN (R96). -/
def A.CKGEN_PIN : Nat := 0x40010028
/-- Field [15:0] of CKGEN.PIN (R96). -/
def F.CKGEN_PIN_BRANCHES : Fld := ⟨A.CKGEN_PIN, 0, 16⟩
/-- CKGEN.IDLE (R97). -/
def A.CKGEN_IDLE : Nat := 0x4001002C
/-- Field [31:16] of CKGEN.IDLE (R97). -/
def F.CKGEN_IDLE_IDLE_TRIM : Fld := ⟨A.CKGEN_IDLE, 16, 16⟩
/-- Field [15:0] of CKGEN.IDLE (R97). -/
def F.CKGEN_IDLE_IDLE_RUN : Fld := ⟨A.CKGEN_IDLE, 0, 16⟩
/-- PMU.STATE (R85). -/
def A.PMU_STATE : Nat := 0x40020010
/-- Field [16:16] of PMU.STATE (R85). -/
def F.PMU_STATE_BUSY : Fld := ⟨A.PMU_STATE, 16, 1⟩
/-- Field [11:8] of PMU.STATE (R85). -/
def F.PMU_STATE_LAST : Fld := ⟨A.PMU_STATE, 8, 4⟩
/-- Field [2:0] of PMU.STATE (R85). -/
def F.PMU_STATE_CUR : Fld := ⟨A.PMU_STATE, 0, 3⟩
/-- PMU.STATE_REQ (R86). -/
def A.PMU_STATE_REQ : Nat := 0x40020014
/-- PMU.WATCH_CFG (R87). -/
def A.PMU_WATCH_CFG : Nat := 0x40020018
/-- Field [23:16] of PMU.WATCH_CFG (R87). -/
def F.PMU_WATCH_CFG_LISTEN : Fld := ⟨A.PMU_WATCH_CFG, 16, 8⟩
/-- Field [15:12] of PMU.WATCH_CFG (R87). -/
def F.PMU_WATCH_CFG_CORE : Fld := ⟨A.PMU_WATCH_CFG, 12, 4⟩
/-- Field [2:2] of PMU.WATCH_CFG (R87). -/
def F.PMU_WATCH_CFG_NGUORD : Fld := ⟨A.PMU_WATCH_CFG, 2, 1⟩
/-- Field [1:0] of PMU.WATCH_CFG (R87). -/
def F.PMU_WATCH_CFG_RADIO : Fld := ⟨A.PMU_WATCH_CFG, 0, 2⟩
/-- PMU.RET_CFG (R88). -/
def A.PMU_RET_CFG : Nat := 0x4002001C
/-- Field [11:11] of PMU.RET_CFG (R88). -/
def F.PMU_RET_CFG_KEY_BANK_EN : Fld := ⟨A.PMU_RET_CFG, 11, 1⟩
/-- Field [10:8] of PMU.RET_CFG (R88). -/
def F.PMU_RET_CFG_KEY_BANK : Fld := ⟨A.PMU_RET_CFG, 8, 3⟩
/-- Field [7:0] of PMU.RET_CFG (R88). -/
def F.PMU_RET_CFG_KEEP : Fld := ⟨A.PMU_RET_CFG, 0, 8⟩
/-- PMU.RET_STATUS (R89). -/
def A.PMU_RET_STATUS : Nat := 0x40020020
/-- Field [15:8] of PMU.RET_STATUS (R89). -/
def F.PMU_RET_STATUS_FAILED : Fld := ⟨A.PMU_RET_STATUS, 8, 8⟩
/-- Field [7:0] of PMU.RET_STATUS (R89). -/
def F.PMU_RET_STATUS_VALID : Fld := ⟨A.PMU_RET_STATUS, 0, 8⟩
/-- PMU.RET_SIG_LO (R90). -/
def A.PMU_RET_SIG_LO (n : Nat) : Nat := 0x40020040 + 0x8 * n
/-- PMU.RET_SIG_HI (R90). -/
def A.PMU_RET_SIG_HI (n : Nat) : Nat := 0x40020044 + 0x8 * n
/-- PMU.WAKE_EN (R91). -/
def A.PMU_WAKE_EN : Nat := 0x40020080
/-- Field [8:0] of PMU.WAKE_EN (R91). -/
def F.PMU_WAKE_EN_SRC : Fld := ⟨A.PMU_WAKE_EN, 0, 9⟩
/-- Field [9:9] of PMU.WAKE_EN (R91). -/
def F.PMU_WAKE_EN_WAKE_IN_POL : Fld := ⟨A.PMU_WAKE_EN, 9, 1⟩
/-- PMU.WAKE_CAUSE (R91). -/
def A.PMU_WAKE_CAUSE : Nat := 0x40020084
/-- Field [23:20] of PMU.WAKE_CAUSE (R91). -/
def F.PMU_WAKE_CAUSE_FIRST_PAT : Fld := ⟨A.PMU_WAKE_CAUSE, 20, 4⟩
/-- Field [19:16] of PMU.WAKE_CAUSE (R91). -/
def F.PMU_WAKE_CAUSE_FIRST_SRC : Fld := ⟨A.PMU_WAKE_CAUSE, 16, 4⟩
/-- Field [8:0] of PMU.WAKE_CAUSE (R91). -/
def F.PMU_WAKE_CAUSE_SRC : Fld := ⟨A.PMU_WAKE_CAUSE, 0, 9⟩
/-- PMU.ALARM (R92). -/
def A.PMU_ALARM : Nat := 0x40020088
/-- PMU.AO_REG (R93). -/
def A.PMU_AO_REG : Nat := 0x40020090
/-- Field [23:16] of PMU.AO_REG (R93). -/
def F.PMU_AO_REG_MAX_BANKS : Fld := ⟨A.PMU_AO_REG, 16, 8⟩
/-- Field [15:8] of PMU.AO_REG (R93). -/
def F.PMU_AO_REG_SLEEP_EST_MA : Fld := ⟨A.PMU_AO_REG, 8, 8⟩
/-- Field [0:0] of PMU.AO_REG (R93). -/
def F.PMU_AO_REG_LP_MODE : Fld := ⟨A.PMU_AO_REG, 0, 1⟩
/-- PMU.AVS_CFG (R94). -/
def A.PMU_AVS_CFG : Nat := 0x400200A0
/-- Field [23:16] of PMU.AVS_CFG (R94). -/
def F.PMU_AVS_CFG_REG_CPU : Fld := ⟨A.PMU_AVS_CFG, 16, 8⟩
/-- Field [15:8] of PMU.AVS_CFG (R94). -/
def F.PMU_AVS_CFG_REG_CORE : Fld := ⟨A.PMU_AVS_CFG, 8, 8⟩
/-- Field [6:0] of PMU.AVS_CFG (R94). -/
def F.PMU_AVS_CFG_PMIC_ADDR : Fld := ⟨A.PMU_AVS_CFG, 0, 7⟩
/-- PMU.AVS_CTRL (R94). -/
def A.PMU_AVS_CTRL : Nat := 0x400200A4
/-- Field [23:16] of PMU.AVS_CTRL (R94). -/
def F.PMU_AVS_CTRL_PERIOD_MS : Fld := ⟨A.PMU_AVS_CTRL, 16, 8⟩
/-- Field [13:8] of PMU.AVS_CTRL (R94). -/
def F.PMU_AVS_CTRL_MARGIN_MV : Fld := ⟨A.PMU_AVS_CTRL, 8, 6⟩
/-- Field [0:0] of PMU.AVS_CTRL (R94). -/
def F.PMU_AVS_CTRL_EN : Fld := ⟨A.PMU_AVS_CTRL, 0, 1⟩
/-- PMU.AVS_STATUS (R94). -/
def A.PMU_AVS_STATUS : Nat := 0x400200A8
/-- Field [17:17] of PMU.AVS_STATUS (R94). -/
def F.PMU_AVS_STATUS_NO_ACK : Fld := ⟨A.PMU_AVS_STATUS, 17, 1⟩
/-- Field [16:16] of PMU.AVS_STATUS (R94). -/
def F.PMU_AVS_STATUS_PENDING : Fld := ⟨A.PMU_AVS_STATUS, 16, 1⟩
/-- Field [13:8] of PMU.AVS_STATUS (R94). -/
def F.PMU_AVS_STATUS_TARGET_CPU : Fld := ⟨A.PMU_AVS_STATUS, 8, 6⟩
/-- Field [5:0] of PMU.AVS_STATUS (R94). -/
def F.PMU_AVS_STATUS_TARGET_CORE : Fld := ⟨A.PMU_AVS_STATUS, 0, 6⟩
/-- PMU.PAT_VALUE (R83). -/
def A.PMU_PAT_VALUE (n : Nat) (w : Nat) : Nat := 0x40021000 + 0x100 * n + 0x4 * w
/-- PMU.PAT_MASK (R83). -/
def A.PMU_PAT_MASK (n : Nat) (w : Nat) : Nat := 0x40021080 + 0x100 * n + 0x4 * w
/-- PMU.PAT_CTRL (R83). -/
def A.PMU_PAT_CTRL (n : Nat) : Nat := 0x40021090 + 0x100 * n
/-- Field [31:21] of PMU.PAT_CTRL (R83). -/
def F.PMU_PAT_CTRL_OFFSET (n : Nat) : Fld := ⟨A.PMU_PAT_CTRL n, 21, 11⟩
/-- Field [19:16] of PMU.PAT_CTRL (R83). -/
def F.PMU_PAT_CTRL_PORTS (n : Nat) : Fld := ⟨A.PMU_PAT_CTRL n, 16, 4⟩
/-- Field [8:8] of PMU.PAT_CTRL (R83). -/
def F.PMU_PAT_CTRL_MAGIC (n : Nat) : Fld := ⟨A.PMU_PAT_CTRL n, 8, 1⟩
/-- Field [7:0] of PMU.PAT_CTRL (R83). -/
def F.PMU_PAT_CTRL_LEN (n : Nat) : Fld := ⟨A.PMU_PAT_CTRL n, 0, 8⟩
/-- FAULT.STATE (R673). -/
def A.FAULT_STATE : Nat := 0x40030020
/-- Field [31:31] of FAULT.STATE (R673). -/
def F.FAULT_STATE_FIRST_VALID : Fld := ⟨A.FAULT_STATE, 31, 1⟩
/-- Field [30:30] of FAULT.STATE (R673). -/
def F.FAULT_STATE_OVERFLOW : Fld := ⟨A.FAULT_STATE, 30, 1⟩
/-- Field [29:29] of FAULT.STATE (R673). -/
def F.FAULT_STATE_INJ_BUSY : Fld := ⟨A.FAULT_STATE, 29, 1⟩
/-- Field [28:28] of FAULT.STATE (R673). -/
def F.FAULT_STATE_RETIRE_BUSY : Fld := ⟨A.FAULT_STATE, 28, 1⟩
/-- Field [3:0] of FAULT.STATE (R673). -/
def F.FAULT_STATE_RETIRE_RESULT : Fld := ⟨A.FAULT_STATE, 0, 4⟩
/-- FAULT.CTRL (R673). -/
def A.FAULT_CTRL : Nat := 0x40030024
/-- Field [8:0] of FAULT.CTRL (R673). -/
def F.FAULT_CTRL_VECTOR : Fld := ⟨A.FAULT_CTRL, 0, 9⟩
/-- FAULT.CLEAR (R673). -/
def A.FAULT_CLEAR : Nat := 0x40030028
/-- FAULT.LOG_IDX (R673). -/
def A.FAULT_LOG_IDX : Nat := 0x4003002C
/-- Field [31:16] of FAULT.LOG_IDX (R673). -/
def F.FAULT_LOG_IDX_WR : Fld := ⟨A.FAULT_LOG_IDX, 16, 16⟩
/-- Field [15:0] of FAULT.LOG_IDX (R673). -/
def F.FAULT_LOG_IDX_RD : Fld := ⟨A.FAULT_LOG_IDX, 0, 16⟩
/-- FAULT.INJ (R674). -/
def A.FAULT_INJ : Nat := 0x40030030
/-- FAULT.INJ_UNIT (R674). -/
def A.FAULT_INJ_UNIT : Nat := 0x40030034
/-- FAULT.FIRST (R672). -/
def A.FAULT_FIRST (n : Nat) : Nat := 0x40030010 + 0x4 * n
/-- FAULT.PENDING (R675). -/
def A.FAULT_PENDING (n : Nat) : Nat := 0x40030040 + 0x4 * n
/-- FAULT.MAP (R677). -/
def A.FAULT_MAP (s : Nat) : Nat := 0x40030400 + 0x4 * s
/-- Field [30:28] of FAULT.MAP (R677). -/
def F.FAULT_MAP_REACT_P (s : Nat) : Fld := ⟨A.FAULT_MAP s, 28, 3⟩
/-- Field [26:24] of FAULT.MAP (R677). -/
def F.FAULT_MAP_REACT_T (s : Nat) : Fld := ⟨A.FAULT_MAP s, 24, 3⟩
/-- Field [19:16] of FAULT.MAP (R677). -/
def F.FAULT_MAP_THRESH (s : Nat) : Fld := ⟨A.FAULT_MAP s, 16, 4⟩
/-- Field [15:0] of FAULT.MAP (R677). -/
def F.FAULT_MAP_WINDOW_MS (s : Nat) : Fld := ⟨A.FAULT_MAP s, 0, 16⟩
/-- FAULT.LOG (R673). -/
def A.FAULT_LOG (i : Nat) (w : Nat) : Nat := 0x40031000 + 0x10 * i + 0x4 * w
/-- FAULT.SRAM_SPARE (R676). -/
def A.FAULT_SRAM_SPARE (k : Nat) : Nat := 0x40030060 + 0x4 * k
/-- Field [31:31] of FAULT.SRAM_SPARE (R676). -/
def F.FAULT_SRAM_SPARE_USED (k : Nat) : Fld := ⟨A.FAULT_SRAM_SPARE k, 31, 1⟩
/-- Field [30:30] of FAULT.SRAM_SPARE (R676). -/
def F.FAULT_SRAM_SPARE_COPYING (k : Nat) : Fld := ⟨A.FAULT_SRAM_SPARE k, 30, 1⟩
/-- Field [5:0] of FAULT.SRAM_SPARE (R676). -/
def F.FAULT_SRAM_SPARE_BANK (k : Nat) : Fld := ⟨A.FAULT_SRAM_SPARE k, 0, 6⟩
/-- FAULT.RETIRE (R676). -/
def A.FAULT_RETIRE : Nat := 0x40030070
/-- NVMC.MODE (R140). -/
def A.NVMC_MODE : Nat := 0x40050010
/-- Field [23:16] of NVMC.MODE (R140). -/
def F.NVMC_MODE_DUMMY : Fld := ⟨A.NVMC_MODE, 16, 8⟩
/-- Field [15:8] of NVMC.MODE (R140). -/
def F.NVMC_MODE_CLK_DIV : Fld := ⟨A.NVMC_MODE, 8, 8⟩
/-- Field [1:0] of NVMC.MODE (R140). -/
def F.NVMC_MODE_PROTO : Fld := ⟨A.NVMC_MODE, 0, 2⟩
/-- NVMC.OP (R141). -/
def A.NVMC_OP : Nat := 0x40050014
/-- NVMC.ADDR (R141). -/
def A.NVMC_ADDR : Nat := 0x40050018
/-- Field [27:0] of NVMC.ADDR (R141). -/
def F.NVMC_ADDR_NVM_ADDR : Fld := ⟨A.NVMC_ADDR, 0, 28⟩
/-- NVMC.MEM (R141). -/
def A.NVMC_MEM : Nat := 0x4005001C
/-- NVMC.LEN (R141). -/
def A.NVMC_LEN : Nat := 0x40050020
/-- Field [24:0] of NVMC.LEN (R141). -/
def F.NVMC_LEN_COUNT : Fld := ⟨A.NVMC_LEN, 0, 25⟩
/-- NVMC.STATUS (R141). -/
def A.NVMC_STATUS : Nat := 0x40050024
/-- Field [7:4] of NVMC.STATUS (R141). -/
def F.NVMC_STATUS_RESULT : Fld := ⟨A.NVMC_STATUS, 4, 4⟩
/-- Field [0:0] of NVMC.STATUS (R141). -/
def F.NVMC_STATUS_BUSY : Fld := ⟨A.NVMC_STATUS, 0, 1⟩
/-- NVMC.PROTECT (R143). -/
def A.NVMC_PROTECT : Nat := 0x40050028
/-- RADIO.SYNTH (R169). -/
def A.RADIO_SYNTH (r : Nat) : Nat := 0x40900100 + 0x100000 * r
/-- Field [18:16] of RADIO.SYNTH (R169). -/
def F.RADIO_SYNTH_BW (r : Nat) : Fld := ⟨A.RADIO_SYNTH r, 16, 3⟩
/-- Field [12:0] of RADIO.SYNTH (R169). -/
def F.RADIO_SYNTH_CENTRE_MHZ (r : Nat) : Fld := ⟨A.RADIO_SYNTH r, 0, 13⟩
/-- RADIO.SYNTH_STATUS (R169). -/
def A.RADIO_SYNTH_STATUS (r : Nat) : Nat := 0x40900104 + 0x100000 * r
/-- Field [3:3] of RADIO.SYNTH_STATUS (R169). -/
def F.RADIO_SYNTH_STATUS_DOZING (r : Nat) : Fld := ⟨A.RADIO_SYNTH_STATUS r, 3, 1⟩
/-- Field [2:2] of RADIO.SYNTH_STATUS (R169). -/
def F.RADIO_SYNTH_STATUS_CAL_BUSY (r : Nat) : Fld := ⟨A.RADIO_SYNTH_STATUS r, 2, 1⟩
/-- Field [1:1] of RADIO.SYNTH_STATUS (R169). -/
def F.RADIO_SYNTH_STATUS_RETUNING (r : Nat) : Fld := ⟨A.RADIO_SYNTH_STATUS r, 1, 1⟩
/-- Field [0:0] of RADIO.SYNTH_STATUS (R169). -/
def F.RADIO_SYNTH_STATUS_LOCK (r : Nat) : Fld := ⟨A.RADIO_SYNTH_STATUS r, 0, 1⟩
/-- RADIO.CHAIN_EN (R170). -/
def A.RADIO_CHAIN_EN (r : Nat) : Nat := 0x40900108 + 0x100000 * r
/-- Field [7:0] of RADIO.CHAIN_EN (R170). -/
def F.RADIO_CHAIN_EN_EN (r : Nat) : Fld := ⟨A.RADIO_CHAIN_EN r, 0, 8⟩
/-- RADIO.CAL_CFG (R171). -/
def A.RADIO_CAL_CFG (r : Nat) : Nat := 0x40900110 + 0x100000 * r
/-- Field [31:31] of RADIO.CAL_CFG (R171). -/
def F.RADIO_CAL_CFG_TRACK_EN (r : Nat) : Fld := ⟨A.RADIO_CAL_CFG r, 31, 1⟩
/-- Field [23:16] of RADIO.CAL_CFG (R171). -/
def F.RADIO_CAL_CFG_DEFER_MS (r : Nat) : Fld := ⟨A.RADIO_CAL_CFG r, 16, 8⟩
/-- Field [4:0] of RADIO.CAL_CFG (R171). -/
def F.RADIO_CAL_CFG_TEMP_STEP (r : Nat) : Fld := ⟨A.RADIO_CAL_CFG r, 0, 5⟩
/-- RADIO.CAL_CMD (R171). -/
def A.RADIO_CAL_CMD (r : Nat) : Nat := 0x40900114 + 0x100000 * r
/-- RADIO.CAL_STATUS (R171). -/
def A.RADIO_CAL_STATUS (r : Nat) : Nat := 0x40900118 + 0x100000 * r
/-- Field [15:8] of RADIO.CAL_STATUS (R171). -/
def F.RADIO_CAL_STATUS_LAST_TEMP (r : Nat) : Fld := ⟨A.RADIO_CAL_STATUS r, 8, 8⟩
/-- Field [3:3] of RADIO.CAL_STATUS (R171). -/
def F.RADIO_CAL_STATUS_EVM_OK (r : Nat) : Fld := ⟨A.RADIO_CAL_STATUS r, 3, 1⟩
/-- Field [2:2] of RADIO.CAL_STATUS (R171). -/
def F.RADIO_CAL_STATUS_OVERDUE (r : Nat) : Fld := ⟨A.RADIO_CAL_STATUS r, 2, 1⟩
/-- Field [1:1] of RADIO.CAL_STATUS (R171). -/
def F.RADIO_CAL_STATUS_DUE (r : Nat) : Fld := ⟨A.RADIO_CAL_STATUS r, 1, 1⟩
/-- Field [0:0] of RADIO.CAL_STATUS (R171). -/
def F.RADIO_CAL_STATUS_BUSY (r : Nat) : Fld := ⟨A.RADIO_CAL_STATUS r, 0, 1⟩
/-- RADIO.CHAIN_STATUS (R172). -/
def A.RADIO_CHAIN_STATUS (r : Nat) (c : Nat) : Nat := 0x40900120 + 0x100000 * r + 0x4 * c
/-- Field [31:31] of RADIO.CHAIN_STATUS (R172). -/
def F.RADIO_CHAIN_STATUS_FAILED (r : Nat) (c : Nat) : Fld := ⟨A.RADIO_CHAIN_STATUS r c, 31, 1⟩
/-- Field [23:16] of RADIO.CHAIN_STATUS (R172). -/
def F.RADIO_CHAIN_STATUS_IRR_DB (r : Nat) (c : Nat) : Fld := ⟨A.RADIO_CHAIN_STATUS r c, 16, 8⟩
/-- Field [15:8] of RADIO.CHAIN_STATUS (R172). -/
def F.RADIO_CHAIN_STATUS_EVM_DB (r : Nat) (c : Nat) : Fld := ⟨A.RADIO_CHAIN_STATUS r c, 8, 8⟩
/-- RADIO.FEM_TIMING (R173). -/
def A.RADIO_FEM_TIMING (r : Nat) : Nat := 0x40900140 + 0x100000 * r
/-- Field [23:16] of RADIO.FEM_TIMING (R173). -/
def F.RADIO_FEM_TIMING_PA_LAG (r : Nat) : Fld := ⟨A.RADIO_FEM_TIMING r, 16, 8⟩
/-- Field [15:8] of RADIO.FEM_TIMING (R173). -/
def F.RADIO_FEM_TIMING_PA_LEAD (r : Nat) : Fld := ⟨A.RADIO_FEM_TIMING r, 8, 8⟩
/-- Field [7:0] of RADIO.FEM_TIMING (R173). -/
def F.RADIO_FEM_TIMING_SW_LEAD (r : Nat) : Fld := ⟨A.RADIO_FEM_TIMING r, 0, 8⟩
/-- RADIO.FEM_OWN_LO (R174). -/
def A.RADIO_FEM_OWN_LO (r : Nat) : Nat := 0x40900144 + 0x100000 * r
/-- RADIO.FEM_OWN_HI (R174). -/
def A.RADIO_FEM_OWN_HI (r : Nat) : Nat := 0x40900148 + 0x100000 * r
/-- RADIO.FEM_FUNC (R174). -/
def A.RADIO_FEM_FUNC (r : Nat) (m : Nat) : Nat := 0x40900180 + 0x100000 * r + 0x4 * m
/-- RADIO.RFFE_CFG (R175). -/
def A.RADIO_RFFE_CFG (r : Nat) : Nat := 0x40900220 + 0x100000 * r
/-- Field [2:2] of RADIO.RFFE_CFG (R175). -/
def F.RADIO_RFFE_CFG_EN (r : Nat) : Fld := ⟨A.RADIO_RFFE_CFG r, 2, 1⟩
/-- Field [1:0] of RADIO.RFFE_CFG (R175). -/
def F.RADIO_RFFE_CFG_BUS (r : Nat) : Fld := ⟨A.RADIO_RFFE_CFG r, 0, 2⟩
/-- RADIO.FEM_GAIN (R175). -/
def A.RADIO_FEM_GAIN (r : Nat) (c : Nat) : Nat := 0x40900240 + 0x100000 * r + 0x4 * c
/-- Field [25:16] of RADIO.FEM_GAIN (R175). -/
def F.RADIO_FEM_GAIN_RX_GAIN (r : Nat) (c : Nat) : Fld := ⟨A.RADIO_FEM_GAIN r c, 16, 10⟩
/-- Field [9:0] of RADIO.FEM_GAIN (R175). -/
def F.RADIO_FEM_GAIN_TX_GAIN (r : Nat) (c : Nat) : Fld := ⟨A.RADIO_FEM_GAIN r c, 0, 10⟩
/-- RADIO.ANT (R175). -/
def A.RADIO_ANT (r : Nat) : Nat := 0x40900260 + 0x100000 * r
/-- Field [9:0] of RADIO.ANT (R175). -/
def F.RADIO_ANT_ANT_GAIN (r : Nat) : Fld := ⟨A.RADIO_ANT r, 0, 10⟩
/-- RADIO.PWR_TABLE (R176). -/
def A.RADIO_PWR_TABLE (r : Nat) (g : Nat) (b : Nat) : Nat := 0x40900400 + 0x100000 * r + 0x14 * g + 0x4 * b
/-- Field [9:0] of RADIO.PWR_TABLE (R176). -/
def F.RADIO_PWR_TABLE_TARGET (r : Nat) (g : Nat) (b : Nat) : Fld := ⟨A.RADIO_PWR_TABLE r g b, 0, 10⟩
/-- RADIO.PWR_CAP (R176). -/
def A.RADIO_PWR_CAP (r : Nat) (b : Nat) : Nat := 0x40900480 + 0x100000 * r + 0x4 * b
/-- Field [25:16] of RADIO.PWR_CAP (R176). -/
def F.RADIO_PWR_CAP_CAP_PSD (r : Nat) (b : Nat) : Fld := ⟨A.RADIO_PWR_CAP r b, 16, 10⟩
/-- Field [9:0] of RADIO.PWR_CAP (R176). -/
def F.RADIO_PWR_CAP_CAP_EIRP (r : Nat) (b : Nat) : Fld := ⟨A.RADIO_PWR_CAP r b, 0, 10⟩
/-- RADIO.BB_MODE (R203). -/
def A.RADIO_BB_MODE (r : Nat) : Nat := 0x40901000 + 0x100000 * r
/-- Field [5:5] of RADIO.BB_MODE (R203). -/
def F.RADIO_BB_MODE_EHT_EN (r : Nat) : Fld := ⟨A.RADIO_BB_MODE r, 5, 1⟩
/-- Field [4:4] of RADIO.BB_MODE (R203). -/
def F.RADIO_BB_MODE_HE_EN (r : Nat) : Fld := ⟨A.RADIO_BB_MODE r, 4, 1⟩
/-- Field [3:3] of RADIO.BB_MODE (R203). -/
def F.RADIO_BB_MODE_VHT_EN (r : Nat) : Fld := ⟨A.RADIO_BB_MODE r, 3, 1⟩
/-- Field [2:2] of RADIO.BB_MODE (R203). -/
def F.RADIO_BB_MODE_HT_EN (r : Nat) : Fld := ⟨A.RADIO_BB_MODE r, 2, 1⟩
/-- Field [0:0] of RADIO.BB_MODE (R203). -/
def F.RADIO_BB_MODE_DSSS_EN (r : Nat) : Fld := ⟨A.RADIO_BB_MODE r, 0, 1⟩
/-- RADIO.DET_CFG (R204). -/
def A.RADIO_DET_CFG (r : Nat) : Nat := 0x40901004 + 0x100000 * r
/-- Field [20:16] of RADIO.DET_CFG (R204). -/
def F.RADIO_DET_CFG_CAP_DB (r : Nat) : Fld := ⟨A.RADIO_DET_CFG r, 16, 5⟩
/-- Field [15:8] of RADIO.DET_CFG (R204). -/
def F.RADIO_DET_CFG_PD_LEVEL (r : Nat) : Fld := ⟨A.RADIO_DET_CFG r, 8, 8⟩
/-- Field [7:0] of RADIO.DET_CFG (R204). -/
def F.RADIO_DET_CFG_ED_LEVEL (r : Nat) : Fld := ⟨A.RADIO_DET_CFG r, 0, 8⟩
/-- RADIO.VEXT_CFG (R205). -/
def A.RADIO_VEXT_CFG (r : Nat) : Nat := 0x40901010 + 0x100000 * r
/-- Field [13:12] of RADIO.VEXT_CFG (R205). -/
def F.RADIO_VEXT_CFG_MAX_BW (r : Nat) : Fld := ⟨A.RADIO_VEXT_CFG r, 12, 2⟩
/-- Field [10:8] of RADIO.VEXT_CFG (R205). -/
def F.RADIO_VEXT_CFG_MAX_NSS (r : Nat) : Fld := ⟨A.RADIO_VEXT_CFG r, 8, 3⟩
/-- Field [3:3] of RADIO.VEXT_CFG (R205). -/
def F.RADIO_VEXT_CFG_V15 (r : Nat) : Fld := ⟨A.RADIO_VEXT_CFG r, 3, 1⟩
/-- Field [2:2] of RADIO.VEXT_CFG (R205). -/
def F.RADIO_VEXT_CFG_V14 (r : Nat) : Fld := ⟨A.RADIO_VEXT_CFG r, 2, 1⟩
/-- Field [1:1] of RADIO.VEXT_CFG (R205). -/
def F.RADIO_VEXT_CFG_TX_EN (r : Nat) : Fld := ⟨A.RADIO_VEXT_CFG r, 1, 1⟩
/-- Field [0:0] of RADIO.VEXT_CFG (R205). -/
def F.RADIO_VEXT_CFG_RX_EN (r : Nat) : Fld := ⟨A.RADIO_VEXT_CFG r, 0, 1⟩
/-- RADIO.CSI_CFG (R206). -/
def A.RADIO_CSI_CFG (r : Nat) : Nat := 0x40901020 + 0x100000 * r
/-- Field [31:31] of RADIO.CSI_CFG (R206). -/
def F.RADIO_CSI_CFG_EN (r : Nat) : Fld := ⟨A.RADIO_CSI_CFG r, 31, 1⟩
/-- Field [23:16] of RADIO.CSI_CFG (R206). -/
def F.RADIO_CSI_CFG_FIFO (r : Nat) : Fld := ⟨A.RADIO_CSI_CFG r, 16, 8⟩
/-- Field [9:8] of RADIO.CSI_CFG (R206). -/
def F.RADIO_CSI_CFG_NG (r : Nat) : Fld := ⟨A.RADIO_CSI_CFG r, 8, 2⟩
/-- Field [2:2] of RADIO.CSI_CFG (R206). -/
def F.RADIO_CSI_CFG_EVERY_N (r : Nat) : Fld := ⟨A.RADIO_CSI_CFG r, 2, 1⟩
/-- Field [1:1] of RADIO.CSI_CFG (R206). -/
def F.RADIO_CSI_CFG_TB (r : Nat) : Fld := ⟨A.RADIO_CSI_CFG r, 1, 1⟩
/-- Field [0:0] of RADIO.CSI_CFG (R206). -/
def F.RADIO_CSI_CFG_NDP (r : Nat) : Fld := ⟨A.RADIO_CSI_CFG r, 0, 1⟩
/-- RADIO.CSI_SEL (R206). -/
def A.RADIO_CSI_SEL (r : Nat) : Nat := 0x40901024 + 0x100000 * r
/-- Field [31:16] of RADIO.CSI_SEL (R206). -/
def F.RADIO_CSI_SEL_EVERY_N (r : Nat) : Fld := ⟨A.RADIO_CSI_SEL r, 16, 16⟩
/-- Field [11:0] of RADIO.CSI_SEL (R206). -/
def F.RADIO_CSI_SEL_STA_ID (r : Nat) : Fld := ⟨A.RADIO_CSI_SEL r, 0, 12⟩
/-- LDPC.ENGINE_MAP (R208). -/
def A.LDPC_ENGINE_MAP : Nat := 0x40800010
/-- Field [29:16] of LDPC.ENGINE_MAP (R208). -/
def F.LDPC_ENGINE_MAP_RETIRED : Fld := ⟨A.LDPC_ENGINE_MAP, 16, 14⟩
/-- Field [13:0] of LDPC.ENGINE_MAP (R208). -/
def F.LDPC_ENGINE_MAP_ACTIVE : Fld := ⟨A.LDPC_ENGINE_MAP, 0, 14⟩
/-- LDPC.RETIRE (R208). -/
def A.LDPC_RETIRE : Nat := 0x40800014
/-- LDPC.ITER_CFG (R209). -/
def A.LDPC_ITER_CFG : Nat := 0x40800018
/-- Field [28:24] of LDPC.ITER_CFG (R209). -/
def F.LDPC_ITER_CFG_MIN_ITER : Fld := ⟨A.LDPC_ITER_CFG, 24, 5⟩
/-- Field [20:16] of LDPC.ITER_CFG (R209). -/
def F.LDPC_ITER_CFG_CAP_BULK : Fld := ⟨A.LDPC_ITER_CFG, 16, 5⟩
/-- Field [12:8] of LDPC.ITER_CFG (R209). -/
def F.LDPC_ITER_CFG_CAP_IMM : Fld := ⟨A.LDPC_ITER_CFG, 8, 5⟩
/-- Field [4:0] of LDPC.ITER_CFG (R209). -/
def F.LDPC_ITER_CFG_CAP_REG : Fld := ⟨A.LDPC_ITER_CFG, 0, 5⟩
/-- LDPC.RESERVE (R210). -/
def A.LDPC_RESERVE : Nat := 0x4080001C
/-- Field [25:16] of LDPC.RESERVE (R210). -/
def F.LDPC_RESERVE_REG_ENTRIES : Fld := ⟨A.LDPC_RESERVE, 16, 10⟩
/-- Field [2:0] of LDPC.RESERVE (R210). -/
def F.LDPC_RESERVE_REG_ENGINES : Fld := ⟨A.LDPC_RESERVE, 0, 3⟩
/-- LDPC.DL_CFG (R210). -/
def A.LDPC_DL_CFG : Nat := 0x40800020
/-- Field [31:16] of LDPC.DL_CFG (R210). -/
def F.LDPC_DL_CFG_BULK_DL_US : Fld := ⟨A.LDPC_DL_CFG, 16, 16⟩
/-- Field [6:0] of LDPC.DL_CFG (R210). -/
def F.LDPC_DL_CFG_IMM_MARGIN : Fld := ⟨A.LDPC_DL_CFG, 0, 7⟩
/-- LDPC.QUEUE (R211). -/
def A.LDPC_QUEUE : Nat := 0x40800024
/-- Field [29:20] of LDPC.QUEUE (R211). -/
def F.LDPC_QUEUE_BULK : Fld := ⟨A.LDPC_QUEUE, 20, 10⟩
/-- Field [19:10] of LDPC.QUEUE (R211). -/
def F.LDPC_QUEUE_IMM : Fld := ⟨A.LDPC_QUEUE, 10, 10⟩
/-- Field [9:0] of LDPC.QUEUE (R211). -/
def F.LDPC_QUEUE_REG : Fld := ⟨A.LDPC_QUEUE, 0, 10⟩
/-- LDPC.BIST_CFG (R211). -/
def A.LDPC_BIST_CFG : Nat := 0x40800028
/-- Field [15:0] of LDPC.BIST_CFG (R211). -/
def F.LDPC_BIST_CFG_PERIOD_MS : Fld := ⟨A.LDPC_BIST_CFG, 0, 16⟩
/-- LDPC.ENG_STATUS (R212). -/
def A.LDPC_ENG_STATUS (e : Nat) : Nat := 0x40800040 + 0x4 * e
/-- Field [31:31] of LDPC.ENG_STATUS (R212). -/
def F.LDPC_ENG_STATUS_RETIRED (e : Nat) : Fld := ⟨A.LDPC_ENG_STATUS e, 31, 1⟩
/-- Field [30:30] of LDPC.ENG_STATUS (R212). -/
def F.LDPC_ENG_STATUS_SPARE (e : Nat) : Fld := ⟨A.LDPC_ENG_STATUS e, 30, 1⟩
/-- Field [29:29] of LDPC.ENG_STATUS (R212). -/
def F.LDPC_ENG_STATUS_BUSY (e : Nat) : Fld := ⟨A.LDPC_ENG_STATUS e, 29, 1⟩
/-- Field [28:28] of LDPC.ENG_STATUS (R212). -/
def F.LDPC_ENG_STATUS_REG_FIRST (e : Nat) : Fld := ⟨A.LDPC_ENG_STATUS e, 28, 1⟩
/-- Field [15:0] of LDPC.ENG_STATUS (R212). -/
def F.LDPC_ENG_STATUS_BIST_FAIL (e : Nat) : Fld := ⟨A.LDPC_ENG_STATUS e, 0, 16⟩
/-- WMAC.CTRL (R250). -/
def A.WMAC_CTRL : Nat := 0x40600010
/-- Field [2:0] of WMAC.CTRL (R250). -/
def F.WMAC_CTRL_SELF_NSTR : Fld := ⟨A.WMAC_CTRL, 0, 3⟩
/-- WMAC.VND_OUI (R250). -/
def A.WMAC_VND_OUI : Nat := 0x40600014
/-- Field [23:0] of WMAC.VND_OUI (R250). -/
def F.WMAC_VND_OUI_OUI : Fld := ⟨A.WMAC_VND_OUI, 0, 24⟩
/-- WMAC.CTX_CMD (R251). -/
def A.WMAC_CTX_CMD : Nat := 0x40600018
/-- WMAC.CTX_STATUS (R251). -/
def A.WMAC_CTX_STATUS : Nat := 0x4060001C
/-- Field [31:31] of WMAC.CTX_STATUS (R251). -/
def F.WMAC_CTX_STATUS_BUSY : Fld := ⟨A.WMAC_CTX_STATUS, 31, 1⟩
/-- Field [13:8] of WMAC.CTX_STATUS (R251). -/
def F.WMAC_CTX_STATUS_WORD : Fld := ⟨A.WMAC_CTX_STATUS, 8, 6⟩
/-- Field [3:0] of WMAC.CTX_STATUS (R251). -/
def F.WMAC_CTX_STATUS_RESULT : Fld := ⟨A.WMAC_CTX_STATUS, 0, 4⟩
/-- WMAC.AMPDU_CFG (R252). -/
def A.WMAC_AMPDU_CFG : Nat := 0x40600020
/-- Field [20:16] of WMAC.AMPDU_CFG (R252). -/
def F.WMAC_AMPDU_CFG_MAX_AMSDU : Fld := ⟨A.WMAC_AMPDU_CFG, 16, 5⟩
/-- Field [4:0] of WMAC.AMPDU_CFG (R252). -/
def F.WMAC_AMPDU_CFG_RETRY_LIMIT : Fld := ⟨A.WMAC_AMPDU_CFG, 0, 5⟩
/-- WMAC.RX_CFG (R252). -/
def A.WMAC_RX_CFG : Nat := 0x40600024
/-- Field [0:0] of WMAC.RX_CFG (R252). -/
def F.WMAC_RX_CFG_TO_8023 : Fld := ⟨A.WMAC_RX_CFG, 0, 1⟩
/-- WMAC.MLD_LO (R253). -/
def A.WMAC_MLD_LO (m : Nat) : Nat := 0x40600100 + 0x8 * m
/-- Field [31:0] of WMAC.MLD_LO (R253). -/
def F.WMAC_MLD_LO_ADDR (m : Nat) : Fld := ⟨A.WMAC_MLD_LO m, 0, 32⟩
/-- WMAC.MLD_HI (R253). -/
def A.WMAC_MLD_HI (m : Nat) : Nat := 0x40600104 + 0x8 * m
/-- Field [15:0] of WMAC.MLD_HI (R253). -/
def F.WMAC_MLD_HI_ADDR (m : Nat) : Fld := ⟨A.WMAC_MLD_HI m, 0, 16⟩
/-- WMAC.STAGE_RW (R254). -/
def A.WMAC_STAGE_RW (w : Nat) : Nat := 0x40600200 + 0x4 * w
/-- WMAC.STAGE_RO (R254). -/
def A.WMAC_STAGE_RO (w : Nat) : Nat := 0x40600278 + 0x4 * w
/-- WMAC.BSS (R255). -/
def A.WMAC_BSS (b : Nat) (w : Nat) : Nat := 0x40610000 + 0x20 * b + 0x4 * w
/-- POSTMARK.LOCAL_LO (R281). -/
def A.POSTMARK_LOCAL_LO : Nat := 0x40080010
/-- POSTMARK.LOCAL_HI (R281). -/
def A.POSTMARK_LOCAL_HI : Nat := 0x40080014
/-- POSTMARK.SEL (R282). -/
def A.POSTMARK_SEL : Nat := 0x40080020
/-- Field [31:31] of POSTMARK.SEL (R282). -/
def F.POSTMARK_SEL_AUTO : Fld := ⟨A.POSTMARK_SEL, 31, 1⟩
/-- Field [16:16] of POSTMARK.SEL (R282). -/
def F.POSTMARK_SEL_CUR : Fld := ⟨A.POSTMARK_SEL, 16, 1⟩
/-- Field [15:8] of POSTMARK.SEL (R282). -/
def F.POSTMARK_SEL_SWITCHES : Fld := ⟨A.POSTMARK_SEL, 8, 8⟩
/-- Field [0:0] of POSTMARK.SEL (R282). -/
def F.POSTMARK_SEL_SEL : Fld := ⟨A.POSTMARK_SEL, 0, 1⟩
/-- POSTMARK.SWITCH_DELTA_NS (R282). -/
def A.POSTMARK_SWITCH_DELTA_NS : Nat := 0x40080024
/-- POSTMARK.SWITCH_DELTA_SEC (R282). -/
def A.POSTMARK_SWITCH_DELTA_SEC : Nat := 0x40080028
/-- POSTMARK.CLK10M_TICKS (R283). -/
def A.POSTMARK_CLK10M_TICKS : Nat := 0x40080030
/-- POSTMARK.CLK10M_STATUS (R283). -/
def A.POSTMARK_CLK10M_STATUS : Nat := 0x40080034
/-- Field [1:1] of POSTMARK.CLK10M_STATUS (R283). -/
def F.POSTMARK_CLK10M_STATUS_NEW : Fld := ⟨A.POSTMARK_CLK10M_STATUS, 1, 1⟩
/-- Field [0:0] of POSTMARK.CLK10M_STATUS (R283). -/
def F.POSTMARK_CLK10M_STATUS_PRESENT : Fld := ⟨A.POSTMARK_CLK10M_STATUS, 0, 1⟩
/-- POSTMARK.PPS_CFG (R283). -/
def A.POSTMARK_PPS_CFG : Nat := 0x40080038
/-- Field [0:0] of POSTMARK.PPS_CFG (R283). -/
def F.POSTMARK_PPS_CFG_EN : Fld := ⟨A.POSTMARK_PPS_CFG, 0, 1⟩
/-- POSTMARK.TSQ_IDX (R287). -/
def A.POSTMARK_TSQ_IDX (q : Nat) : Nat := 0x40080040 + 0x4 * q
/-- Field [31:16] of POSTMARK.TSQ_IDX (R287). -/
def F.POSTMARK_TSQ_IDX_WR (q : Nat) : Fld := ⟨A.POSTMARK_TSQ_IDX q, 16, 16⟩
/-- Field [15:0] of POSTMARK.TSQ_IDX (R287). -/
def F.POSTMARK_TSQ_IDX_RD (q : Nat) : Fld := ⟨A.POSTMARK_TSQ_IDX q, 0, 16⟩
/-- POSTMARK.DOM_CTRL (R284). -/
def A.POSTMARK_DOM_CTRL (d : Nat) : Nat := 0x40080100 + 0x80 * d
/-- Field [31:31] of POSTMARK.DOM_CTRL (R284). -/
def F.POSTMARK_DOM_CTRL_VALID (d : Nat) : Fld := ⟨A.POSTMARK_DOM_CTRL d, 31, 1⟩
/-- Field [30:30] of POSTMARK.DOM_CTRL (R284). -/
def F.POSTMARK_DOM_CTRL_STALE (d : Nat) : Fld := ⟨A.POSTMARK_DOM_CTRL d, 30, 1⟩
/-- Field [15:0] of POSTMARK.DOM_CTRL (R284). -/
def F.POSTMARK_DOM_CTRL_SERVO_TO_MS (d : Nat) : Fld := ⟨A.POSTMARK_DOM_CTRL d, 0, 16⟩
/-- POSTMARK.DOM_INC_FRAC (R284). -/
def A.POSTMARK_DOM_INC_FRAC (d : Nat) : Nat := 0x40080104 + 0x80 * d
/-- POSTMARK.DOM_INC_NS (R284). -/
def A.POSTMARK_DOM_INC_NS (d : Nat) : Nat := 0x40080108 + 0x80 * d
/-- POSTMARK.DOM_NS (R284). -/
def A.POSTMARK_DOM_NS (d : Nat) : Nat := 0x4008010C + 0x80 * d
/-- POSTMARK.DOM_SEC_LO (R284). -/
def A.POSTMARK_DOM_SEC_LO (d : Nat) : Nat := 0x40080110 + 0x80 * d
/-- POSTMARK.DOM_SEC_HI (R284). -/
def A.POSTMARK_DOM_SEC_HI (d : Nat) : Nat := 0x40080114 + 0x80 * d
/-- POSTMARK.DOM_FRAC (R284). -/
def A.POSTMARK_DOM_FRAC (d : Nat) : Nat := 0x40080118 + 0x80 * d
/-- POSTMARK.DOM_SET_NS (R284). -/
def A.POSTMARK_DOM_SET_NS (d : Nat) : Nat := 0x40080120 + 0x80 * d
/-- Field [29:0] of POSTMARK.DOM_SET_NS (R284). -/
def F.POSTMARK_DOM_SET_NS_NS (d : Nat) : Fld := ⟨A.POSTMARK_DOM_SET_NS d, 0, 30⟩
/-- POSTMARK.DOM_SET_SEC_LO (R284). -/
def A.POSTMARK_DOM_SET_SEC_LO (d : Nat) : Nat := 0x40080124 + 0x80 * d
/-- POSTMARK.DOM_SET_SEC_HI (R284). -/
def A.POSTMARK_DOM_SET_SEC_HI (d : Nat) : Nat := 0x40080128 + 0x80 * d
/-- POSTMARK.DOM_ADJ (R284). -/
def A.POSTMARK_DOM_ADJ (d : Nat) : Nat := 0x4008012C + 0x80 * d
/-- POSTMARK.DOM_CMD (R284). -/
def A.POSTMARK_DOM_CMD (d : Nat) : Nat := 0x40080130 + 0x80 * d
/-- POSTMARK.TRG_CTRL (R285). -/
def A.POSTMARK_TRG_CTRL (t : Nat) : Nat := 0x40080400 + 0x20 * t
/-- Field [31:31] of POSTMARK.TRG_CTRL (R285). -/
def F.POSTMARK_TRG_CTRL_EN (t : Nat) : Fld := ⟨A.POSTMARK_TRG_CTRL t, 31, 1⟩
/-- Field [30:29] of POSTMARK.TRG_CTRL (R285). -/
def F.POSTMARK_TRG_CTRL_DOMAIN (t : Nat) : Fld := ⟨A.POSTMARK_TRG_CTRL t, 29, 2⟩
/-- Field [27:24] of POSTMARK.TRG_CTRL (R285). -/
def F.POSTMARK_TRG_CTRL_TARGET (t : Nat) : Fld := ⟨A.POSTMARK_TRG_CTRL t, 24, 4⟩
/-- Field [23:16] of POSTMARK.TRG_CTRL (R285). -/
def F.POSTMARK_TRG_CTRL_ARG (t : Nat) : Fld := ⟨A.POSTMARK_TRG_CTRL t, 16, 8⟩
/-- POSTMARK.TRG_NS (R285). -/
def A.POSTMARK_TRG_NS (t : Nat) : Nat := 0x40080404 + 0x20 * t
/-- POSTMARK.TRG_SEC_LO (R285). -/
def A.POSTMARK_TRG_SEC_LO (t : Nat) : Nat := 0x40080408 + 0x20 * t
/-- POSTMARK.TRG_SEC_HI (R285). -/
def A.POSTMARK_TRG_SEC_HI (t : Nat) : Nat := 0x4008040C + 0x20 * t
/-- POSTMARK.TRG_PERIOD (R285). -/
def A.POSTMARK_TRG_PERIOD (t : Nat) : Nat := 0x40080410 + 0x20 * t
/-- Field [29:0] of POSTMARK.TRG_PERIOD (R285). -/
def F.POSTMARK_TRG_PERIOD_PERIOD (t : Nat) : Fld := ⟨A.POSTMARK_TRG_PERIOD t, 0, 30⟩
/-- POSTMARK.TRG_STATUS (R285). -/
def A.POSTMARK_TRG_STATUS (t : Nat) : Nat := 0x40080414 + 0x20 * t
/-- Field [31:16] of POSTMARK.TRG_STATUS (R285). -/
def F.POSTMARK_TRG_STATUS_SKIPPED (t : Nat) : Fld := ⟨A.POSTMARK_TRG_STATUS t, 16, 16⟩
/-- Field [1:1] of POSTMARK.TRG_STATUS (R285). -/
def F.POSTMARK_TRG_STATUS_LATE (t : Nat) : Fld := ⟨A.POSTMARK_TRG_STATUS t, 1, 1⟩
/-- Field [0:0] of POSTMARK.TRG_STATUS (R285). -/
def F.POSTMARK_TRG_STATUS_FIRED (t : Nat) : Fld := ⟨A.POSTMARK_TRG_STATUS t, 0, 1⟩
/-- POSTMARK.CAP_CTRL (R286). -/
def A.POSTMARK_CAP_CTRL (c : Nat) : Nat := 0x40080600 + 0x20 * c
/-- Field [31:31] of POSTMARK.CAP_CTRL (R286). -/
def F.POSTMARK_CAP_CTRL_EN (c : Nat) : Fld := ⟨A.POSTMARK_CAP_CTRL c, 31, 1⟩
/-- Field [23:16] of POSTMARK.CAP_CTRL (R286). -/
def F.POSTMARK_CAP_CTRL_ARG (c : Nat) : Fld := ⟨A.POSTMARK_CAP_CTRL c, 16, 8⟩
/-- Field [3:0] of POSTMARK.CAP_CTRL (R286). -/
def F.POSTMARK_CAP_CTRL_SOURCE (c : Nat) : Fld := ⟨A.POSTMARK_CAP_CTRL c, 0, 4⟩
/-- POSTMARK.CAP_REC (R286). -/
def A.POSTMARK_CAP_REC (c : Nat) (w : Nat) : Nat := 0x40080604 + 0x20 * c + 0x4 * w
/-- POSTMARK.CAP_STATUS (R286). -/
def A.POSTMARK_CAP_STATUS (c : Nat) : Nat := 0x4008061C + 0x20 * c
/-- Field [1:1] of POSTMARK.CAP_STATUS (R286). -/
def F.POSTMARK_CAP_STATUS_OVR (c : Nat) : Fld := ⟨A.POSTMARK_CAP_STATUS c, 1, 1⟩
/-- Field [0:0] of POSTMARK.CAP_STATUS (R286). -/
def F.POSTMARK_CAP_STATUS_NEW (c : Nat) : Fld := ⟨A.POSTMARK_CAP_STATUS c, 0, 1⟩
/-- POSTMARK.CAP_CMD (R286). -/
def A.POSTMARK_CAP_CMD : Nat := 0x400807F0
/-- POSTMARK.TSQ_ETH (R287). -/
def A.POSTMARK_TSQ_ETH (q : Nat) (i : Nat) (w : Nat) : Nat := 0x40088000 + 0x800 * q + 0x20 * i + 0x4 * w
/-- POSTMARK.TSQ_AIR (R287). -/
def A.POSTMARK_TSQ_AIR (q : Nat) (i : Nat) (w : Nat) : Nat := 0x4008A000 + 0x2000 * q + 0x20 * i + 0x4 * w
/-- ROUNDS.RCFG (R316). -/
def A.ROUNDS_RCFG (r : Nat) : Nat := 0x40700100 + 0x100 * r
/-- Field [31:31] of ROUNDS.RCFG (R316). -/
def F.ROUNDS_RCFG_EN (r : Nat) : Fld := ⟨A.ROUNDS_RCFG r, 31, 1⟩
/-- Field [30:30] of ROUNDS.RCFG (R316). -/
def F.ROUNDS_RCFG_BANK (r : Nat) : Fld := ⟨A.ROUNDS_RCFG r, 30, 1⟩
/-- Field [15:0] of ROUNDS.RCFG (R316). -/
def F.ROUNDS_RCFG_ROUND_LEN_US (r : Nat) : Fld := ⟨A.ROUNDS_RCFG r, 0, 16⟩
/-- ROUNDS.PLAN_CMD (R316). -/
def A.ROUNDS_PLAN_CMD (r : Nat) : Nat := 0x40700104 + 0x100 * r
/-- ROUNDS.PLAN_STATUS (R316). -/
def A.ROUNDS_PLAN_STATUS (r : Nat) : Nat := 0x40700108 + 0x100 * r
/-- Field [12:8] of ROUNDS.PLAN_STATUS (R316). -/
def F.ROUNDS_PLAN_STATUS_SEG (r : Nat) : Fld := ⟨A.ROUNDS_PLAN_STATUS r, 8, 5⟩
/-- Field [3:0] of ROUNDS.PLAN_STATUS (R316). -/
def F.ROUNDS_PLAN_STATUS_RESULT (r : Nat) : Fld := ⟨A.ROUNDS_PLAN_STATUS r, 0, 4⟩
/-- ROUNDS.MU_CFG (R316). -/
def A.ROUNDS_MU_CFG (r : Nat) : Nat := 0x4070010C + 0x100 * r
/-- Field [31:24] of ROUNDS.MU_CFG (R316). -/
def F.ROUNDS_MU_CFG_SOUND_MAX_MS (r : Nat) : Fld := ⟨A.ROUNDS_MU_CFG r, 24, 8⟩
/-- Field [23:16] of ROUNDS.MU_CFG (R316). -/
def F.ROUNDS_MU_CFG_QUANTUM_US (r : Nat) : Fld := ⟨A.ROUNDS_MU_CFG r, 16, 8⟩
/-- Field [14:8] of ROUNDS.MU_CFG (R316). -/
def F.ROUNDS_MU_CFG_MAX_USERS (r : Nat) : Fld := ⟨A.ROUNDS_MU_CFG r, 8, 7⟩
/-- Field [1:0] of ROUNDS.MU_CFG (R316). -/
def F.ROUNDS_MU_CFG_MIN_RU (r : Nat) : Fld := ⟨A.ROUNDS_MU_CFG r, 0, 2⟩
/-- ROUNDS.DOZE_CFG (R316). -/
def A.ROUNDS_DOZE_CFG (r : Nat) : Nat := 0x40700110 + 0x100 * r
/-- Field [15:0] of ROUNDS.DOZE_CFG (R316). -/
def F.ROUNDS_DOZE_CFG_DOZE_MIN_US (r : Nat) : Fld := ⟨A.ROUNDS_DOZE_CFG r, 0, 16⟩
/-- ROUNDS.ROUND_NUM (R316). -/
def A.ROUNDS_ROUND_NUM (r : Nat) : Nat := 0x40700114 + 0x100 * r
/-- Field [31:0] of ROUNDS.ROUND_NUM (R316). -/
def F.ROUNDS_ROUND_NUM_NUM (r : Nat) : Fld := ⟨A.ROUNDS_ROUND_NUM r, 0, 32⟩
/-- ROUNDS.CONFLICT (R316). -/
def A.ROUNDS_CONFLICT (r : Nat) : Nat := 0x40700118 + 0x100 * r
/-- Field [31:28] of ROUNDS.CONFLICT (R316). -/
def F.ROUNDS_CONFLICT_WITH (r : Nat) : Fld := ⟨A.ROUNDS_CONFLICT r, 28, 4⟩
/-- Field [9:0] of ROUNDS.CONFLICT (R316). -/
def F.ROUNDS_CONFLICT_INDEX (r : Nat) : Fld := ⟨A.ROUNDS_CONFLICT r, 0, 10⟩
/-- ROUNDS.ROUND_TSF_LO (R316). -/
def A.ROUNDS_ROUND_TSF_LO (r : Nat) : Nat := 0x40700144 + 0x100 * r
/-- ROUNDS.ROUND_TSF_HI (R316). -/
def A.ROUNDS_ROUND_TSF_HI (r : Nat) : Nat := 0x40700148 + 0x100 * r
/-- ROUNDS.JOINT_CTRL (R317). -/
def A.ROUNDS_JOINT_CTRL (r : Nat) : Nat := 0x40700120 + 0x100 * r
/-- Field [31:31] of ROUNDS.JOINT_CTRL (R317). -/
def F.ROUNDS_JOINT_CTRL_JOIN (r : Nat) : Fld := ⟨A.ROUNDS_JOINT_CTRL r, 31, 1⟩
/-- Field [26:24] of ROUNDS.JOINT_CTRL (R317). -/
def F.ROUNDS_JOINT_CTRL_MEMBER (r : Nat) : Fld := ⟨A.ROUNDS_JOINT_CTRL r, 24, 3⟩
/-- Field [23:16] of ROUNDS.JOINT_CTRL (R317). -/
def F.ROUNDS_JOINT_CTRL_GEN (r : Nat) : Fld := ⟨A.ROUNDS_JOINT_CTRL r, 16, 8⟩
/-- Field [7:4] of ROUNDS.JOINT_CTRL (R317). -/
def F.ROUNDS_JOINT_CTRL_LAST (r : Nat) : Fld := ⟨A.ROUNDS_JOINT_CTRL r, 4, 4⟩
/-- Field [2:0] of ROUNDS.JOINT_CTRL (R317). -/
def F.ROUNDS_JOINT_CTRL_STATE (r : Nat) : Fld := ⟨A.ROUNDS_JOINT_CTRL r, 0, 3⟩
/-- ROUNDS.JOINT_CFG (R317). -/
def A.ROUNDS_JOINT_CFG (r : Nat) : Nat := 0x40700124 + 0x100 * r
/-- Field [31:16] of ROUNDS.JOINT_CFG (R317). -/
def F.ROUNDS_JOINT_CFG_SLEW_NS (r : Nat) : Fld := ⟨A.ROUNDS_JOINT_CFG r, 16, 16⟩
/-- Field [15:0] of ROUNDS.JOINT_CFG (R317). -/
def F.ROUNDS_JOINT_CFG_GUARD_NS (r : Nat) : Fld := ⟨A.ROUNDS_JOINT_CFG r, 0, 16⟩
/-- ROUNDS.JOINT_HOLD (R317). -/
def A.ROUNDS_JOINT_HOLD (r : Nat) : Nat := 0x40700128 + 0x100 * r
/-- Field [31:24] of ROUNDS.JOINT_HOLD (R317). -/
def F.ROUNDS_JOINT_HOLD_PEER_TO (r : Nat) : Fld := ⟨A.ROUNDS_JOINT_HOLD r, 24, 8⟩
/-- Field [23:16] of ROUNDS.JOINT_HOLD (R317). -/
def F.ROUNDS_JOINT_HOLD_HOLD_MAX (r : Nat) : Fld := ⟨A.ROUNDS_JOINT_HOLD r, 16, 8⟩
/-- Field [7:0] of ROUNDS.JOINT_HOLD (R317). -/
def F.ROUNDS_JOINT_HOLD_HOLD_MARGIN_US (r : Nat) : Fld := ⟨A.ROUNDS_JOINT_HOLD r, 0, 8⟩
/-- ROUNDS.JOINT_ERR (R317). -/
def A.ROUNDS_JOINT_ERR (r : Nat) : Nat := 0x4070012C + 0x100 * r
/-- Field [31:0] of ROUNDS.JOINT_ERR (R317). -/
def F.ROUNDS_JOINT_ERR_E_NS (r : Nat) : Fld := ⟨A.ROUNDS_JOINT_ERR r, 0, 32⟩
/-- ROUNDS.EPOCH_NS (R317). -/
def A.ROUNDS_EPOCH_NS (r : Nat) : Nat := 0x40700130 + 0x100 * r
/-- Field [29:0] of ROUNDS.EPOCH_NS (R317). -/
def F.ROUNDS_EPOCH_NS_NS (r : Nat) : Fld := ⟨A.ROUNDS_EPOCH_NS r, 0, 30⟩
/-- ROUNDS.EPOCH_SEC_LO (R317). -/
def A.ROUNDS_EPOCH_SEC_LO (r : Nat) : Nat := 0x40700134 + 0x100 * r
/-- Field [31:0] of ROUNDS.EPOCH_SEC_LO (R317). -/
def F.ROUNDS_EPOCH_SEC_LO_SEC (r : Nat) : Fld := ⟨A.ROUNDS_EPOCH_SEC_LO r, 0, 32⟩
/-- ROUNDS.EPOCH_SEC_HI (R317). -/
def A.ROUNDS_EPOCH_SEC_HI (r : Nat) : Nat := 0x40700138 + 0x100 * r
/-- Field [15:0] of ROUNDS.EPOCH_SEC_HI (R317). -/
def F.ROUNDS_EPOCH_SEC_HI_SEC (r : Nat) : Fld := ⟨A.ROUNDS_EPOCH_SEC_HI r, 0, 16⟩
/-- ROUNDS.START_ROUND (R317). -/
def A.ROUNDS_START_ROUND (r : Nat) : Nat := 0x4070013C + 0x100 * r
/-- Field [31:0] of ROUNDS.START_ROUND (R317). -/
def F.ROUNDS_START_ROUND_ROUND (r : Nat) : Fld := ⟨A.ROUNDS_START_ROUND r, 0, 32⟩
/-- ROUNDS.SR_CAP (R317). -/
def A.ROUNDS_SR_CAP (r : Nat) : Nat := 0x40700140 + 0x100 * r
/-- Field [9:0] of ROUNDS.SR_CAP (R317). -/
def F.ROUNDS_SR_CAP_CAP_EIRP (r : Nat) : Fld := ⟨A.ROUNDS_SR_CAP r, 0, 10⟩
/-- ROUNDS.PEER_STATUS (R317). -/
def A.ROUNDS_PEER_STATUS (r : Nat) : Nat := 0x40700150 + 0x100 * r
/-- Field [23:16] of ROUNDS.PEER_STATUS (R317). -/
def F.ROUNDS_PEER_STATUS_HOLD (r : Nat) : Fld := ⟨A.ROUNDS_PEER_STATUS r, 16, 8⟩
/-- Field [15:8] of ROUNDS.PEER_STATUS (R317). -/
def F.ROUNDS_PEER_STATUS_GEN_OK (r : Nat) : Fld := ⟨A.ROUNDS_PEER_STATUS r, 8, 8⟩
/-- Field [7:0] of ROUNDS.PEER_STATUS (R317). -/
def F.ROUNDS_PEER_STATUS_SEEN (r : Nat) : Fld := ⟨A.ROUNDS_PEER_STATUS r, 0, 8⟩
/-- ROUNDS.PEER_W0 (R317). -/
def A.ROUNDS_PEER_W0 (r : Nat) (m : Nat) : Nat := 0x40700180 + 0x100 * r + 0x8 * m
/-- Field [31:0] of ROUNDS.PEER_W0 (R317). -/
def F.ROUNDS_PEER_W0_BSSID_LO (r : Nat) (m : Nat) : Fld := ⟨A.ROUNDS_PEER_W0 r m, 0, 32⟩
/-- ROUNDS.PEER_W1 (R317). -/
def A.ROUNDS_PEER_W1 (r : Nat) (m : Nat) : Nat := 0x40700184 + 0x100 * r + 0x8 * m
/-- Field [31:31] of ROUNDS.PEER_W1 (R317). -/
def F.ROUNDS_PEER_W1_EN (r : Nat) (m : Nat) : Fld := ⟨A.ROUNDS_PEER_W1 r m, 31, 1⟩
/-- Field [15:0] of ROUNDS.PEER_W1 (R317). -/
def F.ROUNDS_PEER_W1_BSSID_HI (r : Nat) (m : Nat) : Fld := ⟨A.ROUNDS_PEER_W1 r m, 0, 16⟩
/-- ROUNDS.TURN_W0 (R317). -/
def A.ROUNDS_TURN_W0 (r : Nat) (n : Nat) : Nat := 0x407001C0 + 0x100 * r + 0x8 * n
/-- Field [31:16] of ROUNDS.TURN_W0 (R317). -/
def F.ROUNDS_TURN_W0_OFFSET_US (r : Nat) (n : Nat) : Fld := ⟨A.ROUNDS_TURN_W0 r n, 16, 16⟩
/-- Field [15:0] of ROUNDS.TURN_W0 (R317). -/
def F.ROUNDS_TURN_W0_LEN_US (r : Nat) (n : Nat) : Fld := ⟨A.ROUNDS_TURN_W0 r n, 0, 16⟩
/-- ROUNDS.TURN_W1 (R317). -/
def A.ROUNDS_TURN_W1 (r : Nat) (n : Nat) : Nat := 0x407001C4 + 0x100 * r + 0x8 * n
/-- Field [31:31] of ROUNDS.TURN_W1 (R317). -/
def F.ROUNDS_TURN_W1_VALID (r : Nat) (n : Nat) : Fld := ⟨A.ROUNDS_TURN_W1 r n, 31, 1⟩
/-- Field [3:3] of ROUNDS.TURN_W1 (R317). -/
def F.ROUNDS_TURN_W1_SHARED (r : Nat) (n : Nat) : Fld := ⟨A.ROUNDS_TURN_W1 r n, 3, 1⟩
/-- Field [2:0] of ROUNDS.TURN_W1 (R317). -/
def F.ROUNDS_TURN_W1_OWNER (r : Nat) (n : Nat) : Fld := ⟨A.ROUNDS_TURN_W1 r n, 0, 3⟩
/-- ROUNDS.SEG_W0 (R318). -/
def A.ROUNDS_SEG_W0 (r : Nat) (k : Nat) (s : Nat) : Nat := 0x40701000 + 0x200 * r + 0x100 * k + 0x8 * s
/-- Field [31:16] of ROUNDS.SEG_W0 (R318). -/
def F.ROUNDS_SEG_W0_OFFSET_US (r : Nat) (k : Nat) (s : Nat) : Fld := ⟨A.ROUNDS_SEG_W0 r k s, 16, 16⟩
/-- Field [15:0] of ROUNDS.SEG_W0 (R318). -/
def F.ROUNDS_SEG_W0_LEN_US (r : Nat) (k : Nat) (s : Nat) : Fld := ⟨A.ROUNDS_SEG_W0 r k s, 0, 16⟩
/-- ROUNDS.SEG_W1 (R318). -/
def A.ROUNDS_SEG_W1 (r : Nat) (k : Nat) (s : Nat) : Nat := 0x40701004 + 0x200 * r + 0x100 * k + 0x8 * s
/-- Field [31:28] of ROUNDS.SEG_W1 (R318). -/
def F.ROUNDS_SEG_W1_KIND (r : Nat) (k : Nat) (s : Nat) : Fld := ⟨A.ROUNDS_SEG_W1 r k s, 28, 4⟩
/-- Field [27:27] of ROUNDS.SEG_W1 (R318). -/
def F.ROUNDS_SEG_W1_ALL_BSS (r : Nat) (k : Nat) (s : Nat) : Fld := ⟨A.ROUNDS_SEG_W1 r k s, 27, 1⟩
/-- Field [26:21] of ROUNDS.SEG_W1 (R318). -/
def F.ROUNDS_SEG_W1_BSS (r : Nat) (k : Nat) (s : Nat) : Fld := ⟨A.ROUNDS_SEG_W1 r k s, 21, 6⟩
/-- Field [9:8] of ROUNDS.SEG_W1 (R318). -/
def F.ROUNDS_SEG_W1_TRIG (r : Nat) (k : Nat) (s : Nat) : Fld := ⟨A.ROUNDS_SEG_W1 r k s, 8, 2⟩
/-- ROUNDS.RSP_W0 (R319). -/
def A.ROUNDS_RSP_W0 (i : Nat) : Nat := 0x40702000 + 0x10 * i
/-- Field [31:31] of ROUNDS.RSP_W0 (R319). -/
def F.ROUNDS_RSP_W0_VALID (i : Nat) : Fld := ⟨A.ROUNDS_RSP_W0 i, 31, 1⟩
/-- Field [30:29] of ROUNDS.RSP_W0 (R319). -/
def F.ROUNDS_RSP_W0_RADIO (i : Nat) : Fld := ⟨A.ROUNDS_RSP_W0 i, 29, 2⟩
/-- Field [28:28] of ROUNDS.RSP_W0 (R319). -/
def F.ROUNDS_RSP_W0_DIR (i : Nat) : Fld := ⟨A.ROUNDS_RSP_W0 i, 28, 1⟩
/-- Field [26:18] of ROUNDS.RSP_W0 (R319). -/
def F.ROUNDS_RSP_W0_FLOW (i : Nat) : Fld := ⟨A.ROUNDS_RSP_W0 i, 18, 9⟩
/-- Field [10:0] of ROUNDS.RSP_W0 (R319). -/
def F.ROUNDS_RSP_W0_STA_ID (i : Nat) : Fld := ⟨A.ROUNDS_RSP_W0 i, 0, 11⟩
/-- ROUNDS.RSP_W1 (R319). -/
def A.ROUNDS_RSP_W1 (i : Nat) : Nat := 0x40702004 + 0x10 * i
/-- Field [31:16] of ROUNDS.RSP_W1 (R319). -/
def F.ROUNDS_RSP_W1_OFFSET_US (i : Nat) : Fld := ⟨A.ROUNDS_RSP_W1 i, 16, 16⟩
/-- Field [15:0] of ROUNDS.RSP_W1 (R319). -/
def F.ROUNDS_RSP_W1_LEN_US (i : Nat) : Fld := ⟨A.ROUNDS_RSP_W1 i, 0, 16⟩
/-- ROUNDS.RSP_W2 (R319). -/
def A.ROUNDS_RSP_W2 (i : Nat) : Nat := 0x40702008 + 0x10 * i
/-- Field [31:24] of ROUNDS.RSP_W2 (R319). -/
def F.ROUNDS_RSP_W2_PERIOD (i : Nat) : Fld := ⟨A.ROUNDS_RSP_W2 i, 24, 8⟩
/-- Field [23:16] of ROUNDS.RSP_W2 (R319). -/
def F.ROUNDS_RSP_W2_PHASE (i : Nat) : Fld := ⟨A.ROUNDS_RSP_W2 i, 16, 8⟩
/-- ROUNDS.RSP_W3 (R319). -/
def A.ROUNDS_RSP_W3 (i : Nat) : Nat := 0x4070200C + 0x10 * i
/-- Field [31:16] of ROUNDS.RSP_W3 (R319). -/
def F.ROUNDS_RSP_W3_AIR_BUDGET_US (i : Nat) : Fld := ⟨A.ROUNDS_RSP_W3 i, 16, 16⟩
/-- Field [5:0] of ROUNDS.RSP_W3 (R319). -/
def F.ROUNDS_RSP_W3_BSS (i : Nat) : Fld := ⟨A.ROUNDS_RSP_W3 i, 0, 6⟩
/-- ROUNDS.MUG_W0 (R320). -/
def A.ROUNDS_MUG_W0 (r : Nat) (g : Nat) : Nat := 0x40703000 + 0x400 * r + 0x20 * g
/-- Field [31:31] of ROUNDS.MUG_W0 (R320). -/
def F.ROUNDS_MUG_W0_VALID (r : Nat) (g : Nat) : Fld := ⟨A.ROUNDS_MUG_W0 r g, 31, 1⟩
/-- Field [30:27] of ROUNDS.MUG_W0 (R320). -/
def F.ROUNDS_MUG_W0_NUSERS (r : Nat) (g : Nat) : Fld := ⟨A.ROUNDS_MUG_W0 r g, 27, 4⟩
/-- ROUNDS.MUG_STA (R320). -/
def A.ROUNDS_MUG_STA (r : Nat) (g : Nat) (w : Nat) : Nat := 0x40703004 + 0x400 * r + 0x20 * g + 0x4 * w
/-- Field [26:16] of ROUNDS.MUG_STA (R320). -/
def F.ROUNDS_MUG_STA_STA_HI (r : Nat) (g : Nat) (w : Nat) : Fld := ⟨A.ROUNDS_MUG_STA r g w, 16, 11⟩
/-- Field [10:0] of ROUNDS.MUG_STA (R320). -/
def F.ROUNDS_MUG_STA_STA_LO (r : Nat) (g : Nat) (w : Nat) : Fld := ⟨A.ROUNDS_MUG_STA r g w, 0, 11⟩
/-- ROUNDS.MUG_NSS (R320). -/
def A.ROUNDS_MUG_NSS (r : Nat) (g : Nat) : Nat := 0x40703014 + 0x400 * r + 0x20 * g
/-- Field [23:0] of ROUNDS.MUG_NSS (R320). -/
def F.ROUNDS_MUG_NSS_NSS (r : Nat) (g : Nat) : Fld := ⟨A.ROUNDS_MUG_NSS r g, 0, 24⟩
/-- ROUNDS.TWT_W0 (R321). -/
def A.ROUNDS_TWT_W0 (a : Nat) : Nat := 0x40704000 + 0x10 * a
/-- Field [31:31] of ROUNDS.TWT_W0 (R321). -/
def F.ROUNDS_TWT_W0_VALID (a : Nat) : Fld := ⟨A.ROUNDS_TWT_W0 a, 31, 1⟩
/-- Field [30:29] of ROUNDS.TWT_W0 (R321). -/
def F.ROUNDS_TWT_W0_TYPE (a : Nat) : Fld := ⟨A.ROUNDS_TWT_W0 a, 29, 2⟩
/-- Field [28:28] of ROUNDS.TWT_W0 (R321). -/
def F.ROUNDS_TWT_W0_TRIGGERED (a : Nat) : Fld := ⟨A.ROUNDS_TWT_W0 a, 28, 1⟩
/-- Field [27:27] of ROUNDS.TWT_W0 (R321). -/
def F.ROUNDS_TWT_W0_ANNOUNCED (a : Nat) : Fld := ⟨A.ROUNDS_TWT_W0 a, 27, 1⟩
/-- Field [26:21] of ROUNDS.TWT_W0 (R321). -/
def F.ROUNDS_TWT_W0_BSS (a : Nat) : Fld := ⟨A.ROUNDS_TWT_W0 a, 21, 6⟩
/-- Field [20:16] of ROUNDS.TWT_W0 (R321). -/
def F.ROUNDS_TWT_W0_BTWT_ID (a : Nat) : Fld := ⟨A.ROUNDS_TWT_W0 a, 16, 5⟩
/-- Field [10:0] of ROUNDS.TWT_W0 (R321). -/
def F.ROUNDS_TWT_W0_STA_ID (a : Nat) : Fld := ⟨A.ROUNDS_TWT_W0 a, 0, 11⟩
/-- ROUNDS.TWT_W1 (R321). -/
def A.ROUNDS_TWT_W1 (a : Nat) : Nat := 0x40704004 + 0x10 * a
/-- Field [31:16] of ROUNDS.TWT_W1 (R321). -/
def F.ROUNDS_TWT_W1_INTERVAL_ROUNDS (a : Nat) : Fld := ⟨A.ROUNDS_TWT_W1 a, 16, 16⟩
/-- Field [15:0] of ROUNDS.TWT_W1 (R321). -/
def F.ROUNDS_TWT_W1_PHASE_ROUND (a : Nat) : Fld := ⟨A.ROUNDS_TWT_W1 a, 0, 16⟩
/-- ROUNDS.TWT_W2 (R321). -/
def A.ROUNDS_TWT_W2 (a : Nat) : Nat := 0x40704008 + 0x10 * a
/-- Field [31:16] of ROUNDS.TWT_W2 (R321). -/
def F.ROUNDS_TWT_W2_SP_OFFSET_US (a : Nat) : Fld := ⟨A.ROUNDS_TWT_W2 a, 16, 16⟩
/-- Field [15:0] of ROUNDS.TWT_W2 (R321). -/
def F.ROUNDS_TWT_W2_SP_LEN_US (a : Nat) : Fld := ⟨A.ROUNDS_TWT_W2 a, 0, 16⟩
/-- ROUNDS.STA_W0 (R322). -/
def A.ROUNDS_STA_W0 (n : Nat) : Nat := 0x40708000 + 0x8 * n
/-- Field [31:24] of ROUNDS.STA_W0 (R322). -/
def F.ROUNDS_STA_W0_WEIGHT (n : Nat) : Fld := ⟨A.ROUNDS_STA_W0 n, 24, 8⟩
/-- Field [23:19] of ROUNDS.STA_W0 (R322). -/
def F.ROUNDS_STA_W0_BTWT_ID (n : Nat) : Fld := ⟨A.ROUNDS_STA_W0 n, 19, 5⟩
/-- Field [18:18] of ROUNDS.STA_W0 (R322). -/
def F.ROUNDS_STA_W0_UL_OFDMA (n : Nat) : Fld := ⟨A.ROUNDS_STA_W0 n, 18, 1⟩
/-- ROUNDS.STA_W1 (R322). -/
def A.ROUNDS_STA_W1 (n : Nat) : Nat := 0x40708004 + 0x8 * n
/-- Field [31:0] of ROUNDS.STA_W1 (R322). -/
def F.ROUNDS_STA_W1_DEFICIT_US (n : Nat) : Fld := ⟨A.ROUNDS_STA_W1 n, 0, 32⟩
/-- NGR.SYNTH (R348). -/
def A.NGR_SYNTH : Nat := 0x40C00100
/-- Field [26:25] of NGR.SYNTH (R348). -/
def F.NGR_SYNTH_BW : Fld := ⟨A.NGR_SYNTH, 25, 2⟩
/-- Field [24:0] of NGR.SYNTH (R348). -/
def F.NGR_SYNTH_FREQ : Fld := ⟨A.NGR_SYNTH, 0, 25⟩
/-- NGR.SYNTH_STATUS (R347). -/
def A.NGR_SYNTH_STATUS : Nat := 0x40C00104
/-- NGR.RX_LAST0 (R351). -/
def A.NGR_RX_LAST0 : Nat := 0x40C00220
/-- NGR.RX_LAST1 (R351). -/
def A.NGR_RX_LAST1 : Nat := 0x40C00224
/-- NGR.RX_LAST2 (R351). -/
def A.NGR_RX_LAST2 : Nat := 0x40C00228
/-- NGR.RX_LAST3 (R351). -/
def A.NGR_RX_LAST3 : Nat := 0x40C0022C
/-- NGR.PHY_CFG (R349). -/
def A.NGR_PHY_CFG : Nat := 0x40C00280
/-- Field [31:24] of NGR.PHY_CFG (R349). -/
def F.NGR_PHY_CFG_NPRE : Fld := ⟨A.NGR_PHY_CFG, 24, 8⟩
/-- Field [23:16] of NGR.PHY_CFG (R349). -/
def F.NGR_PHY_CFG_NETCODE : Fld := ⟨A.NGR_PHY_CFG, 16, 8⟩
/-- Field [9:8] of NGR.PHY_CFG (R349). -/
def F.NGR_PHY_CFG_CR : Fld := ⟨A.NGR_PHY_CFG, 8, 2⟩
/-- Field [3:0] of NGR.PHY_CFG (R349). -/
def F.NGR_PHY_CFG_ORDER : Fld := ⟨A.NGR_PHY_CFG, 0, 4⟩
/-- NGR.RX_CFG (R349). -/
def A.NGR_RX_CFG : Nat := 0x40C00284
/-- Field [31:30] of NGR.RX_CFG (R349). -/
def F.NGR_RX_CFG_ANT_MODE : Fld := ⟨A.NGR_RX_CFG, 30, 2⟩
/-- Field [25:24] of NGR.RX_CFG (R349). -/
def F.NGR_RX_CFG_DIV_SYM : Fld := ⟨A.NGR_RX_CFG, 24, 2⟩
/-- Field [20:16] of NGR.RX_CFG (R349). -/
def F.NGR_RX_CFG_CAP_DB : Fld := ⟨A.NGR_RX_CFG, 16, 5⟩
/-- Field [11:8] of NGR.RX_CFG (R349). -/
def F.NGR_RX_CFG_DIV_HYST : Fld := ⟨A.NGR_RX_CFG, 8, 4⟩
/-- NGR.TX_PWR (R350). -/
def A.NGR_TX_PWR : Nat := 0x40C00288
/-- Field [7:0] of NGR.TX_PWR (R350). -/
def F.NGR_TX_PWR_PORT_DBM : Fld := ⟨A.NGR_TX_PWR, 0, 8⟩
/-- NGR.DEC_CFG (R350). -/
def A.NGR_DEC_CFG : Nat := 0x40C0028C
/-- Field [31:16] of NGR.DEC_CFG (R350). -/
def F.NGR_DEC_CFG_BULK_DL_MS : Fld := ⟨A.NGR_DEC_CFG, 16, 16⟩
/-- Field [15:0] of NGR.DEC_CFG (R350). -/
def F.NGR_DEC_CFG_ACK_DL_US : Fld := ⟨A.NGR_DEC_CFG, 0, 16⟩
/-- NGR.RNG_CFG (R352). -/
def A.NGR_RNG_CFG : Nat := 0x40C00300
/-- Field [31:31] of NGR.RNG_CFG (R352). -/
def F.NGR_RNG_CFG_AUTO_RESP : Fld := ⟨A.NGR_RNG_CFG, 31, 1⟩
/-- Field [26:8] of NGR.RNG_CFG (R352). -/
def F.NGR_RNG_CFG_REPLY_US : Fld := ⟨A.NGR_RNG_CFG, 8, 19⟩
/-- Field [7:0] of NGR.RNG_CFG (R352). -/
def F.NGR_RNG_CFG_WAIT_MS : Fld := ⟨A.NGR_RNG_CFG, 0, 8⟩
/-- NGR.RNG_ID (R352). -/
def A.NGR_RNG_ID : Nat := 0x40C00304
/-- NGR.RNG_PEER (R352). -/
def A.NGR_RNG_PEER : Nat := 0x40C00308
/-- NGR.RNG_CMD (R352). -/
def A.NGR_RNG_CMD : Nat := 0x40C0030C
/-- NGR.RNG_STATUS (R352). -/
def A.NGR_RNG_STATUS : Nat := 0x40C00310
/-- Field [31:31] of NGR.RNG_STATUS (R352). -/
def F.NGR_RNG_STATUS_BUSY : Fld := ⟨A.NGR_RNG_STATUS, 31, 1⟩
/-- Field [30:30] of NGR.RNG_STATUS (R352). -/
def F.NGR_RNG_STATUS_ROLE : Fld := ⟨A.NGR_RNG_STATUS, 30, 1⟩
/-- Field [19:16] of NGR.RNG_STATUS (R352). -/
def F.NGR_RNG_STATUS_RESULT : Fld := ⟨A.NGR_RNG_STATUS, 16, 4⟩
/-- Field [15:8] of NGR.RNG_STATUS (R352). -/
def F.NGR_RNG_STATUS_SEQ : Fld := ⟨A.NGR_RNG_STATUS, 8, 8⟩
/-- NGR.RNG_TOF (R352). -/
def A.NGR_RNG_TOF : Nat := 0x40C00314
/-- NGR.RNG_DLY_TX (R352). -/
def A.NGR_RNG_DLY_TX : Nat := 0x40C00318
/-- Field [15:0] of NGR.RNG_DLY_TX (R352). -/
def F.NGR_RNG_DLY_TX_PS : Fld := ⟨A.NGR_RNG_DLY_TX, 0, 16⟩
/-- NGR.RNG_DLY_RX (R352). -/
def A.NGR_RNG_DLY_RX : Nat := 0x40C0031C
/-- Field [31:16] of NGR.RNG_DLY_RX (R352). -/
def F.NGR_RNG_DLY_RX_PORT18 : Fld := ⟨A.NGR_RNG_DLY_RX, 16, 16⟩
/-- Field [15:0] of NGR.RNG_DLY_RX (R352). -/
def F.NGR_RNG_DLY_RX_PORT17 : Fld := ⟨A.NGR_RNG_DLY_RX, 0, 16⟩
/-- NGR.RNG_INT_LO (R352). -/
def A.NGR_RNG_INT_LO (i : Nat) : Nat := 0x40C00320 + 0x8 * i
/-- NGR.RNG_INT_HI (R352). -/
def A.NGR_RNG_INT_HI (i : Nat) : Nat := 0x40C00324 + 0x8 * i
/-- NGL.CTRL (R388). -/
def A.NGL_CTRL : Nat := 0x40D00010
/-- Field [31:31] of NGL.CTRL (R388). -/
def F.NGL_CTRL_EN : Fld := ⟨A.NGL_CTRL, 31, 1⟩
/-- Field [30:29] of NGL.CTRL (R388). -/
def F.NGL_CTRL_ROLE : Fld := ⟨A.NGL_CTRL, 29, 2⟩
/-- Field [28:28] of NGL.CTRL (R388). -/
def F.NGL_CTRL_ENROL_OPEN : Fld := ⟨A.NGL_CTRL, 28, 1⟩
/-- Field [26:24] of NGL.CTRL (R388). -/
def F.NGL_CTRL_MAX_DEPTH : Fld := ⟨A.NGL_CTRL, 24, 3⟩
/-- Field [19:16] of NGL.CTRL (R388). -/
def F.NGL_CTRL_DEPTH : Fld := ⟨A.NGL_CTRL, 16, 4⟩
/-- Field [15:0] of NGL.CTRL (R388). -/
def F.NGL_CTRL_OWN_ADDR : Fld := ⟨A.NGL_CTRL, 0, 16⟩
/-- NGL.NET_ID (R388). -/
def A.NGL_NET_ID : Nat := 0x40D00014
/-- NGL.SFN (R388). -/
def A.NGL_SFN : Nat := 0x40D00018
/-- Field [31:0] of NGL.SFN (R388). -/
def F.NGL_SFN_SFN : Fld := ⟨A.NGL_SFN, 0, 32⟩
/-- NGL.SYNC (R388). -/
def A.NGL_SYNC : Nat := 0x40D0001C
/-- Field [31:16] of NGL.SYNC (R388). -/
def F.NGL_SYNC_MISSED_BCN : Fld := ⟨A.NGL_SYNC, 16, 16⟩
/-- Field [13:8] of NGL.SYNC (R388). -/
def F.NGL_SYNC_SEARCH_CH : Fld := ⟨A.NGL_SYNC, 8, 6⟩
/-- Field [2:0] of NGL.SYNC (R388). -/
def F.NGL_SYNC_STATE : Fld := ⟨A.NGL_SYNC, 0, 3⟩
/-- NGL.SF_PERIOD (R389). -/
def A.NGL_SF_PERIOD : Nat := 0x40D00020
/-- Field [19:0] of NGL.SF_PERIOD (R389). -/
def F.NGL_SF_PERIOD_PERIOD_MS : Fld := ⟨A.NGL_SF_PERIOD, 0, 20⟩
/-- NGL.SF_CAP (R389). -/
def A.NGL_SF_CAP : Nat := 0x40D00024
/-- Field [19:0] of NGL.SF_CAP (R389). -/
def F.NGL_SF_CAP_CAP_END_MS : Fld := ⟨A.NGL_SF_CAP, 0, 20⟩
/-- NGL.SF_ACTIVE (R389). -/
def A.NGL_SF_ACTIVE : Nat := 0x40D00028
/-- Field [19:0] of NGL.SF_ACTIVE (R389). -/
def F.NGL_SF_ACTIVE_ACTIVE_END_MS : Fld := ⟨A.NGL_SF_ACTIVE, 0, 20⟩
/-- NGL.SF_RELAY (R389). -/
def A.NGL_SF_RELAY : Nat := 0x40D0002C
/-- Field [15:0] of NGL.SF_RELAY (R389). -/
def F.NGL_SF_RELAY_RELAY_MS : Fld := ⟨A.NGL_SF_RELAY, 0, 16⟩
/-- NGL.BCN_PHY (R389). -/
def A.NGL_BCN_PHY : Nat := 0x40D00030
/-- Field [31:24] of NGL.BCN_PHY (R389). -/
def F.NGL_BCN_PHY_NPRE : Fld := ⟨A.NGL_BCN_PHY, 24, 8⟩
/-- Field [9:8] of NGL.BCN_PHY (R389). -/
def F.NGL_BCN_PHY_CR : Fld := ⟨A.NGL_BCN_PHY, 8, 2⟩
/-- Field [3:0] of NGL.BCN_PHY (R389). -/
def F.NGL_BCN_PHY_ORDER : Fld := ⟨A.NGL_BCN_PHY, 0, 4⟩
/-- NGL.CH_BASE (R390). -/
def A.NGL_CH_BASE : Nat := 0x40D00040
/-- Field [24:0] of NGL.CH_BASE (R390). -/
def F.NGL_CH_BASE_FREQ : Fld := ⟨A.NGL_CH_BASE, 0, 25⟩
/-- NGL.CH_SPACING (R390). -/
def A.NGL_CH_SPACING : Nat := 0x40D00044
/-- Field [23:0] of NGL.CH_SPACING (R390). -/
def F.NGL_CH_SPACING_STEP : Fld := ⟨A.NGL_CH_SPACING, 0, 24⟩
/-- NGL.CH_EN_LO (R390). -/
def A.NGL_CH_EN_LO : Nat := 0x40D00048
/-- NGL.CH_EN_HI (R390). -/
def A.NGL_CH_EN_HI : Nat := 0x40D0004C
/-- NGL.HOP (R390). -/
def A.NGL_HOP : Nat := 0x40D00050
/-- Field [13:8] of NGL.HOP (R390). -/
def F.NGL_HOP_HOP_OFS : Fld := ⟨A.NGL_HOP, 8, 6⟩
/-- Field [5:0] of NGL.HOP (R390). -/
def F.NGL_HOP_HOP_STEP : Fld := ⟨A.NGL_HOP, 0, 6⟩
/-- NGL.REG_CAP (R391). -/
def A.NGL_REG_CAP : Nat := 0x40D00060
/-- Field [25:16] of NGL.REG_CAP (R391). -/
def F.NGL_REG_CAP_EXTPA_GAIN : Fld := ⟨A.NGL_REG_CAP, 16, 10⟩
/-- Field [9:0] of NGL.REG_CAP (R391). -/
def F.NGL_REG_CAP_CAP_EIRP : Fld := ⟨A.NGL_REG_CAP, 0, 10⟩
/-- NGL.REG_ANT (R391). -/
def A.NGL_REG_ANT : Nat := 0x40D00064
/-- Field [9:0] of NGL.REG_ANT (R391). -/
def F.NGL_REG_ANT_ANT_GAIN : Fld := ⟨A.NGL_REG_ANT, 0, 10⟩
/-- NGL.REG_DWELL (R391). -/
def A.NGL_REG_DWELL : Nat := 0x40D00068
/-- Field [31:16] of NGL.REG_DWELL (R391). -/
def F.NGL_REG_DWELL_DWELL_MAX_MS : Fld := ⟨A.NGL_REG_DWELL, 16, 16⟩
/-- Field [15:0] of NGL.REG_DWELL (R391). -/
def F.NGL_REG_DWELL_DWELL_WIN_S : Fld := ⟨A.NGL_REG_DWELL, 0, 16⟩
/-- NGL.REG_LBT (R391). -/
def A.NGL_REG_LBT : Nat := 0x40D0006C
/-- Field [31:31] of NGL.REG_LBT (R391). -/
def F.NGL_REG_LBT_LBT_EN : Fld := ⟨A.NGL_REG_LBT, 31, 1⟩
/-- Field [23:16] of NGL.REG_LBT (R391). -/
def F.NGL_REG_LBT_LBT_DBM : Fld := ⟨A.NGL_REG_LBT, 16, 8⟩
/-- Field [15:0] of NGL.REG_LBT (R391). -/
def F.NGL_REG_LBT_LBT_US : Fld := ⟨A.NGL_REG_LBT, 0, 16⟩
/-- NGL.DUTY (R391). -/
def A.NGL_DUTY (k : Nat) : Nat := 0x40D00070 + 0x4 * k
/-- Field [31:31] of NGL.DUTY (R391). -/
def F.NGL_DUTY_EN (k : Nat) : Fld := ⟨A.NGL_DUTY k, 31, 1⟩
/-- Field [29:24] of NGL.DUTY (R391). -/
def F.NGL_DUTY_FIRST_CH (k : Nat) : Fld := ⟨A.NGL_DUTY k, 24, 6⟩
/-- Field [21:16] of NGL.DUTY (R391). -/
def F.NGL_DUTY_LAST_CH (k : Nat) : Fld := ⟨A.NGL_DUTY k, 16, 6⟩
/-- Field [13:0] of NGL.DUTY (R391). -/
def F.NGL_DUTY_DUTY (k : Nat) : Fld := ⟨A.NGL_DUTY k, 0, 14⟩
/-- NGL.DUTY_WIN (R391). -/
def A.NGL_DUTY_WIN : Nat := 0x40D00080
/-- Field [15:0] of NGL.DUTY_WIN (R391). -/
def F.NGL_DUTY_WIN_DUTY_WIN_S : Fld := ⟨A.NGL_DUTY_WIN, 0, 16⟩
/-- NGL.ACK_CFG (R392). -/
def A.NGL_ACK_CFG : Nat := 0x40D00090
/-- Field [31:16] of NGL.ACK_CFG (R392). -/
def F.NGL_ACK_CFG_ACK_TURN_US : Fld := ⟨A.NGL_ACK_CFG, 16, 16⟩
/-- Field [15:0] of NGL.ACK_CFG (R392). -/
def F.NGL_ACK_CFG_DL_GAP_US : Fld := ⟨A.NGL_ACK_CFG, 0, 16⟩
/-- NGL.TX_CFG (R392). -/
def A.NGL_TX_CFG : Nat := 0x40D00094
/-- Field [31:28] of NGL.TX_CFG (R392). -/
def F.NGL_TX_CFG_RETRY_LIMIT : Fld := ⟨A.NGL_TX_CFG, 28, 4⟩
/-- Field [27:24] of NGL.TX_CFG (R392). -/
def F.NGL_TX_CFG_MIN_BE : Fld := ⟨A.NGL_TX_CFG, 24, 4⟩
/-- Field [23:20] of NGL.TX_CFG (R392). -/
def F.NGL_TX_CFG_MAX_BE : Fld := ⟨A.NGL_TX_CFG, 20, 4⟩
/-- Field [15:8] of NGL.TX_CFG (R392). -/
def F.NGL_TX_CFG_PEND_MAX : Fld := ⟨A.NGL_TX_CFG, 8, 8⟩
/-- NGL.GUARD (R392). -/
def A.NGL_GUARD : Nat := 0x40D00098
/-- Field [31:16] of NGL.GUARD (R392). -/
def F.NGL_GUARD_MAX_GUARD_MS : Fld := ⟨A.NGL_GUARD, 16, 16⟩
/-- Field [15:8] of NGL.GUARD (R392). -/
def F.NGL_GUARD_BASE_GUARD_MS : Fld := ⟨A.NGL_GUARD, 8, 8⟩
/-- Field [7:0] of NGL.GUARD (R392). -/
def F.NGL_GUARD_OWN_PPM : Fld := ⟨A.NGL_GUARD, 0, 8⟩
/-- NGL.PARENT (R392). -/
def A.NGL_PARENT : Nat := 0x40D0009C
/-- Field [31:16] of NGL.PARENT (R392). -/
def F.NGL_PARENT_PARENT_TO : Fld := ⟨A.NGL_PARENT, 16, 16⟩
/-- Field [15:0] of NGL.PARENT (R392). -/
def F.NGL_PARENT_PARENT_ADDR : Fld := ⟨A.NGL_PARENT, 0, 16⟩
/-- NGL.PARENT_KEY (R392). -/
def A.NGL_PARENT_KEY : Nat := 0x40D000A0
/-- Field [29:29] of NGL.PARENT_KEY (R392). -/
def F.NGL_PARENT_KEY_KEYID_TX : Fld := ⟨A.NGL_PARENT_KEY, 29, 1⟩
/-- Field [28:16] of NGL.PARENT_KEY (R392). -/
def F.NGL_PARENT_KEY_KEY1 : Fld := ⟨A.NGL_PARENT_KEY, 16, 13⟩
/-- Field [12:0] of NGL.PARENT_KEY (R392). -/
def F.NGL_PARENT_KEY_KEY0 : Fld := ⟨A.NGL_PARENT_KEY, 0, 13⟩
/-- NGL.GROUP_KEY (R392). -/
def A.NGL_GROUP_KEY : Nat := 0x40D000A4
/-- Field [29:29] of NGL.GROUP_KEY (R392). -/
def F.NGL_GROUP_KEY_KEYID_TX : Fld := ⟨A.NGL_GROUP_KEY, 29, 1⟩
/-- Field [28:16] of NGL.GROUP_KEY (R392). -/
def F.NGL_GROUP_KEY_KEY1 : Fld := ⟨A.NGL_GROUP_KEY, 16, 13⟩
/-- Field [12:0] of NGL.GROUP_KEY (R392). -/
def F.NGL_GROUP_KEY_KEY0 : Fld := ⟨A.NGL_GROUP_KEY, 0, 13⟩
/-- NGL.FIFO (R392). -/
def A.NGL_FIFO : Nat := 0x40D000B0
/-- Field [23:16] of NGL.FIFO (R392). -/
def F.NGL_FIFO_RX : Fld := ⟨A.NGL_FIFO, 16, 8⟩
/-- Field [7:0] of NGL.FIFO (R392). -/
def F.NGL_FIFO_CMPL : Fld := ⟨A.NGL_FIFO, 0, 8⟩
/-- NGL.TXR_BASE (R392). -/
def A.NGL_TXR_BASE : Nat := 0x40D000C0
/-- NGL.TXR_SIZE (R392). -/
def A.NGL_TXR_SIZE : Nat := 0x40D000C4
/-- Field [12:0] of NGL.TXR_SIZE (R392). -/
def F.NGL_TXR_SIZE_SIZE : Fld := ⟨A.NGL_TXR_SIZE, 0, 13⟩
/-- NGL.TXR_IDX (R392). -/
def A.NGL_TXR_IDX : Nat := 0x40D000C8
/-- Field [31:16] of NGL.TXR_IDX (R392). -/
def F.NGL_TXR_IDX_RD : Fld := ⟨A.NGL_TXR_IDX, 16, 16⟩
/-- Field [15:0] of NGL.TXR_IDX (R392). -/
def F.NGL_TXR_IDX_WR : Fld := ⟨A.NGL_TXR_IDX, 0, 16⟩
/-- NGL.NODE_CMD (R393). -/
def A.NGL_NODE_CMD : Nat := 0x40D00100
/-- NGL.NODE_STATUS (R393). -/
def A.NGL_NODE_STATUS : Nat := 0x40D00104
/-- Field [31:31] of NGL.NODE_STATUS (R393). -/
def F.NGL_NODE_STATUS_BUSY : Fld := ⟨A.NGL_NODE_STATUS, 31, 1⟩
/-- Field [13:8] of NGL.NODE_STATUS (R393). -/
def F.NGL_NODE_STATUS_WORD : Fld := ⟨A.NGL_NODE_STATUS, 8, 6⟩
/-- Field [3:0] of NGL.NODE_STATUS (R393). -/
def F.NGL_NODE_STATUS_RESULT : Fld := ⟨A.NGL_NODE_STATUS, 0, 4⟩
/-- NGL.STAGE (R394). -/
def A.NGL_STAGE (w : Nat) : Nat := 0x40D00400 + 0x4 * w
/-- NGL.STAGE_RO (R394). -/
def A.NGL_STAGE_RO (w : Nat) : Nat := 0x40D00418 + 0x4 * w
/-- NGL.SLOT_W0 (R395). -/
def A.NGL_SLOT_W0 (s : Nat) : Nat := 0x40D02000 + 0x10 * s
/-- Field [31:31] of NGL.SLOT_W0 (R395). -/
def F.NGL_SLOT_W0_VALID (s : Nat) : Fld := ⟨A.NGL_SLOT_W0 s, 31, 1⟩
/-- Field [30:30] of NGL.SLOT_W0 (R395). -/
def F.NGL_SLOT_W0_DIR (s : Nat) : Fld := ⟨A.NGL_SLOT_W0 s, 30, 1⟩
/-- Field [19:0] of NGL.SLOT_W0 (R395). -/
def F.NGL_SLOT_W0_OFFSET_MS (s : Nat) : Fld := ⟨A.NGL_SLOT_W0 s, 0, 20⟩
/-- NGL.SLOT_W1 (R395). -/
def A.NGL_SLOT_W1 (s : Nat) : Nat := 0x40D02004 + 0x10 * s
/-- Field [31:16] of NGL.SLOT_W1 (R395). -/
def F.NGL_SLOT_W1_LEN_MS (s : Nat) : Fld := ⟨A.NGL_SLOT_W1 s, 16, 16⟩
/-- Field [15:0] of NGL.SLOT_W1 (R395). -/
def F.NGL_SLOT_W1_NODE (s : Nat) : Fld := ⟨A.NGL_SLOT_W1 s, 0, 16⟩
/-- NGL.SLOT_W2 (R395). -/
def A.NGL_SLOT_W2 (s : Nat) : Nat := 0x40D02008 + 0x10 * s
/-- Field [31:16] of NGL.SLOT_W2 (R395). -/
def F.NGL_SLOT_W2_PERIOD (s : Nat) : Fld := ⟨A.NGL_SLOT_W2 s, 16, 16⟩
/-- Field [15:0] of NGL.SLOT_W2 (R395). -/
def F.NGL_SLOT_W2_PHASE (s : Nat) : Fld := ⟨A.NGL_SLOT_W2 s, 0, 16⟩
/-- NGL.ROUTE (R396). -/
def A.NGL_ROUTE (a : Nat) : Nat := 0x40D04000 + 0x4 * a
/-- SORT.BANK (R421). -/
def A.SORT_BANK : Nat := 0x40200010
/-- Field [0:0] of SORT.BANK (R421). -/
def F.SORT_BANK_ACTIVE : Fld := ⟨A.SORT_BANK, 0, 1⟩
/-- SORT.SWAP (R421). -/
def A.SORT_SWAP : Nat := 0x40200014
/-- SORT.SWAP_STATUS (R421). -/
def A.SORT_SWAP_STATUS : Nat := 0x40200018
/-- Field [31:16] of SORT.SWAP_STATUS (R421). -/
def F.SORT_SWAP_STATUS_INFLIGHT : Fld := ⟨A.SORT_SWAP_STATUS, 16, 16⟩
/-- Field [1:0] of SORT.SWAP_STATUS (R421). -/
def F.SORT_SWAP_STATUS_STATE : Fld := ⟨A.SORT_SWAP_STATUS, 0, 2⟩
/-- SORT.PORT_CFG (R422). -/
def A.SORT_PORT_CFG (p : Nat) : Nat := 0x40200020 + 0x4 * p
/-- Field [10:8] of SORT.PORT_CFG (R422). -/
def F.SORT_PORT_CFG_DEF_PCP (p : Nat) : Fld := ⟨A.SORT_PORT_CFG p, 8, 3⟩
/-- Field [7:0] of SORT.PORT_CFG (R422). -/
def F.SORT_PORT_CFG_REG_PCP (p : Nat) : Fld := ⟨A.SORT_PORT_CFG p, 0, 8⟩
/-- SORT.SUSPECT (R423). -/
def A.SORT_SUSPECT : Nat := 0x40200040
/-- Field [20:8] of SORT.SUSPECT (R423). -/
def F.SORT_SUSPECT_QUEUE : Fld := ⟨A.SORT_SUSPECT, 8, 13⟩
/-- Field [7:6] of SORT.SUSPECT (R423). -/
def F.SORT_SUSPECT_COLOUR : Fld := ⟨A.SORT_SUSPECT, 6, 2⟩
/-- SORT.CAM_CMD (R424). -/
def A.SORT_CAM_CMD : Nat := 0x40200050
/-- SORT.CAM_STATUS (R424). -/
def A.SORT_CAM_STATUS : Nat := 0x40200054
/-- Field [31:31] of SORT.CAM_STATUS (R424). -/
def F.SORT_CAM_STATUS_BUSY : Fld := ⟨A.SORT_CAM_STATUS, 31, 1⟩
/-- Field [24:16] of SORT.CAM_STATUS (R424). -/
def F.SORT_CAM_STATUS_SPARES : Fld := ⟨A.SORT_CAM_STATUS, 16, 9⟩
/-- Field [3:0] of SORT.CAM_STATUS (R424). -/
def F.SORT_CAM_STATUS_RESULT : Fld := ⟨A.SORT_CAM_STATUS, 0, 4⟩
/-- SORT.DEFAULT_LO (R426). -/
def A.SORT_DEFAULT_LO (b : Nat) : Nat := 0x40200080 + 0x8 * b
/-- SORT.DEFAULT_HI (R426). -/
def A.SORT_DEFAULT_HI (b : Nat) : Nat := 0x40200084 + 0x8 * b
/-- SORT.START (R426). -/
def A.SORT_START (b : Nat) (p : Nat) : Nat := 0x402000C0 + 0x20 * b + 0x4 * p
/-- Field [8:0] of SORT.START (R426). -/
def F.SORT_START_NODE (b : Nat) (p : Nat) : Fld := ⟨A.SORT_START b p, 0, 9⟩
/-- SORT.STAGE (R425). -/
def A.SORT_STAGE (w : Nat) : Nat := 0x40200100 + 0x4 * w
/-- SORT.NODE (R403). -/
def A.SORT_NODE (b : Nat) (n : Nat) (w : Nat) : Nat := 0x40210000 + 0x4000 * b + 0x40 * n + 0x4 * w
/-- TABLES.AGE (R454). -/
def A.TABLES_AGE : Nat := 0x40300010
/-- Field [31:16] of TABLES.AGE (R454). -/
def F.TABLES_AGE_SESS_PASS_MS : Fld := ⟨A.TABLES_AGE, 16, 16⟩
/-- Field [15:0] of TABLES.AGE (R454). -/
def F.TABLES_AGE_L2_PASS_MS : Fld := ⟨A.TABLES_AGE, 0, 16⟩
/-- TABLES.CTRL (R454). -/
def A.TABLES_CTRL : Nat := 0x40300014
/-- Field [1:1] of TABLES.CTRL (R454). -/
def F.TABLES_CTRL_DA_REFRESH : Fld := ⟨A.TABLES_CTRL, 1, 1⟩
/-- Field [0:0] of TABLES.CTRL (R454). -/
def F.TABLES_CTRL_LEARN_EN : Fld := ⟨A.TABLES_CTRL, 0, 1⟩
/-- TABLES.HASH_SEED (R454). -/
def A.TABLES_HASH_SEED (w : Nat) : Nat := 0x40300020 + 0x4 * w
/-- TABLES.CMD (R456). -/
def A.TABLES_CMD : Nat := 0x40300030
/-- TABLES.STATUS (R456). -/
def A.TABLES_STATUS : Nat := 0x40300034
/-- Field [31:31] of TABLES.STATUS (R456). -/
def F.TABLES_STATUS_BUSY : Fld := ⟨A.TABLES_STATUS, 31, 1⟩
/-- Field [20:4] of TABLES.STATUS (R456). -/
def F.TABLES_STATUS_SLOT : Fld := ⟨A.TABLES_STATUS, 4, 17⟩
/-- Field [3:0] of TABLES.STATUS (R456). -/
def F.TABLES_STATUS_RESULT : Fld := ⟨A.TABLES_STATUS, 0, 4⟩
/-- TABLES.FIFO (R454). -/
def A.TABLES_FIFO : Nat := 0x40300040
/-- Field [7:0] of TABLES.FIFO (R454). -/
def F.TABLES_FIFO_SESS_FIFO : Fld := ⟨A.TABLES_FIFO, 0, 8⟩
/-- TABLES.AUDIT_CTRL (R458). -/
def A.TABLES_AUDIT_CTRL : Nat := 0x40300050
/-- Field [31:31] of TABLES.AUDIT_CTRL (R458). -/
def F.TABLES_AUDIT_CTRL_EN : Fld := ⟨A.TABLES_AUDIT_CTRL, 31, 1⟩
/-- Field [30:30] of TABLES.AUDIT_CTRL (R458). -/
def F.TABLES_AUDIT_CTRL_CORRECT : Fld := ⟨A.TABLES_AUDIT_CTRL, 30, 1⟩
/-- Field [22:16] of TABLES.AUDIT_CTRL (R458). -/
def F.TABLES_AUDIT_CTRL_MASK : Fld := ⟨A.TABLES_AUDIT_CTRL, 16, 7⟩
/-- Field [15:0] of TABLES.AUDIT_CTRL (R458). -/
def F.TABLES_AUDIT_CTRL_PERIOD_S : Fld := ⟨A.TABLES_AUDIT_CTRL, 0, 16⟩
/-- TABLES.AUDIT_CFG (R458). -/
def A.TABLES_AUDIT_CFG : Nat := 0x40300054
/-- Field [15:0] of TABLES.AUDIT_CFG (R458). -/
def F.TABLES_AUDIT_CFG_CONFIRM_US : Fld := ⟨A.TABLES_AUDIT_CFG, 0, 16⟩
/-- TABLES.SHADOW_LO (R458). -/
def A.TABLES_SHADOW_LO : Nat := 0x40300058
/-- Field [31:0] of TABLES.SHADOW_LO (R458). -/
def F.TABLES_SHADOW_LO_BASE : Fld := ⟨A.TABLES_SHADOW_LO, 0, 32⟩
/-- TABLES.SHADOW_HI (R458). -/
def A.TABLES_SHADOW_HI : Nat := 0x4030005C
/-- Field [2:0] of TABLES.SHADOW_HI (R458). -/
def F.TABLES_SHADOW_HI_BASE : Fld := ⟨A.TABLES_SHADOW_HI, 0, 3⟩
/-- TABLES.AUDIT_STATUS (R458). -/
def A.TABLES_AUDIT_STATUS : Nat := 0x40300060
/-- Field [31:31] of TABLES.AUDIT_STATUS (R458). -/
def F.TABLES_AUDIT_STATUS_RUNNING : Fld := ⟨A.TABLES_AUDIT_STATUS, 31, 1⟩
/-- Field [30:28] of TABLES.AUDIT_STATUS (R458). -/
def F.TABLES_AUDIT_STATUS_REGION : Fld := ⟨A.TABLES_AUDIT_STATUS, 28, 3⟩
/-- Field [27:24] of TABLES.AUDIT_STATUS (R458). -/
def F.TABLES_AUDIT_STATUS_RESULT : Fld := ⟨A.TABLES_AUDIT_STATUS, 24, 4⟩
/-- Field [16:0] of TABLES.AUDIT_STATUS (R458). -/
def F.TABLES_AUDIT_STATUS_INDEX : Fld := ⟨A.TABLES_AUDIT_STATUS, 0, 17⟩
/-- TABLES.FILL_L2 (R459). -/
def A.TABLES_FILL_L2 : Nat := 0x40300070
/-- Field [17:0] of TABLES.FILL_L2 (R459). -/
def F.TABLES_FILL_L2_ENTRIES : Fld := ⟨A.TABLES_FILL_L2, 0, 18⟩
/-- TABLES.FILL_ROUTE (R459). -/
def A.TABLES_FILL_ROUTE : Nat := 0x40300074
/-- TABLES.FILL_SESS (R459). -/
def A.TABLES_FILL_SESS : Nat := 0x40300078
/-- Field [16:0] of TABLES.FILL_SESS (R459). -/
def F.TABLES_FILL_SESS_SESSIONS : Fld := ⟨A.TABLES_FILL_SESS, 0, 17⟩
/-- TABLES.PORT_CFG (R455). -/
def A.TABLES_PORT_CFG (p : Nat) : Nat := 0x403000A0 + 0x4 * p
/-- Field [11:0] of TABLES.PORT_CFG (R455). -/
def F.TABLES_PORT_CFG_PVID (p : Nat) : Fld := ⟨A.TABLES_PORT_CFG p, 0, 12⟩
/-- TABLES.STAGE (R457). -/
def A.TABLES_STAGE (w : Nat) : Nat := 0x40300100 + 0x4 * w
/-- TM.POOL_CFG (R480). -/
def A.TM_POOL_CFG : Nat := 0x40400010
/-- Field [25:16] of TM.POOL_CFG (R480). -/
def F.TM_POOL_CFG_REG_RESERVE : Fld := ⟨A.TM_POOL_CFG, 16, 10⟩
/-- Field [8:0] of TM.POOL_CFG (R480). -/
def F.TM_POOL_CFG_SRAM_POOL : Fld := ⟨A.TM_POOL_CFG, 0, 9⟩
/-- TM.POOL_STATUS (R480). -/
def A.TM_POOL_STATUS : Nat := 0x40400014
/-- Field [24:0] of TM.POOL_STATUS (R480). -/
def F.TM_POOL_STATUS_USED_KIB : Fld := ⟨A.TM_POOL_STATUS, 0, 25⟩
/-- TM.QCMD (R480). -/
def A.TM_QCMD : Nat := 0x40400020
/-- TM.QSTATUS (R480). -/
def A.TM_QSTATUS : Nat := 0x40400024
/-- Field [31:31] of TM.QSTATUS (R480). -/
def F.TM_QSTATUS_BUSY : Fld := ⟨A.TM_QSTATUS, 31, 1⟩
/-- Field [3:0] of TM.QSTATUS (R480). -/
def F.TM_QSTATUS_RESULT : Fld := ⟨A.TM_QSTATUS, 0, 4⟩
/-- TM.SAMPLE_CFG (R481). -/
def A.TM_SAMPLE_CFG : Nat := 0x40400030
/-- Field [31:31] of TM.SAMPLE_CFG (R481). -/
def F.TM_SAMPLE_CFG_EN : Fld := ⟨A.TM_SAMPLE_CFG, 31, 1⟩
/-- Field [23:16] of TM.SAMPLE_CFG (R481). -/
def F.TM_SAMPLE_CFG_FIFO : Fld := ⟨A.TM_SAMPLE_CFG, 16, 8⟩
/-- Field [15:0] of TM.SAMPLE_CFG (R481). -/
def F.TM_SAMPLE_CFG_PERIOD_US : Fld := ⟨A.TM_SAMPLE_CFG, 0, 16⟩
/-- TM.SAMPLE_RANGE (R481). -/
def A.TM_SAMPLE_RANGE : Nat := 0x40400034
/-- Field [28:16] of TM.SAMPLE_RANGE (R481). -/
def F.TM_SAMPLE_RANGE_LAST : Fld := ⟨A.TM_SAMPLE_RANGE, 16, 13⟩
/-- Field [12:0] of TM.SAMPLE_RANGE (R481). -/
def F.TM_SAMPLE_RANGE_FIRST : Fld := ⟨A.TM_SAMPLE_RANGE, 0, 13⟩
/-- TM.EGMAP_W0 (R482). -/
def A.TM_EGMAP_W0 (i : Nat) : Nat := 0x40404000 + 0x8 * i
/-- TM.EGMAP_W1 (R482). -/
def A.TM_EGMAP_W1 (i : Nat) : Nat := 0x40404004 + 0x8 * i
/-- TM.CMAP (R482). -/
def A.TM_CMAP (m : Nat) (w : Nat) : Nat := 0x40408000 + 0x40 * m + 0x4 * w
/-- TM.FLOOD_W0 (R483). -/
def A.TM_FLOOD_W0 (g : Nat) : Nat := 0x4040C000 + 0x10 * g
/-- TM.FLOOD_W1 (R483). -/
def A.TM_FLOOD_W1 (g : Nat) : Nat := 0x4040C004 + 0x10 * g
/-- TM.FLOOD_W2 (R483). -/
def A.TM_FLOOD_W2 (g : Nat) : Nat := 0x4040C008 + 0x10 * g
/-- TM.Q_W0 (R484). -/
def A.TM_Q_W0 (q : Nat) : Nat := 0x40410000 + 0x20 * q
/-- TM.Q_W1 (R484). -/
def A.TM_Q_W1 (q : Nat) : Nat := 0x40410004 + 0x20 * q
/-- TM.Q_W2 (R484). -/
def A.TM_Q_W2 (q : Nat) : Nat := 0x40410008 + 0x20 * q
/-- TM.Q_W3 (R484). -/
def A.TM_Q_W3 (q : Nat) : Nat := 0x4041000C + 0x20 * q
/-- TM.Q_DEPTH_BYTES (R484). -/
def A.TM_Q_DEPTH_BYTES (q : Nat) : Nat := 0x40410010 + 0x20 * q
/-- TM.Q_DEPTH_FRAMES (R484). -/
def A.TM_Q_DEPTH_FRAMES (q : Nat) : Nat := 0x40410014 + 0x20 * q
/-- TM.Q_MAX_DELAY (R484). -/
def A.TM_Q_MAX_DELAY (q : Nat) : Nat := 0x4041001C + 0x20 * q
/-- TM.SH_W0 (R485). -/
def A.TM_SH_W0 (s : Nat) : Nat := 0x40450000 + 0x10 * s
/-- Field [30:30] of TM.SH_W0 (R485). -/
def F.TM_SH_W0_REG_OWNED (s : Nat) : Fld := ⟨A.TM_SH_W0 s, 30, 1⟩
/-- TM.SH_W1 (R485). -/
def A.TM_SH_W1 (s : Nat) : Nat := 0x40450004 + 0x10 * s
/-- TM.SH_W2 (R485). -/
def A.TM_SH_W2 (s : Nat) : Nat := 0x40450008 + 0x10 * s
/-- TM.SH_TOKENS (R485). -/
def A.TM_SH_TOKENS (s : Nat) : Nat := 0x4045000C + 0x10 * s
/-- TM.POL_W0 (R486). -/
def A.TM_POL_W0 (p : Nat) : Nat := 0x40470000 + 0x20 * p
/-- TM.POL_W1 (R486). -/
def A.TM_POL_W1 (p : Nat) : Nat := 0x40470004 + 0x20 * p
/-- TM.POL_W2 (R486). -/
def A.TM_POL_W2 (p : Nat) : Nat := 0x40470008 + 0x20 * p
/-- TM.POL_W3 (R486). -/
def A.TM_POL_W3 (p : Nat) : Nat := 0x4047000C + 0x20 * p
/-- TM.POL_TC (R486). -/
def A.TM_POL_TC (p : Nat) : Nat := 0x40470010 + 0x20 * p
/-- TM.POL_TP (R486). -/
def A.TM_POL_TP (p : Nat) : Nat := 0x40470014 + 0x20 * p
/-- REGSVC.FLOW_CMD (R516). -/
def A.REGSVC_FLOW_CMD : Nat := 0x40500010
/-- REGSVC.FLOW_STATUS (R516). -/
def A.REGSVC_FLOW_STATUS : Nat := 0x40500014
/-- Field [31:31] of REGSVC.FLOW_STATUS (R516). -/
def F.REGSVC_FLOW_STATUS_BUSY : Fld := ⟨A.REGSVC_FLOW_STATUS, 31, 1⟩
/-- Field [3:0] of REGSVC.FLOW_STATUS (R516). -/
def F.REGSVC_FLOW_STATUS_RESULT : Fld := ⟨A.REGSVC_FLOW_STATUS, 0, 4⟩
/-- REGSVC.REPORT_CFG (R518). -/
def A.REGSVC_REPORT_CFG : Nat := 0x40500018
/-- Field [23:16] of REGSVC.REPORT_CFG (R518). -/
def F.REGSVC_REPORT_CFG_FIFO : Fld := ⟨A.REGSVC_REPORT_CFG, 16, 8⟩
/-- REGSVC.TOTALS (R518). -/
def A.REGSVC_TOTALS : Nat := 0x4050001C
/-- Field [25:16] of REGSVC.TOTALS (R518). -/
def F.REGSVC_TOTALS_FLOWS : Fld := ⟨A.REGSVC_TOTALS, 16, 10⟩
/-- Field [12:0] of REGSVC.TOTALS (R518). -/
def F.REGSVC_TOTALS_RECORDS : Fld := ⟨A.REGSVC_TOTALS, 0, 13⟩
/-- REGSVC.OUTQ (R518). -/
def A.REGSVC_OUTQ : Nat := 0x40500020
/-- Field [10:0] of REGSVC.OUTQ (R518). -/
def F.REGSVC_OUTQ_DEPTH : Fld := ⟨A.REGSVC_OUTQ, 0, 11⟩
/-- REGSVC.STAGE (R519). -/
def A.REGSVC_STAGE (w : Nat) : Nat := 0x40500100 + 0x4 * w
/-- REGSVC.STAGE_RO (R519). -/
def A.REGSVC_STAGE_RO (w : Nat) : Nat := 0x4050012C + 0x4 * w
/-- REGSVC.FLOW_W0 (R520). -/
def A.REGSVC_FLOW_W0 (f : Nat) : Nat := 0x40501000 + 0x10 * f
/-- Field [31:29] of REGSVC.FLOW_W0 (R520). -/
def F.REGSVC_FLOW_W0_STATE (f : Nat) : Fld := ⟨A.REGSVC_FLOW_W0 f, 29, 3⟩
/-- Field [27:24] of REGSVC.FLOW_W0 (R520). -/
def F.REGSVC_FLOW_W0_WHY (f : Nat) : Fld := ⟨A.REGSVC_FLOW_W0 f, 24, 4⟩
/-- Field [23:23] of REGSVC.FLOW_W0 (R520). -/
def F.REGSVC_FLOW_W0_OVERRUN (f : Nat) : Fld := ⟨A.REGSVC_FLOW_W0 f, 23, 1⟩
/-- Field [15:0] of REGSVC.FLOW_W0 (R520). -/
def F.REGSVC_FLOW_W0_FNUM (f : Nat) : Fld := ⟨A.REGSVC_FLOW_W0 f, 0, 16⟩
/-- REGSVC.FLOW_W1 (R520). -/
def A.REGSVC_FLOW_W1 (f : Nat) : Nat := 0x40501004 + 0x10 * f
/-- Field [31:24] of REGSVC.FLOW_W1 (R520). -/
def F.REGSVC_FLOW_W1_RSP_B (f : Nat) : Fld := ⟨A.REGSVC_FLOW_W1 f, 24, 8⟩
/-- Field [23:16] of REGSVC.FLOW_W1 (R520). -/
def F.REGSVC_FLOW_W1_RSP_A (f : Nat) : Fld := ⟨A.REGSVC_FLOW_W1 f, 16, 8⟩
/-- Field [12:0] of REGSVC.FLOW_W1 (R520). -/
def F.REGSVC_FLOW_W1_RECORDS_USED (f : Nat) : Fld := ⟨A.REGSVC_FLOW_W1 f, 0, 13⟩
/-- REGSVC.FLOW_W2 (R520). -/
def A.REGSVC_FLOW_W2 (f : Nat) : Nat := 0x40501008 + 0x10 * f
/-- Field [31:16] of REGSVC.FLOW_W2 (R520). -/
def F.REGSVC_FLOW_W2_LOST_LAST (f : Nat) : Fld := ⟨A.REGSVC_FLOW_W2 f, 16, 16⟩
/-- Field [15:0] of REGSVC.FLOW_W2 (R520). -/
def F.REGSVC_FLOW_W2_LOST_FIRST (f : Nat) : Fld := ⟨A.REGSVC_FLOW_W2 f, 0, 16⟩
/-- REGSVC.FLOW_W3 (R520). -/
def A.REGSVC_FLOW_W3 (f : Nat) : Nat := 0x4050100C + 0x10 * f
/-- Field [15:0] of REGSVC.FLOW_W3 (R520). -/
def F.REGSVC_FLOW_W3_LOST_COUNT (f : Nat) : Fld := ⟨A.REGSVC_FLOW_W3 f, 0, 16⟩
/-- EMAC.MODE (R538). -/
def A.EMAC_MODE (p : Nat) : Nat := 0x40100010 + 0x10000 * p
/-- Field [31:31] of EMAC.MODE (R538). -/
def F.EMAC_MODE_EN (p : Nat) : Fld := ⟨A.EMAC_MODE p, 31, 1⟩
/-- Field [8:8] of EMAC.MODE (R538). -/
def F.EMAC_MODE_AN_EN (p : Nat) : Fld := ⟨A.EMAC_MODE p, 8, 1⟩
/-- Field [3:0] of EMAC.MODE (R538). -/
def F.EMAC_MODE_MODE (p : Nat) : Fld := ⟨A.EMAC_MODE p, 0, 4⟩
/-- EMAC.STATUS (R538). -/
def A.EMAC_STATUS (p : Nat) : Nat := 0x40100014 + 0x10000 * p
/-- Field [31:31] of EMAC.STATUS (R538). -/
def F.EMAC_STATUS_LINK (p : Nat) : Fld := ⟨A.EMAC_STATUS p, 31, 1⟩
/-- Field [30:28] of EMAC.STATUS (R538). -/
def F.EMAC_STATUS_SPEED (p : Nat) : Fld := ⟨A.EMAC_STATUS p, 28, 3⟩
/-- Field [27:27] of EMAC.STATUS (R538). -/
def F.EMAC_STATUS_EQ_BUSY (p : Nat) : Fld := ⟨A.EMAC_STATUS p, 27, 1⟩
/-- Field [26:24] of EMAC.STATUS (R538). -/
def F.EMAC_STATUS_PRESET (p : Nat) : Fld := ⟨A.EMAC_STATUS p, 24, 3⟩
/-- Field [0:0] of EMAC.STATUS (R538). -/
def F.EMAC_STATUS_LINK_CHG (p : Nat) : Fld := ⟨A.EMAC_STATUS p, 0, 1⟩
/-- EMAC.RX_CFG (R539). -/
def A.EMAC_RX_CFG (p : Nat) : Nat := 0x40100018 + 0x10000 * p
/-- Field [31:31] of EMAC.RX_CFG (R539). -/
def F.EMAC_RX_CFG_KEEP_BAD (p : Nat) : Fld := ⟨A.EMAC_RX_CFG p, 31, 1⟩
/-- Field [23:16] of EMAC.RX_CFG (R539). -/
def F.EMAC_RX_CFG_BAD_RING (p : Nat) : Fld := ⟨A.EMAC_RX_CFG p, 16, 8⟩
/-- Field [13:0] of EMAC.RX_CFG (R539). -/
def F.EMAC_RX_CFG_MAX_LEN (p : Nat) : Fld := ⟨A.EMAC_RX_CFG p, 0, 14⟩
/-- EMAC.FC_CFG (R539). -/
def A.EMAC_FC_CFG (p : Nat) : Nat := 0x4010001C + 0x10000 * p
/-- Field [31:31] of EMAC.FC_CFG (R539). -/
def F.EMAC_FC_CFG_TX_FC (p : Nat) : Fld := ⟨A.EMAC_FC_CFG p, 31, 1⟩
/-- Field [30:30] of EMAC.FC_CFG (R539). -/
def F.EMAC_FC_CFG_PFC (p : Nat) : Fld := ⟨A.EMAC_FC_CFG p, 30, 1⟩
/-- Field [29:29] of EMAC.FC_CFG (R539). -/
def F.EMAC_FC_CFG_RX_FC (p : Nat) : Fld := ⟨A.EMAC_FC_CFG p, 29, 1⟩
/-- Field [7:0] of EMAC.FC_CFG (R539). -/
def F.EMAC_FC_CFG_XOFF_KIB (p : Nat) : Fld := ⟨A.EMAC_FC_CFG p, 0, 8⟩
/-- EMAC.TX_CFG (R539). -/
def A.EMAC_TX_CFG (p : Nat) : Nat := 0x40100020 + 0x10000 * p
/-- Field [0:0] of EMAC.TX_CFG (R539). -/
def F.EMAC_TX_CFG_DOWN_DROP (p : Nat) : Fld := ⟨A.EMAC_TX_CFG p, 0, 1⟩
/-- EMAC.EQ_PRESET (R540). -/
def A.EMAC_EQ_PRESET (p : Nat) (k : Nat) : Nat := 0x40100040 + 0x10000 * p + 0x4 * k
/-- Field [31:31] of EMAC.EQ_PRESET (R540). -/
def F.EMAC_EQ_PRESET_VALID (p : Nat) (k : Nat) : Fld := ⟨A.EMAC_EQ_PRESET p k, 31, 1⟩
/-- Field [30:30] of EMAC.EQ_PRESET (R540). -/
def F.EMAC_EQ_PRESET_FAILED (p : Nat) (k : Nat) : Fld := ⟨A.EMAC_EQ_PRESET p k, 30, 1⟩
/-- EMAC.EQ_CFG (R540). -/
def A.EMAC_EQ_CFG (p : Nat) : Nat := 0x40100060 + 0x10000 * p
/-- Field [15:0] of EMAC.EQ_CFG (R540). -/
def F.EMAC_EQ_CFG_ERR_LIMIT (p : Nat) : Fld := ⟨A.EMAC_EQ_CFG p, 0, 16⟩
/-- EMAC.SECY_CFG (R541). -/
def A.EMAC_SECY_CFG (p : Nat) : Nat := 0x40100100 + 0x10000 * p
/-- Field [31:31] of EMAC.SECY_CFG (R541). -/
def F.EMAC_SECY_CFG_EN (p : Nat) : Fld := ⟨A.EMAC_SECY_CFG p, 31, 1⟩
/-- Field [30:29] of EMAC.SECY_CFG (R541). -/
def F.EMAC_SECY_CFG_VALIDATE (p : Nat) : Fld := ⟨A.EMAC_SECY_CFG p, 29, 2⟩
/-- Field [23:22] of EMAC.SECY_CFG (R541). -/
def F.EMAC_SECY_CFG_TX_AN (p : Nat) : Fld := ⟨A.EMAC_SECY_CFG p, 22, 2⟩
/-- Field [3:0] of EMAC.SECY_CFG (R541). -/
def F.EMAC_SECY_CFG_BYPASS_EN (p : Nat) : Fld := ⟨A.EMAC_SECY_CFG p, 0, 4⟩
/-- EMAC.TX_SCI_LO (R541). -/
def A.EMAC_TX_SCI_LO (p : Nat) : Nat := 0x40100104 + 0x10000 * p
/-- Field [31:0] of EMAC.TX_SCI_LO (R541). -/
def F.EMAC_TX_SCI_LO_SCI (p : Nat) : Fld := ⟨A.EMAC_TX_SCI_LO p, 0, 32⟩
/-- EMAC.TX_SCI_HI (R541). -/
def A.EMAC_TX_SCI_HI (p : Nat) : Nat := 0x40100108 + 0x10000 * p
/-- Field [31:0] of EMAC.TX_SCI_HI (R541). -/
def F.EMAC_TX_SCI_HI_SCI (p : Nat) : Fld := ⟨A.EMAC_TX_SCI_HI p, 0, 32⟩
/-- EMAC.REPLAY_WIN (R541). -/
def A.EMAC_REPLAY_WIN (p : Nat) : Nat := 0x4010010C + 0x10000 * p
/-- Field [31:0] of EMAC.REPLAY_WIN (R541). -/
def F.EMAC_REPLAY_WIN_WIN (p : Nat) : Fld := ⟨A.EMAC_REPLAY_WIN p, 0, 32⟩
/-- EMAC.TX_SA (R542). -/
def A.EMAC_TX_SA (p : Nat) (a : Nat) : Nat := 0x40100110 + 0x10000 * p + 0x4 * a
/-- Field [31:31] of EMAC.TX_SA (R542). -/
def F.EMAC_TX_SA_VALID (p : Nat) (a : Nat) : Fld := ⟨A.EMAC_TX_SA p a, 31, 1⟩
/-- Field [12:0] of EMAC.TX_SA (R542). -/
def F.EMAC_TX_SA_SLOT (p : Nat) (a : Nat) : Fld := ⟨A.EMAC_TX_SA p a, 0, 13⟩
/-- EMAC.BYPASS_ETYPE (R542). -/
def A.EMAC_BYPASS_ETYPE (p : Nat) (k : Nat) : Nat := 0x40100130 + 0x10000 * p + 0x4 * k
/-- Field [15:0] of EMAC.BYPASS_ETYPE (R542). -/
def F.EMAC_BYPASS_ETYPE_ETYPE (p : Nat) (k : Nat) : Fld := ⟨A.EMAC_BYPASS_ETYPE p k, 0, 16⟩
/-- EMAC.RXSC_SCI_LO (R542). -/
def A.EMAC_RXSC_SCI_LO (p : Nat) (c : Nat) : Nat := 0x40100200 + 0x10000 * p + 0x20 * c
/-- Field [31:0] of EMAC.RXSC_SCI_LO (R542). -/
def F.EMAC_RXSC_SCI_LO_SCI (p : Nat) (c : Nat) : Fld := ⟨A.EMAC_RXSC_SCI_LO p c, 0, 32⟩
/-- EMAC.RXSC_SCI_HI (R542). -/
def A.EMAC_RXSC_SCI_HI (p : Nat) (c : Nat) : Nat := 0x40100204 + 0x10000 * p + 0x20 * c
/-- Field [31:0] of EMAC.RXSC_SCI_HI (R542). -/
def F.EMAC_RXSC_SCI_HI_SCI (p : Nat) (c : Nat) : Fld := ⟨A.EMAC_RXSC_SCI_HI p c, 0, 32⟩
/-- EMAC.RXSC_CTRL (R542). -/
def A.EMAC_RXSC_CTRL (p : Nat) (c : Nat) : Nat := 0x40100208 + 0x10000 * p + 0x20 * c
/-- Field [31:31] of EMAC.RXSC_CTRL (R542). -/
def F.EMAC_RXSC_CTRL_VALID (p : Nat) (c : Nat) : Fld := ⟨A.EMAC_RXSC_CTRL p c, 31, 1⟩
/-- EMAC.RX_SA (R542). -/
def A.EMAC_RX_SA (p : Nat) (c : Nat) (a : Nat) : Nat := 0x4010020C + 0x10000 * p + 0x20 * c + 0x4 * a
/-- Field [31:31] of EMAC.RX_SA (R542). -/
def F.EMAC_RX_SA_VALID (p : Nat) (c : Nat) (a : Nat) : Fld := ⟨A.EMAC_RX_SA p c a, 31, 1⟩
/-- Field [12:0] of EMAC.RX_SA (R542). -/
def F.EMAC_RX_SA_SLOT (p : Nat) (c : Nat) (a : Nat) : Fld := ⟨A.EMAC_RX_SA p c a, 0, 13⟩
/-- HOSTP.CFG (R556). -/
def A.HOSTP_CFG : Nat := 0x400C0010
/-- Field [31:30] of HOSTP.CFG (R556). -/
def F.HOSTP_CFG_MODE : Fld := ⟨A.HOSTP_CFG, 30, 2⟩
/-- Field [26:24] of HOSTP.CFG (R556). -/
def F.HOSTP_CFG_MAX_GEN : Fld := ⟨A.HOSTP_CFG, 24, 3⟩
/-- Field [9:0] of HOSTP.CFG (R556). -/
def F.HOSTP_CFG_MSIX_COUNT : Fld := ⟨A.HOSTP_CFG, 0, 10⟩
/-- HOSTP.IDS (R556). -/
def A.HOSTP_IDS : Nat := 0x400C0014
/-- Field [31:16] of HOSTP.IDS (R556). -/
def F.HOSTP_IDS_DEVICE_ID : Fld := ⟨A.HOSTP_IDS, 16, 16⟩
/-- Field [15:0] of HOSTP.IDS (R556). -/
def F.HOSTP_IDS_VENDOR_ID : Fld := ⟨A.HOSTP_IDS, 0, 16⟩
/-- HOSTP.SUBSYS (R556). -/
def A.HOSTP_SUBSYS : Nat := 0x400C0018
/-- Field [31:16] of HOSTP.SUBSYS (R556). -/
def F.HOSTP_SUBSYS_SUBSYS_ID : Fld := ⟨A.HOSTP_SUBSYS, 16, 16⟩
/-- Field [15:0] of HOSTP.SUBSYS (R556). -/
def F.HOSTP_SUBSYS_SUBSYS_VID : Fld := ⟨A.HOSTP_SUBSYS, 0, 16⟩
/-- HOSTP.CLASS (R556). -/
def A.HOSTP_CLASS : Nat := 0x400C001C
/-- Field [23:0] of HOSTP.CLASS (R556). -/
def F.HOSTP_CLASS_CLASS : Fld := ⟨A.HOSTP_CLASS, 0, 24⟩
/-- HOSTP.LINK (R556). -/
def A.HOSTP_LINK : Nat := 0x400C0020
/-- Field [31:31] of HOSTP.LINK (R556). -/
def F.HOSTP_LINK_UP : Fld := ⟨A.HOSTP_LINK, 31, 1⟩
/-- Field [26:24] of HOSTP.LINK (R556). -/
def F.HOSTP_LINK_GEN : Fld := ⟨A.HOSTP_LINK, 24, 3⟩
/-- Field [21:20] of HOSTP.LINK (R556). -/
def F.HOSTP_LINK_WIDTH : Fld := ⟨A.HOSTP_LINK, 20, 2⟩
/-- Field [18:16] of HOSTP.LINK (R556). -/
def F.HOSTP_LINK_PM : Fld := ⟨A.HOSTP_LINK, 16, 3⟩
/-- HOSTP.PM_CFG (R556). -/
def A.HOSTP_PM_CFG : Nat := 0x400C0024
/-- Field [1:1] of HOSTP.PM_CFG (R556). -/
def F.HOSTP_PM_CFG_L1SS_EN : Fld := ⟨A.HOSTP_PM_CFG, 1, 1⟩
/-- Field [0:0] of HOSTP.PM_CFG (R556). -/
def F.HOSTP_PM_CFG_L1_EN : Fld := ⟨A.HOSTP_PM_CFG, 0, 1⟩
/-- HOSTP.RC_ADDR_LO (R556). -/
def A.HOSTP_RC_ADDR_LO : Nat := 0x400C0030
/-- HOSTP.RC_ADDR_HI (R556). -/
def A.HOSTP_RC_ADDR_HI : Nat := 0x400C0034
/-- Field [30:30] of HOSTP.RC_ADDR_HI (R556). -/
def F.HOSTP_RC_ADDR_HI_WR : Fld := ⟨A.HOSTP_RC_ADDR_HI, 30, 1⟩
/-- HOSTP.RC_DATA (R556). -/
def A.HOSTP_RC_DATA : Nat := 0x400C0038
/-- HOSTP.RC_STATUS (R556). -/
def A.HOSTP_RC_STATUS : Nat := 0x400C003C
/-- Field [31:31] of HOSTP.RC_STATUS (R556). -/
def F.HOSTP_RC_STATUS_BUSY : Fld := ⟨A.HOSTP_RC_STATUS, 31, 1⟩
/-- Field [3:0] of HOSTP.RC_STATUS (R556). -/
def F.HOSTP_RC_STATUS_RESULT : Fld := ⟨A.HOSTP_RC_STATUS, 0, 4⟩
/-- HOSTP.TXR_BASE_LO (R557). -/
def A.HOSTP_TXR_BASE_LO (t : Nat) : Nat := 0x400C1000 + 0x20 * t
/-- HOSTP.TXR_BASE_HI (R557). -/
def A.HOSTP_TXR_BASE_HI (t : Nat) : Nat := 0x400C1004 + 0x20 * t
/-- HOSTP.TXR_CQ_LO (R557). -/
def A.HOSTP_TXR_CQ_LO (t : Nat) : Nat := 0x400C1008 + 0x20 * t
/-- HOSTP.TXR_CQ_HI (R557). -/
def A.HOSTP_TXR_CQ_HI (t : Nat) : Nat := 0x400C100C + 0x20 * t
/-- HOSTP.TXR_CTRL (R557). -/
def A.HOSTP_TXR_CTRL (t : Nat) : Nat := 0x400C1010 + 0x20 * t
/-- HOSTP.TXR_IDX (R557). -/
def A.HOSTP_TXR_IDX (t : Nat) : Nat := 0x400C1014 + 0x20 * t
/-- HOSTP.TXR_CQ_IDX (R557). -/
def A.HOSTP_TXR_CQ_IDX (t : Nat) : Nat := 0x400C1018 + 0x20 * t
/-- HOSTP.TXR_COAL (R557). -/
def A.HOSTP_TXR_COAL (t : Nat) : Nat := 0x400C101C + 0x20 * t
/-- HOSTP.MSIX_TABLE (R544). -/
def A.HOSTP_MSIX_TABLE (v : Nat) (w : Nat) : Nat := 0x400C8000 + 0x10 * v + 0x4 * w
/-- HOSTP.MSIX_CTRL (R544). -/
def A.HOSTP_MSIX_CTRL (v : Nat) : Nat := 0x400C800C + 0x10 * v
/-- Field [0:0] of HOSTP.MSIX_CTRL (R544). -/
def F.HOSTP_MSIX_CTRL_MASK (v : Nat) : Fld := ⟨A.HOSTP_MSIX_CTRL v, 0, 1⟩
/-- HOSTP.MSIX_PBA (R544). -/
def A.HOSTP_MSIX_PBA (w : Nat) : Nat := 0x400CA000 + 0x4 * w
/-- HOSTP.RXR_BASE_LO (R557). -/
def A.HOSTP_RXR_BASE_LO (r : Nat) : Nat := 0x400C3000 + 0x20 * r
/-- HOSTP.RXR_BASE_HI (R557). -/
def A.HOSTP_RXR_BASE_HI (r : Nat) : Nat := 0x400C3004 + 0x20 * r
/-- HOSTP.RXR_CQ_LO (R557). -/
def A.HOSTP_RXR_CQ_LO (r : Nat) : Nat := 0x400C3008 + 0x20 * r
/-- HOSTP.RXR_CQ_HI (R557). -/
def A.HOSTP_RXR_CQ_HI (r : Nat) : Nat := 0x400C300C + 0x20 * r
/-- HOSTP.RXR_CTRL (R557). -/
def A.HOSTP_RXR_CTRL (r : Nat) : Nat := 0x400C3010 + 0x20 * r
/-- HOSTP.RXR_IDX (R557). -/
def A.HOSTP_RXR_IDX (r : Nat) : Nat := 0x400C3014 + 0x20 * r
/-- HOSTP.RXR_CQ_IDX (R557). -/
def A.HOSTP_RXR_CQ_IDX (r : Nat) : Nat := 0x400C3018 + 0x20 * r
/-- HOSTP.RXR_COAL (R557). -/
def A.HOSTP_RXR_COAL (r : Nat) : Nat := 0x400C301C + 0x20 * r
/-- DRAMC.CFG (R566). -/
def A.DRAMC_CFG : Nat := 0x400B0010
/-- Field [31:31] of DRAMC.CFG (R566). -/
def F.DRAMC_CFG_ECC_EN : Fld := ⟨A.DRAMC_CFG, 31, 1⟩
/-- Field [27:24] of DRAMC.CFG (R566). -/
def F.DRAMC_CFG_RATE : Fld := ⟨A.DRAMC_CFG, 24, 4⟩
/-- Field [21:20] of DRAMC.CFG (R566). -/
def F.DRAMC_CFG_RANKS : Fld := ⟨A.DRAMC_CFG, 20, 2⟩
/-- Field [18:16] of DRAMC.CFG (R566). -/
def F.DRAMC_CFG_DENSITY : Fld := ⟨A.DRAMC_CFG, 16, 3⟩
/-- Field [8:8] of DRAMC.CFG (R566). -/
def F.DRAMC_CFG_TYPE : Fld := ⟨A.DRAMC_CFG, 8, 1⟩
/-- DRAMC.STATUS (R566). -/
def A.DRAMC_STATUS : Nat := 0x400B0014
/-- Field [31:31] of DRAMC.STATUS (R566). -/
def F.DRAMC_STATUS_TRAINED : Fld := ⟨A.DRAMC_STATUS, 31, 1⟩
/-- Field [30:30] of DRAMC.STATUS (R566). -/
def F.DRAMC_STATUS_SELF_REFRESH : Fld := ⟨A.DRAMC_STATUS, 30, 1⟩
/-- Field [29:28] of DRAMC.STATUS (R566). -/
def F.DRAMC_STATUS_PD : Fld := ⟨A.DRAMC_STATUS, 28, 2⟩
/-- Field [27:27] of DRAMC.STATUS (R566). -/
def F.DRAMC_STATUS_RETRAINING : Fld := ⟨A.DRAMC_STATUS, 27, 1⟩
/-- Field [25:24] of DRAMC.STATUS (R566). -/
def F.DRAMC_STATUS_TRAIN_RESULT : Fld := ⟨A.DRAMC_STATUS, 24, 2⟩
/-- Field [14:0] of DRAMC.STATUS (R566). -/
def F.DRAMC_STATUS_CAP_MIB : Fld := ⟨A.DRAMC_STATUS, 0, 15⟩
/-- DRAMC.PD_CFG (R566). -/
def A.DRAMC_PD_CFG : Nat := 0x400B0018
/-- Field [15:0] of DRAMC.PD_CFG (R566). -/
def F.DRAMC_PD_CFG_PD_IDLE_NS : Fld := ⟨A.DRAMC_PD_CFG, 0, 16⟩
/-- DRAMC.SCRUB (R566). -/
def A.DRAMC_SCRUB : Nat := 0x400B001C
/-- Field [15:8] of DRAMC.SCRUB (R566). -/
def F.DRAMC_SCRUB_PPR_THRESH : Fld := ⟨A.DRAMC_SCRUB, 8, 8⟩
/-- Field [7:0] of DRAMC.SCRUB (R566). -/
def F.DRAMC_SCRUB_SCRUB_HOURS : Fld := ⟨A.DRAMC_SCRUB, 0, 8⟩
/-- DRAMC.CE_ADDR_LO (R566). -/
def A.DRAMC_CE_ADDR_LO : Nat := 0x400B0020
/-- DRAMC.CE_ADDR_HI (R566). -/
def A.DRAMC_CE_ADDR_HI : Nat := 0x400B0024
/-- DRAMC.UE_ADDR_LO (R566). -/
def A.DRAMC_UE_ADDR_LO : Nat := 0x400B0028
/-- DRAMC.UE_ADDR_HI (R566). -/
def A.DRAMC_UE_ADDR_HI : Nat := 0x400B002C
/-- DRAMC.RETRAIN (R566). -/
def A.DRAMC_RETRAIN : Nat := 0x400B0030
/-- DRAMC.PPR (R566). -/
def A.DRAMC_PPR (k : Nat) : Nat := 0x400B0040 + 0x4 * k
/-- Field [31:31] of DRAMC.PPR (R566). -/
def F.DRAMC_PPR_VALID (k : Nat) : Fld := ⟨A.DRAMC_PPR k, 31, 1⟩
/-- Field [30:30] of DRAMC.PPR (R566). -/
def F.DRAMC_PPR_DONE (k : Nat) : Fld := ⟨A.DRAMC_PPR k, 30, 1⟩
/-- Field [29:29] of DRAMC.PPR (R566). -/
def F.DRAMC_PPR_RANK (k : Nat) : Fld := ⟨A.DRAMC_PPR k, 29, 1⟩
/-- Field [27:24] of DRAMC.PPR (R566). -/
def F.DRAMC_PPR_BANK (k : Nat) : Fld := ⟨A.DRAMC_PPR k, 24, 4⟩
/-- Field [17:0] of DRAMC.PPR (R566). -/
def F.DRAMC_PPR_ROW (k : Nat) : Fld := ⟨A.DRAMC_PPR k, 0, 18⟩
/-- DRAMC.PPR_USED (R566). -/
def A.DRAMC_PPR_USED : Nat := 0x400B0060
/-- KEYS.CMD (R604). -/
def A.KEYS_CMD : Nat := 0x40060010
/-- KEYS.STATUS (R604). -/
def A.KEYS_STATUS : Nat := 0x40060014
/-- Field [31:31] of KEYS.STATUS (R604). -/
def F.KEYS_STATUS_BUSY : Fld := ⟨A.KEYS_STATUS, 31, 1⟩
/-- Field [3:0] of KEYS.STATUS (R604). -/
def F.KEYS_STATUS_RESULT : Fld := ⟨A.KEYS_STATUS, 0, 4⟩
/-- KEYS.KEY_DATA (R604). -/
def A.KEYS_KEY_DATA (n : Nat) : Nat := 0x40060020 + 0x4 * n
/-- KEYS.SLOT_CFG (R604). -/
def A.KEYS_SLOT_CFG : Nat := 0x40060040
/-- Field [13:8] of KEYS.SLOT_CFG (R604). -/
def F.KEYS_SLOT_CFG_USE : Fld := ⟨A.KEYS_SLOT_CFG, 8, 6⟩
/-- Field [5:4] of KEYS.SLOT_CFG (R604). -/
def F.KEYS_SLOT_CFG_PNW : Fld := ⟨A.KEYS_SLOT_CFG, 4, 2⟩
/-- Field [1:0] of KEYS.SLOT_CFG (R604). -/
def F.KEYS_SLOT_CFG_KTYPE : Fld := ⟨A.KEYS_SLOT_CFG, 0, 2⟩
/-- KEYS.PN_INIT_LO (R604). -/
def A.KEYS_PN_INIT_LO : Nat := 0x40060044
/-- KEYS.PN_INIT_HI (R604). -/
def A.KEYS_PN_INIT_HI : Nat := 0x40060048
/-- KEYS.SLOT_STATE (R605). -/
def A.KEYS_SLOT_STATE : Nat := 0x40060050
/-- KEYS.TX_PN_LO (R605). -/
def A.KEYS_TX_PN_LO : Nat := 0x40060054
/-- KEYS.TX_PN_HI (R605). -/
def A.KEYS_TX_PN_HI : Nat := 0x40060058
/-- KEYS.LC (R606). -/
def A.KEYS_LC : Nat := 0x40060060
/-- Field [9:8] of KEYS.LC (R606). -/
def F.KEYS_LC_DBG_SEEN : Fld := ⟨A.KEYS_LC, 8, 2⟩
/-- KEYS.LC_CMD (R606). -/
def A.KEYS_LC_CMD : Nat := 0x40060064
/-- KEYS.LC_STATUS (R606). -/
def A.KEYS_LC_STATUS : Nat := 0x40060068
/-- Field [31:31] of KEYS.LC_STATUS (R606). -/
def F.KEYS_LC_STATUS_BUSY : Fld := ⟨A.KEYS_LC_STATUS, 31, 1⟩
/-- Field [3:0] of KEYS.LC_STATUS (R606). -/
def F.KEYS_LC_STATUS_RESULT : Fld := ⟨A.KEYS_LC_STATUS, 0, 4⟩
/-- KEYS.ENTROPY (R606). -/
def A.KEYS_ENTROPY : Nat := 0x4006006C
/-- Field [31:16] of KEYS.ENTROPY (R606). -/
def F.KEYS_ENTROPY_FAILS : Fld := ⟨A.KEYS_ENTROPY, 16, 16⟩
/-- Field [0:0] of KEYS.ENTROPY (R606). -/
def F.KEYS_ENTROPY_HEALTH_OK : Fld := ⟨A.KEYS_ENTROPY, 0, 1⟩
/-- KEYS.OWNER_HASH (R606). -/
def A.KEYS_OWNER_HASH (n : Nat) : Nat := 0x40060080 + 0x4 * n
/-- KEYS.FUSED_HASH (R606). -/
def A.KEYS_FUSED_HASH (n : Nat) : Nat := 0x400600C0 + 0x4 * n
/-- KEYS.DEVICE_ID (R606). -/
def A.KEYS_DEVICE_ID (n : Nat) : Nat := 0x40060100 + 0x4 * n
/-- KEYS.ED_PUB (R606). -/
def A.KEYS_ED_PUB (n : Nat) : Nat := 0x40060140 + 0x4 * n
/-- KEYS.MLDSA_PUB (R606). -/
def A.KEYS_MLDSA_PUB (w : Nat) : Nat := 0x40061000 + 0x4 * w
/-- DBG.CHAL (R608). -/
def A.DBG_CHAL (n : Nat) : Nat := 0x40040010 + 0x4 * n
/-- DBG.CMD (R608). -/
def A.DBG_CMD : Nat := 0x40040030
/-- DBG.STATUS (R608). -/
def A.DBG_STATUS : Nat := 0x40040034
/-- Field [31:31] of DBG.STATUS (R608). -/
def F.DBG_STATUS_BUSY : Fld := ⟨A.DBG_STATUS, 31, 1⟩
/-- Field [15:8] of DBG.STATUS (R608). -/
def F.DBG_STATUS_FAILS : Fld := ⟨A.DBG_STATUS, 8, 8⟩
/-- Field [7:4] of DBG.STATUS (R608). -/
def F.DBG_STATUS_RESULT : Fld := ⟨A.DBG_STATUS, 4, 4⟩
/-- Field [1:0] of DBG.STATUS (R608). -/
def F.DBG_STATUS_LEVEL : Fld := ⟨A.DBG_STATUS, 0, 2⟩
/-- DBG.MAIL (R608). -/
def A.DBG_MAIL (w : Nat) : Nat := 0x40041000 + 0x4 * w
/-- SEAL.FW_BASE_LO (R609). -/
def A.SEAL_FW_BASE_LO : Nat := 0x40070010
/-- SEAL.FW_BASE_HI (R609). -/
def A.SEAL_FW_BASE_HI : Nat := 0x40070014
/-- SEAL.FW_CFG (R609). -/
def A.SEAL_FW_CFG : Nat := 0x40070018
/-- Field [31:31] of SEAL.FW_CFG (R609). -/
def F.SEAL_FW_CFG_EN : Fld := ⟨A.SEAL_FW_CFG, 31, 1⟩
/-- Field [28:16] of SEAL.FW_CFG (R609). -/
def F.SEAL_FW_CFG_SIZE : Fld := ⟨A.SEAL_FW_CFG, 16, 13⟩
/-- Field [8:0] of SEAL.FW_CFG (R609). -/
def F.SEAL_FW_CFG_VECTOR : Fld := ⟨A.SEAL_FW_CFG, 0, 9⟩
/-- SEAL.FW_IDX (R609). -/
def A.SEAL_FW_IDX : Nat := 0x4007001C
/-- Field [31:16] of SEAL.FW_IDX (R609). -/
def F.SEAL_FW_IDX_CI : Fld := ⟨A.SEAL_FW_IDX, 16, 16⟩
/-- Field [15:0] of SEAL.FW_IDX (R609). -/
def F.SEAL_FW_IDX_PI : Fld := ⟨A.SEAL_FW_IDX, 0, 16⟩
/-- SEAL.CQ_BASE_LO (R609). -/
def A.SEAL_CQ_BASE_LO : Nat := 0x40070020
/-- SEAL.CQ_BASE_HI (R609). -/
def A.SEAL_CQ_BASE_HI : Nat := 0x40070024
/-- SEAL.CQ_IDX (R609). -/
def A.SEAL_CQ_IDX : Nat := 0x40070028
/-- Field [31:16] of SEAL.CQ_IDX (R609). -/
def F.SEAL_CQ_IDX_CQ_CI : Fld := ⟨A.SEAL_CQ_IDX, 16, 16⟩
/-- Field [15:0] of SEAL.CQ_IDX (R609). -/
def F.SEAL_CQ_IDX_CQ_PI : Fld := ⟨A.SEAL_CQ_IDX, 0, 16⟩
/-- SEAL.PIPE_STATUS (R609). -/
def A.SEAL_PIPE_STATUS : Nat := 0x40070030
/-- Field [4:0] of SEAL.PIPE_STATUS (R609). -/
def F.SEAL_PIPE_STATUS_BUSY : Fld := ⟨A.SEAL_PIPE_STATUS, 0, 5⟩
/-- DISPATCH.CTRL (R639). -/
def A.DISPATCH_CTRL : Nat := 0x40090010
/-- Field [31:16] of DISPATCH.CTRL (R639). -/
def F.DISPATCH_CTRL_SLICE_US : Fld := ⟨A.DISPATCH_CTRL, 16, 16⟩
/-- Field [7:0] of DISPATCH.CTRL (R639). -/
def F.DISPATCH_CTRL_SUP_QUEUE : Fld := ⟨A.DISPATCH_CTRL, 0, 8⟩
/-- DISPATCH.CORE_MAP (R639). -/
def A.DISPATCH_CORE_MAP : Nat := 0x40090014
/-- Field [24:16] of DISPATCH.CORE_MAP (R639). -/
def F.DISPATCH_CORE_MAP_RETIRED : Fld := ⟨A.DISPATCH_CORE_MAP, 16, 9⟩
/-- Field [8:0] of DISPATCH.CORE_MAP (R639). -/
def F.DISPATCH_CORE_MAP_ACTIVE : Fld := ⟨A.DISPATCH_CORE_MAP, 0, 9⟩
/-- DISPATCH.SW_ENTRY_LO (R639). -/
def A.DISPATCH_SW_ENTRY_LO : Nat := 0x40090018
/-- DISPATCH.SW_ENTRY_HI (R639). -/
def A.DISPATCH_SW_ENTRY_HI : Nat := 0x4009001C
/-- Field [2:0] of DISPATCH.SW_ENTRY_HI (R639). -/
def F.DISPATCH_SW_ENTRY_HI_ADDR : Fld := ⟨A.DISPATCH_SW_ENTRY_HI, 0, 3⟩
/-- DISPATCH.POOL (R639). -/
def A.DISPATCH_POOL : Nat := 0x40090020
/-- Field [31:17] of DISPATCH.POOL (R639). -/
def F.DISPATCH_POOL_COMPL_FREE : Fld := ⟨A.DISPATCH_POOL, 17, 15⟩
/-- Field [16:0] of DISPATCH.POOL (R639). -/
def F.DISPATCH_POOL_MQ_FREE : Fld := ⟨A.DISPATCH_POOL, 0, 17⟩
/-- DISPATCH.CORE_STATUS (R641). -/
def A.DISPATCH_CORE_STATUS (c : Nat) : Nat := 0x40090100 + 0x4 * c
/-- DISPATCH.MQ_W0 (R642). -/
def A.DISPATCH_MQ_W0 (q : Nat) : Nat := 0x40091000 + 0x8 * q
/-- Field [31:31] of DISPATCH.MQ_W0 (R642). -/
def F.DISPATCH_MQ_W0_EN (q : Nat) : Fld := ⟨A.DISPATCH_MQ_W0 q, 31, 1⟩
/-- Field [10:0] of DISPATCH.MQ_W0 (R642). -/
def F.DISPATCH_MQ_W0_DEPTH (q : Nat) : Fld := ⟨A.DISPATCH_MQ_W0 q, 0, 11⟩
/-- DISPATCH.MQ_W1 (R642). -/
def A.DISPATCH_MQ_W1 (q : Nat) : Nat := 0x40091004 + 0x8 * q
/-- Field [26:16] of DISPATCH.MQ_W1 (R642). -/
def F.DISPATCH_MQ_W1_COUNT (q : Nat) : Fld := ⟨A.DISPATCH_MQ_W1 q, 16, 11⟩
/-- Field [9:0] of DISPATCH.MQ_W1 (R642). -/
def F.DISPATCH_MQ_W1_WAITERS (q : Nat) : Fld := ⟨A.DISPATCH_MQ_W1 q, 0, 10⟩
/-- DISPATCH.TH_W0 (R643). -/
def A.DISPATCH_TH_W0 (t : Nat) : Nat := 0x40094000 + 0x20 * t
/-- Field [31:29] of DISPATCH.TH_W0 (R643). -/
def F.DISPATCH_TH_W0_STATE (t : Nat) : Fld := ⟨A.DISPATCH_TH_W0 t, 29, 3⟩
/-- Field [28:24] of DISPATCH.TH_W0 (R643). -/
def F.DISPATCH_TH_W0_PRIO (t : Nat) : Fld := ⟨A.DISPATCH_TH_W0 t, 24, 5⟩
/-- Field [21:21] of DISPATCH.TH_W0 (R643). -/
def F.DISPATCH_TH_W0_ABORTED (t : Nat) : Fld := ⟨A.DISPATCH_TH_W0 t, 21, 1⟩
/-- Field [20:20] of DISPATCH.TH_W0 (R643). -/
def F.DISPATCH_TH_W0_FAULTED (t : Nat) : Fld := ⟨A.DISPATCH_TH_W0 t, 20, 1⟩
/-- Field [15:12] of DISPATCH.TH_W0 (R643). -/
def F.DISPATCH_TH_W0_LAST_CORE (t : Nat) : Fld := ⟨A.DISPATCH_TH_W0 t, 12, 4⟩
/-- Field [8:0] of DISPATCH.TH_W0 (R643). -/
def F.DISPATCH_TH_W0_AFFINITY (t : Nat) : Fld := ⟨A.DISPATCH_TH_W0 t, 0, 9⟩
/-- DISPATCH.TH_CTX (R643). -/
def A.DISPATCH_TH_CTX (t : Nat) : Nat := 0x40094004 + 0x20 * t
/-- DISPATCH.TH_EVENTS (R643). -/
def A.DISPATCH_TH_EVENTS (t : Nat) : Nat := 0x40094008 + 0x20 * t
/-- DISPATCH.TH_MASK (R643). -/
def A.DISPATCH_TH_MASK (t : Nat) : Nat := 0x4009400C + 0x20 * t
/-- DISPATCH.TH_WAIT (R643). -/
def A.DISPATCH_TH_WAIT (t : Nat) : Nat := 0x40094010 + 0x20 * t
/-- Field [31:28] of DISPATCH.TH_WAIT (R643). -/
def F.DISPATCH_TH_WAIT_WAIT_KIND (t : Nat) : Fld := ⟨A.DISPATCH_TH_WAIT t, 28, 4⟩
/-- Field [7:0] of DISPATCH.TH_WAIT (R643). -/
def F.DISPATCH_TH_WAIT_WAIT_QUEUE (t : Nat) : Fld := ⟨A.DISPATCH_TH_WAIT t, 0, 8⟩
/-- DISPATCH.TH_WAKE_LO (R643). -/
def A.DISPATCH_TH_WAKE_LO (t : Nat) : Nat := 0x40094014 + 0x20 * t
/-- DISPATCH.TH_WAKE_HI (R643). -/
def A.DISPATCH_TH_WAKE_HI (t : Nat) : Nat := 0x40094018 + 0x20 * t
/-- DISPATCH.TH_W7 (R643). -/
def A.DISPATCH_TH_W7 (t : Nat) : Nat := 0x4009401C + 0x20 * t
/-- Field [26:16] of DISPATCH.TH_W7 (R643). -/
def F.DISPATCH_TH_W7_CMAX (t : Nat) : Fld := ⟨A.DISPATCH_TH_W7 t, 16, 11⟩
/-- Field [10:0] of DISPATCH.TH_W7 (R643). -/
def F.DISPATCH_TH_W7_COMPL (t : Nat) : Fld := ⟨A.DISPATCH_TH_W7 t, 0, 11⟩
/-- DISPATCH.VROUTE (R644). -/
def A.DISPATCH_VROUTE (v : Nat) : Nat := 0x4009C000 + 0x4 * v
/-- Field [31:30] of DISPATCH.VROUTE (R644). -/
def F.DISPATCH_VROUTE_MODE (v : Nat) : Fld := ⟨A.DISPATCH_VROUTE v, 30, 2⟩
/-- Field [28:24] of DISPATCH.VROUTE (R644). -/
def F.DISPATCH_VROUTE_FLAG (v : Nat) : Fld := ⟨A.DISPATCH_VROUTE v, 24, 5⟩
/-- Field [9:0] of DISPATCH.VROUTE (R644). -/
def F.DISPATCH_VROUTE_THREAD (v : Nat) : Fld := ⟨A.DISPATCH_VROUTE v, 0, 10⟩
/-- PIGEON.LEVELS (R646). -/
def A.PIGEON_LEVELS : Nat := 0x400A0010
/-- PIGEON.CFG (R646). -/
def A.PIGEON_CFG (n : Nat) : Nat := 0x400A0100 + 0x40 * n
/-- Field [31:31] of PIGEON.CFG (R646). -/
def F.PIGEON_CFG_EN (n : Nat) : Fld := ⟨A.PIGEON_CFG n, 31, 1⟩
/-- Field [30:29] of PIGEON.CFG (R646). -/
def F.PIGEON_CFG_PROD (n : Nat) : Fld := ⟨A.PIGEON_CFG n, 29, 2⟩
/-- Field [19:16] of PIGEON.CFG (R646). -/
def F.PIGEON_CFG_DEPTH_LOG2 (n : Nat) : Fld := ⟨A.PIGEON_CFG n, 16, 4⟩
/-- Field [10:0] of PIGEON.CFG (R646). -/
def F.PIGEON_CFG_LEVEL (n : Nat) : Fld := ⟨A.PIGEON_CFG n, 0, 11⟩
/-- PIGEON.BASE_LO (R646). -/
def A.PIGEON_BASE_LO (n : Nat) : Nat := 0x400A0104 + 0x40 * n
/-- PIGEON.BASE_HI (R646). -/
def A.PIGEON_BASE_HI (n : Nat) : Nat := 0x400A0108 + 0x40 * n
/-- Field [2:0] of PIGEON.BASE_HI (R646). -/
def F.PIGEON_BASE_HI_BASE (n : Nat) : Fld := ⟨A.PIGEON_BASE_HI n, 0, 3⟩
/-- PIGEON.IRQ (R646). -/
def A.PIGEON_IRQ (n : Nat) : Nat := 0x400A010C + 0x40 * n
/-- Field [24:16] of PIGEON.IRQ (R646). -/
def F.PIGEON_IRQ_VECTOR (n : Nat) : Fld := ⟨A.PIGEON_IRQ n, 16, 9⟩
/-- Field [15:0] of PIGEON.IRQ (R646). -/
def F.PIGEON_IRQ_AGE_US (n : Nat) : Fld := ⟨A.PIGEON_IRQ n, 0, 16⟩
/-- PIGEON.PROD (R646). -/
def A.PIGEON_PROD (n : Nat) : Nat := 0x400A0110 + 0x40 * n
/-- PIGEON.COMMIT (R646). -/
def A.PIGEON_COMMIT (n : Nat) : Nat := 0x400A0114 + 0x40 * n
/-- PIGEON.PROD_RESULT (R646). -/
def A.PIGEON_PROD_RESULT (n : Nat) : Nat := 0x400A0118 + 0x40 * n
/-- Field [3:0] of PIGEON.PROD_RESULT (R646). -/
def F.PIGEON_PROD_RESULT_RESULT (n : Nat) : Fld := ⟨A.PIGEON_PROD_RESULT n, 0, 4⟩
/-- PIGEON.HEAD (R646). -/
def A.PIGEON_HEAD (n : Nat) : Nat := 0x400A011C + 0x40 * n
/-- PIGEON.CONS_OP (R646). -/
def A.PIGEON_CONS_OP (n : Nat) : Nat := 0x400A0120 + 0x40 * n
/-- PIGEON.CONS_STATUS (R646). -/
def A.PIGEON_CONS_STATUS (n : Nat) : Nat := 0x400A0124 + 0x40 * n
/-- Field [29:27] of PIGEON.CONS_STATUS (R646). -/
def F.PIGEON_CONS_STATUS_RESULT (n : Nat) : Fld := ⟨A.PIGEON_CONS_STATUS n, 27, 3⟩
/-- Counter FAULT.COUNT (R678). -/
def C.FAULT_COUNT (s : Nat) : Nat := 0x40030800 + 0x8 * s
/-- Counter FAULT.LOG_LOST (R678). -/
def C.FAULT_LOG_LOST : Nat := 0x40032000
/-- Counter FAULT.INJECTED (R678). -/
def C.FAULT_INJECTED : Nat := 0x40032008
/-- Counter FAULT.RETIREMENTS (R678). -/
def C.FAULT_RETIREMENTS : Nat := 0x40032010
/-- Counter RADIO.TX_LATE (R177). -/
def C.RADIO_TX_LATE (r : Nat) : Nat := 0x40900800 + 0x100000 * r
/-- Counter RADIO.TX_UNLOCK (R177). -/
def C.RADIO_TX_UNLOCK (r : Nat) : Nat := 0x40900808 + 0x100000 * r
/-- Counter RADIO.TX_CAP (R177). -/
def C.RADIO_TX_CAP (r : Nat) : Nat := 0x40900810 + 0x100000 * r
/-- Counter RADIO.RX_SAT (R177). -/
def C.RADIO_RX_SAT (r : Nat) : Nat := 0x40900818 + 0x100000 * r
/-- Counter RADIO.RX_PPDU (R207). -/
def C.RADIO_RX_PPDU (r : Nat) : Nat := 0x40901800 + 0x100000 * r
/-- Counter RADIO.RX_HDR_FAIL (R207). -/
def C.RADIO_RX_HDR_FAIL (r : Nat) : Nat := 0x40901808 + 0x100000 * r
/-- Counter RADIO.RX_FALSE_DETECT (R207). -/
def C.RADIO_RX_FALSE_DETECT (r : Nat) : Nat := 0x40901810 + 0x100000 * r
/-- Counter RADIO.RX_LOST_CAPTURE (R207). -/
def C.RADIO_RX_LOST_CAPTURE (r : Nat) : Nat := 0x40901818 + 0x100000 * r
/-- Counter RADIO.CSI_CAPTURED (R207). -/
def C.RADIO_CSI_CAPTURED (r : Nat) : Nat := 0x40901820 + 0x100000 * r
/-- Counter RADIO.CSI_DROPPED (R207). -/
def C.RADIO_CSI_DROPPED (r : Nat) : Nat := 0x40901828 + 0x100000 * r
/-- Counter RADIO.VEXT_RX (R207). -/
def C.RADIO_VEXT_RX (r : Nat) : Nat := 0x40901830 + 0x100000 * r
/-- Counter RADIO.VEXT_TX (R207). -/
def C.RADIO_VEXT_TX (r : Nat) : Nat := 0x40901838 + 0x100000 * r
/-- Counter LDPC.DEC_OK (R213). -/
def C.LDPC_DEC_OK (c : Nat) : Nat := 0x40800100 + 0x8 * c
/-- Counter LDPC.DEC_MISSED (R213). -/
def C.LDPC_DEC_MISSED (c : Nat) : Nat := 0x40800118 + 0x8 * c
/-- Counter LDPC.DEC_FAIL (R213). -/
def C.LDPC_DEC_FAIL : Nat := 0x40800130
/-- Counter LDPC.DEC_CANCELLED (R213). -/
def C.LDPC_DEC_CANCELLED : Nat := 0x40800138
/-- Counter LDPC.DEC_REQUEUED (R213). -/
def C.LDPC_DEC_REQUEUED : Nat := 0x40800140
/-- Counter LDPC.ITER_TOTAL (R213). -/
def C.LDPC_ITER_TOTAL : Nat := 0x40800148
/-- Counter WMAC.TX_MPDU (R256). -/
def C.WMAC_TX_MPDU : Nat := 0x40600800
/-- Counter WMAC.TX_RETRY (R256). -/
def C.WMAC_TX_RETRY : Nat := 0x40600808
/-- Counter WMAC.TX_RETRY_LIMIT (R256). -/
def C.WMAC_TX_RETRY_LIMIT : Nat := 0x40600810
/-- Counter WMAC.RX_MPDU (R256). -/
def C.WMAC_RX_MPDU : Nat := 0x40600818
/-- Counter WMAC.RX_DUP (R256). -/
def C.WMAC_RX_DUP : Nat := 0x40600820
/-- Counter WMAC.RX_DUP_REG (R256). -/
def C.WMAC_RX_DUP_REG : Nat := 0x40600828
/-- Counter WMAC.RX_STALE (R256). -/
def C.WMAC_RX_STALE : Nat := 0x40600830
/-- Counter WMAC.RX_FLUSHED (R256). -/
def C.WMAC_RX_FLUSHED : Nat := 0x40600838
/-- Counter WMAC.RX_REPLAY (R256). -/
def C.WMAC_RX_REPLAY : Nat := 0x40600840
/-- Counter WMAC.RX_MIC_FAIL (R256). -/
def C.WMAC_RX_MIC_FAIL : Nat := 0x40600848
/-- Counter WMAC.RX_NO_KEY (R256). -/
def C.WMAC_RX_NO_KEY : Nat := 0x40600850
/-- Counter WMAC.RX_NO_PEER (R256). -/
def C.WMAC_RX_NO_PEER : Nat := 0x40600858
/-- Counter WMAC.RX_UNAUTH (R256). -/
def C.WMAC_RX_UNAUTH : Nat := 0x40600860
/-- Counter WMAC.RX_DEFRAG_DROP (R256). -/
def C.WMAC_RX_DEFRAG_DROP : Nat := 0x40600868
/-- Counter WMAC.EMLSR_ICF_FAIL (R256). -/
def C.WMAC_EMLSR_ICF_FAIL : Nat := 0x40600870
/-- Counter POSTMARK.TS_OVERFLOW (R288). -/
def C.POSTMARK_TS_OVERFLOW (q : Nat) : Nat := 0x40080080 + 0x8 * q
/-- Counter ROUNDS.ROUNDS_RUN (R323). -/
def C.ROUNDS_ROUNDS_RUN (r : Nat) : Nat := 0x40700800 + 0x80 * r
/-- Counter ROUNDS.BOUNDARY_LATE (R323). -/
def C.ROUNDS_BOUNDARY_LATE (r : Nat) : Nat := 0x40700808 + 0x80 * r
/-- Counter ROUNDS.TRIG_SENT (R323). -/
def C.ROUNDS_TRIG_SENT (r : Nat) : Nat := 0x40700810 + 0x80 * r
/-- Counter ROUNDS.TB_EMPTY (R323). -/
def C.ROUNDS_TB_EMPTY (r : Nat) : Nat := 0x40700818 + 0x80 * r
/-- Counter ROUNDS.TWT_MISSED (R323). -/
def C.ROUNDS_TWT_MISSED (r : Nat) : Nat := 0x40700820 + 0x80 * r
/-- Counter ROUNDS.AIR_OWN_US (R323). -/
def C.ROUNDS_AIR_OWN_US (r : Nat) : Nat := 0x40700828 + 0x80 * r
/-- Counter ROUNDS.AIR_RSP_US (R323). -/
def C.ROUNDS_AIR_RSP_US (r : Nat) : Nat := 0x40700830 + 0x80 * r
/-- Counter ROUNDS.AIR_QUIET_US (R323). -/
def C.ROUNDS_AIR_QUIET_US (r : Nat) : Nat := 0x40700838 + 0x80 * r
/-- Counter ROUNDS.BEACON_DEFER (R323). -/
def C.ROUNDS_BEACON_DEFER (r : Nat) : Nat := 0x40700840 + 0x80 * r
/-- Counter ROUNDS.JOINT_HOLDS (R323). -/
def C.ROUNDS_JOINT_HOLDS (r : Nat) : Nat := 0x40700848 + 0x80 * r
/-- Counter ROUNDS.RSP_BUSY_START (R323). -/
def C.ROUNDS_RSP_BUSY_START (r : Nat) : Nat := 0x40700850 + 0x80 * r
/-- Counter NGR.TX_CAP (R353). -/
def C.NGR_TX_CAP : Nat := 0x40C00810
/-- Counter NGR.RX_SAT (R353). -/
def C.NGR_RX_SAT : Nat := 0x40C00818
/-- Counter NGR.RX_FRAMES (R353). -/
def C.NGR_RX_FRAMES : Nat := 0x40C00820
/-- Counter NGR.RX_HDR_FAIL (R353). -/
def C.NGR_RX_HDR_FAIL : Nat := 0x40C00828
/-- Counter NGR.RX_FALSE_DETECT (R353). -/
def C.NGR_RX_FALSE_DETECT : Nat := 0x40C00830
/-- Counter NGR.RX_LOST_CAPTURE (R353). -/
def C.NGR_RX_LOST_CAPTURE : Nat := 0x40C00838
/-- Counter NGR.RX_WRONG_CODE (R353). -/
def C.NGR_RX_WRONG_CODE : Nat := 0x40C00840
/-- Counter NGR.RX_CRC_FAIL (R353). -/
def C.NGR_RX_CRC_FAIL : Nat := 0x40C00848
/-- Counter NGR.RX_DEC_MISSED (R353). -/
def C.NGR_RX_DEC_MISSED : Nat := 0x40C00850
/-- Counter NGR.RX_PREEMPTED (R353). -/
def C.NGR_RX_PREEMPTED : Nat := 0x40C00858
/-- Counter NGR.RNG_OK (R353). -/
def C.NGR_RNG_OK : Nat := 0x40C00860
/-- Counter NGR.RNG_FAIL (R353). -/
def C.NGR_RNG_FAIL : Nat := 0x40C00868
/-- Counter NGL.TX_FRAMES (R397). -/
def C.NGL_TX_FRAMES : Nat := 0x40D00800
/-- Counter NGL.TX_RETRY (R397). -/
def C.NGL_TX_RETRY : Nat := 0x40D00808
/-- Counter NGL.TX_NO_ACK (R397). -/
def C.NGL_TX_NO_ACK : Nat := 0x40D00810
/-- Counter NGL.BCN_SENT (R397). -/
def C.NGL_BCN_SENT : Nat := 0x40D00818
/-- Counter NGL.BCN_SKIPPED (R397). -/
def C.NGL_BCN_SKIPPED : Nat := 0x40D00820
/-- Counter NGL.ACK_SUPPRESSED (R397). -/
def C.NGL_ACK_SUPPRESSED : Nat := 0x40D00828
/-- Counter NGL.ACK_LATE (R397). -/
def C.NGL_ACK_LATE : Nat := 0x40D00830
/-- Counter NGL.TX_DEFER_DWELL (R397). -/
def C.NGL_TX_DEFER_DWELL : Nat := 0x40D00838
/-- Counter NGL.TX_DEFER_DUTY (R397). -/
def C.NGL_TX_DEFER_DUTY : Nat := 0x40D00840
/-- Counter NGL.TX_DEFER_LBT (R397). -/
def C.NGL_TX_DEFER_LBT : Nat := 0x40D00848
/-- Counter NGL.RX_DELIVERED (R397). -/
def C.NGL_RX_DELIVERED : Nat := 0x40D00850
/-- Counter NGL.RX_RELAYED (R397). -/
def C.NGL_RX_RELAYED : Nat := 0x40D00858
/-- Counter NGL.RX_DUP (R397). -/
def C.NGL_RX_DUP : Nat := 0x40D00860
/-- Counter NGL.RX_REPLAY (R397). -/
def C.NGL_RX_REPLAY : Nat := 0x40D00868
/-- Counter NGL.RX_MIC_FAIL (R397). -/
def C.NGL_RX_MIC_FAIL : Nat := 0x40D00870
/-- Counter NGL.RX_NO_KEY (R397). -/
def C.NGL_RX_NO_KEY : Nat := 0x40D00878
/-- Counter NGL.RX_NO_NODE (R397). -/
def C.NGL_RX_NO_NODE : Nat := 0x40D00880
/-- Counter NGL.RX_OTHER_NET (R397). -/
def C.NGL_RX_OTHER_NET : Nat := 0x40D00888
/-- Counter NGL.RX_BAD_FRAME (R397). -/
def C.NGL_RX_BAD_FRAME : Nat := 0x40D00890
/-- Counter NGL.RX_HOPS (R397). -/
def C.NGL_RX_HOPS : Nat := 0x40D00898
/-- Counter NGL.RX_FIFO_FULL (R397). -/
def C.NGL_RX_FIFO_FULL : Nat := 0x40D008A0
/-- Counter NGL.RX_RELAY_FULL (R397). -/
def C.NGL_RX_RELAY_FULL : Nat := 0x40D008A8
/-- Counter NGL.EVENTS_MISSED (R397). -/
def C.NGL_EVENTS_MISSED : Nat := 0x40D008B0
/-- Counter NGL.NODES_DROPPED (R397). -/
def C.NGL_NODES_DROPPED : Nat := 0x40D008B8
/-- Counter NGL.RESYNC_SCANS (R397). -/
def C.NGL_RESYNC_SCANS : Nat := 0x40D008C0
/-- Counter NGL.BCN_MISSED (R397). -/
def C.NGL_BCN_MISSED : Nat := 0x40D008C8
/-- Counter SORT.PKT_IN (R427). -/
def C.SORT_PKT_IN : Nat := 0x40200800
/-- Counter SORT.PASS2 (R427). -/
def C.SORT_PASS2 : Nat := 0x40200808
/-- Counter SORT.PARSE_TRUNC (R427). -/
def C.SORT_PARSE_TRUNC : Nat := 0x40200810
/-- Counter SORT.LEN_CONFLICT (R427). -/
def C.SORT_LEN_CONFLICT : Nat := 0x40200818
/-- Counter SORT.FRAG (R427). -/
def C.SORT_FRAG : Nat := 0x40200820
/-- Counter SORT.BAD_NODE (R427). -/
def C.SORT_BAD_NODE : Nat := 0x40200828
/-- Counter SORT.NO_MATCH (R427). -/
def C.SORT_NO_MATCH : Nat := 0x40200830
/-- Counter SORT.DROP_RULE (R427). -/
def C.SORT_DROP_RULE : Nat := 0x40200838
/-- Counter SORT.RECIRC_REFUSED (R427). -/
def C.SORT_RECIRC_REFUSED : Nat := 0x40200840
/-- Counter SORT.RECIRC_FULL (R427). -/
def C.SORT_RECIRC_FULL : Nat := 0x40200848
/-- Counter SORT.REG_LANE_FULL (R427). -/
def C.SORT_REG_LANE_FULL : Nat := 0x40200850
/-- Counter SORT.CAM_CORRECTED (R427). -/
def C.SORT_CAM_CORRECTED : Nat := 0x40200858
/-- Counter SORT.PARSER_CORRECTED (R427). -/
def C.SORT_PARSER_CORRECTED : Nat := 0x40200860
/-- Counter SORT.RULE_PKT (R428). -/
def C.SORT_RULE_PKT (c : Nat) : Nat := 0x40220000 + 0x10 * c
/-- Counter SORT.RULE_OCT (R428). -/
def C.SORT_RULE_OCT (c : Nat) : Nat := 0x40220008 + 0x10 * c
/-- Counter TABLES.LEARNED (R460). -/
def C.TABLES_LEARNED : Nat := 0x40300800
/-- Counter TABLES.LEARN_FAIL (R460). -/
def C.TABLES_LEARN_FAIL : Nat := 0x40300808
/-- Counter TABLES.LEARN_QFULL (R460). -/
def C.TABLES_LEARN_QFULL : Nat := 0x40300810
/-- Counter TABLES.MOVES (R460). -/
def C.TABLES_MOVES : Nat := 0x40300818
/-- Counter TABLES.MOVE_BLOCKED (R460). -/
def C.TABLES_MOVE_BLOCKED : Nat := 0x40300820
/-- Counter TABLES.RELOCATIONS (R460). -/
def C.TABLES_RELOCATIONS : Nat := 0x40300828
/-- Counter TABLES.AGED_OUT (R460). -/
def C.TABLES_AGED_OUT : Nat := 0x40300830
/-- Counter TABLES.L2_FLOOD_UNKNOWN (R460). -/
def C.TABLES_L2_FLOOD_UNKNOWN : Nat := 0x40300838
/-- Counter TABLES.L2_DISCARD (R460). -/
def C.TABLES_L2_DISCARD : Nat := 0x40300840
/-- Counter TABLES.L2_HAIRPIN (R460). -/
def C.TABLES_L2_HAIRPIN : Nat := 0x40300848
/-- Counter TABLES.BD_INVALID (R460). -/
def C.TABLES_BD_INVALID : Nat := 0x40300850
/-- Counter TABLES.L3_MISS (R460). -/
def C.TABLES_L3_MISS : Nat := 0x40300858
/-- Counter TABLES.TTL_PUNT (R460). -/
def C.TABLES_TTL_PUNT : Nat := 0x40300860
/-- Counter TABLES.MTU_PUNT (R460). -/
def C.TABLES_MTU_PUNT : Nat := 0x40300868
/-- Counter TABLES.NH_INVALID (R460). -/
def C.TABLES_NH_INVALID : Nat := 0x40300870
/-- Counter TABLES.SESS_MISS (R460). -/
def C.TABLES_SESS_MISS : Nat := 0x40300878
/-- Counter TABLES.SESS_AGED (R460). -/
def C.TABLES_SESS_AGED : Nat := 0x40300880
/-- Counter TABLES.AUDIT_MISMATCH (R460). -/
def C.TABLES_AUDIT_MISMATCH : Nat := 0x40300888
/-- Counter TABLES.AUDIT_CORRECTED (R460). -/
def C.TABLES_AUDIT_CORRECTED : Nat := 0x40300890
/-- Counter TABLES.ECC_DOUBLE (R460). -/
def C.TABLES_ECC_DOUBLE : Nat := 0x40300898
/-- Counter TM.ENQUEUED (R488). -/
def C.TM_ENQUEUED : Nat := 0x40400800
/-- Counter TM.DROP_LIMIT (R488). -/
def C.TM_DROP_LIMIT : Nat := 0x40400808
/-- Counter TM.DROP_OVERSIZE (R488). -/
def C.TM_DROP_OVERSIZE : Nat := 0x40400810
/-- Counter TM.DROP_POOL (R488). -/
def C.TM_DROP_POOL : Nat := 0x40400818
/-- Counter TM.DRAM_ENQ (R488). -/
def C.TM_DRAM_ENQ : Nat := 0x40400820
/-- Counter TM.NO_EGMAP (R488). -/
def C.TM_NO_EGMAP : Nat := 0x40400828
/-- Counter TM.Q_DISABLED (R488). -/
def C.TM_Q_DISABLED : Nat := 0x40400830
/-- Counter TM.FLOOD_COPIES (R488). -/
def C.TM_FLOOD_COPIES : Nat := 0x40400838
/-- Counter TM.FLOOD_EMPTY (R488). -/
def C.TM_FLOOD_EMPTY : Nat := 0x40400840
/-- Counter TM.FLUSHED (R488). -/
def C.TM_FLUSHED : Nat := 0x40400848
/-- Counter TM.SAMPLE_DROPPED (R488). -/
def C.TM_SAMPLE_DROPPED : Nat := 0x40400850
/-- Counter TM.SAMPLE_LATE (R488). -/
def C.TM_SAMPLE_LATE : Nat := 0x40400858
/-- Counter TM.REG_DROPPED (R488). -/
def C.TM_REG_DROPPED : Nat := 0x40400860
/-- Counter TM.Q_TX_PKT (R487). -/
def C.TM_Q_TX_PKT (q : Nat) : Nat := 0x40490000 + 0x20 * q
/-- Counter TM.Q_TX_OCT (R487). -/
def C.TM_Q_TX_OCT (q : Nat) : Nat := 0x40490008 + 0x20 * q
/-- Counter TM.Q_DROP_PKT (R487). -/
def C.TM_Q_DROP_PKT (q : Nat) : Nat := 0x40490010 + 0x20 * q
/-- Counter TM.Q_DROP_OCT (R487). -/
def C.TM_Q_DROP_OCT (q : Nat) : Nat := 0x40490018 + 0x20 * q
/-- Counter TM.P_GREEN (R487). -/
def C.TM_P_GREEN (p : Nat) : Nat := 0x404D0000 + 0x20 * p
/-- Counter TM.P_YELLOW (R487). -/
def C.TM_P_YELLOW (p : Nat) : Nat := 0x404D0008 + 0x20 * p
/-- Counter TM.P_RED (R487). -/
def C.TM_P_RED (p : Nat) : Nat := 0x404D0010 + 0x20 * p
/-- Counter TM.P_RED_DROPPED (R487). -/
def C.TM_P_RED_DROPPED (p : Nat) : Nat := 0x404D0018 + 0x20 * p
/-- Counter REGSVC.DELIVERED (R521). -/
def C.REGSVC_DELIVERED : Nat := 0x40500800
/-- Counter REGSVC.EXPIRED (R521). -/
def C.REGSVC_EXPIRED : Nat := 0x40500808
/-- Counter REGSVC.UNKNOWN_FLOW (R521). -/
def C.REGSVC_UNKNOWN_FLOW : Nat := 0x40500810
/-- Counter REGSVC.FRER_ROGUE (R521). -/
def C.REGSVC_FRER_ROGUE : Nat := 0x40500818
/-- Counter REGSVC.OUTCOME_DROPPED (R521). -/
def C.REGSVC_OUTCOME_DROPPED : Nat := 0x40500820
/-- Counter REGSVC.WATCHDOG (R521). -/
def C.REGSVC_WATCHDOG : Nat := 0x40500828
/-- Counter REGSVC.TIME_SWITCHES (R521). -/
def C.REGSVC_TIME_SWITCHES : Nat := 0x40500830
/-- Counter REGSVC.F_DELIVERED (R521). -/
def C.REGSVC_F_DELIVERED (f : Nat) : Nat := 0x40504000 + 0x20 * f
/-- Counter REGSVC.F_EXPIRED (R521). -/
def C.REGSVC_F_EXPIRED (f : Nat) : Nat := 0x40504008 + 0x20 * f
/-- Counter REGSVC.F_FRER_PASSED (R521). -/
def C.REGSVC_F_FRER_PASSED (f : Nat) : Nat := 0x40504010 + 0x20 * f
/-- Counter REGSVC.F_FRER_DISCARDED (R521). -/
def C.REGSVC_F_FRER_DISCARDED (f : Nat) : Nat := 0x40504018 + 0x20 * f
/-- Counter EMAC.RX_OCTETS (R543). -/
def C.EMAC_RX_OCTETS (p : Nat) : Nat := 0x40100800 + 0x10000 * p
/-- Counter EMAC.RX_FRAMES (R543). -/
def C.EMAC_RX_FRAMES (p : Nat) : Nat := 0x40100808 + 0x10000 * p
/-- Counter EMAC.RX_FCS_ERR (R543). -/
def C.EMAC_RX_FCS_ERR (p : Nat) : Nat := 0x40100810 + 0x10000 * p
/-- Counter EMAC.RX_CODE_ERR (R543). -/
def C.EMAC_RX_CODE_ERR (p : Nat) : Nat := 0x40100818 + 0x10000 * p
/-- Counter EMAC.RX_RUNT (R543). -/
def C.EMAC_RX_RUNT (p : Nat) : Nat := 0x40100820 + 0x10000 * p
/-- Counter EMAC.RX_OVERSIZE (R543). -/
def C.EMAC_RX_OVERSIZE (p : Nat) : Nat := 0x40100828 + 0x10000 * p
/-- Counter EMAC.RX_OVERFLOW (R543). -/
def C.EMAC_RX_OVERFLOW (p : Nat) : Nat := 0x40100830 + 0x10000 * p
/-- Counter EMAC.RX_PAUSE (R543). -/
def C.EMAC_RX_PAUSE (p : Nat) : Nat := 0x40100838 + 0x10000 * p
/-- Counter EMAC.RX_BAD_DELIVERED (R543). -/
def C.EMAC_RX_BAD_DELIVERED (p : Nat) : Nat := 0x40100840 + 0x10000 * p
/-- Counter EMAC.HALF_DUPLEX (R543). -/
def C.EMAC_HALF_DUPLEX (p : Nat) : Nat := 0x40100848 + 0x10000 * p
/-- Counter EMAC.LINK_DOWN (R543). -/
def C.EMAC_LINK_DOWN (p : Nat) : Nat := 0x40100850 + 0x10000 * p
/-- Counter EMAC.TX_OCTETS (R543). -/
def C.EMAC_TX_OCTETS (p : Nat) : Nat := 0x40100858 + 0x10000 * p
/-- Counter EMAC.TX_FRAMES (R543). -/
def C.EMAC_TX_FRAMES (p : Nat) : Nat := 0x40100860 + 0x10000 * p
/-- Counter EMAC.TX_PAUSE (R543). -/
def C.EMAC_TX_PAUSE (p : Nat) : Nat := 0x40100868 + 0x10000 * p
/-- Counter EMAC.TX_ABORTED (R543). -/
def C.EMAC_TX_ABORTED (p : Nat) : Nat := 0x40100870 + 0x10000 * p
/-- Counter EMAC.TX_DOWN_DROP (R543). -/
def C.EMAC_TX_DOWN_DROP (p : Nat) : Nat := 0x40100878 + 0x10000 * p
/-- Counter EMAC.TX_PN_EXHAUSTED (R543). -/
def C.EMAC_TX_PN_EXHAUSTED (p : Nat) : Nat := 0x40100880 + 0x10000 * p
/-- Counter EMAC.MACSEC_BAD_TAG (R543). -/
def C.EMAC_MACSEC_BAD_TAG (p : Nat) : Nat := 0x40100888 + 0x10000 * p
/-- Counter EMAC.MACSEC_NO_SC (R543). -/
def C.EMAC_MACSEC_NO_SC (p : Nat) : Nat := 0x40100890 + 0x10000 * p
/-- Counter EMAC.MACSEC_NO_SA (R543). -/
def C.EMAC_MACSEC_NO_SA (p : Nat) : Nat := 0x40100898 + 0x10000 * p
/-- Counter EMAC.MACSEC_ICV_FAIL (R543). -/
def C.EMAC_MACSEC_ICV_FAIL (p : Nat) : Nat := 0x401008A0 + 0x10000 * p
/-- Counter EMAC.MACSEC_REPLAY (R543). -/
def C.EMAC_MACSEC_REPLAY (p : Nat) : Nat := 0x401008A8 + 0x10000 * p
/-- Counter EMAC.MACSEC_UNTAGGED (R543). -/
def C.EMAC_MACSEC_UNTAGGED (p : Nat) : Nat := 0x401008B0 + 0x10000 * p
/-- Counter EMAC.EQ_RETRAIN (R543). -/
def C.EMAC_EQ_RETRAIN (p : Nat) : Nat := 0x401008B8 + 0x10000 * p
/-- Counter HOSTP.TX_FRAMES (R558). -/
def C.HOSTP_TX_FRAMES : Nat := 0x400C0800
/-- Counter HOSTP.TX_SEGMENTS (R558). -/
def C.HOSTP_TX_SEGMENTS : Nat := 0x400C0808
/-- Counter HOSTP.TX_DESC_ERR (R558). -/
def C.HOSTP_TX_DESC_ERR : Nat := 0x400C0810
/-- Counter HOSTP.RX_FRAMES (R558). -/
def C.HOSTP_RX_FRAMES : Nat := 0x400C0818
/-- Counter HOSTP.RX_NOBUF_MIDFRAME (R558). -/
def C.HOSTP_RX_NOBUF_MIDFRAME : Nat := 0x400C0820
/-- Counter HOSTP.DMA_ERR (R558). -/
def C.HOSTP_DMA_ERR : Nat := 0x400C0828
/-- Counter DRAMC.READS (R567). -/
def C.DRAMC_READS : Nat := 0x400B0800
/-- Counter DRAMC.WRITES (R567). -/
def C.DRAMC_WRITES : Nat := 0x400B0808
/-- Counter DRAMC.RMW (R567). -/
def C.DRAMC_RMW : Nat := 0x400B0810
/-- Counter DRAMC.DRAM_CE (R567). -/
def C.DRAMC_DRAM_CE : Nat := 0x400B0818
/-- Counter DRAMC.DRAM_UE (R567). -/
def C.DRAMC_DRAM_UE : Nat := 0x400B0820
/-- Counter DRAMC.SCRUB_PASSES (R567). -/
def C.DRAMC_SCRUB_PASSES : Nat := 0x400B0828
/-- Counter DRAMC.PPR_DONE (R567). -/
def C.DRAMC_PPR_DONE : Nat := 0x400B0830
/-- Counter KEYS.ECC_CORRECTED (R607). -/
def C.KEYS_ECC_CORRECTED : Nat := 0x40060800
/-- Counter KEYS.KEY_STALLS (R607). -/
def C.KEYS_KEY_STALLS : Nat := 0x40060808
/-- Counter KEYS.CHANGES_LANDED (R607). -/
def C.KEYS_CHANGES_LANDED : Nat := 0x40060810
/-- Counter SEAL.FW_OPS (R610). -/
def C.SEAL_FW_OPS : Nat := 0x40070800
/-- Counter SEAL.TAG_FAIL (R610). -/
def C.SEAL_TAG_FAIL : Nat := 0x40070808
/-- Counter SEAL.PN_REFUSED (R610). -/
def C.SEAL_PN_REFUSED : Nat := 0x40070810
/-- Counter SEAL.PN_EXHAUSTED (R610). -/
def C.SEAL_PN_EXHAUSTED : Nat := 0x40070818
/-- Counter SEAL.DEBUG_REFUSED (R610). -/
def C.SEAL_DEBUG_REFUSED : Nat := 0x40070820
/-- Counter DISPATCH.BUSY_CYCLES (R645). -/
def C.DISPATCH_BUSY_CYCLES (c : Nat) : Nat := 0x40090800 + 0x20 * c
/-- Counter DISPATCH.SWITCHES (R645). -/
def C.DISPATCH_SWITCHES (c : Nat) : Nat := 0x40090808 + 0x20 * c
/-- Counter DISPATCH.PREEMPTS (R645). -/
def C.DISPATCH_PREEMPTS (c : Nat) : Nat := 0x40090810 + 0x20 * c
/-- Counter DISPATCH.MIGRATIONS_OUT (R645). -/
def C.DISPATCH_MIGRATIONS_OUT (c : Nat) : Nat := 0x40090818 + 0x20 * c
/-- Counter DISPATCH.COMPL_MERGED (R645). -/
def C.DISPATCH_COMPL_MERGED : Nat := 0x40090A00
/-- Counter DISPATCH.VEC_DROPPED (R645). -/
def C.DISPATCH_VEC_DROPPED : Nat := 0x40090A08
/-- Counter DISPATCH.MQ_REFUSED (R645). -/
def C.DISPATCH_MQ_REFUSED (q : Nat) : Nat := 0x40093000 + 0x8 * q
/-- Counter PIGEON.RECORDS (R647). -/
def C.PIGEON_RECORDS (n : Nat) : Nat := 0x400A1000 + 0x20 * n
/-- Counter PIGEON.REFUSED (R647). -/
def C.PIGEON_REFUSED (n : Nat) : Nat := 0x400A1008 + 0x20 * n
/-- Counter PIGEON.IDLE_ITEMS (R647). -/
def C.PIGEON_IDLE_ITEMS (n : Nat) : Nat := 0x400A1010 + 0x20 * n

end Sys2Proof.Machine
end

