-- ==== Sys2Proof/Machine/RegLookup.lean ====
section
/-! DEFINITION. Finding a register in the register map, and its reset value (spec/00_scope.md R7 to R9, block map). -/

namespace Sys2Proof.Machine

/-- The block number of a register address: the 64 KiB window it lies in (R124). -/
def windowOf (a : Nat) : Nat := (a / 0x10000) % 0x100

/-- The first window of the block that holds window `b` (the block map of spec/00_scope.md). -/
def firstWindow (b : Nat) : Nat :=
  if 0x20 ≤ b ∧ b ≤ 0x4F then b / 16 * 16 else if 0x60 ≤ b ∧ b ≤ 0x6F then 0x60
  else if 0x90 ≤ b ∧ b ≤ 0xBF then b / 16 * 16 else b

/-- The base address of the block that holds register address `a`. -/
def blockBase (a : Nat) : Nat := 0x40000000 + 0x10000 * firstWindow (windowOf a)

/-- The block numbers that the block map occupies. -/
def occupied (b : Nat) : Bool :=
  decide (b ≤ 0x0C) || decide (0x10 ≤ b ∧ b ≤ 0x13) || decide (0x20 ≤ b ∧ b ≤ 0x50) ||
  decide (0x60 ≤ b ∧ b ≤ 0x70) || decide (b = 0x80) || decide (0x90 ≤ b ∧ b ≤ 0xC0) || decide (b = 0xD0)

/-- The register at address `a`, with its indices in an array of registers. -/
def findIn (a : Nat) : List RegDesc → Option (RegDesc × List Nat)
  | [] => none
  | d :: rest =>
    match d.indices a with
    | some ix => some (d, ix)
    | none => findIn a rest

/-- The register at address `a`, if the map names one there (R7). -/
def findReg (a : Nat) : Option (RegDesc × List Nat) := findIn a (regsOfBlock (windowOf a))

/-- The number of 64 KiB windows of the block that holds window `b` (R8). -/
def spanOf (b : Nat) : Nat :=
  if (0x20 ≤ b ∧ b ≤ 0x4F) ∨ (0x60 ≤ b ∧ b ≤ 0x6F) ∨ (0x90 ≤ b ∧ b ≤ 0xBF) then 16 else 1

/-- BLK_ID of the block with first window `b` (R8). -/
def blkId (b : Nat) : Nat := b * 0x1000000 + spanOf b * 0x10000 + 0x0100

/-- The value all fields of a register reset to. -/
def fieldsReset (ix : List Nat) : List RegField → Nat
  | [] => 0
  | f :: rest => (f.reset.at ix % 2 ^ (f.hi + 1 - f.lo)) * 2 ^ f.lo + fieldsReset ix rest

/-- Widest bandwidth code of radio r. -/
def maxBw (r : Nat) : Nat := [1, 3, 4].getD r 0

/-- An entry of PWR_TABLE or PWR_CAP of radio r for a rate group or bandwidth that the radio does not have, or the
VEXT_CFG or CHAIN_STATUS of a radio without it (R172, R176, R205). -/
def radioReserved (r a : Nat) : Bool :=
  if A.RADIO_PWR_TABLE r 0 0 ≤ a ∧ a < A.RADIO_PWR_TABLE r 5 0 then
    decide (maxBw r < (a - A.RADIO_PWR_TABLE r 0 0) / 4 % 5) ||
      (decide ((a - A.RADIO_PWR_TABLE r 0 0) / 20 = 4) && decide (r ≠ 2))
  else if A.RADIO_PWR_CAP r 0 ≤ a ∧ a < A.RADIO_PWR_CAP r 5 then decide (maxBw r < (a - A.RADIO_PWR_CAP r 0) / 4)
  else decide (a = A.RADIO_VEXT_CFG r) && decide (r ≠ 2)

/-- The value a register address holds after reset; an address that the map does not name holds 0 (R7). -/
def resetNat (a : Nat) : Nat :=
  if a = blockBase a then blkId (firstWindow (windowOf a))
  else match findReg a with
    | some (d, ix) =>
      let b := windowOf a
      if (b = 0x90 ∨ b = 0xA0 ∨ b = 0xB0) ∧ radioReserved (b / 16 - 9) a then 0 else fieldsReset ix d.fields
    | none => 0

/-- The word a register address holds after reset. -/
def resetWord (a : Nat) : Word := BitVec.ofNat 32 (resetNat a)

/-- A low-word address of a 64-bit statistics counter (R15). -/
def isCounter (a : Nat) : Bool :=
  counterMap.any (fun d => decide (d.1 ≤ a) && (indicesAt d.2 (a - d.1)).isSome)

end Sys2Proof.Machine
end

