-- ==== Sys2Proof/Machine/Sparse.lean ====
section
/-! DEFINITION. Sparse maps from numbers: a list of (key, value) pairs in one canonical form, keys strictly rising
and no value equal to what an unlisted key holds. -/

namespace Sys2Proof.Machine

/-- What key `k` holds: the listed value, or `d k` where nothing is listed. -/
def sget {α : Type} (d : Nat → α) : List (Nat × α) → Nat → α
  | [], k => d k
  | (j, v) :: rest, k => if j = k then v else sget d rest k

/-- Insert the pair (k, v) before the first larger key, replacing a pair of the same key. -/
def sinsert {α : Type} (k : Nat) (v : α) : List (Nat × α) → List (Nat × α)
  | [] => [(k, v)]
  | (j, w) :: rest =>
    if j = k then (k, v) :: rest else if k < j then (k, v) :: (j, w) :: rest else (j, w) :: sinsert k v rest

/-- Remove the pairs of key k. -/
def serase {α : Type} (k : Nat) (m : List (Nat × α)) : List (Nat × α) := m.filter (fun e => decide (e.1 ≠ k))

/-- Store v under key k, in canonical form: a value equal to the default is not listed. -/
def sput {α : Type} [DecidableEq α] (d : Nat → α) (m : List (Nat × α)) (k : Nat) (v : α) : List (Nat × α) :=
  if v = d k then serase k m else sinsert k v m

/-- Keys strictly rising, each above `b` when `b` is given, no listed default. -/
def swfFrom {α : Type} [DecidableEq α] (d : Nat → α) : Option Nat → List (Nat × α) → Bool
  | _, [] => true
  | b, (k, v) :: rest =>
    (match b with | none => true | some j => decide (j < k)) && decide (v ≠ d k) && swfFrom d (some k) rest

/-- The canonical form of a sparse map. -/
def swf {α : Type} [DecidableEq α] (d : Nat → α) (m : List (Nat × α)) : Bool := swfFrom d none m

end Sys2Proof.Machine
end

