-- ==== Sys2Proof/Machine/Ops.lean ====
section
/-! DEFINITION. The named operations over registers, counters, fault presentation and memory that every meaning
uses (spec/00_scope.md R5 to R18, spec/03_startup_image.md R124, R125, spec/18_faults_availability.md R651, R683). -/

namespace Sys2Proof.Machine

/-! ### Registers -/

/-- The value of register address `a` in this state. -/
def State.rd (s : State) (a : Nat) : Word := sget resetWord s.regs a

/-- Hold `v` at register address `a`. -/
def State.wr (s : State) (a : Nat) (v : Word) : State := { s with regs := sput resetWord s.regs a v }

/-- The bits [lo + len - 1 : lo] of a word, as a number. -/
def getBits (w : Word) (lo len : Nat) : Nat := (w.toNat >>> lo) % 2 ^ len

/-- A word whose bits [lo + len - 1 : lo] hold `v` (modulo 2^len) and whose other bits are those of `w`. -/
def setBits (w : Word) (lo len v : Nat) : Word :=
  (w &&& ~~~(BitVec.ofNat 32 ((2 ^ len - 1) <<< lo))) ||| BitVec.ofNat 32 ((v % 2 ^ len) <<< lo)

/-- The value of a register field. -/
def State.fld (s : State) (f : Fld) : Nat := getBits (s.rd f.addr) f.lo f.len

/-- Write a register field; the register's other bits stay. -/
def State.setFld (s : State) (f : Fld) (v : Nat) : State := s.wr f.addr (setBits (s.rd f.addr) f.lo f.len v)

/-- 1 for true, 0 for false. -/
def bit (b : Bool) : Nat := if b then 1 else 0

/-- A one-bit register field as a Bool. -/
def State.flag (s : State) (f : Fld) : Bool := s.fld f ≠ 0

/-- Two words of a 64-bit register, low word at the lower address (R4). -/
def State.rd64 (s : State) (lo hi : Nat) : Nat := (s.rd lo).toNat + 2 ^ 32 * (s.rd hi).toNat

/-- Write two words of a 64-bit register. -/
def State.wr64 (s : State) (lo hi v : Nat) : State :=
  (s.wr lo (BitVec.ofNat 32 v)).wr hi (BitVec.ofNat 32 (v >>> 32))

/-- A two's complement number of `n` bits. -/
def sgn (n v : Nat) : Int := if v % 2 ^ n < 2 ^ (n - 1) then (v % 2 ^ n : Nat) else ((v % 2 ^ n : Nat) : Int) - 2 ^ n

/-- The n-bit two's complement coding of a number. -/
def unsgn (n : Nat) (i : Int) : Nat := (i % (2 ^ n : Nat)).toNat

/-- A number held to `[lo, hi]`. -/
def clampInt (lo hi i : Int) : Int := if i < lo then lo else if hi < i then hi else i

/-- Update the entry of key `k` in a sparse map. -/
def smod {α : Type} [DecidableEq α] (d : Nat → α) (m : List (Nat × α)) (k : Nat) (f : α → α) : List (Nat × α) :=
  sput d m k (f (sget d m k))

/-! ### Statistics counters (R15, R16) -/

/-- The live count at a counter's address. -/
def State.ctr (s : State) (a : Nat) : DWord := sget (fun _ => 0) s.ctrs a

/-- Add `n` to the counter at address `a`. -/
def State.count (s : State) (a : Nat) (n : Nat := 1) : State :=
  { s with ctrs := sput (fun _ => 0) s.ctrs a (s.ctr a + BitVec.ofNat 64 n) }

/-- Clear the counter at address `a`. -/
def State.clearCtr (s : State) (a : Nat) : State := { s with ctrs := sput (fun _ => 0) s.ctrs a 0 }

/-! ### Refused writes (R9, R10) -/

/-- The refusal codes of R9. -/
inductive RefCode where
  | zeroLength | cfgRange | cfgLocked | badSize
  deriving DecidableEq, Repr

/-- The number CFG_STATUS.CODE holds for a refusal (R9). -/
def RefCode.num : RefCode → Nat
  | .zeroLength => 1
  | .cfgRange => 2
  | .cfgLocked => 3
  | .badSize => 4

/-- The address of the CFG_STATUS register of the block that holds address `a` (R9). -/
def cfgStatusOf (a : Nat) : Nat := blockBase a + 4

/-- Record a refused write of the register at `a` (R10): the first refusal since the last read is kept, a later one
sets MORE. -/
def State.refuse (s : State) (a : Nat) (c : RefCode) : State :=
  let w := s.rd (cfgStatusOf a)
  if getBits w 0 8 ≠ 0 then s.wr (cfgStatusOf a) (setBits w 31 1 1)
  else s.wr (cfgStatusOf a) (setBits (setBits w 8 20 (a - blockBase a)) 0 8 c.num)

/-! ### Free values -/

/-- The next open value, and the state that has drawn it (notes/assumptions/4.md). -/
def State.free (s : State) : DWord × State := (Config.freeValue s.fresh, { s with fresh := s.fresh + 1 })

/-! ### The local count -/

/-- Local count as a number (R258). -/
def State.now (s : State) : Nat := s.time.tick.toNat

/-! ### Presenting events to FAULT (R651, R683) -/

/-- The queue through which an event is presented (R683): the presenting block's number, 0x103 for the shared SRAM
array and 0x203 for the interconnect. -/
def presenterOf (src unit : Nat) : Nat :=
  if src = 0x01 ∨ src = 0x02 then 0x203
  else if src = 0x03 ∨ src = 0x04 ∨ src = 0x07 then 0x02
  else if src = 0x05 ∨ src = 0x06 then 0x01
  else if src = 0x08 ∨ src = 0x09 then 0x09
  else if src = 0x0A ∨ src = 0x0B ∨ src = 0x0C then 0x103
  else if src = 0x10 ∨ src = 0x11 then (if unit ≥ 3 then 0xC0 else 0x90 + 0x10 * unit)
  else if src = 0x12 then (if unit / 256 ≥ 3 then 0xC0 else 0x90 + 0x10 * (unit / 256))
  else if src = 0x13 ∨ src = 0x14 then 0x80
  else if src = 0x18 ∨ src = 0x19 then 0x08
  else if src = 0x1A then 0x70
  else if 0x20 ≤ src ∧ src ≤ 0x23 then 0x20
  else if 0x24 ≤ src ∧ src ≤ 0x26 then 0x30
  else if 0x28 ≤ src ∧ src ≤ 0x2A then 0x50
  else if src = 0x30 then 0x10 + unit
  else if src = 0x31 ∨ src = 0x32 then 0x10 + unit / 16
  else if 0x33 ≤ src ∧ src ≤ 0x35 then 0x0B
  else if 0x38 ≤ src ∧ src ≤ 0x3B then 0x06
  else if src = 0x3C then 0x04
  else 0x00

/-- Set a source's PENDING bit and add one to its COUNT (R651, R654). -/
def State.countFault (s : State) (src : Nat) : State :=
  (s.wr (A.FAULT_PENDING (src / 32)) (setBits (s.rd (A.FAULT_PENDING (src / 32))) (src % 32) 1 1)).count
    (C.FAULT_COUNT src)

/-- Present an event to FAULT: it waits in its presenter's queue of 16; with that queue full it is counted, sets its
PENDING bit and counts in LOG_LOST, and nothing more (R651, R683). -/
def State.presentEv (s : State) (e : FaultEv) : State :=
  if (s.flt.queue.filter (fun x => !x.inj && decide (presenterOf x.src x.unit = presenterOf e.src e.unit))).length < 16 then
    { s with flt := { s.flt with queue := s.flt.queue ++ [e] } }
  else (s.countFault e.src).count C.FAULT_LOG_LOST

/-- A block presents an event of its own. -/
def State.present (s : State) (src unit : Nat) (perm : Bool := false) : State :=
  s.presentEv { src := src, unit := unit, perm := perm, inj := false, full := false }

/-! ### Memory (R124, R125) -/

/-- Shared SRAM. -/
def inSram (a : Nat) : Bool := decide (0x01000000 ≤ a ∧ a ≤ 0x02FFFFFF)

/-- Retention SRAM. -/
def inRetention (a : Nat) : Bool := decide (0x03000000 ≤ a ∧ a ≤ 0x033FFFFF)

/-- Installed DRAM: from its base up to the capacity DRAMC reports. -/
def State.inDram (s : State) (a : Nat) : Bool :=
  decide (0x100000000 ≤ a ∧ a < 0x100000000 + s.fld F.DRAMC_STATUS_CAP_MIB * 0x100000)

/-- An address that holds memory a DMA master reaches. -/
def State.mapped (s : State) (a : Nat) : Bool := inSram a || inRetention a || s.inDram a

/-- One byte of device memory, as stored. An unlisted byte reads 0: R102 zeroises shared SRAM; for retention SRAM
and DRAM the model chooses 0 (notes/assumptions/2.md). -/
def memDefault : Nat → Byte := fun _ => 0

/-- One byte of device memory. -/
def State.byte (s : State) (a : Nat) : Byte := sget memDefault s.mem a

/-- Store one byte of device memory. -/
def State.setByte (s : State) (a : Nat) (b : Byte) : State := { s with mem := sput memDefault s.mem a b }

/-- One byte of flash; erased flash reads 0xFF (notes/assumptions/3.md). -/
def State.flashByte (s : State) (a : Nat) : Byte := sget (fun _ => 0xFF) s.nvm a

/-- Store one byte of flash. -/
def State.setFlash (s : State) (a : Nat) (b : Byte) : State := { s with nvm := sput (fun _ => 0xFF) s.nvm a b }

/-- One byte of host memory, reached through PCIe (spec/15 R547). -/
def State.hostByte (s : State) (a : Nat) : Byte := sget memDefault s.hostMem a

/-- A memory word is poisoned when its 64-bit word is listed (R663). -/
def State.poisoned (s : State) (a : Nat) : Bool := s.poison.contains (a / 8)

/-- Log an access by a DMA master to an unmapped address (R125). -/
def State.unmapped (s : State) (a : Nat) : State := s.present 0x02 ((a / 0x10000) % 0x80000)

/-- Store bytes in device memory from address `a` on, as a DMA master: an unmapped address discards the write (R125). -/
def State.storeBytes (s : State) (a : Nat) : List Byte → State
  | [] => s
  | b :: rest =>
    State.storeBytes (if s.mapped a then s.setByte a b else s) (a + 1) rest

/-- The 64-bit words that `n` bytes from `a` cover whole. -/
def wholeWords (a n : Nat) : List Nat :=
  (List.range (n / 8 + 1)).filterMap (fun i =>
    let w := (a + 7) / 8 + i
    if w * 8 + 8 ≤ a + n then some w else none)

/-- The first of `n` bytes from `a` that no memory holds. -/
def State.hole (s : State) (a n : Nat) : Option Nat :=
  ((List.range n).find? (fun i => !s.mapped (a + i))).map (fun i => a + i)

/-- Log an access by a DMA master to `n` bytes from `a`: once, with the first unmapped address, if any is (R125). -/
def State.logDma (s : State) (a n : Nat) : State :=
  match s.hole a n with
  | some b => s.unmapped b
  | none => s

/-- A DMA write of bytes to device memory: logged where it meets a hole (R125); a write of a whole 64-bit word clears its
poison (R663). -/
def State.dmaWrite (s : State) (a : Nat) (bs : List Byte) : State :=
  let s1 := s.logDma a bs.length
  let s2 := s1.storeBytes a bs
  { s2 with poison := s2.poison.filter (fun w => !((wholeWords a bs.length).contains w)) }

/-- What a DMA read of `n` bytes of device memory finds: unmapped bytes read 0, and the read is logged by
`State.logDma` (R125). -/
def State.dmaBytes (s : State) (a n : Nat) : List Byte :=
  (List.range n).map (fun i => if s.mapped (a + i) then s.byte (a + i) else 0)

/-- Store bytes in host memory. -/
def State.hostWrite (s : State) (a : Nat) : List Byte → State
  | [] => s
  | b :: rest => State.hostWrite { s with hostMem := sput memDefault s.hostMem a b } (a + 1) rest

/-- Bytes of host memory. -/
def State.hostBytes (s : State) (a n : Nat) : List Byte := (List.range n).map (fun i => s.hostByte (a + i))

/-- A little-endian number from bytes. -/
def leNat : List Byte → Nat
  | [] => 0
  | b :: rest => b.toNat + 256 * leNat rest

/-- `n` little-endian bytes of a number. -/
def leBytes : Nat → Nat → List Byte
  | 0, _ => []
  | n + 1, v => BitVec.ofNat 8 v :: leBytes n (v / 256)

/-- A big-endian number from bytes. -/
def beNat (bs : List Byte) : Nat := bs.foldl (fun acc b => acc * 256 + b.toNat) 0

/-- `n` big-endian bytes of a number. -/
def beBytes (n v : Nat) : List Byte := (leBytes n v).reverse

/-- 32-bit items of bytes, little-endian, the last padded with zeros (R129). -/
def toItems (bs : List Byte) : List Word :=
  (List.range ((bs.length + 3) / 4)).map (fun i => BitVec.ofNat 32 (leNat ((bs.drop (4 * i)).take 4)))

/-- Bytes of 32-bit items, little-endian. -/
def ofItems (ws : List Word) : List Byte := ws.flatMap (fun w => leBytes 4 w.toNat)

/-- A slice of a byte list. -/
def slice (bs : List Byte) (off n : Nat) : List Byte := (bs.drop off).take n

/-- The answer of a read. -/
def State.answer (s : State) (v : DWord) : State := { s with resp := { value := v, busError := false } }

/-- The answer of a core access that takes a bus error. -/
def State.busError (s : State) (v : DWord) : State := { s with resp := { value := v, busError := true } }

/-! ### DRAM errors -/

/-- A row enters the first free PPR entry (R563); with none free, nothing is entered. -/
def State.enterPpr (s : State) (rank bank row : Nat) : State :=
  match (List.range 8).find? (fun k => !s.flag (F.DRAMC_PPR_VALID k)) with
  | some k =>
    (s.wr (A.DRAMC_PPR k) (BitVec.ofNat 32 (2 ^ 31 + rank * 2 ^ 29 + bank * 2 ^ 24 + row))).present 0x34 k
  | none => s

/-- The row of an error: rank, bank, row. -/
def upsetRow (u : DramUpset) : Nat × Nat × Nat := (bit u.rank, u.bank.toNat, u.row.toNat)

/-- An error shows in DRAM (R563): corrected and written back, or uncorrectable. `scrub` says that it is the first
corrected error of its row in a scrub pass. -/
def State.dramError (s : State) (u : DramUpset) (scrub : Bool) : State :=
  let a := u.addr.toNat
  let row := upsetRow u
  if u.double then
    ((((s.count C.DRAMC_DRAM_UE).wr64 A.DRAMC_UE_ADDR_LO A.DRAMC_UE_ADDR_HI a).present 0x33 0)).enterPpr row.1 row.2.1
      row.2.2
  else
    let s1 := (s.count C.DRAMC_DRAM_CE).wr64 A.DRAMC_CE_ADDR_LO A.DRAMC_CE_ADDR_HI a
    if ¬ scrub then s1
    else
      let n := ((s.dram.ceRows.find? (fun e => decide (e.1 = row))).map (fun e => e.2)).getD 0 + 1
      let rest := s.dram.ceRows.filter (fun e => decide (e.1 ≠ row))
      let s2 := { s1 with dram := { s1.dram with ceRows := rest ++ [(row, n)] } }
      if n = s.fld F.DRAMC_SCRUB_PPR_THRESH then s2.enterPpr row.1 row.2.1 row.2.2 else s2

end Sys2Proof.Machine
end

