-- ==== Sys2Proof/Machine/DispatchOps.lean ====
section
/-! DEFINITION. Shared operations of DISPATCH: placing and waking threads, event flags, message queues, vectors and
completions (spec/17_control_complex.md R613 to R630). -/

namespace Sys2Proof.Machine

/-! ### Thread and core records -/

/-- Thread states of TH_W0.STATE (R643). -/
def thFree : Nat := 0
/-- READY. -/
def thReady : Nat := 1
/-- RUNNING. -/
def thRunning : Nat := 2
/-- WAITING. -/
def thWaiting : Nat := 3
/-- SUSPENDED. -/
def thSuspended : Nat := 4
/-- MIGRATING. -/
def thMigrating : Nat := 5

/-- RESULT codes of SELF (R640). -/
def resDone : Nat := 1
/-- TIMEOUT. -/
def resTimeout : Nat := 2
/-- MQ_FULL. -/
def resMqFull : Nat := 3
/-- EMPTY. -/
def resEmpty : Nat := 4
/-- CFG_RANGE. -/
def resCfgRange : Nat := 5
/-- ZERO_LENGTH. -/
def resZeroLength : Nat := 6
/-- BAD_STATE. -/
def resBadState : Nat := 7

/-- What DISPATCH holds for thread t beside its registers. -/
def State.thx (s : State) (t : Nat) : ThreadX := sget (fun _ => {}) s.disp.threads t

/-- Update what DISPATCH holds for thread t. -/
def State.modThx (s : State) (t : Nat) (f : ThreadX → ThreadX) : State :=
  { s with disp := { s.disp with threads := smod (fun _ => {}) s.disp.threads t f } }

/-- What DISPATCH holds for core c. -/
def State.core (s : State) (c : Nat) : CoreSt := sget (fun _ => {}) s.disp.cores c

/-- TH_W0.STATE of thread t. -/
def State.thState (s : State) (t : Nat) : Nat := s.fld (F.DISPATCH_TH_W0_STATE t)

/-- Set TH_W0.STATE of thread t. -/
def State.setThState (s : State) (t st : Nat) : State := s.setFld (F.DISPATCH_TH_W0_STATE t) st

/-- Priority of thread t. -/
def State.prio (s : State) (t : Nat) : Nat := s.fld (F.DISPATCH_TH_W0_PRIO t)

/-- AFFINITY of thread t holds core c. -/
def State.allows (s : State) (t c : Nat) : Bool := (s.fld (F.DISPATCH_TH_W0_AFFINITY t)).testBit c

/-- A core in the map of active cores. -/
def State.coreActive (s : State) (c : Nat) : Bool := (s.fld F.DISPATCH_CORE_MAP_ACTIVE).testBit c

/-- The nine core numbers. -/
def allCores : List Nat := List.range 9

/-- The watch core: WATCH_CFG.CORE, or the lowest-numbered active core where that one is retired (R87). -/
def State.watchCore (s : State) : Nat :=
  if s.coreActive (s.fld F.PMU_WATCH_CFG_CORE) then s.fld F.PMU_WATCH_CFG_CORE
  else (allCores.find? s.coreActive).getD 0

/-- Only the watch core takes threads: in Watch and while it is entered or left (R619, R67, R70). -/
def State.watchOnly (s : State) : Bool :=
  decide (s.fld F.PMU_STATE_CUR = 2) || decide (s.power.mode = .watchEntry)

/-- Core c is able to take threads in the current power state (R617, R619). -/
def State.coreAble (s : State) (c : Nat) : Bool :=
  s.coreActive c && (!s.watchOnly || decide (c = s.watchCore))

/-- Bring CORE_STATUS of core c up to date (R641). -/
def State.syncCore (s : State) (c : Nat) : State :=
  let k := s.core c
  let st := if (s.fld F.DISPATCH_CORE_MAP_RETIRED).testBit c then 5
    else if !s.coreActive c then 0
    else if !s.coreAble c then 4
    else if k.notified then 3
    else if k.cur.isSome then 2 else 1
  s.wr (A.DISPATCH_CORE_STATUS c) (BitVec.ofNat 32
    (st * 2 ^ 29 + (match k.cur with | some t => s.prio t * 2 ^ 24 + t | none => 0)))

/-- Update what DISPATCH holds for core c. -/
def State.modCore (s : State) (c : Nat) (f : CoreSt → CoreSt) : State :=
  ({ s with disp := { s.disp with cores := smod (fun _ => {}) s.disp.cores c f } }).syncCore c

/-- Raise the switch interrupt of core c (R612). -/
def State.notify (s : State) (c : Nat) : State := s.modCore c (fun k => { k with notified := true })

/-- The core on which DISPATCH counts thread t. -/
def State.coreOf (s : State) (t : Nat) : Option Nat := allCores.find? (fun c => (s.core c).cur = some t)

/-- Among the cores of `cs` that run a thread: the one whose thread has the lowest priority; ties go to `last`, then
to the lowest number (R617). -/
def State.victim (s : State) (last : Nat) (cs : List Nat) : Option (Nat × Nat) :=
  cs.foldl (fun best c =>
    match (s.core c).cur with
    | none => best
    | some t =>
      match best with
      | none => some (c, s.prio t)
      | some (b, p) =>
        if s.prio t < p then some (c, s.prio t)
        else if s.prio t = p ∧ c = last ∧ b ≠ last then some (c, p) else some (b, p)) none

/-- Take thread t off the ready list, the delay list and the lists of waiters (R615). -/
def State.unlist (s : State) (t : Nat) : State :=
  { s with disp := { s.disp with
      ready := s.disp.ready.filter (· ≠ t)
      delay := s.disp.delay.filter (· ≠ t)
      waiters := s.disp.waiters.filter (fun w => w.2 ≠ t) } }

/-- Bring WAITERS of queue q up to date (R642). -/
def State.syncWaiters (s : State) (q : Nat) : State :=
  s.setFld (F.DISPATCH_MQ_W1_WAITERS q) (s.disp.waiters.filter (fun w => w.1 = q)).length

/-- Notify the core that R617 names for the READY thread t, if any. -/
def State.placeNotify (s : State) (t : Nat) : State :=
  let cs := allCores.filter (fun c => s.allows t c && s.coreAble c)
  let last := s.fld (F.DISPATCH_TH_W0_LAST_CORE t)
  let idle := fun c => decide ((s.core c).cur = none) && !(s.core c).notified
  if cs.contains last && idle last then s.notify last
  else match cs.find? idle with
    | some c => s.notify c
    | none =>
      match s.victim last cs with
      | some (c, p) => if p < s.prio t then s.notify c else s
      | none => s

/-- Place thread t (R617): it becomes READY, at the tail of its level, and the core that R617 names is notified. -/
def State.place (s : State) (t : Nat) : State :=
  let s1 := (s.unlist t).setThState t thReady
  State.placeNotify { s1 with disp := { s1.disp with ready := s1.disp.ready ++ [t] } } t

/-- Thread t waits for nothing: off every list, its wait registers clear (R615). -/
def State.endWait (s : State) (t : Nat) : State :=
  let q := s.fld (F.DISPATCH_TH_WAIT_WAIT_QUEUE t)
  (((s.unlist t).wr (A.DISPATCH_TH_WAIT t) 0).wr (A.DISPATCH_TH_MASK t) 0).syncWaiters q

/-- End thread t's wait with a result: its wait registers clear and it is placed (R615). A MIGRATING thread is placed
only at its old core's NEXT read (R628). -/
def State.wake (s : State) (t res : Nat) : State :=
  let s1 := (s.endWait t).modThx t (fun x => { x with result := res })
  if s.thState t = thMigrating then s1 else s1.place t

/-- Kinds of wait of TH_WAIT.WAIT_KIND (R643). -/
def waitEvents : Nat := 1
/-- RECV. -/
def waitQueue : Nat := 2
/-- SLEEP_UNTIL. -/
def waitSleep : Nat := 3

/-- A WAIT_EV of thread t with mask `m` would be satisfied by its flags (R623). -/
def State.evSatisfied (s : State) (t : Nat) (m : Word) (all : Bool) : Bool :=
  let hit := s.rd (A.DISPATCH_TH_EVENTS t) &&& m
  if all then decide (hit = m) else decide (hit ≠ 0)

/-! ### Levels that hold flags (R637) -/

/-- The flags of thread t that asserted PIGEON levels routed as flags hold set (R637). -/
def State.heldFlags (s : State) (t : Nat) : Word :=
  (List.range 32).foldl (fun acc n =>
    let v := s.fld (F.PIGEON_IRQ_VECTOR n)
    if (sget (fun _ => ({} : PigFifo)) s.pig n).level ∧ s.fld (F.DISPATCH_VROUTE_MODE v) = 2 ∧
        s.fld (F.DISPATCH_VROUTE_THREAD v) = t then
      acc ||| (BitVec.ofNat 32 (2 ^ s.fld (F.DISPATCH_VROUTE_FLAG v)))
    else acc) 0

/-- Resolve a satisfied WAIT_EV of thread t (R623): ITEM_LO takes the flags of the mask that were set, and CONSUME
clears them, except those an asserted level holds. -/
def State.takeEvents (s : State) (t : Nat) (m : Word) (consume : Bool) : State :=
  let hit := s.rd (A.DISPATCH_TH_EVENTS t) &&& m
  let s1 := s.modThx t (fun x => { x with item := BitVec.ofNat 64 (x.item.toNat / 2 ^ 32 * 2 ^ 32 + hit.toNat) })
  if consume then
    s1.wr (A.DISPATCH_TH_EVENTS t) ((s.rd (A.DISPATCH_TH_EVENTS t) &&& ~~~m) ||| s1.heldFlags t)
  else s1

/-- OR a mask into thread t's event flags; a WAITING thread whose wait it satisfies wakes with `DONE` (R623, R628). -/
def State.setEvents (s : State) (t : Nat) (m : Word) : State :=
  let s1 := s.wr (A.DISPATCH_TH_EVENTS t) (s.rd (A.DISPATCH_TH_EVENTS t) ||| m)
  let wm := s1.rd (A.DISPATCH_TH_MASK t)
  if s1.thState t = thWaiting ∧ s1.fld (F.DISPATCH_TH_WAIT_WAIT_KIND t) = waitEvents ∧
      s1.evSatisfied t wm (s1.thx t).waitAll then
    (s1.takeEvents t wm (s1.thx t).consume).wake t resDone
  else s1

/-! ### Message queues (R625, R626) -/

/-- The entries of queue q, oldest first. -/
def State.mqEntries (s : State) (q : Nat) : List DWord := sget (fun _ => []) s.disp.mq q

/-- Hold the entries of queue q, and bring COUNT and MQ_FREE up to date. -/
def State.setMq (s : State) (q : Nat) (es : List DWord) : State :=
  let before := (s.mqEntries q).length
  let s1 := { s with disp := { s.disp with mq := sput (fun _ => []) s.disp.mq q es } }
  (s1.setFld (F.DISPATCH_MQ_W1_COUNT q) es.length).setFld F.DISPATCH_POOL_MQ_FREE
    (s1.fld F.DISPATCH_POOL_MQ_FREE + before - es.length)

/-- The waiter of queue q that an entry goes to: highest priority, then longest wait (R626). -/
def State.bestWaiter (s : State) (q : Nat) : Option Nat :=
  (s.disp.waiters.filter (fun w => w.1 = q)).foldl (fun best w =>
    match best with
    | none => some w.2
    | some b => if s.prio b < s.prio w.2 then some w.2 else some b) none

/-- Post an entry to queue q (R625, R626): it goes to the best waiter, or into the queue; a full queue refuses it and
counts the refusal. Answers the result code too. -/
def State.mqPost (s : State) (q : Nat) (e : DWord) : Nat × State :=
  if ¬ s.flag (F.DISPATCH_MQ_W0_EN q) then (resCfgRange, s)
  else match s.bestWaiter q with
    | some t => (resDone, (s.modThx t (fun x => { x with item := e })).wake t resDone)
    | none =>
      if (s.mqEntries q).length < s.fld (F.DISPATCH_MQ_W0_DEPTH q) then (resDone, s.setMq q (s.mqEntries q ++ [e]))
      else (resMqFull, s.count (C.DISPATCH_MQ_REFUSED q))

/-! ### Vectors (R627, R628) -/

/-- A host is present: a host strap of endpoint mode, the PCIe link up, MSI-X enabled (R628). -/
def State.hostPresent (s : State) : Bool :=
  decide (s.fld F.HOSTP_CFG_MODE = 1) && s.flag F.HOSTP_LINK_UP && s.hostp.msixEnable

/-- Send a vector to the host, or hold it pending while the host masks it; without a host it is dropped and counted
(R628). -/
def State.msiSend (s : State) (v : Nat) : State :=
  if ¬ s.hostPresent then s.count C.DISPATCH_VEC_DROPPED
  else if s.flag (F.HOSTP_MSIX_CTRL_MASK v) then
    s.wr (A.HOSTP_MSIX_PBA (v / 32)) (setBits (s.rd (A.HOSTP_MSIX_PBA (v / 32))) (v % 32) 1 1)
  else { s with hostp := { s.hostp with msiSent := s.hostp.msiSent ++ [v] } }

/-- A completion item (R627): vector in [8:0], COUNT in [31:16], first time in [63:32]. -/
def complItem (v count : Nat) (time : Word) : DWord := BitVec.ofNat 64 (v + count * 2 ^ 16 + time.toNat * 2 ^ 32)

/-- Thread t's completion list has room and the shared pool is not empty (R627). -/
def State.complRoom (s : State) (t : Nat) : Bool :=
  decide ((s.thx t).compl.length < s.fld (F.DISPATCH_TH_W7_CMAX t)) && decide (0 < s.fld F.DISPATCH_POOL_COMPL_FREE)

/-- Hold thread t's completion list, and bring COMPL and COMPL_FREE up to date. -/
def State.setCompl (s : State) (t : Nat) (l : List DWord) : State :=
  let before := (s.thx t).compl.length
  let s1 := s.modThx t (fun x => { x with compl := l })
  (s1.setFld (F.DISPATCH_TH_W7_COMPL t) l.length).setFld F.DISPATCH_POOL_COMPL_FREE
    (s1.fld F.DISPATCH_POOL_COMPL_FREE + before - l.length)

/-- Low word of the local count. -/
def State.tickLo (s : State) : Word := BitVec.ofNat 32 s.now

/-- Raise a vector that VROUTE routes as a completion to thread t (R627). -/
def State.raiseCompletion (s : State) (v t : Nat) : State :=
  let s1 :=
    match sget (fun _ => none) s.disp.latches v with
    | some (k, time) =>
      let l := sput (fun _ => none) s.disp.latches v (some (if k < 65535 then k + 1 else k, time))
      ({ s with disp := { s.disp with latches := l } }).count C.DISPATCH_COMPL_MERGED
    | none =>
      if s.complRoom t then s.setCompl t ((s.thx t).compl ++ [complItem v 1 s.tickLo])
      else { s with disp := { s.disp with latches := sput (fun _ => none) s.disp.latches v (some (1, s.tickLo)) } }
  s1.setEvents t (BitVec.ofNat 32 (2 ^ s.fld (F.DISPATCH_VROUTE_FLAG v)))

/-- Raise a vector: to the host, to a thread's completion list and flag, or to a flag alone, as VROUTE says; a raise
to a FREE thread is dropped and counted (R627, R628). -/
def State.raise (s : State) (v : Nat) : State :=
  let t := s.fld (F.DISPATCH_VROUTE_THREAD v)
  if s.fld (F.DISPATCH_VROUTE_MODE v) = 0 then s.msiSend v
  else if s.thState t = thFree then s.count C.DISPATCH_VEC_DROPPED
  else if s.fld (F.DISPATCH_VROUTE_MODE v) = 1 then s.raiseCompletion v t
  else s.setEvents t (BitVec.ofNat 32 (2 ^ s.fld (F.DISPATCH_VROUTE_FLAG v)))

/-- Units whose interrupts the spec names without a vector number (notes/assumptions/6.md). -/
inductive IntUnit where
  | nvmc | ranging | dispatchAbort | emac | dramc | seal | ldpc | radio | tmQueue
  deriving DecidableEq, Repr

/-- Raise the interrupt of a unit; the vector number is a constant of the configuration. -/
def State.raiseUnit (s : State) (u : IntUnit) (i : Nat) : State :=
  s.raise (Config.vectorOf (match u with
    | .nvmc => 0 | .ranging => 1 | .dispatchAbort => 2 | .emac => 3 | .dramc => 4 | .seal => 5 | .ldpc => 6
    | .radio => 7 | .tmQueue => 8) i).val

/-! ### Supervision items (R629) -/

/-- Post a supervision item to CTRL.SUP_QUEUE, or hold it until the queue has room. -/
def State.supItem (s : State) (t reason core : Nat) : State :=
  let item : DWord := BitVec.ofNat 64 (t + reason * 2 ^ 12 + core * 2 ^ 16 + s.tickLo.toNat * 2 ^ 32)
  let q := s.fld F.DISPATCH_CTRL_SUP_QUEUE
  if s.disp.sup = [] ∧ s.flag (F.DISPATCH_MQ_W0_EN q) ∧
      ((s.bestWaiter q).isSome ∨ (s.mqEntries q).length < s.fld (F.DISPATCH_MQ_W0_DEPTH q)) then (s.mqPost q item).2
  else { s with disp := { s.disp with sup := s.disp.sup ++ [item] } }

/-- Suspend thread t: off every list; if it is on a core, that core is notified (R615). -/
def State.suspend (s : State) (t : Nat) : State :=
  let s1 := (s.endWait t).setThState t thSuspended
  match s1.coreOf t with
  | some c => s1.notify c
  | none => s1

/-- SYSCTL.ABORT of thread t (R630): suspended with ABORTED, taken off its core, a supervision item posted, the
DISPATCH abort vector raised. -/
def State.abortThread (s : State) (t : Nat) : State :=
  if s.thState t = thFree then s
  else
    let c := s.coreOf t
    let s1 := (s.suspend t).setFld (F.DISPATCH_TH_W0_ABORTED t) 1
    let s2 := match c with
      | some k => s1.modCore k (fun x => { x with cur := none, notified := false })
      | none => s1
    (s2.supItem t 2 (c.getD (s.fld (F.DISPATCH_TH_W0_LAST_CORE t)))).raiseUnit .dispatchAbort 0

/-! ### Busy cycles -/

/-- CORE cycles that pass in `n` ticks of the local count at a clock of `mhz` (R57, R258). -/
def coreCycles (mhz n : Nat) : Nat := n * mhz / 500

/-- CORE cycles of the running thread that BUSY_CYCLES of core c has not counted; 0 with none (R645). BUSY_CYCLES advances by
them when a thread comes off its core, when the counter is read, and when the frequency changes
(notes/assumptions/73.md). -/
def State.busyCycles (s : State) (c : Nat) : Nat :=
  if (s.core c).cur.isSome then coreCycles s.power.coreMhz (s.now - (s.core c).busyFrom.toNat) else 0

/-- Bring BUSY_CYCLES of core c up to date. -/
def State.countBusy (s : State) (c : Nat) : State :=
  if (s.core c).cur.isSome then
    (s.count (C.DISPATCH_BUSY_CYCLES c) (s.busyCycles c)).modCore c (fun k => { k with busyFrom := s.time.tick })
  else s

/-- Bring the counter at `a` up to date before it is read: BUSY_CYCLES of a core that runs a thread. -/
def State.freshCtr (s : State) (a : Nat) : State :=
  match allCores.find? (fun c => decide (C.DISPATCH_BUSY_CYCLES c = a)) with
  | some c => s.countBusy c
  | none => s

/-- The clock of the cores changes to `mhz`: the cycles at the old frequency are counted. -/
def State.setCoreMhz (s : State) (mhz : Nat) : State :=
  let s1 := allCores.foldl State.countBusy s
  { s1 with power := { s1.power with coreMhz := mhz } }

end Sys2Proof.Machine
end

