-- ==== Sys2Proof/Machine/PigeonOps.lean ====
section
/-! DEFINITION. Shared operations of the PIGEON FIFOs: records, banks, levels (spec/17_control_complex.md R631 to
R638, R646). -/

namespace Sys2Proof.Machine

/-- PIGEON FIFO n beside its registers. -/
def State.fifo (s : State) (n : Nat) : PigFifo := sget (fun _ => {}) s.pig n

/-- Hold FIFO n. -/
def State.setFifo (s : State) (n : Nat) (f : PigFifo) : State :=
  { s with pig := sput (fun _ => {}) s.pig n f }

/-- Items of FIFO n (R631). -/
def State.pigDepth (s : State) (n : Nat) : Nat := 2 ^ s.fld (F.PIGEON_CFG_DEPTH_LOG2 n)

/-- Byte address of FIFO n's storage (R646). -/
def State.pigBase (s : State) (n : Nat) : Nat :=
  (s.rd (A.PIGEON_BASE_LO n)).toNat + 2 ^ 32 * s.fld (F.PIGEON_BASE_HI_BASE n)

/-- The bank that position i lies in, with banks of `half` items (R631). -/
def bankOf (half i : Nat) : Nat := if i < half then 0 else 1

/-- No record is held in a bank (R632). -/
def PigFifo.bankFree (f : PigFifo) (half b : Nat) : Bool := !(f.recs.any (fun r => decide (bankOf half r.index = b)))

/-- The bank the producer does not hold is free (R632). -/
def PigFifo.otherFree (f : PigFifo) (half : Nat) : Bool := f.bankFree half (1 - f.bank)

/-- Items left in the producer's bank; none once it has left the bank (R632). -/
def PigFifo.rest (f : PigFifo) (half : Nat) : Nat := if f.left then 0 else (f.bank + 1) * half - f.wr

/-- A producer that has left its bank takes the other as soon as it is free (R632). -/
def PigFifo.settle (f : PigFifo) (half : Nat) : PigFifo :=
  if f.left ∧ f.otherFree half then { f with bank := 1 - f.bank, left := false, wr := (1 - f.bank) * half } else f

/-- Unread records of a FIFO (R637). -/
def PigFifo.unread (f : PigFifo) : Nat := f.recs.length - f.read

/-- The record at the read position (R635). -/
def PigFifo.head (f : PigFifo) : Option PigRec := f.recs[f.read]?

/-- The level's condition (R637): enough unread records, or one unread for AGE_US. -/
def State.levelHolds (s : State) (n : Nat) (f : PigFifo) : Bool :=
  let lv := s.fld (F.PIGEON_CFG_LEVEL n)
  let age := s.fld (F.PIGEON_IRQ_AGE_US n)
  s.flag (F.PIGEON_CFG_EN n) &&
    ((decide (lv ≠ 0) && decide (lv ≤ f.unread)) ||
     (decide (age ≠ 0) &&
      (f.recs.drop f.read).any (fun r => decide (r.time.toNat + age * Config.ticksPerUs ≤ s.now))))

/-- Bring FIFO n's read-only registers up to date (R635, R637, R646). -/
def State.syncFifo (s : State) (n : Nat) : State :=
  let f := s.fifo n
  let half := s.pigDepth n / 2
  let s1 := s.wr (A.PIGEON_PROD n)
    (BitVec.ofNat 32 (bit (f.otherFree half) * 2 ^ 31 + f.rest half * 2 ^ 16 + f.wr % 2 ^ 15))
  let s2 := s1.wr (A.PIGEON_HEAD n) (BitVec.ofNat 32
    (match f.head with | some r => r.count * 2 ^ 16 + r.index | none => 0))
  let w := s2.rd (A.PIGEON_CONS_STATUS n)
  let w1 := setBits (setBits (setBits w 31 1 (bit f.level)) 30 1 (bit f.mark.isSome)) 16 11 f.unread
  let mp := match f.mark with
    | some m => (match f.recs[m]? with | some r => r.index | none => f.wr)
    | none => 0
  let s3 := s2.wr (A.PIGEON_CONS_STATUS n) (setBits w1 0 15 mp)
  s3.wr A.PIGEON_LEVELS (setBits (s3.rd A.PIGEON_LEVELS) n 1 (bit f.level))

/-- Hold FIFO n after an action, judge its level, and raise its vector where R637 says so: when the level rises, and
to the host also after a consumer operation (`opDone`) that leaves it asserted. -/
def State.finishFifo (s : State) (n : Nat) (f : PigFifo) (opDone : Bool := false) : State :=
  let f1 := f.settle (s.pigDepth n / 2)
  let lv := s.levelHolds n f1
  let s1 := (s.setFifo n { f1 with level := lv }).syncFifo n
  let v := s.fld (F.PIGEON_IRQ_VECTOR n)
  if lv ∧ (¬ f.level ∨ (opDone ∧ s.fld (F.DISPATCH_VROUTE_MODE v) = 0)) then s1.raise v else s1

/-- The most records a FIFO holds (R631). -/
def maxRecords : Nat := 1024

/-- Close the producer's bank: the rest is filled with the idle item, and the producer leaves it (R632). -/
def State.closeBank (s : State) (n : Nat) (f : PigFifo) : State × PigFifo :=
  let half := s.pigDepth n / 2
  let r := f.rest half
  let idle : List Word := List.replicate r 0x1D1E1D1E
  ((s.dmaWrite (s.pigBase n + 4 * f.wr) (ofItems idle)).count (C.PIGEON_IDLE_ITEMS n) r, { f with left := true })

/-- Append a record of `k` items at the producer's position (R632). -/
def State.appendRec (s : State) (n : Nat) (f : PigFifo) (k : Nat) : State × PigFifo :=
  let half := s.pigDepth n / 2
  let f1 := { f with
    recs := f.recs ++ [{ index := f.wr, count := k, time := s.time.tick }]
    wr := f.wr + k
    left := decide (f.wr + k = (f.bank + 1) * half) }
  (s.count (C.PIGEON_RECORDS n), f1)

/-- A hardware record of items (R633): written whole, starting the other bank where the current one has no room, or
refused and counted. Answers whether it was written. -/
def State.hwRecord (s : State) (n : Nat) (items : List Word) : Bool × State :=
  let half := s.pigDepth n / 2
  let f := (s.fifo n).settle half
  let k := items.length
  if ¬ s.flag (F.PIGEON_CFG_EN n) ∨ s.fld (F.PIGEON_CFG_PROD n) ≠ 2 ∨ k = 0 ∨ half < k ∨ maxRecords ≤ f.recs.length then
    (false, s.count (C.PIGEON_REFUSED n))
  else if k ≤ f.rest half then
    let (s1, f1) := (s.dmaWrite (s.pigBase n + 4 * f.wr) (ofItems items)).appendRec n f k
    (true, s1.finishFifo n f1)
  else if ¬ f.left ∧ f.otherFree half then
    let (s1, f1) := s.closeBank n f
    let f2 := f1.settle half
    let (s2, f3) := (s1.dmaWrite (s.pigBase n + 4 * f2.wr) (ofItems items)).appendRec n f2 k
    (true, s2.finishFifo n f3)
  else (false, s.count (C.PIGEON_REFUSED n))

/-- A hardware record of `k` items fits FIFO n now (R633). -/
def State.recordFits (s : State) (n k : Nat) : Bool :=
  let half := s.pigDepth n / 2
  let f := (s.fifo n).settle half
  s.flag (F.PIGEON_CFG_EN n) && decide (s.fld (F.PIGEON_CFG_PROD n) = 2) && decide (k ≠ 0 ∧ k ≤ half) &&
    decide (f.recs.length < maxRecords) && (decide (k ≤ f.rest half) || (!f.left && f.otherFree half))

/-- Write the end records that wait, while they fit (R450). -/
def State.flushEnds (s : State) : List (Nat × List Word) → State
  | [] => { s with tables := { s.tables with ends := [] } }
  | e :: rest =>
    if s.recordFits (s.fld F.TABLES_FIFO_SESS_FIFO) 4 then
      State.flushEnds (s.hwRecord (s.fld F.TABLES_FIFO_SESS_FIFO) e.2).2 rest
    else { s with tables := { s.tables with ends := e :: rest } }

/-- Empty FIFO n: every record discarded, the mark cleared, both banks free, the producer on PING at 0, EN clear
(R638, R646). -/
def State.stopFifo (s : State) (n : Nat) : State :=
  ((s.setFld (F.PIGEON_CFG_EN n) 0).setFifo n {}).syncFifo n

/-- SYSCTL.ABORT of a FIFO also raises its vector (R638). -/
def State.abortFifo (s : State) (n : Nat) : State := (s.stopFifo n).raise (s.fld (F.PIGEON_IRQ_VECTOR n))

end Sys2Proof.Machine
end

