-- ==== Sys2Proof/Machine/Resets.lean ====
section
/-! DEFINITION. Cold and warm resets: what each keeps, the cause they report, and the registers whose reset value is
a strap or a fuse (spec/03_startup_image.md R98 to R102, spec/01_package_pins.md R39, R43, R44). -/

namespace Sys2Proof.Machine

/-- Reset causes of R98. -/
def causePowerOn : Nat := 0x1
/-- POWER_FAIL. -/
def causePowerFail : Nat := 0x2
/-- BROWNOUT. -/
def causeBrownout : Nat := 0x3
/-- THERMAL. -/
def causeThermal : Nat := 0x4
/-- PIN. -/
def causePin : Nat := 0x5
/-- SLEEP_WAKE. -/
def causeSleepWake : Nat := 0x6
/-- SOFTWARE. -/
def causeSoftware : Nat := 0x7
/-- HOST. -/
def causeHost : Nat := 0x8
/-- BOOT_TIMEOUT. -/
def causeBootTimeout : Nat := 0x9
/-- FAULT. -/
def causeFault : Nat := 0xA
/-- DEBUG. -/
def causeDebug : Nat := 0xB
/-- BOOT_FAIL. -/
def causeBootFail : Nat := 0xC

/-- The cause RESET_CAUSE reports when `new` joins a cause `old` that arose before the ROM started: a cold cause over
a warm one, then the lower code (R99). Cold causes are 0x1 to 0x5 (R98). -/
def mergeCause (old new : Nat) : Nat :=
  if old ≤ 5 ∧ 5 < new then old else if new ≤ 5 ∧ 5 < old then new else min old new

/-- The `n`-th little-endian word of a number. -/
def wordOf (v n : Nat) : Word := BitVec.ofNat 32 (v >>> (32 * n))

/-- Hold a number in `count` consecutive registers from address `a`, low word first. -/
def State.wrWords (s : State) (a count v : Nat) : State :=
  (List.range count).foldl (fun t n => t.wr (a + 4 * n) (wordOf v n)) s

/-- The 12 bytes "VK-ID-" and a suffix, or another ASCII label, as bytes. -/
def asciiBytes (t : String) : List Byte := t.toList.map (fun c => BitVec.ofNat 8 c.toNat)

/-- The device's identity, while the fuses hold one that is not killed: IDSEED (R589). -/
def Fuses.identity (f : Fuses) : Option (BitVec 256) := if f.idKilled then none else f.idSeed

/-- The Ed25519 secret of an identity (R589). -/
def edSecret (seed : BitVec 256) : BitVec 256 := Config.hkdf seed [] (asciiBytes "VK-ID-ED25519")

/-- The ML-DSA-65 seed of an identity (R589). -/
def mldsaSecret (seed : BitVec 256) : BitVec 256 := Config.hkdf seed [] (asciiBytes "VK-ID-MLDSA65")

/-- DEVICE_ID of an identity: the SHA-384 of the Ed25519 public key followed by the ML-DSA-65 public key (R589). -/
def deviceId (seed : BitVec 256) : BitVec 384 :=
  Config.sha384 (leBytes 32 (Config.ed25519Public (edSecret seed)).toNat ++
    leBytes 1952 (Config.mldsaPublic (mldsaSecret seed)).toNat)

/-- The registers that show fuses and what is derived from them (spec/16 R606, spec/03 R136, R139). -/
def State.showFuses (s : State) : State :=
  let f := s.fuses
  let s1 := ((s.setFld F.SYSCTL_SVN_FUSE_SVN f.rb0).wr (A.SYSCTL_RB_CNT 0) (BitVec.ofNat 32 f.rb1)).wr
    (A.SYSCTL_RB_CNT 1) (BitVec.ofNat 32 f.rb2)
  let s2 := s1.wr (A.SYSCTL_RB_CNT 2) (BitVec.ofNat 32 f.rb3)
  let s3 := s2.wr A.KEYS_LC (BitVec.ofNat 32
    (s.keys.dbgSeen % 4 * 256 + bit f.idKilled * 16 + bit f.idSeed.isSome * 8 + f.lcBits))
  s3.wrWords (A.KEYS_FUSED_HASH 0) 12 f.ownerHash.toNat

/-- The identity registers of KEYS (R589, R606), derived at each cold reset: 0 without an identity. -/
def State.showIdentity (s : State) : State :=
  match if s.keys.idLoaded then s.fuses.identity else none with
  | none => s
  | some seed =>
    ((s.wrWords (A.KEYS_DEVICE_ID 0) 12 (deviceId seed).toNat).wrWords (A.KEYS_ED_PUB 0) 8
      (Config.ed25519Public (edSecret seed)).toNat).wrWords (A.KEYS_MLDSA_PUB 0) 488
      (Config.mldsaPublic (mldsaSecret seed)).toNat

/-- HOSTP mode that the straps name (R44, R556): 0b11 counts as 0b00. -/
def hostMode (straps : Nat) : Nat := if straps / 4 % 4 = 3 then 0 else straps / 4 % 4

/-- Set the registers whose reset value is a strap or a fuse. -/
def State.afterReset (s : State) : State :=
  let v := s.fld F.SYSCTL_STRAPS_VALUE
  ((((s.setFld F.NVMC_MODE_PROTO (v % 4)).setFld F.HOSTP_CFG_MODE (hostMode v)).setFld F.HOSTP_IDS_VENDOR_ID
    s.fuses.vendorId.toNat).showFuses).showIdentity.setFld F.DBG_STATUS_FAILS s.keys.fails

/-- The cause to report for a new reset (R99). -/
def State.mergedCause (s : State) (cause : Nat) : Nat :=
  if s.boot.phase = .waiting then mergeCause (s.fld F.SYSCTL_RESET_CAUSE_CAUSE) cause else cause

/-- Report the reset's cause (R132). -/
def State.reportCause (s : State) (cause src : Nat) : State :=
  s.wr A.SYSCTL_RESET_CAUSE (BitVec.ofNat 32
    ((if cause = causeFault then src * 256 else 0) + (if cause ≤ 5 then 16 else 0) + cause))

/-- Results of NVMC.STATUS (R141). -/
def nvmDone : Nat := 1
/-- Bytes that operation `code` covers in flash for a count. -/
def nvmSpan (code n : Nat) : Nat := if code = 3 then n * 4096 else if code = 4 then n * 65536 else n

/-- Store bytes in flash from address `a` on, modulo its 256 MiB. -/
def State.flashStore (s : State) (a : Nat) : List Byte → State
  | [] => s
  | b :: rest => State.flashStore (s.setFlash (a % 0x10000000) b) (a + 1) rest

/-- `n` open bytes. -/
def State.freeBytes (s : State) (n : Nat) : List Byte × State :=
  ((List.range n).map (fun i => (Config.freeValue (s.fresh + i)).truncate 8), { s with fresh := s.fresh + n })

/-- A reset cuts a program or an erase that NVMC is at: the bytes it covers are open (R130; notes/assumptions/96.md). -/
def State.cutFlash (s : State) : State :=
  match s.nvmc with
  | some o =>
    if o.code ≠ 1 ∧ o.result = nvmDone then
      let (bs, s1) := s.freeBytes (nvmSpan o.code o.len)
      s1.flashStore o.addr bs
    else s
  | none => s

/-- What survives every reset: flash, fuses, the host's memory, the model's own fields, and the latched straps. -/
def State.coldBase (s : State) : State :=
  let b : State := { nvm := s.cutFlash.nvm, hostMem := s.hostMem, fuses := s.fuses, fresh := s.cutFlash.fresh
                     pending := s.pending
                     power := { temp := s.power.temp, avsTemp := s.power.temp }
                     keys := { idLoaded := s.fuses.identity.isSome, drawn := s.keys.drawn + 1, wrap := s.keys.drawn }
                     boot := { spoiled := s.boot.spoiled, replies := s.boot.replies } }
  b.wr A.SYSCTL_STRAPS (s.rd A.SYSCTL_STRAPS)

/-- Keep the hold of a `THERMAL` reset, which only a reading below 95 °C ends (R53). -/
def State.keepHold (s t : State) : State :=
  if s.power.mode = .thermalHold then { t with power := { t.power with mode := .thermalHold } } else t

/-- A cold reset (R100): every register at its reset value, every retained thing lost. -/
def State.coldReset (s : State) (cause : Nat) : State :=
  s.keepHold ((s.coldBase.afterReset).reportCause (s.mergedCause cause) 0)

/-- Registers that a warm reset keeps whole (R100, R131 to R137): the PMU registers, the latched straps, IMG_SEQ,
IMAGE_DIGEST, the DRAMC repair list. -/
def keptWarm (a : Nat) : Bool :=
  decide (windowOf a = 0x02) || decide (a = A.SYSCTL_STRAPS) || decide (a = A.SYSCTL_IMG_SEQ) ||
  decide (A.SYSCTL_IMAGE_DIGEST 0 ≤ a ∧ a ≤ A.SYSCTL_IMAGE_DIGEST 11) ||
  decide (A.DRAMC_PPR 0 ≤ a ∧ a ≤ A.DRAMC_PPR 7) || decide (a = A.DRAMC_PPR_USED)

/-- The fields of BOOT_STATUS that a warm reset keeps: UNBOUND, SLOT, SLOT_FAIL, REC_INDEX, CODE (R135). -/
def bootStatusKept : Word := 0x5CFFFF00

/-- The field of SVN that a warm reset keeps: IMAGE_SVN (R136). -/
def svnKept : Word := 0x000000FF

/-- The key store across a warm reset: the slots stay (DEDUCED from R602: leaving no power state wipes them), a
change in progress is lost, and the debug grant has ended (notes/assumptions/12.md). -/
def KeysSt.afterWarm (k : KeysSt) : KeysSt :=
  { k with
    slots := k.slots.map (fun e =>
      (e.1, { e.2 with inflight := 0, state := if e.2.state = 2 then (if e.2.use = 0 then 0 else 1) else e.2.state }))
    change := none, zeroise := false, d3Waits := false, chalTime := none }

/-- PMU beside its registers across a warm reset: the rails stand at 0.800 V and the cores run at 1.8 GHz when the ROM starts
(R35, R103); the AO clock has counted on. -/
def PowerSt.afterWarm (p : PowerSt) (ao : Nat) : PowerSt :=
  { temp := p.temp, warnArmed := p.warnArmed, avsTemp := p.avsTemp, avsDue := true, ao := ao, entryAo := p.entryAo
    firstAo := p.firstAo }

/-- A warm reset (R100): what it keeps, and every other register at its reset value; CFG_LOCK clears. DRAM is in
self-refresh until the ROM brings it out (R562). -/
def State.warmReset (s : State) (cause : Nat) (src : Nat := 0) : State :=
  if s.mergedCause cause ≤ 5 then s.coldReset cause
  else
    let b : State :=
      { nvm := s.cutFlash.nvm, hostMem := s.hostMem, fuses := s.fuses, fresh := s.cutFlash.fresh, pending := s.pending
        regs := s.regs.filter (fun r => keptWarm r.1)
        mem := s.mem.filter (fun c => !inSram c.1)
        power := s.power.afterWarm (s.power.ao + s.now * 128 / 1953125)
        dram := { s.dram with stored := s.dram.stored || s.flag F.DRAMC_STATUS_TRAINED, used := [], scrubbed := 0 }
        keys := s.keys.afterWarm
        boot := { spoiled := s.boot.spoiled, replies := s.boot.replies } }
    let b1 := (b.wr A.SYSCTL_BOOT_STATUS (s.rd A.SYSCTL_BOOT_STATUS &&& bootStatusKept)).wr A.SYSCTL_SVN
      (s.rd A.SYSCTL_SVN &&& svnKept)
    let b2 := ((b1.setFld F.PMU_STATE_CUR 0).setFld F.PMU_STATE_BUSY 0).setFld F.PMU_AVS_STATUS_PENDING 0
    ((b2.setFld F.DRAMC_STATUS_SELF_REFRESH 1).afterReset).reportCause (s.mergedCause cause) src

/-- Latch the straps from their samples (R43): the first value that two successive samples agree on, of up to eight
samples; none: all zero, and BAD. A reserved STRAP[3:2] also sets BAD (R44). -/
def latchStraps : List (BitVec 6) → Option (BitVec 6)
  | a :: b :: rest => if a = b then some a else latchStraps (b :: rest)
  | _ => none

/-- Hold the latched straps in SYSCTL.STRAPS (R43, R44, R131). -/
def State.setStraps (s : State) (samples : List (BitVec 6)) : State :=
  match latchStraps (samples.take 8) with
  | some v => s.wr A.SYSCTL_STRAPS (BitVec.ofNat 32 (v.toNat + (if v.toNat / 4 % 4 = 3 then 256 else 0)))
  | none => s.wr A.SYSCTL_STRAPS 256

end Sys2Proof.Machine
end

