-- ==== Sys2Proof/Machine/KeyOps.lean ====
section
/-! DEFINITION. What other units do to the key store: zeroise it, back it up for Sleep and restore it, end a debug
grant (spec/16_security.md R572, R586, R587, R599, R602). -/

namespace Sys2Proof.Machine

/-- Erase every slot, device slots and the backing included, as ZEROISE does when it lands; every GEN rises by 1
(R571, R572, R78). -/
def KeysSt.wiped (k : KeysSt) : KeysSt :=
  { k with
    slots := k.slots.filterMap (fun e => if e.2.gen = 0 then none else some (e.1, { gen := e.2.gen }))
    genBase := k.genBase + 1
    change := none, zeroise := false, idLoaded := false, backing := none, zeroised := true }

/-- The backing of one slot at Sleep entry: the receive numbers shrink to the largest (R586), and return with GEN + 1
(R587). -/
def KeySlot.restored (k : KeySlot) : KeySlot :=
  { k with
    gen := (k.gen + 1) % 256
    rxPn := List.replicate 8 (k.rxPn.foldl max 0)
    inflight := 0
    lowRaised := k.lowRaised }

/-- KEYS at Sleep entry (R586, R602): with KEY_BANK_EN the non-EMPTY slots go to the backing; the store itself is
lost. -/
def State.keysSleepEntry (s : State) : State :=
  { s with keys := { s.keys with
      backing := if s.flag F.PMU_RET_CFG_KEY_BANK_EN then some (s.keys.slots.filter (fun e => e.2.state ≠ 0)) else none
      slots := [] } }

/-- KEYS at Sleep exit (R587): the backing comes back where its bank is valid, else every slot is EMPTY. Answers
whether a RETENTION event of the bank is due. -/
def State.keysSleepExit (s : State) : Bool × State :=
  if s.flag F.PMU_RET_CFG_KEY_BANK_EN then
    match s.keys.backing with
    | some b =>
      if (s.fld F.PMU_RET_STATUS_VALID).testBit (s.fld F.PMU_RET_CFG_KEY_BANK) then
        (false, { s with keys := { s.keys with
          slots := b.map (fun e => (e.1, e.2.restored)), backing := none } })
      else (true, { s with keys := { s.keys.wiped with retFailed := true } })
    | none => (true, { s with keys := { s.keys.wiped with retFailed := true } })
  else (false, { s with keys := { s.keys with slots := [], backing := none } })

/-- The end of a debug grant (R599). -/
def State.endGrant (s : State) : State := s.setFld F.DBG_STATUS_LEVEL 0

end Sys2Proof.Machine
end

