-- ==== Sys2Proof/Machine/Access.lean ====
section
/-! DEFINITION. Where a register access goes: gated blocks, unmapped addresses, accesses of a wrong size
(spec/00_scope.md R4, R18, spec/02_clocks_power.md R58, R59, R95, spec/03_startup_image.md R124, R125). -/

namespace Sys2Proof.Machine

/-- The branch of CKGEN.GATE that clocks the block of window `b`; none for a block that is never gated (R58, R96). -/
def branchOf (b : Nat) : Option Nat :=
  if b = 0x06 ∨ b = 0x07 then some 3
  else if b = 0x08 then some 15
  else if b = 0x0B then some 12
  else if b = 0x0C then some 13
  else if 0x10 ≤ b ∧ b ≤ 0x13 then some 14
  else if 0x20 ≤ b ∧ b ≤ 0x2F then some 0
  else if 0x30 ≤ b ∧ b ≤ 0x3F then some 1
  else if 0x40 ≤ b ∧ b ≤ 0x4F then some 2
  else if b = 0x50 then some 4
  else if 0x60 ≤ b ∧ b ≤ 0x70 then some 5
  else if b = 0x80 then some 11
  else if 0x90 ≤ b ∧ b ≤ 0x9F then some 7
  else if 0xA0 ≤ b ∧ b ≤ 0xAF then some 8
  else if 0xB0 ≤ b ∧ b ≤ 0xBF then some 9
  else if b = 0xC0 then some 10
  else if b = 0xD0 then some 6
  else none

/-- The mode of branch `br`: 0 OFF, 1 AUTO, 2 ON (R96). -/
def State.gateMode (s : State) (br : Nat) : Nat := getBits (s.rd A.CKGEN_GATE) (2 * br) 2

/-- The block of window `b` has no power, or no clock source, in Watch: the radios that are not the watch radio, NGR
and NGL without WATCH_CFG.NGUORD, and the IO domain (R57, R67; notes/assumptions/13.md). -/
def State.watchOff (s : State) (b : Nat) : Bool :=
  decide (s.fld F.PMU_STATE_CUR = 2) &&
    ((decide (0x90 ≤ b ∧ b ≤ 0xBF) && decide (b / 16 - 9 ≠ s.fld F.PMU_WATCH_CFG_RADIO)) ||
     ((decide (b = 0xC0) || decide (b = 0xD0)) && !s.flag F.PMU_WATCH_CFG_NGUORD) ||
     decide (0x0C ≤ b ∧ b ≤ 0x13))

/-- Nothing of the device runs but the always-on domain: in Sleep, on the way into it or out of it (R42, R57, R73, R76),
in the hold after a thermal trip (R53), and in Off (notes/assumptions/98.md). -/
def State.dark (s : State) : Bool :=
  match s.power.mode with
  | .on | .watchEntry | .watchExit _ => false
  | _ => true

/-- The block of window `b` is gated in the sense of R18: its branch is OFF, or it has no power in this state. -/
def State.gated (s : State) (b : Nat) : Bool :=
  s.dark || (match branchOf b with
   | some br => decide (s.gateMode br = 0)
   | none => false) || s.watchOff b

/-- The PLL that feeds branch `br`, by its bit in PLL_CTRL.EN; none for the IO branches (R57, R95). -/
def pllOf (br : Nat) : Option Nat :=
  if br ≤ 6 then some 1 else if br ≤ 11 then some 2 else if br = 12 then some 4
  else if br = 13 ∨ br = 14 then none else some 3

/-- The PLL of branch `br` is locked, or the branch needs none. -/
def State.fed (s : State) (br : Nat) : Bool :=
  match pllOf br with
  | some p => (s.fld F.CKGEN_PLL_STATUS_LOCK).testBit p
  | none => true

/-- The block of window `b` waits for the PLL of its branch to lock, and holds accesses and work until then (R95). -/
def State.awaits (s : State) (b : Nat) : Bool :=
  match branchOf b with
  | some br => !s.fed br
  | none => false

/-- A block whose branch is OFF takes no work (R682); nor does one without power, nor one whose PLL is not locked: it
holds its work until LOCK rises (R63, R95). -/
def State.takesWork (s : State) (b : Nat) : Bool := !s.gated b && !s.awaits b

/-- What a command of the block of window `b` answers: `t` while the block takes work. Otherwise the work waits where it is,
and nothing happens (R682, R95). -/
def State.whenWorks (s : State) (b : Nat) (o : Host.Outcome State Fault Refusal) : Host.Outcome State Fault Refusal :=
  if s.takesWork b then o else .next s

/-- What a command of a block that is never gated (R58) answers: `t`, but nothing happens while only the always-on domain
runs. -/
def State.whenUp (s : State) (o : Host.Outcome State Fault Refusal) : Host.Outcome State Fault Refusal :=
  if s.dark then .next s else o

/-- Branch `br` runs, as CKGEN.ACTIVE shows. -/
def State.active (s : State) (br : Nat) : Bool := (s.fld F.CKGEN_ACTIVE_BRANCHES).testBit br

/-- Set or clear a branch's ACTIVE bit. -/
def State.setActive (s : State) (br : Nat) (on : Bool) : State :=
  s.wr A.CKGEN_ACTIVE (setBits (s.rd A.CKGEN_ACTIVE) br 1 (bit on))

/-- Branch `br` has work on this tick (R60). -/
def State.noteBusy (s : State) (br : Nat) : State :=
  { s with power := { s.power with busyAt := sput (fun _ => 0) s.power.busyAt br s.now } }

/-- A register access to an AUTO branch is work for it, and starts its clock where it has stopped (R59). -/
def State.touch (s : State) (a : Nat) : State :=
  match branchOf (windowOf a) with
  | some br =>
    if s.gateMode br = 1 ∧ s.fed br then
      let t := s.noteBusy br
      if s.active br then t else t.setActive br true
    else s
  | none => s

/-- A register address (R124). -/
def inRegs (a : Nat) : Bool := decide (0x40000000 ≤ a ∧ a ≤ 0x40FFFFFF)

/-- A mapped address for a master: a register of an occupied block, memory, or the boot ROM, which only cores reach
once firmware has been entered (R124). -/
def State.reaches (s : State) (m : Master) (a : Nat) : Bool :=
  (inRegs a && occupied (windowOf a)) || s.mapped a ||
  (decide (a ≤ 0x3FFFF) && (decide (s.boot.phase ≠ .firmware) || decide (m ≠ .host)))

/-! ### The debug port (spec/16_security.md R600, R601) -/

/-- What the debug port reaches (R600). -/
inductive Reach where
  | none | n | o | i | f
  deriving DecidableEq, Repr

/-- The cell of the security matrix that the device is in (R601): by the level granted, and nothing while the debug port is unpowered.
A level that the life-cycle state does not allow is never granted. -/
def State.debugReach (s : State) : Reach :=
  if s.dark then .none
  else match s.fld F.DBG_STATUS_LEVEL with
    | 0 => .n
    | 1 => .o
    | 2 => .i
    | _ => .f

/-- Registers that the debug port reaches at every level (R600, R608): those of DBG, and KEYS.LC. -/
def alwaysOpen (a : Nat) : Bool := inRegs a && (decide (windowOf a = 0x04) || decide (a = A.KEYS_LC))

/-- Secure state among registers, and the boot ROM (R600). -/
def secureAddr (a : Nat) : Bool :=
  (inRegs a && (decide (windowOf a = 0x06) || decide (windowOf a = 0x07) || decide (a = A.SYSCTL_RB_ADV))) || decide (a ≤ 0x3FFFF)

/-- Master m may make the access (R600): cores and the host always, the debug port within its reach. -/
def State.granted (s : State) (m : Master) (write : Bool) (a : Nat) : Bool :=
  match m with
  | .core _ | .host => true
  | .debug =>
    match s.debugReach with
    | .none => false
    | .n => alwaysOpen a
    | .o => alwaysOpen a || (!write && !secureAddr a)
    | .i => alwaysOpen a || !secureAddr a
    | .f => true

/-- An access of `size` bytes keeps R4: 32 or 64 bits, aligned. -/
def goodSize (a size : Nat) : Bool := decide (size = 4 ∨ size = 8) && decide (a % size = 0)

/-- The answer that an access gets: a core access that takes a bus error, or a host or debug access that completes. A write
answers no value. -/
def State.bounce (s : State) (m : Master) (write : Bool) (v : DWord) : State :=
  let value := if write then s.resp.value else v
  match m with
  | .core _ => s.busError value
  | .host | .debug => s.answer value

/-- The pattern that a read of gated block number `b` returns (R18). -/
def gatedPattern (b : Nat) : DWord := BitVec.ofNat 64 (0x5EA1ED00 ||| b)

/-- An access to a gated block (R18): the pattern, no effect, a bus error at a core, and a `GATED_ACCESS` event. No access
is made while nothing runs. -/
def State.gatedAccess (s : State) (m : Master) (write : Bool) (b : Nat) : State :=
  if s.dark then s else (s.bounce m write (gatedPattern b)).present 0x01 b

/-- An access of retention SRAM by the host while the Sleep entry has closed it (R74): the pattern of block number 0x02, no
effect, and a `GATED_ACCESS` event. -/
def State.closedAccess (s : State) (write : Bool) : State := (s.bounce .host write (gatedPattern 0x02)).present 0x01 0x02

/-- An access to an unmapped address (R125). -/
def State.unmappedAccess (s : State) (m : Master) (write : Bool) (a : Nat) : State :=
  (s.bounce m write 0).unmapped a

/-- An access that breaks R4: no effect; a bus error at a core; a host read returns 0. The block records `BAD_SIZE`
for a write (R9; notes/assumptions/14.md). -/
def State.badSizeAccess (s : State) (m : Master) (write : Bool) (a : Nat) : State :=
  let s1 := s.bounce m write 0
  if write then s1.refuse a .badSize else s1

/-- The access of address `a` by the command `c` waits for the PLL of its block to lock (R95): the command runs once it has. -/
def State.holdAccess (s : State) (a : Nat) (c : Instr) : State := { s with held := s.held ++ [(a, c)] }

/-- An access, made by the command `c`, that does not reach a register (R4, R18, R125, R600) or waits for it (R95), or none when it
does. One that the debug grant does not cover does nothing. Memory at `a` is not touched by a register access. -/
def State.stopped (s : State) (m : Master) (write : Bool) (a size : Nat) (c : Instr) : Option State :=
  if s.dark ∨ ¬ s.granted m write a then some s
  else if ¬ s.reaches m a then some (s.unmappedAccess m write a)
  else if ¬ inRegs a then some s
  else if s.gated (windowOf a) then some (s.gatedAccess m write (windowOf a))
  else if ¬ goodSize a size then some (s.badSizeAccess m write a)
  else if s.awaits (windowOf a) then some (s.holdAccess a c)
  else none

/-- A register access that is a command `c` of its own, made by core 0's side of the bus: `f` acts, on a running clock,
unless the block of `a` is gated (R18, R59) or awaits its PLL (R95). -/
def State.ownAccess (s : State) (write : Bool) (a : Nat) (c : Instr) (f : State → State) : State :=
  if s.gated (windowOf a) then s.gatedAccess (.core 0) write (windowOf a)
  else if s.awaits (windowOf a) then s.holdAccess a c
  else f (s.touch a)

/-- A register write that is a command `c` of its own. -/
def State.ownWrite (s : State) (a : Nat) (c : Instr) (f : State → State) : State := s.ownAccess true a c f

/-- The first access that waits for a PLL which has locked, and the state without it (R95). -/
def State.heldNext (s : State) : Option (Instr × State) :=
  (s.held.find? (fun h => !s.awaits (windowOf h.1))).map (fun h =>
    (h.2, { s with held := s.held.eraseP (fun g => !s.awaits (windowOf g.1)) }))

end Sys2Proof.Machine
end

