-- ==== Sys2Proof/Machine/TimeOps.lean ====
section
/-! DEFINITION. The counters, domains, triggers and timestamp queues of POSTMARK (spec/07_postmark_time.md R257 to R278,
R281 to R288). -/

namespace Sys2Proof.Machine

/-! ### Domains -/

/-- Nanoseconds in a second. -/
def nsPerSec : Nat := 1000000000

/-- Domain d: 0 A, 1 B. -/
def State.dom (s : State) (d : Nat) : TimeDomain := if d = 0 then s.time.domA else s.time.domB

/-- Update domain d. -/
def State.modDom (s : State) (d : Nat) (f : TimeDomain → TimeDomain) : State :=
  { s with time := if d = 0 then { s.time with domA := f s.time.domA } else { s.time with domB := f s.time.domB } }

/-- A domain's time in units of 2^-32 ns. -/
def TimeDomain.total (x : TimeDomain) : Nat := (x.sec.toNat * nsPerSec + x.ns) * 2 ^ 32 + x.frac.toNat

/-- A domain's time in whole nanoseconds. -/
def TimeDomain.nanos (x : TimeDomain) : Nat := x.sec.toNat * nsPerSec + x.ns

/-- A domain at a time in units of 2^-32 ns; SEC wraps at 2^48 (R259). -/
def TimeDomain.atTotal (x : TimeDomain) (v : Nat) : TimeDomain :=
  { x with
    sec := BitVec.ofNat 48 (v / 2 ^ 32 / nsPerSec)
    ns := v / 2 ^ 32 % nsPerSec
    frac := BitVec.ofNat 32 v }

/-- The span after which SEC wraps, in units of 2^-32 ns. -/
def timeWrap : Nat := 2 ^ 48 * nsPerSec * 2 ^ 32

/-- Take a step (R267): SET clears FRAC; ADJ carries and borrows into SEC. -/
def TimeDomain.step (x : TimeDomain) (t : TimeStep) : TimeDomain :=
  match t with
  | .set sec ns => { x with sec := BitVec.ofNat 48 sec, ns := ns, frac := 0 }
  | .adj n => x.atTotal (((x.total : Int) + n * 2 ^ 32) % (timeWrap : Int)).toNat

/-- One tick of a domain (R259, R267): the increment is added, then the steps that wait are taken. -/
def TimeDomain.tick (x : TimeDomain) : TimeDomain :=
  { (x.steps.foldl TimeDomain.step (x.atTotal ((x.total + x.inc.toNat) % timeWrap))) with steps := [] }

/-- One tick of the TIME clock (R258, R259): the local count and both domains advance. -/
def State.timeTick (s : State) : State :=
  { s with time := { s.time with tick := s.time.tick + 1, domA := s.time.domA.tick, domB := s.time.domB.tick } }

/-- The machine timer of the cores (R612; notes/assumptions/94.md): it advances by 1 every 50 ticks of the local count. -/
def State.mtime (s : State) : Nat := s.now / 50

/-- VALID of domain d (R263). -/
def State.domValid (s : State) (d : Nat) : Bool := s.flag (F.POSTMARK_DOM_CTRL_VALID d)

/-- The selected domain (R282). -/
def State.selected (s : State) : Nat := s.fld F.POSTMARK_SEL_CUR

/-- An increment that R260 allows. -/
def incLegal (v : Nat) : Bool := decide (0x1F0000000 ≤ v ∧ v ≤ 0x20FFFFFFF)

/-- Start the watchdog of domain d from zero (R263). -/
def State.startWatchdog (s : State) (d : Nat) : State := s.modDom d (fun x => { x with watchdog := s.time.tick })

/-! ### Triggers -/

/-- Time of trigger t: nanoseconds of a domain, or ticks of the local count for DOMAIN 3 (R285). -/
def State.trgTime (s : State) (t : Nat) : Nat :=
  if s.fld (F.POSTMARK_TRG_CTRL_DOMAIN t) = 3 then s.rd64 (A.POSTMARK_TRG_NS t) (A.POSTMARK_TRG_SEC_LO t)
  else (s.rd64 (A.POSTMARK_TRG_SEC_LO t) (A.POSTMARK_TRG_SEC_HI t) % 2 ^ 48) * nsPerSec +
    (s.rd (A.POSTMARK_TRG_NS t)).toNat

/-- Hold the time of trigger t. -/
def State.setTrgTime (s : State) (t v : Nat) : State :=
  if s.fld (F.POSTMARK_TRG_CTRL_DOMAIN t) = 3 then s.wr64 (A.POSTMARK_TRG_NS t) (A.POSTMARK_TRG_SEC_LO t) v
  else (s.wr64 (A.POSTMARK_TRG_SEC_LO t) (A.POSTMARK_TRG_SEC_HI t) (v / nsPerSec % 2 ^ 48)).wr (A.POSTMARK_TRG_NS t)
    (BitVec.ofNat 32 (v % nsPerSec))

/-- The time base of trigger t now, in the unit of its time (R269). -/
def State.trgBase (s : State) (t : Nat) : Nat :=
  match s.fld (F.POSTMARK_TRG_CTRL_DOMAIN t) with
  | 0 => s.time.domA.nanos
  | 1 => s.time.domB.nanos
  | 2 => (s.dom s.selected).nanos
  | _ => s.now

/-- The tick at which trigger t fires because a write, a step or a translation has made it due. -/
def State.trgForced (s : State) (t : Nat) : Option DWord := (s.time.forced.find? (fun x => decide (x.1 = t))).map Prod.snd

/-- Trigger t fires with LATE set (R269, R271): it was made due by a write, a step or a translation, or one increment earlier it was
already due. -/
def State.trgLate (s : State) (t : Nat) : Bool :=
  (s.trgForced t).isSome ||
  let k := s.fld (F.POSTMARK_TRG_CTRL_DOMAIN t)
  if k = 3 then decide (s.trgTime t < s.now)
  else
    let x := s.dom (if k = 2 then s.selected else k)
    decide (s.trgTime t * 2 ^ 32 + x.inc.toNat ≤ x.total)

/-- The sixteen trigger channels. -/
def allTriggers : List Nat := List.range 16

/-- Move the time of every armed trigger bound to SEL by Δ ns (R265). -/
def State.moveTriggers (s : State) (delta : Int) : State :=
  allTriggers.foldl (fun u t =>
    if u.flag (F.POSTMARK_TRG_CTRL_EN t) ∧ u.fld (F.POSTMARK_TRG_CTRL_DOMAIN t) = 2 then
      u.setTrgTime t ((u.trgTime t : Int) + delta).toNat
    else u) s

/-- Arm a trigger channel of the hardware (R270, R285): its domain, target, time and period, EN set. -/
def State.armTrigger (s : State) (t domain target time period : Nat) : State :=
  let s1 := s.wr (A.POSTMARK_TRG_CTRL t) (BitVec.ofNat 32 (2 ^ 31 + domain * 2 ^ 29 + target * 2 ^ 24))
  (s1.setTrgTime t time).wr (A.POSTMARK_TRG_PERIOD t) (BitVec.ofNat 32 period)

/-- Occurrences that a firing trigger leaves out: scheduled times after its own and not after the base (R270). -/
def skippedOcc (time base period : Nat) : Nat := if period = 0 then 0 else (base - time) / period

/-- The status and the next time of a trigger that fires (R270 to R272): FIRED, LATE, SKIPPED; one-shot channels
clear EN. -/
def State.trgFired (s : State) (t : Nat) : State :=
  let p0 := s.fld (F.POSTMARK_TRG_PERIOD_PERIOD t)
  let p := if s.fld (F.POSTMARK_TRG_CTRL_DOMAIN t) = 3 then p0 / 2 else p0
  let time := s.trgTime t
  let k := skippedOcc time (s.trgBase t) p
  let s1 := if s.trgLate t then s.setFld (F.POSTMARK_TRG_STATUS_LATE t) 1 else s
  let s2 := s1.setFld (F.POSTMARK_TRG_STATUS_FIRED t) 1
  let s3 := s2.setFld (F.POSTMARK_TRG_STATUS_SKIPPED t) (min 0xFFFF (s2.fld (F.POSTMARK_TRG_STATUS_SKIPPED t) + k))
  let s4 : State := { s3 with time := { s3.time with forced := s3.time.forced.filter (fun x => decide (x.1 ≠ t)) } }
  if p = 0 then s4.setFld (F.POSTMARK_TRG_CTRL_EN t) 0 else s4.setTrgTime t (time + (k + 1) * p)

/-- Trigger t is armed, and its time has come (R269). -/
def State.trgReached (s : State) (t : Nat) : Bool :=
  s.flag (F.POSTMARK_TRG_CTRL_EN t) && decide (s.trgTime t ≤ s.trgBase t)

/-- Trigger t fires on this tick (R269, R271): its time has come, but what a write, a step or a translation has made due waits for the
next tick. -/
def State.trgDue (s : State) (t : Nat) : Bool := s.trgReached t && (s.trgForced t).all (fun x => decide (x.toNat ≤ s.now))

/-- Triggers whose time has come in `s` but had not in `before`, by a write, a step or a translation, fire at the next tick; one that
is no longer due is so no more (R269, R271). -/
def State.forceTriggers (s before : State) : State :=
  let made := allTriggers.filter (fun t => s.trgReached t && !before.trgReached t && (s.trgForced t).isNone)
  let kept := s.time.forced.filter (fun x => s.trgReached x.1)
  { s with time := { s.time with forced := kept ++ made.map (fun t => (t, s.time.tick + 1)) } }

/-- A domain without the steps that wait. -/
def TimeDomain.unstepped (x : TimeDomain) : TimeDomain := { x with steps := [] }

/-- One tick of the TIME clock, and the triggers that a step taken in it makes due (R258, R259, R267, R269). -/
def State.stepTick (s : State) : State :=
  let u := s.timeTick
  if s.time.domA.steps = [] ∧ s.time.domB.steps = [] then u
  else u.forceTriggers ({ s with time := { s.time with domA := s.time.domA.unstepped, domB := s.time.domB.unstepped } } : State).timeTick

/-- The entry that a trigger with TARGET 1 posts (R625). -/
def State.trgEntry (s : State) (t : Nat) : DWord := BitVec.ofNat 64 (t + 0x50 * 2 ^ 24 + s.tickLo.toNat * 2 ^ 32)

/-! ### Timestamp queues -/

/-- Entries of timestamp queue q (R277, R287). -/
def tsqDepth (q : Nat) : Nat := if q < 4 then 64 else 256

/-- Address of word w of slot i of queue q. -/
def tsqWord (q i w : Nat) : Nat := if q < 4 then A.POSTMARK_TSQ_ETH q i w else A.POSTMARK_TSQ_AIR (q - 4) i w

/-- Entries that queue q holds (R277). -/
def State.tsqHeld (s : State) (q : Nat) : Nat :=
  (s.fld (F.POSTMARK_TSQ_IDX_WR q) + 65536 - s.fld (F.POSTMARK_TSQ_IDX_RD q)) % 65536

/-- Words 1 to 5 of an entry taken now (R276). -/
def State.tsWords (s : State) : List Word :=
  [BitVec.ofNat 32 (bit (s.domValid 0) * 2 ^ 31 + bit (s.domValid 1) * 2 ^ 30),
   BitVec.ofNat 32 s.time.domA.ns, BitVec.ofNat 32 s.time.domA.sec.toNat,
   BitVec.ofNat 32 s.time.domB.ns, BitVec.ofNat 32 s.time.domB.sec.toNat]

/-- Hold words at consecutive registers. -/
def State.wrList (s : State) (f : Nat → Nat) (ws : List Word) : State :=
  (ws.zipIdx).foldl (fun t x => t.wr (f x.2) x.1) s

/-- Push an entry into queue q (R276 to R278): answers whether it was queued; a full queue counts TS_OVERFLOW. -/
def State.tsPush (s : State) (q : Nat) (words : List Word) : Bool × State :=
  if tsqDepth q ≤ s.tsqHeld q then (false, s.count (C.POSTMARK_TS_OVERFLOW q))
  else
    let wr := s.fld (F.POSTMARK_TSQ_IDX_WR q)
    (true, (s.wrList (tsqWord q (wr % tsqDepth q)) words).setFld (F.POSTMARK_TSQ_IDX_WR q) (wr + 1))

/-- Words 1 to 7 of an Ethernet entry for a frame that starts now (R275, R276). -/
def State.ethStamp (s : State) : List Word :=
  s.tsWords ++ [BitVec.ofNat 32 s.now, BitVec.ofNat 32 (s.now / 2 ^ 32)]

/-- Queue the transmit timestamp of a frame that port p began at `start` (R275, R276). -/
def State.tsEth (s : State) (p tsId : Nat) (start : List Word) : Bool × State :=
  s.tsPush p (BitVec.ofNat 32 (tsId % 65536) :: start)

/-! ### Captures -/

/-- Write the record of channel c on this tick, with VALID of both domains (R263, R273). -/
def State.captureNow (s : State) (c : Nat) : State :=
  let r : List Word :=
    [BitVec.ofNat 32 s.time.domA.ns, BitVec.ofNat 32 s.time.domA.sec.toNat, BitVec.ofNat 32 s.time.domB.ns,
     BitVec.ofNat 32 s.time.domB.sec.toNat, BitVec.ofNat 32 s.now, BitVec.ofNat 32 (s.now / 2 ^ 32),
     BitVec.ofNat 32 (bit (s.domValid 0) * 2 ^ 31 + bit (s.domValid 1) * 2 ^ 30)]
  let s1 := if s.flag (F.POSTMARK_CAP_STATUS_NEW c) then s.setFld (F.POSTMARK_CAP_STATUS_OVR c) 1 else s
  let s2 := s1.setFld (F.POSTMARK_CAP_STATUS_NEW c) 1
  ({ s2 with time := { s2.time with caps := sput (fun _ => []) s2.time.caps c r } }).wr (A.POSTMARK_CAP_REC c 0)
    (r.getD 0 0)

/-- Every enabled channel with this SOURCE, and this ARG where one is given, captures (R273). -/
def State.captureSource (s : State) (source : Nat) (arg : Option Nat) : State :=
  (List.range 8).foldl (fun t c =>
    if t.flag (F.POSTMARK_CAP_CTRL_EN c) ∧ t.fld (F.POSTMARK_CAP_CTRL_SOURCE c) = source ∧
        (∀ x ∈ arg, t.fld (F.POSTMARK_CAP_CTRL_ARG c) = x) then t.captureNow c else t) s

end Sys2Proof.Machine
end

