-- ==== Sys2Proof/Machine/Power.lean ====
section
/-! DEFINITION. The meanings of the reset-pin, supply, thermal, adaptive-voltage and power-state commands
(spec/01_package_pins.md R33 to R44, R53, spec/02_clocks_power.md R64 to R94). -/

namespace Sys2Proof.Machine

/-! ### Resets from pins and supplies -/

/-- POWER_ON (R37, R38, R98): the rails rise, the straps are latched, and the device cold-starts. -/
def execPowerOn (straps : List (BitVec 6)) (s : State) : Host.Outcome State Fault Refusal :=
  .next (((s.coldBase.setStraps straps).afterReset).reportCause causePowerOn 0)

/-- PIN (R39, R43): a cold reset that samples the straps again. A thermal hold stays (R53, R99). -/
def execPin (straps : List (BitVec 6)) (s : State) : Host.Outcome State Fault Refusal :=
  if s.power.mode = .off then .next s
  else
    .next (s.keepHold (((s.coldBase.setStraps straps).afterReset).reportCause (s.mergedCause causePin) 0))

/-- POWER_FAIL (R40): PMIC_PG fell while the rails must hold; not in Sleep, nor before the exit's PMIC_PG. -/
def execPowerFail (s : State) : Host.Outcome State Fault Refusal :=
  match s.power.mode with
  | .sleep | .sleepExit | .off => .next s
  | _ => .next (s.coldReset causePowerFail)

/-- PMIC_PG_TIMEOUT (R42): 50 ms passed on the way out of Sleep. -/
def execPmicPgTimeout (s : State) : Host.Outcome State Fault Refusal :=
  if s.power.mode = .sleepExit then .next (s.coldReset causePowerFail) else .next s

/-- VIN_AO_LOSS (R64): every volatile state is lost and the device is Off. -/
def execVinAoLoss (s : State) : Host.Outcome State Fault Refusal :=
  let b := s.coldBase
  .next { b with power := { b.power with mode := .off } }

/-- BROWNOUT (R71): while the regulator is in low-power mode. -/
def execBrownout (s : State) : Host.Outcome State Fault Refusal :=
  if s.flag F.PMU_AO_REG_LP_MODE then .next (s.coldReset causeBrownout) else .next s

/-! ### Temperature (R53) -/

/-- The current a retained bank adds at most, in tenths of a mA, at a reading of `t` °C (R72). -/
def bankLoad (t : Int) : Nat := if t + 20 ≤ 25 then 20 else if t + 20 ≤ 55 then 28 else if t + 20 ≤ 85 then 38 else 44

/-- The estimate of R72 for `n` banks, in tenths of a mA. -/
def sleepLoad (t : Int) (n : Nat) : Nat := 60 + n * bankLoad t

/-- The number of set bits among the low `n` bits of `v`. -/
def popCount (n v : Nat) : Nat := ((List.range n).filter (fun i => v.testBit i)).length

/-- AO_REG shows the estimate of R72 and the largest bank count that fits, for the present KEEP and reading (R72, R93). The
registers hold their reset values while the device is held in reset. -/
def State.refreshAo (s : State) : State :=
  match s.power.mode with
  | .off | .thermalHold => s
  | _ =>
    (s.setFld F.PMU_AO_REG_SLEEP_EST_MA (sleepLoad s.power.temp (popCount 8 (s.fld F.PMU_RET_CFG_KEEP)) / 10)).setFld
      F.PMU_AO_REG_MAX_BANKS (min 8 (340 / bankLoad s.power.temp))

/-- The reading of the hottest sensor. -/
def State.setTemp (s : State) (t : Int) : State := ({ s with power := { s.power with temp := t } }).refreshAo

/-- THERMAL_WARN: raised once at 108 °C or above; armed again by a reading below 103 °C. -/
def execThermalWarn (sensor : Fin 12) (temp : Int) (s : State) : Host.Outcome State Fault Refusal :=
  let s1 := s.setTemp temp
  if s.dark then .next s1
  else if 108 ≤ temp ∧ s.power.warnArmed then
    .next ({ s1 with power := { s1.power with warnArmed := false } }.present 0x04 sensor.val)
  else if temp < 103 then .next { s1 with power := { s1.power with warnArmed := true } }
  else .next s1

/-- THERMAL: at 118 °C or above every transmitter stops and the device takes a cold reset, in which it stays. -/
def execThermal (temp : Int) (s : State) : Host.Outcome State Fault Refusal :=
  if 118 ≤ temp ∧ ¬ s.dark then
    let t := (s.setTemp temp).coldReset causeThermal
    .next { t with power := { t.power with mode := .thermalHold } }
  else .next (s.setTemp temp)

/-- THERMAL_RESET_RELEASE: the hold ends once the hottest sensor reads below 95 °C. -/
def execThermalResetRelease (temp : Int) (s : State) : Host.Outcome State Fault Refusal :=
  if s.power.mode = .thermalHold ∧ temp < 95 then
    .next { s with power := { s.power with mode := .on, temp := temp } }
  else .next (s.setTemp temp)

/-! ### Adaptive voltage (R34 to R36, R79, R80) -/

/-- The voltage last asked of the PMIC for a rail: 0 VDD_CORE, 1 VDD_CPU. -/
def State.volt (s : State) (rail : Nat) : Nat := if rail = 0 then s.power.voltCore else s.power.voltCpu

/-- The target of a rail. -/
def State.avsTarget (s : State) (rail : Nat) : Nat :=
  if rail = 0 then s.fld F.PMU_AVS_STATUS_TARGET_CORE else s.fld F.PMU_AVS_STATUS_TARGET_CPU

/-- The next value to ask for on the way from `v` to `t`: no step larger than 50 mV, 10 codes of 5 mV (R34). -/
def avsStep (v t : Nat) : Nat := if v < t then min t (v + 10) else max t (v - 10)

/-- Frequencies on a rail stay safe for the old voltage (R36, R80). -/
def PowerSt.hold (p : PowerSt) (rail : Nat) (on : Bool) : PowerSt :=
  if rail = 0 then { p with holdCore := on } else { p with holdCpu := on }

/-- The 100 µs wait after a rail's last step of a rise begins, or is over (R35, R80). -/
def PowerSt.settle (p : PowerSt) (rail : Nat) (t : Option DWord) : PowerSt :=
  if rail = 0 then { p with settleCore := t } else { p with settleCpu := t }

/-- A rail may be lowered: no write stands unacknowledged (R36), and a frequency on the rail that is to fall has fallen
(R80): that of the cores falls at the end of the Watch entry. -/
def State.mayLower (s : State) (rail : Nat) : Bool :=
  !s.flag F.PMU_AVS_STATUS_NO_ACK && !(decide (rail = 1) && decide (s.power.mode = .watchEntry))

/-- Start a write for a rail that is not at its target, in a step of 50 mV at most (R34). -/
def State.startRail (s : State) (rail : Nat) : State :=
  let v := s.volt rail
  let g := s.avsTarget rail
  if s.power.avsWrite.isSome ∨ v = g ∨ (g < v ∧ ¬ s.mayLower rail) then s
  else
    let p := { s.power with avsWrite := some (rail, avsStep v g), avsTries := 0, avsWait := false }
    ({ s with power := if v < g then (p.hold rail true).settle rail none else p }).setFld F.PMU_AVS_STATUS_PENDING 1

/-- Start the next AVS write that is needed: VDD_CORE before VDD_CPU (DESIGN CHOICE, notes/assumptions/100.md). -/
def State.startAvs (s : State) : State := (s.startRail 0).startRail 1

/-- The target of R79: the lowest passing code and the margin, within 0.600 to 0.850 V. -/
def State.avsCode (s : State) (measured : Nat) : Nat := min 50 (measured + s.fld F.PMU_AVS_CTRL_MARGIN_MV / 5)

/-- The targets are to be computed again (R79): the period has ended, the power state has changed, or the hottest sensor has
moved by 5 °C. -/
def State.avsAsked (s : State) (temp : Int) : Bool :=
  s.power.avsDue || decide (s.power.avsTime.toNat + s.fld F.PMU_AVS_CTRL_PERIOD_MS * Config.ticksPerMs ≤ s.now) ||
    decide (5 ≤ (temp - s.power.avsTemp).natAbs)

/-- The clock of the cores rises to 1.8 GHz once the device is out of Watch and VDD_CPU is high enough (R57, R80). -/
def State.raiseCores (s : State) : State :=
  if s.power.coreMhz = 1800 ∨ s.fld F.PMU_STATE_CUR = 2 ∨ s.power.holdCpu ∨ (s.flag F.PMU_AVS_CTRL_EN ∧ s.power.avsDue) then s
  else s.setCoreMhz 1800

/-- New targets: a rail below its target holds its frequencies (R80), and the writes begin. -/
def State.newTargets (s : State) (core cpu : Nat) : State :=
  let s1 := (s.setFld F.PMU_AVS_STATUS_TARGET_CORE core).setFld F.PMU_AVS_STATUS_TARGET_CPU cpu
  let p := (s1.power.hold 0 (decide (s1.volt 0 < core))).hold 1 (decide (s1.volt 1 < cpu))
  ({ s1 with power := p }).startAvs.raiseCores

/-- AVS_RECOMPUTE (R79): at one of the times of R79, the monitors' lowest passing codes give new targets. -/
def execAvsRecompute (temp : Int) (core cpu : BitVec 6) (s : State) : Host.Outcome State Fault Refusal :=
  let s1 := s.setTemp temp
  if s.flag F.PMU_AVS_CTRL_EN ∧ s.avsAsked temp ∧ ¬ s.dark then
    let s2 := { s1 with power := { s1.power with avsTemp := temp, avsTime := s.time.tick, avsDue := false } }
    .next (s2.newTargets (s2.avsCode core.toNat) (s2.avsCode cpu.toNat))
  else .next s1

/-- AVS_WRITE_DONE (R34, R36): an acknowledged write moves the rail and the next step follows; after the last step of
a rise the 100 µs wait starts (R80). A write not acknowledged waits 1 ms for a retry, three times at most, then
`AVS_NO_ACK` is raised. -/
def execAvsWriteDone (ack : Bool) (s : State) : Host.Outcome State Fault Refusal :=
  match s.power.avsWrite with
  | none => .next s
  | some (rail, v) =>
    if s.power.avsWait then .next s
    else if ack then
      let p := { s.power with
        voltCore := if rail = 0 then v else s.power.voltCore
        voltCpu := if rail = 0 then s.power.voltCpu else v
        avsWrite := none
        avsTries := 0 }
      let q := if s.volt rail < v ∧ v = s.avsTarget rail then p.settle rail (some s.time.tick) else p
      .next (((({ s with power := q }).setFld F.PMU_AVS_STATUS_PENDING 0).setFld F.PMU_AVS_STATUS_NO_ACK 0).startAvs)
    else if s.power.avsTries < 3 then .next { s with power := { s.power with avsWait := true } }
    else
      .next (((({ s with power := { s.power with avsWrite := none, avsTries := 0 } }).setFld
        F.PMU_AVS_STATUS_PENDING 0).setFld F.PMU_AVS_STATUS_NO_ACK 1).present 0x03 rail)

/-- AVS_RETRY (R36): the write goes out again. -/
def execAvsRetry (s : State) : Host.Outcome State Fault Refusal :=
  if s.power.avsWait then
    .next { s with power := { s.power with avsWait := false, avsTries := s.power.avsTries + 1 } }
  else .next s

/-- The 100 µs wait of a rail is over (R35). -/
def State.settled (s : State) (t : Option DWord) : Bool :=
  t.any (fun u => decide (u.toNat + 100 * Config.ticksPerUs ≤ s.now))

/-- AVS_SETTLE (R35, R80): on each rail whose wait after the last step of a rise is over, frequencies may rise. -/
def execAvsSettle (s : State) : Host.Outcome State Fault Refusal :=
  let p := if s.settled s.power.settleCore then (s.power.settle 0 none).hold 0 false else s.power
  let q := if s.settled s.power.settleCpu then (p.settle 1 none).hold 1 false else p
  .next ({ s with power := q }).raiseCores

/-! ### Power states (R64 to R76) -/

/-- LAST codes of PMU.STATE (R85). -/
def lastDone : Nat := 1
/-- SLEEP_BUDGET. -/
def lastSleepBudget : Nat := 2
/-- ABORTED_WAKE. -/
def lastAbortedWake : Nat := 3
/-- BUSY. -/
def lastBusy : Nat := 4
/-- HOST_ACTIVE. -/
def lastHostActive : Nat := 5
/-- NO_WAKE. -/
def lastNoWake : Nat := 6
/-- REG_ACTIVE. -/
def lastRegActive : Nat := 7
/-- BAD_TARGET. -/
def lastBadTarget : Nat := 8

/-- Report the outcome of a request in PMU.STATE.LAST. -/
def State.last (s : State) (code : Nat) : State := s.setFld F.PMU_STATE_LAST code

/-- A registered flow is admitted: a flow that is not FREE (R64, R518). -/
def State.regActive (s : State) : Bool := decide (s.fld F.REGSVC_TOTALS_FLOWS ≠ 0)

/-- The PCIe link is in L0 or L1 (R64, R556). -/
def State.hostActive (s : State) : Bool := s.flag F.HOSTP_LINK_UP && decide (s.fld F.HOSTP_LINK_PM < 4)

/-- Begin a transition: BUSY rises; AVS is to compute again (R79). -/
def State.transition (s : State) (m : PMode) : State :=
  ({ s with power := { s.power with mode := m, avsDue := true } }).setFld F.PMU_STATE_BUSY 1

/-- End a transition in the state `cur`: BUSY falls; AVS is to compute again (R79). -/
def State.arrive (s : State) (cur : Nat) : State :=
  (({ s with power := { s.power with mode := .on, avsDue := true } }).setFld F.PMU_STATE_BUSY 0).setFld F.PMU_STATE_CUR cur

/-- Change between Run and Trim (R64). -/
def State.enter (s : State) (cur : Nat) : State :=
  ({ s with power := { s.power with avsDue := s.power.avsDue || decide (s.fld F.PMU_STATE_CUR ≠ cur) } }).setFld
    F.PMU_STATE_CUR cur

/-- The AO clock: periods ended since the last cold reset (R57). One period is 1,953,125/128 ticks of TIME. -/
def State.aoNow (s : State) : Nat := s.power.ao + s.now * 128 / 1953125

/-- A state in which PMU.ALARM counts is entered (R92). -/
def State.markEntry (s : State) : State := { s with power := { s.power with entryAo := s.aoNow } }

/-- STATE_REQ_RUN (R64). -/
def execStateReqRun (s : State) : Host.Outcome State Fault Refusal :=
  if s.dark ∧ s.power.mode ≠ .sleepEntry then .next s
  else if s.flag F.PMU_STATE_BUSY then .next (s.last lastBusy)
  else if s.fld F.PMU_STATE_CUR = 2 then .next (s.transition (.watchExit true))
  else .next ((s.enter 0).last lastDone)

/-- STATE_REQ_TRIM (R64): refused in Watch. -/
def execStateReqTrim (s : State) : Host.Outcome State Fault Refusal :=
  if s.dark ∧ s.power.mode ≠ .sleepEntry then .next s
  else if s.flag F.PMU_STATE_BUSY then .next (s.last lastBusy)
  else if s.fld F.PMU_STATE_CUR = 2 then .next (s.last lastBadTarget)
  else .next ((s.enter 1).last lastDone)

/-- Bring CORE_STATUS of every core up to date. -/
def State.syncCores (s : State) : State := allCores.foldl (fun t c => t.syncCore c) s

/-- STATE_REQ_WATCH (R64, R67): checked, then the Watch entry starts; only the watch core takes threads from then on. -/
def execStateReqWatch (s : State) : Host.Outcome State Fault Refusal :=
  if s.dark ∧ s.power.mode ≠ .sleepEntry then .next s
  else if s.flag F.PMU_STATE_BUSY then .next (s.last lastBusy)
  else if s.fld F.PMU_STATE_CUR = 2 then .next (s.last lastDone)
  else if s.regActive then .next (s.last lastRegActive)
  else if s.hostActive then .next (s.last lastHostActive)
  else .next ((s.transition .watchEntry).syncCores)

/-- The radios that lose power in Watch: all but the watch radio; 3 stands for NGR (R67). -/
def State.watchLoses (s : State) (r : Nat) : Bool :=
  if r = 3 then !s.flag F.PMU_WATCH_CFG_NGUORD else decide (r ≠ s.fld F.PMU_WATCH_CFG_RADIO)

/-- The SYNTH_STATUS register of a radio; 3 stands for NGR. -/
def synthStatusOf (r : Nat) : Nat := if r = 3 then A.NGR_SYNTH_STATUS else A.RADIO_SYNTH_STATUS r

/-- A radio stops and loses power: it has no lock, calibrates nothing, and its reception and transmission are gone (R67). What
WMAC has queued for it becomes unbound (R226). -/
def State.darken (s : State) (r : Nat) : State :=
  let s1 := (s.wr (synthStatusOf r) 0).setFld (F.RADIO_CAL_STATUS_BUSY r) 0
  let x : RadioSt := sget (fun _ => {}) s1.air.radios r
  let ours := fun (c : AirCmd) => match c.kind with
    | .bar _ _ _ _ => true
    | k => k.isData
  { s1 with
    wmac := (x.cmds.filter ours).foldl WmacSt.giveBack s1.wmac
    air := { s1.air with
      radios := smod (fun _ => {}) s1.air.radios r (fun y => { y with
        seq := .off, retune := false, rx := none, air := none, cmds := y.cmds.filter (fun c => !ours c) }) }
    ngr := if r = 3 then { s1.ngr with rx := none } else s1.ngr }

/-- A port leaves its link in Watch, unless its mode there is PATTERN, whose receive path stays up (R67, R87, R530). -/
def State.watchUnlink (s : State) (p : Nat) : State :=
  if getBits (s.rd A.PMU_WATCH_CFG) (4 + 2 * p) 2 = 2 then s
  else (s.setFld (F.EMAC_STATUS_LINK p) 0).setFld (F.EMAC_STATUS_SPEED p) 0

/-- WATCH_ENTRY_DONE (R67): the other radios have stopped and lost lock, the ports have left their links, the ranks are in
power-down, CPLL has stopped, the watch core runs at 250 MHz, and VDD_CPU may fall (R80). -/
def execWatchEntryDone (s : State) : Host.Outcome State Fault Refusal :=
  if s.power.mode = .watchEntry then
    let s1 := (s.arrive 2).last lastDone
    let s2 := (List.range 4).foldl (fun t r => if t.watchLoses r then t.darken r else t) s1
    let s3 := (List.range 4).foldl State.watchUnlink s2
    let s4 := (((s3.setFld F.DRAMC_STATUS_PD 3).setFld F.CKGEN_PLL_STATUS_LOCK
      (s3.fld F.CKGEN_PLL_STATUS_LOCK &&& 0x1E)).setCoreMhz 250).markEntry
    .next (s4.startAvs.syncCores)
  else .next s

/-- Place every READY thread again, in the order in which they became READY (R70, R619). -/
def State.placeAll (s : State) : State := s.disp.ready.foldl (fun t th => t.place th) s

/-- WATCH_EXIT_DONE (R70): CPLL is locked, every island is powered, DISPATCH places threads on all active cores; the
frames kept in Watch go to WMAC. LAST reports a request; a wake event leaves it. -/
def execWatchExitDone (s : State) : Host.Outcome State Fault Refusal :=
  match s.power.mode with
  | .watchExit byRequest =>
    let s1 := s.arrive 0
    let s2 := if byRequest then s1.last lastDone else s1
    let s3 := s2.setFld F.CKGEN_PLL_STATUS_LOCK (s2.fld F.CKGEN_PLL_STATUS_LOCK ||| 1)
    let wl := (s3.power.keptFrames.filter (·.1)).map (·.2)
    let ng := (s3.power.keptFrames.filter (fun f => !f.1)).map (·.2)
    let s4 := { s3 with
      power := { s3.power with keptFrames := [], listenUntil := none }
      wmac := { s3.wmac with fwRx := s3.wmac.fwRx ++ wl } }
    let s5 := ng.foldl (fun t f => (t.hwRecord (t.fld F.NGL_FIFO_RX) (toItems f)).2) s4
    .next ((s5.raiseCores.placeAll).syncCores)
  | _ => .next s

/-- A wake source that acts in Sleep is enabled (R64). -/
def State.canWake (s : State) : Bool :=
  let en := s.fld F.PMU_WAKE_EN_SRC
  en.testBit 6 || en.testBit 8 || (en.testBit 7 && decide (s.rd A.PMU_ALARM ≠ 0))

/-- STATE_REQ_SLEEP (R64, R72, R73, R599): checked in the order of R64's table, then the Sleep entry starts and a debug grant
ends. -/
def execStateReqSleep (temp : Int) (s : State) : Host.Outcome State Fault Refusal :=
  let n := popCount 8 (s.fld F.PMU_RET_CFG_KEEP)
  let s1 := s.setTemp temp
  if s.dark ∧ s.power.mode ≠ .sleepEntry then .next s
  else if s.flag F.PMU_STATE_BUSY then .next (s.last lastBusy)
  else if s.fld F.PMU_STATE_CUR ≠ 2 ∧ s.hostActive then .next (s.last lastHostActive)
  else if ¬ s.canWake then .next (s.last lastNoWake)
  else if 400 < sleepLoad temp n then .next (s1.last lastSleepBudget)
  else if s.fld F.PMU_STATE_CUR ≠ 2 ∧ s.regActive then .next (s1.last lastRegActive)
  else .next ((s1.transition .sleepEntry).endGrant)

/-! ### Retention (R77) -/

/-- One step of the CRC with the ECMA-182 polynomial, most significant bit first. -/
def crcBit (c : BitVec 64) : BitVec 64 :=
  if c.msb then (c <<< 1) ^^^ 0x42F0E1EBA9EA3693 else c <<< 1

/-- Take one 64-bit word into the CRC. -/
def crcWord (c w : BitVec 64) : BitVec 64 := (List.range 64).foldl (fun x _ => crcBit x) (c ^^^ w)

/-- First address of retention bank `n` (R77). -/
def bankBase (n : Nat) : Nat := 0x03000000 + n * 0x80000

/-- The signature of retention bank `n` (R77). -/
def State.bankSignature (s : State) (n : Nat) : BitVec 64 :=
  (List.range 65536).foldl
    (fun c i => crcWord c (BitVec.ofNat 64 (leNat ((List.range 8).map (fun j => s.byte (bankBase n + 8 * i + j))))))
    (BitVec.allOnes 64)

/-- The banks named in RET_CFG.KEEP. -/
def State.keptBanks (s : State) : List Nat := (List.range 8).filter (fun n => (s.fld F.PMU_RET_CFG_KEEP).testBit n)

/-- SLEEP_ENTRY_DONE (R73): the signatures are held, DRAM is in self-refresh, the PLLs have stopped, banks not kept and shared
SRAM are lost, the regulator is in low-power mode, PMIC_SLEEP has risen, and the request's outcome is DONE (R85). -/
def execSleepEntryDone (s : State) : Host.Outcome State Fault Refusal :=
  if s.power.mode = .sleepEntry ∧ s.power.latched = none then
    let s1 := s.keptBanks.foldl (fun t n =>
      t.wr64 (A.PMU_RET_SIG_LO n) (A.PMU_RET_SIG_HI n) (s.bankSignature n).toNat) s.keysSleepEntry
    let lost := fun a => inSram a || (inRetention a && !(s.fld F.PMU_RET_CFG_KEEP).testBit ((a - 0x03000000) / 0x80000))
    let s2 := { s1 with
      mem := s1.mem.filter (fun c => !lost c.1)
      poison := []
      power := { s1.power with mode := .sleep }
      pins := { s1.pins with pmicSleep := true } }
    .next ((((s2.setFld F.DRAMC_STATUS_SELF_REFRESH 1).setFld F.CKGEN_PLL_STATUS_LOCK 0).setFld
      F.PMU_AO_REG_LP_MODE 1).last lastDone).markEntry
  else .next s

/-- ABORTED_WAKE (R75): an event latched before PMIC_SLEEP rises undoes the entry. -/
def execAbortedWake (s : State) : Host.Outcome State Fault Refusal :=
  if s.power.mode = .sleepEntry ∧ s.power.latched ≠ none then
    .next ((({ s with power := { s.power with latched := none } }).arrive (s.fld F.PMU_STATE_CUR)).last
      lastAbortedWake)
  else .next s

/-! ### Wake events (R81 to R84) -/

/-- A source takes FIRST_SRC: none has latched, or one of a higher number in this AO cycle (R82). -/
def State.firstWake (s : State) (src : Nat) : Bool :=
  let k := s.fld F.PMU_WAKE_CAUSE_FIRST_SRC
  decide (k = 0xF) || (decide (s.power.firstAo = s.aoNow) && decide (src < k))

/-- Record a wake event (R82). -/
def State.recordWake (s : State) (src pat : Nat) : State :=
  let s1 := s.setFld F.PMU_WAKE_CAUSE_SRC (s.fld F.PMU_WAKE_CAUSE_SRC ||| 2 ^ src)
  if s.firstWake src then
    let s2 := (s1.setFld F.PMU_WAKE_CAUSE_FIRST_SRC src).setFld F.PMU_WAKE_CAUSE_FIRST_PAT pat
    { s2 with power := { s2.power with firstAo := s.aoNow } }
  else s1

/-- A wake source's event (R64, R75, R81, R82): in Watch it starts the exit; during the Sleep entry it is latched; in
Sleep PMIC_SLEEP falls; during an exit it is recorded. `inSleep`: the source acts in Sleep too. -/
def State.wakeEvent (s : State) (src : Nat) (inSleep : Bool) (pat : Nat := 0) : State :=
  if (s.fld F.PMU_WAKE_EN_SRC).testBit src then
    match s.power.mode with
    | .on => if s.fld F.PMU_STATE_CUR = 2 then (s.recordWake src pat).transition (.watchExit false) else s
    | .watchExit _ => s.recordWake src pat
    | .sleepEntry =>
      if inSleep then
        let t := s.recordWake src pat
        { t with power := { t.power with latched := some (s.power.latched.getD (src, pat)) } }
      else s
    | .sleep =>
      if inSleep then
        let t := s.recordWake src pat
        { t with power := { t.power with mode := .sleepExit }, pins := { t.pins with pmicSleep := false } }
      else s
    | .sleepExit => if inSleep then s.recordWake src pat else s
    | _ => s
  else s

/-- The mode of a port in Watch: 0 off, 1 ENERGY, 2 PATTERN (R87). -/
def State.watchPort (s : State) (p : Nat) : Nat := getBits (s.rd A.PMU_WATCH_CFG) (4 + 2 * p) 2

/-- WAKE_LINK_ENERGY (R81). -/
def execWakeLinkEnergy (p : Fin 4) (s : State) : Host.Outcome State Fault Refusal :=
  if s.watchPort p.val = 1 then .next (s.wakeEvent p.val false) else .next s

/-- VALUE byte `j` of wake pattern `n` (R83). -/
def State.patByte (s : State) (n j : Nat) : Nat := getBits (s.rd (A.PMU_PAT_VALUE n (j / 4))) (8 * (j % 4)) 8

/-- MASK bit of VALUE byte `i` of wake pattern `n` (R83). -/
def State.patMask (s : State) (n i : Nat) : Bool := (s.rd (A.PMU_PAT_MASK n (i / 32))).getLsbD (i % 32)

/-- A magic packet of the MAC address `mac` at position `k` of the frame (R84). -/
def magicAt (frame mac : List Byte) (k : Nat) : Bool :=
  decide (slice frame k 102 = List.replicate 6 0xFF ++ (List.replicate 16 mac).flatten)

/-- Pattern `n` matches the frame received on port `p` (R83, R84). -/
def State.patMatches (s : State) (n p : Nat) (frame : List Byte) : Bool :=
  let len := s.fld (F.PMU_PAT_CTRL_LEN n)
  let off := s.fld (F.PMU_PAT_CTRL_OFFSET n)
  decide (len ≠ 0) && (s.fld (F.PMU_PAT_CTRL_PORTS n)).testBit p &&
    (if s.flag (F.PMU_PAT_CTRL_MAGIC n) then
      (List.range frame.length).any (fun k => decide (14 ≤ k) &&
        magicAt frame ((List.range 6).map (fun i => BitVec.ofNat 8 (s.patByte n i))) k)
     else
      decide (off + len ≤ frame.length) && (List.range len).all (fun i =>
        !s.patMask n i || decide ((frame.getD (off + i) 0).toNat = s.patByte n i)))

/-- WAKE_PATTERN_MATCH (R84): a frame with a good FCS; the lowest matching pattern is reported, the frame dropped. -/
def execWakePatternMatch (p : Fin 4) (frame : List Byte) (s : State) : Host.Outcome State Fault Refusal :=
  if s.watchPort p.val = 2 then
    match (List.range 16).find? (fun n => s.patMatches n p.val frame) with
    | some n => .next (s.wakeEvent p.val false n)
    | none => .next s
  else .next s

/-- In Watch, or leaving it. -/
def State.inWatch (s : State) : Bool :=
  decide (s.fld F.PMU_STATE_CUR = 2) && (match s.power.mode with | .on | .watchExit _ => true | _ => false)

/-- WAKE_WLAN_REQUEST (R68): a request in the listening window after a beacon is kept, and wakes the device if that is enabled. -/
def execWakeWlanRequest (frame : List Byte) (s : State) : Host.Outcome State Fault Refusal :=
  if s.inWatch ∧ s.power.listenUntil.any (fun t => decide (s.now ≤ t.toNat)) ∧ s.fld F.PMU_WATCH_CFG_RADIO ≠ 3 then
    .next (({ s with power := { s.power with keptFrames := s.power.keptFrames ++ [(true, frame)] } }).wakeEvent 4 false)
  else .next s

/-- WAKE_NGUORD_FRAME (R69): a frame for firmware is kept until Run is reached, and wakes the device. -/
def execWakeNguordFrame (frame : List Byte) (s : State) : Host.Outcome State Fault Refusal :=
  if s.inWatch ∧ s.flag F.PMU_WATCH_CFG_NGUORD then
    .next (({ s with power := { s.power with keptFrames := s.power.keptFrames ++ [(false, frame)] } }).wakeEvent 5 false)
  else .next s

/-- WAKE_PCIE (R81): the sideband of endpoint or root-complex mode. -/
def execWakePcie (s : State) : Host.Outcome State Fault Refusal :=
  if s.fld F.HOSTP_CFG_MODE = 0 then .next s else .next (s.wakeEvent 6 true)

/-- PMU.ALARM has counted out: its AO periods have passed since entry to Watch or Sleep (R92). -/
def State.alarmOut (s : State) : Bool :=
  let n := (s.rd A.PMU_ALARM).toNat
  decide (n ≠ 0) && decide (s.power.entryAo + n ≤ s.aoNow) &&
    (s.inWatch || decide (s.power.mode = .sleep) || decide (s.power.mode = .sleepExit))

/-- A Postmark alarm marked for wake is due: a trigger of TARGET 2 (R81, R272). -/
def State.wakeTrigger (s : State) : Bool :=
  allTriggers.any (fun t => s.trgDue t && decide (s.fld (F.POSTMARK_TRG_CTRL_TARGET t) = 2))

/-- WAKE_ALARM (R81, R92): PMU.ALARM has counted out, or in Watch a Postmark alarm marked for wake fires. -/
def execWakeAlarm (postmark : Bool) (s : State) : Host.Outcome State Fault Refusal :=
  if postmark then .next (if s.inWatch ∧ s.wakeTrigger then s.wakeEvent 7 false else s)
  else if s.alarmOut then .next (s.wakeEvent 7 true) else .next s

/-- WAKE_IN (R81, R91): an edge of the chosen polarity. -/
def execWakeIn (rising : Bool) (s : State) : Host.Outcome State Fault Refusal :=
  if rising = !s.flag F.PMU_WAKE_EN_WAKE_IN_POL then .next (s.wakeEvent 8 true) else .next s

/-- SLEEP_EXIT (R76 to R78, R587): PMIC_PG has risen; `changed` lists the bytes of retention SRAM that did not keep
their value. The kept banks are checked, the key store restored or wiped, DRAM leaves self-refresh with its stored
training, and the warm reset with SLEEP_WAKE follows. -/
def execSleepExit (changed : List (BitVec 22 × Byte)) (s : State) : Host.Outcome State Fault Refusal :=
  if s.power.mode = .sleepExit then
    let s1 := changed.foldl (fun t e =>
      if (s.fld F.PMU_RET_CFG_KEEP).testBit (e.1.toNat / 0x80000) then t.setByte (0x03000000 + e.1.toNat) e.2 else t) s
    let good := fun n => decide ((s1.bankSignature n).toNat = s1.rd64 (A.PMU_RET_SIG_LO n) (A.PMU_RET_SIG_HI n))
    let sumBits := fun (l : List Nat) => l.foldl (fun acc n => acc + 2 ^ n) 0
    let bad := s1.keptBanks.filter (fun n => !good n)
    let s2 := ((s1.setFld F.PMU_RET_STATUS_VALID (sumBits (s1.keptBanks.filter good))).setFld
      F.PMU_RET_STATUS_FAILED (sumBits bad)).setFld F.PMU_AO_REG_LP_MODE 0
    let (kev, s3) := s2.keysSleepExit
    let kb := s.fld F.PMU_RET_CFG_KEY_BANK
    let evs := if kev ∧ ¬ bad.contains kb then bad ++ [kb] else bad
    let s4 := s3.warmReset causeSleepWake
    let s5 := if s4.dram.stored then
      (s4.setFld F.DRAMC_STATUS_SELF_REFRESH 0).setFld F.DRAMC_STATUS_TRAINED 1 else s4
    .next (evs.foldl (fun t n => t.present 0x07 n) s5)
  else .next s

end Sys2Proof.Machine
end

