-- ==== Sys2Proof/Machine/Work.lean ====
section
/-! DEFINITION. Whether a clock branch has work (spec/02_clocks_power.md, Branches on demand, R60), and what one tick of the
clocks does while no command waits (R57, R60, spec/01_package_pins.md R50). -/

namespace Sys2Proof.Machine

/-- Radio `r` holds a command, a transmission or a reception. -/
def RadioSt.busy (x : RadioSt) : Bool := decide (x.cmds ≠ []) || x.air.isSome || x.rx.isSome

/-- A block of branch `br` holds a frame, codeword, descriptor or operation. -/
def State.branchWork (s : State) (br : Nat) : Bool :=
  match br with
  | 0 => decide (s.sort.arrivals ≠ [] ∨ s.sort.regLane ≠ [] ∨ s.sort.recLane ≠ [] ∨ s.sort.normLane ≠ [] ∨ s.sort.pipe ≠ [])
  | 1 => decide (s.tables.inbox ≠ [] ∨ s.tables.learnQ ≠ [] ∨ s.tables.ends ≠ [])
  | 2 => decide (s.tm.inbox ≠ [] ∨ s.tm.handed ≠ []) || s.tm.frames.any (fun q => decide (q.2 ≠ []))
  | 3 => s.sealer.cur.isSome || s.keys.change.isSome || s.keys.zeroise
  | 4 => decide (s.regsvc.inbox ≠ [] ∨ s.regsvc.recs ≠ [] ∨ s.regsvc.outq ≠ [])
  | 5 => decide (s.wmac.waiting ≠ [] ∨ s.wmac.mpdus ≠ [] ∨ s.wmac.bars ≠ [] ∨ s.wmac.compl ≠ [] ∨ s.rounds.rsps ≠ [] ∨
      s.rounds.sps ≠ [])
  | 6 => decide (s.ngl.frames ≠ [] ∨ s.ngl.inbox ≠ [] ∨ s.ngl.recs ≠ []) || s.ngl.wait.isSome
  | 10 => (sget (fun _ => {}) s.air.radios 3 : RadioSt).busy || s.ngr.rx.isSome || decide (s.ngr.done ≠ []) ||
      decide (s.ngr.rng.step ≠ .idle)
  | 11 => decide (s.ldpc.waiting ≠ []) || s.ldpc.engines.any (fun e => e.2.isSome)
  | n => decide (7 ≤ n ∧ n ≤ 9) && (sget (fun _ => {}) s.air.radios (n - 7) : RadioSt).busy

/-- A branch with work is not idle on this tick. -/
def State.noteWork (s : State) : State :=
  (List.range 12).foldl (fun t br => if t.gateMode br = 1 ∧ t.branchWork br then t.noteBusy br else t) s

/-- PPS_OUT falls 100 ms after its rise (R50). -/
def State.ppsFall (s : State) : State :=
  if s.time.pps.all (fun t => decide (t.toNat + 100 * Config.ticksPerMs ≤ s.now)) then
    { s with pins := { s.pins with ppsOut := false } }
  else s

/-- One tick of the clocks (R57): of TIME while its PLL is locked, else of the always-on domain; of none in Off. -/
def State.clockTick (s : State) : State :=
  if s.power.mode = .off then s
  else if s.dark ∨ ¬ s.fed 15 then { s with power := { s.power with ao := s.power.ao + 1 } }
  else ({ s.stepTick with rwl := [] }).noteWork.ppsFall

end Sys2Proof.Machine
end

