-- ==== Sys2Proof/Machine/Clocks.lean ====
section
/-! DEFINITION. The meanings of the clock commands: branches, PLLs, clock inputs (spec/02_clocks_power.md R57 to R63,
R95 to R97). -/

namespace Sys2Proof.Machine

/-- The sixteen branches. -/
def allBranches : List Nat := List.range 16

/-- BRANCH_WAKE (R59): work or a register access reaches a stopped AUTO branch. Until its PLL locks, the work is held
(R95). -/
def execBranchWake (b : Fin 16) (s : State) : Host.Outcome State Fault Refusal :=
  if s.gateMode b.val = 1 ∧ s.fed b.val ∧ ¬ s.dark then .next ((s.noteBusy b.val).setActive b.val true) else .next s

/-- The idle time of an AUTO branch in the current state, in ticks: the unit of IDLE is 10 ns (R60, R97). -/
def State.idleTicks (s : State) : Nat :=
  5 * (if s.fld F.PMU_STATE_CUR = 1 then s.fld F.CKGEN_IDLE_IDLE_TRIM else s.fld F.CKGEN_IDLE_IDLE_RUN)

/-- BRANCH_IDLE_STOP (R60, R97): an AUTO branch without work, which has been without it for the idle time, stops. Work wins
over the stop. -/
def execBranchIdleStop (b : Fin 16) (s : State) : Host.Outcome State Fault Refusal :=
  if s.gateMode b.val = 1 ∧ ¬ s.branchWork b.val ∧ ¬ s.dark ∧
      sget (fun _ => 0) s.power.busyAt b.val + s.idleTicks ≤ s.now then .next (s.setActive b.val false)
  else .next s

/-- A GATE write is legal for branch `br` (R61, R62, R95, R96). -/
def State.gateLegal (s : State) (v : Word) (br : Nat) : Bool :=
  let m := getBits v (2 * br) 2
  decide (m ≠ 3) &&
  (if br = 15 then decide (m = 2) else if 12 ≤ br then decide (m ≠ 1) else true) &&
  !(decide (m = 0) && (s.fld F.CKGEN_PIN_BRANCHES).testBit br) &&
  (decide (m = 0) ||
    match pllOf br with
    | some p => (s.fld F.CKGEN_PLL_CTRL_EN).testBit p
    | none => true)

/-- Hold new branch modes: an OFF branch stops, an ON branch runs once its PLL is locked (R95, R96). -/
def State.applyGate (s : State) (v : Word) : State :=
  allBranches.foldl (fun t br =>
    if t.gateMode br = 0 then t.setActive br false
    else if t.gateMode br = 2 ∧ t.fed br then t.setActive br true else t) (s.wr A.CKGEN_GATE v)

/-- GATE_WRITE (R62, R96). -/
def execGateWrite (value : Word) (s : State) : Host.Outcome State Fault Refusal :=
  if s.dark then .next s
  else if allBranches.all (s.gateLegal value) then .next (s.applyGate value)
  else .next (s.refuse A.CKGEN_GATE .cfgRange)

/-- PLL `p` may have EN = 0: it is not CPLL or TPLL, and every branch it feeds is OFF (R95). -/
def State.pllFree (s : State) (p : Nat) : Bool :=
  decide (p ≠ 0) && decide (p ≠ 3) &&
    allBranches.all (fun br => decide (pllOf br ≠ some p) || decide (s.gateMode br = 0))

/-- A PLL_CTRL write is legal (R95). -/
def State.pllLegal (s : State) (v : Word) : Bool :=
  (List.range 5).all (fun p => v.getLsbD p || !(s.fld F.CKGEN_PLL_CTRL_EN).testBit p || s.pllFree p)

/-- PLL_CTRL_WRITE (R95): PLLs started lock later; PLLs stopped lose their LOCK bit. -/
def execPllCtrlWrite (value : Word) (s : State) : Host.Outcome State Fault Refusal :=
  if s.dark then .next s
  else if s.pllLegal value then
    let s1 := s.setFld F.CKGEN_PLL_CTRL_EN (getBits value 0 5)
    .next (s1.setFld F.CKGEN_PLL_STATUS_LOCK (s1.fld F.CKGEN_PLL_STATUS_LOCK &&& getBits value 0 5))
  else .next (s.refuse A.CKGEN_PLL_CTRL .cfgRange)

/-- The PMU itself holds PLL `p` stopped: CPLL in Watch, every PLL while nothing but the always-on domain runs (R67, R73,
R95). -/
def State.pllHeld (s : State) (p : Nat) : Bool :=
  s.dark || (decide (p = 0) && decide (s.fld F.PMU_STATE_CUR = 2))

/-- PLL_LOCK (R95): the LOCK bit rises and the ON branches it feeds run. -/
def execPllLock (p : Fin 5) (s : State) : Host.Outcome State Fault Refusal :=
  if (s.fld F.CKGEN_PLL_CTRL_EN).testBit p.val ∧ ¬ s.pllHeld p.val then
    let s1 := s.setFld F.CKGEN_PLL_STATUS_LOCK (s.fld F.CKGEN_PLL_STATUS_LOCK ||| 2 ^ p.val)
    .next (allBranches.foldl (fun t br =>
      if pllOf br = some p.val ∧ t.gateMode br = 2 then t.setActive br true else t) s1)
  else .next s

/-- PLL_UNLOCK (R63): the branches it feeds stop, UNLOCK is set, `PLL_UNLOCK` is raised. -/
def execPllUnlock (p : Fin 5) (s : State) : Host.Outcome State Fault Refusal :=
  if (s.fld F.CKGEN_PLL_STATUS_LOCK).testBit p.val ∧ ¬ s.dark then
    let l := s.fld F.CKGEN_PLL_STATUS_LOCK
    let s1 := (s.setFld F.CKGEN_PLL_STATUS_LOCK (l - 2 ^ p.val)).setFld F.CKGEN_PLL_STATUS_UNLOCK
      (s.fld F.CKGEN_PLL_STATUS_UNLOCK ||| 2 ^ p.val)
    .next ((allBranches.foldl (fun t br => if pllOf br = some p.val then t.setActive br false else t) s1).present
      0x05 p.val)
  else .next s

/-- CLOCK_LOSS (R63): the REF (0) or AO (1) input is lost. -/
def execClockLoss (ao : Bool) (s : State) : Host.Outcome State Fault Refusal :=
  let f := if ao then F.CKGEN_PLL_STATUS_AO_LOSS else F.CKGEN_PLL_STATUS_REF_LOSS
  if s.dark then .next s else .next ((s.setFld f 1).present 0x06 (bit ao))

end Sys2Proof.Machine
end

