-- ==== Sys2Proof/Machine/Image.lean ====
section
/-! DEFINITION. The Kuley image in flash: header, directory, signature block, the checks of a slot
(spec/03_startup_image.md R105, R108 to R112, R121; notes/assumptions/15.md). -/

namespace Sys2Proof.Machine

/-- First flash byte of slot `k`: 0 A, 1 B. -/
def slotBase (k : Nat) : Nat := k * 0x1000000

/-- `n` bytes of slot `k` from offset `off`. -/
def State.img (s : State) (k off n : Nat) : List Byte := (List.range n).map (fun i => s.flashByte (slotBase k + off + i))

/-- A little-endian field of slot `k`. -/
def State.imgNat (s : State) (k off n : Nat) : Nat := leNat (s.img k off n)

/-- BOOT_STATUS.CODE values (R135). -/
def codeBadMagic : Nat := 0x02
/-- BAD_HEADER. -/
def codeBadHeader : Nat := 0x03
/-- BAD_SIG. -/
def codeBadSig : Nat := 0x04
/-- ROLLBACK. -/
def codeRollback : Nat := 0x05
/-- BAD_RECORD. -/
def codeBadRecord : Nat := 0x06
/-- ZERO_LENGTH. -/
def codeZeroLength : Nat := 0x07
/-- UNKNOWN_CRITICAL. -/
def codeUnknownCritical : Nat := 0x08
/-- BAD_DEST. -/
def codeBadDest : Nat := 0x09
/-- REG_REFUSED. -/
def codeRegRefused : Nat := 0x0A
/-- DRAM_TRAIN. -/
def codeDramTrain : Nat := 0x0B
/-- KEY_MISMATCH. -/
def codeKeyMismatch : Nat := 0x0C
/-- LIFECYCLE. -/
def codeLifecycle : Nat := 0x0D

/-- REC_COUNT of slot `k`. -/
def State.imgRecCount (s : State) (k : Nat) : Nat := s.imgNat k 18 2

/-- SVN of slot `k`. -/
def State.imgSvn (s : State) (k : Nat) : Nat := s.imgNat k 16 1

/-- The first failure among the header's fields, if any (R109). A slot that an abandoned erase touched fails (R130). -/
def State.headerFault (s : State) (k : Nat) : Option Nat :=
  if s.imgNat k 0 4 ≠ 0x594C554B ∨ s.boot.spoiled.contains k then some codeBadMagic
  else if s.imgRecCount k = 0 then some codeZeroLength
  else if s.imgNat k 4 2 = 1 ∧ s.imgNat k 6 2 = 256 ∧ s.imgRecCount k ≤ 256 ∧
      5632 + 64 * s.imgRecCount k ≤ s.imgNat k 8 4 ∧ s.imgNat k 8 4 ≤ 0x1000000 ∧
      s.imgSvn k ≤ 64 ∧ s.imgNat k 17 1 < 2 ∧
      s.imgNat k 20 4 = 256 ∧ s.imgNat k 24 4 = 256 + 64 * s.imgRecCount k ∧
      s.imgNat k 32 2 = 0x9640 ∧ (s.img k 34 222).all (fun b => decide (b = 0)) then none
  else some codeBadHeader

/-- The image digest of slot `k` (R112): SHA-384 of the header and directory. -/
def State.imgDigest (s : State) (k : Nat) : BitVec 384 := Config.sha384 (s.img k 0 (256 + 64 * s.imgRecCount k))

/-- The key hash that applies in the life-cycle state (R593); none in SCRAPPED. -/
def State.keyHash (s : State) : Option (BitVec 384) :=
  if s.fuses.lcBits = 0 then some Config.romKeyHash
  else if s.fuses.lcBits ≤ 2 then some s.fuses.ownerHash
  else if s.fuses.lcBits = 3 then some Config.returnKeyHash
  else none

/-- The first failure among the key hash and the two signatures of slot `k` (R112). -/
def State.signatureFault (s : State) (k : Nat) : Option Nat :=
  let sig := 256 + 64 * s.imgRecCount k
  let msg := leBytes 48 (s.imgDigest k).toNat
  match s.keyHash with
  | none => some codeLifecycle
  | some h =>
    if Config.sha384 (s.img k sig 1984) ≠ h then some codeKeyMismatch
    else if Config.ed25519Verify (s.img k sig 32) msg (s.img k (sig + 1984) 64) ∧
        Config.mldsaVerify (s.img k (sig + 32) 1952) msg (s.img k (sig + 2048) 3309) then none
    else some codeBadSig

/-- A directory entry (R110). -/
structure DirEntry where
  type : Nat
  critical : Bool
  resume : Bool
  offset : Nat
  length : Nat
  dest : Nat
  digest : Nat
  deriving DecidableEq, Repr

/-- Directory entry `n` of slot `k`; `dest` is the destination address. -/
def State.dirEntry (s : State) (k n : Nat) : DirEntry :=
  let o := 256 + 64 * n
  { type := s.imgNat k o 1
    critical := (s.imgNat k (o + 1) 1).testBit 0
    resume := (s.imgNat k (o + 1) 1).testBit 1
    offset := s.imgNat k (o + 4) 4
    length := s.imgNat k (o + 8) 4
    dest := 16 * s.imgNat k (o + 12) 4
    digest := s.imgNat k (o + 16) 48 }

/-- The body of a record of slot `k`. -/
def State.recBody (s : State) (k : Nat) (d : DirEntry) : List Byte := s.img k d.offset d.length

/-- A record's digest matches its body (R104). -/
def State.digestGood (s : State) (k : Nat) (d : DirEntry) : Bool :=
  decide ((Config.sha384 (s.recBody k d)).toNat = d.digest)

/-- There is one ENTRY record, and it is the last (R115). -/
def State.entryGood (s : State) (k : Nat) : Bool :=
  (List.range (s.imgRecCount k)).all (fun n =>
    decide (((s.dirEntry k n).type = 0x0A) ↔ n + 1 = s.imgRecCount k))

/-- A slot may be chosen (R105). -/
def State.usable (s : State) (k : Nat) : Bool :=
  !(s.fld F.SYSCTL_BOOT_STATUS_SLOT_FAIL).testBit k && decide (s.headerFault k = none)

/-- The slot of R105, if any is usable: the higher SVN, then the higher IMG_SEQ, then A. -/
def State.chooseSlot (s : State) : Option Nat :=
  if s.usable 0 ∧ s.usable 1 then
    if s.imgSvn 0 < s.imgSvn 1 then some 1
    else if s.imgSvn 1 < s.imgSvn 0 then some 0
    else if s.imgNat 0 12 4 < s.imgNat 1 12 4 then some 1 else some 0
  else if s.usable 0 then some 0
  else if s.usable 1 then some 1
  else none

/-- The first failure of every check that IMAGE_COMMIT applies (R109 to R112, R121, R129). -/
def State.commitFault (s : State) (k : Nat) : Option Nat :=
  match s.headerFault k with
  | some c => some c
  | none =>
    match s.signatureFault k with
    | some c => some c
    | none =>
      if s.imgSvn k < s.fuses.rb0 then some codeRollback
      else if (List.range (s.imgRecCount k)).all (fun n => s.digestGood k (s.dirEntry k n)) then none
      else some codeBadRecord

end Sys2Proof.Machine
end

