-- ==== Sys2Proof/Machine/Boot.lean ====
section
/-! DEFINITION. The meanings of the boot commands: the ROM's checks, the records but REG_WRITES and SEALED, the boot
watchdog, anti-rollback, and the SYSCTL writes (spec/03_startup_image.md R98 to R123, R131 to R139, spec/15 R545,
R559, R564). -/

namespace Sys2Proof.Machine

/-! ### Progress through the records -/

/-- The slot that boots. -/
def State.slot (s : State) : Nat := s.fld F.SYSCTL_BOOT_STATUS_SLOT

/-- A slot fails (R104): code, record index and SLOT_FAIL are recorded and the warm reset BOOT_FAIL follows. The ROM has
started by then, so the reset's cause stands alone (R99). -/
def State.bootFail (s : State) (code : Nat) : State :=
  let s0 := { s with boot := { s.boot with phase := .records } }
  (((s0.setFld F.SYSCTL_BOOT_STATUS_CODE code).setFld F.SYSCTL_BOOT_STATUS_REC_INDEX s.boot.recIdx).setFld
    F.SYSCTL_BOOT_STATUS_SLOT_FAIL (s.fld F.SYSCTL_BOOT_STATUS_SLOT_FAIL ||| 2 ^ s.slot)).warmReset causeBootFail

/-- Pass over records of unknown type (R115): skipped after their digest has been checked, unless CRITICAL. -/
def State.settleRecords : Nat → State → State
  | 0, s => s
  | n + 1, s =>
    let d := s.dirEntry s.slot s.boot.recIdx
    if s.boot.phase ≠ .records ∨ (1 ≤ d.type ∧ d.type ≤ 0x0A) then s
    else if ¬ s.digestGood s.slot d then s.bootFail codeBadRecord
    else if d.critical then s.bootFail codeUnknownCritical
    else State.settleRecords n { s with boot := { s.boot with recIdx := s.boot.recIdx + 1 } }

/-- Go on to the next record. -/
def State.nextRecord (s : State) : State :=
  State.settleRecords 256 { s with boot := { s.boot with recIdx := s.boot.recIdx + 1 } }

/-- Apply the next record if it has type `t` (R104, R114): its digest is checked, a LENGTH of 0 is refused, and `f`
applies the body or answers the code with which the slot fails. -/
def State.record (s : State) (t : Nat) (f : DirEntry → List Byte → Except Nat State) : State :=
  let d := s.dirEntry s.slot s.boot.recIdx
  if s.boot.phase = .records ∧ d.type = t then
    if ¬ s.digestGood s.slot d then s.bootFail codeBadRecord
    else if t ≠ 0x09 ∧ d.length = 0 then s.bootFail codeZeroLength
    else match f d (s.recBody s.slot d) with
      | .error c => s.bootFail c
      | .ok s1 => s1.nextRecord
  else s

/-- The PCIe link starts to train, with HOSTP's values, where the straps name a host mode (R44, R106, R116): the ROM turns the
HOSTP branch on (R96). -/
def State.trainLink (s : State) : State :=
  if s.fld F.HOSTP_CFG_MODE = 0 then s
  else
    let s1 := (s.wr A.CKGEN_GATE (setBits (s.rd A.CKGEN_GATE) 26 2 2)).setActive 13 true
    { s1 with boot := { s1.boot with hostpTrained := true } }

/-- The ROM halts (R106): STAGE 0xFF, the PCIe link comes up with its reset configuration if a host is strapped. -/
def State.romHalt (s : State) : State :=
  let s1 := s.setFld F.SYSCTL_BOOT_STATUS_STAGE 0xFF
  ({ s1 with boot := { s1.boot with phase := .halted } }).trainLink

/-- Record an accepted image and start on its records (R103, R113, R120). -/
def State.startRecords (s : State) (k : Nat) (resume : Bool) : State :=
  let s1 := (s.setFld F.SYSCTL_BOOT_STATUS_STAGE 3).setFld F.SYSCTL_BOOT_STATUS_RESUMED (bit resume)
  let s2 := ((s1.setFld F.SYSCTL_SVN_IMAGE_SVN (s.imgSvn k)).wr A.SYSCTL_IMG_SEQ
    (BitVec.ofNat 32 (s.imgNat k 12 4))).wrWords (A.SYSCTL_IMAGE_DIGEST 0) 12 (s.imgDigest k).toNat
  let b := { s2.boot with
    phase := .records
    recIdx := 0
    resume := resume
    unbound := false
    recCount := s.imgRecCount k
    advance := (s.imgNat k 17 1).testBit 0
    wdogMs := if s.imgNat k 28 4 = 0 then none else some (s.imgNat k 28 4) }
  State.settleRecords 256 { s2 with boot := b }

/-- The code to report when neither slot is usable: the first header failure, else the code already held. -/
def State.haltCode (s : State) : Nat :=
  match s.headerFault 0, s.headerFault 1 with
  | some c, _ => c
  | none, some c => c
  | none, none => s.fld F.SYSCTL_BOOT_STATUS_CODE

/-- The IMAGE_DIGEST registers as one number. -/
def State.heldDigest (s : State) : Nat :=
  (List.range 12).foldl (fun acc n => acc + (s.rd (A.SYSCTL_IMAGE_DIGEST n)).toNat * 2 ^ (32 * n)) 0

/-- The resume path may be taken (R120). -/
def State.canResume (s : State) : Bool :=
  decide (s.fld F.SYSCTL_RESET_CAUSE_CAUSE = causeSleepWake) && decide (s.headerFault s.slot = none) &&
    decide (s.signatureFault s.slot = none) && decide ((s.imgDigest s.slot).toNat = s.heldDigest)

/-- RST_OUT_N is released, and the ROM takes the flash out of reset (R29, R38, R39, R103). -/
def State.release (s : State) : State :=
  { s with
    pins := { s.pins with rstOutN := true, nvmResetN := true }
    boot := { s.boot with released := s.time.tick } }

/-- Slot choice and every check before the first record (R103 to R106, R112, R120, R121). -/
def State.bootRom (s : State) : Host.Outcome State Fault Refusal :=
  if s.fuses.lcBits = 4 then .next ((s.setFld F.SYSCTL_BOOT_STATUS_CODE codeLifecycle).romHalt)
  else if s.canResume then .next (s.startRecords s.slot true)
  else match s.chooseSlot with
    | none => .next ((s.setFld F.SYSCTL_BOOT_STATUS_CODE s.haltCode).romHalt)
    | some k =>
      let s1 := s.setFld F.SYSCTL_BOOT_STATUS_SLOT k
      match s.signatureFault k with
      | some c => .next (s1.bootFail c)
      | none =>
        if s.imgSvn k < s.fuses.rb0 then .next (s1.bootFail codeRollback)
        else if ¬ s.entryGood k then .next (s1.bootFail codeBadRecord)
        else .next (s1.startRecords k false)

/-- BOOT (R38, R39, R103): after each reset the ROM starts once RST_OUT_N is released. -/
def execBoot (s : State) : Host.Outcome State Fault Refusal :=
  if s.boot.phase ≠ .waiting ∨ s.power.mode ≠ .on then .next s else s.release.bootRom

/-! ### Records -/

/-- Byte `i` of a body. -/
def byteAt (b : List Byte) (i : Nat) : Nat := (b.getD i 0).toNat

/-- A field that is RWL keeps its value after the lock (R680). -/
def State.setRwl (s : State) (f : Fld) (v : Nat) : State :=
  if s.flag F.SYSCTL_CFG_LOCK_LOCK then s else s.setFld f v

/-- PMIC (R114): PMU.AVS_CFG and AVS_CTRL.EN. -/
def execPmic (s : State) : Host.Outcome State Fault Refusal :=
  .next (s.record 0x01 (fun d b =>
    if d.length ≠ 4 ∨ 127 < byteAt b 0 then .error codeBadRecord
    else .ok ((((s.setRwl F.PMU_AVS_CFG_PMIC_ADDR (byteAt b 0)).setRwl F.PMU_AVS_CFG_REG_CORE (byteAt b 1)).setRwl
      F.PMU_AVS_CFG_REG_CPU (byteAt b 2)).setFld F.PMU_AVS_CTRL_EN (byteAt b 3))))

/-- NVM_TIMING (R114, R140): NVMC.MODE. -/
def execNvmTiming (s : State) : Host.Outcome State Fault Refusal :=
  .next (s.record 0x02 (fun d b =>
    if d.length = 4 ∧ byteAt b 2 ≤ 31 ∧ 6 ≤ byteAt b 1 ∧ byteAt b 1 ≤ 120 then
      .ok (((s.setRwl F.NVMC_MODE_DUMMY (byteAt b 2)).setRwl F.NVMC_MODE_CLK_DIV (byteAt b 1)).setRwl
        F.NVMC_MODE_PROTO (byteAt b 0 % 4))
    else .error codeBadRecord))

/-- CLOCKS (R114, R95, R96): CKGEN.PLL_CTRL, then CKGEN.GATE. -/
def execClocks (s : State) : Host.Outcome State Fault Refusal :=
  .next (s.record 0x03 (fun d b =>
    let pll : Word := BitVec.ofNat 32 (leNat (slice b 0 4))
    let gate : Word := BitVec.ofNat 32 (leNat (slice b 4 4))
    if d.length ≠ 8 ∨ ¬ s.pllLegal pll then .error codeBadRecord
    else
      let s1 := s.setFld F.CKGEN_PLL_CTRL_EN (getBits pll 0 5)
      let s2 := s1.setFld F.CKGEN_PLL_STATUS_LOCK (s1.fld F.CKGEN_PLL_STATUS_LOCK &&& getBits pll 0 5)
      if allBranches.all (s2.gateLegal gate) then .ok (s2.applyGate gate) else .error codeBadRecord))

/-- HOSTP (R116, R545): HOSTP's configuration, and the link starts to train; skipped once the link has started. -/
def execHostpRecord (s : State) : Host.Outcome State Fault Refusal :=
  .next (s.record 0x04 (fun d b =>
    let f := byteAt b 14
    if s.boot.hostpTrained then .ok (s.setFld F.SYSCTL_BOOT_STATUS_HOSTP_LATE 1)
    else if d.length = 16 ∧ s.boot.recIdx < 8 ∧ 1 ≤ byteAt b 11 ∧ byteAt b 11 ≤ 4 ∧
        1 ≤ leNat (slice b 12 2) ∧ leNat (slice b 12 2) ≤ 512 ∧ f < 4 ∧ byteAt b 15 = 0 then
      let s1 := if leNat (slice b 0 2) = 0xFFFF then s else s.setRwl F.HOSTP_IDS_VENDOR_ID (leNat (slice b 0 2))
      let s2 := ((s1.setRwl F.HOSTP_IDS_DEVICE_ID (leNat (slice b 2 2))).setRwl F.HOSTP_SUBSYS_SUBSYS_VID
        (leNat (slice b 4 2))).setRwl F.HOSTP_SUBSYS_SUBSYS_ID (leNat (slice b 6 2))
      let s3 := ((s2.setRwl F.HOSTP_CLASS_CLASS (leNat (slice b 8 3))).setRwl F.HOSTP_CFG_MAX_GEN (byteAt b 11)).setRwl
        F.HOSTP_CFG_MSIX_COUNT (leNat (slice b 12 2))
      let s4 := (s3.setRwl F.HOSTP_PM_CFG_L1_EN (f % 2)).setRwl F.HOSTP_PM_CFG_L1SS_EN (f / 2)
      .ok { s4 with boot := { s4.boot with hostpTrained := true } }
    else .error codeBadRecord))

/-- HOSTP_LATE (R116): 80 ms have passed since the later of the rise of PCIE_PERST_N, whose local count `perst` gives, and the
release of RST_OUT_N, and the link trains with the values HOSTP holds. -/
def execHostpLate (perst : DWord) (s : State) : Host.Outcome State Fault Refusal :=
  if s.boot.hostpTrained ∨ s.boot.phase = .waiting ∨ s.dark ∨
      s.now < max perst.toNat s.boot.released.toNat + 80 * Config.ticksPerMs then .next s
  else .next s.trainLink

/-- Visible capacity in MiB of a DRAMC.CFG (R559, R560). -/
def dramMib (ecc : Bool) (ranks density : Nat) : Nat :=
  let perRank := 1024 * 2 ^ density
  ranks * (if ecc then perRank / 8 * 7 else perRank)

/-- The visible capacity that DRAMC.CFG gives. -/
def State.dramCap (s : State) : Nat :=
  dramMib (s.flag F.DRAMC_CFG_ECC_EN) (s.fld F.DRAMC_CFG_RANKS) (s.fld F.DRAMC_CFG_DENSITY)

/-- A repair bank has used its row, as DRAMC.PPR_USED shows (R564). -/
def State.pprUsed (s : State) (rank bank : Nat) : Bool := (s.rd A.DRAMC_PPR_USED).getLsbD (16 * rank + bank)

/-- Repair entry `k` after training with PPR_EN = 1 (R564). -/
def State.repairOne (s : State) (k : Nat) : State :=
  if s.flag (F.DRAMC_PPR_VALID k) ∧ ¬ s.flag (F.DRAMC_PPR_DONE k) then
    let r := s.fld (F.DRAMC_PPR_RANK k)
    let b := s.fld (F.DRAMC_PPR_BANK k)
    if s.pprUsed r b then s.present 0x35 k
    else ((s.setFld (F.DRAMC_PPR_DONE k) 1).wr A.DRAMC_PPR_USED
      (setBits (s.rd A.DRAMC_PPR_USED) (16 * r + b) 1 1)).count C.DRAMC_PPR_DONE
  else s

/-- The post-package repairs that are due (R564). -/
def State.repair (s : State) : State := (List.range 8).foldl State.repairOne s

/-- DRAM is trained: capacity, TRAINED, DPLL running, and with it a DRAMC branch that is ON (R95, R96). -/
def State.dramUp (s : State) : State :=
  let s1 := ((s.setFld F.DRAMC_STATUS_TRAINED 1).setFld F.DRAMC_STATUS_SELF_REFRESH 0).setFld F.DRAMC_STATUS_CAP_MIB
    s.dramCap
  let s2 := (s1.setFld F.CKGEN_PLL_CTRL_EN (s1.fld F.CKGEN_PLL_CTRL_EN ||| 16)).setFld F.CKGEN_PLL_STATUS_LOCK
    (s1.fld F.CKGEN_PLL_STATUS_LOCK ||| 16)
  if s2.gateMode 12 = 2 then s2.setActive 12 true else s2

/-- DRAM (R559, R562, R564, R120): parameters, training (full, or with the values stored), repairs. `trains` says
whether a full training succeeds. -/
def execDramRecord (trains : Bool) (s : State) : Host.Outcome State Fault Refusal :=
  .next (s.record 0x05 (fun d b =>
    let f := byteAt b 4
    if d.length = 16 ∧ byteAt b 0 ≤ 1 ∧ byteAt b 1 ≤ 5 ∧ (byteAt b 0 = 1 ∨ byteAt b 1 ≤ 3) ∧
        1 ≤ byteAt b 2 ∧ byteAt b 2 ≤ 2 ∧ byteAt b 3 ≤ 3 ∧ f < 16 ∧ (b.drop 8).all (fun x => decide (x = 0)) then
      let s1 := (((((s.setRwl F.DRAMC_CFG_TYPE (byteAt b 0)).setRwl F.DRAMC_CFG_RATE (byteAt b 1)).setRwl
        F.DRAMC_CFG_RANKS (byteAt b 2)).setRwl F.DRAMC_CFG_DENSITY (byteAt b 3)).setRwl F.DRAMC_CFG_ECC_EN
        (f % 2)).setFld F.DRAMC_PD_CFG_PD_IDLE_NS (leNat (slice b 6 2))
      let s2 := { s1 with dram := { s1.dram with drive := byteAt b 5, dbi := f.testBit 3 } }
      if trains ∨ (s.dram.stored ∧ ¬ f.testBit 1) then
        let s3 := s2.dramUp.setFld F.SYSCTL_BOOT_STATUS_STAGE 4
        .ok (if f.testBit 2 then s3.repair else s3)
      else .error codeDramTrain
    else .error codeBadRecord))

/-- The memory ranges a LOAD may go to, whole: shared SRAM, retention SRAM, trained DRAM (R115). -/
def State.loadable (s : State) (a n : Nat) : Bool :=
  (inSram a && inSram (a + n - 1)) || (inRetention a && inRetention (a + n - 1)) ||
  (s.flag F.DRAMC_STATUS_TRAINED && s.inDram a && s.inDram (a + n - 1))

/-- A range overlaps the key-store backing bank (R115, R88). -/
def State.hitsKeyBank (s : State) (a n : Nat) : Bool :=
  let k := bankBase (s.fld F.PMU_RET_CFG_KEY_BANK)
  s.flag F.PMU_RET_CFG_KEY_BANK_EN && decide (a < k + 0x80000) && decide (k < a + n)

/-- On the resume path, whether a LOAD is applied (R120). -/
def State.loadOnResume (s : State) (a n : Nat) (resumeFlag : Bool) : Bool :=
  if inSram a then resumeFlag
  else if inRetention a then
    (List.range 8).any (fun k => decide (a < bankBase k + 0x80000) && decide (bankBase k < a + n) &&
      !(s.fld F.PMU_RET_STATUS_VALID).testBit k)
  else false

/-- Copy the body of a LOAD to `a` (R114, R115, R120). -/
def State.applyLoad (s : State) (a : Nat) (resumeFlag : Bool) (b : List Byte) : Except Nat State :=
  if ¬ s.loadable a b.length ∨ s.hitsKeyBank a b.length then .error codeBadDest
  else if s.boot.resume ∧ ¬ s.loadOnResume a b.length resumeFlag then .ok s
  else .ok (s.storeBytes a b)

/-- LOAD (R114, R115, R120). -/
def execLoad (s : State) : Host.Outcome State Fault Refusal :=
  .next (s.record 0x06 (fun d b => s.applyLoad d.dest d.resume b))

/-- LOCK (R114, R117). -/
def execLockRecord (s : State) : Host.Outcome State Fault Refusal :=
  .next (s.record 0x09 (fun d _ =>
    if d.length ≠ 0 then .error codeBadRecord else .ok (s.setFld F.SYSCTL_CFG_LOCK_LOCK 1)))

/-! ### Confirmation and anti-rollback (R107, R122) -/

/-- Counter 0 reads `v`. -/
def State.setSvn (s : State) (v : Nat) : State :=
  ({ s with fuses := { s.fuses with rb0 := v } }).setFld F.SYSCTL_SVN_FUSE_SVN v

/-- Blow counter 0, one bit at a time, up to the image's SVN, if the image asks for it (R122). Where VPP is or goes out of
range after some bits, the advance stops and is reported; where power is lost, it stays in progress, and the counter lies
between the values. -/
def State.advanceSvn (s : State) (run : SvnRun) : State :=
  let v := s.fld F.SYSCTL_SVN_IMAGE_SVN
  let upTo := fun (n : Nat) => min v (s.fuses.rb0 + n)
  if s.boot.advance ∧ s.fuses.rb0 < v then
    match run with
    | .whole => ((s.setSvn v).setFld F.SYSCTL_SVN_ADV_FAILED 0).setFld F.SYSCTL_SVN_ADV_PENDING 0
    | .noVpp n => ((s.setSvn (upTo n.toNat)).setFld F.SYSCTL_SVN_ADV_FAILED 1).setFld F.SYSCTL_SVN_ADV_PENDING 0
    | .cut n => (s.setSvn (upTo n.toNat)).setFld F.SYSCTL_SVN_ADV_PENDING 1
  else s

/-- A confirmed boot (R107, R135). -/
def State.confirm (s : State) (run : SvnRun) : State :=
  let s1 := (s.setFld F.SYSCTL_BOOT_STATUS_CONFIRMED 1).setFld F.SYSCTL_BOOT_STATUS_STAGE 6
  ({ s1 with boot := { s1.boot with wdogMs := none } }).advanceSvn run

/-- READY, the first message after entry (R129): the body holds BOOT_STATUS, IMG_SEQ and SVN. -/
def State.sendReady (s : State) : State :=
  let body := leBytes 4 (s.rd A.SYSCTL_BOOT_STATUS).toNat ++ leBytes 4 (s.rd A.SYSCTL_IMG_SEQ).toNat ++
    leBytes 4 (s.rd A.SYSCTL_SVN).toNat
  { s with boot := { s.boot with
      replies := s.boot.replies ++ [{ type := 0x0001, reply := false, seq := 0, body := body, status := .ok }] } }

/-- Firmware is entered on the lowest-numbered active core: thread 0 runs there with AFFINITY of every active core
(R614). -/
def State.firstThread (s : State) (prio : Nat) : State :=
  let c := (allCores.find? s.coreActive).getD 0
  let s1 := ((s.setThState 0 thRunning).setFld (F.DISPATCH_TH_W0_PRIO 0) prio).setFld (F.DISPATCH_TH_W0_LAST_CORE 0) c
  (s1.setFld (F.DISPATCH_TH_W0_AFFINITY 0) (s1.fld F.DISPATCH_CORE_MAP_ACTIVE)).modCore c
    (fun k => { k with cur := some 0, since := s.time.tick, busyFrom := s.time.tick })

/-- ENTRY (R103, R107, R114, R117, R130, R614): the lock is set, the watchdog starts, the booted slot is protected, and
firmware is entered; WDOG_MS = 0 counts as confirmed. -/
def execEntry (run : SvnRun) (s : State) : Host.Outcome State Fault Refusal :=
  let d := s.dirEntry s.slot s.boot.recIdx
  if s.boot.phase = .records ∧ d.type = 0x0A ∧ ¬ s.dark then
    let b := s.recBody s.slot d
    if ¬ s.digestGood s.slot d then .next (s.bootFail codeBadRecord)
    else if d.length = 0 then .next (s.bootFail codeZeroLength)
    else if d.length ≠ 8 ∨ 31 < leNat (slice b 4 4) then .next (s.bootFail codeBadRecord)
    else
      let s1 := ((s.setFld F.SYSCTL_CFG_LOCK_LOCK 1).setFld F.SYSCTL_BOOT_STATUS_STAGE 5).wr A.NVMC_PROTECT
        (BitVec.ofNat 32 (2 ^ s.slot))
      let s2 := { s1 with boot := { s1.boot with
        phase := .firmware
        entryTime := s.time.tick
        entryAddr := if s.boot.resume then 16 * leNat (slice b 0 4) else d.dest } }
      let s3 := s2.firstThread (leNat (slice b 4 4))
      .next (if s.boot.wdogMs = none then s3.confirm run else s3).sendReady
  else .next s

/-- BOOT_CONFIRM (R107, R122, R136): bit 0 confirms. -/
def execBootConfirm (value : Word) (run : SvnRun) (s : State) : Host.Outcome State Fault Refusal :=
  if value.getLsbD 0 ∧ s.boot.phase = .firmware ∧ ¬ s.dark then .next (s.confirm run) else .next s

/-- BOOT_TIMEOUT (R107): the watchdog has counted WDOG_MS from firmware entry. On the tick of the expiry a confirming write
still wins, so the expiry acts once that tick is over. -/
def execBootTimeout (s : State) : Host.Outcome State Fault Refusal :=
  match s.boot.wdogMs with
  | some ms =>
    if s.boot.phase = .firmware ∧ s.boot.entryTime.toNat + ms * Config.ticksPerMs < s.now ∧ ¬ s.dark then
      .next ((s.setFld F.SYSCTL_BOOT_STATUS_SLOT_FAIL
        (s.fld F.SYSCTL_BOOT_STATUS_SLOT_FAIL ||| 2 ^ s.slot)).warmReset causeBootTimeout)
    else .next s
  | none => .next s

/-! ### Resets asked for, the lock, the window, the counters -/

/-- SOFTWARE (R132): KEY must be 0xB007; WARM with it resets. -/
def execSoftware (value : Word) (s : State) : Host.Outcome State Fault Refusal :=
  if s.dark then .next s
  else if getBits value 16 16 ≠ 0xB007 then .next (s.refuse A.SYSCTL_RESET .cfgRange)
  else if value.getLsbD 0 then .next (s.warmReset causeSoftware)
  else .next s

/-- HOST (R98, R101): PERST_N fell in endpoint mode with PERST_RESETS = 1. It starts no other attempt of a ROM that has halted
(R106). -/
def execHost (s : State) : Host.Outcome State Fault Refusal :=
  if s.fld F.HOSTP_CFG_MODE = 1 ∧ s.flag F.SYSCTL_RST_CFG_PERST_RESETS ∧ ¬ s.dark ∧ s.boot.phase ≠ .halted then
    .next (s.warmReset causeHost)
  else .next s

/-- The registers of HOSTP that the image's HOSTP record set (R101, R545). -/
def hostpKept (a : Nat) : Bool :=
  decide (a = A.HOSTP_CFG ∨ a = A.HOSTP_IDS ∨ a = A.HOSTP_SUBSYS ∨ a = A.HOSTP_CLASS ∨ a = A.HOSTP_PM_CFG)

/-- PERST_HOSTP_RESET (R101): HOSTP alone is reset and comes back with the configuration of the HOSTP record. -/
def execPerstHostpReset (s : State) : Host.Outcome State Fault Refusal :=
  if s.fld F.HOSTP_CFG_MODE = 1 ∧ ¬ s.flag F.SYSCTL_RST_CFG_PERST_RESETS ∧ ¬ s.dark then
    .next { s with
      regs := s.regs.filter (fun r => decide (windowOf r.1 ≠ 0x0C) || hostpKept r.1)
      ctrs := s.ctrs.filter (fun r => decide (windowOf r.1 ≠ 0x0C))
      ctrShadow := s.ctrShadow.filter (fun r => decide (windowOf r.1 ≠ 0x0C))
      hostp := {} }
  else .next s

/-- DEBUG (R98, R600): a debugger whose reach takes in resets asks for one; a halted ROM stays halted (R106). -/
def execDebugReset (s : State) : Host.Outcome State Fault Refusal :=
  if (s.debugReach = .i ∨ s.debugReach = .f) ∧ s.boot.phase ≠ .halted then .next (s.warmReset causeDebug) else .next s

/-- The device address of an offset in BAR2, by the window base in force (R126, R128). -/
def State.bar2Addr (s : State) (off : BitVec 26) : Nat := s.fld F.SYSCTL_BAR2_WIN_WIN * 0x04000000 + off.toNat

/-- HOSTP receives a host access through BAR2 (R128). -/
def State.receiveBar2 (s : State) (x : HostReq) : State :=
  { s with bar2 := s.bar2 ++ [{ write := x.write, addr := s.bar2Addr x.offset, size := x.size.val, data := x.data }] }

/-- BAR2_WIN_WRITE (R127, R128, R138): `received` are the host accesses that HOSTP has received when the write completes and
that complete after it, at the old base. -/
def execBar2WinWrite (value : Word) (received : List HostReq) (s0 : State) : Host.Outcome State Fault Refusal :=
  let s := received.foldl State.receiveBar2 s0
  let w := getBits value 0 9
  if s0.dark then .next s0
  else if w = 0 ∨ (0x040 ≤ w ∧ w ≤ 0x13F) then .next (s.setFld F.SYSCTL_BAR2_WIN_WIN w)
  else .next (s.refuse A.SYSCTL_BAR2_WIN .cfgRange)

/-- The value of anti-rollback counter `c` of 1 to 3 (R123). -/
def Fuses.counter (f : Fuses) (c : Nat) : Nat := if c = 1 then f.rb1 else if c = 2 then f.rb2 else f.rb3

/-- Blow one bit of counter `c` of 1 to 3. -/
def Fuses.bump (f : Fuses) (c : Nat) : Fuses :=
  if c = 1 then { f with rb1 := f.rb1 + 1 } else if c = 2 then { f with rb2 := f.rb2 + 1 }
  else { f with rb3 := f.rb3 + 1 }

/-- RB_ADV (R123, R139): one bit of a counter; refused at 64; without VPP nothing is blown. -/
def execRbAdv (value : Word) (vpp : Bool) (s : State) : Host.Outcome State Fault Refusal :=
  let c := getBits value 0 2
  if s.dark then .next s
  else if c = 0 ∨ 64 ≤ s.fuses.counter c then .next (s.refuse A.SYSCTL_RB_ADV .cfgRange)
  else if ¬ vpp then .next (s.setFld F.SYSCTL_SVN_ADV_FAILED 1)
  else .next (({ s with fuses := s.fuses.bump c }).wr (A.SYSCTL_RB_CNT (c - 1))
    (BitVec.ofNat 32 (s.fuses.counter c + 1)))

end Sys2Proof.Machine
end

