-- ==== Sys2Proof/Machine/FrameEdit.lean ====
section
/-! DEFINITION. Edits of a frame's bytes: fields, incremental and whole Internet checksums (spec/12 R446, R448, spec/15
R532, R548, R549). -/

namespace Sys2Proof.Machine

/-- Replace the bytes at an offset; an edit that does not fit leaves the frame as it is. -/
def putBytes (b : List Byte) (off : Nat) (new : List Byte) : List Byte :=
  if off + new.length ≤ b.length then b.take off ++ new ++ b.drop (off + new.length) else b

/-- Big-endian 16-bit words of bytes; an odd last byte is padded with 0. -/
def be16s : List Byte → List Nat
  | [] => []
  | [a] => [a.toNat * 256]
  | a :: b :: rest => (a.toNat * 256 + b.toNat) :: be16s rest

/-- One's complement sum folded to 16 bits. -/
def fold16 (n : Nat) : Nat :=
  let a := n % 65536 + n / 65536
  a % 65536 + a / 65536

/-- The Internet checksum of bytes and a starting sum. -/
def inetSum (start : Nat) (b : List Byte) : Nat := 65535 - fold16 ((be16s b).foldl (· + ·) start)

/-- A checksum updated incrementally for words that change from `old` to `new`. -/
def csumUpdate (hc : Nat) (old new : List Byte) : Nat :=
  65535 - fold16 ((65535 - hc % 65536) + ((be16s old).map (fun w => 65535 - w)).foldl (· + ·) 0 +
    (be16s new).foldl (· + ·) 0)

/-- Replace bytes at `off` (on a 16-bit boundary of the checksum's sum) and update the checksum at `at`. -/
def fixCsum (b : List Byte) (at' : Nat) (old new : List Byte) : List Byte :=
  putBytes b at' (beBytes 2 (csumUpdate (beNat (slice b at' 2)) old new))

/-- As `fixCsum` for a UDP checksum: 0 stays 0 over IPv4, and a result of 0 is written as 0xFFFF. -/
def fixUdp (b : List Byte) (at' : Nat) (v4 : Bool) (old new : List Byte) : List Byte :=
  let hc := beNat (slice b at' 2)
  if v4 ∧ hc = 0 then b
  else
    let c := csumUpdate hc old new
    putBytes b at' (beBytes 2 (if c = 0 then 65535 else c))

end Sys2Proof.Machine
end

