-- ==== Sys2Proof/Machine/Nvm.lean ====
section
/-! DEFINITION. The meanings of the flash commands: NVMC operations and the host's image messages
(spec/03_startup_image.md R129, R130, R140 to R143). -/

namespace Sys2Proof.Machine

/-! ### NVMC operations (R141, R142) -/

/-- NVM_PROTECTED. -/
def nvmProtected : Nat := 2
/-- NVM_TIMEOUT. -/
def nvmTimedOut : Nat := 3
/-- NVM_ALIGN. -/
def nvmAlign : Nat := 4
/-- BAD_DEST. -/
def nvmBadDest : Nat := 5

/-- The flash bytes [a, a + n), modulo the flash's 256 MiB, touch slot k. -/
def touchesSlot (k a n : Nat) : Bool :=
  (decide (a < slotBase k + 0x1000000) && decide (slotBase k < a + n)) || decide (0x10000000 + slotBase k < a + n)

/-- The flash bytes [a, a + n) touch a protected slot (R130, R143). -/
def State.nvmLocked (s : State) (a n : Nat) : Bool :=
  (List.range 2).any (fun k => (s.rd A.NVMC_PROTECT).getLsbD k && touchesSlot k a n)

/-- Every byte of a memory range is mapped (R125, R142). -/
def State.rangeMapped (s : State) (a n : Nat) : Bool := (List.range n).all (fun i => s.mapped (a + i))

/-- The result an operation ends with (R141, R142): a count of 0 is a no-op; then alignment, memory range and
protection are judged, in this order. -/
def State.nvmResult (s : State) (code addr mem n : Nat) : Nat :=
  if n = 0 then nvmDone
  else if (code = 2 ∧ 256 < addr % 256 + n) ∨ (code = 3 ∧ addr % 4096 ≠ 0) ∨ (code = 4 ∧ addr % 65536 ≠ 0) then nvmAlign
  else if code ≤ 2 ∧ ¬ s.rangeMapped mem n then nvmBadDest
  else if code ≠ 1 ∧ s.nvmLocked addr (nvmSpan code n) then nvmProtected
  else nvmDone

/-- A write of NVMC.OP with `code` (R141): refused while BUSY; a READ count above 16 MiB and a PROGRAM count above 256 are out
of range (R14). The flash is selected while the operation runs (R29; notes/assumptions/99.md). -/
def State.nvmStart (s : State) (code : Nat) : State :=
  let addr := s.fld F.NVMC_ADDR_NVM_ADDR
  let mem := 16 * (s.rd A.NVMC_MEM).toNat
  let n := s.fld F.NVMC_LEN_COUNT
  if s.dark then s
  else if s.flag F.NVMC_STATUS_BUSY ∨ (code = 1 ∧ 0x1000000 < n) ∨ (code = 2 ∧ 256 < n) then s.refuse A.NVMC_OP .cfgRange
  else
    ({ s with
        nvmc := some { code := code, addr := addr, mem := mem, len := n, result := s.nvmResult code addr mem n
                       start := s.time.tick }
        pins := { s.pins with nvmCsN := false } }).setFld F.NVMC_STATUS_BUSY 1

/-- NVM_READ (R141). -/
def execNvmRead (s : State) : Host.Outcome State Fault Refusal := .next (s.nvmStart 1)
/-- NVM_PROGRAM (R141). -/
def execNvmProgram (s : State) : Host.Outcome State Fault Refusal := .next (s.nvmStart 2)
/-- NVM_ERASE_4K (R141). -/
def execNvmErase4k (s : State) : Host.Outcome State Fault Refusal := .next (s.nvmStart 3)
/-- NVM_ERASE_64K (R141). -/
def execNvmErase64k (s : State) : Host.Outcome State Fault Refusal := .next (s.nvmStart 4)

/-- What an operation that ends `DONE` does. -/
def State.nvmEffect (s : State) (o : NvmOp) : State :=
  if o.code = 1 then
    s.dmaWrite o.mem ((List.range o.len).map (fun i => s.flashByte ((o.addr + i) % 0x10000000)))
  else if o.code = 2 then s.flashStore o.addr (s.dmaBytes o.mem o.len)
  else s.flashStore o.addr (List.replicate (nvmSpan o.code o.len) 0xFF)

/-- The operation ends: RESULT, BUSY, the interrupt; a reset that waited for a page program follows (R130, R142). -/
def State.nvmEnd (s : State) (result : Nat) : State :=
  let s1 := (({ s with nvmc := none, pins := { s.pins with nvmCsN := true } }).setFld F.NVMC_STATUS_RESULT result).setFld
    F.NVMC_STATUS_BUSY 0
  if s.boot.resetAsked then s1.warmReset causeSoftware else s1.raiseUnit .nvmc 0

/-- NVM_OP_DONE (R142). -/
def execNvmOpDone (s : State) : Host.Outcome State Fault Refusal :=
  match s.nvmc with
  | some o => if s.dark then .next s else .next ((if o.result = nvmDone then s.nvmEffect o else s).nvmEnd o.result)
  | none => .next s

/-- The time in which the flash must finish an operation of `code`, in ms: a page program, a 4 KiB erase, a 64 KiB erase
(R142). -/
def nvmLimitMs (code : Nat) : Nat := if code = 2 then 5 else if code = 3 then 400 else 2000

/-- NVM_TIMEOUT (R142): the flash has not finished a program or erase in its time; its bytes are left open. An operation that
transfers nothing ends by itself. -/
def execNvmTimeout (s : State) : Host.Outcome State Fault Refusal :=
  match s.nvmc with
  | some o =>
    if o.code = 1 ∨ o.result ≠ nvmDone ∨ o.len = 0 ∨ s.dark ∨
        s.now < o.start.toNat + nvmLimitMs o.code * Config.ticksPerMs then .next s
    else
      let (bs, s1) := s.freeBytes (nvmSpan o.code o.len)
      .next ((s1.flashStore o.addr bs).nvmEnd nvmTimedOut)
  | none => .next s

/-! ### Management messages (R129, R130) -/

/-- Send a reply. -/
def State.reply (s : State) (r : Reply) : State := { s with boot := { s.boot with replies := s.boot.replies ++ [r] } }

/-- Act on a management message once firmware runs: a LENGTH that does not match the items is answered `BAD_LENGTH`
(R129). -/
def State.message (s : State) (type : Nat) (seq length : Word) (items : List Word) (f : State) : State :=
  if s.boot.phase ≠ .firmware ∨ s.dark then s
  else if items.length ≠ (length.toNat + 3) / 4 then s.reply { type := type, seq := seq.toNat, status := .badLength }
  else f

/-- IMAGE_OPEN: the slot that did not boot (R129). -/
def execImageOpen (seq length : Word) (items : List Word) (s : State) : Host.Outcome State Fault Refusal :=
  .next (s.message 0x0010 seq length items
    (({ s with boot := { s.boot with openSlot := some (1 - s.slot) } }).reply
      { type := 0x0010, seq := seq.toNat, status := .ok, slot := some (1 - s.slot) }))

/-- IMAGE_WRITE (R129, R130): NVM offset within the open slot, then data. -/
def execImageWrite (seq length : Word) (items : List Word) (s : State) : Host.Outcome State Fault Refusal :=
  let off := (items.headD 0).toNat
  let data := (ofItems items.tail).take (length.toNat - 4)
  let ans := fun (st : ReplyStatus) => ({ type := 0x0011, seq := seq.toNat, status := st } : Reply)
  .next (s.message 0x0011 seq length items
    (match s.boot.openSlot with
     | none => s.reply (ans .refused)
     | some k =>
       if length.toNat < 4 ∨ 0x1000000 < off + data.length then s.reply (ans .refused)
       else if s.nvmLocked (slotBase k + off) data.length then s.reply (ans .nvmProtected)
       else (s.flashStore (slotBase k + off) data).reply (ans .ok)))

/-- IMAGE_COMMIT (R129, R130): every check of the written slot; only if all pass is its SLOT_FAIL bit cleared. -/
def execImageCommit (seq length : Word) (items : List Word) (s : State) : Host.Outcome State Fault Refusal :=
  let ans := fun (st : ReplyStatus) => ({ type := 0x0012, seq := seq.toNat, status := st } : Reply)
  .next (s.message 0x0012 seq length items
    (match s.boot.openSlot with
     | none => s.reply (ans .refused)
     | some k =>
       let s1 := { s with boot := { s.boot with spoiled := s.boot.spoiled.filter (· ≠ k) } }
       match s1.commitFault k with
       | some c => s.reply (ans (.imageBad c))
       | none => (s1.setFld F.SYSCTL_BOOT_STATUS_SLOT_FAIL
           (s.fld F.SYSCTL_BOOT_STATUS_SLOT_FAIL &&& (3 - 2 ^ k))).reply (ans .ok)))

/-- The slots that flash bytes [a, a + n) touch. -/
def slotsTouched (a n : Nat) : List Nat :=
  (List.range 2).filter (fun k => touchesSlot k a n)

/-- RESET (R129, R130): after the reply, a warm reset with SOFTWARE; a page program is waited for, an erase abandoned. -/
def execResetMsg (seq length : Word) (items : List Word) (s : State) : Host.Outcome State Fault Refusal :=
  let s1 := s.reply { type := 0x0013, seq := seq.toNat, status := .ok }
  .next (s.message 0x0013 seq length items
    (match s.nvmc with
     | some o =>
       if o.code = 2 then { s1 with boot := { s1.boot with resetAsked := true } }
       else if o.code = 1 ∨ o.result ≠ nvmDone then s1.warmReset causeSoftware
       else
         ({ s1 with boot := { s1.boot with
             spoiled := s1.boot.spoiled ++ slotsTouched o.addr (nvmSpan o.code o.len) } }).warmReset causeSoftware
     | none => s1.warmReset causeSoftware))

end Sys2Proof.Machine
end

