-- ==== Sys2Proof/Machine/Keys.lean ====
section
/-! DEFINITION. The key store: slots, packet numbers, changes of a slot, and what the inline users of a key see
(spec/16_security.md R568 to R577, R604, R605). -/

namespace Sys2Proof.Machine

/-! ### Slots -/

/-- A device slot (R568). -/
def isDevice (n : Nat) : Bool := decide (8184 ≤ n)

/-- The slot as held. -/
def State.keySlot (s : State) (n : Nat) : KeySlot := sget (fun _ => {}) s.keys.slots n

/-- Hold a slot. -/
def State.setKeySlot (s : State) (n : Nat) (k : KeySlot) : State :=
  { s with keys := { s.keys with slots := sput (fun _ => {}) s.keys.slots n k } }

/-- GEN of a slot (R568): 8 bits, wraps. -/
def State.keyGen (s : State) (n : Nat) : Nat := ((s.keySlot n).gen + s.keys.genBase) % 256

/-- The limit of TX_PN for a width (R576). -/
def pnLimit (pnw : Nat) : Nat := if pnw = 0 then 2 ^ 32 - 1 else if pnw = 1 then 2 ^ 48 - 1 else 2 ^ 64 - 1

/-- The warning level of TX_PN for a width (R576). -/
def pnWarn (pnw : Nat) : Nat := pnLimit pnw + 1 - 2 ^ 20

/-- Slot states (R605). -/
def keyEmpty : Nat := 0
/-- VALID. -/
def keyValid : Nat := 1
/-- PENDING. -/
def keyPending : Nat := 2
/-- EXHAUSTED. -/
def keyExhausted : Nat := 3

/-- Hold a new TX_PN (R574, R576): the warning once, and EXHAUSTED at the limit. -/
def State.setTxPn (s : State) (n pn : Nat) : State :=
  let k := s.keySlot n
  let low := decide (pnWarn k.pnw ≤ pn) && !k.lowRaised
  let out := decide (pn = pnLimit k.pnw)
  let s1 := s.setKeySlot n { k with
    txPn := pn
    lowRaised := k.lowRaised || low
    state := if out then keyExhausted else k.state }
  let s2 := if low then s1.present 0x39 n else s1
  if out then s2.present 0x3A n else s2

/-! ### Changes (R571 to R573) -/

/-- Results of KEYS.STATUS (R604). -/
def State.keyResult (s : State) (r : Nat) : State := s.setFld F.KEYS_STATUS_RESULT r

/-- The pending change lands: the slot's new contents, GEN + 1, CHANGES_LANDED, STATUS `DONE`. -/
def State.landChange (s : State) (c : KeyChange) : State :=
  let old := s.keySlot c.slot
  let k : KeySlot := if c.erase then { gen := (old.gen + 1) % 256 }
    else { key := c.key, ktype := c.ktype, pnw := c.pnw, use := c.use, state := keyValid,
           gen := (old.gen + 1) % 256, txPn := c.pn }
  let s1 := (s.setKeySlot c.slot k).count C.KEYS_CHANGES_LANDED
  (({ s1 with keys := { s1.keys with change := none } }).setFld F.KEYS_STATUS_BUSY (bit s.keys.zeroise)).keyResult 1

/-- The registers of the device identity read 0 without an identity (R606). -/
def State.hideIdentity (s : State) : State :=
  ((s.wrWords (A.KEYS_DEVICE_ID 0) 12 0).wrWords (A.KEYS_ED_PUB 0) 8 0).wrWords (A.KEYS_MLDSA_PUB 0) 488 0

/-- A debug level takes effect (R597). -/
def State.grant (s : State) (level : Nat) : State :=
  let seen := max s.keys.dbgSeen level
  ((({ s with keys := { s.keys with dbgSeen := seen } }).setFld F.DBG_STATUS_LEVEL level).setFld F.KEYS_LC_DBG_SEEN
    seen).present 0x3C level

/-- ZEROISE lands (R571, R572); a D3 grant that waited for it begins (R598). -/
def State.landZeroise (s : State) : State :=
  let d3 := s.keys.d3Waits
  let s1 := (({ s with keys := { s.keys.wiped with d3Waits := false } }).count C.KEYS_CHANGES_LANDED).setFld
    F.KEYS_STATUS_BUSY 0
  if d3 then (s1.keyResult 1).grant 3 else s1.keyResult 1

/-- A slot is PENDING, or every slot is about to be erased. -/
def State.keyWaits (s : State) (n : Nat) : Bool := decide ((s.keySlot n).state = keyPending) || s.keys.zeroise

/-- The staged key: KEY_DATA0 to KEY_DATA7, of which AES-128 uses the first sixteen bytes (R568, R604). -/
def State.stagedKey (s : State) (ktype : Nat) : BitVec 256 :=
  let n := if ktype = 0 then 4 else 8
  BitVec.ofNat 256 ((List.range n).foldl (fun acc i => acc + (s.rd (A.KEYS_KEY_DATA i)).toNat * 2 ^ (32 * i)) 0)

/-- Begin a change: the slot is PENDING and KEYS is busy (R572). -/
def State.beginChange (s : State) (c : KeyChange) : State :=
  let s1 := s.setKeySlot c.slot { s.keySlot c.slot with state := keyPending }
  (({ s1 with keys := { s1.keys with change := some c } }).setFld F.KEYS_STATUS_BUSY 1).keyResult 0

/-- KEYS refuses a command: CFG_STATUS, and STATUS.RESULT unless a change is pending (R573, R604). -/
def State.keyRefuse (s : State) : State :=
  let s1 := s.refuse A.KEYS_CMD .cfgRange
  if s.flag F.KEYS_STATUS_BUSY then s1 else s1.keyResult 2

/-- Debug level D3 holds (R598). -/
def State.d3 (s : State) : Bool := decide (s.fld F.DBG_STATUS_LEVEL = 3)

/-- KEY_WRITE (R571, R572, R598, R604). -/
def execKeyWrite (slot : BitVec 13) (s : State) : Host.Outcome State Fault Refusal :=
  .next (s.ownWrite A.KEYS_CMD (.keyWrite slot) (fun s =>
    let kt := s.fld F.KEYS_SLOT_CFG_KTYPE
    let pnw := s.fld F.KEYS_SLOT_CFG_PNW
    let pn := s.rd64 A.KEYS_PN_INIT_LO A.KEYS_PN_INIT_HI
    if s.flag F.KEYS_STATUS_BUSY ∨ isDevice slot.toNat then s.keyRefuse
    else if s.fld F.KEYS_SLOT_CFG_USE = 0 then s.refuse A.KEYS_CMD .zeroLength
    else if pnWarn pnw ≤ pn then s.keyRefuse
    else if s.d3 then s.keyResult 3
    else
      (s.beginChange { slot := slot.toNat, erase := false, key := s.stagedKey kt, ktype := kt, pnw := pnw,
                       use := s.fld F.KEYS_SLOT_CFG_USE, pn := pn }).wrWords (A.KEYS_KEY_DATA 0) 8 0))

/-- KEY_ERASE (R571, R572, R604). -/
def execKeyErase (slot : BitVec 13) (s : State) : Host.Outcome State Fault Refusal :=
  .next (s.ownWrite A.KEYS_CMD (.keyErase slot) (fun s =>
    if s.flag F.KEYS_STATUS_BUSY ∨ isDevice slot.toNat then s.keyRefuse
    else s.beginChange { slot := slot.toNat, erase := true, key := 0, ktype := 0, pnw := 0, use := 0, pn := 0 }))

/-- End a SEAL_CREATE or ATTEST in progress with `ABORTED`, zeros over its DST range (R572, R585). -/
def SealSt.endDeviceOp (k : SealSt) : SealSt :=
  match k.cur with
  | some o => if o.op = 7 ∨ o.op = 8 then
      { k with cur := some { o with status := 0x0A, out := List.replicate o.dstLen 0, derive := none } } else k
  | none => k

/-- Ask for ZEROISE (R572). -/
def State.askZeroise (s : State) : State :=
  (({ s with keys := { s.keys with zeroise := true }, sealer := s.sealer.endDeviceOp }).setFld
    F.KEYS_STATUS_BUSY 1).keyResult 0

/-- ZEROISE (R571, R572). -/
def execZeroise (s : State) : Host.Outcome State Fault Refusal :=
  .next (s.ownWrite A.KEYS_CMD .zeroise (fun s => if s.flag F.KEYS_STATUS_BUSY then s.keyRefuse else s.askZeroise))

/-- What READ_STATE shows of a device slot: VALID while it holds an identity key (notes/assumptions/18.md). -/
def State.shownSlot (s : State) (n : Nat) : KeySlot :=
  if isDevice n then { state := if s.keys.idLoaded ∧ n ≤ 8185 then keyValid else keyEmpty } else s.keySlot n

/-- READ_STATE (R571, R605). -/
def execReadState (slot : BitVec 13) (s : State) : Host.Outcome State Fault Refusal :=
  let n := slot.toNat
  .next (s.ownWrite A.KEYS_CMD (.readState slot) (fun s =>
    if s.flag F.KEYS_STATUS_BUSY then s.keyRefuse
    else
      let k := s.shownSlot n
      ((s.wr A.KEYS_SLOT_STATE (BitVec.ofNat 32 (k.state * 2 ^ 30 + k.use * 2 ^ 24 + s.keyGen n * 2 ^ 16 +
        k.inflight % 256 * 2 ^ 8 + k.pnw * 2 ^ 4 + k.ktype))).wr64 A.KEYS_TX_PN_LO A.KEYS_TX_PN_HI k.txPn).keyResult 1))

/-! ### What a user of a key sees (R570, R574, R576) -/

/-- Why an operation on a slot is refused (R570, R575, R576). -/
inductive KeyErr where
  | empty | use | type | exhausted | notIncreasing
  deriving DecidableEq, Repr

/-- The conditions of R570 for a user's bit of USE and the key types that suit its algorithm. -/
def State.keyCheck (s : State) (n useBit : Nat) (suits : Nat → Bool) : Option KeyErr :=
  let k := s.keySlot n
  if k.state = keyEmpty then some .empty
  else if ¬ k.use.testBit useBit then some .use
  else if ¬ suits k.ktype then some .type
  else none

/-- Load a key for a transmit operation: the next packet number is taken (R574). Answers the number and the key. -/
def State.keyTx (s : State) (n useBit : Nat) (suits : Nat → Bool) : Except KeyErr (Nat × BitVec 256) × State :=
  match s.keyCheck n useBit suits with
  | some e => (.error e, s)
  | none =>
    let k := s.keySlot n
    if k.state = keyExhausted then (.error .exhausted, s.count C.SEAL_PN_EXHAUSTED)
    else (.ok (k.txPn + 1, k.key), s.setTxPn n (k.txPn + 1))

/-- Load a key for a receive operation. -/
def State.keyRx (s : State) (n useBit : Nat) (suits : Nat → Bool) : Except KeyErr (BitVec 256) :=
  match s.keyCheck n useBit suits with
  | some e => .error e
  | none => .ok (s.keySlot n).key

/-- The receive replay counter of a TID (R568). -/
def KeySlot.rx (k : KeySlot) (t : Nat) : Nat := k.rxPn.getD t 0

/-- Hold a receive replay counter. -/
def State.setRxPn (s : State) (n t pn : Nat) : State :=
  let k := s.keySlot n
  s.setKeySlot n { k with rxPn := (k.rxPn ++ List.replicate (8 - k.rxPn.length) 0).set t pn }

/-- Key types of AES algorithms. -/
def isAes (kt : Nat) : Bool := decide (kt ≤ 1)

/-- An operation of an inline user asks for slot `n`: while the slot is PENDING, or every slot waits to be erased, it
stalls, once in KEY_STALLS, and starts when the change has landed (R572; notes/assumptions/17.md). -/
def State.keyReady (s : State) (n : Nat) : State :=
  if s.keyWaits n ∧ (s.keySlot n).state ≠ keyEmpty then
    let s1 := s.count C.KEYS_KEY_STALLS
    let s2 := match s1.keys.change with
      | some c => if c.slot = n ∨ s1.keys.zeroise then s1.landChange c else s1
      | none => s1
    if s2.keys.zeroise then s2.landZeroise else s2
  else s

end Sys2Proof.Machine
end

