-- ==== Sys2Proof/Machine/Sort.lean ====
section
/-! DEFINITION. The meanings of the SORT commands: lanes, the parser walk, the key, the associative memory,
recirculation, bank swaps (spec/11_sorting_office.md R398 to R428). -/

namespace Sys2Proof.Machine

/-! ### Lanes (R398 to R402) -/

/-- SORT's first block number. -/
def sortBlock : Nat := 0x20

/-- Byte `i` of a frame, 0 beyond its end. -/
def frameByte (b : List Byte) (i : Nat) : Nat := (b.getD i 0).toNat

/-- Big-endian 16-bit field at offset `i` of a frame. -/
def frame16 (b : List Byte) (i : Nat) : Nat := frameByte b i * 256 + frameByte b (i + 1)

/-- PCP of the outer tag of a frame from port p; DEF_PCP for an untagged one (R400). -/
def State.outerPcp (s : State) (p : Nat) (b : List Byte) : Nat :=
  if frame16 b 12 = 0x8100 ∨ frame16 b 12 = 0x88A8 then frameByte b 14 / 32 else s.fld (F.SORT_PORT_CFG_DEF_PCP p)

/-- The packet asks for the registered lane (R400). -/
def State.asksReg (s : State) (p : Pkt) : Bool :=
  if p.src < 4 then (s.fld (F.SORT_PORT_CFG_REG_PCP p.src)).testBit (s.outerPcp p.src p.bytes) else p.wantReg

/-- Update SORT's state. -/
def State.modSort (s : State) (f : SortSt → SortSt) : State := { s with sort := f s.sort }

/-- A frame becomes ready at its source. -/
def State.arrivePkt (s : State) (p : Pkt) : State := s.modSort (fun x => { x with arrivals := x.arrivals ++ [p] })

/-- Add one where a condition holds. -/
def State.countIf (s : State) (b : Bool) (c : Nat) : State := if b then s.count c else s

/-- A source's share of the normal lane is full (R402; notes/assumptions/111.md). -/
def State.shareFull (s : State) (src : Nat) : Bool :=
  decide (max 1 Config.laneShare ≤ (s.sort.normLane.filter (fun p => decide (p.src = src))).length)

/-- The normal lane refuses a frame that a source holds (R402). -/
def State.sortRefuses (s : State) (src : Nat) : Bool := s.shareFull src && s.sort.arrivals.any (fun p => decide (p.src = src))

/-- LANE_ENTER (R400, R402): the oldest frame of a source enters its lane; a full registered lane sends it to the normal
lane. A source whose share of the normal lane is full holds the frame. -/
def execLaneEnter (source : Fin 6) (s : State) : Host.Outcome State Fault Refusal :=
  s.whenWorks sortBlock <|
  match s.sort.arrivals.find? (fun p => decide (p.src = source.val)) with
  | none => .next s
  | some p =>
    let s1 := s.modSort (fun x => { x with arrivals := x.arrivals.erase p })
    if s.asksReg p ∧ s.sort.regLane.length < 32 then
      .next (s1.modSort (fun x => { x with regLane := x.regLane ++ [{ p with regIn := true }] }))
    else if s.shareFull source.val then .next s
    else .next ((s1.modSort (fun x => { x with normLane := x.normLane ++ [p] })).countIf (s.asksReg p) C.SORT_REG_LANE_FULL)

/-- The packet of the normal lane that round robin serves next, after source `rr` (R400). -/
def nextNormal (lane : List Pkt) (rr : Nat) : Option Pkt :=
  ((List.range 6).map (fun i => (rr + 1 + i) % 6)).findSome? (fun k => lane.find? (fun p => decide (p.src = k)))

/-- The old bank's in-flight count (R416): packets that entered a first pass under bank `b` and have not left SORT. -/
def SortSt.inFlight (x : SortSt) (b : Nat) : Nat :=
  ((x.pipe ++ x.recLane).filter (fun p => p.bank = b)).length

/-- Bring SWAP_STATUS.INFLIGHT up to date while a swap is pending (R416). -/
def State.syncSwap (s : State) : State :=
  if s.fld F.SORT_SWAP_STATUS_STATE = 1 then
    s.setFld F.SORT_SWAP_STATUS_INFLIGHT (s.sort.inFlight (1 - s.fld F.SORT_BANK_ACTIVE))
  else s

/-- A packet enters the pipeline (R401, R415): a first pass takes the active bank. -/
def State.enterPipe (s : State) (p : Pkt) : State :=
  let q := if p.pass2 then p else { p with bank := s.fld F.SORT_BANK_ACTIVE }
  ((s.modSort (fun x => { x with pipe := x.pipe ++ [q] })).count
    (if p.pass2 then C.SORT_PASS2 else C.SORT_PKT_IN)).syncSwap

/-- PASS_START (R399 to R401): strict priority among the lanes, round robin in the normal lane. One packet every 4 cycles for 256 cycles
fill the pipeline with 64. -/
def execPassStart (s : State) : Host.Outcome State Fault Refusal :=
  if s.takesWork sortBlock ∧ s.sort.pipe.length < 64 then
    match s.sort.regLane, s.sort.recLane, nextNormal s.sort.normLane s.sort.rr with
    | p :: rest, _, _ => .next ((s.modSort (fun x => { x with regLane := rest })).enterPipe p)
    | [], p :: rest, _ => .next ((s.modSort (fun x => { x with recLane := rest })).enterPipe p)
    | [], [], some p =>
      .next ((s.modSort (fun x => { x with normLane := x.normLane.erase p, rr := p.src })).enterPipe p)
    | [], [], none => .next s
  else .next s

/-! ### The walk (R403 to R407) -/

/-- Word w of node n of bank b. -/
def State.nodeWord (s : State) (b n w : Nat) : Word := s.rd (A.SORT_NODE b n w)

/-- The END node. -/
def nodeEnd : Nat := 0x100

/-- A walk in progress. -/
structure Walk where
  /-- Next node. -/
  n : Nat
  /-- Offset of its header. -/
  off : Nat
  /-- The limit lim. -/
  lim : Nat
  /-- Headers walked: node, offset, length, in order. -/
  hdrs : List (Nat × Nat × Nat) := []
  /-- Key bytes written, latest first. -/
  kbytes : List (Nat × Byte) := []
  /-- PROTO_BITS. -/
  proto : Nat := 0
  trunc : Bool := false
  conflict : Bool := false
  frag : Bool := false
  badNode : Bool := false
  deriving DecidableEq, Repr

/-- A one-byte or two-byte big-endian field of a header. -/
def hdrField (b : List Byte) (off : Nat) (w16 : Bool) : Nat := if w16 then frame16 b off else frameByte b off

/-- Offsets, from the header's start, of a field's bytes. -/
def fieldBytes (off : Nat) (w16 : Bool) : List Nat := if w16 then [off, off + 1] else [off]

/-- The enabled transitions of a node, in order: VALUE and NEXT. -/
def nodeTransitions (w : Nat → Word) : List (Nat × Nat) :=
  ((List.range 7).filter (fun i => (w (5 + i)).getLsbD 15)).map (fun i =>
    (getBits (w (5 + i)) 16 16, getBits (w (5 + i)) 0 9))

/-- The extractions of a node, in order: OFF, LEN, KPOS. -/
def nodeExtractions (w : Nat → Word) : List (Nat × Nat × Nat) :=
  (List.range 4).map (fun j =>
    (getBits (w (12 + j)) 26 6, getBits (w (12 + j)) 21 5, getBits (w (12 + j)) 8 6))

/-- Bytes of its header that a node reads (R406). -/
def nodeReads (w : Nat → Word) : List Nat :=
  (if (w 0).getLsbD 27 then fieldBytes (getBits (w 1) 10 6) ((w 1).getLsbD 9) else []) ++
  (if (w 0).getLsbD 30 then fieldBytes (getBits (w 2) 18 6) true else []) ++
  (if getBits (w 0) 28 2 = 1 then fieldBytes (getBits (w 3) 10 6) ((w 3).getLsbD 9) else []) ++
  (if nodeTransitions w ≠ [] then fieldBytes (getBits (w 4) 10 6) ((w 4).getLsbD 9) else []) ++
  (nodeExtractions w).flatMap (fun e => (List.range e.2.1).map (e.1 + ·))

/-- The stop that a read byte causes first, if any: `true` for PARSE_TRUNC, `false` for LEN_CONFLICT (R406). -/
def readStop (off lim : Nat) (reads : List Nat) : Option Bool :=
  reads.findSome? (fun b => if 128 ≤ off + b then some true else if lim ≤ off + b then some false else none)

/-- Length of a node's header (R403, R406). -/
def nodeLen (w : Nat → Word) (b : List Byte) (off : Nat) : Nat :=
  if (w 0).getLsbD 27 then
    ((hdrField b (off + getBits (w 1) 10 6) ((w 1).getLsbD 9) &&& getBits (w 1) 16 16) >>> getBits (w 1) 5 4) *
      2 ^ getBits (w 1) 3 2 + getBits (w 2) 24 8
  else getBits (w 0) 0 8

/-- Judge a total-length field (R407): the flag and the new limit. -/
def judgeTotal (len lim e : Nat) : Bool × Nat :=
  if lim < e then (true, lim)
  else if e < lim then (decide (¬ (lim = len ∧ len ≤ 64)), e)
  else (false, lim)

/-- The next node by R405. -/
def nodeNext (w : Nat → Word) (b : List Byte) (off : Nat) : Nat :=
  let ts := nodeTransitions w
  if ts = [] then getBits (w 4) 0 9
  else
    let sel := hdrField b (off + getBits (w 4) 10 6) ((w 4).getLsbD 9) &&& getBits (w 4) 16 16
    match ts.find? (fun t => decide (t.1 = sel)) with
    | some t => t.2
    | none => getBits (w 4) 0 9

/-- One node runs; the answer's second part says whether the walk goes on (R406). -/
def walkNode (w : Nat → Word) (b : List Byte) (k : Walk) : Walk × Bool :=
  match readStop k.off k.lim (nodeReads w) with
  | some true => ({ k with trunc := true }, false)
  | some false => ({ k with conflict := true }, false)
  | none =>
    let len := nodeLen w b k.off
    let ex := (nodeExtractions w).flatMap (fun e =>
      (List.range e.2.1).map (fun i => (e.2.2 + i, BitVec.ofNat 8 (frameByte b (k.off + e.1 + i)))))
    let k1 := { k with
      hdrs := k.hdrs ++ [(k.n, k.off, len)]
      kbytes := ex.reverse ++ k.kbytes
      proto := k.proto ||| getBits (w 0) 16 8 }
    let k2 :=
      if (w 0).getLsbD 30 then
        let (f, l) := judgeTotal b.length k.lim (k.off + frame16 b (k.off + getBits (w 2) 18 6) + getBits (w 2) 8 8)
        { k1 with conflict := k1.conflict || f, lim := l }
      else k1
    if getBits (w 0) 28 2 = 2 ∨ (getBits (w 0) 28 2 = 1 ∧
        hdrField b (k.off + getBits (w 3) 10 6) ((w 3).getLsbD 9) &&& getBits (w 3) 16 16 ≠ 0) then
      ({ k2 with frag := true }, false)
    else if k2.lim < k.off + len then ({ k2 with conflict := true }, false)
    else if 128 < k.off + len then ({ k2 with trunc := true }, false)
    else ({ k2 with n := nodeNext w b k.off, off := k.off + len }, true)

/-- The walk, at most 16 nodes (R406). `word n w` is word w of node n; `ok n` says that the node reads as valid. -/
def walkFrom (word : Nat → Nat → Word) (ok : Nat → Bool) (b : List Byte) : Nat → Walk → Walk
  | fuel, k =>
    if k.n = nodeEnd then k
    else
      match fuel with
      | 0 => { k with trunc := true }
      | fuel + 1 =>
        if ¬ ok k.n ∨ ¬ (word k.n 0).getLsbD 31 then { k with badNode := true }
        else
          let (k1, on) := walkNode (word k.n) b k
          if on then walkFrom word ok b fuel k1 else k1

/-- The nodes that a walk read: those it recorded, and the one it stopped before. -/
def Walk.nodes (k : Walk) : List Nat := k.hdrs.map (fun h => h.1) ++ (if k.n = nodeEnd then [] else [k.n])

/-! ### The key (R408) -/

/-- The key of a pass. -/
def keyOf (k : Walk) (src bss : Nat) (pass2 regIn : Bool) : BitVec 320 :=
  let bytes := (List.range 36).foldl (fun acc i =>
    acc + ((k.kbytes.find? (fun x => decide (x.1 = i))).map (fun x => x.2.toNat)).getD 0 * 2 ^ (8 * i)) 0
  BitVec.ofNat 320 (bytes + k.proto % 256 * 2 ^ 288 + bss % 64 * 2 ^ 296 +
    ((k.hdrs.getLast?).map (fun h => h.1)).getD 0 % 256 * 2 ^ 302 + bit k.badNode * 2 ^ 310 + bit regIn * 2 ^ 311 +
    bit pass2 * 2 ^ 312 + bit k.frag * 2 ^ 313 + bit k.conflict * 2 ^ 314 + bit k.trunc * 2 ^ 315 +
    bit (k.hdrs.isEmpty) * 2 ^ 316 + src % 8 * 2 ^ 317)

/-! ### The associative memory (R409 to R412) -/

/-- Entry i. -/
def State.camAt (s : State) (i : Nat) : CamEntry := sget (fun _ => {}) s.sort.cam i

/-- Hold entry i. -/
def State.setCam (s : State) (i : Nat) (e : CamEntry) : State :=
  s.modSort (fun x => { x with cam := sput (fun _ => {}) x.cam i e })

/-- An entry matches a key of bank b (R409). -/
def CamEntry.hits (e : CamEntry) (b : Nat) (key : BitVec 320) : Bool :=
  e.banks.testBit b && decide (key &&& e.mask = e.value &&& e.mask)

/-- A 320-bit number from ten words. -/
def wide (ws : List Word) : BitVec 320 := BitVec.ofNat 320 (leNat (ofItems ws))

/-- An entry from 23 words (R425). -/
def camOfWords (ws : List Word) : CamEntry :=
  { value := wide (ws.take 10), mask := wide ((ws.drop 10).take 10)
    act := BitVec.ofNat 64 ((ws.getD 20 0).toNat + (ws.getD 21 0).toNat * 2 ^ 32)
    banks := (ws.getD 22 0).toNat % 4 }

/-- The 23 words of an entry. -/
def CamEntry.toWords (e : CamEntry) : List Word :=
  toItems (leBytes 40 e.value.toNat) ++ toItems (leBytes 40 e.mask.toNat) ++
    [BitVec.ofNat 32 e.act.toNat, BitVec.ofNat 32 (e.act.toNat / 2 ^ 32), BitVec.ofNat 32 e.banks]

/-- The memory as a lookup finds it: corrupted rows as they stand (R420). -/
def State.camRows (s : State) (rows : List (BitVec 13 × List Word)) : List (Nat × CamEntry) :=
  rows.foldl (fun m r => sput (fun _ => {}) m r.1.toNat (camOfWords r.2)) s.sort.cam

/-- The first match (R409). -/
def firstMatch (m : List (Nat × CamEntry)) (b : Nat) (key : BitVec 320) : Option CamEntry :=
  (m.find? (fun e => e.2.hits b key)).map (fun e => e.2)

/-- A field of an action. -/
def actField (a : DWord) (lo len : Nat) : Nat := (a.toNat >>> lo) % 2 ^ len

/-- An action with a field replaced. -/
def setActField (a : DWord) (lo len v : Nat) : DWord :=
  (a &&& ~~~(BitVec.ofNat 64 ((2 ^ len - 1) <<< lo))) ||| BitVec.ofNat 64 ((v % 2 ^ len) <<< lo)

/-- FWD (R410): 0 TABLES, 1 DIRECT, 2 DROP, 3 RECIRC. -/
def actFwd (a : DWord) : Nat := actField a 21 2

/-- An action as it is acted on: COLOUR 3 counts as red, REG without DIRECT as 0 (R420). -/
def actRepaired (a : DWord) : DWord :=
  let a1 := if actField a 6 2 = 3 then setActField a 6 2 2 else a
  if actFwd a1 = 1 then a1 else setActField a1 25 1 0

/-- The suspect action (R412). -/
def State.suspect (s : State) (a : DWord) : DWord :=
  let a1 := setActField (setActField a 0 6 0x3F) 6 2 (s.fld F.SORT_SUSPECT_COLOUR)
  setActField (setActField a1 8 13 (s.fld F.SORT_SUSPECT_QUEUE)) 25 1 0

/-- The action of a pass, and whether an entry matched (R409, R412, R420). -/
def State.actionOf (s : State) (rows : List (BitVec 13 × List Word)) (b : Nat) (key : BitVec 320) : Bool × DWord :=
  match firstMatch (s.camRows rows) b key with
  | some e =>
    let a := actRepaired e.act
    (true, if key.getLsbD 314 ∧ ¬ e.mask.getLsbD 314 then s.suspect a else a)
  | none =>
    let a := actRepaired (BitVec.ofNat 64 (s.rd64 (A.SORT_DEFAULT_LO b) (A.SORT_DEFAULT_HI b)))
    (false, if key.getLsbD 314 then s.suspect a else a)

/-! ### The end of a pass (R399, R410, R414) -/

/-- Bytes that RECIRC with STRIP removes, or none where R414 refuses. -/
def stripBytes (hdrs : List (Nat × Nat)) (strip len : Nat) : Option Nat :=
  let n :=
    if strip = 0 then some 0
    else if strip = hdrs.length then (hdrs.getLast?).map (fun h => h.1 + h.2)
    else if strip < hdrs.length then (hdrs[strip]?).map (fun h => h.1)
    else none
  n.filter (fun k => decide (k ≤ len))

/-- RECIRC (R414). -/
def State.recirc (s : State) (p : Pkt) : State :=
  match p.pass2, stripBytes p.hdrs (actField p.act 26 4) p.bytes.length with
  | false, some n =>
    if s.sort.recLane.length < 64 then
      s.modSort (fun x => { x with recLane := x.recLane ++ [{ p with pass2 := true, bytes := p.bytes.drop n }] })
    else s.count C.SORT_RECIRC_FULL
  | _, _ => s.count C.SORT_RECIRC_REFUSED

/-- Where a packet goes after a pass (R410). -/
def State.forwardPkt (s : State) (p : Pkt) : State :=
  match actFwd p.act with
  | 0 => { s with tables := { s.tables with inbox := s.tables.inbox ++ [p] } }
  | 1 =>
    if actField p.act 25 1 = 1 then { s with regsvc := { s.regsvc with inbox := s.regsvc.inbox ++ [p] } }
    else { s with tm := { s.tm with inbox := s.tm.inbox ++ [p] } }
  | 2 => s.count C.SORT_DROP_RULE
  | _ => s.recirc p

/-- The block that an action hands its packet to takes work; otherwise SORT holds the packet (R682). -/
def State.fwdTakes (s : State) (a : DWord) : Bool :=
  match actFwd a with
  | 0 => s.takesWork 0x30
  | 1 => s.takesWork (if actField a 25 1 = 1 then 0x50 else 0x40)
  | _ => true

/-- A node of bank b reads as valid memory: it holds no double-bit error (R418). -/
def State.nodeOk (s : State) (b n : Nat) : Bool := !s.sort.badNodes.contains (b, n)

/-- Bit errors that the walk meets (R418): single ones are corrected and counted, double ones make the node bad. -/
def State.nodeUpsets (s : State) (b : Nat) (read : List Nat) (ups : List (BitVec 8 × Bool)) : State :=
  ups.foldl (fun t u =>
    if ¬ read.contains u.1.toNat then t
    else if u.2 then t.present 0x20 (b * 256 + u.1.toNat)
    else t.count C.SORT_PARSER_CORRECTED) s

/-- The rule counter of a pass (R428). -/
def State.countRule (s : State) (a : DWord) (len : Nat) : State :=
  if actField a 24 1 = 1 then
    (s.count (C.SORT_RULE_PKT (actField a 44 8))).count (C.SORT_RULE_OCT (actField a 44 8)) len
  else s

/-- PASS_END (R399, R406 to R414): the oldest packet of the pipeline has walked the graph, matched, and takes its
action. In a second pass the source is 6, and neither BSS nor REG_IN is set (notes/assumptions/50.md). `upsets` lists nodes of its bank that read with a single (false) or double (true) bit error now; `rows` lists
associative rows that are corrupted, as they stand. -/
def execPassEnd (upsets : List (BitVec 8 × Bool)) (rows : List (BitVec 13 × List Word)) (s : State) :
    Host.Outcome State Fault Refusal :=
  s.whenWorks sortBlock <|
  match s.sort.pipe with
  | [] => .next s
  | p :: rest =>
    let b := p.bank
    let bad := (upsets.filter (fun u => u.2)).map (fun u => (b, u.1.toNat))
    let s0 := s.modSort (fun x => { x with pipe := rest })
    let src := if p.pass2 then 6 else p.src
    let bss := if src = 5 then p.bss else 0
    let k0 : Walk := { n := s.fld (F.SORT_START_NODE b src), off := 0, lim := p.bytes.length }
    let k := walkFrom (s.nodeWord b) (fun n => s.nodeOk b n && !bad.contains (b, n)) p.bytes 16 k0
    let key := keyOf k src bss p.pass2 (p.regIn && !p.pass2)
    let (hit, act) := s.actionOf rows b key
    if ¬ s.fwdTakes act then .next s else
    let s1 := (s0.nodeUpsets b k.nodes upsets).modSort (fun x =>
      { x with badNodes := x.badNodes ++ bad.filter (fun n => k.nodes.contains n.2 && !x.badNodes.contains n) })
    let s2 := (((s1.countIf k.trunc C.SORT_PARSE_TRUNC).countIf k.conflict C.SORT_LEN_CONFLICT).countIf k.frag
      C.SORT_FRAG).countIf k.badNode C.SORT_BAD_NODE
    let s3 := (s2.countIf (!hit) C.SORT_NO_MATCH).countRule act p.bytes.length
    .next (s3.forwardPkt { p with hdrs := k.hdrs.map (fun h => h.2), key := key, act := act }).syncSwap

/-! ### Entry commands (R411, R413) -/

/-- Results of CAM_STATUS (R424). -/
def camDone : Nat := 1
/-- CAM_IN_USE. -/
def camInUse : Nat := 2
/-- CFG_RANGE. -/
def camRange : Nat := 3

/-- Banks that entry commands may not touch: the active bank, and the old bank of a pending swap (R413). -/
def State.busyBanks (s : State) : List Nat :=
  if s.fld F.SORT_SWAP_STATUS_STATE = 1 then [0, 1] else [s.fld F.SORT_BANK_ACTIVE]

/-- A BANKS value holds a bank that is in use. -/
def State.touchesBusy (s : State) (banks : Nat) : Bool := s.busyBanks.any (fun b => banks.testBit b)

/-- An action is legal (R410, R411); `e` is the entry's mask and value, none for a default action. -/
def actLegal (a : DWord) (e : Option (BitVec 320 × BitVec 320)) : Bool :=
  decide (actField a 6 2 ≠ 3) &&
  (decide (actField a 25 1 = 0) ||
    (decide (actFwd a = 1) &&
      match e with
      | some (mask, value) => [310, 314, 315].all (fun i => mask.getLsbD i && !value.getLsbD i)
      | none => true))

/-- Bits that no field of an action uses. -/
def actReserved : DWord := 0xE0000000C0000000

/-- Show a result in CAM_STATUS. -/
def State.camResult (s : State) (r : Nat) : State := s.setFld F.SORT_CAM_STATUS_RESULT r

/-- A CAM_CMD write runs a command, unless one runs (R413); BUSY lasts until the next tick. -/
def State.camCmd (s : State) (c : Instr) (f : State → State) : State :=
  s.ownWrite A.SORT_CAM_CMD c (fun u =>
    if u.flag F.SORT_CAM_STATUS_BUSY then u.refuse A.SORT_CAM_CMD .cfgRange
    else (f u).setFld F.SORT_CAM_STATUS_BUSY 1)

/-- The entry that staging holds. -/
def State.stagedCam (s : State) : CamEntry :=
  let e := camOfWords ((List.range 23).map (fun w => s.rd (A.SORT_STAGE w)))
  { e with act := e.act &&& ~~~actReserved }

/-- An entry command that changes entry i (R413). -/
def State.camChange (s : State) (i : Nat) (e : CamEntry) (legal : Bool) : State :=
  if s.touchesBusy (s.camAt i).banks ∨ s.touchesBusy e.banks then s.camResult camInUse
  else if ¬ legal then s.camResult camRange
  else (s.setCam i e).camResult camDone

/-- CAM_WRITE (R411, R413). -/
def execCamWrite (index : BitVec 13) (s : State) : Host.Outcome State Fault Refusal :=
  .next (s.camCmd (.camWrite index) (fun u =>
    u.camChange index.toNat u.stagedCam (actLegal u.stagedCam.act (some (u.stagedCam.mask, u.stagedCam.value)))))

/-- CAM_READ (R413). -/
def execCamRead (index : BitVec 13) (s : State) : Host.Outcome State Fault Refusal :=
  .next (s.camCmd (.camRead index) (fun u =>
    (u.wrList A.SORT_STAGE (u.camAt index.toNat).toWords).camResult camDone))

/-- CAM_CLEAR (R413). -/
def execCamClear (index : BitVec 13) (s : State) : Host.Outcome State Fault Refusal :=
  .next (s.camCmd (.camClear index) (fun u => u.camChange index.toNat {} true))

/-- SET_BANKS (R413). -/
def execSetBanks (index : BitVec 13) (s : State) : Host.Outcome State Fault Refusal :=
  .next (s.camCmd (.setBanks index) (fun u =>
    u.camChange index.toNat { u.camAt index.toNat with banks := u.stagedCam.banks } true))

/-! ### Bank swaps (R415, R416) -/

/-- SWAP (R415, R416). -/
def execSwap (s : State) : Host.Outcome State Fault Refusal :=
  .next (s.ownWrite A.SORT_SWAP .swap (fun u =>
    if u.fld F.SORT_SWAP_STATUS_STATE = 1 then u.refuse A.SORT_SWAP .cfgRange
    else ((u.setFld F.SORT_BANK_ACTIVE (1 - u.fld F.SORT_BANK_ACTIVE)).setFld F.SORT_SWAP_STATUS_STATE 1).syncSwap))

/-- SWAP_DONE (R416): the old bank's in-flight count is zero. -/
def execSwapDone (s : State) : Host.Outcome State Fault Refusal :=
  s.whenWorks sortBlock <|
  if s.fld F.SORT_SWAP_STATUS_STATE = 1 ∧ s.sort.inFlight (1 - s.fld F.SORT_BANK_ACTIVE) = 0 then
    .next ((s.setFld F.SORT_SWAP_STATUS_INFLIGHT 0).setFld F.SORT_SWAP_STATUS_STATE 2)
  else .next s

/-! ### The scrubber (R419) -/

/-- Entry i moves to the lowest free spare row (R419): spares are taken in order and never freed. -/
def State.moveRow (s : State) (i : Nat) : State :=
  let left := s.fld F.SORT_CAM_STATUS_SPARES
  (s.modSort (fun x => { x with moved := x.moved.filter (fun e => decide (e.1 ≠ i)) ++ [(i, 256 - left)] })).setFld
    F.SORT_CAM_STATUS_SPARES (left - 1)

/-- CAM_SCRUB (R419): what the comparison of an entry's row with its shadow leads to. -/
def execCamScrub (entry : BitVec 13) (upset : RowUpset) (s : State) : Host.Outcome State Fault Refusal :=
  s.whenWorks sortBlock <|
  match upset with
  | .agrees => .next s
  | .transient => .next (s.count C.SORT_CAM_CORRECTED)
  | .permanent =>
    if s.fld F.SORT_CAM_STATUS_SPARES = 0 then .next (s.present 0x22 entry.toNat)
    else .next ((s.moveRow entry.toNat).present 0x21 entry.toNat)
  | .shadow => .next ((s.setCam entry.toNat { s.camAt entry.toNat with banks := 0 }).present 0x23 entry.toNat)

end Sys2Proof.Machine
end

