-- ==== Sys2Proof/Machine/Macsec.lean ====
section
/-! DEFINITION. MACsec in the EMACs, and the Ethernet FCS (spec/15_wired_ports_dram.md R524, R533 to R535, R541, R542). -/

namespace Sys2Proof.Machine

/-- One bit of CRC-32, reflected. -/
def crc32Bit (c : Word) : Word := if c.getLsbD 0 then (c >>> 1) ^^^ 0xEDB88320 else c >>> 1

/-- The Ethernet FCS of a frame, as the four bytes sent. -/
def fcsOf (b : List Byte) : List Byte :=
  leBytes 4 (~~~(b.foldl (fun c x => (List.range 8).foldl (fun y _ => crc32Bit y) (c ^^^ x.setWidth 32))
    (0xFFFFFFFF : Word))).toNat

/-- The algorithm number of AES-GCM at SEAL's pipelines (spec/16 R581). -/
def algGcm : Nat := 2

/-- CIPHER of a SECY_CFG word (R541). -/
def secyCipher (c : Word) : Nat := getBits c 27 2

/-- Key types that a SecY's CIPHER takes (R533). -/
def secySuits (c : Word) (kt : Nat) : Bool := decide (kt = secyCipher c % 2)

/-- Extended packet numbering (R533). -/
def secyXpn (c : Word) : Bool := decide (2 ≤ secyCipher c)

/-- SECY_CFG as a frame that starts now takes it (R534, R541): a TX_AN written in this tick does not apply yet. -/
def State.secyNow (s : State) (p : Nat) : Word :=
  let e : EmacSt := sget (fun _ => {}) s.emacs p
  let c := s.rd (A.EMAC_SECY_CFG p)
  if e.secyAt = some s.time.tick then setBits c 22 2 (getBits e.secyOld 22 2) else c

/-- Frames of the bypass EtherTypes travel in the clear (R533). -/
def State.bypasses (s : State) (p : Nat) (b : List Byte) : Bool :=
  decide (frame16 b 12 = 0x888E) || (List.range 4).any (fun k =>
    (s.fld (F.EMAC_SECY_CFG_BYPASS_EN p)).testBit k && decide (s.fld (F.EMAC_BYPASS_ETYPE_ETYPE p k) = frame16 b 12))

/-- Confidentiality offset in bytes (R541). -/
def confOffset (c : Word) : Nat := [0, 30, 50].getD (getBits c 25 2) 0

/-- The nonce of a frame: SCI and PN, or with XPN the first SCI bytes and the 64-bit PN (notes/assumptions/23.md). -/
def secNonce (xpn : Bool) (sci : List Byte) (pn : Nat) : List Byte :=
  if xpn then sci.take 4 ++ beBytes 8 pn else sci ++ beBytes 4 pn

/-- A protected frame (R533), under the SECY_CFG word `c`: addresses, SecTAG, secure data, ICV. -/
def State.secProtect (s : State) (p : Nat) (c : Word) (key : BitVec 256) (pn : Nat) (b : List Byte) : List Byte :=
  let conf := c.getLsbD 24
  let sci := leBytes 4 (s.fld (F.EMAC_TX_SCI_LO_SCI p)) ++ leBytes 4 (s.fld (F.EMAC_TX_SCI_HI_SCI p))
  let data := b.drop 12
  let off := if conf then confOffset c else data.length
  let tci := 0x20 + (if conf then 0x0C else 0) + getBits c 22 2
  let tag := beBytes 2 0x88E5 ++ [BitVec.ofNat 8 tci, BitVec.ofNat 8 (if data.length < 48 then data.length else 0)] ++
    beBytes 4 (pn % 2 ^ 32) ++ sci
  let nonce := secNonce (secyXpn c) sci pn
  let aad := b.take 12 ++ tag ++ data.take off
  let plain := data.drop off
  let ct := (List.range plain.length).map (Config.cipher algGcm key nonce aad plain)
  aad ++ ct ++ (List.range 16).map (Config.tag algGcm key nonce aad ct)

/-- Protect a frame for transmission under the SECY_CFG word `c` (R534): the frame as sent, or none with the refusal where SEAL
refuses it. -/
def State.macsecTx (s : State) (p : Nat) (c : Word) (b : List Byte) : (List Byte ⊕ Bool) × State :=
  if ¬ c.getLsbD 31 ∨ s.bypasses p b then (.inl b, s)
  else
    let an := getBits c 22 2
    let slot := s.fld (F.EMAC_TX_SA_SLOT p an)
    if ¬ s.flag (F.EMAC_TX_SA_VALID p an) then (.inr false, s)
    else
      match (s.keyReady slot).keyTx slot 1 (secySuits c) with
      | (.ok (pn, key), s1) => (.inl (s1.secProtect p c key pn b), s1)
      | (.error e, s1) => (.inr (decide (e = .exhausted)), s1)

/-- The SecTAG of a received frame (R533): SCI, AN, PN, tag length; none where it is not well formed. -/
def secTag (b : List Byte) : Option (Option (List Byte) × Nat × Nat × Nat) :=
  let tci := frameByte b 14
  let sc := decide (tci / 32 % 2 = 1)
  let es := decide (tci / 64 % 2 = 1)
  let scb := decide (tci / 16 % 2 = 1)
  let n := if sc then 28 else 20
  let sl := frameByte b 15
  if 128 ≤ tci ∨ (sc ∧ (es ∨ scb)) ∨ 48 ≤ sl ∨ b.length < n + 16 ∨ (sl ≠ 0 ∧ b.length < n + sl + 16) then none
  else
    let sci := if sc then some (slice b 20 8)
      else if es then some (slice b 6 6 ++ (if scb then [0, 0] else [0, 1])) else none
    some (sci, tci % 4, beNat (slice b 16 4), n)

/-- The receive SC with an SCI (R535). -/
def State.findSc (s : State) (p : Nat) (sci : List Byte) : Option Nat :=
  (List.range 16).find? (fun c => s.flag (F.EMAC_RXSC_CTRL_VALID p c) &&
    decide (leBytes 4 (s.fld (F.EMAC_RXSC_SCI_LO_SCI p c)) ++ leBytes 4 (s.fld (F.EMAC_RXSC_SCI_HI_SCI p c)) = sci))

/-- The whole packet number of a received frame: with XPN the upper half follows the lowest acceptable PN. -/
def fullPn (xpn : Bool) (low pn : Nat) : Nat :=
  if ¬ xpn then pn
  else
    let base := low / 2 ^ 32 * 2 ^ 32
    if pn + 2 ^ 31 < low % 2 ^ 32 then base + 2 ^ 32 + pn else base + pn

/-- What MACsec reception makes of a frame (R535): the clear frame and whether it passes, with the counter of the step it
fails. -/
structure SecRx where
  bytes : List Byte
  pass : Bool
  fails : Option Nat
  deriving DecidableEq, Repr

/-- Receive a frame under MACsec (R533 to R535). -/
def State.macsecRx (s : State) (p : Nat) (b : List Byte) : SecRx × State :=
  let cfg := s.rd (A.EMAC_SECY_CFG p)
  let mode := getBits cfg 29 2
  if ¬ cfg.getLsbD 31 ∨ mode = 0 ∨ s.bypasses p b then ({ bytes := b, pass := true, fails := none }, s)
  else if frame16 b 12 ≠ 0x88E5 then ({ bytes := b, pass := decide (mode = 1), fails := some (C.EMAC_MACSEC_UNTAGGED p) }, s)
  else
    match secTag b with
    | none => ({ bytes := b, pass := false, fails := some (C.EMAC_MACSEC_BAD_TAG p) }, s)
    | some (sci, an, pn32, n) =>
      match sci.bind (s.findSc p) with
      | none => ({ bytes := b, pass := false, fails := some (C.EMAC_MACSEC_NO_SC p) }, s)
      | some c =>
        if ¬ s.flag (F.EMAC_RX_SA_VALID p c an) then
          ({ bytes := b, pass := false, fails := some (C.EMAC_MACSEC_NO_SA p) }, s)
        else
          let slot := s.fld (F.EMAC_RX_SA_SLOT p c an)
          let s1 := s.keyReady slot
          let xpn := secyXpn cfg
          let low := (s1.keySlot slot).rx 0
          let pn := fullPn xpn low pn32
          let conf := decide (frameByte b 14 / 4 % 4 = 3)
          let sl := frameByte b 15
          let len := if sl = 0 then b.length - n - 16 else sl
          let off := if conf then confOffset cfg else len
          let aad := b.take (n + off)
          let ct := slice b (n + off) (len - off)
          let icv := slice b (n + len) 16
          let nonce := secNonce xpn (sci.getD []) pn
          let clear := fun (key : BitVec 256) => b.take 12 ++ slice b n off ++
            (List.range ct.length).map (Config.cipher algGcm key nonce aad ct)
          let soft := decide (mode = 1) && !conf
          match s1.keyRx slot 1 (secySuits cfg) with
          | .error _ => ({ bytes := b, pass := false, fails := some (C.EMAC_MACSEC_ICV_FAIL p) }, s1)
          | .ok key =>
            if (List.range 16).map (Config.tag algGcm key nonce aad ct) ≠ icv then
              ({ bytes := clear key, pass := soft, fails := some (C.EMAC_MACSEC_ICV_FAIL p) }, s1.count C.SEAL_TAG_FAIL)
            else if pn < low then
              ({ bytes := clear key, pass := soft, fails := some (C.EMAC_MACSEC_REPLAY p) }, s1)
            else
              let win := s.fld (F.EMAC_REPLAY_WIN_WIN p)
              ({ bytes := clear key, pass := true, fails := none }, s1.setRxPn slot 0 (max low (pn + 1 - win)))

end Sys2Proof.Machine
end

