-- ==== Sys2Proof/Machine/RegOps.lean ====
section
/-! DEFINITION. Frame records, outcomes and outcome records of REGSVC (spec/14_registered_service.md R490 to R493, R511,
R514, R515, R518, R520, R521). -/

namespace Sys2Proof.Machine

/-- T_GUARD, 2 µs, in ticks (R492). -/
def guardTicks : Nat := 2 * Config.ticksPerUs

/-- Flow states (R520). -/
def flowFree : Nat := 0
/-- ADMITTED. -/
def flowAdmitted : Nat := 1
/-- DEGRADED. -/
def flowDegraded : Nat := 2
/-- REVOKED. -/
def flowRevoked : Nat := 3
/-- RELEASING. -/
def flowReleasing : Nat := 4

/-- Reasons of an outcome record (R514). -/
def whyNone : Nat := 0
/-- AIR. -/
def whyAir : Nat := 1
/-- DECODE. -/
def whyDecode : Nat := 2
/-- BOOKING. -/
def whyBooking : Nat := 3
/-- LATE_TX. -/
def whyLateTx : Nat := 4
/-- DROP. -/
def whyDrop : Nat := 5
/-- REVOKED. -/
def whyRevoked : Nat := 6
/-- PEER. -/
def whyPeer : Nat := 7
/-- KEY. -/
def whyKey : Nat := 8
/-- UL_MISSING. -/
def whyUlMissing : Nat := 9
/-- EGRESS. -/
def whyEgress : Nat := 10
/-- WATCHDOG. -/
def whyWatchdog : Nat := 11
/-- RESIDUE. -/
def whyResidue : Nat := 12

/-- Update REGSVC's state. -/
def State.modReg (s : State) (f : RegSt → RegSt) : State := { s with regsvc := f s.regsvc }

/-- STATE of flow f. -/
def State.flowState (s : State) (f : Nat) : Nat := s.fld (F.REGSVC_FLOW_W0_STATE f)

/-- What REGSVC holds for flow f beside its status words. -/
def State.flowX (s : State) (f : Nat) : FlowSt := sget (fun _ => {}) s.regsvc.flows f

/-- Update what REGSVC holds for flow f. -/
def State.modFlow (s : State) (f : Nat) (g : FlowSt → FlowSt) : State :=
  s.modReg (fun r => { r with flows := smod (fun _ => {}) r.flows f g })

/-- Descriptor word w of flow f (R519). -/
def State.flowWord (s : State) (f w : Nat) : Word := (s.flowX f).words.getD w 0

/-- A record's flow and outcome bit. -/
def recFlow (ws : List Word) : Nat := getBits (ws.getD 0 0) 0 9

/-- The record reports `EXPIRED`. -/
def recExpired (ws : List Word) : Bool := (ws.getD 0 0).getLsbD 23

/-- A record is dropped (R515): counted, its flow marked, an `EXPIRED` one entered in the flow's lost marks. -/
def State.recDropped (s : State) (ws : List Word) : State :=
  let f := recFlow ws
  let s1 := (s.count C.REGSVC_OUTCOME_DROPPED).setFld (F.REGSVC_FLOW_W0_OVERRUN f) 1
  if ¬ recExpired ws then s1
  else
    let n := s1.fld (F.REGSVC_FLOW_W3_LOST_COUNT f)
    let s2 := s1.setFld (F.REGSVC_FLOW_W3_LOST_COUNT f) (min 0xFFFF (n + 1))
    let why := getBits (ws.getD 0 0) 16 4
    let fnum := getBits (ws.getD 1 0) 16 16
    if why = whyUlMissing ∨ why = whyResidue then s2
    else
      let marked := (s.flowX f).lostMarked
      let s3 := if marked then s2 else s2.setFld (F.REGSVC_FLOW_W2_LOST_FIRST f) fnum
      (s3.setFld (F.REGSVC_FLOW_W2_LOST_LAST f) fnum).modFlow f (fun x => { x with lostMarked := true })

/-- Replace the newest `DELIVERED` record of a queue, given newest first (R515). -/
def replaceNewest (new : List Word) : List (List Word) → Option (List Word × List (List Word))
  | [] => none
  | r :: rest =>
    if recExpired r then (replaceNewest new rest).map (fun x => (x.1, r :: x.2)) else some (r, new :: rest)

/-- Hold the outcome queue, and show its depth (R518). -/
def State.setOutq (s : State) (q : List (List Word)) : State :=
  (s.modReg (fun r => { r with outq := q })).setFld F.REGSVC_OUTQ_DEPTH q.length

/-- A record joins the outcome queue, by the rules of R515 where it is full. -/
def State.queueRecord (s : State) (ws : List Word) : State :=
  if s.regsvc.outq.length < 1024 then s.setOutq (s.regsvc.outq ++ [ws])
  else if ¬ recExpired ws then s.recDropped ws
  else
    match replaceNewest ws s.regsvc.outq.reverse with
    | some (old, q) => (s.setOutq q.reverse).recDropped old
    | none => s.recDropped ws

/-- A record leaves for its FIFO, or waits in the outcome queue (R514, R515). -/
def State.emitRecord (s : State) (ws : List Word) : State :=
  let fifo := s.fld F.REGSVC_REPORT_CFG_FIFO
  if s.regsvc.outq = [] ∧ s.recordFits fifo 4 then (s.hwRecord fifo ws).2 else s.queueRecord ws

/-- The words of an outcome record (R514). -/
def State.outcomeWords (s : State) (flow fnum id deadline : Nat) (expired : Bool) (why : Nat) : List Word :=
  [BitVec.ofNat 32 (0x52 * 2 ^ 24 + bit expired * 2 ^ 23 + why * 2 ^ 16 + flow), BitVec.ofNat 32 (fnum * 2 ^ 16 + id),
   BitVec.ofNat 32 deadline, BitVec.ofNat 32 s.now]

/-- An outcome of a flow (R514): counted; `EXPIRED` frames, and all frames with REPORT_ALL, produce a record. -/
def State.outcome (s : State) (flow fnum id deadline : Nat) (expired : Bool) (why : Nat) : State :=
  let s1 :=
    if expired then (s.count (C.REGSVC_F_EXPIRED flow)).count C.REGSVC_EXPIRED
    else (s.count (C.REGSVC_F_DELIVERED flow)).count C.REGSVC_DELIVERED
  if expired ∨ (s.flowWord flow 0).getLsbD 27 then
    s1.emitRecord (s.outcomeWords flow fnum id deadline expired why)
  else s1

/-- The record of a booked frame. -/
def State.frameRec (s : State) (flow fnum : Nat) : Option FrameRec :=
  s.regsvc.recs.find? (fun r => decide (r.flow = flow ∧ r.fnum = fnum))

/-- Bring RECORDS_USED of flow f up to date (R520). -/
def State.syncRecs (s : State) (f : Nat) : State :=
  s.setFld (F.REGSVC_FLOW_W1_RECORDS_USED f) (s.regsvc.recs.filter (fun r => decide (r.flow = f))).length

/-- A booked frame reaches its outcome and its record is freed (R492, R514). -/
def State.endFrame (s : State) (flow fnum : Nat) (expired : Bool) (why : Nat) : State :=
  match s.frameRec flow fnum with
  | none => s
  | some r =>
    let s1 := s.modReg (fun x => { x with recs := x.recs.filter (fun y => !(decide (y.flow = flow ∧ y.fnum = fnum))) })
    (s1.outcome flow fnum r.id r.deadline expired why).syncRecs flow

/-- Update a frame record. -/
def State.modRec (s : State) (flow fnum : Nat) (g : FrameRec → FrameRec) : State :=
  s.modReg (fun x => { x with recs := x.recs.map (fun y => if y.flow = flow ∧ y.fnum = fnum then g y else y) })

/-- A wire copy of a booked frame ends without leaving its port: the frame expires once no copy can (R510). -/
def State.copyLost (s : State) (flow fnum why : Nat) : State :=
  match s.frameRec flow fnum with
  | none => s
  | some r =>
    if 1 < r.copies then s.modRec flow fnum (fun y => { y with copies := y.copies - 1 })
    else s.endFrame flow fnum true why

/-- A frame that is dropped, where it is registered (R468, R506). -/
def State.regLost (s : State) (p : Pkt) (why : Nat) : State :=
  match p.reg with
  | some (f, n) => s.copyLost f n why
  | none => s

/-- A copy of a frame leaves its port in full, or its completion is written (R491, R510): delivered if in time. -/
def State.regDone (s : State) (p : Pkt) : State :=
  match p.reg with
  | some (f, n) =>
    match s.frameRec f n with
    | some r => if s.now < r.deadline then s.endFrame f n false whyNone else s
    | none => s
  | none => s

/-- The flow loses one of its links, or all of them (R511, R512): DEGRADED where another link stays, REVOKED otherwise. -/
def State.flowLoses (s : State) (f : Nat) (gone : List Nat) (why : Nat) : State :=
  if s.flowState f ≠ flowAdmitted ∧ s.flowState f ≠ flowDegraded then s
  else
    let left := (s.flowX f).links.filter (fun l => !gone.contains l)
    if left.length = (s.flowX f).links.length then s
    else
      let s1 := (s.modFlow f (fun x => { x with links := left })).setFld (F.REGSVC_FLOW_W0_WHY f) why
      if left = [] then (s1.setFld (F.REGSVC_FLOW_W0_STATE f) flowRevoked).present 0x29 f
      else if s.flowState f = flowAdmitted then
        (s1.setFld (F.REGSVC_FLOW_W0_STATE f) flowDegraded).present 0x2A f
      else s1

/-- Revoke a flow whatever its links (R511). -/
def State.flowRevoke (s : State) (f why : Nat) : State := s.flowLoses f (s.flowX f).links why

/-- The 512 flows. -/
def allFlows : List Nat := List.range 512

end Sys2Proof.Machine
end

