-- ==== Sys2Proof/Machine/TablesOps.lean ====
section
/-! DEFINITION. Hashing, the insertion engine, sessions and table entries of TABLES (spec/12_forwarding_tables.md R429 to
R460). -/

namespace Sys2Proof.Machine

/-! ### Hashing (R432) -/

/-- One bit of CRC-32C, reflected. -/
def crc32cBit (c : Word) : Word := if c.getLsbD 0 then (c >>> 1) ^^^ 0x82F63B78 else c >>> 1

/-- One byte of CRC-32C. -/
def crc32cByte (c : Word) (b : Byte) : Word := (List.range 8).foldl (fun x _ => crc32cBit x) (c ^^^ b.setWidth 32)

/-- CRC-32C of bytes with an initial value, final inversion applied (R432). -/
def crc32c (seed : Word) (bs : List Byte) : Word := ~~~(bs.foldl crc32cByte seed)

/-- Slot number, by way × 32,768 + slot, at which way w holds a key (R432). -/
def State.home (s : State) (key : List Byte) (w : Nat) : Nat :=
  w * 32768 + (crc32c (s.rd (A.TABLES_HASH_SEED w)) key).toNat % 32768

/-- The four slots of a key. -/
def State.homes (s : State) (key : List Byte) : List Nat := (List.range 4).map (s.home key)

/-- The 8-byte L2 key (R432); the MAC holds byte n in bits [8n + 7:8n]. -/
def l2Key (bd : Nat) (mac : BitVec 48) : List Byte :=
  BitVec.ofNat 8 (bd / 256 % 16) :: BitVec.ofNat 8 bd :: leBytes 6 mac.toNat

/-! ### The insertion engine (R438) -/

/-- The search of R438: paths of occupied slots, newest slot first, extended level by level; `seen` and `reads` bound
it. Answers the path, newest slot (the free one) first. -/
def searchLevel (occupied : Nat → Bool) (alts : Nat → List Nat) :
    List (List Nat × Nat) → List Nat → Nat → List (List Nat) → Option (List Nat) ⊕ (List Nat × Nat × List (List Nat))
  | [], seen, reads, next => .inr (seen, reads, next)
  | (path, alt) :: rest, seen, reads, next =>
    if seen.contains alt then searchLevel occupied alts rest seen reads next
    else if 64 ≤ reads then .inl none
    else if ¬ occupied alt then .inl (some (alt :: path))
    else searchLevel occupied alts rest (alt :: seen) (reads + 1) (next ++ [alt :: path])

/-- Up to `depth` moves (R438). -/
def searchFrom (occupied : Nat → Bool) (alts : Nat → List Nat) :
    Nat → List (List Nat) → List Nat → Nat → Option (List Nat)
  | 0, _, _, _ => none
  | depth + 1, paths, seen, reads =>
    let steps := paths.flatMap (fun p => (alts (p.headD 0)).map (fun a => (p, a)))
    match searchLevel occupied alts steps seen reads [] with
    | .inl r => r
    | .inr (seen1, reads1, next) => searchFrom occupied alts depth next seen1 reads1

/-- Where an insertion goes: the slot to write, and the moves (from, to) in the order in which they are made (R438);
none where there is no room. -/
def insertPlan (occupied : Nat → Bool) (alts : Nat → List Nat) (homes : List Nat) : Option (Nat × List (Nat × Nat)) :=
  match homes.find? (fun h => !occupied h) with
  | some h => some (h, [])
  | none =>
    match searchFrom occupied alts 3 (homes.map (fun h => [h])) homes 4 with
    | some path => some (path.getLastD 0, (path.tail.zip path))
    | none => none

/-! ### The L2 table -/

/-- Update TABLES' state. -/
def State.modTables (s : State) (f : TablesSt → TablesSt) : State := { s with tables := f s.tables }

/-- L2 slot i. -/
def State.l2At (s : State) (i : Nat) : Option L2Slot := sget (fun _ => none) s.tables.l2 i

/-- Hold L2 slot i, and bring FILL_L2 up to date (R459). -/
def State.setL2 (s : State) (i : Nat) (e : Option L2Slot) : State :=
  s.modTables (fun t => { t with l2 := sput (fun _ => none) t.l2 i e })

/-- The slot that a lookup uses for a key (R432, R434): of two copies, the one whose VERSION is one greater. -/
def State.l2Find (s : State) (bd : Nat) (mac : BitVec 48) : Option (Nat × L2Slot) :=
  let found := (s.homes (l2Key bd mac)).filterMap (fun i =>
    match s.l2At i with
    | some e => if e.bd = bd ∧ e.mac = mac then some (i, e) else none
    | none => none)
  match found with
  | a :: b :: _ => if b.2.version = (a.2.version + 1) % 4 then some b else some a
  | a :: _ => some a
  | [] => none

/-- The slots of the entry that slot i holds. -/
def State.l2Alts (s : State) (i : Nat) : List Nat :=
  match s.l2At i with
  | some e => s.homes (l2Key e.bd e.mac)
  | none => []

/-- Move an entry to its free alternate slot (R438): VERSION + 1, HIT carried. -/
def State.relocate (s : State) (m : Nat × Nat) : State :=
  match s.l2At m.1 with
  | some e =>
    ((s.setL2 m.2 (some { e with version := (e.version + 1) % 4 })).setL2 m.1 none).count C.TABLES_RELOCATIONS
  | none => s

/-- Insert an entry that is in none of its slots (R438); none where there is no room. -/
def State.l2Insert (s : State) (e : L2Slot) : Option State :=
  match insertPlan (fun i => (s.l2At i).isSome) s.l2Alts (s.homes (l2Key e.bd e.mac)) with
  | some (h, moves) => some ((moves.foldl State.relocate s).setL2 h (some e))
  | none => none

/-- A group address: the first bit on the wire is 1. -/
def isGroup (mac : BitVec 48) : Bool := mac.getLsbD 0

/-- Legal egress encodings (R431); `group` admits a flood group. -/
def egressLegal (e : Nat) (group : Bool) : Bool :=
  let x := e % 65536
  match e / 65536 with
  | 0 => decide (x ≤ 3)
  | 1 => decide (x ≤ 255)
  | 2 => decide (1 ≤ x ∧ x ≤ 1024)
  | 3 => decide (x ≤ 63)
  | 4 => decide (x ≤ 0x1000)
  | 5 => group && decide (x ≤ 1023)
  | 6 => decide (x ≤ 6)
  | _ => false

/-! ### Indexed tables and routes (R443 to R446, R457) -/

/-- Word w of an indexed entry. -/
def idxWord (m : List (Nat × List Word)) (i w : Nat) : Word := (sget (fun _ => []) m i).getD w 0

/-- Bits [hi:lo] fields of a word as a number. -/
def Word.f (w : Word) (lo len : Nat) : Nat := getBits w lo len

/-- A MAC address from its two staging words. -/
def macOf (lo hi : Word) : BitVec 48 := BitVec.ofNat 48 (lo.toNat + hi.toNat % 65536 * 2 ^ 32)

/-- The bits of an address covered by a prefix of length `len` out of `width`. -/
def prefixOf (width len addr : Nat) : Nat := addr >>> (width - len)

/-- The longest stored prefix of VRF v that covers an address (R444). -/
def longest (rs : List Route) (width v addr : Nat) : Option Route :=
  (rs.filter (fun r => decide (r.vrf = v ∧ prefixOf width r.len r.addr = prefixOf width r.len addr))).foldl
    (fun best r => match best with
      | none => some r
      | some b => if b.len < r.len then some r else some b) none

/-! ### Sessions (R447 to R450) -/

/-- Session i. -/
def State.sessAt (s : State) (i : Nat) : Option Session := sget (fun _ => none) s.tables.sess i

/-- Hold session i. -/
def State.setSess (s : State) (i : Nat) (x : Option Session) : State :=
  s.modTables (fun t => { t with sess := sput (fun _ => none) t.sess i x })

/-- Word w of a session. -/
def Session.w (x : Session) (w : Nat) : Word := x.words.getD w 0

/-- Bytes of an address: words of four bytes, byte n in bits [8n + 7:8n]; one word for IPv4, four for IPv6. -/
def Session.addr (x : Session) (w : Nat) : List Byte :=
  ofItems ((List.range (if (x.w 0).getLsbD 31 then 4 else 1)).map (fun i => x.w (w + i)))

/-- A key: VRF, PROTO, two addresses, two ports, in the order given (R447). -/
def sessKeyBytes (vrf proto : Nat) (a b : List Byte) (pa pb : Nat) : List Byte :=
  BitVec.ofNat 8 vrf :: BitVec.ofNat 8 proto :: a ++ b ++ beBytes 2 pa ++ beBytes 2 pb

/-- The forward (false) or reply (true) key of a session (R447). -/
def Session.key (x : Session) (reply : Bool) : List Byte :=
  let vrf := Word.f (x.w 0) 24 4
  let proto := Word.f (x.w 0) 16 8
  if reply then
    sessKeyBytes vrf proto (x.addr 15) (x.addr 11) (Word.f (x.w 10) 0 16) (Word.f (x.w 10) 16 16)
  else sessKeyBytes vrf proto (x.addr 2) (x.addr 6) (Word.f (x.w 1) 16 16) (Word.f (x.w 1) 0 16)

/-- Key slot i: session × 2, plus 1 for the reply key. -/
def State.keyAt (s : State) (i : Nat) : Option Nat := sget (fun _ => none) s.tables.keySlots i

/-- Hold key slot i. -/
def State.setKey (s : State) (i : Nat) (k : Option Nat) : State :=
  s.modTables (fun t => { t with keySlots := sput (fun _ => none) t.keySlots i k })

/-- The key bytes that a key slot's content stands for. -/
def State.keyBytesOf (s : State) (k : Nat) : List Byte :=
  match s.sessAt (k / 2) with
  | some x => x.key (decide (k % 2 = 1))
  | none => []

/-- The session and direction that a key finds (R448). -/
def State.keyFind (s : State) (key : List Byte) : Option Nat :=
  ((s.homes key).filterMap s.keyAt).find? (fun k => decide (s.keyBytesOf k = key))

/-- Insert one key of a session (R438, R447). -/
def State.keyInsert (s : State) (k : Nat) (key : List Byte) : Option State :=
  let alts := fun i => match s.keyAt i with
    | some j => s.homes (s.keyBytesOf j)
    | none => []
  match insertPlan (fun i => (s.keyAt i).isSome) alts (s.homes key) with
  | some (h, moves) =>
    some ((moves.foldl (fun t m =>
      ((t.setKey m.2 (t.keyAt m.1)).setKey m.1 none).count C.TABLES_RELOCATIONS) s).setKey h (some k))
  | none => none

/-- Remove both keys of session i. -/
def State.keysRemove (s : State) (i : Nat) : State :=
  s.modTables (fun t => { t with keySlots := t.keySlots.filter (fun e =>
    match e.2 with
    | some k => decide (k / 2 ≠ i)
    | none => true) })

/-- The end record of session i (R450). -/
def endRecord (x : Session) (i reason : Nat) : List Word :=
  [BitVec.ofNat 32 (0x5E * 2 ^ 24 + reason * 2 ^ 16 + i), BitVec.ofNat 32 x.packets.toNat,
   BitVec.ofNat 32 x.octets.toNat, BitVec.ofNat 32 (x.octets.toNat / 2 ^ 32)]

/-- Remove session i: its keys at once, and its end record (R450). -/
def State.sessRemove (s : State) (i reason : Nat) : State :=
  match s.sessAt i with
  | some x =>
    let s1 := (s.keysRemove i).setSess i none
    s1.flushEnds (s1.tables.ends ++ [(i, endRecord x i reason)])
  | none => s

/-- Bring the occupancy registers up to date (R459). -/
def State.syncFill (s : State) : State :=
  ((s.setFld F.TABLES_FILL_L2_ENTRIES (s.tables.l2.length)).wr A.TABLES_FILL_ROUTE
    (BitVec.ofNat 32 (s.tables.v6.length * 2 ^ 17 + s.tables.v4.length))).setFld F.TABLES_FILL_SESS_SESSIONS
      s.tables.sess.length

end Sys2Proof.Machine
end

