-- ==== Sys2Proof/Machine/TmOps.lean ====
section
/-! DEFINITION. Queues, buffers, policers and shapers of TM (spec/13_traffic_manager.md R461 to R479). -/

namespace Sys2Proof.Machine

/-- Update TM's state. -/
def State.modTm (s : State) (f : TmSt → TmSt) : State := { s with tm := f s.tm }

/-! ### Committed entries (R482 to R486) -/

/-- Word w of committed queue q. -/
def State.qw (s : State) (q w : Nat) : Word := idxWord s.tm.queues q w

/-- Queue q is in use. -/
def State.qEn (s : State) (q : Nat) : Bool := (s.qw q 0).getLsbD 31

/-- Queue q is reserved by REGSVC. -/
def State.qReg (s : State) (q : Nat) : Bool := (s.qw q 0).getLsbD 30

/-- EGRESS of queue q. -/
def State.qEgress (s : State) (q : Nat) : Nat := getBits (s.qw q 1) 0 20

/-- MAX_FRAME of queue q. -/
def State.qMaxFrame (s : State) (q : Nat) : Nat := getBits (s.qw q 2) 0 14

/-- The frames of queue q. -/
def State.qFrames (s : State) (q : Nat) : List TmFrame := sget (fun _ => []) s.tm.frames q

/-- Bytes of a queue's frames. -/
def depthBytes (l : List TmFrame) : Nat := (l.map (fun f => f.pkt.bytes.length)).foldl (· + ·) 0

/-- Hold the frames of queue q, and bring its depth words up to date (R484). -/
def State.setQ (s : State) (q : Nat) (l : List TmFrame) : State :=
  ((s.modTm (fun t => { t with frames := sput (fun _ => []) t.frames q l })).wr (A.TM_Q_DEPTH_BYTES q)
    (BitVec.ofNat 32 (depthBytes l))).wr (A.TM_Q_DEPTH_FRAMES q) (BitVec.ofNat 32 l.length)

/-- Age of the head frame of queue q, in units of 10 ns (R484). -/
def State.headAge (s : State) (q : Nat) : Nat :=
  match s.qFrames q with
  | f :: _ => min 0xFFFFFFFF ((s.now - f.enq.toNat) / 5)
  | [] => 0

/-- Egress map index of an egress (R462). -/
def mapIndex (e : Nat) : Nat :=
  let x := e % 65536
  match e / 65536 with
  | 0 => x
  | 6 => 4
  | 4 => 5
  | 3 => 64 + x
  | 1 => 256 + x
  | _ => 1024 + x - 1

/-! ### Buffers (R466, R467) -/

/-- Bytes stored in a place. -/
def State.usedIn (s : State) (p : Place) : Nat :=
  ((s.tm.bufs.filter (fun b => decide (b.place = p))).map (fun b => b.len)).foldl (· + ·) 0

/-- Bytes of REG_RESERVE. -/
def State.reserveBytes (s : State) : Nat := s.fld F.TM_POOL_CFG_REG_RESERVE * 65536

/-- Bytes of the pool outside REG_RESERVE. -/
def State.poolBytes (s : State) : Nat := s.fld F.TM_POOL_CFG_SRAM_POOL * 65536 - s.reserveBytes

/-- Bring USED_KIB up to date (R480). -/
def State.syncPool (s : State) : State :=
  s.setFld F.TM_POOL_STATUS_USED_KIB ((s.usedIn .reserve + s.usedIn .pool + 1023) / 1024)

/-- Free buffer b when no copy of it is left in a queue or with an egress (R466). -/
def State.releaseBuf (s : State) (b : Nat) : State :=
  let held := s.tm.frames.any (fun e => e.2.any (fun f => decide (f.buf = b))) ||
    s.tm.handed.any (fun e => decide (e.2.buf = b))
  if held then s
  else (s.modTm (fun t => { t with bufs := t.bufs.filter (fun x => decide (x.id ≠ b)) })).syncPool

/-- Where buffer b lies. -/
def State.bufPlace (s : State) (b : Nat) : Option Place :=
  (s.tm.bufs.find? (fun x => decide (x.id = b))).map (fun x => x.place)

/-- Where a frame of length L of queue q is stored (R467), none for no room. -/
def State.placeFor (s : State) (q len : Nat) : Option Place :=
  if s.qReg q ∧ s.usedIn .reserve + len ≤ s.reserveBytes then some .reserve
  else if s.usedIn .pool + len ≤ s.poolBytes then some .pool
  else if (s.qw q 0).getLsbD 28 ∧ ¬ s.qReg q then some .dram
  else none

/-! ### Policers (R469 to R471) -/

/-- Word w of policer p in effect. -/
def State.polWord (s : State) (p w : Nat) : Word := idxWord s.tm.pols p w

/-- Committed and peak tokens of policer p, in 2^-16 byte. -/
def State.polTc (s : State) (p : Nat) : Nat := sget (fun _ => 0) s.tm.tc p
/-- Peak tokens. -/
def State.polTp (s : State) (p : Nat) : Nat := sget (fun _ => 0) s.tm.tp p

/-- Hold the tokens of policer p, and show whole bytes (R486). -/
def State.setPol (s : State) (p tc tp : Nat) : State :=
  ((s.modTm (fun t => { t with tc := sput (fun _ => 0) t.tc p tc, tp := sput (fun _ => 0) t.tp p tp })).wr
    (A.TM_POL_TC p) (BitVec.ofNat 32 (tc / 65536))).wr (A.TM_POL_TP p) (BitVec.ofNat 32 (tp / 65536))

/-- Colours (R410). -/
def green : Nat := 0
/-- Yellow. -/
def yellow : Nat := 1
/-- Red. -/
def red : Nat := 2

/-- Police a packet of length L with policer p (R469): the new colour, whether it is dropped, and the state. -/
def State.police (s : State) (p colour len : Nat) : Nat × Bool × State :=
  let w0 := s.polWord p 0
  if ¬ w0.getLsbD 31 then (colour, false, s)
  else
    let pre := if w0.getLsbD 30 then colour else green
    let l := len * 65536
    let tc := s.polTc p
    let tp := s.polTp p
    if pre = red ∨ tp < l then
      let drop := w0.getLsbD 29
      (red, drop, (s.count (C.TM_P_RED p)).countIf drop (C.TM_P_RED_DROPPED p))
    else if pre = yellow ∨ tc < l then (yellow, false, (s.setPol p tc (tp - l)).count (C.TM_P_YELLOW p))
    else (green, false, (s.setPol p (tc - l) (tp - l)).count (C.TM_P_GREEN p))

/-! ### Shapers (R471, R472) -/

/-- Word w of shaper i in effect. -/
def State.shWord (s : State) (i w : Nat) : Word := idxWord s.tm.shapers i w

/-- Tokens of shaper i, in 2^-16 byte. -/
def State.shTokens (s : State) (i : Nat) : Int := sget (fun _ => 0) s.tm.shTok i

/-- Hold the tokens of shaper i, and show whole bytes, two's complement (R485). -/
def State.setShTokens (s : State) (i : Nat) (v : Int) : State :=
  (s.modTm (fun t => { t with shTok := sput (fun _ => 0) t.shTok i v })).wr (A.TM_SH_TOKENS i)
    (BitVec.ofInt 32 (v / 65536))

/-- OVERHEAD of a shaper's third word. -/
def overheadOf (w : Word) : Int := sgn 8 (getBits w 0 8)

/-- What a frame of length L takes from shaper i, in 2^-16 byte (R472). -/
def State.shCost (s : State) (i len : Nat) : Int := ((len : Int) + overheadOf (s.shWord i 2)) * 65536

/-- A frame passes shaper i (R472). -/
def State.shPasses (s : State) (i len : Nat) : Bool :=
  !(s.shWord i 0).getLsbD 31 || decide (s.shCost i len ≤ s.shTokens i)

/-- Shapers in the path of a frame of queue q (R471): the queue's and its egress map entry's. -/
def State.shapersOf (s : State) (q : Nat) : List Nat :=
  let m := mapIndex (s.qEgress q)
  (if (s.qw q 0).getLsbD 29 then [getBits (s.qw q 0) 0 13] else []) ++
  (if (idxWord s.tm.egmap m 0).getLsbD 31 ∧ (idxWord s.tm.egmap m 1).getLsbD 31 then
    [getBits (idxWord s.tm.egmap m 1) 0 13] else [])

/-- Charge a frame that leaves (R472); a disabled shaper charges nothing. -/
def State.chargeShapers (s : State) (q len : Nat) : State :=
  (s.shapersOf q).foldl (fun t i =>
    if (t.shWord i 0).getLsbD 31 then t.setShTokens i (t.shTokens i - t.shCost i len) else t) s

/-! ### Admission (R463, R467) -/

/-- Count a refused copy (R467), and report it where it is registered (R468). -/
def State.refuseCopy (s : State) (q : Nat) (p : Pkt) (c : Nat) : State :=
  let s1 := (((s.count c).count (C.TM_Q_DROP_PKT q)).count (C.TM_Q_DROP_OCT q) p.bytes.length)
  (s1.countIf p.reg.isSome C.TM_REG_DROPPED).regLost p whyDrop

/-- Admit a copy to queue q (R467); `shared` is the buffer an earlier copy has stored. Answers the buffer. -/
def State.admitCopy (s : State) (q : Nat) (p : Pkt) (colour egress : Nat) (shared : Option Nat) : Option Nat × State :=
  let len := p.bytes.length
  let limit := if colour = green then getBits (s.qw q 3) 0 16 else if colour = yellow then getBits (s.qw q 3) 16 16
    else getBits (s.qw q 2) 16 16
  if s.qMaxFrame q < len then (shared, s.refuseCopy q p C.TM_DROP_OVERSIZE)
  else if 256 * limit < depthBytes (s.qFrames q) + len then (shared, s.refuseCopy q p C.TM_DROP_LIMIT)
  else
    let put := fun (t : State) (b : Nat) =>
      let f : TmFrame := { pkt := p, egress := egress, buf := b, enq := s.time.tick
                           deadline := (p.reg.bind (fun r => s.frameRec r.1 r.2)).map (fun r => r.deadline)
                           tid := getBits (s.qw q 1) 24 3 }
      (t.setQ q (s.qFrames q ++ [f])).count C.TM_ENQUEUED
    match shared with
    | some b => (some b, put s b)
    | none =>
      match s.placeFor q len with
      | none => (none, s.refuseCopy q p C.TM_DROP_POOL)
      | some pl =>
        let b := s.tm.nextBuf
        let s1 := (s.modTm (fun t => { t with
          nextBuf := b + 1, bufs := t.bufs ++ [{ id := b, len := len, place := pl }] })).syncPool
        (some b, put (s1.countIf (decide (pl = .dram)) C.TM_DRAM_ENQ) b)

/-- The queue of a copy (R463), or the counter of its drop. -/
def State.queueFor (s : State) (p : Pkt) (egress : Option Nat) (flood : Bool) : Nat ⊕ Nat :=
  let aq := actField p.act 8 13
  let pick : Nat ⊕ Nat :=
    match egress with
    | none => .inr aq
    | some e =>
      if ¬ flood ∧ s.qEn aq ∧ s.qEgress aq = e then .inr aq
      else
        let m := idxWord s.tm.egmap (mapIndex e) 0
        if ¬ m.getLsbD 31 then .inl C.TM_NO_EGMAP
        else
          let cls := actField p.act 0 6
          let off := getBits (s.rd (A.TM_CMAP (getBits m 24 3) (cls / 4))) (8 * (cls % 4)) 3
          .inr (getBits m 0 13 + off % 2 ^ getBits m 28 2)
  match pick with
  | .inl c => .inl c
  | .inr q => if s.qEn q then .inr q else .inl C.TM_Q_DISABLED

/-- One copy: its queue, and admission (R461, R463, R467). -/
def State.enqueueCopy (s : State) (p : Pkt) (colour : Nat) (egress : Option Nat) (flood : Bool) (shared : Option Nat) :
    Option Nat × State :=
  match s.queueFor p egress flood with
  | .inl c => (shared, ((s.count c).countIf p.reg.isSome C.TM_REG_DROPPED).regLost p whyDrop)
  | .inr q => s.admitCopy q p colour (egress.getD (s.qEgress q)) shared

/-- The members of flood group g, in the order of R466. -/
def State.floodMembers (s : State) (g : Nat) : List Nat :=
  let w := fun k => idxWord s.tm.floods g k
  let bss := (w 1).toNat + (w 2).toNat * 2 ^ 32
  if ¬ (w 0).getLsbD 31 then []
  else
    ((List.range 4).filter (fun p => (w 0).getLsbD p)) ++
    (((List.range 64).filter (fun b => bss.testBit b)).map (fun b => 0x30000 + b)) ++
    (if (w 0).getLsbD 28 then [0x10000 + getBits (w 0) 16 8] else []) ++
    (if (w 0).getLsbD 30 then [0x4FFFF] else []) ++ (if (w 0).getLsbD 29 then [0x60000] else [])

/-- The copies of a flooded packet (R466). -/
def State.floodCopies (s : State) (p : Pkt) (colour : Nat) : List Nat → Option Nat → State
  | [], _ => s
  | e :: rest, shared =>
    let (b, s1) := (s.count C.TM_FLOOD_COPIES).enqueueCopy p colour (some e) true shared
    State.floodCopies s1 p colour rest b

/-- Take a packet (R461): police, copy, select, queue or drop. -/
def State.enqueuePkt (s : State) (p : Pkt) : State :=
  let colour0 := actField p.act 6 2
  let (colour, drop, s1) :=
    if actField p.act 23 1 = 1 then s.police (actField p.act 32 12) colour0 p.bytes.length else (colour0, false, s)
  if drop then (s1.countIf p.reg.isSome C.TM_REG_DROPPED).regLost p whyDrop
  else
    match p.egress with
    | some e =>
      if e / 65536 = 5 then
        let ms := (s1.floodMembers (e % 1024)).filter (fun m => decide (m ≠ p.srcEg) && decide (some m ≠ p.skip))
        if ms = [] then s1.count C.TM_FLOOD_EMPTY else s1.floodCopies p colour ms none
      else (s1.enqueueCopy p colour (some e) false none).2
    | none => (s1.enqueueCopy p colour none false none).2

/-! ### Scheduling (R474 to R477) -/

/-- DEFICIT of queue q. -/
def State.deficit (s : State) (q : Nat) : Nat := sget (fun _ => 0) s.tm.deficit q

/-- Set DEFICIT of queue q. -/
def State.setDeficit (s : State) (q v : Nat) : State :=
  s.modTm (fun t => { t with deficit := sput (fun _ => 0) t.deficit q v })

/-- Length of the head of queue q. -/
def State.headLen (s : State) (q : Nat) : Nat := ((s.qFrames q).head?.map (fun f => f.pkt.bytes.length)).getD 0

/-- Queue q is eligible (R474). -/
def State.qEligible (s : State) (q : Nat) : Bool :=
  decide (s.qFrames q ≠ []) && (s.shapersOf q).all (fun i => s.shPasses i (s.headLen q))

/-- PRIO of queue q. -/
def State.qPrio (s : State) (q : Nat) : Nat := getBits (s.qw q 0) 24 3

/-- The candidate after queue `cur` in ascending order, round robin. -/
def nextAfter (cs : List Nat) (cur : Option Nat) : Nat :=
  match cur with
  | some c => ((cs.find? (fun q => decide (c < q))).getD (cs.headD 0))
  | none => cs.headD 0

/-- DWRR among the eligible queues of one level (R474): the queue that sends, and the deficits. Each turn adds
64 × WEIGHT. -/
def State.dwrr (s : State) (cs : List Nat) : Nat → Option Nat → Nat × State
  | 0, cur => (nextAfter cs cur, s)
  | fuel + 1, cur =>
    let q := nextAfter cs cur
    let s1 := s.setDeficit q (s.deficit q + 64 * getBits (s.qw q 0) 16 8)
    if s1.headLen q ≤ s1.deficit q then (q, s1) else State.dwrr s1 cs fuel (some q)

/-- Choose among the eligible queues `cs` of map index m (R474): the highest PRIO, then DWRR; a queue whose turn runs goes
on while its head fits its deficit. -/
def State.chooseQueue (s : State) (m : Nat) (cs : List Nat) : Option (Nat × State) :=
  match cs with
  | [] => none
  | _ =>
    let p := (cs.map s.qPrio).foldl max 0
    let lvl := cs.filter (fun q => decide (s.qPrio q = p))
    let key := m * 8 + p
    let cur := sget (fun _ => none) s.tm.turn key
    let go := match cur with
      | some q => lvl.contains q && decide (s.headLen q ≤ s.deficit q)
      | none => false
    let (q, s1) := if go then (cur.getD 0, s) else s.dwrr lvl (180 * lvl.length) cur
    some (q, (s1.setDeficit q (s1.deficit q - s1.headLen q)).modTm (fun t => { t with
      turn := sput (fun _ => none) t.turn key (some q) }))

/-- Hand the head of queue q to its egress (R472, R477): tokens, counts, delays; a queue that empties loses its deficit. -/
def State.handOver (s : State) (q : Nat) : State :=
  match s.qFrames q with
  | [] => s
  | f :: rest =>
    let len := f.pkt.bytes.length
    let d := min 0xFFFFFFFF ((s.now - f.enq.toNat) / 5)
    let s1 := (((s.setQ q rest).chargeShapers q len).count (C.TM_Q_TX_PKT q)).count (C.TM_Q_TX_OCT q) len
    let s2 := s1.wr (A.TM_Q_MAX_DELAY q) (BitVec.ofNat 32 (max d (s1.rd (A.TM_Q_MAX_DELAY q)).toNat))
    let s3 := if rest = [] then s2.setDeficit q 0 else s2
    s3.modTm (fun t => { t with
      marks := smod (fun _ => 0) t.marks q (max d)
      handed := t.handed ++ [(mapIndex f.egress, f)] })

/-- Drop the head of queue q as its egress cannot send it in time (R493). -/
def State.dropHead (s : State) (q why : Nat) : State :=
  match s.qFrames q with
  | [] => s
  | f :: rest => ((s.setQ q rest).regLost f.pkt why).releaseBuf f.buf

/-- A frame that an egress has finished with leaves the list of handed frames, and its buffer is freed (R466). -/
def State.finishHanded (s : State) (x : Nat × TmFrame) : State :=
  (s.modTm (fun t => { t with handed := t.handed.erase x })).releaseBuf x.2.buf

/-- The oldest frame handed to map index m. -/
def State.handedTo (s : State) (m : Nat) : Option (Nat × TmFrame) := s.tm.handed.find? (fun x => decide (x.1 = m))

/-- Queues that hold frames of the egress with map index m, in ascending order. -/
def State.queuesOf (s : State) (m : Nat) : List Nat :=
  (s.tm.frames.map (fun e => e.1)).filter (fun q => s.qEn q && decide (mapIndex (s.qEgress q) = m) && decide (s.qFrames q ≠ []))

/-- Among registered queues, the head with the earliest deadline; ties to the lower queue (R474). -/
def State.earliest (s : State) (qs : List Nat) : Option Nat :=
  qs.foldl (fun best q =>
    let d := fun (x : Nat) => ((s.qFrames x).head?.bind (fun f => f.deadline)).getD (2 ^ 64)
    match best with
    | none => some q
    | some b => if d q < d b then some q else some b) none

/-! ### Flushing (R479) -/

/-- Drop every frame of queue q and count it (R479); registered ones end `EXPIRED` with reason DROP. -/
def State.flushQueue (s : State) (q : Nat) : State :=
  let l := s.qFrames q
  let s1 := ((s.setQ q []).setDeficit q 0).count C.TM_FLUSHED l.length
  l.foldl (fun t f => ((t.countIf f.pkt.reg.isSome C.TM_REG_DROPPED).regLost f.pkt whyDrop).releaseBuf f.buf) s1

end Sys2Proof.Machine
end

