-- ==== Sys2Proof/Machine/Emac.lean ====
section
/-! DEFINITION. The meanings of the EMAC commands (spec/15_wired_ports_dram.md R522 to R543). -/

namespace Sys2Proof.Machine

/-- Block number of EMAC p. -/
def emacBlock (p : Nat) : Nat := 0x10 + p

/-- What EMAC p holds beside its registers. -/
def State.emac (s : State) (p : Nat) : EmacSt := sget (fun _ => {}) s.emacs p

/-- Update what EMAC p holds. -/
def State.modEmac (s : State) (p : Nat) (f : EmacSt → EmacSt) : State :=
  { s with emacs := smod (fun _ => {}) s.emacs p f }

/-- The link of port p is up. -/
def State.linkIsUp (s : State) (p : Nat) : Bool := s.flag (F.EMAC_STATUS_LINK p)

/-- Line rate in kb/s of a SPEED code (R538). -/
def rateOf (speed : Nat) : Nat := [10000000, 5000000, 2500000, 1000000, 100000, 10000].getD speed 10000000

/-- Ticks that `n` bits take at a rate in kb/s, rounded up. -/
def bitTicks (n rate : Nat) : Nat := (n * 500000 + rate - 1) / rate

/-- SPEED codes that a mode lists (R522). -/
def modeSpeeds (mode : Nat) : List Nat :=
  [[0], [0, 1, 2, 3, 4], [1], [2], [3], [3, 4, 5]].getD mode []

/-- Usable presets of port p, in order (R536). -/
def State.usablePresets (s : State) (p : Nat) : List Nat :=
  (List.range 8).filter (fun k => s.flag (F.EMAC_EQ_PRESET_VALID p k) && !s.flag (F.EMAC_EQ_PRESET_FAILED p k))

/-- The port's host frames: note on the job of a copy that it reached the wire, and whether its timestamp entry lacks. -/
def State.jobSent (s : State) (job : Option Nat) (tsDropped : Bool) : State :=
  match job with
  | some j => { s with hostp := { s.hostp with jobs := s.hostp.jobs.map (fun x =>
      if x.id = j then { x with sent := true, tsDropped := x.tsDropped || tsDropped } else x) } }
  | none => s

/-- The link goes down (R529): the frame in transmission is abandoned, the status and its event follow. -/
def State.takeLinkDown (s : State) (p : Nat) : State :=
  if ¬ s.linkIsUp p then s
  else
    let s1 := match s.handedTo p with
      | some x => ((s.count (C.EMAC_TX_ABORTED p)).finishHanded x).regLost x.2.pkt whyEgress
      | none => s
    let s2 := (s1.setFld (F.EMAC_STATUS_LINK p) 0).setFld (F.EMAC_STATUS_LINK_CHG p) 1
    ((s2.count (C.EMAC_LINK_DOWN p)).modEmac p (fun e => { e with pausedTo := [], xoff := 0, tried := s.time.tick })).present
      0x30 p

/-! ### Receive (R524, R527, R528) -/

/-- Bytes that port p's receive buffer holds: frames that SORT has not taken (R528). -/
def State.rxFill (s : State) (p : Nat) : Nat :=
  ((s.sort.arrivals.filter (fun x => decide (x.src = p))).map (fun x => x.bytes.length)).foldl (· + ·) 0

/-- The FCS of a received frame is bad (R524). -/
def badFcs (f : List Byte) : Bool := decide (f.length < 4 ∨ fcsOf (f.take (f.length - 4)) ≠ f.drop (f.length - 4))

/-- The errors of a received frame, FCS included (R527, R551): the one counter, in the order of R527, and every ERR bit
that applies. -/
def State.rxError (s : State) (p : Nat) (f : List Byte) (codeErr : Bool) : Option (Nat × Nat) :=
  let runt := decide (f.length < 64)
  let long := decide (s.fld (F.EMAC_RX_CFG_MAX_LEN p) < f.length)
  let bits := bit (badFcs f) + 2 * bit codeErr + 4 * bit runt + 8 * bit long
  if badFcs f then some (C.EMAC_RX_FCS_ERR p, bits)
  else if codeErr then some (C.EMAC_RX_CODE_ERR p, bits)
  else if runt then some (C.EMAC_RX_RUNT p, bits)
  else if long then some (C.EMAC_RX_OVERSIZE p, bits)
  else none

/-- A frame that fails R524: dropped and counted, or delivered to BAD_RING in the forerunner mode (R527). -/
def State.rxBad (s : State) (p : Nat) (f : List Byte) (e : Nat × Nat) : State :=
  let s1 := s.count e.1
  if ¬ s.flag (F.EMAC_RX_CFG_KEEP_BAD p) ∨ f.length < 14 ∨ s.fld (F.EMAC_RX_CFG_MAX_LEN p) + 64 < f.length then s1
  else
    let b : BadFrame := { ring := s.fld (F.EMAC_RX_CFG_BAD_RING p), src := p, bytes := f.take (f.length - 4)
                          err := e.2, stamp := s.tsWords }
    { s1.count (C.EMAC_RX_BAD_DELIVERED p) with hostp := { s1.hostp with bad := s1.hostp.bad ++ [b] } }

/-- EMAC_RX_FRAME (R524, R527, R528, R535): a frame has been received, FCS included; `codeErr` says that the PCS found
a code error in it. -/
def execEmacRxFrame (p : Fin 4) (frame : List Byte) (codeErr : Bool) (s : State) : Host.Outcome State Fault Refusal :=
  let n := p.val
  if ¬ s.linkIsUp n ∨ ¬ s.takesWork (emacBlock n) then .next s
  else
    match s.rxError n frame codeErr with
    | some e => .next (s.rxBad n frame e)
    | none =>
      let s1 := (s.count (C.EMAC_RX_FRAMES n)).count (C.EMAC_RX_OCTETS n) frame.length
      let (r, s2) := s1.macsecRx n (frame.take (frame.length - 4))
      let s3 := match r.fails with
        | some c => s2.count c
        | none => s2
      if ¬ r.pass then .next s3
      else if 262144 < s3.rxFill n + r.bytes.length then .next (s3.count (C.EMAC_RX_OVERFLOW n))
      else
        .next (s3.arrivePkt { bytes := r.bytes, src := n, srcEg := n, time := s.time.tick, stamp := s.tsWords })

/-- PAUSE_RX (R528): a received PAUSE (all classes) or PFC frame; a time of 0 releases. -/
def execPauseRx (p : Fin 4) (classes : BitVec 8) (quanta : BitVec 16) (s : State) : Host.Outcome State Fault Refusal :=
  s.whenWorks (0x10 + p.val) <|
  let n := p.val
  let s1 := s.count (C.EMAC_RX_PAUSE n)
  if s.flag (F.EMAC_FC_CFG_RX_FC n) then
    let t := s.now + bitTicks (512 * quanta.toNat) (rateOf (s.fld (F.EMAC_STATUS_SPEED n)))
    .next (s1.modEmac n (fun e => { e with
      pausedTo := (List.range 8).map (fun k => if classes.getLsbD k then t else e.pausedTo.getD k 0) }))
  else .next s1

/-- RX_BUFFER_XOFF (R528): the fill has crossed XOFF_KIB, or fallen 32 KiB below it. -/
def execRxBufferXoff (p : Fin 4) (s : State) : Host.Outcome State Fault Refusal :=
  s.whenWorks (0x10 + p.val) <|
  let n := p.val
  let hi := s.fld (F.EMAC_FC_CFG_XOFF_KIB n) * 1024
  if ¬ s.flag (F.EMAC_FC_CFG_TX_FC n) then .next s
  else if (s.emac n).xoff = 0 ∧ hi ≤ s.rxFill n then
    let m : BitVec 8 := if s.flag (F.EMAC_FC_CFG_PFC n) then ~~~(BitVec.ofNat 8 (s.fld (F.SORT_PORT_CFG_REG_PCP n))) else 0xFF
    .next ((s.modEmac n (fun e => { e with xoff := m })).count (C.EMAC_TX_PAUSE n))
  else if (s.emac n).xoff ≠ 0 ∧ s.rxFill n + 32768 ≤ hi then
    .next ((s.modEmac n (fun e => { e with xoff := 0 })).count (C.EMAC_TX_PAUSE n))
  else .next s

/-! ### Transmit (R275, R525, R526, R531, R532) -/

/-- Offset of the EtherType after any VLAN tags. -/
def etypeOff (b : List Byte) : Nat :=
  let tag := fun (o : Nat) => decide (frame16 b o = 0x8100 ∨ frame16 b o = 0x88A8)
  if ¬ tag 12 then 12 else if ¬ tag 16 then 16 else 20

/-- The one-step edit of a Sync message (R532), at time `t` ns of its domain. -/
def oneStepEdit (b : List Byte) (off t : Nat) : List Byte :=
  let origin := beNat (slice b (off + 34) 6) * nsPerSec + beNat (slice b (off + 40) 4)
  let old := slice b (off + 8) 8
  let new := beBytes 8 (unsgn 64 (sgn 64 (beNat old) + ((t : Int) - origin) * 65536))
  let b1 := putBytes b (off + 8) new
  match frame16 b (etypeOff b) with
  | 0x0800 => putBytes b1 (off - 2) [0, 0]
  | 0x86DD => fixUdp b1 (off - 2) false old new
  | _ => b1

/-- Port p begins the frame that TM has just handed it: the one-step edit, the transmit timestamp, and the SecY settings under which
it goes (R275, R532, R534, R541). -/
def State.startTx (s : State) (p : Nat) : State :=
  s.modTm (fun t => { t with handed := t.handed.map (fun x =>
    if x.1 ≠ p then x
    else
      let k := x.2.pkt
      let b := match k.tx.oneStep with
        | some (d, off) => oneStepEdit k.bytes off (s.dom d).nanos
        | none => k.bytes
      (x.1, { x.2 with pkt := { k with bytes := b }, start := s.ethStamp, secy := s.secyNow p })) })

/-- Send the frame handed to port p: MACsec, its timestamp entry, the wire (R525, R531, R534). -/
def State.sendFrame (s : State) (p : Nat) (x : Nat × TmFrame) : State :=
  let k := x.2.pkt
  match s.macsecTx p x.2.secy k.bytes with
  | (.inr exhausted, s1) =>
    ((s1.countIf exhausted (C.EMAC_TX_PN_EXHAUSTED p)).finishHanded x).regLost k whyKey
  | (.inl w, s1) =>
    let (queued, s2) := match k.tx.ts with
      | some id => s1.tsEth p id x.2.start
      | none => (true, s1)
    let s3 := (s2.count (C.EMAC_TX_FRAMES p)).count (C.EMAC_TX_OCTETS p) (w.length + 4)
    let s4 := { s3 with wire := s3.wire ++ [(p, w ++ fcsOf w)] }
    ((s4.jobSent k.tx.job (!queued)).finishHanded x).regDone k

/-- EMAC_TX_END (R525, R491): the last bit of the frame handed to the port leaves. -/
def execEmacTxEnd (p : Fin 4) (s : State) : Host.Outcome State Fault Refusal :=
  s.whenWorks (0x10 + p.val) <|
  match s.handedTo p.val with
  | some x => if s.linkIsUp p.val then .next (s.sendFrame p.val x) else .next s
  | none => .next s

/-! ### Links and presets (R522, R523, R529, R536, R538) -/

/-- MACsec may run at this SPEED in this mode (R533). -/
def secySpeed (mode speed : Nat) : Bool := decide (mode ≤ 2 ∧ speed ≤ 1)

/-- LINK_UP (R523, R533, R536): the link comes up at a speed, or a PHY reports another speed or half duplex. -/
def execLinkUp (p : Fin 4) (speed : BitVec 3) (half : Bool) (s : State) : Host.Outcome State Fault Refusal :=
  let n := p.val
  let mode := s.fld (F.EMAC_MODE_MODE n)
  if ¬ s.flag (F.EMAC_MODE_EN n) ∨ ¬ s.takesWork (emacBlock n) then .next s
  else if half then .next ((s.takeLinkDown n).count (C.EMAC_HALF_DUPLEX n))
  else if ¬ (modeSpeeds mode).contains speed.toNat then .next (s.takeLinkDown n)
  else if s.flag (F.EMAC_SECY_CFG_EN n) ∧ ¬ secySpeed mode speed.toNat then .next (s.takeLinkDown n)
  else
    match s.usablePresets n with
    | [] => .next s
    | k :: _ =>
      let s1 := (s.setFld (F.EMAC_STATUS_SPEED n) speed.toNat).setFld (F.EMAC_STATUS_EQ_BUSY n) 0
      if s.linkIsUp n then .next s1
      else .next (((s1.setFld (F.EMAC_STATUS_PRESET n) k).setFld (F.EMAC_STATUS_LINK n) 1).setFld
        (F.EMAC_STATUS_LINK_CHG n) 1)

/-- LINK_DOWN (R529). -/
def execLinkDown (p : Fin 4) (s : State) : Host.Outcome State Fault Refusal :=
  s.whenWorks (0x10 + p.val) (.next (s.takeLinkDown p.val))

/-- A MODE write (R522, R529, R538). -/
def State.emacMode (s : State) (p : Nat) (v : Word) : State :=
  let a := A.EMAC_MODE p
  if 5 < getBits v 0 4 then s.refuse a .cfgRange
  else if s.flag (F.EMAC_MODE_EN p) ∧ (getBits v 0 4 ≠ s.fld (F.EMAC_MODE_MODE p) ∨
      getBits v 8 1 ≠ s.fld (F.EMAC_MODE_AN_EN p)) then s.refuse a .cfgRange
  else
    let s1 := s.wr a (v &&& 0x8000010F)
    if ¬ v.getLsbD 31 then s1.takeLinkDown p
    else if s.flag (F.EMAC_MODE_EN p) then s1 else s1.modEmac p (fun e => { e with tried := s.time.tick })

/-- EMAC_MODE_WRITE (R529, R538). -/
def execEmacModeWrite (p : Fin 4) (value : Word) (s : State) : Host.Outcome State Fault Refusal :=
  .next (s.ownWrite (A.EMAC_MODE p.val) (.emacModeWrite p value) (fun u => u.emacMode p.val value))

/-- The preset in use fails (R536): `errors` PCS block errors in 1 s exceed ERR_LIMIT, or its link is not up within 10 ms. -/
def State.presetFails (s : State) (p errors : Nat) : Bool :=
  s.flag (F.EMAC_MODE_EN p) &&
    (if s.linkIsUp p then decide (s.fld (F.EMAC_EQ_CFG_ERR_LIMIT p) < errors)
     else decide ((s.emac p).tried.toNat + 10 * Config.ticksPerMs ≤ s.now))

/-- SDS_PRESET (R536): the preset in use fails; the link goes down, and the port retrains with the next usable one. `errors` are the
block errors of the last second. -/
def execSdsPreset (p : Fin 4) (errors : BitVec 32) (s : State) : Host.Outcome State Fault Refusal :=
  s.whenWorks (0x10 + p.val) <|
  let n := p.val
  match (if s.presetFails n errors.toNat then s.usablePresets n else []) with
  | [] => .next s
  | first :: rest =>
    let k := if s.linkIsUp n then s.fld (F.EMAC_STATUS_PRESET n) else first
    let s1 := (((s.takeLinkDown n).modEmac n (fun e => { e with tried := s.time.tick })).setFld
      (F.EMAC_EQ_PRESET_FAILED n k) 1).present 0x31 (n * 16 + k)
    match (if k = first then rest else first :: rest.filter (fun j => decide (j ≠ k))) with
    | [] => .next ((s1.setFld (F.EMAC_STATUS_EQ_BUSY n) 0).present 0x32 (n * 16))
    | j :: _ => .next (((s1.setFld (F.EMAC_STATUS_PRESET n) j).setFld (F.EMAC_STATUS_EQ_BUSY n) 1).count
        (C.EMAC_EQ_RETRAIN n))

/-- SYSCTL.ABORT of a port (R537): its receive buffer dropped, the frame in transmission abandoned, the link down, EN
clear, its completion vector raised. -/
def State.abortPort (s : State) (p : Nat) : State :=
  let s1 := s.modSort (fun x => { x with arrivals := x.arrivals.filter (fun k => decide (k.src ≠ p)) })
  let s2 := { s1 with hostp := { s1.hostp with bad := s1.hostp.bad.filter (fun b => decide (b.src ≠ p)) } }
  ((s2.takeLinkDown p).setFld (F.EMAC_MODE_EN p) 0).raiseUnit .emac p

end Sys2Proof.Machine
end

