-- ==== Sys2Proof/Machine/Hostp.lean ====
section
/-! DEFINITION. The meanings of the HOSTP commands: rings, segmentation, completions, the PCIe link and root-complex
accesses (spec/15_wired_ports_dram.md R544 to R558). -/

namespace Sys2Proof.Machine

/-- HOSTP's block number. -/
def hostpBlock : Nat := 0x0C

/-- Memory that a ring of an owner lies in (R547): host memory for 0, device memory for 1. -/
def State.ringBytes (s : State) (device : Bool) (a n : Nat) : List Byte :=
  if device then s.dmaBytes a n else s.hostBytes a n

/-- Log the fetch of `n` bytes of a ring's owner: a hole in device memory is logged (R125). -/
def State.logRing (s : State) (device : Bool) (a n : Nat) : State := if device then s.logDma a n else s

/-- Write to the memory of a ring's owner. -/
def State.ringWrite (s : State) (device : Bool) (a : Nat) (b : List Byte) : State :=
  if device then s.dmaWrite a b else s.hostWrite a b

/-- Distance of two free-running 16-bit indices (R547). -/
def idxDist (pi ci : Nat) : Nat := (pi + 65536 - ci) % 65536

/-! ### Rings (R557) -/

/-- The registers of ring r of a kind. -/
structure RingRegs where
  ctrl : Nat
  base : Nat × Nat
  cq : Nat × Nat
  idx : Nat
  cqIdx : Nat
  coal : Nat
  key : Nat
  deriving DecidableEq, Repr

/-- The registers of receive (true) or transmit (false) ring r. -/
def ringRegs (receive : Bool) (r : Nat) : RingRegs :=
  if receive then
    { ctrl := A.HOSTP_RXR_CTRL r, base := (A.HOSTP_RXR_BASE_LO r, A.HOSTP_RXR_BASE_HI r)
      cq := (A.HOSTP_RXR_CQ_LO r, A.HOSTP_RXR_CQ_HI r), idx := A.HOSTP_RXR_IDX r, cqIdx := A.HOSTP_RXR_CQ_IDX r
      coal := A.HOSTP_RXR_COAL r, key := 256 + r }
  else
    { ctrl := A.HOSTP_TXR_CTRL r, base := (A.HOSTP_TXR_BASE_LO r, A.HOSTP_TXR_BASE_HI r)
      cq := (A.HOSTP_TXR_CQ_LO r, A.HOSTP_TXR_CQ_HI r), idx := A.HOSTP_TXR_IDX r, cqIdx := A.HOSTP_TXR_CQ_IDX r
      coal := A.HOSTP_TXR_COAL r, key := r }

/-- EN of a ring. -/
def State.ringEn (s : State) (g : RingRegs) : Bool := (s.rd g.ctrl).getLsbD 31
/-- OWNER of a ring: device memory. -/
def State.ringDev (s : State) (g : RingRegs) : Bool := (s.rd g.ctrl).getLsbD 30
/-- SIZE of a ring. -/
def State.ringSize (s : State) (g : RingRegs) : Nat := getBits (s.rd g.ctrl) 16 13
/-- VECTOR of a ring. -/
def State.ringVector (s : State) (g : RingRegs) : Nat := getBits (s.rd g.ctrl) 0 9
/-- CI of a descriptor ring. -/
def State.ringCi (s : State) (g : RingRegs) : Nat := getBits (s.rd g.idx) 16 16
/-- PI of a descriptor ring. -/
def State.ringPi (s : State) (g : RingRegs) : Nat := getBits (s.rd g.idx) 0 16
/-- Entries waiting in a descriptor ring. -/
def State.ringHeld (s : State) (g : RingRegs) : Nat := idxDist (s.ringPi g) (s.ringCi g)
/-- Room in a completion ring. -/
def State.cqRoom (s : State) (g : RingRegs) : Nat :=
  s.ringSize g - idxDist (getBits (s.rd g.cqIdx) 0 16) (getBits (s.rd g.cqIdx) 16 16)

/-- Address of entry i of a descriptor ring with entries of `n` bytes. -/
def State.ringAddr (s : State) (g : RingRegs) (i n : Nat) : Nat :=
  s.rd64 g.base.1 g.base.2 + n * (i % 65536 % s.ringSize g)

/-- The memory of a ring can be reached: device memory, or host memory over a link that is up. -/
def State.ringReachable (s : State) (g : RingRegs) : Bool := s.ringDev g || s.flag F.HOSTP_LINK_UP

/-- Completions of a ring that wait for its vector (R553). -/
def State.coalOf (s : State) (key : Nat) : Option (Nat × DWord) :=
  (s.hostp.coal.find? (fun e => decide (e.1 = key))).map (fun e => e.2)

/-- Hold what waits for a ring's vector. -/
def State.setCoal (s : State) (key : Nat) (x : Option (Nat × DWord)) : State :=
  let rest := s.hostp.coal.filter (fun e => decide (e.1 ≠ key))
  { s with hostp := { s.hostp with coal := match x with
      | some y => rest ++ [(key, y)]
      | none => rest } }

/-- A completion has been written (R553): the vector is raised, or the completion waits. -/
def State.notifyRing (s : State) (g : RingRegs) : State :=
  let n := ((s.coalOf g.key).map (fun x => x.1)).getD 0 + 1
  let start := ((s.coalOf g.key).map (fun x => x.2)).getD s.time.tick
  if getBits (s.rd g.coal) 16 16 = 0 ∨ getBits (s.rd g.coal) 8 8 ≤ n then
    (s.setCoal g.key none).raise (s.ringVector g)
  else s.setCoal g.key (some (n, start))

/-- Write a completion and advance CQ_PI (R547). -/
def State.writeCq (s : State) (g : RingRegs) (b : List Byte) : State :=
  let pi := getBits (s.rd g.cqIdx) 0 16
  let a := s.rd64 g.cq.1 g.cq.2 + b.length * (pi % s.ringSize g)
  let s1 := s.ringWrite (s.ringDev g) a b
  (s1.wr g.cqIdx (setBits (s1.rd g.cqIdx) 0 16 (pi + 1))).notifyRing g

/-! ### Transmit descriptors (R548) -/

/-- A transmit descriptor. -/
structure TxDesc where
  addr : Nat
  sop : Bool
  eop : Bool
  len : Nat
  w3 : Word
  tsId : Nat
  l3 : Nat
  l4 : Nat
  ptp : Nat
  cookie : Word
  deriving DecidableEq, Repr

/-- A transmit descriptor from its bytes. -/
def txDescOf (b : List Byte) : TxDesc :=
  let w := fun i => (toItems b).getD i 0
  { addr := (w 0).toNat + (w 1).toNat * 2 ^ 32, sop := (w 2).getLsbD 31, eop := (w 2).getLsbD 30
    len := getBits (w 2) 0 16, w3 := w 3, tsId := getBits (w 4) 16 16, l3 := getBits (w 4) 8 8
    l4 := getBits (w 4) 0 8, ptp := getBits (w 5) 0 16, cookie := w 6 }

/-- The descriptors of the next frame, through EOP (R548); a frame of more than 32 shows 33. -/
def State.fetchDescs (s : State) (g : RingRegs) : Nat → Nat → List TxDesc
  | 0, _ => []
  | fuel + 1, i =>
    let d := txDescOf (s.ringBytes (s.ringDev g) (s.ringAddr g i 32) 32)
    if d.eop then [d] else d :: State.fetchDescs s g fuel (i + 1)

/-- STATUS codes of a transmit completion (R550). -/
def txOk : Nat := 0
/-- ZERO_LENGTH. -/
def txZero : Nat := 1
/-- CFG_RANGE. -/
def txRange : Nat := 2
/-- TX_DROPPED. -/
def txDroppedStatus : Nat := 3
/-- ABORTED. -/
def txAborted : Nat := 4
/-- BAD_ADDR. -/
def txBadAddr : Nat := 5

/-- TSO of a SOP descriptor's flags. -/
def TxDesc.tso (d : TxDesc) : Bool := d.w3.getLsbD 31
/-- TS. -/
def TxDesc.ts (d : TxDesc) : Bool := d.w3.getLsbD 30
/-- ONE_STEP. -/
def TxDesc.oneStep (d : TxDesc) : Bool := d.w3.getLsbD 29
/-- HDR_LEN. -/
def TxDesc.hdrLen (d : TxDesc) : Nat := getBits d.w3 16 8
/-- MSS. -/
def TxDesc.mss (d : TxDesc) : Nat := getBits d.w3 0 14

/-- A frame is TCP over IPv4 or IPv6 at L3_OFF (R549). -/
def isTcp (b : List Byte) (l3 : Nat) : Bool :=
  (decide (frameByte b l3 / 16 = 4) && decide (frameByte b (l3 + 9) = 6)) ||
  (decide (frameByte b l3 / 16 = 6) && decide (frameByte b (l3 + 6) = 6))

/-- The refusal of a frame by its descriptors and bytes (R532, R548, R549). -/
def txCheck (ds : List TxDesc) (sop : TxDesc) (b : List Byte) : Option Nat :=
  let total := (ds.map (fun d => d.len)).foldl (· + ·) 0
  if ds.any (fun d => decide (d.len = 0)) ∨ (sop.tso ∧ sop.mss = 0) then some txZero
  else if 32 < ds.length then some txRange
  else if ¬ sop.tso ∧ ¬ (14 ≤ total ∧ total ≤ 11454) then some txRange
  else if sop.tso ∧ (sop.ts ∨ sop.hdrLen < 54 ∨ 254 < sop.hdrLen ∨ 11454 < sop.hdrLen + sop.mss ∨
      total < sop.hdrLen ∨ 65535 < total - sop.hdrLen ∨ ¬ isTcp b sop.l3) then some txRange
  else if sop.oneStep ∧ (¬ sop.ts ∨ total < sop.ptp + 34) then some txRange
  else none

/-- Sum of the pseudo header of the L4 segment at `l4` (R548). -/
def pseudoSum (b : List Byte) (l3 l4 proto : Nat) : Nat :=
  let addrs := if frameByte b l3 / 16 = 4 then slice b (l3 + 12) 8 else slice b (l3 + 8) 32
  (be16s addrs).foldl (· + ·) (proto + (b.length - l4))

/-- Insert the TCP or UDP checksum (R548). -/
def l4Checksum (b : List Byte) (l3 l4 : Nat) : List Byte :=
  let proto := if frameByte b l3 / 16 = 4 then frameByte b (l3 + 9) else frameByte b (l3 + 6)
  let at' := l4 + (if proto = 17 then 6 else 16)
  let z := putBytes b at' [0, 0]
  let c := inetSum (pseudoSum z l3 l4 proto) (z.drop l4)
  putBytes z at' (beBytes 2 (if proto = 17 ∧ c = 0 then 65535 else c))

/-- Segment i of a frame (R549): `k` of `n`, its payload at offset `off`. -/
def tsoSegment (b : List Byte) (d : TxDesc) (i n : Nat) : List Byte :=
  let hdr := b.take d.hdrLen
  let pay := slice b (d.hdrLen + i * d.mss) d.mss
  let seg := hdr ++ pay
  let v4 := decide (frameByte hdr d.l3 / 16 = 4)
  let s1 := if v4 then
      let x := putBytes seg (d.l3 + 2) (beBytes 2 (seg.length - d.l3))
      let y := putBytes x (d.l3 + 4) (beBytes 2 (frame16 x (d.l3 + 4) + i))
      let z := putBytes y (d.l3 + 10) [0, 0]
      putBytes z (d.l3 + 10) (beBytes 2 (inetSum 0 (slice z d.l3 (d.l4 - d.l3))))
    else putBytes seg (d.l3 + 4) (beBytes 2 (seg.length - d.l3 - 40))
  let s2 := putBytes s1 (d.l4 + 4) (beBytes 4 (beNat (slice s1 (d.l4 + 4) 4) + i * d.mss))
  let f := frameByte s2 (d.l4 + 13)
  let f1 := if i + 1 = n then f else f - f % 2 - (if f.testBit 3 then 8 else 0)
  let f2 := if i = 0 ∨ ¬ f1.testBit 7 then f1 else f1 - 128
  l4Checksum (putBytes s2 (d.l4 + 13) [BitVec.ofNat 8 f2]) d.l3 d.l4

/-- The frames that a host frame enters SORT as (R548, R549). -/
def txSegments (b : List Byte) (d : TxDesc) : List (List Byte) :=
  if d.tso then
    let n := max 1 ((b.length - d.hdrLen + d.mss - 1) / d.mss)
    (List.range n).map (fun i => tsoSegment b d i n)
  else if d.w3.getLsbD 26 then [l4Checksum b d.l3 d.l4] else [b]

/-- The descriptors of the whole frame that waits in transmit ring r, through EOP; none where no frame waits (R548). -/
def State.txFrame (s : State) (r : Nat) : List TxDesc :=
  let g := ringRegs false r
  if ¬ s.ringEn g ∨ s.ringHeld g = 0 ∨ ¬ s.ringReachable g then []
  else
    let all := s.fetchDescs g (s.ringHeld g) (s.ringCi g)
    if (all.getLast?.map (fun d => d.eop)).getD false then all else []

/-- The transmit ring that HOSTP serves next: round robin among the rings in which a frame waits (R555). -/
def State.txTurn (s : State) : Option Nat :=
  ((List.range 256).map (fun i => (s.hostp.txNext + i) % 256)).find? (fun r => decide (s.txFrame r ≠ []))

/-- HOST_TX_FRAME (R547 to R550, R555): the next frame of a transmit ring whose turn it is is fetched, checked, segmented and handed to
SORT; nothing is fetched while SORT refuses a frame. `dmaError` says that a buffer read ended in an unsupported request, a completer
abort or poisoned data. -/
def execHostTxFrame (ring : Fin 256) (dmaError : Bool) (s' : State) : Host.Outcome State Fault Refusal :=
  let g := ringRegs false ring.val
  if s'.txTurn ≠ some ring.val ∨ s'.sortRefuses 4 ∨ ¬ s'.takesWork hostpBlock then .next s'
  else
    let all := s'.txFrame ring.val
    let s := { s' with hostp := { s'.hostp with txNext := (ring.val + 1) % 256 } }
    match all with
    | [] => .next s'
    | sop :: _ =>
      let b := if 32 < all.length then [] else all.flatMap (fun d => s.ringBytes (s.ringDev g) d.addr d.len)
      let l0 := (List.range all.length).foldl (fun t i => t.logRing (s.ringDev g) (s.ringAddr g (s.ringCi g + i) 32) 32) s
      let l1 := if 32 < all.length then l0 else all.foldl (fun t d => t.logRing (s.ringDev g) d.addr d.len) l0
      let s0 := l1.wr g.idx (setBits (l1.rd g.idx) 16 16 (s.ringCi g + all.length))
      let unread := s.ringDev g && all.any (fun d => (List.range d.len).any (fun i =>
        !s.mapped (d.addr + i) || s.poisoned (d.addr + i)))
      let err := match txCheck all sop b with
        | some c => some c
        | none => if dmaError ∨ unread then some txBadAddr else none
      let job : TxJob := { id := s.hostp.nextJob, ring := ring.val, cookie := sop.cookie
                           ts := if sop.ts then some sop.tsId else none, status := err.getD txOk, segments := 0
                           tsId := sop.tsId }
      match err with
      | some c =>
        let s1 := s0.count (if c = txBadAddr then C.HOSTP_DMA_ERR else C.HOSTP_TX_DESC_ERR)
        .next { s1 with hostp := { s1.hostp with jobs := s1.hostp.jobs ++ [{ job with ts := none }]
                                                 nextJob := s1.hostp.nextJob + 1 } }
      | none =>
        let segs := txSegments b sop
        let tx : TxOpts := { ts := job.ts
                             oneStep := if sop.oneStep then some (bit (sop.w3.getLsbD 28), sop.ptp) else none
                             job := if sop.ts then some job.id else none }
        let s1 := segs.foldl (fun t f => t.arrivePkt { bytes := f, src := 4, srcEg := 0x10000 + ring.val
                                                       time := s.time.tick, wantReg := sop.w3.getLsbD 27, tx := tx }) s0
        let s2 := (s1.count C.HOSTP_TX_FRAMES).count C.HOSTP_TX_SEGMENTS (if sop.tso then segs.length else 0)
        .next { s2 with hostp := { s2.hostp with
          jobs := s2.hostp.jobs ++ [{ job with segments := segs.length }], nextJob := s2.hostp.nextJob + 1 } }

/-- A copy of a job's frame is still in the packet path (R531). -/
def State.jobLive (s : State) (j : Nat) : Bool :=
  let mine := fun (p : Pkt) => decide (p.tx.job = some j)
  s.sort.arrivals.any mine || s.sort.regLane.any mine || s.sort.recLane.any mine || s.sort.normLane.any mine ||
  s.sort.pipe.any mine || s.tables.inbox.any mine || s.tables.learnQ.any (fun q => mine q.pkt) || s.tm.inbox.any mine ||
  s.regsvc.inbox.any mine || s.tm.frames.any (fun e => e.2.any (fun f => mine f.pkt)) ||
  s.tm.handed.any (fun e => mine e.2.pkt)

/-- A job's completion may be written: at once without TS, else after every copy has left or been dropped (R531,
R550). -/
def State.jobDone (s : State) (x : TxJob) : Bool := decide (x.ts = none) || !s.jobLive x.id

/-- The completion of a job (R550). -/
def TxJob.completion (x : TxJob) : List Byte :=
  let status := if x.ts.isSome ∧ ¬ x.sent ∧ x.status = txOk then txDroppedStatus else x.status
  leBytes 4 x.cookie.toNat ++ leBytes 4 (bit (x.ts.isSome && (x.tsDropped || !x.sent)) * 2 ^ 31 + status) ++
    leBytes 4 (x.tsId % 65536) ++ leBytes 4 x.segments

/-- HOST_TX_COMPLETION (R531, R550): the oldest finished frame of a transmit ring completes, with room in its completion
ring. -/
def execHostTxCompletion (ring : Fin 256) (s : State) : Host.Outcome State Fault Refusal :=
  s.whenWorks hostpBlock <|
  let g := ringRegs false ring.val
  match s.hostp.jobs.find? (fun x => decide (x.ring = ring.val) && s.jobDone x) with
  | none => .next s
  | some x =>
    if s.cqRoom g = 0 ∨ ¬ s.ringEn g ∨ ¬ s.ringReachable g then .next s
    else .next ({ s with hostp := { s.hostp with jobs := s.hostp.jobs.filter (fun y => decide (y.id ≠ x.id)) } }.writeCq g
      x.completion)

/-! ### Receive rings (R551, R552) -/

/-- What a receive ring is to write. -/
structure RxJob where
  bytes : List Byte
  err : Nat
  cls : Nat
  src : Nat
  stamp : List Word
  deriving DecidableEq, Repr

/-- Bytes of a buffer of a receive ring (R551, R557). -/
def State.bufSize (s : State) (g : RingRegs) : Nat := 256 * getBits (s.rd g.ctrl) 10 6

/-- Buffers that a frame of `n` bytes takes. -/
def State.bufsFor (s : State) (g : RingRegs) (n : Nat) : Nat :=
  if s.bufSize g = 0 then 1 else max 1 ((n + s.bufSize g - 1) / s.bufSize g)

/-- A receive ring is ready for a frame of `n` bytes (R552): room for all its completions, and a free buffer. -/
def State.rxReady (s : State) (g : RingRegs) (n : Nat) : Bool :=
  s.ringEn g && s.ringReachable g && s.takesWork hostpBlock && decide (s.bufsFor g n ≤ s.cqRoom g) &&
    decide (0 < s.ringHeld g)

/-- The receive completion of buffer i of n (R551). -/
def rxCompletion (j : RxJob) (cookie : Word) (i n inBuf : Nat) : List Byte :=
  let sop := decide (i = 0)
  let eop := decide (i + 1 = n)
  let st := fun k => (j.stamp.getD k 0).toNat
  let tsv := decide (j.stamp ≠ [])
  leBytes 4 cookie.toNat ++ leBytes 4 (bit sop * 2 ^ 31 + bit eop * 2 ^ 30 + j.err * 2 ^ 24 + inBuf) ++
  leBytes 4 ((if sop then j.cls * 2 ^ 26 + j.src * 2 ^ 22 else 0) + bit tsv * 2 ^ 21 +
    bit ((j.stamp.getD 0 0).getLsbD 31) * 2 ^ 20 + bit ((j.stamp.getD 0 0).getLsbD 30) * 2 ^ 19 + j.bytes.length) ++
  leBytes 4 (st 1) ++ leBytes 4 (st 2) ++ leBytes 4 (st 3) ++ leBytes 4 (st 4) ++ leBytes 4 0

/-- Write the data of buffer i of a frame; answers the state and the buffer's cookie. -/
def State.fillBuf (s : State) (g : RingRegs) (j : RxJob) (i : Nat) : Word × State :=
  let at' := s.ringAddr g (s.ringCi g + i) 16
  let d := toItems (s.ringBytes (s.ringDev g) at' 16)
  let a := (d.getD 0 0).toNat + (d.getD 1 0).toNat * 2 ^ 32
  (d.getD 2 0, (s.logRing (s.ringDev g) at' 16).ringWrite (s.ringDev g) a (slice j.bytes (i * s.bufSize g) (s.bufSize g)))

/-- Write a frame to a receive ring (R552): whole, or dropped where the free list runs out. -/
def State.deliver (s : State) (g : RingRegs) (j : RxJob) : Bool × State :=
  let n := s.bufsFor g j.bytes.length
  let have' := s.ringHeld g
  if have' < n then
    let s1 := (List.range have').foldl (fun t i => (t.fillBuf g j i).2) s
    let s2 := (s1.wr g.coal (setBits (s1.rd g.coal) 0 1 1)).count C.HOSTP_RX_NOBUF_MIDFRAME
    (false, s2.raise (s2.ringVector g))
  else
    let s1 := (List.range n).foldl (fun t i =>
      let (cookie, t1) := t.fillBuf g j i
      t1.writeCq g (rxCompletion j cookie i n (slice j.bytes (i * t.bufSize g) (t.bufSize g)).length)) s
    (true, (s1.wr g.idx (setBits (s1.rd g.idx) 16 16 (s.ringCi g + n))).count C.HOSTP_RX_FRAMES)

/-- HOST_RX_FRAME (R527, R551, R552): a bad frame that waits for the ring, or the frame TM has handed it, is written. -/
def execHostRxFrame (ring : Fin 256) (s : State) : Host.Outcome State Fault Refusal :=
  let g := ringRegs true ring.val
  match s.hostp.bad.find? (fun b => decide (b.ring = ring.val)) with
  | some b =>
    if s.rxReady g b.bytes.length then
      let s0 := { s with hostp := { s.hostp with bad := s.hostp.bad.erase b } }
      .next (s0.deliver g { bytes := b.bytes, err := b.err, cls := 0, src := b.src, stamp := b.stamp }).2
    else .next s
  | none =>
    match s.handedTo (256 + ring.val) with
    | none => .next s
    | some x =>
      let k := x.2.pkt
      if s.rxReady g k.bytes.length then
        let (ok, s1) := s.deliver g { bytes := k.bytes, err := 0, cls := actField k.act 0 6, src := k.src, stamp := k.stamp }
        let s2 := s1.finishHanded x
        .next (if ok then s2.regDone k else s2.regLost k whyEgress)
      else .next s

/-- COAL_TIMEOUT (R553): COAL_US has passed since the first waiting completion. -/
def execCoalTimeout (receive : Bool) (ring : Fin 256) (s : State) : Host.Outcome State Fault Refusal :=
  s.whenWorks hostpBlock <|
  let g := ringRegs receive ring.val
  match s.coalOf g.key with
  | some (_, t) =>
    if getBits (s.rd g.coal) 16 16 * Config.ticksPerUs ≤ s.now - t.toNat then
      .next ((s.setCoal g.key none).raise (s.ringVector g))
    else .next s
  | none => .next s

/-- The ring holds work: waiting or fetched transmit descriptors, or a frame being written (R555). -/
def State.ringBusy (s : State) (receive : Bool) (r : Nat) : Bool :=
  if receive then (s.handedTo (256 + r)).isSome || s.hostp.bad.any (fun b => decide (b.ring = r))
  else decide (s.ringHeld (ringRegs false r) ≠ 0) || s.hostp.jobs.any (fun x => decide (x.ring = r))

/-- SYSCTL.ABORT of a ring (R555): `ABORTED` completions for fetched frames, or the frame being written dropped; EN clear
and the vector raised. -/
def State.abortRing (s : State) (receive : Bool) (r : Nat) : State :=
  let g := ringRegs receive r
  let s1 :=
    if receive then
      let t := { s with hostp := { s.hostp with bad := s.hostp.bad.filter (fun b => decide (b.ring ≠ r)) } }
      match t.handedTo (256 + r) with
      | some x => (t.finishHanded x).regLost x.2.pkt whyEgress
      | none => t
    else
      let mine := s.hostp.jobs.filter (fun x => decide (x.ring = r))
      let t := { s with hostp := { s.hostp with jobs := s.hostp.jobs.filter (fun x => decide (x.ring ≠ r)) } }
      mine.foldl (fun u x => if u.cqRoom g = 0 then u else u.writeCq g { x with status := txAborted }.completion) t
  (s1.wr g.ctrl (setBits (s1.rd g.ctrl) 31 1 0)).raise (s.ringVector g)

/-! ### Root-complex accesses and the link (R546, R556, R628) -/

/-- RC_ACCESS (R546, R556): a write of RC_DATA starts the access; in endpoint mode it is refused. -/
def execRcAccess (value : Word) (s : State) : Host.Outcome State Fault Refusal :=
  .next (s.ownWrite A.HOSTP_RC_DATA (.rcAccess value) (fun u =>
    if u.fld F.HOSTP_CFG_MODE = 1 ∨ u.flag F.HOSTP_RC_STATUS_BUSY then u.refuse A.HOSTP_RC_DATA .cfgRange
    else
      let v := ((u.wr A.HOSTP_RC_DATA value).setFld F.HOSTP_RC_STATUS_BUSY 1).setFld F.HOSTP_RC_STATUS_RESULT 0
      { v with hostp := { v.hostp with rcSince := u.time.tick } }))

/-- RC_ACCESS_DONE (R556): the access ends; a read that is `DONE` brings the endpoint's data, and `TIMEOUT` comes after 50 ms. -/
def execRcAccessDone (result : RcResult) (data : Word) (s : State) : Host.Outcome State Fault Refusal :=
  s.whenWorks hostpBlock <|
  if s.flag F.HOSTP_RC_STATUS_BUSY ∧ (result = .timeout → s.hostp.rcSince.toNat + 50 * Config.ticksPerMs ≤ s.now) then
    let code := match result with
      | .done => 1
      | .ur => 2
      | .ca => 3
      | .timeout => 4
    let s1 := (s.setFld F.HOSTP_RC_STATUS_BUSY 0).setFld F.HOSTP_RC_STATUS_RESULT code
    .next (if result = .done ∧ ¬ s.flag F.HOSTP_RC_ADDR_HI_WR then s1.wr A.HOSTP_RC_DATA data else s1)
  else .next s

/-- A power state that the link may be in (R544, R556): L1 and its substates as PM_CFG allows, L2. -/
def State.pmLegal (s : State) (pm : Nat) : Bool :=
  match pm with
  | 0 | 4 => true
  | 1 => s.flag F.HOSTP_PM_CFG_L1_EN
  | 2 | 3 => s.flag F.HOSTP_PM_CFG_L1_EN && s.flag F.HOSTP_PM_CFG_L1SS_EN
  | _ => false

/-- PCIE_LINK_UP (R544, R556): the link has trained, within MAX_GEN, at width 1 or 2, and is in power state `pm`; `msix` is the host's
MSI-X Enable. A link that is up reports a change in the same way. -/
def execPcieLinkUp (gen width pm : BitVec 3) (ltssm : BitVec 6) (msix : Bool) (s : State) :
    Host.Outcome State Fault Refusal :=
  if s.fld F.HOSTP_CFG_MODE ≠ 0 ∧ s.takesWork hostpBlock ∧ 1 ≤ gen.toNat ∧ gen.toNat ≤ s.fld F.HOSTP_CFG_MAX_GEN ∧
      (width = 1 ∨ width = 2) ∧ s.pmLegal pm.toNat then
    let v := 2 ^ 31 + gen.toNat * 2 ^ 24 + width.toNat * 2 ^ 20 + pm.toNat * 2 ^ 16 + ltssm.toNat
    .next { s.wr A.HOSTP_LINK (BitVec.ofNat 32 v) with hostp := { s.hostp with msixEnable := msix } }
  else .next s

/-- PCIE_LINK_DOWN (R628): LINK.UP clears; vectors routed to the host are dropped and counted from then on. -/
def execPcieLinkDown (s : State) : Host.Outcome State Fault Refusal :=
  s.whenWorks hostpBlock <|
  .next { s.wr A.HOSTP_LINK 0 with hostp := { s.hostp with msixEnable := false } }

/-- A HOSTP MSI-X mask clears: a vector that was held is sent (R628). -/
def State.unmask (s : State) (v : Nat) : State :=
  let a := A.HOSTP_MSIX_PBA (v / 32)
  if (s.rd a).getLsbD (v % 32) ∧ ¬ s.flag (F.HOSTP_MSIX_CTRL_MASK v) then
    (s.wr a (setBits (s.rd a) (v % 32) 1 0)).msiSend v
  else s

end Sys2Proof.Machine
end

