-- ==== Sys2Proof/Machine/Dram.lean ====
section
/-! DEFINITION. The meanings of the DRAMC commands (spec/15_wired_ports_dram.md R559 to R567) and the host's accesses of memory
through BAR2 (spec/03_startup_image.md R126 to R128). -/

namespace Sys2Proof.Machine

/-- DRAM is in use: trained and not in self-refresh. -/
def State.dramReady (s : State) : Bool := s.flag F.DRAMC_STATUS_TRAINED && !s.flag F.DRAMC_STATUS_SELF_REFRESH

/-- The rank that an address lies in (R560). -/
def State.rankOf (s : State) (a : Nat) : Nat :=
  min 1 ((a - 0x100000000) / max 1 (s.fld F.DRAMC_STATUS_CAP_MIB * 0x100000 / max 1 (s.fld F.DRAMC_CFG_RANKS)))

/-- A rank is accessed, and leaves power-down (R561, R562). -/
def State.wakeRank (s : State) (k : Nat) : State :=
  let pd := s.fld F.DRAMC_STATUS_PD
  { s.setFld F.DRAMC_STATUS_PD (if pd.testBit k then pd - 2 ^ k else pd) with
    dram := { s.dram with used := sput (fun _ => 0) s.dram.used k s.time.tick } }

/-- Rank k has been idle for PD_IDLE_NS (R562). -/
def State.rankIdle (s : State) (k : Nat) : Bool :=
  decide ((sget (fun _ => (0 : DWord)) s.dram.used k).toNat * 1000 + s.fld F.DRAMC_PD_CFG_PD_IDLE_NS * Config.ticksPerUs ≤ s.now * 1000)

/-- A scrub pass may end: SCRUB_HOURS after the last (R563). -/
def State.scrubDue (s : State) : Bool :=
  decide (s.dram.scrubbed.toNat + s.fld F.DRAMC_SCRUB_SCRUB_HOURS * (3600000 * Config.ticksPerMs) ≤ s.now)

/-- DRAMC serves a request of master m (R560 to R563): with ECC, a write narrower than a word is a read-modify-write and counts
as two requests; an uncorrectable read takes a bus error at a core and answers 0 to the host. `upset` is the error that a read of
the request meets. -/
def State.dramServe (s : State) (m : Master) (x : HostAccess) (upset : Option DramUpset) : State :=
  let ecc := s.flag F.DRAMC_CFG_ECC_EN
  let rmw := x.write && ecc && (decide (x.addr % 8 ≠ 0) || decide (x.data.length % 8 ≠ 0))
  let bad := if ecc ∧ (rmw ∨ ¬ x.write) then upset else none
  let s0 := s.wakeRank (s.rankOf x.addr)
  let s1 := match bad with
    | some u => s0.dramError u false
    | none => s0
  if x.write then (((s1.count C.DRAMC_WRITES).countIf rmw C.DRAMC_READS).countIf rmw C.DRAMC_RMW).dmaWrite x.addr x.data
  else
    let s2 := s1.count C.DRAMC_READS
    if bad.any (fun u => u.double) then s2.bounce m false 0
    else s2.answer (BitVec.ofNat 64 (leNat (s.dmaBytes x.addr (min x.size 8))))

/-- A request for device memory other than DRAM (R124, R125, R127, R663): what no memory holds is unmapped; a read of a poisoned
word takes a bus error at a core and answers 0 to the host; the key-store backing bank reads 0 (R586), and discards the host's
writes. -/
def State.sramServe (s : State) (m : Master) (x : HostAccess) : State :=
  let bank := fun i => s.hitsKeyBank (x.addr + i) 1
  let hidden := fun i => decide (m = .host) && bank i
  if ¬ s.mapped x.addr then s.unmappedAccess m x.write x.addr
  else if x.write then
    if (List.range x.data.length).any hidden then
      (List.range x.data.length).foldl (fun t i => if hidden i then t else t.dmaWrite (x.addr + i) [x.data.getD i 0]) s
    else s.dmaWrite x.addr x.data
  else if (List.range (min x.size 8)).any (fun i => s.poisoned (x.addr + i)) then s.bounce m false 0
  else
    let b := s.dmaBytes x.addr (min x.size 8)
    (s.logDma x.addr (min x.size 8)).answer
      (BitVec.ofNat 64 (leNat ((List.range b.length).map (fun i => if bank i then 0 else b.getD i 0))))

/-- A request that cannot be served yet: DRAM is out of use or its branch is stopped (R682), or memory is closed (R73). The
host's access of closed retention SRAM is answered (R74). -/
def State.memWaits (s : State) (m : Master) (x : HostAccess) : Bool :=
  (s.dark && !(decide (m = .host) && inRetention x.addr && decide (s.power.mode = .sleepEntry))) ||
  (s.inDram x.addr && (!s.dramReady || !s.takesWork 0x0B))

/-- A memory request of master m is served (R74, R126, R561). -/
def State.memServe (s : State) (m : Master) (x : HostAccess) (upset : Option DramUpset) : State :=
  if s.dark then s.closedAccess x.write
  else if s.inDram x.addr then s.dramServe m x upset
  else s.sramServe m x

/-- The state once the oldest host access that HOSTP has received is served (R128); none while there is none, or it waits. -/
def State.bar2Served (s : State) : Option State :=
  match s.bar2 with
  | x :: rest => if s.memWaits .host x then none else some ({ s with bar2 := rest }.memServe .host x none)
  | [] => none

/-- Serve the host accesses received, oldest first, up to `n` of them. -/
def State.bar2Drain : Nat → State → State
  | 0, s => s
  | n + 1, s =>
    match s.bar2Served with
    | some t => State.bar2Drain n t
    | none => s

/-- The device address that a request of master m names (R126, R546, R600): the host's is an offset in BAR2 in endpoint mode, and a bus address
in root-complex mode, where only shared SRAM, retention SRAM and DRAM are supported. The debug port's lies within its reach, to which the
key-store backing bank belongs at level F only. -/
def State.requestAddr (s : State) (m : Master) (write : Bool) (addr : BitVec 36) : Option Nat :=
  match m with
  | .core _ => some addr.toNat
  | .debug => if s.granted m write addr.toNat ∧ (s.debugReach = .f ∨ ¬ s.hitsKeyBank addr.toNat 8) then some addr.toNat else none
  | .host =>
    match s.fld F.HOSTP_CFG_MODE with
    | 1 => some (s.bar2Addr (addr.setWidth 26))
    | 2 => if s.mapped addr.toNat then some addr.toNat else none
    | _ => none

/-- DRAM_REQUEST (R126, R128, R546, R560 to R563): a memory request is served; the host's earlier requests are served first. An
unsupported request, or one of a host that is not there, does nothing. -/
def execDramRequest (m : Master) (write : Bool) (addr : BitVec 36) (data : List Byte) (size : Nat)
    (upset : Option DramUpset) (s : State) : Host.Outcome State Fault Refusal :=
  let x := (s.requestAddr m write addr).map (fun a => ({ write := write, addr := a, size := size, data := data } : HostAccess))
  match m, x with
  | _, none => .next s
  | .core _, some x | .debug, some x => .next (if s.memWaits m x then s else s.memServe m x upset)
  | .host, some x =>
    let t := State.bar2Drain s.bar2.length s
    .next (if t.bar2 ≠ [] ∨ t.memWaits m x then { t with bar2 := t.bar2 ++ [x] } else t.memServe m x upset)

/-- DRAM_POWER_DOWN (R562): a rank has been idle for PD_IDLE_NS. -/
def execDramPowerDown (rank : Fin 2) (s : State) : Host.Outcome State Fault Refusal :=
  s.whenWorks 0x0B <|
  if s.dramReady ∧ s.fld F.DRAMC_PD_CFG_PD_IDLE_NS ≠ 0 ∧ rank.val < s.fld F.DRAMC_CFG_RANKS ∧ s.rankIdle rank.val then
    .next (s.setFld F.DRAMC_STATUS_PD (s.fld F.DRAMC_STATUS_PD ||| 2 ^ rank.val))
  else .next s

/-- DRAM_SCRUB (R563): the scrubber, which reads all of DRAM once every SCRUB_HOURS, ends a pass; `upsets` lists the errors it has
found. -/
def execDramScrub (upsets : List DramUpset) (s : State) : Host.Outcome State Fault Refusal :=
  s.whenWorks 0x0B <|
  if s.dramReady ∧ s.fld F.DRAMC_SCRUB_SCRUB_HOURS ≠ 0 ∧ s.scrubDue then
    let s0 := { s with dram := { s.dram with scrubbed := s.time.tick } }
    .next ((if s.flag F.DRAMC_CFG_ECC_EN then upsets else []).foldl (fun x u =>
      (x.1.dramError u (!x.2.contains (upsetRow u)), if u.double then x.2 else upsetRow u :: x.2)) (s0.count C.DRAMC_SCRUB_PASSES, [])).1
  else .next s

/-- RETRAIN (R565, R566). -/
def execRetrain (s : State) : Host.Outcome State Fault Refusal :=
  .next (s.ownWrite A.DRAMC_RETRAIN .retrain (fun u =>
    if u.flag F.DRAMC_STATUS_TRAINED ∨ u.flag F.DRAMC_STATUS_RETRAINING then u.refuse A.DRAMC_RETRAIN .cfgRange
    else (u.setFld F.DRAMC_STATUS_RETRAINING 1).setFld F.DRAMC_STATUS_TRAIN_RESULT 0))

/-- RETRAIN_DONE (R565): TRAINED is set, or `DRAM_TRAIN` is reported. -/
def execRetrainDone (ok : Bool) (s : State) : Host.Outcome State Fault Refusal :=
  s.whenWorks 0x0B <|
  if s.flag F.DRAMC_STATUS_RETRAINING then
    let s1 := s.setFld F.DRAMC_STATUS_RETRAINING 0
    .next (if ok then s1.dramUp.setFld F.DRAMC_STATUS_TRAIN_RESULT 1 else s1.setFld F.DRAMC_STATUS_TRAIN_RESULT 2)
  else .next s

/-- SYSCTL.ABORT of DRAMC (R565): queued reads end as an uncorrectable read does, uncounted, and queued writes are discarded; DRAM goes
into self-refresh, out of use until it is retrained; the completion vector is raised. -/
def State.abortDramc (s : State) : State :=
  let (mine, rest) := s.bar2.partition (fun x => s.inDram x.addr)
  let s1 := mine.foldl (fun t x => if x.write then t else t.bounce .host false 0) { s with bar2 := rest }
  ((s1.setFld F.DRAMC_STATUS_TRAINED 0).setFld F.DRAMC_STATUS_SELF_REFRESH 1).raiseUnit .dramc 0

end Sys2Proof.Machine
end

