-- ==== Sys2Proof/Machine/Threads.lean ====
section
/-! DEFINITION. The meanings of the thread commands of DISPATCH (spec/17_control_complex.md R614 to R629, R640 to
R645). -/

namespace Sys2Proof.Machine

/-- Free thread t (R615): its completion list is discarded. -/
def State.freeThread (s : State) (t : Nat) : State :=
  (((s.endWait t).setCompl t []).modThx t (fun x => { x with exiting := false })).setThState t thFree

/-- Thread t becomes READY at the tail of its level (R615). -/
def State.toTail (s : State) (t : Nat) : State :=
  let s1 := s.setThState t thReady
  { s1 with disp := { s1.disp with ready := s1.disp.ready.filter (· ≠ t) ++ [t] } }

/-- The READY thread that core c takes next (R617): highest priority, oldest within a level; a thread still counted on
another core waits there. -/
def State.pickReady (s : State) (c : Nat) : Option Nat :=
  (s.disp.ready.filter (fun t => s.allows t c && (match s.coreOf t with | some k => decide (k = c) | none => true))).foldl
    (fun best t =>
      match best with
      | none => some t
      | some b => if s.prio b < s.prio t then some t else some b) none

/-- Take the thread off core c at its NEXT read (R615, R616): an EXIT frees it, and a RUNNING thread that this core may
not keep becomes READY. Answers the thread that may simply run on. -/
def State.takeOff (s : State) (c : Nat) : Option Nat × State :=
  let k := s.core c
  match k.cur with
  | none => (none, s)
  | some t =>
    if (s.thx t).exiting then (none, s.freeThread t)
    else if s.thState t = thRunning then
      if ¬ s.coreAble c ∨ ¬ s.allows t c then
        (none, s.toTail t)
      else (some t, s)
    else (none, s)

/-- A MIGRATING thread has come off its old core (R628): it is placed; one that waits goes on waiting, unless the flags
it holds satisfy its wait. -/
def State.landed (s : State) (t : Nat) : State :=
  let kind := s.fld (F.DISPATCH_TH_WAIT_WAIT_KIND t)
  let m := s.rd (A.DISPATCH_TH_MASK t)
  let w := s.setThState t thWaiting
  if kind = 0 then s.place t
  else if kind = waitEvents ∧ s.evSatisfied t m (s.thx t).waitAll then
    (w.takeEvents t m (s.thx t).consume).wake t resDone
  else w

/-- NEXT_READ (R615 to R617, R620, R628, R640). -/
def execNextRead (core : Fin 9) (s : State) : Host.Outcome State Fault Refusal :=
  s.whenUp <|
  let c := core.val
  let old := (s.core c).cur
  let wasMigrating := match old with
    | some t => decide (s.thState t = thMigrating) && !(s.thx t).exiting
    | none => false
  let (keep, s1) := s.takeOff c
  let best := if s1.coreAble c then s1.pickReady c else none
  let next := match keep, best with
    | some t, some b => if s1.prio t < s1.prio b then some b else some t
    | some t, none => some t
    | none, b => b
  -- a running thread that a higher one displaces goes to the tail of its level
  let s2 := match keep with
    | some t =>
      if next = some t then s1
      else (s1.toTail t).count (C.DISPATCH_PREEMPTS c)
    | none => s1
  let s3 := match next with
    | some n => ((s2.unlist n).setThState n thRunning).setFld (F.DISPATCH_TH_W0_LAST_CORE n) c
    | none => s2
  let s4 := s3.modCore c (fun k => { k with
    cur := next, notified := false, since := if next = old then k.since else s.time.tick
    busyFrom := if next = old then k.busyFrom else s.time.tick })
  let s5 := if next = old then s4
    else ((s4.count (C.DISPATCH_BUSY_CYCLES c)
      (s.busyCycles c)).count (C.DISPATCH_SWITCHES c))
  -- the thread that came off: a MIGRATING one is placed, a READY one may go to another core
  let s6 := match old with
    | some t =>
      if next = some t then s5
      else if wasMigrating then s5.landed t
      else if s5.thState t = thReady then s5.placeNotify t else s5
    | none => s5
  .next (s6.answer (match next with
    | some n => BitVec.ofNat 64 n
    | none => BitVec.ofNat 64 (2 ^ 31)))

/-- End an operation of the thread on core c with a result (R621, R640). -/
def State.opResult (s : State) (c res : Nat) : State :=
  match (s.core c).cur with
  | some t => s.modThx t (fun x => { x with result := res })
  | none => s

/-- ITEM of the thread on core c. -/
def State.selfItem (s : State) (c : Nat) : DWord :=
  match (s.core c).cur with
  | some t => (s.thx t).item
  | none => 0

/-- Block the thread on core c (R615): WAITING, its core notified, on the delay list unless it waits without limit, and
among the waiters of its queue. A MIGRATING thread keeps that state until its core's NEXT read (R628); a SUSPENDED one
that is still on its core does not wait (notes/assumptions/130.md). -/
def State.block (s : State) (c t kind q : Nat) (mask : Word) (wake : Option Nat) : State :=
  if s.thState t = thSuspended then s.notify c
  else
    let u := s.unlist t
    let s1 := if s.thState t = thMigrating then u else u.setThState t thWaiting
    let s2 := (s1.wr (A.DISPATCH_TH_WAIT t) (BitVec.ofNat 32 (kind * 2 ^ 28 + q))).wr (A.DISPATCH_TH_MASK t) mask
    let s3 := match wake with
      | some w =>
        let r := s2.wr64 (A.DISPATCH_TH_WAKE_LO t) (A.DISPATCH_TH_WAKE_HI t) w
        { r with disp := { r.disp with delay := r.disp.delay ++ [t] } }
      | none => s2
    let s4 := if kind = waitQueue then
        State.syncWaiters { s3 with disp := { s3.disp with waiters := s3.disp.waiters ++ [(q, t)] } } q
      else s3
    s4.notify c

/-- The wake time of a timeout in µs from now; 0xFFFF_FFFF waits without limit (R621). -/
def State.deadlineOf (s : State) (us : Word) : Option Nat :=
  if us = 0xFFFFFFFF then none else some (s.now + us.toNat * Config.ticksPerUs)

/-- YIELD (R621): the core is notified only if another eligible thread of equal or higher priority waits. -/
def execYieldOp (core : Fin 9) (s : State) : Host.Outcome State Fault Refusal :=
  s.whenUp <|
  let c := core.val
  match (s.core c).cur with
  | none => .next s
  | some t =>
    let s1 := s.opResult c resDone
    if s.thState t ≠ thRunning ∧ s.thState t ≠ thReady then .next s1
    else match State.pickReady { s1 with disp := { s1.disp with ready := s1.disp.ready.filter (· ≠ t) } } c with
    | some b =>
      if s1.prio t ≤ s1.prio b then .next ((s1.toTail t).notify c) else .next s1
    | none => .next s1

/-- EXIT (R615). -/
def execExitOp (core : Fin 9) (s : State) : Host.Outcome State Fault Refusal :=
  s.whenUp <|
  match (s.core core.val).cur with
  | none => .next s
  | some t =>
    if s.thState t = thSuspended ∨ s.thState t = thFree then .next s
    else .next ((s.modThx t (fun x => { x with exiting := true })).notify core.val)

/-- WAIT_EV (R621, R623). -/
def execWaitEv (core : Fin 9) (s : State) : Host.Outcome State Fault Refusal :=
  s.whenUp <|
  let c := core.val
  let m := (s.core c).arg0
  let us := (s.core c).arg1
  let all := (s.selfItem c).getLsbD 0
  let consume := (s.selfItem c).getLsbD 1
  match (s.core c).cur with
  | none => .next s
  | some t =>
    if m = 0 then .next (s.opResult c resZeroLength)
    else if s.evSatisfied t m all then .next ((s.takeEvents t m consume).opResult c resDone)
    else if us = 0 then .next (s.opResult c resTimeout)
    else
      let s1 := s.modThx t (fun x => { x with waitAll := all, consume := consume })
      .next (s1.block c t waitEvents 0 m (s.deadlineOf us))

/-- SLEEP_UNTIL (R621, R624). -/
def execSleepUntil (core : Fin 9) (s : State) : Host.Outcome State Fault Refusal :=
  s.whenUp <|
  let c := core.val
  let w := (s.selfItem c).toNat
  match (s.core c).cur with
  | none => .next s
  | some t => if w ≤ s.now then .next (s.opResult c resDone) else .next (s.block c t waitSleep 0 0 (some w))

/-- POST (R621, R625). -/
def execPost (core : Fin 9) (s : State) : Host.Outcome State Fault Refusal :=
  s.whenUp <|
  let c := core.val
  let q := (s.core c).arg0.toNat
  if 255 < q then .next (s.opResult c resCfgRange)
  else
    let (r, s1) := s.mqPost q (s.selfItem c)
    .next (s1.opResult c r)

/-- RECV (R621, R626). -/
def execRecv (core : Fin 9) (s : State) : Host.Outcome State Fault Refusal :=
  s.whenUp <|
  let c := core.val
  let q := (s.core c).arg0.toNat
  let us := (s.core c).arg1
  match (s.core c).cur with
  | none => .next s
  | some t =>
    if 255 < q ∨ ¬ s.flag (F.DISPATCH_MQ_W0_EN q) then .next (s.opResult c resCfgRange)
    else match s.mqEntries q with
      | e :: rest => .next (((s.setMq q rest).modThx t (fun x => { x with item := e })).opResult c resDone)
      | [] =>
        if us = 0 then .next (s.opResult c resEmpty)
        else .next (s.block c t waitQueue q 0 (s.deadlineOf us))

/-- TAKE_COMPL (R621, R627). -/
def execTakeCompl (core : Fin 9) (s : State) : Host.Outcome State Fault Refusal :=
  s.whenUp <|
  let c := core.val
  match (s.core c).cur with
  | none => .next s
  | some t =>
    match (s.thx t).compl with
    | e :: rest => .next (((s.setCompl t rest).modThx t (fun x => { x with item := e })).opResult c resDone)
    | [] => .next (s.opResult c resEmpty)

/-- A thread operation with its target in ARG0 (R621). -/
def State.onThread (s : State) (c : Nat) (f : Nat → State) : State :=
  let t := (s.core c).arg0.toNat
  if 1023 < t then s.opResult c resCfgRange else f t

/-- SET_EV (R621). -/
def execSetEv (core : Fin 9) (s : State) : Host.Outcome State Fault Refusal :=
  s.whenUp <|
  let m := (s.core core.val).arg1
  .next (s.onThread core.val (fun t =>
    if m = 0 then s.opResult core.val resZeroLength else (s.setEvents t m).opResult core.val resDone))

/-- CLR_EV (R621): a flag that an asserted level holds is set again (R637). -/
def execClrEv (core : Fin 9) (s : State) : Host.Outcome State Fault Refusal :=
  s.whenUp <|
  let m := (s.core core.val).arg1
  .next (s.onThread core.val (fun t =>
    if m = 0 then s.opResult core.val resZeroLength
    else (s.wr (A.DISPATCH_TH_EVENTS t) ((s.rd (A.DISPATCH_TH_EVENTS t) &&& ~~~m) ||| s.heldFlags t)).opResult core.val
      resDone))

/-- START (R615, R643). Levels that are asserted hold their flags on a thread that was FREE (R637). -/
def execStart (core : Fin 9) (s : State) : Host.Outcome State Fault Refusal :=
  s.whenUp <|
  .next (s.onThread core.val (fun t =>
    if s.thState t = thFree ∨ s.thState t = thSuspended then
      let s1 := s.wr (A.DISPATCH_TH_EVENTS t) (s.rd (A.DISPATCH_TH_EVENTS t) ||| s.heldFlags t)
      (((s1.setFld (F.DISPATCH_TH_W0_ABORTED t) 0).setFld (F.DISPATCH_TH_W0_FAULTED t) 0).place t).opResult core.val resDone
    else s.opResult core.val resBadState))

/-- SUSPEND (R615). -/
def execSuspend (core : Fin 9) (s : State) : Host.Outcome State Fault Refusal :=
  s.whenUp <|
  .next (s.onThread core.val (fun t =>
    if s.thState t = thFree then s.opResult core.val resBadState else (s.suspend t).opResult core.val resDone))

/-- DELETE (R615). -/
def execDelete (core : Fin 9) (s : State) : Host.Outcome State Fault Refusal :=
  s.whenUp <|
  .next (s.onThread core.val (fun t =>
    if s.thState t = thSuspended then (s.freeThread t).opResult core.val resDone
    else s.opResult core.val resBadState))

/-- The wake time of thread t (R643). -/
def State.wakeAt (s : State) (t : Nat) : Nat := s.rd64 (A.DISPATCH_TH_WAKE_LO t) (A.DISPATCH_TH_WAKE_HI t)

/-- Thread t's wake time has come. A set or a post in the tick of a timeout comes before it (R623, R626), so a timeout
waits for the next tick. -/
def State.wakeDue (s : State) (t : Nat) : Bool :=
  if s.fld (F.DISPATCH_TH_WAIT_WAIT_KIND t) = waitSleep then decide (s.wakeAt t ≤ s.now) else decide (s.wakeAt t < s.now)

/-- Thread t is the first of the delay list whose time has come: sorted by wake time, then by thread (R624). -/
def State.wakeFirst (s : State) (t : Nat) : Bool :=
  s.disp.delay.all (fun u => !s.wakeDue u || decide (s.wakeAt t < s.wakeAt u) || decide (s.wakeAt t = s.wakeAt u ∧ t ≤ u))

/-- WAKE_TIME (R623, R624, R626): a sleep ends `DONE`, a wait with a timeout `TIMEOUT`. -/
def execWakeTime (thread : Fin 1024) (s : State) : Host.Outcome State Fault Refusal :=
  s.whenUp <|
  let t := thread.val
  if t ∈ s.disp.delay ∧ s.wakeDue t ∧ s.wakeFirst t then
    .next (s.wake t (if s.fld (F.DISPATCH_TH_WAIT_WAIT_KIND t) = waitSleep then resDone else resTimeout))
  else .next s

/-- SLICE_END (R618): the thread has run SLICE_US without a break and a READY thread of its priority waits for the
core. -/
def execSliceEnd (core : Fin 9) (s : State) : Host.Outcome State Fault Refusal :=
  s.whenUp <|
  let c := core.val
  let k := s.core c
  let us := s.fld F.DISPATCH_CTRL_SLICE_US
  match k.cur with
  | none => .next s
  | some t =>
    if us ≠ 0 ∧ s.thState t = thRunning ∧ k.since.toNat + us * Config.ticksPerUs ≤ s.now ∧
        s.disp.ready.any (fun r => s.allows r c && decide (s.prio r = s.prio t)) then
      .next (((s.toTail t).notify c).count (C.DISPATCH_PREEMPTS c))
    else .next s

/-- A write of a thread's word 0 (R620, R643): priority at once; an AFFINITY that leaves no active core is refused; a
READY thread is placed again, a RUNNING thread whose core is excluded is MIGRATING. -/
def State.writeThread0 (s : State) (t : Nat) (w : Word) : State :=
  let aff := getBits w 0 9
  if aff &&& s.fld F.DISPATCH_CORE_MAP_ACTIVE = 0 then s.refuse (A.DISPATCH_TH_W0 t) .cfgRange
  else
    let s1 := (s.setFld (F.DISPATCH_TH_W0_PRIO t) (getBits w 24 5)).setFld (F.DISPATCH_TH_W0_AFFINITY t) aff
    if s1.thState t = thReady then s1.placeNotify t
    else if s1.thState t = thRunning then
      match s1.coreOf t with
      | some c =>
        if aff.testBit c then s1.syncCore c
        else ((s1.setThState t thMigrating).notify c).count (C.DISPATCH_MIGRATIONS_OUT c)
      | none => s1
    else s1

/-- AFFINITY_WRITE (R615, R620). -/
def execAffinityWrite (thread : Fin 1024) (value : Word) (s : State) : Host.Outcome State Fault Refusal :=
  s.whenUp <|
  .next (s.writeThread0 thread.val value)

/-- VECTOR_RAISE (R627, R628). -/
def execVectorRaise (vector : Fin 512) (s : State) : Host.Outcome State Fault Refusal :=
  s.whenUp (.next (s.raise vector.val))

/-- COMPL_LATCH_DRAIN (R627): room has appeared for a latched item. -/
def execComplLatchDrain (vector : Fin 512) (s : State) : Host.Outcome State Fault Refusal :=
  s.whenUp <|
  let v := vector.val
  let t := s.fld (F.DISPATCH_VROUTE_THREAD v)
  match sget (fun _ => none) s.disp.latches v with
  | some (k, time) =>
    if s.complRoom t then
      .next (State.setCompl { s with disp := { s.disp with latches := sput (fun _ => none) s.disp.latches v none } } t
        ((s.thx t).compl ++ [complItem v k time]))
    else .next s
  | none => .next s

/-- SUP_ITEM_POST (R629): the queue has room for the oldest item that waits. -/
def execSupItemPost (s : State) : Host.Outcome State Fault Refusal :=
  s.whenUp <|
  let q := s.fld F.DISPATCH_CTRL_SUP_QUEUE
  match s.disp.sup with
  | item :: rest =>
    if s.flag (F.DISPATCH_MQ_W0_EN q) ∧
        ((s.bestWaiter q).isSome ∨ (s.mqEntries q).length < s.fld (F.DISPATCH_MQ_W0_DEPTH q)) then
      .next (State.mqPost { s with disp := { s.disp with sup := rest } } q item).2
    else .next s
  | [] => .next s

/-! ### The SELF window (R622, R640) -/

/-- Offset of a register of the SELF window, if address `a` lies in it. -/
def selfOffset (a : Nat) : Option Nat :=
  if 0x40090040 ≤ a ∧ a ≤ 0x40090060 then some (a - 0x40090000) else none

/-- A core's write of an operand register of its SELF window (R640). -/
def State.selfWrite (s : State) (c off : Nat) (v : Word) : State :=
  let setItem := fun (f : DWord → DWord) =>
    match (s.core c).cur with
    | some t => s.modThx t (fun x => { x with item := f x.item })
    | none => s
  if off = 0x4C then s.modCore c (fun k => { k with arg0 := v })
  else if off = 0x50 then s.modCore c (fun k => { k with arg1 := v })
  else if off = 0x54 then setItem (fun i => BitVec.ofNat 64 (i.toNat / 2 ^ 32 * 2 ^ 32 + v.toNat))
  else if off = 0x58 then setItem (fun i => BitVec.ofNat 64 (i.toNat % 2 ^ 32 + v.toNat * 2 ^ 32))
  else if off = 0x5C then s.opResult c resCfgRange
  else s

end Sys2Proof.Machine
end

