-- ==== Sys2Proof/Machine/Pigeon.lean ====
section
/-! DEFINITION. The meanings of the PIGEON commands (spec/17_control_complex.md R631 to R638, R646). -/

namespace Sys2Proof.Machine

/-- PROD_RESULT codes (R646). -/
def pigDone : Nat := 1
/-- PIG_FULL. -/
def pigFull : Nat := 2
/-- CFG_RANGE. -/
def pigRange : Nat := 3

/-- Report the outcome of a COMMIT write. -/
def State.prodResult (s : State) (n r : Nat) : State := s.setFld (F.PIGEON_PROD_RESULT_RESULT n) r

/-- The close of a COMMIT write (R632, R633): with the other bank not free the bank stays open. -/
def State.commitClose (s : State) (n : Nat) (f : PigFifo) : State :=
  if f.left ∨ ¬ f.otherFree (s.pigDepth n / 2) then (s.finishFifo n f).prodResult n pigFull
  else
    let (s1, f1) := s.closeBank n f
    (s1.finishFifo n f1).prodResult n pigDone

/-- COMMIT (R633): a record of COUNT items, then a close. -/
def execCommit (fifo : Fin 32) (value : Word) (s : State) : Host.Outcome State Fault Refusal :=
  s.whenUp <|
  let n := fifo.val
  let half := s.pigDepth n / 2
  let k := getBits value 0 15
  let close := value.getLsbD 31
  let f := (s.fifo n).settle half
  if ¬ s.flag (F.PIGEON_CFG_EN n) ∨ s.fld (F.PIGEON_CFG_PROD n) = 2 ∨ half < k then .next (s.prodResult n pigRange)
  else if k = 0 then .next (if close then s.commitClose n f else s.prodResult n pigDone)
  else if f.rest half < k ∨ maxRecords ≤ f.recs.length then .next (s.prodResult n pigFull)
  else
    let (s1, f1) := s.appendRec n f k
    -- a record that fills the bank has left it: a close then has nothing to fill
    .next (if close ∧ ¬ f1.left then s1.commitClose n f1 else (s1.finishFifo n f1).prodResult n pigDone)

/-- HW_RECORD (R633). -/
def execHwRecord (fifo : Fin 32) (items : List Word) (s : State) : Host.Outcome State Fault Refusal :=
  s.whenUp <|
  .next (s.hwRecord fifo.val items).2

/-- Report the outcome of a consumer operation. -/
def State.consResult (s : State) (n r : Nat) : State := s.setFld (F.PIGEON_CONS_STATUS_RESULT n) r

/-- POP (R635). -/
def execPop (fifo : Fin 32) (s : State) : Host.Outcome State Fault Refusal :=
  s.whenUp <|
  let n := fifo.val
  let f := s.fifo n
  match f.head with
  | some _ => .next ((s.finishFifo n { f with read := f.read + 1 } true).consResult n 1)
  | none => .next (s.consResult n 2)

/-- MARK (R635). -/
def execMark (fifo : Fin 32) (s : State) : Host.Outcome State Fault Refusal :=
  s.whenUp <|
  let n := fifo.val
  let f := s.fifo n
  .next ((s.finishFifo n { f with mark := some f.read }).consResult n 1)

/-- REWIND (R635). -/
def execRewind (fifo : Fin 32) (s : State) : Host.Outcome State Fault Refusal :=
  s.whenUp <|
  let n := fifo.val
  let f := s.fifo n
  match f.mark with
  | some m => .next ((s.finishFifo n { f with read := m } true).consResult n 1)
  | none => .next (s.consResult n 2)

/-- RELEASE (R635): the records before the read position are freed; a mark before it is discarded. End records of
sessions that waited for room follow (R450). -/
def execRelease (fifo : Fin 32) (s : State) : Host.Outcome State Fault Refusal :=
  s.whenUp <|
  let n := fifo.val
  let f := s.fifo n
  let g := { f with
    recs := f.recs.drop f.read
    read := 0
    mark := match f.mark with
      | some m => if m < f.read then none else some (m - f.read)
      | none => none }
  let s1 := (s.finishFifo n g true).consResult n 1
  .next (s1.flushEnds s1.tables.ends)

/-- LEVEL_AGE (R637): a record has been unread for AGE_US; the level is judged again. -/
def execLevelAge (fifo : Fin 32) (s : State) : Host.Outcome State Fault Refusal :=
  s.whenUp <|
  .next (s.finishFifo fifo.val (s.fifo fifo.val))

/-- FIFO_DISABLE (R646): a CFG write that only clears EN. -/
def execFifoDisable (fifo : Fin 32) (s : State) : Host.Outcome State Fault Refusal :=
  s.whenUp <|
  if s.flag (F.PIGEON_CFG_EN fifo.val) then .next (s.stopFifo fifo.val) else .next s

end Sys2Proof.Machine
end

