-- ==== Sys2Proof/Machine/Chirp.lean ====
section
/-! DEFINITION. The Nguord waveform: chirps, the LDPC code, the interleaver, the CRC and the symbols of a frame
(spec/09_nguord_phy.md R324 to R334). -/

namespace Sys2Proof.Machine

/-- A quotient rounded up. -/
def ceilDiv (a b : Nat) : Nat := (a + b - 1) / b

/-- Instantaneous frequency of a chirp of order K and value v in its chip c, in units of BW / 2^K from the centre (R324): an
up-chirp rises from −BW/2 + v and wraps, a down-chirp is its mirror. -/
def chirpFreq (order : Nat) (up : Bool) (v c : Nat) : Int :=
  let f : Int := ((v + c) % 2 ^ order : Nat) - (2 ^ order / 2 : Nat)
  if up then f else -f

/-! ### The code (R332, R333) -/

/-- Shifts of the data columns in each row of the base matrix; none is the zero block (R332). -/
def ngBase : List (List (Option Nat)) :=
  [[some 12, none, some 33, some 5], [none, some 27, some 8, none], [some 41, none, none, some 19], [some 3, some 46, none, none],
   [none, some 14, some 29, none], [some 22, none, none, some 37], [none, some 6, some 40, none], [some 30, none, some 17, some 44]]

/-- A block of the base matrix applied to 48 bits: bit i of the result is bit (i + v) mod 48 (R332). -/
def ngBlock (v : Option Nat) (d : BitVec 48) : BitVec 48 :=
  match v with
  | some n => d.rotateRight n
  | none => 0

/-- What the data columns of one row add up to. -/
def ngRowSum (row : List (Option Nat)) (d : BitVec 192) : BitVec 48 :=
  (List.range 4).foldl (fun x c => x ^^^ ngBlock (row.getD c none) (BitVec.ofNat 48 (d.toNat / 2 ^ (48 * c)))) 0

/-- Parity columns of the rows that remain, below a parity column of the staircase (R332). -/
def ngStairs (d : BitVec 192) : List (List (Option Nat)) → BitVec 48 → List (BitVec 48)
  | [], _ => []
  | row :: rest, p => (p ^^^ ngRowSum row d) :: ngStairs d rest (p ^^^ ngRowSum row d)

/-- Bit j of the parity of 192 data bits: codeword bit 192 + j (R332). -/
def ngParityBit (d : BitVec 192) (j : Nat) : Bool := ((ngStairs d ngBase 0).getD (j / 48) 0).getLsbD (j % 48)

/-- The number that bits spell, the first least significant. -/
def bitsNat : List Bool → Nat
  | [] => 0
  | b :: rest => b.toNat + 2 * bitsNat rest

/-- The sent bits of a codeword: its data bits, then `p` parity bits; the zero bits of the data are never sent (R333). -/
def ngSent (data : List Bool) (p : Nat) : List Bool :=
  let d := BitVec.ofNat 192 (bitsNat data)
  data ++ (List.range p).map (ngParityBit d)

/-- A received header codeword meets every check: its 128 parity bits are those of its 64 header bits (R332, R333). -/
def ngHeaderWord (w : BitVec 192) : Bool :=
  (List.range 128).all (fun j => w.getLsbD (64 + j) == ngParityBit (BitVec.ofNat 192 (w.toNat % 2 ^ 64)) j)

/-! ### Payload bits (R330, R331) -/

/-- Parity bits of a code rate. -/
def ngParity (cr : Nat) : Nat := [384, 192, 96].getD cr 96

/-- Bits of bytes, each least significant bit first. -/
def bitsOf (b : List Byte) : List Bool := b.flatMap (fun x => (List.range 8).map x.getLsbD)

/-- The CRC-16 of R330 over bits in transmission order, inverted. -/
def ngCrc (bits : List Bool) : BitVec 16 :=
  ~~~ bits.foldl (fun (x : BitVec 16) b => if x.msb = b then x <<< 1 else (x <<< 1) ^^^ 0x1021) 0xFFFF

/-- The bits of a payload: the PSDU and its CRC, or nothing (R330). -/
def ngPayloadBits (psdu : List Byte) : List Bool :=
  if psdu = [] then [] else bitsOf psdu ++ (List.range 16).map (ngCrc (bitsOf psdu)).getLsbD

/-! ### Symbols (R326, R327, R334) -/

/-- The words of one codeword: bit b of the word of symbol m is its sent bit b × M + m (R334). -/
def ngWords (order : Nat) (sent : List Bool) : List Nat :=
  let m := ceilDiv sent.length order
  (List.range m).map (fun i => bitsNat ((List.range order).map (fun b => sent.getD (b * m + i) false)))

/-- Gray decoding: the step of a word (R326). -/
def ngStep (order w : Nat) : Nat := (List.range order).foldl (fun g i => g ^^^ (w >>> i)) 0

/-- Values of the symbols that carry words, from the value of the symbol before (R326). -/
def ngValues (order : Nat) : Nat → List Nat → List Nat
  | _, [] => []
  | v, w :: rest => ((v + ngStep order w) % 2 ^ order) :: ngValues order ((v + ngStep order w) % 2 ^ order) rest

/-- The 64 header bits (R329). -/
def ngHeaderBits (cr : Nat) (ranging ackreq : Bool) (length link : Nat) : Nat :=
  cr % 4 * 4 + ranging.toNat * 16 + ackreq.toNat * 32 + length % 256 * 256 + link % 2 ^ 32 * 65536

/-- Values of the two network-code symbols (R327). -/
def ngCode (order net : Nat) : Nat × Nat := (net / 16 % 16 * 2 ^ (order - 4), net % 16 * 2 ^ (order - 4))

/-- A frame on air (R327): its chirps in order, each an up-chirp or not, with its value. -/
def ngChirps (order cr npre net : Nat) (ranging ackreq : Bool) (link : Nat) (psdu : List Byte) : List (Bool × Nat) :=
  let h := ngHeaderBits cr ranging ackreq psdu.length link
  let code := ngCode order net
  let bits := ngPayloadBits psdu
  let words := ngWords order (ngSent ((List.range 64).map h.testBit) 128) ++
    (List.range (ceilDiv bits.length 192)).flatMap (fun i =>
      ngWords order (ngSent ((bits.drop (192 * i)).take 192) (ngParity cr)))
  (List.range npre).map (fun i => (decide (i % 2 = 0), 0)) ++
    [(true, 2 ^ (order - 1)), (false, 2 ^ (order - 1)), (true, code.1), (true, code.2)] ++
    (ngValues order code.2 words).map (fun v => (true, v))

end Sys2Proof.Machine
end

