-- ==== Sys2Proof/Machine/RadioOps.lean ====
section
/-! DEFINITION. What the radio front ends compute: readiness, channel plans, calibration results, transmit power and the
formats of R178 (spec/04_radio_front_ends.md R144 to R177, spec/05 R178 to R185, spec/09 R347, R348). -/

namespace Sys2Proof.Machine

/-- What radio r holds beside its registers. -/
def State.radio (s : State) (r : Nat) : RadioSt := sget (fun _ => {}) s.air.radios r

/-- Update what radio r holds. -/
def State.modRadio (s : State) (r : Nat) (f : RadioSt → RadioSt) : State :=
  { s with air := { s.air with radios := smod (fun _ => {}) s.air.radios r f } }

/-- Block number of radio r (R5). -/
def radioBlock (r : Nat) : Nat := 0x90 + 0x10 * r

/-- Chains of radio r (R144). -/
def chainCount (r : Nat) : Nat := [4, 4, 8, 1].getD r 0

/-- The PPDU of radio r is on air. -/
def State.onAir (s : State) (r : Nat) : Bool :=
  match (s.radio r).air with
  | some x => decide (s.now < x.t1)
  | none => false

/-- Ticks from the end of a WLAN PPDU on radio r to its immediate response (R163). -/
def sifsOf (r : Nat) : Nat := (if r = 0 then 10 else 16) * Config.ticksPerUs

/-- End of a received PPDU, or the latest start of the immediate response that it may elicit (R146, R163, R377). -/
def State.rxStop (s : State) (r : Nat) : Nat :=
  if r = 3 then
    match s.ngr.rx with
    | some x => match x.hdr with
      | some h => if h.ackreq then x.endT + s.fld F.NGL_ACK_CFG_ACK_TURN_US * Config.ticksPerUs else x.endT
      | none => 0
    | none => 0
  else
    match (s.radio r).rx with
    | some x => if ¬ x.hdrOk then 0 else if x.elicits then x.endT + sifsOf r + 200 else x.endT
    | none => 0

/-- When the exchange of radio r ends: the PPDU that it sends or receives, and the immediate response that this one elicits
(R146). -/
def State.exchangeEnd (s : State) (r : Nat) : Nat :=
  max (s.rxStop r) (match (s.radio r).air with
    | some x => x.stop
    | none => 0)

/-- A PPDU that radio r sends or receives, or the immediate response that it elicits, is not over (R146). -/
def State.exchangeOn (s : State) (r : Nat) : Bool := decide (s.now < s.exchangeEnd r)

/-- A field of FEM_TIMING in ticks (R173: 10 ns units, 5 ticks each). -/
def State.femTicks (s : State) (f : Fld) : Nat := s.fld f * 5

/-- SW_LEAD in ticks. -/
def State.swLead (s : State) (r : Nat) : Nat := s.femTicks (F.RADIO_FEM_TIMING_SW_LEAD r)

/-- From when TR_TX is inactive after a transmission whose last sample leaves at t1 (R158): PA_LAG and 20 ns later. -/
def State.strobeEnd (s : State) (r t1 : Nat) : Nat := t1 + s.femTicks (F.RADIO_FEM_TIMING_PA_LAG r) + 10

/-- TR_TX of radio r is active (R158): the radio sends, or is about to, and does not receive. It is ready to receive when
LNA_EN is active again (notes/assumptions/101.md). -/
def State.strobing (s : State) (r : Nat) : Bool :=
  match (s.radio r).air with
  | some x => decide (x.t0 ≤ s.now + s.swLead r ∧ s.now < s.strobeEnd r x.t1)
  | none => false

/-- Chains that radio r uses: a write of CHAIN_EN counts from the end of the current PPDU (R151, R170). -/
def State.chainMask (s : State) (r : Nat) : Nat :=
  if r = 3 then 1 else if s.onAir r then (s.radio r).chains else s.fld (F.RADIO_CHAIN_EN_EN r)

/-- Radio r runs: its synthesiser is locked and no calibration runs (R146 to R149). -/
def State.radioRuns (s : State) (r : Nat) : Bool :=
  decide ((s.radio r).seq = .running) && s.flag (F.RADIO_SYNTH_STATUS_LOCK r) && s.takesWork (radioBlock r)

/-- The chains of radio r are awake: it neither dozes nor is still waking (R65, R163). -/
def State.chainsAwake (s : State) (r : Nat) : Bool :=
  !s.flag (F.RADIO_SYNTH_STATUS_DOZING r) && decide ((s.radio r).wakeAt ≤ s.now)

/-- Lock, every running calibration and the waking of the chains are complete, and no PPDU is on air (R163). While a
retune waits, only the exchange on air goes on (R146). -/
def State.radioReady (s : State) (r : Nat) : Bool :=
  s.radioRuns r && s.chainsAwake r && !s.onAir r && (!(s.radio r).retune || s.exchangeOn r)

/-- Radio r listens: it runs, does not doze and does not send, and no retune makes it deaf. -/
def State.listens (s : State) (r : Nat) : Bool :=
  s.radioRuns r && s.chainsAwake r && !s.strobing r && (!(s.radio r).retune || s.exchangeOn r)

/-! ### Channels (R144, R169, R348) -/

/-- A channel of a WLAN radio: on the raster, within the range, of a bandwidth that the radio has. -/
def wlanChannel (r bw c : Nat) : Bool :=
  let half := 10 * 2 ^ bw
  match r with
  | 0 => decide (bw ≤ 1) && (decide (2412 ≤ c ∧ c ≤ 2472 ∧ c % 5 = 2) || decide (c = 2484)) &&
      decide (2400 + half ≤ c ∧ c + half ≤ 2500)
  | 1 => decide (bw ≤ 3) && decide (c % 5 = 0) && decide (5150 + half ≤ c ∧ c + half ≤ 5925)
  | _ => decide (bw ≤ 4) && decide (c % 5 = 0) && decide (5925 + half ≤ c ∧ c + half ≤ 7125)

/-- A Nguord channel: both edges within 769 to 935 MHz (R348). -/
def ngChannel (bw freq : Nat) : Bool :=
  let c := freq * 40000000
  let half := 50000 * 2 ^ bw * 2 ^ 20
  decide (769000000 * 2 ^ 20 + half ≤ c ∧ c + half ≤ 935000000 * 2 ^ 20)

/-- Bandwidth code that SYNTH of radio r holds. -/
def State.synthBw (s : State) (r : Nat) : Nat :=
  if r = 3 then s.fld F.NGR_SYNTH_BW else s.fld (F.RADIO_SYNTH_BW r)

/-- Centre in MHz that SYNTH of radio r holds (R348: FREQ × 40 MHz ÷ 2^20 for Nguord). -/
def State.synthCentre (s : State) (r : Nat) : Nat :=
  if r = 3 then s.fld F.NGR_SYNTH_FREQ * 40 / 2 ^ 20 else s.fld (F.RADIO_SYNTH_CENTRE_MHZ r)

/-! ### Calibration results (R148, R151, R152) -/

/-- The calibrations that run together (R146, R148): filter bandwidth, offset, image rejection. -/
structure CalRun where
  filter : Bool
  offset : Bool
  image : Bool
  deriving DecidableEq, Repr

/-- All three: a start, a full calibration, tracking (R149, R150, R171). -/
def CalRun.all : CalRun := ⟨true, true, true⟩

/-- A result of the calibrations that ran is within the limits of R151; the Nguord radio calibrates receive only. -/
def calPasses (r : Nat) (k : CalRun) (c : CalResult) : Bool :=
  !(k.filter && c.filterBad) && !(k.offset && c.dcBad) &&
    (!k.image || (decide (30 ≤ c.irr.toNat) && (decide (r = 3) || decide (30 ≤ c.evm.toNat))))

/-- One chain's result: a chain that fails is calibrated once more, and a second failure sets FAILED and raises
`RF_CHAIN` (R151). -/
def State.chainResult (s : State) (r : Nat) (k : CalRun) (c : Nat) (res : CalResult × CalResult) : State :=
  let last := if calPasses r k res.1 then res.1 else res.2
  let ok := calPasses r k last
  if r = 3 then (if ok then s else s.present 0x12 (3 * 256 + c))
  else
    let s1 := s.setFld (F.RADIO_CHAIN_STATUS_FAILED r c) (bit !ok)
    let s2 := if k.image then
        (s1.setFld (F.RADIO_CHAIN_STATUS_IRR_DB r c) last.irr.toNat).setFld (F.RADIO_CHAIN_STATUS_EVM_DB r c) last.evm.toNat
      else s1
    if ok then s2 else s2.present 0x12 (r * 256 + c)

/-- EVM_OK of Radio 6 (R152). -/
def State.evalEvm (s : State) : State :=
  let en := s.fld (F.RADIO_CHAIN_EN_EN 2)
  s.setFld (F.RADIO_CAL_STATUS_EVM_OK 2)
    (bit ((List.range 8).all (fun c => !en.testBit c || decide (44 ≤ s.fld (F.RADIO_CHAIN_STATUS_EVM_DB 2 c)))))

/-- The results of a calibration of radio r: chains in parallel; with image rejection also the sensor reading, the
centre and EVM_OK (R148, R151, R152, R171). -/
def State.calResults (s : State) (r : Nat) (k : CalRun) (temp : Nat) (results : List (CalResult × CalResult)) : State :=
  let s1 := ((results.take (chainCount r)).zipIdx).foldl (fun t x => t.chainResult r k x.2 x.1) s
  if ¬ k.image then s1
  else
    let s2 := (s1.setFld (F.RADIO_CAL_STATUS_LAST_TEMP r) temp).modRadio r (fun x => { x with imgCentre := s.synthCentre r })
    if r = 2 then s2.evalEvm else s2

/-! ### Formats (R178, R182, R185) -/

/-- Word w of a peer's context, 0 without one. -/
def State.ctxWord (s : State) (sta w : Nat) : Word := (sget (fun _ => []) s.wmac.ctx sta).getD w 0

/-- The conditions of R185 for V-mode to a peer. -/
def State.vmodeOk (s : State) (sta : Nat) (t : TxRate) : Bool :=
  let v := s.ctxWord sta 9
  let bitOf := if t.mcs.toNat = 14 then 24 else 25
  v.getLsbD bitOf && decide (t.nss.toNat ≤ getBits v 26 3 + 1) && decide (t.bw.val ≤ getBits v 29 2 + 2) &&
    s.flag (F.RADIO_VEXT_CFG_TX_EN 2) && s.flag (F.RADIO_CAL_STATUS_EVM_OK 2)

/-- VHT combinations of bandwidth, MCS and streams up to four that IEEE 802.11 excludes (R179; notes/assumptions/102.md). -/
def vhtExcluded (b m n : Nat) : Bool :=
  decide ((b = 0 ∧ m = 9 ∧ n ≠ 3) ∨ (b = 2 ∧ m = 6 ∧ n = 3) ∨ (b = 3 ∧ m = 9 ∧ n = 3))

/-- The coding of a PPDU whose largest RU, or whole channel, has `tones` tones (R179): LDPC where the receiver supports it and
the format has it, else BCC where the format allows BCC; none where neither is left. -/
def codingOf (tones : Nat) (t : TxRate) : Option Coding :=
  let m := t.mcs.toNat
  let n := t.nss.toNat
  match t.fmt with
  | .dsss => some .plain
  | .ofdm => some .bcc
  | .vmode => if t.ldpc then some .ldpc else none
  | .ht => some (if t.ldpc then .ldpc else .bcc)
  | .vht => if t.ldpc then some .ldpc else if n ≤ 4 ∧ ¬ vhtExcluded t.bw.val m n then some .bcc else none
  | .he | .eht => if t.ldpc then some .ldpc else if tones ≤ 242 ∧ n ≤ 4 ∧ m ≤ 9 then some .bcc else none

/-- Tones of a whole channel of bandwidth code b. -/
def channelTones (b : Nat) : Nat := [242, 484, 996, 1992, 3984].getD b 3984

/-- Most users of a multi-user PPDU (R178): streams of MU-MIMO, or OFDMA users. -/
def maxUsers (r : Nat) (mimo : Bool) : Nat := if mimo then (if r = 2 then 8 else 4) else if r = 0 then 18 else 74

/-- Tones of the largest RU of what a command sends at a rate. -/
def AirKind.tones (k : AirKind) (t : TxRate) : Nat :=
  match k with
  | .mu _ n _ => n
  | _ => channelTones t.bw.val

/-- GI, LTF, STBC, ER SU, puncturing and DCM are options of the format (R178, R182; notes/assumptions/102.md). -/
def optionsOk (r : Nat) (t : TxRate) : Bool :=
  (decide (t.gi ≠ .short) || decide (t.fmt = .ht)) &&
  (!t.stbc || decide (t.fmt = .ht ∧ t.nss = 1)) &&
  (!t.er || decide (t.fmt = .he ∧ r ≤ 1)) &&
  (!t.dcm || decide (t.fmt = .he)) &&
  (!t.punct || decide ((t.fmt = .he ∨ t.fmt = .eht) ∧ 2 ≤ t.bw.val ∧ 1 ≤ r)) &&
  match t.fmt with
  | .he => true
  | .eht => decide (t.ltf ≠ .x1)
  | .vmode => decide (t.ltf ≠ .x1 ∧ t.gi ≠ .g32)
  | _ => decide (t.gi = .g08 ∨ t.gi = .short)

/-- A command may carry a rate of this format (R178, R182): a multi-user PPDU within the users of the table, and V-mode to one
peer alone. -/
def AirKind.carries (k : AirKind) (r : Nat) (t : TxRate) : Bool :=
  match k with
  | .mu mimo _ users => decide (users.length ≤ maxUsers r mimo) &&
      (decide (t.fmt = .he ∨ t.fmt = .eht) || (mimo && decide (t.fmt = .vht)))
  | .ppdu n _ => decide (t.fmt ≠ .vmode) || decide (n ≠ 0)
  | _ => decide (t.fmt ≠ .vmode)

/-- A transmit request is inside the table of R178, on the tuned channel and the chains in use, and has a coding (R179). -/
def State.formatOk (s : State) (r sta : Nat) (k : AirKind) (t : TxRate) : Bool :=
  let m := t.mcs.toNat
  let b := t.bw.val
  let n := t.nss.toNat
  decide (b ≤ maxBw r ∧ b ≤ s.synthBw r ∧ 1 ≤ n ∧ n ≤ chainCount r ∧ n ≤ popCount 8 (s.chainMask r)) &&
  optionsOk r t && k.carries r t && (codingOf (k.tones t) t).isSome &&
  match t.fmt with
  | .dsss => decide (r = 0 ∧ b = 0 ∧ n = 1)
  | .ofdm => decide (n = 1) && (decide (b = 0) || decide (1 ≤ r))
  | .ht => decide (r ≤ 1 ∧ b ≤ 1 ∧ m ≤ 31 ∧ n = m / 8 + 1)
  | .vht => decide (r = 1 ∧ m ≤ 9 ∧ n ≤ 4)
  | .he => decide (m ≤ 11 ∧ b ≤ 3)
  | .eht => decide (m ≤ 13 ∨ m = 15 ∨ (m = 14 ∧ r = 2))
  | .vmode => decide (r = 2 ∧ 2 ≤ b ∧ (m = 14 ∨ m = 15)) && s.vmodeOk sta t

/-! ### Transmit power (R160 to R162), in units of 0.25 dB -/

/-- Rate group of a rate. -/
def rateGroup (t : TxRate) : Nat :=
  match t.fmt with
  | .vmode => 4
  | .dsss | .ofdm | .ht => 0
  | .vht | .he | .eht =>
    let m := t.mcs.toNat
    if m ≤ 7 then 0 else if m ≤ 9 then 1 else if m ≤ 11 then 2 else if m ≤ 13 then 3 else 0

/-- 10·log10(N), rounded up to 0.25 dB (R161). -/
def nterm (n : Nat) : Int := [0, 13, 20, 25, 28, 32, 34, 37].getD (n - 1) 37

/-- 10·log10 of the bandwidth in MHz, rounded down to 0.25 dB (R160). -/
def bwterm (b : Nat) : Int := [52, 64, 76, 88, 100].getD b 100

/-- Port maximum: the MCS0 output of R54 less the group backoff. -/
def portMax (r group : Nat) : Int := [24, 20, 16].getD r 16 - 8 * group

/-- Port power of chain c for a rate, with `cap` the EIRP cap of a shared turn where one applies (R160, R311). -/
def State.portPower (s : State) (r : Nat) (t : TxRate) (red : Nat) (cap : Option Int) (c : Nat) : Int :=
  let b := t.bw.val
  let g := rateGroup t
  let n := popCount 8 (s.chainMask r)
  let eirp0 := min (sgn 10 (s.fld (F.RADIO_PWR_CAP_CAP_EIRP r b))) (sgn 10 (s.fld (F.RADIO_PWR_CAP_CAP_PSD r b)) + bwterm b)
  let eirp := match cap with
    | some x => min x eirp0
    | none => eirp0
  let chainCap := eirp - sgn 10 (s.fld (F.RADIO_ANT_ANT_GAIN r)) - nterm n - (if t.steered then nterm n else 0)
  let target := min (sgn 10 (s.fld (F.RADIO_PWR_TABLE_TARGET r g b)) - red) chainCap
  min (target - sgn 10 (s.fld (F.RADIO_FEM_GAIN_TX_GAIN r c))) (portMax r g)

/-- Every transmitting chain reaches −20 dBm (R160). -/
def State.powerOk (s : State) (r : Nat) (t : TxRate) (red : Nat) (cap : Option Int) : Bool :=
  (List.range (chainCount r)).all (fun c => !(s.chainMask r).testBit c || decide (-80 ≤ s.portPower r t red cap c))

/-! ### Receive gain and power (R153 to R155, R175, R202, R249) -/

/-- Full gain, with the FEM's LNA in circuit. -/
def fullGain : AgcStep := ⟨38, false⟩

/-- The gain of chain c of radio r: what AGC has frozen for the reception that goes on, else full gain (R153 to R155). -/
def State.chainGain (s : State) (r c : Nat) : AgcStep :=
  if r = 3 then
    match s.ngr.rx with
    | some x => if x.hdr.isNone ∨ s.now < x.endT then x.agc.getD fullGain else fullGain
    | none => fullGain
  else
    match (s.radio r).rx with
    | some x => if ¬ x.hdrOk ∨ s.now < x.endT then x.agc.getD c fullGain else fullGain
    | none => fullGain

/-- A power in dBm at the port of chain c, referred to the antenna by the FEM's receive gain, in whole dB towards lower
(R175; notes/assumptions/103.md). -/
def State.atAntenna (s : State) (r c : Nat) (port : Byte) : Byte :=
  BitVec.ofInt 8 (clampInt (-128) 127 ((4 * port.toInt - sgn 10 (s.fld (F.RADIO_FEM_GAIN_RX_GAIN r c))).fdiv 4))

/-- The lowest-numbered chain in use. -/
def State.firstChain (s : State) (r : Nat) : Nat := ((List.range 8).find? (fun c => (s.chainMask r).testBit c)).getD 0

/-! ### FEM pins (R156 to R158, R165, R174) -/

/-- PA_EN, or EXT_PA on the Nguord radio, is active (R158, R165): from PA_LEAD before the first sample to PA_LAG after the
last. -/
def State.paOn (s : State) (r : Nat) : Bool :=
  match (s.radio r).air with
  | some x => decide (x.t0 ≤ s.now + s.femTicks (F.RADIO_FEM_TIMING_PA_LEAD r) ∧
      s.now < x.t1 + s.femTicks (F.RADIO_FEM_TIMING_PA_LAG r))
  | none => false

/-- Function `func` of chain c of radio r is active now; none for high impedance (R156). -/
def State.femActive (s : State) (r c func : Nat) : Option Bool :=
  let used := (s.chainMask r).testBit c
  match func with
  | 1 => some (decide (r ≠ 3) && used && s.paOn r)
  | 2 => some (used && s.radioRuns r && s.chainsAwake r && !s.strobing r)
  | 3 => some (used && s.strobing r)
  | 4 => some (s.chainGain r c).bypass
  | 5 => some false
  | 6 => some true
  | 7 => some (decide (r = 3) && s.paOn r)
  | _ => none

/-- Pin m belongs to radio r (R157, R174). -/
def State.ownsPin (s : State) (r m : Nat) : Bool :=
  if m < 32 then (s.rd (A.RADIO_FEM_OWN_LO r)).getLsbD m else (s.rd (A.RADIO_FEM_OWN_HI r)).getLsbD (m - 32)

/-- The level of FEM_GPIO ball m: none for high impedance with pull-down, else high or low (R156). -/
def State.femPin (s : State) (m : Nat) : Option Bool :=
  match [0, 1, 2, 3].find? (fun r => s.ownsPin r m) with
  | some r =>
    let w := s.rd (A.RADIO_FEM_FUNC r m)
    (s.femActive r (getBits w 4 3) (getBits w 0 4)).map (fun on => on != w.getLsbD 7)
  | none => none

end Sys2Proof.Machine
end

