-- ==== Sys2Proof/Machine/LdpcOps.lean ====
section
/-! DEFINITION. The decoder pool: waiting codewords, engines, sparing (spec/05_wlan_phy_decoders.md R190 to R200,
R208 to R213). -/

namespace Sys2Proof.Machine

/-- Update the pool. -/
def State.modLdpc (s : State) (f : LdpcSt → LdpcSt) : State := { s with ldpc := f s.ldpc }

/-- The decode that engine e runs. -/
def State.decoding (s : State) (e : Nat) : Option Decode := sget (fun _ => none) s.ldpc.engines e

/-- Rank of a class in ties (R194), and the index of its counters. -/
def CwClass.rank : CwClass → Nat
  | .registered => 0
  | .immediate => 1
  | .bulk => 2

/-- The class's iteration limit (R194, R209). -/
def State.cwCap (s : State) : CwClass → Nat
  | .registered => s.fld F.LDPC_ITER_CFG_CAP_REG
  | .immediate => s.fld F.LDPC_ITER_CFG_CAP_IMM
  | .bulk => s.fld F.LDPC_ITER_CFG_CAP_BULK

/-- BB cycles that a number of TIME ticks holds: 960 MHz against 500 MHz. -/
def bbCycles (ticks : Nat) : Nat := ticks * 48 / 25

/-- The iteration limit that a codeword can still have (R194): none where fewer than 38 cycles are left. -/
def State.iterations (s : State) (c : Codeword) : Option Nat :=
  let left := bbCycles (c.deadline - s.now)
  if left < 38 then none else some (min (s.cwCap c.cls) ((left - 38) / 80))

/-- The codeword can still reach MIN_ITER (R194). -/
def State.startable (s : State) (c : Codeword) : Option Nat :=
  match s.iterations c with
  | some n => if s.fld F.LDPC_ITER_CFG_MIN_ITER ≤ n then some n else none
  | none => none

/-- Bring QUEUE up to date (R211). -/
def State.syncCw (s : State) : State :=
  let n := fun (k : CwClass) => (s.ldpc.waiting.filter (fun c => decide (c.cls = k))).length
  ((s.setFld F.LDPC_QUEUE_REG (n .registered)).setFld F.LDPC_QUEUE_IMM (n .immediate)).setFld F.LDPC_QUEUE_BULK (n .bulk)

/-- Hold the waiting codewords. -/
def State.setWaiting (s : State) (l : List Codeword) : State := (s.modLdpc (fun p => { p with waiting := l })).syncCw

/-- Engine e takes a decode, or becomes free. -/
def State.setEngine (s : State) (e : Nat) (d : Option Decode) : State :=
  (s.modLdpc (fun p => { p with engines := sput (fun _ => none) p.engines e d })).setFld
    (F.LDPC_ENG_STATUS_BUSY e) (bit d.isSome)

/-- A reception after the end of one of its codewords. -/
def NgRx.ended (x : NgRx) (c : Codeword) (ok missed : Bool) : NgRx :=
  if x.id = c.rx then
    { x with
      hdrDec := if c.part = 0 then some ok else x.hdrDec
      missed := x.missed || (missed && decide (c.part ≠ 0)) }
  else x

/-- Note the end of a Nguord codeword at its reception (R339). -/
def State.ngCodeword (s : State) (c : Codeword) (ok missed : Bool) : State :=
  if c.radio = 3 then
    { s with ngr := { s.ngr with
        rx := s.ngr.rx.map (fun x => x.ended c ok missed)
        done := s.ngr.done.map (fun x => x.ended c ok missed) } }
  else s

/-- A codeword ends `DEC_MISSED` (R193, R194): counted, and reported against its flow or its Nguord frame. -/
def State.cwMissed (s : State) (c : Codeword) : State :=
  let s1 := (s.count (C.LDPC_DEC_MISSED c.cls.rank)).ngCodeword c false true
  match c.flow with
  | some f => if c.cls = .registered then s1.modFlow f (fun x => { x with decMissed := true }) else s1
  | none => s1

/-- A codeword ends `DEC_CANCELLED` (R189, R191). -/
def State.cwCancelled (s : State) (c : Codeword) : State :=
  (s.count C.LDPC_DEC_CANCELLED).ngCodeword c false false

/-- The latest deadline among codewords of a class; ties the later arrival (R193). -/
def latestOf (k : CwClass) (l : List Codeword) : Option Codeword :=
  (l.filter (fun c => decide (c.cls = k))).foldl (fun b c =>
    match b with
    | some x => if x.deadline ≤ c.deadline then some c else b
    | none => some c) none

/-- No entry is free for a codeword (R193). -/
def State.poolFull (s : State) (c : Codeword) : Bool :=
  let w := s.ldpc.waiting
  decide (768 ≤ w.length) || (decide (c.cls ≠ .registered) &&
    decide (768 ≤ (w.filter (fun x => decide (x.cls ≠ .registered))).length + s.fld F.LDPC_RESERVE_REG_ENTRIES))

/-- A codeword arrives; with no entry free, one codeword is discarded (R193). -/
def State.cwArrive (s : State) (c0 : Codeword) : State :=
  let c := { c0 with order := s.ldpc.next }
  let s1 := s.modLdpc (fun p => { p with next := p.next + 1 })
  let all := s1.ldpc.waiting ++ [c]
  if ¬ s1.poolFull c then s1.setWaiting all
  else
    let cand := if c.cls = .registered then s1.ldpc.waiting else all
    let victim := match latestOf .bulk cand with
      | some v => v
      | none => (latestOf .immediate cand).getD c
    (s1.setWaiting (all.filter (fun x => decide (x.order ≠ victim.order)))).cwMissed victim

/-- Put a codeword back into the pool, at its deadline, as if it had just arrived (R195). -/
def State.cwRequeue (s : State) (c : Codeword) : State :=
  (s.count C.LDPC_DEC_REQUEUED).cwArrive { c with arrival := s.now }

/-- Insert into a list sorted by `le`, after its equals. -/
def insertBy {α : Type} (le : α → α → Bool) (x : α) : List α → List α
  | [] => [x]
  | y :: rest => if le y x then y :: insertBy le x rest else x :: y :: rest

/-- Sort a list by `le`; equal items keep their order. -/
def sortBy {α : Type} (le : α → α → Bool) (l : List α) : List α := l.foldl (fun acc x => insertBy le x acc) []

/-- The order of R194: deadline, then class, then arrival. -/
def cwLe (a b : Codeword) : Bool :=
  decide (a.deadline < b.deadline) || (decide (a.deadline = b.deadline) &&
    (decide (a.cls.rank < b.cls.rank) || (decide (a.cls.rank = b.cls.rank) && decide (a.order ≤ b.order))))

/-- Engine e is active. -/
def State.engineActive (s : State) (e : Nat) : Bool := (s.fld F.LDPC_ENGINE_MAP_ACTIVE).testBit e

/-- Engine e runs: it is active, and in Watch it is the lowest-numbered active engine (R67, R200). -/
def State.engineRuns (s : State) (e : Nat) : Bool :=
  s.engineActive e && (!s.inWatch || (List.range e).all (fun k => !s.engineActive k))

/-- Engine e runs and decodes nothing. -/
def State.engineFree (s : State) (e : Nat) : Bool := s.engineRuns e && (s.decoding e).isNone

/-- Engine e is the first of the free engines to choose (R194): the Registered-first ones come first, each group in ascending
number. -/
def State.engineFirst (s : State) (e : Nat) : Bool :=
  let first := fun (k : Nat) => s.flag (F.LDPC_ENG_STATUS_REG_FIRST k)
  s.engineFree e && (List.range 14).all (fun k =>
    !(s.engineFree k && ((first k && !first e) || (decide (first k = first e) && decide (k < e)))))

/-- The codewords that engine e considers, in order (R194). -/
def State.engineOrder (s : State) (e : Nat) : List Codeword :=
  let reg := s.ldpc.waiting.filter (fun c => decide (c.cls = .registered))
  sortBy cwLe (if s.flag (F.LDPC_ENG_STATUS_REG_FIRST e) ∧ reg ≠ [] then reg else s.ldpc.waiting)

/-- Engine e chooses among codewords in order: one that can reach MIN starts, those before it end `DEC_MISSED` (R194). -/
def State.engineChoose (e : Nat) : List Codeword → State → State
  | [], s => s
  | c :: rest, s =>
    let s1 := s.setWaiting (s.ldpc.waiting.filter (fun x => decide (x.order ≠ c.order)))
    match s.startable c with
    | some n => s1.setEngine e (some { cw := c, limit := n, start := s.now })
    | none => State.engineChoose e rest (s1.cwMissed c)

/-- Iterations that a decode has run so far. -/
def State.iterSoFar (s : State) (d : Decode) : Nat := min d.limit ((bbCycles (s.now - d.start) - 38) / 80)

/-- Stop engine e: its codeword, if any, goes back into the pool (R199, R200). -/
def State.stopEngine (s : State) (e : Nat) : State :=
  match s.decoding e with
  | some d => ((s.setEngine e none).count C.LDPC_ITER_TOTAL (s.iterSoFar d)).cwRequeue d.cw
  | none => s

/-- Active engines. -/
def State.activeEngines (s : State) : Nat := popCount 14 (s.fld F.LDPC_ENGINE_MAP_ACTIVE)

/-- Every A2W flow is revoked when the active engines have fallen below REG_ENGINES (R511). -/
def State.checkEngines (s : State) : State :=
  if s.activeEngines < s.fld F.LDPC_RESERVE_REG_ENGINES then
    allFlows.foldl (fun t f => if getBits (t.flowWord f 0) 30 2 = 1 then t.flowRevoke f 1 else t) s
  else s

/-- Retire engine e (R199): it stops, its codeword goes back, and the lowest spare comes in with its role. -/
def State.retireEngine (s : State) (e : Nat) : State :=
  let was := s.engineActive e
  let role := s.fld (F.LDPC_ENG_STATUS_REG_FIRST e)
  let s1 := s.stopEngine e
  let s2 := (((s1.setFld F.LDPC_ENGINE_MAP_ACTIVE (if was then s1.fld F.LDPC_ENGINE_MAP_ACTIVE - 2 ^ e
      else s1.fld F.LDPC_ENGINE_MAP_ACTIVE)).setFld F.LDPC_ENGINE_MAP_RETIRED
      (s1.fld F.LDPC_ENGINE_MAP_RETIRED ||| 2 ^ e)).setFld (F.LDPC_ENG_STATUS_RETIRED e) 1)
  let s3 := (s2.setFld (F.LDPC_ENG_STATUS_SPARE e) 0).setFld (F.LDPC_ENG_STATUS_REG_FIRST e) 0
  if ¬ was then s3
  else
    match (List.range 14).find? (fun k => s3.flag (F.LDPC_ENG_STATUS_SPARE k)) with
    | some k =>
      ((s3.setFld (F.LDPC_ENG_STATUS_SPARE k) 0).setFld F.LDPC_ENGINE_MAP_ACTIVE
        (s3.fld F.LDPC_ENGINE_MAP_ACTIVE ||| 2 ^ k)).setFld (F.LDPC_ENG_STATUS_REG_FIRST k) role
    | none => (s3.present 0x14 0).checkEngines

/-- An engine may be retired: it is not retired, and another engine stays active (R199). -/
def State.engineRetirable (s : State) (e : Nat) : Bool :=
  !(s.engineActive e && decide (s.activeEngines = 1))

/-- Set RESERVE: the lowest-numbered active engines take the Registered-first role (R194, R210). -/
def State.setReserve (s : State) (entries engines : Nat) : State :=
  let s1 := (s.setFld F.LDPC_RESERVE_REG_ENTRIES entries).setFld F.LDPC_RESERVE_REG_ENGINES engines
  let act := (List.range 14).filter s1.engineActive
  (List.range 14).foldl (fun t e => t.setFld (F.LDPC_ENG_STATUS_REG_FIRST e) (bit ((act.take engines).contains e))) s1

/-- Cancel the codewords of a reception, queued or being decoded (R189, R669). -/
def State.cancelRx (s : State) (r rx : Nat) : State :=
  let mine := fun (c : Codeword) => decide (c.radio = r ∧ c.rx = rx)
  let s1 := (s.ldpc.waiting.filter mine).foldl State.cwCancelled
    (s.setWaiting (s.ldpc.waiting.filter (fun c => !mine c)))
  (List.range 14).foldl (fun t e =>
    match t.decoding e with
    | some d => if mine d.cw then
        ((t.setEngine e none).count C.LDPC_ITER_TOTAL (t.iterSoFar d)).cwCancelled d.cw else t
    | none => t) s1

/-! ### Class and deadline (R190, R191) -/

/-- The 16 µs of R190, in ticks. -/
def sifsTicks : Nat := 16 * Config.ticksPerUs

/-- Immediate deadline of a PPDU whose data end at local count t (R190). -/
def State.immDeadline (s : State) (t : Nat) : Nat := t + sifsTicks - s.fld F.LDPC_DL_CFG_IMM_MARGIN * 50

/-- Bulk deadline of a codeword that arrived at t: the reorder flush time of its TID, or BULK_DL_US (R190). -/
def State.bulkDeadline (s : State) (t : Nat) (peer : Option (Nat × Nat)) : Nat :=
  let us := match peer with
    | some (sta, tid) =>
      if (s.ctxWord sta (14 + 2 * tid)).getLsbD 15 then getBits (s.ctxWord sta (15 + 2 * tid)) 16 16
      else s.fld F.LDPC_DL_CFG_BULK_DL_US
    | none => s.fld F.LDPC_DL_CFG_BULK_DL_US
  t + us * Config.ticksPerUs

/-- The occurrence of a restricted service period that runs on radio r at local count t, with its flow (R306, R319). -/
def State.rspAt (s : State) (r t : Nat) : Option (Nat × RspRun) :=
  (s.rounds.rsps.find? (fun x => decide (s.fld (F.ROUNDS_RSP_W0_RADIO x.index) = r) && decide (x.start ≤ t ∧ t < x.stop))).map
    (fun x => (s.fld (F.ROUNDS_RSP_W0_FLOW x.index), x))

/-- The occurrence that runs now. -/
def State.runningRsp (s : State) (r : Nat) : Option (Nat × RspRun) := s.rspAt r s.now

/-- A flow's decode deadline: the end of the occurrence in which the codeword arrives (notes/assumptions/41.md). -/
def State.decodeDeadline (s : State) (r f : Nat) : Option Nat :=
  match s.runningRsp r with
  | some (g, x) => if g = f then some x.stop else none
  | none => none

/-- Deadline of a Registered codeword: the earlier of the flow's decode deadline and, where a response may follow, the
Immediate deadline (R190); with neither, the Bulk deadline (notes/assumptions/41.md). -/
def State.regDeadline (s : State) (r f dataEnd : Nat) (elicits : Bool) : Nat :=
  match s.decodeDeadline r f, elicits with
  | some d, true => min d (s.immDeadline dataEnd)
  | some d, false => d
  | none, true => s.immDeadline dataEnd
  | none, false => s.bulkDeadline s.now none

end Sys2Proof.Machine
end

