-- ==== Sys2Proof/Machine/NglOps.lean ====
section
/-! DEFINITION. The Nguord link: airtime, regions, limits, protection, routes, completions and records
(spec/09_nguord_phy.md R324 to R331, spec/10_nguord_link.md R354 to R387). -/

namespace Sys2Proof.Machine

/-- NGL's block number. -/
def nglBlock : Nat := 0xD0

/-- Update what NGL holds. -/
def State.modNgl (s : State) (f : NglSt → NglSt) : State := { s with ngl := f s.ngl }

/-- Update what NGR holds. -/
def State.modNgr (s : State) (f : NgrSt → NgrSt) : State := { s with ngr := f s.ngr }

/-- Milliseconds in ticks. -/
def msTicks (n : Nat) : Nat := n * Config.ticksPerMs

/-- Microseconds in ticks. -/
def usTicks (n : Nat) : Nat := n * Config.ticksPerUs

/-! ### Airtime (R324, R330, R331) -/

/-- Symbol time of order K at a bandwidth code, in ticks. -/
def chirpTs (order bw : Nat) : Nat := 2 ^ order * 5000 / 2 ^ bw

/-- Payload symbols of a PSDU: codewords of 192 data bits, the last with the remainder. -/
def ngPayload (order cr len : Nat) : Nat :=
  if len = 0 then 0
  else
    let b := 8 * len + 16
    b / 192 * ceilDiv (192 + ngParity cr) order +
      (if b % 192 = 0 then 0 else ceilDiv (b % 192 + ngParity cr) order)

/-- Symbols from the reference point to the end of a frame. -/
def ngSymbols (order cr len : Nat) : Nat := 4 + ceilDiv 192 order + ngPayload order cr len

/-- Airtime of a frame in ticks (R331). -/
def ngAirtime (order bw cr npre len : Nat) : Nat := chirpTs order bw * (npre + ngSymbols order cr len)

/-- Bandwidth code of NGR.SYNTH. -/
def State.ngBw (s : State) : Nat := s.fld F.NGR_SYNTH_BW

/-- Order, CR and NPRE of NGR.PHY_CFG. -/
def State.ngPhy (s : State) : Nat × Nat × Nat :=
  (s.fld F.NGR_PHY_CFG_ORDER, s.fld F.NGR_PHY_CFG_CR, s.fld F.NGR_PHY_CFG_NPRE)

/-- Symbol time of a frame's PHY setting. -/
def State.phyTs (s : State) (p : Nat × Nat × Nat) : Nat := chirpTs p.1 s.ngBw

/-- Airtime of a frame with a PHY setting. -/
def State.phyDur (s : State) (p : Nat × Nat × Nat) (len : Nat) : Nat := ngAirtime p.1 s.ngBw p.2.1 p.2.2 len

/-- Airtime of an acknowledgement to a frame of an order: header only (R377). -/
def State.ackDur (s : State) (order : Nat) : Nat := ngAirtime order s.ngBw 0 (s.fld F.NGR_PHY_CFG_NPRE) 0

/-- Order, CR and NPRE of NGL.BCN_PHY. -/
def State.bcnPhy (s : State) : Nat × Nat × Nat :=
  (s.fld F.NGL_BCN_PHY_ORDER, s.fld F.NGL_BCN_PHY_CR, s.fld F.NGL_BCN_PHY_NPRE)

/-- The beacon lead L in ticks (R364). -/
def State.bcnLead (s : State) : Nat := s.fld F.NGL_BCN_PHY_NPRE * s.phyTs s.bcnPhy

/-! ### Roles and the superframe (R354, R355, R363) -/

/-- The device is a router. -/
def State.ngRouter (s : State) : Bool := decide (s.fld F.NGL_CTRL_ROLE = 1)

/-- The device's address. -/
def State.ngAddr (s : State) : Nat := if s.ngRouter then s.fld F.NGL_CTRL_OWN_ADDR else 0

/-- The parent's address. -/
def State.ngParent (s : State) : Nat := s.fld F.NGL_PARENT_PARENT_ADDR

/-- The network runs. -/
def State.ngOn (s : State) : Bool := s.flag F.NGL_CTRL_EN && s.takesWork nglBlock

/-- The superframe's times break R364: the code of the refusal. -/
def State.sfError (s : State) (period cap active relay depth : Nat) : Option RefCode :=
  let bcn := ceilDiv (s.phyDur s.bcnPhy 68) (Config.ticksPerMs)
  if period = 0 then some .zeroLength
  else if period < 100 ∨ 600000 < period then some .cfgRange
  else if relay = 0 then some .zeroLength
  else if relay < bcn then some .cfgRange
  else if cap = 0 then some .zeroLength
  else if cap < (depth + 1) * relay then some .cfgRange
  else if active = 0 then some .zeroLength
  else if active < cap then some .cfgRange
  else if period < active + ceilDiv (s.bcnLead + usTicks 100) Config.ticksPerMs then some .cfgRange
  else none

/-- Channel k is enabled. -/
def State.chEnabled (s : State) (k : Nat) : Bool :=
  if k < 32 then (s.rd A.NGL_CH_EN_LO).getLsbD k else (s.rd A.NGL_CH_EN_HI).getLsbD (k - 32)

/-- The enabled channels in ascending order (R371). -/
def State.ngChannels (s : State) : List Nat := (List.range 64).filter s.chEnabled

/-- Centre of channel k in synthesiser units. -/
def State.chFreq (s : State) (k : Nat) : Nat := s.fld F.NGL_CH_BASE_FREQ + k * s.fld F.NGL_CH_SPACING_STEP

/-- The channel plan breaks R371: the code of the refusal. -/
def State.planError (s : State) : Option RefCode :=
  let l := s.ngChannels
  if l = [] then some .zeroLength
  else if Nat.gcd (s.fld F.NGL_HOP_HOP_STEP) l.length ≠ 1 ∨ l.length ≤ s.fld F.NGL_HOP_HOP_OFS ∨
      l.any (fun k => !ngChannel s.ngBw (s.chFreq k)) then some .cfgRange
  else none

/-- Channel of superframe n (R371). -/
def State.hopChannel (s : State) (n : Nat) : Nat :=
  let l := s.ngChannels
  l.getD ((s.fld F.NGL_HOP_HOP_OFS + s.fld F.NGL_HOP_HOP_STEP * n) % l.length) 0

/-- Regions of the superframe (R363). -/
inductive NgRegion where
  | beacons | contention | slots | quiet
  deriving DecidableEq, Repr

/-- Local count of a time in ms from S_n. -/
def State.sfAt (s : State) (ms : Nat) : Nat := s.ngl.s0.getD 0 + msTicks ms

/-- End of the beacon region. -/
def State.capStart (s : State) : Nat := s.sfAt ((s.fld F.NGL_CTRL_MAX_DEPTH + 1) * s.fld F.NGL_SF_RELAY_RELAY_MS)

/-- End of the contention period. -/
def State.capEnd (s : State) : Nat := s.sfAt (s.fld F.NGL_SF_CAP_CAP_END_MS)

/-- End of the slot region. -/
def State.activeEnd (s : State) : Nat := s.sfAt (s.fld F.NGL_SF_ACTIVE_ACTIVE_END_MS)

/-- End of the superframe. -/
def State.sfEnd (s : State) : Nat := s.sfAt (s.fld F.NGL_SF_PERIOD_PERIOD_MS)

/-- Region at a local count. -/
def State.regionAt (s : State) (t : Nat) : NgRegion :=
  if t < s.capStart then .beacons
  else if t < s.capEnd then .contention
  else if t < s.activeEnd then .slots
  else .quiet

/-! ### Limits (R372 to R374) -/

/-- Port power of a frame in dBm (R342, R372). -/
def State.ngPower (s : State) : Int :=
  min (sgn 8 (s.fld F.NGR_TX_PWR_PORT_DBM))
    ((sgn 10 (s.fld F.NGL_REG_CAP_CAP_EIRP) - sgn 10 (s.fld F.NGL_REG_ANT_ANT_GAIN) -
      sgn 10 (s.fld F.NGL_REG_CAP_EXTPA_GAIN)) / 4)

/-- Airtime of the device's own transmissions that satisfy a test. -/
def State.airSum (s : State) (p : Nat × Nat × Nat → Bool) : Nat :=
  ((s.ngl.air.filter p).map (fun x => x.2.2)).foldl (· + ·) 0

/-- The dwell limit of a channel lets a transmission of `dur` ticks start at t (R373). -/
def State.dwellOk (s : State) (ch t dur : Nat) : Bool :=
  let win := s.fld F.NGL_REG_DWELL_DWELL_WIN_S * 1000
  decide (win = 0) ||
    decide (s.airSum (fun x => decide (x.1 = ch ∧ t < x.2.1 + msTicks win ∧ x.2.1 < t)) + dur ≤
      msTicks (s.fld F.NGL_REG_DWELL_DWELL_MAX_MS))

/-- Bucket of R374 that holds a local count. -/
def State.dutyBucket (s : State) (t : Nat) : Nat :=
  (t - s.ngl.enAt) / msTicks (s.fld F.NGL_DUTY_WIN_DUTY_WIN_S / 60 * 1000)

/-- The duty limit of every sub-band that holds a channel lets a transmission of `dur` ticks start at t (R374). -/
def State.dutyOk (s : State) (ch t dur : Nat) : Bool :=
  (List.range 4).all (fun k =>
    let lo := s.fld (F.NGL_DUTY_FIRST_CH k)
    let hi := s.fld (F.NGL_DUTY_LAST_CH k)
    !s.flag (F.NGL_DUTY_EN k) || !decide (lo ≤ ch ∧ ch ≤ hi) ||
      decide ((s.airSum (fun x => decide (lo ≤ x.1 ∧ x.1 ≤ hi ∧ s.ngl.enAt ≤ x.2.1 ∧ s.dutyBucket x.2.1 ≤ s.dutyBucket t ∧
          s.dutyBucket t < s.dutyBucket x.2.1 + 60)) + dur) * 10000 ≤
        s.fld (F.NGL_DUTY_DUTY k) * msTicks (s.fld F.NGL_DUTY_WIN_DUTY_WIN_S * 1000)))

/-- Note a transmission that starts (R373, R374). -/
def State.logAir (s : State) (ch t dur : Nat) : State :=
  s.modNgl (fun n => { n with
    air := n.air.filter (fun x => decide (t < x.2.1 + msTicks 65536000)) ++ [(ch, t, dur)] })

/-! ### Nodes (R355, R360, R380, R394) -/

/-- Context of a node. -/
def State.ngNode (s : State) (a : Nat) : NgNode := sget (fun _ => {}) s.ngl.nodes a

/-- Hold the context of a node. -/
def State.setNgNode (s : State) (a : Nat) (n : NgNode) : State :=
  s.modNgl (fun x => { x with nodes := sput (fun _ => {}) x.nodes a n })

/-- Word w of a context. -/
def NgNode.word (n : NgNode) (w : Nat) : Word := n.words.getD w 0

/-- The context is valid. -/
def NgNode.valid (n : NgNode) : Bool := (n.word 0).getLsbD 31

/-- The context is valid and not dropped. -/
def NgNode.live (n : NgNode) : Bool := n.valid && !(n.word 0).getLsbD 30

/-- The node sleeps. -/
def NgNode.sleepy (n : NgNode) : Bool := (n.word 0).getLsbD 29

/-- Key slot of a key ID, where it is valid (R360). -/
def NgNode.key (n : NgNode) (id : Nat) : Option Nat :=
  if id = 0 then (if (n.word 0).getLsbD 24 then some (getBits (n.word 3) 0 13) else none)
  else (if (n.word 0).getLsbD 25 then some (getBits (n.word 3) 16 13) else none)

/-- Key ID for new frames. -/
def NgNode.keyTx (n : NgNode) : Nat := bit ((n.word 0).getLsbD 26)

/-- Frames queued for a next hop, oldest first. -/
def State.ngQueue (s : State) (dst : Nat) : List NgFrame :=
  s.ngl.frames.filter (fun f => decide (f.dst = dst) && f.enrol.isNone)

/-- The next hop is a sleepy node (R379). -/
def State.ngSleepy (s : State) (dst : Nat) : Bool :=
  decide (1 ≤ dst ∧ dst ≤ 0x1000) && (s.ngNode dst).live && (s.ngNode dst).sleepy

/-- The address is a neighbour: a live child, or the parent. -/
def State.neighbour (s : State) (a : Nat) : Bool :=
  (decide (1 ≤ a ∧ a ≤ 0x1000) && (s.ngNode a).live) || (s.ngRouter && decide (a = s.ngParent))

/-! ### Protection (R356 to R362) -/

/-- Key of a frame to a destination: slot and key ID. -/
def State.ngTxKey (s : State) (dst : Nat) : Option (Nat × Nat) :=
  let pair := fun (id k0 k1 : Nat) => some (if id = 0 then k0 else k1, id)
  if dst = 0xFFFF then
    pair (s.fld F.NGL_GROUP_KEY_KEYID_TX) (s.fld F.NGL_GROUP_KEY_KEY0) (s.fld F.NGL_GROUP_KEY_KEY1)
  else if s.ngRouter ∧ dst = s.ngParent then
    pair (s.fld F.NGL_PARENT_KEY_KEYID_TX) (s.fld F.NGL_PARENT_KEY_KEY0) (s.fld F.NGL_PARENT_KEY_KEY1)
  else
    let n := s.ngNode dst
    (n.key n.keyTx).map (fun k => (k, n.keyTx))

/-- Key slot of a received frame (R360): the parent's keys, or the child's. -/
def State.ngRxKey (s : State) (src dst id : Nat) : Option Nat :=
  if s.ngRouter ∧ src = s.ngParent then
    (if dst = 0xFFFF then some (if id = 0 then s.fld F.NGL_GROUP_KEY_KEY0 else s.fld F.NGL_GROUP_KEY_KEY1)
     else some (if id = 0 then s.fld F.NGL_PARENT_KEY_KEY0 else s.fld F.NGL_PARENT_KEY_KEY1))
  else (s.ngNode src).key id

/-- The LINK field (R356). -/
def ngLink (typ : Nat) (pend relay : Bool) (keyId nettag dst : Nat) : Nat :=
  typ + bit (decide (typ ≠ 2)) * 16 + bit pend * 32 + bit relay * 64 + keyId * 128 + nettag % 256 * 256 + dst % 65536 * 65536

/-- The nonce of a frame (R359). -/
def State.ngNonce (s : State) (src dst fcnt typ keyId : Nat) : List Byte :=
  leBytes 2 src ++ leBytes 2 dst ++ leBytes 4 fcnt ++ leBytes 4 (s.rd A.NGL_NET_ID).toNat ++ [BitVec.ofNat 8 (typ + keyId * 16)]

/-- Types whose body is not encrypted. -/
def micOnly (typ : Nat) : Bool := decide (typ = 0 ∨ typ = 4)

/-- What goes on air of a body: its bytes or its ciphertext, and the MIC (R359). -/
def ngSeal (key : BitVec 256) (nonce aad body : List Byte) (mic : Bool) : List Byte :=
  if mic then body ++ (List.range 8).map (Config.tag 1 key nonce (aad ++ body) [])
  else
    let ct := (List.range body.length).map (Config.cipher 1 key nonce aad body)
    ct ++ (List.range 8).map (Config.tag 1 key nonce aad ct)

/-- The body of a received frame, where its MIC verifies (R359). -/
def ngOpen (key : BitVec 256) (nonce aad sealed : List Byte) (mic : Bool) : Option (List Byte) :=
  let n := sealed.length - 8
  let ct := sealed.take n
  let tag := sealed.drop n
  if mic then
    (if (List.range 8).map (Config.tag 1 key nonce (aad ++ ct) []) = tag then some ct else none)
  else if (List.range 8).map (Config.tag 1 key nonce aad ct) = tag then
    some ((List.range n).map (Config.cipher 1 key nonce aad ct))
  else none

/-- Bytes of a mesh header. -/
def meshBytes (m : Option (Nat × Nat × Nat)) : List Byte :=
  match m with
  | some (o, f, h) => leBytes 2 o ++ leBytes 2 f ++ [BitVec.ofNat 8 h]
  | none => []

/-- Protect a frame under a slot (R359, R361): its LINK field, FCNT and PSDU; none where SEAL refuses the slot. -/
def State.ngProtect (s : State) (slot keyId typ : Nat) (pend : Bool) (dst : Nat) (mesh : Option (Nat × Nat × Nat))
    (body : List Byte) : Except KeyErr (Nat × Nat × List Byte) × State :=
  match (s.keyReady slot).keyTx slot 2 (fun kt => decide (kt = 0)) with
  | (.error e, s1) => (.error e, s1)
  | (.ok (pn, key), s1) =>
    let fcnt := pn % 2 ^ 32
    let src := s.ngAddr
    let link := ngLink typ pend mesh.isSome keyId (s.rd A.NGL_NET_ID).toNat dst
    let hdr := leBytes 2 src ++ leBytes 4 fcnt ++ meshBytes mesh
    (.ok (link, fcnt, hdr ++ ngSeal key (s.ngNonce src dst fcnt typ keyId) (leBytes 4 link ++ hdr) body (micOnly typ)), s1)

/-! ### Completions (R386) -/

/-- `NG_OK`. -/
def ngOk : Nat := 0
/-- `NG_NO_ACK`. -/
def ngNoAck : Nat := 1
/-- `NG_NO_NODE`. -/
def ngNoNode : Nat := 2
/-- `NG_NO_ROUTE`. -/
def ngNoRoute : Nat := 3
/-- `NG_LIFETIME`. -/
def ngLifetimeOut : Nat := 4
/-- `NG_QUEUE_FULL`. -/
def ngQueueFull : Nat := 5
/-- `TX_CAP`. -/
def ngTxCap : Nat := 6
/-- `PN_EXHAUSTED`. -/
def ngPnExhausted : Nat := 7
/-- `ZERO_LENGTH`. -/
def ngZeroLength : Nat := 8
/-- `CFG_RANGE`. -/
def ngCfgRange : Nat := 9
/-- `TX_LATE`. -/
def ngTxLate : Nat := 10
/-- `NG_REGION`. -/
def ngNoRegion : Nat := 11

/-- Complete a frame (R386): its record for the ring, its buffer in TM, or nothing for a relayed frame. -/
def State.ngComplete (s : State) (source : NgFrom) (attempts fcnt status : Nat) : State :=
  match source with
  | .ring cookie =>
    (s.hwRecord (s.fld F.NGL_FIFO_CMPL)
      [cookie, BitVec.ofNat 32 (attempts % 256 * 256 + status), BitVec.ofNat 32 fcnt, 0]).2
  | .tm x => s.finishHanded x
  | .relay => s

/-- The frame with a number. -/
def State.ngFrame (s : State) (id : Nat) : Option NgFrame := s.ngl.frames.find? (fun f => decide (f.id = id))

/-- Update a frame. -/
def State.modNgFrame (s : State) (id : Nat) (g : NgFrame → NgFrame) : State :=
  s.modNgl (fun n => { n with frames := n.frames.map (fun f => if f.id = id then g f else f) })

/-- A frame leaves NGL with a status; its command, if it has not started, and its wait end with it. -/
def State.ngEnd (s : State) (f : NgFrame) (status : Nat) : State :=
  let s1 := s.modNgl (fun n => { n with
    frames := n.frames.filter (fun x => decide (x.id ≠ f.id))
    wait := match n.wait with
      | some w => if w.id = f.id then none else some w
      | none => none })
  (s1.modRadio 3 (fun x => { x with cmds := x.cmds.filter (fun c => decide (c.kind ≠ .ngFrame f.id)) })).ngComplete
    f.source f.attempts f.fcnt status

/-- Frames that satisfy a test complete with a status. -/
def State.ngEndAll (s : State) (p : NgFrame → Bool) (status : Nat) : State :=
  (s.ngl.frames.filter p).foldl (fun t f => t.ngEnd f status) s

/-! ### Records (R387) -/

/-- A receive record: six header words and the payload, packed little-endian. -/
def ngRecord (kind typ orig fcnt rssi snr port keyId ch ref : Nat) (payload : List Byte) : List Word :=
  [BitVec.ofNat 32 (0x4E * 2 ^ 24 + kind * 2 ^ 20 + typ * 2 ^ 16 + orig % 65536), BitVec.ofNat 32 fcnt,
   BitVec.ofNat 32 (rssi * 2 ^ 16 + snr * 2 ^ 8 + port * 2 ^ 7 + keyId * 2 ^ 6),
   BitVec.ofNat 32 (ch * 2 ^ 16 + payload.length), BitVec.ofNat 32 ref, BitVec.ofNat 32 (ref / 2 ^ 32)] ++ toItems payload

/-- A record of a dropped node or a lost parent: written at once, or as soon as the FIFO has room (R380, R382). -/
def State.ngEvent (s : State) (kind node : Nat) : State :=
  let ws := ngRecord kind 0 node 0 0 0 0 0 s.ngl.ch s.now []
  if s.ngl.recs = [] ∧ s.recordFits (s.fld F.NGL_FIFO_RX) 6 then (s.hwRecord (s.fld F.NGL_FIFO_RX) ws).2
  else s.modNgl (fun n => { n with recs := n.recs ++ [ws] })

/-! ### Routes (R383) -/

/-- The next hop and mesh header for a destination, with the originator and the hops it may still take where it is
relayed; none without a route. -/
def State.ngRoute (s : State) (orig final : Nat) (left : Option Nat) : Option (Nat × Option (Nat × Nat × Nat)) × State :=
  let e := s.rd (A.NGL_ROUTE (final - 1))
  if 1 ≤ final ∧ final ≤ 0x1000 ∧ e.getLsbD 31 then
    let hop := getBits e 0 16
    let hops := getBits e 16 4
    if ¬ s.neighbour hop then (none, s)
    else if hops = 1 ∧ orig = s.ngAddr then (some (hop, none), s)
    else (some (hop, some (orig, final, left.getD (hops - 1))), s)
  else if s.ngRouter then
    let p := s.ngParent
    if final = p ∧ orig = s.ngAddr then (some (p, none), s)
    else
      match left with
      | some h => (some (p, some (orig, final, h)), s)
      | none =>
        let (v, s1) := s.free
        (some (p, some (orig, final, 1 + v.toNat % 15)), s1)
  else (none, s)

/-! ### Transmission (R361, R365, R368, R377 to R379) -/

/-- A random backoff of 0 to 2^BE − 1 symbols, from a free value (R368). -/
def State.drawBackoff (s : State) (be : Nat) : Nat × State :=
  let (v, s1) := s.free
  (v.toNat % 2 ^ be, s1)

/-- A frame takes a new backoff, its BE raised by `up` to at most MAX_BE (R368). -/
def State.ngRedraw (s : State) (f : NgFrame) (up since : Nat) : State :=
  let be := min (s.fld F.NGL_TX_CFG_MAX_BE) (f.be + up)
  let (n, s1) := s.drawBackoff be
  s1.modNgFrame f.id (fun x => { x with be := be, backoff := n, since := since })

/-- The radio of the Nguord link is free for an exchange that ends at `stop`: nothing is on air, no acknowledgement is
awaited, and every command it holds starts later. -/
def State.ngIdle (s : State) (stop : Nat) : Bool :=
  (s.radio 3).cmds.all (fun c => c.timed.any (fun t => decide (stop + s.swLead 3 ≤ t.1))) && !s.onAir 3 && s.ngl.wait.isNone

/-- The frame is a command of the radio already. -/
def State.ngCommanded (s : State) (id : Nat) : Bool := (s.radio 3).cmds.any (fun c => decide (c.kind = .ngFrame id))

/-- Count a frame as held by a limit, once per superframe (R375). -/
def State.ngHeld (s : State) (f : NgFrame) (ctr : Nat) : State :=
  let n := s.fld F.NGL_SFN_SFN
  if f.held = some n then s
  else (s.count ctr).modNgFrame f.id (fun x => { x with held := some n })

/-- Queue a frame, with its chirps, as a command of the radio (R341, R342). -/
def State.ngCommand (s : State) (k : AirKind) (chirps : List (Bool × Nat)) (start : Option Nat) (after dur : Nat) : State :=
  let c : AirCmd := { kind := k, timed := start.map (fun t => (t, 0)), rates := [], after := after, dur := dur
                      dbm := s.ngPower, chirps := chirps }
  s.modRadio 3 (fun x => { x with cmds := x.cmds ++ [c] })

/-- Ticks from the end of a frame to the end of its acknowledgement, 0 without one. -/
def State.ackTail (s : State) (f : NgFrame) : Nat :=
  if f.ack then usTicks (s.fld F.NGL_ACK_CFG_ACK_TURN_US) + s.ackDur f.phy.1 else 0

/-- The chirps of a protected frame. -/
def NgFrame.chirps (f : NgFrame) : List (Bool × Nat) := ngChirps f.phy.1 f.phy.2.1 f.phy.2.2 f.net false f.ack f.link f.psdu

/-- Bytes of a frame's PSDU. -/
def NgFrame.len (f : NgFrame) : Nat := 6 + (meshBytes f.mesh).length + f.body.length + 8

/-- A frame is protected before its first attempt, PEND set while more frames wait for its receiver (R356, R361). An
exhausted slot ends it `PN_EXHAUSTED`; a slot that SEAL refuses otherwise ends it `NG_NO_NODE`. -/
def State.ngReady (s : State) (f : NgFrame) : Option NgFrame × State :=
  if f.psdu ≠ [] then (some f, s)
  else
    let key := match f.enrol with
      | some (_, _, k) => some (k, 0)
      | none => s.ngTxKey f.dst
    match key with
    | none => (none, s.ngEnd f ngNoNode)
    | some (slot, id) =>
      let pend := s.ngSleepy f.dst && decide (1 < (s.ngQueue f.dst).length)
      match s.ngProtect slot id f.typ pend f.dst f.mesh f.body with
      | (.ok (link, fcnt, psdu), s1) =>
        let g := { f with link := link, fcnt := fcnt, psdu := psdu }
        (some g, s1.modNgFrame f.id (fun x => { x with link := link, fcnt := fcnt, psdu := psdu }))
      | (.error .exhausted, s1) => (none, s1.ngEnd f ngPnExhausted)
      | (.error _, s1) => (none, s1.ngEnd f ngNoNode)

/-- A downlink frame for a node may be sent at t: it and its acknowledgement end inside the node's slot or the
contention period (R369, R379). -/
def State.downlinkFits (s : State) (f : NgFrame) (t : Nat) : Bool :=
  let stop := t + s.phyDur f.phy f.len + s.ackTail f
  (match s.ngl.slot with
   | some (n, e) => decide (n = f.dst ∧ stop ≤ e)
   | none => false) ||
  (decide (s.capStart ≤ t) && decide (stop ≤ s.capEnd))

/-- Send the first queued frame of a node as a timed transmission at t, or hold it (R369, R375, R379). -/
def State.ngDownlink (s : State) (node t : Nat) : State :=
  match s.ngQueue node with
  | [] => s
  | f :: _ =>
    let dur := s.phyDur f.phy f.len
    if ¬ s.downlinkFits f t ∨ s.ngl.s0.isNone ∨ ¬ s.ngl.bcnOk ∨ s.ngCommanded f.id then s
    else if ¬ s.dwellOk s.ngl.ch t dur then s.ngHeld f C.NGL_TX_DEFER_DWELL
    else if ¬ s.dutyOk s.ngl.ch t dur then s.ngHeld f C.NGL_TX_DEFER_DUTY
    else
      match s.ngReady f with
      | (some g, s1) => s1.ngCommand (.ngFrame g.id) g.chirps (some t) 0 dur
      | (none, s1) => s1

/-! ### Retunes and receptions -/

/-- NGR abandons the reception in progress: its codewords end `DEC_CANCELLED` (R146, R147, R365). -/
def State.ngDrop (s : State) : State :=
  match s.ngr.rx with
  | some x => if x.hdr.isNone ∨ s.now < x.endT then (s.cancelRx 3 x.id).modNgr (fun n => { n with rx := none }) else s
  | none => s

/-- Retune to a channel of the plan, as a write of NGR.SYNTH would (R346, R365). -/
def State.ngHop (s : State) (ch : Nat) : State :=
  let s1 := (s.ngDrop).modNgl (fun n => { n with ch := ch })
  if s1.fld F.NGR_SYNTH_FREQ = s1.chFreq ch then s1
  else (s1.setFld F.NGR_SYNTH_FREQ (s1.chFreq ch)).modRadio 3 (fun x => { x with retune := true })

/-! ### Ranging (R343 to R345) -/

/-- Update the ranging exchange. -/
def State.modRng (s : State) (f : RngSt → RngSt) : State := s.modNgr (fun n => { n with rng := f n.rng })

/-- An exchange ends with a result (R345, R352). -/
def State.rngEnd (s : State) (result : Nat) : State :=
  let s1 := ((s.setFld F.NGR_RNG_STATUS_BUSY 0).setFld F.NGR_RNG_STATUS_RESULT result).modRng (fun r => { r with step := .idle })
  (s1.count (if result = 1 then C.NGR_RNG_OK else C.NGR_RNG_FAIL)).raiseUnit .ranging 0

/-- Abort the exchange that runs, if one does (R345, R365): commands that have not started are dropped. -/
def State.rngAbort (s : State) : State :=
  if s.flag F.NGR_RNG_STATUS_BUSY then
    (s.modRadio 3 (fun x => { x with cmds := x.cmds.filter (fun c =>
      match c.kind with
      | .ranging _ _ => false
      | _ => true) })).rngEnd 5
  else s

end Sys2Proof.Machine
end

