-- ==== Sys2Proof/Machine/Ngr.lean ====
section
/-! DEFINITION. The meanings of the Nguord radio commands: reception and ranging (spec/09_nguord_phy.md R336 to R353,
spec/10 R356). -/

namespace Sys2Proof.Machine

/-! ### Reception (R336 to R340) -/

/-- NGL opens a receive window, or a ranging exchange may need the receiver (R336). -/
def State.ngListens (s : State) : Bool :=
  s.listens 3 && (s.ngOn || s.flag F.NGR_RNG_STATUS_BUSY || s.flag F.NGR_RNG_CFG_AUTO_RESP)

/-- The reception in progress, if it has not reached its end. -/
def State.ngRxNow (s : State) : Option NgRx :=
  match s.ngr.rx with
  | some x => if x.hdr.isNone ∨ s.now < x.endT then some x else none
  | none => none

/-- The port on which a detection starts (R337, R349). -/
def State.ngStartPort (s : State) : Nat :=
  match s.fld F.NGR_RX_CFG_ANT_MODE with
  | 0 => 0
  | 1 => 1
  | _ => s.ngr.lastPort

/-- Power, saturation and port after the diversity choice of R337, from the port of the detection: a saturated measurement counts as the
stronger; where the frame mark comes before the switch, the other port has not been measured. -/
def State.ngChoice (s : State) (port : Nat) (p : NgPreamble) : Int × Bool × Nat :=
  let here : Int × Bool × Nat := (p.power.toInt, p.sat, port)
  match p.other with
  | some (q, qSat) =>
    if s.fld F.NGR_RX_CFG_ANT_MODE ≠ 2 ∨
        p.ref.toNat ≤ s.fld F.NGR_RX_CFG_DIV_SYM * chirpTs (s.fld F.NGR_PHY_CFG_ORDER) s.ngBw then here
    else if qSat ≠ p.sat then (if qSat then (q.toInt, true, 1 - port) else here)
    else if p.power.toInt + 4 * s.fld F.NGR_RX_CFG_DIV_HYST ≤ q.toInt then (q.toInt, qSat, 1 - port)
    else here
  | none => here

/-- Both network-code symbols match NETCODE within one value (R328). -/
def State.ngCodeOk (s : State) (p : NgPreamble) : Bool :=
  let want := ngCode (s.fld F.NGR_PHY_CFG_ORDER) (s.fld F.NGR_PHY_CFG_NETCODE)
  let near := fun (a b : Nat) => decide (a ≤ b + 1 ∧ b ≤ a + 1)
  near p.codeA.toNat want.1 && near p.codeB.toNat want.2

/-- A reception starts on a training section detected at a port; a network code that does not match abandons it at once (R328, R336). -/
def State.ngStart (s : State) (at' : Nat) (p : NgPreamble) : State :=
  let (power, sat, port) := s.ngChoice at' p
  let s1 := if sat then s.count C.NGR_RX_SAT else s
  if ¬ s.ngCodeOk p then (s1.count C.NGR_RX_WRONG_CODE).modNgr (fun n => { n with rx := none })
  else
    let x : NgRx := { id := s1.air.nextRx, power := power, sat := sat, port := port, ref := s1.now + p.ref.toNat
                      refPs := (s1.now + p.ref.toNat) * 2000 + p.sub.val, snr := p.snr.toInt, cfo := p.cfo.toInt
                      order := s1.fld F.NGR_PHY_CFG_ORDER, capDb := s1.fld F.NGR_RX_CFG_CAP_DB, agc := p.agc }
    let s2 : State := { s1 with air := { s1.air with nextRx := s1.air.nextRx + 1 } }
    s2.modNgr (fun n => { n with rx := some x })

/-- A frame that has reached its end while codewords are still in the pool leaves room for the next (R338, R339). -/
def State.ngSetAside (s : State) : State :=
  match s.ngr.rx with
  | some x => s.modNgr (fun n => { n with rx := none, done := n.done ++ [x] })
  | none => s

/-- NG_RX_DETECT (R336, R337): a training section starts a reception. -/
def execNgRxDetect (preamble : NgPreamble) (s : State) : Host.Outcome State Fault Refusal :=
  s.whenWorks 0xC0 <|
  if s.ngListens ∧ s.ngRxNow.isNone then .next (s.ngSetAside.ngStart s.ngStartPort preamble) else .next s

/-- The header that 64 bits hold (R329). -/
def ngHeader (b : Nat) : NgHeader :=
  { version := b % 4, cr := b / 4 % 4, ranging := b.testBit 4, ackreq := b.testBit 5, length := b / 256 % 256
    link := b / 65536 % 2 ^ 32 }

/-- NGL wants the payload of a frame with this LINK field (R356): its network and its destination. -/
def State.ngWants (s : State) (link : Nat) : Option Bool :=
  let typ := link % 16
  let dst := link / 65536
  let net := link / 256 % 256
  if typ ≠ 2 ∧ net ≠ (s.rd A.NGL_NET_ID).toNat % 256 then none
  else some (decide (dst = s.ngAddr) || (s.ngRouter && decide (dst = 0xFFFF)) ||
    (!s.ngRouter && decide (dst = 0xFFFE ∧ typ = 4)))

/-- NGL reads the LINK field and cancels the payload of a frame that is not for the device (R356); a reserved address is
counted (R355). -/
def State.ngLinkCheck (s : State) (x : NgRx) (h : NgHeader) : State :=
  let cancel := fun (t : State) => (t.cancelRx 3 x.id).modNgr (fun n => { n with rx := some { x with cancelled := true } })
  if h.ranging then s
  else
    match s.ngWants h.link with
    | none => cancel (s.count C.NGL_RX_OTHER_NET)
    | some true => s
    | some false =>
      let dst := h.link / 65536
      cancel (if 0x1001 ≤ dst ∧ dst ≤ 0xFFFD then s.count C.NGL_RX_BAD_FRAME else s)

/-- The last-frame record (R351): word 0, and the live words 1 to 3. -/
def State.ngLast (s : State) (x : NgRx) : State :=
  (s.wr (A.NGR_RX_LAST0) (BitVec.ofNat 32 (unsgn 16 x.power * 2 ^ 16 + unsgn 8 (clampInt (-128) 127 x.snr) * 2 ^ 8 +
    x.port * 2 ^ 7))).modNgr (fun n => { n with
      last := [BitVec.ofInt 32 x.cfo, BitVec.ofNat 32 x.ref, BitVec.ofNat 32 (x.ref / 2 ^ 32)], lastPort := x.port })

/-- NG_HEADER_RESULT (R329, R332, R339): the header codeword has ended with these 192 bits; the check passes with `DEC_OK`, so on a word
that meets the checks of the code, and legal VERSION and CR, and the frame's end is computed. -/
def execNgHeaderResult (word : BitVec 192) (s : State) : Host.Outcome State Fault Refusal :=
  s.whenWorks 0xC0 <|
  match s.ngr.rx with
  | none => .next s
  | some x =>
    match x.hdr, x.hdrDec with
    | none, some ok =>
      let h := ngHeader word.toNat
      if ¬ ok ∨ ¬ ngHeaderWord word ∨ h.version ≠ 0 ∨ 2 < h.cr then
        .next ((s.count C.NGR_RX_HDR_FAIL).modNgr (fun n => { n with rx := none }))
      else
        let y : NgRx := { x with hdr := some h, endT := x.ref + chirpTs x.order s.ngBw * ngSymbols x.order h.cr h.length }
        .next (((s.modNgr (fun n => { n with rx := some y })).ngLast y).ngLinkCheck y h)
    | _, _ => .next s

/-- Codewords of a reception are in the pool. -/
def State.ngDecoding (s : State) (x : NgRx) : Bool :=
  let mine := fun (c : Codeword) => decide (c.radio = 3 ∧ c.rx = x.id)
  s.ldpc.waiting.any mine || (List.range 14).any (fun e => (s.decoding e).any (fun d => mine d.cw))

/-- A frame that passed goes to NGL, or to the ranging exchange (R339). -/
def State.ngDeliver (s : State) (x : NgRx) (h : NgHeader) (psdu : List Byte) : State :=
  let f : NgIn := { hdr := h, psdu := psdu, rssi := x.power, snr := x.snr
                    port := x.port, ref := x.ref, refPs := x.refPs, endT := x.endT, order := x.order }
  let s1 := s.count C.NGR_RX_FRAMES
  if h.ranging then s1.modRng (fun r => { r with inbox := r.inbox ++ [f] })
  else s1.modNgl (fun n => { n with inbox := n.inbox ++ [f] })

/-- NG_RX_END (R330, R339): the oldest frame past its computed end whose codewords have all ended, with these bytes and this CRC, is
delivered or dropped. -/
def execNgRxEnd (crc : BitVec 16) (psdu : List Byte) (s : State) : Host.Outcome State Fault Refusal :=
  s.whenWorks 0xC0 <|
  let all := s.ngr.done ++ s.ngr.rx.toList
  match all.find? (fun x => x.hdr.isSome && decide (x.endT ≤ s.now) && !s.ngDecoding x) with
  | none => .next s
  | some x =>
    match x.hdr with
    | none => .next s
    | some h =>
      let s1 := s.modNgr (fun n => { n with
        rx := n.rx.filter (fun y => decide (y.id ≠ x.id)), done := n.done.filter (fun y => decide (y.id ≠ x.id)) })
      if x.cancelled then .next s1
      else if x.missed then .next (s1.count C.NGR_RX_DEC_MISSED)
      else
        let bytes := (psdu ++ List.replicate h.length 0).take h.length
        if h.length ≠ 0 ∧ crc ≠ ngCrc (bitsOf bytes) then .next (s1.count C.NGR_RX_CRC_FAIL)
        else .next (s1.ngDeliver x h bytes)

/-- The symbol timing of a training section differs from the current reception's by more than two chips (R340). -/
def State.ngOffset (s : State) (x : NgRx) (p : NgPreamble) : Bool :=
  let ts := chirpTs x.order s.ngBw
  let d := (((s.now + p.ref.toNat : Nat) - x.ref : Int) % ts).toNat
  let chip := 5000 / 2 ^ s.ngBw
  decide (2 * chip < d ∧ d + 2 * chip < ts)

/-- NG_SECOND_DETECT (R340): the second detector, on the reception's port, restarts before the header check, or on a
capture; otherwise the reception goes on. A preamble aligned with the current frame is not seen. -/
def execNgSecondDetect (preamble : NgPreamble) (s : State) : Host.Outcome State Fault Refusal :=
  s.whenWorks 0xC0 <|
  match s.ngListens, s.ngRxNow with
  | true, some x =>
    if ¬ s.ngOffset x preamble then .next s
    else if x.hdr.isNone then .next ((((s.count C.NGR_RX_FALSE_DETECT).cancelRx 3 x.id)).ngStart x.port preamble)
    else if x.power + 4 * x.capDb ≤ preamble.power.toInt ∨ x.sat ∨ preamble.sat then
      .next ((((s.count C.NGR_RX_LOST_CAPTURE).cancelRx 3 x.id)).ngStart x.port preamble)
    else .next s
  | _, _ => .next s

/-- RX_LAST0_READ (R351): answers RX_LAST0 and latches words 1 to 3. -/
def execRxLast0Read (s : State) : Host.Outcome State Fault Refusal :=
  .next (s.ownAccess false A.NGR_RX_LAST0 .rxLast0Read (fun u =>
    let w := fun i => u.ngr.last.getD i 0
    (((u.wr A.NGR_RX_LAST1 (w 0)).wr A.NGR_RX_LAST2 (w 1)).wr A.NGR_RX_LAST3 (w 2)).answer
      (BitVec.ofNat 64 (u.rd A.NGR_RX_LAST0).toNat)))

/-! ### Ranging (R343 to R346, R352) -/

/-- ARM (R344, R352): SEQ rises, and a POLL is armed; refused while an exchange is armed or runs. -/
def execArm (s : State) : Host.Outcome State Fault Refusal :=
  .next (s.ownWrite A.NGR_RNG_CMD .arm (fun s =>
    if s.flag F.NGR_RNG_STATUS_BUSY then s.refuse A.NGR_RNG_CMD .cfgRange
    else
      let s1 := s.setFld F.NGR_RNG_STATUS_SEQ (s.fld F.NGR_RNG_STATUS_SEQ + 1)
      let s2 := ((s1.setFld F.NGR_RNG_STATUS_BUSY 1).setFld F.NGR_RNG_STATUS_ROLE 0).setFld F.NGR_RNG_STATUS_RESULT 0
      s2.modRng (fun r => { r with step := .armed, peer := (s.rd A.NGR_RNG_PEER).toNat })))

/-- ABORT_RANGING (R345). -/
def execAbortRanging (s : State) : Host.Outcome State Fault Refusal := .next (s.ownWrite A.NGR_RNG_CMD .abortRanging State.rngAbort)

/-- TYPE, SEQ, SRC_ID and DST_ID of a ranging PSDU (R343). -/
def rngPsdu (typ seq src dst : Nat) (tail : List Byte) : List Byte :=
  [BitVec.ofNat 8 typ, BitVec.ofNat 8 seq] ++ leBytes 4 src ++ leBytes 4 dst ++ tail

/-- Bytes of a little-endian field of a PSDU, as a number. -/
def psduNat (b : List Byte) (off n : Nat) : Nat := leNat (slice b off n)

/-- LENGTH of each TYPE (R343). -/
def rngLength (typ : Nat) : Nat := [0, 10, 10, 20, 14].getD typ 0

/-- The oldest ranging frame, where it has this TYPE and its LENGTH and names the device (R343). -/
def State.rngHead (s : State) (typ : Nat) : Option (NgIn × Bool) :=
  match s.ngr.rng.inbox with
  | x :: _ =>
    if psduNat x.psdu 0 1 = typ then
      some (x, decide (x.hdr.length = rngLength typ ∧ psduNat x.psdu 6 4 = (s.rd A.NGR_RNG_ID).toNat))
    else none
  | [] => none

/-- Take the oldest ranging frame. -/
def State.rngTake (s : State) : State := s.modRng (fun r => { r with inbox := r.inbox.drop 1 })

/-- The oldest ranging frame has no legal TYPE: it is discarded without a count (R343). -/
def State.rngJunk (s : State) : Bool :=
  match s.ngr.rng.inbox with
  | x :: _ => decide (psduNat x.psdu 0 1 = 0 ∨ 4 < psduNat x.psdu 0 1)
  | [] => false

/-- Receive time of a frame in ps (R344): its reference point less the port's delay. -/
def State.rngRxTime (s : State) (x : NgIn) : Nat :=
  x.refPs - s.fld (if x.port = 0 then F.NGR_RNG_DLY_RX_PORT17 else F.NGR_RNG_DLY_RX_PORT18)

/-- Transmit time in ps of a frame with its reference point at a local count (R344). -/
def State.rngTxTime (s : State) (ref : Nat) : Nat := ref * 2000 + s.fld F.NGR_RNG_DLY_TX_PS

/-- Local count of the reply's reference point (R344). -/
def State.rngReply (s : State) (x : NgIn) : Nat := x.ref + usTicks (s.fld F.NGR_RNG_CFG_REPLY_US)

/-- Send a ranging frame with its reference point at a local count (R327, R341); answers the end of the frame. -/
def State.rngSend (s : State) (typ ref : Nat) (psdu : List Byte) : Nat × State :=
  let p := s.ngPhy
  let dur := s.phyDur p psdu.length
  let t0 := ref - p.2.2 * s.phyTs p
  (t0 + dur, s.ngCommand (.ranging typ psdu)
    (ngChirps p.1 p.2.1 p.2.2 (s.fld F.NGR_PHY_CFG_NETCODE) true false 0 psdu) (some t0) 0 dur)

/-- SEQ of the exchange. -/
def State.rngSeq (s : State) : Nat := s.fld F.NGR_RNG_STATUS_SEQ

/-- Hold an interval: 0 RA, 1 DA, 2 RB, 3 DB (R352). -/
def State.setInt (s : State) (i : Nat) (v : Int) : State :=
  s.wr64 (A.NGR_RNG_INT_LO i) (A.NGR_RNG_INT_HI i) (unsgn 40 v)

/-- An interval as held. -/
def State.getInt (s : State) (i : Nat) : Nat := s.rd64 (A.NGR_RNG_INT_LO i) (A.NGR_RNG_INT_HI i)

/-- The ToF of R344 in ps, rounded to nearest. -/
def tofPs (ra da rb db : Int) : Int :=
  let n := ra * rb - da * db
  let d := ra + rb + da + db
  (2 * n + d) / (2 * d)

/-- The exchange ends on its ToF (R345). -/
def State.rngResult (s : State) (tof : Int) : State :=
  (s.wr A.NGR_RNG_TOF (BitVec.ofInt 32 tof)).rngEnd (if -50000 ≤ tof then 1 else 4)

/-- The trigger fires (R344, R352): an armed POLL leaves SW_LEAD later; without one, nothing is sent. -/
def State.rngFire (s : State) : State :=
  if s.flag F.NGR_RNG_STATUS_BUSY ∧ s.ngr.rng.step = .armed then
    let p := s.ngPhy
    let ref := s.now + s.swLead 3 + p.2.2 * s.phyTs p
    let (stop, s1) := s.rngSend 1 ref (rngPsdu 1 s.rngSeq (s.rd A.NGR_RNG_ID).toNat s.ngr.rng.peer [])
    s1.modRng (fun r => { r with step := .waitResp, tPoll := s.rngTxTime ref, sentAt := stop })
  else s

/-- POLL (R344): a responder answers the POLL that names it; otherwise the frame is discarded without a count. -/
def execPoll (s : State) : Host.Outcome State Fault Refusal :=
  s.whenWorks 0xC0 <|
  match s.rngHead 1 with
  | none => if s.rngJunk then .next s.rngTake else .next s
  | some (x, fits) =>
    let s1 := s.rngTake
    if ¬ fits ∨ ¬ s.flag F.NGR_RNG_CFG_AUTO_RESP ∨ s.flag F.NGR_RNG_STATUS_BUSY then .next s1
    else
      let seq := psduNat x.psdu 1 1
      let src := psduNat x.psdu 2 4
      let ref := s.rngReply x
      let s2 := ((s1.setFld F.NGR_RNG_STATUS_SEQ seq).setFld F.NGR_RNG_STATUS_BUSY 1).setFld F.NGR_RNG_STATUS_ROLE 1
      let (stop, s3) := (s2.setFld F.NGR_RNG_STATUS_RESULT 0).rngSend 2 ref (rngPsdu 2 seq (s.rd A.NGR_RNG_ID).toNat src [])
      .next ((s3.setInt 3 ((s.rngTxTime ref : Int) - s.rngRxTime x)).modRng (fun r => { r with
        step := .waitFinal, peer := src, tPoll := s.rngRxTime x, tResp := s.rngTxTime ref, sentAt := stop }))

/-- The frame fits the exchange: its SEQ and the step (R343). -/
def State.rngFits (s : State) (x : NgIn) (step : RngStep) : Bool :=
  decide (s.ngr.rng.step = step) && decide (psduNat x.psdu 1 1 = s.rngSeq)

/-- RESP (R344): the initiator takes Ra and Da and schedules its FINAL. -/
def execResp (s : State) : Host.Outcome State Fault Refusal :=
  s.whenWorks 0xC0 <|
  match s.rngHead 2 with
  | none => .next s
  | some (x, fits) =>
    let s1 := s.rngTake
    if ¬ fits ∨ ¬ s.rngFits x .waitResp then .next s1
    else
      let ref := s.rngReply x
      let ra := (s.rngRxTime x : Int) - s.ngr.rng.tPoll
      let da := (s.rngTxTime ref : Int) - s.rngRxTime x
      let tail := leBytes 5 (unsgn 40 ra) ++ leBytes 5 (unsgn 40 da)
      let (stop, s2) := s1.rngSend 3 ref (rngPsdu 3 s.rngSeq (s.rd A.NGR_RNG_ID).toNat s.ngr.rng.peer tail)
      .next (((s2.setInt 0 ra).setInt 1 da).modRng (fun r => { r with
        step := .waitReport, tResp := s.rngRxTime x, sentAt := stop }))

/-- FINAL (R344, R345): the responder takes Rb, holds Ra and Da as carried, computes the ToF, schedules its REPORT and
has its result. -/
def execFinal (s : State) : Host.Outcome State Fault Refusal :=
  s.whenWorks 0xC0 <|
  match s.rngHead 3 with
  | none => .next s
  | some (x, fits) =>
    let s1 := s.rngTake
    if ¬ fits ∨ ¬ s.rngFits x .waitFinal then .next s1
    else
      let ra : Int := psduNat x.psdu 10 5
      let da : Int := psduNat x.psdu 15 5
      let rb := (s.rngRxTime x : Int) - s.ngr.rng.tResp
      let db := (s.ngr.rng.tResp : Int) - s.ngr.rng.tPoll
      let tof := tofPs ra da rb db
      let s2 := (((s1.setInt 0 ra).setInt 1 da).setInt 2 rb).rngResult tof
      .next (s2.rngSend 4 (s.rngReply x) (rngPsdu 4 s.rngSeq (s.rd A.NGR_RNG_ID).toNat s.ngr.rng.peer
        (leBytes 4 (unsgn 32 tof)))).2

/-- REPORT (R344, R345): the initiator takes the ToF that the REPORT carries, and has its result. -/
def execReport (s : State) : Host.Outcome State Fault Refusal :=
  s.whenWorks 0xC0 <|
  match s.rngHead 4 with
  | none => .next s
  | some (x, fits) =>
    let s1 := s.rngTake
    if ¬ fits ∨ ¬ s.rngFits x .waitReport then .next s1
    else .next (s1.rngResult (sgn 32 (psduNat x.psdu 10 4)))

/-- RNG_TIMEOUT (R345): the expected frame has not arrived within WAIT_MS of the side's own last transmission. -/
def execRngTimeout (s : State) : Host.Outcome State Fault Refusal :=
  s.whenWorks 0xC0 <|
  let r := s.ngr.rng
  if s.flag F.NGR_RNG_STATUS_BUSY ∧ r.step ≠ .idle ∧ r.step ≠ .armed ∧
      r.sentAt + msTicks (s.fld F.NGR_RNG_CFG_WAIT_MS) ≤ s.now then .next (s.rngEnd 2)
  else .next s

end Sys2Proof.Machine
end

