-- ==== Sys2Proof/Machine/Ngl.lean ====
section
/-! DEFINITION. The meanings of the Nguord link commands (spec/10_nguord_link.md R354 to R397). -/

namespace Sys2Proof.Machine

/-! ### Superframes (R363 to R366, R380) -/

/-- Drop a node (R380): DROPPED is set, its queued frames complete `NG_NO_NODE`, a drop record is owed. -/
def State.ngDropNode (s : State) (a : Nat) : State :=
  let n := s.ngNode a
  let s1 := s.setNgNode a { n with words := n.words.set 0 (n.word 0 ||| 0x40000000) }
  ((s1.ngEndAll (fun f => decide (f.dst = a) && f.enrol.isNone) ngNoNode).count C.NGL_NODES_DROPPED).ngEvent 2 a

/-- The event check of one node at the end of superframe n (R380). -/
def State.ngNodeEvent (s : State) (n a : Nat) : State :=
  let x := s.ngNode a
  let period := getBits (x.word 4) 16 16
  if ¬ x.live ∨ period = 0 ∨ n % period ≠ getBits (x.word 4) 0 16 ∨ s.ngl.heard.contains a then s
  else
    let m := min 255 (getBits (x.word 5) 16 8 + 1)
    let s1 := (s.setNgNode a { x with words := x.words.set 5 (setBits (x.word 5) 16 8 m) }).count C.NGL_EVENTS_MISSED
    if getBits (x.word 5) 24 8 ≤ m then s1.ngDropNode a else s1

/-- The event checks of every superframe that is over (R380); the next one begins with nothing heard. A frame of the very tick of the
check still counts. -/
def State.ngChecks (s : State) : State :=
  (s.ngl.owed.filter (fun e => decide (e.2 < s.now))).foldl (fun t e =>
    ((t.ngl.nodes.map Prod.fst).foldl (fun u a => u.ngNodeEvent e.1 a) t).modNgl (fun x => { x with heard := [] }))
    (s.modNgl (fun x => { x with owed := x.owed.filter (fun e => decide (s.now ≤ e.2)) }))

/-- Superframe n begins at S (R363, R380): the checks of those before it have run, and its own are owed at its end. -/
def State.ngBegin (s : State) (n s0 period : Nat) : State :=
  (s.ngChecks.setFld F.NGL_SFN_SFN n).modNgl (fun x => { x with
    s0 := some s0, slotsRun := [], slot := none, owed := x.owed ++ [(n, s0 + msTicks period)] })

/-- Sleepy next hops with queued frames, the oldest queued frame first (R367). -/
def State.ngPending (s : State) : List Nat :=
  (s.ngl.frames.foldl (fun l f =>
    if s.ngSleepy f.dst ∧ f.enrol.isNone ∧ ¬ l.contains f.dst then l ++ [f.dst] else l) []).take 16

/-- The beacon body (R358). -/
def State.beaconBody (s : State) : List Byte :=
  let p := s.ngPending
  leBytes 4 (s.fld F.NGL_SFN_SFN) ++ leBytes 4 (s.rd A.NGL_NET_ID).toNat ++ leBytes 3 (s.fld F.NGL_SF_PERIOD_PERIOD_MS) ++
    leBytes 3 (s.fld F.NGL_SF_CAP_CAP_END_MS) ++ leBytes 3 (s.fld F.NGL_SF_ACTIVE_ACTIVE_END_MS) ++
    leBytes 2 (s.fld F.NGL_SF_RELAY_RELAY_MS) ++
    [BitVec.ofNat 8 (s.fld F.NGL_CTRL_DEPTH % 16 + s.fld F.NGL_CTRL_MAX_DEPTH * 16 + s.fld F.NGL_CTRL_ENROL_OPEN * 128),
     BitVec.ofNat 8 (s.fld F.NGL_GUARD_OWN_PPM), BitVec.ofNat 8 p.length] ++ p.flatMap (leBytes 2)

/-- Local count at which the trigger of the device's beacon fires, for the superframe from S (R365). -/
def State.bcnTrigger (s : State) (s0 : Nat) : Nat :=
  s0 + msTicks (s.fld F.NGL_CTRL_DEPTH * s.fld F.NGL_SF_RELAY_RELAY_MS) - s.bcnLead - usTicks 100

/-- Arm trigger channel 3 for the beacon of the superframe from S (R365). -/
def State.armBeacon (s : State) (s0 : Nat) : State := s.armTrigger 3 3 5 (s.bcnTrigger s0) 0

/-- The beacon of the superframe is queued as a timed transmission, or left out by a limit or an unusable group key
(R365, R375). -/
def State.sendBeacon (s : State) : State :=
  let t0 := s.bcnTrigger (s.ngl.s0.getD 0) + usTicks 100
  let dur := s.phyDur s.bcnPhy (14 + s.beaconBody.length)
  if ¬ s.dwellOk s.ngl.ch t0 dur ∨ ¬ s.dutyOk s.ngl.ch t0 dur then s.count C.NGL_BCN_SKIPPED
  else
    match s.ngTxKey 0xFFFF with
    | none => s.count C.NGL_BCN_SKIPPED
    | some (slot, id) =>
      match s.ngProtect slot id 0 false 0xFFFF none s.beaconBody with
      | (.error _, s1) => s1.count C.NGL_BCN_SKIPPED
      | (.ok (link, _, psdu), s1) =>
        let p := s.bcnPhy
        (s1.modNgl (fun n => { n with beacon := psdu })).ngCommand .ngBeacon
          (ngChirps p.1 p.2.1 p.2.2 (s.fld F.NGR_PHY_CFG_NETCODE) false false link psdu) (some t0) 0 dur

/-- Trigger channel 3 fires (R365): in ROOT the next superframe begins; a ranging exchange is aborted, the pending list
is frozen in the beacon, the radio retunes and drops its reception, the beacon follows. -/
def State.ngTrigger (s : State) : State :=
  if ¬ s.ngOn then s
  else if s.ngRouter then ((s.rngAbort).ngHop (s.hopChannel (s.fld F.NGL_SFN_SFN))).sendBeacon
  else
    let (n, s0) := match s.ngl.s0 with
      | some x => (s.fld F.NGL_SFN_SFN + 1, x + msTicks (s.fld F.NGL_SF_PERIOD_PERIOD_MS))
      | none => (0, s.now + s.bcnLead + usTicks 100)
    let s2 := (s.ngBegin n s0 (s.fld F.NGL_SF_PERIOD_PERIOD_MS)).modNgl (fun x => { x with bcnOk := true })
    let s3 := (s2.rngAbort).ngHop (s2.hopChannel (s2.fld F.NGL_SFN_SFN))
    (s3.sendBeacon).armBeacon (s0 + msTicks (s.fld F.NGL_SF_PERIOD_PERIOD_MS))

/-- The network stops: its commands that have not started are dropped. -/
def State.nglStop (s : State) : State :=
  let s1 := (((s.setFld F.NGL_CTRL_EN 0).setFld F.NGL_SYNC_STATE 0).setFld F.NGL_SYNC_MISSED_BCN 0).wr (A.POSTMARK_TRG_CTRL 3) 0
  (s1.modRadio 3 (fun x => { x with cmds := x.cmds.filter (fun c =>
      match c.kind with
      | .ranging _ _ => true
      | _ => false) })).modNgl (fun n => { n with
    s0 := none, bcnOk := false, wait := none, scan := none, wide := false, owed := [], heard := [], slotsRun := [], slot := none })

/-- The network starts (R364 to R366, R374, R382): a root begins its first superframe at once, a router searches. -/
def State.nglStart (s : State) : State :=
  let s1 := ((s.setFld F.NGL_CTRL_EN 1).setFld F.NGL_CTRL_DEPTH 0).modNgl (fun n => { n with enAt := s.now, s0 := none })
  if s1.ngRouter then (s1.setFld F.NGL_SYNC_STATE 1).ngHop (s1.fld F.NGL_SYNC_SEARCH_CH)
  else s1.armTrigger 3 3 5 s.now 0

/-- The refusal of a CTRL write, if any (R364, R371, R388). -/
def State.ngCtrlError (s : State) (v : Word) : Option RefCode :=
  let on := s.flag F.NGL_CTRL_EN
  let role := getBits v 29 2
  let router := decide (role = 1)
  if 1 < role ∨ (on ∧ role ≠ s.fld F.NGL_CTRL_ROLE) then some .cfgRange
  else if on ∧ ¬ router ∧ getBits v 24 3 ≠ s.fld F.NGL_CTRL_MAX_DEPTH then some .cfgRange
  else if router ∧ (getBits v 0 16 = 0 ∨ 0x1000 < getBits v 0 16) then some .cfgRange
  else if v.getLsbD 31 ∧ ¬ on then
    match (if router then none else
        s.sfError (s.fld F.NGL_SF_PERIOD_PERIOD_MS) (s.fld F.NGL_SF_CAP_CAP_END_MS) (s.fld F.NGL_SF_ACTIVE_ACTIVE_END_MS)
          (s.fld F.NGL_SF_RELAY_RELAY_MS) (getBits v 24 3)) with
    | some e => some e
    | none => s.planError
  else none

/-- A write of NGL.CTRL (R364, R388). -/
def State.ngCtrlWrite (s : State) (v : Word) : State :=
  match s.ngCtrlError v with
  | some e => s.refuse A.NGL_CTRL e
  | none =>
    let router := decide (getBits v 29 2 = 1)
    let s1 := ((s.setFld F.NGL_CTRL_ROLE (getBits v 29 2)).setFld F.NGL_CTRL_ENROL_OPEN (getBits v 28 1)).setFld
      F.NGL_CTRL_OWN_ADDR (if router then getBits v 0 16 else 0)
    let s2 := if router then s1 else s1.setFld F.NGL_CTRL_MAX_DEPTH (getBits v 24 3)
    if v.getLsbD 31 ∧ ¬ s.flag F.NGL_CTRL_EN then s2.nglStart
    else if ¬ v.getLsbD 31 ∧ s.flag F.NGL_CTRL_EN then s2.nglStop
    else s2

/-- NGL_ENABLE (R364): a write of CTRL with EN. -/
def execNglEnable (value : Word) (s : State) : Host.Outcome State Fault Refusal :=
  .next (s.ownWrite A.NGL_CTRL (.nglEnable value) (fun s => s.ngCtrlWrite (value ||| 0x80000000)))

/-! ### Beacons of the parent (R366, R381, R382) -/

/-- What a beacon body says (R358). -/
structure BeaconIn where
  sfn : Nat
  period : Nat
  cap : Nat
  active : Nat
  relay : Nat
  depth : Nat
  maxDepth : Nat
  open' : Nat
  sca : Nat
  deriving DecidableEq, Repr

/-- Read a beacon body. -/
def readBeacon (b : List Byte) : BeaconIn :=
  let f := psduNat b 19 1
  { sfn := psduNat b 0 4, period := psduNat b 8 3, cap := psduNat b 11 3, active := psduNat b 14 3, relay := psduNat b 17 2
    depth := f % 16, maxDepth := f / 16 % 8, open' := f / 128, sca := psduNat b 20 1 }

/-- Expected reference point of the parent's next beacon (R381). -/
def State.bcnExpected (s : State) : Nat :=
  s.sfEnd + msTicks ((s.fld F.NGL_CTRL_DEPTH - 1) * s.fld F.NGL_SF_RELAY_RELAY_MS)

/-- Half the window g in ticks (R381, R382). -/
def State.bcnGuard (s : State) : Nat :=
  let dt := (s.bcnExpected - s.ngl.lastBcn) / Config.ticksPerUs
  let ppm := s.fld F.NGL_GUARD_OWN_PPM + s.ngl.parentSca
  msTicks (if s.ngl.wide then s.fld F.NGL_GUARD_MAX_GUARD_MS
    else min (s.fld F.NGL_GUARD_MAX_GUARD_MS) (s.fld F.NGL_GUARD_BASE_GUARD_MS + ceilDiv (dt * ppm) (1000000 * 1000)))

/-- A beacon with this reference point is taken: in a search, in a resync scan, or inside the window (R381, R382). -/
def State.bcnTaken (s : State) (ref : Nat) : Bool :=
  match s.ngl.s0, s.ngl.scan with
  | none, _ => true
  | some _, some stop => decide (ref ≤ stop)
  | some _, none => decide (s.bcnExpected ≤ ref + s.bcnGuard ∧ ref ≤ s.bcnExpected + s.bcnGuard)

/-- The oldest frame that NGR has delivered. -/
def State.ngHead (s : State) : Option NgIn := s.ngl.inbox.head?

/-- Take it. -/
def State.ngTake (s : State) : State := s.modNgl (fun n => { n with inbox := n.inbox.drop 1 })

/-- TYPE of a frame. -/
def NgIn.typ (x : NgIn) : Nat := x.hdr.link % 16

/-- SRC of a frame. -/
def NgIn.src (x : NgIn) : Nat := psduNat x.psdu 0 2

/-- FCNT of a frame. -/
def NgIn.fcnt (x : NgIn) : Nat := psduNat x.psdu 2 4

/-- DST of a frame. -/
def NgIn.dst (x : NgIn) : Nat := x.hdr.link / 65536

/-- KEYID of a frame. -/
def NgIn.keyId (x : NgIn) : Nat := x.hdr.link / 128 % 2

/-- The RELAY bit of a frame. -/
def NgIn.relay (x : NgIn) : Bool := x.hdr.link.testBit 6

/-- Bytes of a frame's MAC and mesh headers. -/
def NgIn.hdrLen (x : NgIn) : Nat := if x.relay then 11 else 6

/-- A frame's body, where its key is usable and its MIC verifies; else the counter of the failure (R360, R376). -/
def State.ngVerify (s : State) (x : NgIn) : (List Byte ⊕ Nat) × State :=
  match s.ngRxKey x.src x.dst x.keyId with
  | none => (.inr C.NGL_RX_NO_KEY, s)
  | some slot =>
    let s1 := s.keyReady slot
    match s1.keyRx slot 2 (fun kt => decide (kt = 0)) with
    | .error _ => (.inr C.NGL_RX_NO_KEY, s1)
    | .ok key =>
      let hdr := x.psdu.take x.hdrLen
      match ngOpen key (s.ngNonce x.src x.dst x.fcnt x.typ x.keyId) (leBytes 4 x.hdr.link ++ hdr) (x.psdu.drop x.hdrLen)
          (micOnly x.typ) with
      | some body => (.inl body, s1)
      | none => (.inr C.NGL_RX_MIC_FAIL, s1.count C.SEAL_TAG_FAIL)

/-- Last accepted FCNT for a frame's sender and key (R362). -/
def State.ngLastFcnt (s : State) (x : NgIn) : Nat :=
  if s.ngRouter ∧ x.src = s.ngParent then
    (if x.dst = 0xFFFF then s.ngl.groupFcnt.getD x.keyId 0 else s.ngl.parentFcnt.getD x.keyId 0)
  else if x.keyId = 0 then (s.ngNode x.src).fcnt0 else (s.ngNode x.src).fcnt1

/-- A list of two counts with one replaced. -/
def setPair (l : List Nat) (i v : Nat) : List Nat := [l.getD 0 0, l.getD 1 0].set i v

/-- Hold the FCNT of an accepted frame (R362). -/
def State.ngAccept (s : State) (x : NgIn) : State :=
  if s.ngRouter ∧ x.src = s.ngParent then
    s.modNgl (fun n =>
      if x.dst = 0xFFFF then { n with groupFcnt := setPair n.groupFcnt x.keyId x.fcnt }
      else { n with parentFcnt := setPair n.parentFcnt x.keyId x.fcnt })
  else
    let n := s.ngNode x.src
    s.setNgNode x.src (if x.keyId = 0 then { n with fcnt0 := x.fcnt } else { n with fcnt1 := x.fcnt })

/-- A parent's beacon sets the device's timing (R366). -/
def State.takeBeacon (s : State) (x : NgIn) (b : BeaconIn) : State :=
  let s0 := x.ref - msTicks (b.depth * b.relay)
  let s1 := (s.ngAccept x).ngBegin b.sfn s0 b.period
  let s2 := ((((((s1.setFld F.NGL_SF_PERIOD_PERIOD_MS b.period).setFld
    F.NGL_SF_CAP_CAP_END_MS b.cap).setFld F.NGL_SF_ACTIVE_ACTIVE_END_MS b.active).setFld F.NGL_SF_RELAY_RELAY_MS
    b.relay).setFld F.NGL_CTRL_MAX_DEPTH b.maxDepth).setFld F.NGL_CTRL_DEPTH (b.depth + 1)).setFld F.NGL_SYNC_MISSED_BCN 0
  let s3 := (s2.setFld F.NGL_SYNC_STATE 2).modNgl (fun n => { n with
    bcnOk := true, lastBcn := x.ref, parentSca := b.sca, scan := none, wide := false })
  let s4 := s3.ngHop (s3.hopChannel b.sfn)
  if b.depth + 1 ≤ b.maxDepth then s4.armBeacon s0 else s4

/-- PARENT_BEACON_RX (R362, R364, R366, R376, R381, R382): the oldest delivered frame is a beacon, in ROUTER role. -/
def execParentBeaconRx (s : State) : Host.Outcome State Fault Refusal :=
  match s.ngHead with
  | none => .next s
  | some x =>
    if ¬ s.ngOn ∨ ¬ s.ngRouter ∨ x.typ ≠ 0 ∨ s.fld F.NGL_SYNC_STATE = 4 then .next s
    else
      let s1 := s.ngTake
      if x.psdu.length < 36 ∨ x.hdr.ackreq ∨ x.relay ∨ ¬ x.hdr.link.testBit 4 ∨ x.dst ≠ 0xFFFF then
        .next (s1.count C.NGL_RX_BAD_FRAME)
      else if x.src ≠ s.ngParent then .next (s1.count C.NGL_RX_NO_NODE)
      else
        match s1.ngVerify x with
        | (.inr c, s2) => .next (s2.count c)
        | (.inl body, s2) =>
          let b := readBeacon body
          if x.fcnt = s2.ngLastFcnt x then .next (s2.count C.NGL_RX_DUP)
          else if x.fcnt < s2.ngLastFcnt x then .next (s2.count C.NGL_RX_REPLAY)
          else if x.psdu.length ≠ 36 + 2 * psduNat body 21 1 ∨ 16 < psduNat body 21 1 ∨
              psduNat body 4 4 ≠ (s2.rd A.NGL_NET_ID).toNat ∨ (s2.sfError b.period b.cap b.active b.relay b.maxDepth).isSome then
            .next (s2.count C.NGL_RX_BAD_FRAME)
          else if s2.bcnTaken x.ref then .next (s2.takeBeacon x b)
          else .next s2

/-- The parent is lost (R382). -/
def State.parentLost (s : State) : State :=
  ((s.setFld F.NGL_SYNC_STATE 4).ngEndAll (fun f => decide (f.dst = s.ngParent) && f.enrol.isNone) ngNoRoute).ngEvent 3
    s.ngParent

/-- A beacon of the parent is missed (R366, R382): the superframe passes without one. -/
def State.bcnMissed (s : State) (scan : Option Nat) (wide : Bool) : State :=
  let stop := s.sfEnd
  let n := s.fld F.NGL_SYNC_MISSED_BCN + 1
  let s1 := ((s.ngBegin (s.fld F.NGL_SFN_SFN + 1) stop (s.fld F.NGL_SF_PERIOD_PERIOD_MS)).setFld F.NGL_SYNC_MISSED_BCN
    (min 0xFFFF n)).count C.NGL_BCN_MISSED
  let s2 := s1.modNgl (fun x => { x with bcnOk := false, scan := scan, wide := wide })
  let s3 := if scan.isSome then s2.setFld F.NGL_SYNC_STATE 3 else s2
  if s.fld F.NGL_PARENT_PARENT_TO ≤ n then s3.parentLost else s3

/-- RESYNC_SCAN (R382): the window has passed without a beacon, and a scan of one superframe begins; or the scan has
failed, and the next window is as wide as MAX_GUARD_MS. -/
def execResyncScan (s : State) : Host.Outcome State Fault Refusal :=
  if ¬ s.ngOn ∨ ¬ s.ngRouter ∨ s.ngl.s0.isNone ∨ s.fld F.NGL_SYNC_STATE = 4 then .next s
  else
    match s.ngl.scan with
    | none =>
      if s.now ≤ s.bcnExpected + s.bcnGuard then .next s
      else
        let stop := s.bcnExpected + msTicks (s.fld F.NGL_SF_PERIOD_PERIOD_MS + s.fld F.NGL_GUARD_MAX_GUARD_MS)
        .next ((s.count C.NGL_RESYNC_SCANS).bcnMissed (some stop) s.ngl.wide)
    | some stop => if s.now ≤ stop then .next s else .next (s.bcnMissed none true)

/-! ### Receiving (R376, R377, R384, R387) -/

/-- The address is a node. -/
def isNode (a : Nat) : Bool := decide (1 ≤ a ∧ a ≤ 0x1000)

/-- A frame obeys R355 to R357. -/
def State.ngFrameOk (s : State) (x : NgIn) : Bool :=
  let len := x.psdu.length
  let t := x.typ
  x.hdr.link.testBit 4 && decide (x.hdrLen + 8 ≤ len) &&
  (decide (x.src = 0) || isNode x.src || decide (x.src = 0xFFFE ∧ t = 4)) &&
  (decide (x.dst = s.ngAddr) || decide (x.dst = 0xFFFF ∧ t ≠ 4) || decide (x.dst = 0xFFFE ∧ t = 4 ∧ s.ngRouter = false)) &&
  (if t = 0 then !x.hdr.ackreq && !x.relay && decide (36 ≤ len ∧ x.dst = 0xFFFF)
   else if t = 1 then decide (len ≤ x.hdrLen + 244)
   else if t = 3 then decide (x.hdrLen + 9 ≤ len ∧ len ≤ x.hdrLen + 244 ∧ x.dst ≠ 0xFFFF)
   else if t = 4 then !x.hdr.ackreq && !x.relay && decide (len = 37)
   else if t = 5 then !x.hdr.ackreq && !x.relay && decide (len = 77)
   else false) &&
  (!x.relay || (decide (x.dst ≠ 0xFFFF ∧ psduNat x.psdu 10 1 ≤ 15) &&
    (decide (psduNat x.psdu 6 2 = 0) || isNode (psduNat x.psdu 6 2)) &&
    (decide (psduNat x.psdu 8 2 = 0) || isNode (psduNat x.psdu 8 2))))

/-- A node is heard (R376, R380, R394): MISSED clears. -/
def State.ngHeard (s : State) (a : Nat) : State :=
  let n := s.ngNode a
  if ¬ n.valid then s
  else
    (s.setNgNode a { n with words := n.words.set 5 (setBits (n.word 5) 16 8 0), lastSfn := s.fld F.NGL_SFN_SFN }).modNgl
      (fun x => { x with heard := if x.heard.contains a then x.heard else x.heard ++ [a] })

/-- Acknowledge a frame (R370, R375, R377, R379): the acknowledgement leaves ACK_TURN_US after it; one with PEND set
gives a sleepy node's queue its turn. -/
def State.ngAck (s : State) (x : NgIn) : State :=
  let t := x.endT + usTicks (s.fld F.NGL_ACK_CFG_ACK_TURN_US)
  let dur := s.ackDur x.order
  if s.ngl.s0.isSome ∧ (s.regionAt t = .quiet ∨ s.activeEnd < t + dur) then s
  else if t < s.now + usTicks 100 then s.count C.NGL_ACK_LATE
  else if ¬ s.dwellOk s.ngl.ch t dur ∨ ¬ s.dutyOk s.ngl.ch t dur then s.count C.NGL_ACK_SUPPRESSED
  else
    let pend := decide (s.ngQueue x.src ≠ [])
    let link := ngLink 2 pend false 0 x.fcnt x.src
    let s1 := s.ngCommand (.ngAck [BitVec.ofNat 32 link])
      (ngChirps x.order 0 (s.fld F.NGR_PHY_CFG_NPRE) (s.fld F.NGR_PHY_CFG_NETCODE) false false link []) (some t) 0 dur
    if pend ∧ s.ngSleepy x.src ∧ s.ngl.wait.isNone then
      s1.ngDownlink x.src (t + dur + usTicks (s.fld F.NGL_ACK_CFG_DL_GAP_US))
    else s1

/-- The record of a received frame (R387). -/
def State.ngFrameRecord (s : State) (x : NgIn) (payload : List Byte) : List Word :=
  ngRecord 1 x.typ (if x.relay then psduNat x.psdu 6 2 else x.src) x.fcnt (unsgn 16 x.rssi) (unsgn 8 (clampInt (-128) 127 x.snr))
    x.port x.keyId s.ngl.ch x.ref payload

/-- The frame is for firmware: in Watch it is kept and wakes the device, otherwise its record goes to the receive FIFO
(R69, R376, R387). -/
def State.ngToFirmware (s : State) (x : NgIn) (payload : List Byte) : State :=
  let ws := s.ngFrameRecord x payload
  let s1 := s.count C.NGL_RX_DELIVERED
  if s.inWatch then
    ({ s1 with power := { s1.power with keptFrames := s1.power.keptFrames ++ [(false, ofItems ws)] } }).wakeEvent 5 false
  else (s1.hwRecord (s.fld F.NGL_FIFO_RX) ws).2

/-- The receive FIFO has room for a record (R376). -/
def State.ngRoom (s : State) (payload : List Byte) : Bool :=
  s.inWatch || s.recordFits (s.fld F.NGL_FIFO_RX) (6 + (payload.length + 3) / 4)

/-- Frames in relay buffers. -/
def State.ngRelayed (s : State) : Nat :=
  (s.ngl.frames.filter (fun f => decide (f.source = .relay))).length

/-- Queue a frame for transmission, with its first backoff (R368). -/
def State.ngEnqueue (s : State) (f : NgFrame) : State :=
  let be := s.fld F.NGL_TX_CFG_MIN_BE
  let (n, s1) := s.drawBackoff be
  s1.modNgl (fun x => { x with
    frames := x.frames ++ [{ f with id := x.next, net := s.fld F.NGR_PHY_CFG_NETCODE, be := be, backoff := n, since := s.now }], next := x.next + 1 })

/-- Relay a frame (R384). -/
def State.ngRelay (s : State) (x : NgIn) (body : List Byte) : State :=
  let left := psduNat x.psdu 10 1
  if left = 0 then s.count C.NGL_RX_HOPS
  else
    match s.ngRoute (psduNat x.psdu 6 2) (psduNat x.psdu 8 2) (some (left - 1)) with
    | (none, s1) => s1
    | (some (dst, mesh), s1) =>
      -- R379: a sleepy node's queue that is full takes no more
      if s1.ngSleepy dst ∧ s1.fld F.NGL_TX_CFG_PEND_MAX ≤ (s1.ngQueue dst).length then s1
      else (s1.count C.NGL_RX_RELAYED).ngEnqueue {
        id := 0, source := .relay, typ := x.typ, ack := x.hdr.ackreq, dst := dst, mesh := mesh, body := body, phy := s.ngPhy
        be := 0, backoff := 0, since := 0 }

/-- A frame is to be relayed (R384). -/
def State.ngForRelay (s : State) (x : NgIn) : Bool := x.relay && decide (psduNat x.psdu 8 2 ≠ s.ngAddr)

/-- A CMD whose code R357 does not list: its frame breaks the row of its type. -/
def ngBadCode (x : NgIn) (body : List Byte) : Bool :=
  decide (x.typ = 3) && (decide (psduNat body 0 1 = 0) || (decide (4 ≤ psduNat body 0 1) && decide (psduNat body 0 1 < 16)))

/-- A POLL, which NGL handles itself (R357, R379). -/
def ngPoll (x : NgIn) (body : List Byte) : Bool := decide (x.typ = 3 ∧ psduNat body 0 1 = 1)

/-- The frame draws an acknowledgement (R376, R379). -/
def State.ngDrawsAck (s : State) (x : NgIn) (body : List Byte) : Bool :=
  decide (x.dst ≠ 0xFFFF) && (x.hdr.ackreq || (ngPoll x body && decide (s.ngQueue x.src ≠ [])))

/-- Steps 4 to 6 of R376: FCNT, room, acknowledgement, and delivery, relay or POLL. -/
def State.ngJudge (s : State) (x : NgIn) (body : List Byte) : State :=
  let last := s.ngLastFcnt x
  if x.fcnt = last then
    let s1 := s.count C.NGL_RX_DUP
    if x.hdr.ackreq ∧ x.dst ≠ 0xFFFF then s1.ngAck x else s1
  else if x.fcnt < last then s.count C.NGL_RX_REPLAY
  else
    let relay := s.ngForRelay x
    if relay ∧ 64 ≤ s.ngRelayed then s.count C.NGL_RX_RELAY_FULL
    else if ¬ relay ∧ ¬ ngPoll x body ∧ ¬ s.ngRoom body then s.count C.NGL_RX_FIFO_FULL
    else
      let s1 := s.ngAccept x
      let s2 := if s1.ngDrawsAck x body then s1.ngAck x else s1
      if relay then (if s.fld F.NGL_SYNC_STATE = 4 then s2 else s2.ngRelay x body)
      else if ngPoll x body then s2
      else s2.ngToFirmware x body

/-- NG_FRAME_RX (R376): the oldest delivered frame, where it is neither an acknowledgement nor a beacon for a router. -/
def execNgFrameRx (s : State) : Host.Outcome State Fault Refusal :=
  match s.ngHead with
  | none => .next s
  | some x =>
    if ¬ s.ngOn ∨ x.typ = 2 ∨ (x.typ = 0 ∧ s.ngRouter) then .next s
    else
      let s1 := s.ngTake
      if ¬ s.ngFrameOk x then .next (s1.count C.NGL_RX_BAD_FRAME)
      else if x.typ = 4 then
        (if s1.ngRoom x.psdu then .next (s1.ngToFirmware x x.psdu) else .next (s1.count C.NGL_RX_FIFO_FULL))
      else if ¬ s1.neighbour x.src ∨ (x.dst = 0xFFFF ∧ x.src ≠ s1.ngParent) then .next (s1.count C.NGL_RX_NO_NODE)
      else
        match s1.ngVerify x with
        | (.inr c, s2) => .next (s2.count c)
        | (.inl body, s2) =>
          if ngBadCode x body then .next ((s2.ngHeard x.src).count C.NGL_RX_BAD_FRAME)
          else .next ((s2.ngHeard x.src).ngJudge x body)

/-! ### Acknowledgements of the device's frames (R378) -/

/-- An acknowledgement obeys R356 and R357: SEC, ACKREQ and RELAY 0, header only. -/
def NgIn.ackOk (x : NgIn) : Bool := !x.hdr.link.testBit 4 && !x.hdr.ackreq && !x.relay && decide (x.hdr.length = 0)

/-- NG_ACK_RX (R357, R378, R379): a matching acknowledgement ends the frame `NG_OK`; a sleepy node that was told of more
frames is sent the next. -/
def execNgAckRx (s : State) : Host.Outcome State Fault Refusal :=
  match s.ngHead with
  | none => .next s
  | some x =>
    if ¬ s.ngOn ∨ x.typ ≠ 2 then .next s
    else
      let s1 := s.ngTake
      if ¬ x.ackOk then .next (s1.count C.NGL_RX_BAD_FRAME)
      else
      match s.ngl.wait.bind (fun w => (s.ngFrame w.id).map (fun f => (w, f))) with
      | none => .next s1
      | some (w, f) =>
        if x.dst = s.ngAddr ∧ x.hdr.link / 256 % 256 = f.fcnt % 256 ∧ w.ref ≤ x.ref + w.ts ∧ x.ref ≤ w.ref + w.ts then
          let s2 := s1.ngEnd f ngOk
          if f.link.testBit 5 ∧ s2.ngSleepy f.dst then
            .next (s2.ngDownlink f.dst (x.endT + usTicks (s.fld F.NGL_ACK_CFG_DL_GAP_US)))
          else if s2.ngl.slot.any (fun y => decide (y.1 = f.dst)) then
            .next (s2.ngDownlink f.dst (x.endT + usTicks (s.fld F.NGL_ACK_CFG_DL_GAP_US)))
          else .next s2
        else .next s1

/-- NG_ACK_TIMEOUT (R368, R378): no acknowledgement has come; the frame is tried again, or ends `NG_NO_ACK`. -/
def execNgAckTimeout (s : State) : Host.Outcome State Fault Refusal :=
  s.whenWorks nglBlock <|
  match s.ngl.wait with
  | none => .next s
  | some w =>
    if s.now < w.stop + w.ts then .next s
    else
      let s1 := s.modNgl (fun n => { n with wait := none })
      match s.ngFrame w.id with
      | none => .next s1
      | some f =>
        if s.fld F.NGL_TX_CFG_RETRY_LIMIT ≤ f.attempts then .next ((s1.count C.NGL_TX_NO_ACK).ngEnd f ngNoAck)
        else .next (s1.ngRedraw f 1 s.now)

/-! ### Contention, slots, calibration (R368 to R370) -/

/-- The first frame that goes by contention: its next hop is awake, or it is broadcast (R368, R379). -/
def State.ngContender (s : State) : Option NgFrame :=
  s.ngl.frames.find? (fun f => f.enrol.isNone && !s.ngSleepy f.dst && !s.ngCommanded f.id)

/-- LBT finds the channel busy (R368): its energy in dBm reaches LBT_DBM, or a preamble has been detected. -/
def State.lbtBusy (s : State) (energy : BitVec 8) : Bool :=
  decide (sgn 8 (s.fld F.NGL_REG_LBT_LBT_DBM) ≤ energy.toInt) || s.ngRxNow.isSome

/-- BACKOFF_END (R368, R373 to R375, R382): the backoff of the first contending frame has ended; `energy` is what LBT
measures. -/
def execBackoffEnd (energy : BitVec 8) (s : State) : Host.Outcome State Fault Refusal :=
  match s.ngContender with
  | none => .next s
  | some f =>
    if ¬ s.ngOn ∨ s.ngl.s0.isNone ∨ ¬ s.ngl.bcnOk ∨ s.regionAt s.now ≠ .contention ∨
        ¬ s.ngIdle (s.now + (if s.flag F.NGL_REG_LBT_LBT_EN then usTicks (s.fld F.NGL_REG_LBT_LBT_US) else 0) +
          s.phyDur f.phy f.len + s.ackTail f) ∨
        s.now < max f.since s.capStart + f.backoff * s.phyTs f.phy then .next s
    else if s.flag F.NGL_REG_LBT_LBT_EN ∧ s.lbtBusy energy then .next ((s.count C.NGL_TX_DEFER_LBT).ngRedraw f 1 s.now)
    else
      let t := s.now + (if s.flag F.NGL_REG_LBT_LBT_EN then usTicks (s.fld F.NGL_REG_LBT_LBT_US) else 0)
      let dur := s.phyDur f.phy f.len
      if s.capEnd < t + dur + s.ackTail f then .next (s.ngRedraw f 0 s.sfEnd)
      else if ¬ s.dwellOk s.ngl.ch t dur then .next ((s.ngHeld f C.NGL_TX_DEFER_DWELL).ngRedraw f 0 s.now)
      else if ¬ s.dutyOk s.ngl.ch t dur then .next ((s.ngHeld f C.NGL_TX_DEFER_DUTY).ngRedraw f 0 s.now)
      else
        match s.ngReady f with
        | (some g, s1) => .next (s1.ngCommand (.ngFrame g.id) g.chirps none t dur)
        | (none, s1) => .next s1

/-- NG_SLOT_START (R369, R379): a slot of this superframe begins; in a downlink slot the node's first frame goes. -/
def execNgSlotStart (slot : BitVec 8) (s : State) : Host.Outcome State Fault Refusal :=
  let i := slot.toNat
  let node := s.fld (F.NGL_SLOT_W1_NODE i)
  let start := s.sfAt (s.fld (F.NGL_SLOT_W0_OFFSET_MS i))
  let stop := start + msTicks (s.fld (F.NGL_SLOT_W1_LEN_MS i))
  if ¬ s.ngOn ∨ s.ngl.s0.isNone ∨ ¬ s.ngl.bcnOk ∨ ¬ s.flag (F.NGL_SLOT_W0_VALID i) ∨ ¬ (s.ngNode node).live ∨
      s.fld F.NGL_SFN_SFN % s.fld (F.NGL_SLOT_W2_PERIOD i) ≠ s.fld (F.NGL_SLOT_W2_PHASE i) ∨ s.ngl.slotsRun.contains i ∨
      s.now + usTicks 100 < start ∨ stop ≤ s.now then .next s
  else
    let s1 := s.modNgl (fun n => { n with slotsRun := n.slotsRun ++ [i], slot := some (node, stop) })
    if s.flag (F.NGL_SLOT_W0_DIR i) ∧ s.ngIdle stop then .next (s1.ngDownlink node (max start (s.now + s.swLead 3)))
    else .next s1

/-- A calibration of the Nguord radio may start now (R370): in the quiet period, no ranging exchange busy, 400 µs and
the beacon lead left; with the network off, at any time. -/
def State.ngCalGap (s : State) : Bool :=
  !s.flag F.NGR_RNG_STATUS_BUSY && !s.onAir 3 &&
    (!s.ngOn || (s.ngl.s0.isSome && decide (s.regionAt s.now = .quiet) &&
      decide (s.now + usTicks 400 + s.bcnLead ≤ s.sfEnd)))

/-- A tracking calibration of radio r with its results (R150 to R152). -/
def State.trackDone (s : State) (r temp : Nat) (results : List (CalResult × CalResult)) : State :=
  let s1 := ((s.calResults r CalRun.all temp results).setFld (F.RADIO_CAL_STATUS_DUE r) 0).modRadio r (fun x => { x with
    lastTrack := some s.now, overdue := false })
  s1

/-- NG_CAL_START (R150, R370): the due tracking calibration of the Nguord radio runs. -/
def execNgCalStart (temp : BitVec 8) (result : CalResult × CalResult) (s : State) : Host.Outcome State Fault Refusal :=
  s.whenWorks nglBlock <|
  if s.radioRuns 3 ∧ s.flag (F.RADIO_CAL_STATUS_DUE 3) ∧ s.ngCalGap then
    .next (s.ngDrop.trackDone 3 temp.toNat [result])
  else .next s

/-! ### Descriptors (R375, R379, R383, R385) -/

/-- NG_LIFETIME (R375, R385): held frames whose lifetime has run out. -/
def execNgLifetime (s : State) : Host.Outcome State Fault Refusal :=
  s.whenWorks nglBlock <|
  let busy := fun (f : NgFrame) => s.ngl.wait.any (fun w => decide (w.id = f.id)) ||
    (s.radio 3).air.any (fun x => decide (x.cmd.kind = .ngFrame f.id) && s.onAir 3)
  .next (s.ngEndAll (fun f => f.expiry.any (fun t => decide (t ≤ s.now)) && !busy f) ngLifetimeOut)

/-- What a descriptor asks for. -/
structure NgAsk where
  source : NgFrom
  bcast : Bool
  ack : Bool
  typ : Nat
  final : Nat
  body : List Byte
  phy : Nat × Nat × Nat
  enrol : Option (Nat × Nat × Nat)
  life : Nat
  deriving DecidableEq, Repr

/-- The PHY word of a descriptor breaks R349. -/
def phyError (w : Word) : Option Nat :=
  if getBits w 24 8 = 0 then some ngZeroLength
  else if getBits w 24 8 < 8 ∨ getBits w 8 4 < 6 ∨ 12 < getBits w 8 4 ∨ 2 < getBits w 4 2 then some ngCfgRange
  else none

/-- The local count nearest to now with these low 32 bits (R385: AT). -/
def State.fullCount (s : State) (lo : Nat) : Nat :=
  let d := sgn 32 (unsgn 32 ((lo : Int) - s.now))
  ((s.now : Int) + d).toNat

/-- Read and check a descriptor (R385): what it asks for, or the status with which it completes. -/
def State.readNgDesc (s : State) (ws : List Word) : NgAsk ⊕ (NgFrom × Nat) :=
  let w := fun i => ws.getD i 0
  let src := NgFrom.ring (w 7)
  let bcast := (w 0).getLsbD 31
  let typ := getBits (w 0) 24 4
  let final := getBits (w 0) 0 16
  let len := getBits (w 2) 0 8
  let ovr := (w 0).getLsbD 29
  let addr := (w 1).toNat * 16
  if typ ≠ 1 ∧ typ ≠ 3 ∧ typ ≠ 5 then .inr (src, ngCfgRange)
  else if ¬ bcast ∧ typ ≠ 5 ∧ ¬ isNode final ∧ ¬ (final = 0 ∧ s.ngRouter) then .inr (src, ngCfgRange)
  else if 236 < len then .inr (src, ngCfgRange)
  else if len = 0 ∧ typ = 5 then .inr (src, ngZeroLength)
  else if getBits (w 6) 16 16 = 0 then .inr (src, ngZeroLength)
  else
    match (if ovr then phyError (w 5) else none) with
    | some e => .inr (src, e)
    | none => .inl {
        source := src, bcast := bcast && decide (typ ≠ 5), ack := (w 0).getLsbD 30 && !bcast && decide (typ ≠ 5), typ := typ
        final := final, body := s.dmaBytes addr len
        phy := if ovr then (getBits (w 5) 8 4, getBits (w 5) 4 2, getBits (w 5) 24 8) else s.ngPhy
        enrol := if typ = 5 then some (s.fullCount (w 4).toNat, getBits (w 3) 16 6, getBits (w 3) 0 13) else none
        life := getBits (w 6) 16 16 }

/-- A frame that an ask makes, without its queue's numbers. -/
def State.askFrame (s : State) (a : NgAsk) (dst : Nat) (mesh : Option (Nat × Nat × Nat)) : NgFrame :=
  { id := 0, source := a.source, typ := a.typ, ack := a.ack, dst := dst, mesh := mesh, body := a.body, phy := a.phy
    expiry := some (s.now + msTicks (a.life * 1000)), enrol := a.enrol, be := 0, backoff := 0, since := 0 }

/-- From t on, `dur` ticks lie between the beacon region and the quiet period of this superframe or of a later one
(R363). -/
def State.ngActiveAt (s : State) (t dur : Nat) : Bool :=
  match s.ngl.s0 with
  | some b =>
    let off := (t - b) % msTicks (s.fld F.NGL_SF_PERIOD_PERIOD_MS)
    decide (b ≤ t ∧ b + off ≥ s.capStart ∧ b + off + dur ≤ s.activeEnd)
  | none => false

/-- A timed ENROL_ACC (R375, R385): queued at once for its reference point, or completed. -/
def State.ngEnrol (s : State) (f : NgFrame) (at' ch : Nat) : State :=
  let t := at' - f.phy.2.2 * s.phyTs f.phy
  let dur := s.phyDur f.phy f.len
  if ¬ s.dwellOk ch t dur ∨ ¬ s.dutyOk ch t dur ∨ ¬ s.ngActiveAt t dur then s.ngComplete f.source 0 0 ngNoRegion
  else
    let s1 := s.ngEnqueue f
    match s1.ngl.frames.getLast? with
    | none => s1
    | some g =>
      match s1.ngReady g with
      | (some h, s2) => s2.ngCommand (.ngFrame h.id) h.chirps (some t) 0 dur
      | (none, s2) => s2

/-- Take a descriptor on (R379, R382, R383, R385): routed, and queued for its next hop, or completed. -/
def State.ngAsk (s : State) (a : NgAsk) : State :=
  match a.enrol with
  | some (at', ch, _) => s.ngEnrol (s.askFrame a 0xFFFE none) at' ch
  | none =>
    if a.bcast then s.ngEnqueue (s.askFrame a 0xFFFF none)
    else
      match s.ngRoute s.ngAddr a.final none with
      | (none, s1) => s1.ngComplete a.source 0 0 ngNoRoute
      | (some (dst, mesh), s1) =>
        if s1.ngRouter ∧ dst = s1.ngParent ∧ s1.fld F.NGL_SYNC_STATE = 4 then s1.ngComplete a.source 0 0 ngNoRoute
        else if s1.ngSleepy dst ∧ s1.fld F.NGL_TX_CFG_PEND_MAX ≤ (s1.ngQueue dst).length then
          s1.ngComplete a.source 0 0 ngQueueFull
        else s1.ngEnqueue (s1.askFrame a dst mesh)

/-- What the frame that TM has handed over asks for (R463, R466, R385): DATA to its node, or a broadcast. ACKREQ and the
lifetime are open (notes/assumptions/4.md). -/
def State.tmAsk (s : State) (x : Nat × TmFrame) : (NgAsk ⊕ (NgFrom × Nat)) × State :=
  let a := x.2.egress % 65536
  let bcast := decide (a = 0xFFFF)
  let (v, s1) := s.free
  if 236 < x.2.pkt.bytes.length ∨ (¬ bcast ∧ ¬ isNode a ∧ ¬ (a = 0 ∧ s.ngRouter)) then (.inr (.tm x, ngCfgRange), s1)
  else
    (.inl { source := .tm x, bcast := bcast, ack := v.getLsbD 0 && !bcast, typ := 1, final := a, body := x.2.pkt.bytes
            phy := s.ngPhy, enrol := none, life := 1 + v.toNat / 2 % 65535 }, s1)

/-- A TM frame that NGL already holds. -/
def State.ngHolds (s : State) (x : Nat × TmFrame) : Bool := s.ngl.frames.any (fun f => decide (f.source = .tm x))

/-- The next descriptor of the firmware ring, and the state with its index moved on (R392). -/
def State.ringTake (s : State) : List Word × State :=
  let rd := s.fld F.NGL_TXR_IDX_RD
  let base := (s.rd A.NGL_TXR_BASE).toNat * 16 + rd % s.fld F.NGL_TXR_SIZE_SIZE * 32
  (toItems (s.dmaBytes base 32), (s.logDma base 32).setFld F.NGL_TXR_IDX_RD (rd + 1))

/-- NG_TX_DESCRIPTOR (R385): the next descriptor of the ring, or the frame that TM has handed over. -/
def execNgTxDescriptor (source : NgSource) (s : State) : Host.Outcome State Fault Refusal :=
  if ¬ s.ngOn then .next s
  else
    match source with
    | .ring =>
      if s.fld F.NGL_TXR_IDX_RD = s.fld F.NGL_TXR_IDX_WR then .next s
      else
        let (ws, s1) := s.ringTake
        match s1.readNgDesc ws with
        | .inr (src, st) => .next (s1.ngComplete src 0 0 st)
        | .inl a => .next ((s1.logDma ((ws.getD 1 0).toNat * 16) a.body.length).ngAsk a)
    | .handed =>
      match s.tm.handed.find? (fun x => decide (x.1 = 5) && !s.ngHolds x) with
      | none => .next s
      | some x =>
        match s.tmAsk x with
        | (.inr (src, st), s1) => .next (s1.ngComplete src 0 0 st)
        | (.inl a, s1) => .next (s1.ngAsk a)

/-- NG_DROP_RECORD (R380, R382): the oldest waiting record is written once it fits. -/
def execNgDropRecord (s : State) : Host.Outcome State Fault Refusal :=
  s.whenWorks nglBlock <|
  match s.ngl.recs with
  | ws :: rest =>
    if s.recordFits (s.fld F.NGL_FIFO_RX) 6 then
      .next (((s.hwRecord (s.fld F.NGL_FIFO_RX) ws).2).modNgl (fun n => { n with recs := rest }))
    else .next s
  | [] => .next s

/-! ### Node contexts (R393, R394) -/

/-- The staging words 0 to 5. -/
def State.ngStage (s : State) : List Word := (List.range 6).map (fun w => s.rd (A.NGL_STAGE w))

/-- What is wrong with the staging record: the word and the RESULT (R219, R394). -/
def ngStageError (ws : List Word) : Option (Nat × Nat) :=
  let w := fun i => ws.getD i 0
  if getBits (w 0) 0 8 = 0 then some (0, 5)
  else if getBits (w 4) 16 16 = 0 then some (4, 6)
  else if getBits (w 4) 16 16 ≤ getBits (w 4) 0 16 then some (4, 5)
  else if getBits (w 5) 24 8 = 0 then some (5, 6)
  else none

/-- Show the result of a node command. -/
def State.nodeResult (s : State) (result word : Nat) : State :=
  (s.setFld F.NGL_NODE_STATUS_RESULT result).setFld F.NGL_NODE_STATUS_WORD word

/-- Run a node command: refused outside ADDR 0x0001 to 0x1000 and while BUSY (R393, R218, R251); BUSY lasts until the next tick. -/
def State.nodeCmd (s : State) (a : Nat) (c : Instr) (f : State → State) : State :=
  s.ownWrite A.NGL_NODE_CMD c (fun s =>
    if ¬ isNode a ∨ s.flag F.NGL_NODE_STATUS_BUSY then s.refuse A.NGL_NODE_CMD .cfgRange
    else (f s).setFld F.NGL_NODE_STATUS_BUSY 1)

/-- The words of a new context: VALID set, DROPPED and MISSED clear. -/
def ngContext (ws : List Word) : List Word :=
  (ws.set 0 ((ws.getD 0 0 ||| 0x80000000) &&& 0xBFFFFFFF)).set 5 (setBits (ws.getD 5 0) 16 8 0)

/-- Another context holds the EUI-64 of the staging record (R393). -/
def State.euiTaken (s : State) (a : Nat) (ws : List Word) : Bool :=
  s.ngl.nodes.any (fun e => decide (e.1 ≠ a) && e.2.valid && decide (e.2.word 1 = ws.getD 1 0 ∧ e.2.word 2 = ws.getD 2 0))

/-- NODE_ADD (R393, R362). -/
def execNodeAdd (node : BitVec 16) (s : State) : Host.Outcome State Fault Refusal :=
  let a := node.toNat
  .next (s.nodeCmd a (.nodeAdd node) (fun s =>
    let ws := s.ngStage
    if (s.ngNode a).valid then s.nodeResult 2 0
    else
      match ngStageError ws with
      | some (w, r) => s.nodeResult r w
      | none =>
        if s.euiTaken a ws then s.nodeResult 4 0
        else (s.setNgNode a { words := ngContext ws }).nodeResult 1 0))

/-- NODE_UPDATE (R380, R393, R362): DROPPED and MISSED clear; a slot with a new key starts from FCNT 0. -/
def execNodeUpdate (node : BitVec 16) (s : State) : Host.Outcome State Fault Refusal :=
  let a := node.toNat
  .next (s.nodeCmd a (.nodeUpdate node) (fun s =>
    let ws := s.ngStage
    let old := s.ngNode a
    if ¬ old.valid then s.nodeResult 3 0
    else
      match ngStageError ws with
      | some (w, r) => s.nodeResult r w
      | none =>
        let new : NgNode := { old with words := ngContext ws }
        let keep := fun (id n : Nat) => if new.key id = old.key id then n else 0
        (s.setNgNode a { new with fcnt0 := keep 0 old.fcnt0, fcnt1 := keep 1 old.fcnt1 }).nodeResult 1 0))

/-- NODE_REMOVE (R393): queued frames complete `NG_NO_NODE`. -/
def execNodeRemove (node : BitVec 16) (s : State) : Host.Outcome State Fault Refusal :=
  let a := node.toNat
  .next (s.nodeCmd a (.nodeRemove node) (fun s =>
    if ¬ (s.ngNode a).valid then s.nodeResult 3 0
    else ((s.setNgNode a {}).ngEndAll (fun f => decide (f.dst = a) && f.enrol.isNone) ngNoNode).nodeResult 1 0))

/-- NODE_READ (R393, R394). -/
def execNodeRead (node : BitVec 16) (s : State) : Host.Outcome State Fault Refusal :=
  let a := node.toNat
  .next (s.nodeCmd a (.nodeRead node) (fun s =>
    let n := s.ngNode a
    if ¬ n.valid then s.nodeResult 3 0
    else
      let ro : List Word := [BitVec.ofNat 32 n.fcnt0, BitVec.ofNat 32 n.fcnt1, BitVec.ofNat 32 n.lastSfn,
        BitVec.ofNat 32 (s.ngQueue a).length]
      ((s.wrList A.NGL_STAGE n.words).wrList A.NGL_STAGE_RO ro).nodeResult 1 0))

/-! ### The channel in use (R365, R371, R381, R382) -/

/-- The channel of a timed ENROL_ACC that starts within 100 µs and its strobes' lead. -/
def State.ngEnrolCh (s : State) : Option Nat :=
  (s.radio 3).cmds.findSome? (fun c =>
    match c.kind, c.timed with
    | .ngFrame id, some (t, _) =>
      if t ≤ s.now + s.swLead 3 + usTicks 100 then (s.ngFrame id).bind (fun f => f.enrol.map (fun e => e.2.1)) else none
    | _, _ => none)

/-- The channel that the radio should be on: an ENROL_ACC's own; in ROUTER role the next superframe's once the window for the parent's
beacon opens, and in a resync scan c(n) and then c(n + 1); otherwise the superframe's. In a search, and once the parent is lost, the
channel stays. -/
def State.ngWantCh (s : State) : Nat :=
  let n := s.fld F.NGL_SFN_SFN
  match s.ngEnrolCh with
  | some c => c
  | none =>
    if s.ngl.s0.isNone ∨ s.fld F.NGL_SYNC_STATE = 4 then s.ngl.ch
    else if ¬ s.ngRouter then s.hopChannel n
    else
      let period := msTicks (s.fld F.NGL_SF_PERIOD_PERIOD_MS)
      match s.ngl.scan with
      | some stop =>
        s.hopChannel (if s.now + msTicks (s.fld F.NGL_GUARD_MAX_GUARD_MS) + period - period / 2 < stop then n else n + 1)
      | none => s.hopChannel (if s.bcnExpected ≤ s.now + s.bcnGuard + s.bcnLead then n + 1 else n)

/-- A tick of the Nguord link: the event checks that are due, and the hop to the channel that is wanted once no frame is on air or held to
its end. -/
def State.nglTick (s : State) : State :=
  if ¬ s.ngOn then s
  else
    let s2 := s.ngChecks
    if s2.ngWantCh = s2.ngl.ch ∨ s2.onAir 3 ∨ s2.ngRxNow.any (fun x => x.hdr.isSome) then s2 else s2.ngHop s2.ngWantCh

/-! ### On the air (R341, R342, R345, R378, R386), called by the radio -/

/-- A Nguord command starts on air from t0 to t1: the channel is charged, and the frame's attempt begins; one that
wants no acknowledgement completes. -/
def State.ngAirStart (s : State) (k : AirKind) (t0 t1 : Nat) : State :=
  match k with
  | .ngFrame id =>
    match s.ngFrame id with
    | none => s
    | some f =>
      let ch := match f.enrol with
        | some (_, c, _) => c
        | none => s.ngl.ch
      let s1 := ((s.logAir ch t0 (t1 - t0)).count (if f.attempts = 0 then C.NGL_TX_FRAMES else C.NGL_TX_RETRY)).modNgFrame id
        (fun x => { x with attempts := x.attempts + 1 })
      if f.ack then
        let ts := s.phyTs f.phy
        let t := t1 + usTicks (s.fld F.NGL_ACK_CFG_ACK_TURN_US)
        s1.modNgl (fun n => { n with
          wait := some { id := id, ref := t + s.fld F.NGR_PHY_CFG_NPRE * ts, ts := ts, stop := t + s.ackDur f.phy.1 } })
      else s1.ngEnd { f with attempts := f.attempts + 1 } ngOk
  | .ngBeacon => (s.logAir s.ngl.ch t0 (t1 - t0)).count C.NGL_BCN_SENT
  | .ngAck _ => s.logAir s.ngl.ch t0 (t1 - t0)
  | .ranging _ _ => s.logAir s.ngl.ch t0 (t1 - t0)
  | _ => s

/-- A Nguord command is late (R163, R341, R345): ENROL_ACC completes `TX_LATE`, a reply of an exchange ends it
`RNG_LATE`; other frames wait for their next opportunity. -/
def State.ngAirLate (s : State) (k : AirKind) : State :=
  match k with
  | .ngFrame id =>
    match s.ngFrame id with
    | some f => if f.enrol.isSome then s.ngEnd f ngTxLate else s
    | none => s
  | .ranging _ _ => if s.flag F.NGR_RNG_STATUS_BUSY then s.rngEnd 3 else s
  | _ => s

/-- A Nguord command falls to the power check (R342): its frame completes `TX_CAP`. -/
def State.ngAirCap (s : State) (k : AirKind) : State :=
  let s1 := s.count C.NGR_TX_CAP
  match k with
  | .ngFrame id =>
    match s.ngFrame id with
    | some f => s1.ngEnd f ngTxCap
    | none => s1
  | _ => s1

end Sys2Proof.Machine
end

