-- ==== Sys2Proof/Machine/Phy.lean ====
section
/-! DEFINITION. The meanings of the baseband and decoder-pool commands (spec/05_wlan_phy_decoders.md R178 to R213,
spec/18 R682). -/

namespace Sys2Proof.Machine

/-! ### Receptions (R178, R186 to R189) -/

/-- The block ack that would answer an abandoned reception is not sent (R189). -/
def State.dropAnswer (s : State) (r rx : Nat) : State :=
  s.modRadio r (fun y => { y with cmds := y.cmds.filter (fun c => match c.kind with
    | .blockAck n _ => decide (n ≠ rx)
    | _ => true) })

/-- The reception of radio r goes on. -/
def State.rxActive (s : State) (r : Nat) : Option RxPpdu :=
  match (s.radio r).rx with
  | some x => if ¬ x.hdrOk ∨ s.now < x.endT then some x else none
  | none => none

/-- Radio r receives PPDUs of this format (R178, R183, R203). -/
def State.receives (s : State) (r : Nat) : PhyFormat → Bool
  | .dsss => s.flag (F.RADIO_BB_MODE_DSSS_EN r)
  | .ofdm => true
  | .ht => s.flag (F.RADIO_BB_MODE_HT_EN r)
  | .vht => s.flag (F.RADIO_BB_MODE_VHT_EN r)
  | .he => s.flag (F.RADIO_BB_MODE_HE_EN r)
  | .eht => s.flag (F.RADIO_BB_MODE_EHT_EN r)
  | .vmode => decide (r = 2) && s.flag (F.RADIO_BB_MODE_EHT_EN r) && s.flag (F.RADIO_VEXT_CFG_RX_EN r)

/-- The header of radio r's reception is checked once it is complete (R178, R183, R187): a failed one ends the reception, and
L-SIG then holds the medium; so does the header of a format that the radio does not receive. -/
def State.checkHeader (s : State) (r : Nat) : State :=
  match (s.radio r).rx with
  | none => s
  | some x =>
    if x.hdrOk ∨ s.now < x.hdrAt then s
    else
      match x.header with
      | .failed ok dur =>
        (s.count (C.RADIO_RX_HDR_FAIL r)).modRadio r (fun y => { y with
          rx := none, busyUntil := if ok then max y.busyUntil (x.begun + dur.toNat) else y.busyUntil })
      | .passed fmt dataDur dur elicits =>
        let s1 := (s.count (C.RADIO_RX_PPDU r)).modRadio r (fun y => { y with csiCount := y.csiCount + 1 })
        if ¬ s.receives r fmt then
          s1.modRadio r (fun y => { y with rx := none, busyUntil := max y.busyUntil (x.begun + dur.toNat) })
        else
          (if fmt = .vmode then s1.count (C.RADIO_VEXT_RX r) else s1).modRadio r (fun y => { y with rx := some { x with
            hdrOk := true, fmt := fmt, dataEnd := x.begun + dataDur.toNat, endT := x.begun + dur.toNat, elicits := elicits } })

/-- Codewords of a reception are waiting or being decoded. -/
def State.decodingOf (s : State) (r rx : Nat) : Bool :=
  let mine := fun (c : Codeword) => decide (c.radio = r ∧ c.rx = rx)
  s.ldpc.waiting.any mine || (List.range 14).any (fun e => (s.decoding e).any (fun d => mine d.cw))

/-- The reception that has ended makes room for the next one: it is kept while the pool holds codewords of it (R190, R240). -/
def State.setAside (s : State) (r : Nat) : State :=
  s.modRadio r (fun y => { y with rx := none, past := (y.rx.toList ++ y.past).filter (fun x => x.hdrOk && s.decodingOf r x.id) })

/-- A reception starts on a preamble: AGC freezes the gain of every chain (R153, R154, R187). -/
def State.startRx (s : State) (r : Nat) (p : RxPreamble) : State :=
  let s1 := if p.sat then s.count (C.RADIO_RX_SAT r) else s
  let s2 : State := { s1 with air := { s1.air with nextRx := s1.air.nextRx + 1 } }
  let d := s.selected
  let rx : RxPpdu := { id := s.air.nextRx, begun := s.now, hdrAt := s.now + p.after.toNat, header := p.header, agc := p.agc
                       power := p.lltf.toInt, sat := p.sat, hdrOk := false, dataEnd := 0, endT := 0, elicits := false
                       stamp := (d, (s.dom d).ns, (s.dom d).sec.toNat), ns := (s.time.domA.ns, s.time.domB.ns) }
  (s2.modRadio r (fun x => { x with rx := some rx })).checkHeader r

/-- A detector of radio r finds the preamble (R186): at PD_LEVEL or above, and DSSS on Radio 24 only. -/
def State.detects (s : State) (r : Nat) (p : RxPreamble) : Bool :=
  (!p.dsss || decide (r = 0)) && decide (sgn 8 (s.fld (F.RADIO_DET_CFG_PD_LEVEL r)) ≤ p.power.toInt)

/-- RX_PREAMBLE (R186, R187): the primary detector finds a preamble, and a reception starts. -/
def execRxPreamble (radio : Fin 3) (preamble : RxPreamble) (s : State) : Host.Outcome State Fault Refusal :=
  s.whenWorks (radioBlock radio.val) <|
  let r := radio.val
  if s.listens r ∧ (s.rxActive r).isNone ∧ s.detects r preamble then .next ((s.setAside r).startRx r preamble) else .next s

/-- SECOND_DETECT (R188, R189): restart before the header check, or on a capture; otherwise the reception goes on. -/
def execSecondDetect (radio : Fin 3) (preamble : RxPreamble) (s : State) : Host.Outcome State Fault Refusal :=
  s.whenWorks (radioBlock radio.val) <|
  let r := radio.val
  match s.listens r && s.detects r preamble, s.rxActive r with
  | true, some x =>
    if ¬ x.hdrOk then .next (((s.count (C.RADIO_RX_FALSE_DETECT r)).cancelRx r x.id).startRx r preamble)
    else if x.power + s.fld (F.RADIO_DET_CFG_CAP_DB r) ≤ preamble.power.toInt ∨ x.sat ∨ preamble.sat then
      .next ((((s.count (C.RADIO_RX_LOST_CAPTURE r)).cancelRx r x.id).dropAnswer r x.id).startRx r preamble)
    else .next s
  | _, _ => .next s

/-- The reception of radio r is abandoned (R146, R147, R669). -/
def State.dropRx (s : State) (r : Nat) : State :=
  match (s.radio r).rx with
  | some x => ((s.cancelRx r x.id).dropAnswer r x.id).modRadio r (fun y => { y with rx := none })
  | none => s

/-! ### The decoder pool (R190 to R200) -/

/-- The header that WMAC has read of a codeword's RU (R191). -/
def RxPpdu.head (x : RxPpdu) (ru : Nat) : Option FirstHeader := x.heads.find? (fun h => decide (h.ru.toNat = ru))

/-- Class and deadline of a WLAN codeword that arrives (R190); once WMAC has read the header of its RU, that header decides
whether a response may follow and names the flow (R191). -/
def State.classify (s : State) (r : Nat) (x : RxPpdu) (c : CwIn) : CwClass × Nat × Option Nat :=
  let head := x.head c.ru.toNat
  let answered := match head with
    | some h => x.elicits && h.response
    | none => x.elicits
  let flow := match c.flow.or (head.bind (fun h => h.flow)) with
    | some f => some f.val
    | none => (s.runningRsp r).map Prod.fst
  match flow with
  | some f => (.registered, s.regDeadline r f x.dataEnd answered, some f)
  | none =>
    if answered then (.immediate, s.immDeadline x.dataEnd, none)
    else (.bulk, s.bulkDeadline s.now (c.peerTid.map (fun (a, b) => (a.toNat, b.toNat))), none)

/-- Ts of a Nguord reception in ticks: 2^K chips of 1 ÷ BW (R324, R349). -/
def State.ngTs (s : State) (x : NgRx) : Nat := 2 ^ x.order * 5000 / 2 ^ s.fld F.NGR_SYNTH_BW

/-- Class and deadline of a Nguord codeword (R338). -/
def State.ngClassify (s : State) (x : NgRx) (c : CwIn) : CwClass × Nat :=
  let last := s.now - c.lag.toNat
  if c.header then (.immediate, last + s.ngTs x)
  else
    match x.hdr with
    | some h =>
      if h.ackreq ∨ h.ranging then (.immediate, x.endT + s.fld F.NGR_DEC_CFG_ACK_DL_US * Config.ticksPerUs)
      else (.bulk, last + s.fld F.NGR_DEC_CFG_BULK_DL_MS * Config.ticksPerMs)
    | none => (.bulk, last + s.fld F.NGR_DEC_CFG_BULK_DL_MS * Config.ticksPerMs)

/-- CODEWORD_ENQUEUE (R179, R190, R191, R193, R338): an LDPC codeword of a reception enters the pool; BCC codewords never do, nor
do those of a PPDU or RU that WMAC has found is not for the device. -/
def execCodewordEnqueue (radio : Fin 4) (cw : CwIn) (s : State) : Host.Outcome State Fault Refusal :=
  s.whenWorks (radioBlock radio.val) <|
  let r := radio.val
  if r = 3 then
    match s.ngr.rx with
    | none => .next s
    | some x =>
      let k := s.ngClassify x cw
      if x.cancelled then .next (s.count C.LDPC_DEC_CANCELLED) else
      .next (s.cwArrive {
        id := s.ldpc.next, radio := 3, rx := x.id, part := bit !cw.header, cls := k.1
        deadline := k.2, arrival := s.now, dataEnd := x.endT, flow := none, order := 0 })
  else
    match (s.radio r).rx with
    | none => .next s
    | some x =>
      if ¬ x.hdrOk ∨ cw.bcc ∨ x.fmt = .dsss ∨ x.fmt = .ofdm then .next s
      else if (x.head cw.ru.toNat).any (fun h => !h.addressed) then .next (s.count C.LDPC_DEC_CANCELLED)
      else
        let k := s.classify r x cw
        .next (s.cwArrive {
          id := s.ldpc.next, radio := r, rx := x.id, part := 1, ru := cw.ru.toNat, cls := k.1, deadline := k.2.1
          arrival := s.now, dataEnd := x.dataEnd, flow := k.2.2, order := 0 })

/-- One waiting codeword of the PPDU after WMAC has read the header (R191). -/
def State.reclassed (s : State) (r : Nat) (h : FirstHeader) (c : Codeword) : Codeword :=
  match h.flow with
  | some f =>
    if c.cls = .registered then c
    else { c with cls := .registered, flow := some f.val, deadline := s.regDeadline r f.val c.dataEnd h.response }
  | none =>
    if h.response ∨ c.cls = .bulk then c
    else { c with cls := .bulk, flow := none, deadline := s.bulkDeadline c.arrival (some (h.sta.toNat, h.tid.toNat)) }

/-- CODEWORD_RECLASS (R191): WMAC reads the first header of a PPDU or RU; its queued codewords change class, or are cancelled,
and those that follow go by that header. -/
def execCodewordReclass (radio : Fin 3) (hdr : FirstHeader) (s : State) : Host.Outcome State Fault Refusal :=
  s.whenWorks (radioBlock radio.val) <|
  let r := radio.val
  match (s.radio r).rx with
  | none => .next s
  | some x =>
    let mine := fun (c : Codeword) => decide (c.radio = r ∧ c.rx = x.id ∧ c.ru = hdr.ru.toNat)
    let s0 := s.modRadio r (fun y => { y with rx := some { x with
      heads := hdr :: x.heads, sta := if hdr.addressed then some hdr.sta.toNat else x.sta } })
    if ¬ hdr.addressed then
      .next ((s.ldpc.waiting.filter mine).foldl State.cwCancelled (s0.setWaiting (s.ldpc.waiting.filter (fun c => !mine c))))
    else .next (s0.setWaiting (s.ldpc.waiting.map (fun c => if mine c then s.reclassed r hdr c else c)))

/-- ENGINE_FREE (R194, R67): the first of the free engines chooses its next codeword. -/
def execEngineFree (engine : Fin 14) (s : State) : Host.Outcome State Fault Refusal :=
  let e := engine.val
  if s.engineFirst e ∧ s.takesWork 0x80 then .next (State.engineChoose e (s.engineOrder e) s)
  else .next s

/-- DECODE_END (R192, R194, R195): the result is counted and delivered; one on which the checker disagrees is discarded
and its codeword goes back. -/
def execDecodeEnd (engine : Fin 14) (iterations : BitVec 5) (zero agree : Bool) (s : State) :
    Host.Outcome State Fault Refusal :=
  s.whenWorks 0x80 <|
  let e := engine.val
  match s.decoding e with
  | none => .next s
  | some d =>
    let n := if zero then min d.limit iterations.toNat else d.limit
    let s1 := (s.setEngine e none).count C.LDPC_ITER_TOTAL n
    if ¬ agree then .next ((s1.present 0x13 e).cwRequeue d.cw)
    else if zero then .next ((s1.count (C.LDPC_DEC_OK d.cw.cls.rank)).ngCodeword d.cw true false)
    else .next ((s1.count C.LDPC_DEC_FAIL).ngCodeword d.cw false false)

/-- CODEWORD_DEADLINE (R194, R682): waiting codewords that can no longer reach MIN end `DEC_MISSED`. -/
def execCodewordDeadline (s : State) : Host.Outcome State Fault Refusal :=
  s.whenUp <|
  let late := s.ldpc.waiting.filter (fun c => (s.startable c).isNone)
  .next (late.foldl State.cwMissed (s.setWaiting (s.ldpc.waiting.filter (fun c => (s.startable c).isSome))))

/-- LDPC_RETIRE (R199, R208): a write of RETIRE. -/
def execLdpcRetire (value : Word) (s : State) : Host.Outcome State Fault Refusal :=
  let e := getBits value 0 4
  .next (s.ownWrite A.LDPC_RETIRE (.ldpcRetire value) (fun s =>
    if 14 ≤ e ∨ ¬ s.engineRetirable e then s.refuse A.LDPC_RETIRE .cfgRange
    else if (s.fld F.LDPC_ENGINE_MAP_RETIRED).testBit e then s
    else s.retireEngine e))

/-- BIST (R200): a known-answer decode in an idle gap; a failure counts and raises `LDPC_ENGINE`, marked permanent. -/
def execBist (engine : Fin 14) (pass : Bool) (s : State) : Host.Outcome State Fault Refusal :=
  s.whenWorks 0x80 <|
  let e := engine.val
  if s.fld F.LDPC_BIST_CFG_PERIOD_MS = 0 ∨ s.ldpc.waiting ≠ [] ∨ (s.decoding e).isSome ∨
      (s.fld F.LDPC_ENGINE_MAP_RETIRED).testBit e ∨ (s.inWatch ∧ ¬ s.engineRuns e) ∨ pass then .next s
  else
    .next ((s.setFld (F.LDPC_ENG_STATUS_BIST_FAIL e) (min 0xFFFF (s.fld (F.LDPC_ENG_STATUS_BIST_FAIL e) + 1))).present
      0x13 e true)

/-! ### Channel-state capture (R201, R202) -/

/-- The PPDU matches an enabled filter (R201). -/
def State.csiMatches (s : State) (r : Nat) (e : CsiIn) : Bool :=
  (s.flag (F.RADIO_CSI_CFG_NDP r) && e.ndp) ||
  (s.flag (F.RADIO_CSI_CFG_TB r) && decide (e.tbSta.map (fun x => x.toNat) = some (s.fld (F.RADIO_CSI_SEL_STA_ID r)))) ||
  (s.flag (F.RADIO_CSI_CFG_EVERY_N r) && decide ((s.radio r).csiCount % s.fld (F.RADIO_CSI_SEL_EVERY_N r) = 0))

/-- Four RSSI bytes from chain c on, at the antenna; 0x80 for an absent chain (R175, R202). -/
def State.rssiWord (s : State) (r : Nat) (l : List Byte) (c : Nat) : Word :=
  BitVec.ofNat 32 (leNat ((List.range 4).map (fun i =>
    if (s.chainMask r).testBit (c + i) then s.atAntenna r (c + i) (l.getD (c + i) 0) else 0x80)))

/-- A channel-state record (R202). -/
def State.csiRecord (s : State) (r : Nat) (x : RxPpdu) (e : CsiIn) : List Word :=
  let nrx := popCount 8 (s.chainMask r)
  let n := e.ntones.toNat * nrx * e.nss.toNat
  [BitVec.ofNat 32 (0xC5 * 2 ^ 24 + r * 2 ^ 22 + x.stamp.1 * 2 ^ 21 + e.bw.toNat * 2 ^ 18 +
      s.fld (F.RADIO_CSI_CFG_NG r) * 2 ^ 16 + (s.radio r).csiSeq),
   BitVec.ofNat 32 (8 + n), BitVec.ofNat 32 x.stamp.2.1, BitVec.ofNat 32 x.stamp.2.2,
   BitVec.ofNat 32 (nrx * 2 ^ 28 + e.nss.toNat * 2 ^ 24 + e.format.toNat * 2 ^ 20 +
      (e.tbSta.map (fun y => y.toNat)).getD 0),
   s.rssiWord r e.rssi 0, s.rssiWord r e.rssi 4,
   BitVec.ofNat 32 (e.ntones.toNat * 2 ^ 16 + e.exp.toNat * 2 ^ 8 + (s.radio r).csiDropped)] ++
  (e.values ++ List.replicate (n - e.values.length) 0).take n

/-- CSI_CAPTURE (R201, R202): the record of a matching PPDU is written whole, or dropped and counted. -/
def execCsiCapture (radio : Fin 3) (est : CsiIn) (s : State) : Host.Outcome State Fault Refusal :=
  s.whenWorks (radioBlock radio.val) <|
  let r := radio.val
  match (s.radio r).rx with
  | none => .next s
  | some x =>
    if ¬ x.hdrOk ∨ ¬ s.flag (F.RADIO_CSI_CFG_EN r) ∨ ¬ s.csiMatches r est then .next s
    else
      let fifo := s.fld (F.RADIO_CSI_CFG_FIFO r)
      let rec' := s.csiRecord r x est
      if s.recordFits fifo rec'.length then
        .next (((s.hwRecord fifo rec').2.count (C.RADIO_CSI_CAPTURED r)).modRadio r (fun y => { y with
          csiSeq := (y.csiSeq + 1) % 65536, csiDropped := 0 }))
      else
        .next (((s.hwRecord fifo rec').2.count (C.RADIO_CSI_DROPPED r)).modRadio r (fun y => { y with csiDropped := min 255 (y.csiDropped + 1) }))

end Sys2Proof.Machine
end

