-- ==== Sys2Proof/Machine/RoundsOps.lean ====
section
/-! DEFINITION. Rounds, segments, turns and service periods as ROUNDS reads them (spec/08_rounds_scheduled_access.md R289 to R322). -/

namespace Sys2Proof.Machine

/-- What ROUNDS holds for radio r beside its registers. -/
def State.rnd (s : State) (r : Nat) : RoundSt := sget (fun _ => {}) s.rounds.radios r

/-- Update what ROUNDS holds. -/
def State.modRounds (s : State) (f : RoundsSt → RoundsSt) : State := { s with rounds := f s.rounds }

/-- Update what ROUNDS holds for radio r. -/
def State.modRnd (s : State) (r : Nat) (f : RoundSt → RoundSt) : State :=
  s.modRounds (fun x => { x with radios := smod (fun _ => {}) x.radios r f })

/-- ROUND_LEN_US of radio r (R316). -/
def State.roundUs (s : State) (r : Nat) : Nat := s.fld (F.ROUNDS_RCFG_ROUND_LEN_US r)

/-- The radio has finished its start (R149, R309). -/
def State.radioStarted (s : State) (r : Nat) : Bool := decide ((s.radio r).seq ≠ .off ∧ (s.radio r).seq ≠ .starting)

/-- Rounds run on radio r (R289, R309): not in Watch, and after it not before a boundary with the radio started. -/
def State.roundsOn (s : State) (r : Nat) : Bool :=
  s.flag (F.ROUNDS_RCFG_EN r) && s.takesWork 0x70 && !s.inWatch && !(s.rnd r).halted

/-- Microseconds from the last boundary of radio r to local count t. -/
def State.posAt (s : State) (r t : Nat) : Nat := (t - (s.rnd r).boundary) / Config.ticksPerUs

/-- Microseconds since the last boundary of radio r. -/
def State.roundPos (s : State) (r : Nat) : Nat := s.posAt r s.now

/-- The TSF of radio r (R291): microseconds of the local count, with the corrections of joint rounds. -/
def State.tsf (s : State) (r : Nat) : Nat := ((s.now : Int) + (s.rnd r).tsfAdj).toNat / Config.ticksPerUs

/-! ### Intervals in a round -/

/-- An interval of a round with the number of its entry: offset and length in microseconds. -/
structure Slot where
  index : Nat
  off : Nat
  len : Nat
  deriving DecidableEq, Repr

/-- End of an interval. -/
def Slot.stop (x : Slot) : Nat := x.off + x.len

/-- Two intervals overlap. -/
def Slot.meets (x y : Slot) : Bool := decide (x.off < y.stop ∧ y.off < x.stop)

/-- x lies inside y. -/
def Slot.inside (x y : Slot) : Bool := decide (y.off ≤ x.off ∧ x.stop ≤ y.stop)

/-- KIND of a segment (R292). -/
def State.segKind (s : State) (r k i : Nat) : Nat := s.fld (F.ROUNDS_SEG_W1_KIND r k i)

/-- A segment's interval. -/
def State.segSlot (s : State) (r k i : Nat) : Slot :=
  { index := i, off := s.fld (F.ROUNDS_SEG_W0_OFFSET_US r k i), len := s.fld (F.ROUNDS_SEG_W0_LEN_US r k i) }

/-- Used segments of a bank (R292). -/
def State.segments (s : State) (r k : Nat) : List Slot :=
  ((List.range 32).filter (fun i => decide (s.segKind r k i ≠ 0))).map (s.segSlot r k)

/-- The active bank (R316). -/
def State.planBank (s : State) (r : Nat) : Nat := s.fld (F.ROUNDS_RCFG_BANK r)

/-- Restricted service periods of radio r (R319). -/
def State.rspList (s : State) (r : Nat) : List Slot :=
  ((List.range 256).filter (fun i => s.flag (F.ROUNDS_RSP_W0_VALID i) && decide (s.fld (F.ROUNDS_RSP_W0_RADIO i) = r))).map
    (fun i => { index := i, off := s.fld (F.ROUNDS_RSP_W1_OFFSET_US i), len := s.fld (F.ROUNDS_RSP_W1_LEN_US i) })

/-- Restricted service period i has an occurrence in round `num` (R319). -/
def State.rspIn (s : State) (i num : Nat) : Bool :=
  decide (num % max 1 (s.fld (F.ROUNDS_RSP_W2_PERIOD i)) = s.fld (F.ROUNDS_RSP_W2_PHASE i))

/-- Radio that a TWT entry's BSS belongs to. -/
def State.bssRadio (s : State) (b : Nat) : Nat := getBits (s.rd (A.WMAC_BSS b 0)) 28 2

/-- BSS b is enabled (R214). -/
def State.bssOn (s : State) (b : Nat) : Bool := (s.rd (A.WMAC_BSS b 0)).getLsbD 31

/-- TWT service periods of radio r (R300). -/
def State.twtList (s : State) (r : Nat) : List Slot :=
  ((List.range 1024).filter (fun a => s.flag (F.ROUNDS_TWT_W0_VALID a) &&
      decide (s.bssRadio (s.fld (F.ROUNDS_TWT_W0_BSS a)) = r))).map
    (fun a => { index := a, off := s.fld (F.ROUNDS_TWT_W2_SP_OFFSET_US a), len := s.fld (F.ROUNDS_TWT_W2_SP_LEN_US a) })

/-- Valid turns of radio r (R317). -/
def State.turns (s : State) (r : Nat) : List Slot :=
  ((List.range 8).filter (fun n => s.flag (F.ROUNDS_TURN_W1_VALID r n))).map
    (fun n => { index := n, off := s.fld (F.ROUNDS_TURN_W0_OFFSET_US r n), len := s.fld (F.ROUNDS_TURN_W0_LEN_US r n) })

/-- A turn is shared. -/
def State.turnShared (s : State) (r n : Nat) : Bool := s.flag (F.ROUNDS_TURN_W1_SHARED r n)

/-- A turn is the device's own exclusive turn (R311). -/
def State.turnOwn (s : State) (r n : Nat) : Bool :=
  !s.turnShared r n && decide (s.fld (F.ROUNDS_TURN_W1_OWNER r n) = s.fld (F.ROUNDS_JOINT_CTRL_MEMBER r))

/-- A turn is a neighbour's exclusive turn. -/
def State.turnOther (s : State) (r n : Nat) : Bool := !s.turnShared r n && !s.turnOwn r n

/-- States of JOINT_CTRL (R317). -/
def jointSolo : Nat := 0
/-- JOINING. -/
def jointJoining : Nat := 1
/-- JOINT. -/
def jointJoint : Nat := 2
/-- HOLD. -/
def jointHold : Nat := 3

/-- The joint state of radio r (R312). -/
def State.joint (s : State) (r : Nat) : Nat := s.fld (F.ROUNDS_JOINT_CTRL_STATE r)

/-- The turns apply (R311, R312): JOINT or HOLD, from the boundary of START_ROUND on. -/
def State.inTurns (s : State) (r : Nat) : Bool := decide (jointJoint ≤ s.joint r) && !(s.rnd r).armed

/-- The device's own turn as it may be used: in HOLD later and earlier by HOLD_MARGIN_US (R311). -/
def State.ownTurnSlot (s : State) (r : Nat) (x : Slot) : Slot :=
  if s.joint r = jointHold ∧ s.turnOwn r x.index then
    let m := s.fld (F.ROUNDS_JOINT_HOLD_HOLD_MARGIN_US r)
    { x with off := x.off + m, len := x.len - 2 * m }
  else x

/-- GUARD_NS in whole microseconds, rounded up (R317). -/
def State.guardUs (s : State) (r : Nat) : Nat := (s.fld (F.ROUNDS_JOINT_CFG_GUARD_NS r) + 999) / 1000

/-- Windows in which no station may transmit to the radio (R308): QUIET segments and neighbours' exclusive turns. -/
def State.quietWindows (s : State) (r : Nat) : List Slot :=
  (s.segments r (s.planBank r)).filter (fun x => decide (s.segKind r (s.planBank r) x.index = 3)) ++
  (if s.inTurns r then (s.turns r).filter (fun x => s.turnOther r x.index) else [])

/-- The interval of a list that holds µs `p` of the round. -/
def slotAt (p : Nat) (l : List Slot) : Option Slot := l.find? (fun x => decide (x.off ≤ p ∧ p < x.stop))

/-- The interval of a list that holds the present moment. -/
def State.holding (s : State) (r : Nat) (l : List Slot) : Option Slot := slotAt (s.roundPos r) l

/-- The quiet window that holds the present moment. -/
def State.quietNow (s : State) (r : Nat) : Option Slot :=
  if s.roundsOn r then s.holding r (s.quietWindows r) else none

/-- In a shared turn the EIRP of a PPDU that starts at local count t is capped at SR_CAP (R311). -/
def State.srCap (s : State) (r t : Nat) : Option Int :=
  if s.roundsOn r ∧ s.inTurns r ∧ (slotAt (s.posAt r t) ((s.turns r).filter (fun x => s.turnShared r x.index))).isSome then
    some (sgn 10 (s.fld (F.ROUNDS_SR_CAP_CAP_EIRP r)))
  else none

/-- PIFS in microseconds (R293). -/
def pifsUs (r : Nat) : Nat := if r = 0 then 19 else 25

/-- The device's own and shared turns, as they may be used (R311). -/
def State.usableTurns (s : State) (r : Nat) : List Slot :=
  ((s.turns r).filter (fun x => !s.turnOther r x.index)).map (s.ownTurnSlot r)

/-- A transmission of ROUNDS from µs `off` to µs `stop` of the round lies in one turn that the device may use, and ends
GUARD_NS before its end (R311). -/
def State.turnAllows (s : State) (r off stop : Nat) : Bool :=
  !s.inTurns r || (s.usableTurns r).any (fun x => decide (x.off ≤ off ∧ stop + s.guardUs r ≤ x.stop))

/-- Deadlines of contention, each with the moment up to which it holds, in microseconds from the last boundary (R293,
R311): restricted service periods less PIFS, segments, ends of usable turns less GUARD_NS; this round's and the next
one's. -/
def State.limits (s : State) (r : Nat) : List (Nat × Nat) :=
  let num := s.fld (F.ROUNDS_ROUND_NUM_NUM r)
  let len := s.roundUs r
  let one := fun (base n : Nat) =>
    ((s.rspList r).filter (fun x => s.rspIn x.index n)).map (fun x => (base + x.off - pifsUs r, base + x.off)) ++
    (s.segments r (s.planBank r)).map (fun x => (base + x.off, base + x.off)) ++
    (if s.inTurns r then (s.usableTurns r).map (fun x => (base + x.stop - s.guardUs r, base + x.stop)) else [])
  one 0 num ++ one len ((num + 1) % 2 ^ 32)

/-- No frame of flow f waits in the occurrence x, and none is due before its end (R306). Downlink: its queue and WMAC
hold none, and no booked attempt of it is open that starts before the end. Uplink: one has come, and its station reports
none left. -/
def State.rspIdle (s : State) (f : Nat) (x : RspRun) : Bool :=
  if s.flag (F.ROUNDS_RSP_W0_DIR x.index) then (s.flowX f).occHigh.isSome && decide ((s.flowX f).residue = 0)
  else
    decide (s.qFrames (getBits (s.flowWord f 8) 0 13) = []) &&
    (s.wmac.waiting ++ s.wmac.mpdus.map (fun m => m.req)).all (fun q => !q.reg.any (fun e => decide (e.1 = f))) &&
    s.regsvc.recs.all (fun y => decide (y.flow ≠ f) || y.tries.all (fun t => t.ended || decide (x.stop ≤ t.start)))

/-- The flow that radio r is kept for at local count t (R306): that of the occurrence that runs then, until no frame of it waits
or is due. -/
def State.rspHolds (s : State) (r t : Nat) : Option Nat :=
  match s.rspAt r t with
  | some (f, x) => if s.rspIdle f x then none else some f
  | none => none

/-- ROUNDS lets an exchange with a start time run on radio r from local count t0 to t1 (R292, R293, R306, R311): in a turn that
the device may use, outside every quiet segment, over before the next restricted service period less PIFS and before the next
segment, and in an occurrence only for its flow, or over by its end. `flow` is the flow whose frames it sends, or none; `own` says
that it belongs to any exchange, as a trigger or an acknowledgement does. -/
def State.schedFits (s : State) (r t0 t1 : Nat) (flow : Option Nat) (own : Bool) : Bool :=
  if r = 3 ∨ ¬ s.roundsOn r then true
  else
    let p := s.posAt r t0
    let stop := (t1 - (s.rnd r).boundary + Config.ticksPerUs - 1) / Config.ticksPerUs
    let k := s.planBank r
    s.turnAllows r p stop &&
    ((s.segments r k).filter (fun x => decide (s.segKind r k x.index = 3))).all (fun x => decide (x.stop ≤ p ∨ stop ≤ x.off)) &&
    (s.limits r).all (fun l => decide (l.2 ≤ p ∨ stop ≤ l.1)) &&
    match s.rspAt r t0 with
    | some (f, x) => decide (flow = some f) || own || (s.rspIdle f x && decide (t1 ≤ x.stop))
    | none => true

/-- The present moment is contention time of radio r until `ticks` later (R293, R297, R306, R308, R311): no quiet window,
no segment but one that found no user, no restricted service period but the rest of one that is done, and in turns only
a usable one. -/
def State.contentionTime (s : State) (r ticks : Nat) : Bool :=
  (s.quietNow r).isNone &&
  ((s.segments r (s.planBank r)).filter (fun x => decide (x.off ≤ s.roundPos r ∧ s.roundPos r < x.stop))).all
    (fun x => (s.rnd r).free.contains x.index) &&
  (!s.inTurns r || (s.holding r (s.usableTurns r)).isSome) &&
  match s.runningRsp r with
  | some (f, x) => s.rspIdle f x && decide (s.now + ticks ≤ x.stop)
  | none => true

/-- An exchange without a start time may begin on radio r and last `ticks` (R293, R306, R311): it lies in contention time
and meets every deadline that is ahead. -/
def State.contentionFits (s : State) (r ticks : Nat) : Bool :=
  if r = 3 ∨ ¬ s.roundsOn r then true
  else
    let p := s.roundPos r
    let stop := p + (ticks + Config.ticksPerUs - 1) / Config.ticksPerUs
    s.contentionTime r ticks && (s.limits r).all (fun l => decide (l.2 ≤ p ∨ stop ≤ l.1))

/-- Microsecond from the last boundary until which a beacon of radio r must wait (R296): the end of a restricted
service period, QUIET segment or neighbour's exclusive turn. -/
def State.obstruction (s : State) (r : Nat) : Option Nat :=
  if ¬ s.roundsOn r then none
  else
    let num := s.fld (F.ROUNDS_ROUND_NUM_NUM r)
    (s.holding r (s.quietWindows r ++ (s.rspList r).filter (fun x => s.rspIn x.index num))).map Slot.stop

/-! ### What beacons say of rounds (R292, R305, R311, R315) -/

/-- Distinct placements of restricted service periods on a BSS, each with the flow of its first entry (R305). -/
def State.placed (s : State) (b : Nat) : List ((Nat × Nat × Nat × Nat) × Nat) :=
  ((List.range 256).filter (fun i => s.flag (F.ROUNDS_RSP_W0_VALID i) && decide (s.fld (F.ROUNDS_RSP_W3_BSS i) = b))).foldl
    (fun l i =>
      let x := (s.fld (F.ROUNDS_RSP_W1_OFFSET_US i), s.fld (F.ROUNDS_RSP_W1_LEN_US i), s.fld (F.ROUNDS_RSP_W2_PERIOD i),
        s.fld (F.ROUNDS_RSP_W2_PHASE i))
      if l.any (fun y => decide (y.1 = x)) then l else l ++ [(x, s.fld (F.ROUNDS_RSP_W0_FLOW i))]) []

/-- Quiet elements of the radio's beacons (R292, R311). -/
def State.quietElements (s : State) (r : Nat) : List (Nat × Nat) :=
  if s.roundsOn r then (s.quietWindows r).map (fun x => (x.off, x.len)) else []

/-- The joint-round attribute of radio r (R312, R315): while JOIN = 1. Its fields go least significant byte first (notes/assumptions/104.md). -/
def State.jointAttr (s : State) (r : Nat) : List Byte :=
  if ¬ s.flag (F.ROUNDS_JOINT_CTRL_JOIN r) then []
  else
    let ts := s.turns r
    let cap := (sgn 10 (s.fld (F.ROUNDS_SR_CAP_CAP_EIRP r))).fdiv 4
    [0x02, BitVec.ofNat 8 (20 + 5 * ts.length)] ++
    leBytes 1 (s.fld (F.ROUNDS_JOINT_CTRL_GEN r)) ++
    leBytes 1 (s.fld (F.ROUNDS_JOINT_CTRL_MEMBER r) + 8 * bit (decide (s.joint r = jointHold))) ++
    leBytes 2 (s.roundUs r) ++
    leBytes 6 (s.fld (F.ROUNDS_EPOCH_SEC_HI_SEC r) * 2 ^ 32 + s.fld (F.ROUNDS_EPOCH_SEC_LO_SEC r)) ++
    leBytes 4 (s.fld (F.ROUNDS_EPOCH_NS_NS r)) ++ leBytes 4 (s.fld (F.ROUNDS_START_ROUND_ROUND r)) ++
    leBytes 1 ts.length ++ [BitVec.ofInt 8 (clampInt (-128) 127 cap)] ++
    ts.flatMap (fun x => leBytes 2 x.off ++ leBytes 2 x.len ++
      leBytes 1 (s.fld (F.ROUNDS_TURN_W1_OWNER r x.index) + 8 * bit (s.turnShared r x.index)))

end Sys2Proof.Machine
end

