-- ==== Sys2Proof/Machine/WmacOps.lean ====
section
/-! DEFINITION. Peer contexts, sequence numbers, encryption, MPDU ends and the conversion of MSDUs in WMAC
(spec/06_wlan_mac_multilink.md R214 to R248; spec/14 R504, R507). -/

namespace Sys2Proof.Machine

/-- WMAC's first block number. -/
def wmacBlock : Nat := 0x60

/-- Update what WMAC holds. -/
def State.modWmac (s : State) (f : WmacSt → WmacSt) : State := { s with wmac := f s.wmac }

/-! ### BSSs and contexts (R214 to R219, R254, R255) -/

/-- Word w of BSS entry b. -/
def State.bssWord (s : State) (b w : Nat) : Word := s.rd (A.WMAC_BSS b w)

/-- BSSID of b. -/
def State.bssid (s : State) (b : Nat) : List Byte :=
  leBytes 4 (s.bssWord b 1).toNat ++ leBytes 2 (getBits (s.bssWord b 2) 0 16)

/-- The device's address towards a peer of BSS b: the AP MLD address where the BSS belongs to one and the peer is an
MLD, else the BSSID (R222). -/
def State.ownAddr (s : State) (b : Nat) (mld : Bool) : List Byte :=
  let m := getBits (s.bssWord b 0) 23 5
  if mld ∧ m < 24 then leBytes 4 (s.fld (F.WMAC_MLD_LO_ADDR m)) ++ leBytes 2 (s.fld (F.WMAC_MLD_HI_ADDR m)) else s.bssid b

/-- The context of a peer is valid. -/
def State.peerValid (s : State) (sta : Nat) : Bool := (s.ctxWord sta 0).getLsbD 31

/-- The peer is an MLD. -/
def State.peerMld (s : State) (sta : Nat) : Bool := (s.ctxWord sta 0).getLsbD 29

/-- AUTH of a peer (R236). -/
def State.peerAuth (s : State) (sta : Nat) : Bool := (s.ctxWord sta 0).getLsbD 26

/-- PEER_ADDR. -/
def State.peerAddr (s : State) (sta : Nat) : List Byte :=
  leBytes 4 (s.ctxWord sta 1).toNat ++ leBytes 2 (getBits (s.ctxWord sta 2) 0 16)

/-- LINK_EN of a peer's link, in the words of a context. -/
def linkEn (ws : List Word) (l : Nat) : Bool := decide (l < 3) && (ws.getD (3 + 2 * l) 0).getLsbD 31

/-- LINK_BSS of a peer's link. -/
def linkBss (ws : List Word) (l : Nat) : Nat := getBits (ws.getD (3 + 2 * l) 0) 16 6

/-- Link address. -/
def linkAddr (ws : List Word) (l : Nat) : List Byte :=
  leBytes 4 (ws.getD (4 + 2 * l) 0).toNat ++ leBytes 2 (getBits (ws.getD (3 + 2 * l) 0) 0 16)

/-- Words 0 to 29 of a live context. -/
def State.ctxWords (s : State) (sta : Nat) : List Word := sget (fun _ => []) s.wmac.ctx sta

/-- Link l of a peer is enabled. -/
def State.linkOn (s : State) (sta l : Nat) : Bool := linkEn (s.ctxWords sta) l

/-- BSS of a peer: that of its first enabled link. -/
def State.peerBss (s : State) (sta : Nat) : Nat :=
  linkBss (s.ctxWords sta) (((List.range 3).find? (s.linkOn sta)).getD 0)

/-- Radio of a peer's link. -/
def State.linkRadio (s : State) (sta l : Nat) : Nat := s.bssRadio (linkBss (s.ctxWords sta) l)

/-- The peer with link address `a` on BSS b, and the link (R236). -/
def State.findPeer (s : State) (b : Nat) (a : List Byte) : Option (Nat × Nat) :=
  s.wmac.ctx.findSome? (fun e =>
    ((List.range 3).find? (fun l => s.peerValid e.1 && linkEn e.2 l && decide (linkBss e.2 l = b ∧ linkAddr e.2 l = a))).map
      (fun l => (e.1, l)))

/-- A link's bit in the mask of a TID: word 12 downlink, word 13 uplink (R254). -/
def ttlmHas (ws : List Word) (w tid l : Nat) : Bool := (getBits (ws.getD w 0) (3 * tid) 3).testBit l

/-- TX_WIN with a transmit agreement; without one, one MPDU at a time (notes/assumptions/43.md). -/
def State.txWin (s : State) (sta tid : Nat) : Nat :=
  let w := s.ctxWord sta (14 + 2 * tid)
  if w.getLsbD 31 then getBits w 16 11 else 1

/-- A receive agreement for the TID. -/
def State.baRx (s : State) (sta tid : Nat) : Bool := (s.ctxWord sta (14 + 2 * tid)).getLsbD 15

/-- RX_WIN. -/
def State.rxWin (s : State) (sta tid : Nat) : Nat := getBits (s.ctxWord sta (14 + 2 * tid)) 0 11

/-- What WMAC keeps for a peer and TID. -/
def State.tid (s : State) (sta tid : Nat) : TidSt := sget (fun _ => {}) s.wmac.tids (sta * 8 + tid)

/-- Update what WMAC keeps for a peer and TID. -/
def State.modTid (s : State) (sta tid : Nat) (f : TidSt → TidSt) : State :=
  s.modWmac (fun w => { w with tids := smod (fun _ => {}) w.tids (sta * 8 + tid) f })

/-! ### Registered flows of a peer (R489, R511) -/

/-- Peer of flow f. -/
def State.flowSta (s : State) (f : Nat) : Nat := getBits (s.flowWord f 2) 16 11

/-- TID of flow f. -/
def State.flowTid (s : State) (f : Nat) : Nat := getBits (s.flowWord f 2) 12 3

/-- Peer link index of the flow's link k: LINK_A or LINK_B (R519). -/
def State.flowLink (s : State) (f k : Nat) : Nat := getBits (s.flowWord f 2) (if k = 0 then 8 else 10) 2

/-- The flow is A2W. -/
def State.flowUp (s : State) (f : Nat) : Bool := decide (getBits (s.flowWord f 0) 30 2 = 1)

/-- The flow is in use: ADMITTED, DEGRADED or REVOKED. -/
def State.flowLive (s : State) (f : Nat) : Bool :=
  decide (1 ≤ s.flowState f ∧ s.flowState f ≤ 3)

/-- The flow of a peer and TID, in a direction. -/
def State.flowOf (s : State) (up : Bool) (sta tid : Nat) : Option Nat :=
  allFlows.find? (fun f => s.flowLive f && decide (s.flowSta f = sta ∧ s.flowTid f = tid ∧ s.flowUp f = up))

/-- The flow's own link number, 0 or 1, of a peer link that it still uses. -/
def State.flowLinkOf (s : State) (f l : Nat) : Option Nat :=
  (List.range 2).find? (fun k => (s.flowX f).links.contains k && decide (s.flowLink f k = l))

/-- Flows of a peer. -/
def State.flowsOf (s : State) (sta : Nat) : List Nat := allFlows.filter (fun f => s.flowLive f && decide (s.flowSta f = sta))

/-- A registered frame's attempt goes on air on the flow's link k (R504). -/
def State.airStart (s : State) (f n k : Nat) : State :=
  s.modRec f n (fun r => { r with tries := r.tries.map (fun t =>
    if t.link = k then { t with attempts := t.attempts + 1, onAir := true } else t) })

/-- Link k has ended the frame: `EXPIRED` only when every link has (R504, R507). -/
def State.airLinkEnds (s : State) (f n k : Nat) : State :=
  match s.frameRec f n with
  | none => s
  | some r =>
    let tries := r.tries.map (fun t => if t.link = k then { t with ended := true } else t)
    if tries.all (fun t => t.ended) then s.endFrame f n true (if tries.any (fun t => t.onAir) then whyAir else whyLateTx)
    else s.modRec f n (fun x => { x with tries := tries })

/-- Attempts that an occurrence gives a frame of the flow (R519). -/
def State.flowAttempts (s : State) (f : Nat) : Nat := getBits (s.flowWord f 5) 8 4

/-- An attempt on link k has failed: with no attempt left the link ends the frame (R504). -/
def State.airFailed (s : State) (f n k : Nat) : State :=
  match s.frameRec f n with
  | none => s
  | some r =>
    if r.tries.any (fun t => decide (t.link = k ∧ s.flowAttempts f ≤ t.attempts)) then s.airLinkEnds f n k else s

/-! ### Completions (R248) -/

/-- Statuses of a transmit completion. -/
def stTxOk : Nat := 0
/-- TX_RETRY_LIMIT. -/
def stRetryLimit : Nat := 1
/-- TX_CAP. -/
def stTxCap : Nat := 2
/-- TX_FORMAT. -/
def stTxFormat : Nat := 3
/-- TX_NO_PEER. -/
def stNoPeer : Nat := 4
/-- TX_UNAUTH. -/
def stUnauth : Nat := 5
/-- PN_EXHAUSTED. -/
def stPnExhausted : Nat := 6
/-- DELIVERED. -/
def stDelivered : Nat := 7
/-- EXPIRED. -/
def stExpired : Nat := 8
/-- ZERO_LENGTH. -/
def stZeroLength : Nat := 9
/-- CFG_RANGE. -/
def stCfgRange : Nat := 10

/-- Write a completion (R248), and let go of the frame's buffer in TM. A registered frame completes only with DELIVERED
or EXPIRED. -/
def State.complete (s : State) (q : TxReq) (sn attempts link status : Nat) (tsDropped : Bool) : State :=
  let st := if q.reg.isSome ∧ status ≠ stDelivered then stExpired else status
  let ws : List Word :=
    [q.cookie, BitVec.ofNat 32 (bit tsDropped * 2 ^ 31 + link % 4 * 2 ^ 18 + attempts % 256 * 2 ^ 8 + st),
     BitVec.ofNat 32 sn, BitVec.ofNat 32 (q.tid * 2 ^ 11 + q.sta)]
  let s1 := s.modWmac (fun w => { w with compl := w.compl ++ [ws] })
  match q.tm with
  | some x => s1.finishHanded x
  | none => s1

/-- A frame that has no numbers yet completes; a registered one expires with reason `why` (R504). -/
def State.completeReq (s : State) (q : TxReq) (status why : Nat) : State :=
  let s1 := s.complete q 0 0 0 status false
  match q.reg with
  | some (f, n) => s1.endFrame f n true why
  | none => s1

/-- Nanoseconds of both domains at the start of the PPDU that radio r received last: an acknowledgement's (R275). -/
def State.ackNs (s : State) (r : Nat) : Nat × Nat :=
  match (s.radio r).rx with
  | some x => x.ns
  | none => (s.time.domA.ns, s.time.domB.ns)

/-- An MPDU completes, with every frame of its A-MSDU: a timed one queues its timestamp, with the start of the acknowledgement's
PPDU where one arrived (R231, R275, R278). -/
def State.completeMpdu (s : State) (m : TxMpdu) (status : Nat) (acked : Bool) : State :=
  let s0 := s.modWmac (fun w => { w with mpdus := w.mpdus.filter (fun x => decide (x.id ≠ m.id)) })
  let s1 := m.rest.foldl (fun t q => t.complete q m.sn m.attempts m.link status false) s0
  if m.req.timed ∧ m.stamp ≠ [] then
    let r := if m.req.sta = 0 then s.bssRadio m.req.bss else s.linkRadio m.req.sta m.link
    let w1 := m.stamp.getD 0 0 ||| BitVec.ofNat 32 (bit acked * 2 ^ 29)
    let id := BitVec.ofNat 32 (m.sn % 4096 * 2 ^ 14 + m.req.tid * 2 ^ 11 + m.req.sta)
    let ack : List Word := if acked then [BitVec.ofNat 32 (s.ackNs r).1, BitVec.ofNat 32 (s.ackNs r).2] else [0, 0]
    let (ok, s2) := s1.tsPush (4 + r) ([id, w1] ++ m.stamp.drop 1 ++ ack)
    s2.complete m.req m.sn m.attempts m.link status (!ok)
  else s1.complete m.req m.sn m.attempts m.link status false

/-! ### Conversion (R245, R246) -/

/-- RFC 1042 and bridge-tunnel headers. -/
def llc (tail : Nat) : List Byte := [0xAA, 0xAA, 3, 0, 0, BitVec.ofNat 8 tail]

/-- The MSDU of an Ethernet frame for BSS VID `vid` (R246). -/
def toMsdu (vid : Nat) (b0 : List Byte) : List Byte :=
  let b := if frame16 b0 12 = 0x8100 ∧ vid ≠ 0 ∧ frame16 b0 14 % 4096 = vid then b0.take 12 ++ b0.drop 16 else b0
  let t := frame16 b 12
  if t < 0x600 then slice b 14 t
  else (if t = 0x80F3 ∨ t = 0x8137 then llc 0xF8 else llc 0) ++ b.drop 12

/-- The Ethernet frame of a received MSDU (R245). -/
def toEthernet (vid tid : Nat) (da sa msdu : List Byte) : List Byte :=
  let tag := if vid = 0 then [] else beBytes 2 0x8100 ++ beBytes 2 (tid * 2 ^ 13 + vid)
  let t := frame16 msdu 6
  let strip := decide (8 ≤ msdu.length) &&
    ((decide (msdu.take 6 = llc 0) && decide (t ≠ 0x80F3 ∧ t ≠ 0x8137)) || decide (msdu.take 6 = llc 0xF8))
  da ++ sa ++ tag ++ (if strip then msdu.drop 6 else beBytes 2 msdu.length ++ msdu)

/-- The Ethernet frame or MSDU carries EAPOL (R236). -/
def isEapol (msdu : List Byte) : Bool := decide (msdu.take 6 = llc 0 ∧ frame16 msdu 6 = 0x888E)

/-! ### Keys (R222, R242 to R244) -/

/-- AES-CCM at SEAL's pipelines (R581). -/
def algCcm : Nat := 1

/-- Algorithm of a CIPHER code. -/
def cipherAlg (c : Nat) : Nat := if c ≤ 2 then algCcm else algGcm

/-- Key types that a CIPHER code takes: AES-128 or AES-256. -/
def cipherSuits (c kt : Nat) : Bool := decide (kt = (c + 1) % 2)

/-- Bytes of the MIC: 8 with CCMP-128, 16 otherwise. -/
def micLen (c : Nat) : Nat := if c = 1 then 8 else 16

/-- Nonce of an MPDU: with CCM the TID first, then the transmitter's address and the packet number
(notes/assumptions/42.md). -/
def wlanNonce (c tid : Nat) (a2 : List Byte) (pn : Nat) : List Byte :=
  (if c ≤ 2 then [BitVec.ofNat 8 tid] else []) ++ a2 ++ beBytes 6 pn

/-- The pairwise slot and validity for a key ID (R243, R254). -/
def State.pairKey (s : State) (sta id : Nat) : Option Nat :=
  let w := s.ctxWord sta 10
  let v := s.ctxWord sta 11
  if id = 0 then (if v.getLsbD 3 then some (getBits w 0 13) else none)
  else if id = 1 then (if v.getLsbD 4 then some (getBits w 16 13) else none)
  else none

/-- The group slot of BSS b for a key ID (R243, R255). -/
def State.groupKey (s : State) (b id : Nat) : Option Nat :=
  if getBits (s.bssWord b 7) 0 3 = 0 then none
  else if id = 1 then some (getBits (s.bssWord b 5) 0 13)
  else if id = 2 then some (getBits (s.bssWord b 5) 16 13)
  else none

/-- CIPHER for a frame: the peer's, or the BSS's group cipher. -/
def State.frameCipher (s : State) (sta b : Nat) : Nat :=
  if sta = 0 then getBits (s.bssWord b 7) 0 3 else getBits (s.ctxWord sta 11) 0 3

/-- How a frame is protected on transmit: in the clear, encrypted by a slot, with a management MIC by a slot, or not yet, as no
valid key is named. -/
inductive TxKey where
  | clear
  | slot (n : Nat)
  | bip (n : Nat)
  | wait
  deriving DecidableEq, Repr

/-- Subtype of a management frame. -/
def mgmtSubtype (frame : List Byte) : Nat := frameByte frame 0 / 16

/-- A robust management frame: disassociation, deauthentication or action (IEEE 802.11; notes/assumptions/106.md). -/
def robustFrame (frame : List Byte) : Bool :=
  decide (frameByte frame 0 / 4 % 4 = 0 ∧ (mgmtSubtype frame = 10 ∨ mgmtSubtype frame = 12 ∨ mgmtSubtype frame = 13))

/-- MCIPHER of BSS b (R255). -/
def State.mcipher (s : State) (b : Nat) : Nat := getBits (s.bssWord b 7) 4 3

/-- The slot that protects a group-addressed management frame of BSS b (R243): BIGTK for a beacon with BIGTK_EN, IGTK for a robust
frame; none for a frame that goes unprotected. -/
def State.bipSlot (s : State) (b : Nat) (beacon robust : Bool) : Option Nat :=
  let w := s.bssWord b 6
  if s.mcipher b = 0 then none
  else if beacon then (if w.getLsbD 31 then some (getBits w 16 13) else none)
  else if robust then some (getBits w 0 13)
  else none

/-- Algorithm of an MCIPHER code: AES-CMAC or AES-GMAC (R242). -/
def bipAlg (c : Nat) : Nat := if c ≤ 2 then 3 else 4

/-- Bytes of its MIC: 8 with BIP-CMAC-128, 16 otherwise. -/
def bipLen (c : Nat) : Nat := if c = 1 then 8 else 16

/-- The management MIC of a frame: key, transmitter's address, packet number, frame (R242). -/
def bipMic (c : Nat) (key : BitVec 256) (a2 : List Byte) (pn : Nat) (frame : List Byte) : List Byte :=
  (List.range (bipLen c)).map (Config.tag (bipAlg c) key (a2 ++ beBytes 6 pn) a2 frame)

/-- The key of a frame (R236, R242, R243, R254): EAPOL goes in the clear while no key is valid; individually addressed robust
management frames are encrypted where PMF is set, group-addressed ones take a management MIC. -/
def State.txKey (s : State) (q : TxReq) (msdu : List Byte) : TxKey :=
  if q.sta = 0 ∧ q.mgmt then
    (match s.bipSlot q.bss false (robustFrame q.frame) with
     | some n => .bip n
     | none => .clear)
  else if s.frameCipher q.sta q.bss = 0 then .clear
  else if q.sta = 0 then
    (match s.groupKey q.bss (if (s.bssWord q.bss 5).getLsbD 29 then 2 else 1) with
       | some n => .slot n
       | none => .wait)
  else if q.mgmt ∧ ¬ ((s.ctxWord q.sta 0).getLsbD 28 ∧ robustFrame q.frame) then .clear
  else
    match s.pairKey q.sta (bit ((s.ctxWord q.sta 10).getLsbD 29)) with
    | some n => .slot n
    | none => if isEapol msdu ∨ q.mgmt then .clear else .wait

/-! ### Sequence and packet numbers (R221 to R223) -/

/-- MPDUs of a peer and TID that are not acknowledged, oldest first. -/
def State.tidMpdus (s : State) (sta tid : Nat) : List TxMpdu :=
  s.wmac.mpdus.filter (fun m => decide (m.req.sta = sta ∧ m.req.tid = tid) && !m.req.mgmt)

/-- Lowest unacknowledged sequence number (R224, R254). -/
def State.txOldest (s : State) (sta tid : Nat) : Nat := ((s.tidMpdus sta tid).head?.map (fun m => m.sn)).getD (s.tid sta tid).txNext

/-- The window of the TID takes another MPDU (R221). -/
def State.windowOpen (s : State) (q : TxReq) : Bool :=
  q.mgmt || decide (q.sta = 0) ||
    decide (((s.tid q.sta q.tid).txNext + 4096 - s.txOldest q.sta q.tid) % 4096 < s.txWin q.sta q.tid)

/-- The counter that numbers a frame (R221). -/
def State.nextSn (s : State) (q : TxReq) : Nat :=
  if q.sta = 0 then sget (fun _ => 0) s.wmac.groupSn q.bss
  else if q.mgmt then sget (fun _ => 0) s.wmac.mgmtSn q.sta
  else (s.tid q.sta q.tid).txNext

/-- Take a number from that counter. -/
def State.takeSn (s : State) (q : TxReq) : State :=
  let n := (s.nextSn q + 1) % 4096
  if q.sta = 0 then s.modWmac (fun w => { w with groupSn := sput (fun _ => 0) w.groupSn q.bss n })
  else if q.mgmt then s.modWmac (fun w => { w with mgmtSn := sput (fun _ => 0) w.mgmtSn q.sta n })
  else s.modTid q.sta q.tid (fun t => { t with txNext := n })

/-- Add an MPDU with its numbers; a registered frame's outcome names its sequence number, but with FRER its R-TAG's
(R514). -/
def State.addMpdu (s : State) (q : TxReq) (others : List TxReq) (pn len : Nat) (body : List Byte) : State :=
  let s1 := match q.reg with
    | some (f, n) => if (s.flowWord f 0).getLsbD 28 then s else s.modRec f n (fun r => { r with id := s.nextSn q })
    | none => s
  (s1.modWmac (fun w => { w with
    mpdus := w.mpdus ++ [{ id := w.nextMpdu, req := q, rest := others, sn := s.nextSn q, pn := pn, body := body, len := len }]
    nextMpdu := w.nextMpdu + 1 })).takeSn q

/-- The MSDU of a frame (R246). -/
def State.msduOf (s : State) (q : TxReq) : List Byte :=
  if q.mgmt then q.frame else toMsdu (getBits (s.bssWord q.bss 0) 0 12) q.frame

/-- Subframes of an A-MSDU: DA, SA, length, MSDU, each but the last padded to four bytes (R231). -/
def amsduBody : List (List Byte × List Byte) → List Byte
  | [] => []
  | [(h, m)] => h ++ beBytes 2 m.length ++ m
  | (h, m) :: rest =>
    let b := h ++ beBytes 2 m.length ++ m
    b ++ List.replicate ((4 - b.length % 4) % 4) 0 ++ amsduBody rest

/-- The body of an MPDU: one MSDU, or the A-MSDU of several frames (R231). -/
def State.mpduBody (s : State) (q : TxReq) (others : List TxReq) : List Byte :=
  if others = [] then s.msduOf q else amsduBody ((q :: others).map (fun x => (x.frame.take 12, s.msduOf x)))

/-- A frame in its window, with the frames that share its A-MSDU, takes its sequence number and packet number and is encrypted; an
exhausted slot ends it `PN_EXHAUSTED` without a number (R221 to R223, R231). False: it waits for a valid key. -/
def State.number (s : State) (q : TxReq) (others : List TxReq) : Bool × State :=
  let msdu := s.mpduBody q others
  let c := s.frameCipher q.sta q.bss
  match s.txKey q msdu with
  | .wait => (false, s)
  | .clear => (true, s.addMpdu q others 0 (30 + msdu.length) msdu)
  | .bip n =>
    match (s.keyReady n).keyTx n 0 (cipherSuits (s.mcipher q.bss)) with
    | (.ok (pn, key), s1) =>
      let mic := bipMic (s1.mcipher q.bss) key (s1.bssid q.bss) pn msdu
      (true, s1.addMpdu q others pn (30 + msdu.length + 10 + mic.length)
        (msdu ++ [0x4C, BitVec.ofNat 8 (8 + mic.length)] ++ leBytes 2 4 ++ leBytes 6 pn ++ mic))
    | (.error .exhausted, s1) => (true, s1.completeReq q stPnExhausted whyKey)
    | (.error _, s1) => (false, s1)
  | .slot n =>
    match (s.keyReady n).keyTx n 0 (cipherSuits c) with
    | (.ok (pn, key), s1) =>
      let own := s1.ownAddr q.bss (s1.peerMld q.sta)
      let aad := s1.peerAddr q.sta ++ own
      let nonce := wlanNonce c q.tid own pn
      let ct := (List.range msdu.length).map (Config.cipher (cipherAlg c) key nonce aad msdu)
      let mic := (List.range (micLen c)).map (Config.tag (cipherAlg c) key nonce aad ct)
      (true, s1.addMpdu q others pn (38 + msdu.length + micLen c) (ct ++ mic))
    | (.error .exhausted, s1) => (true, (q :: others).foldl (fun t x => t.completeReq x stPnExhausted whyKey) s1)
    | (.error _, s1) => (false, s1)

/-- A frame may share an A-MSDU (R231): plain data for a peer. -/
def TxReq.plain (q : TxReq) : Bool :=
  decide (q.sta ≠ 0) && !q.mgmt && !q.timed && !q.noAck && q.reg.isNone

/-- Bytes that a frame takes as a subframe. -/
def State.subframeLen (s : State) (q : TxReq) : Nat := (14 + (s.msduOf q).length + 3) / 4 * 4

/-- The peer's maximum MPDU length (R231). -/
def peerMpduMax (sta : Nat) : Nat := [3895, 7991, 11454].getD (Config.mpduLimit sta).val 3895

/-- The frames behind q that share its A-MSDU (R231): those next in arrival order of its peer and TID, while `n` subframes and
`left` bytes are left; and the frames that do not. -/
def State.amsduTake (s : State) (q : TxReq) : Nat → Nat → List TxReq → List TxReq × List TxReq
  | _, _, [] => ([], [])
  | n, left, x :: rest =>
    if x.sta ≠ q.sta ∨ x.tid ≠ q.tid ∨ x.mgmt then
      let (a, b) := State.amsduTake s q n left rest
      (a, x :: b)
    else if n = 0 ∨ ¬ x.plain ∨ left < s.subframeLen x then ([], x :: rest)
    else
      let (a, b) := State.amsduTake s q (n - 1) (left - s.subframeLen x) rest
      (x :: a, b)

/-- The A-MSDU that q opens (R231): at most MAX_AMSDU subframes, within the peer's maximum MPDU length. -/
def State.amsduOf (s : State) (q : TxReq) (rest : List TxReq) : List TxReq × List TxReq :=
  if q.plain then
    s.amsduTake q (s.fld F.WMAC_AMPDU_CFG_MAX_AMSDU - 1) (peerMpduMax q.sta - 54 - s.subframeLen q) rest
  else ([], rest)

/-- Give numbers to waiting frames whose windows have room, in arrival order (R221); `fuel` bounds the frames looked at. -/
def State.admitFrames (s : State) : Nat → List TxReq → State
  | 0, _ | _, [] => s
  | fuel + 1, q :: rest =>
    if s.windowOpen q then
      let (others, left) := s.amsduOf q rest
      match s.number q others with
      | (true, s1) => State.admitFrames s1 fuel left
      | (false, s1) => State.admitFrames (s1.modWmac (fun w => { w with waiting := w.waiting ++ [q] })) fuel rest
    else State.admitFrames (s.modWmac (fun w => { w with waiting := w.waiting ++ [q] })) fuel rest

/-- Look at the waiting frames, and one more behind them. -/
def State.admitWith (s : State) (l : List TxReq) : State :=
  let all := s.wmac.waiting ++ l
  (s.modWmac (fun w => { w with waiting := [] })).admitFrames all.length all

/-- Look again at every waiting frame. -/
def State.admitWaiting (s : State) : State := s.admitWith []

/-! ### Links of an MPDU (R224 to R228) -/

/-- Update an MPDU. -/
def State.modMpdu (s : State) (id : Nat) (f : TxMpdu → TxMpdu) : State :=
  s.modWmac (fun w => { w with mpdus := w.mpdus.map (fun m => if m.id = id then f m else m) })

/-- The MPDU with a number. -/
def State.mpdu (s : State) (id : Nat) : Option TxMpdu := s.wmac.mpdus.find? (fun m => decide (m.id = id))

/-- A BlockAckReq is owed to a peer and TID (R227). -/
def State.oweBar (s : State) (sta tid : Nat) : State :=
  s.modWmac (fun w => { w with bars := if w.bars.contains (sta, tid) then w.bars else w.bars ++ [(sta, tid)] })

/-- An attempt on link l has failed (R224, R227, R504): the MPDU becomes unbound, or ends at its limit and a
BlockAckReq is owed. -/
def State.mpduFailed (s : State) (l : Nat) (m : TxMpdu) : State :=
  let s1 := s.modMpdu m.id (fun x => x.unbind l)
  match m.req.reg with
  | some (f, n) =>
    match s1.flowLinkOf f l with
    | some k =>
      let s2 := s1.airFailed f n k
      if (s2.frameRec f n).isNone then s2.completeMpdu (m.unbind l) stExpired false else s2
    | none => s1
  | none =>
    if s.fld F.WMAC_AMPDU_CFG_RETRY_LIMIT ≤ m.attempts ∧ (m.unbind l).sent = [] then
      let s2 := ((s1.completeMpdu (m.unbind l) stRetryLimit false).count C.WMAC_TX_RETRY_LIMIT)
      if m.req.sta = 0 then s2 else s2.oweBar m.req.sta m.req.tid
    else s1

/-- An MPDU is acknowledged (R224, R225, R504). -/
def State.mpduAcked (s : State) (m : TxMpdu) : State :=
  match m.req.reg with
  | some (f, n) =>
    match s.frameRec f n with
    | some r =>
      if s.now < r.deadline then (s.completeMpdu m stDelivered true).endFrame f n false whyNone
      else s.completeMpdu m stExpired true
    | none => s.completeMpdu m stExpired true
  | none => s.completeMpdu m stTxOk true

/-- A registered frame that has reached its outcome leaves WMAC; on air it completes its PPDU, and its block ack is
ignored (R506, R507). -/
def State.dropReg (s : State) (f n : Nat) : State :=
  let mine := fun (q : TxReq) => decide (q.reg = some (f, n))
  let s1 := ((s.wmac.mpdus.filter (fun m => mine m.req)).foldl (fun t m => t.completeMpdu m stExpired false) s)
  let gone := s1.wmac.waiting.filter mine
  gone.foldl (fun t q => t.complete q 0 0 0 stExpired false)
    (s1.modWmac (fun w => { w with waiting := w.waiting.filter (fun q => !mine q) }))

/-- A command that has not started is taken back from its radio: its MPDUs become unbound, its BlockAckReq is owed. -/
def State.withdraw (s : State) (r : Nat) (c : AirCmd) : State :=
  (s.modRadio r (fun x => { x with cmds := x.cmds.erase c })).modWmac (fun w => w.giveBack c)

/-- The BlockAckReqs that wait for a link of a peer are taken back (R226). -/
def State.withdrawBars (s : State) (sta link : Nat) : State :=
  let r := s.linkRadio sta link
  ((s.radio r).cmds.filter (fun c => c.kind.isTo sta link && decide (c.mpdus = []))).foldl (fun t c => t.withdraw r c) s

/-- A data command without the MPDUs that are no longer bound to its link, and without users that have none left (R226); none where
nothing is left of it. -/
def State.pruned (s : State) (c : AirCmd) : Option AirCmd :=
  let ids := c.mpdus.filter (fun i => (s.mpdu i).any (fun m => m.links.contains (c.kind.linkOf m.req.sta)))
  let has := fun (n : Nat) => ids.any (fun i => (s.mpdu i).any (fun m => decide (m.req.sta = n)))
  if ids = [] then none
  else
    match c.kind with
    | .mu mimo tones us => some { c with kind := .mu mimo tones (us.filter (fun u => has u.1)), mpdus := ids
                                         icf := c.icf.filter (fun u => has u.1) }
    | _ => some { c with mpdus := ids }

/-- Data commands of radio r lose MPDUs that are no longer bound to their link (R220, R226). -/
def State.pruneCmds (s : State) (r : Nat) : State :=
  s.modRadio r (fun x => { x with cmds := x.cmds.filterMap (fun c => if c.kind.isData then s.pruned c else some c) })

end Sys2Proof.Machine
end

