-- ==== Sys2Proof/Machine/Wmac.lean ====
section
/-! DEFINITION. The meanings of the WMAC commands (spec/06_wlan_mac_multilink.md R214 to R256). -/

namespace Sys2Proof.Machine

/-! ### Context commands (R218 to R220, R226, R254) -/

/-- The staging words 0 to 29. -/
def State.stage (s : State) : List Word := (List.range 30).map (fun w => s.rd (A.WMAC_STAGE_RW w))

/-- A link's radio is also that of another enabled link of the staging record (R254). -/
def State.linkClash (s : State) (ws : List Word) (l : Nat) : Bool :=
  (List.range 3).any (fun k => decide (k ≠ l) && linkEn ws k && decide (s.bssRadio (linkBss ws k) = s.bssRadio (linkBss ws l)))

/-- What is wrong with word w of a staging record (R219, R254). -/
def State.stageError (s : State) (ws : List Word) (w : Nat) : Option RefCode :=
  let x := ws.getD w 0
  if w = 0 then
    (if getBits x 0 11 = 0 then some .zeroLength else if 2007 < getBits x 0 11 then some .cfgRange else none)
  else if w = 3 ∨ w = 5 ∨ w = 7 then
    (if getBits x 24 4 = 15 ∨ (x.getLsbD 31 ∧ s.linkClash ws ((w - 3) / 2)) then some .cfgRange else none)
  else if w = 9 then (if 5 < getBits x 16 8 ∨ 4 < getBits x 8 8 then some .cfgRange else none)
  else if w = 11 then (if 4 < getBits x 0 3 then some .cfgRange else none)
  else if w = 12 ∨ w = 13 then
    (if (List.range 8).any (fun t => decide (getBits x (3 * t) 3 = 0)) then some .cfgRange else none)
  else if 14 ≤ w ∧ w % 2 = 0 then
    (if 1024 < getBits x 16 11 ∨ 1024 < getBits x 0 11 then some .cfgRange
     else if (x.getLsbD 31 ∧ getBits x 16 11 = 0) ∨ (x.getLsbD 15 ∧ getBits x 0 11 = 0) then some .zeroLength
     else none)
  else if 14 ≤ w then
    (if (ws.getD (w - 1) 0).getLsbD 15 ∧ getBits x 16 16 = 0 then some .zeroLength else none)
  else none

/-- The first failing word of a staging record. -/
def State.stageFails (s : State) (ws : List Word) : Option (Nat × RefCode) :=
  (List.range 30).findSome? (fun w => (s.stageError ws w).map (fun e => (w, e)))

/-- A link address of the record is in use on the same BSS by another peer (R219). -/
def State.addrTaken (s : State) (ws : List Word) : Bool :=
  (List.range 3).any (fun l => linkEn ws l && (s.findPeer (linkBss ws l) (linkAddr ws l)).isSome)

/-- Show the result of a context command (R251). -/
def State.ctxResult (s : State) (result word : Nat) : State :=
  (s.setFld F.WMAC_CTX_STATUS_RESULT result).setFld F.WMAC_CTX_STATUS_WORD word

/-- Run a context command: refused outside STA_ID 1 to 1,024 or while another runs (R218, R251). It takes effect at once, and BUSY
shows it until the next tick (notes/assumptions/10.md). -/
def State.ctxCmd (s : State) (sta : Nat) (c : Instr) (f : State → State) : State :=
  s.ownWrite A.WMAC_CTX_CMD c (fun s =>
    if sta = 0 ∨ 1024 < sta ∨ s.flag F.WMAC_CTX_STATUS_BUSY then s.refuse A.WMAC_CTX_CMD .cfgRange
    else (f s).setFld F.WMAC_CTX_STATUS_BUSY 1)

/-- Hold a context, VALID set. -/
def State.setCtx (s : State) (sta : Nat) (ws : List Word) : State :=
  s.modWmac (fun w => { w with ctx := sput (fun _ => []) w.ctx sta (ws.set 0 (ws.getD 0 0 ||| 0x80000000)) })

/-- RESULT code of a staging error. -/
def refResult : RefCode → Nat
  | .zeroLength => 6
  | _ => 5

/-- CTX_ADD (R219). -/
def execCtxAdd (sta : BitVec 11) (s : State) : Host.Outcome State Fault Refusal :=
  let n := sta.toNat
  .next (s.ctxCmd n (.ctxAdd sta) (fun s =>
    let ws := s.stage
    if s.peerValid n then s.ctxResult 2 0
    else
      match s.stageFails ws with
      | some (w, e) => s.ctxResult (refResult e) w
      | none =>
        if s.addrTaken ws then s.ctxResult 4 0
        else ((s.setCtx n ws).wr (A.WMAC_STAGE_RW 0) (ws.getD 0 0 ||| 0x80000000)).ctxResult 1 0))

/-- What an UPDATE takes from the flows of a peer (R511): AUTH, links, and TID mappings. -/
def State.updateFlows (s : State) (sta : Nat) (ws : List Word) : State :=
  (s.flowsOf sta).foldl (fun t f =>
    if ¬ (ws.getD 0 0).getLsbD 26 then t.flowRevoke f 6
    else
      let w := if t.flowUp f then 13 else 12
      t.flowLoses f ((List.range 2).filter (fun k =>
        !(linkEn ws (t.flowLink f k) && ttlmHas ws w (t.flowTid f) (t.flowLink f k)))) 5) s

/-- MPDUs of a peer bound to a link that is now disabled, and not on air, become unbound (R226). -/
def State.freeLinks (s : State) (sta : Nat) (ws : List Word) : State :=
  (List.range 3).foldl (fun t l =>
    if linkEn ws l then t
    else ((t.modWmac (fun w => { w with mpdus := w.mpdus.map (fun m =>
      if m.req.sta = sta ∧ ¬ m.sent.contains l then m.unbind l else m) })).pruneCmds (s.linkRadio sta l)).withdrawBars sta l) s

/-- CTX_UPDATE (R219, R226, R244). -/
def execCtxUpdate (sta : BitVec 11) (s : State) : Host.Outcome State Fault Refusal :=
  let n := sta.toNat
  .next (s.ctxCmd n (.ctxUpdate sta) (fun s =>
    let ws := s.stage
    if ¬ s.peerValid n then s.ctxResult 3 0
    else
      match s.stageFails ws with
      | some (w, e) => s.ctxResult (refResult e) w
      | none => ((((s.freeLinks n ws).setCtx n ws).updateFlows n ws).admitWaiting).ctxResult 1 0))

/-- CTX_REMOVE (R219, R220, R511): queued frames complete `TX_NO_PEER`. -/
def execCtxRemove (sta : BitVec 11) (s : State) : Host.Outcome State Fault Refusal :=
  let n := sta.toNat
  .next (s.ctxCmd n (.ctxRemove sta) (fun s =>
    if ¬ s.peerValid n then s.ctxResult 3 0
    else
      let s0 := (List.range 3).foldl (fun t l => t.withdrawBars n l) s
      let s1 := (s0.flowsOf n).foldl (fun t f => t.flowRevoke f 4) s0
      let s2 := (s1.wmac.mpdus.filter (fun m => decide (m.req.sta = n))).foldl (fun t m =>
        let u := t.completeMpdu m stNoPeer false
        match m.req.reg with
        | some (f, k) => u.endFrame f k true whyPeer
        | none => u) s1
      let s3 := (s2.wmac.waiting.filter (fun q => decide (q.sta = n))).foldl (fun t q => t.completeReq q stNoPeer whyPeer)
        (s2.modWmac (fun w => { w with waiting := w.waiting.filter (fun q => decide (q.sta ≠ n)) }))
      let s4 := s3.modWmac (fun w => { w with
        ctx := sput (fun _ => []) w.ctx n []
        tids := w.tids.filter (fun e => decide (e.1 / 8 ≠ n))
        mgmtSn := w.mgmtSn.filter (fun e => decide (e.1 ≠ n))
        emlsr := w.emlsr.filter (fun e => decide (e.1 ≠ n))
        bars := w.bars.filter (fun e => decide (e.1 ≠ n)) })
      ((List.range 3).foldl State.pruneCmds s4).ctxResult 1 0))

/-- CTX_READ (R219, R254): the record and the state of each TID, copied to the staging area. -/
def execCtxRead (sta : BitVec 11) (s : State) : Host.Outcome State Fault Refusal :=
  let n := sta.toNat
  .next (s.ctxCmd n (.ctxRead sta) (fun s =>
    if ¬ s.peerValid n then s.ctxResult 3 0
    else
      let s1 := s.wrList A.WMAC_STAGE_RW (s.ctxWords n)
      let s2 := (List.range 8).foldl (fun u t =>
        let x := s.tid n t
        (u.wr (A.WMAC_STAGE_RO (2 + t)) (BitVec.ofNat 32 (x.rxWin * 2 ^ 16 + x.txNext))).wr (A.WMAC_STAGE_RO (10 + t))
          (BitVec.ofNat 32 (s.txOldest n t * 2 ^ 12 + x.held.length))) s1
      s2.ctxResult 1 0))

/-! ### Transmit (R221 to R228, R230, R231, R247) -/

/-- The request that a descriptor of firmware makes, or the status with which it completes (R247, R248). -/
def readDesc (ws : List Word) (frame : List Byte) : TxReq ⊕ (TxReq × Nat) :=
  let w := fun i => ws.getD i 0
  let grp := (w 0).getLsbD 31
  let sta := getBits (w 0) 0 11
  let q : TxReq := { sta := if grp then 0 else sta, bss := getBits (w 0) 19 6, tid := getBits (w 0) 25 3, frame := frame
                     noAck := (w 0).getLsbD 30, dup := (w 0).getLsbD 29, red := getBits (w 3) 16 8, cookie := w 5 }
  let len := getBits (w 2) 0 14
  if len = 0 then .inr (q, stZeroLength)
  else if len < 14 ∨ 11454 < len ∨ 1024 < sta ∨ (q.dup ∧ ¬ (w 0).getLsbD 28) ∨ (¬ grp ∧ sta = 0) ∨ (grp ∧ sta ≠ 0) ∨
      (w 0).getLsbD 28 then .inr (q, stCfgRange)
  else .inl q

/-! ### The Vollekan vendor element (R184, R205, R315) -/

/-- The PHY extension attribute of radio r: on Radio 6 while RX_EN = 1 (R184). -/
def State.vextAttr (s : State) (r : Nat) : List Byte :=
  if r = 2 ∧ s.flag (F.RADIO_VEXT_CFG_RX_EN 2) then
    [0x01, 2, BitVec.ofNat 8 (s.fld (F.RADIO_VEXT_CFG_V14 2) + 2 * s.fld (F.RADIO_VEXT_CFG_V15 2) +
      4 * s.fld (F.RADIO_VEXT_CFG_MAX_NSS 2) + 32 * s.fld (F.RADIO_VEXT_CFG_MAX_BW 2)), 0]
  else []

/-- The vendor element with its attributes; nothing without one. The OUI goes most significant byte first
(notes/assumptions/104.md). -/
def State.vendorElement (s : State) (attrs : List Byte) : List Byte :=
  if attrs = [] then []
  else [221, BitVec.ofNat 8 (4 + attrs.length)] ++ beBytes 3 (s.fld F.WMAC_VND_OUI_OUI) ++ [0x5A] ++ attrs

/-- The vendor element that a management frame of firmware carries on radio r: in a probe response both attributes, in
(re)association frames the PHY extension (R184, R315). -/
def State.mgmtVendor (s : State) (r : Nat) (frame : List Byte) : List Byte :=
  if frameByte frame 0 / 4 % 4 ≠ 0 then []
  else if mgmtSubtype frame = 5 then s.vendorElement (s.vextAttr r ++ s.jointAttr r)
  else if mgmtSubtype frame ≤ 3 then s.vendorElement (s.vextAttr r)
  else []

/-- A frame is accepted (R220, R236, R221): without a peer or its authentication it completes; otherwise it takes its
numbers once its window has room, behind the frames that wait. -/
def State.acceptReq (s : State) (q0 : TxReq) : State :=
  let q := if q0.sta = 0 then q0 else { q0 with bss := s.peerBss q0.sta }
  if q.sta ≠ 0 ∧ ¬ s.peerValid q.sta then s.completeReq q stNoPeer whyPeer
  else if q.sta ≠ 0 ∧ ¬ q.mgmt ∧ ¬ s.peerAuth q.sta ∧ ¬ isEapol (toMsdu (getBits (s.bssWord q.bss 0) 0 12) q.frame) then
    s.completeReq q stUnauth whyPeer
  else s.admitWith [q]

/-- T_LEAD, 10 µs (R495). -/
def leadTicks : Nat := 10 * Config.ticksPerUs

/-- A registered head whose booked occurrence is at most T_LEAD away, or runs (R495, R503, R504). -/
def State.regHeadDue (s : State) (f : Nat) (x : TmFrame) : Bool :=
  match x.pkt.reg with
  | some (g, n) => decide (g = f) &&
    (match s.frameRec g n with
     | some r => r.tries.any (fun t => !t.ended && decide (t.start ≤ s.now + leadTicks))
     | none => false)
  | none => false

/-- TX_DESCRIPTOR (R221, R236, R247, R248, R475, R504): a frame reaches WMAC. -/
def execTxDescriptor (source : TxSource) (s : State) : Host.Outcome State Fault Refusal :=
  if ¬ s.takesWork wmacBlock then .next s
  else
    match source with
    | .descriptor ws =>
      match readDesc ws (s.dmaBytes ((ws.getD 1 0).toNat * 16) (getBits (ws.getD 2 0) 0 14)) with
      | .inr (q, st) => .next (s.complete q 0 0 0 st false)
      | .inl q => .next ((s.logDma ((ws.getD 1 0).toNat * 16) q.frame.length).acceptReq q)
    | .management sta bss timed cookie frame =>
      let r := s.bssRadio (if sta = 0 then bss.toNat else s.peerBss sta.toNat)
      .next (s.acceptReq { sta := sta.toNat, bss := bss.toNat, tid := 0, frame := frame ++ s.mgmtVendor r frame, mgmt := true
                           timed := timed, cookie := cookie })
    | .handed egress =>
      match s.handedTo (mapIndex egress.toNat) with
      | some x =>
        let grp := decide (egress.toNat / 65536 = 3)
        .next (s.acceptReq { sta := if grp then 0 else egress.toNat % 65536, bss := egress.toNat % 64, tid := x.2.tid
                             frame := x.2.pkt.bytes, tm := some x })
      | none => .next s
    | .registered flow =>
      let f := flow.val
      let q := getBits (s.flowWord f 8) 0 13
      match s.qFrames q with
      | [] => .next s
      | x :: _ =>
        if s.flowUp f ∨ ¬ s.regHeadDue f x then .next s
        else
          .next ((s.handOver q).acceptReq {
            sta := s.flowSta f, bss := s.peerBss (s.flowSta f), tid := s.flowTid f, frame := x.pkt.bytes
            dup := (s.flowWord f 0).getLsbD 29, reg := x.pkt.reg, deadline := x.deadline.getD 0
            tm := some (mapIndex x.egress, x) })

/-- TIDs in descending access-category order, ties by higher TID (R224). -/
def tidOrder : List Nat := [7, 6, 5, 4, 3, 0, 2, 1]

/-- Times of a PPDU being filled: link, radio, flow of the restricted service period that runs, end of the exchange. -/
structure FillCtx where
  sta : Nat
  link : Nat
  flow : Option Nat
  stop : Nat
  deriving DecidableEq, Repr

/-- The MPDU may be added to a PPDU on this link (R224, R225, R306, R493, R504). -/
def State.mayFill (s : State) (c : FillCtx) (m : TxMpdu) : Bool :=
  (decide (m.links = []) || (m.req.dup && !m.links.contains c.link)) &&
  match m.req.reg with
  | some (f, n) =>
    decide (c.flow = some f) && decide (c.stop + guardTicks ≤ m.req.deadline) &&
    (match s.flowLinkOf f c.link, s.frameRec f n with
     | some k, some r => r.tries.any (fun t => decide (t.link = k) && !t.ended && decide (t.attempts < s.flowAttempts f))
     | _, _ => false)
  | none => decide (c.flow = none)

/-- Fill from the MPDUs of one TID in sequence order (R224): answers the numbers taken, the bytes left, and whether
filling stops. -/
def State.fillTid (s : State) (c : FillCtx) (oldest win : Nat) : List TxMpdu → Nat → List Nat × Nat × Bool
  | [], left => ([], left, false)
  | m :: rest, left =>
    if ¬ s.mayFill c m then State.fillTid s c oldest win rest left
    else if win ≤ (m.sn + 4096 - oldest) % 4096 then ([], left, false)
    else if left < m.len then ([], left, true)
    else
      let (ids, l, stop) := State.fillTid s c oldest win rest (left - m.len)
      (m.id :: ids, l, stop)

/-- Fill from the TIDs in order (R224). -/
def State.fillTids (s : State) (c : FillCtx) : List Nat → Nat → List Nat
  | [], _ => []
  | t :: rest, left =>
    if ¬ ttlmHas (s.ctxWords c.sta) 12 t c.link then State.fillTids s c rest left
    else
      let (ids, l, stop) := s.fillTid c (s.txOldest c.sta t) (s.txWin c.sta t) (s.tidMpdus c.sta t) left
      if stop then ids else ids ++ State.fillTids s c rest l

/-- What EMLSR holds for a peer. -/
def State.emlsr (s : State) (sta : Nat) : EmlsrSt := sget (fun _ => {}) s.wmac.emlsr sta

/-- Update what EMLSR holds for a peer. -/
def State.modEmlsr (s : State) (sta : Nat) (f : EmlsrSt → EmlsrSt) : State :=
  s.modWmac (fun w => { w with emlsr := smod (fun _ => {}) w.emlsr sta f })

/-- The peer is an EMLSR client. -/
def State.isEmlsr (s : State) (sta : Nat) : Bool := (s.ctxWord sta 0).getLsbD 27

/-- EMLSR lets an exchange with the peer begin on this link (R230). -/
def State.emlsrFree (s : State) (sta l : Nat) : Bool :=
  !s.isEmlsr sta || (decide ((s.emlsr sta).icf = none) &&
    match (s.emlsr sta).lock with
    | some (k, t) => decide (k = l ∨ t ≤ s.now)
    | none => true)

/-- Bit of an NSTR mask for two links: 0–1, 0–2, 1–2. -/
def nstrBit (a b : Nat) : Nat := a + b - 1

/-- The pair of links is NSTR on the device's side or for the peer (R229). -/
def State.nstrPair (s : State) (sta a b : Nat) : Bool :=
  decide (a ≠ b) && ((getBits (s.ctxWord sta 9) 0 3).testBit (nstrBit a b) ||
    (s.fld F.WMAC_CTRL_SELF_NSTR).testBit (nstrBit (s.linkRadio sta a) (s.linkRadio sta b)))

/-- The peer transmits to the device on the other link of an NSTR pair (R229). -/
def State.nstrBusy (s : State) (sta l : Nat) : Bool :=
  (List.range 3).any (fun k => s.linkOn sta k && s.nstrPair sta l k &&
    match s.rxActive (s.linkRadio sta k) with
    | some x => decide (x.sta = some sta)
    | none => false)

/-- An admitted rate (R498, R519): the flow's format, MCS, bandwidth and streams. -/
def State.isFlowRate (s : State) (f : Nat) (t : TxRate) : Bool :=
  let w := s.flowWord f 5
  decide (t.fmt = (if w.getLsbD 17 then .he else .eht)) && decide (t.mcs.toNat = getBits w 28 4) &&
    decide (t.nss.toNat = getBits w 25 3 + 1) && decide (t.bw.val = getBits w 22 3)

/-- SIFS and a compressed block ack (R498), in ticks. -/
def ackTicks : Nat := 48 * Config.ticksPerUs

/-- Ticks that an initial control frame to these EMLSR peers takes, padded for the slowest of them, with their CTS of 28 µs and the SIFS
on either side of it (R230). -/
def State.icfTicks (s : State) (r : Nat) (users : List (Nat × Nat)) : Nat :=
  let pad := (users.map (fun u => [0, 32, 64, 128, 256].getD (getBits (s.ctxWord u.1 9) 8 8) 0)).foldl max 0
  (32 + pad + 28) * Config.ticksPerUs + 2 * sifsOf r

/-- Queue a command at a radio. -/
def State.queueCmd (s : State) (r : Nat) (c : AirCmd) : State := s.modRadio r (fun x => { x with cmds := x.cmds ++ [c] })

/-- What a PPDU of a peer begins with: an initial control frame where the peer is an EMLSR client (R230). -/
def State.icfFor (s : State) (users : List (Nat × Nat)) : List (Nat × Nat) := users.filter (fun u => s.isEmlsr u.1)

/-- The initial control frame of an exchange with these users is outstanding (R230). -/
def State.openUsers (s : State) (users : List (Nat × Nat)) : State :=
  users.foldl (fun t u => if t.isEmlsr u.1 then t.modEmlsr u.1 (fun e => { e with icf := some u.2 }) else t) s

/-- Users' initial control frames are no longer outstanding: their exchange is off. -/
def State.closeUsers (s : State) (users : List (Nat × Nat)) : State :=
  users.foldl (fun t u => if (t.emlsr u.1).icf = some u.2 then t.modEmlsr u.1 (fun e => { e with icf := none }) else t) s

/-- A PPDU command for MPDUs bound to a link (R224): queued at the radio, the MPDUs bound; `fill` is the duration that EOF
padding makes up (R229). -/
def State.bindPpdu (s : State) (sta link r : Nat) (ids : List Nat) (start : Option Nat) (rates : List TxRate) (fill : Nat) : State :=
  let ms := ids.filterMap s.mpdu
  let c : AirCmd := { kind := .ppdu sta link, timed := start.map (fun t => (t, 0)), rates := rates, mpdus := ids
                      red := (ms.map (fun m => m.req.red)).foldl max 0, fill := fill, icf := s.icfFor [(sta, link)]
                      resp := if ms.all (fun m => m.req.noAck) ∨ sta = 0 then 0 else ackTicks }
  ((ids.foldl (fun t i => t.modMpdu i (fun m => { m with links := m.links ++ [link] })) s).openUsers c.icf).queueCmd r c

/-- The rate of a control frame: non-HT, 24 Mb/s, 32 µs for one peer and 44 µs for several (R498;
notes/assumptions/97.md). -/
def controlRate (several : Bool) : TxRate :=
  { fmt := .ofdm, mcs := 4, bw := 0, nss := 1, steered := false, dur := if several then 22000 else 16000 }

/-- The PPDU duration limit of 5,484 µs, in ticks (R231). -/
def ppduLimit : Nat := 5484 * Config.ticksPerUs

/-- The rates at which a PPDU stays within that limit. -/
def withinLimit (rates : List TxRate) : List TxRate := rates.filter (fun t => decide (t.dur.toNat ≤ ppduLimit))

/-- Send the BlockAckReq that is owed for a TID on a link (R227): it starts at the lowest unacknowledged number. -/
def State.sendBar (s : State) (sta link r tid : Nat) (start : Option Nat) : State :=
  ((s.modWmac (fun w => { w with bars := w.bars.filter (fun b => decide (b ≠ (sta, tid))) })).openUsers [(sta, link)]).queueCmd r {
    kind := .bar sta link tid (s.txOldest sta tid), timed := start.map (fun t => (t, 0)), rates := [controlRate false]
    resp := ackTicks, icf := s.icfFor [(sta, link)] }

/-- Duration of a command at its first rate, with its padding. -/
def AirCmd.span (c : AirCmd) : Nat := max c.fill (((c.rates.head?).map (fun t => t.dur.toNat)).getD 0)

/-- Commands that wait at the radios of the peer's other links of an NSTR pair, with those radios. -/
def State.nstrCmds (s : State) (sta l : Nat) : List (Nat × AirCmd) :=
  ((List.range 3).filter (fun k => s.linkOn sta k && s.nstrPair sta l k)).flatMap (fun k =>
    ((s.radio (s.linkRadio sta k)).cmds.filter (fun c => c.kind.users.contains (sta, k))).map (fun c => (s.linkRadio sta k, c)))

/-- A PPDU to the peer on the other link of an NSTR pair is on air, or waits to start at another time than `start` (R229). -/
def State.nstrMisaligned (s : State) (sta l : Nat) (start : Option Nat) : Bool :=
  (List.range 3).any (fun k => s.linkOn sta k && s.nstrPair sta l k &&
    (s.radio (s.linkRadio sta k)).air.any (fun a => a.cmd.kind.users.contains (sta, k) && decide (s.now < a.t1))) ||
  (s.nstrCmds sta l).any (fun x => !(start.isSome && decide (x.2.timed.map Prod.fst = start)))

/-- PPDUs to the peer that start together on an NSTR pair end together: the shorter ones are padded to `dur` (R229). -/
def State.nstrPad (s : State) (sta l dur : Nat) : State :=
  (s.nstrCmds sta l).foldl (fun t x => t.modRadio x.1 (fun y => { y with
    cmds := y.cmds.map (fun c => if c = x.2 ∧ c.kind.isData then { c with fill := max c.fill dur } else c) })) s

/-- The longest of the PPDUs to the peer that wait on the other links of an NSTR pair (R229). -/
def State.nstrSpan (s : State) (sta l : Nat) : Nat :=
  ((s.nstrCmds sta l).map (fun x => if x.2.kind.isData then x.2.span else 0)).foldl max 0

/-- The occurrence that runs on radio r at local count t has airtime left for another exchange (R306, R319). -/
def State.airLeft (s : State) (r t ticks : Nat) : Bool :=
  match s.rspAt r t with
  | some (f, x) => s.rspIdle f x || decide (x.air + ticks ≤ s.fld (F.ROUNDS_RSP_W3_AIR_BUDGET_US x.index) * Config.ticksPerUs)
  | none => true

/-! ### Sleeping stations (R300, R302) -/

/-- Stations of a TWT entry: its own, or the members of its broadcast schedule (R300). -/
def State.twtMembers (s : State) (a : Nat) : List Nat :=
  if s.fld (F.ROUNDS_TWT_W0_TYPE a) = 0 then [s.fld (F.ROUNDS_TWT_W0_STA_ID a)]
  else (s.wmac.ctx.map Prod.fst).filter (fun n => decide (1 ≤ n ∧ n ≤ 1024) && s.peerValid n &&
    decide (s.fld (F.ROUNDS_STA_W0_BTWT_ID (n - 1)) = s.fld (F.ROUNDS_TWT_W0_BTWT_ID a)) &&
    (List.range 3).any (fun l => s.linkOn n l && decide (linkBss (s.ctxWords n) l = s.fld (F.ROUNDS_TWT_W0_BSS a))))

/-- The station has an individual agreement or is a member of a broadcast schedule (R302). -/
def State.hasTwt (s : State) (n : Nat) : Bool :=
  decide (s.fld (F.ROUNDS_STA_W0_BTWT_ID (n - 1)) ≠ 0) ||
  (List.range 1024).any (fun a => s.flag (F.ROUNDS_TWT_W0_VALID a) && decide (s.fld (F.ROUNDS_TWT_W0_TYPE a) = 0) &&
    decide (s.fld (F.ROUNDS_TWT_W0_STA_ID a) = n))

/-- The station is awake at local count t (R302): in a service period, where it has shown it is, or in a TXOP that it holds; an
announced period counts only after its first frame in it. -/
def State.awakeAt (s : State) (n t : Nat) : Bool :=
  !s.hasTwt n || s.rounds.pmClear.contains n || decide (t < sget (fun _ => 0) s.rounds.txops n) ||
  s.rounds.sps.any (fun e => decide (e.2.start ≤ t ∧ t < e.2.stop) && (s.twtMembers e.2.entry).contains n &&
    (!s.flag (F.ROUNDS_TWT_W0_ANNOUNCED e.2.entry) || e.2.heard.contains n))

/-- The station is awake now. -/
def State.awake (s : State) (n : Nat) : Bool := s.awakeAt n s.now

/-- Fill a PPDU for a peer on a link (R224 to R231, R306, R493), or send the BlockAckReq that it is owed: `bytes` is what the peer's A-MPDU limit and the PPDU
duration allow, `start` the start of a scheduled frame. Nothing is sent to a station that sleeps (R302). -/
def State.fillPpdu (s : State) (n l bytes : Nat) (start : Option Nat) (rates : List TxRate) : State :=
  let r := s.linkRadio n l
  let at' := start.getD s.now
  let flow := s.rspHolds r at'
  if ¬ s.peerValid n ∨ ¬ s.linkOn n l ∨ ¬ s.emlsrFree n l ∨ s.nstrBusy n l ∨ s.nstrMisaligned n l start ∨
      (flow = none ∧ ¬ s.awakeAt n at') then s
  else
    let rs : List TxRate := withinLimit (match flow with
      | some f => rates.filter (s.isFlowRate f)
      | none => rates)
    let dur := max (s.nstrSpan n l) (((rs.head?).map (fun t => t.dur.toNat)).getD 0)
    let c : FillCtx := { sta := n, link := l, flow := flow, stop := at' + dur + ackTicks }
    let mg := s.wmac.mpdus.filter (fun m => decide (m.req.sta = n ∧ m.links = []) && m.req.mgmt && decide (flow = none))
    let ids : List Nat := match mg with
      | m :: _ => [m.id]
      | [] => s.fillTids c tidOrder bytes
    match s.wmac.bars.find? (fun b => decide (b.1 = n ∧ flow = none) && ttlmHas (s.ctxWords n) 12 b.2 l) with
    | some b => s.sendBar n l r b.2 start
    | none =>
      if ids = [] ∨ rs = [] ∨ ¬ s.airLeft r at' (dur + ackTicks) then s
      else (s.nstrPad n l dur).bindPpdu n l r ids start rs (if s.nstrCmds n l = [] then 0 else dur)

/-- PPDU_FILL (R224): a PPDU for a peer on a link, or for the group-addressed frames of BSS `link` (peer 0). -/
def execPpduFill (sta : BitVec 11) (link : BitVec 6) (bytes : BitVec 24) (start : Option DWord) (rates : List TxRate)
    (s : State) : Host.Outcome State Fault Refusal :=
  let n := sta.toNat
  let l := link.toNat
  let at' := start.map (fun t => t.toNat)
  if ¬ s.takesWork wmacBlock then .next s
  else if n = 0 then
    match s.wmac.mpdus.find? (fun m => decide (m.req.sta = 0 ∧ m.req.bss = l ∧ m.links = [])) with
    | some m => if s.bssOn l then .next (s.bindPpdu 0 l (s.bssRadio l) [m.id] at' (withinLimit rates) 0) else .next s
    | none => .next s
  else .next (s.fillPpdu n l bytes.toNat at' rates)

/-! ### Block acks (R224 to R227) -/

/-- EMLSR transition delay in ticks (R230, R254). -/
def State.emlsrDelay (s : State) (sta : Nat) : Nat :=
  [0, 16, 32, 64, 128, 256].getD (getBits (s.ctxWord sta 9) 16 8) 0 * Config.ticksPerUs

/-- The exchange with the users of a command is under way: no initial control frame to them is outstanding, and until `stop`, the end
of the TXOP, and their transition delay they are served on its link alone (R230). -/
def State.emlsrLock (s : State) (users : List (Nat × Nat)) (stop : Nat) : State :=
  users.foldl (fun t u => if t.isEmlsr u.1 then
    t.modEmlsr u.1 (fun _ => { icf := none, lock := some (u.2, stop + t.emlsrDelay u.1) }) else t) s

/-- A station is heard in the service periods that run (R303). -/
def State.markHeard (s : State) (sta : Nat) : State :=
  s.modRounds (fun x => { x with
    sps := x.sps.map (fun e => if e.2.start ≤ s.now ∧ s.now < e.2.stop ∧ ¬ e.2.heard.contains sta then
      (e.1, { e.2 with heard := e.2.heard ++ [sta] }) else e) })

/-- BLOCK_ACK_RX (R224, R225, R303): MPDUs sent on the link are acknowledged, or become unbound; the station is heard. -/
def execBlockAckRx (sta : BitVec 11) (link : Fin 3) (tid : BitVec 3) (ssn : BitVec 12) (acked : List (BitVec 12))
    (s : State) : Host.Outcome State Fault Refusal :=
  let n := sta.toNat
  let l := link.val
  if ¬ s.peerValid n ∨ ¬ s.takesWork wmacBlock then .next s
  else
    let mine := s.wmac.mpdus.filter (fun m => decide (m.req.sta = n ∧ m.req.tid = tid.toNat) && m.sent.contains l &&
      decide ((m.sn + 4096 - ssn.toNat) % 4096 < 1024))
    let s1 := mine.foldl (fun t m =>
      if acked.contains (BitVec.ofNat 12 m.sn) then t.mpduAcked m else t.mpduFailed l m) (s.markHeard n)
    .next s1.admitWaiting

/-- BLOCK_ACK_TIMEOUT (R224, R226, R227): no block ack has arrived on the link. -/
def execBlockAckTimeout (sta : BitVec 11) (link : Fin 3) (s : State) : Host.Outcome State Fault Refusal :=
  let n := sta.toNat
  let l := link.val
  if ¬ s.takesWork wmacBlock then .next s
  else
    let mine := s.wmac.mpdus.filter (fun m => decide (m.req.sta = n) && m.sent.contains l)
    .next ((mine.foldl (fun t m => t.mpduFailed l m) s).admitWaiting)

/-- What is left of a command without some of its users (R229, R230): nothing of one to a single peer, or with nobody left. -/
def State.usersLeft (s : State) (c : AirCmd) (gone : List (Nat × Nat)) : Option AirCmd :=
  let left := c.kind.users.filter (fun u => !gone.contains u)
  let icf := c.icf.filter left.contains
  if left = [] then none
  else
    match c.kind with
    | .mu mimo tones _ =>
      let ids := c.mpdus.filter (fun i => (s.mpdu i).any (fun m => left.any (fun u => decide (u.1 = m.req.sta))))
      if ids = [] then none else some { c with kind := .mu mimo tones left, mpdus := ids, icf := icf }
    | .trigger b _ ul => some { c with kind := .trigger b left ul, icf := icf }
    | .ndpa _ => some { c with kind := .ndpa left, icf := icf }
    | .bfPoll _ => some { c with kind := .bfPoll left, icf := icf }
    | _ => none

/-- Users leave a command of radio r that has not started: their MPDUs become unbound, and no exchange with them is open. -/
def State.usersLeave (s : State) (r : Nat) (c : AirCmd) (gone : List (Nat × Nat)) : State :=
  match s.usersLeft c gone with
  | none => (s.withdraw r c).closeUsers c.kind.users
  | some d =>
    ((s.modRadio r (fun x => { x with cmds := x.cmds.map (fun y => if y = c then d else y) })).modWmac (fun w => { w with
      mpdus := w.mpdus.map (fun m => if c.mpdus.contains m.id ∧ ¬ d.mpdus.contains m.id then m.unbind (c.kind.linkOf m.req.sta) else m) })).closeUsers
      gone

/-- EMLSR_ICF_FAIL (R230): an initial control frame has drawn no response; what was to follow it is not sent to that peer. -/
def execEmlsrIcfFail (sta : BitVec 11) (s : State) : Host.Outcome State Fault Refusal :=
  s.whenWorks wmacBlock <|
  let n := sta.toNat
  match (s.emlsr n).icf with
  | some l =>
    let r := s.linkRadio n l
    let s1 := (s.count C.WMAC_EMLSR_ICF_FAIL).closeUsers [(n, l)]
    .next (((s.radio r).cmds.filter (fun c => c.kind.users.contains (n, l) && decide (c.icf = []))).foldl
      (fun t c => t.usersLeave r c [(n, l)]) s1)
  | none => .next s

/-! ### Receive (R233 to R245) -/

/-- Subframes of an A-MSDU: DA, SA and MSDU of each. -/
def parseAmsdu : Nat → List Byte → List (List Byte × List Byte × List Byte)
  | 0, _ => []
  | fuel + 1, b =>
    if b.length < 14 then []
    else
      let len := frame16 b 12
      let used := 14 + len
      (b.take 6, slice b 6 6, slice b 14 len) :: parseAmsdu fuel (b.drop ((used + 3) / 4 * 4))

/-- The metadata record of an MSDU (R249). -/
def wmacMeta (sta tid : Nat) (h : Held) (flow : Option Nat) (len : Nat) : List Word :=
  [BitVec.ofNat 32 (h.bss % 64 * 2 ^ 26 + h.link % 4 * 2 ^ 24 + tid % 8 * 2 ^ 21 + bit flow.isSome * 2 ^ 20 +
      bit h.group * 2 ^ 19 + sta % 2048),
   BitVec.ofNat 32 (h.sn % 4096 * 2 ^ 20 + flow.getD 0 % 512 * 2 ^ 11),
   BitVec.ofNat 32 (h.rssi.toNat * 2 ^ 16 + len % 16384),
   BitVec.ofNat 32 (h.start.1 % 2 * 2 ^ 31 + h.start.2 % 2 ^ 30)]

/-- One MSDU leaves WMAC (R245, R249, R489, R490): to SORT as an Ethernet frame with its metadata, or to firmware. -/
def State.deliverMsdu (s : State) (sta tid : Nat) (h : Held) (m : List Byte × List Byte × List Byte) : State :=
  if s.flag F.WMAC_RX_CFG_TO_8023 then
    let vid := getBits (s.bssWord h.bss 0) 0 12
    let sa := if s.peerMld sta then s.peerAddr sta else m.2.1
    let flow := if h.group then none else s.flowOf true sta tid
    let bytes := toEthernet vid tid m.1 sa m.2.2
    s.arrivePkt { bytes := bytes, src := 5, srcEg := 2 * 65536 + sta, bss := h.bss
                  time := BitVec.ofNat 64 h.time, wantReg := flow.isSome, sn := h.sn
                  md := wmacMeta sta tid h flow bytes.length }
  else s.modWmac (fun w => { w with fwRx := w.fwRx ++ [h.hdr ++ m.2.2] })

/-- An MPDU leaves the reorder buffer: replay check, with TID 0 for a group slot, then conversion (R234, R235, R577). -/
def State.releaseMpdu (s : State) (sta tid : Nat) (h : Held) : State :=
  let deliver := fun (t : State) => h.msdus.foldl (fun u m => u.deliverMsdu sta tid h m) t
  match h.pn with
  | some (slot, pn) =>
    let k := if h.group then 0 else tid
    if pn ≤ (s.keySlot slot).rx k then s.count C.WMAC_RX_REPLAY else deliver (s.setRxPn slot k pn)
  | none => deliver s

/-- WinStart has moved on by `delta`, past sequence numbers that were received: for a flow with DUP they are kept while they lie less
than half the sequence space behind it (R237, R241). -/
def TidSt.passed (t : TidSt) (dup : Bool) (win delta : Nat) (sns : List Nat) : TidSt :=
  { t with
    rxWin := win
    got := if dup then t.got.filter (fun y => decide ((t.rxWin + 4096 - y) % 4096 + delta ≤ 2048)) ++ sns else [] }

/-- The uplink flow of a peer and TID is sent with duplication over two links (R241). -/
def State.dupFlow (s : State) (sta tid : Nat) : Bool :=
  (s.flowOf true sta tid).any (fun f => (s.flowWord f 0).getLsbD 29)

/-- Release held entries from WinStart on, while they are held (R237). -/
def State.releaseRun (s : State) (sta tid : Nat) : Nat → State
  | 0 => s
  | fuel + 1 =>
    let x := s.tid sta tid
    match x.held.find? (fun h => decide (h.sn = x.rxWin)) with
    | some h =>
      let s1 := s.modTid sta tid (fun t =>
        { t with held := t.held.filter (fun y => decide (y.sn ≠ h.sn)) }.passed (s.dupFlow sta tid) ((t.rxWin + 1) % 4096) 1 [h.sn])
      State.releaseRun (s1.releaseMpdu sta tid h) sta tid fuel
    | none => s

/-- Move WinStart ahead to `win`: held entries below it are released in order, then the run from it (R237, R239). -/
def State.moveWin (s : State) (sta tid win : Nat) : State :=
  let x := s.tid sta tid
  let d := (win + 4096 - x.rxWin) % 4096
  let dist := fun (h : Held) => (h.sn + 4096 - x.rxWin) % 4096
  let below := sortBy (fun a b => decide (dist a ≤ dist b)) (x.held.filter (fun h => decide (dist h < d)))
  let s1 := s.modTid sta tid (fun t =>
    { t with held := t.held.filter (fun h => decide (d ≤ dist h)) }.passed (s.dupFlow sta tid) win d (below.map (fun (h : Held) => h.sn)))
  (below.foldl (fun t h => t.releaseMpdu sta tid h) s1).releaseRun sta tid (x.held.length + 1)

/-- Start, restart or stop the flush timer after a change of the window (R239). -/
def State.syncFlush (s : State) (sta tid oldWin : Nat) : State :=
  s.modTid sta tid (fun t => { t with
    flush := if t.held = [] then none
             else if t.rxWin ≠ oldWin ∨ t.flush.isNone then some s.now
             else t.flush })

/-- The counter of a duplicate (R237, R238, R241). -/
def State.dupCounter (s : State) (sta tid : Nat) : Nat := if s.dupFlow sta tid then C.WMAC_RX_DUP_REG else C.WMAC_RX_DUP

/-- Duplicate detection (R237, R238, R241): the counter of an MPDU that is discarded. With an agreement, one behind the window or held
already; without one, a retry of the last sequence number; a retried fragment that has been collected. The second copy of a
duplicated frame counts RX_DUP_REG behind the window too. -/
def State.dupOf (s : State) (sta tid : Nat) (m : RxMpduIn) : Option Nat :=
  let x := s.tid sta tid
  let sn := m.sn.toNat
  let d := (sn + 4096 - x.rxWin) % 4096
  let again := m.retry && x.frag.any (fun p => decide (p.1 = sn ∧ m.frag.toNat < p.2.length))
  if s.baRx sta tid then
    if 2048 ≤ d then some (if x.got.contains sn then s.dupCounter sta tid else C.WMAC_RX_STALE)
    else if again ∨ (d < s.rxWin sta tid ∧ x.held.any (fun y => decide (y.sn = sn))) then some (s.dupCounter sta tid)
    else none
  else if again ∨ (m.retry ∧ x.lastSn = some sn) then some (s.dupCounter sta tid)
  else none

/-- Reordering of an MPDU that is no duplicate (R237, R238). -/
def State.reorder (s : State) (sta tid : Nat) (h : Held) : State :=
  let x := s.tid sta tid
  if s.baRx sta tid then
    let win := s.rxWin sta tid
    let s1 := if (h.sn + 4096 - x.rxWin) % 4096 < win then s else s.moveWin sta tid ((h.sn + 4096 + 1 - win) % 4096)
    ((s1.modTid sta tid (fun t => { t with held := t.held ++ [h] })).releaseRun sta tid (x.held.length + 2)).syncFlush
      sta tid x.rxWin
  else (s.modTid sta tid (fun t => { t with lastSn := some h.sn })).releaseMpdu sta tid h

/-- What decryption makes of an MPDU: its clear body with slot and packet number, or the counter of the failure. -/
def State.openMpdu (s : State) (sta : Nat) (m : RxMpduIn) :
    ((List Byte × Option (Nat × Nat)) ⊕ Nat) × State :=
  let b := m.bss.toNat
  let c := if m.group then s.frameCipher 0 b else s.frameCipher sta b
  if m.oldCipher then (.inr C.WMAC_RX_NO_KEY, s)
  else if ¬ m.prot then
    if c = 0 ∨ isEapol m.body then (.inl (m.body, none), s) else (.inr C.WMAC_RX_NO_KEY, s)
  else
    match (if m.group then s.groupKey b m.keyId.toNat else s.pairKey sta m.keyId.toNat) with
    | none => (.inr C.WMAC_RX_NO_KEY, s)
    | some n =>
      let s1 := s.keyReady n
      match s1.keyRx n 0 (cipherSuits c) with
      | .error _ => (.inr C.WMAC_RX_NO_KEY, s1)
      | .ok key =>
        let k := m.body.length - micLen c
        let ct := m.body.take k
        let peer := if s1.peerMld sta then s1.peerAddr sta else m.a2
        let aad := peer ++ s1.ownAddr b (s1.peerMld sta)
        let nonce := wlanNonce c m.tid.toNat peer m.pn.toNat
        if m.body.length < micLen c ∨ (List.range (micLen c)).map (Config.tag (cipherAlg c) key nonce aad ct) ≠ m.body.drop k then
          (.inr C.WMAC_RX_MIC_FAIL, s1.count C.SEAL_TAG_FAIL)
        else (.inl ((List.range k).map (Config.cipher (cipherAlg c) key nonce aad ct), some (n, m.pn.toNat)), s1)

/-- Collect fragments of an MSDU (R233): the whole body once the last fragment is in. -/
def State.defrag (s : State) (sta : Nat) (m : RxMpduIn) (body : List Byte) : Option (List Byte) × State :=
  let t := m.tid.toNat
  let sn := m.sn.toNat
  let x := (s.tid sta t).frag
  if m.frag.toNat = 0 ∧ ¬ m.more then
    match x with
    | some _ => (some body, (s.modTid sta t (fun y => { y with frag := none })).count C.WMAC_RX_DEFRAG_DROP)
    | none => (some body, s)
  else
    let (parts, s1) := match x with
      | some (k, l) => if k = sn then (l, s) else ([], s.count C.WMAC_RX_DEFRAG_DROP)
      | none => ([], s)
    let ps := if m.frag.toNat = parts.length then parts ++ [body] else parts
    if m.more then (none, s1.modTid sta t (fun y => { y with frag := some (sn, ps) }))
    else if m.frag.toNat + 1 = ps.length then (some ps.flatten, s1.modTid sta t (fun y => { y with frag := none }))
    else (none, (s1.modTid sta t (fun y => { y with frag := none })).count C.WMAC_RX_DEFRAG_DROP)

/-- A reception of radio r: the latest, or one before it whose codewords were still in the pool (R240). -/
def State.reception (s : State) (r back : Nat) : Option RxPpdu :=
  (((s.radio r).rx :: (s.radio r).past.map some)[back]?).join

/-- The reception answers a trigger frame of the device (R302): its TXOP is the device's. -/
def State.solicited (s : State) (r sta : Nat) (x : RxPpdu) : Bool :=
  (s.radio r).air.any (fun a => match a.cmd.kind with
    | .trigger _ us _ => us.any (fun u => decide (u.1 = sta)) && decide (x.begun ≤ a.stop)
    | _ => false)

/-- The TXOP that a frame's Duration field claims from the end of its PPDU, in ticks (R302). -/
def durTicks (hdr : List Byte) : Nat :=
  let d := leNat (slice hdr 2 2)
  if d < 32768 then d * Config.ticksPerUs else 0

/-- A frame of a peer shows it awake or asleep, and the TXOP that it holds (R302); it is heard in its service periods (R303). -/
def State.heardPeer (s : State) (r sta : Nat) (x : RxPpdu) (m : RxMpduIn) : State :=
  (s.markHeard sta).modRounds (fun y => { y with
    pmClear := if m.pmClear then (if y.pmClear.contains sta then y.pmClear else y.pmClear ++ [sta])
               else y.pmClear.filter (fun z => decide (z ≠ sta))
    txops := if s.solicited r sta x then y.txops else sput (fun _ => 0) y.txops sta (x.endT + durTicks m.hdr) })

/-- What an occurrence learns of a registered MPDU (R505): the highest sequence number and the queue size. -/
def State.noteOccurrence (s : State) (sta tid sn : Nat) (queue : Option (BitVec 8)) : State :=
  match s.flowOf true sta tid with
  | some f => s.modFlow f (fun x => { x with
      occHigh := some (match x.occHigh with
        | some h => if (sn + 4096 - h) % 4096 < 2048 then sn else h
        | none => sn)
      residue := (queue.map (fun q => q.toNat)).getD x.residue })
  | none => s

/-- Local count that becomes a frame's t_in: the start of the occurrence in which a registered frame arrives (R490). -/
def State.rxTime (s : State) (r sta tid : Nat) : Nat :=
  match s.flowOf true sta tid, s.runningRsp r with
  | some f, some (g, x) => if f = g then x.start else s.now
  | _, _ => s.now

/-- Uplink demand (R297, R514): the last buffer status report, a queue size in units of 256 bytes, less what has come since. -/
def State.noteDemand (s : State) (sta : Nat) (queue : Option (BitVec 8)) (bytes : Nat) : State :=
  let d := match queue with
    | some q => q.toNat * 256
    | none => sget (fun _ => 0) s.rounds.demand sta - bytes
  s.modRounds (fun x => { x with demand := sput (fun _ => 0) x.demand sta d })

/-- DA and SA by ToDS and FromDS (R245). -/
def mpduEnds (m : RxMpduIn) : List Byte × List Byte :=
  match m.toDs, m.fromDs with
  | false, false => (m.a1, m.a2)
  | false, true => (m.a1, m.a3)
  | true, false => (m.a3, m.a2)
  | true, true => (m.a3, m.a4)

/-- A data MPDU of a known peer on a link, in reception x (R234 to R238): decryption, duplicate detection, defragmentation,
reordering. -/
def State.rxData (s : State) (r sta link : Nat) (x : RxPpdu) (m : RxMpduIn) : State :=
  let t := m.tid.toNat
  if ¬ m.prot ∧ ¬ s.peerAuth sta ∧ ¬ isEapol m.body then s.count C.WMAC_RX_UNAUTH else
  match s.openMpdu sta m with
  | (.inr c, s1) => s1.count c
  | (.inl (body, pn), s1) =>
    let s2 := s1.count C.WMAC_RX_MPDU
    if ¬ s2.peerAuth sta ∧ ¬ isEapol body then s2.count C.WMAC_RX_UNAUTH
    else
      let s3 := if m.group then s2
        else (s2.noteOccurrence sta t m.sn.toNat m.queueSize).noteDemand sta m.queueSize body.length
      match if m.group then none else s3.dupOf sta t m with
      | some c => s3.count c
      | none =>
        match s3.defrag sta m body with
        | (none, s4) => s4
        | (some whole, s4) =>
          let h : Held := { sn := m.sn.toNat, pn := pn, hdr := m.hdr, bss := m.bss.toNat, time := s4.rxTime r sta t
                            group := m.group, link := link, rssi := s4.atAntenna r (s4.firstChain r) m.rssi
                            start := (x.stamp.1, x.stamp.2.1)
                            msdus := if m.amsdu then parseAmsdu whole.length whole else [((mpduEnds m).1, (mpduEnds m).2, whole)] }
          if m.group then s4.releaseMpdu sta t h else s4.reorder sta t h

/-- An initial control frame to a peer on link l that has not gone on air is cancelled, with its exchange (R230). -/
def State.cancelIcf (s : State) (sta l : Nat) : State :=
  let r := s.linkRadio sta l
  ((s.radio r).cmds.filter (fun c => c.icf.contains (sta, l))).foldl (fun t c => t.usersLeave r c [(sta, l)]) s

/-- Bits of the bitmap that covers a window (R232). -/
def baSize (win : Nat) : Nat := if win ≤ 64 then 64 else if win ≤ 256 then 256 else if win ≤ 512 then 512 else 1024

/-- One more sequence number for a block ack. -/
def baAdd (sta tid size sn : Nat) : List BaEntry → List BaEntry
  | [] => [⟨sta, tid, size, [sn]⟩]
  | e :: rest =>
    if e.sta = sta ∧ e.tid = tid then { e with sns := if e.sns.contains sn then e.sns else e.sns ++ [sn] } :: rest
    else e :: baAdd sta tid size sn rest

/-- The block acks of the answer to a reception. -/
def AirKind.baOf (k : AirKind) (rx : Nat) : Option (List BaEntry) :=
  match k with
  | .blockAck n l => if n = rx then some l else none
  | _ => none

/-- An individually addressed MPDU with a receive agreement, in a PPDU that may elicit a response, is acknowledged: the
block ack starts a SIFS after the PPDU (R163, R232, R237). -/
def State.answerMpdu (s : State) (r sta tid sn : Nat) (x : RxPpdu) : State :=
  if ¬ x.elicits ∨ ¬ s.baRx sta tid then s
  else
    let acks := baAdd sta tid (baSize (s.rxWin sta tid)) sn (((s.radio r).cmds.findSome? (fun c => c.kind.baOf x.id)).getD [])
    s.modRadio r (fun y => { y with cmds := y.cmds.filter (fun c => (c.kind.baOf x.id).isNone) ++ [{
      kind := .blockAck x.id acks, timed := some (x.endT + sifsOf r, 200), rates := [controlRate (decide (1 < acks.length))] }] })

/-- A management frame goes to firmware (R236). -/
def State.toFirmware (s : State) (b : List Byte) : State := s.modWmac (fun w => { w with fwRx := w.fwRx ++ [b] })

/-- A group-addressed management frame of a known peer (R234, R235, R242, R243; notes/assumptions/106.md): where its BSS names a slot
for it, its management MIC and packet number are checked first. -/
def State.rxGroupMgmt (s : State) (m : RxMpduIn) : State :=
  let b := m.bss.toNat
  let c := s.mcipher b
  match s.bipSlot b m.beacon m.robust, m.mic with
  | none, _ => s.toFirmware (m.hdr ++ m.body)
  | some _, none => s.count C.WMAC_RX_NO_KEY
  | some n, some mic =>
    let s1 := s.keyReady n
    match s1.keyRx n 0 (cipherSuits c) with
    | .error _ => s1.count C.WMAC_RX_NO_KEY
    | .ok key =>
      if mic ≠ bipMic c key m.a2 m.pn.toNat m.body then (s1.count C.WMAC_RX_MIC_FAIL).count C.SEAL_TAG_FAIL
      else
        let s2 := s1.count C.WMAC_RX_MPDU
        if m.pn.toNat ≤ (s2.keySlot n).rx 0 then s2.count C.WMAC_RX_REPLAY
        else (s2.setRxPn n 0 m.pn.toNat).toFirmware (m.hdr ++ m.body)

/-- An individually addressed management frame of a known peer (R234 to R236, R242): decryption, duplicate detection, replay check,
then firmware. The packet numbers of management frames are followed apart from those of data (notes/assumptions/106.md). -/
def State.rxMgmt (s : State) (sta : Nat) (m : RxMpduIn) : State :=
  if ¬ m.prot ∧ m.robust ∧ (s.ctxWord sta 0).getLsbD 28 then s.count C.WMAC_RX_NO_KEY
  else
    match if m.prot then s.openMpdu sta m else (.inl (m.body, none), s) with
    | (.inr c, s1) => s1.count c
    | (.inl (body, pn), s1) =>
      let s2 := if m.prot then s1.count C.WMAC_RX_MPDU else s1
      if m.retry ∧ sget (fun _ => none) s2.wmac.mgmtRx sta = some m.sn.toNat then s2.count C.WMAC_RX_DUP
      else
        let s3 := s2.modWmac (fun w => { w with mgmtRx := sput (fun _ => none) w.mgmtRx sta (some m.sn.toNat) })
        match pn with
        | none => s3.toFirmware (m.hdr ++ body)
        | some (n, k) =>
          if (sget (fun _ => none) s3.wmac.mgmtPn n).any (fun (g, low) => decide (g = s3.keyGen n ∧ k ≤ low)) then
            s3.count C.WMAC_RX_REPLAY
          else
            (s3.modWmac (fun w => { w with mgmtPn := sput (fun _ => none) w.mgmtPn n (some (s3.keyGen n, k)) })).toFirmware
              (m.hdr ++ body)

/-- MPDU_RX (R230, R232 to R245, R249): an MPDU of a reception that passed its FCS. Nothing reaches WMAC in Watch (R68). -/
def execMpduRx (mpdu : RxMpduIn) (s : State) : Host.Outcome State Fault Refusal :=
  let m := mpdu
  let b := m.bss.toNat
  let r := s.bssRadio b
  match s.reception r m.back.toNat with
  | none => .next s
  | some x =>
    if ¬ s.takesWork wmacBlock ∨ s.inWatch ∨ ¬ s.bssOn b ∨ ¬ x.hdrOk then .next s
    else
      match s.findPeer b m.a2 with
      | none => .next (if m.mgmt then s.toFirmware (m.hdr ++ m.body) else s.count C.WMAC_RX_NO_PEER)
      | some (sta, l) =>
        let s1 := s.heardPeer r sta x m
        let s2 := match (s1.emlsr sta).icf with
          | some k => if k = l then s1 else s1.cancelIcf sta k
          | none => s1
        .next (if m.mgmt then (if m.group then s2.rxGroupMgmt m else s2.rxMgmt sta m)
          else (if m.group then s2 else s2.answerMpdu r sta m.tid.toNat m.sn.toNat x).rxData r sta l x m)

/-- BLOCK_ACK_REQ_RX (R237): WinStart moves to the starting sequence number if that lies ahead. -/
def execBlockAckReqRx (sta : BitVec 11) (tid : BitVec 3) (ssn : BitVec 12) (s : State) :
    Host.Outcome State Fault Refusal :=
  s.whenWorks wmacBlock <|
  let n := sta.toNat
  let t := tid.toNat
  let x := s.tid n t
  let d := (ssn.toNat + 4096 - x.rxWin) % 4096
  if s.peerValid n ∧ s.baRx n t ∧ 0 < d ∧ d < 2048 then
    .next ((s.moveWin n t ssn.toNat).syncFlush n t x.rxWin)
  else .next s

/-- REORDER_FLUSH (R239, R505): after REORDER_TO, WinStart moves to the next held entry; a registered TID is never held
by it. -/
def execReorderFlush (sta : BitVec 11) (tid : BitVec 3) (s : State) : Host.Outcome State Fault Refusal :=
  s.whenWorks wmacBlock <|
  let n := sta.toNat
  let t := tid.toNat
  let x := s.tid n t
  match x.flush with
  | none => .next s
  | some since =>
    let wait := getBits (s.ctxWord n (15 + 2 * t)) 16 16 * Config.ticksPerUs
    if s.now < since + wait ∨ (s.flowOf true n t).isSome then .next s
    else
      let dist := fun (h : Held) => (h.sn + 4096 - x.rxWin) % 4096
      match sortBy (fun a b => decide (dist a ≤ dist b)) x.held with
      | [] => .next s
      | h :: _ =>
        let s1 := s.count C.WMAC_RX_FLUSHED (dist h)
        .next ((s1.moveWin n t h.sn).syncFlush n t x.rxWin)

/-! ### Beacons (R216, R296) -/

/-- Beacon BSS b has sent last, as far as its successor needs it. -/
def State.lastBeacon (s : State) (b : Nat) : Option Beacon := sget (fun _ => none) s.wmac.shown b

/-- Frames for a peer are buffered in WMAC or in TM. -/
def State.buffered (s : State) (n : Nat) : Bool :=
  s.wmac.waiting.any (fun q => decide (q.sta = n)) || s.wmac.mpdus.any (fun m => decide (m.req.sta = n)) ||
    decide (s.queuesOf (1024 + n - 1) ≠ [])

/-- Group-addressed frames of a BSS are buffered. -/
def State.groupBuffered (s : State) (b : Nat) : Bool :=
  s.wmac.waiting.any (fun q => decide (q.sta = 0 ∧ q.bss = b)) || s.wmac.mpdus.any (fun m => decide (m.req.sta = 0 ∧ m.req.bss = b)) ||
    decide (s.queuesOf (64 + b) ≠ [])

/-- AIDs of the TIM element (R216): of the BSS's stations that have frames buffered and whose last frame did not show them awake. -/
def State.timAids (s : State) (b : Nat) : List Nat :=
  ((s.wmac.ctx.map Prod.fst).filter (fun n => s.peerValid n && !(s.ctxWord n 0).getLsbD 30 && !s.rounds.pmClear.contains n &&
    s.buffered n && (List.range 3).any (fun l => s.linkOn n l && decide (linkBss (s.ctxWords n) l = b)))).map
    (fun n => getBits (s.ctxWord n 0) 0 11)

/-- The other BSSs of the AP MLD of BSS b, for the reduced-neighbour and multi-link elements (R215, R216). -/
def State.mldLinks (s : State) (b : Nat) : List MldLink :=
  let m := getBits (s.bssWord b 0) 23 5
  if 24 ≤ m then []
  else ((List.range 64).filter (fun c => decide (c ≠ b) && s.bssOn c && decide (getBits (s.bssWord c 0) 23 5 = m))).map (fun c =>
    { link := getBits (s.bssWord c 0) 19 4, bss := c, radio := s.bssRadio c, bssid := s.bssid c
      change := ((s.lastBeacon c).map (fun x => x.change)).getD 0 })

/-- Beacon protection (R243): packet number and MIC under the BIGTK slot; none without it, or while the slot has no key that serves. -/
def State.protectBeacon (s : State) (b : Nat) (f : Beacon) : Beacon × State :=
  match s.bipSlot b true true with
  | none => (f, s)
  | some n =>
    let c := s.mcipher b
    match (s.keyReady n).keyTx n 0 (cipherSuits c) with
    | (.ok (pn, key), s1) => ({ f with mic := leBytes 6 pn ++ bipMic c key (s1.bssid b) pn (f.template ++ f.vendor) }, s1)
    | (.error _, s1) => (f, s1)

/-- The beacon of BSS b (R184, R216, R243, R292, R305, R311, R315), but for its timestamp. The change count rises when the Quiet, TWT
or vendor elements differ from those of the beacon before (notes/assumptions/45.md). -/
def State.makeBeacon (s : State) (b len : Nat) : Beacon × State :=
  let r := s.bssRadio b
  let old := s.lastBeacon b
  let every := getBits (s.bssWord b 3) 0 8
  let count := match old with
    | some o => if o.dtim.1 = 0 then every - 1 else min (o.dtim.1 - 1) (every - 1)
    | none => 0
  let f : Beacon := {
    template := s.dmaBytes ((s.bssWord b 4).toNat * 16) len, dtim := (count, every), group := s.groupBuffered b, aids := s.timAids b
    links := s.mldLinks b, vendor := s.vendorElement (s.vextAttr r ++ s.jointAttr r), quiet := s.quietElements r
    rtwt := (s.placed b).zipIdx.map (fun (p, i) =>
      { id := 24 + i, tid := s.flowTid p.2, slot := (p.1.1, p.1.2.1), recur := (p.1.2.2.1, p.1.2.2.2) }) }
  let change := match old with
    | some o => if o.vendor = f.vendor ∧ o.quiet = f.quiet ∧ o.rtwt = f.rtwt then o.change else (o.change + 1) % 256
    | none => 0
  let (g, s1) := (s.logDma ((s.bssWord b 4).toNat * 16) len).protectBeacon b { f with change := change }
  (g, s1.modWmac (fun w => { w with
    beacons := sput (fun _ => none) w.beacons b (some s.now), shown := sput (fun _ => none) w.shown b (some g) }))

/-- BEACON_TX (R216, R296, R68): the beacon of an enabled BSS, once per BEACON_INT, with a template of `len` bytes; an obstruction
defers it. In Watch only the watch radio's BSSs with WATCH = 1 send. -/
def execBeaconTx (bss : BitVec 6) (len : BitVec 12) (rates : List TxRate) (s : State) : Host.Outcome State Fault Refusal :=
  let b := bss.toNat
  let r := s.bssRadio b
  let tu := getBits (s.bssWord b 3) 16 16 * 1024 * Config.ticksPerUs
  let due : Bool := match sget (fun _ => none) s.wmac.beacons b with
    | some t => decide (t + tu ≤ s.now)
    | none => true
  let allowed := !s.inWatch || ((s.bssWord b 0).getLsbD 30 && decide (r = s.fld F.PMU_WATCH_CFG_RADIO))
  if ¬ s.bssOn b ∨ ¬ due ∨ ¬ allowed ∨ ¬ s.takesWork wmacBlock then .next s
  else
    let (f, s1) := s.makeBeacon b len.toNat
    match s.obstruction r with
    | some us =>
      .next ((s1.count (C.ROUNDS_BEACON_DEFER r)).queueCmd r {
        kind := .beacon b f, timed := none, rates := rates, after := (s.rnd r).boundary + us * Config.ticksPerUs })
    | none => .next (s1.queueCmd r { kind := .beacon b f, timed := none, rates := rates })

end Sys2Proof.Machine
end

