-- ==== Sys2Proof/Machine/Rounds.lean ====
section
/-! DEFINITION. The meanings of the ROUNDS commands, reservations, and what a round boundary does (spec/08_rounds_scheduled_access.md
R289 to R323). -/

namespace Sys2Proof.Machine

/-- ROUNDS' block number. -/
def roundsBlock : Nat := 0x70

/-- Show a conflict (R316). -/
def State.conflict (s : State) (r with' index : Nat) : State :=
  (s.setFld (F.ROUNDS_CONFLICT_WITH r) with').setFld (F.ROUNDS_CONFLICT_INDEX r) index

/-- Two recurrences share a round: periods p and q, phases a and b. -/
def recurMeet (p a q b : Nat) : Bool := decide ((a + q * p - b % (max 1 (Nat.gcd p q))) % max 1 (Nat.gcd p q) = 0)

/-! ### Plans (R294, R295) -/

/-- The entry lies inside one own exclusive or shared turn (R294, R311, R313). -/
def State.insideOwn (s : State) (r : Nat) (x : Slot) : Bool :=
  (s.turns r).any (fun t => (s.turnShared r t.index || s.turnOwn r t.index) && x.inside t)

/-- The entry crosses no turn edge (R294). -/
def State.crossesNoEdge (s : State) (r : Nat) (x : Slot) : Bool := (s.turns r).all (fun t => !x.meets t || x.inside t)

/-- JOIN is set on radio r. -/
def State.joined (s : State) (r : Nat) : Bool := s.flag (F.ROUNDS_JOINT_CTRL_JOIN r)

/-- What is wrong with a used segment of a bank: the RESULT code of R294. -/
def State.segError (s : State) (r k : Nat) (x : Slot) : Option Nat :=
  let kind := s.segKind r k x.index
  if 4 < kind ∨ s.roundUs r < x.stop ∨ (kind = 2 ∧ 1 < s.fld (F.ROUNDS_SEG_W1_TRIG r k x.index)) then some 3
  else if x.len = 0 then some 4
  else if (s.segments r k).any (fun y => decide (y.index ≠ x.index) && x.meets y) ∨ (s.rspList r).any (fun y => x.meets y) ∨
      (s.joined r ∧ ¬ (if kind = 3 then s.crossesNoEdge r x else s.insideOwn r x)) then some 5
  else none

/-- The first failing segment of a bank. -/
def State.planFails (s : State) (r k : Nat) : Option (Nat × Nat) :=
  (s.segments r k).findSome? (fun x => (s.segError r k x).map (fun e => (x.index, e)))

/-- A swap is pending on radio r (R294, R295). -/
def State.swapPending (s : State) (r : Nat) : Bool := decide (s.fld (F.ROUNDS_PLAN_STATUS_RESULT r) = 1)

/-- PLAN_SWAP (R294, R316): a write of PLAN_CMD. -/
def execPlanSwap (radio : Fin 3) (value : Word) (s : State) : Host.Outcome State Fault Refusal :=
  let r := radio.val
  .next (s.ownWrite (A.ROUNDS_PLAN_CMD r) (.planSwap radio value) (fun s =>
    if ¬ value.getLsbD 0 then s
    else if s.swapPending r then s.refuse (A.ROUNDS_PLAN_CMD r) .cfgRange
    else ((s.setFld (F.ROUNDS_PLAN_STATUS_RESULT r) 1).setFld (F.ROUNDS_PLAN_STATUS_SEG r) 0).modRnd r
      (fun x => { x with passed := none })))

/-- PLAN_CHECK_DONE (R294): the inactive bank passes, or is refused with its first failing segment. -/
def execPlanCheckDone (radio : Fin 3) (s : State) : Host.Outcome State Fault Refusal :=
  let r := radio.val
  if ¬ s.swapPending r ∨ (s.rnd r).passed.isSome ∨ ¬ s.takesWork roundsBlock then .next s
  else
    match s.planFails r (1 - s.planBank r) with
    | some (i, e) => .next ((s.setFld (F.ROUNDS_PLAN_STATUS_RESULT r) e).setFld (F.ROUNDS_PLAN_STATUS_SEG r) i)
    | none => .next (s.modRnd r (fun x => { x with passed := some s.now }))

/-! ### Stations (R297, R298, R302) -/

/-- DEFICIT of a station. -/
def State.staDeficit (s : State) (n : Nat) : Int := sgn 32 (s.fld (F.ROUNDS_STA_W1_DEFICIT_US (n - 1)))

/-- Hold a station's DEFICIT, saturating at ±2,147,483,647 (R298). -/
def State.setStaDeficit (s : State) (n : Nat) (d : Int) : State :=
  s.setFld (F.ROUNDS_STA_W1_DEFICIT_US (n - 1)) (unsgn 32 (clampInt (-2147483647) 2147483647 d))

/-- The station's link on radio r, if it is enabled. -/
def State.linkAt (s : State) (n r : Nat) : Option Nat :=
  (List.range 3).find? (fun l => s.linkOn n l && decide (s.linkRadio n l = r))

/-- Downlink demand of a station on a link: bytes in its TM queues whose TIDs map to it (R297, R475). -/
def State.downDemand (s : State) (n l : Nat) : Nat :=
  (((s.queuesOf (1024 + n - 1)).filter (fun q => ttlmHas (s.ctxWords n) 12 (getBits (s.qw q 1) 24 3) l)).map
    (fun q => depthBytes (s.qFrames q))).foldl (· + ·) 0 +
  ((s.wmac.mpdus.filter (fun m => decide (m.req.sta = n ∧ m.links = []) && ttlmHas (s.ctxWords n) 12 m.req.tid l)).map
    (fun m => m.len)).foldl (· + ·) 0

/-- Uplink demand of a station on a link (R297). -/
def State.upDemand (s : State) (n l : Nat) : Nat :=
  if (List.range 8).any (fun t => ttlmHas (s.ctxWords n) 13 t l) then sget (fun _ => 0) s.rounds.demand n else 0

/-- Stations eligible for a segment, DEFICIT descending, ties by lower STA_ID (R297), where EMLSR and NSTR let WMAC reach
them (R229, R230). -/
def State.candidates (s : State) (r seg start : Nat) (up basic : Bool) : List Nat :=
  let k := s.planBank r
  let all := s.flag (F.ROUNDS_SEG_W1_ALL_BSS r k seg)
  let b := s.fld (F.ROUNDS_SEG_W1_BSS r k seg)
  let ok := fun (n : Nat) =>
    decide (1 ≤ n ∧ n ≤ 1024) && s.peerValid n && decide (s.fld (F.ROUNDS_STA_W0_WEIGHT (n - 1)) ≠ 0) && s.awakeAt n start &&
    (!(up && basic) || s.flag (F.ROUNDS_STA_W0_UL_OFDMA (n - 1))) &&
    match s.linkAt n r with
    | some l => (all || decide (linkBss (s.ctxWords n) l = b)) &&
        decide (0 < (if up then s.upDemand n l else s.downDemand n l)) && s.emlsrFree n l && !s.nstrBusy n l && !s.nstrMisaligned n l (some start)
    | none => false
  let ids := sortBy (fun a c => decide (a ≤ c)) ((s.wmac.ctx.map Prod.fst).filter ok)
  sortBy (fun a c => decide (s.staDeficit c ≤ s.staDeficit a)) ids

/-! ### Resource units (R297, R298) -/

/-- Tones of an RU size. -/
def ruTones (k : Nat) : Nat := [26, 52, 106, 242, 484, 996, 1992, 3984].getD k 0

/-- Positions of an RU size in a channel of `n` 20 MHz subchannels: starts and length in 26-tone units, lowest frequency
first (the layout of IEEE 802.11, notes/assumptions/44.md). -/
def ruPositions (n k : Nat) : List (Nat × Nat) :=
  match k with
  | 0 => (List.range (9 * n)).map (fun u => (u, 1))
  | 1 => (List.range n).flatMap (fun b => [0, 2, 5, 7].map (fun o => (9 * b + o, 2)))
  | 2 => (List.range n).flatMap (fun b => [0, 5].map (fun o => (9 * b + o, 4)))
  | _ => (List.range (n / 2 ^ (k - 3))).map (fun b => (9 * b * 2 ^ (k - 3), 9 * 2 ^ (k - 3)))

/-- The lowest free position of a size. -/
def freeRu (n k : Nat) (used : List (Nat × Nat)) : Option (Nat × Nat) :=
  (ruPositions n k).find? (fun p => used.all (fun u => decide (u.1 + u.2 ≤ p.1 ∨ p.1 + p.2 ≤ u.1)))

/-- An RU for a station (R297): the smallest free size of at least `minK` that carries its demand if one of that size
is free, else the largest free one. -/
def chooseRu (n minK maxK demand : Nat) (carry : List Nat) (used : List (Nat × Nat)) : Option (Nat × (Nat × Nat)) :=
  let sizes := (List.range (maxK + 1)).filter (fun k => decide (minK ≤ k))
  let fits := sizes.find? (fun k => decide (demand ≤ carry.getD k 0))
  match fits.bind (fun k => (freeRu n k used).map (fun p => (k, p))) with
  | some x => some x
  | none => sizes.reverse.findSome? (fun k => (freeRu n k used).map (fun p => (k, p)))

/-- Allocate RUs to stations in order (R297): station, size and carried bytes. -/
def allocRus (n minK maxK : Nat) (demand : Nat → Nat) (carry : Nat → List Nat) : List Nat → Nat → List (Nat × Nat) →
    List (Nat × Nat)
  | [], _, _ => []
  | _ :: _, 0, _ => []
  | st :: rest, left + 1, used =>
    match chooseRu n minK maxK (demand st) (carry st) used with
    | some (k, p) => (st, k) :: allocRus n minK maxK demand carry rest left (used ++ [p])
    | none => allocRus n minK maxK demand carry rest (left + 1) used

/-- `a / b` rounded to nearest. -/
def divRound (a b : Nat) : Nat := if b = 0 then 0 else (2 * a + b) / (2 * b)

/-! ### MU groups (R299) -/

/-- STA_ID of member u of a group (R320). -/
def State.mugSta (s : State) (r g u : Nat) : Nat :=
  if u % 2 = 0 then s.fld (F.ROUNDS_MUG_STA_STA_LO r g (u / 2)) else s.fld (F.ROUNDS_MUG_STA_STA_HI r g (u / 2))

/-- Members of a group. -/
def State.mugMembers (s : State) (r g : Nat) : List Nat :=
  (List.range (s.fld (F.ROUNDS_MUG_W0_NUSERS r g))).map (s.mugSta r g)

/-- Streams of a group in all. -/
def State.mugStreams (s : State) (r g : Nat) : Nat :=
  ((List.range (s.fld (F.ROUNDS_MUG_W0_NUSERS r g))).map
    (fun u => (s.fld (F.ROUNDS_MUG_NSS_NSS r g) >>> (3 * u)) % 8 + 1)).foldl (· + ·) 0

/-- MU-MIMO limit of the radio, and its sounding dimensions (R178). -/
def muLimit (r : Nat) : Nat := if r = 2 then 8 else 4

/-- Age of a group's sounding in milliseconds; none while it was never sounded. -/
def State.soundAge (s : State) (r g : Nat) : Option Nat :=
  (sget (fun _ => none) s.rounds.sounded (r * 32 + g)).map (fun t => (s.now - t) / Config.ticksPerMs)

/-- A group is usable (R299). -/
def State.mugUsable (s : State) (r g : Nat) : Bool :=
  s.flag (F.ROUNDS_MUG_W0_VALID r g) && decide (s.mugStreams r g ≤ muLimit r) &&
  match s.soundAge r g with
  | some a => decide (a ≤ s.fld (F.ROUNDS_MU_CFG_SOUND_MAX_MS r))
  | none => false

/-- Sounding times in ticks: the NDP announcement and the report poll are control frames (R292, R299). -/
structure SoundLen where
  lead : Nat
  ndp : Nat
  report : Nat
  sifs : Nat
  deriving DecidableEq, Repr

/-- Ticks of one group's sounding. -/
def SoundLen.all (x : SoundLen) : Nat := x.lead + 16000 + x.sifs + x.ndp + x.sifs + 16000 + x.sifs + x.report

/-- Users of an MU group on radio r; none while one of them cannot be reached (R229, R230, R302). -/
def State.soundUsers (s : State) (r g start : Nat) : Option (List (Nat × Nat)) :=
  let us := (s.mugMembers r g).map (fun n => (n, s.linkAt n r))
  if us.all (fun u => s.peerValid u.1 && s.awakeAt u.1 start && match u.2 with
      | some l => s.emlsrFree u.1 l && !s.nstrBusy u.1 l && !s.nstrMisaligned u.1 l (some start)
      | none => false) then
    some (us.map (fun u => (u.1, u.2.getD 0)))
  else none

/-- Queue one group's sounding at local count t: announcement, NDP, report poll (R292). -/
def State.soundGroup (s : State) (r t : Nat) (users : List (Nat × Nat)) (x : SoundLen) (rates : List TxRate) : State :=
  let ndp := t + x.lead + 16000 + x.sifs
  let c : AirCmd := { kind := .ndpa users, timed := some (t, 0), rates := [controlRate false], icf := s.icfFor users }
  (((s.openUsers c.icf).queueCmd r c).queueCmd r { kind := .ndp, timed := some (ndp, 200), rates := rates }).queueCmd r
    { kind := .bfPoll users, timed := some (ndp + x.ndp + x.sifs, 200), rates := [controlRate true], resp := x.sifs + x.report }

/-- The baseband keeps the feedback that has come, and a group whose members have all reported counts as sounded (R299). -/
def State.keepFeedback (s : State) (r g start : Nat) (users : List (Nat × Nat)) (reports : List (BitVec 11 × List Byte)) : State :=
  let got := reports.filter (fun p => users.any (fun u => decide (u.1 = p.1.toNat)))
  s.modRounds (fun y => { y with
    feedback := got.foldl (fun l p => sput (fun _ => none) l p.1.toNat (some p.2)) y.feedback
    sounded := if users.all (fun u => got.any (fun p => decide (p.1.toNat = u.1))) then
        sput (fun _ => none) y.sounded (r * 32 + g) (some start)
      else y.sounded })

/-- Sound groups in order, from local count t, while they fit before `stop` and their members stay within the sounding dimensions
(R299). -/
def State.soundGroups (r stop : Nat) (seg : SegmentIn) : List Nat → Nat → Nat → State → State
  | [], _, _, s => s
  | g :: rest, t, dims, s =>
    match s.soundUsers r g t with
    | none => State.soundGroups r stop seg rest t dims s
    | some us =>
      let lead := if s.icfFor us = [] then 0 else s.icfTicks r (s.icfFor us)
      let x : SoundLen := { lead := lead, ndp := ((seg.rates.head?).map (fun q => q.dur.toNat)).getD 0, report := seg.dur.toNat, sifs := sifsOf r }
      if stop < t + x.all ∨ dims < us.length then s
      else State.soundGroups r stop seg rest (t + x.all + x.sifs) (dims - us.length)
        ((s.soundGroup r t us x seg.rates).keepFeedback r g t us seg.reports)

/-! ### Segments (R292, R297, R298) -/

/-- Charge stations their airtime (R298). -/
def State.chargeSta (s : State) (l : List (Nat × Nat)) : State :=
  l.foldl (fun t x => t.setStaDeficit x.1 (t.staDeficit x.1 - x.2)) s

/-- SIFS and a Multi-STA BlockAck on radio r, in ticks. -/
def multiAck (r : Nat) : Nat := sifsOf r + 22000

/-- The longest TB PPDU that waits to be asked of these users on another link of an NSTR pair (R229). -/
def State.nstrUl (s : State) (users : List (Nat × Nat)) : Nat :=
  (users.flatMap (fun u => (s.nstrCmds u.1 u.2).map (fun c => match c.2.kind with
    | .trigger _ _ ul => ul
    | _ => 0))).foldl max 0

/-- The triggers that wait for these users on another link of an NSTR pair ask for TB PPDUs of `ul` ticks (R229). -/
def State.nstrMatch (s : State) (users : List (Nat × Nat)) (ul : Nat) : State :=
  (users.flatMap (fun u => s.nstrCmds u.1 u.2)).foldl (fun t c => match c.2.kind with
    | .trigger b us old =>
      t.modRadio c.1 (fun y => { y with cmds := y.cmds.map (fun d => if d = c.2 then { d with
        kind := .trigger b us ul, resp := d.resp + ul - old } else d) })
    | _ => t) s

/-- Ticks from µs `off` of the round on radio r until the next deadline of R293. -/
def State.room (s : State) (r off : Nat) : Nat :=
  (((s.limits r).filter (fun l => decide (off < l.2))).map (fun l => l.1 - off)).foldl min 65536 * Config.ticksPerUs

/-- Queue a trigger frame at radio r for a TB PPDU of `ul` ticks (R229, R230, R292, R304, R306): behind an initial control frame for
EMLSR peers, and with the TB PPDU as long as that on another link of an NSTR pair. -/
def State.sendTrigger (s : State) (r start : Nat) (bsrp : Bool) (users : List (Nat × Nat)) (ul : Nat) (rates : List TxRate) : State :=
  let len := max ul (s.nstrUl users)
  let c : AirCmd := { kind := .trigger bsrp users len, timed := some (start, 0), rates := rates, icf := s.icfFor users
                      resp := sifsOf r + len + (if bsrp then 0 else multiAck r) }
  ((s.nstrMatch users len).openUsers c.icf).queueCmd r c

/-- A trigger whose exchange ends `room` ticks after its start: the TB PPDU is cut to what is left (R293, R304, R306). -/
def State.cutTrigger (s : State) (r start room : Nat) (users : List (Nat × Nat)) (ul : Nat) (rates : List TxRate) : State :=
  let used := ((rates.head?).map (fun t => t.dur.toNat)).getD 0 + sifsOf r + multiAck r +
    (if s.icfFor users = [] then 0 else s.icfTicks r (s.icfFor users))
  if room ≤ used then s else s.sendTrigger r start false users (min ul (room - used)) rates

/-- Queue a multi-user PPDU: each user's MPDUs bound to its link (R229, R230, R292, R297). -/
def State.sendMu (s : State) (r start : Nat) (mimo : Bool) (tones : Nat) (users : List (Nat × Nat × Nat)) (rates : List TxRate) :
    State :=
  let filled := users.map (fun u =>
    (u.1, u.2.1, s.fillTids { sta := u.1, link := u.2.1, flow := none, stop := start } tidOrder u.2.2))
  let ids := filled.flatMap (fun f => f.2.2)
  if ids = [] ∨ rates = [] then s
  else
    let s1 := filled.foldl (fun t f => f.2.2.foldl (fun u i => u.modMpdu i (fun m => { m with links := m.links ++ [f.2.1] })) t) s
    let dests := (filled.filter (fun f => decide (f.2.2 ≠ []))).map (fun f => (f.1, f.2.1))
    let dur := ((rates.head?).map (fun t => t.dur.toNat)).getD 0
    let span := max dur ((dests.map (fun d => s.nstrSpan d.1 d.2)).foldl max 0)
    let c : AirCmd := {
      kind := .mu mimo tones dests, timed := some (start, 0), rates := rates.map (fun t => { t with steered := t.steered || mimo })
      mpdus := ids, red := ((ids.filterMap s.mpdu).map (fun m => m.req.red)).foldl max 0, resp := multiAck r
      icf := s.icfFor dests, fill := if span = dur then 0 else span }
    ((dests.foldl (fun t d => t.nstrPad d.1 d.2 span) s1).openUsers c.icf).queueCmd r c

/-- Users of an uplink segment that sent nothing (R298). -/
def State.countEmpty (s : State) (r : Nat) (users : List Nat) (silent : List (BitVec 11)) : State :=
  s.count (C.ROUNDS_TB_EMPTY r) (users.filter (fun n => silent.any (fun x => decide (x.toNat = n)))).length

/-- 26-tone units of the punctured 20 MHz subchannels, which are never allocated (R297). -/
def punctured (n : Nat) (mask : BitVec 16) : List (Nat × Nat) :=
  ((List.range n).filter (fun b => mask.getLsbD b)).map (fun b => (9 * b, 9))

/-- Tones of the channel's free parts, the largest RUs first: those of a multiple RU over a punctured channel (R297). -/
def freeTones (n : Nat) : Nat → List (Nat × Nat) → Nat
  | 0, _ => 0
  | j + 1, used =>
    let ps := (ruPositions n (3 + j)).filter (fun p => used.all (fun u => decide (u.1 + u.2 ≤ p.1 ∨ p.1 + p.2 ≤ u.1)))
    ps.length * ruTones (3 + j) + freeTones n j (used ++ ps)

/-- Users of an OFDMA PPDU with the tones of their RUs and the bytes these carry (R297): RUs in order of the candidates; one user
alone receives the whole of a punctured channel as a multiple RU. -/
def State.ofdmaUsers (s : State) (r : Nat) (x : SegmentIn) (cand : List Nat) (demand : Nat → Nat) : List (Nat × Nat × Nat) :=
  let bw := s.synthBw r
  let holes := punctured (2 ^ bw) x.punct
  let most := s.fld (F.ROUNDS_MU_CFG_MAX_USERS r)
  let carry := fun (n : Nat) => ((x.carry.find? (fun c => decide (c.sta.toNat = n))).map (fun c => c.bytes.map (fun b => b.toNat))).getD []
  match cand, holes with
  | n :: rest, _ :: _ =>
    if rest = [] ∨ most = 1 then [(n, freeTones (2 ^ bw) (bw + 1) holes, (carry n).getD 8 0)]
    else (allocRus (2 ^ bw) (s.fld (F.ROUNDS_MU_CFG_MIN_RU r)) (3 + bw) demand carry cand most holes).map
      (fun u => (u.1, ruTones u.2, (carry u.1).getD u.2 0))
  | _, _ => (allocRus (2 ^ bw) (s.fld (F.ROUNDS_MU_CFG_MIN_RU r)) (3 + bw) demand carry cand most []).map
      (fun u => (u.1, ruTones u.2, (carry u.1).getD u.2 0))

/-- Stations of a segment's BSSs that support OFDMA, awake, with their links (R297). -/
def State.ofdmaStations (s : State) (r seg start : Nat) : List (Nat × Nat) :=
  let k := s.planBank r
  (sortBy (fun a c => decide (a ≤ c)) (s.wmac.ctx.map Prod.fst)).filterMap (fun n =>
    match s.linkAt n r with
    | some l =>
      if 1 ≤ n ∧ n ≤ 1024 ∧ s.peerValid n ∧ s.awakeAt n start ∧ s.flag (F.ROUNDS_STA_W0_UL_OFDMA (n - 1)) ∧ s.emlsrFree n l ∧
          (s.flag (F.ROUNDS_SEG_W1_ALL_BSS r k seg) ∨ linkBss (s.ctxWords n) l = s.fld (F.ROUNDS_SEG_W1_BSS r k seg)) then some (n, l)
      else none
    | none => none)

/-- Charge DEFICIT once every candidate's has run out (R297). -/
def State.refillDeficits (s : State) (r : Nat) (cand : List Nat) : State :=
  if cand.all (fun n => decide (s.staDeficit n ≤ 0)) then
    cand.foldl (fun t n => t.setStaDeficit n (t.staDeficit n +
      t.fld (F.ROUNDS_STA_W0_WEIGHT (n - 1)) * t.fld (F.ROUNDS_MU_CFG_QUANTUM_US r))) s
  else s

/-- A usable MU group that holds the first candidate, with every member a candidate (R297). -/
def State.segGroup (s : State) (r : Nat) (cand : List Nat) : Option Nat :=
  (List.range 32).find? (fun g => s.mugUsable r g && (s.mugMembers r g).contains (cand.head?.getD 0) &&
    (s.mugMembers r g).all (fun n => cand.contains n))

/-- A DL_MU segment of `room` ticks (R297, R298): the data PPDU leaves room for the block acks. -/
def State.runDown (s : State) (r seg start room : Nat) (x : SegmentIn) : State :=
  let cand := s.candidates r seg start false true
  let left := min ppduLimit (room - multiAck r)
  let rates := x.rates.filter (fun t => decide (t.dur.toNat ≤ left))
  let dur := min x.dur.toNat left
  let link := fun (n : Nat) => (s.linkAt n r).getD 0
  let total := ruTones (3 + s.synthBw r)
  if cand = [] then s.modRnd r (fun y => { y with free := y.free ++ [seg] })
  else
    let s1 := s.refillDeficits r cand
    match s.segGroup r cand with
    | some g =>
      let ms := s.mugMembers r g
      let most := fun (n : Nat) => (((x.carry.find? (fun c => decide (c.sta.toNat = n))).map
        (fun c => c.bytes.map (fun b => b.toNat))).getD []).foldl max 0
      (s1.sendMu r start true total (ms.map (fun n => (n, link n, most n))) rates).chargeSta
        (ms.map (fun n => (n, divRound dur (ms.length * Config.ticksPerUs))))
    | none =>
      let us := s.ofdmaUsers r x cand (fun n => s.downDemand n (link n))
      (s1.sendMu r start false ((us.map (fun u => u.2.1)).foldl max 0) (us.map (fun u => (u.1, link u.1, u.2.2))) rates).chargeSta
        (us.map (fun u => (u.1, divRound (dur * u.2.1) (total * Config.ticksPerUs))))

/-- An UL_TRIG segment of `room` ticks (R297, R298): the TB PPDU leaves room for the trigger, two SIFS and the BlockAck. -/
def State.runUp (s : State) (r seg start room : Nat) (x : SegmentIn) : State :=
  let bsrp := decide (s.fld (F.ROUNDS_SEG_W1_TRIG r (s.planBank r) seg) = 1)
  let cand := s.candidates r seg start true (!bsrp)
  let trig := ((x.rates.head?).map (fun t => t.dur.toNat)).getD 0
  let ul := min (min ppduLimit x.dur.toNat) (room - trig - sifsOf r - (if bsrp then 0 else multiAck r))
  let link := fun (n : Nat) => (s.linkAt n r).getD 0
  if cand = [] then
    (if bsrp then s.sendTrigger r start true (s.ofdmaStations r seg start) ul x.rates
     else s.modRnd r (fun y => { y with free := y.free ++ [seg] }))
  else
    let us := s.ofdmaUsers r x cand (fun n => s.upDemand n (link n))
    (((s.refillDeficits r cand).sendTrigger r start bsrp (us.map (fun u => (u.1, link u.1))) ul x.rates).countEmpty r
      (us.map Prod.fst) x.silent).chargeSta
      (us.map (fun u => (u.1, divRound (ul * u.2.1) (ruTones (3 + s.synthBw r) * Config.ticksPerUs))))

/-- Ticks that a segment may use: its length, but in turns no longer than until GUARD_NS before the end of the usable turn in which it
begins; none outside one (R292, R293, R311). -/
def State.segRoom (s : State) (r : Nat) (x : Slot) : Option Nat :=
  if s.inTurns r then
    (slotAt x.off (s.usableTurns r)).map (fun t => min x.len (t.stop - s.guardUs r - x.off) * Config.ticksPerUs)
  else some (x.len * Config.ticksPerUs)

/-- MU groups of radio r in the order of their soundings, oldest first, those never sounded before all (R299). -/
def State.soundOrder (s : State) (r : Nat) : List Nat :=
  let age := fun (g : Nat) => (sget (fun _ => none) s.rounds.sounded (r * 32 + g)).elim 0 (fun t => t + 1)
  sortBy (fun a b => decide (age a ≤ age b)) ((List.range 32).filter (fun g => s.flag (F.ROUNDS_MUG_W0_VALID r g)))

/-- SEGMENT_START (R290, R292, R297 to R299): a used segment of the active bank begins, once in its round; its commands are queued up to
10 µs ahead (notes/assumptions/108.md). -/
def execSegmentStart (radio : Fin 3) (segment : Fin 32) (seg : SegmentIn) (s : State) :
    Host.Outcome State Fault Refusal :=
  s.whenWorks roundsBlock <|
  let r := radio.val
  let i := segment.val
  let k := s.planBank r
  let x := s.segSlot r k i
  let start := (s.rnd r).boundary + x.off * Config.ticksPerUs
  if ¬ s.roundsOn r ∨ s.segKind r k i = 0 ∨ (s.rnd r).ran.contains i ∨ s.now + leadTicks < start ∨
      (s.rnd r).boundary + x.stop * Config.ticksPerUs ≤ s.now then .next s
  else
    let s1 := s.modRnd r (fun y => { y with ran := y.ran ++ [i] })
    match s.segKind r k i, s.segRoom r x with
    | 1, some room => .next (s1.runDown r i start room seg)
    | 2, some room => .next (s1.runUp r i start room seg)
    | 3, _ => .next (s1.count (C.ROUNDS_AIR_QUIET_US r) x.len)
    | 4, some room => .next (State.soundGroups r (start + room) seg (s.soundOrder r) start (muLimit r) s1)
    | _, _ => .next s1

/-! ### TWT (R300 to R304) -/

/-- What a TWT entry hits (R301): the CONFLICT code and the entry. -/
def State.twtHits (s : State) (r a : Nat) (x : Slot) : Option (Nat × Nat) :=
  let p := s.fld (F.ROUNDS_TWT_W1_INTERVAL_ROUNDS a)
  let ph := s.fld (F.ROUNDS_TWT_W1_PHASE_ROUND a)
  let seg := ((s.segments r (s.planBank r)).filter (fun y => decide (s.segKind r (s.planBank r) y.index = 3))).find?
    (fun y => x.meets y)
  let rsp := (s.rspList r).find? (fun y => x.meets y &&
    recurMeet p ph (s.fld (F.ROUNDS_RSP_W2_PERIOD y.index)) (s.fld (F.ROUNDS_RSP_W2_PHASE y.index)))
  let turn := if s.joined r then ((s.turns r).filter (fun y => s.turnOther r y.index)).find? (fun y => x.meets y) else none
  match seg, rsp, turn with
  | some y, _, _ => some (1, y.index)
  | none, some y, _ => some (2, y.index)
  | none, none, some y => some (3, y.index)
  | none, none, none => none

/-- TWT_ENTRY_WRITE (R301, R321): a write of word 0; with VALID = 1 the service period is checked. -/
def execTwtEntryWrite (entry : BitVec 10) (value : Word) (s : State) : Host.Outcome State Fault Refusal :=
  let a := entry.toNat
  let addr := A.ROUNDS_TWT_W0 a
  .next (s.ownWrite addr (.twtEntryWrite entry value) (fun s =>
    let v := value &&& 0xFFFF07FF
    let type := getBits v 29 2
    let bt := getBits v 16 5
    let sta := getBits v 0 11
    let r := s.bssRadio (getBits v 21 6)
    let p := s.fld (F.ROUNDS_TWT_W1_INTERVAL_ROUNDS a)
    let x : Slot := { index := a, off := s.fld (F.ROUNDS_TWT_W2_SP_OFFSET_US a), len := s.fld (F.ROUNDS_TWT_W2_SP_LEN_US a) }
    if type = 3 ∨ 24 ≤ bt then s.refuse addr .cfgRange
    else if ¬ v.getLsbD 31 then s.wr addr v
    else if p = 0 ∨ x.len = 0 then s.refuse addr .zeroLength
    else if p ≤ s.fld (F.ROUNDS_TWT_W1_PHASE_ROUND a) ∨ s.roundUs r < x.stop ∨ (type = 0 ∧ (bt ≠ 0 ∨ sta = 0 ∨ 1024 < sta)) ∨
        (type ≠ 0 ∧ (bt = 0 ∨ sta ≠ 0)) then s.refuse addr .cfgRange
    else
      match s.twtHits r a x with
      | some (w, i) => (s.conflict r w i).refuse addr .cfgRange
      | none => s.wr addr v))

/-- TWT_SP_START (R290, R300, R302, R304): a service period begins; a triggered one sends a Basic trigger for a TB PPDU of at most
`ul` ticks, cut to end inside the period and before the next scheduled element. -/
def execTwtSpStart (entry : BitVec 10) (ul : BitVec 24) (rates : List TxRate) (s : State) : Host.Outcome State Fault Refusal :=
  s.whenWorks roundsBlock <|
  let a := entry.toNat
  let r := s.bssRadio (s.fld (F.ROUNDS_TWT_W0_BSS a))
  let off := s.fld (F.ROUNDS_TWT_W2_SP_OFFSET_US a)
  let len := s.fld (F.ROUNDS_TWT_W2_SP_LEN_US a)
  let start := (s.rnd r).boundary + off * Config.ticksPerUs
  let endT := start + len * Config.ticksPerUs
  if ¬ s.flag (F.ROUNDS_TWT_W0_VALID a) ∨ ¬ s.roundsOn r ∨ s.now + leadTicks < start ∨ endT ≤ s.now ∨
      s.fld (F.ROUNDS_ROUND_NUM_NUM r) % s.fld (F.ROUNDS_TWT_W1_INTERVAL_ROUNDS a) ≠ s.fld (F.ROUNDS_TWT_W1_PHASE_ROUND a) ∨
      s.rounds.sps.any (fun e => decide (e.2.entry = a ∧ e.2.stop = endT)) then .next s
  else
    let s1 := s.modRounds (fun x => { x with
      sps := x.sps.filter (fun e => decide (e.2.entry ≠ a)) ++ [(r, { entry := a, start := start, stop := endT })] })
    let single := decide (s.fld (F.ROUNDS_TWT_W0_TYPE a) = 0)
    let users := (s.twtMembers a).filterMap (fun n => if single ∨ s1.awakeAt n start then (s.linkAt n r).map (fun l => (n, l)) else none)
    if s.flag (F.ROUNDS_TWT_W0_TRIGGERED a) ∧ users ≠ [] then
      .next (s1.cutTrigger r start (min (s.room r off) (len * Config.ticksPerUs)) users ul.toNat rates)
    else .next s1

/-- TWT_MISSED (R303): a member was not heard in a service period that has ended. -/
def execTwtMissed (entry : BitVec 10) (sta : BitVec 11) (s : State) : Host.Outcome State Fault Refusal :=
  s.whenWorks roundsBlock <|
  let a := entry.toNat
  let n := sta.toNat
  match s.rounds.sps.find? (fun e => decide (e.2.entry = a)) with
  | none => .next s
  | some (r, x) =>
    if s.now < x.stop ∨ x.heard.contains n ∨ ¬ (s.twtMembers a).contains n then .next s
    else
      .next ((s.count (C.ROUNDS_TWT_MISSED r)).modRounds (fun y => { y with
        sps := y.sps.map (fun e => if e.2.entry = a then (e.1, { e.2 with heard := e.2.heard ++ [n] }) else e) }))

/-! ### Restricted service periods (R305 to R307) -/

/-- A reservation asked of ROUNDS (R305, R319). -/
structure RspAsk where
  radio : Nat
  up : Bool
  dup : Bool
  flow : Nat
  sta : Nat
  bss : Nat
  off : Nat
  len : Nat
  period : Nat
  phase : Nat
  attempts : Nat
  air : Nat
  deriving DecidableEq, Repr

/-- Distinct placements on a BSS (R305). -/
def State.placements (s : State) (b : Nat) : List (Nat × Nat × Nat × Nat) :=
  (((List.range 256).filter (fun i => s.flag (F.ROUNDS_RSP_W0_VALID i) && decide (s.fld (F.ROUNDS_RSP_W3_BSS i) = b))).map
    (fun i => (s.fld (F.ROUNDS_RSP_W1_OFFSET_US i), s.fld (F.ROUNDS_RSP_W1_LEN_US i), s.fld (F.ROUNDS_RSP_W2_PERIOD i),
      s.fld (F.ROUNDS_RSP_W2_PHASE i)))).eraseDups

/-- Why ROUNDS refuses a reservation (R305): the CONFLICT code and the entry. -/
def State.rspRefused (s : State) (q : RspAsk) : Option (Nat × Nat) :=
  let r := q.radio
  let x : Slot := { index := 0, off := q.off, len := q.len }
  let seg := (s.segments r 0 ++ s.segments r 1).find? (fun y => x.meets y)
  let rsp := (s.rspList r).find? (fun y => x.meets y &&
    recurMeet q.period q.phase (s.fld (F.ROUNDS_RSP_W2_PERIOD y.index)) (s.fld (F.ROUNDS_RSP_W2_PHASE y.index)))
  let twt := (s.twtList r).find? (fun y => x.meets y &&
    recurMeet q.period q.phase (s.fld (F.ROUNDS_TWT_W1_INTERVAL_ROUNDS y.index)) (s.fld (F.ROUNDS_TWT_W1_PHASE_ROUND y.index)))
  let margin := s.fld (F.ROUNDS_JOINT_HOLD_HOLD_MARGIN_US r) + s.guardUs r
  let own := (s.turns r).find? (fun t => s.turnOwn r t.index && x.inside t)
  let out := (s.turns r).find? (fun t => !s.turnOwn r t.index && x.meets t)
  let placed := s.placements q.bss
  if ¬ s.roundsOn r ∨ s.roundUs r < x.stop then some (0, 0)
  else
    match seg, rsp, twt with
    | some y, _, _ => some (1, y.index)
    | none, some y, _ => some (2, y.index)
    | none, none, some y => some (4, y.index)
    | none, none, none =>
      if s.joined r ∧ own = none then some (3, (out.map (fun t => t.index)).getD 0)
      else if s.joined r ∧ (own.any (fun t => decide (x.off < t.off + margin ∨ t.stop < x.stop + margin))) then
        some (5, (own.map (fun t => t.index)).getD 0)
      else if 8 ≤ placed.length ∧ ¬ placed.contains (q.off, q.len, q.period, q.phase) then
        some (2, ((List.range 256).find? (fun i => s.flag (F.ROUNDS_RSP_W0_VALID i) &&
          decide (s.fld (F.ROUNDS_RSP_W3_BSS i) = q.bss))).getD 0)
      else none

/-- The lowest free entry. -/
def State.freeRsp (s : State) : Option Nat := (List.range 256).find? (fun i => !s.flag (F.ROUNDS_RSP_W0_VALID i))

/-- Write a restricted service period (R319). -/
def State.writeRsp (s : State) (i : Nat) (q : RspAsk) : State :=
  (((s.wr (A.ROUNDS_RSP_W0 i) (BitVec.ofNat 32 (2 ^ 31 + q.radio * 2 ^ 29 + bit q.up * 2 ^ 28 + bit q.dup * 2 ^ 27 +
      q.flow * 2 ^ 18 + q.sta))).wr (A.ROUNDS_RSP_W1 i) (BitVec.ofNat 32 (q.off * 2 ^ 16 + q.len))).wr (A.ROUNDS_RSP_W2 i)
    (BitVec.ofNat 32 (q.period * 2 ^ 24 + q.phase * 2 ^ 16 + q.attempts * 2 ^ 8))).wr (A.ROUNDS_RSP_W3 i)
    (BitVec.ofNat 32 (q.air * 2 ^ 16 + q.bss))

/-- Free a restricted service period (R517). -/
def State.clearRsp (s : State) (i : Nat) : State :=
  ((((s.wr (A.ROUNDS_RSP_W0 i) 0).wr (A.ROUNDS_RSP_W1 i) 0).wr (A.ROUNDS_RSP_W2 i) 0).wr (A.ROUNDS_RSP_W3 i) 0).modRounds
    (fun x => { x with rsps := x.rsps.filter (fun y => decide (y.index ≠ i)) })

/-- RSP_START (R290, R306): an occurrence begins; an uplink period sends its Basic trigger, a downlink one its first PPDU, at its start
or, on a busy medium, at the first PIFS-idle point, `idle` ticks later. -/
def execRspStart (index : BitVec 8) (idle ul : BitVec 24) (rates : List TxRate) (s : State) : Host.Outcome State Fault Refusal :=
  s.whenWorks roundsBlock <|
  let i := index.toNat
  let r := s.fld (F.ROUNDS_RSP_W0_RADIO i)
  let f := s.fld (F.ROUNDS_RSP_W0_FLOW i)
  let off := s.fld (F.ROUNDS_RSP_W1_OFFSET_US i)
  let len := s.fld (F.ROUNDS_RSP_W1_LEN_US i)
  let start := (s.rnd r).boundary + off * Config.ticksPerUs
  let endT := start + len * Config.ticksPerUs
  if ¬ s.flag (F.ROUNDS_RSP_W0_VALID i) ∨ ¬ s.roundsOn r ∨ ¬ s.rspIn i (s.fld (F.ROUNDS_ROUND_NUM_NUM r)) ∨
      s.now + leadTicks < start ∨ endT ≤ s.now ∨ s.rounds.rsps.any (fun x => decide (x.index = i ∧ x.start = start)) then
    .next s
  else
    let s1 := s.modRounds (fun x => { x with rsps := x.rsps.filter (fun y => decide (y.index ≠ i)) ++
      [{ index := i, start := start, stop := endT }] })
    let s2 := (s1.count (C.ROUNDS_AIR_RSP_US r) len).modFlow f (fun x => { x with occHigh := none, decMissed := false, residue := 0 })
    let s3 := if idle = 0 then s2 else s2.count (C.ROUNDS_RSP_BUSY_START r)
    let first := start + idle.toNat
    let n := s.fld (F.ROUNDS_RSP_W0_STA_ID i)
    if endT ≤ first then .next s3
    else
      match s.linkAt n r with
      | none => .next s3
      | some l =>
        if s.flag (F.ROUNDS_RSP_W0_DIR i) then .next (s3.cutTrigger r first (endT - first) [(n, l)] ul.toNat rates)
        else .next (s3.fillPpdu n l (2 ^ 24 - 1) (some first) rates)

/-! ### Joint rounds (R310 to R315) -/

/-- Turns in order cover the round exactly (R313). -/
def turnsCover (len : Nat) (ts : List Slot) : Bool :=
  let sorted := sortBy (fun a b => decide (a.off ≤ b.off)) ts
  decide (sorted.foldl (fun (acc : Option Nat) t => acc.bind (fun p => if t.off = p then some t.stop else none)) (some 0) = some len)

/-- The turn at which the cover breaks: the first in order that does not begin where the one before it ends, else the last. -/
def turnGap (ts : List Slot) : Nat :=
  let sorted := sortBy (fun a b => decide (a.off ≤ b.off)) ts
  let bad := (sorted.zip (0 :: sorted.map Slot.stop)).find? (fun p => decide (p.1.off ≠ p.2))
  ((bad.map (fun p => p.1.index)).or (sorted.getLast?.map (fun x => x.index))).getD 0

/-- Why JOIN is refused (R313): a code, with the CONFLICT it sets. -/
def State.joinError (s : State) (r member : Nat) : Option (RefCode × Option (Nat × Nat)) :=
  let ts := s.turns r
  let own := ts.filter (fun t => !s.turnShared r t.index && decide (s.fld (F.ROUNDS_TURN_W1_OWNER r t.index) = member))
  let usable := own ++ ts.filter (fun t => s.turnShared r t.index)
  let k := s.planBank r
  let out := fun (x : Slot) => !usable.any (fun t => x.inside t)
  let margin := s.fld (F.ROUNDS_JOINT_HOLD_HOLD_MARGIN_US r) + s.guardUs r
  let seg := ((s.segments r k).filter (fun x => decide (s.segKind r k x.index ≠ 3))).find? out
  let near := usable.find? (fun t => (s.rspList r).any (fun x => x.inside t &&
    decide (x.off < t.off + margin ∨ t.stop < x.stop + margin)))
  if s.fld (F.ROUNDS_START_ROUND_ROUND r) = 0 then some (.zeroLength, none)
  else
    match ts.find? (fun t => decide (t.len = 0)) with
    | some t => some (.zeroLength, some (6, t.index))
    | none =>
      if ¬ turnsCover (s.roundUs r) ts ∨ own = [] then some (.cfgRange, some (6, turnGap ts))
      else
        match seg, (s.rspList r).find? out, (s.twtList r).find? out, near with
        | some x, _, _, _ => some (.cfgRange, some (1, x.index))
        | none, some x, _, _ => some (.cfgRange, some (2, x.index))
        | none, none, some x, _ => some (.cfgRange, some (4, x.index))
        | none, none, none, some x => some (.cfgRange, some (5, x.index))
        | none, none, none, none =>
          if s.rd (A.ROUNDS_EPOCH_NS r) = 0 ∧ s.rd (A.ROUNDS_EPOCH_SEC_LO r) = 0 ∧ s.rd (A.ROUNDS_EPOCH_SEC_HI r) = 0 then
            some (.cfgRange, none)
          else none

/-- Enter a joint state. -/
def State.setJoint (s : State) (r st : Nat) : State := s.setFld (F.ROUNDS_JOINT_CTRL_STATE r) st

/-- Return to SOLO (R312): JOIN cleared, LAST set; lost in use, `JOINT_LOST` is raised. -/
def State.leaveJoint (s : State) (r last : Nat) (lost : Bool) : State :=
  let s1 := (((s.setJoint r jointSolo).setFld (F.ROUNDS_JOINT_CTRL_JOIN r) 0).setFld (F.ROUNDS_JOINT_CTRL_LAST r) last).modRnd r
    (fun x => { x with leaving := false, armed := false, holdRounds := 0 })
  if lost then s1.present 0x1A r else s1

/-- A write of JOINT_CTRL (R312, R313, R317): MEMBER and GEN are held while JOIN = 1. -/
def State.writeJointCtrl (s : State) (r : Nat) (c : Instr) (value : Word) : State :=
  s.ownWrite (A.ROUNDS_JOINT_CTRL r) c (fun s =>
    let member := getBits value 24 3
    let gen := getBits value 16 8
    let same := decide (member = s.fld (F.ROUNDS_JOINT_CTRL_MEMBER r) ∧ gen = s.fld (F.ROUNDS_JOINT_CTRL_GEN r))
    let put := fun (t : State) => (t.setFld (F.ROUNDS_JOINT_CTRL_MEMBER r) member).setFld (F.ROUNDS_JOINT_CTRL_GEN r) gen
    if s.joined r then
      if ¬ same then s.refuse (A.ROUNDS_JOINT_CTRL r) .cfgRange
      else if value.getLsbD 31 then s
      else (s.setFld (F.ROUNDS_JOINT_CTRL_JOIN r) 0).modRnd r (fun x => { x with leaving := true })
    else if ¬ value.getLsbD 31 then put s
    else if (s.rnd r).leaving then s.refuse (A.ROUNDS_JOINT_CTRL r) .cfgRange
    else
      match s.joinError r member with
      | some (c, w) =>
        (match w with
         | some (a, b) => s.conflict r a b
         | none => s).refuse (A.ROUNDS_JOINT_CTRL r) c
      | none =>
        (((put s).setFld (F.ROUNDS_JOINT_CTRL_JOIN r) 1).setJoint r jointJoining).modRnd r
          (fun x => { x with armed := false, holdRounds := 0 }))

/-- JOIN (R312, R313): a write of JOINT_CTRL that sets JOIN. -/
def execJoin (radio : Fin 3) (value : Word) (s : State) : Host.Outcome State Fault Refusal :=
  .next (s.writeJointCtrl radio.val (.join radio value) (value ||| 0x80000000))

/-- LEFT (R312): a write of JOINT_CTRL that clears JOIN; SOLO follows at the next boundary. -/
def execLeft (radio : Fin 3) (value : Word) (s : State) : Host.Outcome State Fault Refusal :=
  .next (s.writeJointCtrl radio.val (.left radio value) (value &&& 0x7FFFFFFF))

/-- A field of an attribute, least significant byte first (notes/assumptions/104.md). -/
def attrField (a : List Byte) (off n : Nat) : Nat := leNat (slice a off n)

/-- A peer's attribute names the device's own plan (R312, R315). -/
def State.samePlan (s : State) (r : Nat) (a : List Byte) : Bool :=
  let ts := s.turns r
  decide (attrField a 0 1 = s.fld (F.ROUNDS_JOINT_CTRL_GEN r)) && decide (attrField a 2 2 = s.roundUs r) &&
  decide (attrField a 4 6 = s.fld (F.ROUNDS_EPOCH_SEC_HI_SEC r) * 2 ^ 32 + s.fld (F.ROUNDS_EPOCH_SEC_LO_SEC r)) &&
  decide (attrField a 10 4 = s.fld (F.ROUNDS_EPOCH_NS_NS r)) && decide (attrField a 18 1 = ts.length) &&
  (ts.zipIdx).all (fun x => decide (attrField a (20 + 5 * x.2) 2 = x.1.off) && decide (attrField a (22 + 5 * x.2) 2 = x.1.len) &&
    decide (attrField a (24 + 5 * x.2) 1 % 16 = bit (s.turnShared r x.1.index) * 8 + s.fld (F.ROUNDS_TURN_W1_OWNER r x.1.index)))

/-- Peer m is enabled: its entry has EN, and it is not the device itself (R317). -/
def State.peerOn (s : State) (r m : Nat) : Bool :=
  s.flag (F.ROUNDS_PEER_W1_EN r m) && decide (m ≠ s.fld (F.ROUNDS_JOINT_CTRL_MEMBER r))

/-- The peer advertises the device's plan. -/
def State.peerAgrees (s : State) (r : Nat) (p : PeerSt) : Bool := p.attr.any (s.samePlan r)

/-- Bring PEER_STATUS up to date (R317). -/
def State.syncPeers (s : State) (r : Nat) : State :=
  let x := s.rnd r
  let mask := fun (f : PeerSt → Bool) => ((List.range 8).map (fun m => match sget (fun _ => none) x.peers m with
    | some p => if s.peerOn r m && f p then 2 ^ m else 0
    | none => 0)).foldl (· + ·) 0
  ((s.setFld (F.ROUNDS_PEER_STATUS_SEEN r) (mask (fun p => decide (x.count < p.heard + s.fld (F.ROUNDS_JOINT_HOLD_PEER_TO r))))).setFld
    (F.ROUNDS_PEER_STATUS_GEN_OK r) (mask (s.peerAgrees r))).setFld (F.ROUNDS_PEER_STATUS_HOLD r)
      (mask (fun p => p.attr.any (fun a => (BitVec.ofNat 8 (attrField a 1 1)).getLsbD 3)))

/-- PEER_BEACON_RX (R312, R315): a beacon of an enabled peer, with its joint-round attribute or none. -/
def execPeerBeaconRx (radio : Fin 3) (bssid : List Byte) (attr : Option (List Byte)) (s : State) :
    Host.Outcome State Fault Refusal :=
  let r := radio.val
  match (List.range 8).find? (fun m => s.peerOn r m && decide (bssid =
    leBytes 4 (s.fld (F.ROUNDS_PEER_W0_BSSID_LO r m)) ++ leBytes 2 (s.fld (F.ROUNDS_PEER_W1_BSSID_HI r m)))) with
  | none => .next s
  | some m =>
    if ¬ s.takesWork roundsBlock then .next s
    else
      let a := attr.getD []
      let p : PeerSt := { heard := (s.rnd r).count, attr := attr }
      let s1 := (s.modRnd r (fun x => { x with peers := sput (fun _ => none) x.peers m (some p) })).syncPeers r
      if jointJoint ≤ s.joint r ∧ (attr = none ∨ attrField a 0 1 ≠ s.fld (F.ROUNDS_JOINT_CTRL_GEN r)) then .next (s1.leaveJoint r 3 true)
      else .next s1

/-! ### Boundaries (R289 to R291, R310, R312) -/

/-- Nanoseconds of the selected domain now. -/
def State.selNanos (s : State) : Nat := (s.dom s.selected).nanos

/-- Scheduled time of joint round k, in nanoseconds (R310). -/
def State.epochNanos (s : State) (r k : Nat) : Nat :=
  (s.fld (F.ROUNDS_EPOCH_SEC_HI_SEC r) * 2 ^ 32 + s.fld (F.ROUNDS_EPOCH_SEC_LO_SEC r)) * nsPerSec +
    s.fld (F.ROUNDS_EPOCH_NS_NS r) + k * s.roundUs r * 1000

/-- Arm the next boundary of radio r on channel r, one-shot, bound to LOCAL (R289). -/
def State.armBoundary (s : State) (r t : Nat) : State := s.armTrigger r 3 4 t 0

/-- Enter HOLD (R312). -/
def State.enterHold (s : State) (r : Nat) : State :=
  if s.joint r = jointHold then s
  else ((s.setJoint r jointHold).count (C.ROUNDS_JOINT_HOLDS r)).modRnd r (fun x => { x with holdRounds := 0 })

/-- An enabled peer has not been heard for PEER_TO rounds (R312). -/
def State.peerLost (s : State) (r : Nat) : Bool :=
  (List.range 8).any (fun m => s.peerOn r m && match sget (fun _ => none) (s.rnd r).peers m with
    | some p => decide (p.heard + s.fld (F.ROUNDS_JOINT_HOLD_PEER_TO r) ≤ (s.rnd r).count)
    | none => decide (s.fld (F.ROUNDS_JOINT_HOLD_PEER_TO r) ≤ (s.rnd r).count))

/-- Every enabled peer advertises the same plan, and the selected domain is valid (R312). -/
def State.agreed (s : State) (r : Nat) : Bool :=
  s.domValid s.selected && (List.range 8).all (fun m => !s.peerOn r m ||
    match sget (fun _ => none) (s.rnd r).peers m with
    | some p => s.peerAgrees r p
    | none => false)

/-- The boundary error e in nanoseconds (R310). -/
def State.boundaryError (s : State) (r : Nat) : Int :=
  (s.selNanos : Int) - s.epochNanos r (s.fld (F.ROUNDS_ROUND_NUM_NUM r))

/-- The joint state machine at a boundary of JOINT or HOLD, with boundary error e (R312). -/
def State.evalJoint (s : State) (r : Nat) (e : Int) : State :=
  let guard : Int := s.fld (F.ROUNDS_JOINT_CFG_GUARD_NS r)
  let margin : Int := s.fld (F.ROUNDS_JOINT_HOLD_HOLD_MARGIN_US r) * 1000 + guard
  let ok := s.domValid s.selected
  if margin < e.natAbs then s.leaveJoint r 5 true
  else if s.peerLost r then s.leaveJoint r 2 true
  else if s.joint r = jointJoint then (if ¬ ok ∨ guard < e.natAbs then s.enterHold r else s)
  else if ok ∧ (e.natAbs : Int) ≤ guard then s.setJoint r jointJoint
  else
    let n := (s.rnd r).holdRounds + 1
    if s.fld (F.ROUNDS_JOINT_HOLD_HOLD_MAX r) ≤ n then s.leaveJoint r 4 true
    else s.modRnd r (fun x => { x with holdRounds := n })

/-- Ticks by which the next boundary and the TSF are corrected: −e clamped to ±SLEW_NS, towards zero to a whole tick of
2 ns (R310). -/
def State.slewTicks (s : State) (r : Nat) (e : Int) : Int :=
  let m : Int := s.fld (F.ROUNDS_JOINT_CFG_SLEW_NS r)
  (clampInt (-m) m (-e)).tdiv 2

/-- A boundary of JOINING (R312): at the boundary one round before START_ROUND, the boundary of START_ROUND is armed from
the epoch, from which turns apply, or JOIN fails. `t` is the boundary's count; answers the next one. -/
def State.joiningBoundary (s : State) (r t : Nat) : Nat × State :=
  let next := t + s.roundUs r * Config.ticksPerUs
  let left : Int := (s.epochNanos r (s.fld (F.ROUNDS_START_ROUND_ROUND r)) : Int) - s.selNanos
  if left ≤ s.roundUs r * 1000 then
    (if 0 < left ∧ s.agreed r then (t + left.toNat / 2, (s.setJoint r jointJoint).modRnd r (fun x => { x with armed := true }))
     else (next, s.leaveJoint r 1 false))
  else (next, s)

/-- The boundary of START_ROUND has come: turns apply, and rounds are counted from EPOCH (R312, R316). -/
def State.startJoint (s : State) (r : Nat) : State :=
  if jointJoint ≤ s.joint r ∧ (s.rnd r).armed then
    (s.setFld (F.ROUNDS_ROUND_NUM_NUM r) (s.fld (F.ROUNDS_START_ROUND_ROUND r))).modRnd r
      (fun x => { x with armed := false })
  else s

/-- A pending swap takes effect at a boundary at least 5 µs after its check ended (R294). -/
def State.takeSwap (s : State) (r : Nat) : State :=
  match (s.rnd r).passed with
  | some t =>
    if t + 5 * Config.ticksPerUs ≤ s.now then
      ((s.setFld (F.ROUNDS_RCFG_BANK r) (1 - s.planBank r)).setFld (F.ROUNDS_PLAN_STATUS_RESULT r) 2).modRnd r
        (fun x => { x with passed := none })
    else s
  | none => s

/-- A boundary of radio r, scheduled at local count t (R289 to R291, R309, R310, R312). The TSF takes the correction that moved
this boundary. In Watch, and then until the radio has finished its start, no round begins. -/
def State.roundBoundary (s : State) (r t : Nat) (late : Bool) : State :=
  if s.inWatch ∨ ((s.rnd r).halted ∧ ¬ s.radioStarted r) then
    (s.modRnd r (fun x => { x with halted := true, boundary := t, ran := [], free := [] })).armBoundary r
      (t + s.roundUs r * Config.ticksPerUs)
  else
  let s0 := s.modRnd r (fun x => { x with tsfAdj := x.tsfAdj - x.slew, slew := 0, halted := false })
  let s1 := s0.setFld (F.ROUNDS_ROUND_NUM_NUM r) (s.fld (F.ROUNDS_ROUND_NUM_NUM r) + 1)
  let s2 := (s1.wr64 (A.ROUNDS_ROUND_TSF_LO r) (A.ROUNDS_ROUND_TSF_HI r) (s1.tsf r)).count (C.ROUNDS_ROUNDS_RUN r)
  let s3 := if late then s2.count (C.ROUNDS_BOUNDARY_LATE r) else s2
  let s4 := (s3.modRnd r (fun x => { x with boundary := t, ran := [], free := [], count := x.count + 1 })).takeSwap r
  let s5 := (if (s4.rnd r).leaving then s4.leaveJoint r 6 false else s4).startJoint r
  let len := s.roundUs r * Config.ticksPerUs
  let quiet := fun (u : State) => if u.inTurns r then
      u.count (C.ROUNDS_AIR_QUIET_US r) ((((u.turns r).filter (fun x => u.turnOther r x.index)).map (fun x => x.len)).foldl (· + ·) 0)
    else u
  if s5.joint r = jointJoining then
    let (next, s6) := s5.joiningBoundary r t
    (s6.armBoundary r next).syncPeers r
  else if s5.inTurns r then
    let e := s5.boundaryError r
    let s6 := (s5.setFld (F.ROUNDS_JOINT_ERR_E_NS r) (unsgn 32 (clampInt (-2147483648) 2147483647 e))).evalJoint r e
    let c := if s6.inTurns r ∧ s6.domValid s6.selected then s6.slewTicks r e else 0
    quiet (((s6.armBoundary r ((t : Int) + len + c).toNat).modRnd r (fun x => { x with slew := c })).syncPeers r)
  else (s5.armBoundary r (t + len)).syncPeers r

/-- A write of RCFG has set or cleared EN (R289): the first boundary follows one round later; clearing EN ends the
rounds. -/
def State.roundsStart (s : State) (r : Nat) (was : Bool) : State :=
  let now := s.flag (F.ROUNDS_RCFG_EN r)
  if now ∧ ¬ was then
    (s.modRnd r (fun x => { x with
      boundary := s.now, count := 0, ran := [], free := [], slew := 0
      peers := x.peers.map (fun e => (e.1, e.2.map (fun p => { p with heard := 0 }))) })).armBoundary r
      (s.now + s.roundUs r * Config.ticksPerUs)
  else if was ∧ ¬ now then s.setFld (F.POSTMARK_TRG_CTRL_EN r) 0
  else s

/-- ROUNDS acts on a switch of the selected domain by Δ nanoseconds (R312, R314). -/
def State.roundsSwitch (s : State) (delta : Int) : State :=
  [0, 1, 2].foldl (fun t r =>
    if t.joint r = jointJoint ∧ t.fld (F.ROUNDS_JOINT_CFG_GUARD_NS r) < delta.natAbs then t.enterHold r else t) s

/-- The selected domain may have become invalid: a JOINT radio enters HOLD, unless the device switches to the other domain
by itself (R264, R312). -/
def State.roundsDomain (s : State) : State :=
  if s.domValid s.selected ∨ (s.flag F.POSTMARK_SEL_AUTO ∧ s.domValid (1 - s.selected)) then s
  else [0, 1, 2].foldl (fun t r => if t.joint r = jointJoint then t.enterHold r else t) s

end Sys2Proof.Machine
end

