-- ==== Sys2Proof/Machine/Radio.lean ====
section
/-! DEFINITION. The meanings of the radio commands: tuning, calibration, transmission, doze
(spec/04_radio_front_ends.md R144 to R177, spec/08 R306 to R309, spec/09 R341, R342, R347, R348, spec/14 R511). -/

namespace Sys2Proof.Machine

/-- Radio r abandons its reception. -/
def State.dropAny (s : State) (r : Nat) : State := if r = 3 then s.ngDrop else s.dropRx r

/-- Links of a flow, by number 0 or 1, that run on radio r. -/
def State.flowLinksOn (s : State) (f r : Nat) : List Nat :=
  (List.range 2).filter (fun k => decide (s.linkRadio (s.flowSta f) (s.flowLink f k) = r))

/-- Flows that satisfy a test lose their links on radio r (R511). -/
def State.flowsLose (s : State) (r why : Nat) (p : Nat → Bool) : State :=
  if r = 3 then s
  else (allFlows.filter (fun f => s.flowLive f && p f)).foldl (fun t f => t.flowLoses f (s.flowLinksOn f r) why) s

/-! ### Tuning (R145 to R149) -/

/-- A legal word of SYNTH of radio r (R144, R169, R348). -/
def synthLegal (r : Nat) (v : Word) : Bool :=
  if r = 3 then ngChannel (getBits v 25 2) (getBits v 0 25) else wlanChannel r (getBits v 16 3) (getBits v 0 13)

/-- The bits of SYNTH that radio r holds. -/
def synthMask (r : Nat) : Word := if r = 3 then 0x07FFFFFF else 0x00071FFF

/-- A write of SYNTH (R146, R169, R348, R511). -/
def State.synthWrite (s : State) (r : Nat) (v : Word) : State :=
  let a := A.RADIO_SYNTH r
  if ¬ synthLegal r v then s.refuse a .cfgRange
  else
    let wide := decide (s.synthBw r ≠ (if r = 3 then getBits v 25 2 else getBits v 16 3))
    let s1 := s.wr a (v &&& synthMask r)
    let s2 := if (s.radio r).seq = .off then s1 else s1.modRadio r (fun x => { x with retune := true })
    let s3 := if r = 3 then (if s2.ngr.rx.any (fun x => x.hdr.isNone) then s2.ngDrop else s2)
      else if (s2.radio r).rx.any (fun x => !x.hdrOk) then s2.dropRx r else s2
    if wide then s3.flowsLose r 3 (fun _ => true) else s3

/-- SYNTH_WRITE (R146, R169, R348). -/
def execSynthWrite (radio : Fin 4) (value : Word) (s : State) : Host.Outcome State Fault Refusal :=
  .next (s.ownWrite (A.RADIO_SYNTH radio.val) (.synthWrite radio value) (fun s => s.synthWrite radio.val value))

/-- RETUNE_START (R145, R146): a retune begins once no exchange is on air; its oscillator calibration runs at once. -/
def execRetuneStart (radio : Fin 4) (s : State) : Host.Outcome State Fault Refusal :=
  s.whenWorks (radioBlock radio.val) <|
  let r := radio.val
  let q := (s.radio r).seq
  if (s.radio r).retune ∧ ¬ s.exchangeOn r ∧ (q = .running ∨ q = .retuning ∨ q = .relocking) then
    .next (((((s.dropAny r).setFld (F.RADIO_SYNTH_STATUS_RETUNING r) 1).setFld (F.RADIO_SYNTH_STATUS_CAL_BUSY r) 1).setFld
      (F.RADIO_SYNTH_STATUS_LOCK r) 0).modRadio r (fun x => { x with seq := .retuning, retune := false }))
  else .next s

/-- The centre has moved by more than 100 MHz since the last image-rejection calibration (R146). -/
def State.farMove (s : State) (r : Nat) : Bool :=
  decide (100 < s.synthCentre r - (s.radio r).imgCentre ∨ 100 < (s.radio r).imgCentre - s.synthCentre r)

/-- RETUNE_DONE (R146 to R148, R151): lock and the calibrations that the move asks for are complete. -/
def execRetuneDone (radio : Fin 4) (temp : BitVec 8) (results : List (CalResult × CalResult)) (s : State) :
    Host.Outcome State Fault Refusal :=
  s.whenWorks (radioBlock radio.val) <|
  let r := radio.val
  let q := (s.radio r).seq
  if (q = .retuning ∨ q = .relocking) ∧ ¬ (s.radio r).retune then
    let wider := decide (s.synthBw r ≠ (s.radio r).tunedBw)
    let s1 := if q = .relocking then s
      else s.calResults r ⟨wider, decide (r ≠ 3), decide (r ≠ 3) && s.farMove r⟩ temp.toNat results
    .next ((((s1.setFld (F.RADIO_SYNTH_STATUS_RETUNING r) 0).setFld (F.RADIO_SYNTH_STATUS_CAL_BUSY r) 0).setFld
      (F.RADIO_SYNTH_STATUS_LOCK r) 1).modRadio r (fun x => { x with seq := .running, tunedBw := s.synthBw r }))
  else .next s

/-- MPDUs of a command, each with the link on which it goes. -/
def State.cmdMpdus (s : State) (c : AirCmd) : List (TxMpdu × Nat) :=
  (c.mpdus.filterMap s.mpdu).map (fun m =>
    (m, c.kind.linkOf m.req.sta))

/-- The transmission on air is cut: its MPDUs have used an attempt (R147, R228, R669). -/
def State.cutAir (s : State) (r : Nat) : State :=
  match (s.radio r).air with
  | some x =>
    if s.now < x.t1 then
      let s1 := s.modRadio r (fun y => { y with air := none })
      if r = 3 then s1
      else ((s1.cmdMpdus x.cmd).foldl (fun t m => t.mpduFailed m.2 m.1) s1).admitWaiting
    else s
  | none => s

/-- RF_UNLOCK (R147, R228): lock is lost while the radio is in use; every strobe of the radio drops with its transmission. -/
def execRfUnlock (radio : Fin 4) (s : State) : Host.Outcome State Fault Refusal :=
  s.whenWorks (radioBlock radio.val) <|
  let r := radio.val
  if (s.radio r).seq ≠ .running ∨ ¬ s.flag (F.RADIO_SYNTH_STATUS_LOCK r) then .next s
  else
    let s1 := if s.onAir r then (s.cutAir r).count (C.RADIO_TX_UNLOCK r) else s
    .next (((((s1.dropAny r).setFld (F.RADIO_SYNTH_STATUS_LOCK r) 0).setFld (F.RADIO_SYNTH_STATUS_CAL_BUSY r) 1).modRadio r
      (fun x => { x with seq := .relocking, air := none })).present 0x10 r)

/-- RADIO_START (R149): the radio's island is powered, and its start sequence runs. -/
def execRadioStart (radio : Fin 4) (s : State) : Host.Outcome State Fault Refusal :=
  let r := radio.val
  let q := (s.radio r).seq
  let allowed := !s.inWatch || decide (r = s.fld F.PMU_WATCH_CFG_RADIO) || (decide (r = 3) && s.flag F.PMU_WATCH_CFG_NGUORD)
  if (q = .off ∨ (q = .running ∧ ¬ s.flag (F.RADIO_SYNTH_STATUS_LOCK r))) ∧ allowed ∧ s.takesWork (radioBlock r) then
    .next (((s.setFld (F.RADIO_CAL_STATUS_BUSY r) 1).setFld (F.RADIO_SYNTH_STATUS_CAL_BUSY r) 1).modRadio r
      (fun x => { x with seq := .starting }))
  else .next s

/-! ### Calibration (R148 to R152) -/

/-- CAL_DONE (R148, R149, R151, R152): the start sequence or full calibration is complete; it has not run while the radio was
still sending. -/
def execCalDone (radio : Fin 4) (temp : BitVec 8) (results : List (CalResult × CalResult)) (s : State) :
    Host.Outcome State Fault Refusal :=
  s.whenWorks (radioBlock radio.val) <|
  let r := radio.val
  let q := (s.radio r).seq
  if (q = .starting ∨ q = .calibrating) ∧ ¬ s.strobing r then
    let s1 := s.calResults r CalRun.all temp.toNat results
    .next ((((s1.setFld (F.RADIO_CAL_STATUS_BUSY r) 0).setFld (F.RADIO_SYNTH_STATUS_CAL_BUSY r) 0).setFld
      (F.RADIO_SYNTH_STATUS_LOCK r) 1).modRadio r
      (fun x => { x with seq := .running, tunedBw := if x.retune then x.tunedBw else s.synthBw r }))
  else .next s

/-- A full calibration begins (R148, R171): the radio drops its reception and takes nothing more; a transmission on air runs to
its end first (R163). -/
def State.calFull (s : State) (r : Nat) : State :=
  (((s.dropAny r).setFld (F.RADIO_CAL_STATUS_BUSY r) 1).setFld (F.RADIO_SYNTH_STATUS_CAL_BUSY r) 1).modRadio r
    (fun x => { x with seq := .calibrating })

/-- CAL_CMD_FULL (R171): refused while a calibration runs; a radio that has not started has nothing to calibrate. -/
def execCalCmdFull (radio : Fin 4) (s : State) : Host.Outcome State Fault Refusal :=
  let r := radio.val
  .next (s.ownWrite (A.RADIO_CAL_CMD r) (.calCmdFull radio) (fun s =>
    if s.flag (F.RADIO_SYNTH_STATUS_CAL_BUSY r) then s.refuse (A.RADIO_CAL_CMD r) .cfgRange
    else if (s.radio r).seq = .off then s
    else s.calFull r))

/-- Distance of two temperatures. -/
def tempStep (a b : Nat) : Nat := (sgn 8 a - sgn 8 b).natAbs

/-- CAL_DUE (R150): the temperature has moved by TEMP_STEP, and 1 s has passed since the last tracking calibration. -/
def execCalDue (radio : Fin 4) (temp : BitVec 8) (s : State) : Host.Outcome State Fault Refusal :=
  s.whenWorks (radioBlock radio.val) <|
  let r := radio.val
  if s.flag (F.RADIO_CAL_CFG_TRACK_EN r) ∧ (s.radio r).seq = .running ∧ ¬ s.flag (F.RADIO_CAL_STATUS_DUE r) ∧
      s.fld (F.RADIO_CAL_CFG_TEMP_STEP r) ≤ tempStep temp.toNat (s.fld (F.RADIO_CAL_STATUS_LAST_TEMP r)) ∧
      (∀ t ∈ (s.radio r).lastTrack, t + msTicks 1000 ≤ s.now) then
    .next ((s.setFld (F.RADIO_CAL_STATUS_DUE r) 1).modRadio r (fun x => { x with dueSince := s.now, overdue := false }))
  else .next s

/-- ROUNDS plans a gap for a calibration of radio r now (R309). -/
def State.wlanCalGap (s : State) (r : Nat) : Bool :=
  match s.quietNow r with
  | some w => decide (300 ≤ w.len) && decide (s.roundPos r + 270 ≤ w.stop)
  | none => false

/-- CAL_TRACK (R150, R309, R370): the due tracking calibration runs in a planned gap. -/
def execCalTrack (radio : Fin 4) (temp : BitVec 8) (results : List (CalResult × CalResult)) (s : State) :
    Host.Outcome State Fault Refusal :=
  s.whenWorks (radioBlock radio.val) <|
  let r := radio.val
  let gap := if r = 3 then s.ngCalGap else s.wlanCalGap r
  if s.radioRuns r ∧ ¬ s.strobing r ∧ s.flag (F.RADIO_CAL_STATUS_DUE r) ∧ gap then
    .next ((s.dropAny r).trackDone r temp.toNat results)
  else .next s

/-- RF_CAL_OVERDUE (R150): the calibration has been due for DEFER_MS. -/
def execRfCalOverdue (radio : Fin 4) (s : State) : Host.Outcome State Fault Refusal :=
  s.whenWorks (radioBlock radio.val) <|
  let r := radio.val
  let x := s.radio r
  if s.flag (F.RADIO_CAL_STATUS_DUE r) ∧ ¬ x.overdue ∧ x.dueSince + msTicks (s.fld (F.RADIO_CAL_CFG_DEFER_MS r)) ≤ s.now then
    .next (((s.setFld (F.RADIO_CAL_STATUS_OVERDUE r) 1).modRadio r (fun y => { y with overdue := true })).present 0x11 r)
  else .next s

/-- A write of CHAIN_EN (R152, R170, R511). -/
def State.chainEnWrite (s : State) (r : Nat) (v : Word) : State :=
  let a := A.RADIO_CHAIN_EN r
  let n := getBits v 0 8
  if 2 ^ chainCount r ≤ n then s.refuse a .cfgRange
  else if n = 0 then s.refuse a .zeroLength
  else
    let s1 := s.wr a (BitVec.ofNat 32 n)
    let s2 := if r = 2 then s1.evalEvm else s1
    s2.flowsLose r 2 (fun f => decide (popCount 8 n < getBits (s.flowWord f 5) 25 3 + 1))

/-- CHAIN_EN_WRITE (R151, R152, R170). -/
def execChainEnWrite (radio : Fin 3) (value : Word) (s : State) : Host.Outcome State Fault Refusal :=
  .next (s.ownWrite (A.RADIO_CHAIN_EN radio.val) (.chainEnWrite radio value) (fun s => s.chainEnWrite radio.val value))

/-! ### Transmission (R158 to R164, R227, R228, R341, R342) -/

/-- A command leaves the queue of its radio. -/
def State.takeCmd (s : State) (r : Nat) (c : AirCmd) : State := s.modRadio r (fun x => { x with cmds := x.cmds.erase c })

/-- A1 and A2 of an MPDU on a link (R222): the peer's link address and the BSSID; a group address and the BSSID. -/
def State.airAddrs (s : State) (m : TxMpdu) (l : Nat) : List Byte × List Byte :=
  if m.req.sta = 0 then (m.req.frame.take 6, s.bssid m.req.bss)
  else (linkAddr (s.ctxWords m.req.sta) l, s.bssid (linkBss (s.ctxWords m.req.sta) l))

/-- An MPDU that draws no acknowledgement is complete once it is on air (R227, R247). -/
def TxMpdu.unanswered (m : TxMpdu) : Bool := m.req.noAck || decide (m.req.sta = 0)

/-- One MPDU goes on air on a link, with that link's addresses (R222, R225, R227, R504, R256). A timed one completes no earlier than
its timestamp is taken. -/
def State.mpduStarts (s : State) (x : TxMpdu × Nat) : State :=
  let (m, l) := x
  let s1 := s.count C.WMAC_TX_MPDU
  let s2 := if m.attempts = 0 then s1 else s1.count C.WMAC_TX_RETRY
  let m1 := { m with attempts := m.attempts + 1, link := l, sent := m.sent ++ [l], addrs := s.airAddrs m l }
  let s3 := s2.modMpdu m.id (fun _ => m1)
  let s4 := match m.req.reg with
    | some (f, n) =>
      match s3.flowLinkOf f l with
      | some k => s3.airStart f n k
      | none => s3
    | none => s3
  if m.unanswered ∧ ¬ m.req.timed then s4.completeMpdu m1 stTxOk false else s4

/-- The first sample of radio r's transmission leaves (R216, R275): a beacon takes the TSF, timed MPDUs their timestamps. -/
def State.airBegins (s : State) (r : Nat) : State :=
  match (s.radio r).air with
  | none => s
  | some a =>
    if a.begun ∨ s.now < a.t0 then s
    else
      let kind := match a.cmd.kind with
        | .beacon b f => .beacon b { f with timestamp := s.tsf r }
        | k => k
      let s1 := s.modRadio r (fun x => { x with air := some { a with begun := true, cmd := { a.cmd with kind := kind } } })
      ((s1.cmdMpdus a.cmd).filter (fun x => x.1.req.timed)).foldl (fun t x =>
        let m := { x.1 with stamp := t.tsWords }
        if m.unanswered then t.completeMpdu m stTxOk false else t.modMpdu m.id (fun _ => m)) s1

/-- The airtime of an occurrence, for an exchange that starts at local count t0 (R306). -/
def State.chargeRsp (s : State) (r t0 ticks : Nat) : State :=
  match s.rspAt r t0 with
  | some (_, x) => s.modRounds (fun y => { y with
      rsps := y.rsps.map (fun z => if z.index = x.index then { z with air := z.air + ticks } else z) })
  | none => s

/-- The strobes of radio r have begun: a reception that is not over is lost; on the Nguord radio it is counted (R158, R341). -/
def State.deafen (s : State) (r : Nat) : State :=
  if ¬ s.strobing r then s
  else if r = 3 then (if s.ngRxNow.isSome then (s.count C.NGR_RX_PREEMPTED).ngDrop else s)
  else if (s.rxActive r).isSome then s.dropRx r
  else s

/-- After a beacon in Watch the radio listens for LISTEN time units (R68). -/
def State.watchListens (s : State) (k : AirKind) (t1 : Nat) : State :=
  match k with
  | .beacon _ _ =>
    if s.inWatch then
      { s with power := { s.power with
          listenUntil := some (BitVec.ofNat 64 (t1 + s.fld F.PMU_WATCH_CFG_LISTEN * 1024 * Config.ticksPerUs)) } }
    else s
  | _ => s

/-- Trigger frames of ROUNDS count as they are sent (R323). -/
def State.countTrigger (s : State) (r : Nat) (k : AirKind) : State :=
  match k with
  | .trigger _ _ _ | .bfPoll _ => s.count (C.ROUNDS_TRIG_SENT r)
  | _ => s

/-- The exchange of a command with its users is under way from t0 to `stop` (R230): an initial control frame only asks for it. -/
def State.usersServed (s : State) (k : AirKind) (stop : Nat) : State :=
  match k with
  | .muRts _ => s
  | k => s.emlsrLock k.users stop

/-- A command starts: the strobes of R158 run with its first sample at t0 (R163), in the coding of R179. -/
def State.txStart (s : State) (r : Nat) (c : AirCmd) (t0 dur : Nat) (rate : Option TxRate) : State :=
  let s1 := ((s.takeCmd r c).modRadio r (fun x => { x with
    air := some { cmd := c, t0 := t0, t1 := t0 + dur, stop := t0 + dur + c.resp
                  coding := (rate.bind (fun t => codingOf (c.kind.tones t) t)).getD .plain }
    chains := s.chainMask r })).deafen r
  if r = 3 then s1.ngAirStart c.kind t0 (t0 + dur)
  else
    let s2 := (s1.count (C.ROUNDS_AIR_OWN_US r) (divRound dur Config.ticksPerUs)).chargeRsp r t0 (dur + c.resp)
    let s3 := if rate.any (fun t => decide (t.fmt = .vmode)) then s2.count (C.RADIO_VEXT_TX r) else s2
    let s4 := ((s3.usersServed c.kind (t0 + dur + c.resp)).watchListens c.kind (t0 + dur)).countTrigger r c.kind
    ((s4.cmdMpdus c).foldl (fun t x => t.mpduStarts x) s4).admitWaiting

/-- A command of WMAC or ROUNDS is not sent: its MPDUs return unbound, its BlockAckReq is owed again, and no exchange with its users
is open (R228, R230). -/
def State.txOff (s : State) (r : Nat) (c : AirCmd) : State := (s.withdraw r c).closeUsers c.kind.users

/-- A timed command is late (R163, R228, R345): counted; no attempt is consumed. -/
def State.txLate (s : State) (r : Nat) (c : AirCmd) : State :=
  let s1 := s.count (C.RADIO_TX_LATE r)
  if r = 3 then (s1.takeCmd r c).ngAirLate c.kind else s1.txOff r c

/-- No rate of a command passes (R160, R178, R228): its MPDUs complete `TX_CAP` or `TX_FORMAT`; a registered one waits
for a later attempt. -/
def State.txRefused (s : State) (r : Nat) (c : AirCmd) (cap : Bool) : State :=
  (s.cmdMpdus c).foldl (fun t x =>
    if x.1.req.reg.isSome then t.modMpdu x.1.id (fun m => m.unbind x.2)
    else t.completeMpdu x.1 (if cap then stTxCap else stTxFormat) false) ((s.takeCmd r c).closeUsers c.kind.users)

/-- Offer the rates of a command that starts at t0 in order (R160, R162, R178, R228): each one over its cap counts; answers the rate
that passes, whether a cap has refused one, and the state. -/
def State.offerRates (s : State) (r t0 : Nat) (c : AirCmd) : List TxRate → Bool → Option TxRate × Bool × State
  | [], cap => (none, cap, s)
  | t :: rest, cap =>
    if ¬ s.formatOk r c.kind.sta c.kind t then State.offerRates s r t0 c rest cap
    else if s.powerOk r t c.red (s.srCap r t0) then (some t, cap, s)
    else State.offerRates (s.count (C.RADIO_TX_CAP r)) r t0 c rest true

/-- The initial control frame that goes before a command (R230): an MU-RTS trigger, padded for the slowest of its peers; they answer
with a CTS of 28 µs. -/
def State.icfCmd (s : State) (r : Nat) (c : AirCmd) : AirCmd :=
  { kind := .muRts c.icf, timed := none, resp := sifsOf r + 28 * Config.ticksPerUs
    rates := [{ controlRate false with dur := BitVec.ofNat 24 (s.icfTicks r c.icf - 28 * Config.ticksPerUs - 2 * sifsOf r) }] }

/-- The initial control frame of a command starts at t0, and the command follows a SIFS after its answer (R230). -/
def State.icfStart (s : State) (r : Nat) (c : AirCmd) (t0 : Nat) (rate : TxRate) : State :=
  ((s.takeCmd r c).queueCmd r { c with icf := [], timed := some (t0 + s.icfTicks r c.icf, 200) }).txStart r (s.icfCmd r c) t0 rate.dur.toNat (some rate)

/-- A command starts at t0, behind its initial control frame where it has one, or falls to the checks of R160, R178 and R342. -/
def State.txGo (s : State) (r : Nat) (c : AirCmd) (t0 : Nat) : State :=
  if r = 3 then
    (if c.dbm < -10 then (s.takeCmd 3 c).ngAirCap c.kind else s.txStart 3 c t0 c.dur none)
  else if c.icf ≠ [] then
    match s.offerRates r t0 (s.icfCmd r c) (s.icfCmd r c).rates false with
    | (some t, _, s1) => s1.icfStart r c t0 t
    | (none, cap, s1) => s1.txRefused r c cap
  else
    match s.offerRates r t0 c c.rates false with
    | (some t, _, s1) => s1.txStart r c t0 (max t.dur.toNat c.fill) (some t)
    | (none, cap, s1) => s1.txRefused r c cap

/-- The registered flow whose frames a command carries. -/
def State.cmdFlow (s : State) (c : AirCmd) : Option Nat :=
  c.mpdus.findSome? (fun i => (s.mpdu i).bind (fun m => m.req.reg.map Prod.fst))

/-- Users of a command that transmit to the device on the other link of an NSTR pair (R229). -/
def State.nstrHeld (s : State) (c : AirCmd) : List (Nat × Nat) := c.kind.users.filter (fun u => s.nstrBusy u.1 u.2)

/-- What of a timed command may start at t0 (R229, R292, R293, R306, R311): without the users that NSTR holds back, at the rates at
which its exchange ends in time; nothing where none is left. -/
def State.txAllowed (s : State) (r : Nat) (c : AirCmd) (t0 : Nat) : Option AirCmd :=
  (if s.nstrHeld c = [] then some c else s.usersLeft c (s.nstrHeld c)).bind (fun d =>
    let icf := if d.icf = [] then 0 else s.icfTicks r d.icf
    let rs := d.rates.filter (fun t =>
      s.schedFits r t0 (t0 + icf + max t.dur.toNat d.fill + d.resp) (s.cmdFlow d) (!d.kind.isData))
    if rs = [] then none else some { d with rates := rs })

/-- A timed command goes, or what of it may; one of which nothing may go is withdrawn (notes/assumptions/107.md). -/
def State.txTimed (s : State) (r : Nat) (c : AirCmd) (t0 : Nat) : State :=
  if r = 3 then s.txGo r c t0
  else
    match s.txAllowed r c t0 with
    | none => s.txOff r c
    | some d =>
      let s1 := if s.nstrHeld c = [] then s else s.usersLeave r c (s.nstrHeld c)
      (s1.modRadio r (fun x => { x with cmds := d :: x.cmds.erase { d with rates := c.rates } })).txGo r d t0

/-- The timed command of radio r with the earliest start time, with that time and its tolerance (R163). -/
def State.nextTimed (s : State) (r : Nat) : Option (AirCmd × Nat × Nat) :=
  (s.radio r).cmds.foldl (fun b c => match c.timed, b with
    | none, _ => b
    | some t, none => some (c, t)
    | some t, some d => if t.1 < d.2.1 then some (c, t) else b) none

/-- TX_READY (R146, R163, R228, R341, R682): the radio decides on its timed command with the earliest start time; at a stopped
radio a command whose tolerance has passed is late. While a retune waits, a command outside the exchange on air waits for it. -/
def execTxReady (radio : Fin 4) (s : State) : Host.Outcome State Fault Refusal :=
  let r := radio.val
  match s.nextTimed r with
  | none => .next s
  | some (c, t, tol) =>
    if ¬ s.radioReady r ∨ ((s.radio r).retune ∧ s.exchangeEnd r ≤ t) then (if s.takesWork (radioBlock r) ∨ s.now ≤ t + tol then .next s else .next (s.txLate r c))
    else
      let start := max t (s.now + s.swLead r)
      if t + tol < start then .next (s.txLate r c) else .next (s.txTimed r c start)

/-- The medium is busy for WLAN radio r (R178, R186, R187): it receives, a header holds the medium, or the energy is at
ED_LEVEL or above. -/
def State.mediumBusy (s : State) (r : Nat) (energy : Byte) : Bool :=
  (s.rxActive r).isSome || decide (s.now < (s.radio r).busyUntil) ||
    decide (sgn 8 (s.fld (F.RADIO_DET_CFG_ED_LEVEL r)) ≤ energy.toInt)

/-- TX_UNTIMED_READY (R164, R186, R293, R296, R341): a command without a start time has the medium, on which the radio
measures `energy`. -/
def execTxUntimedReady (radio : Fin 4) (energy : BitVec 8) (s : State) : Host.Outcome State Fault Refusal :=
  let r := radio.val
  match (s.radio r).cmds.find? (fun c => c.timed.isNone) with
  | none => .next s
  | some c =>
    let icf := if c.icf = [] then 0 else s.icfTicks r c.icf
    let longest := icf + ((c.rates.map (fun t => t.dur.toNat)).foldl max (max c.dur c.fill)) + c.resp
    if ¬ s.radioReady r ∨ (s.radio r).retune ∨ s.now < c.after ∨ (r = 3 ∧ s.ngRxNow.isSome) ∨ (r ≠ 3 ∧ (s.mediumBusy r energy ∨ s.nstrHeld c ≠ [])) ∨
        ((s.cmdFlow c).isNone ∧ ¬ s.contentionFits r (s.swLead r + longest)) then .next s
    else .next (s.txGo r c (s.now + s.swLead r))

/-! ### Doze (R65, R66, R308) -/

/-- A timed command of radio r starts before µs `stop` of the round (R308). -/
def State.scheduledBefore (s : State) (r stop : Nat) : Bool :=
  (s.radio r).cmds.any (fun c => c.timed.any (fun t => decide (t.1 < (s.rnd r).boundary + stop * Config.ticksPerUs)))

/-- DOZE_START (R308): in Trim, in a window that is long enough and holds nothing scheduled; a due calibration goes
first. -/
def execDozeStart (radio : Fin 3) (s : State) : Host.Outcome State Fault Refusal :=
  s.whenWorks (radioBlock radio.val) <|
  let r := radio.val
  match s.quietNow r with
  | none => .next s
  | some w =>
    if s.fld F.PMU_STATE_CUR = 1 ∧ s.radioRuns r ∧ ¬ s.exchangeOn r ∧ s.fld (F.ROUNDS_DOZE_CFG_DOZE_MIN_US r) ≤ w.len ∧
        s.roundPos r + 12 < w.stop ∧ ¬ s.scheduledBefore r w.stop ∧
        ¬ (s.flag (F.RADIO_CAL_STATUS_DUE r) ∧ s.wlanCalGap r) then
      .next ((s.dropRx r).setFld (F.RADIO_SYNTH_STATUS_DOZING r) 1)
    else .next s

/-- DOZE_END (R65, R66, R308): the doze ends 12 µs before its window does, at once for a transmission queued since for a time
inside the window, and as soon as the chip is not in Trim. The chains wake for 12 µs. -/
def execDozeEnd (radio : Fin 3) (s : State) : Host.Outcome State Fault Refusal :=
  s.whenWorks (radioBlock radio.val) <|
  let r := radio.val
  let ended : Bool := match s.quietNow r with
    | some w => decide (w.stop ≤ s.roundPos r + 12) || s.scheduledBefore r w.stop
    | none => true
  if s.flag (F.RADIO_SYNTH_STATUS_DOZING r) ∧ (ended ∨ s.fld F.PMU_STATE_CUR ≠ 1) then
    .next ((s.setFld (F.RADIO_SYNTH_STATUS_DOZING r) 0).modRadio r (fun x => { x with wakeAt := s.now + 12 * Config.ticksPerUs }))
  else .next s

end Sys2Proof.Machine
end

