-- ==== Sys2Proof/Machine/Checks.lean ====
section
/-! DEFINITION. The checks of a register write against the fields of its register, and what each access type keeps of
the word written (spec/00_scope.md R5, R11, R14, R680). -/

namespace Sys2Proof.Machine

/-- The refusal of a value `v` of a field with a stated range (R11, R14). -/
def Range.check (r : Range) (v : Nat) : Option RefCode :=
  match r with
  | .any => none
  | .nz => if v = 0 then some .zeroLength else none
  | .btw lo hi => if lo ≤ v ∧ v ≤ hi then none else some .cfgRange
  | .nzBtw lo hi => if v = 0 then some .zeroLength else if lo ≤ v ∧ v ≤ hi then none else some .cfgRange
  | .mult m lo hi => if v % m = 0 ∧ lo ≤ v ∧ v ≤ hi then none else some .cfgRange
  | .nzMult m lo hi =>
    if v = 0 then some .zeroLength else if v % m = 0 ∧ lo ≤ v ∧ v ≤ hi then none else some .cfgRange
  | .orZero lo hi => if v = 0 ∨ (lo ≤ v ∧ v ≤ hi) then none else some .cfgRange

/-- SYSCTL.CFG_LOCK is set (R133). -/
def State.locked (s : State) : Bool := s.flag F.SYSCTL_CFG_LOCK_LOCK

/-- The refusal of a field's value in the word `w` written: read-only fields and locked RWL fields are not checked
(R5, R680). -/
def RegField.check (f : RegField) (locked : Bool) (w : Word) : Option RefCode :=
  let v := getBits w f.lo (f.hi + 1 - f.lo)
  match f.acc with
  | .ro | .rc => none
  | .rwl => if locked then none else f.range.check v
  | _ => f.range.check v

/-- The first refusal among a register's fields, from the most significant field down. -/
def checkFields (locked : Bool) (w : Word) : List RegField → Option RefCode
  | [] => none
  | f :: rest =>
    match f.check locked w with
    | some c => some c
    | none => checkFields locked w rest

/-- The value a field takes when `w` is written over `old` (R5, R680). -/
def RegField.next (f : RegField) (locked : Bool) (old w : Word) : Nat :=
  let len := f.hi + 1 - f.lo
  let o := getBits old f.lo len
  let v := getBits w f.lo len
  match f.acc with
  | .rw | .wo => v
  | .rwl => if locked then o else v
  | .w1c => o &&& (2 ^ len - 1 - v)
  | .w1s => o ||| v
  | .ro | .rc => o

/-- The word a register holds after `w` is written over `old`, field by field. -/
def applyFields (locked : Bool) (old w : Word) (fs : List RegField) : Word :=
  fs.foldl (fun acc f => setBits acc f.lo (f.hi + 1 - f.lo) (f.next locked old w)) old

/-- A locked RWL field would change (R680). -/
def lockedChange (locked : Bool) (old w : Word) (fs : List RegField) : Bool :=
  locked && fs.any (fun f => decide (f.acc = .rwl) &&
    decide (getBits old f.lo (f.hi + 1 - f.lo) ≠ getBits w f.lo (f.hi + 1 - f.lo)))


end Sys2Proof.Machine
end

