-- ==== Sys2Proof/Machine/Tm.lean ====
section
/-! DEFINITION. The meanings of the TM commands (spec/13_traffic_manager.md R461 to R488). -/

namespace Sys2Proof.Machine

/-! ### Refills and commits (R471, R473) -/

/-- Apply the shaper commits that wait: tokens kept and capped, a newly enabled shaper full (R472, R473). -/
def State.applyShapers (s : State) : State :=
  let s1 := s.tm.shStage.foldl (fun t e =>
    let was := (t.shWord e.1 0).getLsbD 31
    let burst : Int := (getBits (e.2.getD 1 0) 0 24 : Nat) * 65536
    let tok := if (e.2.getD 0 0).getLsbD 31 ∧ ¬ was then burst else min burst (t.shTokens e.1)
    (t.modTm (fun x => { x with shapers := sput (fun _ => []) x.shapers e.1 e.2 })).setShTokens e.1 tok) s
  s1.modTm (fun t => { t with shStage := [] })

/-- Apply the policer commits that wait (R470, R473). -/
def State.applyPolicers (s : State) : State :=
  let s1 := s.tm.polStage.foldl (fun t e =>
    let was := (t.polWord e.1 0).getLsbD 31
    let cbs := getBits (e.2.getD 2 0) 0 24 * 65536
    let pbs := getBits (e.2.getD 3 0) 0 24 * 65536
    let fresh := (e.2.getD 0 0).getLsbD 31 && !was
    (t.modTm (fun x => { x with pols := sput (fun _ => []) x.pols e.1 e.2 })).setPol e.1
      (if fresh then cbs else min cbs (t.polTc e.1)) (if fresh then pbs else min pbs (t.polTp e.1))) s
  s1.modTm (fun t => { t with polStage := [] })

/-- Tokens that a rate adds at a refill, in 2^-16 byte, rounded down (R471). -/
def refillAmount (rate : Nat) : Nat := rate * 65536 / 9375

/-- Refill shaper i n times (R471): the cap holds after each addition, so the sum is capped once. -/
def State.refillShaper (n : Nat) (s : State) (i : Nat) : State :=
  if (s.shWord i 0).getLsbD 31 then
    s.setShTokens i (min ((getBits (s.shWord i 1) 0 24 : Nat) * 65536)
      (s.shTokens i + (n * refillAmount (getBits (s.shWord i 0) 0 25) : Nat)))
  else s

/-- Refill policer p n times (R471). -/
def State.refillPolicer (n : Nat) (s : State) (p : Nat) : State :=
  if (s.polWord p 0).getLsbD 31 then
    s.setPol p (min (getBits (s.polWord p 2) 0 24 * 65536) (s.polTc p + n * refillAmount (getBits (s.polWord p 0) 0 25)))
      (min (getBits (s.polWord p 3) 0 24 * 65536) (s.polTp p + n * refillAmount (getBits (s.polWord p 1) 0 25)))
  else s

/-- Refills of the grid that have fallen and are not applied yet (R471): one every 1,024 FAB cycles at 1.2 GHz, so three every 1,280
ticks, counted from the reset of TM, whether or not its branch runs. -/
def State.refillsDue (s : State) : Nat := s.now * 3 / 1280 - s.tm.refills

/-- Apply the refills that are due (R471, R473): commits that wait take effect with the first of them. -/
def State.refill (s : State) : State :=
  let n := s.refillsDue
  if n = 0 then s
  else
    let s1 := s.applyShapers.applyPolicers
    let s2 := (s1.tm.shapers.map Prod.fst).foldl (State.refillShaper n) s1
    ((s2.tm.pols.map Prod.fst).foldl (State.refillPolicer n) s2).modTm (fun t => { t with refills := t.refills + n })

/-- REFILL (R471, R473): the refills that are due, while TM's branch runs; those that fall while it is stopped are applied before its
first work. -/
def execRefill (s : State) : Host.Outcome State Fault Refusal := s.whenWorks 0x40 <| .next s.refill

/-- TM_ENQUEUE (R461): the oldest packet is policed and queued, after the refills that are due. -/
def execTmEnqueue (s : State) : Host.Outcome State Fault Refusal :=
  match s.tm.inbox with
  | [] => .next s
  | p :: rest =>
    if s.takesWork 0x40 then .next ((s.refill.modTm (fun t => { t with inbox := rest })).enqueuePkt p) else .next s

/-- The words that shaper i will hold: those staged, else those in effect. -/
def State.shNext (s : State) (i w : Nat) : Word :=
  match s.tm.shStage.find? (fun e => decide (e.1 = i)) with
  | some e => e.2.getD w 0
  | none => s.shWord i w

/-- Burst that a queue's largest frame asks of a shaper with this OVERHEAD word (R13). -/
def burstFor (maxFrame : Nat) (w2 : Word) : Int := maxFrame + max (overheadOf w2) 0

/-- Queues in use that name shaper i, directly or through their egress map entry (R473). -/
def State.queuesNaming (s : State) (i : Nat) : List Nat :=
  (s.tm.queues.map (fun e => e.1)).filter (fun q => s.qEn q && (s.shapersOf q).contains i)

/-- The refusal of a shaper commit (R473). -/
def State.shaperCheck (s : State) (i : Nat) (ws : List Word) : Option RefCode :=
  let w0 := ws.getD 0 0
  let burst := getBits (ws.getD 1 0) 0 24
  if w0.getLsbD 31 ∧ (getBits w0 0 25 = 0 ∨ burst = 0) then some .zeroLength
  else if (s.queuesNaming i).any (fun q => decide ((burst : Int) < burstFor (s.qMaxFrame q) (ws.getD 2 0))) then
    some .cfgRange
  else if s.flag (F.TM_SH_W0_REG_OWNED i) then some .cfgRange
  else none

/-- The refusal of a policer commit (R470). -/
def policerCheck (ws : List Word) : Option RefCode :=
  if getBits (ws.getD 1 0) 0 25 < getBits (ws.getD 0 0) 0 25 then some .cfgRange else none

/-- A shaper commit is staged (R473, R485): a refill that falls with it or before it does not see it. -/
def State.commitShaper (s0 : State) (i : Nat) (v : Word) : State :=
  let s := s0.refill
  let ws := [v &&& 0x81FFFFFF, s.rd (A.TM_SH_W1 i), s.rd (A.TM_SH_W2 i)]
  match s.shaperCheck i ws with
  | some c => s.refuse (A.TM_SH_W0 i) c
  | none => (s.wr (A.TM_SH_W0 i) (v &&& 0x81FFFFFF)).modTm (fun t => { t with
      shStage := t.shStage.filter (fun e => decide (e.1 ≠ i)) ++ [(i, ws)] })

/-- A policer commit is staged (R473, R486). -/
def State.commitPolicer (s0 : State) (p : Nat) (v : Word) : State :=
  let s := s0.refill
  let ws := [v &&& 0xE1FFFFFF, s.rd (A.TM_POL_W1 p), s.rd (A.TM_POL_W2 p), s.rd (A.TM_POL_W3 p)]
  match policerCheck ws with
  | some c => s.refuse (A.TM_POL_W0 p) c
  | none => (s.wr (A.TM_POL_W0 p) (v &&& 0xE1FFFFFF)).modTm (fun t => { t with
      polStage := t.polStage.filter (fun e => decide (e.1 ≠ p)) ++ [(p, ws)] })

/-- SHAPER_COMMIT (R473): word 0 of a shaper, or of a policer (0 to 4,095). -/
def execShaperCommit (policer : Bool) (index : BitVec 13) (value : Word) (s : State) :
    Host.Outcome State Fault Refusal :=
  if policer then
    .next (s.ownWrite (A.TM_POL_W0 (index.toNat % 4096)) (.shaperCommit policer index value) (fun u => u.commitPolicer (index.toNat % 4096) value))
  else .next (s.ownWrite (A.TM_SH_W0 index.toNat) (.shaperCommit policer index value) (fun u => u.commitShaper index.toNat value))

/-! ### Queue, map and group commits (R464, R465, R483) -/

/-- Queue q belongs to a valid egress map entry's block (R465). -/
def State.mapsTo (s : State) (q : Nat) : Bool :=
  s.tm.egmap.any (fun e =>
    let w := e.2.getD 0 0
    w.getLsbD 31 && decide (getBits w 0 13 ≤ q ∧ q < getBits w 0 13 + 2 ^ getBits w 28 2))

/-- The refusal of a queue commit (R464, R465). -/
def State.queueCheck (s : State) (q : Nat) (ws : List Word) : Option RefCode :=
  let w := fun k => ws.getD k 0
  let maxF := getBits (w 2) 0 14
  let lg := getBits (w 3) 0 16
  let ly := getBits (w 3) 16 16
  let lr := getBits (w 2) 16 16
  let held := decide (s.qFrames q ≠ [])
  let newEg := getBits (w 1) 0 20
  if s.qReg q then some .cfgRange
  else if ¬ (w 0).getLsbD 31 then
    if held ∨ (s.qEn q ∧ s.mapsTo q) then some .cfgRange else none
  else if maxF = 0 ∨ lg = 0 ∨ getBits (w 0) 16 8 = 0 then some .zeroLength
  else if maxF < 60 ∨ 11454 < maxF ∨ lg < ly ∨ ly < lr ∨ 256 * lg < maxF then some .cfgRange
  else if ¬ egressLegal newEg false then some .cfgRange
  else if newEg ≠ s.qEgress q ∧ (held ∨ (s.qEn q ∧ s.mapsTo q)) then some .cfgRange
  else if (w 0).getLsbD 29 ∧ ((getBits (s.shNext (getBits (w 0) 0 13) 1) 0 24 : Nat) : Int) <
      burstFor maxF (s.shNext (getBits (w 0) 0 13) 2) then some .cfgRange
  else none

/-- A queue commit (R464, R484). -/
def State.commitQueue (s : State) (q : Nat) (v : Word) : State :=
  let w0 := v &&& 0xB7FF1FFF
  let ws := [w0, s.rd (A.TM_Q_W1 q), s.rd (A.TM_Q_W2 q), s.rd (A.TM_Q_W3 q)]
  match s.queueCheck q ws with
  | some c => s.refuse (A.TM_Q_W0 q) c
  | none => (s.wr (A.TM_Q_W0 q) w0).modTm (fun t => { t with queues := sput (fun _ => []) t.queues q ws })

/-- QUEUE_COMMIT (R464). -/
def execQueueCommit (queue : BitVec 13) (value : Word) (s : State) : Host.Outcome State Fault Refusal :=
  .next (s.ownWrite (A.TM_Q_W0 queue.toNat) (.queueCommit queue value) (fun u => u.commitQueue queue.toNat value))

/-- The refusal of an egress map commit (R465). -/
def State.egmapCheck (s : State) (i : Nat) (w0 : Word) : Bool :=
  let base := getBits w0 0 13
  let n := 2 ^ getBits w0 28 2
  !w0.getLsbD 31 || (decide (base + n - 1 ≤ 8191) &&
    (List.range n).all (fun k => s.qEn (base + k) && decide (mapIndex (s.qEgress (base + k)) = i)))

/-- An egress map commit (R465, R482). -/
def State.commitEgmap (s : State) (i : Nat) (v : Word) : State :=
  let w0 := v &&& 0xB7001FFF
  if s.egmapCheck i w0 then
    (s.wr (A.TM_EGMAP_W0 i) w0).modTm (fun t => { t with
      egmap := sput (fun _ => []) t.egmap i [w0, s.rd (A.TM_EGMAP_W1 i)] })
  else s.refuse (A.TM_EGMAP_W0 i) .cfgRange

/-- EGMAP_COMMIT (R465). -/
def execEgmapCommit (entry : BitVec 11) (value : Word) (s : State) : Host.Outcome State Fault Refusal :=
  .next (s.ownWrite (A.TM_EGMAP_W0 entry.toNat) (.egmapCommit entry value) (fun u => u.commitEgmap entry.toNat value))

/-- FLOOD_COMMIT (R483). -/
def execFloodCommit (group : BitVec 10) (value : Word) (s : State) : Host.Outcome State Fault Refusal :=
  let g := group.toNat
  .next (s.ownWrite (A.TM_FLOOD_W0 g) (.floodCommit group value) (fun u =>
    (u.wr (A.TM_FLOOD_W0 g) (value &&& 0xF0FF000F)).modTm (fun t => { t with
      floods := sput (fun _ => []) t.floods g
        [value &&& 0xF0FF000F, u.rd (A.TM_FLOOD_W1 g), u.rd (A.TM_FLOOD_W2 g)] })))

/-! ### Flush, sampler, delay (R477 to R479) -/

/-- A QCMD FLUSH of a queue (R479, R480): refused on a registered queue, and while BUSY, which lasts until the next tick. -/
def State.flushCmd (s : State) (q : Nat) : State :=
  if s.flag F.TM_QSTATUS_BUSY then s.refuse A.TM_QCMD .cfgRange
  else if s.qReg q then (s.setFld F.TM_QSTATUS_RESULT 2).refuse A.TM_QCMD .cfgRange
  else ((s.flushQueue q).setFld F.TM_QSTATUS_RESULT 1).setFld F.TM_QSTATUS_BUSY 1

/-- QUEUE_FLUSH (R479). -/
def execQueueFlush (queue : BitVec 13) (s : State) : Host.Outcome State Fault Refusal :=
  .next (s.ownWrite A.TM_QCMD (.queueFlush queue) (fun u => u.flushCmd queue.toNat))

/-- The sampler's record of queue q (R478): written and the mark cleared, or dropped and counted. -/
def State.sampleQueue (s : State) (q : Nat) : State :=
  let ws : List Word :=
    [BitVec.ofNat 32 (0x7A * 2 ^ 24 + s.tm.sampleDropped * 2 ^ 16 + q), BitVec.ofNat 32 (depthBytes (s.qFrames q)),
     BitVec.ofNat 32 (s.qFrames q).length, BitVec.ofNat 32 (sget (fun _ => 0) s.tm.marks q)]
  let r := s.hwRecord (s.fld F.TM_SAMPLE_CFG_FIFO) ws
  if s.recordFits (s.fld F.TM_SAMPLE_CFG_FIFO) 4 then
    r.2.modTm (fun t => { t with
      marks := sput (fun _ => 0) t.marks q 0, sampleDropped := 0 })
  else (r.2.modTm (fun t => { t with sampleDropped := min 255 (t.sampleDropped + 1) })).count C.TM_SAMPLE_DROPPED

/-- SAMPLE_WALK (R478): one record for each queue from FIRST to LAST, one queue every 4 FAB cycles, once the walk is due. A walk whose
period ends before the previous one has finished begins at once after it, and counts as late. -/
def execSampleWalk (s : State) : Host.Outcome State Fault Refusal :=
  s.whenWorks 0x40 <|
  match s.tm.sampleNext with
  | some t =>
    let first := s.fld F.TM_SAMPLE_RANGE_FIRST
    let n := s.fld F.TM_SAMPLE_RANGE_LAST + 1 - first
    let start := max t s.tm.sampleEnd
    if ¬ s.flag F.TM_SAMPLE_CFG_EN ∨ s.now < start then .next s
    else
      let s1 := (s.countIf (decide (t < s.tm.sampleEnd)) C.TM_SAMPLE_LATE).modTm (fun x => { x with
        sampleNext := some (start + s.fld F.TM_SAMPLE_CFG_PERIOD_US * Config.ticksPerUs)
        sampleEnd := start + (5 * n + 2) / 3 })
      .next ((List.range n).foldl (fun u i => u.sampleQueue (first + i)) s1)
  | none => .next s

/-- MAX_DELAY_READ (R477). -/
def execMaxDelayRead (queue : BitVec 13) (s : State) : Host.Outcome State Fault Refusal :=
  .next (s.ownAccess false (A.TM_Q_MAX_DELAY queue.toNat) (.maxDelayRead queue) (fun u =>
    (u.wr (A.TM_Q_MAX_DELAY queue.toNat) 0).answer (BitVec.ofNat 64 (u.rd (A.TM_Q_MAX_DELAY queue.toNat)).toNat)))

end Sys2Proof.Machine
end

