-- ==== Sys2Proof/Machine/Egress.lean ====
section
/-! DEFINITION. The hand-over of frames from TM to the egresses (spec/13_traffic_manager.md R474 to R476, spec/14 R493,
spec/15 R526, R528, R529, R552). -/

namespace Sys2Proof.Machine

/-- PCP of a frame's outer tag, 0 without one. -/
def framePcp (b : List Byte) : Nat :=
  if frame16 b 12 = 0x8100 ∨ frame16 b 12 = 0x88A8 then frameByte b 14 / 32 else 0

/-- Received PAUSE or PFC holds a frame of port p (R528). -/
def State.pausedFrame (s : State) (p : Nat) (f : TmFrame) : Bool :=
  decide (s.now < (s.emac p).pausedTo.getD (framePcp f.pkt.bytes) 0)

/-- The end of a registered frame's transmission by port p, started now (R525). -/
def State.txEnd (s : State) (p : Nat) (f : TmFrame) : Nat :=
  let fixed := if s.flag (F.EMAC_SECY_CFG_EN p) then 160 else 100
  s.now + fixed + bitTicks ((f.pkt.bytes.length + 4) * 8) (rateOf (s.fld (F.EMAC_STATUS_SPEED p)))

/-- The rate of the host link in kb/s, by generation and width (R544, R554). -/
def State.hostRate (s : State) : Nat :=
  [2000000, 4000000, 7875000, 15750000].getD (s.fld F.HOSTP_LINK_GEN - 1) 15750000 * max 1 (s.fld F.HOSTP_LINK_WIDTH)

/-- The end of a registered frame's delivery to a host ring, started now (R554): nothing is ahead of it. -/
def State.hostEnd (s : State) (f : TmFrame) : Nat :=
  s.now + 750 + bitTicks ((f.pkt.bytes.length + 64) * 8) s.hostRate

/-- A registered head could end after its deadline less T_GUARD (R493, R526). -/
def State.tooLate (s : State) (egress : Nat) (f : TmFrame) : Bool :=
  match f.deadline with
  | some d =>
    let e := if egress / 65536 = 0 then s.txEnd (egress % 65536) f else s.hostEnd f
    decide (d < e + guardTicks)
  | none => false

/-- Drop registered heads of queue q that would be too late, `EXPIRED` with reason EGRESS (R493). -/
def State.dropLate (s : State) (egress q : Nat) : Nat → State
  | 0 => s
  | fuel + 1 =>
    match s.qFrames q with
    | f :: _ => if s.tooLate egress f then State.dropLate (s.dropHead q whyEgress) egress q fuel else s
    | [] => s

/-- Choose a queue of map index m and hand its head over (R474): a registered head by deadline, else by PRIO and DWRR
among the queues that `free` admits. -/
def State.serve (s : State) (m : Nat) (regs : Bool) (free : Nat → Bool) : State :=
  let qs := s.queuesOf m
  match (if regs then s.earliest (qs.filter s.qReg) else none) with
  | some q => s.handOver q
  | none =>
    match s.chooseQueue m (qs.filter (fun q => !s.qReg q && s.qEligible q && free q)) with
    | some (q, s1) => s1.handOver q
    | none => s

/-- An EMAC is ready (R474, R526, R528, R529); a port whose link is down takes nothing, or drops what TM offers. -/
def State.serveEmac (s : State) (p : Nat) : State :=
  if ¬ s.takesWork (emacBlock p) ∨ (s.handedTo p).isSome then s
  else if s.linkIsUp p then
    let s1 := ((s.queuesOf p).filter s.qReg).foldl (fun t q => t.dropLate p q (t.qFrames q).length) s
    (s1.serve p true (fun q => match s1.qFrames q with
      | f :: _ => !s1.pausedFrame p f
      | [] => false)).startTx p
  else if s.flag (F.EMAC_TX_CFG_DOWN_DROP p) then
    let t := s.serve p true (fun _ => true)
    match t.handedTo p with
    | some x => ((t.finishHanded x).count (C.EMAC_TX_DOWN_DROP p)).regLost x.2.pkt whyEgress
    | none => t
  else s

/-- A host ring is ready (R474, R552, R554): only for frames it has room for. -/
def State.serveRing (s : State) (e : Nat) : State :=
  let r := e % 65536
  let g := ringRegs true r
  let m := 256 + r
  if (s.handedTo m).isSome then s
  else
    let s1 := ((s.queuesOf m).filter s.qReg).foldl (fun t q => t.dropLate e q (t.qFrames q).length) s
    let fits := fun (q : Nat) => s1.rxReady g (s1.headLen q)
    let regsFit := ((s1.queuesOf m).filter s1.qReg).all fits
    if regsFit then s1.serve m true fits else s1

/-- The buffer of the frame that `t` hands over, and `s` did not, is read (R563, R663): a DRAM error is dealt with, and a frame that meets
an uncorrectable error or a poisoned word is dropped. -/
def State.readBuf (s t : State) (upset : Option BufUpset) : State :=
  match (if s.tm.handed.length < t.tm.handed.length then t.tm.handed.getLast? else none), upset with
  | some x, some (.dram u) =>
    if t.bufPlace x.2.buf = some .dram ∧ t.flag F.DRAMC_CFG_ECC_EN then
      let v := t.dramError u false
      if u.double then v.finishHanded x else v
    else t
  | some x, some .sram =>
    if t.bufPlace x.2.buf ≠ some .dram ∧ t.poison ≠ [] then (t.finishHanded x).regLost x.2.pkt whyDrop else t
  | _, _ => t

/-- Firmware is ready (R462): the frame is firmware's, and its buffer is freed. -/
def State.serveFw (s : State) (upset : Option BufUpset) : State :=
  let t := s.readBuf (s.serve 4 true (fun _ => true)) upset
  match t.handedTo 4 with
  | some x => (t.modTm (fun u => { u with fwRx := u.fwRx ++ [x.2] })).finishHanded x
  | none => t

/-- The block of an egress takes work (R682): HOSTP, WMAC, NGL; an EMAC is asked where it is served, and firmware has no branch. -/
def State.egressWorks (s : State) (e : Nat) : Bool :=
  match e / 65536 with
  | 1 => s.takesWork 0x0C
  | 2 | 3 => s.takesWork 0x60
  | 4 => s.takesWork 0xD0
  | _ => true

/-- EGRESS_READY (R474, R475, R682): an egress whose block works takes a frame, after the refills that are due. For a WLAN peer, WMAC
names the TID, and registered frames are left to the Registered service. `upset` is what the read of the frame's buffer meets. -/
def execEgressReady (egress : BitVec 20) (tid : BitVec 3) (upset : Option BufUpset) (s0 : State) :
    Host.Outcome State Fault Refusal :=
  let e := egress.toNat
  if ¬ s0.takesWork 0x40 ∨ ¬ s0.egressWorks e then .next s0
  else
    let s := s0.refill
    match e / 65536 with
    | 0 => .next (if e % 65536 < 4 then s.readBuf (s.serveEmac (e % 65536)) upset else s)
    | 1 => .next (if e % 65536 < 256 then s.readBuf (s.serveRing e) upset else s)
    | 2 => .next (s.readBuf (s.serve (mapIndex e) false (fun q => decide (getBits (s.qw q 1) 24 3 = tid.toNat))) upset)
    | 3 => .next (s.readBuf (s.serve (mapIndex e) true (fun _ => true)) upset)
    | 4 => .next (s.readBuf (s.serve 5 true (fun _ => true)) upset)
    | 6 => .next (s.serveFw upset)
    | _ => .next s

end Sys2Proof.Machine
end

