-- ==== Sys2Proof/Machine/RegAdmit.lean ====
section
/-! DEFINITION. Admission arithmetic and reservations of REGSVC (spec/14_registered_service.md R489, R494 to R502, R516,
R517, R519). -/

namespace Sys2Proof.Machine

/-! ### Time units -/

/-- The unit of admission arithmetic is 1/2520 ns, in which every bound of R495 is whole: one nanosecond. -/
def uNs : Nat := 2520
/-- One microsecond. -/
def uUs : Nat := 1000 * uNs
/-- One tick of the local count. -/
def uTick : Nat := uUs / Config.ticksPerUs
/-- One FAB cycle, 5/6 ns. -/
def uFab : Nat := 2100
/-- One BB cycle, 25/24 ns. -/
def uBb : Nat := 2625
/-- `n` bits at a rate in kb/s. -/
def uBits (n rate : Nat) : Nat := n * (2520 * 1000000) / rate
/-- T_ENTRY (R495). -/
def tEntry : Nat := 136 * uFab + 40 * uNs
/-- T_SORT. -/
def tSort : Nat := 256 * uFab
/-- T_BOOK. -/
def tBook : Nat := 32 * uFab
/-- T_TM. -/
def tTm : Nat := 64 * uFab + 40 * uNs
/-- T_LEAD. -/
def tLead : Nat := 10 * uUs
/-- T_REL. -/
def tRel : Nat := uUs + 50 * uNs
/-- T_GUARD (R492). -/
def tGuard : Nat := 2 * uUs
/-- The stages from SORT to TM (R496). -/
def tFront : Nat := tEntry + tSort + tBook + tTm

/-! ### The descriptor (R519) -/

/-- One air link of a descriptor: the peer's link index, and its occurrences. -/
structure AskLink where
  link : Nat
  off : Nat
  period : Nat
  phase : Nat
  deriving DecidableEq, Repr

/-- A flow's descriptor, words 0 to 10 of the staging record. -/
structure FlowAsk where
  dir : Nat
  dup : Bool
  frer : Bool
  macsec : Bool
  pcp : Nat
  ep0 : Nat
  ep1 : Nat
  sta : Nat
  tid : Nat
  links : List AskLink
  mcs : Nat
  nss : Nat
  bw : Nat
  gi : Nat
  ltf : Nat
  he : Bool
  attempts : Nat
  busy : Nat
  lmax : Nat
  b : Nat
  d : Nat
  q0 : Nat
  q1 : Nat
  hist : Nat
  rtagOff : Nat
  entry : Nat
  resetMs : Nat
  deriving DecidableEq, Repr

/-- Read a descriptor from its words. -/
def flowAsk (ws : List Word) : FlowAsk :=
  let f := fun (w lo n : Nat) => getBits (ws.getD w 0) lo n
  let lk := fun (w lo : Nat) => ({ link := f 2 lo 2, off := f w 16 16, period := f w 8 8, phase := f w 0 8 } : AskLink)
  let dup := decide (f 0 29 1 = 1)
  { dir := f 0 30 2, dup := dup, frer := decide (f 0 28 1 = 1), macsec := decide (f 0 26 1 = 1), pcp := f 0 23 3
    ep0 := f 0 0 20, ep1 := f 1 0 20, sta := f 2 16 11, tid := f 2 12 3
    links := if dup then [lk 3 8, lk 4 10] else [lk 3 8]
    mcs := f 5 28 4, nss := f 5 25 3 + 1, bw := f 5 22 3, gi := f 5 20 2, ltf := f 5 18 2, he := decide (f 5 17 1 = 1)
    attempts := f 5 8 8, busy := f 6 16 16, lmax := f 6 0 14, b := f 7 24 8, d := f 7 0 20, q0 := f 8 0 13, q1 := f 8 16 13
    hist := f 9 24 6, rtagOff := f 9 16 5, entry := f 9 0 13, resetMs := f 10 0 16 }

/-- The flow runs from air to wire. -/
def FlowAsk.up (a : FlowAsk) : Bool := decide (a.dir = 1)

/-- Wire endpoints of the flow. -/
def FlowAsk.eps (a : FlowAsk) : List Nat := if a.frer then [a.ep0, a.ep1] else [a.ep0]

/-- TM queues that the flow names (R500). -/
def FlowAsk.queues (a : FlowAsk) : List Nat := if a.up ∧ a.frer then [a.q0, a.q1] else [a.q0]

/-- Descriptor of flow f. -/
def State.flowAsk (s : State) (f : Nat) : FlowAsk := Machine.flowAsk (s.flowX f).words

/-- Flows that hold reservations: all but FREE ones (R512, R517). -/
def State.heldFlows (s : State) : List Nat := allFlows.filter (fun f => decide (s.flowState f ≠ flowFree))

/-- Frame records reserved by flow f (R499, R519). -/
def State.flowRecords (s : State) (f : Nat) : Nat := getBits (s.flowWord f 14) 16 13

/-- Restricted service periods of flow f (R520). -/
def State.flowRsps (s : State) (f : Nat) : List Nat :=
  s.fld (F.REGSVC_FLOW_W1_RSP_A f) :: (if (s.flowAsk f).dup then [s.fld (F.REGSVC_FLOW_W1_RSP_B f)] else [])

/-- Radios that carry flow f. -/
def State.flowRadios (s : State) (f : Nat) : List Nat := (s.flowRsps f).map (fun i => s.fld (F.ROUNDS_RSP_W0_RADIO i))

/-- Radio of the peer's link l. -/
def State.askRadio (s : State) (a : FlowAsk) (l : AskLink) : Nat := s.linkRadio a.sta l.link

/-! ### Airtime (R497, R498); the PPDU terms of IEEE 802.11 stand in notes/assumptions/71.md -/

/-- Division rounded up. -/
def cdiv (a b : Nat) : Nat := (a + b - 1) / b

/-- PSDU bits with the service field of an A-MPDU of B MPDUs of L_MAX (R498). -/
def psduBits (a : FlowAsk) : Nat := 16 + 8 * (a.b * (cdiv (4 + (a.lmax - 14 + 8) + 26 + 16 + 4) 4 * 4))

/-- Data tones of a full-channel PPDU. -/
def dataTones (bw : Nat) : Nat := [234, 468, 980, 1960, 3920].getD bw 234

/-- Bits per tone, and the code rate as numerator and denominator, of an MCS. -/
def mcsRate (mcs : Nat) : Nat × Nat × Nat :=
  [(1, 1, 2), (2, 1, 2), (2, 3, 4), (4, 1, 2), (4, 3, 4), (6, 2, 3), (6, 3, 4), (6, 5, 6), (8, 3, 4), (8, 5, 6),
   (10, 3, 4), (10, 5, 6), (12, 3, 4), (12, 5, 6)].getD mcs (1, 1, 2)

/-- Coded bits per symbol. -/
def FlowAsk.ncbps (a : FlowAsk) : Nat := dataTones a.bw * (mcsRate a.mcs).1 * a.nss

/-- Data symbols before the LDPC extra symbol. -/
def FlowAsk.nsym (a : FlowAsk) : Nat := cdiv (psduBits a * (mcsRate a.mcs).2.2) (a.ncbps * (mcsRate a.mcs).2.1)

/-- T_PPDU in units of 0.1 µs (R498): the preamble, the LTFs, the data with the extra symbol, the packet extension. -/
def FlowAsk.tPpdu (a : FlowAsk) : Nat :=
  let gi := [8, 16, 32].getD a.gi 8
  let pre := if a.he ∧ ¬ a.up then 360 else 400
  let ltfs := [1, 2, 4, 4, 6, 6, 8, 8].getD (a.nss - 1) 8
  pre + ltfs * ((if a.ltf = 1 then 64 else 128) + gi) + (a.nsym + 1) * (128 + gi) + 200

/-- T_att on radio r in units of 0.1 µs (R498). -/
def FlowAsk.tAtt (a : FlowAsk) (r : Nat) : Nat :=
  (if a.up then 480 + 160 + a.tPpdu + 160 + 440 else a.tPpdu + 160 + 320) + 10 * pifsUs r

/-- LEN on radio r in µs (R498). -/
def FlowAsk.len (a : FlowAsk) (r : Nat) : Nat := cdiv (10 * a.busy + a.attempts * a.tAtt r) 10

/-- AIR_BUDGET_US on radio r (R498). -/
def FlowAsk.air (a : FlowAsk) (r : Nat) : Nat := a.len r - a.busy - a.attempts * pifsUs r

/-- CW, the LDPC codewords of one TB PPDU of the flow (R497). -/
def FlowAsk.cw (a : FlowAsk) : Nat :=
  let avbits := a.ncbps * a.nsym
  if avbits ≤ 1944 then 1 else if avbits ≤ 2592 then 2
  else cdiv (psduBits a * (mcsRate a.mcs).2.2) (1944 * (mcsRate a.mcs).2.1)

/-! ### Bounds (R495, R496) -/

/-- Line rate of an EMAC endpoint. -/
def State.epRate (s : State) (ep : Nat) : Nat := rateOf (s.fld (F.EMAC_STATUS_SPEED (ep % 65536)))

/-- T_RX of an ingress endpoint (R495). -/
def State.tRx (s : State) (a : FlowAsk) (ep : Nat) : Nat :=
  if ep / 65536 = 1 then 0
  else uBits ((a.lmax + 4) * 8) (s.epRate ep) + (if a.macsec then 370 else 250) * uNs

/-- Bits of one frame of a flow ahead in T_Q. -/
def FlowAsk.aheadBits (a : FlowAsk) : Nat := (a.lmax + 24 + 6 * bit a.frer) * 8

/-- T_Q + T_TX of an EMAC endpoint, or T_HTX of a host ring, with `others` the other A2W flows (R495). -/
def State.tOut (s : State) (a : FlowAsk) (others : List FlowAsk) (ep : Nat) : Nat :=
  let same := others.filter (fun o => o.eps.contains ep)
  if ep / 65536 = 1 then
    let bHost := (same.map (fun o => o.b)).foldl (· + ·) a.b
    1500 * uNs + uBits ((a.lmax + 64) * 8 * (bHost + 1)) 31500000
  else
    let ahead := (same.map (fun o => o.b * o.aheadBits)).foldl (· + ·) ((a.b - 1) * a.aheadBits)
    140 * uNs + uBits ((11454 + 24) * 8 + ahead) (s.epRate ep) + (if a.macsec then 320 else 200) * uNs +
      uBits ((a.lmax + 4 + 6 * bit a.frer) * 8) (s.epRate ep)

/-- The slowest endpoint. -/
def State.slowest (a : FlowAsk) (t : Nat → Nat) : Nat := (a.eps.map t).foldl max 0

/-- The other A2W flows that hold reservations. -/
def State.upFlows (s : State) (but : Nat) : List Nat :=
  s.heldFlows.filter (fun f => decide (f ≠ but) && (s.flowAsk f).up)

/-- The bound of an A2W flow whose occurrence lasts LEN µs (R496). -/
def State.boundUp (s : State) (a : FlowAsk) (others : List FlowAsk) (len : Nat) : Nat :=
  len * uUs + tRel + tFront + State.slowest a (s.tOut a others) + tGuard

/-- The bound on an air link, on radio r (R496). -/
def State.boundOn (s : State) (a : FlowAsk) (others : List FlowAsk) (l : AskLink) (r : Nat) : Nat :=
  if a.up then s.boundUp a others (a.len r)
  else State.slowest a (s.tRx a) + tFront + tLead + l.period * s.roundUs r * uUs + a.len r * uUs + tGuard

/-- BOUND_US of a flow (R496). -/
def State.boundUs (s : State) (a : FlowAsk) (others : List FlowAsk) : Nat :=
  cdiv ((a.links.map (fun l => s.boundOn a others l (s.askRadio a l))).foldl max 0) uUs

/-! ### Decoder share, records and pool (R497, R499) -/

/-- Q: over the three radios, the largest CW of each (R497). -/
def decodeQ (items : List (List Nat × Nat)) : Nat :=
  ((List.range 3).map (fun r => ((items.filter (fun x => x.1.contains r)).map (fun x => x.2)).foldl max 0)).foldl (· + ·) 0

/-- The decoder check with E engines (R497). -/
def State.decodeFits (s : State) (q e : Nat) : Bool :=
  let one := (38 + 80 * s.fld F.LDPC_ITER_CFG_CAP_REG) * uBb
  decide (2 * uUs + (38 + 80 * 16) * uBb + (q - 1) / e * one + one + 50 * uNs ≤
    16 * uUs - s.fld F.LDPC_DL_CFG_IMM_MARGIN * (uUs / 10))

/-- The smallest E that passes (R497). -/
def State.decodeE (s : State) (q : Nat) : Option Nat :=
  [1, 2, 3, 4].find? (fun e => decide (e ≤ s.activeEngines) && s.decodeFits q e)

/-- Radios and CW of an A2W flow in use. -/
def State.decodeItem (s : State) (f : Nat) : List Nat × Nat := (s.flowRadios f, getBits (s.flowWord f 15) 16 9)

/-- P of a flow: the shortest of its links (R499), in µs. -/
def State.askPeriod (s : State) (a : FlowAsk) : Nat :=
  (a.links.map (fun l => l.period * s.roundUs (s.askRadio a l))).foldl min (2 ^ 24)

/-- Frame records of a flow (R499). -/
def State.askRecords (s : State) (a : FlowAsk) : Nat := a.b * (cdiv a.d (max 1 (s.askPeriod a)) + 1)

/-- Pool charge of a number of records (R499). -/
def poolCharge (records lmax : Nat) : Nat := records * (cdiv lmax 256 * 256)

/-- Pool charge of flow f. -/
def State.flowCharge (s : State) (f : Nat) : Nat := poolCharge (s.flowRecords f) (s.flowAsk f).lmax

/-- A sum over a list. -/
def sumOf (l : List Nat) (f : Nat → Nat) : Nat := (l.map f).foldl (· + ·) 0

/-! ### The checks before any arithmetic (R500) -/

/-- Results of FLOW_STATUS (R516). -/
def regOk : Nat := 1
/-- REG_DEADLINE. -/
def regTooLong : Nat := 2
/-- REG_AIR. -/
def regAir : Nat := 3
/-- REG_DECODE. -/
def regDecode : Nat := 4
/-- REG_POOL. -/
def regPool : Nat := 5
/-- REG_RECORDS. -/
def regRecords : Nat := 6
/-- REG_PEER. -/
def regPeer : Nat := 7
/-- REG_SORT. -/
def regSort : Nat := 8
/-- REG_QUEUE. -/
def regQueue : Nat := 9
/-- REG_EXISTS. -/
def regExists : Nat := 10
/-- REG_NONE. -/
def regNone : Nat := 11
/-- CFG_RANGE. -/
def regRange : Nat := 12
/-- ZERO_LENGTH. -/
def regZero : Nat := 13
/-- REG_RELEASING. -/
def regReleasing : Nat := 14
/-- REG_BRANCH. -/
def regBranch : Nat := 15

/-- An endpoint that a descriptor may name (R519). -/
def epLegal (ep : Nat) (host : Bool) : Bool :=
  (decide (ep / 65536 = 0) && decide (ep % 65536 ≤ 3)) || (host && decide (ep / 65536 = 1) && decide (ep % 65536 ≤ 255))

/-- A zero that R500 refuses; PERIOD of link B and RESET_MS count where DUP and FRER use them. -/
def FlowAsk.zeroed (a : FlowAsk) : Bool :=
  decide (a.lmax = 0 ∨ a.b = 0 ∨ a.d = 0 ∨ a.attempts = 0) || a.links.any (fun l => decide (l.period = 0)) ||
    (a.frer && decide (a.resetMs = 0))

/-- Every field is in its range (R500, R519). -/
def State.askInRange (s : State) (a : FlowAsk) : Bool :=
  decide (a.dir ≤ 1 ∧ a.mcs ≤ 13 ∧ a.bw ≤ 4 ∧ a.gi ≤ 2 ∧ (a.ltf = 1 ∨ a.ltf = 2) ∧ a.attempts ≤ 15 ∧ 60 ≤ a.lmax ∧
    a.lmax ≤ 11454 ∧ a.b ≤ 64 ∧ 100 ≤ a.d ∧ a.d ≤ 1000000 ∧ 1 ≤ a.sta ∧ a.sta ≤ 1024) &&
  !(a.he && decide (a.bw = 4)) && a.links.all (fun l => decide (l.link ≤ 2) && decide (l.phase < l.period)) &&
  (a.links.map (fun l => l.link)).eraseDups.length = a.links.length &&
  epLegal a.ep0 (!a.frer) &&
  (!a.frer || (epLegal a.ep1 false && decide (a.ep1 ≠ a.ep0 ∧ 2 ≤ a.hist ∧ a.hist ≤ 32 ∧ (a.rtagOff = 12 ∨ a.rtagOff = 16)) &&
    (!a.up || decide (a.q1 ≠ a.q0)))) &&
  (!a.dup || (s.peerValid a.sta && s.peerMld a.sta)) &&
  (!s.peerValid a.sta || a.links.all (fun l => !s.linkOn a.sta l.link || decide (a.bw ≤ maxBw (s.askRadio a l))))

/-- The peer carries the flow (R500). -/
def State.askPeer (s : State) (a : FlowAsk) : Bool :=
  s.peerValid a.sta && s.peerAuth a.sta &&
  a.links.all (fun l => s.linkOn a.sta l.link && ttlmHas (s.ctxWords a.sta) (if a.up then 13 else 12) a.tid l.link) &&
  (!a.up || s.baRx a.sta a.tid) && (!a.dup || a.up || (s.ctxWord a.sta (14 + 2 * a.tid)).getLsbD 31)

/-- The SORT entry, and the ingress PCP, suit the flow (R411, R500). -/
def State.askSort (s : State) (f : Nat) (a : FlowAsk) : Bool :=
  let e := s.camAt a.entry
  e.banks.testBit (s.fld F.SORT_BANK_ACTIVE) && decide (actField e.act 25 1 = 1 ∧ actFwd e.act = 1 ∧ actField e.act 52 9 = f) &&
  (a.up || (a.eps.filter (fun ep => decide (ep / 65536 = 0))).all (fun ep => (s.fld (F.SORT_PORT_CFG_REG_PCP ep)).testBit a.pcp))

/-- Branches that a flow pins, given its radios (R501). -/
def FlowAsk.pins (a : FlowAsk) (radios : List Nat) : List Nat :=
  [0, 2, 3, 4, 5] ++ radios.map (fun r => 7 + r) ++ (if a.eps.any (fun e => decide (e / 65536 = 0)) then [14] else []) ++
    (if a.eps.any (fun e => decide (e / 65536 = 1)) then [13] else []) ++ (if a.up then [11] else [])

/-- The first check of R500 that fails. -/
def State.admitCheck (s : State) (f : Nat) (a : FlowAsk) : Option Nat :=
  if s.flowState f = flowReleasing then some regReleasing
  else if s.flowState f ≠ flowFree then some regExists
  else if a.zeroed then some regZero
  else if ¬ s.askInRange a then some regRange
  else if ¬ s.askPeer a then some regPeer
  else if ¬ s.askSort f a then some regSort
  else if a.queues.any s.qEn then some regQueue
  else if (a.pins (a.links.map (s.askRadio a))).any (fun b => decide (s.gateMode b = 0)) then some regBranch
  else none

/-! ### Admission (R496) and the reservations (R501) -/

/-- The computed words 11 to 15 (R519). -/
def State.computed (s : State) (a : FlowAsk) (bound engines : Nat) : List Word :=
  let r := fun (k : Nat) => (a.links[k]?).map (s.askRadio a)
  let len := fun k => min 0xFFFF (((r k).map a.len).getD 0)
  let air := fun k => min 0xFFFF (((r k).map a.air).getD 0)
  [BitVec.ofNat 32 (min 0xFFFFF bound), BitVec.ofNat 32 (len 1 * 2 ^ 16 + len 0), BitVec.ofNat 32 (air 1 * 2 ^ 16 + air 0),
   BitVec.ofNat 32 (min 0x1FFF (s.askRecords a) * 2 ^ 16 + min 0xFFFF (a.tAtt ((r 0).getD 0))),
   BitVec.ofNat 32 ((if a.up then min 0x1FF a.cw else 0) * 2 ^ 16 + engines)]

/-- What a flow asks of ROUNDS on a link (R501). -/
def State.rspAsk (s : State) (f : Nat) (a : FlowAsk) (l : AskLink) : RspAsk :=
  let r := s.askRadio a l
  { radio := r, up := a.up, dup := a.dup, flow := f, sta := a.sta, bss := linkBss (s.ctxWords a.sta) l.link, off := l.off
    len := a.len r, period := l.period, phase := l.phase, attempts := a.attempts, air := a.air r }

/-- Ask ROUNDS for each occurrence (R305, R496): the indices and the state with them written, or the refusal with
nothing reserved. -/
def State.askRounds (s : State) (base : State) (f : Nat) (a : FlowAsk) :
    List AskLink → List Nat → (List Nat × State) ⊕ State
  | [], got => .inl (got, s)
  | l :: rest, got =>
    let q := s.rspAsk f a l
    match s.rspRefused q, s.freeRsp with
    | some (w, i), _ => .inr (base.conflict q.radio w i)
    | none, none => .inr base
    | none, some i => State.askRounds (s.writeRsp i q) base f a rest (got ++ [i])

/-- Reserve a TM queue for a flow, with EGRESS `eg` (R501). -/
def State.reserveQueue (s : State) (q eg tid lmax limit : Nat) : State :=
  let ws : List Word := [0xC0000000, BitVec.ofNat 32 (tid * 2 ^ 24 + eg), BitVec.ofNat 32 (limit * 2 ^ 16 + lmax),
    BitVec.ofNat 32 (limit * 2 ^ 16 + limit)]
  let regs := ((((s.wr (A.TM_Q_W0 q) (ws.getD 0 0)).wr (A.TM_Q_W1 q) (ws.getD 1 0)).wr (A.TM_Q_W2 q) (ws.getD 2 0)).wr
    (A.TM_Q_W3 q) (ws.getD 3 0))
  regs.modTm (fun t => { t with queues := sput (fun _ => []) t.queues q ws })

/-- Free a reserved TM queue (R517). -/
def State.freeQueue (s : State) (q : Nat) : State :=
  let s1 := s.flushQueue q
  ((((s1.wr (A.TM_Q_W0 q) 0).wr (A.TM_Q_W1 q) 0).wr (A.TM_Q_W2 q) 0).wr (A.TM_Q_W3 q) 0).modTm (fun t => { t with
    queues := sput (fun _ => []) t.queues q [] })

/-- Bring the pool, the decoder share, the pins and TOTALS in line with the flows that hold reservations (R497, R499,
R501, R518). -/
def State.syncReserves (s : State) : State :=
  let fs := s.heldFlows
  let q := decodeQ ((fs.filter (fun f => (s.flowAsk f).up)).map s.decodeItem)
  let e := if q = 0 then 0 else (s.decodeE q).getD (s.fld F.LDPC_RESERVE_REG_ENGINES)
  let pins := (fs.flatMap (fun f => (s.flowAsk f).pins (s.flowRadios f))).eraseDups
  ((((((s.setFld F.TM_POOL_CFG_REG_RESERVE (cdiv (sumOf fs s.flowCharge) 65536)).syncPool).setReserve q e).setFld
    F.CKGEN_PIN_BRANCHES ((pins.map (fun b => 2 ^ b)).foldl (· + ·) 0)).setFld F.REGSVC_TOTALS_FLOWS fs.length).setFld
    F.REGSVC_TOTALS_RECORDS (sumOf fs s.flowRecords))

/-- End a flow command with a result. -/
def State.regResult (s : State) (r : Nat) : State := s.setFld F.REGSVC_FLOW_STATUS_RESULT r

/-- The flow is admitted: its words and state stand, and its reservations are written (R501). -/
def State.admitFlow (s : State) (f : Nat) (a : FlowAsk) (ws : List Word) (rsps : List Nat) : State :=
  let x : FlowSt := { words := ws, links := List.range a.links.length }
  let s1 := (s.modReg (fun r => { r with flows := sput (fun _ => {}) r.flows f x })).setFld (F.REGSVC_FLOW_W0_STATE f) flowAdmitted
  let s2 := (((s1.setFld (F.REGSVC_FLOW_W0_WHY f) 0).setFld (F.REGSVC_FLOW_W0_OVERRUN f) 0).setFld
    (F.REGSVC_FLOW_W0_FNUM f) 0).wr (A.REGSVC_FLOW_W1 f) (BitVec.ofNat 32 (rsps.getD 1 0 * 2 ^ 24 + rsps.getD 0 0 * 2 ^ 16))
  let s3 := (s2.wr (A.REGSVC_FLOW_W2 f) 0).wr (A.REGSVC_FLOW_W3 f) 0
  let limit := min 0xFFFF (cdiv (getBits (ws.getD 14 0) 16 13 * a.lmax) 256)
  let s4 := s3.reserveQueue a.q0 (if a.up then a.ep0 else 0x20000 + a.sta) a.tid a.lmax limit
  (if a.up ∧ a.frer then s4.reserveQueue a.q1 a.ep1 a.tid a.lmax limit else s4).syncReserves

/-- Some admitted A2W flow on an egress port of the new one would miss its deadline with it (R496). -/
def State.recheckFails (s : State) (f : Nat) (a : FlowAsk) : Bool :=
  a.up && (s.upFlows f).any (fun g =>
    let o := s.flowAsk g
    s.flowLive g && o.eps.any (fun ep => decide (ep / 65536 = 0) && a.eps.contains ep) &&
    decide (o.d < cdiv (s.boundUp o (a :: (((s.upFlows f).filter (fun x => decide (x ≠ g))).map s.flowAsk))
      (max (getBits (s.flowWord g 12) 0 16) (getBits (s.flowWord g 12) 16 16))) uUs))

/-- ADMIT (R496, R500): the result, and the state with all reservations or none. -/
def State.admitCmd (s : State) (f : Nat) (ws : List Word) : State :=
  let a := Machine.flowAsk ws
  match s.admitCheck f a with
  | some r => (s.wrList A.REGSVC_STAGE_RO [0, 0, 0, 0, 0]).regResult r
  | none =>
    let others := (s.upFlows f).map s.flowAsk
    let bound := s.boundUs a others
    let q := decodeQ ((a.links.map (s.askRadio a), a.cw) :: (s.upFlows f).map s.decodeItem)
    let e := if a.up then s.decodeE q else some 0
    let comp := s.computed a bound (e.getD 0)
    let fs := s.heldFlows
    let units := cdiv (sumOf fs s.flowCharge + poolCharge (s.askRecords a) a.lmax) 65536
    let t := s.wrList A.REGSVC_STAGE_RO comp
    if a.d < bound then t.regResult regTooLong
    else if a.up ∧ (256 < q ∨ e = none) then t.regResult regDecode
    else if 4096 < sumOf fs s.flowRecords + s.askRecords a then t.regResult regRecords
    else if s.fld F.TM_POOL_CFG_SRAM_POOL < units + 16 then t.regResult regPool
    else if s.recheckFails f a then t.regResult regTooLong
    else
      match t.askRounds t f a a.links [] with
      | .inr u => u.regResult regAir
      | .inl (rsps, u) => (u.admitFlow f a (ws ++ comp) rsps).regResult regOk

end Sys2Proof.Machine
end

