-- ==== Sys2Proof/Machine/Regsvc.lean ====
section
/-! DEFINITION. The meanings of the REGSVC commands (spec/14_registered_service.md R489 to R521). -/

namespace Sys2Proof.Machine

/-- REGSVC's block number. -/
def regBlock : Nat := 0x50

/-! ### Flow commands (R496, R516, R517) -/

/-- A flow command: refused while BUSY, and BUSY until the next tick (R516). -/
def State.flowCmd (s : State) (c : Instr) (f : State → State) : State :=
  s.ownWrite A.REGSVC_FLOW_CMD c (fun u =>
    if u.flag F.REGSVC_FLOW_STATUS_BUSY then u.refuse A.REGSVC_FLOW_CMD .cfgRange
    else (f u).setFld F.REGSVC_FLOW_STATUS_BUSY 1)

/-- FLOW_ADMIT (R496, R500, R501). -/
def execFlowAdmit (flow : BitVec 9) (s : State) : Host.Outcome State Fault Refusal :=
  .next (s.flowCmd (.flowAdmit flow) (fun u =>
    u.admitCmd flow.toNat ((List.range 11).map (fun w => u.rd (A.REGSVC_STAGE w)))))

/-- FLOW_RELEASE (R517): a FREE or RELEASING flow ends with REG_NONE. -/
def execFlowRelease (flow : BitVec 9) (s : State) : Host.Outcome State Fault Refusal :=
  .next (s.flowCmd (.flowRelease flow) (fun u =>
    if u.flowLive flow.toNat then
      (u.setFld (F.REGSVC_FLOW_W0_STATE flow.toNat) flowReleasing).regResult regOk
    else u.regResult regNone))

/-- FLOW_READ (R517, R519, R520): the words go to staging, and the flow's lost marks are cleared. -/
def execFlowRead (flow : BitVec 9) (s : State) : Host.Outcome State Fault Refusal :=
  let f := flow.toNat
  .next (s.flowCmd (.flowRead flow) (fun u =>
    if u.flowState f = flowFree then u.regResult regNone
    else
      let ws := (List.range 16).map (u.flowWord f)
      let u1 := (u.wrList A.REGSVC_STAGE (ws.take 11)).wrList A.REGSVC_STAGE_RO (ws.drop 11)
      let u2 := (((u1.setFld (F.REGSVC_FLOW_W0_OVERRUN f) 0).wr (A.REGSVC_FLOW_W2 f) 0).wr (A.REGSVC_FLOW_W3 f) 0).modFlow f
        (fun x => { x with lostMarked := false })
      u2.regResult regOk))

/-- FLOW_FREE (R517): a releasing flow without frame records gives everything back. -/
def execFlowFreed (flow : BitVec 9) (s : State) : Host.Outcome State Fault Refusal :=
  s.whenWorks regBlock <|
  let f := flow.toNat
  if s.flowState f ≠ flowReleasing ∨ s.regsvc.recs.any (fun r => decide (r.flow = f)) then .next s
  else
    let s1 := (s.flowRsps f).foldl State.clearRsp s
    let s2 := (s.flowAsk f).queues.foldl State.freeQueue s1
    .next (s2.setFld (F.REGSVC_FLOW_W0_STATE f) flowFree).syncReserves

/-! ### Booking (R503) -/

/-- Take the flow's next frame number (R503). -/
def State.takeFnum (s : State) (f : Nat) : Nat × State :=
  let n := s.fld (F.REGSVC_FLOW_W0_FNUM f)
  (n, s.setFld (F.REGSVC_FLOW_W0_FNUM f) ((n + 1) % 2 ^ 16))

/-- A frame that cannot be booked takes its number and is declared `EXPIRED` (R503). -/
def State.bookFails (s : State) (f id deadline why : Nat) : State :=
  let (n, s1) := s.takeFnum f
  s1.outcome f n id deadline true why

/-- Frames booked in the occurrence of flow f that starts at `start` on its link k and has not ended for them. -/
def State.bookedIn (s : State) (f k start : Nat) : Nat :=
  (s.regsvc.recs.filter (fun r => decide (r.flow = f) &&
    r.tries.any (fun t => decide (t.link = k ∧ t.start = start) && !t.ended))).length

/-- The first occurrence of restricted service period i in rounds `num` and on, `base` being the boundary of round num,
that starts no earlier than `from'` and holds fewer than B frames of link k (R503). -/
def State.findOccurrence (s : State) (f k i b from' : Nat) : Nat → Nat → Nat → Option Nat
  | 0, _, _ => none
  | fuel + 1, num, base =>
    let r := s.fld (F.ROUNDS_RSP_W0_RADIO i)
    let start := base + s.fld (F.ROUNDS_RSP_W1_OFFSET_US i) * Config.ticksPerUs
    if s.rspIn i num ∧ from' ≤ start * uTick ∧ s.bookedIn f k start < b then some start
    else State.findOccurrence s f k i b from' fuel ((num + 1) % 2 ^ 32) (base + s.roundUs r * Config.ticksPerUs)

/-- The occurrence of link k that a W2A frame takes (R503): the first that T_TM and T_LEAD leave time for, where it ends
T_GUARD before the deadline. -/
def State.airSlot (s : State) (f k deadline : Nat) : Option AirTry :=
  let i := (s.flowRsps f).getD k 0
  let r := s.fld (F.ROUNDS_RSP_W0_RADIO i)
  let boundary := (s.rnd r).boundary
  let len := s.roundUs r * Config.ticksPerUs
  let fuel := (deadline - boundary) / max 1 len + 2
  if ¬ s.roundsOn r then none
  else
    match s.findOccurrence f k i (s.flowAsk f).b (s.now * uTick + tTm + tLead) fuel (s.fld (F.ROUNDS_ROUND_NUM_NUM r)) boundary with
    | some start =>
      if start + s.fld (F.ROUNDS_RSP_W1_LEN_US i) * Config.ticksPerUs + guardTicks ≤ deadline then
        some { link := k, start := start }
      else none
    | none => none

/-- Hand a booked frame to TM in queue q (R503, R510). -/
def State.regToTm (s : State) (p : Pkt) (f n q : Nat) : State :=
  s.modTm (fun t => { t with inbox := t.inbox ++ [{ p with act := setActField p.act 8 13 q, reg := some (f, n) }] })

/-- Take a record and a number for a frame, and hand its copies to TM. -/
def State.bookFrame (s : State) (f id deadline : Nat) (tries : List AirTry) (copies : List (Pkt × Nat)) : State :=
  let (n, s1) := s.takeFnum f
  let rec' : FrameRec := { flow := f, fnum := n, id := id, deadline := deadline, tries := tries, copies := copies.length }
  copies.foldl (fun t c => t.regToTm c.1 f n c.2) ((s1.modReg (fun r => { r with recs := r.recs ++ [rec'] })).syncRecs f)

/-- The six bytes of an R-TAG with a sequence number (R508). -/
def rTag (seq : Nat) : List Byte := [0xF1, 0xC1, 0, 0] ++ beBytes 2 seq

/-- What sequence recovery does with a copy (R509). -/
inductive FrerResult where
  | passed | seen | rogue
  deriving DecidableEq, Repr

/-- Vector recovery (R508, R509): the result for sequence number n, and the new state, the highest number and those
passed within the history. -/
def frerJudge (hist n : Nat) (x : FlowSt) : FrerResult × FlowSt :=
  match x.frer with
  | none => (.passed, { x with frer := some [n], seq := n })
  | some l =>
    let d := (n + 65536 - x.seq) % 65536
    let back := (x.seq + 65536 - n) % 65536
    if 0 < d ∧ d < hist then
      (.passed, { x with frer := some (n :: l.filter (fun m => decide ((n + 65536 - m) % 65536 < hist))), seq := n })
    else if back < hist then
      if l.contains n then (.seen, x) else (.passed, { x with frer := some (n :: l) })
    else (.rogue, x)

/-- Booking of a W2A frame (R503, R504, R507): one occurrence on each link in use that fits. -/
def State.bookDown (s : State) (f id deadline : Nat) (a : FlowAsk) (p : Pkt) : State :=
  let tries := (s.flowX f).links.filterMap (fun k => s.airSlot f k deadline)
  if tries = [] then s.bookFails f id deadline whyBooking else s.bookFrame f id deadline tries [(p, a.q0)]

/-- Booking of an A2W frame (R503, R510): passed on if its egress fits before the deadline; with FRER two copies carry
the flow's sequence number. -/
def State.bookUp (s : State) (f deadline : Nat) (a : FlowAsk) (p : Pkt) : State :=
  let others := (s.upFlows f).map s.flowAsk
  let out := State.slowest a (s.tOut a others)
  let id := if a.frer then (s.flowX f).seq else p.sn
  if deadline * uTick < s.now * uTick + tTm + out + tGuard then s.bookFails f id deadline whyEgress
  else if a.frer then
    let q := { p with bytes := p.bytes.take a.rtagOff ++ rTag id ++ p.bytes.drop a.rtagOff }
    (s.modFlow f (fun x => { x with seq := (x.seq + 1) % 65536 })).bookFrame f id deadline [] [(q, a.q0), (q, a.q1)]
  else s.bookFrame f id deadline [] [(p, a.q0)]

/-- Booking beyond sequence recovery (R494, R503): L_MAX, a record, then by direction. -/
def State.bookNew (s : State) (f id : Nat) (a : FlowAsk) (p : Pkt) : State :=
  let deadline := p.time.toNat + a.d * Config.ticksPerUs
  let used := (s.regsvc.recs.filter (fun r => decide (r.flow = f))).length
  if a.lmax < p.bytes.length ∨ s.flowRecords f ≤ used then s.bookFails f id deadline whyBooking
  else if a.up then s.bookUp f deadline a p
  else s.bookDown f id deadline a p

/-- No copy has passed for RESET_MS (R509). -/
def State.frerStale (s : State) (f : Nat) : Bool :=
  decide ((s.flowX f).frerTime.toNat + (s.flowAsk f).resetMs * (1000 * Config.ticksPerUs) ≤ s.now)

/-- Recovery state of flow f as the next copy meets it (R509). -/
def State.frerState (s : State) (f : Nat) : FlowSt :=
  let x := s.flowX f
  if s.frerStale f then { x with frer := none } else x

/-- Frames `p` and `q` are copies of one frame of a flow with recovery, `q` from EP0 and `p` from the other port (R509). -/
def State.frerRival (s : State) (p q : Pkt) : Bool :=
  let f := actField p.act 52 9
  let a := s.flowAsk f
  a.frer && !a.up && decide (actField q.act 52 9 = f ∧ p.srcEg ≠ a.ep0 ∧ q.srcEg = a.ep0 ∧
    frame16 p.bytes (a.rtagOff + 4) = frame16 q.bytes (a.rtagOff + 4))

/-- The order in which waiting frames are booked (R503, R509): the oldest first, a copy from EP0 before its waiting twin. -/
def State.bookOrder (s : State) : List Pkt :=
  match s.regsvc.inbox with
  | [] => []
  | p :: rest =>
    match rest.find? (s.frerRival p) with
    | some q => q :: p :: rest.erase q
    | none => p :: rest

/-- BOOKING (R503, R509): the oldest frame that SORT handed on. -/
def execBooking (s : State) : Host.Outcome State Fault Refusal :=
  match s.bookOrder with
  | [] => .next s
  | p :: rest =>
    if ¬ s.takesWork regBlock then .next s
    else
      let f := actField p.act 52 9
      let a := s.flowAsk f
      let s0 := s.modReg (fun r => { r with inbox := rest })
      let deadline := p.time.toNat + a.d * Config.ticksPerUs
      let tag := frame16 p.bytes (a.rtagOff + 4)
      if ¬ s.flowLive f then .next (s0.count C.REGSVC_UNKNOWN_FLOW)
      else if s.flowState f = flowRevoked then
        .next (s0.bookFails f (if a.up then p.sn else if a.frer then tag else 0) deadline whyRevoked)
      else if a.frer ∧ ¬ a.up then
        match frerJudge a.hist tag (s.frerState f) with
        | (.passed, x) =>
          let s1 := (s0.modFlow f (fun _ => { x with frerTime := s.time.tick })).count (C.REGSVC_F_FRER_PASSED f)
          .next (s1.bookNew f tag a { p with bytes := p.bytes.take a.rtagOff ++ p.bytes.drop (a.rtagOff + 6) })
        | (.seen, _) => .next (s0.count (C.REGSVC_F_FRER_DISCARDED f))
        | (.rogue, _) => .next (s0.count C.REGSVC_FRER_ROGUE)
      else .next (s0.bookNew f (if a.up then p.sn else 0) a p)

/-- FRER_RESET (R509): no copy has passed for RESET_MS. -/
def execFrerReset (flow : BitVec 9) (s : State) : Host.Outcome State Fault Refusal :=
  let f := flow.toNat
  if s.takesWork regBlock ∧ s.flowLive f ∧ (s.flowX f).frer.isSome ∧ s.frerStale f then
    .next (s.modFlow f (fun y => { y with frer := none }))
  else .next s

/-! ### Ends (R504 to R506) -/

/-- Take a frame's copies out of the flow's TM queues (R506). -/
def State.regUnqueue (s : State) (f n : Nat) : State :=
  (s.flowAsk f).queues.foldl (fun t q =>
    let mine := fun (x : TmFrame) => decide (x.pkt.reg = some (f, n))
    let gone := (t.qFrames q).filter mine
    if gone = [] then t
    else gone.foldl (fun u x => u.releaseBuf x.buf) (t.setQ q ((t.qFrames q).filter (fun x => !mine x)))) s

/-- The occurrence ends for a W2A frame on link k (R504, R507). -/
def State.tryEnds (s : State) (f n k : Nat) : State :=
  let s1 := s.airLinkEnds f n k
  if (s1.frameRec f n).isNone then (s1.regUnqueue f n).dropReg f n else s1

/-- Sequence numbers from WinStart to the highest received that are not held (R505). -/
def State.skipped (s : State) (sta tid high : Nat) : List Nat :=
  let x := s.tid sta tid
  ((List.range ((high + 1 + 4096 - x.rxWin) % 4096)).map (fun i => (x.rxWin + i) % 4096)).filter
    (fun n => !x.held.any (fun h => decide (h.sn = n)))

/-- An A2W occurrence ends (R505). -/
def State.upEnds (s : State) (f start : Nat) : State :=
  let x := s.flowX f
  let sta := s.flowSta f
  let tid := s.flowTid f
  let deadline := start + (s.flowAsk f).d * Config.ticksPerUs
  let why := if x.decMissed then whyDecode else whyUlMissing
  let s1 := match x.occHigh with
    | some h =>
      if (h + 1 + 4096 - (s.tid sta tid).rxWin) % 4096 < 2048 then
        (((s.skipped sta tid h).foldl (fun t n => t.outcome f 0 n deadline true why) s)).moveWin sta tid ((h + 1) % 4096)
      else s
    | none => s
  if x.residue = 0 then s1 else s1.emitRecord (s1.outcomeWords f 0 x.residue deadline true whyResidue)

/-- OCCURRENCE_END (R504, R505): an occurrence of a restricted service period has ended. -/
def execOccurrenceEnd (index : BitVec 8) (s : State) : Host.Outcome State Fault Refusal :=
  s.whenWorks regBlock <|
  let i := index.toNat
  match s.rounds.rsps.find? (fun x => decide (x.index = i)) with
  | none => .next s
  | some x =>
    if s.now < x.stop then .next s
    else
      let f := s.fld (F.ROUNDS_RSP_W0_FLOW i)
      let s0 := s.modRounds (fun y => { y with rsps := y.rsps.filter (fun z => decide (z.index ≠ i)) })
      if s.flag (F.ROUNDS_RSP_W0_DIR i) then .next (s0.upEnds f x.start)
      else
        let k := if (s.flowRsps f).head? = some i then 0 else 1
        let mine := s.regsvc.recs.filter (fun r => decide (r.flow = f) &&
          r.tries.any (fun t => decide (t.link = k ∧ t.start = x.start) && !t.ended))
        .next (mine.foldl (fun t r => t.tryEnds f r.fnum k) s0)

/-- FRAME_DEADLINE (R506): a booked frame without an outcome at its deadline less T_GUARD. -/
def execFrameDeadline (flow : BitVec 9) (fnum : BitVec 16) (s : State) : Host.Outcome State Fault Refusal :=
  s.whenWorks regBlock <|
  let f := flow.toNat
  let n := fnum.toNat
  match s.frameRec f n with
  | none => .next s
  | some r =>
    if s.now + guardTicks < r.deadline then .next s
    else
      let a := s.flowAsk f
      let inTm := a.queues.any (fun q => (s.qFrames q).any (fun x => decide (x.pkt.reg = some (f, n))))
      if a.up ∧ inTm then .next ((s.endFrame f n true whyEgress).regUnqueue f n)
      else
        .next (((((s.count C.REGSVC_WATCHDOG).present 0x28 f).endFrame f n true whyWatchdog).regUnqueue f n).dropReg f n)

/-- OUTCOME_RECORD (R515): the oldest waiting record is written where its FIFO has room. -/
def execOutcomeRecord (s : State) : Host.Outcome State Fault Refusal :=
  s.whenWorks regBlock <|
  match s.regsvc.outq with
  | [] => .next s
  | ws :: rest =>
    let fifo := s.fld F.REGSVC_REPORT_CFG_FIFO
    if s.recordFits fifo 4 then .next ((s.setOutq rest).hwRecord fifo ws).2 else .next s

end Sys2Proof.Machine
end

