-- ==== Sys2Proof/Machine/Seal.lean ====
section
/-! DEFINITION. The firmware ring of SEAL, the life cycle and debug unlock (spec/16_security.md R578 to R599, R606 to
R610). -/

namespace Sys2Proof.Machine

/-! ### Descriptors (R581) -/

/-- A descriptor of the firmware ring. -/
structure SealDesc where
  op : Nat
  alg : Nat
  explicit : Bool
  slot : Nat
  src : Nat
  dst : Nat
  aadLen : Nat
  tagLen : Nat
  nonceLen : Nat
  len : Nat
  outUse : Nat
  outPnw : Nat
  outKtype : Nat
  outSlot : Nat
  pn : Nat
  nonce : List Byte
  cookie : Nat
  deriving DecidableEq, Repr

/-- The address of the descriptor that CI names (R581). -/
def State.sealDescAt (s : State) : Nat :=
  s.rd64 A.SEAL_FW_BASE_LO A.SEAL_FW_BASE_HI + 64 * (s.fld F.SEAL_FW_IDX_CI % s.fld F.SEAL_FW_CFG_SIZE)

/-- The descriptor that CI names. -/
def State.sealDesc (s : State) : SealDesc :=
  let b := s.dmaBytes s.sealDescAt 64
  let w := fun i => leNat (slice b (4 * i) 4)
  { op := w 0 / 2 ^ 28
    alg := w 0 / 2 ^ 24 % 16
    explicit := (w 0).testBit 20
    slot := w 0 % 2 ^ 13
    src := w 1 + w 2 % 8 * 2 ^ 32
    dst := w 3 + w 4 % 8 * 2 ^ 32
    aadLen := w 5 % 2 ^ 16
    tagLen := w 5 / 2 ^ 16 % 32
    nonceLen := w 5 / 2 ^ 24 % 32
    len := w 6 % 2 ^ 24
    outUse := w 7 / 2 ^ 24 % 64
    outPnw := w 7 / 2 ^ 20 % 4
    outKtype := w 7 / 2 ^ 16 % 4
    outSlot := w 7 % 2 ^ 13
    pn := w 8 + w 9 * 2 ^ 32
    nonce := slice b 40 16
    cookie := w 15 }

/-- STATUS codes (R583). -/
def sealOk : Nat := 0x00
/-- TAG_FAIL. -/
def sealTagFail : Nat := 0x01
/-- ZERO_LENGTH. -/
def sealZeroLength : Nat := 0x02
/-- CFG_RANGE. -/
def sealCfgRange : Nat := 0x03
/-- KEY_EMPTY. -/
def sealKeyEmpty : Nat := 0x04
/-- KEY_USE. -/
def sealKeyUse : Nat := 0x05
/-- KEY_TYPE. -/
def sealKeyType : Nat := 0x06
/-- PN_NOT_INCREASING. -/
def sealPnNotIncreasing : Nat := 0x07
/-- PN_EXHAUSTED. -/
def sealPnExhausted : Nat := 0x08
/-- BAD_ADDR. -/
def sealBadAddr : Nat := 0x09
/-- ABORTED. -/
def sealAborted : Nat := 0x0A
/-- LIFECYCLE. -/
def sealLifecycle : Nat := 0x0B
/-- DEBUG_ACTIVE. -/
def sealDebugActive : Nat := 0x0C
/-- ENTROPY_FAIL. -/
def sealEntropyFail : Nat := 0x0D

/-- The STATUS of a key refusal. -/
def KeyErr.status : KeyErr → Nat
  | .empty => sealKeyEmpty
  | .use => sealKeyUse
  | .type => sealKeyType
  | .exhausted => sealPnExhausted
  | .notIncreasing => sealPnNotIncreasing

/-- The operation names a slot (R584, R585). -/
def SealDesc.namesSlot (d : SealDesc) : Bool := decide (1 ≤ d.op ∧ d.op ≤ 4) || decide (d.op = 6)

/-- The algorithm takes a nonce: CCM, GCM, GMAC. -/
def SealDesc.noncey (d : SealDesc) : Bool := decide (d.alg = 1 ∨ d.alg = 2 ∨ d.alg = 4)

/-- The first length or ALG failure of R581, R584. -/
def SealDesc.lengthFault (d : SealDesc) : Option Nat :=
  if d.op = 0 ∨ 9 < d.op then some sealCfgRange
  else if d.op ≤ 4 then
    let algOk := if d.op ≤ 2 then decide (d.alg = 1 ∨ d.alg = 2) else decide (3 ≤ d.alg ∧ d.alg ≤ 5)
    if ¬ algOk then some sealCfgRange
    else if d.tagLen = 0 then some sealZeroLength
    else if d.tagLen < 4 ∨ 16 < d.tagLen then some sealCfgRange
    else if d.noncey ∧ d.nonceLen ≠ (if d.alg = 1 then 13 else 12) then some sealCfgRange
    else if (if d.alg = 5 then 2048 else 16384) < d.len then some sealCfgRange
    else if (if d.op ≤ 2 ∨ d.alg = 4 then 512 else 0) < d.aadLen then some sealCfgRange
    else if isDevice d.slot then some sealCfgRange
    else none
  else if d.op = 5 then if d.alg ≠ 6 ∨ d.aadLen ≠ 0 then some sealCfgRange else none
  else if d.op = 6 then
    if d.len = 0 ∨ d.outUse = 0 then some sealZeroLength
    else if (d.alg ≠ 3 ∧ d.alg ≠ 7) ∨ 256 < d.len ∨ (if d.alg = 7 then 64 else 0) < d.aadLen ∨ isDevice d.slot ∨
        isDevice d.outSlot ∨ d.outKtype = 3 ∨ d.outPnw = 3 ∨ (d.alg = 3 ∧ d.outKtype ≠ 0) then some sealCfgRange
    else none
  else if d.op = 7 then
    if d.len = 0 then some sealZeroLength else if 1048576 < d.len ∨ d.aadLen ≠ 0 then some sealCfgRange else none
  else if d.op = 8 then
    if d.len = 0 then some sealZeroLength else if d.len ≠ 80 ∨ d.aadLen ≠ 0 then some sealCfgRange else none
  else if 65536 < d.len ∨ d.aadLen ≠ 0 then some sealCfgRange else none

/-- Bytes of the SRC range. -/
def SealDesc.srcLen (d : SealDesc) : Nat :=
  if d.op = 2 ∨ d.op = 4 then d.aadLen + d.len + d.tagLen
  else if d.op = 7 then 16 + 64 + d.len
  else if d.op = 9 then 0
  else d.aadLen + d.len

/-- Bytes of the DST range: what a failed DECRYPT or an abort overwrites with zeros is the same range. -/
def SealDesc.dstLen (d : SealDesc) : Nat :=
  if d.op = 1 then d.len + d.tagLen
  else if d.op = 2 then d.len
  else if d.op = 5 then 48
  else if d.op = 7 then d.len + 48
  else if d.op = 8 then 3584
  else if d.op = 9 then d.len
  else 0

/-- The nonce of R582: fixed bytes, then the packet number, big-endian. -/
def SealDesc.nonceOf (d : SealDesc) (pn : Nat) : List Byte := d.nonce.take (d.nonceLen - 8) ++ beBytes 8 pn

/-- The key types that suit the operation (R570, R584). -/
def SealDesc.suits (d : SealDesc) (kt : Nat) : Bool := if d.alg = 5 ∨ d.alg = 7 then decide (kt = 2) else decide (kt ≤ 1)

/-- The SealOp of a descriptor that ends with `status` and does nothing else. -/
def SealDesc.ends (d : SealDesc) (status : Nat) : SealOp :=
  { op := d.op, status := status, slot := none, slotNo := d.slot, gen := 0, pn := 0, dst := d.dst, dstLen := 0, out := [],
    tag := [], cookie := d.cookie }

/-- The first `n` bytes of a tag. -/
def tagBytes (f : Nat → Byte) (n : Nat) : List Byte := (List.range n).map f

/-- `n` bytes of the random generator, and the state that has drawn them (R588). -/
def State.randomBytes (s : State) (n : Nat) : List Byte × State :=
  (((List.range (n / 32 + 1)).flatMap (fun i => leBytes 32 (Config.random (s.keys.drawn + i)).toNat)).take n,
   { s with keys := { s.keys with drawn := s.keys.drawn + n / 32 + 1 } })

/-- The sealing key of a section with a LABEL (R590): none without an identity. -/
def State.sealingKey (s : State) (label : List Byte) : Option (BitVec 256) :=
  match if s.keys.idLoaded then s.fuses.identity else none, s.keyHash with
  | some seed, some h => some (Config.hkdf seed (leBytes 48 h.toNat) (asciiBytes "VK-SEAL" ++ label))
  | _, _ => none

/-- The report of ATTEST without its signatures: bytes 0 to 207 (R592). -/
def State.attestBody (s : State) (nonce user : List Byte) : List Byte :=
  leBytes 4 0x54535441 ++ leBytes 2 1 ++ leBytes 1 s.fuses.lcBits ++
  leBytes 1 (s.fld F.SYSCTL_BOOT_STATUS_UNBOUND + 2 * s.fld F.SYSCTL_BOOT_STATUS_RESUMED + 4 * (s.keys.dbgSeen % 4) +
    16 * bit s.keys.zeroised + 32 * bit s.keys.retFailed) ++
  leBytes 4 (s.rd A.SYSCTL_CHIP_ID).toNat ++ leBytes 4 (s.rd A.SYSCTL_IMG_SEQ).toNat ++
  leBytes 1 (s.fld F.SYSCTL_SVN_IMAGE_SVN) ++ leBytes 1 s.fuses.rb0 ++ leBytes 1 s.fuses.rb1 ++ leBytes 1 s.fuses.rb2 ++
  leBytes 1 s.fuses.rb3 ++ leBytes 3 0 ++
  ofItems ((List.range 12).map (fun n => s.rd (A.KEYS_DEVICE_ID n))) ++
  ofItems ((List.range 12).map (fun n => s.rd (A.SYSCTL_IMAGE_DIGEST n))) ++
  nonce ++ leBytes 8 s.now ++ user

/-- The report of ATTEST (R592). -/
def State.attestReport (s : State) (seed : BitVec 256) (nonce user : List Byte) : List Byte :=
  let body := s.attestBody nonce user
  let msg := leBytes 48 (Config.sha384 body).toNat
  body ++ leBytes 64 (Config.ed25519Sign (edSecret seed) msg).toNat ++
    leBytes 3309 (Config.mldsaSign (mldsaSecret seed) msg).toNat ++ leBytes 3 0

/-! ### Starting an operation -/

/-- The packet number of a firmware operation that takes one: the next, or the explicit one (R574, R575). -/
def State.takePn (s : State) (d : SealDesc) : Except Nat Nat × State :=
  let k := s.keySlot d.slot
  if k.state = keyExhausted then (.error sealPnExhausted, s.count C.SEAL_PN_EXHAUSTED)
  else if ¬ d.explicit then (.ok (k.txPn + 1), s.setTxPn d.slot (k.txPn + 1))
  else if d.pn ≤ k.txPn then (.error sealPnNotIncreasing, s.count C.SEAL_PN_REFUSED)
  else if pnLimit k.pnw < d.pn then (.error sealCfgRange, s)
  else (.ok d.pn, s.setTxPn d.slot d.pn)

/-- Count a key as loaded (R568). -/
def State.inflight (s : State) (n : Nat) : State :=
  let k := s.keySlot n
  s.setKeySlot n { k with inflight := k.inflight + 1 }

/-- ENCRYPT, DECRYPT, MAC, VERIFY with a key that passes R570. -/
def State.sealKeyed (s : State) (d : SealDesc) : SealOp × State :=
  let b := s.dmaBytes d.src d.srcLen
  let aad := b.take d.aadLen
  let body := slice b d.aadLen d.len
  let given := slice b (d.aadLen + d.len) d.tagLen
  let key := (s.keySlot d.slot).key
  let gen := s.keyGen d.slot
  let base : SealOp := { d.ends sealOk with slot := some d.slot, gen := gen, dstLen := d.dstLen }
  if d.op = 1 ∨ d.op = 3 then
    match s.takePn d with
    | (.error e, s1) => (d.ends e, s1)
    | (.ok pn, s1) =>
      let nonce := if d.noncey then d.nonceOf pn else []
      let out := if d.op = 1 then (List.range d.len).map (Config.cipher d.alg key nonce aad body) else body
      let tag := tagBytes (Config.tag d.alg key nonce aad out) d.tagLen
      ({ base with pn := pn, out := if d.op = 1 then out ++ tag else [], tag := if d.op = 3 then tag else [] },
        s1.inflight d.slot)
  else
    let nonce := if d.noncey then d.nonceOf d.pn else []
    let tag := tagBytes (Config.tag d.alg key nonce aad body) d.tagLen
    let good := decide (tag = given)
    let out := if d.op = 4 then [] else if good then (List.range d.len).map (Config.cipher d.alg key nonce aad body)
      else List.replicate d.len 0
    ({ base with pn := d.pn, status := if good then sealOk else sealTagFail, out := out, tag := if good then [] else tag },
      s.inflight d.slot)

/-- DERIVE (R584): CMAC over SRC, or HKDF with its salt in the AAD. -/
def State.sealDerive (s : State) (d : SealDesc) : SealOp × State :=
  let b := s.dmaBytes d.src d.srcLen
  let parent := (s.keySlot d.slot).key
  let whole : BitVec 256 :=
    if d.alg = 3 then BitVec.ofNat 256 (leNat (tagBytes (Config.tag 3 parent [] [] b) 16))
    else Config.hkdf parent (b.take d.aadLen) (b.drop d.aadLen)
  let key := if d.outKtype = 0 then BitVec.ofNat 256 (whole.toNat % 2 ^ 128) else whole
  ({ d.ends sealOk with
      slot := some d.slot, gen := s.keyGen d.slot,
      derive := some { slot := d.outSlot, erase := false, key := key, ktype := d.outKtype, pnw := d.outPnw,
                       use := d.outUse, pn := 0 } },
    s.inflight d.slot)

/-- SEAL_CREATE (R590): a whole body of R118 under the device's sealing key. -/
def State.sealCreate (s : State) (d : SealDesc) : SealOp × State :=
  let b := s.dmaBytes d.src d.srcLen
  let label := b.take 16
  let aad := slice b 16 16 ++ List.replicate 48 0
  let plain := b.drop 80
  match s.sealingKey label with
  | none => (d.ends sealKeyEmpty, s)
  | some key =>
    let (nonce, s1) := s.randomBytes 12
    let ct := (List.range d.len).map (Config.cipher 2 key nonce aad plain)
    ({ d.ends sealOk with
        dstLen := d.dstLen,
        out := label ++ nonce ++ leBytes 4 0 ++ ct ++ tagBytes (Config.tag 2 key nonce aad ct) 16 }, s1)

/-- The operation a descriptor starts, in the order of checks debug, life cycle, lengths, entropy, addresses, key,
packet number (R570, R582 to R585, R588, R592; notes/assumptions/19.md). -/
def State.sealPlan (s : State) (d : SealDesc) : SealOp × State :=
  let level := s.fld F.DBG_STATUS_LEVEL
  let lc := s.fuses.lcBits
  if 2 ≤ level ∧ (d.namesSlot ∨ d.op = 7 ∨ d.op = 8) then (d.ends sealDebugActive, s.count C.SEAL_DEBUG_REFUSED)
  else if (d.op = 7 ∨ d.op = 8) ∧ lc ≠ 1 ∧ lc ≠ 2 then (d.ends sealLifecycle, s)
  else match d.lengthFault with
    | some e => (d.ends e, s)
    | none =>
      if (d.op = 7 ∨ (d.op = 9 ∧ d.len ≠ 0)) ∧ ¬ s.flag F.KEYS_ENTROPY_HEALTH_OK then (d.ends sealEntropyFail, s)
      else if ¬ s.rangeMapped d.src d.srcLen ∨ ¬ s.rangeMapped d.dst d.dstLen then (d.ends sealBadAddr, s)
      else if d.namesSlot then
        match s.keyCheck d.slot (if d.op = 6 then 4 else 3) d.suits with
        | some e => (d.ends e.status, s)
        | none => if d.op = 6 then s.sealDerive d else s.sealKeyed d
      else if d.op = 5 then
        ({ d.ends sealOk with
            dstLen := 48, out := leBytes 48 (Config.sha384 (s.dmaBytes d.src d.len)).toNat }, s)
      else if d.op = 7 then s.sealCreate d
      else if d.op = 8 then
        match if s.keys.idLoaded then s.fuses.identity else none with
        | none => (d.ends sealKeyEmpty, s)
        | some seed =>
          let b := s.dmaBytes d.src 80
          ({ d.ends sealOk with dstLen := 3584, out := s.attestReport seed (b.take 32) (b.drop 32) }, s)
      else
        let (bs, s1) := s.randomBytes d.len
        if d.len = 0 then (d.ends sealOk, s) else ({ d.ends sealOk with dstLen := d.len, out := bs }, s1)

/-- The ring is in use and holds a descriptor that is not yet taken (R581). -/
def State.sealReady (s : State) : Bool :=
  s.flag F.SEAL_FW_CFG_EN && decide (s.fld F.SEAL_FW_IDX_PI ≠ s.fld F.SEAL_FW_IDX_CI) && s.sealer.cur.isNone

/-- Take the next descriptor: an operation on a PENDING slot stalls, once in KEY_STALLS (R572); else it starts. The fetch of
a descriptor from a hole in memory is logged (R125). -/
def State.sealTake (s0 : State) : State :=
  let d := s0.sealDesc
  let s := if s0.sealer.stalled then s0 else s0.logDma s0.sealDescAt 64
  if d.namesSlot ∧ s.keyWaits d.slot ∧ (s.keySlot d.slot).state ≠ keyEmpty then
    if s.sealer.stalled then s
    else ({ s with sealer := { s.sealer with stalled := true } }).count C.KEYS_KEY_STALLS
  else
    let (o, s1) := s.sealPlan d
    ({ s1 with sealer := { cur := some o, stalled := false } }).setFld F.SEAL_PIPE_STATUS_BUSY
      (s1.fld F.SEAL_PIPE_STATUS_BUSY ||| 16)

/-- A firmware operation with code `op` reaches P4: the ring's next descriptor must carry it. A descriptor whose OP the
spec does not list is taken by whichever command comes, and ends `CFG_RANGE`. -/
def State.sealCommand (s : State) (op : Nat) : State :=
  let d := s.sealDesc
  if s.sealReady ∧ s.takesWork 0x07 ∧ (d.op = op ∨ d.op = 0 ∨ 9 < d.op) then s.sealTake else s

/-- ENCRYPT (R584). -/
def execEncrypt (s : State) : Host.Outcome State Fault Refusal := .next (s.sealCommand 1)
/-- DECRYPT (R580, R584). -/
def execDecrypt (s : State) : Host.Outcome State Fault Refusal := .next (s.sealCommand 2)
/-- MAC (R584). -/
def execMac (s : State) : Host.Outcome State Fault Refusal := .next (s.sealCommand 3)
/-- VERIFY (R580, R584). -/
def execVerify (s : State) : Host.Outcome State Fault Refusal := .next (s.sealCommand 4)
/-- HASH (R584). -/
def execHash (s : State) : Host.Outcome State Fault Refusal := .next (s.sealCommand 5)
/-- DERIVE (R584). -/
def execDerive (s : State) : Host.Outcome State Fault Refusal := .next (s.sealCommand 6)
/-- SEAL_CREATE (R590). -/
def execSealCreate (s : State) : Host.Outcome State Fault Refusal := .next (s.sealCommand 7)
/-- ATTEST (R592). -/
def execAttest (s : State) : Host.Outcome State Fault Refusal := .next (s.sealCommand 8)
/-- RANDOM (R584, R588). -/
def execRandom (s : State) : Host.Outcome State Fault Refusal := .next (s.sealCommand 9)

/-- CHANGE_LANDED (R572, R573): INFLIGHT of the slot has reached zero, and the change lands; for ZEROISE that of every
slot. A stalled operation then starts, also where an inline user's operation has found the change landed
(notes/assumptions/17.md). -/
def execChangeLanded (s : State) : Host.Outcome State Fault Refusal :=
  s.whenWorks 0x06 <|
  let go := fun (t : State) => if t.sealer.stalled then t.sealTake else t
  match s.keys.change with
  | some c => if (s.keySlot c.slot).inflight = 0 then .next (go (s.landChange c)) else .next s
  | none =>
    if s.keys.zeroise ∧ s.keys.slots.all (fun e => decide (e.2.inflight = 0)) ∧ s.sealer.cur.isNone then
      .next (go s.landZeroise)
    else .next (if s.keys.zeroise then s else go s)

/-- The 32 bytes of a completion (R583). -/
def SealOp.completion (o : SealOp) : List Byte :=
  leBytes 4 o.cookie ++ leBytes 4 (o.status + o.gen * 2 ^ 8 + o.slotNo * 2 ^ 16) ++ leBytes 8 o.pn ++
  (o.tag ++ List.replicate (16 - o.tag.length) 0)

/-- The completion ring has room (R277, R547). -/
def State.sealCqRoom (s : State) : Bool :=
  decide ((s.fld F.SEAL_CQ_IDX_CQ_PI + 65536 - s.fld F.SEAL_CQ_IDX_CQ_CI) % 65536 < s.fld F.SEAL_FW_CFG_SIZE)

/-- The end of the operation o (R580, R581, R583): DST and the completion are written, INFLIGHT falls, the vector is
raised; a DERIVE asks for its change of slot. -/
def State.sealFinish (s : State) (o : SealOp) : State :=
  let s1 := if o.dstLen = 0 then s else s.dmaWrite o.dst o.out
  let cq := s1.rd64 A.SEAL_CQ_BASE_LO A.SEAL_CQ_BASE_HI +
    32 * (s1.fld F.SEAL_CQ_IDX_CQ_PI % s1.fld F.SEAL_FW_CFG_SIZE)
  let s2 := s1.dmaWrite cq o.completion
  let s3 := (s2.setFld F.SEAL_FW_IDX_CI (s2.fld F.SEAL_FW_IDX_CI + 1)).setFld F.SEAL_CQ_IDX_CQ_PI
    (s2.fld F.SEAL_CQ_IDX_CQ_PI + 1)
  let s4 := match o.slot with
    | some n => s3.setKeySlot n { s3.keySlot n with inflight := (s3.keySlot n).inflight - 1 }
    | none => s3
  let s5 := match o.derive with
    | some c => s4.beginChange c
    | none => s4
  let s6 := (({ s5 with sealer := { cur := none, stalled := false } }).setFld F.SEAL_PIPE_STATUS_BUSY
    (s5.fld F.SEAL_PIPE_STATUS_BUSY &&& 15)).count C.SEAL_FW_OPS
  let s7 := if o.status = sealTagFail then s6.count C.SEAL_TAG_FAIL else s6
  s7.raise (s7.fld F.SEAL_FW_CFG_VECTOR)

/-- SEAL_COMPLETION (R580, R581, R583): the operation in progress ends; it waits for room in the completion ring, and a
DERIVE for a change of slot that runs. -/
def execSealCompletion (s : State) : Host.Outcome State Fault Refusal :=
  s.whenWorks 0x07 <|
  match s.sealer.cur with
  | none => .next s
  | some o => if ¬ s.sealCqRoom ∨ (o.derive.isSome ∧ s.flag F.KEYS_STATUS_BUSY) then .next s else .next (s.sealFinish o)

/-- SYSCTL.ABORT of the operation on the firmware pipeline (R585): it ends `ABORTED` with zeros over its DST range and
keeps the packet number it took; its completion waits for room in the ring. -/
def State.abortSeal (s : State) : State :=
  let quit := fun (t : State) (o : SealOp) =>
    let z : SealOp := { o with status := sealAborted, out := List.replicate o.dstLen 0, tag := [], derive := none }
    if t.sealCqRoom then t.sealFinish z
    else { (if z.dstLen = 0 then t else t.dmaWrite z.dst z.out) with sealer := { cur := some z, stalled := false } }
  match s.sealer.cur with
  | some o => quit s o
  | none => if s.sealer.stalled then quit s { s.sealDesc.ends sealAborted with dstLen := s.sealDesc.dstLen } else s

/-- An error in the memory of slot n (R569): a single-bit one is corrected and counted; a double-bit one empties the slot, is reported,
and ends an operation that names the slot with `KEY_EMPTY`, which writes nothing more to its DST range
(notes/assumptions/131.md). -/
def State.keyEcc (s : State) (n : Nat) (double : Bool) : State :=
  if ¬ double then s.count C.KEYS_ECC_CORRECTED
  else
    let s1 := match s.sealer.cur with
      | some o =>
        let z : SealOp := { o with status := sealKeyEmpty, dstLen := 0, out := [], tag := [], derive := none }
        if o.slot ≠ some n then s
        else if s.sealCqRoom then s.sealFinish z else { s with sealer := { cur := some z, stalled := false } }
      | none => s
    let s2 := if isDevice n then { s1 with keys := { s1.keys with idLoaded := false } }
      else s1.setKeySlot n { gen := (s1.keySlot n).gen }
    s2.present 0x38 n

/-! ### Entropy (R588) -/

/-- ENTROPY: a continuous health test fails. -/
def execEntropy (s : State) : Host.Outcome State Fault Refusal :=
  s.whenWorks 0x06 <|
  .next (((s.setFld F.KEYS_ENTROPY_HEALTH_OK 0).setFld F.KEYS_ENTROPY_FAILS
    (min 65535 (s.fld F.KEYS_ENTROPY_FAILS + 1))).present 0x3B 0)

/-- HEALTH_OK: a later test passes. -/
def execHealthOk (s : State) : Host.Outcome State Fault Refusal :=
  s.whenWorks 0x06 (.next (s.setFld F.KEYS_ENTROPY_HEALTH_OK 1))

/-! ### Life cycle (R593 to R595) -/

/-- An LC_CMD ends with a result, and has run until the next tick (R606). -/
def State.lcResult (s : State) (r : Nat) : State := (s.setFld F.KEYS_LC_STATUS_RESULT r).setFld F.KEYS_LC_STATUS_BUSY 1

/-- The staged owner hash. -/
def State.stagedHash (s : State) : BitVec 384 :=
  BitVec.ofNat 384 ((List.range 12).foldl (fun acc i => acc + (s.rd (A.KEYS_OWNER_HASH i)).toNat * 2 ^ (32 * i)) 0)

/-- The power is lost (R64, R595). -/
def State.powerLost (s : State) : State :=
  let b := s.coldBase
  { b with power := { b.power with mode := .off } }

/-- A level may be granted in the life-cycle state (R601). -/
def levelAllowed (lc level : Nat) : Bool :=
  decide (1 ≤ level) && decide (level ≤ (if lc = 0 ∨ lc = 3 then 3 else if lc = 1 then 2 else if lc = 2 then 1 else 0))

/-- A grant that the life-cycle state does not allow has ended (R594, R601). -/
def State.trimGrant (s : State) : State :=
  let l := s.fld F.DBG_STATUS_LEVEL
  if l = 0 ∨ levelAllowed s.fuses.lcBits l then s else s.endGrant

/-- PROVISION (R594, R595): IDSEED, the owner hash, bit 1. `cut`: the power is lost after IDSEED (`false`) or after the
owner hash (`true`). -/
def execProvision (vpp : Bool) (cut : Option Bool) (s : State) : Host.Outcome State Fault Refusal :=
  .next (s.ownWrite A.KEYS_LC_CMD (.provision vpp cut) (fun s =>
    if s.fuses.lcBits ≠ 0 then s.lcResult 2
    else if ¬ vpp then s.lcResult 3
    else if ¬ s.flag F.KEYS_ENTROPY_HEALTH_OK then s.lcResult 5
    else if s.fuses.idSeed.isSome ∨ s.fuses.hashBlown then s.lcResult 4
    else
      let f1 := { s.fuses with idSeed := some (Config.random s.keys.drawn) }
      let f2 := { f1 with ownerHash := s.stagedHash, hashBlown := true }
      let s1 := { s with keys := { s.keys with drawn := s.keys.drawn + 1 } }
      match cut with
      | some false => ({ s1 with fuses := f1 }).powerLost
      | some true => ({ s1 with fuses := f2 }).powerLost
      | none => (({ s1 with fuses := { f2 with lcBits := 1 } }).showFuses.trimGrant).lcResult 1))

/-- DEPLOY (R594). -/
def execDeploy (vpp : Bool) (s : State) : Host.Outcome State Fault Refusal :=
  .next (s.ownWrite A.KEYS_LC_CMD (.deploy vpp) (fun s =>
    if s.fuses.lcBits ≠ 1 then s.lcResult 2
    else if ¬ vpp then s.lcResult 3
    else (({ s with fuses := { s.fuses with lcBits := 2 } }).showFuses.trimGrant).lcResult 1))

/-! ### Debug unlock (R596 to R599) -/

/-- Results of DBG.STATUS (R608). -/
def State.dbgResult (s : State) (r : Nat) : State := s.setFld F.DBG_STATUS_RESULT r

/-- NEW_CHAL (R596, R588). -/
def execNewChal (s : State) : Host.Outcome State Fault Refusal :=
  s.whenWorks 0x06 <|
  if ¬ s.flag F.KEYS_ENTROPY_HEALTH_OK then .next (s.dbgResult 8)
  else
    let s1 := s.wrWords (A.DBG_CHAL 0) 8 (Config.random s.keys.drawn).toNat
    .next (({ s1 with keys := { s1.keys with drawn := s1.keys.drawn + 1, chalTime := some s.time.tick } }).dbgResult 1)

/-- The bytes of DBG.MAIL (R608). -/
def State.mail (s : State) (off n : Nat) : List Byte :=
  slice (ofItems ((List.range ((n + 7) / 4)).map (fun i => s.rd (A.DBG_MAIL (off / 4 + i))))) (off % 4) n

/-- The current challenge, as bytes. -/
def State.challenge (s : State) : List Byte := ofItems ((List.range 8).map (fun n => s.rd (A.DBG_CHAL n)))

/-- The device's DEVICE_ID, as bytes; zeros in a state without an identity (R596). -/
def State.deviceIdBytes (s : State) : List Byte :=
  if s.fuses.lcBits = 1 ∨ s.fuses.lcBits = 2 then
    match s.fuses.identity with
    | some seed => leBytes 48 (deviceId seed).toNat
    | none => List.replicate 48 0
  else List.replicate 48 0

/-- An ACTION is allowed in the life-cycle state (R594, R601). -/
def actionAllowed (lc action : Nat) : Bool :=
  if action = 8 then decide (lc = 1 ∨ lc = 2) else if action = 9 then decide (lc < 4) else levelAllowed lc action

/-- The first failure of a SUBMIT (R597). -/
def State.submitFault (s : State) : Option Nat :=
  let msg := leBytes 48 (Config.sha384 (s.mail 0 88)).toNat
  let fresh : Bool := match s.keys.chalTime with
    | some t => decide (s.now ≤ t.toNat + 60000 * Config.ticksPerMs)
    | none => false
  if ¬ fresh ∨ s.mail 8 32 ≠ s.challenge then some 2
  else match s.keyHash with
    | none => some 3
    | some h =>
      if Config.sha384 (s.mail 88 1984) ≠ h ∨ s.mail 40 48 ≠ s.deviceIdBytes then some 3
      else if ¬ (Config.ed25519Verify (s.mail 88 32) msg (s.mail 2072 64) ∧
          Config.mldsaVerify (s.mail 120 1952) msg (s.mail 2136 3309)) then some 4
      else if ¬ actionAllowed s.fuses.lcBits (leNat (s.mail 0 1)) then some 5
      else none

/-- A transition to RETURNED or SCRAPPED (R594, R595): ZEROISE, the identity-kill fuse, the state bits. `cut`: the power is lost when
so many state bits have been blown. -/
def State.retire (s : State) (bits : Nat) (cut : Option (BitVec 3)) : State :=
  let s1 := ({ s with keys := s.keys.wiped, sealer := s.sealer.endDeviceOp }).count C.KEYS_CHANGES_LANDED
  match cut with
  | some n => { s1 with fuses := { s1.fuses with idKilled := true, lcBits := min bits (s1.fuses.lcBits + n.toNat) } }.powerLost
  | none =>
    ((({ s1 with fuses := { s1.fuses with idKilled := true, lcBits := bits } }).showFuses.trimGrant).hideIdentity).setFld
      F.KEYS_STATUS_BUSY 0

/-- SUBMIT (R597, R598, R594): verification runs until the next tick (R608). -/
def execSubmit (vpp : Bool) (cut : Option (BitVec 3)) (s : State) : Host.Outcome State Fault Refusal :=
  s.whenUp <|
  let used := { s with keys := { s.keys with chalTime := none } }.setFld F.DBG_STATUS_BUSY 1
  let fails := min 255 (s.keys.fails + 1)
  let fail := fun (r : Nat) =>
    (({ used with keys := { used.keys with fails := fails } }).setFld F.DBG_STATUS_FAILS fails).dbgResult r
  let action := leNat (s.mail 0 1)
  if s.flag F.DBG_STATUS_BUSY then .next (s.refuse A.DBG_CMD .cfgRange)
  else if 8 ≤ s.keys.fails then .next (fail 6)
  else match s.submitFault with
    | some r => .next (fail r)
    | none =>
      if action = 8 ∨ action = 9 then
        if ¬ vpp then .next (used.dbgResult 7)
        else if cut.isSome then .next (used.retire (if action = 8 then 3 else 4) cut)
        else .next ((used.retire (if action = 8 then 3 else 4) none).dbgResult 1)
      else if action = 3 then
        .next (({ used with keys := { used.keys with d3Waits := true } }.askZeroise).dbgResult 1)
      else .next ((used.grant action).dbgResult 1)

/-- DROP (R599). -/
def execDrop (s : State) : Host.Outcome State Fault Refusal :=
  s.whenUp (.next s.endGrant)

end Sys2Proof.Machine
end

