-- ==== Sys2Proof/Machine/FaultOps.lean ====
section
/-! DEFINITION. FAULT's judgement, spares and aborts (spec/18_faults_availability.md R648 to R670). -/

namespace Sys2Proof.Machine

/-- Update FAULT. -/
def State.modFlt (s : State) (f : FaultSt → FaultSt) : State := { s with flt := f s.flt }

/-! ### Sources (R649) -/

/-- Source numbers in use. -/
def sourceUsed (n : Nat) : Bool :=
  decide (1 ≤ n ∧ n ≤ 0x0C) || decide (0x10 ≤ n ∧ n ≤ 0x14) || decide (0x18 ≤ n ∧ n ≤ 0x1A) ||
  decide (0x20 ≤ n ∧ n ≤ 0x26) || decide (0x28 ≤ n ∧ n ≤ 0x2A) || decide (0x30 ≤ n ∧ n ≤ 0x35) ||
  decide (0x38 ≤ n ∧ n ≤ 0x3C) || decide (n = 0x40)

/-- U sources: faults of a unit. -/
def sourceUnit (n : Nat) : Bool := [0x05, 0x08, 0x0A, 0x0B, 0x10, 0x12, 0x13].contains n

/-- Sources whose map may hold RETIRE. -/
def mayRetire (n : Nat) : Bool := [0x08, 0x0A, 0x0B, 0x12, 0x13].contains n

/-- Sources whose map may hold ABORT. -/
def mayAbort (n : Nat) : Bool := [0x10, 0x11, 0x12, 0x13, 0x30, 0x31, 0x32].contains n

/-- Reaction codes (R655). -/
def reactLog : Nat := 0
/-- NOTIFY. -/
def reactNotify : Nat := 1
/-- RETIRE. -/
def reactRetire : Nat := 2
/-- ABORT. -/
def reactAbort : Nat := 3
/-- RESET. -/
def reactReset : Nat := 4

/-- Raise FAULT.CTRL.VECTOR (R655). -/
def State.faultNotify (s : State) : State := s.raise (s.fld F.FAULT_CTRL_VECTOR)

/-! ### Judgement (R657) -/

/-- THRESH of a source: SRAM_CE's reset value of 16 stands until its map is written (notes/assumptions/72.md). -/
def State.threshOf (s : State) (src : Nat) : Nat :=
  if src = 0x0A ∧ s.flt.ceDefault then 16 else s.fld (F.FAULT_MAP_THRESH src)

/-- Earlier events of the unit within WINDOW_MS. -/
def State.recentEvents (s : State) (src unit : Nat) : Nat :=
  (s.flt.history.filter (fun h => decide (h.1 = src ∧ h.2.1 = unit) &&
    decide (s.now ≤ h.2.2.toNat + s.fld (F.FAULT_MAP_WINDOW_MS src) * (1000 * Config.ticksPerUs)))).length

/-- The event is judged permanent. -/
def State.judge (s : State) (e : FaultEv) : Bool :=
  e.perm || (decide (s.threshOf e.src ≠ 0) && decide (s.threshOf e.src ≤ s.recentEvents e.src e.unit + 1))

/-- Keep the times of the last 15 events of each unit. -/
def keepLast15 (src unit : Nat) : Nat → List (Nat × Nat × DWord) → List (Nat × Nat × DWord)
  | _, [] => []
  | n, h :: rest =>
    if h.1 = src ∧ h.2.1 = unit then
      (if n = 0 then keepLast15 src unit 0 rest else h :: keepLast15 src unit (n - 1) rest)
    else h :: keepLast15 src unit n rest

/-- Enter an event in its unit's history. -/
def State.remember (s : State) (e : FaultEv) : State :=
  s.modFlt (fun x => { x with history := keepLast15 e.src e.unit 15 ((e.src, e.unit, s.time.tick) :: x.history) })

/-! ### Records (R650, R652, R653) -/

/-- Write an event's record to the log and to FIRST. -/
def State.logFault (s : State) (e : FaultEv) (perm : Bool) (action : Nat) : State :=
  let ws : List Word :=
    [BitVec.ofNat 32 (bit e.inj * 2 ^ 31 + bit perm * 2 ^ 30 + action * 2 ^ 27 + e.src), BitVec.ofNat 32 e.unit,
     BitVec.ofNat 32 s.now, BitVec.ofNat 32 (s.now / 2 ^ 32)]
  let put := fun (t : State) (f : Nat → Nat) => (List.range 4).foldl (fun u k => u.wr (f k) (ws.getD k 0)) t
  let w := s.fld F.FAULT_LOG_IDX_WR
  let rd := s.fld F.FAULT_LOG_IDX_RD
  let s1 := (put s (A.FAULT_LOG (w % 64))).setFld F.FAULT_LOG_IDX_WR ((w + 1) % 2 ^ 16)
  let s2 := if 64 ≤ (w + 2 ^ 16 - rd) % 2 ^ 16 then
      (s1.setFld F.FAULT_LOG_IDX_RD ((rd + 1) % 2 ^ 16)).count C.FAULT_LOG_LOST
    else s1
  if s.flag F.FAULT_STATE_FIRST_VALID then s2.setFld F.FAULT_STATE_OVERFLOW 1
  else (put s2 A.FAULT_FIRST).setFld F.FAULT_STATE_FIRST_VALID 1

/-! ### Spares: cores (R660, R661) -/

/-- Set RETIRE_RESULT. -/
def State.retireResult (s : State) (r : Nat) : State := s.setFld F.FAULT_STATE_RETIRE_RESULT r

/-- RETIRE_BUSY (R673): a core's spare is coming in, or a bank is being copied. -/
def State.syncRetire (s : State) : State :=
  s.setFld F.FAULT_STATE_RETIRE_BUSY
    (bit (s.flt.coreMove.isSome || (List.range 4).any (fun k => s.flag (F.FAULT_SRAM_SPARE_COPYING k))))

/-- SW_ENTRY is not 0. -/
def State.swEntrySet (s : State) : Bool :=
  decide (s.rd A.DISPATCH_SW_ENTRY_LO ≠ 0) || s.flag F.DISPATCH_SW_ENTRY_HI_ADDR

/-- Core 8 is neither active nor retired, and is not coming in for another core. -/
def State.spareCore (s : State) : Bool := s.flt.coreMove.isNone && !s.coreActive 8 && !(s.fld F.DISPATCH_CORE_MAP_RETIRED).testBit 8

/-- Core c may be retired: it is not, and another core is active (R657, R661, R664). -/
def State.coreRetirable (s : State) (c : Nat) : Bool :=
  !(s.fld F.DISPATCH_CORE_MAP_RETIRED).testBit c && allCores.any (fun k => decide (k ≠ c) && s.coreActive k)

/-- Take core c out of every thread's AFFINITY; with `spare`, core 8 takes its place (R613, R661). -/
def State.moveAffinity (s : State) (c : Nat) (spare : Bool) : State :=
  (List.range 1024).foldl (fun t n =>
    let a := t.fld (F.DISPATCH_TH_W0_AFFINITY n)
    if a.testBit c then
      let b := a - 2 ^ c
      t.setFld (F.DISPATCH_TH_W0_AFFINITY n) (if spare then b ||| 2 ^ 8 else b)
    else t) s

/-- Suspend the thread on a core that is found faulty (R613, R629). -/
def State.faultThread (s : State) (c : Nat) : State :=
  match (s.core c).cur with
  | some t =>
    if s.thState t = thFree then s.modCore c (fun k => { k with cur := none, notified := false })
    else
      let s1 := (s.suspend t).setFld (F.DISPATCH_TH_W0_FAULTED t) 1
      (s1.modCore c (fun k => { k with cur := none, notified := false })).supItem t 1 c
  | none => s

/-- Retire core c (R660, R661, R664): its thread is suspended, and the spare comes in, or is held back for want of
SW_ENTRY, or there is none. -/
def State.retireCore (s : State) (c : Nat) : State :=
  let brings := s.coreActive c && decide (c ≠ 8) && s.spareCore && s.swEntrySet
  let s1 := s.faultThread c
  let s2 := (s1.setFld F.DISPATCH_CORE_MAP_RETIRED (s1.fld F.DISPATCH_CORE_MAP_RETIRED ||| 2 ^ c)).setFld
    F.DISPATCH_CORE_MAP_ACTIVE (s1.fld F.DISPATCH_CORE_MAP_ACTIVE &&& (0x1FF - 2 ^ c))
  let s3 := ((s2.moveAffinity c brings).syncCore c).count C.FAULT_RETIREMENTS
  if brings then (s3.modFlt (fun x => { x with coreMove := some c })).syncRetire
  else ((s3.modFlt (fun x => { x with spareHeld := x.spareHeld || (s.coreActive c && s3.spareCore) })).retireResult 3).present 0x09 c

/-- The held spare comes in at the first write that leaves SW_ENTRY not 0 (R661). -/
def State.swEntryHook (s : State) : State :=
  if s.flt.spareHeld ∧ s.swEntrySet ∧ s.spareCore then
    (s.modFlt (fun x => { x with spareHeld := false, coreMove := some 8 })).syncRetire
  else s

/-! ### Spares: shared SRAM banks (R662) -/

/-- The physical bank that serves logical bank b. -/
def State.physBank (s : State) (b : Nat) : Nat := sget (fun k => k) s.flt.bankMap b

/-- The logical bank that physical bank p serves. -/
def State.bankOf (s : State) (p : Nat) : Option Nat := (List.range 64).find? (fun b => decide (s.physBank b = p))

/-- The lowest-numbered free spare. -/
def State.freeSpare (s : State) : Option Nat :=
  (List.range 4).find? (fun k => !s.flag (F.FAULT_SRAM_SPARE_USED k) && !s.flt.worn.contains (64 + k))

/-- Logical bank b is being copied to a spare. -/
def State.copying (s : State) (b : Nat) : Bool :=
  (List.range 4).any (fun k => s.flag (F.FAULT_SRAM_SPARE_COPYING k) && decide (s.fld (F.FAULT_SRAM_SPARE_BANK k) = b))

/-- Retire the physical bank behind logical bank b. -/
def State.retireBank (s : State) (b : Nat) : State :=
  match s.freeSpare with
  | some k =>
    (((s.wr (A.FAULT_SRAM_SPARE k) (BitVec.ofNat 32 (3 * 2 ^ 30 + b))).count C.FAULT_RETIREMENTS)).syncRetire
  | none =>
    let s1 := s.retireResult 3
    if s.flt.noSpare.contains b then s1
    else (s1.modFlt (fun x => { x with noSpare := x.noSpare ++ [b] })).present 0x0C b

/-! ### Aborts (R667 to R670) -/

/-- The word that names a function. -/
def fnWord (f : Nat × Nat × Nat) : Nat := f.1 * 2 ^ 28 + f.2.1 * 2 ^ 24 + f.2.2

/-- The function exists (R667). -/
def fnExists (f : Nat × Nat × Nat) : Bool :=
  let (c, sub, i) := f
  if c = 3 then decide (sub ≤ 3) && decide (i < [8192, 256, 256, 32].getD sub 0)
  else decide (sub = 0) && decide (i < [0, 5, 1024, 0, 14, 4, 4, 1].getD c 0)

/-- The function that an ABORT reaction names (R649, R655). -/
def abortFn (src unit : Nat) : Option (Nat × Nat × Nat) :=
  if src = 0x10 ∨ src = 0x11 then some (6, 0, unit)
  else if src = 0x12 then some (6, 0, unit / 256 % 16)
  else if src = 0x13 then some (4, 0, unit)
  else if src = 0x30 then some (5, 0, unit)
  else if src = 0x31 ∨ src = 0x32 then some (5, 0, unit / 16 % 16)
  else none

/-- A radio stops (R669): what is on air is cut, the reception is abandoned, and commands not started end as `TX_LATE`
does; Nguord frames stay queued. -/
def State.stopRadio (s : State) (r : Nat) : State :=
  let s1 := (s.cutAir r).dropAny r
  (s1.radio r).cmds.foldl (fun t c => t.txLate r c) s1

/-- What an abort does as it begins: a radio stops at once (R669), and a thread is SUSPENDED, so that its core takes the switch
interrupt and the next NEXT read takes it off (R630). -/
def State.abortBegins (s : State) (f : Nat × Nat × Nat) : State :=
  if f.1 = 6 then s.stopRadio f.2.2
  else if f.1 = 2 ∧ s.thState f.2.2 ≠ thFree then s.suspend f.2.2
  else s

/-- The bound of an abort, in µs (R667). -/
def abortBound (cls : Nat) : Nat := [0, 2, 20, 50, 20, 100, 200, 500].getD cls 0

/-- `tenths` of the bound of the abort that runs have passed (R668). -/
def State.abortPast (s : State) (cls tenths : Nat) : Bool :=
  decide (10 * s.flt.abortAt.toNat + tenths * abortBound cls * Config.ticksPerUs ≤ 10 * s.now)

/-- A function reaches its quiescent state and raises its completion vector (R667). -/
def State.quiesce (s : State) (f : Nat × Nat × Nat) : State :=
  let (c, sub, i) := f
  match c with
  | 1 => if i = 4 then s.abortSeal else s
  | 2 => s.abortThread i
  | 3 =>
    (match sub with
     | 0 => (s.flushQueue i).raiseUnit .tmQueue i
     | 1 => s.abortRing false i
     | 2 => s.abortRing true i
     | _ => s.abortFifo i)
  | 4 => (s.stopEngine i).raiseUnit .ldpc i
  | 5 => s.abortPort i
  | 6 =>
    let s1 := s.stopRadio i
    (if (s1.radio i).seq = .off then s1 else s1.calFull i).raiseUnit .radio i
  | _ => s.abortDramc

/-- Start an abort. -/
def State.abortStart (s : State) (f : Nat × Nat × Nat) : State :=
  (((s.modFlt (fun x => { x with abort := some f, abortAt := s.time.tick, abortForced := false })).setFld F.SYSCTL_ABORT_STATUS_BUSY 1).setFld
    F.SYSCTL_ABORT_STATUS_RESULT 0).abortBegins f

/-- The queue of aborts that FAULT has issued, with its length shown (R670). -/
def State.setAbortQ (s : State) (q : List (Nat × Nat × Nat × Bool)) : State :=
  (s.modFlt (fun x => { x with abortQ := q })).setFld F.SYSCTL_ABORT_STATUS_QUEUED q.length

/-- Put an abort in the order of R658: real ones ahead of injected ones. -/
def enqueueAbort (q : List (Nat × Nat × Nat × Bool)) (f : Nat × Nat × Nat) (inj : Bool) : List (Nat × Nat × Nat × Bool) :=
  let x := (f.1, f.2.1, f.2.2, inj)
  if inj then q ++ [x] else q.filter (fun y => !y.2.2.2) ++ [x] ++ q.filter (fun y => y.2.2.2)

/-- An abort reaction (R670): it starts, merges with the running abort of the same function, or waits; none if it
cannot act. -/
def State.faultAbort (s : State) (f : Nat × Nat × Nat) (inj : Bool) : Option State :=
  if ¬ fnExists f then none
  else
    match s.flt.abort with
    | none => some (s.abortStart f)
    | some g =>
      if g = f then some s
      else if 16 ≤ s.flt.abortQ.length then none
      else some (s.setAbortQ (enqueueAbort s.flt.abortQ f inj))

/-- The abort that runs ends; the next one that waits starts. -/
def State.abortEnds (s : State) (f : Nat × Nat × Nat) (forced : Bool) : State :=
  let s1 := (((s.quiesce f).modFlt (fun x => { x with
    abort := none, abortForced := false, running := x.running.filter (fun y => decide (abortFn y.1 y.2 ≠ some f)) })).setFld
    F.SYSCTL_ABORT_STATUS_BUSY 0).setFld F.SYSCTL_ABORT_STATUS_FORCED (bit forced)
  let s2 := s1.setFld F.SYSCTL_ABORT_STATUS_RESULT 1
  match s2.flt.abortQ with
  | [] => s2
  | x :: rest => (s2.setAbortQ rest).abortStart (x.1, x.2.1, x.2.2.1)

/-! ### Reactions (R655, R657, R658) -/

/-- Sources whose units are the same things: both errors of a bank, both events of a radio, the events of a port. -/
def unitKey (src unit : Nat) : Nat × Nat :=
  if src = 0x0B then (0x0A, unit)
  else if src = 0x11 then (0x10, unit)
  else if src = 0x31 ∨ src = 0x32 then (0x30, unit / 16 % 16)
  else (src, unit)

/-- A reaction to an event on the same unit still runs. -/
def State.reacting (s : State) (src unit : Nat) : Bool :=
  s.flt.running.any (fun y => decide (unitKey y.1 y.2 = unitKey src unit))

/-- Note that a reaction runs. -/
def State.reactStarts (s : State) (src unit : Nat) : State :=
  s.modFlt (fun x => { x with running := x.running ++ [(src, unit)] })

/-- RETIRE of the unit of an event (R655, R659): none where it cannot act. -/
def State.retireUnit (s : State) (src unit : Nat) : Option State :=
  if src = 0x08 then
    if unit ≤ 8 ∧ s.coreActive unit ∧ s.coreRetirable unit then
      let t := s.retireCore unit
      some (if t.flt.coreMove = some unit then t.reactStarts src unit else t)
    else none
  else if src = 0x0A ∨ src = 0x0B then
    match s.bankOf unit with
    | some b =>
      if s.copying b then none
      else if s.freeSpare.isSome then some ((s.retireBank b).reactStarts src unit) else some (s.retireBank b)
    | none => none
  else if src = 0x12 then
    let r := unit / 256 % 16
    let c := unit % 16
    if r < 3 ∧ (s.chainMask r).testBit c ∧ s.chainMask r ≠ 2 ^ c then
      some (((s.chainEnWrite r (BitVec.ofNat 32 (s.chainMask r - 2 ^ c))).count C.FAULT_RETIREMENTS).retireResult 3)
    else none
  else if src = 0x13 then
    if unit < 14 ∧ ¬ s.flag (F.LDPC_ENG_STATUS_RETIRED unit) ∧ s.engineRetirable unit then
      let t := s.retireEngine unit
      some ((t.count C.FAULT_RETIREMENTS).retireResult (if t.activeEngines = s.activeEngines then 1 else 3))
    else none
  else none

/-- Carry out a mapped reaction (R655, R657, R658): the reaction carried out, and the state. -/
def State.react (s : State) (e : FaultEv) (code : Nat) : Nat × State :=
  if code = reactLog then (reactLog, s)
  else if code = reactNotify ∨ s.reacting e.src e.unit then (reactNotify, s.faultNotify)
  else if code = reactReset then
    let at1 := if s.flt.resetSrc.isSome then s.flt.resetAt else s.time.tick
    (reactReset, ((s.setAbortQ []).modFlt (fun x => { x with
      resetSrc := some (x.resetSrc.getD e.src), resetAt := at1 })).faultNotify)
  else if code = reactRetire then
    match s.retireUnit e.src e.unit with
    | some t => (reactRetire, t.faultNotify)
    | none => (reactNotify, s.faultNotify)
  else
    match (abortFn e.src e.unit).bind (fun f => s.faultAbort f e.inj) with
    | some t => (reactAbort, (t.reactStarts e.src e.unit).faultNotify)
    | none => (reactNotify, s.faultNotify)

end Sys2Proof.Machine
end

