-- ==== Sys2Proof/Machine/RegChecks.lean ====
section
/-! DEFINITION. What a register write must satisfy beyond the ranges of its fields: the conditions between fields,
registers and modes that each block's rules state. One function for each block answers the conditions of a register;
the first that holds refuses the write (R10, R11, R14). -/

namespace Sys2Proof.Machine

/-- A condition that refuses a write, with its code. -/
abbrev Cond := Bool × RefCode

/-- The refusal of the first condition that holds. -/
def firstRef : List Cond → Option RefCode
  | [] => none
  | (c, k) :: rest => if c then some k else firstRef rest

/-- A condition refused with `CFG_RANGE`. -/
def refRange (c : Bool) : Cond := (c, .cfgRange)

/-- A condition refused with `ZERO_LENGTH`. -/
def refZero (c : Bool) : Cond := (c, .zeroLength)

/-- A power of two between two bounds. -/
def powerBetween (v lo hi : Nat) : Bool := decide (lo ≤ v ∧ v ≤ hi) && decide (v &&& (v - 1) = 0)

/-- A flow is ADMITTED, DEGRADED or REVOKED (R502). -/
def State.anyFlowLive (s : State) : Bool := s.heldFlows.any (fun f => decide (s.flowState f ≠ flowReleasing))

/-- PMU: EMAC_MODE 0b11 (R87); a magic pattern of other than six bytes (R84). -/
def State.pmuConds (_s : State) (a : Nat) (w : Word) : List Cond :=
  if a = A.PMU_WATCH_CFG then [refRange ((List.range 4).any (fun p => decide (getBits w (4 + 2 * p) 2 = 3)))]
  else if A.PMU_PAT_CTRL 0 ≤ a ∧ a % 0x100 = 0x90 then [refRange (w.getLsbD 8 && decide (getBits w 0 8 ≠ 6))]
  else []

/-- A reaction code may stand in the map of source n (R656). -/
def reactLegal (n code : Nat) : Bool :=
  decide (code ≤ reactReset) && (decide (code ≠ reactRetire) || mayRetire n) && (decide (code ≠ reactAbort) || mayAbort n)

/-- FAULT: LOG_IDX.RD that passes WR (R673); the map (R656). -/
def State.faultConds (s : State) (a : Nat) (w : Word) : List Cond :=
  if a = A.FAULT_LOG_IDX then
    [refRange (decide (idxDist (s.fld F.FAULT_LOG_IDX_WR) (s.fld F.FAULT_LOG_IDX_RD) <
      idxDist (s.fld F.FAULT_LOG_IDX_WR) (getBits w 0 16)))]
  else if A.FAULT_MAP 0 ≤ a ∧ a < A.FAULT_MAP 256 then
    let n := (a - A.FAULT_MAP 0) / 4
    [refRange (!sourceUsed n), refRange (sourceUnit n && !reactLegal n (getBits w 28 3)),
      refRange (!reactLegal n (getBits w 24 3)),
      refZero (sourceUnit n && decide (1 < getBits w 16 4) && decide (getBits w 0 16 = 0))]
  else []

/-- Another radio than r holds a bit of `w` in its FEM_OWN register (R157). -/
def State.pinTaken (s : State) (r : Nat) (high : Bool) (w : Word) : Bool :=
  (List.range 4).any (fun q => decide (q ≠ r) &&
    decide (s.rd (if high then A.RADIO_FEM_OWN_HI q else A.RADIO_FEM_OWN_LO q) &&& w ≠ 0))

/-- The front-end and baseband registers of radio r, the Nguord radio being 3 (R156, R157, R159, R173 to R175, R203 to
R205, R347). -/
def State.radioConds (s : State) (r a : Nat) (w : Word) : List Cond :=
  let b := fun (lo n : Nat) => getBits w lo n
  if a = A.RADIO_FEM_TIMING r then [refRange (decide (b 0 8 ≤ b 8 8))]
  else if a = A.RADIO_FEM_OWN_LO r then [refRange (!s.locked && s.pinTaken r false w)]
  else if a = A.RADIO_FEM_OWN_HI r then [refRange (!s.locked && s.pinTaken r true w)]
  else if A.RADIO_FEM_FUNC r 0 ≤ a ∧ a < A.RADIO_FEM_FUNC r 40 then
    let m := (a - A.RADIO_FEM_FUNC r 0) / 4
    [refRange (!s.locked && (!s.ownsPin r m || decide (chainCount r ≤ b 4 3) || decide (8 ≤ b 0 4) ||
      (decide (b 0 4 = 7) && decide (r ≠ 3))))]
  else if r = 3 then []
  else if a = A.RADIO_RFFE_CFG r then
    [refRange (!s.locked && w.getLsbD 2 && (List.range 3).any (fun q => decide (q ≠ r) &&
      s.flag (F.RADIO_RFFE_CFG_EN q) && decide (s.fld (F.RADIO_RFFE_CFG_BUS q) = b 0 2)))]
  else if a = A.RADIO_BB_MODE r then
    [refRange ((w.getLsbD 3 && decide (r ≠ 1)) || (w.getLsbD 2 && decide (r = 2)) || (w.getLsbD 0 && decide (r ≠ 0)))]
  else if a = A.RADIO_DET_CFG r then
    let pd := sgn 8 (b 8 8)
    let ed := sgn 8 (b 0 8)
    [refRange (decide (pd < -95 ∨ -62 < pd)), refRange (decide (ed < -82 ∨ -40 < ed)), refRange (decide (ed < pd))]
  else if a = A.RADIO_VEXT_CFG r then [refRange (decide (r ≠ 2) && decide (w ≠ 0))]
  else []

/-- NGR: NETCODE, TX_PWR, the ranging registers while an exchange is busy (R349, R350, R352). -/
def State.ngrConds (s : State) (a : Nat) (w : Word) : List Cond :=
  if a = A.NGR_PHY_CFG then [refRange (decide (getBits w 16 4 = 0 ∨ getBits w 20 4 = 0))]
  else if a = A.NGR_TX_PWR then [refRange (decide (sgn 8 (getBits w 0 8) < -10 ∨ 14 < sgn 8 (getBits w 0 8)))]
  else if a = A.NGR_RNG_CFG ∨ a = A.NGR_RNG_ID ∨ a = A.NGR_RNG_PEER ∨ a = A.NGR_RNG_DLY_TX ∨ a = A.NGR_RNG_DLY_RX then
    [refRange (s.flag F.NGR_RNG_STATUS_BUSY)]
  else s.radioConds 3 a w

/-- LDPC (R198, R209, R502). -/
def State.ldpcConds (s : State) (a : Nat) (w : Word) : List Cond :=
  let b := fun (lo n : Nat) => getBits w lo n
  if a = A.LDPC_ITER_CFG then
    [refRange (decide (b 16 5 < b 24 5 ∨ b 8 5 < b 24 5 ∨ b 0 5 < b 24 5)),
      refRange (s.anyFlowLive && (decide (b 24 5 ≠ s.fld F.LDPC_ITER_CFG_MIN_ITER) ||
        decide (b 0 5 ≠ s.fld F.LDPC_ITER_CFG_CAP_REG)))]
  else if a = A.LDPC_DL_CFG then [refRange (s.anyFlowLive && decide (s.fld F.LDPC_DL_CFG_IMM_MARGIN < b 0 7))]
  else []

/-- The enabled BSSs other than b that satisfy p. -/
def State.otherBss (s : State) (b : Nat) (p : Word → Bool) : List Nat :=
  (List.range 64).filter (fun k => decide (k ≠ b) && s.bssOn k && p (s.bssWord k 0))

/-- WMAC: AP MLD addresses in use (R253); BSS entries (R214, R215, R255). -/
def State.wmacConds (s : State) (a : Nat) (w : Word) : List Cond :=
  let b := fun (lo n : Nat) => getBits w lo n
  if A.WMAC_MLD_LO 0 ≤ a ∧ a < A.WMAC_MLD_LO 24 then
    [refRange ((List.range 64).any (fun k => s.bssOn k &&
      decide (getBits (s.bssWord k 0) 23 5 = (a - A.WMAC_MLD_LO 0) / 8)))]
  else if A.WMAC_BSS 0 0 ≤ a ∧ a < A.WMAC_BSS 64 0 then
    let k := (a - A.WMAC_BSS 0 0) / 0x20
    let n := (a - A.WMAC_BSS 0 0) % 0x20 / 4
    if n = 0 then
      let old := s.bssWord k 0
      [refRange (decide (b 28 2 = 3)), refRange (decide (24 ≤ b 23 5 ∧ b 23 5 ≠ 31)), refRange (decide (b 19 4 = 15)),
        refRange (decide (b 0 12 = 4095)),
        refRange (s.bssOn k && (decide (b 28 2 ≠ getBits old 28 2) || decide (b 23 5 ≠ getBits old 23 5) ||
          decide (b 19 4 ≠ getBits old 19 4))),
        refRange (w.getLsbD 31 && decide (24 ≤ (s.otherBss k (fun x => decide (getBits x 28 2 = b 28 2))).length)),
        refRange (w.getLsbD 31 && decide (b 23 5 ≠ 31) && (s.otherBss k (fun x =>
          decide (getBits x 28 2 = b 28 2) && decide (getBits x 23 5 = b 23 5))).length ≠ 0),
        refZero (w.getLsbD 31 && (decide (getBits (s.bssWord k 3) 16 16 = 0) || decide (getBits (s.bssWord k 3) 0 8 = 0)))]
    else if n = 3 then
      [refZero (s.bssOn k && decide (b 16 16 = 0)), refZero (s.bssOn k && decide (b 0 8 = 0))]
    else if n = 7 then [refRange (decide (4 < b 4 3)), refRange (decide (4 < b 0 3))]
    else []
  else []

/-- POSTMARK: trigger channels 0 to 3, and the time and period of an armed channel (R271, R285); capture sources
(R274). -/
def State.postmarkConds (s : State) (a : Nat) (w : Word) : List Cond :=
  if A.POSTMARK_TRG_CTRL 0 ≤ a ∧ a < A.POSTMARK_TRG_CTRL 16 then
    let t := (a - A.POSTMARK_TRG_CTRL 0) / 0x20
    [refRange (decide (t ≤ 3)), refRange (s.flag (F.POSTMARK_TRG_CTRL_EN t) && decide (a ≠ A.POSTMARK_TRG_STATUS t))]
  else if A.POSTMARK_CAP_CTRL 0 ≤ a ∧ a < A.POSTMARK_CAP_CTRL 8 ∧ a % 0x20 = 0 then
    [refRange (decide (4 < getBits w 0 4))]
  else []

/-- ROUNDS, the registers of radio r (R316, R317, R502). -/
def State.roundConds (s : State) (r a : Nat) (w : Word) : List Cond :=
  let b := fun (lo n : Nat) => getBits w lo n
  if a = A.ROUNDS_RCFG r then
    [refRange (decide (b 0 16 ≠ s.roundUs r) && (s.flag (F.ROUNDS_RCFG_EN r) || s.joined r ||
      (s.anyFlowLive && decide (s.rspList r ≠ []))))]
  else if a = A.ROUNDS_MU_CFG r then [refRange (decide ([18, 74, 74].getD r 74 < b 8 7))]
  else if A.ROUNDS_JOINT_CFG r ≤ a ∧ a ≤ A.ROUNDS_SR_CAP r ∧ a ≠ A.ROUNDS_JOINT_ERR r then [refRange (s.joined r)]
  else if A.ROUNDS_PEER_W0 r 0 ≤ a ∧ a < A.ROUNDS_TURN_W0 r 8 then [refRange (s.joined r)]
  else []

/-- The streams of the first n members of a multi-user group (R320). -/
def nssSum (w : Word) (n : Nat) : Nat := ((List.range n).map (fun u => getBits w (3 * u) 3 + 1)).foldl (· + ·) 0

/-- ROUNDS (R295, R301, R313, R316 to R321). -/
def State.roundsConds (s : State) (a : Nat) (w : Word) : List Cond :=
  if A.ROUNDS_RCFG 0 ≤ a ∧ a < A.ROUNDS_RCFG 3 then s.roundConds ((a - A.ROUNDS_RCFG 0) / 0x100) a w
  else if A.ROUNDS_SEG_W0 0 0 0 ≤ a ∧ a < A.ROUNDS_SEG_W0 3 0 0 then
    let r := (a - A.ROUNDS_SEG_W0 0 0 0) / 0x200
    let k := (a - A.ROUNDS_SEG_W0 0 0 0) % 0x200 / 0x100
    [refRange (s.swapPending r || decide (s.planBank r = k))]
  else if A.ROUNDS_MUG_W0 0 0 ≤ a ∧ a < A.ROUNDS_MUG_W0 3 0 ∧ a % 0x20 = 0 then
    let r := (a - A.ROUNDS_MUG_W0 0 0) / 0x400
    let g := (a - A.ROUNDS_MUG_W0 0 0) % 0x400 / 0x20
    let n := getBits w 27 4
    [refRange (w.getLsbD 31 && (decide (n < 2 ∨ muLimit r < n) ||
      (List.range n).any (fun u => decide (s.mugSta r g u = 0 ∨ 1024 < s.mugSta r g u)) ||
      decide (muLimit r < nssSum (s.rd (A.ROUNDS_MUG_NSS r g)) n)))]
  else if A.ROUNDS_TWT_W0 0 ≤ a ∧ a < A.ROUNDS_TWT_W0 1024 then
    [refRange (s.flag (F.ROUNDS_TWT_W0_VALID ((a - A.ROUNDS_TWT_W0 0) / 0x10)))]
  else []

/-- The slots of the Nguord slot table other than k that meet slot k in some superframe (R395). -/
def State.slotMeets (s : State) (k off : Nat) : Bool :=
  let len := s.fld (F.NGL_SLOT_W1_LEN_MS k)
  (List.range 256).any (fun j => decide (j ≠ k) && s.flag (F.NGL_SLOT_W0_VALID j) &&
    decide (s.fld (F.NGL_SLOT_W0_OFFSET_MS j) < off + len ∧
      off < s.fld (F.NGL_SLOT_W0_OFFSET_MS j) + s.fld (F.NGL_SLOT_W1_LEN_MS j)) &&
    recurMeet (s.fld (F.NGL_SLOT_W2_PERIOD k)) (s.fld (F.NGL_SLOT_W2_PHASE k)) (s.fld (F.NGL_SLOT_W2_PERIOD j))
      (s.fld (F.NGL_SLOT_W2_PHASE j)))

/-- Setting VALID of slot k (R395). -/
def State.slotConds (s : State) (k : Nat) (w : Word) : List Cond :=
  let off := getBits w 0 20
  let len := s.fld (F.NGL_SLOT_W1_LEN_MS k)
  let period := s.fld (F.NGL_SLOT_W2_PERIOD k)
  if w.getLsbD 31 then
    [refZero (decide (len = 0)), refZero (decide (period = 0)),
      refRange (decide (off < s.fld F.NGL_SF_CAP_CAP_END_MS ∨ s.fld F.NGL_SF_ACTIVE_ACTIVE_END_MS < off + len)),
      refRange (s.slotMeets k off), refRange (decide (period ≤ s.fld (F.NGL_SLOT_W2_PHASE k))),
      refRange (!(s.ngNode (s.fld (F.NGL_SLOT_W1_NODE k))).valid)]
  else []

/-- NGL (R364, R371, R389 to R392, R395, R396). -/
def State.nglConds (s : State) (a : Nat) (w : Word) : List Cond :=
  let b := fun (lo n : Nat) => getBits w lo n
  -- the lock settles the regional registers, whose fields are RWL, before this condition does (R680)
  let fixed := refRange (decide (A.NGL_SF_PERIOD ≤ a ∧ a ≤ A.NGL_DUTY_WIN) && s.flag F.NGL_CTRL_EN &&
    !(s.locked && decide (A.NGL_REG_CAP ≤ a)))
  if A.NGL_SF_PERIOD ≤ a ∧ a ≤ A.NGL_SF_RELAY then [fixed, refRange s.ngRouter]
  else if a = A.NGL_BCN_PHY then
    [fixed, refZero (decide (b 24 8 = 0)), refRange (decide (b 24 8 < 8)), refRange (decide (b 8 2 = 3)),
      refRange (decide (b 0 4 < 6 ∨ 12 < b 0 4))]
  else if a = A.NGL_REG_DWELL then [fixed, refZero (!s.locked && decide (b 16 16 = 0) && decide (b 0 16 ≠ 0))]
  else if a = A.NGL_REG_LBT then [fixed, refZero (!s.locked && w.getLsbD 31 && decide (b 0 16 = 0))]
  else if A.NGL_DUTY 0 ≤ a ∧ a < A.NGL_DUTY 4 then
    [fixed, refZero (!s.locked && w.getLsbD 31 && decide (b 0 14 = 0)),
      refRange (!s.locked && decide (b 16 6 < b 24 6 ∨ 10000 < b 0 14))]
  else if A.NGL_SF_PERIOD ≤ a ∧ a ≤ A.NGL_DUTY_WIN then [fixed]
  else if a = A.NGL_TX_CFG then [refRange (decide (b 20 4 < b 24 4))]
  else if a = A.NGL_TXR_IDX then
    [refRange (decide (s.fld F.NGL_TXR_SIZE_SIZE < idxDist (b 0 16) (s.fld F.NGL_TXR_IDX_RD)))]
  else if A.NGL_SLOT_W0 0 ≤ a ∧ a < A.NGL_SLOT_W0 256 ∧ a % 0x10 = 0 then
    s.slotConds ((a - A.NGL_SLOT_W0 0) / 0x10) w
  else if A.NGL_ROUTE 0 ≤ a ∧ a < A.NGL_ROUTE 4096 then
    [refZero (w.getLsbD 31 && decide (b 16 4 = 0)), refRange (decide (b 0 16 = 0 ∨ 0x1000 < b 0 16))]
  else []

/-- Word n of a parser node, when word 0 is about to hold w. -/
def State.nodeAfter (s : State) (k node n : Nat) (w : Word) : Word := if n = 0 then w else s.nodeWord k node n

/-- The checks of a parser node whose VALID is set (R404). -/
def nodeConds (x : Nat → Word) : List Cond :=
  [refRange (decide (128 < getBits (x 0) 0 8)),
    refRange (decide (0x100 < getBits (x 4) 0 9)),
    refRange ((List.range 7).any (fun i => decide (0x100 < getBits (x (5 + i)) 0 9))),
    refRange ((List.range 4).any (fun j => decide (36 < getBits (x (12 + j)) 8 6 + getBits (x (12 + j)) 21 5))),
    refZero ((x 0).getLsbD 27 && decide (getBits (x 1) 16 16 = 0))]

/-- A PCP of port p on which a flow was admitted would leave the registered lane (R502). -/
def State.pcpNeeded (s : State) (p : Nat) (w : Word) : Bool :=
  s.heldFlows.any (fun f =>
    let q := s.flowAsk f
    decide (s.flowState f ≠ flowReleasing) && !q.up && q.eps.any (fun e => decide (e = p)) &&
      s.flag ⟨A.SORT_PORT_CFG p, q.pcp, 1⟩ && !w.getLsbD q.pcp)

/-- SORT (R404, R410, R411, R416, R422, R426, R502). -/
def State.sortConds (s : State) (a : Nat) (w : Word) : List Cond :=
  if A.SORT_PORT_CFG 0 ≤ a ∧ a < A.SORT_PORT_CFG 4 then [refRange (s.pcpNeeded ((a - A.SORT_PORT_CFG 0) / 4) w)]
  else if A.SORT_DEFAULT_LO 0 ≤ a ∧ a < A.SORT_DEFAULT_LO 2 then
    [refRange (s.busyBanks.contains ((a - A.SORT_DEFAULT_LO 0) / 8)),
      refRange (decide (a % 8 = 0) && (decide (getBits w 6 2 = 3) || (w.getLsbD 25 && decide (getBits w 21 2 ≠ 1))))]
  else if A.SORT_START 0 0 ≤ a ∧ a < A.SORT_START 2 0 then
    [refRange (s.busyBanks.contains ((a - A.SORT_START 0 0) / 0x20)), refRange (decide (0x100 < getBits w 0 9))]
  else if A.SORT_NODE 0 0 0 ≤ a ∧ a < A.SORT_NODE 2 0 0 then
    let k := (a - A.SORT_NODE 0 0 0) / 0x4000
    let node := (a - A.SORT_NODE 0 0 0) % 0x4000 / 0x40
    let n := a % 0x40 / 4
    [refRange (s.busyBanks.contains k), refRange (decide (n = 0) && decide (getBits w 28 2 = 3)),
      refRange (decide (12 ≤ n) && (decide (16 < getBits w 21 5) || decide (35 < getBits w 8 6)))] ++
      (if n = 0 ∧ w.getLsbD 31 then nodeConds (fun i => s.nodeAfter k node i w) else [])
  else []

/-- TABLES (R454, R458). -/
def State.tablesConds (s : State) (a : Nat) (w : Word) : List Cond :=
  if A.TABLES_HASH_SEED 0 ≤ a ∧ a < A.TABLES_HASH_SEED 4 then
    [refRange (!s.locked && (decide (s.tables.l2 ≠ [] ∨ s.tables.sess ≠ []) ||
      (List.range 4).any (fun k => decide (A.TABLES_HASH_SEED k ≠ a) && decide (s.rd (A.TABLES_HASH_SEED k) = w))))]
  else if a = A.TABLES_SHADOW_LO then [refRange (decide (getBits w 0 22 ≠ 0))]
  else []

/-- TM (R480, R481). -/
def State.tmConds (s : State) (a : Nat) (w : Word) : List Cond :=
  if a = A.TM_POOL_CFG then [refRange (!s.locked && decide (getBits w 0 9 < s.fld F.TM_POOL_CFG_REG_RESERVE))]
  else if a = A.TM_SAMPLE_RANGE then
    [refRange (decide (getBits w 16 13 < getBits w 0 13 ∨ getBits w 0 13 + 1024 ≤ getBits w 16 13))]
  else []

/-- EMAC port p: MACsec only at 10 and 5 Gb/s (R533), a preset in use (R540). -/
def State.emacConds (s : State) (p a : Nat) (w : Word) : List Cond :=
  if a = A.EMAC_SECY_CFG p then
    [refRange (w.getLsbD 31 && !s.flag (F.EMAC_SECY_CFG_EN p) &&
      !secySpeed (s.fld (F.EMAC_MODE_MODE p)) (s.fld (F.EMAC_STATUS_SPEED p)))]
  else if A.EMAC_EQ_PRESET p 0 ≤ a ∧ a < A.EMAC_EQ_PRESET p 8 then
    [refRange (!s.locked && s.linkIsUp p && decide (a = A.EMAC_EQ_PRESET p (s.fld (F.EMAC_STATUS_PRESET p))))]
  else []

/-- A ring of HOSTP, word n (R547, R553, R555, R557). -/
def State.ringConds (s : State) (receive : Bool) (r n : Nat) (w : Word) : List Cond :=
  let g := ringRegs receive r
  let en := s.ringEn g
  let b := fun (lo k : Nat) => getBits w lo k
  if n = 0 then [refRange en, refRange (decide (b 0 4 ≠ 0))]
  else if n ≤ 3 then [refRange en]
  else if n = 4 then
    if en then [refRange (w.getLsbD 31 || decide (b 0 31 ≠ getBits (s.rd g.ctrl) 0 31) || s.ringBusy receive r)]
    else
      [refZero (decide (b 16 13 = 0)), refRange (!powerBetween (b 16 13) 64 4096),
        refZero (receive && decide (b 10 6 = 0)), refRange (decide (s.fld F.HOSTP_CFG_MSIX_COUNT ≤ b 0 9))]
  else if n = 5 then [refRange (decide (s.ringSize g < idxDist (b 0 16) (s.ringCi g)))]
  else if n = 6 then
    [refRange (decide (idxDist (getBits (s.rd g.cqIdx) 0 16) (getBits (s.rd g.cqIdx) 16 16) <
      idxDist (getBits (s.rd g.cqIdx) 0 16) (b 16 16)))]
  else []

/-- HOSTP (R546, R556, R557). -/
def State.hostpConds (s : State) (a : Nat) (w : Word) : List Cond :=
  if a = A.HOSTP_RC_ADDR_LO ∨ a = A.HOSTP_RC_ADDR_HI then [refRange (decide (s.fld F.HOSTP_CFG_MODE = 1))]
  else if A.HOSTP_TXR_BASE_LO 0 ≤ a ∧ a < A.HOSTP_TXR_BASE_LO 256 then
    s.ringConds false ((a - A.HOSTP_TXR_BASE_LO 0) / 0x20) (a % 0x20 / 4) w
  else if A.HOSTP_RXR_BASE_LO 0 ≤ a ∧ a < A.HOSTP_RXR_BASE_LO 256 then
    s.ringConds true ((a - A.HOSTP_RXR_BASE_LO 0) / 0x20) (a % 0x20 / 4) w
  else []

/-- DRAMC: a rate above 6,400 MT/s with LPDDR5 (R559). -/
def State.dramcConds (s : State) (a : Nat) (w : Word) : List Cond :=
  if a = A.DRAMC_CFG then [refRange (!s.locked && !w.getLsbD 8 && decide (3 < getBits w 24 4))] else []

/-- SEAL (R609). -/
def State.sealConds (s : State) (a : Nat) (w : Word) : List Cond :=
  let en := s.flag F.SEAL_FW_CFG_EN
  let b := fun (lo n : Nat) => getBits w lo n
  if a = A.SEAL_FW_BASE_LO then [refRange en, refRange (decide (b 0 6 ≠ 0))]
  else if a = A.SEAL_FW_BASE_HI ∨ a = A.SEAL_CQ_BASE_HI then [refRange en]
  else if a = A.SEAL_CQ_BASE_LO then [refRange en, refRange (decide (b 0 5 ≠ 0))]
  else if a = A.SEAL_FW_CFG then
    [refRange (en && decide (b 16 13 ≠ s.fld F.SEAL_FW_CFG_SIZE)), refRange (!powerBetween (b 16 13) 16 4096)]
  else if a = A.SEAL_FW_IDX then
    [refRange (decide (s.fld F.SEAL_FW_CFG_SIZE < idxDist (b 0 16) (s.fld F.SEAL_FW_IDX_CI)))]
  else if a = A.SEAL_CQ_IDX then
    [refRange (decide (idxDist (s.fld F.SEAL_CQ_IDX_CQ_PI) (s.fld F.SEAL_CQ_IDX_CQ_CI) <
      idxDist (s.fld F.SEAL_CQ_IDX_CQ_PI) (b 16 16)))]
  else []

/-- The depths of the enabled message queues other than q (R625). -/
def State.mqDepths (s : State) (q : Nat) : Nat :=
  (((List.range 256).filter (fun k => decide (k ≠ q) && s.flag (F.DISPATCH_MQ_W0_EN k))).map
    (fun k => s.fld (F.DISPATCH_MQ_W0_DEPTH k))).foldl (· + ·) 0

/-- DISPATCH (R620, R642). -/
def State.dispatchConds (s : State) (a : Nat) (w : Word) : List Cond :=
  let b := fun (lo n : Nat) => getBits w lo n
  if A.DISPATCH_MQ_W0 0 ≤ a ∧ a < A.DISPATCH_MQ_W0 256 ∧ a % 8 = 0 then
    let q := (a - A.DISPATCH_MQ_W0 0) / 8
    [refRange (decide (s.mqEntries q ≠ []) || decide (s.fld (F.DISPATCH_MQ_W1_WAITERS q) ≠ 0)),
      refZero (w.getLsbD 31 && decide (b 0 11 = 0)), refRange (decide (1024 < b 0 11)),
      refRange (w.getLsbD 31 && decide (65536 < s.mqDepths q + b 0 11))]
  else if A.DISPATCH_TH_CTX 0 ≤ a ∧ a < A.DISPATCH_TH_CTX 1024 ∧ a % 0x20 = 4 then
    let t := (a - A.DISPATCH_TH_CTX 0) / 0x20
    [refRange (decide (s.thState t ≠ thFree ∧ s.thState t ≠ thSuspended))]
  else []

/-- PIGEON FIFO n (R646): the registers of a FIFO in use; LEVEL; BASE aligned on four times the depth. -/
def State.pigeonConds (s : State) (a : Nat) (w : Word) : List Cond :=
  if A.PIGEON_CFG 0 ≤ a ∧ a < A.PIGEON_CFG 32 then
    let n := (a - A.PIGEON_CFG 0) / 0x40
    let en := s.flag (F.PIGEON_CFG_EN n)
    if a = A.PIGEON_CFG n then
      [refRange (en && decide (w ≠ s.rd a &&& 0x7FFFFFFF)), refRange (decide (1024 < getBits w 0 11)),
        refRange (w.getLsbD 31 && decide ((s.rd (A.PIGEON_BASE_LO n)).toNat % (4 * 2 ^ getBits w 16 4) ≠ 0))]
    else if a = A.PIGEON_BASE_LO n then
      [refRange en, refRange (decide (w.toNat % (4 * s.pigDepth n) ≠ 0))]
    else if a = A.PIGEON_BASE_HI n ∨ a = A.PIGEON_IRQ n then [refRange en]
    else []
  else []

/-- The conditions of the register at `a` in block window `b`. -/
def State.regConds (s : State) (b a : Nat) (w : Word) : List Cond :=
  if b = 0x02 then s.pmuConds a w
  else if b = 0x03 then s.faultConds a w
  else if b = 0x07 then s.sealConds a w
  else if b = 0x08 then s.postmarkConds a w
  else if b = 0x09 then s.dispatchConds a w
  else if b = 0x0A then s.pigeonConds a w
  else if b = 0x0B then s.dramcConds a w
  else if b = 0x0C then s.hostpConds a w
  else if 0x10 ≤ b ∧ b ≤ 0x13 then s.emacConds (b - 0x10) a w
  else if b / 16 = 2 then s.sortConds a w
  else if b / 16 = 3 then s.tablesConds a w
  else if b / 16 = 4 then s.tmConds a w
  else if b / 16 = 6 then s.wmacConds a w
  else if b = 0x70 then s.roundsConds a w
  else if b = 0x80 then s.ldpcConds a w
  else if b = 0x90 ∨ b = 0xA0 ∨ b = 0xB0 then s.radioConds (b / 16 - 9) a w
  else if b = 0xC0 then s.ngrConds a w
  else if b = 0xD0 then s.nglConds a w
  else []

end Sys2Proof.Machine
end

