-- ==== Sys2Proof/Machine/RegWrite.lean ====
section
/-! DEFINITION. A write of one 32-bit register that has no command of its own: reserved bits, checks, access types, the
lock, and what the write does beside holding the value (spec/00_scope.md R5 to R11, R14, R680). -/

namespace Sys2Proof.Machine

/-! ### Reserved bits of registers that the map holds as whole words (R7) -/

/-- Bits in use of word n of a BSS entry (R255). -/
def bssMask (n : Nat) : Word :=
  [0xFFF80FFF, 0xFFFFFFFF, 0xFFFF, 0xFFFF00FF, 0xFFFFFFFF, 0x3FFF1FFF, 0x9FFF1FFF, 0x77].getD n 0

/-- Bits in use of word n of WMAC's staging record, but for the read-only VALID (R254). -/
def wmacStageMask (n : Nat) : Word :=
  if n = 0 then 0x7C0007FF
  else if n = 2 then 0xFFFF
  else if n = 3 ∨ n = 5 ∨ n = 7 then 0x8F3FFFFF
  else if n = 9 then 0xFFFFFF07
  else if n = 10 then 0x3FFF1FFF
  else if n = 11 then 0x1F
  else if n = 12 ∨ n = 13 then 0xFFFFFF
  else if 14 ≤ n then (if n % 2 = 0 then 0x87FF87FF else 0xFFFF0000)
  else 0xFFFFFFFF

/-- Bits in use of word n of a parser node (R403). -/
def nodeMask (n : Nat) : Word :=
  if n = 0 then 0xF8FF00FF
  else if n = 1 then 0xFFFFFFF8
  else if n = 2 then 0xFFFCFF00
  else if n = 3 then 0xFFFFFE00
  else if n = 4 then 0xFFFFFFFF
  else if n ≤ 11 then 0xFFFF81FF
  else 0xFFE03F00

/-- Bits in use of word n of REGSVC's staging record (R519). -/
def regStageMask (n : Nat) : Word :=
  [0xFF8FFFFF, 0xFFFFF, 0x07FF7F00, 0xFFFFFFFF, 0xFFFFFFFF, 0xFFFEFF00, 0xFFFF3FFF, 0xFF0FFFFF, 0x1FFF1FFF, 0x3F1F1FFF,
    0xFFFF].getD n 0

/-- Bits in use of word n of NGL's staging record, but for the read-only ones (R394). -/
def nglStageMask (n : Nat) : Word :=
  [0x3F0000FF, 0xFFFFFFFF, 0xFFFFFFFF, 0x1FFF1FFF, 0xFFFFFFFF, 0xFF00FFFF].getD n 0

/-- Bits in use of word n of SORT's staging record (R410, R425). -/
def sortStageMask (n : Nat) : Word :=
  if n = 20 then 0x3FFFFFFF else if n = 21 then 0x1FFFFFFF else if n = 22 then 3 else 0xFFFFFFFF

/-- The bits of the register at `a`, in block window `b`, that a write may change; fields narrow this further. -/
def usedBits (b a : Nat) : Word :=
  if b / 16 = 6 then
    if A.WMAC_BSS 0 0 ≤ a ∧ a < A.WMAC_BSS 64 0 then bssMask (a % 0x20 / 4)
    else if A.WMAC_STAGE_RW 0 ≤ a ∧ a < A.WMAC_STAGE_RW 30 then wmacStageMask ((a - A.WMAC_STAGE_RW 0) / 4)
    else 0xFFFFFFFF
  else if b / 16 = 3 then
    -- R457: CLOSING is the one writable bit of word 19; MISS, packets and octets are RO
    if a = A.TABLES_STAGE 19 then 0x80000000
    else if A.TABLES_STAGE 20 ≤ a ∧ a ≤ A.TABLES_STAGE 23 then 0
    else 0xFFFFFFFF
  else if b / 16 = 2 then
    if A.SORT_NODE 0 0 0 ≤ a ∧ a < A.SORT_NODE 2 0 0 then nodeMask (a % 0x40 / 4)
    else if A.SORT_STAGE 0 ≤ a ∧ a < A.SORT_STAGE 23 then sortStageMask ((a - A.SORT_STAGE 0) / 4)
    else if A.SORT_DEFAULT_LO 0 ≤ a ∧ a < A.SORT_DEFAULT_LO 2 then (if a % 8 = 0 then 0x3FFFFFFF else 0x1FFFFFFF)
    else 0xFFFFFFFF
  else if b = 0x50 then
    if A.REGSVC_STAGE 0 ≤ a ∧ a < A.REGSVC_STAGE 11 then regStageMask ((a - A.REGSVC_STAGE 0) / 4) else 0xFFFFFFFF
  else if b = 0xD0 then
    if A.NGL_STAGE 0 ≤ a ∧ a < A.NGL_STAGE 6 then nglStageMask ((a - A.NGL_STAGE 0) / 4) else 0xFFFFFFFF
  else if b = 0x90 ∨ b = 0xA0 ∨ b = 0xB0 then (if radioReserved (b / 16 - 9) a then 0 else 0xFFFFFFFF)
  else if b = 0x0C then
    -- BUF_SIZE belongs to receive rings
    (if A.HOSTP_TXR_BASE_LO 0 ≤ a ∧ a < A.HOSTP_TXR_BASE_LO 256 ∧ a % 0x20 = 0x10 then 0xFFFF03FF else 0xFFFFFFFF)
  else if b = 0x03 then
    -- REACT_P, THRESH and WINDOW_MS of an E source ignore writes
    (if A.FAULT_MAP 0 ≤ a ∧ a < A.FAULT_MAP 65 ∧ ¬ sourceUnit ((a - A.FAULT_MAP 0) / 4) then 0x07000000 else 0xFFFFFFFF)
  else 0xFFFFFFFF

/-! ### What a write does beside holding the value -/

/-- The word written to `a` has taken effect over `old`; `w` is the word written. -/
def State.wroteReg (s : State) (b a : Nat) (old w : Word) : State :=
  if b = 0x02 then
    -- R82: a 1 written to any source bit releases FIRST_SRC and FIRST_PAT
    (if a = A.PMU_WAKE_CAUSE ∧ getBits w 0 9 ≠ 0 then
      (s.setFld F.PMU_WAKE_CAUSE_FIRST_SRC 0xF).setFld F.PMU_WAKE_CAUSE_FIRST_PAT 0
     -- R93: the estimate follows KEEP
     else if a = A.PMU_RET_CFG then s.refreshAo else s)
  else if b = 0x03 then
    (if a = A.FAULT_MAP 0x0A then s.modFlt (fun x => { x with ceDefault := false }) else s)
  else if b = 0x08 then
    -- R263: VALID that rises, or SERVO_TO_MS written, starts the watchdog from zero
    (if a = A.POSTMARK_DOM_CTRL 0 ∧ s.domValid 0 then s.startWatchdog 0
     else if a = A.POSTMARK_DOM_CTRL 1 ∧ s.domValid 1 then s.startWatchdog 1
     -- R283: PPS_OUT is low while EN = 0
     else if a = A.POSTMARK_PPS_CFG then
      (if s.flag F.POSTMARK_PPS_CFG_EN then s else { s with pins := { s.pins with ppsOut := false } })
     -- R312: the selected domain may have lost VALID
     else s.roundsDomain)
  else if b = 0x09 then
    -- R637: a level that is asserted holds the flag that its vector is routed to now
    (if A.DISPATCH_VROUTE 0 ≤ a ∧ a < A.DISPATCH_VROUTE 512 then
      let t := getBits (s.rd a) 0 10
      if s.thState t = thFree ∨ s.heldFlags t = 0 then s else s.setEvents t (s.heldFlags t)
     else s)
  else if b = 0x0A then
    (if A.PIGEON_CFG 0 ≤ a ∧ a < A.PIGEON_CFG 32 ∧ a % 0x40 = 0 then
      let n := (a - A.PIGEON_CFG 0) / 0x40
      -- R646: EN that falls stops the FIFO; EN that rises starts the producer on PING at position 0
      if old.getLsbD 31 then s.stopFifo n else ((s.setFifo n {}).syncFifo n).flushEnds s.tables.ends
     else s)
  else if b = 0x0C then
    (if A.HOSTP_MSIX_TABLE 0 0 ≤ a ∧ a < A.HOSTP_MSIX_TABLE 512 0 ∧ a % 0x10 = 0xC then
      s.unmask ((a - A.HOSTP_MSIX_TABLE 0 0) / 0x10) else s)
  else if 0x10 ≤ b ∧ b ≤ 0x13 then
    let p := b - 0x10
    -- R534: a frame that starts in this tick keeps the AN from before it
    (if a = A.EMAC_SECY_CFG p then
      s.modEmac p (fun e => if e.secyAt = some s.time.tick then e else { e with secyAt := some s.time.tick, secyOld := old })
     -- R536: a preset that is rewritten before the lock is no longer FAILED, and one that is usable again is tried
     else if A.EMAC_EQ_PRESET p 0 ≤ a ∧ a < A.EMAC_EQ_PRESET p 8 then
      let k := (a - A.EMAC_EQ_PRESET p 0) / 4
      let s1 := if s.locked then s else s.setFld (F.EMAC_EQ_PRESET_FAILED p k) 0
      if s.usablePresets p = [] ∧ s1.usablePresets p ≠ [] then s1.modEmac p (fun e => { e with tried := s.time.tick }) else s1
     else s)
  else if b = 0x40 then
    -- R478: EN that rises begins a walk in the next cycle; without EN no walk begins
    (if a = A.TM_SAMPLE_CFG ∧ old.getLsbD 31 ≠ s.flag F.TM_SAMPLE_CFG_EN then
      { s with tm := { s.tm with sampleNext := if s.flag F.TM_SAMPLE_CFG_EN then some s.now else none } } else s)
  else if b = 0x30 then
    -- R440, R449: a pass period that leaves 0 starts a first pass
    (if a = A.TABLES_AGE then
      let t := s.tables
      let t1 := if getBits old 0 16 = 0 then { t with l2Pos := 0, l2Start := some s.now, l2Ms := 0 } else t
      { s with tables := if getBits old 16 16 = 0 then { t1 with sessPos := 0, sessStart := some s.now, sessMs := 0 } else t1 }
     -- R450: end records that wait go to the FIFO named now
     else if a = A.TABLES_FIFO then s.flushEnds s.tables.ends else s)
  else if b / 16 = 2 then
    (if A.SORT_NODE 0 0 0 ≤ a ∧ a < A.SORT_NODE 2 0 0 then
      let k := (a - A.SORT_NODE 0 0 0) / 0x4000
      let node := (a - A.SORT_NODE 0 0 0) % 0x4000 / 0x40
      s.modSort (fun x => { x with badNodes := x.badNodes.filter (fun n => decide (n ≠ (k, node))) })
     else s)
  else if b = 0x70 then
    (if A.ROUNDS_RCFG 0 ≤ a ∧ a < A.ROUNDS_RCFG 3 ∧ a % 0x100 = 0 then
      s.roundsStart ((a - A.ROUNDS_RCFG 0) / 0x100) (old.getLsbD 31)
     -- R317: the plan, or a peer entry, may have changed
     else if A.ROUNDS_RCFG 0 ≤ a ∧ a < A.ROUNDS_RCFG 3 then s.syncPeers ((a - A.ROUNDS_RCFG 0) / 0x100) else s)
  else s

/-- The bits of a register that lie in RWL fields. -/
def rwlBits (fs : List RegField) : Word :=
  fs.foldl (fun m f => if f.acc = .rwl then m ||| setBits 0 f.lo (f.hi + 1 - f.lo) (2 ^ (f.hi + 1 - f.lo) - 1) else m) 0

/-- A write that changed an RWL field of the register at `a` from `old` is remembered until the tick ends, because a LOCK
of the same cycle undoes it (R134). -/
def State.noteRwl (s : State) (a : Nat) (old : Word) (fs : List RegField) : State :=
  if ¬ s.locked ∧ (s.rd a &&& rwlBits fs) ≠ (old &&& rwlBits fs) then
    { s with rwl := s.rwl ++ [{ tick := s.time.tick, addr := a, old := old }] }
  else s

/-- A write of `w0` to the 32-bit register at `a`, which has no command of its own: reserved bits are ignored (R7), a
value out of range or a condition that fails refuses the write whole (R10, R11, R14), and RWL fields keep their value
once the lock is set (R680). An address that the map does not name is a reserved word. -/
def State.plainWrite (s : State) (a : Nat) (w0 : Word) : State :=
  let b := firstWindow (windowOf a)
  match findReg a with
  | none =>
    if A.FAULT_MAP 0 ≤ a ∧ a < A.FAULT_MAP 256 then s.refuse a .cfgRange else s
  | some (d, _) =>
    let old := s.rd a
    let m := usedBits b a
    let w := (w0 &&& m) ||| (old &&& ~~~m)
    match checkFields s.locked w d.fields, firstRef (s.regConds b a w) with
    | some c, _ => s.refuse a c
    | none, some c => s.refuse a c
    | none, none =>
      let s1 := s.wr a (applyFields s.locked old w d.fields)
      let s2 := if lockedChange s.locked old w d.fields then s1.refuse a .cfgLocked else s1
      (s2.noteRwl a old d.fields).wroteReg b a old w

/-- An RWL write of the cycle in which the lock is set is judged as a write after it (R134): its RWL fields take back their
values, and `CFG_LOCKED` is recorded. -/
def State.undoRwl (s : State) (x : RwlWrite) : State :=
  if x.tick ≠ s.time.tick then s
  else
    match findReg x.addr with
    | none => s
    | some (d, _) =>
      let m := rwlBits d.fields
      (s.wr x.addr ((s.rd x.addr &&& ~~~m) ||| (x.old &&& m))).refuse x.addr .cfgLocked

/-- A write of SYSCTL.CFG_LOCK that sets LOCK (R133, R134): RWL writes of the same cycle are undone, the newest first. -/
def State.setLock (s : State) : State :=
  if s.locked then s
  else
    let s1 := s.rwl.reverse.foldl State.undoRwl s
    ({ s1 with rwl := [] }).setFld F.SYSCTL_CFG_LOCK_LOCK 1

end Sys2Proof.Machine
end

