-- ==== Sys2Proof/Machine/Tables.lean ====
section
/-! DEFINITION. The meanings of the TABLES commands (spec/12_forwarding_tables.md R429 to R460). -/

namespace Sys2Proof.Machine

/-! ### Profiles and headers (R429, R446) -/

/-- Header numbered h of the walk: its offset; none for 0 or a header the walk did not record. -/
def Pkt.hdr (p : Pkt) (h : Nat) : Option Nat := if h = 0 then none else (p.hdrs[h - 1]?).map (fun x => x.1)

/-- Key bytes from position `pos`. -/
def Pkt.keyBytes (p : Pkt) (pos n : Nat) : List Byte :=
  (List.range n).map (fun i => BitVec.ofNat 8 (p.key.toNat >>> (8 * (pos + i))))

/-- What a profile says (R457). -/
structure Profile where
  l2 : Bool
  learn : Bool
  l3 : Nat
  sess : Bool
  puntMiss : Bool
  dip : Nat
  sip : Nat
  l4 : Nat
  proto : Nat
  vidTag : Bool
  vidPos : Nat
  ipHdr : Nat
  l4Hdr : Nat
  deriving DecidableEq, Repr

/-- A profile from its two words. -/
def profileOf (a b : Word) : Profile :=
  { l2 := a.getLsbD 31, learn := a.getLsbD 30, l3 := getBits a 28 2, sess := a.getLsbD 27, puntMiss := a.getLsbD 26
    dip := getBits a 20 6, sip := getBits a 14 6, l4 := getBits a 8 6, proto := getBits a 2 6
    vidTag := b.getLsbD 31, vidPos := getBits b 24 6, ipHdr := getBits b 15 5, l4Hdr := getBits b 10 5 }

/-- Bytes of an address under a profile: 16 for IPv6, else 4. -/
def Profile.width (r : Profile) : Nat := if r.l3 = 2 then 16 else 4

/-- A profile is legal (R429, R457). -/
def Profile.legal (r : Profile) : Bool :=
  decide (r.l3 ≠ 3) && decide (r.ipHdr ≤ 16) && decide (r.l4Hdr ≤ 16) &&
  (!(decide (r.l3 ≠ 0) || r.sess) || decide (r.dip + r.width ≤ 36)) &&
  (!r.sess || decide (r.sip + r.width ≤ 36 ∧ r.l4 + 4 ≤ 36 ∧ r.proto + 1 ≤ 36)) &&
  (!r.vidTag || decide (r.vidPos + 2 ≤ 36))

/-- The profile of a packet's CLASS. -/
def State.profile (s : State) (p : Pkt) : Profile :=
  profileOf (idxWord s.tables.profs (actField p.act 0 6) 0) (idxWord s.tables.profs (actField p.act 0 6) 1)

/-- The bridge domain of a packet (R430). -/
def State.vidOf (s : State) (r : Profile) (p : Pkt) : Nat :=
  if r.vidTag then beNat (p.keyBytes r.vidPos 2) % 4096 else s.fld (F.TABLES_PORT_CFG_PVID p.src)

/-- A bridge domain's entry is valid (R430). -/
def State.bdValid (s : State) (vid : Nat) : Bool :=
  decide (vid ≠ 0) && decide (vid ≠ 4095) && (idxWord s.tables.bds vid 0).getLsbD 31

/-- The RIF of a bridge domain: none for 0 or an entry that is not valid (R443). -/
def State.rifOf (s : State) (vid : Nat) : Option Nat :=
  let r := getBits (idxWord s.tables.bds vid 0) 0 8
  if r ≠ 0 ∧ (idxWord s.tables.rifs r 0).getLsbD 31 then some r else none

/-- Router MAC of a RIF. -/
def State.rifMac (s : State) (r : Nat) : BitVec 48 := macOf (idxWord s.tables.rifs r 1) (idxWord s.tables.rifs r 2)

/-- DA or SA of a frame, byte n in bits [8n + 7:8n]; bytes beyond the frame count as 0. -/
def macAt (b : List Byte) (off : Nat) : BitVec 48 :=
  BitVec.ofNat 48 (leNat ((List.range 6).map (fun i => b.getD (off + i) 0)))

/-! ### Handing on -/

/-- A packet goes to TM with an egress, or with none (R429, R431). -/
def State.toTm (s : State) (p : Pkt) (e : Option Nat) : State :=
  { s with tm := { s.tm with inbox := s.tm.inbox ++ [{ p with egress := e }] } }

/-- A packet is punted to firmware (R453). -/
def State.punt (s : State) (p : Pkt) (reason : Nat) : State := s.toTm p (some (0x60000 + reason))

/-! ### Sessions (R448, R449) -/

/-- Rewrite one side of a packet: its address and, where a port is located, its port; checksums follow (R448). -/
def rewriteSide (b : List Byte) (r : Profile) (ip l4 : Option Nat) (proto : Nat) (src : Bool) (addr port : List Byte) :
    List Byte :=
  match ip with
  | none => b
  | some o =>
    let v4 := decide (r.width = 4)
    let aoff := o + (if v4 then (if src then 12 else 16) else (if src then 8 else 24))
    let oldA := slice b aoff addr.length
    let b1 := putBytes b aoff addr
    let b2 := if v4 then fixCsum b1 (o + 10) oldA addr else b1
    match l4 with
    | none => b2
    | some q =>
      let poff := q + (if src then 0 else 2)
      let oldP := slice b2 poff 2
      let b3 := putBytes b2 poff port
      if proto = 6 then fixCsum b3 (q + 16) (oldA ++ oldP) (addr ++ port)
      else if proto = 17 then fixUdp b3 (q + 6) v4 (oldA ++ oldP) (addr ++ port)
      else b3

/-- A session that a packet hits: HIT, CLOSING on FIN or RST, packets and octets (R448, R449). -/
def State.sessTouch (s : State) (i : Nat) (x : Session) (len : Nat) (fin : Bool) : State :=
  s.setSess i (some { x with
    hit := true, closing := x.closing || fin, packets := x.packets + 1, octets := x.octets + BitVec.ofNat 64 len })

/-- What the session lookup gives a packet: the state, the packet, the source side still to rewrite, and the
destination address; none where the packet was punted (R448). -/
def State.sessStep (s : State) (p : Pkt) (r : Profile) (vrf : Nat) :
    State × Option (Pkt × Option (List Byte × List Byte) × List Byte) :=
  let dip := p.keyBytes r.dip r.width
  if ¬ r.sess then (s, some (p, none, dip))
  else
    let sip := p.keyBytes r.sip r.width
    let ports := if r.l4Hdr = 0 then [0, 0, 0, 0] else p.keyBytes r.l4 4
    let proto := beNat (p.keyBytes r.proto 1)
    let key := sessKeyBytes vrf proto sip dip (beNat (ports.take 2)) (beNat (ports.drop 2))
    let ip := p.hdr r.ipHdr
    let l4 := p.hdr r.l4Hdr
    match s.keyFind key with
    | none =>
      let s1 := s.count C.TABLES_SESS_MISS
      if r.puntMiss then (s1.punt p 5, none) else (s1, some (p, none, dip))
    | some k =>
      match s.sessAt (k / 2) with
      | none => (s, some (p, none, dip))
      | some x =>
        let fin := decide (proto = 6) && (match l4 with
          | some q => (p.bytes.getD (q + 13) 0).getLsbD 0 || (p.bytes.getD (q + 13) 0).getLsbD 2
          | none => false)
        let s1 := s.sessTouch (k / 2) x p.bytes.length fin
        let reply := decide (k % 2 = 1)
        let newDst := if reply then x.addr 2 else x.addr 15
        let newSrc := if reply then x.addr 6 else x.addr 11
        let dstPort := beBytes 2 (if reply then getBits (x.w 1) 16 16 else getBits (x.w 10) 0 16)
        let srcPort := beBytes 2 (if reply then getBits (x.w 1) 0 16 else getBits (x.w 10) 16 16)
        let q := { p with bytes := rewriteSide p.bytes r ip l4 proto false newDst dstPort }
        (s1, some (q, some (newSrc, srcPort), newDst))

/-- The source rewrite, after the route lookup (R448). -/
def srcRewrite (p : Pkt) (r : Profile) (x : Option (List Byte × List Byte)) : Pkt :=
  match x with
  | some (a, port) => { p with bytes := rewriteSide p.bytes r (p.hdr r.ipHdr) (p.hdr r.l4Hdr)
                                          (beNat (p.keyBytes r.proto 1)) true a port }
  | none => p

/-! ### Routing (R443 to R446) -/

/-- Word w of next hop n. -/
def State.nhWord (s : State) (n w : Nat) : Word := idxWord s.tables.nhs n w

/-- Decrement the TTL or hop limit; the IPv4 header checksum follows (R446). -/
def decTtl (b : List Byte) (o : Nat) (v4 : Bool) : List Byte :=
  if v4 then
    let old := slice b (o + 8) 2
    let new := beBytes 2 (beNat old - 256)
    fixCsum (putBytes b (o + 8) new) (o + 10) old new
  else putBytes b (o + 7) (beBytes 1 (beNat (slice b (o + 7) 1) - 1))

/-- The outgoing BD's VID in an 802.1Q tag, if present (R446). -/
def retag (b : List Byte) (vid : Nat) : List Byte :=
  if frame16 b 12 = 0x8100 then putBytes b 14 (beBytes 2 (frame16 b 14 / 4096 * 4096 + vid % 4096)) else b

/-- Route a packet (R444, R446). -/
def State.routePkt (s : State) (p : Pkt) (r : Profile) (vrf : Nat) (dip : List Byte)
    (src : Option (List Byte × List Byte)) : State :=
  let rs := if r.l3 = 2 then s.tables.v6 else s.tables.v4
  match longest rs (8 * r.width) vrf (beNat dip) with
  | none => (s.punt (srcRewrite p r src) 1).count C.TABLES_L3_MISS
  | some rt =>
    let q := srcRewrite p r src
    let w0 := s.nhWord rt.nh 0
    let o := (q.hdr r.ipHdr).getD 0
    let v4 := decide (r.width = 4)
    let ttl := frameByte q.bytes (o + (if v4 then 8 else 7))
    if ¬ w0.getLsbD 31 then (s.punt q 2).count C.TABLES_NH_INVALID
    else if w0.getLsbD 30 ∧ ttl ≤ 1 then (s.punt q 3).count C.TABLES_TTL_PUNT
    else
      let b1 := if w0.getLsbD 30 then decTtl q.bytes o v4 else q.bytes
      let bd := getBits w0 0 12
      let rif := getBits (idxWord s.tables.bds bd 0) 0 8
      if getBits (idxWord s.tables.rifs rif 0) 0 14 < b1.length - o then
        (s.punt { q with bytes := b1 } 4).count C.TABLES_MTU_PUNT
      else
        let da := leBytes 6 (macOf (s.nhWord rt.nh 1) (s.nhWord rt.nh 2)).toNat
        let sa := leBytes 6 (s.rifMac rif).toNat
        s.toTm { q with bytes := retag (putBytes b1 0 (da ++ sa)) bd } (some (getBits (s.nhWord rt.nh 3) 0 20))

/-! ### Bridging (R433 to R437) -/

/-- Broadcast address. -/
def macBroadcast : BitVec 48 := 0xFFFFFFFFFFFF

/-- Flood egress of a bridge domain. -/
def State.floodOf (s : State) (vid : Nat) : Nat := 0x50000 + getBits (idxWord s.tables.bds vid 0) 16 10

/-- Set HIT of an L2 entry (R435). -/
def State.l2Hit (s : State) (i : Nat) (e : L2Slot) : State := s.setL2 i (some { e with hit := true })

/-- The DA result (R433): the state, and the egress, none for a drop. -/
def State.daResult (s : State) (p : Pkt) (vid : Nat) : State × Option Nat :=
  let da := macAt p.bytes 0
  if da = macBroadcast then (s, some (s.floodOf vid))
  else
    match (if isGroup da then none else s.l2Find vid da) with
    | none =>
      match getBits (idxWord s.tables.bds vid 0) 28 2 with
      | 0 => (s.count C.TABLES_L2_FLOOD_UNKNOWN, some (s.floodOf vid))
      | 2 => (s, some 0x60006)
      | _ => (s, none)
    | some (i, e) =>
      let s1 := if s.flag F.TABLES_CTRL_DA_REFRESH then s.l2Hit i e else s
      if e.discard then (s1.count C.TABLES_L2_DISCARD, none)
      else if e.egress = p.srcEg then (s1.count C.TABLES_L2_HAIRPIN, none)
      else (s1, some e.egress)

/-- The DA hit an entry with DISCARD: its drop is already counted. -/
def State.daDiscards (s : State) (p : Pkt) (vid : Nat) : Bool :=
  let da := macAt p.bytes 0
  !isGroup da && (match s.l2Find vid da with
    | some (_, e) => e.discard
    | none => false)

/-- An SA hit (R435, R437): HIT is set; another egress moves an entry that is not static. -/
def State.saHit (s : State) (i : Nat) (e : L2Slot) (eg : Nat) : State :=
  let moved := decide (e.egress ≠ eg)
  let s1 := s.setL2 i (some { e with hit := true, egress := if moved && !e.static then eg else e.egress })
  if moved then s1.count (if e.static then C.TABLES_MOVE_BLOCKED else C.TABLES_MOVES) else s1

/-- The SA result (R433 to R437): the state, and whether the packet is dropped for it. -/
def State.saResult (s : State) (p : Pkt) (r : Profile) (vid : Nat) (dest : Option Nat) (counted : Bool) :
    State × Bool :=
  let sa := macAt p.bytes 6
  match s.l2Find vid sa with
  | some (i, e) =>
    ((s.saHit i e p.srcEg).countIf (e.discard && !counted) C.TABLES_L2_DISCARD, e.discard)
  | none =>
    if s.flag F.TABLES_CTRL_LEARN_EN ∧ r.learn ∧ (idxWord s.tables.bds vid 0).getLsbD 30 ∧ ¬ isGroup sa then
      if s.tables.learnQ.length < 1024 then
        let q : LearnReq := { bd := vid, mac := sa, egress := p.srcEg, pkt := { p with egress := dest } }
        (s.modTables (fun t => { t with learnQ := t.learnQ ++ [q] }), false)
      else (s.count C.TABLES_LEARN_QFULL, false)
    else (s, false)

/-- Forward by the DA result and take the SA result; a routed packet goes on to routing instead (R433, R443). -/
def State.bridge (s : State) (p : Pkt) (r : Profile) (vid : Nat) : State :=
  let (s1, dest) := s.daResult p vid
  let (s2, drop) := s1.saResult p r vid dest (s.daDiscards p vid)
  match drop, dest with
  | false, some e => s2.toTm p (some e)
  | _, _ => s2

/-- Forward a packet under its profile (R429, R430, R433, R443, R448). -/
def State.lookupPkt (s : State) (p : Pkt) : State :=
  let r := s.profile p
  let needsBd := r.l2 || decide (r.l3 ≠ 0) || r.sess
  let vid := s.vidOf r p
  if needsBd ∧ ¬ s.bdValid vid then s.count C.TABLES_BD_INVALID
  else
    let vrf := match s.rifOf vid with
      | some f => getBits (idxWord s.tables.rifs f 0) 24 4
      | none => 0
    let routed := decide (r.l3 ≠ 0) && (match s.rifOf vid with
      | some f => decide (macAt p.bytes 0 = s.rifMac f)
      | none => false)
    match s.sessStep p r vrf with
    | (s1, none) => s1
    | (s1, some (q, src, dip)) =>
      if routed then
        if r.l2 then
          match s1.saResult q r vid none false with
          | (s2, true) => s2
          | (s2, false) => s2.routePkt q r vrf dip src
        else s1.routePkt q r vrf dip src
      else
        let q1 := srcRewrite q r src
        if r.l2 then s1.bridge q1 r vid else s1.toTm q1 none

/-- An entry read with a double-bit error (R453): it is absent from now on, and `TABLE_ECC` is raised. -/
def State.tableLost (s : State) (t i : Nat) : State :=
  let s1 := (s.present 0x26 (t * 2 ^ 17 + i)).count C.TABLES_ECC_DOUBLE
  match t with
  | 0 => s1.setL2 i none
  | 1 => s1.modTables (fun x => { x with v4 := x.v4.eraseIdx i })
  | 2 => s1.modTables (fun x => { x with v6 := x.v6.eraseIdx i })
  | 3 => (s1.keysRemove i).setSess i none
  | 4 => s1.modTables (fun x => { x with nhs := sput (fun _ => []) x.nhs i [] })
  | 5 => s1.modTables (fun x => { x with bds := sput (fun _ => []) x.bds i [] })
  | 6 => s1.modTables (fun x => { x with rifs := sput (fun _ => []) x.rifs i [] })
  | _ => s1.modTables (fun x => { x with profs := sput (fun _ => []) x.profs i [] })

/-- TABLES_LOOKUP (R429, R682): the oldest packet is forwarded, once TM takes work. `lost` lists the table entries that read with a double-bit
error now. -/
def execTablesLookup (lost : List (Fin 8 × BitVec 17)) (s : State) : Host.Outcome State Fault Refusal :=
  match s.tables.inbox with
  | [] => .next s
  | p :: rest =>
    if s.takesWork 0x30 ∧ s.takesWork 0x40 then
      let s1 := lost.foldl (fun t e => t.tableLost e.1.val e.2.toNat) (s.modTables (fun t => { t with inbox := rest }))
      .next (s1.lookupPkt p).syncFill
    else .next s

/-! ### Learning and sweeping (R436 to R441, R449) -/

/-- Learning failed for lack of room (R439). -/
def State.learnFail (s : State) (q : LearnReq) : State :=
  let flood := s.floodOf q.bd
  let s1 := s.count C.TABLES_LEARN_FAIL
  let s2 := if q.pkt.egress = some flood then s1
    else s1.toTm { q.pkt with skip := q.pkt.egress } (some flood)
  match s.tables.fullTime with
  | some t =>
    if s.now - t.toNat < 1000 * Config.ticksPerMs then s2
    else (s2.modTables (fun x => { x with fullTime := some s.time.tick })).present 0x24 0
  | none => (s2.modTables (fun x => { x with fullTime := some s.time.tick })).present 0x24 0

/-- LEARN (R436 to R439): the engine takes the oldest learn request; a key held by now counts as an SA hit (R438). -/
def execLearn (s : State) : Host.Outcome State Fault Refusal :=
  s.whenWorks 0x30 <|
  match s.tables.learnQ with
  | [] => .next s
  | q :: rest =>
    let s0 := s.modTables (fun t => { t with learnQ := rest })
    match s0.l2Find q.bd q.mac with
    | some (i, e) => .next (s0.saHit i e q.egress)
    | none =>
      let e : L2Slot := { bd := q.bd, mac := q.mac, static := false, discard := false, hit := true, version := 0,
                          miss := 0, pass := !s.tables.l2Parity, egress := q.egress }
      match s0.l2Insert e with
      | some t => .next (t.count C.TABLES_LEARNED).syncFill
      | none => .next (s0.learnFail q)

/-- The sweeper judges the entry of slot i (R441). -/
def State.l2Judge (s : State) (i : Nat) (parity : Bool) : State :=
  match s.l2At i with
  | none => s
  | some e =>
    if e.static ∨ e.pass = parity then s
    else if e.hit then s.setL2 i (some { e with pass := parity, hit := false, miss := 0 })
    else if e.miss + 1 = 2 then (s.setL2 i none).count C.TABLES_AGED_OUT
    else s.setL2 i (some { e with pass := parity, miss := e.miss + 1 })

/-- Where a sweeper's pass stands at its visit i of n (R440, R449): the start and the length of the pass to which the visit belongs,
none where the visit is not due. A pass begins where the one before ended, with the length that the register holds then. -/
def State.sweepPass (s : State) (i n : Nat) (start : Option Nat) (ms reg : Nat) : Option (Nat × Nat) :=
  let p : Nat × Nat :=
    match start with
    | none => (s.now, reg)
    | some t => if i = 0 then (t + ms * Config.ticksPerMs, reg) else (t, ms)
  if p.1 * n + i * (p.2 * Config.ticksPerMs) ≤ s.now * n then some p else none

/-- L2_SWEEP (R440, R441): the sweeper visits its next slot when its time has come; the parity toggles at the start of a pass. -/
def execL2Sweep (s : State) : Host.Outcome State Fault Refusal :=
  s.whenWorks 0x30 <|
  let i := s.tables.l2Pos
  match s.sweepPass i 131072 s.tables.l2Start s.tables.l2Ms (s.fld F.TABLES_AGE_L2_PASS_MS) with
  | some (start, ms) =>
    if s.fld F.TABLES_AGE_L2_PASS_MS = 0 then .next s
    else
      let parity := if i = 0 then !s.tables.l2Parity else s.tables.l2Parity
      let s1 := s.modTables (fun t => { t with
        l2Parity := parity, l2Pos := (i + 1) % 131072, l2Start := some start, l2Ms := ms })
      .next (s1.l2Judge i parity).syncFill
  | none => .next s

/-- The session sweeper judges session i (R449). -/
def State.sessJudge (s : State) (i : Nat) (parity : Bool) : State :=
  match s.sessAt i with
  | none => s
  | some x =>
    let limit := if x.closing then getBits (x.w 0) 0 8 else getBits (x.w 0) 8 8
    if x.pass = parity then s
    else if x.hit then s.setSess i (some { x with pass := parity, hit := false, miss := 0 })
    else if limit ≤ x.miss + 1 then (s.sessRemove i (if x.closing then 2 else 1)).count C.TABLES_SESS_AGED
    else s.setSess i (some { x with pass := parity, miss := x.miss + 1 })

/-- SESS_SWEEP (R449): the sweeper visits its next record when its time has come. -/
def execSessSweep (s : State) : Host.Outcome State Fault Refusal :=
  s.whenWorks 0x30 <|
  let i := s.tables.sessPos
  match s.sweepPass i 65536 s.tables.sessStart s.tables.sessMs (s.fld F.TABLES_AGE_SESS_PASS_MS) with
  | some (start, ms) =>
    if s.fld F.TABLES_AGE_SESS_PASS_MS = 0 then .next s
    else
      let parity := if i = 0 then !s.tables.sessParity else s.tables.sessParity
      let s1 := s.modTables (fun t => { t with
        sessParity := parity, sessPos := (i + 1) % 65536, sessStart := some start, sessMs := ms })
      .next (s1.sessJudge i parity).syncFill
  | none => .next s

/-! ### Commands (R445, R447, R450, R456, R457) -/

/-- Results of STATUS (R456). -/
def tblDone : Nat := 1
/-- TBL_EXISTS. -/
def tblExists : Nat := 2
/-- TBL_NONE. -/
def tblNone : Nat := 3
/-- TABLE_FULL. -/
def tblFull : Nat := 4
/-- CFG_RANGE. -/
def tblRange : Nat := 5
/-- ZERO_LENGTH. -/
def tblZero : Nat := 6

/-- A command ends with a result. -/
def State.tblEnd (s : State) (r : Nat) : State := s.setFld F.TABLES_STATUS_RESULT r

/-- Staging word w. -/
def State.tblStage (s : State) (w : Nat) : Word := s.rd (A.TABLES_STAGE w)

/-- The L2 entry that staging holds; a command writes HIT, MISS and VERSION as 0, and PASS opposite to the current
parity. -/
def State.stagedL2 (s : State) : L2Slot :=
  { bd := getBits (s.tblStage 0) 0 12, mac := macOf (s.tblStage 1) (s.tblStage 2)
    static := (s.tblStage 0).getLsbD 30, discard := (s.tblStage 0).getLsbD 29, hit := false, version := 0, miss := 0
    pass := !s.tables.l2Parity, egress := getBits (s.tblStage 3) 0 20 }

/-- ADD, UPDATE or DELETE of an L2 entry (R438, R456). -/
def State.l2Command (s : State) (op : Nat) : State :=
  let e := s.stagedL2
  if ¬ (1 ≤ e.bd ∧ e.bd ≤ 4094) ∨ (op ≠ 3 ∧ ¬ egressLegal e.egress true) then s.tblEnd tblRange
  else
    match op, s.l2Find e.bd e.mac with
    | 1, some _ => s.tblEnd tblExists
    | 1, none =>
      match s.l2Insert e with
      | some t => t.tblEnd tblDone
      | none => s.tblEnd tblFull
    | 2, some (i, old) =>
      (s.setL2 i (some { old with static := e.static, discard := e.discard, egress := e.egress })).tblEnd tblDone
    | 3, some (i, _) => (s.setL2 i none).tblEnd tblDone
    | _, _ => s.tblEnd tblNone

/-- The route that staging holds for a family (R457). -/
def State.stagedRoute (s : State) (v6 : Bool) : Route :=
  { vrf := getBits (s.tblStage 0) 8 4, len := getBits (s.tblStage 0) 0 8
    addr := beNat (ofItems ((List.range (if v6 then 4 else 1)).map (fun i => s.tblStage (1 + i))))
    nh := getBits (s.tblStage 5) 0 14 }

/-- ADD, UPDATE or DELETE of a route (R445). -/
def State.routeCommand (s : State) (op : Nat) (v6 : Bool) : State :=
  let r := s.stagedRoute v6
  let width := if v6 then 128 else 32
  let rs := if v6 then s.tables.v6 else s.tables.v4
  let cap := if v6 then 16384 else 65536
  let same := fun (x : Route) => decide (x.vrf = r.vrf ∧ x.len = r.len ∧ x.addr = r.addr)
  let put := fun (l : List Route) => if v6 then s.modTables (fun t => { t with v6 := l })
    else s.modTables (fun t => { t with v4 := l })
  if width < r.len ∨ r.addr % 2 ^ (width - r.len) ≠ 0 then s.tblEnd tblRange
  else
    match op, rs.any same with
    | 1, true => s.tblEnd tblExists
    | 1, false => if cap ≤ rs.length then s.tblEnd tblFull else (put (rs ++ [r])).tblEnd tblDone
    | 2, true => (put (rs.map (fun x => if same x then r else x))).tblEnd tblDone
    | 3, true => (put (rs.filter (fun x => !same x))).tblEnd tblDone
    | _, _ => s.tblEnd tblNone

/-- The session that staging holds (R457). -/
def State.stagedSess (s : State) : Session :=
  { words := (List.range 19).map (fun w => s.tblStage w), pass := !s.tables.sessParity }

/-- The checks of a session ADD or UPDATE (R447). -/
def Session.check (x : Session) : Option Nat :=
  let nat := getBits (x.w 0) 29 2
  let srcSame := decide (x.addr 11 = x.addr 2) && decide (getBits (x.w 10) 16 16 = getBits (x.w 1) 16 16)
  let dstSame := decide (x.addr 15 = x.addr 6) && decide (getBits (x.w 10) 0 16 = getBits (x.w 1) 0 16)
  let timeout := getBits (x.w 0) 8 8
  let close := getBits (x.w 0) 0 8
  if timeout = 0 ∨ close = 0 then some tblZero
  else if timeout = 1 ∨ close = 1 then some tblRange
  else if (¬ nat.testBit 0 ∧ ¬ srcSame) ∨ (¬ nat.testBit 1 ∧ ¬ dstSame) then some tblRange
  else none

/-- Insert both keys of a session, or neither (R447). -/
def State.sessInsert (s : State) (i : Nat) (x : Session) : Option State :=
  let s1 := s.setSess i (some x)
  match s1.keyInsert (2 * i) (x.key false) with
  | some s2 => s2.keyInsert (2 * i + 1) (x.key true)
  | none => none

/-- ADD, UPDATE or DELETE of session i (R447, R450): an index whose end record waits counts as held. -/
def State.sessCommand (s : State) (op i : Nat) : State :=
  if 65536 ≤ i then s.tblEnd tblRange
  else
    match op, s.sessAt i with
    | 3, some _ => (s.sessRemove i 3).tblEnd tblDone
    | 3, none => s.tblEnd tblNone
    | 2, none => s.tblEnd tblNone
    | 2, some old =>
      let x := s.stagedSess
      match x.check with
      | some r => s.tblEnd r
      | none =>
        let y := { x with hit := old.hit, closing := old.closing, miss := old.miss, pass := old.pass,
                          packets := old.packets, octets := old.octets }
        if y.key false = old.key false ∧ y.key true = old.key true then (s.setSess i (some y)).tblEnd tblDone
        else
          let s1 := (s.keysRemove i).setSess i none
          if (s1.keyFind (y.key false)).isSome ∨ (s1.keyFind (y.key true)).isSome then s.tblEnd tblExists
          else
            match s1.sessInsert i y with
            | some t => t.tblEnd tblDone
            | none => s.tblEnd tblFull
    | _, some _ => s.tblEnd tblExists
    | _, none =>
      let s0 := s.flushEnds s.tables.ends
      let x := s0.stagedSess
      if s0.tables.ends.any (fun e => decide (e.1 = i)) then s0.tblEnd tblExists
      else
        match x.check with
        | some r => s0.tblEnd r
        | none =>
          if (s0.keyFind (x.key false)).isSome ∨ (s0.keyFind (x.key true)).isSome then s0.tblEnd tblExists
          else
            match s0.sessInsert i x with
            | some t => t.tblEnd tblDone
            | none => s0.tblEnd tblFull

/-- A keyed operation on tables 0 to 3; any other pair of OP and TABLE ends with `CFG_RANGE` (R456). -/
def State.keyedCommand (s : State) (op table i : Nat) : State :=
  match table with
  | 0 => s.l2Command op
  | 1 => s.routeCommand op false
  | 2 => s.routeCommand op true
  | 3 => s.sessCommand op i
  | _ => s.tblEnd tblRange

/-- A command touches an entry: it is no longer suspected (R452). -/
def State.untouch (s : State) (table i : Nat) : State :=
  let key : Nat × Nat :=
    match table with
    | 0 => (6, s.stagedL2.bd * 2 ^ 48 + beNat (leBytes 6 s.stagedL2.mac.toNat))
    | 1 => (4, ((s.stagedRoute false).vrf * 256 + (s.stagedRoute false).len) * 2 ^ 32 + (s.stagedRoute false).addr)
    | 2 => (5, ((s.stagedRoute true).vrf * 256 + (s.stagedRoute true).len) * 2 ^ 128 + (s.stagedRoute true).addr)
    | 3 => (9, i)
    | t => (7 - t, i)
  s.modTables (fun t => { t with suspects := t.suspects.filter (fun x => !(decide (x.1 = key.1 ∧ x.2.1 = key.2))) })

/-- A CMD write of TABLE 0 to 7; a larger TABLE is refused, and so is a write while BUSY, which lasts until the next tick (R456). -/
def State.tblCmd (s : State) (table : BitVec 4) (c : Instr) (f : State → State) : State :=
  s.ownWrite A.TABLES_CMD c (fun u =>
    if 8 ≤ table.toNat ∨ u.flag F.TABLES_STATUS_BUSY then u.refuse A.TABLES_CMD .cfgRange
    else (f u).syncFill.setFld F.TABLES_STATUS_BUSY 1)

/-- TABLES_ADD (R456). -/
def execTablesAdd (table : BitVec 4) (index : BitVec 17) (s : State) : Host.Outcome State Fault Refusal :=
  .next (s.tblCmd table (.tablesAdd table index) (fun u => (u.keyedCommand 1 table.toNat index.toNat).untouch table.toNat index.toNat))

/-- TABLES_UPDATE (R456). -/
def execTablesUpdate (table : BitVec 4) (index : BitVec 17) (s : State) : Host.Outcome State Fault Refusal :=
  .next (s.tblCmd table (.tablesUpdate table index) (fun u => (u.keyedCommand 2 table.toNat index.toNat).untouch table.toNat index.toNat))

/-- TABLES_DELETE (R450, R456). -/
def execTablesDelete (table : BitVec 4) (index : BitVec 17) (s : State) : Host.Outcome State Fault Refusal :=
  .next (s.tblCmd table (.tablesDelete table index) (fun u => (u.keyedCommand 3 table.toNat index.toNat).untouch table.toNat index.toNat))

/-- Fill staging from word 0 on, the rest with 0. -/
def State.fillTbl (s : State) (ws : List Word) : State :=
  s.wrList A.TABLES_STAGE (ws ++ List.replicate (24 - ws.length) 0)

/-- The staging words of an L2 entry (R457). -/
def L2Slot.toWords (e : L2Slot) : List Word :=
  [BitVec.ofNat 32 (2 ^ 31 + bit e.static * 2 ^ 30 + bit e.discard * 2 ^ 29 + bit e.hit * 2 ^ 28 + e.version % 4 * 2 ^ 26 +
     e.miss % 4 * 2 ^ 24 + bit e.pass * 2 ^ 23 + e.bd), BitVec.ofNat 32 e.mac.toNat,
   BitVec.ofNat 32 (e.mac.toNat / 2 ^ 32), BitVec.ofNat 32 e.egress]

/-- The staging words of a session (R457). -/
def Session.toWords (x : Session) : List Word :=
  (List.range 19).map x.w ++ [BitVec.ofNat 32 (bit x.closing * 2 ^ 31 + x.miss % 256),
    BitVec.ofNat 32 x.packets.toNat, BitVec.ofNat 32 (x.packets.toNat / 2 ^ 32), BitVec.ofNat 32 x.octets.toNat,
    BitVec.ofNat 32 (x.octets.toNat / 2 ^ 32)]

/-- READ by key of an L2 entry, route or session (R456). -/
def State.readKey (s : State) (table : Nat) : State :=
  match table with
  | 0 =>
    match s.l2Find s.stagedL2.bd s.stagedL2.mac with
    | some (i, e) => ((s.fillTbl e.toWords).setFld F.TABLES_STATUS_SLOT i).tblEnd tblDone
    | none => s.tblEnd tblNone
  | 3 =>
    match s.keyFind (s.stagedSess.key false) with
    | some k => (match s.sessAt (k / 2) with
      | some x => (s.fillTbl x.toWords).tblEnd tblDone
      | none => s.tblEnd tblNone)
    | none => s.tblEnd tblNone
  | t =>
    if t = 1 ∨ t = 2 then
      let r := s.stagedRoute (decide (t = 2))
      match (if t = 2 then s.tables.v6 else s.tables.v4).find? (fun x =>
          decide (x.vrf = r.vrf ∧ x.len = r.len ∧ x.addr = r.addr)) with
      | some x => (s.wr (A.TABLES_STAGE 5) (BitVec.ofNat 32 x.nh)).tblEnd tblDone
      | none => s.tblEnd tblNone
    else s.tblEnd tblRange

/-- TABLES_READ_KEY (R456). -/
def execTablesReadKey (table : BitVec 4) (_index : BitVec 17) (s : State) : Host.Outcome State Fault Refusal :=
  .next (s.tblCmd table (.tablesReadKey table _index) (fun u => u.readKey table.toNat))

/-- The staged words of an indexed entry, reserved bits cleared (R457). -/
def State.stagedIdx (s : State) (table : Nat) : List Word :=
  match table with
  | 4 => [s.tblStage 0 &&& 0xC0000FFF, s.tblStage 1, s.tblStage 2 &&& 0xFFFF, s.tblStage 3 &&& 0xFFFFF]
  | 5 => [s.tblStage 0 &&& 0xF3FF00FF]
  | 6 => [s.tblStage 0 &&& 0x8F003FFF, s.tblStage 1, s.tblStage 2 &&& 0xFFFF]
  | _ => [s.tblStage 0 &&& 0xFFFFFFFC, s.tblStage 1 &&& 0xBF0FFC00]

/-- Entries of an indexed table. -/
def idxCount (table : Nat) : Nat :=
  if table = 4 then 16384 else if table = 5 then 4096 else if table = 6 then 256 else 64

/-- The staged indexed entry is legal at index i (R429, R431, R457). -/
def idxLegal (table i : Nat) (ws : List Word) : Bool :=
  let w0 := ws.getD 0 0
  match table with
  | 4 => egressLegal (getBits (ws.getD 3 0) 0 20) true
  | 5 => decide (getBits w0 28 2 ≠ 3) && !(w0.getLsbD 31 && (decide (i = 0) || decide (i = 4095)))
  | 6 => decide (i ≠ 0) && (!w0.getLsbD 31 || decide (68 ≤ getBits w0 0 14 ∧ getBits w0 0 14 ≤ 11454))
  | _ => (profileOf w0 (ws.getD 1 0)).legal

/-- Hold an indexed entry. -/
def State.setIdx (s : State) (table i : Nat) (ws : List Word) : State :=
  match table with
  | 4 => s.modTables (fun t => { t with nhs := sput (fun _ => []) t.nhs i ws })
  | 5 => s.modTables (fun t => { t with bds := sput (fun _ => []) t.bds i ws })
  | 6 => s.modTables (fun t => { t with rifs := sput (fun _ => []) t.rifs i ws })
  | _ => s.modTables (fun t => { t with profs := sput (fun _ => []) t.profs i ws })

/-- The words of an indexed entry. -/
def State.idxWords (s : State) (table i : Nat) : List Word :=
  match table with
  | 4 => sget (fun _ => []) s.tables.nhs i
  | 5 => sget (fun _ => []) s.tables.bds i
  | 6 => sget (fun _ => []) s.tables.rifs i
  | _ => sget (fun _ => []) s.tables.profs i

/-- WRITE indexed (R456, R457). -/
def State.writeIdx (s : State) (table i : Nat) : State :=
  if table < 4 ∨ idxCount table ≤ i ∨ ¬ idxLegal table i (s.stagedIdx table) then s.tblEnd tblRange
  else (s.setIdx table i (s.stagedIdx table)).tblEnd tblDone

/-- TABLES_WRITE_INDEXED (R456, R457). -/
def execTablesWriteIndexed (table : BitVec 4) (index : BitVec 17) (s : State) : Host.Outcome State Fault Refusal :=
  .next (s.tblCmd table (.tablesWriteIndexed table index) (fun u => (u.writeIdx table.toNat index.toNat).untouch table.toNat index.toNat))

/-- READ by index or L2 slot (R456). -/
def State.readIdx (s : State) (table i : Nat) : State :=
  match table with
  | 0 =>
    match s.l2At i with
    | some e => ((s.fillTbl e.toWords).setFld F.TABLES_STATUS_SLOT i).tblEnd tblDone
    | none => s.tblEnd tblNone
  | 3 =>
    match (if i < 65536 then s.sessAt i else none) with
    | some x => (s.fillTbl x.toWords).tblEnd tblDone
    | none => s.tblEnd tblNone
  | t =>
    if t < 4 ∨ idxCount t ≤ i then s.tblEnd tblRange
    else (s.fillTbl (s.idxWords t i)).tblEnd tblDone

/-- TABLES_READ_INDEX (R456). -/
def execTablesReadIndex (table : BitVec 4) (index : BitVec 17) (s : State) : Host.Outcome State Fault Refusal :=
  .next (s.tblCmd table (.tablesReadIndex table index) (fun u => u.readIdx table.toNat index.toNat))

/-- FLUSH (R456): non-static entries of one BD or of every BD, of one egress where staging says so. -/
def State.flushL2 (s : State) : State :=
  let bd := getBits (s.tblStage 0) 0 12
  let one := (s.tblStage 3).getLsbD 31
  let eg := getBits (s.tblStage 3) 0 20
  if ¬ ((1 ≤ bd ∧ bd ≤ 4094) ∨ bd = 0xFFF) then s.tblEnd tblRange
  else
    (s.modTables (fun t => { t with l2 := t.l2.filter (fun e =>
      match e.2 with
      | some x => x.static || (decide (bd ≠ 0xFFF) && decide (x.bd ≠ bd)) || (one && decide (x.egress ≠ eg))
      | none => false) })).tblEnd tblDone

/-- FLUSH (R456): table 0 only. -/
def execFlush (table : BitVec 4) (s : State) : Host.Outcome State Fault Refusal :=
  .next (s.tblCmd table (.flush table) (fun u => if table = 0 then u.flushL2 else u.tblEnd tblRange))

/-! ### Agreement with the software shadow (R451 to R453) -/

/-- Offset, entry size in bytes and capacity of each audit region (R451). -/
def auditRegion (r : Nat) : Nat × Nat × Nat :=
  match r with
  | 0 => (0x000000, 8, 64)
  | 1 => (0x001000, 16, 256)
  | 2 => (0x004000, 8, 4096)
  | 3 => (0x010000, 16, 16384)
  | 4 => (0x060000, 8, 65536)
  | 5 => (0x0F0000, 24, 16384)
  | _ => (0x160000, 16, 131072)

/-- The TABLES.CMD table of an audit region. -/
def auditTable (r : Nat) : Nat := [7, 6, 5, 4, 1, 2, 0].getD r 0

/-- Address of the shadow (R458). -/
def State.shadowBase (s : State) : Nat :=
  s.fld F.TABLES_SHADOW_LO_BASE + s.fld F.TABLES_SHADOW_HI_BASE * 2 ^ 32

/-- Sort key of a route (R451). -/
def routeKey (width vrf len addr : Nat) : Nat := (vrf * 256 + len) * 2 ^ width + addr

/-- Sort key of an L2 entry: BD, then MAC in transmission order (R451). -/
def l2SortKey (bd : Nat) (mac : BitVec 48) : Nat := bd * 2 ^ 48 + beNat (leBytes 6 mac.toNat)

/-- A shadow entry of region r at position i: its key and what is compared, never HIT, MISS, VERSION or PASS (R451). -/
def shadowEntry (r i : Nat) (ws : List Word) : Nat × Nat :=
  let w := fun k => ws.getD k 0
  match r with
  | 4 => (routeKey 32 (getBits (w 0) 8 4) (getBits (w 0) 0 6) (beNat (ofItems [w 1])), getBits (w 0) 18 14)
  | 5 => (routeKey 128 (getBits (w 0) 8 4) (getBits (w 0) 0 8) (beNat (ofItems [w 1, w 2, w 3, w 4])),
          getBits (w 5) 0 14)
  | 6 => (l2SortKey (getBits (w 0) 0 12) (macOf (w 1) (w 2)),
          getBits (w 3) 0 20 + getBits (w 0) 29 1 * 2 ^ 20)
  | _ => (i, leNat (ofItems ws))

/-- The shadow list of region r, or none where its count exceeds the capacity or it is out of order (R452). -/
def State.shadowList (s : State) (r : Nat) : Option (List (Nat × Nat)) :=
  let (off, size, cap) := auditRegion r
  let base := s.shadowBase + off
  let n := leNat (s.dmaBytes base 4)
  if cap < n then none
  else
    let l := (List.range n).map (fun i => shadowEntry r i (toItems (s.dmaBytes (base + 16 + size * i) size)))
    if (l.zip l.tail).all (fun x => decide (x.1.1 < x.2.1)) then some l else none

/-- The hardware's entries of region r in the same form. -/
def State.hwList (s : State) (r : Nat) : List (Nat × Nat) :=
  match r with
  | 4 => s.tables.v4.map (fun x => (routeKey 32 x.vrf x.len x.addr, x.nh))
  | 5 => s.tables.v6.map (fun x => (routeKey 128 x.vrf x.len x.addr, x.nh))
  | 6 => s.tables.l2.filterMap (fun e => match e.2 with
    | some x => if x.static then some (l2SortKey x.bd x.mac, x.egress + bit x.discard * 2 ^ 20) else none
    | none => none)
  | r => (List.range (idxCount (auditTable r))).map (fun i => (i, leNat (ofItems (s.idxWords (auditTable r) i))))

/-- What a list holds for a key; an absent indexed entry counts as zeros. -/
def listAt (r : Nat) (l : List (Nat × Nat)) (k : Nat) : Option Nat :=
  match l.find? (fun e => decide (e.1 = k)) with
  | some e => some e.2
  | none => if r < 4 then some 0 else none

/-- Keys at which the shadow and the hardware differ, both directions (R452). -/
def mismatches (r : Nat) (sh hw : List (Nat × Nat)) : List Nat :=
  ((sh ++ hw).map (fun e => e.1)).eraseDups.filter (fun k => decide (listAt r sh k ≠ listAt r hw k))

/-- Log the reads of region r of the shadow where they meet a hole in memory (R125). -/
def State.logShadow (s : State) (r : Nat) : State :=
  let (off, size, cap) := auditRegion r
  let base := s.shadowBase + off
  let n := leNat (s.dmaBytes base 4)
  match s.hole base 4 with
  | some a => s.unmapped a
  | none => if cap < n then s else s.logDma (base + 16) (size * n)

/-- Audit one region: suspects join the list, and the result shows (R452). -/
def State.auditOne (s : State) (r : Nat) : State :=
  let s0 := (s.logShadow r).setFld F.TABLES_AUDIT_STATUS_REGION r
  match s.shadowList r with
  | none => s0.setFld F.TABLES_AUDIT_STATUS_RESULT 2
  | some sh =>
    let new := (mismatches r sh (s.hwList r)).filter (fun k =>
      !(s.tables.suspects.any (fun x => decide (x.1 = r ∧ x.2.1 = k))))
    s0.modTables (fun t => { t with suspects := t.suspects ++ new.map (fun k => (r, k, s.time.tick)) })

/-- A pass of the audit is due: none has run, or PERIOD_S has passed since the last began (R452). -/
def State.auditDue (s : State) : Bool :=
  s.tables.auditAt.all (fun t => decide (t + s.fld F.TABLES_AUDIT_CTRL_PERIOD_S * 1000 * Config.ticksPerMs ≤ s.now))

/-- AUDIT_PASS (R452): every region in MASK is compared; RUNNING shows until the next tick. -/
def execAuditPass (s : State) : Host.Outcome State Fault Refusal :=
  s.whenWorks 0x30 <|
  if s.flag F.TABLES_AUDIT_CTRL_EN ∧ s.auditDue then
    let s1 := ((s.setFld F.TABLES_AUDIT_STATUS_RESULT 1).setFld F.TABLES_AUDIT_STATUS_RUNNING 1).modTables (fun t => { t with
      auditAt := some s.now })
    .next (((List.range 7).filter (fun r => (s.fld F.TABLES_AUDIT_CTRL_MASK).testBit r)).foldl State.auditOne s1)
  else .next s

/-- Rewrite the entry of key k in region r from the shadow's content, as the commands would (R452): content that a
command refuses changes nothing. -/
def State.auditFix (s : State) (r k : Nat) (sh : Option Nat) : State :=
  let v := sh.getD 0
  let route := fun (width cap : Nat) (l : List Route) =>
    let kept := l.filter (fun x => decide (routeKey width x.vrf x.len x.addr ≠ k))
    match sh with
    | some nh => if cap ≤ kept.length then l else kept ++ [{ vrf := k / 2 ^ width / 256, len := k / 2 ^ width % 256, addr := k % 2 ^ width, nh := nh }]
    | none => kept
  match r with
  | 4 => s.modTables (fun t => { t with v4 := route 32 65536 t.v4 })
  | 5 => s.modTables (fun t => { t with v6 := route 128 16384 t.v6 })
  | 6 =>
    let bd := k / 2 ^ 48
    let mac := BitVec.ofNat 48 (leNat (beBytes 6 (k % 2 ^ 48)))
    let e : L2Slot := { bd := bd, mac := mac, static := true, discard := v.testBit 20, hit := false, version := 0,
                        miss := 0, pass := !s.tables.l2Parity, egress := v % 2 ^ 20 }
    match sh, s.l2Find bd mac with
    | none, some (i, _) => s.setL2 i none
    | some _, some (i, old) =>
      s.setL2 i (some { old with static := true, discard := e.discard, egress := e.egress })
    | some _, none => (s.l2Insert e).getD s
    | none, none => s
  | r =>
    let ws := toItems (leBytes (4 * (s.stagedIdx (auditTable r)).length) v)
    if idxLegal (auditTable r) k ws then s.setIdx (auditTable r) k ws else s

/-- Confirm one suspect (R452). -/
def State.auditConfirm (s : State) (x : Nat × Nat × DWord) : State :=
  match s.shadowList x.1 with
  | none => s.setFld F.TABLES_AUDIT_STATUS_RESULT 2
  | some sh =>
    let hw := s.hwList x.1
    if listAt x.1 sh x.2.1 = listAt x.1 hw x.2.1 then s
    else
      let pos := if x.1 < 4 then x.2.1 else (sh.filter (fun e => decide (e.1 < x.2.1))).length
      let s1 := (s.setFld F.TABLES_AUDIT_STATUS_INDEX pos).count C.TABLES_AUDIT_MISMATCH
      let quiet := match s.tables.auditTime with
        | some t => decide (s.now - t.toNat < 1000 * Config.ticksPerMs)
        | none => false
      let s2 := if quiet then s1
        else (s1.modTables (fun t => { t with auditTime := some s.time.tick })).present 0x25 (x.1 * 2 ^ 17 + pos)
      if s.flag F.TABLES_AUDIT_CTRL_CORRECT then
        (s2.auditFix x.1 x.2.1 (listAt x.1 sh x.2.1)).count C.TABLES_AUDIT_CORRECTED
      else s2

/-- AUDIT_CONFIRM (R452): with EN set, suspects at least CONFIRM_US old are compared again. -/
def execAuditConfirm (s : State) : Host.Outcome State Fault Refusal :=
  s.whenWorks 0x30 <|
  if ¬ s.flag F.TABLES_AUDIT_CTRL_EN then .next s else
  let due := fun (x : Nat × Nat × DWord) =>
    decide (s.fld F.TABLES_AUDIT_CFG_CONFIRM_US * Config.ticksPerUs ≤ s.now - x.2.2.toNat)
  let s1 := s.modTables (fun t => { t with suspects := t.suspects.filter (fun x => !due x) })
  .next ((s.tables.suspects.filter due).foldl State.auditConfirm s1).syncFill

end Sys2Proof.Machine
end

