-- ==== Sys2Proof/Machine/FaultBlk.lean ====
section
/-! DEFINITION. The meanings of the FAULT and SYSCTL.ABORT commands (spec/18_faults_availability.md R648 to R679). -/

namespace Sys2Proof.Machine

/-! ### Events (R651 to R658) -/

/-- The next event to accept (R651, R666): the real one with the least source and unit, oldest first; an injected one
only when no real one waits. -/
def nextEvent (q : List FaultEv) : Option FaultEv :=
  match q.filter (fun e => !e.inj) with
  | [] => q.head?
  | e :: rest =>
    some (rest.foldl (fun b x => if x.src < b.src ∨ (x.src = b.src ∧ x.unit < b.unit) then x else b) e)

/-- An error shows in a unit (R569, R660): a core that is in use presents `CORE_FAULT`. -/
def State.shows (s : State) : Option UnitError → State
  | none => s
  | some (.core c) => if s.coreActive c.val then s.present 0x08 c.val else s
  | some (.keySlot n double) => s.keyEcc n.toNat double

/-- FAULT_EVENT (R651): an event is accepted, counted, judged, reacted to and logged. -/
def execFaultEvent (shown : Option UnitError) (s : State) : Host.Outcome State Fault Refusal :=
  s.whenUp <|
  let s := s.shows shown
  match nextEvent s.flt.queue with
  | none => .next s
  | some e =>
    let s0 := (s.modFlt (fun x => { x with queue := x.queue.erase e })).countFault e.src
    let s1 := if e.inj then (s0.count C.FAULT_INJECTED).setFld F.FAULT_STATE_INJ_BUSY 0 else s0
    if e.inj ∧ ¬ e.full then .next (s1.logFault e false reactLog)
    else
      let perm := sourceUnit e.src && s1.judge e
      let s2 := if sourceUnit e.src then s1.remember e else s1
      let code := if perm then s2.fld (F.FAULT_MAP_REACT_P e.src) else s2.fld (F.FAULT_MAP_REACT_T e.src)
      let (act, s3) := s2.react e code
      .next (s3.logFault e perm act)

/-- FAULT_RESET (R655): the 1 µs of a RESET reaction has passed since its event was accepted. -/
def execFaultReset (s : State) : Host.Outcome State Fault Refusal :=
  s.whenUp <|
  match s.flt.resetSrc with
  | some src => if s.flt.resetAt.toNat + Config.ticksPerUs ≤ s.now then .next (s.warmReset causeFault src) else .next s
  | none => .next s

/-! ### Retirements (R660 to R664) -/

/-- The core whose spare comes in; none once a RESET reaction has pre-empted it (R658). -/
def State.moving (s : State) : Option Nat := if s.flt.resetSrc.isSome then none else s.flt.coreMove

/-- CORE_RETIRE_DONE (R660, R661): core 8 is powered, enters SW_ENTRY idle, and takes work. -/
def execCoreRetireDone (s : State) : Host.Outcome State Fault Refusal :=
  s.whenUp <|
  match s.moving with
  | none => .next s
  | some c =>
    let s1 := s.modFlt (fun x => { x with
      coreMove := none, running := x.running.filter (fun y => decide (y ≠ (0x08, c))) })
    let s2 := s1.setFld F.DISPATCH_CORE_MAP_ACTIVE (s1.fld F.DISPATCH_CORE_MAP_ACTIVE ||| 2 ^ 8)
    .next ((s2.modCore 8 (fun k => { k with cur := none, notified := false })).retireResult 1).syncRetire

/-- SRAM_COPY_DONE (R662): the spare serves its logical bank, and the old bank loses power; not once a RESET reaction has pre-empted
the copy (R658). -/
def execSramCopyDone (spare : Fin 4) (s : State) : Host.Outcome State Fault Refusal :=
  s.whenUp <|
  let k := spare.val
  if ¬ s.flag (F.FAULT_SRAM_SPARE_COPYING k) ∨ s.flt.resetSrc.isSome then .next s
  else
    let b := s.fld (F.FAULT_SRAM_SPARE_BANK k)
    let old := s.physBank b
    let s1 := (s.setFld (F.FAULT_SRAM_SPARE_COPYING k) 0).modFlt (fun x => { x with
      bankMap := sput (fun j => j) x.bankMap b (64 + k), worn := x.worn ++ [old]
      running := x.running.filter (fun y => decide (unitKey y.1 y.2 ≠ (0x0A, old))) })
    let s2 := if 64 ≤ old then s1.setFld (F.FAULT_SRAM_SPARE_USED (old - 64)) 0 else s1
    .next (s2.retireResult 1).syncRetire

/-- SRAM_SCRUB (R663): the scrubber, or any read, finds an error in a word of a physical bank in use; `word` counts 64-bit words from the start of shared
SRAM. -/
def execSramScrub (bank : Fin 68) (word : BitVec 22) (upset : SramUpset) (s : State) : Host.Outcome State Fault Refusal :=
  s.whenUp <|
  let p := bank.val
  let w := 0x01000000 / 8 + word.toNat
  if (s.bankOf p).isNone then .next s
  else
    match upset with
    | .single => .next (s.present 0x0A p)
    | .stuck => .next (s.present 0x0A p true)
    | .double =>
      .next ({ s with poison := if s.poison.contains w then s.poison else s.poison ++ [w] }.present 0x0B p)

/-- FAULT_RETIRE (R664): an accepted write sets RETIRE_BUSY; one that ends at once shows it until the next tick. -/
def execFaultRetire (m : Master) (value : Word) (s : State) : Host.Outcome State Fault Refusal :=
  s.whenUp <|
  let kind := getBits value 28 4
  let i := getBits value 0 8
  let own : Bool := match m with
    | .core c => decide (kind = 1 ∧ c.val = i)
    | .host | .debug => false
  if s.dark ∨ ¬ s.granted m true A.FAULT_RETIRE then .next s
  else if s.gated (windowOf A.FAULT_RETIRE) then .next (s.gatedAccess m true (windowOf A.FAULT_RETIRE))
  else if ¬ ((kind = 1 ∧ i ≤ 8) ∨ (kind = 2 ∧ i < 64)) ∨ own ∨ s.flag F.FAULT_STATE_RETIRE_BUSY then
    .next (s.refuse A.FAULT_RETIRE .cfgRange)
  else
    let t := if kind = 2 then s.retireBank i else if s.coreRetirable i then s.retireCore i else s.retireResult 2
    .next (t.setFld F.FAULT_STATE_RETIRE_BUSY 1)

/-! ### Injection and FIRST (R652, R665) -/

/-- INJ (R665). -/
def execInj (value : Word) (s : State) : Host.Outcome State Fault Refusal :=
  let src := getBits value 0 8
  .next (s.ownWrite A.FAULT_INJ (.inj value) (fun u =>
    if ¬ sourceUsed src ∨ u.flag F.FAULT_STATE_INJ_BUSY then u.refuse A.FAULT_INJ .cfgRange
    else if ¬ value.getLsbD 31 then u
    else
      (u.modFlt (fun x => { x with queue := x.queue ++ [{ src := src, unit := (u.rd A.FAULT_INJ_UNIT).toNat, perm := false
                                                          inj := true, full := value.getLsbD 30 }] })).setFld
        F.FAULT_STATE_INJ_BUSY 1))

/-- CLEAR_FIRST (R652). -/
def execClearFirst (s : State) : Host.Outcome State Fault Refusal :=
  .next (s.ownWrite A.FAULT_CLEAR .clearFirst (fun u => (u.setFld F.FAULT_STATE_FIRST_VALID 0).setFld F.FAULT_STATE_OVERFLOW 0))

/-! ### Aborts (R667 to R670) -/

/-- ABORT (R667, R670, R679). -/
def execAbort (value : Word) (s : State) : Host.Outcome State Fault Refusal :=
  let f := (getBits value 28 4, getBits value 24 4, getBits value 0 16)
  .next (s.ownWrite A.SYSCTL_ABORT (.abort value) (fun u =>
    if u.flag F.SYSCTL_ABORT_STATUS_BUSY then u.refuse A.SYSCTL_ABORT .cfgRange
    else if ¬ fnExists f then (u.setFld F.SYSCTL_ABORT_STATUS_RESULT 2).refuse A.SYSCTL_ABORT .cfgRange
    else u.abortStart f))

/-- The forced end of the abort of function f, at its bound (R668): `ABORT_FORCED` is raised. -/
def State.forcedEnd (s : State) (f : Nat × Nat × Nat) : State :=
  if s.abortPast f.1 10 then (s.present 0x40 (fnWord f)).abortEnds f true else s

/-- The function whose abort runs; none once a RESET reaction has pre-empted it as a reaction (R658). -/
def State.aborting (s : State) : Option (Nat × Nat × Nat) :=
  match s.flt.abort with
  | some f =>
    if s.flt.resetSrc.isSome ∧ s.flt.running.any (fun y => decide (abortFn y.1 y.2 = some f)) then none else some f
  | none => none

/-- ABORT_DONE (R667): the function is quiescent. After a local reset it is so at its bound (R668). -/
def execAbortDone (s : State) : Host.Outcome State Fault Refusal :=
  s.whenUp <|
  match s.aborting with
  | some f => .next (if s.flt.abortForced then s.forcedEnd f else s.abortEnds f false)
  | none => .next s

/-- ABORT_FORCED (R668): at 90 % of the bound the unit is reset locally, and the function ends at the bound; DRAMC loses the DRAM's
contents. -/
def execAbortForced (s : State) : Host.Outcome State Fault Refusal :=
  s.whenUp <|
  match s.aborting with
  | some f =>
    if ¬ s.abortPast f.1 9 then .next s
    else
      let s1 := if f.1 = 7 then
          { s with mem := s.mem.filter (fun c => !s.inDram c.1), poison := s.poison.filter (fun w => !s.inDram (8 * w)) }
        else s
      .next ((s1.modFlt (fun x => { x with abortForced := true })).forcedEnd f)
  | none => .next s

end Sys2Proof.Machine
end

