-- ==== Sys2Proof/Machine/Time.lean ====
section
/-! DEFINITION. The meanings of the POSTMARK commands, but for TRIGGER_FIRE, TIME_STALE's hearers and DOMAIN_SWITCH's
hearers, which other files hold (spec/07_postmark_time.md R257 to R288). -/

namespace Sys2Proof.Machine

/-- The limits of a target for a firmware channel (R272). -/
def trgTargetLegal (v : Word) : Bool := decide (getBits v 24 4 ≤ 3)

/-- A TRG_CTRL write leaves DOMAIN, TARGET and ARG of the channel as they are. -/
def State.trgSame (s : State) (t : Nat) (v : Word) : Bool :=
  decide (getBits v 29 2 = s.fld (F.POSTMARK_TRG_CTRL_DOMAIN t)) &&
  decide (getBits v 24 4 = s.fld (F.POSTMARK_TRG_CTRL_TARGET t)) &&
  decide (getBits v 16 8 = s.fld (F.POSTMARK_TRG_CTRL_ARG t))

/-- The domain check of an arming write (R271). -/
def State.trgArmable (s : State) (t : Nat) (v : Word) : Bool :=
  if getBits v 29 2 = 3 then decide (s.fld (F.POSTMARK_TRG_PERIOD_PERIOD t) % 2 = 0)
  else decide ((s.rd (A.POSTMARK_TRG_NS t)).toNat < nsPerSec)

/-- A TRG_CTRL write (R271, R272, R285): a trigger armed with a time that has passed fires at the next tick. -/
def State.trgCtrlWrite (s : State) (t : Nat) (v : Word) : State :=
  let a := A.POSTMARK_TRG_CTRL t
  if t ≤ 3 ∨ ¬ trgTargetLegal v ∨ (s.flag (F.POSTMARK_TRG_CTRL_EN t) ∧ ¬ s.trgSame t v) ∨
      (v.getLsbD 31 ∧ ¬ s.trgArmable t v) then s.refuse a .cfgRange
  else (s.wr a (v &&& 0xEFFF0000)).forceTriggers s

/-- TRIGGER_ARM (R271): a TRG_CTRL write. -/
def execTriggerArm (trigger : Fin 16) (value : Word) (s : State) : Host.Outcome State Fault Refusal :=
  .next (s.ownWrite (A.POSTMARK_TRG_CTRL trigger.val) (.triggerArm trigger value) (fun u => u.trgCtrlWrite trigger.val value))

/-- The servo watchdog of domain d has run its SERVO_TO_MS (R263). -/
def State.watchdogOut (s : State) (d : Nat) : Bool :=
  s.domValid d && decide (s.fld (F.POSTMARK_DOM_CTRL_SERVO_TO_MS d) ≠ 0) &&
    decide (s.fld (F.POSTMARK_DOM_CTRL_SERVO_TO_MS d) * Config.ticksPerMs ≤ s.now - (s.dom d).watchdog.toNat)

/-- INC_NS_WRITE (R260, R261): the pair commits, or the write is refused and nothing changes. -/
def State.incWrite (s : State) (d : Nat) (v : Word) : State :=
  let ns := getBits v 0 4
  let pair := ns * 2 ^ 32 + (s.rd (A.POSTMARK_DOM_INC_FRAC d)).toNat
  if pair = 0 then s.refuse (A.POSTMARK_DOM_INC_NS d) .zeroLength
  else if incLegal pair then
    (s.wr (A.POSTMARK_DOM_INC_NS d) (BitVec.ofNat 32 ns)).modDom d (fun x => { x with inc := BitVec.ofNat 36 pair })
  else s.refuse (A.POSTMARK_DOM_INC_NS d) .cfgRange

/-- INC_NS_WRITE (R261): the new increment is used from the next tick on. -/
def execIncNsWrite (d : Fin 2) (value : Word) (s : State) : Host.Outcome State Fault Refusal :=
  .next (s.ownWrite (A.POSTMARK_DOM_INC_NS d.val) (.incNsWrite d value) (fun u => u.incWrite d.val value))

/-- A step waits for the next tick. -/
def State.askStep (s : State) (d : Nat) (t : TimeStep) : State := s.modDom d (fun x => { x with steps := x.steps ++ [t] })

/-- SET (R267): SET_SEC and SET_NS are loaded at the next tick. -/
def execSet (d : Fin 2) (s : State) : Host.Outcome State Fault Refusal :=
  .next (s.ownWrite (A.POSTMARK_DOM_CMD d.val) (.set d) (fun u => u.askStep d.val
    (.set (u.rd64 (A.POSTMARK_DOM_SET_SEC_LO d.val) (A.POSTMARK_DOM_SET_SEC_HI d.val) % 2 ^ 48)
      (u.fld (F.POSTMARK_DOM_SET_NS_NS d.val)))))

/-- An ADJ write (R267): the range check, then the step waits for the next tick; 0 has no effect. -/
def State.adjWrite (s : State) (d : Nat) (v : Word) : State :=
  if v = 0 then s
  else if -999999999 ≤ v.toInt ∧ v.toInt ≤ 999999999 then s.askStep d (.adj v.toInt)
  else s.refuse (A.POSTMARK_DOM_ADJ d) .cfgRange

/-- ADJ (R267). -/
def execAdj (d : Fin 2) (value : Word) (s : State) : Host.Outcome State Fault Refusal :=
  .next (s.ownWrite (A.POSTMARK_DOM_ADJ d.val) (.adj d value) (fun u => u.adjWrite d.val value))

/-- KICK (R263): restarts the watchdog while it runs. -/
def execKick (d : Fin 2) (s : State) : Host.Outcome State Fault Refusal :=
  .next (s.ownWrite (A.POSTMARK_DOM_CMD d.val) (.kick d) (fun u => if u.domValid d.val then u.startWatchdog d.val else u))

/-- NS_READ (R262): answers NS and latches SEC and FRAC into their shadows. -/
def execNsRead (d : Fin 2) (s : State) : Host.Outcome State Fault Refusal :=
  .next (s.ownAccess false (A.POSTMARK_DOM_NS d.val) (.nsRead d) (fun u =>
    let x := u.dom d.val
    ((u.wr64 (A.POSTMARK_DOM_SEC_LO d.val) (A.POSTMARK_DOM_SEC_HI d.val) x.sec.toNat).wr (A.POSTMARK_DOM_FRAC d.val)
      x.frac).answer (BitVec.ofNat 64 x.ns)))

/-- LOCAL_LO_READ (R262): answers the low word, or in one 64-bit read (`wide`) the whole count, and latches the high
word. -/
def execLocalLoRead (wide : Bool) (s : State) : Host.Outcome State Fault Refusal :=
  .next (s.ownAccess false A.POSTMARK_LOCAL_LO (.localLoRead wide) (fun u =>
    (u.wr A.POSTMARK_LOCAL_HI (BitVec.ofNat 32 (u.now / 2 ^ 32))).answer
      (if wide then u.time.tick else BitVec.ofNat 64 (u.now % 2 ^ 32))))

/-- CAPTURE (R273, R344): the source event of an enabled channel with an edge or mark source; the mark is the reference point of the
Nguord frame that is being received. -/
def execCapture (channel : Fin 8) (s : State) : Host.Outcome State Fault Refusal :=
  s.whenWorks 0x08 <|
  let k := s.fld (F.POSTMARK_CAP_CTRL_SOURCE channel.val)
  let due := decide (1 ≤ k ∧ k ≤ 2) || (decide (k = 3) && s.ngr.rx.any (fun x => decide (x.ref = s.now)))
  if s.flag (F.POSTMARK_CAP_CTRL_EN channel.val) ∧ due then .next (s.captureNow channel.val) else .next s

/-- CAP_CMD (R273, R286): every enabled channel named in the write whose SOURCE is 4 captures. -/
def execCapCmd (value : Word) (s : State) : Host.Outcome State Fault Refusal :=
  .next (s.ownWrite A.POSTMARK_CAP_CMD (.capCmd value) (fun u => (List.range 8).foldl (fun t c =>
    if value.getLsbD c ∧ t.flag (F.POSTMARK_CAP_CTRL_EN c) ∧ t.fld (F.POSTMARK_CAP_CTRL_SOURCE c) = 4 then t.captureNow c
    else t) u))

/-- CAPTURE_READ (R273): answers A_NS and latches the other words of the record. -/
def execCaptureRead (channel : Fin 8) (s : State) : Host.Outcome State Fault Refusal :=
  .next (s.ownAccess false (A.POSTMARK_CAP_REC channel.val 0) (.captureRead channel) (fun u =>
    let r := sget (fun _ => []) u.time.caps channel.val
    (u.wrList (fun i => A.POSTMARK_CAP_REC channel.val (i + 1)) ((r.drop 1).take 5)).answer (BitVec.ofNat 64 (r.getD 0 0).toNat)))

/-- CLK10M_UPDATE (R274): 10,000,000 cycles of CLK10M_IN have ended; the TIME ticks since they began are held, and the
next count begins. -/
def execClk10mUpdate (s : State) : Host.Outcome State Fault Refusal :=
  s.whenWorks 0x08 <|
  if s.flag F.POSTMARK_CLK10M_STATUS_PRESENT then
    let s1 := (s.wr A.POSTMARK_CLK10M_TICKS (BitVec.ofNat 32 (s.now - s.time.clk10m.toNat))).setFld F.POSTMARK_CLK10M_STATUS_NEW 1
    .next { s1 with time := { s1.time with clk10m := s.time.tick } }
  else .next s

/-- CLK10M_LOSS (R274): no edge for 1 µs. -/
def execClk10mLoss (s : State) : Host.Outcome State Fault Refusal :=
  s.whenWorks 0x08 <|
  .next (s.setFld F.POSTMARK_CLK10M_STATUS_PRESENT 0)

/-- CLK10M_PRESENT (R274): an edge returns after a loss, and a new count starts. -/
def execClk10mPresent (s : State) : Host.Outcome State Fault Refusal :=
  s.whenWorks 0x08 <|
  if s.flag F.POSTMARK_CLK10M_STATUS_PRESENT then .next s
  else
    let s1 := s.setFld F.POSTMARK_CLK10M_STATUS_PRESENT 1
    .next { s1 with time := { s1.time with clk10m := s.time.tick } }

/-- A second of the selected domain begins on this tick: one increment earlier the second was another. -/
def TimeDomain.onSecond (x : TimeDomain) : Bool := decide (x.ns * 2 ^ 32 + x.frac.toNat < x.inc.toNat)

/-- PPS_OUT (R50, R266): the pin rises on a second of the selected domain at least 500 ms after its last rise. -/
def execPpsOut (s : State) : Host.Outcome State Fault Refusal :=
  s.whenWorks 0x08 <|
  if s.flag F.POSTMARK_PPS_CFG_EN ∧ (s.dom s.selected).onSecond ∧
      (∀ t ∈ s.time.pps, 500 * Config.ticksPerMs ≤ s.now - t.toNat) then
    .next { s with time := { s.time with pps := some s.time.tick }, pins := { s.pins with ppsOut := true } }
  else .next s

/-- A write of a queue's read index (R277): refused where RD would pass WR. -/
def State.tsqRd (s : State) (q : Nat) (v : Word) : State :=
  let rd := s.fld (F.POSTMARK_TSQ_IDX_RD q)
  if (getBits v 0 16 + 65536 - rd) % 65536 ≤ s.tsqHeld q then s.setFld (F.POSTMARK_TSQ_IDX_RD q) (getBits v 0 16)
  else s.refuse (A.POSTMARK_TSQ_IDX q) .cfgRange

/-- TSQ_RD_WRITE (R277). -/
def execTsqRdWrite (queue : Fin 7) (value : Word) (s : State) : Host.Outcome State Fault Refusal :=
  .next (s.ownWrite (A.POSTMARK_TSQ_IDX queue.val) (.tsqRdWrite queue value) (fun u => u.tsqRd queue.val value))

end Sys2Proof.Machine
end

