-- ==== Sys2Proof/Machine/TimeLate.lean ====
section
/-! DEFINITION. The meanings of the POSTMARK commands that other blocks hear: a trigger's firing and a switch of the
selected domain (spec/07_postmark_time.md R264 to R266, R269 to R272; spec/08 R312, R314; spec/14 R513). -/

namespace Sys2Proof.Machine

/-- What a trigger's TARGET does (R272): `late` says whether the trigger fired late, `time` its time before it fired. -/
def State.trgAct (s : State) (t target arg time : Nat) (late : Bool) : State :=
  match target with
  | 1 => (s.mqPost arg (s.trgEntry t)).2
  | 2 => if s.inWatch then s.wakeEvent 7 false else s
  | 3 => s.rngFire
  | 4 => if t ≤ 2 then s.roundBoundary t time late else s
  | 5 => if t = 3 then s.ngTrigger else s
  | _ => s

/-- TRIGGER_FIRE (R269 to R272). -/
def execTriggerFire (trigger : Fin 16) (s : State) : Host.Outcome State Fault Refusal :=
  s.whenWorks 0x08 <|
  let t := trigger.val
  if s.trgDue t then
    .next ((s.trgFired t).trgAct t (s.fld (F.POSTMARK_TRG_CTRL_TARGET t)) (s.fld (F.POSTMARK_TRG_CTRL_ARG t)) (s.trgTime t)
      (s.trgLate t))
  else .next s

/-- TIME_STALE (R263, R312): VALID clears, STALE is set, `TIME_STALE` is raised; ROUNDS hears of it. -/
def execTimeStale (d : Fin 2) (s : State) : Host.Outcome State Fault Refusal :=
  s.whenWorks 0x08 <|
  if s.watchdogOut d.val then
    .next ((((s.setFld (F.POSTMARK_DOM_CTRL_VALID d.val) 0).setFld (F.POSTMARK_DOM_CTRL_STALE d.val) 1).present 0x18
      d.val).roundsDomain)
  else .next s

/-- Δ of a switch to domain d, in nanoseconds (R265). -/
def State.switchDelta (s : State) (d : Nat) : Int := ((s.dom d).nanos : Int) - ((s.dom (1 - d)).nanos : Int)

/-- The switch tick of a switch to domain d (R265, R513): the tick after its cause. -/
def State.switchTo (s : State) (d : Nat) : State :=
  let u := s.stepTick
  let delta := u.switchDelta d
  let u1 := (u.wr A.POSTMARK_SWITCH_DELTA_NS (BitVec.ofNat 32 (delta % (nsPerSec : Int)).toNat)).wr
    A.POSTMARK_SWITCH_DELTA_SEC (BitVec.ofInt 32 (delta / (nsPerSec : Int)))
  let u2 := ((u1.setFld F.POSTMARK_SEL_CUR d).setFld F.POSTMARK_SEL_SEL d).setFld F.POSTMARK_SEL_SWITCHES
    (min 255 (u1.fld F.POSTMARK_SEL_SWITCHES + 1))
  ((((u2.moveTriggers delta).forceTriggers u).roundsSwitch delta).count C.REGSVC_TIME_SWITCHES).present 0x19 d

/-- A write of SEL (R264): the other domain is refused unless it is valid. -/
def State.selWrite (s : State) (v : Word) : State :=
  let d := getBits v 0 1
  if d ≠ s.selected ∧ ¬ s.domValid d then s.refuse A.POSTMARK_SEL .cfgRange
  else
    let s1 := (s.setFld F.POSTMARK_SEL_AUTO (getBits v 31 1)).setFld F.POSTMARK_SEL_SEL d
    if d = s.selected then s1 else s1.switchTo d

/-- SEL_WRITE (R264, R265). -/
def execSelWrite (value : Word) (s : State) : Host.Outcome State Fault Refusal :=
  .next (s.ownWrite A.POSTMARK_SEL (.selWrite value) (fun u => u.selWrite value))

/-- DOMAIN_SWITCH (R264, R265): with AUTO, the selected domain is not valid and the other is. -/
def execDomainSwitch (s : State) : Host.Outcome State Fault Refusal :=
  s.whenWorks 0x08 <|
  let d := s.selected
  if s.flag F.POSTMARK_SEL_AUTO ∧ ¬ s.domValid d ∧ s.domValid (1 - d) then .next (s.switchTo (1 - d)) else .next s

end Sys2Proof.Machine
end

