-- ==== Sys2Proof/Machine/RegCommands.lean ====
section
/-! DEFINITION. The registers whose write is a command of its own: a REG_WRITES triple of the boot image, or a
REGISTER_WRITE that names such a register, has that command's effect. A measured value that the command's own row
carries as an operand is not part of a write: VPP is taken as present, as R33 requires while the core is powered, and a
temperature is a free value (notes/assumptions/80.md). -/

namespace Sys2Proof.Machine

/-- The state a meaning answers; a stop leaves the state. -/
def nextOf (s : State) (o : Host.Outcome State Fault Refusal) : State :=
  match o with
  | .next t => t
  | _ => s

/-- The index of address `a` in an array of `n` registers from `base`, `stride` apart. -/
def arrayIx (a base stride n : Nat) : Option Nat :=
  if base ≤ a ∧ a < base + stride * n ∧ (a - base) % stride = 0 then some ((a - base) / stride) else none

/-- CFG_LOCK (R133, R134): write 1 to set. -/
def execCfgLock (value : Word) (s : State) : Host.Outcome State Fault Refusal :=
  if value.getLsbD 0 ∧ ¬ s.dark then .next s.setLock else .next s

/-- SYSCTL (R132, R133, R136, R138, R139, R679). -/
def State.sysctlCmd (s : State) (a : Nat) (w : Word) : Option State :=
  if a = A.SYSCTL_RESET then some (nextOf s (execSoftware w s))
  else if a = A.SYSCTL_CFG_LOCK then some (nextOf s (execCfgLock w s))
  else if a = A.SYSCTL_BOOT_CONFIRM then some (nextOf s (execBootConfirm w .whole s))
  else if a = A.SYSCTL_BAR2_WIN then some (nextOf s (execBar2WinWrite w [] s))
  else if a = A.SYSCTL_RB_ADV then some (nextOf s (execRbAdv w true s))
  else if a = A.SYSCTL_ABORT then some (nextOf s (execAbort w s))
  else none

/-- CKGEN (R95, R96). -/
def State.ckgenCmd (s : State) (a : Nat) (w : Word) : Option State :=
  if a = A.CKGEN_PLL_CTRL then some (nextOf s (execPllCtrlWrite w s))
  else if a = A.CKGEN_GATE then some (nextOf s (execGateWrite w s))
  else none

/-- PMU.STATE_REQ (R86). -/
def State.pmuCmd (s : State) (a : Nat) (w : Word) : Option State :=
  if a = A.PMU_STATE_REQ then
    let t := getBits w 0 3
    if t = 0 then some (nextOf s (execStateReqRun s))
    else if t = 1 then some (nextOf s (execStateReqTrim s))
    else if t = 2 then some (nextOf s (execStateReqWatch s))
    else if t = 3 then
      let (v, s1) := s.free
      some (nextOf s1 (execStateReqSleep (sgn 8 v.toNat) s1))
    else some (s.refuse a .cfgRange)
  else none

/-- FAULT (R664, R665, R673). -/
def State.faultCmd (s : State) (m : Master) (a : Nat) (w : Word) : Option State :=
  if a = A.FAULT_INJ then some (nextOf s (execInj w s))
  else if a = A.FAULT_CLEAR then some (if w.getLsbD 0 then nextOf s (execClearFirst s) else s)
  else if a = A.FAULT_RETIRE then some (nextOf s (execFaultRetire m w s))
  else none

/-- DBG.CMD (R608): the bits act in the order NEW_CHAL, SUBMIT, DROP. -/
def State.dbgCmd (s : State) (a : Nat) (w : Word) : Option State :=
  if a = A.DBG_CMD then
    let s1 := if w.getLsbD 0 then nextOf s (execNewChal s) else s
    let s2 := if w.getLsbD 1 then nextOf s1 (execSubmit true none s1) else s1
    some (if w.getLsbD 2 then nextOf s2 (execDrop s2) else s2)
  else none

/-- NVMC.OP (R141). -/
def State.nvmcCmd (s : State) (a : Nat) (w : Word) : Option State :=
  if a = A.NVMC_OP then
    let c := getBits w 0 4
    some (if 1 ≤ c ∧ c ≤ 4 then s.nvmStart c else s.refuse a .cfgRange)
  else none

/-- KEYS.CMD and KEYS.LC_CMD (R571, R604, R606). -/
def State.keysCmd (s : State) (a : Nat) (w : Word) : Option State :=
  let slot : BitVec 13 := BitVec.ofNat 13 (getBits w 0 13)
  if a = A.KEYS_CMD then
    let c := getBits w 28 4
    if c = 1 then some (nextOf s (execKeyWrite slot s))
    else if c = 2 then some (nextOf s (execKeyErase slot s))
    else if c = 3 then some (nextOf s (execZeroise s))
    else if c = 4 then some (nextOf s (execReadState slot s))
    else some s.keyRefuse
  else if a = A.KEYS_LC_CMD then
    let c := getBits w 0 4
    if c = 1 then some (nextOf s (execProvision true none s))
    else if c = 2 then some (nextOf s (execDeploy true s))
    else some (s.refuse a .cfgRange)
  else none

/-- POSTMARK (R261, R264, R268, R269, R271, R274, R277). -/
def State.postmarkCmd (s : State) (a : Nat) (w : Word) : Option State :=
  let dom := fun (n : Nat) => if n = 1 then (1 : Fin 2) else 0
  if a = A.POSTMARK_SEL then some (nextOf s (execSelWrite w s))
  else if a = A.POSTMARK_CAP_CMD then some (nextOf s (execCapCmd w s))
  else
    match arrayIx a (A.POSTMARK_TSQ_IDX 0) 4 7, arrayIx a (A.POSTMARK_DOM_INC_NS 0) 0x80 2,
        arrayIx a (A.POSTMARK_DOM_ADJ 0) 0x80 2, arrayIx a (A.POSTMARK_DOM_CMD 0) 0x80 2,
        arrayIx a (A.POSTMARK_TRG_CTRL 0) 0x20 16 with
    | some q, _, _, _, _ => some (s.tsqRd q w)
    | none, some d, _, _, _ => some (nextOf s (execIncNsWrite (dom d) w s))
    | none, none, some d, _, _ => some (nextOf s (execAdj (dom d) w s))
    | none, none, none, some d, _ =>
      let s1 := if w.getLsbD 0 then nextOf s (execSet (dom d) s) else s
      some (if w.getLsbD 1 then nextOf s1 (execKick (dom d) s1) else s1)
    | none, none, none, none, some t => some (s.trgCtrlWrite t w)
    | none, none, none, none, none => none

/-- DISPATCH: priority and affinity of a thread (R620). -/
def State.dispatchCmd (s : State) (a : Nat) (w : Word) : Option State :=
  (arrayIx a (A.DISPATCH_TH_W0 0) 0x20 1024).map (fun t => s.writeThread0 t w)

/-- PIGEON: COMMIT and CONS_OP (R633, R635). -/
def State.pigeonCmd (s : State) (a : Nat) (w : Word) : Option State :=
  let fifo := fun (n : Nat) => Fin.ofNat 32 n
  match arrayIx a (A.PIGEON_COMMIT 0) 0x40 32, arrayIx a (A.PIGEON_CONS_OP 0) 0x40 32 with
  | some n, _ => some (nextOf s (execCommit (fifo n) w s))
  | none, some n =>
    let c := getBits w 0 3
    if c = 1 then some (nextOf s (execPop (fifo n) s))
    else if c = 2 then some (nextOf s (execMark (fifo n) s))
    else if c = 3 then some (nextOf s (execRewind (fifo n) s))
    else if c = 4 then some (nextOf s (execRelease (fifo n) s))
    else some (s.refuse a .cfgRange)
  | none, none => none

/-- DRAMC.RETRAIN and HOSTP.RC_DATA (R565, R546), EMAC.MODE (R538). -/
def State.portCmd (s : State) (a : Nat) (w : Word) : Option State :=
  if a = A.DRAMC_RETRAIN then some (if w.getLsbD 0 then nextOf s (execRetrain s) else s)
  else if a = A.HOSTP_RC_DATA then some (nextOf s (execRcAccess w s))
  else (arrayIx a (A.EMAC_MODE 0) 0x10000 4).map (fun p => nextOf s (execEmacModeWrite (Fin.ofNat 4 p) w s))

/-- SORT.SWAP and SORT.CAM_CMD (R413, R415). -/
def State.sortCmd (s : State) (a : Nat) (w : Word) : Option State :=
  let i : BitVec 13 := BitVec.ofNat 13 (getBits w 0 13)
  if a = A.SORT_SWAP then some (if w.getLsbD 0 then nextOf s (execSwap s) else s)
  else if a = A.SORT_CAM_CMD then
    let c := getBits w 28 4
    if c = 1 then some (nextOf s (execCamWrite i s))
    else if c = 2 then some (nextOf s (execCamRead i s))
    else if c = 3 then some (nextOf s (execCamClear i s))
    else if c = 4 then some (nextOf s (execSetBanks i s))
    else some (s.refuse a .cfgRange)
  else none

/-- TABLES.CMD (R456). -/
def State.tablesCmd (s : State) (a : Nat) (w : Word) : Option State :=
  let t : BitVec 4 := BitVec.ofNat 4 (getBits w 24 4)
  let i : BitVec 17 := BitVec.ofNat 17 (getBits w 0 17)
  if a = A.TABLES_CMD then
    let c := getBits w 28 4
    if c = 1 then some (nextOf s (execTablesAdd t i s))
    else if c = 2 then some (nextOf s (execTablesUpdate t i s))
    else if c = 3 then some (nextOf s (execTablesDelete t i s))
    else if c = 4 then some (nextOf s (execTablesReadKey t i s))
    else if c = 5 then some (nextOf s (execTablesWriteIndexed t i s))
    else if c = 6 then some (nextOf s (execTablesReadIndex t i s))
    else if c = 7 then some (nextOf s (execFlush t s))
    else some (s.refuse a .cfgRange)
  else none

/-- TM: the commits and QCMD (R464, R465, R473, R479, R483). -/
def State.tmCmd (s : State) (a : Nat) (w : Word) : Option State :=
  if a = A.TM_QCMD then
    some (if getBits w 28 4 = 1 then s.flushCmd (getBits w 0 13) else s.refuse a .cfgRange)
  else
    match arrayIx a (A.TM_Q_W0 0) 0x20 8192, arrayIx a (A.TM_SH_W0 0) 0x10 8192, arrayIx a (A.TM_POL_W0 0) 0x20 4096,
        arrayIx a (A.TM_EGMAP_W0 0) 8 2048, arrayIx a (A.TM_FLOOD_W0 0) 0x10 1024 with
    | some q, _, _, _, _ => some (s.commitQueue q w)
    | none, some i, _, _, _ => some (s.commitShaper i w)
    | none, none, some p, _, _ => some (s.commitPolicer p w)
    | none, none, none, some i, _ => some (s.commitEgmap i w)
    | none, none, none, none, some g => some (nextOf s (execFloodCommit (BitVec.ofNat 10 g) w s))
    | none, none, none, none, none => none

/-- REGSVC.FLOW_CMD (R516, R517). -/
def State.regsvcCmd (s : State) (a : Nat) (w : Word) : Option State :=
  let f : BitVec 9 := BitVec.ofNat 9 (getBits w 0 9)
  if a = A.REGSVC_FLOW_CMD then
    let c := getBits w 28 4
    if c = 1 then some (nextOf s (execFlowAdmit f s))
    else if c = 2 then some (nextOf s (execFlowRelease f s))
    else if c = 3 then some (nextOf s (execFlowRead f s))
    else some (s.refuse a .cfgRange)
  else none

/-- WMAC.CTX_CMD (R219, R251). -/
def State.wmacCmd (s : State) (a : Nat) (w : Word) : Option State :=
  let n : BitVec 11 := BitVec.ofNat 11 (getBits w 0 11)
  if a = A.WMAC_CTX_CMD then
    let c := getBits w 28 4
    if c = 1 then some (nextOf s (execCtxAdd n s))
    else if c = 2 then some (nextOf s (execCtxUpdate n s))
    else if c = 3 then some (nextOf s (execCtxRemove n s))
    else if c = 4 then some (nextOf s (execCtxRead n s))
    else some (s.refuse a .cfgRange)
  else none

/-- ROUNDS: PLAN_CMD, JOINT_CTRL, word 0 of a TWT entry (R294, R301, R312). -/
def State.roundsCmd (s : State) (a : Nat) (w : Word) : Option State :=
  match arrayIx a (A.ROUNDS_PLAN_CMD 0) 0x100 3, arrayIx a (A.ROUNDS_JOINT_CTRL 0) 0x100 3,
      arrayIx a (A.ROUNDS_TWT_W0 0) 0x10 1024 with
  | some r, _, _ => some (nextOf s (execPlanSwap (Fin.ofNat 3 r) w s))
  | none, some r, _ => some (s.writeJointCtrl r (.join (Fin.ofNat 3 r) w) w)
  | none, none, some i => some (nextOf s (execTwtEntryWrite (BitVec.ofNat 10 i) w s))
  | none, none, none => none

/-- Radio r, the Nguord radio being 3: SYNTH, CAL_CMD, CHAIN_EN, RNG_CMD (R169 to R171, R348, R352). -/
def State.radioCmd (s : State) (r a : Nat) (w : Word) : Option State :=
  if a = A.RADIO_SYNTH r then some (s.synthWrite r w)
  else if a = A.RADIO_CAL_CMD r then
    some (if w.getLsbD 0 then nextOf s (execCalCmdFull (Fin.ofNat 4 r) s) else s)
  else if a = A.RADIO_CHAIN_EN r ∧ r ≠ 3 then some (s.chainEnWrite r w)
  else if a = A.NGR_RNG_CMD then
    let s1 := if w.getLsbD 1 then nextOf s (execAbortRanging s) else s
    some (if w.getLsbD 0 then nextOf s1 (execArm s1) else s1)
  else none

/-- NGL.CTRL and NGL.NODE_CMD (R388, R393). -/
def State.nglCmd (s : State) (a : Nat) (w : Word) : Option State :=
  let n : BitVec 16 := BitVec.ofNat 16 (getBits w 0 16)
  if a = A.NGL_CTRL then some (s.ngCtrlWrite w)
  else if a = A.NGL_NODE_CMD then
    let c := getBits w 28 4
    if c = 1 then some (nextOf s (execNodeAdd n s))
    else if c = 2 then some (nextOf s (execNodeUpdate n s))
    else if c = 3 then some (nextOf s (execNodeRemove n s))
    else if c = 4 then some (nextOf s (execNodeRead n s))
    else some (s.refuse a .cfgRange)
  else none

/-- The effect of a write of `w` at `a`, in block window `b`, where the write is a command of its own. -/
def State.cmdWrite (s : State) (m : Master) (b a : Nat) (w : Word) : Option State :=
  if b = 0x00 then s.sysctlCmd a w
  else if b = 0x01 then s.ckgenCmd a w
  else if b = 0x02 then s.pmuCmd a w
  else if b = 0x03 then s.faultCmd m a w
  else if b = 0x04 then s.dbgCmd a w
  else if b = 0x05 then s.nvmcCmd a w
  else if b = 0x06 then s.keysCmd a w
  else if b = 0x08 then s.postmarkCmd a w
  else if b = 0x09 then s.dispatchCmd a w
  else if b = 0x0A then s.pigeonCmd a w
  else if b = 0x0B ∨ b = 0x0C ∨ b / 16 = 1 then s.portCmd a w
  else if b / 16 = 2 then s.sortCmd a w
  else if b / 16 = 3 then s.tablesCmd a w
  else if b / 16 = 4 then s.tmCmd a w
  else if b = 0x50 then s.regsvcCmd a w
  else if b / 16 = 6 then s.wmacCmd a w
  else if b = 0x70 then s.roundsCmd a w
  else if b = 0x80 then (if a = A.LDPC_RETIRE then some (nextOf s (execLdpcRetire w s)) else none)
  else if b = 0x90 ∨ b = 0xA0 ∨ b = 0xB0 then s.radioCmd (b / 16 - 9) a w
  else if b = 0xC0 then s.radioCmd 3 a w
  else if b = 0xD0 then s.nglCmd a w
  else none

/-- A write of DISPATCH.SW_ENTRY that left it non-zero brings in a held spare core (R661). -/
def State.afterSwEntry (s : State) (a : Nat) : State :=
  if a = A.DISPATCH_SW_ENTRY_LO ∨ a = A.DISPATCH_SW_ENTRY_HI then s.swEntryHook else s

/-- A write of one 32-bit register word by master m. -/
def State.writeWord (s : State) (m : Master) (a : Nat) (w : Word) : State :=
  match s.cmdWrite m (firstWindow (windowOf a)) a w with
  | some t => t
  | none => (s.plainWrite a w).afterSwEntry a

end Sys2Proof.Machine
end

