-- ==== Sys2Proof/Machine/Regs.lean ====
section
/-! DEFINITION. The meanings of the register accesses that have no register of their own: writes, accesses of a wrong
size, gated and unmapped blocks, CFG_STATUS and the statistics counters (spec/00_scope.md R4 to R18, R125, R680), and
the write of DISPATCH.SW_ENTRY (spec/18_faults_availability.md R661). -/

namespace Sys2Proof.Machine

/-- An operation that a core writes to OP of its SELF window (R621, R640); `other` where the code names none. -/
def State.selfOp (s : State) (c : Fin 9) (code : Nat) (other : State) : State :=
  if code = 1 then nextOf s (execYieldOp c s)
  else if code = 2 then nextOf s (execExitOp c s)
  else if code = 3 then nextOf s (execWaitEv c s)
  else if code = 4 then nextOf s (execSleepUntil c s)
  else if code = 5 then nextOf s (execPost c s)
  else if code = 6 then nextOf s (execRecv c s)
  else if code = 7 then nextOf s (execTakeCompl c s)
  else if code = 8 then nextOf s (execSetEv c s)
  else if code = 9 then nextOf s (execClrEv c s)
  else if code = 10 then nextOf s (execStart c s)
  else if code = 11 then nextOf s (execSuspend c s)
  else if code = 12 then nextOf s (execDelete c s)
  else other

/-- A write of one word at `a`: the SELF window is each core's own, and any other master's write to it is discarded (R622,
R640). -/
def State.busWord (s : State) (m : Master) (a : Nat) (w : Word) : State :=
  match selfOffset a, m with
  | some off, .core c =>
    let t := s.selfWrite c.val off w
    if off = 0x5C then s.selfOp c (getBits w 0 4) t else t
  | some _, _ => s
  | none, _ => s.writeWord m a w

/-- REGISTER_WRITE (R4, R5, R18, R125): one word, or the two words of a 64-bit write, low word first; the access starts
an AUTO branch (R59). -/
def execRegisterWrite (m : Master) (addr : BitVec 64) (size : Nat) (value : DWord) (s : State) :
    Host.Outcome State Fault Refusal :=
  let a := addr.toNat
  match s.stopped m true a size (.registerWrite m addr size value) with
  | some t => .next t
  | none =>
    let s1 := (s.touch a).busWord m a (value.setWidth 32)
    .next (if size = 8 then s1.busWord m (a + 4) ((value >>> 32).setWidth 32) else s1)

/-- BAD_SIZE (R4): an access of a register that is not 32 or 64 bits wide, or not aligned. -/
def execBadSize (m : Master) (write : Bool) (addr : BitVec 64) (size : Nat) (s : State) :
    Host.Outcome State Fault Refusal :=
  let a := addr.toNat
  if inRegs a ∧ occupied (windowOf a) ∧ ¬ s.gated (windowOf a) ∧ ¬ goodSize a size ∧ ¬ s.dark ∧ s.granted m write a then
    .next (s.badSizeAccess m write a)
  else .next s

/-- CFG_STATUS_READ (R9, R10): the first recorded refusal, cleared by the read. -/
def execCfgStatusRead (m : Master) (block : BitVec 8) (s : State) : Host.Outcome State Fault Refusal :=
  let a := cfgStatusOf (0x40000000 + 0x10000 * block.toNat)
  match s.stopped m false a 4 (.cfgStatusRead m block) with
  | some t => .next t
  | none => .next ((((s.touch a).wr a 0)).answer ((s.rd a).setWidth 64))

/-- A read at `a` of `size` bytes by master m that reaches a counter whose low word lies at `low`, brought up to date. -/
def State.counterAccess (s : State) (m : Master) (a low size : Nat) (c : Instr) (f : State → State) : State :=
  match s.stopped m false a size c with
  | some t => t
  | none => if isCounter low then f ((s.touch a).freshCtr low) else s

/-- COUNTER_READ (R15): the whole count at once; the counter clears. -/
def execCounterRead (m : Master) (addr : BitVec 64) (s : State) : Host.Outcome State Fault Refusal :=
  let a := addr.toNat
  .next (s.counterAccess m a a 8 (.counterRead m addr) (fun s => (s.clearCtr a).answer (s.ctr a)))

/-- COUNTER_LOW_READ (R16): the low word; the counter clears, and the high word goes to the shadow. -/
def execCounterLowRead (m : Master) (addr : BitVec 64) (s : State) : Host.Outcome State Fault Refusal :=
  let a := addr.toNat
  .next (s.counterAccess m a a 4 (.counterLowRead m addr) (fun s =>
    (({ s with ctrShadow := sput (fun _ => none) s.ctrShadow a (some ((s.ctr a >>> 32).setWidth 32)) }).clearCtr
      a).answer (((s.ctr a).setWidth 32).setWidth 64)))

/-- COUNTER_HIGH_READ (R16): the shadow, which it empties; with the shadow empty, the live high word. `addr` is the
address of the high word. -/
def execCounterHighRead (m : Master) (addr : BitVec 64) (s : State) : Host.Outcome State Fault Refusal :=
  let a := addr.toNat
  let low := a - 4
  .next (s.counterAccess m a low 4 (.counterHighRead m addr) (fun s =>
    match sget (fun _ => none) s.ctrShadow low with
    | some h => ({ s with ctrShadow := sput (fun _ => none) s.ctrShadow low none }).answer (h.setWidth 64)
    | none => s.answer ((s.ctr low >>> 32) &&& 0xFFFFFFFF)))

/-- GATED_ACCESS (R18, R74): an access of a block whose clock or power is off, or of closed retention SRAM. -/
def execGatedAccess (m : Master) (write : Bool) (addr : BitVec 64) (s : State) : Host.Outcome State Fault Refusal :=
  let b := windowOf addr.toNat
  if ¬ s.granted m write addr.toNat then .next s
  else if m = .host ∧ inRetention addr.toNat ∧ s.power.mode = .sleepEntry then .next (s.closedAccess write)
  else if inRegs addr.toNat ∧ occupied b ∧ s.gated b then .next (s.gatedAccess m write b) else .next s

/-- ADDR_UNMAPPED (R125): an access of an unmapped address. -/
def execAddrUnmapped (m : Master) (write : Bool) (addr : BitVec 64) (s : State) : Host.Outcome State Fault Refusal :=
  if s.reaches m addr.toNat ∨ s.dark ∨ ¬ s.granted m write addr.toNat then .next s else .next (s.unmappedAccess m write addr.toNat)

/-- SW_ENTRY_WRITE (R661, R680): a write of DISPATCH.SW_ENTRY; non-zero, it brings in a held spare core. -/
def execSwEntryWrite (high : Bool) (value : Word) (s : State) : Host.Outcome State Fault Refusal :=
  let a := if high then A.DISPATCH_SW_ENTRY_HI else A.DISPATCH_SW_ENTRY_LO
  .next (s.ownWrite a (.swEntryWrite high value) (fun u => (u.plainWrite a value).swEntryHook))

end Sys2Proof.Machine
end

