-- ==== Sys2Proof/Machine/BootLate.lean ====
section
/-! DEFINITION. The boot records that write registers or open a sealed section: REG_WRITES and SEALED
(spec/03_startup_image.md R115, R117 to R120, spec/16_security.md R590, R591). -/

namespace Sys2Proof.Machine

/-- The code in CFG_STATUS of the block of `a`, as the ROM's read of it answers: a gated block answers the pattern of
R18, an unoccupied window 0. -/
def State.romStatus (s : State) (a : Nat) : Nat :=
  let b := windowOf a
  if ¬ occupied b then 0
  else if s.gated b then (gatedPattern b).toNat % 256
  else getBits (s.rd (cfgStatusOf a)) 0 8

/-- The ROM's read of CFG_STATUS clears it (R10). -/
def State.romClear (s : State) (a : Nat) : State :=
  if occupied (windowOf a) ∧ ¬ s.gated (windowOf a) then s.wr (cfgStatusOf a) 0 else s

/-- The bits of a register that read 0 (R5). -/
def writeOnly (fs : List RegField) : Word :=
  fs.foldl (fun m f => if f.acc = .wo then m ||| setBits 0 f.lo (f.hi + 1 - f.lo) (2 ^ (f.hi + 1 - f.lo) - 1) else m) 0

/-- The answer of a 32-bit read of the register at `a` that has a command of its own, whose effect it has; none for another
register (R9, R15, R262, R273, R351, R477). -/
def State.readCommand (s : State) (a : Nat) : Option (Host.Outcome State Fault Refusal) :=
  let b := firstWindow (windowOf a)
  let c : Master := .core 0
  if a = cfgStatusOf a then some (execCfgStatusRead c (BitVec.ofNat 8 b) s)
  else if isCounter a then some (execCounterLowRead c (BitVec.ofNat 64 a) s)
  else if isCounter (a - 4) then some (execCounterHighRead c (BitVec.ofNat 64 a) s)
  else if b = 0x40 ∧ A.TM_Q_MAX_DELAY 0 ≤ a ∧ a < A.TM_Q_MAX_DELAY 8192 ∧ a % 0x20 = A.TM_Q_MAX_DELAY 0 % 0x20 then
    some (execMaxDelayRead (BitVec.ofNat 13 ((a - A.TM_Q_MAX_DELAY 0) / 0x20)) s)
  else if a = A.NGR_RX_LAST0 then some (execRxLast0Read s)
  else if a = A.POSTMARK_LOCAL_LO then some (execLocalLoRead false s)
  else if a = A.POSTMARK_DOM_NS 0 then some (execNsRead 0 s)
  else if a = A.POSTMARK_DOM_NS 1 then some (execNsRead 1 s)
  else (([0, 1, 2, 3, 4, 5, 6, 7] : List (Fin 8)).find? (fun k => decide (a = A.POSTMARK_CAP_REC k.val 0))).map (fun k =>
    execCaptureRead k s)

/-- The word at `a` as it reads now: SOUND_AGE of an MU group and AWAKE of a station are counted and judged at the read (R302, R320,
R322). -/
def State.liveWord (s : State) (a : Nat) : Word :=
  let w := s.rd a
  if A.ROUNDS_MUG_W0 0 0 ≤ a ∧ a < A.ROUNDS_MUG_W0 3 0 ∧ a % 0x20 = 0 then
    let r := (a - A.ROUNDS_MUG_W0 0 0) / 0x400
    setBits w 0 16 (min 0xFFFF ((s.soundAge r ((a - A.ROUNDS_MUG_W0 r 0) / 0x20)).getD 0xFFFF))
  else if A.ROUNDS_STA_W0 0 ≤ a ∧ a < A.ROUNDS_STA_W0 1024 ∧ a % 8 = 0 then
    setBits w 17 1 (bit (s.awake ((a - A.ROUNDS_STA_W0 0) / 8 + 1)))
  else w

/-- A core's 32-bit read of the register at `a`: the value, and what the read does (R5, R15, R18, R125, R262). -/
def State.readWord (s : State) (a : Nat) : Word × State :=
  match s.stopped (.core 0) false a 4 (.cfgStatusRead (.core 0) 0) with
  | some t => (t.resp.value.setWidth 32, t)
  | none =>
    match s.readCommand a, findReg a with
    | some o, _ => ((nextOf s o).resp.value.setWidth 32, nextOf s o)
    | none, some (d, _) => (s.liveWord a &&& ~~~(writeOnly d.fields), s.touch a)
    | none, none => (s.rd a, s.touch a)

/-- One triple of a REG_WRITES record (R115): address, mask, value. -/
def State.romTriple (s0 : State) (a : Nat) (mask value : Word) : Except Nat State :=
  if ¬ inRegs a then .error codeBadDest
  else
    let (old, s) := s0.readWord a
    let w := (old &&& ~~~mask) ||| (value &&& mask)
    let s1 := nextOf s (execRegisterWrite (.core 0) (BitVec.ofNat 64 a) 4 (w.setWidth 64) s)
    if s1.romStatus a ≠ 0 then .error codeRegRefused else .ok (s1.romClear a)

/-- The first `n` triples of a body. -/
def State.romTriples : Nat → List Byte → State → Except Nat State
  | 0, _, s => .ok s
  | n + 1, b, s =>
    match s.romTriple (leNat (b.take 4)) (BitVec.ofNat 32 (leNat (slice b 4 4))) (BitVec.ofNat 32 (leNat (slice b 8 4))) with
    | .error c => .error c
    | .ok s1 => State.romTriples n (b.drop 12) s1

/-- The body of a REG_WRITES record (R114, R115): whole triples. -/
def State.regWritesBody (s : State) (b : List Byte) : Except Nat State :=
  if b.length % 12 ≠ 0 then .error codeBadRecord else State.romTriples (b.length / 12) b s

/-- A triple of a REG_WRITES body addresses a block that waits for its PLL: the ROM's access stalls (R95). -/
def State.triplesWait (s : State) (b : List Byte) : Bool :=
  (List.range (b.length / 12)).any (fun i => s.awaits (windowOf (leNat (slice b (12 * i) 4))))

/-- The body of the present record, if it has the type `t`. -/
def State.bodyNow (s : State) (t : Nat) : List Byte :=
  let d := s.dirEntry s.slot s.boot.recIdx
  if s.boot.phase = .records ∧ d.type = t then s.recBody s.slot d else []

/-- REG_WRITES (R115, R117, R120). The ROM waits while a block that the record names waits for its PLL (R95). -/
def execRegWrites (s : State) : Host.Outcome State Fault Refusal :=
  if s.triplesWait (s.bodyNow 0x07) then .next s
  else .next (s.record 0x07 (fun _ b => s.regWritesBody b))

/-- An inner key-slot record (R591, R598): applied as a WRITE, which lands at once, since nothing runs on the slot. -/
def State.keyRecord (s : State) (b : List Byte) : Except Nat State :=
  let f := fun (off n : Nat) => leNat (slice b off n)
  let kt := f 2 1 % 4
  let pnw := f 2 1 / 16 % 4
  let ok := b.length = 48 ∧ f 0 2 < 8184 ∧ f 2 1 / 64 = 0 ∧ f 2 1 / 4 % 4 = 0 ∧ kt ≤ 2 ∧ pnw ≤ 2 ∧ 1 ≤ f 3 1 ∧
    f 3 1 < 32 ∧ f 4 8 < pnWarn pnw ∧ f 12 4 = 0 ∧ (kt = 0 → f 32 16 = 0)
  if ¬ ok then .error codeBadRecord
  else if s.d3 then .ok (s.keyResult 3)
  else .ok (s.landChange { slot := f 0 2, erase := false, key := BitVec.ofNat 256 (f 16 32), ktype := kt, pnw := pnw,
                           use := f 3 1, pn := f 4 8 })

/-- The inner records of a sealed section, in order (R118): 16 bytes as a directory entry's first 16, then the body. -/
def State.innerRecords : Nat → List Byte → State → Except Nat State
  | 0, _, s => .ok s
  | n + 1, b, s =>
    if b = [] then .ok s
    else
      let type := leNat (b.take 1)
      let resume := (leNat (slice b 1 1)).testBit 1
      let len := leNat (slice b 8 4)
      let body := slice b 16 len
      let dest := 16 * leNat (slice b 12 4)
      let r : Except Nat State :=
        if b.length < 16 + len then .error codeBadRecord
        else if ¬ (type = 0x06 ∨ type = 0x07 ∨ type = 0x0B) then .error codeBadRecord
        else if len = 0 then .error codeZeroLength
        else if type = 0x06 then s.applyLoad dest resume body
        else if type = 0x07 then s.regWritesBody body
        else s.keyRecord body
      match r with
      | .error c => .error c
      | .ok s1 => State.innerRecords n (b.drop (16 + len)) s1

/-- The directory entry of the present record with DIGEST set to zero, the AAD of its section (R118). -/
def State.sealedAad (s : State) : List Byte :=
  (s.img s.slot (256 + 64 * s.boot.recIdx) 64).take 16 ++ List.replicate 48 0

/-- The device boots UNBOUND (R119). -/
def State.bootUnbound (s : State) : State :=
  let s1 := s.setFld F.SYSCTL_BOOT_STATUS_UNBOUND 1
  { s1 with boot := { s1.boot with unbound := true } }

/-- The plaintext of a sealed section; none where its key is not there, or its tag does not match (R118, R119, R590). -/
def State.openSealed (s : State) (b : List Byte) : Option (List Byte) :=
  let n := b.length - 48
  let ct := slice b 32 n
  let nonce := slice b 16 12
  match s.sealingKey (b.take 16) with
  | none => none
  | some key =>
    if tagBytes (Config.tag 2 key nonce s.sealedAad ct) 16 ≠ b.drop (32 + n) then none
    else some ((List.range n).map (Config.cipher 2 key nonce s.sealedAad ct))

/-- The body of a SEALED record (R118, R119, R590). -/
def State.sealedBody (s : State) (b : List Byte) : Except Nat State :=
  if s.boot.unbound then .ok s
  else if b.length < 48 ∨ leNat (slice b 28 4) ≠ 0 then .error codeBadRecord
  else
    match s.openSealed b with
    | none => .ok s.bootUnbound
    | some p => State.innerRecords p.length p s

/-- An inner REG_WRITES record of a plaintext addresses a block that waits for its PLL (R95). -/
def State.innerWaits (s : State) : Nat → List Byte → Bool
  | 0, _ => false
  | n + 1, b =>
    if b = [] then false
    else
      let len := leNat (slice b 8 4)
      (decide (leNat (b.take 1) = 0x07) && s.triplesWait (slice b 16 len)) || State.innerWaits s n (b.drop (16 + len))

/-- The sealed section of the present record holds a register write that must wait (R95). -/
def State.sealedWaits (s : State) : Bool :=
  let b := s.bodyNow 0x08
  decide (48 ≤ b.length) && !s.boot.unbound &&
    match s.openSealed b with
    | some p => s.innerWaits p.length p
    | none => false

/-- SEALED (R118 to R120). The ROM waits as at a REG_WRITES record. -/
def execSealed (s : State) : Host.Outcome State Fault Refusal :=
  if s.sealedWaits then .next s else .next (s.record 0x08 (fun _ b => s.sealedBody b))

end Sys2Proof.Machine
end

