-- ==== Sys2Proof/Machine/Dispatch.lean ====
section
/-! DEFINITION. One arm per command of the opcode table. -/

namespace Sys2Proof.Machine

open Sys2Proof

/-- What a command does to everything but the queue (spec/opcode_table.json). -/
def exec (i : Instr) (s : State) : Host.Outcome State Fault Refusal :=
  match i with
  | .registerWrite m addr size value => Sys2Proof.Machine.execRegisterWrite m addr size value s
  | .badSize m write addr size => Sys2Proof.Machine.execBadSize m write addr size s
  | .cfgStatusRead m block => Sys2Proof.Machine.execCfgStatusRead m block s
  | .counterRead m addr => Sys2Proof.Machine.execCounterRead m addr s
  | .counterLowRead m addr => Sys2Proof.Machine.execCounterLowRead m addr s
  | .counterHighRead m addr => Sys2Proof.Machine.execCounterHighRead m addr s
  | .gatedAccess m write addr => Sys2Proof.Machine.execGatedAccess m write addr s
  | .addrUnmapped m write addr => Sys2Proof.Machine.execAddrUnmapped m write addr s
  | .powerOn straps => Sys2Proof.Machine.execPowerOn straps s
  | .pin straps => Sys2Proof.Machine.execPin straps s
  | .powerFail => Sys2Proof.Machine.execPowerFail s
  | .pmicPgTimeout => Sys2Proof.Machine.execPmicPgTimeout s
  | .vinAoLoss => Sys2Proof.Machine.execVinAoLoss s
  | .brownout => Sys2Proof.Machine.execBrownout s
  | .thermalWarn sensor temp => Sys2Proof.Machine.execThermalWarn sensor temp s
  | .thermal temp => Sys2Proof.Machine.execThermal temp s
  | .thermalResetRelease temp => Sys2Proof.Machine.execThermalResetRelease temp s
  | .avsRecompute temp core cpu => Sys2Proof.Machine.execAvsRecompute temp core cpu s
  | .avsWriteDone ack => Sys2Proof.Machine.execAvsWriteDone ack s
  | .avsRetry => Sys2Proof.Machine.execAvsRetry s
  | .avsSettle => Sys2Proof.Machine.execAvsSettle s
  | .branchWake b => Sys2Proof.Machine.execBranchWake b s
  | .branchIdleStop b => Sys2Proof.Machine.execBranchIdleStop b s
  | .gateWrite value => Sys2Proof.Machine.execGateWrite value s
  | .pllCtrlWrite value => Sys2Proof.Machine.execPllCtrlWrite value s
  | .pllLock p => Sys2Proof.Machine.execPllLock p s
  | .pllUnlock p => Sys2Proof.Machine.execPllUnlock p s
  | .clockLoss ao => Sys2Proof.Machine.execClockLoss ao s
  | .stateReqRun => Sys2Proof.Machine.execStateReqRun s
  | .stateReqTrim => Sys2Proof.Machine.execStateReqTrim s
  | .stateReqWatch => Sys2Proof.Machine.execStateReqWatch s
  | .watchEntryDone => Sys2Proof.Machine.execWatchEntryDone s
  | .stateReqSleep temp => Sys2Proof.Machine.execStateReqSleep temp s
  | .sleepEntryDone => Sys2Proof.Machine.execSleepEntryDone s
  | .abortedWake => Sys2Proof.Machine.execAbortedWake s
  | .wakeLinkEnergy p => Sys2Proof.Machine.execWakeLinkEnergy p s
  | .wakePatternMatch p frame => Sys2Proof.Machine.execWakePatternMatch p frame s
  | .wakeWlanRequest frame => Sys2Proof.Machine.execWakeWlanRequest frame s
  | .wakeNguordFrame frame => Sys2Proof.Machine.execWakeNguordFrame frame s
  | .wakePcie => Sys2Proof.Machine.execWakePcie s
  | .wakeAlarm postmark => Sys2Proof.Machine.execWakeAlarm postmark s
  | .wakeIn rising => Sys2Proof.Machine.execWakeIn rising s
  | .sleepExit changed => Sys2Proof.Machine.execSleepExit changed s
  | .boot => Sys2Proof.Machine.execBoot s
  | .pmic => Sys2Proof.Machine.execPmic s
  | .nvmTiming => Sys2Proof.Machine.execNvmTiming s
  | .clocks => Sys2Proof.Machine.execClocks s
  | .hostpRecord => Sys2Proof.Machine.execHostpRecord s
  | .hostpLate perst => Sys2Proof.Machine.execHostpLate perst s
  | .dramRecord trains => Sys2Proof.Machine.execDramRecord trains s
  | .load => Sys2Proof.Machine.execLoad s
  | .regWrites => Sys2Proof.Machine.execRegWrites s
  | .sealed => Sys2Proof.Machine.execSealed s
  | .lockRecord => Sys2Proof.Machine.execLockRecord s
  | .entry run => Sys2Proof.Machine.execEntry run s
  | .bootConfirm value run => Sys2Proof.Machine.execBootConfirm value run s
  | .bootTimeout => Sys2Proof.Machine.execBootTimeout s
  | .software value => Sys2Proof.Machine.execSoftware value s
  | .host => Sys2Proof.Machine.execHost s
  | .perstHostpReset => Sys2Proof.Machine.execPerstHostpReset s
  | .debugReset => Sys2Proof.Machine.execDebugReset s
  | .cfgLock value => Sys2Proof.Machine.execCfgLock value s
  | .bar2WinWrite value received => Sys2Proof.Machine.execBar2WinWrite value received s
  | .rbAdv value vpp => Sys2Proof.Machine.execRbAdv value vpp s
  | .imageOpen seq length items => Sys2Proof.Machine.execImageOpen seq length items s
  | .imageWrite seq length items => Sys2Proof.Machine.execImageWrite seq length items s
  | .imageCommit seq length items => Sys2Proof.Machine.execImageCommit seq length items s
  | .resetMsg seq length items => Sys2Proof.Machine.execResetMsg seq length items s
  | .nvmRead => Sys2Proof.Machine.execNvmRead s
  | .nvmProgram => Sys2Proof.Machine.execNvmProgram s
  | .nvmErase4k => Sys2Proof.Machine.execNvmErase4k s
  | .nvmErase64k => Sys2Proof.Machine.execNvmErase64k s
  | .nvmOpDone => Sys2Proof.Machine.execNvmOpDone s
  | .nvmTimeout => Sys2Proof.Machine.execNvmTimeout s
  | .synthWrite radio value => Sys2Proof.Machine.execSynthWrite radio value s
  | .retuneStart radio => Sys2Proof.Machine.execRetuneStart radio s
  | .retuneDone radio temp results => Sys2Proof.Machine.execRetuneDone radio temp results s
  | .rfUnlock radio => Sys2Proof.Machine.execRfUnlock radio s
  | .radioStart radio => Sys2Proof.Machine.execRadioStart radio s
  | .calDone radio temp results => Sys2Proof.Machine.execCalDone radio temp results s
  | .calCmdFull radio => Sys2Proof.Machine.execCalCmdFull radio s
  | .calDue radio temp => Sys2Proof.Machine.execCalDue radio temp s
  | .calTrack radio temp results => Sys2Proof.Machine.execCalTrack radio temp results s
  | .rfCalOverdue radio => Sys2Proof.Machine.execRfCalOverdue radio s
  | .chainEnWrite radio value => Sys2Proof.Machine.execChainEnWrite radio value s
  | .txReady radio => Sys2Proof.Machine.execTxReady radio s
  | .txUntimedReady radio energy => Sys2Proof.Machine.execTxUntimedReady radio energy s
  | .dozeStart radio => Sys2Proof.Machine.execDozeStart radio s
  | .dozeEnd radio => Sys2Proof.Machine.execDozeEnd radio s
  | .rxPreamble radio preamble => Sys2Proof.Machine.execRxPreamble radio preamble s
  | .secondDetect radio preamble => Sys2Proof.Machine.execSecondDetect radio preamble s
  | .codewordEnqueue radio cw => Sys2Proof.Machine.execCodewordEnqueue radio cw s
  | .codewordReclass radio hdr => Sys2Proof.Machine.execCodewordReclass radio hdr s
  | .engineFree engine => Sys2Proof.Machine.execEngineFree engine s
  | .decodeEnd engine iterations zero agree => Sys2Proof.Machine.execDecodeEnd engine iterations zero agree s
  | .ldpcRetire value => Sys2Proof.Machine.execLdpcRetire value s
  | .bist engine pass => Sys2Proof.Machine.execBist engine pass s
  | .csiCapture radio est => Sys2Proof.Machine.execCsiCapture radio est s
  | .ctxAdd sta => Sys2Proof.Machine.execCtxAdd sta s
  | .ctxUpdate sta => Sys2Proof.Machine.execCtxUpdate sta s
  | .ctxRemove sta => Sys2Proof.Machine.execCtxRemove sta s
  | .ctxRead sta => Sys2Proof.Machine.execCtxRead sta s
  | .txDescriptor source => Sys2Proof.Machine.execTxDescriptor source s
  | .ppduFill sta link bytes start rates => Sys2Proof.Machine.execPpduFill sta link bytes start rates s
  | .blockAckRx sta link tid ssn acked => Sys2Proof.Machine.execBlockAckRx sta link tid ssn acked s
  | .blockAckTimeout sta link => Sys2Proof.Machine.execBlockAckTimeout sta link s
  | .emlsrIcfFail sta => Sys2Proof.Machine.execEmlsrIcfFail sta s
  | .mpduRx mpdu => Sys2Proof.Machine.execMpduRx mpdu s
  | .blockAckReqRx sta tid ssn => Sys2Proof.Machine.execBlockAckReqRx sta tid ssn s
  | .reorderFlush sta tid => Sys2Proof.Machine.execReorderFlush sta tid s
  | .beaconTx bss len rates => Sys2Proof.Machine.execBeaconTx bss len rates s
  | .triggerFire trigger => Sys2Proof.Machine.execTriggerFire trigger s
  | .triggerArm trigger value => Sys2Proof.Machine.execTriggerArm trigger value s
  | .timeStale d => Sys2Proof.Machine.execTimeStale d s
  | .domainSwitch => Sys2Proof.Machine.execDomainSwitch s
  | .selWrite value => Sys2Proof.Machine.execSelWrite value s
  | .incNsWrite d value => Sys2Proof.Machine.execIncNsWrite d value s
  | .set d => Sys2Proof.Machine.execSet d s
  | .adj d value => Sys2Proof.Machine.execAdj d value s
  | .kick d => Sys2Proof.Machine.execKick d s
  | .nsRead d => Sys2Proof.Machine.execNsRead d s
  | .localLoRead wide => Sys2Proof.Machine.execLocalLoRead wide s
  | .capture channel => Sys2Proof.Machine.execCapture channel s
  | .capCmd value => Sys2Proof.Machine.execCapCmd value s
  | .captureRead channel => Sys2Proof.Machine.execCaptureRead channel s
  | .clk10mUpdate => Sys2Proof.Machine.execClk10mUpdate s
  | .clk10mLoss => Sys2Proof.Machine.execClk10mLoss s
  | .ppsOut => Sys2Proof.Machine.execPpsOut s
  | .tsqRdWrite queue value => Sys2Proof.Machine.execTsqRdWrite queue value s
  | .planSwap radio value => Sys2Proof.Machine.execPlanSwap radio value s
  | .planCheckDone radio => Sys2Proof.Machine.execPlanCheckDone radio s
  | .segmentStart radio segment seg => Sys2Proof.Machine.execSegmentStart radio segment seg s
  | .twtEntryWrite entry value => Sys2Proof.Machine.execTwtEntryWrite entry value s
  | .twtSpStart entry ul rates => Sys2Proof.Machine.execTwtSpStart entry ul rates s
  | .twtMissed entry sta => Sys2Proof.Machine.execTwtMissed entry sta s
  | .rspStart index idle ul rates => Sys2Proof.Machine.execRspStart index idle ul rates s
  | .join radio value => Sys2Proof.Machine.execJoin radio value s
  | .left radio value => Sys2Proof.Machine.execLeft radio value s
  | .peerBeaconRx radio bssid attr => Sys2Proof.Machine.execPeerBeaconRx radio bssid attr s
  | .ngRxDetect preamble => Sys2Proof.Machine.execNgRxDetect preamble s
  | .ngHeaderResult word => Sys2Proof.Machine.execNgHeaderResult word s
  | .ngRxEnd crc psdu => Sys2Proof.Machine.execNgRxEnd crc psdu s
  | .ngSecondDetect preamble => Sys2Proof.Machine.execNgSecondDetect preamble s
  | .arm => Sys2Proof.Machine.execArm s
  | .abortRanging => Sys2Proof.Machine.execAbortRanging s
  | .poll => Sys2Proof.Machine.execPoll s
  | .resp => Sys2Proof.Machine.execResp s
  | .final => Sys2Proof.Machine.execFinal s
  | .report => Sys2Proof.Machine.execReport s
  | .rngTimeout => Sys2Proof.Machine.execRngTimeout s
  | .nglEnable value => Sys2Proof.Machine.execNglEnable value s
  | .parentBeaconRx => Sys2Proof.Machine.execParentBeaconRx s
  | .resyncScan => Sys2Proof.Machine.execResyncScan s
  | .ngFrameRx => Sys2Proof.Machine.execNgFrameRx s
  | .ngAckRx => Sys2Proof.Machine.execNgAckRx s
  | .ngAckTimeout => Sys2Proof.Machine.execNgAckTimeout s
  | .backoffEnd energy => Sys2Proof.Machine.execBackoffEnd energy s
  | .ngSlotStart slot => Sys2Proof.Machine.execNgSlotStart slot s
  | .ngCalStart temp result => Sys2Proof.Machine.execNgCalStart temp result s
  | .ngLifetime => Sys2Proof.Machine.execNgLifetime s
  | .ngTxDescriptor source => Sys2Proof.Machine.execNgTxDescriptor source s
  | .ngDropRecord => Sys2Proof.Machine.execNgDropRecord s
  | .nodeAdd node => Sys2Proof.Machine.execNodeAdd node s
  | .nodeUpdate node => Sys2Proof.Machine.execNodeUpdate node s
  | .nodeRemove node => Sys2Proof.Machine.execNodeRemove node s
  | .nodeRead node => Sys2Proof.Machine.execNodeRead node s
  | .laneEnter source => Sys2Proof.Machine.execLaneEnter source s
  | .passStart => Sys2Proof.Machine.execPassStart s
  | .passEnd upsets rows => Sys2Proof.Machine.execPassEnd upsets rows s
  | .camWrite index => Sys2Proof.Machine.execCamWrite index s
  | .camRead index => Sys2Proof.Machine.execCamRead index s
  | .camClear index => Sys2Proof.Machine.execCamClear index s
  | .setBanks index => Sys2Proof.Machine.execSetBanks index s
  | .swap => Sys2Proof.Machine.execSwap s
  | .swapDone => Sys2Proof.Machine.execSwapDone s
  | .camScrub entry upset => Sys2Proof.Machine.execCamScrub entry upset s
  | .tablesLookup lost => Sys2Proof.Machine.execTablesLookup lost s
  | .learn => Sys2Proof.Machine.execLearn s
  | .l2Sweep => Sys2Proof.Machine.execL2Sweep s
  | .sessSweep => Sys2Proof.Machine.execSessSweep s
  | .tablesAdd table index => Sys2Proof.Machine.execTablesAdd table index s
  | .tablesUpdate table index => Sys2Proof.Machine.execTablesUpdate table index s
  | .tablesDelete table index => Sys2Proof.Machine.execTablesDelete table index s
  | .tablesReadKey table index => Sys2Proof.Machine.execTablesReadKey table index s
  | .tablesWriteIndexed table index => Sys2Proof.Machine.execTablesWriteIndexed table index s
  | .tablesReadIndex table index => Sys2Proof.Machine.execTablesReadIndex table index s
  | .flush table => Sys2Proof.Machine.execFlush table s
  | .auditPass => Sys2Proof.Machine.execAuditPass s
  | .auditConfirm => Sys2Proof.Machine.execAuditConfirm s
  | .tmEnqueue => Sys2Proof.Machine.execTmEnqueue s
  | .refill => Sys2Proof.Machine.execRefill s
  | .egressReady egress tid upset => Sys2Proof.Machine.execEgressReady egress tid upset s
  | .queueCommit queue value => Sys2Proof.Machine.execQueueCommit queue value s
  | .egmapCommit entry value => Sys2Proof.Machine.execEgmapCommit entry value s
  | .floodCommit group value => Sys2Proof.Machine.execFloodCommit group value s
  | .shaperCommit policer index value => Sys2Proof.Machine.execShaperCommit policer index value s
  | .queueFlush queue => Sys2Proof.Machine.execQueueFlush queue s
  | .sampleWalk => Sys2Proof.Machine.execSampleWalk s
  | .maxDelayRead queue => Sys2Proof.Machine.execMaxDelayRead queue s
  | .flowAdmit flow => Sys2Proof.Machine.execFlowAdmit flow s
  | .flowRelease flow => Sys2Proof.Machine.execFlowRelease flow s
  | .flowRead flow => Sys2Proof.Machine.execFlowRead flow s
  | .flowFreed flow => Sys2Proof.Machine.execFlowFreed flow s
  | .booking => Sys2Proof.Machine.execBooking s
  | .occurrenceEnd index => Sys2Proof.Machine.execOccurrenceEnd index s
  | .frameDeadline flow fnum => Sys2Proof.Machine.execFrameDeadline flow fnum s
  | .frerReset flow => Sys2Proof.Machine.execFrerReset flow s
  | .outcomeRecord => Sys2Proof.Machine.execOutcomeRecord s
  | .emacRxFrame p frame codeErr => Sys2Proof.Machine.execEmacRxFrame p frame codeErr s
  | .emacTxEnd p => Sys2Proof.Machine.execEmacTxEnd p s
  | .linkUp p speed half => Sys2Proof.Machine.execLinkUp p speed half s
  | .linkDown p => Sys2Proof.Machine.execLinkDown p s
  | .emacModeWrite p value => Sys2Proof.Machine.execEmacModeWrite p value s
  | .pauseRx p classes quanta => Sys2Proof.Machine.execPauseRx p classes quanta s
  | .rxBufferXoff p => Sys2Proof.Machine.execRxBufferXoff p s
  | .sdsPreset p errors => Sys2Proof.Machine.execSdsPreset p errors s
  | .hostTxFrame ring dmaError => Sys2Proof.Machine.execHostTxFrame ring dmaError s
  | .hostTxCompletion ring => Sys2Proof.Machine.execHostTxCompletion ring s
  | .hostRxFrame ring => Sys2Proof.Machine.execHostRxFrame ring s
  | .coalTimeout receive ring => Sys2Proof.Machine.execCoalTimeout receive ring s
  | .rcAccess value => Sys2Proof.Machine.execRcAccess value s
  | .rcAccessDone result data => Sys2Proof.Machine.execRcAccessDone result data s
  | .dramRequest m write addr data size upset => Sys2Proof.Machine.execDramRequest m write addr data size upset s
  | .dramPowerDown rank => Sys2Proof.Machine.execDramPowerDown rank s
  | .dramScrub upsets => Sys2Proof.Machine.execDramScrub upsets s
  | .retrain => Sys2Proof.Machine.execRetrain s
  | .retrainDone ok => Sys2Proof.Machine.execRetrainDone ok s
  | .keyWrite slot => Sys2Proof.Machine.execKeyWrite slot s
  | .keyErase slot => Sys2Proof.Machine.execKeyErase slot s
  | .zeroise => Sys2Proof.Machine.execZeroise s
  | .readState slot => Sys2Proof.Machine.execReadState slot s
  | .changeLanded => Sys2Proof.Machine.execChangeLanded s
  | .encrypt => Sys2Proof.Machine.execEncrypt s
  | .decrypt => Sys2Proof.Machine.execDecrypt s
  | .mac => Sys2Proof.Machine.execMac s
  | .verify => Sys2Proof.Machine.execVerify s
  | .hash => Sys2Proof.Machine.execHash s
  | .derive => Sys2Proof.Machine.execDerive s
  | .sealCreate => Sys2Proof.Machine.execSealCreate s
  | .attest => Sys2Proof.Machine.execAttest s
  | .random => Sys2Proof.Machine.execRandom s
  | .sealCompletion => Sys2Proof.Machine.execSealCompletion s
  | .entropy => Sys2Proof.Machine.execEntropy s
  | .provision vpp cut => Sys2Proof.Machine.execProvision vpp cut s
  | .deploy vpp => Sys2Proof.Machine.execDeploy vpp s
  | .newChal => Sys2Proof.Machine.execNewChal s
  | .submit vpp cut => Sys2Proof.Machine.execSubmit vpp cut s
  | .drop => Sys2Proof.Machine.execDrop s
  | .nextRead core => Sys2Proof.Machine.execNextRead core s
  | .yieldOp core => Sys2Proof.Machine.execYieldOp core s
  | .exitOp core => Sys2Proof.Machine.execExitOp core s
  | .waitEv core => Sys2Proof.Machine.execWaitEv core s
  | .sleepUntil core => Sys2Proof.Machine.execSleepUntil core s
  | .post core => Sys2Proof.Machine.execPost core s
  | .recv core => Sys2Proof.Machine.execRecv core s
  | .takeCompl core => Sys2Proof.Machine.execTakeCompl core s
  | .setEv core => Sys2Proof.Machine.execSetEv core s
  | .clrEv core => Sys2Proof.Machine.execClrEv core s
  | .start core => Sys2Proof.Machine.execStart core s
  | .suspend core => Sys2Proof.Machine.execSuspend core s
  | .delete core => Sys2Proof.Machine.execDelete core s
  | .wakeTime thread => Sys2Proof.Machine.execWakeTime thread s
  | .sliceEnd core => Sys2Proof.Machine.execSliceEnd core s
  | .affinityWrite thread value => Sys2Proof.Machine.execAffinityWrite thread value s
  | .vectorRaise vector => Sys2Proof.Machine.execVectorRaise vector s
  | .complLatchDrain vector => Sys2Proof.Machine.execComplLatchDrain vector s
  | .supItemPost => Sys2Proof.Machine.execSupItemPost s
  | .commit fifo value => Sys2Proof.Machine.execCommit fifo value s
  | .hwRecord fifo items => Sys2Proof.Machine.execHwRecord fifo items s
  | .pop fifo => Sys2Proof.Machine.execPop fifo s
  | .mark fifo => Sys2Proof.Machine.execMark fifo s
  | .rewind fifo => Sys2Proof.Machine.execRewind fifo s
  | .release fifo => Sys2Proof.Machine.execRelease fifo s
  | .levelAge fifo => Sys2Proof.Machine.execLevelAge fifo s
  | .fifoDisable fifo => Sys2Proof.Machine.execFifoDisable fifo s
  | .faultEvent shown => Sys2Proof.Machine.execFaultEvent shown s
  | .faultReset => Sys2Proof.Machine.execFaultReset s
  | .coreRetireDone => Sys2Proof.Machine.execCoreRetireDone s
  | .swEntryWrite high value => Sys2Proof.Machine.execSwEntryWrite high value s
  | .sramCopyDone spare => Sys2Proof.Machine.execSramCopyDone spare s
  | .sramScrub bank word upset => Sys2Proof.Machine.execSramScrub bank word upset s
  | .faultRetire m value => Sys2Proof.Machine.execFaultRetire m value s
  | .inj value => Sys2Proof.Machine.execInj value s
  | .clearFirst => Sys2Proof.Machine.execClearFirst s
  | .abort value => Sys2Proof.Machine.execAbort value s
  | .abortDone => Sys2Proof.Machine.execAbortDone s
  | .abortForced => Sys2Proof.Machine.execAbortForced s
  | .watchExitDone => Sys2Proof.Machine.execWatchExitDone s
  | .rxLast0Read => Sys2Proof.Machine.execRxLast0Read s
  | .pcieLinkUp gen width pm ltssm msix => Sys2Proof.Machine.execPcieLinkUp gen width pm ltssm msix s
  | .pcieLinkDown => Sys2Proof.Machine.execPcieLinkDown s
  | .healthOk => Sys2Proof.Machine.execHealthOk s
  | .clk10mPresent => Sys2Proof.Machine.execClk10mPresent s
  | .codewordDeadline => Sys2Proof.Machine.execCodewordDeadline s

end Sys2Proof.Machine
end

