-- ==== Sys2Proof/Machine/Ticks.lean ====
section
/-! DEFINITION. What the blocks do on a tick of the TIME clock while no command waits (notes/assumptions/1.md). -/

namespace Sys2Proof.Machine

/-- A tick at radio r: the header of a reception is checked when it is complete (spec/05_wlan_phy_decoders.md R187), a transmission's
first sample leaves (spec/07_postmark_time.md R275), and its strobes end a reception (spec/04_radio_front_ends.md R158). -/
def State.radioTick (s : State) (r : Nat) : State := ((s.checkHeader r).airBegins r).deafen r

/-- The fields that show a command running (spec/06_wlan_mac_multilink.md R218, spec/10_nguord_link.md R393, spec/11_sorting_office.md
R413, spec/12_forwarding_tables.md R456, R458, spec/13_traffic_manager.md R480, spec/14_registered_service.md R516, spec/16_security.md R606, R608). -/
def busyFields : List Fld :=
  [F.WMAC_CTX_STATUS_BUSY, F.NGL_NODE_STATUS_BUSY, F.SORT_CAM_STATUS_BUSY, F.TABLES_STATUS_BUSY, F.TABLES_AUDIT_STATUS_RUNNING,
   F.TM_QSTATUS_BUSY, F.REGSVC_FLOW_STATUS_BUSY, F.KEYS_LC_STATUS_BUSY, F.DBG_STATUS_BUSY]

/-- A command that has run is over; RETIRE_BUSY stays while a spare comes in (spec/18_faults_availability.md R664). -/
def State.busyTick (s : State) : State :=
  (busyFields.foldl (fun t f => if t.flag f then t.setFld f 0 else t) s).syncRetire

/-- One tick: the clocks advance, and where TIME has ticked, what is due in the radios, in WMAC and in NGL happens. -/
def State.idleTick (s : State) : State :=
  let u := s.clockTick
  if u.time.tick = s.time.tick then u else ([0, 1, 2, 3].foldl State.radioTick u).busyTick.nglTick

end Sys2Proof.Machine
end

