-- ==== Sys2Proof/Machine/Step.lean ====
section
/-! DEFINITION. One step of the block: the command at the front of the queue; while the queue is empty, an access that has
waited and can now be served, or else one tick of the clocks (notes/assumptions/1.md). -/

namespace Sys2Proof.Machine

/-- One step: the front command acts on the state with the queue's rest. With no command waiting, the oldest host access that
HOSTP holds is served (spec/03_startup_image.md R128), or a register access whose block's PLL has locked is made
(spec/02_clocks_power.md R95), or the clocks tick once (R57, spec/07_postmark_time.md R258, R259). -/
def step (s : State) : Host.Outcome State Fault Refusal :=
  match s.pending with
  | [] =>
    match s.bar2Served with
    | some t => .next t
    | none =>
      match s.heldNext with
      | some (c, t) => exec c t
      | none => .next s.idleTick
  | c :: rest => exec c { s with pending := rest }

/-- The state with the command that the word spells put at the front of the queue; unchanged where it spells none. -/
def State.withFetchWord (s : State) (nbits w : Nat) : State :=
  match decodeTableWord nbits w with
  | some c => { s with pending := c :: s.pending }
  | none => s

end Sys2Proof.Machine
end

