-- ==== Sys2Proof/Safety.lean ====
section
/-! DEFINITION. What the claims are stated in: the canonical form of the sparse maps, fuses that are only ever blown,
and an outcome that is a next state. -/

namespace Sys2Proof.Machine

/-- The canonical form of a memory: addresses strictly rising, no byte listed that an unlisted address reads as. -/
def Memory.wf (m : List (Nat × Byte)) : Bool := swf memDefault m

/-- The canonical form of flash, whose unlisted bytes read 0xFF. -/
def Flash.wf (m : List (Nat × Byte)) : Bool := swf (fun _ => 0xFF) m

/-- Memory, flash, host memory, registers and counters are all in canonical form. -/
def State.canonical (s : State) : Prop :=
  Memory.wf s.mem = true ∧ Flash.wf s.nvm = true ∧ Memory.wf s.hostMem = true ∧ swf resetWord s.regs = true ∧
    swf (fun _ => (0 : DWord)) s.ctrs = true

/-- From `f` to `g` fuse bits have only been blown (spec/03_startup_image.md R121, R123, spec/16_security.md R593 to
R595): no counter, no life-cycle bit and no identity-kill bit goes back, and a device secret or owner hash once blown
stays as it is. -/
def Fuses.onlyBlown (f g : Fuses) : Prop :=
  f.rb0 ≤ g.rb0 ∧ f.rb1 ≤ g.rb1 ∧ f.rb2 ≤ g.rb2 ∧ f.rb3 ≤ g.rb3 ∧ f.lcBits ≤ g.lcBits ∧
    (f.idKilled = true → g.idKilled = true) ∧ (f.idSeed ≠ none → g.idSeed = f.idSeed) ∧
    (f.hashBlown = true → g.hashBlown = true ∧ g.ownerHash = f.ownerHash)

/-- A whole register as a field. -/
def whole (a : Nat) : Fld := ⟨a, 0, 32⟩

/-- From `s` to `t` no register bit outside the fields `fs` has changed: every field that meets none of them reads as
before. -/
def onlyFields (s t : State) (fs : List Fld) : Prop :=
  ∀ g : Fld, g.lo + g.len ≤ 32 →
    (∀ f ∈ fs, g.addr ≠ f.addr ∨ g.lo + g.len ≤ f.lo ∨ f.lo + f.len ≤ g.lo) → t.fld g = s.fld g

/-- From `s` to `t` no counter outside `cs` has changed. -/
def onlyCtrs (s t : State) (cs : List Nat) : Prop := ∀ a, a ∉ cs → t.ctr a = s.ctr a

/-- From `s` to `t` no register of a block outside the windows `ws` has changed. -/
def onlyWindows (s t : State) (ws : List Nat) : Prop := ∀ a, windowOf a ∉ ws → t.rd a = s.rd a

/-- Device memory, flash, host memory, fuses and the waiting commands are as before. -/
def dataKept (s t : State) : Prop :=
  (∀ a, t.byte a = s.byte a) ∧ (∀ a, t.flashByte a = s.flashByte a) ∧ (∀ a, t.hostByte a = s.hostByte a) ∧
    t.fuses = s.fuses ∧ t.pending = s.pending

/-- A step that neither faults nor is refused. -/
def runs (o : Host.Outcome State Fault Refusal) : Prop := ∃ t, o = .next t

end Sys2Proof.Machine
end

