-- ==== Sys2Proof/Certificates/Slice0/Obligations.lean ====
section
/-! DEFINITION. The statements for the provers: what the commands do, by the rules of spec/, family by family. -/

open Sys2Proof Sys2Proof.Machine


/-- An event joins FAULT's queue, while that holds fewer than 16 (R651, R683). -/
def noted (s t : State) (src unit : Nat) (perm : Bool) : Prop :=
  s.flt.queue.length < 16 →
    t.flt.queue = s.flt.queue ++ [{ src := src, unit := unit, perm := perm, inj := false, full := false }]

/-- A write of the register at `a` is refused with a code (R9, R10), and nothing else happens. -/
def refusedOnly (s t : State) (a code : Nat) : Prop :=
  (getBits (s.rd (cfgStatusOf a)) 0 8 = 0 → getBits (t.rd (cfgStatusOf a)) 0 8 = code) ∧
    onlyFields s t [whole (cfgStatusOf a)] ∧ t = { s with regs := t.regs }

/-- A counter has advanced by `n`. -/
def counted (s t : State) (a n : Nat) : Prop := t.ctr a = s.ctr a + BitVec.ofNat 64 n

/-- The front command runs on the rest of the queue; on an empty queue what waited is served, or the clocks tick
(notes/assumptions/1.md). -/
def Obligations.StepRunsTheFrontCommand : Prop :=
  (∀ (s : State) (c : Instr) (rest : List Instr), s.pending = c :: rest →
    step s = exec c { s with pending := rest }) ∧
  (∀ s t : State, s.pending = [] → s.bar2Served = some t → step s = .next t) ∧
  (∀ (s t : State) (c : Instr), s.pending = [] → s.bar2Served = none → s.heldNext = some (c, t) → step s = exec c t) ∧
  (∀ s : State, s.pending = [] → s.bar2Served = none → s.heldNext = none → step s = .next s.idleTick)

/-- A tick (R57, R258, R259): the local count and both domains advance, or the always-on count alone. -/
def Obligations.TickAdvancesLocalAndDomains : Prop :=
  (∀ s : State, s.power.mode ≠ .off → s.dark = false → s.fed 15 = true →
    s.clockTick.time.tick = s.time.tick + 1 ∧
    (s.time.domA.steps = [] →
      s.clockTick.time.domA.total = (s.time.domA.total + s.time.domA.inc.toNat) % 1208925819614629174706176000000000 ∧
      s.clockTick.time.domA.ns < 1000000000) ∧
    (s.time.domB.steps = [] →
      s.clockTick.time.domB.total = (s.time.domB.total + s.time.domB.inc.toNat) % 1208925819614629174706176000000000 ∧
      s.clockTick.time.domB.ns < 1000000000) ∧
    (s.time.domA.steps = [] → s.time.domB.steps = [] →
      s.clockTick = { s with time := s.clockTick.time, pins := s.clockTick.pins, rwl := [], power := s.clockTick.power })) ∧
  (∀ s : State, s.power.mode ≠ .off → (s.dark = true ∨ s.fed 15 = false) →
    s.clockTick = { s with power := { s.power with ao := s.power.ao + 1 } }) ∧
  (∀ s : State, s.power.mode = .off → s.clockTick = s)

/-- Reset (R3, R85, R95, R96, R132, R133, R257, R282). -/
def Obligations.ResetLeavesTheTablesValues : Prop :=
  State.reset.rd A.SYSCTL_CHIP_ID = 0x9640A000 ∧ State.reset.rd A.SYSCTL_RESET_CAUSE = 0x11 ∧
    State.reset.flag F.SYSCTL_CFG_LOCK_LOCK = false ∧ State.reset.fld F.PMU_STATE_CUR = 0 ∧
    State.reset.flag F.PMU_STATE_BUSY = false ∧ State.reset.rd A.CKGEN_PLL_CTRL = 0x0F ∧
    State.reset.rd A.CKGEN_GATE = 0x80555555 ∧ State.reset.rd A.CKGEN_ACTIVE = 0x8000 ∧
    State.reset.time.tick = 0 ∧ State.reset.selected = 0 ∧ (∀ a, State.reset.ctr a = 0) ∧
    (∀ a, inSram a = true → State.reset.byte a = 0) ∧ State.reset.pending = [] ∧ State.reset.canonical

/-- Counter reads (R15, R16), whole: value, clear, shadow, and nothing else. -/
def Obligations.CounterReadsReturnAndClear : Prop :=
  (∀ (s u : State) (m : Master) (a : BitVec 64), s.stopped m false a.toNat 8 (.counterRead m a) = none →
    isCounter a.toNat = true → u = (s.touch a.toNat).freshCtr a.toNat →
    ∃ t, exec (.counterRead m a) s = .next t ∧ t.resp = { value := u.ctr a.toNat, busError := false } ∧
      t.ctr a.toNat = 0 ∧ onlyCtrs u t [a.toNat] ∧ t.ctrShadow = u.ctrShadow ∧ t.regs = u.regs ∧ dataKept s t) ∧
  (∀ (s u : State) (m : Master) (a : BitVec 64), s.stopped m false a.toNat 4 (.counterLowRead m a) = none →
    isCounter a.toNat = true → u = (s.touch a.toNat).freshCtr a.toNat →
    ∃ t, exec (.counterLowRead m a) s = .next t ∧
      t.resp = { value := BitVec.ofNat 64 ((u.ctr a.toNat).toNat % 2 ^ 32), busError := false } ∧
      t.ctr a.toNat = 0 ∧ onlyCtrs u t [a.toNat] ∧
      (∀ k, sget (fun _ => none) t.ctrShadow k = if k = a.toNat then
        some (BitVec.ofNat 32 ((u.ctr a.toNat).toNat / 2 ^ 32)) else sget (fun _ => none) u.ctrShadow k) ∧
      t.regs = u.regs ∧ dataKept s t) ∧
  (∀ (s u : State) (m : Master) (a : BitVec 64) (h : Word),
    s.stopped m false a.toNat 4 (.counterHighRead m a) = none → isCounter (a.toNat - 4) = true →
    sget (fun _ => none) s.ctrShadow (a.toNat - 4) = some h → u = (s.touch a.toNat).freshCtr (a.toNat - 4) →
    ∃ t, exec (.counterHighRead m a) s = .next t ∧ t.resp = { value := h.setWidth 64, busError := false } ∧
      (∀ k, sget (fun _ => none) t.ctrShadow k = if k = a.toNat - 4 then none else
        sget (fun _ => none) u.ctrShadow k) ∧ onlyCtrs u t [] ∧ t.regs = u.regs ∧ dataKept s t) ∧
  (∀ (s u : State) (m : Master) (a : BitVec 64),
    s.stopped m false a.toNat 4 (.counterHighRead m a) = none → isCounter (a.toNat - 4) = true →
    sget (fun _ => none) s.ctrShadow (a.toNat - 4) = none → u = (s.touch a.toNat).freshCtr (a.toNat - 4) →
    ∃ t, exec (.counterHighRead m a) s = .next t ∧
      t.resp = { value := BitVec.ofNat 64 ((u.ctr (a.toNat - 4)).toNat / 2 ^ 32), busError := false } ∧
      t.ctrShadow = u.ctrShadow ∧ onlyCtrs u t [] ∧ t.regs = u.regs ∧ dataKept s t) ∧
  (∀ (s : State) (a : Nat), (∀ c < 9, C.DISPATCH_BUSY_CYCLES c ≠ a) → (s.touch a).freshCtr a = s.touch a)

/-- Gated (R18), unmapped (R125) and badly sized accesses (R4). -/
def Obligations.StoppedAccessesAnswerAndLog : Prop :=
  (∀ (s : State) (m : Master) (w : Bool) (a : BitVec 64), inRegs a.toNat = true → occupied (windowOf a.toNat) = true →
    s.gated (windowOf a.toNat) = true → s.dark = false → s.granted m w a.toNat = true →
    ∃ t, exec (.gatedAccess m w a) s = .next t ∧ (t.resp.busError = true ↔ ∃ c, m = .core c) ∧
      (w = false → t.resp.value = BitVec.ofNat 64 (0x5EA1ED00 ||| windowOf a.toNat)) ∧
      (s.flt.queue.length < 16 → t = { s with resp := t.resp, flt := { s.flt with queue := s.flt.queue ++
        [{ src := 0x01, unit := windowOf a.toNat, perm := false, inj := false, full := false }] } }) ∧
      t.mem = s.mem) ∧
  (∀ (s : State) (m : Master) (w : Bool) (a : BitVec 64), s.reaches m a.toNat = false → s.dark = false →
    s.granted m w a.toNat = true →
    ∃ t, exec (.addrUnmapped m w a) s = .next t ∧ (t.resp.busError = true ↔ ∃ c, m = .core c) ∧
      (w = false → t.resp.value = 0) ∧
      (s.flt.queue.length < 16 → t = { s with resp := t.resp, flt := { s.flt with queue := s.flt.queue ++
        [{ src := 0x02, unit := a.toNat / 2 ^ 16 % 2 ^ 19, perm := false, inj := false, full := false }] } }) ∧
      t.mem = s.mem) ∧
  (∀ (s : State) (m : Master) (w : Bool) (a : BitVec 64) (n : Nat), s.granted m w a.toNat = false →
    exec (.gatedAccess m w a) s = .next s ∧ exec (.addrUnmapped m w a) s = .next s ∧
      exec (.badSize m w a n) s = .next s) ∧
  (∀ (s : State) (m : Master) (w : Bool) (a : BitVec 64) (n : Nat), inRegs a.toNat = true →
    occupied (windowOf a.toNat) = true → s.gated (windowOf a.toNat) = false → ¬ ((n = 4 ∨ n = 8) ∧ a.toNat % n = 0) →
    s.granted m w a.toNat = true →
    ∃ t, exec (.badSize m w a n) s = .next t ∧ (t.resp.busError = true ↔ ∃ c, m = .core c) ∧
      (w = false → t.resp.value = 0 ∧ t.regs = s.regs) ∧
      (w = true → getBits (s.rd (cfgStatusOf a.toNat)) 0 8 = 0 → getBits (t.rd (cfgStatusOf a.toNat)) 0 8 = 4) ∧
      onlyFields s t [whole (cfgStatusOf a.toNat)] ∧ t = { s with regs := t.regs, resp := t.resp })

/-- Refusals and CFG_STATUS (R10), shown at BAR2_WIN (R127, R138). -/
def Obligations.FirstRefusalIsKept : Prop :=
  (∀ (s : State) (w : Word), s.dark = false → getBits w 0 9 ≠ 0 → ¬ (0x40 ≤ getBits w 0 9 ∧ getBits w 0 9 ≤ 0x13F) →
    ∃ t, exec (.bar2WinWrite w []) s = .next t ∧ t.rd A.SYSCTL_BAR2_WIN = s.rd A.SYSCTL_BAR2_WIN ∧
      (getBits (s.rd 0x40000004) 0 8 = 0 →
        getBits (t.rd 0x40000004) 0 8 = 2 ∧ getBits (t.rd 0x40000004) 8 20 = 0x80) ∧
      (getBits (s.rd 0x40000004) 0 8 ≠ 0 → getBits (t.rd 0x40000004) 0 8 = getBits (s.rd 0x40000004) 0 8 ∧
        getBits (t.rd 0x40000004) 8 20 = getBits (s.rd 0x40000004) 8 20 ∧ getBits (t.rd 0x40000004) 31 1 = 1) ∧
      onlyFields s t [whole 0x40000004] ∧ t = { s with regs := t.regs }) ∧
  (∀ (s : State) (w : Word), s.dark = false → (getBits w 0 9 = 0 ∨ (0x40 ≤ getBits w 0 9 ∧ getBits w 0 9 ≤ 0x13F)) →
    ∃ t, exec (.bar2WinWrite w []) s = .next t ∧ t.fld F.SYSCTL_BAR2_WIN_WIN = getBits w 0 9 ∧
      onlyFields s t [F.SYSCTL_BAR2_WIN_WIN] ∧ t = { s with regs := t.regs }) ∧
  (∀ (s : State) (w : Word) (l : List HostReq), s.dark = false →
    exec (.bar2WinWrite w l) s = exec (.bar2WinWrite w []) (l.foldl State.receiveBar2 s)) ∧
  (∀ (s : State) (m : Master) (b : BitVec 8),
    s.stopped m false (cfgStatusOf (0x40000000 + 0x10000 * b.toNat)) 4 (.cfgStatusRead m b) = none →
    cfgStatusOf (0x40000000 + 0x10000 * b.toNat) ≠ A.CKGEN_ACTIVE →
    ∃ t, exec (.cfgStatusRead m b) s = .next t ∧ t.resp.busError = false ∧
      t.resp.value = (s.rd (cfgStatusOf (0x40000000 + 0x10000 * b.toNat))).setWidth 64 ∧
      t.rd (cfgStatusOf (0x40000000 + 0x10000 * b.toNat)) = 0 ∧
      onlyFields s t [whole (cfgStatusOf (0x40000000 + 0x10000 * b.toNat)), whole A.CKGEN_ACTIVE] ∧
      t = { s with regs := t.regs, resp := t.resp, power := t.power })

/-- The word that a write of `v` at `a` puts to the fields: reserved bits keep what they hold (R7). -/
def wordPut (s : State) (a : Nat) (v : Word) : Word :=
  (v &&& usedBits (firstWindow (windowOf a)) a) ||| (s.rd a &&& ~~~(usedBits (firstWindow (windowOf a)) a))

/-- A register write, field by field (R5, R680), and what it records (R9, R10). -/
def Obligations.RegisterWriteFollowsAccessTypes : Prop :=
  ∀ (s : State) (m : Master) (addr : BitVec 64) (v : DWord) (w : Word) (d : RegDesc) (ix : List Nat),
    s.stopped m true addr.toNat 4 (.registerWrite m addr 4 v) = none → selfOffset addr.toNat = none →
    w = wordPut s addr.toNat (v.setWidth 32) →
    (∀ (u : State) (old new : Word), u.wroteReg (firstWindow (windowOf addr.toNat)) addr.toNat old new = u) →
    (s.touch addr.toNat).cmdWrite m (firstWindow (windowOf addr.toNat)) addr.toNat (v.setWidth 32) = none →
    findReg addr.toNat = some (d, ix) → addr.toNat ≠ A.CKGEN_ACTIVE →
    addr.toNat ≠ A.DISPATCH_SW_ENTRY_LO → addr.toNat ≠ A.DISPATCH_SW_ENTRY_HI → addr.toNat ≠ cfgStatusOf addr.toNat →
    A.CKGEN_ACTIVE ≠ cfgStatusOf addr.toNat →
    d.fields.Pairwise (fun f g => f.hi < g.lo ∨ g.hi < f.lo) → (∀ f ∈ d.fields, f.lo ≤ f.hi ∧ f.hi < 32) →
    checkFields s.locked w d.fields = none →
    firstRef ((s.touch addr.toNat).regConds (firstWindow (windowOf addr.toNat)) addr.toNat w) = none →
    ∃ t, exec (.registerWrite m addr 4 v) s = .next t ∧
      (∀ f ∈ d.fields,
        let n := f.hi + 1 - f.lo
        let old := getBits (s.rd addr.toNat) f.lo n
        let new := getBits w f.lo n
        getBits (t.rd addr.toNat) f.lo n =
          match f.acc with
          | .rw | .wo => new
          | .rwl => if s.flag F.SYSCTL_CFG_LOCK_LOCK then old else new
          | .w1c => old &&& (2 ^ n - 1 - new)
          | .w1s => old ||| new
          | .ro | .rc => old) ∧
      ((s.flag F.SYSCTL_CFG_LOCK_LOCK = true ∧ ∃ f ∈ d.fields, f.acc = .rwl ∧
          getBits (s.rd addr.toNat) f.lo (f.hi + 1 - f.lo) ≠ getBits w f.lo (f.hi + 1 - f.lo)) →
        getBits (s.rd (cfgStatusOf addr.toNat)) 0 8 = 0 → getBits (t.rd (cfgStatusOf addr.toNat)) 0 8 = 3) ∧
      (¬ (s.flag F.SYSCTL_CFG_LOCK_LOCK = true ∧ ∃ f ∈ d.fields, f.acc = .rwl ∧
          getBits (s.rd addr.toNat) f.lo (f.hi + 1 - f.lo) ≠ getBits w f.lo (f.hi + 1 - f.lo)) →
        t.rd (cfgStatusOf addr.toNat) = s.rd (cfgStatusOf addr.toNat)) ∧
      onlyFields s t [whole addr.toNat, whole (cfgStatusOf addr.toNat), whole A.CKGEN_ACTIVE] ∧
      t = { s with regs := t.regs, power := t.power, rwl := t.rwl }

/-- What every cold reset leaves (R100), with the word of RESET_CAUSE. -/
def coldLeaves (s t : State) (cause : Word) : Prop :=
  t.rd A.SYSCTL_RESET_CAUSE = cause ∧ t.mem = [] ∧ t.ctrs = [] ∧ t.ctrShadow = [] ∧ t.poison = [] ∧
    (∀ a, windowOf a ∉ [0x00, 0x04, 0x05, 0x06, 0x0C] → t.rd a = resetWord a) ∧
    t.flag F.SYSCTL_CFG_LOCK_LOCK = false ∧ t.fuses = s.fuses ∧ (s.nvmc = none → t.nvm = s.nvm) ∧ t.hostMem = s.hostMem ∧
    t.pending = s.pending ∧ t.boot.phase = .waiting

/-- Cold resets (R38 to R42, R53, R71, R98 to R100). -/
def Obligations.ColdResetsClearTheDevice : Prop :=
  (∀ (s : State) (l : List (BitVec 6)), ∃ t, exec (.powerOn l) s = .next t ∧ coldLeaves s t 0x11 ∧ t.power.mode = .on) ∧
  (∀ (s : State) (l : List (BitVec 6)), s.power.mode ≠ .off → s.boot.phase ≠ .waiting →
    ∃ t, exec (.pin l) s = .next t ∧ coldLeaves s t 0x15) ∧
  (∀ s : State, s.power.mode ≠ .off → s.power.mode ≠ .sleep → s.power.mode ≠ .sleepExit → s.boot.phase ≠ .waiting →
    ∃ t, exec .powerFail s = .next t ∧ coldLeaves s t 0x12) ∧
  (∀ s : State, s.power.mode = .sleepExit → s.boot.phase ≠ .waiting →
    ∃ t, exec .pmicPgTimeout s = .next t ∧ coldLeaves s t 0x12) ∧
  (∀ s : State, s.flag F.PMU_AO_REG_LP_MODE = true → s.boot.phase ≠ .waiting →
    ∃ t, exec .brownout s = .next t ∧ coldLeaves s t 0x13) ∧
  (∀ (s : State) (c : Int), 118 ≤ c → s.dark = false → s.boot.phase ≠ .waiting →
    ∃ t, exec (.thermal c) s = .next t ∧ coldLeaves s t 0x14 ∧ t.power.mode = .thermalHold) ∧
  (∀ (s : State) (c : Int), s.power.mode = .thermalHold →
    ∃ t, exec (.thermalResetRelease c) s = .next t ∧ (t.power.mode = .on ↔ c < 95) ∧ t = { s with power := t.power }) ∧
  (∀ s : State, ∃ t, exec .vinAoLoss s = .next t ∧ t.power.mode = .off ∧ t.mem = [] ∧ t.ctrs = [] ∧
    (s.nvmc = none → t.nvm = s.nvm) ∧ t.fuses = s.fuses)

/-- What every warm reset leaves (R100, R102), with the word of RESET_CAUSE. -/
def warmLeaves (s t : State) (cause : Word) : Prop :=
  t.rd A.SYSCTL_RESET_CAUSE = cause ∧ (∀ a, inSram a = true → t.byte a = 0) ∧
    (∀ a, inSram a = false → t.byte a = s.byte a) ∧ t.ctrs = [] ∧ (s.nvmc = none → t.nvm = s.nvm) ∧ t.fuses = s.fuses ∧
    t.hostMem = s.hostMem ∧ t.pending = s.pending ∧
    (∀ a, windowOf a = 0x02 → a ≠ A.PMU_STATE → a ≠ A.PMU_AVS_STATUS → t.rd a = s.rd a) ∧
    t.fld F.PMU_AVS_STATUS_TARGET_CORE = s.fld F.PMU_AVS_STATUS_TARGET_CORE ∧
    t.fld F.PMU_AVS_STATUS_TARGET_CPU = s.fld F.PMU_AVS_STATUS_TARGET_CPU ∧
    t.flag F.PMU_AVS_STATUS_NO_ACK = s.flag F.PMU_AVS_STATUS_NO_ACK ∧
    t.rd A.SYSCTL_STRAPS = s.rd A.SYSCTL_STRAPS ∧
    (∀ n < 12, t.rd (A.SYSCTL_IMAGE_DIGEST n) = s.rd (A.SYSCTL_IMAGE_DIGEST n)) ∧
    (∀ k < 8, t.rd (A.DRAMC_PPR k) = s.rd (A.DRAMC_PPR k)) ∧ t.rd A.DRAMC_PPR_USED = s.rd A.DRAMC_PPR_USED ∧
    (∀ a, windowOf a ∉ [0x00, 0x02, 0x04, 0x05, 0x06, 0x0B, 0x0C] → t.rd a = resetWord a) ∧
    t.flag F.SYSCTL_CFG_LOCK_LOCK = false ∧ t.boot.phase = .waiting

/-- Warm resets (R98 to R102, R107, R132). -/
def Obligations.WarmResetsKeepWhatTheSpecLists : Prop :=
  (∀ (s : State) (w : Word), s.dark = false → getBits w 16 16 = 0xB007 → w.getLsbD 0 = true →
    s.boot.phase ≠ .waiting →
    ∃ t, exec (.software w) s = .next t ∧ warmLeaves s t 0x07) ∧
  (∀ (s : State) (w : Word), s.dark = false → getBits w 16 16 ≠ 0xB007 →
    ∃ t, exec (.software w) s = .next t ∧ onlyFields s t [whole (cfgStatusOf A.SYSCTL_RESET)] ∧
      t = { s with regs := t.regs }) ∧
  (∀ s : State, s.fld F.HOSTP_CFG_MODE = 1 → s.flag F.SYSCTL_RST_CFG_PERST_RESETS = true → s.dark = false →
    s.boot.phase ≠ .waiting → s.boot.phase ≠ .halted →
    ∃ t, exec .host s = .next t ∧ warmLeaves s t 0x08) ∧
  (∀ s : State, 2 ≤ s.fld F.DBG_STATUS_LEVEL → s.dark = false → s.boot.phase ≠ .waiting → s.boot.phase ≠ .halted →
    ∃ t, exec .debugReset s = .next t ∧ warmLeaves s t 0x0B) ∧
  (∀ (s : State) (ms : Nat), s.boot.wdogMs = some ms → s.boot.phase = .firmware → s.dark = false →
    s.boot.entryTime.toNat + ms * 500000 < s.time.tick.toNat →
    ∃ t, exec .bootTimeout s = .next t ∧ warmLeaves s t 0x09 ∧
      t.fld F.SYSCTL_BOOT_STATUS_SLOT_FAIL =
        s.fld F.SYSCTL_BOOT_STATUS_SLOT_FAIL ||| 2 ^ s.fld F.SYSCTL_BOOT_STATUS_SLOT) ∧
  (∀ s : State, s.fld F.HOSTP_CFG_MODE = 1 → s.flag F.SYSCTL_RST_CFG_PERST_RESETS = false → s.dark = false →
    ∃ t, exec .perstHostpReset s = .next t ∧
      (∀ a, windowOf a = 0x0C → a ∉ [A.HOSTP_CFG, A.HOSTP_IDS, A.HOSTP_SUBSYS, A.HOSTP_CLASS, A.HOSTP_PM_CFG] →
        t.rd a = resetWord a) ∧
      (∀ a, windowOf a ≠ 0x0C ∨ a ∈ [A.HOSTP_CFG, A.HOSTP_IDS, A.HOSTP_SUBSYS, A.HOSTP_CLASS, A.HOSTP_PM_CFG] →
        t.rd a = s.rd a) ∧
      (∀ a, t.ctr a = if windowOf a = 0x0C then 0 else s.ctr a) ∧
      t = { s with regs := t.regs, ctrs := t.ctrs, ctrShadow := t.ctrShadow, hostp := {} })

/-- THERMAL_WARN (R53) and AVS (R34 to R36, R79, R80). -/
def Obligations.ThermalWarningAndAvs : Prop :=
  (∀ (s : State) (n : Fin 12) (c : Int), 108 ≤ c → s.dark = false → s.power.warnArmed = true → s.flt.queue.length < 16 →
    ∃ t, exec (.thermalWarn n c) s = .next t ∧ t.power.warnArmed = false ∧ t.power.temp = c ∧
      t.flt.queue = s.flt.queue ++ [{ src := 0x04, unit := n.val, perm := false, inj := false, full := false }] ∧
      onlyFields s t [whole A.PMU_AO_REG] ∧ t = { s with regs := t.regs, power := t.power, flt := t.flt }) ∧
  (∀ (s : State) (n : Fin 12) (c : Int), s.dark = false → (c < 103 ∨ s.power.warnArmed = false) →
    ∃ t, exec (.thermalWarn n c) s = .next t ∧ (c < 103 → t.power.warnArmed = true) ∧
      (103 ≤ c → t.power.warnArmed = false) ∧ t.power.temp = c ∧ onlyFields s t [whole A.PMU_AO_REG] ∧
      t = { s with regs := t.regs, power := t.power }) ∧
  (∀ (s : State) (c : Int) (x y : BitVec 6), s.flag F.PMU_AVS_CTRL_EN = true → s.avsAsked c = true → s.dark = false →
    ∃ t, exec (.avsRecompute c x y) s = .next t ∧
      t.fld F.PMU_AVS_STATUS_TARGET_CORE = min 50 (x.toNat + s.fld F.PMU_AVS_CTRL_MARGIN_MV / 5) ∧
      t.fld F.PMU_AVS_STATUS_TARGET_CPU = min 50 (y.toNat + s.fld F.PMU_AVS_CTRL_MARGIN_MV / 5) ∧
      (s.power.voltCore < min 50 (x.toNat + s.fld F.PMU_AVS_CTRL_MARGIN_MV / 5) → t.power.holdCore = true) ∧
      (s.power.voltCpu < min 50 (y.toNat + s.fld F.PMU_AVS_CTRL_MARGIN_MV / 5) → t.power.holdCpu = true) ∧
      (∀ v, s.power.avsWrite = none → t.power.avsWrite = some (0, v) →
        v ≤ s.power.voltCore + 10 ∧ s.power.voltCore ≤ v + 10) ∧
      (s.power.coreMhz = 1800 →
        onlyFields s t [F.PMU_AVS_STATUS_TARGET_CORE, F.PMU_AVS_STATUS_TARGET_CPU, F.PMU_AVS_STATUS_PENDING,
          whole A.PMU_AO_REG] ∧ t = { s with regs := t.regs, power := t.power })) ∧
  (∀ (s : State) (c : Int) (x y : BitVec 6), (s.flag F.PMU_AVS_CTRL_EN = false ∨ s.avsAsked c = false ∨ s.dark = true) →
    ∃ t, exec (.avsRecompute c x y) s = .next t ∧ t.power.temp = c ∧ onlyFields s t [whole A.PMU_AO_REG] ∧
      t = { s with regs := t.regs, power := { s.power with temp := c } }) ∧
  (∀ (s : State) (v : Nat), s.power.avsWrite = some (0, v) → s.power.avsWait = false →
    ∃ t, exec (.avsWriteDone true) s = .next t ∧ t.power.voltCore = v ∧ t.power.voltCpu = s.power.voltCpu ∧
      t.flag F.PMU_AVS_STATUS_NO_ACK = false ∧ t = { s with regs := t.regs, power := t.power }) ∧
  (∀ (s : State) (r v : Nat), s.power.avsWrite = some (r, v) → s.power.avsWait = false → s.power.avsTries < 3 →
    ∃ t, exec (.avsWriteDone false) s = .next t ∧ t.power.avsWait = true ∧ t.regs = s.regs ∧
      ∃ u, exec .avsRetry t = .next u ∧ u.power.avsWait = false ∧ u.power.avsTries = s.power.avsTries + 1 ∧
        u.power.avsWrite = some (r, v) ∧ u = { s with power := u.power }) ∧
  (∀ s : State, s.power.avsWait = true →
    ∃ t, exec .avsRetry s = .next t ∧
      t = { s with power := { s.power with avsWait := false, avsTries := s.power.avsTries + 1 } }) ∧
  (∀ s : State, s.power.avsWait = false → exec .avsRetry s = .next s) ∧
  (∀ (s : State) (ack : Bool), s.power.avsWrite = none → exec (.avsWriteDone ack) s = .next s) ∧
  (∀ (s : State) (r v : Nat), s.power.avsWrite = some (r, v) → s.power.avsWait = false → 3 ≤ s.power.avsTries →
    s.flt.queue.length < 16 →
    ∃ t, exec (.avsWriteDone false) s = .next t ∧ t.power.avsWrite = none ∧ t.flag F.PMU_AVS_STATUS_NO_ACK = true ∧
      t.flt.queue = s.flt.queue ++ [{ src := 0x03, unit := r, perm := false, inj := false, full := false }] ∧
      t.power.voltCore = s.power.voltCore ∧ t.power.voltCpu = s.power.voltCpu ∧
      onlyFields s t [F.PMU_AVS_STATUS_NO_ACK, F.PMU_AVS_STATUS_PENDING]) ∧
  (∀ s : State, s.power.coreMhz = 1800 →
    ∃ t, exec .avsSettle s = .next t ∧
      (∀ b, s.power.settleCore = some b → b.toNat + 50000 ≤ s.now →
        t.power.settleCore = none ∧ t.power.holdCore = false) ∧
      (∀ b, s.power.settleCore = some b → s.now < b.toNat + 50000 →
        t.power.settleCore = some b ∧ t.power.holdCore = s.power.holdCore) ∧
      (∀ b, s.power.settleCpu = some b → b.toNat + 50000 ≤ s.now → t.power.settleCpu = none ∧ t.power.holdCpu = false) ∧
      (∀ b, s.power.settleCpu = some b → s.now < b.toNat + 50000 →
        t.power.settleCpu = some b ∧ t.power.holdCpu = s.power.holdCpu) ∧
      t = { s with power := t.power })

/-- Power states (R64, R67, R70, R72, R73, R75). -/
def Obligations.PowerStateTransitions : Prop :=
  (∀ (s : State) (c : Int) (i : Instr), i ∈ [.stateReqRun, .stateReqTrim, .stateReqWatch, .stateReqSleep c] →
    s.dark = false → s.flag F.PMU_STATE_BUSY = true → ∃ t, exec i s = .next t ∧ t.fld F.PMU_STATE_LAST = 4 ∧
      onlyFields s t [F.PMU_STATE_LAST] ∧ t = { s with regs := t.regs }) ∧
  (∀ s : State, s.dark = false → s.flag F.PMU_STATE_BUSY = false →
    ∃ t, exec .stateReqRun s = .next t ∧
      (s.fld F.PMU_STATE_CUR ≠ 2 → t.fld F.PMU_STATE_CUR = 0 ∧ t.fld F.PMU_STATE_LAST = 1 ∧ t.power.mode = s.power.mode) ∧
      (s.fld F.PMU_STATE_CUR = 2 → t.power.mode = .watchExit true ∧ t.flag F.PMU_STATE_BUSY = true) ∧
      onlyFields s t [F.PMU_STATE_CUR, F.PMU_STATE_LAST, F.PMU_STATE_BUSY] ∧
      t = { s with regs := t.regs, power := t.power }) ∧
  (∀ s : State, s.dark = false → s.flag F.PMU_STATE_BUSY = false →
    ∃ t, exec .stateReqTrim s = .next t ∧
      (s.fld F.PMU_STATE_CUR ≠ 2 → t.fld F.PMU_STATE_CUR = 1 ∧ t.fld F.PMU_STATE_LAST = 1) ∧
      (s.fld F.PMU_STATE_CUR = 2 → t.fld F.PMU_STATE_CUR = 2 ∧ t.fld F.PMU_STATE_LAST = 8) ∧
      onlyFields s t [F.PMU_STATE_CUR, F.PMU_STATE_LAST] ∧ t.power.mode = s.power.mode ∧
      t = { s with regs := t.regs, power := t.power }) ∧
  (∀ s : State, s.dark = false → s.flag F.PMU_STATE_BUSY = false → s.fld F.PMU_STATE_CUR ≠ 2 →
    ∃ t, exec .stateReqWatch s = .next t ∧
      (s.fld F.REGSVC_TOTALS_FLOWS ≠ 0 → t.fld F.PMU_STATE_LAST = 7 ∧ t.power = s.power) ∧
      (s.fld F.REGSVC_TOTALS_FLOWS = 0 → s.hostActive = true → t.fld F.PMU_STATE_LAST = 5 ∧ t.power = s.power) ∧
      (s.fld F.REGSVC_TOTALS_FLOWS = 0 → s.hostActive = false →
        t.power.mode = .watchEntry ∧ t.flag F.PMU_STATE_BUSY = true) ∧
      t = { s with regs := t.regs, power := t.power }) ∧
  (∀ s : State, s.power.mode = .watchEntry →
    ∃ t, exec .watchEntryDone s = .next t ∧ t.power.mode = .on ∧ t.fld F.PMU_STATE_CUR = 2 ∧
      t.flag F.PMU_STATE_BUSY = false ∧ t.fld F.PMU_STATE_LAST = 1 ∧
      (∀ r : Fin 4, s.watchLoses r.val = true → (t.radio r.val).seq = .off) ∧
      (∀ p < 4, s.watchPort p = 2 → t.flag (F.EMAC_STATUS_LINK p) = s.flag (F.EMAC_STATUS_LINK p)) ∧
      (∀ p < 4, s.watchPort p ≠ 2 → t.flag (F.EMAC_STATUS_LINK p) = false) ∧
      t = { s with regs := t.regs, ctrs := t.ctrs, power := t.power, disp := t.disp, air := t.air, wmac := t.wmac, ngr := t.ngr }) ∧
  (∀ s : State, s.power.mode = .watchExit true → s.disp.ready = [] → s.power.keptFrames = [] →
    ∃ t, exec .watchExitDone s = .next t ∧ t.power.mode = .on ∧ t.fld F.PMU_STATE_CUR = 0 ∧
      t.flag F.PMU_STATE_BUSY = false ∧ t.fld F.PMU_STATE_LAST = 1 ∧
      (t.fld F.CKGEN_PLL_STATUS_LOCK).testBit 0 = true ∧ dataKept s t) ∧
  (∀ (s : State) (c : Int), s.dark = false → s.flag F.PMU_STATE_BUSY = false →
    (s.fld F.PMU_STATE_CUR = 2 ∨ s.hostActive = false) →
    ∃ t, exec (.stateReqSleep c) s = .next t ∧
      (s.canWake = false → t.fld F.PMU_STATE_LAST = 6 ∧ t.power = s.power) ∧
      (s.canWake = true → 400 < 60 + popCount 8 (s.fld F.PMU_RET_CFG_KEEP) * bankLoad c →
        t.fld F.PMU_STATE_LAST = 2 ∧ t.power.mode = s.power.mode) ∧
      (s.canWake = true → 60 + popCount 8 (s.fld F.PMU_RET_CFG_KEEP) * bankLoad c ≤ 400 →
        (s.fld F.PMU_STATE_CUR = 2 ∨ s.fld F.REGSVC_TOTALS_FLOWS = 0) →
        t.power.mode = .sleepEntry ∧ t.flag F.PMU_STATE_BUSY = true ∧ t.fld F.DBG_STATUS_LEVEL = 0) ∧
      t = { s with regs := t.regs, power := t.power }) ∧
  (∀ s : State, s.power.mode = .sleepEntry → s.power.latched = none →
    ∃ t, exec .sleepEntryDone s = .next t ∧ t.power.mode = .sleep ∧ t.pins.pmicSleep = true ∧ t.fld F.PMU_STATE_LAST = 1 ∧
      t.fld F.CKGEN_PLL_STATUS_LOCK = 0 ∧ t.flag F.PMU_AO_REG_LP_MODE = true ∧
      (∀ a, inSram a = true → t.byte a = 0) ∧
      (∀ a n, n < 8 → 0x03000000 + n * 0x80000 ≤ a → a < 0x03000000 + (n + 1) * 0x80000 →
        t.byte a = if (s.fld F.PMU_RET_CFG_KEEP).testBit n then s.byte a else 0)) ∧
  (∀ s : State, s.power.mode = .sleepEntry → s.power.latched ≠ none →
    ∃ t, exec .abortedWake s = .next t ∧ t.power.mode = .on ∧ t.power.latched = none ∧
      t.fld F.PMU_STATE_CUR = s.fld F.PMU_STATE_CUR ∧ t.flag F.PMU_STATE_BUSY = false ∧
      t.fld F.PMU_STATE_LAST = 3 ∧ onlyFields s t [F.PMU_STATE_CUR, F.PMU_STATE_LAST, F.PMU_STATE_BUSY] ∧
      t = { s with regs := t.regs, power := t.power })

/-- What a wake event records (R82). -/
def wakeRecorded (s t : State) (src pat : Nat) : Prop :=
  t.fld F.PMU_WAKE_CAUSE_SRC = s.fld F.PMU_WAKE_CAUSE_SRC ||| 2 ^ src ∧
    ((s.fld F.PMU_WAKE_CAUSE_FIRST_SRC = 0xF ∨ (s.power.firstAo = s.aoNow ∧ src < s.fld F.PMU_WAKE_CAUSE_FIRST_SRC)) →
      t.fld F.PMU_WAKE_CAUSE_FIRST_SRC = src ∧ t.fld F.PMU_WAKE_CAUSE_FIRST_PAT = pat) ∧
    (s.fld F.PMU_WAKE_CAUSE_FIRST_SRC ≠ 0xF →
      ¬ (s.power.firstAo = s.aoNow ∧ src < s.fld F.PMU_WAKE_CAUSE_FIRST_SRC) →
      t.fld F.PMU_WAKE_CAUSE_FIRST_SRC = s.fld F.PMU_WAKE_CAUSE_FIRST_SRC ∧
      t.fld F.PMU_WAKE_CAUSE_FIRST_PAT = s.fld F.PMU_WAKE_CAUSE_FIRST_PAT) ∧
    onlyFields s t [F.PMU_WAKE_CAUSE_SRC, F.PMU_WAKE_CAUSE_FIRST_SRC, F.PMU_WAKE_CAUSE_FIRST_PAT, F.PMU_STATE_BUSY] ∧
    t = { s with regs := t.regs, power := t.power, pins := t.pins }

/-- Wake events (R64, R68, R69, R75, R81, R82, R84, R92). -/
def Obligations.WakeEventsLeaveWatchAndSleep : Prop :=
  (∀ (s : State) (i : Instr) (src pat : Nat),
    ((∃ p : Fin 4, i = .wakeLinkEnergy p ∧ src = p.val ∧ pat = 0 ∧ s.watchPort p.val = 1) ∨
     (∃ (p : Fin 4) (f : List Byte), i = .wakePatternMatch p f ∧ src = p.val ∧ s.watchPort p.val = 2 ∧
       (List.range 16).find? (fun n => s.patMatches n p.val f) = some pat) ∨
     (∃ f : List Byte, i = .wakeWlanRequest f ∧ src = 4 ∧ pat = 0 ∧
       (∃ b, s.power.listenUntil = some b ∧ s.now ≤ b.toNat) ∧ s.fld F.PMU_WATCH_CFG_RADIO ≠ 3) ∨
     (∃ f : List Byte, i = .wakeNguordFrame f ∧ src = 5 ∧ pat = 0 ∧ s.flag F.PMU_WATCH_CFG_NGUORD = true) ∨
     (i = .wakePcie ∧ src = 6 ∧ pat = 0 ∧ s.fld F.HOSTP_CFG_MODE ≠ 0) ∨
     (i = .wakeAlarm true ∧ src = 7 ∧ pat = 0 ∧ s.wakeTrigger = true) ∨
     (i = .wakeAlarm false ∧ src = 7 ∧ pat = 0 ∧ s.rd A.PMU_ALARM ≠ 0 ∧
       s.power.entryAo + (s.rd A.PMU_ALARM).toNat ≤ s.aoNow) ∨
     (∃ r, i = .wakeIn r ∧ src = 8 ∧ pat = 0 ∧ r = !s.flag F.PMU_WAKE_EN_WAKE_IN_POL)) →
    s.power.mode = .on → s.fld F.PMU_STATE_CUR = 2 → (s.fld F.PMU_WAKE_EN_SRC).testBit src = true →
    ∃ t, exec i s = .next t ∧ wakeRecorded s t src pat ∧ t.power.mode = .watchExit false ∧
      t.flag F.PMU_STATE_BUSY = true) ∧
  (∀ (s : State) (i : Instr) (src : Nat),
    ((i = .wakePcie ∧ src = 6 ∧ s.fld F.HOSTP_CFG_MODE ≠ 0) ∨
     (i = .wakeAlarm false ∧ src = 7 ∧ s.rd A.PMU_ALARM ≠ 0 ∧ s.power.entryAo + (s.rd A.PMU_ALARM).toNat ≤ s.aoNow) ∨
     (∃ r, i = .wakeIn r ∧ src = 8 ∧ r = !s.flag F.PMU_WAKE_EN_WAKE_IN_POL)) →
    s.power.mode = .sleep → (s.fld F.PMU_WAKE_EN_SRC).testBit src = true →
    ∃ t, exec i s = .next t ∧ wakeRecorded s t src 0 ∧ t.power.mode = .sleepExit ∧ t.pins.pmicSleep = false) ∧
  (∀ (s : State) (p : Fin 4), s.watchPort p.val = 1 → s.power.mode = .sleep →
    exec (.wakeLinkEnergy p) s = .next s) ∧
  (∀ (s : State) (l : List (BitVec 22 × Byte)), s.power.mode = .sleepExit → s.boot.phase ≠ .waiting →
    ∃ t, exec (.sleepExit l) s = .next t ∧ t.rd A.SYSCTL_RESET_CAUSE = 0x06 ∧ t.power.mode = .on ∧
      t.boot.phase = .waiting ∧ t.fuses = s.fuses ∧ (s.nvmc = none → t.nvm = s.nvm))

/-- Clocks (R59 to R63, R95, R96). -/
def Obligations.ClockBranchesAndPlls : Prop :=
  (∀ (s : State) (b : Fin 16), s.gateMode b.val = 1 → s.fed b.val = true → s.dark = false →
    ∃ t, exec (.branchWake b) s = .next t ∧ t.active b.val = true ∧ (∀ c, c < 16 → c ≠ b.val → t.active c = s.active c) ∧
      onlyFields s t [whole A.CKGEN_ACTIVE] ∧ t = { s with regs := t.regs, power := { s.power with busyAt := t.power.busyAt } }) ∧
  (∀ (s : State) (b : Fin 16), s.gateMode b.val = 1 → s.branchWork b.val = false → s.dark = false →
    sget (fun _ => 0) s.power.busyAt b.val + s.idleTicks ≤ s.now →
    ∃ t, exec (.branchIdleStop b) s = .next t ∧ t.active b.val = false ∧
      (∀ c, c < 16 → c ≠ b.val → t.active c = s.active c) ∧ onlyFields s t [whole A.CKGEN_ACTIVE] ∧
      t = { s with regs := t.regs }) ∧
  (∀ (s : State) (w : Word), s.dark = false → (∀ b < 16, s.gateLegal w b = true) →
    ∃ t, exec (.gateWrite w) s = .next t ∧ t.rd A.CKGEN_GATE = w ∧
      (∀ b < 16, getBits w (2 * b) 2 = 0 → t.active b = false) ∧
      (∀ b < 16, getBits w (2 * b) 2 = 2 → s.fed b = true → t.active b = true) ∧
      (∀ b < 16, getBits w (2 * b) 2 = 1 → t.active b = s.active b) ∧
      onlyFields s t [whole A.CKGEN_GATE, whole A.CKGEN_ACTIVE] ∧ t = { s with regs := t.regs }) ∧
  (∀ (s : State) (w : Word) (b : Nat), b < 16 → s.dark = false →
    (getBits w (2 * b) 2 = 3 ∨ (b = 15 ∧ getBits w (2 * b) 2 ≠ 2) ∨ (12 ≤ b ∧ getBits w (2 * b) 2 = 1) ∨
      (getBits w (2 * b) 2 = 0 ∧ (s.fld F.CKGEN_PIN_BRANCHES).testBit b = true) ∨
      (getBits w (2 * b) 2 ≠ 0 ∧ ∃ p, pllOf b = some p ∧ (s.fld F.CKGEN_PLL_CTRL_EN).testBit p = false)) →
    ∃ t, exec (.gateWrite w) s = .next t ∧ t.rd A.CKGEN_GATE = s.rd A.CKGEN_GATE ∧
      (getBits (s.rd 0x40010004) 0 8 = 0 → getBits (t.rd 0x40010004) 0 8 = 2) ∧
      onlyFields s t [whole 0x40010004] ∧ t = { s with regs := t.regs }) ∧
  (∀ (s : State) (w : Word), s.dark = false → s.pllLegal w = true →
    ∃ t, exec (.pllCtrlWrite w) s = .next t ∧ t.fld F.CKGEN_PLL_CTRL_EN = getBits w 0 5 ∧
      t.fld F.CKGEN_PLL_STATUS_LOCK = s.fld F.CKGEN_PLL_STATUS_LOCK &&& getBits w 0 5 ∧
      onlyFields s t [F.CKGEN_PLL_CTRL_EN, F.CKGEN_PLL_STATUS_LOCK] ∧ t = { s with regs := t.regs }) ∧
  (∀ (s : State) (w : Word) (p : Nat), s.dark = false → p < 5 → w.getLsbD p = false →
    (s.fld F.CKGEN_PLL_CTRL_EN).testBit p = true →
    (p = 0 ∨ p = 3 ∨ ∃ b < 16, pllOf b = some p ∧ s.gateMode b ≠ 0) →
    ∃ t, exec (.pllCtrlWrite w) s = .next t ∧ onlyFields s t [whole 0x40010004] ∧ t = { s with regs := t.regs }) ∧
  (∀ (s : State) (p : Fin 5), (s.fld F.CKGEN_PLL_CTRL_EN).testBit p.val = true → s.pllHeld p.val = false →
    ∃ t, exec (.pllLock p) s = .next t ∧ (t.fld F.CKGEN_PLL_STATUS_LOCK).testBit p.val = true ∧
      (∀ b < 16, pllOf b = some p.val → s.gateMode b = 2 → t.active b = true) ∧
      onlyFields s t [F.CKGEN_PLL_STATUS_LOCK, whole A.CKGEN_ACTIVE] ∧ t = { s with regs := t.regs }) ∧
  (∀ (s : State) (p : Fin 5), (s.fld F.CKGEN_PLL_STATUS_LOCK).testBit p.val = true → s.dark = false →
    s.flt.queue.length < 16 →
    ∃ t, exec (.pllUnlock p) s = .next t ∧ (t.fld F.CKGEN_PLL_STATUS_LOCK).testBit p.val = false ∧
      (t.fld F.CKGEN_PLL_STATUS_UNLOCK).testBit p.val = true ∧
      (∀ b < 16, pllOf b = some p.val → t.active b = false) ∧
      t.flt.queue = s.flt.queue ++ [{ src := 0x05, unit := p.val, perm := false, inj := false, full := false }] ∧
      onlyFields s t [F.CKGEN_PLL_STATUS_LOCK, F.CKGEN_PLL_STATUS_UNLOCK, whole A.CKGEN_ACTIVE] ∧
      t = { s with regs := t.regs, flt := t.flt }) ∧
  (∀ (s : State) (ao : Bool), s.dark = false → s.flt.queue.length < 16 →
    ∃ t, exec (.clockLoss ao) s = .next t ∧
      t.flag (if ao then F.CKGEN_PLL_STATUS_AO_LOSS else F.CKGEN_PLL_STATUS_REF_LOSS) = true ∧
      t.flt.queue = s.flt.queue ++ [{ src := 0x06, unit := if ao then 1 else 0, perm := false, inj := false, full := false }] ∧
      onlyFields s t [if ao then F.CKGEN_PLL_STATUS_AO_LOSS else F.CKGEN_PLL_STATUS_REF_LOSS])

/-- A slot fails (R104). -/
def slotFails (s t : State) (k code : Nat) : Prop :=
  t.rd A.SYSCTL_RESET_CAUSE = 0x0C ∧ t.fld F.SYSCTL_BOOT_STATUS_CODE = code ∧
    t.fld F.SYSCTL_BOOT_STATUS_SLOT_FAIL = s.fld F.SYSCTL_BOOT_STATUS_SLOT_FAIL ||| 2 ^ k ∧
    t.boot.phase = .waiting ∧ (s.nvmc = none → t.nvm = s.nvm) ∧ t.fuses = s.fuses

/-- BOOT (R103 to R106, R112, R113, R120, R121). -/
def Obligations.BootChoosesAndChecksTheSlot : Prop :=
  (∀ s : State, s.boot.phase = .waiting → s.power.mode = .on → s.fuses.lcBits = 4 →
    ∃ t, exec .boot s = .next t ∧ t.boot.phase = .halted ∧ t.fld F.SYSCTL_BOOT_STATUS_STAGE = 0xFF ∧
      t.fld F.SYSCTL_BOOT_STATUS_CODE = 0x0D) ∧
  (∀ s : State, s.boot.phase = .waiting → s.power.mode = .on → s.fuses.lcBits ≠ 4 →
    s.fld F.SYSCTL_RESET_CAUSE_CAUSE ≠ 6 → s.chooseSlot = none →
    ∃ t, exec .boot s = .next t ∧ t.boot.phase = .halted ∧ t.fld F.SYSCTL_BOOT_STATUS_STAGE = 0xFF) ∧
  (∀ (s : State) (k : Nat), s.boot.phase = .waiting → s.power.mode = .on → s.fuses.lcBits ≠ 4 →
    s.fld F.SYSCTL_RESET_CAUSE_CAUSE ≠ 6 → s.chooseSlot = some k →
    ∃ t, exec .boot s = .next t ∧
      (∀ c, s.signatureFault k = some c → c < 256 → slotFails s t k c) ∧
      (s.signatureFault k = none → s.imgSvn k < s.fuses.rb0 → slotFails s t k 5) ∧
      (s.signatureFault k = none → s.fuses.rb0 ≤ s.imgSvn k → s.entryGood k = false → slotFails s t k 6) ∧
      (s.signatureFault k = none → s.fuses.rb0 ≤ s.imgSvn k → s.entryGood k = true →
        1 ≤ (s.dirEntry k 0).type → (s.dirEntry k 0).type ≤ 10 →
        t.boot.phase = .records ∧ t.boot.recIdx = 0 ∧ t.fld F.SYSCTL_BOOT_STATUS_SLOT = k ∧
          t.fld F.SYSCTL_BOOT_STATUS_STAGE = 3 ∧ t.flag F.SYSCTL_BOOT_STATUS_RESUMED = false ∧
          t.fld F.SYSCTL_SVN_IMAGE_SVN = s.imgSvn k ∧
          t.rd A.SYSCTL_IMG_SEQ = BitVec.ofNat 32 (s.imgNat k 12 4)))

/-- The present record has type `ty`, and the record after it a known type. -/
def atRecord (s : State) (ty : Nat) : Prop :=
  s.boot.phase = .records ∧ (s.dirEntry s.slot s.boot.recIdx).type = ty ∧
    1 ≤ (s.dirEntry s.slot (s.boot.recIdx + 1)).type ∧ (s.dirEntry s.slot (s.boot.recIdx + 1)).type ≤ 10

/-- The present record's digest matches. -/
def digestMatches (s : State) : Prop := s.digestGood s.slot (s.dirEntry s.slot s.boot.recIdx) = true

/-- The body of the present record. -/
def presentBody (s : State) : List Byte := s.recBody s.slot (s.dirEntry s.slot s.boot.recIdx)

/-- A record has been applied and the ROM stands at the next. -/
def wentOn (s t : State) : Prop :=
  t.boot.phase = .records ∧ t.boot.recIdx = s.boot.recIdx + 1 ∧ t.nvm = s.nvm ∧ t.fuses = s.fuses

/-- The records (R104, R114, R115, R117 to R119, R140, R545, R559). -/
def Obligations.BootRecordsAreApplied : Prop :=
  (∀ (s : State), atRecord s 0x01 → (presentBody s).length = 4 → byteAt (presentBody s) 0 ≤ 127 →
    s.flag F.SYSCTL_CFG_LOCK_LOCK = false →
    ∃ t, exec .pmic s = .next t ∧ (¬ digestMatches s → slotFails s t s.slot 6) ∧
      (digestMatches s → wentOn s t ∧ t.fld F.PMU_AVS_CFG_PMIC_ADDR = byteAt (presentBody s) 0 ∧
        t.fld F.PMU_AVS_CFG_REG_CORE = byteAt (presentBody s) 1 ∧
        t.fld F.PMU_AVS_CFG_REG_CPU = byteAt (presentBody s) 2 ∧
        t.fld F.PMU_AVS_CTRL_EN = byteAt (presentBody s) 3 % 2 ∧
        onlyFields s t [whole A.PMU_AVS_CFG, F.PMU_AVS_CTRL_EN])) ∧
  (∀ (s : State), atRecord s 0x02 → (presentBody s).length = 4 → byteAt (presentBody s) 2 ≤ 31 →
    6 ≤ byteAt (presentBody s) 1 → byteAt (presentBody s) 1 ≤ 120 → s.flag F.SYSCTL_CFG_LOCK_LOCK = false →
    ∃ t, exec .nvmTiming s = .next t ∧ (¬ digestMatches s → slotFails s t s.slot 6) ∧
      (digestMatches s → wentOn s t ∧ t.fld F.NVMC_MODE_DUMMY = byteAt (presentBody s) 2 ∧
        t.fld F.NVMC_MODE_CLK_DIV = byteAt (presentBody s) 1 ∧
        t.fld F.NVMC_MODE_PROTO = byteAt (presentBody s) 0 % 4 ∧ onlyFields s t [whole A.NVMC_MODE])) ∧
  (∀ (s : State) (pll gate : Word), atRecord s 0x03 → (presentBody s).length = 8 →
    pll = BitVec.ofNat 32 (leNat (slice (presentBody s) 0 4)) → gate = BitVec.ofNat 32 (leNat (slice (presentBody s) 4 4)) →
    s.pllLegal pll = true → (∀ b < 16, (s.setFld F.CKGEN_PLL_CTRL_EN (getBits pll 0 5)).gateLegal gate b = true) →
    ∃ t, exec .clocks s = .next t ∧ (¬ digestMatches s → slotFails s t s.slot 6) ∧
      (digestMatches s → wentOn s t ∧ t.fld F.CKGEN_PLL_CTRL_EN = getBits pll 0 5 ∧ t.rd A.CKGEN_GATE = gate)) ∧
  (∀ (s : State) (f : Nat), atRecord s 0x04 → (presentBody s).length = 16 → s.boot.recIdx < 8 →
    1 ≤ byteAt (presentBody s) 11 → byteAt (presentBody s) 11 ≤ 4 → 1 ≤ leNat (slice (presentBody s) 12 2) →
    leNat (slice (presentBody s) 12 2) ≤ 512 → f = byteAt (presentBody s) 14 → f < 4 → byteAt (presentBody s) 15 = 0 →
    s.flag F.SYSCTL_CFG_LOCK_LOCK = false → s.boot.hostpTrained = false →
    ∃ t, exec .hostpRecord s = .next t ∧ (¬ digestMatches s → slotFails s t s.slot 6) ∧
      (digestMatches s → wentOn s t ∧ t.boot.hostpTrained = true ∧
        t.fld F.HOSTP_IDS_DEVICE_ID = leNat (slice (presentBody s) 2 2) ∧
        t.fld F.HOSTP_CLASS_CLASS = leNat (slice (presentBody s) 8 3) ∧
        t.fld F.HOSTP_CFG_MAX_GEN = byteAt (presentBody s) 11 ∧
        t.fld F.HOSTP_CFG_MSIX_COUNT = leNat (slice (presentBody s) 12 2) ∧
        t.fld F.HOSTP_PM_CFG_L1_EN = f % 2 ∧ t.fld F.HOSTP_PM_CFG_L1SS_EN = f / 2)) ∧
  (∀ (s : State) (p : DWord), s.fld F.HOSTP_CFG_MODE ≠ 0 → s.boot.hostpTrained = false → s.boot.phase ≠ .waiting →
    s.dark = false → max p.toNat s.boot.released.toNat + 40000000 ≤ s.now →
    ∃ t, exec (.hostpLate p) s = .next t ∧ t.boot.hostpTrained = true ∧ t.gateMode 13 = 2 ∧ t.active 13 = true ∧
      onlyFields s t [⟨A.CKGEN_GATE, 26, 2⟩, ⟨A.CKGEN_ACTIVE, 13, 1⟩] ∧ t = { s with regs := t.regs, boot := t.boot }) ∧
  (∀ (s : State) (p : DWord), s.now < max p.toNat s.boot.released.toNat + 40000000 → exec (.hostpLate p) s = .next s) ∧
  (∀ (s : State), atRecord s 0x05 → (presentBody s).length = 16 → byteAt (presentBody s) 0 = 1 →
    byteAt (presentBody s) 1 ≤ 5 → 1 ≤ byteAt (presentBody s) 2 → byteAt (presentBody s) 2 ≤ 2 →
    byteAt (presentBody s) 3 ≤ 3 → byteAt (presentBody s) 4 = 1 →
    ((presentBody s).drop 8).all (fun x => decide (x = 0)) = true → s.flag F.SYSCTL_CFG_LOCK_LOCK = false →
    ∃ t, exec (.dramRecord true) s = .next t ∧ (¬ digestMatches s → slotFails s t s.slot 6) ∧
      (digestMatches s → wentOn s t ∧ t.flag F.DRAMC_STATUS_TRAINED = true ∧ t.flag F.DRAMC_STATUS_SELF_REFRESH = false ∧
        t.fld F.DRAMC_STATUS_CAP_MIB = byteAt (presentBody s) 2 * (896 * 2 ^ byteAt (presentBody s) 3) ∧
        t.fld F.SYSCTL_BOOT_STATUS_STAGE = 4)) ∧
  (∀ (s : State) (d : DirEntry), atRecord s 0x06 → d = s.dirEntry s.slot s.boot.recIdx → d.length ≠ 0 →
    s.boot.resume = false → s.loadable d.dest d.length = true → s.hitsKeyBank d.dest d.length = false →
    ∃ t, exec .load s = .next t ∧ (¬ digestMatches s → slotFails s t s.slot 6) ∧
      (digestMatches s → wentOn s t ∧ (∀ i < d.length, t.byte (d.dest + i) = (presentBody s).getD i 0) ∧
        (∀ a, a < d.dest ∨ d.dest + d.length ≤ a → t.byte a = s.byte a) ∧ t.regs = s.regs)) ∧
  (∀ (s : State), atRecord s 0x09 → (presentBody s).length = 0 →
    ∃ t, exec .lockRecord s = .next t ∧ (¬ digestMatches s → slotFails s t s.slot 6) ∧
      (digestMatches s → wentOn s t ∧ t.flag F.SYSCTL_CFG_LOCK_LOCK = true ∧
        onlyFields s t [F.SYSCTL_CFG_LOCK_LOCK])) ∧
  (∀ (s : State), atRecord s 0x08 → 48 ≤ (presentBody s).length → leNat (slice (presentBody s) 28 4) = 0 →
    s.boot.unbound = false → s.sealingKey ((presentBody s).take 16) = none →
    ∃ t, exec .sealed s = .next t ∧ (¬ digestMatches s → slotFails s t s.slot 6) ∧
      (digestMatches s → wentOn s t ∧ t.flag F.SYSCTL_BOOT_STATUS_UNBOUND = true ∧ t.boot.unbound = true ∧
        t.mem = s.mem ∧ t.keys = s.keys))

/-- REG_WRITES, ENTRY, BOOT_CONFIRM, CFG_LOCK and RB_ADV (R103, R107, R115, R117, R122, R123, R130, R133). -/
def Obligations.EntryConfirmationAndAntiRollback : Prop :=
  (∀ (s : State) (mask v : Word), atRecord s 0x07 → presentBody s = leBytes 4 0x4001002C ++ leBytes 4 mask.toNat ++ leBytes 4 v.toNat →
    getBits (s.rd 0x40010004) 0 8 = 0 → s.dark = false →
    ∃ t, exec .regWrites s = .next t ∧ (¬ digestMatches s → slotFails s t s.slot 6) ∧
      (digestMatches s → wentOn s t ∧ t.rd A.CKGEN_IDLE = ((s.rd A.CKGEN_IDLE &&& ~~~mask) ||| (v &&& mask)) ∧
        onlyFields s t [whole A.CKGEN_IDLE, whole 0x40010004] ∧ t.mem = s.mem)) ∧
  (∀ s : State, atRecord s 0x07 → (presentBody s).length % 12 ≠ 0 →
    ∃ t, exec .regWrites s = .next t ∧ slotFails s t s.slot 6) ∧
  (∀ (s : State) (v : SvnRun) (d : DirEntry), s.boot.phase = .records → s.dark = false → d = s.dirEntry s.slot s.boot.recIdx →
    d.type = 0x0A → d.length = 8 → leNat (slice (presentBody s) 4 4) ≤ 31 → s.boot.wdogMs ≠ none →
    ∃ t, exec (.entry v) s = .next t ∧ (¬ digestMatches s → slotFails s t s.slot 6) ∧
      (digestMatches s → t.boot.phase = .firmware ∧ t.flag F.SYSCTL_CFG_LOCK_LOCK = true ∧
        t.fld F.SYSCTL_BOOT_STATUS_STAGE = 5 ∧ t.rd A.NVMC_PROTECT = BitVec.ofNat 32 (2 ^ s.slot) ∧
        t.boot.entryTime = s.time.tick ∧ t.thState 0 = thRunning ∧
        t.prio 0 = leNat (slice (presentBody s) 4 4) ∧
        (s.boot.resume = false → t.boot.entryAddr = d.dest) ∧ t.fuses = s.fuses ∧ t.mem = s.mem)) ∧
  (∀ (s : State) (w : Word) (v : SvnRun), w.getLsbD 0 = true → s.boot.phase = .firmware → s.dark = false →
    ∃ t, exec (.bootConfirm w v) s = .next t ∧ t.flag F.SYSCTL_BOOT_STATUS_CONFIRMED = true ∧
      t.fld F.SYSCTL_BOOT_STATUS_STAGE = 6 ∧ t.boot.wdogMs = none ∧
      (s.boot.advance = true → s.fuses.rb0 < s.fld F.SYSCTL_SVN_IMAGE_SVN →
        (v = .whole → t.fuses.rb0 = s.fld F.SYSCTL_SVN_IMAGE_SVN ∧ t.flag F.SYSCTL_SVN_ADV_FAILED = false ∧
          t.flag F.SYSCTL_SVN_ADV_PENDING = false) ∧
        (∀ n, v = .noVpp n → t.fuses.rb0 = min (s.fld F.SYSCTL_SVN_IMAGE_SVN) (s.fuses.rb0 + n.toNat) ∧
          t.flag F.SYSCTL_SVN_ADV_FAILED = true) ∧
        (∀ n, v = .cut n → t.fuses.rb0 = min (s.fld F.SYSCTL_SVN_IMAGE_SVN) (s.fuses.rb0 + n.toNat) ∧
          t.flag F.SYSCTL_SVN_ADV_PENDING = true)) ∧
      (s.boot.advance = false ∨ s.fld F.SYSCTL_SVN_IMAGE_SVN ≤ s.fuses.rb0 → t.fuses = s.fuses) ∧
      t.fuses.lcBits = s.fuses.lcBits ∧ t.mem = s.mem) ∧
  (∀ (s : State) (w : Word), s.dark = false → (∀ x ∈ s.rwl, x.tick ≠ s.time.tick) →
    ∃ t, exec (.cfgLock w) s = .next t ∧
      (t.flag F.SYSCTL_CFG_LOCK_LOCK = true ↔ w.getLsbD 0 = true ∨ s.flag F.SYSCTL_CFG_LOCK_LOCK = true) ∧
      onlyFields s t [F.SYSCTL_CFG_LOCK_LOCK] ∧ t = { s with regs := t.regs, rwl := t.rwl }) ∧
  (∀ (s : State) (w : Word) (x : RwlWrite) (d : RegDesc) (ix : List Nat) (f : RegField), s.dark = false →
    w.getLsbD 0 = true → s.flag F.SYSCTL_CFG_LOCK_LOCK = false → s.rwl = [x] → x.tick = s.time.tick →
    findReg x.addr = some (d, ix) → f ∈ d.fields → f.acc = .rwl → f.lo ≤ f.hi → f.hi < 32 → x.addr ≠ A.SYSCTL_CFG_LOCK →
    x.addr ≠ cfgStatusOf x.addr →
    ∃ t, exec (.cfgLock w) s = .next t ∧ t.flag F.SYSCTL_CFG_LOCK_LOCK = true ∧
      getBits (t.rd x.addr) f.lo (f.hi + 1 - f.lo) = getBits x.old f.lo (f.hi + 1 - f.lo) ∧
      (getBits (s.rd (cfgStatusOf x.addr)) 0 8 = 0 → getBits (t.rd (cfgStatusOf x.addr)) 0 8 = 3)) ∧
  (∀ (s : State) (w : Word) (c : Nat), s.dark = false → c = getBits w 0 2 → c ≠ 0 → s.fuses.counter c < 64 →
    ∃ t, exec (.rbAdv w true) s = .next t ∧ t.fuses.counter c = s.fuses.counter c + 1 ∧
      (∀ e, 1 ≤ e → e ≤ 3 → e ≠ c → t.fuses.counter e = s.fuses.counter e) ∧
      t.rd (A.SYSCTL_RB_CNT (c - 1)) = BitVec.ofNat 32 (s.fuses.counter c + 1) ∧
      onlyFields s t [whole (A.SYSCTL_RB_CNT (c - 1))] ∧ t = { s with regs := t.regs, fuses := t.fuses }) ∧
  (∀ (s : State) (w : Word) (v : Bool), s.dark = false → (getBits w 0 2 = 0 ∨ 64 ≤ s.fuses.counter (getBits w 0 2)) →
    ∃ t, exec (.rbAdv w v) s = .next t ∧ onlyFields s t [whole (cfgStatusOf A.SYSCTL_RB_ADV)] ∧
      t = { s with regs := t.regs })

/-- NVMC (R141 to R143) and management messages (R129, R130). -/
def Obligations.FlashOperationsAndImageMessages : Prop :=
  (∀ (s : State) (i : Instr) (c : Nat),
    (i, c) ∈ [(Instr.nvmRead, 1), (.nvmProgram, 2), (.nvmErase4k, 3), (.nvmErase64k, 4)] →
    s.dark = false → s.flag F.NVMC_STATUS_BUSY = false → (c = 1 → s.fld F.NVMC_LEN_COUNT ≤ 0x1000000) →
    (c = 2 → s.fld F.NVMC_LEN_COUNT ≤ 256) →
    ∃ t o, exec i s = .next t ∧ t.nvmc = some o ∧ o.code = c ∧ o.addr = s.fld F.NVMC_ADDR_NVM_ADDR ∧
      o.mem = 16 * (s.rd A.NVMC_MEM).toNat ∧ o.len = s.fld F.NVMC_LEN_COUNT ∧ o.start = s.time.tick ∧ t.flag F.NVMC_STATUS_BUSY = true ∧ t.pins.nvmCsN = false ∧
      onlyFields s t [F.NVMC_STATUS_BUSY] ∧ t = { s with regs := t.regs, nvmc := t.nvmc, pins := t.pins }) ∧
  (∀ (s : State) (i : Instr), i ∈ [Instr.nvmRead, .nvmProgram, .nvmErase4k, .nvmErase64k] →
    s.dark = false → (s.flag F.NVMC_STATUS_BUSY = true ∨ (i = .nvmRead ∧ 0x1000000 < s.fld F.NVMC_LEN_COUNT) ∨
      (i = .nvmProgram ∧ 256 < s.fld F.NVMC_LEN_COUNT)) →
    ∃ t, exec i s = .next t ∧ onlyFields s t [whole (cfgStatusOf A.NVMC_OP)] ∧ t = { s with regs := t.regs }) ∧
  (∀ (s : State) (o : NvmOp), s.nvmc = some o → s.dark = false → o.result = 1 → o.code = 1 → o.addr + o.len ≤ 0x10000000 →
    s.rangeMapped o.mem o.len = true → s.boot.resetAsked = false →
    ∃ t, exec .nvmOpDone s = .next t ∧ t.nvmc = none ∧ t.nvm = s.nvm ∧
      (∀ i < o.len, t.byte (o.mem + i) = s.flashByte (o.addr + i)) ∧
      (∀ a, a < o.mem ∨ o.mem + o.len ≤ a → t.byte a = s.byte a)) ∧
  (∀ (s : State) (o : NvmOp), s.nvmc = some o → s.dark = false → o.result = 1 → o.code = 2 → o.addr + o.len ≤ 0x10000000 →
    s.rangeMapped o.mem o.len = true → s.boot.resetAsked = false →
    ∃ t, exec .nvmOpDone s = .next t ∧ t.nvmc = none ∧ t.mem = s.mem ∧
      (∀ i < o.len, t.flashByte (o.addr + i) = s.byte (o.mem + i)) ∧
      (∀ a, a < o.addr ∨ o.addr + o.len ≤ a → t.flashByte a = s.flashByte a)) ∧
  (∀ (s : State) (o : NvmOp) (n : Nat), s.nvmc = some o → s.dark = false → o.result = 1 → (o.code = 3 ∧ n = o.len * 4096 ∨ o.code = 4 ∧ n = o.len * 65536) →
    o.addr + n ≤ 0x10000000 → s.boot.resetAsked = false →
    ∃ t, exec .nvmOpDone s = .next t ∧ t.nvmc = none ∧ t.mem = s.mem ∧
      (∀ a, t.flashByte a = if o.addr ≤ a ∧ a < o.addr + n then 0xFF else s.flashByte a)) ∧
  (∀ (s : State) (o : NvmOp), s.nvmc = some o → s.dark = false → o.result ≠ 1 → s.boot.resetAsked = false →
    ∃ t, exec .nvmOpDone s = .next t ∧ t.nvmc = none ∧ t.nvm = s.nvm ∧ t.mem = s.mem) ∧
  (∀ (s : State) (o : NvmOp), s.nvmc = some o → s.dark = false → o.result = 1 → o.len ≠ 0 →
    o.start.toNat + nvmLimitMs o.code * 500000 ≤ s.now → o.code ≠ 1 → o.addr + nvmSpan o.code o.len ≤ 0x10000000 →
    s.boot.resetAsked = false →
    ∃ t, exec .nvmTimeout s = .next t ∧ t.nvmc = none ∧ t.mem = s.mem ∧
      (∀ a, a < o.addr ∨ o.addr + nvmSpan o.code o.len ≤ a → t.flashByte a = s.flashByte a)) ∧
  (∀ (s : State) (q n : Word) (l : List Word), s.boot.phase = .firmware → s.dark = false → l.length = (n.toNat + 3) / 4 →
    ∃ t, exec (.imageOpen q n l) s = .next t ∧ t.boot.openSlot = some (1 - s.slot) ∧
      t.boot.replies = s.boot.replies ++ [{ type := 0x10, seq := q.toNat, status := .ok, slot := some (1 - s.slot) }] ∧
      t = { s with boot := t.boot }) ∧
  (∀ (s : State) (i : Instr) (ty : Nat) (q n : Word) (l : List Word), s.boot.phase = .firmware → s.dark = false →
    l.length ≠ (n.toNat + 3) / 4 →
    (i, ty) ∈ [(Instr.imageOpen q n l, 0x10), (.imageWrite q n l, 0x11), (.imageCommit q n l, 0x12), (.resetMsg q n l, 0x13)] →
    ∃ t, exec i s = .next t ∧ t.boot.replies = s.boot.replies ++ [{ type := ty, seq := q.toNat, status := .badLength }] ∧
      t = { s with boot := t.boot }) ∧
  (∀ (s : State) (q n w : Word) (l : List Word) (k : Nat) (d : List Byte), s.boot.phase = .firmware → s.dark = false →
    (w :: l).length = (n.toNat + 3) / 4 → 4 ≤ n.toNat → s.boot.openSlot = some k → k < 2 →
    d = (ofItems l).take (n.toNat - 4) → w.toNat + d.length ≤ 0x1000000 →
    s.nvmLocked (slotBase k + w.toNat) d.length = false →
    ∃ t, exec (.imageWrite q n (w :: l)) s = .next t ∧
      (∀ i < d.length, t.flashByte (0x1000000 * k + w.toNat + i) = d.getD i 0) ∧
      (∀ a, a < 0x1000000 * k + w.toNat ∨ 0x1000000 * k + w.toNat + d.length ≤ a → t.flashByte a = s.flashByte a) ∧
      t.regs = s.regs ∧ t.mem = s.mem) ∧
  (∀ (s : State) (q n : Word) (l : List Word) (k : Nat), s.boot.phase = .firmware → s.dark = false → l.length = (n.toNat + 3) / 4 →
    s.boot.openSlot = some k → k < 2 → s.boot.spoiled = [] →
    ∃ t, exec (.imageCommit q n l) s = .next t ∧
      (s.commitFault k = none → (t.fld F.SYSCTL_BOOT_STATUS_SLOT_FAIL).testBit k = false) ∧
      (s.commitFault k ≠ none → t.regs = s.regs) ∧ t.nvm = s.nvm ∧ onlyFields s t [F.SYSCTL_BOOT_STATUS_SLOT_FAIL]) ∧
  (∀ (s : State) (q n : Word) (l : List Word), s.boot.phase = .firmware → s.dark = false → l.length = (n.toNat + 3) / 4 →
    s.nvmc = none → ∃ t, exec (.resetMsg q n l) s = .next t ∧ warmLeaves s t 0x07)

/-- What another radio holds stays. -/
def otherRadios (s t : State) (r : Nat) : Prop := ∀ q, q ≠ r → t.radio q = s.radio q

/-- Radio r receives nothing. -/
def noReception (s : State) (r : Nat) : Prop := (s.radio r).rx = none ∧ (r = 3 → s.ngr.rx = none)

/-- Tuning, start and chains (R146, R147, R149, R151, R152, R169, R170, R348, R511). -/
def Obligations.RadioTuningStartAndChains : Prop :=
  (∀ (s u : State) (r : Fin 4) (v : Word), s.takesWork (radioBlock r.val) = true → u = s.touch (A.RADIO_SYNTH r.val) →
    synthLegal r.val v = false → ∃ t, exec (.synthWrite r v) s = .next t ∧ refusedOnly u t (A.RADIO_SYNTH r.val) 2) ∧
  (∀ (s u : State) (r : Fin 4) (v : Word), s.takesWork (radioBlock r.val) = true → u = s.touch (A.RADIO_SYNTH r.val) →
    synthLegal r.val v = true → noReception s r.val →
    (r.val = 3 ∨ s.synthBw r.val = getBits v 16 3 ∨ ∀ f < 512, s.flowLive f = false) →
    ∃ t, exec (.synthWrite r v) s = .next t ∧ t.rd (A.RADIO_SYNTH r.val) = v &&& synthMask r.val ∧
      (t.radio r.val).retune = ((s.radio r.val).retune || decide ((s.radio r.val).seq ≠ .off)) ∧ otherRadios s t r.val ∧
      onlyFields u t [whole (A.RADIO_SYNTH r.val)] ∧ t = { u with regs := t.regs, air := t.air }) ∧
  (∀ (s : State) (r : Fin 4), s.takesWork (radioBlock r.val) = true → (s.radio r.val).retune = true →
    s.exchangeOn r.val = false → noReception s r.val → (s.radio r.val).seq ∈ [RadioSeq.running, .retuning, .relocking] →
    ∃ t, exec (.retuneStart r) s = .next t ∧ t.flag (F.RADIO_SYNTH_STATUS_RETUNING r.val) = true ∧
      t.flag (F.RADIO_SYNTH_STATUS_LOCK r.val) = false ∧ t.flag (F.RADIO_SYNTH_STATUS_CAL_BUSY r.val) = true ∧
      t.radio r.val = { s.radio r.val with seq := .retuning, retune := false } ∧ otherRadios s t r.val ∧
      onlyFields s t [F.RADIO_SYNTH_STATUS_RETUNING r.val, F.RADIO_SYNTH_STATUS_LOCK r.val, F.RADIO_SYNTH_STATUS_CAL_BUSY r.val] ∧
      t = { s with regs := t.regs, air := t.air }) ∧
  (∀ (s : State) (r : Fin 4), (s.radio r.val).retune = false ∨ s.exchangeOn r.val = true →
    exec (.retuneStart r) s = .next s) ∧
  (∀ (s : State) (r : Fin 4) (temp : BitVec 8) (l : List (CalResult × CalResult)), s.takesWork (radioBlock r.val) = true →
    (s.radio r.val).seq = .relocking → (s.radio r.val).retune = false →
    ∃ t, exec (.retuneDone r temp l) s = .next t ∧ t.flag (F.RADIO_SYNTH_STATUS_RETUNING r.val) = false ∧
      t.flag (F.RADIO_SYNTH_STATUS_LOCK r.val) = true ∧ t.flag (F.RADIO_SYNTH_STATUS_CAL_BUSY r.val) = false ∧
      (t.radio r.val).seq = .running ∧ (t.radio r.val).tunedBw = s.synthBw r.val ∧ otherRadios s t r.val ∧
      onlyFields s t [F.RADIO_SYNTH_STATUS_RETUNING r.val, F.RADIO_SYNTH_STATUS_LOCK r.val, F.RADIO_SYNTH_STATUS_CAL_BUSY r.val] ∧
      t = { s with regs := t.regs, air := t.air }) ∧
  (∀ (s : State) (r : Fin 4) (temp : BitVec 8) (l : List (CalResult × CalResult)) (k : CalRun),
    s.takesWork (radioBlock r.val) = true → (s.radio r.val).seq = .retuning → (s.radio r.val).retune = false →
    k = ⟨decide (s.synthBw r.val ≠ (s.radio r.val).tunedBw), decide (r.val ≠ 3), decide (r.val ≠ 3) && s.farMove r.val⟩ →
    ∃ t, exec (.retuneDone r temp l) s = .next t ∧ t.flag (F.RADIO_SYNTH_STATUS_RETUNING r.val) = false ∧
      t.flag (F.RADIO_SYNTH_STATUS_LOCK r.val) = true ∧ t.flag (F.RADIO_SYNTH_STATUS_CAL_BUSY r.val) = false ∧
      (t.radio r.val).seq = .running ∧ (t.radio r.val).tunedBw = s.synthBw r.val ∧
      (t.radio r.val).imgCentre = (if k.image = true then s.synthCentre r.val else (s.radio r.val).imgCentre) ∧
      (∀ (c : Nat) (x : CalResult × CalResult), r.val ≠ 3 → l[c]? = some x → c < chainCount r.val →
        t.flag (F.RADIO_CHAIN_STATUS_FAILED r.val c) = !(calPasses r.val k x.1 || calPasses r.val k x.2)) ∧
      otherRadios s t r.val ∧ t.mem = s.mem ∧ t.pending = s.pending) ∧
  (∀ (s : State) (r : Fin 4), s.takesWork (radioBlock r.val) = true → (s.radio r.val).seq = .running →
    s.flag (F.RADIO_SYNTH_STATUS_LOCK r.val) = true → noReception s r.val →
    (∀ x, (s.radio r.val).air = some x → r.val ≠ 3 → x.cmd.mpdus = [] ∧ s.wmac.waiting = []) →
    ∃ t, exec (.rfUnlock r) s = .next t ∧ t.flag (F.RADIO_SYNTH_STATUS_LOCK r.val) = false ∧
      (t.radio r.val).seq = .relocking ∧ (t.radio r.val).air = none ∧ noted s t 0x10 r.val false ∧ otherRadios s t r.val ∧
      (s.onAir r.val = true → s.flt.queue.length < 16 → counted s t (C.RADIO_TX_UNLOCK r.val) 1) ∧
      (s.onAir r.val = false → s.flt.queue.length < 16 → t.ctrs = s.ctrs) ∧
      (s.flt.queue.length < 16 → onlyFields s t [F.RADIO_SYNTH_STATUS_LOCK r.val, F.RADIO_SYNTH_STATUS_CAL_BUSY r.val])) ∧
  (∀ (s : State) (r : Fin 4), (s.radio r.val).seq = .off → s.inWatch = false → s.takesWork (radioBlock r.val) = true →
    ∃ t, exec (.radioStart r) s = .next t ∧ t.flag (F.RADIO_CAL_STATUS_BUSY r.val) = true ∧
      t.flag (F.RADIO_SYNTH_STATUS_CAL_BUSY r.val) = true ∧ t.radio r.val = { s.radio r.val with seq := .starting } ∧
      otherRadios s t r.val ∧
      onlyFields s t [F.RADIO_CAL_STATUS_BUSY r.val, F.RADIO_SYNTH_STATUS_CAL_BUSY r.val] ∧
      t = { s with regs := t.regs, air := t.air }) ∧
  (∀ (s : State) (r : Fin 4) (temp : BitVec 8) (l : List (CalResult × CalResult)), s.takesWork (radioBlock r.val) = true →
    (s.radio r.val).seq ∈ [RadioSeq.starting, .calibrating] → s.strobing r.val = false →
    ∃ t, exec (.calDone r temp l) s = .next t ∧ t.flag (F.RADIO_CAL_STATUS_BUSY r.val) = false ∧
      t.flag (F.RADIO_SYNTH_STATUS_CAL_BUSY r.val) = false ∧ t.flag (F.RADIO_SYNTH_STATUS_LOCK r.val) = true ∧
      (t.radio r.val).seq = .running ∧ (t.radio r.val).imgCentre = s.synthCentre r.val ∧
      t.fld (F.RADIO_CAL_STATUS_LAST_TEMP r.val) = temp.toNat ∧
      (∀ (c : Nat) (x : CalResult × CalResult), l[c]? = some x → c < chainCount r.val → r.val ≠ 3 →
        t.flag (F.RADIO_CHAIN_STATUS_FAILED r.val c) = !(calPasses r.val .all x.1 || calPasses r.val .all x.2)) ∧
      otherRadios s t r.val ∧ t.mem = s.mem ∧ t.pending = s.pending) ∧
  (∀ (s u : State) (r : Fin 3) (v : Word), s.takesWork (radioBlock r.val) = true → u = s.touch (A.RADIO_CHAIN_EN r.val) →
    ∃ t, exec (.chainEnWrite r v) s = .next t ∧
      (2 ^ chainCount r.val ≤ getBits v 0 8 → refusedOnly u t (A.RADIO_CHAIN_EN r.val) 2) ∧
      (getBits v 0 8 = 0 → refusedOnly u t (A.RADIO_CHAIN_EN r.val) 1) ∧
      (getBits v 0 8 < 2 ^ chainCount r.val → getBits v 0 8 ≠ 0 → (∀ f < 512, s.flowLive f = false) →
        t.rd (A.RADIO_CHAIN_EN r.val) = BitVec.ofNat 32 (getBits v 0 8) ∧
        (r.val = 2 → (t.flag (F.RADIO_CAL_STATUS_EVM_OK 2) = true ↔
          ∀ c < 8, (getBits v 0 8).testBit c = true → 44 ≤ s.fld (F.RADIO_CHAIN_STATUS_EVM_DB 2 c))) ∧
        onlyFields u t [whole (A.RADIO_CHAIN_EN r.val), F.RADIO_CAL_STATUS_EVM_OK 2] ∧ t = { u with regs := t.regs }))

/-- The command on air, as R158 and R163 time it. -/
def startsAt (s t : State) (r : Nat) (c : AirCmd) (t0 dur : Nat) (k : Coding) : Prop :=
  (t.radio r).air = some { cmd := c, t0 := t0, t1 := t0 + dur, stop := t0 + dur + c.resp, coding := k } ∧
    (t.radio r).cmds = (s.radio r).cmds.erase c ∧ otherRadios s t r

/-- Calibration, doze, transmission (R65, R66, R150, R163, R164, R171, R308, R309). -/
def Obligations.RadioCalibrationDozeAndTransmission : Prop :=
  (∀ (s u : State) (r : Fin 4), s.takesWork (radioBlock r.val) = true → u = s.touch (A.RADIO_CAL_CMD r.val) →
    ∃ t, exec (.calCmdFull r) s = .next t ∧
      (s.flag (F.RADIO_SYNTH_STATUS_CAL_BUSY r.val) = true → refusedOnly u t (A.RADIO_CAL_CMD r.val) 2) ∧
      (s.flag (F.RADIO_SYNTH_STATUS_CAL_BUSY r.val) = false → (s.radio r.val).seq = .off → t = u) ∧
      (s.flag (F.RADIO_SYNTH_STATUS_CAL_BUSY r.val) = false → (s.radio r.val).seq ≠ .off → noReception s r.val →
        t.flag (F.RADIO_CAL_STATUS_BUSY r.val) = true ∧ t.flag (F.RADIO_SYNTH_STATUS_CAL_BUSY r.val) = true ∧
        t.radio r.val = { s.radio r.val with seq := .calibrating } ∧ otherRadios s t r.val ∧
        onlyFields u t [F.RADIO_CAL_STATUS_BUSY r.val, F.RADIO_SYNTH_STATUS_CAL_BUSY r.val] ∧
        t = { u with regs := t.regs, air := t.air })) ∧
  (∀ (s : State) (r : Fin 4) (temp : BitVec 8), s.takesWork (radioBlock r.val) = true →
    s.flag (F.RADIO_CAL_CFG_TRACK_EN r.val) = true →
    (s.radio r.val).seq = .running → s.flag (F.RADIO_CAL_STATUS_DUE r.val) = false →
    s.fld (F.RADIO_CAL_CFG_TEMP_STEP r.val) ≤ tempStep temp.toNat (s.fld (F.RADIO_CAL_STATUS_LAST_TEMP r.val)) →
    (∀ u, (s.radio r.val).lastTrack = some u → u + 500000000 ≤ s.now) →
    ∃ t, exec (.calDue r temp) s = .next t ∧ t.flag (F.RADIO_CAL_STATUS_DUE r.val) = true ∧
      t.radio r.val = { s.radio r.val with dueSince := s.now, overdue := false } ∧ otherRadios s t r.val ∧
      onlyFields s t [F.RADIO_CAL_STATUS_DUE r.val] ∧ t = { s with regs := t.regs, air := t.air }) ∧
  (∀ (s : State) (r : Fin 4) (temp : BitVec 8), (s.flag (F.RADIO_CAL_STATUS_DUE r.val) = true ∨
    tempStep temp.toNat (s.fld (F.RADIO_CAL_STATUS_LAST_TEMP r.val)) < s.fld (F.RADIO_CAL_CFG_TEMP_STEP r.val)) →
    exec (.calDue r temp) s = .next s) ∧
  (∀ (s : State) (r : Fin 4), s.takesWork (radioBlock r.val) = true → s.flag (F.RADIO_CAL_STATUS_DUE r.val) = true →
    (s.radio r.val).overdue = false →
    (s.radio r.val).dueSince + 500000 * s.fld (F.RADIO_CAL_CFG_DEFER_MS r.val) ≤ s.now →
    ∃ t, exec (.rfCalOverdue r) s = .next t ∧ t.flag (F.RADIO_CAL_STATUS_OVERDUE r.val) = true ∧
      t.radio r.val = { s.radio r.val with overdue := true } ∧ otherRadios s t r.val ∧ noted s t 0x11 r.val false ∧
      (s.flt.queue.length < 16 → onlyFields s t [F.RADIO_CAL_STATUS_OVERDUE r.val] ∧
        t = { s with regs := t.regs, air := t.air, flt := t.flt })) ∧
  (∀ (s : State) (r : Fin 4) (temp : BitVec 8) (l : List (CalResult × CalResult)), s.radioRuns r.val = true →
    s.strobing r.val = false → s.flag (F.RADIO_CAL_STATUS_DUE r.val) = true →
    (if r.val = 3 then s.ngCalGap else s.wlanCalGap r.val) = true → noReception s r.val →
    ∃ t, exec (.calTrack r temp l) s = .next t ∧ t.flag (F.RADIO_CAL_STATUS_DUE r.val) = false ∧
      t.fld (F.RADIO_CAL_STATUS_LAST_TEMP r.val) = temp.toNat ∧ (t.radio r.val).lastTrack = some s.now ∧
      (t.radio r.val).seq = .running ∧ otherRadios s t r.val ∧ t.mem = s.mem ∧ t.pending = s.pending) ∧
  (∀ (s : State) (r : Fin 3) (w : Slot), s.fld F.PMU_STATE_CUR = 1 → s.radioRuns r.val = true →
    s.exchangeOn r.val = false → s.quietNow r.val = some w → s.fld (F.ROUNDS_DOZE_CFG_DOZE_MIN_US r.val) ≤ w.len →
    s.roundPos r.val + 12 < w.stop → s.scheduledBefore r.val w.stop = false →
    s.flag (F.RADIO_CAL_STATUS_DUE r.val) = false → (s.radio r.val).rx = none →
    ∃ t, exec (.dozeStart r) s = .next t ∧ t.flag (F.RADIO_SYNTH_STATUS_DOZING r.val) = true ∧
      onlyFields s t [F.RADIO_SYNTH_STATUS_DOZING r.val] ∧ t = { s with regs := t.regs }) ∧
  (∀ (s : State) (r : Fin 3), s.fld F.PMU_STATE_CUR ≠ 1 → exec (.dozeStart r) s = .next s) ∧
  (∀ (s : State) (r : Fin 3), s.takesWork (radioBlock r.val) = true → s.flag (F.RADIO_SYNTH_STATUS_DOZING r.val) = true →
    (s.fld F.PMU_STATE_CUR ≠ 1 ∨ ∀ w, s.quietNow r.val = some w → w.stop ≤ s.roundPos r.val + 12 ∨ s.scheduledBefore r.val w.stop = true) →
    ∃ t, exec (.dozeEnd r) s = .next t ∧ t.flag (F.RADIO_SYNTH_STATUS_DOZING r.val) = false ∧
      t.radio r.val = { s.radio r.val with wakeAt := s.now + 6000 } ∧ otherRadios s t r.val ∧
      onlyFields s t [F.RADIO_SYNTH_STATUS_DOZING r.val] ∧ t = { s with regs := t.regs, air := t.air }) ∧
  (∀ (s : State) (r : Fin 3) (c : AirCmd) (t0 tol : Nat),
    s.nextTimed r.val = some (c, t0, tol) → s.radioReady r.val = true →
    ((s.radio r.val).retune = false ∨ t0 < s.exchangeEnd r.val) → t0 + tol < max t0 (s.now + s.swLead r.val) →
    ∃ t, exec (.txReady (r.castSucc)) s = .next t ∧ counted s t (C.RADIO_TX_LATE r.val) 1 ∧
      onlyCtrs s t [C.RADIO_TX_LATE r.val] ∧ t.radio r.val = { s.radio r.val with cmds := (s.radio r.val).cmds.erase c } ∧
      otherRadios s t r.val ∧
      t.wmac.mpdus.map (fun m => (m.id, m.attempts, m.sn, m.pn)) = s.wmac.mpdus.map (fun m => (m.id, m.attempts, m.sn, m.pn)) ∧
      t.regs = s.regs ∧ t.mem = s.mem) ∧
  (∀ (s : State) (r : Fin 4) (c : AirCmd) (t0 tol : Nat), s.nextTimed r.val = some (c, t0, tol) →
    s.radioReady r.val = true → (s.radio r.val).retune = true → s.exchangeEnd r.val ≤ t0 →
    exec (.txReady r) s = .next s) ∧
  (∀ (s : State) (r : Fin 3) (c : AirCmd) (t0 tol at' stop : Nat) (x : TxRate),
    s.nextTimed r.val = some (c, t0, tol) → c.rates = [x] → at' = max t0 (s.now + s.swLead r.val) →
    stop = at' + max x.dur.toNat c.fill → c.mpdus = [] → c.icf = [] → s.nstrHeld c = [] → s.wmac.waiting = [] →
    (s.radio r.val).rx = none → s.radioReady r.val = true →
    ((s.radio r.val).retune = false ∨ t0 < s.exchangeEnd r.val) → at' ≤ t0 + tol →
    s.schedFits r.val at' (stop + c.resp) (s.cmdFlow c) (!c.kind.isData) = true →
    s.formatOk r.val c.kind.sta c.kind x = true → s.powerOk r.val x c.red (s.srCap r.val at') = true →
    ∃ t, exec (.txReady (r.castSucc)) s = .next t ∧
      startsAt s t r.val c at' (stop - at') ((codingOf (c.kind.tones x) x).getD .plain) ∧
      counted s t (C.ROUNDS_AIR_OWN_US r.val) (divRound (stop - at') 500) ∧ t.regs = s.regs ∧ t.mem = s.mem) ∧
  (∀ (s : State) (r : Fin 3) (c : AirCmd) (t0 tol at' : Nat) (x : TxRate),
    s.nextTimed r.val = some (c, t0, tol) → c.rates = [x] → at' = max t0 (s.now + s.swLead r.val) →
    c.mpdus = [] → c.icf = [] → s.nstrHeld c = [] → s.radioReady r.val = true →
    ((s.radio r.val).retune = false ∨ t0 < s.exchangeEnd r.val) → at' ≤ t0 + tol →
    s.schedFits r.val at' (at' + max x.dur.toNat c.fill + c.resp) (s.cmdFlow c) (!c.kind.isData) = true →
    s.formatOk r.val c.kind.sta c.kind x = true → s.powerOk r.val x c.red (s.srCap r.val at') = false →
    ∃ t, exec (.txReady (r.castSucc)) s = .next t ∧ counted s t (C.RADIO_TX_CAP r.val) 1 ∧
      onlyCtrs s t [C.RADIO_TX_CAP r.val] ∧ t.radio r.val = { s.radio r.val with cmds := (s.radio r.val).cmds.erase c } ∧
      otherRadios s t r.val ∧ t.regs = s.regs ∧ t.wmac.mpdus = s.wmac.mpdus) ∧
  (∀ (s : State) (c : AirCmd) (t0 tol : Nat), s.nextTimed 3 = some (c, t0, tol) →
    c.kind = .ngBeacon → -10 ≤ c.dbm → noReception s 3 → s.radioReady 3 = true →
    ((s.radio 3).retune = false ∨ t0 < s.exchangeEnd 3) → max t0 (s.now + s.swLead 3) ≤ t0 + tol →
    ∃ t, exec (.txReady 3) s = .next t ∧ startsAt s t 3 c (max t0 (s.now + s.swLead 3)) c.dur .plain ∧
      counted s t C.NGL_BCN_SENT 1 ∧ t.regs = s.regs ∧ t.mem = s.mem) ∧
  (∀ (s : State) (r : Fin 3) (en : Byte) (c : AirCmd) (x : TxRate) (dur : Nat),
    (s.radio r.val).cmds.find? (fun c => c.timed.isNone) = some c → c.rates = [x] → dur = max x.dur.toNat c.fill →
    c.mpdus = [] → c.icf = [] → s.nstrHeld c = [] → s.wmac.waiting = [] → (s.radio r.val).rx = none →
    s.radioReady r.val = true → (s.radio r.val).retune = false → c.after ≤ s.now → (s.radio r.val).busyUntil ≤ s.now →
    en.toInt < sgn 8 (s.fld (F.RADIO_DET_CFG_ED_LEVEL r.val)) →
    s.contentionFits r.val (s.swLead r.val + (max c.dur dur + c.resp)) = true →
    s.formatOk r.val c.kind.sta c.kind x = true → s.powerOk r.val x c.red (s.srCap r.val (s.now + s.swLead r.val)) = true →
    ∃ t, exec (.txUntimedReady (r.castSucc) en) s = .next t ∧
      startsAt s t r.val c (s.now + s.swLead r.val) dur ((codingOf (c.kind.tones x) x).getD .plain) ∧
      t.regs = s.regs ∧ t.mem = s.mem) ∧
  (∀ (s : State) (r : Fin 4) (en : Byte), s.radioReady r.val = false →
    (s.takesWork (radioBlock r.val) = true → exec (.txReady r) s = .next s) ∧ exec (.txUntimedReady r en) s = .next s) ∧
  (∀ (s : State) (r : Fin 4) (c : AirCmd) (t0 tol : Nat), s.takesWork (radioBlock r.val) = false →
    s.nextTimed r.val = some (c, t0, tol) → t0 + tol < s.now →
    ∃ t, exec (.txReady r) s = .next t ∧ t.ctr (C.RADIO_TX_LATE r.val) = s.ctr (C.RADIO_TX_LATE r.val) + 1 ∧
      (r.val ≠ 3 → (t.radio r.val).cmds = (s.radio r.val).cmds.erase c ∧ t.regs = s.regs) ∧ otherRadios s t r.val)

/-- A codeword of the reception x of radio r. -/
def ofRx (r : Nat) (x : RxPpdu) (c : Codeword) : Bool := decide (c.radio = r ∧ c.rx = x.id)

/-- A codeword of an RU of that reception. -/
def ofRu (r : Nat) (x : RxPpdu) (ru : Nat) (c : Codeword) : Bool := decide (c.radio = r ∧ c.rx = x.id ∧ c.ru = ru)

/-- Receptions, codewords, capture (R178, R186 to R191, R193, R201, R202). -/
def Obligations.ReceptionsAndCodewords : Prop :=
  (∀ (s : State) (r : Fin 3) (p : RxPreamble),
    p.power.toInt < sgn 8 (s.fld (F.RADIO_DET_CFG_PD_LEVEL r.val)) ∨ (p.dsss = true ∧ r.val ≠ 0) →
    exec (.rxPreamble r p) s = .next s ∧ exec (.secondDetect r p) s = .next s) ∧
  (∀ (s : State) (r : Fin 3) (p : RxPreamble), s.listens r.val = true → s.rxActive r.val = none →
    s.detects r.val p = true →
    ∃ t, exec (.rxPreamble r p) s = .next t ∧ t.air.nextRx = s.air.nextRx + 1 ∧ otherRadios s t r.val ∧
      t = { s with ctrs := t.ctrs, air := t.air } ∧
      (p.sat = true → counted s t (C.RADIO_RX_SAT r.val) 1) ∧
      (0 < p.after.toNat → ∃ x, (t.radio r.val).rx = some x ∧ x.id = s.air.nextRx ∧ x.hdrOk = false ∧
        x.hdrAt = s.now + p.after.toNat ∧ x.header = p.header ∧ x.agc = p.agc)) ∧
  (∀ (s : State) (r : Fin 3) (x : RxPpdu) (ok : Bool) (dur : BitVec 24), (s.radio r.val).rx = some x → x.hdrOk = false →
    x.hdrAt ≤ s.now → x.header = .failed ok dur →
    counted s (s.checkHeader r.val) (C.RADIO_RX_HDR_FAIL r.val) 1 ∧ ((s.checkHeader r.val).radio r.val).rx = none ∧
    ((s.checkHeader r.val).radio r.val).busyUntil =
      (if ok then max (s.radio r.val).busyUntil (x.begun + dur.toNat) else (s.radio r.val).busyUntil) ∧
    otherRadios s (s.checkHeader r.val) r.val) ∧
  (∀ (s : State) (r : Fin 3) (x : RxPpdu) (f : PhyFormat) (dd dur : BitVec 24) (el : Bool), (s.radio r.val).rx = some x →
    x.hdrOk = false → x.hdrAt ≤ s.now → x.header = .passed f dd dur el →
    counted s (s.checkHeader r.val) (C.RADIO_RX_PPDU r.val) 1 ∧ otherRadios s (s.checkHeader r.val) r.val ∧
    (s.receives r.val f = true → ((s.checkHeader r.val).radio r.val).rx = some { x with
      hdrOk := true, fmt := f, dataEnd := x.begun + dd.toNat, endT := x.begun + dur.toNat, elicits := el }) ∧
    (s.receives r.val f = false → ((s.checkHeader r.val).radio r.val).rx = none ∧
      ((s.checkHeader r.val).radio r.val).busyUntil = max (s.radio r.val).busyUntil (x.begun + dur.toNat))) ∧
  (∀ (s : State) (r : Fin 3) (p : RxPreamble) (x : RxPpdu), s.listens r.val = true → s.rxActive r.val = some x →
    x.hdrOk = false → s.detects r.val p = true →
    ∃ t, exec (.secondDetect r p) s = .next t ∧ counted s t (C.RADIO_RX_FALSE_DETECT r.val) 1 ∧
      t.ldpc.waiting = s.ldpc.waiting.filter (fun c => !ofRx r.val x c) ∧
      (0 < p.after.toNat → ∃ y, (t.radio r.val).rx = some y ∧ y.id = s.air.nextRx ∧ y.hdrOk = false) ∧ t.mem = s.mem) ∧
  (∀ (s : State) (r : Fin 3) (p : RxPreamble) (x : RxPpdu), s.listens r.val = true → s.rxActive r.val = some x →
    x.hdrOk = true → s.detects r.val p = true →
    (x.power + s.fld (F.RADIO_DET_CFG_CAP_DB r.val) ≤ p.power.toInt ∨ x.sat = true ∨ p.sat = true) →
    ∃ t, exec (.secondDetect r p) s = .next t ∧ counted s t (C.RADIO_RX_LOST_CAPTURE r.val) 1 ∧
      t.ldpc.waiting = s.ldpc.waiting.filter (fun c => !ofRx r.val x c) ∧
      (∀ c ∈ (t.radio r.val).cmds, c ∈ (s.radio r.val).cmds ∧ ∀ l, c.kind ≠ .blockAck x.id l) ∧
      (0 < p.after.toNat → ∃ y, (t.radio r.val).rx = some y ∧ y.id = s.air.nextRx ∧ y.hdrOk = false) ∧ t.mem = s.mem) ∧
  (∀ (s : State) (r : Fin 3) (p : RxPreamble) (x : RxPpdu), s.rxActive r.val = some x → x.hdrOk = true → x.sat = false →
    p.sat = false → p.power.toInt < x.power + s.fld (F.RADIO_DET_CFG_CAP_DB r.val) →
    exec (.secondDetect r p) s = .next s) ∧
  (∀ (s : State) (r : Fin 3) (w : CwIn) (x : RxPpdu), s.takesWork (radioBlock r.val) = true →
    (s.radio r.val).rx = some x → x.hdrOk = true → w.bcc = false → x.fmt ≠ .dsss → x.fmt ≠ .ofdm →
    x.head w.ru.toNat = none → s.ldpc.waiting.length + s.fld F.LDPC_RESERVE_REG_ENTRIES < 768 →
    ∃ t c, exec (.codewordEnqueue (r.castSucc) w) s = .next t ∧ t.ldpc.waiting = s.ldpc.waiting ++ [c] ∧
      c.radio = r.val ∧ c.rx = x.id ∧ c.ru = w.ru.toNat ∧ c.arrival = s.now ∧ c.order = s.ldpc.next ∧
      (w.flow ≠ none → c.cls = .registered) ∧
      (w.flow = none → s.runningRsp r.val = none → x.elicits = true →
        c.cls = .immediate ∧ c.deadline = x.dataEnd + 8000 - s.fld F.LDPC_DL_CFG_IMM_MARGIN * 50) ∧
      (w.flow = none → s.runningRsp r.val = none → x.elicits = false → w.peerTid = none →
        c.cls = .bulk ∧ c.deadline = s.now + 500 * s.fld F.LDPC_DL_CFG_BULK_DL_US) ∧
      onlyFields s t [whole A.LDPC_QUEUE] ∧ t = { s with regs := t.regs, ldpc := t.ldpc }) ∧
  (∀ (s : State) (r : Fin 3) (w : CwIn), w.bcc = true → exec (.codewordEnqueue (r.castSucc) w) s = .next s) ∧
  (∀ (s : State) (r : Fin 3) (w : CwIn) (x : RxPpdu) (h : FirstHeader), s.takesWork (radioBlock r.val) = true →
    (s.radio r.val).rx = some x → x.hdrOk = true → w.bcc = false → x.fmt ≠ .dsss → x.fmt ≠ .ofdm →
    x.head w.ru.toNat = some h → h.addressed = false →
    ∃ t, exec (.codewordEnqueue (r.castSucc) w) s = .next t ∧ counted s t C.LDPC_DEC_CANCELLED 1 ∧
      onlyCtrs s t [C.LDPC_DEC_CANCELLED] ∧ t = { s with ctrs := t.ctrs }) ∧
  (∀ (s : State) (r : Fin 3) (w : CwIn) (x : RxPpdu), s.takesWork (radioBlock r.val) = true →
    (s.radio r.val).rx = some x → x.hdrOk = true → w.bcc = false → x.fmt ≠ .dsss → x.fmt ≠ .ofdm →
    x.head w.ru.toNat = none → 768 ≤ s.ldpc.waiting.length →
    ∃ t v, exec (.codewordEnqueue (r.castSucc) w) s = .next t ∧ counted s t (C.LDPC_DEC_MISSED v.cls.rank) 1 ∧
      v ∉ t.ldpc.waiting ∧ ((v ∈ s.ldpc.waiting ∧ v.cls ≠ .registered) ∨ v.order = s.ldpc.next)) ∧
  (∀ (s : State) (r : Fin 3) (h : FirstHeader) (x : RxPpdu), s.takesWork (radioBlock r.val) = true →
    (s.radio r.val).rx = some x → h.addressed = false →
    ∃ t, exec (.codewordReclass r h) s = .next t ∧
      t.ldpc.waiting = s.ldpc.waiting.filter (fun c => !ofRu r.val x h.ru.toNat c) ∧
      counted s t C.LDPC_DEC_CANCELLED (s.ldpc.waiting.filter (ofRu r.val x h.ru.toNat)).length ∧
      onlyCtrs s t [C.LDPC_DEC_CANCELLED] ∧ (t.radio r.val).rx = some { x with heads := h :: x.heads } ∧
      otherRadios s t r.val ∧ t.mem = s.mem) ∧
  (∀ (s : State) (r : Fin 3) (h : FirstHeader) (x : RxPpdu), s.takesWork (radioBlock r.val) = true →
    (s.radio r.val).rx = some x → h.addressed = true →
    ∃ t, exec (.codewordReclass r h) s = .next t ∧ t.ldpc.waiting.length = s.ldpc.waiting.length ∧
      (∀ (i : Nat) (c : Codeword), s.ldpc.waiting[i]? = some c → ∃ d : Codeword, t.ldpc.waiting[i]? = some d ∧ d.order = c.order ∧
        (ofRu r.val x h.ru.toNat c = false → d = c) ∧
        (ofRu r.val x h.ru.toNat c = true → (h.flow ≠ none → d.cls = .registered) ∧
          (h.flow = none → h.response = false → d.cls = .bulk) ∧ (h.flow = none → h.response = true → d = c))) ∧
      (t.radio r.val).rx = some { x with heads := h :: x.heads, sta := some h.sta.toNat } ∧
      t.ctrs = s.ctrs ∧ onlyFields s t [whole A.LDPC_QUEUE] ∧ otherRadios s t r.val) ∧
  (∀ (s : State) (r : Fin 3) (e : CsiIn) (x : RxPpdu), s.takesWork (radioBlock r.val) = true →
    (s.radio r.val).rx = some x → x.hdrOk = true →
    s.flag (F.RADIO_CSI_CFG_EN r.val) = true → s.csiMatches r.val e = true →
    ∃ t, exec (.csiCapture r e) s = .next t ∧ otherRadios s t r.val ∧
      (s.recordFits (s.fld (F.RADIO_CSI_CFG_FIFO r.val)) (s.csiRecord r.val x e).length = false →
        counted s t (C.RADIO_CSI_DROPPED r.val) 1 ∧ counted s t (C.PIGEON_REFUSED (s.fld (F.RADIO_CSI_CFG_FIFO r.val))) 1 ∧
        (t.radio r.val).csiDropped = min 255 ((s.radio r.val).csiDropped + 1) ∧
        (t.radio r.val).csiSeq = (s.radio r.val).csiSeq ∧ t = { s with ctrs := t.ctrs, air := t.air }) ∧
      (s.recordFits (s.fld (F.RADIO_CSI_CFG_FIFO r.val)) (s.csiRecord r.val x e).length = true →
        counted s t (C.RADIO_CSI_CAPTURED r.val) 1 ∧ (t.radio r.val).csiDropped = 0 ∧
        (t.radio r.val).csiSeq = ((s.radio r.val).csiSeq + 1) % 65536))

/-- The decoder pool (R192 to R195, R199, R200, R208, R682). -/
def Obligations.DecoderEngines : Prop :=
  (∀ (s : State) (e : Fin 14) (c : Codeword) (rest : List Codeword) (n : Nat), s.engineFirst e.val = true →
    s.takesWork 0x80 = true → s.engineOrder e.val = c :: rest → s.startable c = some n →
    ∃ t, exec (.engineFree e) s = .next t ∧ t.decoding e.val = some { cw := c, limit := n, start := s.now } ∧
      s.fld F.LDPC_ITER_CFG_MIN_ITER ≤ n ∧ n ≤ s.cwCap c.cls ∧ 80 * n + 38 ≤ bbCycles (c.deadline - s.now) ∧
      (s.flag (F.LDPC_ENG_STATUS_REG_FIRST e.val) = false → ∀ d ∈ s.ldpc.waiting, c.deadline ≤ d.deadline) ∧
      t.ldpc.waiting = s.ldpc.waiting.filter (fun x => decide (x.order ≠ c.order)) ∧
      (∀ k, k ≠ e.val → t.decoding k = s.decoding k) ∧
      t.flag (F.LDPC_ENG_STATUS_BUSY e.val) = true ∧
      onlyFields s t [whole A.LDPC_QUEUE, F.LDPC_ENG_STATUS_BUSY e.val] ∧ t = { s with regs := t.regs, ldpc := t.ldpc }) ∧
  (∀ (s : State) (e : Fin 14), s.ldpc.waiting = [] → exec (.engineFree e) s = .next s) ∧
  (∀ (s : State) (e : Fin 14) (d : Decode) (i : BitVec 5) (zero : Bool), s.takesWork 0x80 = true → s.decoding e.val = some d →
    ∃ t, exec (.decodeEnd e i zero true) s = .next t ∧ t.decoding e.val = none ∧
      t.flag (F.LDPC_ENG_STATUS_BUSY e.val) = false ∧ t.ldpc.waiting = s.ldpc.waiting ∧
      counted s t C.LDPC_ITER_TOTAL (if zero then min d.limit i.toNat else d.limit) ∧
      (zero = true → counted s t (C.LDPC_DEC_OK d.cw.cls.rank) 1 ∧
        onlyCtrs s t [C.LDPC_ITER_TOTAL, C.LDPC_DEC_OK d.cw.cls.rank]) ∧
      (zero = false → counted s t C.LDPC_DEC_FAIL 1 ∧ onlyCtrs s t [C.LDPC_ITER_TOTAL, C.LDPC_DEC_FAIL]) ∧
      onlyFields s t [F.LDPC_ENG_STATUS_BUSY e.val] ∧
      t = { s with regs := t.regs, ctrs := t.ctrs, ldpc := t.ldpc, ngr := t.ngr }) ∧
  (∀ (s : State) (e : Fin 14) (d : Decode) (i : BitVec 5) (zero : Bool), s.takesWork 0x80 = true → s.decoding e.val = some d →
    s.ldpc.waiting.length + s.fld F.LDPC_RESERVE_REG_ENTRIES < 768 →
    ∃ t, exec (.decodeEnd e i zero false) s = .next t ∧ t.decoding e.val = none ∧ noted s t 0x13 e.val false ∧
      t.ldpc.waiting = s.ldpc.waiting ++ [{ d.cw with arrival := s.now, order := s.ldpc.next }] ∧
      (s.flt.queue.length < 16 → counted s t C.LDPC_DEC_REQUEUED 1) ∧ t.mem = s.mem) ∧
  (∀ s : State, s.dark = false → ∃ t, exec .codewordDeadline s = .next t ∧
      t.ldpc.waiting = s.ldpc.waiting.filter (fun c => (s.startable c).isSome) ∧
      (∀ k : CwClass, counted s t (C.LDPC_DEC_MISSED k.rank)
        (s.ldpc.waiting.filter (fun c => (s.startable c).isNone && decide (c.cls = k))).length) ∧
      t.ldpc.engines = s.ldpc.engines ∧ onlyFields s t [whole A.LDPC_QUEUE] ∧ t.mem = s.mem) ∧
  (∀ (s u : State) (v : Word), s.takesWork 0x80 = true → u = s.touch A.LDPC_RETIRE → 14 ≤ getBits v 0 4 →
    ∃ t, exec (.ldpcRetire v) s = .next t ∧ refusedOnly u t A.LDPC_RETIRE 2) ∧
  (∀ (s : State) (v : Word) (e k : Nat), s.takesWork 0x80 = true → e = getBits v 0 4 → e < 14 →
    s.engineActive e = true → (s.fld F.LDPC_ENGINE_MAP_RETIRED).testBit e = false → s.engineRetirable e = true →
    k < 14 → k ≠ e → s.flag (F.LDPC_ENG_STATUS_SPARE k) = true →
    (∀ j < k, j ≠ e → s.flag (F.LDPC_ENG_STATUS_SPARE j) = false) → s.engineActive k = false →
    ∃ t, exec (.ldpcRetire v) s = .next t ∧ t.decoding e = none ∧ t.engineActive e = false ∧
      (t.fld F.LDPC_ENGINE_MAP_RETIRED).testBit e = true ∧ t.engineActive k = true ∧
      t.flag (F.LDPC_ENG_STATUS_SPARE k) = false ∧
      t.fld (F.LDPC_ENG_STATUS_REG_FIRST k) = s.fld (F.LDPC_ENG_STATUS_REG_FIRST e) ∧
      (∀ j < 14, j ≠ e → j ≠ k → t.engineActive j = s.engineActive j) ∧ t.mem = s.mem) ∧
  (∀ (s : State) (e : Fin 14), s.takesWork 0x80 = true → s.fld F.LDPC_BIST_CFG_PERIOD_MS ≠ 0 → s.ldpc.waiting = [] → s.decoding e.val = none →
    (s.fld F.LDPC_ENGINE_MAP_RETIRED).testBit e.val = false → s.inWatch = false →
    ∃ t, exec (.bist e false) s = .next t ∧
      t.fld (F.LDPC_ENG_STATUS_BIST_FAIL e.val) = min 65535 (s.fld (F.LDPC_ENG_STATUS_BIST_FAIL e.val) + 1) ∧
      noted s t 0x13 e.val true ∧
      (s.flt.queue.length < 16 → onlyFields s t [F.LDPC_ENG_STATUS_BIST_FAIL e.val] ∧
        t = { s with regs := t.regs, flt := t.flt })) ∧
  (∀ (s : State) (e : Fin 14), exec (.bist e true) s = .next s)

/-- A context command that runs: the block runs, a STA_ID in range, none other running; `u` is the state with WMAC's branch
started. -/
def ctxRuns (s u : State) (n : Nat) : Prop :=
  s.takesWork (windowOf A.WMAC_CTX_CMD) = true ∧ 1 ≤ n ∧ n ≤ 1024 ∧ s.flag F.WMAC_CTX_STATUS_BUSY = false ∧
    u = s.touch A.WMAC_CTX_CMD

/-- CTX_STATUS shows a result and BUSY, and no context changes. -/
def ctxOnly (s t : State) (result word : Nat) : Prop :=
  t.fld F.WMAC_CTX_STATUS_RESULT = result ∧ t.fld F.WMAC_CTX_STATUS_WORD = word ∧ t.flag F.WMAC_CTX_STATUS_BUSY = true ∧
    onlyFields s t [F.WMAC_CTX_STATUS_RESULT, F.WMAC_CTX_STATUS_WORD, F.WMAC_CTX_STATUS_BUSY] ∧ t = { s with regs := t.regs }

/-- The staging record, with VALID set. -/
def stagedContext (s : State) : List Word := s.stage.set 0 (s.stage.getD 0 0 ||| 0x80000000)

/-- Context commands (R218 to R220, R251, R254). -/
def Obligations.PeerContexts : Prop :=
  (∀ (s u : State) (a : BitVec 11) (i : Instr), i ∈ [Instr.ctxAdd a, .ctxUpdate a, .ctxRemove a, .ctxRead a] →
    s.takesWork (windowOf A.WMAC_CTX_CMD) = true → u = s.touch A.WMAC_CTX_CMD →
    (a.toNat = 0 ∨ 1024 < a.toNat ∨ s.flag F.WMAC_CTX_STATUS_BUSY = true) →
    ∃ t, exec i s = .next t ∧ refusedOnly u t A.WMAC_CTX_CMD 2) ∧
  (∀ (s u : State) (a : BitVec 11), ctxRuns s u a.toNat → s.peerValid a.toNat = true →
    ∃ t, exec (.ctxAdd a) s = .next t ∧ ctxOnly u t 2 0) ∧
  (∀ (s u : State) (a : BitVec 11) (w : Nat) (e : RefCode), ctxRuns s u a.toNat → s.peerValid a.toNat = false →
    s.stageFails s.stage = some (w, e) →
    ∃ t, exec (.ctxAdd a) s = .next t ∧ ctxOnly u t (if e = .zeroLength then 6 else 5) w) ∧
  (∀ (s u : State) (a : BitVec 11), ctxRuns s u a.toNat → s.peerValid a.toNat = false → s.stageFails s.stage = none →
    s.addrTaken s.stage = true → ∃ t, exec (.ctxAdd a) s = .next t ∧ ctxOnly u t 4 0) ∧
  (∀ (s u : State) (a : BitVec 11), ctxRuns s u a.toNat → s.peerValid a.toNat = false → s.stageFails s.stage = none →
    s.addrTaken s.stage = false →
    ∃ t, exec (.ctxAdd a) s = .next t ∧ t.ctxWords a.toNat = stagedContext s ∧ t.peerValid a.toNat = true ∧
      (∀ k, k ≠ a.toNat → t.ctxWords k = s.ctxWords k) ∧ t.fld F.WMAC_CTX_STATUS_RESULT = 1 ∧
      onlyFields u t [F.WMAC_CTX_STATUS_RESULT, F.WMAC_CTX_STATUS_WORD, F.WMAC_CTX_STATUS_BUSY, whole (A.WMAC_STAGE_RW 0)] ∧
      t = { u with regs := t.regs, wmac := { s.wmac with ctx := t.wmac.ctx } }) ∧
  (∀ (s u : State) (a : BitVec 11) (i : Instr), i ∈ [Instr.ctxUpdate a, .ctxRemove a, .ctxRead a] → ctxRuns s u a.toNat →
    s.peerValid a.toNat = false → ∃ t, exec i s = .next t ∧ ctxOnly u t 3 0) ∧
  (∀ (s u : State) (a : BitVec 11), ctxRuns s u a.toNat → s.peerValid a.toNat = true → s.stageFails s.stage = none →
    s.wmac.waiting = [] →
    ∃ t, exec (.ctxUpdate a) s = .next t ∧ t.ctxWords a.toNat = stagedContext s ∧
      (∀ k, k ≠ a.toNat → t.ctxWords k = s.ctxWords k) ∧ t.fld F.WMAC_CTX_STATUS_RESULT = 1 ∧
      t.flag F.WMAC_CTX_STATUS_BUSY = true ∧ t.mem = s.mem ∧ t.wmac.tids = s.wmac.tids) ∧
  (∀ (s u : State) (a : BitVec 11), ctxRuns s u a.toNat → s.peerValid a.toNat = true →
    ∃ t, exec (.ctxRemove a) s = .next t ∧ t.ctxWords a.toNat = [] ∧
      (∀ k, k ≠ a.toNat → t.ctxWords k = s.ctxWords k) ∧ (∀ m ∈ t.wmac.mpdus, m.req.sta ≠ a.toNat) ∧
      (∀ q ∈ t.wmac.waiting, q.sta ≠ a.toNat) ∧ t.fld F.WMAC_CTX_STATUS_RESULT = 1) ∧
  (∀ (s u : State) (a : BitVec 11), ctxRuns s u a.toNat → s.peerValid a.toNat = true → (s.ctxWords a.toNat).length = 30 →
    ∃ t, exec (.ctxRead a) s = .next t ∧ (∀ w < 30, t.rd (A.WMAC_STAGE_RW w) = s.ctxWord a.toNat w) ∧
      (∀ k < 8, t.rd (A.WMAC_STAGE_RO (2 + k)) =
        BitVec.ofNat 32 ((s.tid a.toNat k).rxWin * 65536 + (s.tid a.toNat k).txNext)) ∧
      t.fld F.WMAC_CTX_STATUS_RESULT = 1 ∧ t = { u with regs := t.regs })

/-- One completion has joined the queue, with COOKIE and STATUS. -/
def completes (s t : State) (cookie : Word) (status : Nat) : Prop :=
  ∃ c, t.wmac.compl = s.wmac.compl ++ [c] ∧ c.getD 0 0 = cookie ∧ getBits (c.getD 1 0) 0 8 = status

/-- An MPDU of one frame that is not registered, timed or of TM. -/
def plainMpdu (m : TxMpdu) : Prop := m.req.reg = none ∧ m.req.timed = false ∧ m.req.tm = none ∧ m.rest = []

/-- Transmission (R216, R220, R221, R224, R226, R227, R230, R247, R248, R296, R302). -/
def Obligations.WmacTransmission : Prop :=
  (∀ (s : State) (ws : List Word), s.takesWork wmacBlock = true → getBits (ws.getD 2 0) 0 14 = 0 →
    ∃ t, exec (.txDescriptor (.descriptor ws)) s = .next t ∧ completes s t (ws.getD 5 0) 9 ∧
      t = { s with wmac := { s.wmac with compl := t.wmac.compl } }) ∧
  (∀ (s : State) (a : BitVec 11) (b : BitVec 6) (timed : Bool) (k : Word) (fr : List Byte), s.takesWork wmacBlock = true →
    a.toNat ≠ 0 → s.peerValid a.toNat = false →
    ∃ t, exec (.txDescriptor (.management a b timed k fr)) s = .next t ∧ completes s t k 4 ∧
      t = { s with wmac := { s.wmac with compl := t.wmac.compl } }) ∧
  (∀ (s : State) (a : BitVec 11) (b : BitVec 6) (timed : Bool) (k : Word) (fr : List Byte), s.takesWork wmacBlock = true →
    a.toNat ≠ 0 → s.peerValid a.toNat = true → s.frameCipher a.toNat (s.peerBss a.toNat) = 0 → s.wmac.waiting = [] →
    ∃ t m, exec (.txDescriptor (.management a b timed k fr)) s = .next t ∧ t.wmac.mpdus = s.wmac.mpdus ++ [m] ∧
      m.id = s.wmac.nextMpdu ∧ m.req.sta = a.toNat ∧ m.req.cookie = k ∧ m.body = fr ++ s.mgmtVendor (s.bssRadio (s.peerBss a.toNat)) fr ∧ m.rest = [] ∧ m.attempts = 0 ∧ m.links = [] ∧
      m.sn = sget (fun _ => 0) s.wmac.mgmtSn a.toNat ∧ m.pn = 0 ∧
      sget (fun _ => 0) t.wmac.mgmtSn a.toNat = (m.sn + 1) % 4096 ∧ t.wmac.compl = s.wmac.compl ∧
      t = { s with wmac := t.wmac }) ∧
  (∀ (s : State) (a : BitVec 11) (l : BitVec 6) (bytes : BitVec 24) (start : Option DWord) (rates : List TxRate)
    (ids : List Nat) (r at' dur : Nat), s.takesWork wmacBlock = true → a.toNat ≠ 0 → s.peerValid a.toNat = true →
    r = s.linkRadio a.toNat l.toNat → at' = (start.map (fun t => t.toNat)).getD s.now →
    dur = (((withinLimit rates).head?).map (fun t => t.dur.toNat)).getD 0 →
    s.linkOn a.toNat l.toNat = true → s.emlsrFree a.toNat l.toNat = true → s.nstrBusy a.toNat l.toNat = false →
    s.rspHolds r at' = none → s.awakeAt a.toNat at' = true → withinLimit rates ≠ [] → s.airLeft r at' (dur + 24000) = true →
    (∀ b ∈ s.wmac.bars, b.1 ≠ a.toNat) → s.nstrCmds a.toNat l.toNat = [] →
    s.nstrMisaligned a.toNat l.toNat (start.map (fun t => t.toNat)) = false →
    ids = (match s.wmac.mpdus.filter (fun m => decide (m.req.sta = a.toNat ∧ m.links = []) && m.req.mgmt) with
      | m :: _ => [m.id]
      | [] => s.fillTids { sta := a.toNat, link := l.toNat, flow := none, stop := at' + dur + 24000 }
          [7, 6, 5, 4, 3, 0, 2, 1] bytes.toNat) →
    ids ≠ [] →
    ∃ t c, exec (.ppduFill a l bytes start rates) s = .next t ∧
      t.radio r = { s.radio r with cmds := (s.radio r).cmds ++ [c] } ∧
      otherRadios s t r ∧ c.kind = .ppdu a.toNat l.toNat ∧ c.mpdus = ids ∧ c.rates = withinLimit rates ∧
      c.timed = start.map (fun x => (x.toNat, 0)) ∧
      (∀ m ∈ t.wmac.mpdus, m.id ∈ ids → l.toNat ∈ m.links) ∧
      t.wmac.mpdus.map (fun m => (m.id, m.sn, m.pn, m.attempts)) = s.wmac.mpdus.map (fun m => (m.id, m.sn, m.pn, m.attempts)) ∧
      (s.isEmlsr a.toNat = true → (t.emlsr a.toNat).icf = some l.toNat ∧ c.icf = [(a.toNat, l.toNat)]) ∧
      t = { s with air := t.air, wmac := t.wmac }) ∧
  (∀ (s : State) (a : BitVec 11) (l : BitVec 6) (bytes : BitVec 24) (start : Option DWord) (rates : List TxRate),
    a.toNat ≠ 0 → s.linkOn a.toNat l.toNat = false → exec (.ppduFill a l bytes start rates) s = .next s) ∧
  (∀ (s : State) (a : BitVec 11) (l : BitVec 6) (bytes : BitVec 24) (start : Option DWord) (rates : List TxRate) (at' : Nat),
    at' = (start.map (fun t => t.toNat)).getD s.now →
    a.toNat ≠ 0 → s.awakeAt a.toNat at' = false → s.rspHolds (s.linkRadio a.toNat l.toNat) at' = none →
    exec (.ppduFill a l bytes start rates) s = .next s) ∧
  (∀ (s : State) (a : BitVec 11) (l : BitVec 6) (bytes : BitVec 24) (rates : List TxRate) (tid r : Nat),
    s.takesWork wmacBlock = true → a.toNat ≠ 0 → s.peerValid a.toNat = true → s.linkOn a.toNat l.toNat = true →
    r = s.linkRadio a.toNat l.toNat →
    s.isEmlsr a.toNat = false → s.nstrBusy a.toNat l.toNat = false → s.rspHolds r s.now = none →
    s.awake a.toNat = true → s.nstrMisaligned a.toNat l.toNat none = false → s.wmac.bars = [(a.toNat, tid)] →
    ttlmHas (s.ctxWords a.toNat) 12 tid l.toNat = true →
    ∃ t c, exec (.ppduFill a l bytes none rates) s = .next t ∧ (t.radio r).cmds = (s.radio r).cmds ++ [c] ∧
      c.kind = .bar a.toNat l.toNat tid (s.txOldest a.toNat tid) ∧ otherRadios s t r ∧
      t = { s with air := t.air, wmac := { s.wmac with bars := [] } }) ∧
  (∀ (s : State) (b : BitVec 6) (bytes : BitVec 24) (start : Option DWord) (rates : List TxRate) (m : TxMpdu),
    s.takesWork wmacBlock = true → s.bssOn b.toNat = true →
    s.wmac.mpdus.find? (fun m => decide (m.req.sta = 0 ∧ m.req.bss = b.toNat ∧ m.links = [])) = some m →
    ∃ t c, exec (.ppduFill 0 b bytes start rates) s = .next t ∧
      (t.radio (s.bssRadio b.toNat)).cmds = (s.radio (s.bssRadio b.toNat)).cmds ++ [c] ∧ c.mpdus = [m.id] ∧ c.resp = 0 ∧
      c.kind = .ppdu 0 b.toNat ∧ otherRadios s t (s.bssRadio b.toNat) ∧ t = { s with air := t.air, wmac := t.wmac }) ∧
  (∀ (s : State) (a : BitVec 11) (l : Fin 3) (tid : BitVec 3) (ssn : BitVec 12) (ack : List (BitVec 12)),
    s.takesWork wmacBlock = true → s.peerValid a.toNat = true → s.wmac.waiting = [] →
    (s.wmac.mpdus.map (fun m => m.id)).Nodup → (∀ m ∈ s.wmac.mpdus, plainMpdu m) →
    ∃ t, exec (.blockAckRx a l tid ssn ack) s = .next t ∧
      (∀ m ∈ s.wmac.mpdus, m.req.sta = a.toNat → m.req.tid = tid.toNat → l.val ∈ m.sent →
        (m.sn + 4096 - ssn.toNat) % 4096 < 1024 →
        (BitVec.ofNat 12 m.sn ∈ ack → ∀ k ∈ t.wmac.mpdus, k.id ≠ m.id) ∧
        (BitVec.ofNat 12 m.sn ∉ ack → m.attempts < s.fld F.WMAC_AMPDU_CFG_RETRY_LIMIT → m.unbind l.val ∈ t.wmac.mpdus)) ∧
      (∀ m ∈ s.wmac.mpdus, (m.req.sta ≠ a.toNat ∨ m.req.tid ≠ tid.toNat ∨ l.val ∉ m.sent) → m ∈ t.wmac.mpdus) ∧
      t.rounds = (s.markHeard a.toNat).rounds ∧ t = { s with ctrs := t.ctrs, wmac := t.wmac, rounds := t.rounds }) ∧
  (∀ (s : State) (a : BitVec 11) (l : Fin 3) (m : TxMpdu), s.takesWork wmacBlock = true → s.wmac.waiting = [] →
    s.wmac.mpdus = [m] → plainMpdu m → m.req.sta = a.toNat → m.sent = [l.val] →
    ∃ t, exec (.blockAckTimeout a l) s = .next t ∧
      (m.attempts < s.fld F.WMAC_AMPDU_CFG_RETRY_LIMIT → t = { s with wmac := { s.wmac with mpdus := [m.unbind l.val] } }) ∧
      (s.fld F.WMAC_AMPDU_CFG_RETRY_LIMIT ≤ m.attempts → t.wmac.mpdus = [] ∧ completes s t m.req.cookie 1 ∧
        counted s t C.WMAC_TX_RETRY_LIMIT 1 ∧ onlyCtrs s t [C.WMAC_TX_RETRY_LIMIT] ∧
        (a.toNat ≠ 0 → (a.toNat, m.req.tid) ∈ t.wmac.bars) ∧ t = { s with ctrs := t.ctrs, wmac := t.wmac })) ∧
  (∀ (s : State) (a : BitVec 11) (l : Nat), s.takesWork wmacBlock = true → (s.emlsr a.toNat).icf = some l →
    (∀ c ∈ (s.radio (s.linkRadio a.toNat l)).cmds, c.icf = [] → (a.toNat, l) ∉ c.kind.users) →
    ∃ t, exec (.emlsrIcfFail a) s = .next t ∧ counted s t C.WMAC_EMLSR_ICF_FAIL 1 ∧ onlyCtrs s t [C.WMAC_EMLSR_ICF_FAIL] ∧
      t.emlsr a.toNat = { s.emlsr a.toNat with icf := none } ∧ (∀ k, k ≠ a.toNat → t.emlsr k = s.emlsr k) ∧
      t = { s with ctrs := t.ctrs, wmac := { s.wmac with emlsr := t.wmac.emlsr } }) ∧
  (∀ (s : State) (a : BitVec 11) (l : Nat) (c : AirCmd), s.takesWork wmacBlock = true → (s.emlsr a.toNat).icf = some l →
    (s.radio (s.linkRadio a.toNat l)).cmds = [c] → c.kind = .ppdu a.toNat l → c.icf = [] →
    ∃ t, exec (.emlsrIcfFail a) s = .next t ∧ counted s t C.WMAC_EMLSR_ICF_FAIL 1 ∧
      (t.radio (s.linkRadio a.toNat l)).cmds = [] ∧ otherRadios s t (s.linkRadio a.toNat l) ∧
      t.wmac.mpdus = s.wmac.mpdus.map (fun m => if c.mpdus.contains m.id then m.unbind l else m) ∧
      (t.emlsr a.toNat).icf = none ∧ t = { s with ctrs := t.ctrs, air := t.air, wmac := t.wmac }) ∧
  (∀ (s : State) (b : BitVec 6) (len : BitVec 12) (rates : List TxRate), s.takesWork wmacBlock = true → s.inWatch = false →
    s.bssOn b.toNat = true → s.bipSlot b.toNat true true = none → s.hole ((s.bssWord b.toNat 4).toNat * 16) len.toNat = none →
    (∀ u, sget (fun _ => none) s.wmac.beacons b.toNat = some u → u + getBits (s.bssWord b.toNat 3) 16 16 * 512000 ≤ s.now) →
    ∃ t c f, exec (.beaconTx b len rates) s = .next t ∧ sget (fun _ => none) t.wmac.beacons b.toNat = some s.now ∧
      t.radio (s.bssRadio b.toNat) = { s.radio (s.bssRadio b.toNat) with
        cmds := (s.radio (s.bssRadio b.toNat)).cmds ++ [c] } ∧
      c.kind = .beacon b.toNat f ∧ c.timed = none ∧ c.rates = rates ∧ otherRadios s t (s.bssRadio b.toNat) ∧
      f.template = s.dmaBytes ((s.bssWord b.toNat 4).toNat * 16) len.toNat ∧ f.aids = s.timAids b.toNat ∧
      f.dtim.2 = getBits (s.bssWord b.toNat 3) 0 8 ∧ f.links = s.mldLinks b.toNat ∧
      f.quiet = s.quietElements (s.bssRadio b.toNat) ∧
      f.vendor = s.vendorElement (s.vextAttr (s.bssRadio b.toNat) ++ s.jointAttr (s.bssRadio b.toNat)) ∧
      (∀ o, s.lastBeacon b.toNat = some o → o.vendor = f.vendor → o.quiet = f.quiet → o.rtwt = f.rtwt → f.change = o.change) ∧
      t.lastBeacon b.toNat = some f ∧
      (s.obstruction (s.bssRadio b.toNat) = none → c.after = 0 ∧ t.ctrs = s.ctrs) ∧
      (∀ us, s.obstruction (s.bssRadio b.toNat) = some us → c.after = (s.rnd (s.bssRadio b.toNat)).boundary + us * 500 ∧
        counted s t (C.ROUNDS_BEACON_DEFER (s.bssRadio b.toNat)) 1) ∧
      t = { s with ctrs := t.ctrs, air := t.air, wmac := { s.wmac with beacons := t.wmac.beacons, shown := t.wmac.shown } }) ∧
  (∀ (s : State) (b : BitVec 6) (len : BitVec 12) (rates : List TxRate), s.bssOn b.toNat = false →
    exec (.beaconTx b len rates) s = .next s) ∧
  (∀ (s : State) (r : Fin 3) (a : OnAir) (b : Nat) (f : Beacon), (s.radio r.val).air = some a → a.begun = false →
    a.t0 ≤ s.now → a.cmd.kind = .beacon b f → a.cmd.mpdus = [] →
    ((s.airBegins r.val).radio r.val).air = some { a with
      begun := true, cmd := { a.cmd with kind := .beacon b { f with timestamp := s.tsf r.val } } })

/-- WMAC takes an MPDU of reception x. -/
def heardIn (s : State) (m : RxMpduIn) (x : RxPpdu) : Prop :=
  s.takesWork wmacBlock = true ∧ s.inWatch = false ∧ s.bssOn m.bss.toNat = true ∧
    s.reception (s.bssRadio m.bss.toNat) m.back.toNat = some x ∧ x.hdrOk = true

/-- An MPDU of reception x, from peer n on its link l, with no initial control frame outstanding to the peer. -/
def fromPeer (s : State) (m : RxMpduIn) (n l : Nat) (x : RxPpdu) : Prop :=
  heardIn s m x ∧ s.findPeer m.bss.toNat m.a2 = some (n, l) ∧ (s.emlsr n).icf = none

/-- An unprotected, whole data MPDU from a peer, in a PPDU that elicits no response. -/
def plainData (s : State) (m : RxMpduIn) (n l : Nat) (x : RxPpdu) : Prop :=
  fromPeer s m n l x ∧ x.elicits = false ∧ m.mgmt = false ∧ m.prot = false ∧ m.oldCipher = false ∧ m.group = false ∧
    m.frag = 0 ∧ m.more = false ∧ m.amsdu = false ∧ (s.tid n m.tid.toNat).frag = none ∧ s.flowOf true n m.tid.toNat = none

/-- Reception (R234, R236 to R239, R245, R249). -/
def Obligations.WmacReception : Prop :=
  (∀ (s : State) (m : RxMpduIn) (x : RxPpdu), heardIn s m x → s.findPeer m.bss.toNat m.a2 = none →
    ∃ t, exec (.mpduRx m) s = .next t ∧
      (m.mgmt = true → t = { s with wmac := { s.wmac with fwRx := s.wmac.fwRx ++ [m.hdr ++ m.body] } }) ∧
      (m.mgmt = false → counted s t C.WMAC_RX_NO_PEER 1 ∧ onlyCtrs s t [C.WMAC_RX_NO_PEER] ∧ t = { s with ctrs := t.ctrs })) ∧
  (∀ (s : State) (m : RxMpduIn) (n l : Nat) (x : RxPpdu), plainData s m n l x → s.frameCipher n m.bss.toNat ≠ 0 →
    s.peerAuth n = true → isEapol m.body = false →
    ∃ t, exec (.mpduRx m) s = .next t ∧ counted s t C.WMAC_RX_NO_KEY 1 ∧ onlyCtrs s t [C.WMAC_RX_NO_KEY] ∧
      t = { s with ctrs := t.ctrs, rounds := t.rounds }) ∧
  (∀ (s : State) (m : RxMpduIn) (n l : Nat) (x : RxPpdu), plainData s m n l x → s.peerAuth n = false → isEapol m.body = false →
    ∃ t, exec (.mpduRx m) s = .next t ∧ counted s t C.WMAC_RX_UNAUTH 1 ∧ onlyCtrs s t [C.WMAC_RX_UNAUTH] ∧
      (n ∈ t.rounds.pmClear ↔ m.pmClear = true) ∧ t.rounds.sps = (s.markHeard n).rounds.sps ∧
      t = { s with ctrs := t.ctrs, rounds := t.rounds }) ∧
  (∀ (s : State) (m : RxMpduIn) (n l : Nat) (x : RxPpdu), plainData s m n l x → s.frameCipher n m.bss.toNat = 0 →
    s.peerAuth n = true → s.baRx n m.tid.toNat = false →
    ∃ t, exec (.mpduRx m) s = .next t ∧ counted s t C.WMAC_RX_MPDU 1 ∧
      (m.retry = true → (s.tid n m.tid.toNat).lastSn = some m.sn.toNat →
        counted s t C.WMAC_RX_DUP 1 ∧ t.wmac = s.wmac ∧ t.sort = s.sort) ∧
      ((m.retry = false ∨ (s.tid n m.tid.toNat).lastSn ≠ some m.sn.toNat) →
        onlyCtrs s t [C.WMAC_RX_MPDU] ∧ (t.tid n m.tid.toNat).lastSn = some m.sn.toNat ∧
        (s.flag F.WMAC_RX_CFG_TO_8023 = false → t.wmac.fwRx = s.wmac.fwRx ++ [m.hdr ++ m.body] ∧ t.sort = s.sort) ∧
        (s.flag F.WMAC_RX_CFG_TO_8023 = true → t.wmac.fwRx = s.wmac.fwRx ∧
          ∃ p, t.sort.arrivals = s.sort.arrivals ++ [p] ∧ p.src = 5 ∧ p.srcEg = 2 * 65536 + n ∧ p.wantReg = false ∧
            p.md.length = 4 ∧ p.md.getD 1 0 = BitVec.ofNat 32 (m.sn.toNat * 1048576) ∧
            getBits (p.md.getD 2 0) 16 8 =
              (s.atAntenna (s.bssRadio m.bss.toNat) (s.firstChain (s.bssRadio m.bss.toNat)) m.rssi).toNat ∧
            p.md.getD 3 0 = BitVec.ofNat 32 (x.stamp.1 % 2 * 2 ^ 31 + x.stamp.2.1 % 2 ^ 30) ∧
            p.bytes = toEthernet (getBits (s.bssWord m.bss.toNat 0) 0 12) m.tid.toNat (mpduEnds m).1
              (if s.peerMld n then s.peerAddr n else (mpduEnds m).2) m.body)) ∧
      t.regs = s.regs ∧ t.mem = s.mem) ∧
  (∀ (s : State) (m : RxMpduIn) (n l : Nat) (x : RxPpdu), plainData s m n l x → s.frameCipher n m.bss.toNat = 0 →
    s.peerAuth n = true → s.baRx n m.tid.toNat = true →
    2048 ≤ (m.sn.toNat + 4096 - (s.tid n m.tid.toNat).rxWin) % 4096 →
    ∃ t, exec (.mpduRx m) s = .next t ∧ t.wmac = s.wmac ∧ t.sort = s.sort ∧
      (m.sn.toNat ∉ (s.tid n m.tid.toNat).got → counted s t C.WMAC_RX_STALE 1)) ∧
  (∀ (s : State) (m : RxMpduIn) (sta tid : Nat), s.baRx sta tid = true → s.dupFlow sta tid = true →
    2048 ≤ (m.sn.toNat + 4096 - (s.tid sta tid).rxWin) % 4096 → m.sn.toNat ∈ (s.tid sta tid).got →
    s.dupOf sta tid m = some C.WMAC_RX_DUP_REG) ∧
  (∀ (s : State) (m : RxMpduIn) (n l : Nat) (x : RxPpdu), fromPeer s m n l x → m.mgmt = false → m.group = false →
    s.baRx n m.tid.toNat = true → x.elicits = true →
    (∀ c ∈ (s.radio (s.bssRadio m.bss.toNat)).cmds, c.kind.baOf x.id = none) →
    ∃ t c, exec (.mpduRx m) s = .next t ∧
      (t.radio (s.bssRadio m.bss.toNat)).cmds = (s.radio (s.bssRadio m.bss.toNat)).cmds ++ [c] ∧
      c.kind = .blockAck x.id [⟨n, m.tid.toNat, baSize (s.rxWin n m.tid.toNat), [m.sn.toNat]⟩] ∧
      c.timed = some (x.endT + (if s.bssRadio m.bss.toNat = 0 then 5000 else 8000), 200) ∧
      otherRadios s t (s.bssRadio m.bss.toNat)) ∧
  (∀ (s : State) (m : RxMpduIn) (n l : Nat) (x : RxPpdu), fromPeer s m n l x → m.mgmt = true → m.group = false →
    m.prot = false → m.robust = false →
    ∃ t, exec (.mpduRx m) s = .next t ∧
      (m.retry = true → sget (fun _ => none) s.wmac.mgmtRx n = some m.sn.toNat → counted s t C.WMAC_RX_DUP 1 ∧ t.wmac = s.wmac) ∧
      (m.retry = false ∨ sget (fun _ => none) s.wmac.mgmtRx n ≠ some m.sn.toNat →
        t.wmac.fwRx = s.wmac.fwRx ++ [m.hdr ++ m.body] ∧ sget (fun _ => none) t.wmac.mgmtRx n = some m.sn.toNat ∧
        t.ctrs = s.ctrs) ∧
      t.sort = s.sort ∧ t.regs = s.regs) ∧
  (∀ (s : State) (a : BitVec 11) (tid : BitVec 3) (ssn : BitVec 12), s.takesWork wmacBlock = true → s.peerValid a.toNat = true →
    s.baRx a.toNat tid.toNat = true → s.dupFlow a.toNat tid.toNat = false → (s.tid a.toNat tid.toNat).held = [] →
    0 < (ssn.toNat + 4096 - (s.tid a.toNat tid.toNat).rxWin) % 4096 →
    (ssn.toNat + 4096 - (s.tid a.toNat tid.toNat).rxWin) % 4096 < 2048 →
    ∃ t, exec (.blockAckReqRx a tid ssn) s = .next t ∧
      t.tid a.toNat tid.toNat = { s.tid a.toNat tid.toNat with rxWin := ssn.toNat, flush := none, got := [] } ∧
      (∀ k, k ≠ a.toNat * 8 + tid.toNat → sget (fun _ => {}) t.wmac.tids k = sget (fun _ => ({} : TidSt)) s.wmac.tids k) ∧
      t = { s with wmac := { s.wmac with tids := t.wmac.tids } }) ∧
  (∀ (s : State) (a : BitVec 11) (tid : BitVec 3) (ssn : BitVec 12) (h : Held) (x : List Byte × List Byte × List Byte),
    s.takesWork wmacBlock = true → s.peerValid a.toNat = true → s.baRx a.toNat tid.toNat = true →
    (s.tid a.toNat tid.toNat).held = [h] → h.pn = none → h.msdus = [x] → s.flag F.WMAC_RX_CFG_TO_8023 = false →
    (h.sn + 4096 - (s.tid a.toNat tid.toNat).rxWin) % 4096 < (ssn.toNat + 4096 - (s.tid a.toNat tid.toNat).rxWin) % 4096 →
    (ssn.toNat + 4096 - (s.tid a.toNat tid.toNat).rxWin) % 4096 < 2048 →
    ∃ t, exec (.blockAckReqRx a tid ssn) s = .next t ∧ (t.tid a.toNat tid.toNat).rxWin = ssn.toNat ∧
      (t.tid a.toNat tid.toNat).held = [] ∧ t.wmac.fwRx = s.wmac.fwRx ++ [h.hdr ++ x.2.2] ∧ t = { s with wmac := t.wmac }) ∧
  (∀ (s : State) (a : BitVec 11) (tid : BitVec 3) (ssn : BitVec 12),
    (s.baRx a.toNat tid.toNat = false ∨ (ssn.toNat + 4096 - (s.tid a.toNat tid.toNat).rxWin) % 4096 = 0 ∨
      2048 ≤ (ssn.toNat + 4096 - (s.tid a.toNat tid.toNat).rxWin) % 4096) →
    exec (.blockAckReqRx a tid ssn) s = .next s) ∧
  (∀ (s : State) (a : BitVec 11) (tid : BitVec 3) (u : Nat), (s.tid a.toNat tid.toNat).flush = some u →
    s.now < u + getBits (s.ctxWord a.toNat (15 + 2 * tid.toNat)) 16 16 * 500 →
    exec (.reorderFlush a tid) s = .next s) ∧
  (∀ (s : State) (a : BitVec 11) (tid : BitVec 3) (u : Nat) (h : Held) (x : List Byte × List Byte × List Byte),
    s.takesWork wmacBlock = true →
    (s.tid a.toNat tid.toNat).flush = some u → u + getBits (s.ctxWord a.toNat (15 + 2 * tid.toNat)) 16 16 * 500 ≤ s.now →
    s.flowOf true a.toNat tid.toNat = none → (s.tid a.toNat tid.toNat).held = [h] → h.pn = none → h.msdus = [x] →
    s.flag F.WMAC_RX_CFG_TO_8023 = false →
    ∃ t, exec (.reorderFlush a tid) s = .next t ∧
      counted s t C.WMAC_RX_FLUSHED ((h.sn + 4096 - (s.tid a.toNat tid.toNat).rxWin) % 4096) ∧
      onlyCtrs s t [C.WMAC_RX_FLUSHED] ∧
      (t.tid a.toNat tid.toNat).rxWin = (h.sn + 1) % 4096 ∧ (t.tid a.toNat tid.toNat).held = [] ∧
      (t.tid a.toNat tid.toNat).flush = none ∧ t.wmac.fwRx = s.wmac.fwRx ++ [h.hdr ++ x.2.2] ∧
      t = { s with ctrs := t.ctrs, wmac := t.wmac })

/-- Only domain d changes, and only in POSTMARK. -/
def onlyDomain (s t : State) (d : Nat) : Prop := t.dom (1 - d) = s.dom (1 - d) ∧ t = { s with time := t.time } ∧
  t.time = { s.time with domA := t.time.domA, domB := t.time.domB }

/-- Triggers and domain steps (R260, R261, R263, R267, R269 to R272, R285). -/
def Obligations.TriggersAndDomainSteps : Prop :=
  (∀ (s u : State) (k : Fin 16) (v : Word), s.takesWork 0x08 = true → u = s.touch (A.POSTMARK_TRG_CTRL k.val) →
    (k.val ≤ 3 ∨ 3 < getBits v 24 4 ∨
      (v.getLsbD 31 = true ∧ getBits v 29 2 = 3 ∧ s.fld (F.POSTMARK_TRG_PERIOD_PERIOD k.val) % 2 = 1) ∨
      (v.getLsbD 31 = true ∧ getBits v 29 2 ≠ 3 ∧ 1000000000 ≤ (s.rd (A.POSTMARK_TRG_NS k.val)).toNat)) →
    ∃ t, exec (.triggerArm k v) s = .next t ∧ refusedOnly u t (A.POSTMARK_TRG_CTRL k.val) 2) ∧
  (∀ (s u : State) (k : Fin 16) (v : Word), s.takesWork 0x08 = true → u = s.touch (A.POSTMARK_TRG_CTRL k.val) → 3 < k.val →
    getBits v 24 4 ≤ 3 → s.flag (F.POSTMARK_TRG_CTRL_EN k.val) = false →
    (v.getLsbD 31 = true → (if getBits v 29 2 = 3 then s.fld (F.POSTMARK_TRG_PERIOD_PERIOD k.val) % 2 = 0
      else (s.rd (A.POSTMARK_TRG_NS k.val)).toNat < 1000000000)) →
    ∃ t, exec (.triggerArm k v) s = .next t ∧ t.rd (A.POSTMARK_TRG_CTRL k.val) = v &&& 0xEFFF0000 ∧
      (v.getLsbD 31 = true → t.trgTime k.val ≤ t.trgBase k.val → u.trgForced k.val = none →
        t.trgForced k.val = some (u.time.tick + 1)) ∧
      onlyFields u t [whole (A.POSTMARK_TRG_CTRL k.val)] ∧
      t = { u with regs := t.regs, time := { u.time with forced := t.time.forced } }) ∧
  (∀ (s : State) (k : Fin 16), (s.flag (F.POSTMARK_TRG_CTRL_EN k.val) = false ∨ s.trgBase k.val < s.trgTime k.val ∨
      ∃ x, s.trgForced k.val = some x ∧ s.now < x.toNat) →
    exec (.triggerFire k) s = .next s) ∧
  (∀ (s : State) (k : Fin 16), s.takesWork 0x08 = true → s.trgDue k.val = true →
    s.fld (F.POSTMARK_TRG_CTRL_TARGET k.val) = 0 → s.fld (F.POSTMARK_TRG_PERIOD_PERIOD k.val) = 0 →
    ∃ t, exec (.triggerFire k) s = .next t ∧ t.flag (F.POSTMARK_TRG_CTRL_EN k.val) = false ∧
      t.flag (F.POSTMARK_TRG_STATUS_FIRED k.val) = true ∧
      t.flag (F.POSTMARK_TRG_STATUS_LATE k.val) = (s.trgLate k.val || s.flag (F.POSTMARK_TRG_STATUS_LATE k.val)) ∧
      t.fld (F.POSTMARK_TRG_STATUS_SKIPPED k.val) = s.fld (F.POSTMARK_TRG_STATUS_SKIPPED k.val) ∧
      onlyFields s t [F.POSTMARK_TRG_CTRL_EN k.val, F.POSTMARK_TRG_STATUS_FIRED k.val, F.POSTMARK_TRG_STATUS_LATE k.val,
        F.POSTMARK_TRG_STATUS_SKIPPED k.val] ∧
      t = { s with regs := t.regs, time := { s.time with forced := s.time.forced.filter (fun x => decide (x.1 ≠ k.val)) } }) ∧
  (∀ (s : State) (k : Fin 16) (p : Nat), s.takesWork 0x08 = true → s.trgDue k.val = true →
    s.fld (F.POSTMARK_TRG_CTRL_TARGET k.val) = 0 →
    s.fld (F.POSTMARK_TRG_CTRL_DOMAIN k.val) = 3 → p = s.fld (F.POSTMARK_TRG_PERIOD_PERIOD k.val) / 2 → p ≠ 0 →
    s.now + 4294967296 < 18446744073709551616 →
    ∃ t, exec (.triggerFire k) s = .next t ∧ t.flag (F.POSTMARK_TRG_CTRL_EN k.val) = true ∧
      t.flag (F.POSTMARK_TRG_STATUS_FIRED k.val) = true ∧
      t.trgTime k.val = s.trgTime k.val + ((s.now - s.trgTime k.val) / p + 1) * p ∧ s.now < t.trgTime k.val ∧
      t.fld (F.POSTMARK_TRG_STATUS_SKIPPED k.val) =
        min 65535 (s.fld (F.POSTMARK_TRG_STATUS_SKIPPED k.val) + (s.now - s.trgTime k.val) / p) ∧
      t = { s with regs := t.regs, time := { s.time with forced := s.time.forced.filter (fun x => decide (x.1 ≠ k.val)) } }) ∧
  (∀ (s : State) (k : Fin 16), s.trgDue k.val = true ↔ (s.flag (F.POSTMARK_TRG_CTRL_EN k.val) = true ∧
    s.trgTime k.val ≤ s.trgBase k.val ∧ ∀ x, s.trgForced k.val = some x → x.toNat ≤ s.now)) ∧
  (∀ (s : State) (k : Fin 16) (x : DWord), s.trgForced k.val = some x → s.trgLate k.val = true) ∧
  (∀ (s : State) (d : Fin 2), s.takesWork 0x08 = true → s.domValid d.val = true → s.fld (F.POSTMARK_DOM_CTRL_SERVO_TO_MS d.val) ≠ 0 →
    s.fld (F.POSTMARK_DOM_CTRL_SERVO_TO_MS d.val) * 500000 ≤ s.now - (s.dom d.val).watchdog.toNat →
    ∃ t, exec (.timeStale d) s = .next t ∧ t.domValid d.val = false ∧
      t.flag (F.POSTMARK_DOM_CTRL_STALE d.val) = true ∧ noted s t 0x18 d.val false ∧
      (s.flt.queue.length < 16 → (∀ r < 3, s.joint r ≠ jointJoint) →
        onlyFields s t [F.POSTMARK_DOM_CTRL_VALID d.val, F.POSTMARK_DOM_CTRL_STALE d.val] ∧
        t = { s with regs := t.regs, flt := t.flt })) ∧
  (∀ (s : State) (d : Fin 2), (s.domValid d.val = false ∨
    s.now - (s.dom d.val).watchdog.toNat < s.fld (F.POSTMARK_DOM_CTRL_SERVO_TO_MS d.val) * 500000) →
    exec (.timeStale d) s = .next s) ∧
  (∀ (s u : State) (d : Fin 2) (v : Word) (p : Nat), s.takesWork 0x08 = true → u = s.touch (A.POSTMARK_DOM_INC_NS d.val) →
    p = getBits v 0 4 * 4294967296 + (u.rd (A.POSTMARK_DOM_INC_FRAC d.val)).toNat →
    ∃ t, exec (.incNsWrite d v) s = .next t ∧
      (p = 0 → refusedOnly u t (A.POSTMARK_DOM_INC_NS d.val) 1) ∧
      (p ≠ 0 → (p < 0x1F0000000 ∨ 0x20FFFFFFF < p) → refusedOnly u t (A.POSTMARK_DOM_INC_NS d.val) 2) ∧
      (0x1F0000000 ≤ p → p ≤ 0x20FFFFFFF → (t.dom d.val).inc.toNat = p ∧
        t.dom d.val = { u.dom d.val with inc := (t.dom d.val).inc } ∧ t.dom (1 - d.val) = u.dom (1 - d.val) ∧
        t.rd (A.POSTMARK_DOM_INC_NS d.val) = BitVec.ofNat 32 (getBits v 0 4) ∧
        onlyFields u t [whole (A.POSTMARK_DOM_INC_NS d.val)] ∧ t = { u with regs := t.regs, time := t.time })) ∧
  (∀ (s u : State) (d : Fin 2), s.takesWork 0x08 = true → u = s.touch (A.POSTMARK_DOM_CMD d.val) →
    ∃ t, exec (.set d) s = .next t ∧
      t.dom d.val = { u.dom d.val with steps := (u.dom d.val).steps ++
        [.set (u.rd64 (A.POSTMARK_DOM_SET_SEC_LO d.val) (A.POSTMARK_DOM_SET_SEC_HI d.val) % 281474976710656)
          (u.fld (F.POSTMARK_DOM_SET_NS_NS d.val))] } ∧ onlyDomain u t d.val) ∧
  (∀ (s u : State) (d : Fin 2) (v : Word), s.takesWork 0x08 = true → u = s.touch (A.POSTMARK_DOM_ADJ d.val) →
    ∃ t, exec (.adj d v) s = .next t ∧ (v = 0 → t = u) ∧
      (v ≠ 0 → (v.toInt < -999999999 ∨ 999999999 < v.toInt) → refusedOnly u t (A.POSTMARK_DOM_ADJ d.val) 2) ∧
      (v ≠ 0 → -999999999 ≤ v.toInt → v.toInt ≤ 999999999 →
        t.dom d.val = { u.dom d.val with steps := (u.dom d.val).steps ++ [.adj v.toInt] } ∧ onlyDomain u t d.val)) ∧
  (∀ (x : TimeDomain) (sec ns : Nat), x.steps = [.set sec ns] →
    x.tick.sec = BitVec.ofNat 48 sec ∧ x.tick.ns = ns ∧ x.tick.frac = 0 ∧ x.tick.steps = []) ∧
  (∀ (x : TimeDomain) (n : Int), x.steps = [.adj n] →
    (x.tick.total : Int) =
      ((x.total : Int) + (x.inc.toNat : Int) + n * 4294967296) % 1208925819614629174706176000000000 ∧
    x.tick.ns < 1000000000 ∧ x.tick.steps = []) ∧
  (∀ (s u : State) (d : Fin 2), s.takesWork 0x08 = true → u = s.touch (A.POSTMARK_DOM_CMD d.val) →
    ∃ t, exec (.kick d) s = .next t ∧ (s.domValid d.val = false → t = u) ∧
      (s.domValid d.val = true → t.dom d.val = { u.dom d.val with watchdog := s.time.tick } ∧ onlyDomain u t d.val))

/-- The record that a capture writes now, with VALID of both domains (R263, R273). -/
def captureWords (s : State) : List Word :=
  [BitVec.ofNat 32 s.time.domA.ns, BitVec.ofNat 32 s.time.domA.sec.toNat, BitVec.ofNat 32 s.time.domB.ns,
   BitVec.ofNat 32 s.time.domB.sec.toNat, BitVec.ofNat 32 s.now, BitVec.ofNat 32 (s.now / 4294967296),
   BitVec.ofNat 32 (bit (s.domValid 0) * 2147483648 + bit (s.domValid 1) * 1073741824)]

/-- Channel c has captured. -/
def captured (s t : State) (c : Nat) : Prop :=
  sget (fun _ => []) t.time.caps c = captureWords s ∧ t.flag (F.POSTMARK_CAP_STATUS_NEW c) = true ∧
    t.flag (F.POSTMARK_CAP_STATUS_OVR c) = (s.flag (F.POSTMARK_CAP_STATUS_NEW c) || s.flag (F.POSTMARK_CAP_STATUS_OVR c)) ∧
    t.rd (A.POSTMARK_CAP_REC c 0) = BitVec.ofNat 32 s.time.domA.ns

/-- Channel c keeps its record and status. -/
def capKept (s t : State) (c : Nat) : Prop :=
  sget (fun _ => []) t.time.caps c = sget (fun _ => ([] : List Word)) s.time.caps c ∧
    t.rd (A.POSTMARK_CAP_STATUS c) = s.rd (A.POSTMARK_CAP_STATUS c)

/-- The device has switched to domain d (R265). -/
def switched (s t : State) (d : Nat) : Prop :=
  t.selected = d ∧ t.fld F.POSTMARK_SEL_SEL = d ∧
    t.fld F.POSTMARK_SEL_SWITCHES = min 255 (s.fld F.POSTMARK_SEL_SWITCHES + 1) ∧ t.time = { s.timeTick.time with forced := t.time.forced } ∧
    t.rd A.POSTMARK_SWITCH_DELTA_NS = BitVec.ofNat 32 (s.timeTick.switchDelta d % 1000000000).toNat ∧
    t.rd A.POSTMARK_SWITCH_DELTA_SEC = BitVec.ofInt 32 (s.timeTick.switchDelta d / 1000000000) ∧
    noted s t 0x19 d false ∧ (s.flt.queue.length < 16 → counted s t C.REGSVC_TIME_SWITCHES 1) ∧ t.mem = s.mem

/-- Reads, captures, CLK10M, PPS, queues, switch (R262, R264 to R266, R273, R274, R277, R286). -/
def Obligations.TimeReadsCapturesAndSwitch : Prop :=
  (∀ (s u : State) (d : Fin 2), s.takesWork 0x08 = true → u = s.touch (A.POSTMARK_DOM_NS d.val) →
    ∃ t, exec (.nsRead d) s = .next t ∧
    t.resp = { value := BitVec.ofNat 64 (u.dom d.val).ns, busError := false } ∧
    t.rd64 (A.POSTMARK_DOM_SEC_LO d.val) (A.POSTMARK_DOM_SEC_HI d.val) = (u.dom d.val).sec.toNat ∧
    t.rd (A.POSTMARK_DOM_FRAC d.val) = (u.dom d.val).frac ∧
    onlyFields u t [whole (A.POSTMARK_DOM_SEC_LO d.val), whole (A.POSTMARK_DOM_SEC_HI d.val),
      whole (A.POSTMARK_DOM_FRAC d.val)] ∧ t = { u with regs := t.regs, resp := t.resp }) ∧
  (∀ (s u : State) (wide : Bool), s.takesWork 0x08 = true → u = s.touch A.POSTMARK_LOCAL_LO →
    ∃ t, exec (.localLoRead wide) s = .next t ∧
    t.resp = { value := BitVec.ofNat 64 (if wide = true then s.now else s.now % 4294967296), busError := false } ∧
    (t.rd A.POSTMARK_LOCAL_HI).toNat = s.now / 4294967296 ∧ onlyFields u t [whole A.POSTMARK_LOCAL_HI] ∧
    t = { u with regs := t.regs, resp := t.resp }) ∧
  (∀ (s : State) (c : Fin 8) (n : Nat), s.takesWork 0x08 = true → s.flag (F.POSTMARK_CAP_CTRL_EN c.val) = true →
    n = s.fld (F.POSTMARK_CAP_CTRL_SOURCE c.val) → (n = 1 ∨ n = 2 ∨ (n = 3 ∧ ∃ x, s.ngr.rx = some x ∧ x.ref = s.now)) →
    ∃ t, exec (.capture c) s = .next t ∧ captured s t c.val ∧ (∀ k < 8, k ≠ c.val → capKept s t k) ∧
      onlyFields s t [whole (A.POSTMARK_CAP_REC c.val 0), F.POSTMARK_CAP_STATUS_NEW c.val, F.POSTMARK_CAP_STATUS_OVR c.val] ∧
      t = { s with regs := t.regs, time := { s.time with caps := t.time.caps } }) ∧
  (∀ (s : State) (c : Fin 8), s.flag (F.POSTMARK_CAP_CTRL_EN c.val) = false → exec (.capture c) s = .next s) ∧
  (∀ (s : State) (c : Fin 8), (s.fld (F.POSTMARK_CAP_CTRL_SOURCE c.val) = 0 ∨ 3 < s.fld (F.POSTMARK_CAP_CTRL_SOURCE c.val)) →
    exec (.capture c) s = .next s) ∧
  (∀ (s u : State) (v : Word), s.takesWork 0x08 = true → u = s.touch A.POSTMARK_CAP_CMD →
    ∃ t, exec (.capCmd v) s = .next t ∧
      (∀ c < 8, (v.getLsbD c = true ∧ u.flag (F.POSTMARK_CAP_CTRL_EN c) = true ∧ u.fld (F.POSTMARK_CAP_CTRL_SOURCE c) = 4) →
        captured u t c) ∧
      (∀ c < 8, ¬ (v.getLsbD c = true ∧ u.flag (F.POSTMARK_CAP_CTRL_EN c) = true ∧ u.fld (F.POSTMARK_CAP_CTRL_SOURCE c) = 4) →
        capKept u t c) ∧
      t = { u with regs := t.regs, time := { u.time with caps := t.time.caps } }) ∧
  (∀ (s u : State) (c : Fin 8) (a b e f g h v : Word), s.takesWork 0x08 = true → u = s.touch (A.POSTMARK_CAP_REC c.val 0) →
    sget (fun _ => []) s.time.caps c.val = [a, b, e, f, g, h, v] →
    ∃ t, exec (.captureRead c) s = .next t ∧ t.resp = { value := BitVec.ofNat 64 a.toNat, busError := false } ∧
      t.rd (A.POSTMARK_CAP_REC c.val 1) = b ∧ t.rd (A.POSTMARK_CAP_REC c.val 2) = e ∧
      t.rd (A.POSTMARK_CAP_REC c.val 3) = f ∧ t.rd (A.POSTMARK_CAP_REC c.val 4) = g ∧
      t.rd (A.POSTMARK_CAP_REC c.val 5) = h ∧
      onlyFields u t ((List.range 5).map (fun i => whole (A.POSTMARK_CAP_REC c.val (i + 1)))) ∧
      t = { u with regs := t.regs, resp := t.resp }) ∧
  (∀ s : State, s.takesWork 0x08 = true → ∃ t, exec .clk10mUpdate s = .next t ∧
    (s.flag F.POSTMARK_CLK10M_STATUS_PRESENT = false → t = s) ∧
    (s.flag F.POSTMARK_CLK10M_STATUS_PRESENT = true →
      t.rd A.POSTMARK_CLK10M_TICKS = BitVec.ofNat 32 (s.now - s.time.clk10m.toNat) ∧
      t.flag F.POSTMARK_CLK10M_STATUS_NEW = true ∧ t.time = { s.time with clk10m := s.time.tick } ∧
      onlyFields s t [whole A.POSTMARK_CLK10M_TICKS, F.POSTMARK_CLK10M_STATUS_NEW] ∧
      t = { s with regs := t.regs, time := t.time })) ∧
  (∀ s : State, s.takesWork 0x08 = true → ∃ t, exec .clk10mLoss s = .next t ∧ t.flag F.POSTMARK_CLK10M_STATUS_PRESENT = false ∧
    onlyFields s t [F.POSTMARK_CLK10M_STATUS_PRESENT] ∧ t = { s with regs := t.regs }) ∧
  (∀ s : State, s.takesWork 0x08 = true → ∃ t, exec .clk10mPresent s = .next t ∧ t.flag F.POSTMARK_CLK10M_STATUS_PRESENT = true ∧
    (s.flag F.POSTMARK_CLK10M_STATUS_PRESENT = true → t = s) ∧
    (s.flag F.POSTMARK_CLK10M_STATUS_PRESENT = false → t.time = { s.time with clk10m := s.time.tick } ∧
      onlyFields s t [F.POSTMARK_CLK10M_STATUS_PRESENT] ∧ t = { s with regs := t.regs, time := t.time })) ∧
  (∀ s : State, s.takesWork 0x08 = true → ∃ t, exec .ppsOut s = .next t ∧
    ((s.flag F.POSTMARK_PPS_CFG_EN = true ∧ (s.dom s.selected).onSecond = true ∧
      ∀ u, s.time.pps = some u → 250000000 ≤ s.now - u.toNat) →
      t = { s with time := { s.time with pps := some s.time.tick }, pins := { s.pins with ppsOut := true } }) ∧
    (¬ (s.flag F.POSTMARK_PPS_CFG_EN = true ∧ (s.dom s.selected).onSecond = true ∧
      ∀ u, s.time.pps = some u → 250000000 ≤ s.now - u.toNat) → t = s)) ∧
  (∀ (s u : State) (q : Fin 7) (v : Word), s.takesWork 0x08 = true → u = s.touch (A.POSTMARK_TSQ_IDX q.val) →
    ∃ t, exec (.tsqRdWrite q v) s = .next t ∧
      ((getBits v 0 16 + 65536 - u.fld (F.POSTMARK_TSQ_IDX_RD q.val)) % 65536 ≤ u.tsqHeld q.val →
        t.fld (F.POSTMARK_TSQ_IDX_RD q.val) = getBits v 0 16 ∧ onlyFields u t [F.POSTMARK_TSQ_IDX_RD q.val] ∧
        t = { u with regs := t.regs }) ∧
      (u.tsqHeld q.val < (getBits v 0 16 + 65536 - u.fld (F.POSTMARK_TSQ_IDX_RD q.val)) % 65536 →
        refusedOnly u t (A.POSTMARK_TSQ_IDX q.val) 2)) ∧
  (∀ (s u : State) (v : Word), s.takesWork 0x08 = true → u = s.touch A.POSTMARK_SEL → getBits v 0 1 ≠ s.selected →
    s.domValid (getBits v 0 1) = false →
    ∃ t, exec (.selWrite v) s = .next t ∧ refusedOnly u t A.POSTMARK_SEL 2) ∧
  (∀ (s u : State) (v : Word), s.takesWork 0x08 = true → u = s.touch A.POSTMARK_SEL → getBits v 0 1 = s.selected →
    ∃ t, exec (.selWrite v) s = .next t ∧ t.selected = s.selected ∧ t.fld F.POSTMARK_SEL_SEL = getBits v 0 1 ∧
      t.flag F.POSTMARK_SEL_AUTO = v.getLsbD 31 ∧ onlyFields u t [F.POSTMARK_SEL_AUTO, F.POSTMARK_SEL_SEL] ∧
      t = { u with regs := t.regs }) ∧
  (∀ (s u : State) (v : Word), s.takesWork 0x08 = true → u = s.touch A.POSTMARK_SEL → getBits v 0 1 ≠ s.selected →
    s.domValid (getBits v 0 1) = true → (∀ r < 3, s.joint r ≠ jointJoint) →
    ∃ t, exec (.selWrite v) s = .next t ∧ switched u t (getBits v 0 1) ∧ t.flag F.POSTMARK_SEL_AUTO = v.getLsbD 31) ∧
  (∀ s : State, s.takesWork 0x08 = true → s.flag F.POSTMARK_SEL_AUTO = true → s.domValid s.selected = false → s.domValid (1 - s.selected) = true →
    (∀ r < 3, s.joint r ≠ jointJoint) → ∃ t, exec .domainSwitch s = .next t ∧ switched s t (1 - s.selected)) ∧
  (∀ s : State, (s.flag F.POSTMARK_SEL_AUTO = false ∨ s.domValid s.selected = true) → exec .domainSwitch s = .next s)

/-- Local count of microsecond `us` of the round. -/
def roundTime (s : State) (r us : Nat) : Nat := (s.rnd r).boundary + us * 500

/-- Segment i of radio r, the interval `x`, begins in its round: its commands are queued up to 10 µs ahead
(notes/assumptions/108.md). -/
def segmentBegins (s : State) (r i : Nat) (x : Slot) : Prop :=
  x = s.segSlot r (s.planBank r) i ∧ s.roundsOn r = true ∧ (s.rnd r).ran.contains i = false ∧
    roundTime s r x.off ≤ s.now + 5000 ∧ s.now < roundTime s r x.stop

/-- A frame of ROUNDS waits at radio r. -/
def cmdsQueued (s t : State) (r : Nat) (cs : List AirCmd) : Prop :=
  (t.radio r).cmds = (s.radio r).cmds ++ cs ∧ otherRadios s t r

/-- A trigger frame for these users and a TB PPDU of `ul` ticks. -/
def triggerAt (r start : Nat) (bsrp : Bool) (users : List (Nat × Nat)) (ul : Nat) (rates : List TxRate) : AirCmd :=
  { kind := .trigger bsrp users ul, timed := some (start, 0), rates := rates
    resp := sifsOf r + ul + (if bsrp then 0 else multiAck r) }

/-- No user is an EMLSR client, or has a frame waiting on another link of an NSTR pair. -/
def plainUsers (s : State) (us : List (Nat × Nat)) : Prop := ∀ u ∈ us, s.isEmlsr u.1 = false ∧ s.nstrCmds u.1 u.2 = []

/-- Segment i has been marked as run. -/
def segmentRan (s t : State) (r i : Nat) : Prop :=
  (t.rnd r).ran = (s.rnd r).ran ++ [i] ∧ (t.rnd r).boundary = (s.rnd r).boundary ∧ ∀ q, q ≠ r → t.rnd q = s.rnd q

/-- The bits that a TWT entry's word 0 holds. -/
def twtWord (v : Word) : Word := v &&& 0xFFFF07FF

/-- Ticks of the first rate offered. -/
def firstDur (rates : List TxRate) : Nat := ((rates.head?).map (fun q => q.dur.toNat)).getD 0

/-- Plans, segments and service periods (R292, R294, R297 to R299, R301, R303, R304, R306, R316, R321). -/
def Obligations.PlansSegmentsAndServicePeriods : Prop :=
  (∀ (s u : State) (r : Fin 3) (v : Word), s.takesWork roundsBlock = true → u = s.touch (A.ROUNDS_PLAN_CMD r.val) →
    ∃ t, exec (.planSwap r v) s = .next t ∧ (v.getLsbD 0 = false → t = u) ∧
      (v.getLsbD 0 = true → u.fld (F.ROUNDS_PLAN_STATUS_RESULT r.val) = 1 → refusedOnly u t (A.ROUNDS_PLAN_CMD r.val) 2) ∧
      (v.getLsbD 0 = true → u.fld (F.ROUNDS_PLAN_STATUS_RESULT r.val) ≠ 1 →
        t.fld (F.ROUNDS_PLAN_STATUS_RESULT r.val) = 1 ∧ t.fld (F.ROUNDS_PLAN_STATUS_SEG r.val) = 0 ∧
        (t.rnd r.val).passed = none ∧
        onlyFields u t [F.ROUNDS_PLAN_STATUS_RESULT r.val, F.ROUNDS_PLAN_STATUS_SEG r.val] ∧
        t = { u with regs := t.regs, rounds := t.rounds })) ∧
  (∀ (s : State) (r : Fin 3), s.fld (F.ROUNDS_PLAN_STATUS_RESULT r.val) = 1 → (s.rnd r.val).passed = none →
    s.takesWork roundsBlock = true →
    ∃ t, exec (.planCheckDone r) s = .next t ∧
      (∀ i e, s.planFails r.val (1 - s.planBank r.val) = some (i, e) →
        t.fld (F.ROUNDS_PLAN_STATUS_RESULT r.val) = e ∧ t.fld (F.ROUNDS_PLAN_STATUS_SEG r.val) = i ∧
        onlyFields s t [F.ROUNDS_PLAN_STATUS_RESULT r.val, F.ROUNDS_PLAN_STATUS_SEG r.val] ∧ t = { s with regs := t.regs }) ∧
      (s.planFails r.val (1 - s.planBank r.val) = none →
        t.rnd r.val = { s.rnd r.val with passed := some s.now } ∧ t = { s with rounds := t.rounds })) ∧
  (∀ (s : State) (r : Fin 3), s.fld (F.ROUNDS_PLAN_STATUS_RESULT r.val) ≠ 1 → exec (.planCheckDone r) s = .next s) ∧
  (∀ (s : State) (r : Fin 3) (i : Fin 32) (x : SegmentIn), ((s.rnd r.val).ran.contains i.val = true ∨ s.roundsOn r.val = false ∨
    s.segKind r.val (s.planBank r.val) i.val = 0 ∨
    s.now + 5000 < roundTime s r.val (s.segSlot r.val (s.planBank r.val) i.val).off ∨
    roundTime s r.val (s.segSlot r.val (s.planBank r.val) i.val).stop ≤ s.now) → exec (.segmentStart r i x) s = .next s) ∧
  (∀ (s : State) (r : Fin 3) (i : Fin 32) (x : SegmentIn) (y : Slot), segmentBegins s r.val i.val y →
    s.segKind r.val (s.planBank r.val) i.val = 3 →
    ∃ t, exec (.segmentStart r i x) s = .next t ∧ segmentRan s t r.val i.val ∧
      counted s t (C.ROUNDS_AIR_QUIET_US r.val) y.len ∧
      onlyCtrs s t [C.ROUNDS_AIR_QUIET_US r.val] ∧ t = { s with ctrs := t.ctrs, rounds := t.rounds }) ∧
  (∀ (s : State) (r : Fin 3) (i : Fin 32) (x : SegmentIn) (y : Slot) (us : List (Nat × Nat)), segmentBegins s r.val i.val y →
    s.segKind r.val (s.planBank r.val) i.val = 2 → s.fld (F.ROUNDS_SEG_W1_TRIG r.val (s.planBank r.val) i.val) = 1 →
    s.candidates r.val i.val (roundTime s r.val y.off) true false = [] →
    us = s.ofdmaStations r.val i.val (roundTime s r.val y.off) → plainUsers s us → s.inTurns r.val = false →
    ∃ t, exec (.segmentStart r i x) s = .next t ∧ segmentRan s t r.val i.val ∧
      cmdsQueued s t r.val [triggerAt r.val (roundTime s r.val y.off) true us
        (min (min 2742000 x.dur.toNat) (y.len * 500 - firstDur x.rates - sifsOf r.val)) x.rates] ∧
      t = { s with rounds := t.rounds, air := t.air }) ∧
  (∀ (s : State) (r : Fin 3) (i : Fin 32) (x : SegmentIn) (y : Slot) (n l ul : Nat), segmentBegins s r.val i.val y →
    s.segKind r.val (s.planBank r.val) i.val = 2 → s.fld (F.ROUNDS_SEG_W1_TRIG r.val (s.planBank r.val) i.val) = 0 →
    s.candidates r.val i.val (roundTime s r.val y.off) true true = [n] → s.linkAt n r.val = some l → plainUsers s [(n, l)] →
    0 < s.staDeficit n → s.fld (F.ROUNDS_MU_CFG_MAX_USERS r.val) ≠ 0 → x.punct = 0 →
    s.fld (F.ROUNDS_MU_CFG_MIN_RU r.val) ≤ 3 + s.synthBw r.val → s.inTurns r.val = false →
    ul = min (min 2742000 x.dur.toNat) (y.len * 500 - firstDur x.rates - sifsOf r.val - multiAck r.val) →
    ∃ t k, exec (.segmentStart r i x) s = .next t ∧ segmentRan s t r.val i.val ∧
      cmdsQueued s t r.val [triggerAt r.val (roundTime s r.val y.off) false [(n, l)] ul x.rates] ∧
      s.fld (F.ROUNDS_MU_CFG_MIN_RU r.val) ≤ k ∧ k ≤ 3 + s.synthBw r.val ∧
      t.staDeficit n = s.staDeficit n - ((divRound (ul * ruTones k) (ruTones (3 + s.synthBw r.val) * 500) : Nat) : Int) ∧
      counted s t (C.ROUNDS_TB_EMPTY r.val) (if x.silent.any (fun m => decide (m.toNat = n)) then 1 else 0) ∧
      onlyFields s t [F.ROUNDS_STA_W1_DEFICIT_US (n - 1)] ∧ onlyCtrs s t [C.ROUNDS_TB_EMPTY r.val]) ∧
  (∀ (s : State) (r : Fin 3) (i : Fin 32) (x : SegmentIn) (y : Slot) (g t0 d n : Nat) (us : List (Nat × Nat)),
    segmentBegins s r.val i.val y → s.segKind r.val (s.planBank r.val) i.val = 4 →
    (List.range 32).filter (fun g => s.flag (F.ROUNDS_MUG_W0_VALID r.val g)) = [g] → t0 = roundTime s r.val y.off →
    s.soundUsers r.val g t0 = some us → us ≠ [] → plainUsers s us → us.length ≤ muLimit r.val →
    s.inTurns r.val = false → d = firstDur x.rates → n = sifsOf r.val →
    32000 + d + 3 * n + x.dur.toNat ≤ y.len * 500 →
    ∃ t, exec (.segmentStart r i x) s = .next t ∧ segmentRan s t r.val i.val ∧
      cmdsQueued s t r.val [{ kind := .ndpa us, timed := some (t0, 0), rates := [controlRate false] },
        { kind := .ndp, timed := some (t0 + 16000 + n, 200), rates := x.rates },
        { kind := .bfPoll us, timed := some (t0 + 16000 + n + d + n, 200), rates := [controlRate true]
          resp := n + x.dur.toNat }] ∧
      (x.reports = [] → t.rounds.sounded = s.rounds.sounded ∧ t.rounds.feedback = s.rounds.feedback) ∧
      (∀ m b l, x.reports = [(m, b)] → us = [(m.toNat, l)] →
        sget (fun _ => none) t.rounds.sounded (r.val * 32 + g) = some t0 ∧
        sget (fun _ => none) t.rounds.feedback m.toNat = some b) ∧
      t = { s with rounds := t.rounds, air := t.air }) ∧
  (∀ (s : State) (r : Fin 3) (i : Fin 32) (x : SegmentIn) (y : Slot), segmentBegins s r.val i.val y →
    s.segKind r.val (s.planBank r.val) i.val ≠ 0 → s.segKind r.val (s.planBank r.val) i.val ≠ 3 → s.inTurns r.val = true →
    (∀ z ∈ s.turns r.val, s.turnOther r.val z.index = true) →
    ∃ t, exec (.segmentStart r i x) s = .next t ∧ segmentRan s t r.val i.val ∧ t = { s with rounds := t.rounds }) ∧
  (∀ (s u : State) (a : BitVec 10) (v : Word), s.takesWork roundsBlock = true → u = s.touch (A.ROUNDS_TWT_W0 a.toNat) →
    (getBits v 29 2 = 3 ∨ 24 ≤ getBits v 16 5) →
    ∃ t, exec (.twtEntryWrite a v) s = .next t ∧ refusedOnly u t (A.ROUNDS_TWT_W0 a.toNat) 2) ∧
  (∀ (s u : State) (a : BitVec 10) (v : Word), s.takesWork roundsBlock = true → u = s.touch (A.ROUNDS_TWT_W0 a.toNat) →
    getBits v 29 2 ≠ 3 → getBits v 16 5 < 24 → v.getLsbD 31 = true →
    (u.fld (F.ROUNDS_TWT_W1_INTERVAL_ROUNDS a.toNat) = 0 ∨ u.fld (F.ROUNDS_TWT_W2_SP_LEN_US a.toNat) = 0) →
    ∃ t, exec (.twtEntryWrite a v) s = .next t ∧ refusedOnly u t (A.ROUNDS_TWT_W0 a.toNat) 1) ∧
  (∀ (s u : State) (a : BitVec 10) (v : Word), s.takesWork roundsBlock = true → u = s.touch (A.ROUNDS_TWT_W0 a.toNat) →
    getBits v 29 2 ≠ 3 → getBits v 16 5 < 24 → v.getLsbD 31 = false →
    ∃ t, exec (.twtEntryWrite a v) s = .next t ∧ t.rd (A.ROUNDS_TWT_W0 a.toNat) = twtWord v ∧
      onlyFields u t [whole (A.ROUNDS_TWT_W0 a.toNat)] ∧ t = { u with regs := t.regs }) ∧
  (∀ (s u : State) (a : BitVec 10) (v : Word) (r : Nat) (x : Slot), s.takesWork roundsBlock = true →
    u = s.touch (A.ROUNDS_TWT_W0 a.toNat) →
    getBits v 29 2 = 0 → getBits v 16 5 = 0 → 1 ≤ getBits v 0 11 → getBits v 0 11 ≤ 1024 → v.getLsbD 31 = true →
    r = u.bssRadio (getBits v 21 6) → r ≤ 2 →
    x = ⟨a.toNat, u.fld (F.ROUNDS_TWT_W2_SP_OFFSET_US a.toNat), u.fld (F.ROUNDS_TWT_W2_SP_LEN_US a.toNat)⟩ →
    x.len ≠ 0 → x.stop ≤ u.roundUs r →
    u.fld (F.ROUNDS_TWT_W1_PHASE_ROUND a.toNat) < u.fld (F.ROUNDS_TWT_W1_INTERVAL_ROUNDS a.toNat) →
    ∃ t, exec (.twtEntryWrite a v) s = .next t ∧ t = { u with regs := t.regs } ∧
      (u.twtHits r a.toNat x = none → t.rd (A.ROUNDS_TWT_W0 a.toNat) = twtWord v ∧
        onlyFields u t [whole (A.ROUNDS_TWT_W0 a.toNat)]) ∧
      (∀ w i, u.twtHits r a.toNat x = some (w, i) → t.fld (F.ROUNDS_CONFLICT_WITH r) = w ∧
        t.fld (F.ROUNDS_CONFLICT_INDEX r) = i ∧ t.rd (A.ROUNDS_TWT_W0 a.toNat) = u.rd (A.ROUNDS_TWT_W0 a.toNat) ∧
        (getBits (u.rd (cfgStatusOf (A.ROUNDS_TWT_W0 a.toNat))) 0 8 = 0 →
          getBits (t.rd (cfgStatusOf (A.ROUNDS_TWT_W0 a.toNat))) 0 8 = 2))) ∧
  (∀ (s : State) (a : BitVec 10) (ul : BitVec 24) (rates : List TxRate) (r off t0 t1 n room used : Nat),
    r = s.bssRadio (s.fld (F.ROUNDS_TWT_W0_BSS a.toNat)) → s.flag (F.ROUNDS_TWT_W0_VALID a.toNat) = true →
    s.roundsOn r = true → off = s.fld (F.ROUNDS_TWT_W2_SP_OFFSET_US a.toNat) → t0 = roundTime s r off →
    t1 = t0 + s.fld (F.ROUNDS_TWT_W2_SP_LEN_US a.toNat) * 500 → t0 ≤ s.now + 5000 → s.now < t1 →
    s.fld (F.ROUNDS_ROUND_NUM_NUM r) % s.fld (F.ROUNDS_TWT_W1_INTERVAL_ROUNDS a.toNat) =
      s.fld (F.ROUNDS_TWT_W1_PHASE_ROUND a.toNat) → s.rounds.sps = [] → s.fld (F.ROUNDS_TWT_W0_TYPE a.toNat) = 0 →
    n = s.fld (F.ROUNDS_TWT_W0_STA_ID a.toNat) → room = min (s.room r off) (t1 - t0) →
    used = firstDur rates + sifsOf r + multiAck r →
    ∃ t, exec (.twtSpStart a ul rates) s = .next t ∧
      t.rounds = { s.rounds with sps := [(r, { entry := a.toNat, start := t0, stop := t1 })] } ∧
      (∀ l, s.flag (F.ROUNDS_TWT_W0_TRIGGERED a.toNat) = true → s.linkAt n r = some l → plainUsers s [(n, l)] → used < room →
        cmdsQueued s t r [triggerAt r t0 false [(n, l)] (min ul.toNat (room - used)) rates]) ∧
      ((s.flag (F.ROUNDS_TWT_W0_TRIGGERED a.toNat) = false ∨ s.linkAt n r = none ∨ room ≤ used) →
        t = { s with rounds := t.rounds }) ∧ t.regs = s.regs) ∧
  (∀ (s : State) (a : BitVec 10) (n : BitVec 11) (r : Nat) (x : SpRun), s.takesWork roundsBlock = true →
    s.rounds.sps = [(r, x)] → x.entry = a.toNat →
    x.stop ≤ s.now → x.heard.contains n.toNat = false → (s.twtMembers a.toNat).contains n.toNat = true →
    ∃ t, exec (.twtMissed a n) s = .next t ∧ counted s t (C.ROUNDS_TWT_MISSED r) 1 ∧
      onlyCtrs s t [C.ROUNDS_TWT_MISSED r] ∧
      t = { s with ctrs := t.ctrs, rounds := { s.rounds with sps := [(r, { x with heard := x.heard ++ [n.toNat] })] } }) ∧
  (∀ (s : State) (a : BitVec 10) (n : BitVec 11), s.rounds.sps = [] → exec (.twtMissed a n) s = .next s) ∧
  (∀ (s : State) (i : BitVec 8) (idle ul : BitVec 24) (rates : List TxRate) (r t0 t1 n used room : Nat),
    r = s.fld (F.ROUNDS_RSP_W0_RADIO i.toNat) →
    s.flag (F.ROUNDS_RSP_W0_VALID i.toNat) = true → s.roundsOn r = true →
    s.rspIn i.toNat (s.fld (F.ROUNDS_ROUND_NUM_NUM r)) = true → t0 = roundTime s r (s.fld (F.ROUNDS_RSP_W1_OFFSET_US i.toNat)) →
    t1 = t0 + s.fld (F.ROUNDS_RSP_W1_LEN_US i.toNat) * 500 → t0 ≤ s.now + 5000 → s.now < t1 →
    s.rounds.rsps = [] → n = s.fld (F.ROUNDS_RSP_W0_STA_ID i.toNat) → room = t1 - (t0 + idle.toNat) →
    used = firstDur rates + sifsOf r + multiAck r →
    (s.flag (F.ROUNDS_RSP_W0_DIR i.toNat) = true ∨ s.linkAt n r = none ∨ room = 0) →
    ∃ t, exec (.rspStart i idle ul rates) s = .next t ∧
      t.rounds.rsps = [{ index := i.toNat, start := t0, stop := t1 }] ∧
      counted s t (C.ROUNDS_AIR_RSP_US r) (s.fld (F.ROUNDS_RSP_W1_LEN_US i.toNat)) ∧
      counted s t (C.ROUNDS_RSP_BUSY_START r) (if idle = 0 then 0 else 1) ∧
      (∀ l, s.flag (F.ROUNDS_RSP_W0_DIR i.toNat) = true → s.linkAt n r = some l → plainUsers s [(n, l)] → used < room →
        cmdsQueued s t r [triggerAt r (t0 + idle.toNat) false [(n, l)] (min ul.toNat (room - used)) rates]) ∧
      ((s.linkAt n r = none ∨ room ≤ used) → t.air = s.air) ∧ t.regs = s.regs ∧ t.mem = s.mem) ∧
  (∀ (s : State) (i : BitVec 8) (idle ul : BitVec 24) (rates : List TxRate), s.flag (F.ROUNDS_RSP_W0_VALID i.toNat) = false →
    exec (.rspStart i idle ul rates) s = .next s)

/-- Joint rounds and boundaries (R263, R289, R290, R294, R312, R313, R315, R317). That the TSF takes a boundary's
correction at that boundary is the model's reading (notes/assumptions/47.md). -/
def Obligations.JointRoundsAndBoundaries : Prop :=
  (∀ (s u : State) (r : Fin 3) (v : Word), s.takesWork roundsBlock = true → u = s.touch (A.ROUNDS_JOINT_CTRL r.val) → u.joined r.val = true →
    ∃ t, exec (.join r v) s = .next t ∧
      (getBits v 24 3 = u.fld (F.ROUNDS_JOINT_CTRL_MEMBER r.val) → getBits v 16 8 = u.fld (F.ROUNDS_JOINT_CTRL_GEN r.val) →
        t = u) ∧
      (¬ (getBits v 24 3 = u.fld (F.ROUNDS_JOINT_CTRL_MEMBER r.val) ∧
        getBits v 16 8 = u.fld (F.ROUNDS_JOINT_CTRL_GEN r.val)) → refusedOnly u t (A.ROUNDS_JOINT_CTRL r.val) 2)) ∧
  (∀ (s u : State) (r : Fin 3) (v : Word), s.takesWork roundsBlock = true → u = s.touch (A.ROUNDS_JOINT_CTRL r.val) → u.joined r.val = false →
    (u.rnd r.val).leaving = false →
    ∃ t, exec (.join r v) s = .next t ∧
      (u.fld (F.ROUNDS_START_ROUND_ROUND r.val) = 0 → refusedOnly u t (A.ROUNDS_JOINT_CTRL r.val) 1) ∧
      (∀ c a b, u.joinError r.val (getBits v 24 3) = some (c, some (a, b)) →
        t.fld (F.ROUNDS_CONFLICT_WITH r.val) = a ∧ t.fld (F.ROUNDS_CONFLICT_INDEX r.val) = b ∧ t.joined r.val = false ∧
        (getBits (u.rd (cfgStatusOf (A.ROUNDS_JOINT_CTRL r.val))) 0 8 = 0 →
          getBits (t.rd (cfgStatusOf (A.ROUNDS_JOINT_CTRL r.val))) 0 8 = c.num) ∧ t = { u with regs := t.regs }) ∧
      (u.joinError r.val (getBits v 24 3) = none → t.joined r.val = true ∧ t.joint r.val = jointJoining ∧
        t.fld (F.ROUNDS_JOINT_CTRL_MEMBER r.val) = getBits v 24 3 ∧ t.fld (F.ROUNDS_JOINT_CTRL_GEN r.val) = getBits v 16 8 ∧
        t.rnd r.val = { u.rnd r.val with armed := false, holdRounds := 0 } ∧
        onlyFields u t [F.ROUNDS_JOINT_CTRL_JOIN r.val, F.ROUNDS_JOINT_CTRL_MEMBER r.val, F.ROUNDS_JOINT_CTRL_GEN r.val,
          F.ROUNDS_JOINT_CTRL_STATE r.val] ∧ t = { u with regs := t.regs, rounds := t.rounds })) ∧
  (∀ (s u : State) (r : Fin 3) (v : Word), s.takesWork roundsBlock = true → u = s.touch (A.ROUNDS_JOINT_CTRL r.val) → u.joined r.val = true →
    getBits v 24 3 = u.fld (F.ROUNDS_JOINT_CTRL_MEMBER r.val) → getBits v 16 8 = u.fld (F.ROUNDS_JOINT_CTRL_GEN r.val) →
    ∃ t, exec (.left r v) s = .next t ∧ t.joined r.val = false ∧ t.joint r.val = u.joint r.val ∧
      t.rnd r.val = { u.rnd r.val with leaving := true } ∧ onlyFields u t [F.ROUNDS_JOINT_CTRL_JOIN r.val] ∧
      t = { u with regs := t.regs, rounds := t.rounds }) ∧
  (∀ (s u : State) (r : Fin 3) (v : Word), s.takesWork roundsBlock = true → u = s.touch (A.ROUNDS_JOINT_CTRL r.val) → u.joined r.val = false →
    ∃ t, exec (.left r v) s = .next t ∧ t.fld (F.ROUNDS_JOINT_CTRL_MEMBER r.val) = getBits v 24 3 ∧
      t.fld (F.ROUNDS_JOINT_CTRL_GEN r.val) = getBits v 16 8 ∧ t.joined r.val = false ∧
      onlyFields u t [F.ROUNDS_JOINT_CTRL_MEMBER r.val, F.ROUNDS_JOINT_CTRL_GEN r.val] ∧ t = { u with regs := t.regs }) ∧
  (∀ (s : State) (r : Fin 3) (b : List Byte) (a : Option (List Byte)), (∀ m < 8, s.peerOn r.val m = false) →
    exec (.peerBeaconRx r b a) s = .next s) ∧
  (∀ (s : State) (r : Fin 3) (b : List Byte) (a : Option (List Byte)) (m : Nat), s.takesWork roundsBlock = true →
    (List.range 8).find? (fun m => s.peerOn r.val m && decide (b = leBytes 4 (s.fld (F.ROUNDS_PEER_W0_BSSID_LO r.val m)) ++
      leBytes 2 (s.fld (F.ROUNDS_PEER_W1_BSSID_HI r.val m)))) = some m →
    ∃ t, exec (.peerBeaconRx r b a) s = .next t ∧
      (∃ p, sget (fun _ => none) (t.rnd r.val).peers m = some p ∧ p.heard = (s.rnd r.val).count ∧
        p.attr = a ∧ (s.peerAgrees r.val p = true ↔ ∃ x, a = some x ∧ s.samePlan r.val x = true)) ∧
      (2 ≤ s.joint r.val → (a = none ∨ ∃ x, a = some x ∧ attrField x 0 1 ≠ s.fld (F.ROUNDS_JOINT_CTRL_GEN r.val)) → t.joint r.val = jointSolo ∧ t.joined r.val = false ∧
        t.fld (F.ROUNDS_JOINT_CTRL_LAST r.val) = 3 ∧ noted s t 0x1A r.val false) ∧
      ((s.joint r.val < 2 ∨ ∃ x, a = some x ∧ attrField x 0 1 = s.fld (F.ROUNDS_JOINT_CTRL_GEN r.val)) → onlyFields s t [F.ROUNDS_PEER_STATUS_SEEN r.val, F.ROUNDS_PEER_STATUS_GEN_OK r.val,
        F.ROUNDS_PEER_STATUS_HOLD r.val] ∧ t = { s with regs := t.regs, rounds := t.rounds })) ∧
  (∀ (s : State) (k : Fin 16) (r : Nat), r = k.val → r ≤ 2 → s.takesWork 0x08 = true → s.trgDue r = true → s.inWatch = false → (s.rnd r).halted = false →
    s.fld (F.POSTMARK_TRG_CTRL_DOMAIN r) = 3 → s.fld (F.POSTMARK_TRG_CTRL_TARGET r) = 4 →
    s.fld (F.POSTMARK_TRG_PERIOD_PERIOD r) = 0 → s.joint r = jointSolo →
    (s.rnd r).leaving = false → s.trgTime r + 4294967296 < 18446744073709551616 →
    ∃ t, exec (.triggerFire k) s = .next t ∧
      t.fld (F.ROUNDS_ROUND_NUM_NUM r) = (s.fld (F.ROUNDS_ROUND_NUM_NUM r) + 1) % 4294967296 ∧
      counted s t (C.ROUNDS_ROUNDS_RUN r) 1 ∧ (t.rnd r).boundary = s.trgTime r ∧ (t.rnd r).ran = [] ∧
      t.flag (F.POSTMARK_TRG_CTRL_EN r) = true ∧ t.trgTime r = s.trgTime r + s.roundUs r * 500 ∧
      t.joint r = jointSolo ∧
      ((s.rnd r).passed = none → t.planBank r = s.planBank r) ∧
      (∀ u, (s.rnd r).passed = some u → u + 2500 ≤ s.now → t.planBank r = 1 - s.planBank r ∧
        t.fld (F.ROUNDS_PLAN_STATUS_RESULT r) = 2) ∧
      counted s t (C.ROUNDS_BOUNDARY_LATE r) (if s.trgLate r = true then 1 else 0) ∧
      t.mem = s.mem ∧ t.air = s.air) ∧
  (∀ (s : State) (k : Fin 16) (r : Nat), r = k.val → r ≤ 2 → s.takesWork 0x08 = true → s.trgDue r = true → s.inWatch = true →
    s.fld (F.POSTMARK_TRG_CTRL_DOMAIN r) = 3 → s.fld (F.POSTMARK_TRG_CTRL_TARGET r) = 4 →
    s.fld (F.POSTMARK_TRG_PERIOD_PERIOD r) = 0 → s.trgTime r + 4294967296 < 18446744073709551616 →
    ∃ t, exec (.triggerFire k) s = .next t ∧ t.fld (F.ROUNDS_ROUND_NUM_NUM r) = s.fld (F.ROUNDS_ROUND_NUM_NUM r) ∧
      t.ctrs = s.ctrs ∧ (t.rnd r).halted = true ∧ t.roundsOn r = false ∧
      t.flag (F.POSTMARK_TRG_CTRL_EN r) = true ∧ t.trgTime r = s.trgTime r + s.roundUs r * 500 ∧ t.air = s.air) ∧
  (∀ (s : State) (d : Fin 2) (r : Fin 3), s.takesWork 0x08 = true → s.watchdogOut d.val = true → s.selected = d.val → s.joint r.val = jointJoint →
    s.flag F.POSTMARK_SEL_AUTO = false →
    ∃ t, exec (.timeStale d) s = .next t ∧ t.joint r.val = jointHold ∧ (t.rnd r.val).holdRounds = 0 ∧
      counted s t (C.ROUNDS_JOINT_HOLDS r.val) 1 ∧ t.joined r.val = s.joined r.val) ∧
  (∀ (s : State) (k : Fin 16) (r : Nat), r = k.val → r ≤ 2 → s.takesWork 0x08 = true → s.trgDue r = true → s.inWatch = false → (s.rnd r).halted = false →
    s.fld (F.POSTMARK_TRG_CTRL_DOMAIN r) = 3 → s.fld (F.POSTMARK_TRG_CTRL_TARGET r) = 4 →
    s.fld (F.POSTMARK_TRG_PERIOD_PERIOD r) = 0 → s.joint r = jointSolo →
    (s.rnd r).leaving = false →
    ∃ t, exec (.triggerFire k) s = .next t ∧ (t.rnd r).slew = 0 ∧
      (t.rnd r).tsfAdj = (s.rnd r).tsfAdj - (s.rnd r).slew ∧
      (t.rd64 (A.ROUNDS_ROUND_TSF_LO r) (A.ROUNDS_ROUND_TSF_HI r)) =
        (((s.now : Int) + (s.rnd r).tsfAdj - (s.rnd r).slew).toNat / 500) % 18446744073709551616)

/-- A Nguord reception that starts with number n at local count `ref`. -/
def ngStarted (s t : State) (p : NgPreamble) : Prop :=
  t.air = { s.air with nextRx := s.air.nextRx + 1 } ∧ ∃ x, t.ngr.rx = some x ∧ x.id = s.air.nextRx ∧ x.hdr = none ∧
    x.ref = s.now + p.ref.toNat ∧ x.order = s.fld F.NGR_PHY_CFG_ORDER ∧ x.capDb = s.fld F.NGR_RX_CFG_CAP_DB ∧
    x.cancelled = false ∧ x.agc = p.agc

/-- No codeword waits or is being decoded. -/
def poolIdle (s : State) : Prop := s.ldpc.waiting = [] ∧ ∀ e, s.decoding e = none

/-- The reception x alone has reached its end with the header h, and no codeword of it is in the pool. -/
def ngAtEnd (s : State) (x : NgRx) (h : NgHeader) : Prop :=
  s.ngr.rx = some x ∧ s.ngr.done = [] ∧ x.hdr = some h ∧ x.endT ≤ s.now ∧ s.ngDecoding x = false

/-- Nguord receptions (R328, R329, R336, R337, R339, R340, R351, R356). -/
def Obligations.NguordReceptions : Prop :=
  (∀ (s : State) (p : NgPreamble), s.ngListens = false → exec (.ngRxDetect p) s = .next s) ∧
  (∀ (s : State) (p : NgPreamble), s.takesWork 0xC0 = true → s.ngListens = true → s.ngr.rx = none →
    ∃ t, exec (.ngRxDetect p) s = .next t ∧
      (s.ngCodeOk p = false → counted s t C.NGR_RX_WRONG_CODE 1 ∧ onlyCtrs s t [C.NGR_RX_WRONG_CODE, C.NGR_RX_SAT] ∧
        t = { s with ctrs := t.ctrs }) ∧
      (s.ngCodeOk p = true → ngStarted s t p ∧ onlyCtrs s t [C.NGR_RX_SAT] ∧
        t = { s with ctrs := t.ctrs, air := t.air, ngr := { s.ngr with rx := t.ngr.rx } }) ∧
      (∀ x, t.ngr.rx = some x → s.fld F.NGR_RX_CFG_ANT_MODE ≤ 1 → x.port = s.fld F.NGR_RX_CFG_ANT_MODE ∧
        x.power = p.power.toInt) ∧
      (s.fld F.NGR_RX_CFG_ANT_MODE ≤ 1 → counted s t C.NGR_RX_SAT (if p.sat = true then 1 else 0)) ∧
      (∀ x q, t.ngr.rx = some x → s.fld F.NGR_RX_CFG_ANT_MODE = 2 →
        s.fld F.NGR_RX_CFG_DIV_SYM * chirpTs (s.fld F.NGR_PHY_CFG_ORDER) s.ngBw < p.ref.toNat → p.sat = false →
        p.other = some (q, false) →
        x.port = if p.power.toInt + 4 * s.fld F.NGR_RX_CFG_DIV_HYST ≤ q.toInt then 1 - s.ngr.lastPort else s.ngr.lastPort) ∧
      (∀ x q, t.ngr.rx = some x → s.fld F.NGR_RX_CFG_ANT_MODE = 2 →
        s.fld F.NGR_RX_CFG_DIV_SYM * chirpTs (s.fld F.NGR_PHY_CFG_ORDER) s.ngBw < p.ref.toNat → p.sat = false →
        p.other = some (q, true) → x.port = 1 - s.ngr.lastPort)) ∧
  (∀ (s : State) (bits : BitVec 192), s.ngr.rx = none → exec (.ngHeaderResult bits) s = .next s) ∧
  (∀ (s : State) (bits : BitVec 192) (x : NgRx) (ok : Bool), s.takesWork 0xC0 = true → s.ngr.rx = some x → x.hdr = none →
    x.hdrDec = some ok → (ok = false ∨ ngHeaderWord bits = false ∨ bits.toNat % 4 ≠ 0 ∨ 2 < bits.toNat / 4 % 4) →
    ∃ t, exec (.ngHeaderResult bits) s = .next t ∧ t.ngr.rx = none ∧ counted s t C.NGR_RX_HDR_FAIL 1 ∧
      onlyCtrs s t [C.NGR_RX_HDR_FAIL] ∧ t = { s with ctrs := t.ctrs, ngr := { s.ngr with rx := none } }) ∧
  (∀ (s : State) (bits : BitVec 192) (x : NgRx) (h : NgHeader), s.takesWork 0xC0 = true → s.ngr.rx = some x → x.hdr = none → x.hdrDec = some true →
    ngHeaderWord bits = true →
    bits.toNat % 4 = 0 → bits.toNat / 4 % 4 ≤ 2 → h = ngHeader bits.toNat → x.port ≤ 1 →
    ∃ t y, exec (.ngHeaderResult bits) s = .next t ∧ t.ngr.rx = some y ∧ y.hdr = some h ∧ y.id = x.id ∧ y.ref = x.ref ∧
      y.endT = x.ref + chirpTs x.order s.ngBw * ngSymbols x.order h.cr h.length ∧
      getBits (t.rd A.NGR_RX_LAST0) 16 16 = unsgn 16 x.power ∧ getBits (t.rd A.NGR_RX_LAST0) 7 1 = x.port ∧
      t.ngr.lastPort = x.port ∧
      (h.ranging = false → s.ngWants h.link ≠ some true → y.cancelled = true) ∧
      ((h.ranging = true ∨ s.ngWants h.link = some true) → y.cancelled = x.cancelled ∧ t.ctrs = s.ctrs ∧
        onlyFields s t [whole A.NGR_RX_LAST0] ∧ t = { s with regs := t.regs, ngr := t.ngr })) ∧
  (∀ (s : State) (crc : BitVec 16) (psdu : List Byte), s.ngr.rx = none → s.ngr.done = [] →
    exec (.ngRxEnd crc psdu) s = .next s) ∧
  (∀ (s : State) (crc : BitVec 16) (psdu bytes : List Byte) (x : NgRx) (h : NgHeader), s.takesWork 0xC0 = true → ngAtEnd s x h →
    bytes = (psdu ++ List.replicate h.length 0).take h.length →
    ∃ t, exec (.ngRxEnd crc psdu) s = .next t ∧ t.ngr.rx = none ∧ t.ngr.done = [] ∧
      (x.cancelled = true → t = { s with ngr := { s.ngr with rx := none } }) ∧
      (x.cancelled = false → x.missed = true → counted s t C.NGR_RX_DEC_MISSED 1 ∧ onlyCtrs s t [C.NGR_RX_DEC_MISSED] ∧
        t = { s with ctrs := t.ctrs, ngr := { s.ngr with rx := none } }) ∧
      (x.cancelled = false → x.missed = false → h.length ≠ 0 → crc ≠ ngCrc (bitsOf bytes) → counted s t C.NGR_RX_CRC_FAIL 1 ∧
        onlyCtrs s t [C.NGR_RX_CRC_FAIL] ∧ t = { s with ctrs := t.ctrs, ngr := { s.ngr with rx := none } }) ∧
      (x.cancelled = false → x.missed = false → (h.length = 0 ∨ crc = ngCrc (bitsOf bytes)) → counted s t C.NGR_RX_FRAMES 1 ∧
        onlyCtrs s t [C.NGR_RX_FRAMES] ∧ t = { s with ctrs := t.ctrs, ngr := t.ngr, ngl := t.ngl } ∧
        ∃ f : NgIn, f.hdr = h ∧ f.psdu = bytes ∧ f.ref = x.ref ∧ f.endT = x.endT ∧ f.rssi = x.power ∧ f.order = x.order ∧
          (h.ranging = true → t.ngr.rng.inbox = s.ngr.rng.inbox ++ [f] ∧ t.ngl = s.ngl) ∧
          (h.ranging = false → t.ngl = { s.ngl with inbox := s.ngl.inbox ++ [f] } ∧ t.ngr.rng = s.ngr.rng))) ∧
  (∀ (s : State) (p : NgPreamble) (x : NgRx), s.takesWork 0xC0 = true → s.ngListens = true → s.ngr.rx = some x → x.hdr = none →
    s.ngOffset x p = true → s.ngCodeOk p = true → poolIdle s →
    ∃ t, exec (.ngSecondDetect p) s = .next t ∧ counted s t C.NGR_RX_FALSE_DETECT 1 ∧ ngStarted s t p ∧
      t.ngl = s.ngl ∧ t.mem = s.mem) ∧
  (∀ (s : State) (p : NgPreamble) (x : NgRx), s.takesWork 0xC0 = true → s.ngListens = true → s.ngr.rx = some x → x.hdr.isSome = true →
    s.now < x.endT → s.ngOffset x p = true → s.ngCodeOk p = true → poolIdle s →
    ∃ t, exec (.ngSecondDetect p) s = .next t ∧
      (x.power + 4 * x.capDb ≤ p.power.toInt ∨ x.sat = true ∨ p.sat = true →
        counted s t C.NGR_RX_LOST_CAPTURE 1 ∧ ngStarted s t p) ∧
      (p.power.toInt < x.power + 4 * x.capDb → x.sat = false → p.sat = false → t = s)) ∧
  (∀ (s : State) (p : NgPreamble) (x : NgRx), s.ngr.rx = some x → s.ngOffset x p = false →
    exec (.ngSecondDetect p) s = .next s) ∧
  (∀ (s u : State), s.takesWork 0xC0 = true → u = s.touch A.NGR_RX_LAST0 → ∃ t, exec .rxLast0Read s = .next t ∧
    t.resp = { value := (u.rd A.NGR_RX_LAST0).setWidth 64, busError := false } ∧
    t.rd A.NGR_RX_LAST1 = u.ngr.last.getD 0 0 ∧ t.rd A.NGR_RX_LAST2 = u.ngr.last.getD 1 0 ∧
    t.rd A.NGR_RX_LAST3 = u.ngr.last.getD 2 0 ∧
    onlyFields u t [whole A.NGR_RX_LAST1, whole A.NGR_RX_LAST2, whole A.NGR_RX_LAST3] ∧
    t = { u with regs := t.regs, resp := t.resp })

/-- A ranging frame with its reference point at `ref` waits at the Nguord radio. -/
def rangingQueued (s t : State) (typ ref : Nat) (psdu : List Byte) : Prop :=
  ∃ c, (t.radio 3).cmds = (s.radio 3).cmds ++ [c] ∧ c.kind = .ranging typ psdu ∧
    c.timed = some (ref - s.fld F.NGR_PHY_CFG_NPRE * chirpTs (s.fld F.NGR_PHY_CFG_ORDER) s.ngBw, 0) ∧
    c.dur = s.phyDur s.ngPhy psdu.length ∧ c.chirps = ngChirps (s.fld F.NGR_PHY_CFG_ORDER) (s.fld F.NGR_PHY_CFG_CR)
      (s.fld F.NGR_PHY_CFG_NPRE) (s.fld F.NGR_PHY_CFG_NETCODE) true false 0 psdu ∧ otherRadios s t 3

/-- The exchange has ended with a result. -/
def rangingEnded (s t : State) (result : Nat) : Prop :=
  t.flag F.NGR_RNG_STATUS_BUSY = false ∧ t.fld F.NGR_RNG_STATUS_RESULT = result ∧ t.ngr.rng.step = .idle ∧
    counted s t (if result = 1 then C.NGR_RNG_OK else C.NGR_RNG_FAIL) 1 ∧ t.mem = s.mem ∧ t.pending = s.pending

/-- The oldest ranging frame is x, of a type, and the rest wait behind it. -/
def rangingIn (s : State) (x : NgIn) (rest : List NgIn) (typ : Nat) : Prop :=
  s.ngr.rng.inbox = x :: rest ∧ psduNat x.psdu 0 1 = typ

/-- The frame has its type's length and names the device. -/
def rangingForUs (s : State) (x : NgIn) (typ : Nat) : Prop :=
  x.hdr.length = rngLength typ ∧ psduNat x.psdu 6 4 = (s.rd A.NGR_RNG_ID).toNat

/-- The oldest ranging frame is gone, and nothing else has changed. -/
def rangingDropped (s t : State) (rest : List NgIn) : Prop :=
  t = { s with ngr := { s.ngr with rng := { s.ngr.rng with inbox := rest } } }

/-- Ranging (R343 to R345, R352). -/
def Obligations.RangingExchanges : Prop :=
  (∀ (s u : State), s.takesWork 0xC0 = true → u = s.touch A.NGR_RNG_CMD →
    ∃ t, exec .arm s = .next t ∧
      (u.flag F.NGR_RNG_STATUS_BUSY = true → refusedOnly u t A.NGR_RNG_CMD 2) ∧
      (u.flag F.NGR_RNG_STATUS_BUSY = false →
        t.fld F.NGR_RNG_STATUS_SEQ = (u.fld F.NGR_RNG_STATUS_SEQ + 1) % 256 ∧ t.flag F.NGR_RNG_STATUS_BUSY = true ∧
        t.fld F.NGR_RNG_STATUS_ROLE = 0 ∧ t.fld F.NGR_RNG_STATUS_RESULT = 0 ∧
        t.ngr.rng = { u.ngr.rng with step := .armed, peer := (u.rd A.NGR_RNG_PEER).toNat } ∧
        onlyFields u t [F.NGR_RNG_STATUS_SEQ, F.NGR_RNG_STATUS_BUSY, F.NGR_RNG_STATUS_ROLE, F.NGR_RNG_STATUS_RESULT] ∧
        t = { u with regs := t.regs, ngr := t.ngr })) ∧
  (∀ (s u : State), s.takesWork 0xC0 = true → u = s.touch A.NGR_RNG_CMD →
    ∃ t, exec .abortRanging s = .next t ∧
      (u.flag F.NGR_RNG_STATUS_BUSY = false → t = u) ∧
      (u.flag F.NGR_RNG_STATUS_BUSY = true → rangingEnded u t 5 ∧ otherRadios u t 3 ∧
        ∀ c ∈ (t.radio 3).cmds, c ∈ (u.radio 3).cmds ∧ ∀ k l, c.kind ≠ .ranging k l)) ∧
  (∀ s : State, s.ngr.rng.inbox = [] → exec .poll s = .next s ∧ exec .resp s = .next s ∧ exec .final s = .next s ∧
    exec .report s = .next s) ∧
  (∀ (s : State) (x : NgIn) (rest : List NgIn) (k : Nat), s.takesWork 0xC0 = true → rangingIn s x rest k → (k = 0 ∨ 4 < k) →
    ∃ t, exec .poll s = .next t ∧ rangingDropped s t rest) ∧
  (∀ (s : State) (x : NgIn) (rest : List NgIn), s.takesWork 0xC0 = true → rangingIn s x rest 1 →
    ∃ t, exec .poll s = .next t ∧
      (¬ rangingForUs s x 1 ∨ s.flag F.NGR_RNG_CFG_AUTO_RESP = false ∨ s.flag F.NGR_RNG_STATUS_BUSY = true →
        rangingDropped s t rest) ∧
      (rangingForUs s x 1 → s.flag F.NGR_RNG_CFG_AUTO_RESP = true → s.flag F.NGR_RNG_STATUS_BUSY = false →
        t.flag F.NGR_RNG_STATUS_BUSY = true ∧ t.fld F.NGR_RNG_STATUS_ROLE = 1 ∧
        t.fld F.NGR_RNG_STATUS_SEQ = psduNat x.psdu 1 1 ∧ t.fld F.NGR_RNG_STATUS_RESULT = 0 ∧
        t.ngr.rng.step = .waitFinal ∧ t.ngr.rng.peer = psduNat x.psdu 2 4 ∧ t.ngr.rng.tPoll = s.rngRxTime x ∧
        t.ngr.rng.inbox = rest ∧ t.getInt 3 = unsgn 40 ((s.rngTxTime (s.rngReply x) : Int) - s.rngRxTime x) ∧
        rangingQueued s t 2 (s.rngReply x)
          (rngPsdu 2 (psduNat x.psdu 1 1) (s.rd A.NGR_RNG_ID).toNat (psduNat x.psdu 2 4) []) ∧
        t = { s with regs := t.regs, air := t.air, ngr := t.ngr })) ∧
  (∀ (s : State) (x : NgIn) (rest : List NgIn), s.takesWork 0xC0 = true → rangingIn s x rest 2 →
    ∃ t, exec .resp s = .next t ∧
      (¬ rangingForUs s x 2 ∨ s.rngFits x .waitResp = false → rangingDropped s t rest) ∧
      (rangingForUs s x 2 → s.rngFits x .waitResp = true →
        t.getInt 0 = unsgn 40 ((s.rngRxTime x : Int) - s.ngr.rng.tPoll) ∧
        t.getInt 1 = unsgn 40 ((s.rngTxTime (s.rngReply x) : Int) - s.rngRxTime x) ∧
        t.ngr.rng.step = .waitReport ∧ t.ngr.rng.inbox = rest ∧
        rangingQueued s t 3 (s.rngReply x)
          (rngPsdu 3 s.rngSeq (s.rd A.NGR_RNG_ID).toNat s.ngr.rng.peer (leBytes 5 (t.getInt 0) ++ leBytes 5 (t.getInt 1))) ∧
        onlyFields s t [whole (A.NGR_RNG_INT_LO 0), whole (A.NGR_RNG_INT_HI 0), whole (A.NGR_RNG_INT_LO 1),
          whole (A.NGR_RNG_INT_HI 1)] ∧
        t = { s with regs := t.regs, air := t.air, ngr := t.ngr })) ∧
  (∀ (s : State) (x : NgIn) (rest : List NgIn), s.takesWork 0xC0 = true → rangingIn s x rest 3 →
    ∃ t, exec .final s = .next t ∧
      (¬ rangingForUs s x 3 ∨ s.rngFits x .waitFinal = false → rangingDropped s t rest) ∧
      (∀ tof : Int, rangingForUs s x 3 → s.rngFits x .waitFinal = true →
        tof = tofPs (psduNat x.psdu 10 5) (psduNat x.psdu 15 5) ((s.rngRxTime x : Int) - s.ngr.rng.tResp)
          ((s.ngr.rng.tResp : Int) - s.ngr.rng.tPoll) →
        rangingEnded s t (if -50000 ≤ tof then 1 else 4) ∧ t.rd A.NGR_RNG_TOF = BitVec.ofInt 32 tof ∧
        t.ngr.rng.inbox = rest ∧
        rangingQueued s t 4 (s.rngReply x)
          (rngPsdu 4 s.rngSeq (s.rd A.NGR_RNG_ID).toNat s.ngr.rng.peer (leBytes 4 (unsgn 32 tof))))) ∧
  (∀ (s : State) (x : NgIn) (rest : List NgIn), s.takesWork 0xC0 = true → rangingIn s x rest 4 →
    ∃ t, exec .report s = .next t ∧
      (¬ rangingForUs s x 4 ∨ s.rngFits x .waitReport = false → rangingDropped s t rest) ∧
      (∀ tof : Int, rangingForUs s x 4 → s.rngFits x .waitReport = true → tof = sgn 32 (psduNat x.psdu 10 4) →
        rangingEnded s t (if -50000 ≤ tof then 1 else 4) ∧ t.rd A.NGR_RNG_TOF = BitVec.ofInt 32 tof ∧
        t.ngr.rng.inbox = rest ∧ t.air = s.air)) ∧
  (∀ s : State, s.takesWork 0xC0 = true → s.flag F.NGR_RNG_STATUS_BUSY = true → s.ngr.rng.step ∈ [RngStep.waitResp, .waitReport, .waitFinal] →
    ∃ t, exec .rngTimeout s = .next t ∧
      (s.ngr.rng.sentAt + 500000 * s.fld F.NGR_RNG_CFG_WAIT_MS ≤ s.now → rangingEnded s t 2 ∧ t.air = s.air) ∧
      (s.now < s.ngr.rng.sentAt + 500000 * s.fld F.NGR_RNG_CFG_WAIT_MS → t = s))

/-- A router's search window has passed. -/
def beaconPassed (s : State) : Prop :=
  s.ngOn = true ∧ s.ngRouter = true ∧ s.ngl.s0.isSome = true ∧ s.fld F.NGL_SYNC_STATE ≠ 4 ∧
    s.ngl.nodes = []

/-- One more beacon of the parent is missed. -/
def beaconMissed (s t : State) (scan : Option Nat) (wide : Bool) : Prop :=
  counted s t C.NGL_BCN_MISSED 1 ∧ t.fld F.NGL_SYNC_MISSED_BCN = min 0xFFFF (s.fld F.NGL_SYNC_MISSED_BCN + 1) ∧
    t.fld F.NGL_SFN_SFN = (s.fld F.NGL_SFN_SFN + 1) % 4294967296 ∧ t.ngl.s0 = some s.sfEnd ∧ t.ngl.bcnOk = false ∧
    t.ngl.scan = scan ∧ t.ngl.wide = wide ∧
    (s.fld F.NGL_PARENT_PARENT_TO ≤ s.fld F.NGL_SYNC_MISSED_BCN + 1 → t.fld F.NGL_SYNC_STATE = 4) ∧
    (s.fld F.NGL_SYNC_MISSED_BCN + 1 < s.fld F.NGL_PARENT_PARENT_TO → scan.isSome = true → t.fld F.NGL_SYNC_STATE = 3)

/-- Slot i of the superframe may begin now. -/
def slotBegins (s : State) (i : Nat) : Prop :=
  s.ngOn = true ∧ s.ngl.s0.isSome = true ∧ s.ngl.bcnOk = true ∧ s.flag (F.NGL_SLOT_W0_VALID i) = true ∧
    (s.ngNode (s.fld (F.NGL_SLOT_W1_NODE i))).live = true ∧
    s.fld F.NGL_SFN_SFN % s.fld (F.NGL_SLOT_W2_PERIOD i) = s.fld (F.NGL_SLOT_W2_PHASE i) ∧ i ∉ s.ngl.slotsRun ∧
    s.sfAt (s.fld (F.NGL_SLOT_W0_OFFSET_MS i)) ≤ s.now + 50000 ∧
    s.now < s.sfAt (s.fld (F.NGL_SLOT_W0_OFFSET_MS i)) + 500000 * s.fld (F.NGL_SLOT_W1_LEN_MS i)

/-- The slot is noted as begun, with its node and its end. -/
def slotBegun (s t : State) (i : Nat) : Prop :=
  t.ngl.slotsRun = s.ngl.slotsRun ++ [i] ∧ t.ngl.slot = some (s.fld (F.NGL_SLOT_W1_NODE i),
    s.sfAt (s.fld (F.NGL_SLOT_W0_OFFSET_MS i)) + 500000 * s.fld (F.NGL_SLOT_W1_LEN_MS i))

/-- A frame of the Nguord link waits at its radio. -/
def frameQueued (s t : State) (id : Nat) (timed : Option (Nat × Nat)) : Prop :=
  ∃ c, (t.radio 3).cmds = (s.radio 3).cmds ++ [c] ∧ c.kind = .ngFrame id ∧ c.timed = timed ∧
    (∀ f, t.ngFrame id = some f → c.chirps = f.chirps ∧ c.dur = s.phyDur f.phy f.len) ∧ otherRadios s t 3

/-- The Nguord network (R150, R364, R366, R368 to R371, R380 to R382, R388). -/
def Obligations.NguordNetwork : Prop :=
  (∀ (s u : State) (v : Word), s.takesWork nglBlock = true → u = s.touch A.NGL_CTRL →
    ∃ t, exec (.nglEnable v) s = .next t ∧
      (∀ e, u.ngCtrlError (v ||| 0x80000000) = some e → refusedOnly u t A.NGL_CTRL e.num) ∧
      (u.ngCtrlError (v ||| 0x80000000) = none → u.flag F.NGL_CTRL_EN = false → getBits v 29 2 = 1 → u.ngr.rx = none →
        t.flag F.NGL_CTRL_EN = true ∧ t.fld F.NGL_CTRL_ROLE = 1 ∧ t.fld F.NGL_CTRL_OWN_ADDR = getBits v 0 16 ∧
        t.fld F.NGL_CTRL_DEPTH = 0 ∧ t.fld F.NGL_SYNC_STATE = 1 ∧ t.ngl.ch = u.fld F.NGL_SYNC_SEARCH_CH ∧
        t.fld F.NGR_SYNTH_FREQ = u.chFreq (u.fld F.NGL_SYNC_SEARCH_CH) % 33554432 ∧ t.ngl.enAt = u.now ∧ t.ngl.s0 = none ∧
        onlyFields u t [whole A.NGL_CTRL, F.NGL_SYNC_STATE, F.NGR_SYNTH_FREQ] ∧
        t = { u with regs := t.regs, ngl := t.ngl, air := t.air }) ∧
      (u.ngCtrlError (v ||| 0x80000000) = none → u.flag F.NGL_CTRL_EN = false → getBits v 29 2 = 0 →
        t.flag F.NGL_CTRL_EN = true ∧ t.fld F.NGL_CTRL_ROLE = 0 ∧ t.fld F.NGL_CTRL_MAX_DEPTH = getBits v 24 3 ∧
        t.ngl = { u.ngl with enAt := u.now, s0 := none } ∧ t.rd (A.POSTMARK_TRG_CTRL 3) = 0xE5000000 ∧
        t.trgTime 3 = u.now ∧ t.rd (A.POSTMARK_TRG_PERIOD 3) = 0 ∧
        onlyFields u t [whole A.NGL_CTRL, whole (A.POSTMARK_TRG_CTRL 3), whole (A.POSTMARK_TRG_NS 3),
          whole (A.POSTMARK_TRG_SEC_LO 3), whole (A.POSTMARK_TRG_PERIOD 3)] ∧
        t = { u with regs := t.regs, ngl := t.ngl })) ∧
  (∀ s : State, (s.ngl.inbox = [] ∨ s.ngOn = false ∨ s.ngRouter = false) → exec .parentBeaconRx s = .next s) ∧
  (∀ (s s2 : State) (x : NgIn) (rest : List NgIn) (body : List Byte) (b : BeaconIn), s.ngl.inbox = x :: rest →
    s.ngOn = true → s.ngRouter = true → x.typ = 0 → s.fld F.NGL_SYNC_STATE ≠ 4 → 36 ≤ x.psdu.length →
    x.hdr.ackreq = false → x.relay = false → x.hdr.link.testBit 4 = true → x.dst = 0xFFFF → x.src = s.ngParent →
    s.ngTake.ngVerify x = (.inl body, s2) → b = readBeacon body → s2.ngLastFcnt x < x.fcnt →
    x.psdu.length = 36 + 2 * psduNat body 21 1 → psduNat body 21 1 ≤ 16 → psduNat body 4 4 = (s2.rd A.NGL_NET_ID).toNat →
    s2.sfError b.period b.cap b.active b.relay b.maxDepth = none → s2.ngl.s0 = none → s2.ngl.owed = [] → s2.ngr.rx = none →
    ∃ t, exec .parentBeaconRx s = .next t ∧ t.fld F.NGL_SFN_SFN = b.sfn ∧ t.fld F.NGL_SF_PERIOD_PERIOD_MS = b.period ∧
      t.fld F.NGL_SF_CAP_CAP_END_MS = b.cap ∧ t.fld F.NGL_SF_ACTIVE_ACTIVE_END_MS = b.active ∧
      t.fld F.NGL_SF_RELAY_RELAY_MS = b.relay ∧ t.fld F.NGL_CTRL_MAX_DEPTH = b.maxDepth ∧
      t.fld F.NGL_CTRL_DEPTH = (b.depth + 1) % 16 ∧ t.fld F.NGL_SYNC_MISSED_BCN = 0 ∧ t.fld F.NGL_SYNC_STATE = 2 ∧
      t.ngl.s0 = some (x.ref - 500000 * (b.depth * b.relay)) ∧ t.ngl.bcnOk = true ∧ t.ngl.lastBcn = x.ref ∧
      t.ngl.parentSca = b.sca ∧ t.ngl.scan = none ∧ t.ngl.ch = s2.hopChannel b.sfn ∧ t.ctrs = s2.ctrs ∧ t.mem = s2.mem ∧
      (b.depth + 1 ≤ b.maxDepth → t.rd (A.POSTMARK_TRG_CTRL 3) = 0xE5000000) ∧
      (b.maxDepth < b.depth + 1 → t.rd (A.POSTMARK_TRG_CTRL 3) = s2.rd (A.POSTMARK_TRG_CTRL 3))) ∧
  (∀ s : State, beaconPassed s → s.ngl.scan = none →
    ∃ t, exec .resyncScan s = .next t ∧
      (s.now ≤ s.bcnExpected + s.bcnGuard → t = s) ∧
      (s.bcnExpected + s.bcnGuard < s.now → counted s t C.NGL_RESYNC_SCANS 1 ∧
        beaconMissed s t (some (s.bcnExpected + 500000 * (s.fld F.NGL_SF_PERIOD_PERIOD_MS + s.fld F.NGL_GUARD_MAX_GUARD_MS)))
          s.ngl.wide)) ∧
  (∀ (s : State) (stop : Nat), beaconPassed s → s.ngl.scan = some stop →
    ∃ t, exec .resyncScan s = .next t ∧ (s.now ≤ stop → t = s) ∧ (stop < s.now → beaconMissed s t none true)) ∧
  (∀ s : State, s.ngRouter = false → exec .resyncScan s = .next s) ∧
  (∀ (s : State) (i : BitVec 8), (s.flag (F.NGL_SLOT_W0_VALID i.toNat) = false ∨ i.toNat ∈ s.ngl.slotsRun ∨ s.ngOn = false) →
    exec (.ngSlotStart i) s = .next s) ∧
  (∀ (s : State) (i : BitVec 8), slotBegins s i.toNat →
    (s.flag (F.NGL_SLOT_W0_DIR i.toNat) = false ∨ s.ngQueue (s.fld (F.NGL_SLOT_W1_NODE i.toNat)) = []) →
    ∃ t, exec (.ngSlotStart i) s = .next t ∧ slotBegun s t i.toNat ∧ t = { s with ngl := t.ngl } ∧
      t.ngl.frames = s.ngl.frames ∧ t.ngl.inbox = s.ngl.inbox) ∧
  (∀ (s : State) (i : BitVec 8) (f : NgFrame) (more : List NgFrame) (start dur : Nat), slotBegins s i.toNat →
    s.flag (F.NGL_SLOT_W0_DIR i.toNat) = true →
    s.ngIdle (s.sfAt (s.fld (F.NGL_SLOT_W0_OFFSET_MS i.toNat)) + 500000 * s.fld (F.NGL_SLOT_W1_LEN_MS i.toNat)) = true →
    s.ngCommanded f.id = false →
    s.ngQueue (s.fld (F.NGL_SLOT_W1_NODE i.toNat)) = f :: more → f.psdu ≠ [] →
    start = max (s.sfAt (s.fld (F.NGL_SLOT_W0_OFFSET_MS i.toNat))) (s.now + s.swLead 3) → dur = s.phyDur f.phy f.len →
    start + dur + s.ackTail f ≤
      s.sfAt (s.fld (F.NGL_SLOT_W0_OFFSET_MS i.toNat)) + 500000 * s.fld (F.NGL_SLOT_W1_LEN_MS i.toNat) →
    s.dwellOk s.ngl.ch start dur = true → s.dutyOk s.ngl.ch start dur = true →
    ∃ t, exec (.ngSlotStart i) s = .next t ∧ slotBegun s t i.toNat ∧ frameQueued s t f.id (some (start, 0)) ∧
      t = { s with ngl := t.ngl, air := t.air } ∧ t.ngl.frames = s.ngl.frames) ∧
  (∀ (s : State) (energy : BitVec 8), (s.ngContender = none ∨ s.ngOn = false ∨ s.regionAt s.now ≠ .contention) →
    exec (.backoffEnd energy) s = .next s) ∧
  (∀ (s : State) (energy : BitVec 8) (f : NgFrame), s.ngContender = some f → s.ngOn = true → s.ngl.s0.isSome = true →
    s.ngl.bcnOk = true → s.regionAt s.now = .contention →
    s.ngIdle (s.now + (if s.flag F.NGL_REG_LBT_LBT_EN then 500 * s.fld F.NGL_REG_LBT_LBT_US else 0) +
      s.phyDur f.phy f.len + s.ackTail f) = true →
    max f.since s.capStart + f.backoff * s.phyTs f.phy ≤ s.now →
    ∃ t, exec (.backoffEnd energy) s = .next t ∧
      (s.flag F.NGL_REG_LBT_LBT_EN = true → s.lbtBusy energy = true → counted s t C.NGL_TX_DEFER_LBT 1 ∧
        (∃ n < 2 ^ min (s.fld F.NGL_TX_CFG_MAX_BE) (f.be + 1), t.ngl = { s.ngl with
          frames := s.ngl.frames.map (fun y => if y.id = f.id then { y with
            be := min (s.fld F.NGL_TX_CFG_MAX_BE) (f.be + 1)
            backoff := n
            since := s.now } else y) }) ∧
        onlyCtrs s t [C.NGL_TX_DEFER_LBT] ∧ t = { s with ctrs := t.ctrs, fresh := t.fresh, ngl := t.ngl }) ∧
      (s.flag F.NGL_REG_LBT_LBT_EN = false → s.now + s.phyDur f.phy f.len + s.ackTail f ≤ s.capEnd →
        s.dwellOk s.ngl.ch s.now (s.phyDur f.phy f.len) = true → s.dutyOk s.ngl.ch s.now (s.phyDur f.phy f.len) = true →
        (f.psdu ≠ [] → frameQueued s t f.id none ∧ t = { s with air := t.air }) ∧
        (∀ slot id link fcnt psdu s1, f.psdu = [] → s.ngTxKey f.dst = some (slot, id) →
          s.ngProtect slot id f.typ (s.ngSleepy f.dst && decide (1 < (s.ngQueue f.dst).length)) f.dst f.mesh f.body =
            (.ok (link, fcnt, psdu), s1) →
          frameQueued s1 t f.id none ∧ t.ngl = { s1.ngl with
            frames := s1.ngl.frames.map (fun y => if y.id = f.id then { y with
              link := link
              fcnt := fcnt
              psdu := psdu } else y) }))) ∧
  (∀ (s : State) (temp : BitVec 8) (res : CalResult × CalResult), s.takesWork nglBlock = true → s.radioRuns 3 = true →
    s.flag (F.RADIO_CAL_STATUS_DUE 3) = true → s.ngCalGap = true → noReception s 3 →
    ∃ t, exec (.ngCalStart temp res) s = .next t ∧ t.flag (F.RADIO_CAL_STATUS_DUE 3) = false ∧
      t.fld (F.RADIO_CAL_STATUS_LAST_TEMP 3) = temp.toNat ∧ (t.radio 3).lastTrack = some s.now ∧ otherRadios s t 3 ∧
      t.mem = s.mem ∧ t.pending = s.pending) ∧
  (∀ (s : State) (temp : BitVec 8) (res : CalResult × CalResult), s.flag (F.RADIO_CAL_STATUS_DUE 3) = false →
    exec (.ngCalStart temp res) s = .next s) ∧
  (∀ s : State, s.ngl.recs = [] → exec .ngDropRecord s = .next s) ∧
  (∀ (s : State) (ws : List Word) (rest : List (List Word)), s.takesWork nglBlock = true → s.ngl.recs = ws :: rest →
    ∃ t, exec .ngDropRecord s = .next t ∧
      (s.recordFits (s.fld F.NGL_FIFO_RX) 6 = false → t = s) ∧
      (s.recordFits (s.fld F.NGL_FIFO_RX) 6 = true → t.ngl = { s.ngl with recs := rest } ∧
        (s.hwRecord (s.fld F.NGL_FIFO_RX) ws).2.mem = t.mem ∧ (s.hwRecord (s.fld F.NGL_FIFO_RX) ws).2.pig = t.pig))

/-- The frame at the head of NGL's inbox. -/
def ngHeadIs (s : State) (x : NgIn) (rest : List NgIn) : Prop := s.ngl.inbox = x :: rest ∧ s.ngOn = true

/-- The oldest delivered frame is gone and one counter has advanced. -/
def ngOnlyCounts (s t : State) (rest : List NgIn) (c : Nat) : Prop :=
  counted s t c 1 ∧ onlyCtrs s t [c] ∧ t = { s with ctrs := t.ctrs, ngl := { s.ngl with inbox := rest } }

/-- A frame has joined NGL's queue with its first backoff. -/
def ngQueued (s t : State) (source : NgFrom) (dst : Nat) (body : List Byte) : Prop :=
  ∃ f, t.ngl.frames = s.ngl.frames ++ [f] ∧ f.id = s.ngl.next ∧ t.ngl.next = s.ngl.next + 1 ∧ f.source = source ∧
    f.dst = dst ∧ f.body = body ∧ f.be = s.fld F.NGL_TX_CFG_MIN_BE ∧ f.backoff < 2 ^ f.be ∧ f.since = s.now ∧
    f.attempts = 0 ∧ f.psdu = []

/-- Nguord frames (R355, R362, R368, R376 to R379, R385 to R387). -/
def Obligations.NguordFrames : Prop :=
  (∀ s : State, s.ngl.inbox = [] → exec .ngFrameRx s = .next s ∧ exec .ngAckRx s = .next s) ∧
  (∀ (s : State) (x : NgIn) (rest : List NgIn), ngHeadIs s x rest → x.typ ≠ 2 → ¬ (x.typ = 0 ∧ s.ngRouter = true) →
    s.ngFrameOk x = false → ∃ t, exec .ngFrameRx s = .next t ∧ ngOnlyCounts s t rest C.NGL_RX_BAD_FRAME) ∧
  (∀ (s : State) (x : NgIn) (rest : List NgIn), ngHeadIs s x rest → x.typ = 4 → s.ngFrameOk x = true → s.inWatch = false →
    ∃ t, exec .ngFrameRx s = .next t ∧ t.ngl = { s.ngl with inbox := rest } ∧
      (s.ngRoom x.psdu = true → counted s t C.NGL_RX_DELIVERED 1 ∧
        t.mem = (s.hwRecord (s.fld F.NGL_FIFO_RX) (s.ngFrameRecord x x.psdu)).2.mem ∧
        t.pig = (s.hwRecord (s.fld F.NGL_FIFO_RX) (s.ngFrameRecord x x.psdu)).2.pig) ∧
      (s.ngRoom x.psdu = false → ngOnlyCounts s t rest C.NGL_RX_FIFO_FULL)) ∧
  (∀ (s : State) (x : NgIn) (rest : List NgIn), ngHeadIs s x rest → x.typ = 1 → s.ngFrameOk x = true →
    s.neighbour x.src = false → ∃ t, exec .ngFrameRx s = .next t ∧ ngOnlyCounts s t rest C.NGL_RX_NO_NODE) ∧
  (∀ (s s2 : State) (x : NgIn) (rest : List NgIn) (c : Nat), ngHeadIs s x rest → x.typ = 1 → s.ngFrameOk x = true →
    s.neighbour x.src = true → (x.dst = 0xFFFF → x.src = s.ngParent) → s.ngTake.ngVerify x = (.inr c, s2) →
    ∃ t, exec .ngFrameRx s = .next t ∧ counted s2 t c 1 ∧ t = { s2 with ctrs := t.ctrs }) ∧
  (∀ (s s2 : State) (x : NgIn) (rest : List NgIn) (body : List Byte), ngHeadIs s x rest → x.typ = 1 →
    s.ngFrameOk x = true → s.neighbour x.src = true → (x.dst = 0xFFFF → x.src = s.ngParent) →
    s.ngTake.ngVerify x = (.inl body, s2) → x.hdr.ackreq = false →
    x.relay = false → s2.inWatch = false →
    ∃ t, exec .ngFrameRx s = .next t ∧
      (x.fcnt = s2.ngLastFcnt x → counted s2 t C.NGL_RX_DUP 1 ∧ t = { s2 with ctrs := t.ctrs, ngl := t.ngl }) ∧
      (x.fcnt < s2.ngLastFcnt x → counted s2 t C.NGL_RX_REPLAY 1 ∧ t = { s2 with ctrs := t.ctrs, ngl := t.ngl }) ∧
      (s2.ngLastFcnt x < x.fcnt → s2.ngRoom body = false → counted s2 t C.NGL_RX_FIFO_FULL 1 ∧
        t.ngLastFcnt x = s2.ngLastFcnt x ∧ t.mem = s2.mem) ∧
      (s2.ngLastFcnt x < x.fcnt → s2.ngRoom body = true → counted s2 t C.NGL_RX_DELIVERED 1 ∧ t.ngLastFcnt x = x.fcnt ∧
        t.mem = (s2.hwRecord (s2.fld F.NGL_FIFO_RX) (s2.ngFrameRecord x body)).2.mem)) ∧
  (∀ (s : State) (x : NgIn) (rest : List NgIn), ngHeadIs s x rest → x.typ = 2 → (x.hdr.ackreq = true ∨ x.hdr.length ≠ 0) →
    ∃ t, exec .ngAckRx s = .next t ∧ ngOnlyCounts s t rest C.NGL_RX_BAD_FRAME) ∧
  (∀ (s : State) (x : NgIn) (rest : List NgIn), ngHeadIs s x rest → x.typ = 2 → x.ackOk = true →
    s.ngl.wait = none → exec .ngAckRx s = .next { s with ngl := { s.ngl with inbox := rest } }) ∧
  (∀ (s : State) (x : NgIn) (rest : List NgIn) (w : NgWait) (f : NgFrame), ngHeadIs s x rest → x.typ = 2 →
    x.ackOk = true → s.ngl.wait = some w → s.ngFrame w.id = some f →
    ∃ t, exec .ngAckRx s = .next t ∧
      (x.dst ≠ s.ngAddr ∨ x.hdr.link / 256 % 256 ≠ f.fcnt % 256 ∨ w.ref + w.ts < x.ref →
        t = { s with ngl := { s.ngl with inbox := rest } }) ∧
      (x.dst = s.ngAddr → x.hdr.link / 256 % 256 = f.fcnt % 256 → w.ref ≤ x.ref + w.ts → x.ref ≤ w.ref + w.ts →
        f.link.testBit 5 = false → s.ngl.slot = none →
        t.ngl = { s.ngl with
          inbox := rest
          wait := none
          frames := s.ngl.frames.filter (fun y => decide (y.id ≠ f.id)) } ∧
        (f.source = .relay → t = { s with ngl := t.ngl, air := t.air }) ∧
        (∀ k, f.source = .ring k → t.mem = (s.hwRecord (s.fld F.NGL_FIFO_CMPL)
          [k, BitVec.ofNat 32 (f.attempts % 256 * 256), BitVec.ofNat 32 f.fcnt, 0]).2.mem))) ∧
  (∀ s : State, s.ngl.wait = none → exec .ngAckTimeout s = .next s) ∧
  (∀ (s : State) (w : NgWait) (f : NgFrame), s.takesWork nglBlock = true → s.ngl.wait = some w → s.ngFrame w.id = some f →
    ∃ t, exec .ngAckTimeout s = .next t ∧
      (s.now < w.stop + w.ts → t = s) ∧
      (w.stop + w.ts ≤ s.now → s.fld F.NGL_TX_CFG_RETRY_LIMIT ≤ f.attempts → counted s t C.NGL_TX_NO_ACK 1 ∧
        t.ngl = { s.ngl with
          wait := none
          frames := s.ngl.frames.filter (fun y => decide (y.id ≠ f.id)) }) ∧
      (w.stop + w.ts ≤ s.now → f.attempts < s.fld F.NGL_TX_CFG_RETRY_LIMIT →
        (∃ n < 2 ^ min (s.fld F.NGL_TX_CFG_MAX_BE) (f.be + 1), t.ngl = { s.ngl with
          wait := none
          frames := s.ngl.frames.map (fun y => if y.id = f.id then { y with
            be := min (s.fld F.NGL_TX_CFG_MAX_BE) (f.be + 1)
            backoff := n
            since := s.now } else y) }) ∧ t = { s with fresh := t.fresh, ngl := t.ngl })) ∧
  (∀ s : State, s.takesWork nglBlock = true → s.ngl.wait = none → s.onAir 3 = false → (s.ngl.frames.map (fun f => f.id)).Nodup →
    ∃ t, exec .ngLifetime s = .next t ∧
      t.ngl.frames = s.ngl.frames.filter (fun f => !f.expiry.any (fun x => decide (x ≤ s.now))) ∧ t.ngl.inbox = s.ngl.inbox ∧
      ((∀ f ∈ s.ngl.frames, f.expiry.any (fun x => decide (x ≤ s.now)) = false) → t = s)) ∧
  (∀ s : State, (s.ngOn = false ∨ s.fld F.NGL_TXR_IDX_RD = s.fld F.NGL_TXR_IDX_WR) →
    exec (.ngTxDescriptor .ring) s = .next s) ∧
  (∀ (s s1 : State) (ws : List Word), s.ngOn = true → s.fld F.NGL_TXR_IDX_RD ≠ s.fld F.NGL_TXR_IDX_WR →
    s.ringTake = (ws, s1) →
    ∃ t, exec (.ngTxDescriptor .ring) s = .next t ∧ t.fld F.NGL_TXR_IDX_RD = (s.fld F.NGL_TXR_IDX_RD + 1) % 65536 ∧
      (∀ a u, s1.readNgDesc ws = .inl a → u = s1.logDma ((ws.getD 1 0).toNat * 16) a.body.length → a.enrol = none →
        a.bcast = true → ngQueued u t a.source 0xFFFF a.body ∧ t = { u with fresh := t.fresh, ngl := t.ngl }) ∧
      (∀ (a : NgAsk) (e : Word) (u : State), s1.readNgDesc ws = .inl a → u = s1.logDma ((ws.getD 1 0).toNat * 16) a.body.length → a.enrol = none → a.bcast = false → 1 ≤ a.final →
        a.final ≤ 4096 → e = s.rd (A.NGL_ROUTE (a.final - 1)) → e.getLsbD 31 = true → getBits e 16 4 = 1 →
        s.neighbour (getBits e 0 16) = true → s.ngSleepy (getBits e 0 16) = false → s.ngRouter = false →
        ngQueued u t a.source (getBits e 0 16) a.body ∧ t.mem = u.mem) ∧
      (∀ k st, s1.readNgDesc ws = .inr (.ring k, st) → t.ngl = s.ngl ∧
        t.mem = (s1.hwRecord (s1.fld F.NGL_FIFO_CMPL) [k, BitVec.ofNat 32 st, 0, 0]).2.mem)) ∧
  (∀ (s : State) (x : Nat × TmFrame), s.ngOn = true →
    s.tm.handed.find? (fun x => decide (x.1 = 5) && !s.ngHolds x) = some x → x.2.egress % 65536 = 0xFFFF →
    x.2.pkt.bytes.length ≤ 236 →
    ∃ t, exec (.ngTxDescriptor .handed) s = .next t ∧ ngQueued s t (.tm x) 0xFFFF x.2.pkt.bytes ∧
      t = { s with fresh := t.fresh, ngl := t.ngl })

/-- A node command that runs, and the state it runs on. -/
def nodeRuns (s u : State) (a : Nat) : Prop :=
  s.takesWork nglBlock = true ∧ u = s.touch A.NGL_NODE_CMD ∧ 1 ≤ a ∧ a ≤ 4096 ∧ u.flag F.NGL_NODE_STATUS_BUSY = false

/-- NODE_STATUS shows a result, and BUSY until the next tick (notes/assumptions/10.md). -/
def nodeShows (t : State) (result word : Nat) : Prop :=
  t.fld F.NGL_NODE_STATUS_RESULT = result ∧ t.fld F.NGL_NODE_STATUS_WORD = word ∧ t.flag F.NGL_NODE_STATUS_BUSY = true

/-- NODE_STATUS shows a result, and nothing else changes. -/
def nodeOnly (s t : State) (result word : Nat) : Prop :=
  nodeShows t result word ∧
    onlyFields s t [F.NGL_NODE_STATUS_RESULT, F.NGL_NODE_STATUS_WORD, F.NGL_NODE_STATUS_BUSY] ∧ t = { s with regs := t.regs }

/-- No other context changes. -/
def otherNodes (s t : State) (a : Nat) : Prop := ∀ k, k ≠ a → t.ngNode k = s.ngNode k

/-- Node contexts (R219, R251, R360, R362, R380, R393, R394). -/
def Obligations.NodeContexts : Prop :=
  (∀ (s u : State) (a : BitVec 16) (i : Instr), i ∈ [Instr.nodeAdd a, .nodeUpdate a, .nodeRemove a, .nodeRead a] →
    s.takesWork nglBlock = true → u = s.touch A.NGL_NODE_CMD → (a.toNat = 0 ∨ 4096 < a.toNat ∨ u.flag F.NGL_NODE_STATUS_BUSY = true) →
    ∃ t, exec i s = .next t ∧ refusedOnly u t A.NGL_NODE_CMD 2) ∧
  (∀ (s u : State) (a : BitVec 16), nodeRuns s u a.toNat → (u.ngNode a.toNat).valid = true →
    ∃ t, exec (.nodeAdd a) s = .next t ∧ nodeOnly u t 2 0) ∧
  (∀ (s u : State) (a : BitVec 16) (w r : Nat), nodeRuns s u a.toNat → (u.ngNode a.toNat).valid = false →
    ngStageError u.ngStage = some (w, r) → ∃ t, exec (.nodeAdd a) s = .next t ∧ nodeOnly u t r w) ∧
  (∀ (s u : State) (a : BitVec 16), nodeRuns s u a.toNat → (u.ngNode a.toNat).valid = false →
    ngStageError u.ngStage = none → u.euiTaken a.toNat u.ngStage = true →
    ∃ t, exec (.nodeAdd a) s = .next t ∧ nodeOnly u t 4 0) ∧
  (∀ (s u : State) (a : BitVec 16), nodeRuns s u a.toNat → (u.ngNode a.toNat).valid = false →
    ngStageError u.ngStage = none → u.euiTaken a.toNat u.ngStage = false →
    ∃ t, exec (.nodeAdd a) s = .next t ∧ nodeShows t 1 0 ∧ (t.ngNode a.toNat).live = true ∧
      (t.ngNode a.toNat).fcnt0 = 0 ∧ (t.ngNode a.toNat).fcnt1 = 0 ∧
      (∀ w, 1 ≤ w → w ≤ 4 → (t.ngNode a.toNat).word w = u.rd (A.NGL_STAGE w)) ∧
      getBits ((t.ngNode a.toNat).word 0) 0 30 = getBits (u.rd (A.NGL_STAGE 0)) 0 30 ∧
      getBits ((t.ngNode a.toNat).word 5) 16 8 = 0 ∧ otherNodes u t a.toNat ∧
      onlyFields u t [F.NGL_NODE_STATUS_RESULT, F.NGL_NODE_STATUS_WORD, F.NGL_NODE_STATUS_BUSY] ∧ t = { u with regs := t.regs, ngl := t.ngl }) ∧
  (∀ (s u : State) (a : BitVec 16) (i : Instr), i ∈ [Instr.nodeUpdate a, .nodeRemove a, .nodeRead a] →
    nodeRuns s u a.toNat → (u.ngNode a.toNat).valid = false → ∃ t, exec i s = .next t ∧ nodeOnly u t 3 0) ∧
  (∀ (s u : State) (a : BitVec 16), nodeRuns s u a.toNat → (u.ngNode a.toNat).valid = true → ngStageError u.ngStage = none →
    ∃ t, exec (.nodeUpdate a) s = .next t ∧ nodeShows t 1 0 ∧ (t.ngNode a.toNat).live = true ∧
      (∀ w, 1 ≤ w → w ≤ 4 → (t.ngNode a.toNat).word w = u.rd (A.NGL_STAGE w)) ∧
      getBits ((t.ngNode a.toNat).word 5) 16 8 = 0 ∧
      ((t.ngNode a.toNat).key 0 = (u.ngNode a.toNat).key 0 → (t.ngNode a.toNat).fcnt0 = (u.ngNode a.toNat).fcnt0) ∧
      ((t.ngNode a.toNat).key 0 ≠ (u.ngNode a.toNat).key 0 → (t.ngNode a.toNat).fcnt0 = 0) ∧
      ((t.ngNode a.toNat).key 1 = (u.ngNode a.toNat).key 1 → (t.ngNode a.toNat).fcnt1 = (u.ngNode a.toNat).fcnt1) ∧
      ((t.ngNode a.toNat).key 1 ≠ (u.ngNode a.toNat).key 1 → (t.ngNode a.toNat).fcnt1 = 0) ∧
      otherNodes u t a.toNat ∧ t = { u with regs := t.regs, ngl := t.ngl }) ∧
  (∀ (s u : State) (a : BitVec 16), nodeRuns s u a.toNat → (u.ngNode a.toNat).valid = true →
    ∃ t, exec (.nodeRemove a) s = .next t ∧ nodeShows t 1 0 ∧ t.ngNode a.toNat = {} ∧ otherNodes u t a.toNat ∧
      (∀ f ∈ t.ngl.frames, f.dst = a.toNat → f.enrol ≠ none) ∧
      (u.ngl.frames = [] → t = { u with regs := t.regs, ngl := t.ngl })) ∧
  (∀ (s u : State) (a : BitVec 16), nodeRuns s u a.toNat → (u.ngNode a.toNat).valid = true →
    (u.ngNode a.toNat).words.length = 6 →
    ∃ t, exec (.nodeRead a) s = .next t ∧ nodeShows t 1 0 ∧
      (∀ w < 6, t.rd (A.NGL_STAGE w) = (u.ngNode a.toNat).word w) ∧
      t.rd (A.NGL_STAGE_RO 0) = BitVec.ofNat 32 (u.ngNode a.toNat).fcnt0 ∧
      t.rd (A.NGL_STAGE_RO 1) = BitVec.ofNat 32 (u.ngNode a.toNat).fcnt1 ∧ t = { u with regs := t.regs })

/-- The walk of a packet under its bank. -/
def walkOf (s : State) (p : Pkt) (src : Nat) : Walk :=
  walkFrom (s.nodeWord p.bank) (fun n => s.nodeOk p.bank n) p.bytes 16
    { n := s.fld (F.SORT_START_NODE p.bank src), off := 0, lim := p.bytes.length }

/-- SORT with one more packet in its pipeline. -/
def piped (s t : State) (p : Pkt) : Prop :=
  t.sort.pipe = s.sort.pipe ++ [if p.pass2 then p else { p with bank := s.fld F.SORT_BANK_ACTIVE }] ∧
    counted s t (if p.pass2 then C.SORT_PASS2 else C.SORT_PKT_IN) 1 ∧ t.sort.cam = s.sort.cam ∧
    t.sort.arrivals = s.sort.arrivals ∧
    (s.fld F.SORT_SWAP_STATUS_STATE ≠ 1 → t = { s with ctrs := t.ctrs, sort := t.sort })

/-- Packets through SORT (R399 to R401, R406, R408, R410, R412, R414, R415). -/
def Obligations.SortPipeline : Prop :=
  (∀ (s : State) (k : Fin 6), (∀ p ∈ s.sort.arrivals, p.src ≠ k.val) → exec (.laneEnter k) s = .next s) ∧
  (∀ (s : State) (k : Fin 6) (p : Pkt), s.sort.arrivals.find? (fun p => decide (p.src = k.val)) = some p →
    (s.asksReg p = true → 32 ≤ s.sort.regLane.length) → s.shareFull k.val = true → exec (.laneEnter k) s = .next s) ∧
  (∀ (s : State) (k : Fin 6) (p : Pkt), s.takesWork sortBlock = true →
    s.sort.arrivals.find? (fun p => decide (p.src = k.val)) = some p →
    (s.asksReg p = true ∧ s.sort.regLane.length < 32) ∨ s.shareFull k.val = false →
    ∃ t, exec (.laneEnter k) s = .next t ∧ t.sort.arrivals = s.sort.arrivals.erase p ∧ t.sort.pipe = s.sort.pipe ∧
      t.sort.recLane = s.sort.recLane ∧ t.sort.cam = s.sort.cam ∧
      (s.asksReg p = true → s.sort.regLane.length < 32 → t.sort.regLane = s.sort.regLane ++ [{ p with regIn := true }] ∧
        t.sort.normLane = s.sort.normLane ∧ t = { s with sort := t.sort }) ∧
      (s.asksReg p = true → 32 ≤ s.sort.regLane.length → t.sort.regLane = s.sort.regLane ∧
        t.sort.normLane = s.sort.normLane ++ [p] ∧ counted s t C.SORT_REG_LANE_FULL 1 ∧
        onlyCtrs s t [C.SORT_REG_LANE_FULL] ∧ t = { s with ctrs := t.ctrs, sort := t.sort }) ∧
      (s.asksReg p = false → t.sort.regLane = s.sort.regLane ∧ t.sort.normLane = s.sort.normLane ++ [p] ∧
        t = { s with sort := t.sort })) ∧
  (∀ s : State, s.takesWork sortBlock = false ∨ 64 ≤ s.sort.pipe.length ∨
    (s.sort.regLane = [] ∧ s.sort.recLane = [] ∧ nextNormal s.sort.normLane s.sort.rr = none) →
    exec .passStart s = .next s) ∧
  (∀ (s : State) (p : Pkt) (rest : List Pkt), s.takesWork sortBlock = true → s.sort.pipe.length < 64 →
    s.sort.regLane = p :: rest →
    ∃ t, exec .passStart s = .next t ∧ piped s t p ∧ t.sort.regLane = rest ∧ t.sort.recLane = s.sort.recLane ∧
      t.sort.normLane = s.sort.normLane) ∧
  (∀ (s : State) (p : Pkt) (rest : List Pkt), s.takesWork sortBlock = true → s.sort.pipe.length < 64 →
    s.sort.regLane = [] →
    s.sort.recLane = p :: rest →
    ∃ t, exec .passStart s = .next t ∧ piped s t p ∧ t.sort.regLane = [] ∧ t.sort.recLane = rest ∧
      t.sort.normLane = s.sort.normLane) ∧
  (∀ (s : State) (p : Pkt), s.takesWork sortBlock = true → s.sort.pipe.length < 64 →
    s.sort.regLane = [] → s.sort.recLane = [] →
    nextNormal s.sort.normLane s.sort.rr = some p →
    ∃ t, exec .passStart s = .next t ∧ piped s t p ∧ t.sort.normLane = s.sort.normLane.erase p ∧ t.sort.rr = p.src) ∧
  (∀ (u : List (BitVec 8 × Bool)) (r : List (BitVec 13 × List Word)) (s : State), s.sort.pipe = [] →
    exec (.passEnd u r) s = .next s) ∧
  (∀ (s : State) (p : Pkt) (rest : List Pkt) (src : Nat) (k : Walk) (key : BitVec 320) (hit : Bool) (act : DWord) (q : Pkt),
    s.sort.pipe = p :: rest → src = (if p.pass2 then 6 else p.src) → k = walkOf s p src →
    key = keyOf k src (if src = 5 then p.bss else 0) p.pass2 (p.regIn && !p.pass2) → s.actionOf [] p.bank key = (hit, act) →
    q = { p with
      hdrs := k.hdrs.map (fun h => h.2)
      key := key
      act := act } →
    s.fld F.SORT_SWAP_STATUS_STATE ≠ 1 → actField act 24 1 = 0 → s.takesWork sortBlock = true → s.fwdTakes act = true →
    ∃ t, exec (.passEnd [] []) s = .next t ∧ t.sort.pipe = rest ∧ t.sort.cam = s.sort.cam ∧
      counted s t C.SORT_PARSE_TRUNC (bit k.trunc) ∧ counted s t C.SORT_LEN_CONFLICT (bit k.conflict) ∧
      counted s t C.SORT_FRAG (bit k.frag) ∧ counted s t C.SORT_BAD_NODE (bit k.badNode) ∧
      counted s t C.SORT_NO_MATCH (bit (!hit)) ∧
      counted s t C.SORT_DROP_RULE (bit (decide (actFwd act = 2))) ∧
      t = { s with ctrs := t.ctrs, sort := t.sort, tables := t.tables, tm := t.tm, regsvc := t.regsvc } ∧
      t.tables = { s.tables with inbox := if actFwd act = 0 then s.tables.inbox ++ [q] else s.tables.inbox } ∧
      t.tm = { s.tm with inbox := if actFwd act = 1 ∧ actField act 25 1 = 0 then s.tm.inbox ++ [q] else s.tm.inbox } ∧
      t.regsvc = { s.regsvc with
        inbox := if actFwd act = 1 ∧ actField act 25 1 = 1 then s.regsvc.inbox ++ [q] else s.regsvc.inbox } ∧
      (actFwd act ≠ 3 → t.sort.recLane = s.sort.recLane) ∧
      (actFwd act = 3 → p.pass2 = true → t.sort.recLane = s.sort.recLane ∧ counted s t C.SORT_RECIRC_REFUSED 1) ∧
      (∀ n, actFwd act = 3 → p.pass2 = false → stripBytes q.hdrs (actField act 26 4) p.bytes.length = some n →
        (s.sort.recLane.length < 64 → t.sort.recLane = s.sort.recLane ++ [{ q with
          pass2 := true
          bytes := p.bytes.drop n }]) ∧
        (64 ≤ s.sort.recLane.length → t.sort.recLane = s.sort.recLane ∧ counted s t C.SORT_RECIRC_FULL 1))) ∧
  (∀ (u : List (BitVec 8 × Bool)) (r : List (BitVec 13 × List Word)) (s : State) (p : Pkt) (rest : List Pkt) (k : Walk)
    (src : Nat) (hit : Bool) (act : DWord), s.sort.pipe = p :: rest → (∀ x ∈ u, x.2 = false) →
    src = (if p.pass2 then 6 else p.src) → k = walkOf s p src →
    s.actionOf r p.bank (keyOf k src (if src = 5 then p.bss else 0) p.pass2 (p.regIn && !p.pass2)) = (hit, act) →
    s.fwdTakes act = false → exec (.passEnd u r) s = .next s) ∧
  (∀ (k : Walk) (src bss : Nat) (pass2 regIn : Bool),
    (keyOf k src bss pass2 regIn).getLsbD 310 = k.badNode ∧ (keyOf k src bss pass2 regIn).getLsbD 311 = regIn ∧
    (keyOf k src bss pass2 regIn).getLsbD 312 = pass2 ∧ (keyOf k src bss pass2 regIn).getLsbD 313 = k.frag ∧
    (keyOf k src bss pass2 regIn).getLsbD 314 = k.conflict ∧ (keyOf k src bss pass2 regIn).getLsbD 315 = k.trunc) ∧
  (∀ (s : State) (p : Pkt) (src : Nat), (walkOf s p src).hdrs.length ≤ 16 ∧
    (s.fld (F.SORT_START_NODE p.bank src) = nodeEnd → (walkOf s p src).hdrs = [] ∧ (walkOf s p src).trunc = false ∧
      (walkOf s p src).badNode = false) ∧
    (s.fld (F.SORT_START_NODE p.bank src) ≠ nodeEnd →
      (s.nodeWord p.bank (s.fld (F.SORT_START_NODE p.bank src)) 0).getLsbD 31 = false →
      (walkOf s p src).badNode = true ∧ (walkOf s p src).hdrs = []))

/-- No other entry of the associative memory changes. -/
def otherEntries (s t : State) (i : Nat) : Prop := ∀ j, j ≠ i → t.camAt j = s.camAt j

/-- CAM_STATUS shows a result and BUSY, and nothing else changes. -/
def camOnly (s t : State) (r : Nat) : Prop :=
  t.fld F.SORT_CAM_STATUS_RESULT = r ∧ t.flag F.SORT_CAM_STATUS_BUSY = true ∧
    onlyFields s t [F.SORT_CAM_STATUS_RESULT, F.SORT_CAM_STATUS_BUSY] ∧ t = { s with regs := t.regs }

/-- Entry i becomes e, with `DONE`. -/
def camTakes (s t : State) (i : Nat) (e : CamEntry) : Prop :=
  t.camAt i = e ∧ otherEntries s t i ∧ t.fld F.SORT_CAM_STATUS_RESULT = 1 ∧
    t.flag F.SORT_CAM_STATUS_BUSY = true ∧ onlyFields s t [F.SORT_CAM_STATUS_RESULT, F.SORT_CAM_STATUS_BUSY] ∧
    t = { s with regs := t.regs, sort := { s.sort with cam := t.sort.cam } }

/-- The associative memory and the swap (R409, R411, R413, R415, R416, R419, R424). -/
def Obligations.AssociativeMemoryAndSwap : Prop :=
  (∀ (s : State) (b i : Nat) (key : BitVec 320), swf (fun _ => ({} : CamEntry)) s.sort.cam = true →
    (s.camAt i).hits b key = true → (∀ j < i, (s.camAt j).hits b key = false) →
    firstMatch s.sort.cam b key = some (s.camAt i)) ∧
  (∀ (s : State) (b : Nat) (key : BitVec 320), swf (fun _ => ({} : CamEntry)) s.sort.cam = true →
    (∀ j, (s.camAt j).hits b key = false) → firstMatch s.sort.cam b key = none) ∧
  (∀ (s u : State) (i : BitVec 13) (c : Instr), s.takesWork sortBlock = true → u = s.touch A.SORT_CAM_CMD →
    u.flag F.SORT_CAM_STATUS_BUSY = true → c = .camWrite i ∨ c = .camClear i ∨ c = .setBanks i ∨ c = .camRead i →
    ∃ t, exec c s = .next t ∧ refusedOnly u t A.SORT_CAM_CMD 2) ∧
  (∀ (s u : State) (i : BitVec 13), s.takesWork sortBlock = true → u = s.touch A.SORT_CAM_CMD →
    u.flag F.SORT_CAM_STATUS_BUSY = false →
    ∃ t, exec (.camWrite i) s = .next t ∧
      (u.touchesBusy (u.camAt i.toNat).banks = true ∨ u.touchesBusy u.stagedCam.banks = true → camOnly u t 2) ∧
      (u.touchesBusy (u.camAt i.toNat).banks = false → u.touchesBusy u.stagedCam.banks = false →
        (actLegal u.stagedCam.act (some (u.stagedCam.mask, u.stagedCam.value)) = false → camOnly u t 3) ∧
        (actLegal u.stagedCam.act (some (u.stagedCam.mask, u.stagedCam.value)) = true →
          camTakes u t i.toNat u.stagedCam))) ∧
  (∀ (s u : State) (i : BitVec 13), s.takesWork sortBlock = true → u = s.touch A.SORT_CAM_CMD →
    u.flag F.SORT_CAM_STATUS_BUSY = false →
    ∃ t, exec (.camClear i) s = .next t ∧
      (u.touchesBusy (u.camAt i.toNat).banks = true → camOnly u t 2) ∧
      (u.touchesBusy (u.camAt i.toNat).banks = false → camTakes u t i.toNat {})) ∧
  (∀ (s u : State) (i : BitVec 13), s.takesWork sortBlock = true → u = s.touch A.SORT_CAM_CMD →
    u.flag F.SORT_CAM_STATUS_BUSY = false →
    ∃ t, exec (.setBanks i) s = .next t ∧
      (u.touchesBusy (u.camAt i.toNat).banks = true ∨ u.touchesBusy ((u.rd (A.SORT_STAGE 22)).toNat % 4) = true →
        camOnly u t 2) ∧
      (u.touchesBusy (u.camAt i.toNat).banks = false → u.touchesBusy ((u.rd (A.SORT_STAGE 22)).toNat % 4) = false →
        camTakes u t i.toNat { u.camAt i.toNat with banks := (u.rd (A.SORT_STAGE 22)).toNat % 4 })) ∧
  (∀ (s u : State) (i : BitVec 13), s.takesWork sortBlock = true → u = s.touch A.SORT_CAM_CMD →
    u.flag F.SORT_CAM_STATUS_BUSY = false →
    ∃ t, exec (.camRead i) s = .next t ∧ t.fld F.SORT_CAM_STATUS_RESULT = 1 ∧ t.flag F.SORT_CAM_STATUS_BUSY = true ∧
      (∀ w < 10, t.rd (A.SORT_STAGE w) = BitVec.ofNat 32 ((u.camAt i.toNat).value.toNat / 2 ^ (32 * w)) ∧
        t.rd (A.SORT_STAGE (10 + w)) = BitVec.ofNat 32 ((u.camAt i.toNat).mask.toNat / 2 ^ (32 * w))) ∧
      t.rd (A.SORT_STAGE 20) = (u.camAt i.toNat).act.setWidth 32 ∧
      t.rd (A.SORT_STAGE 21) = ((u.camAt i.toNat).act >>> 32).setWidth 32 ∧
      t.rd (A.SORT_STAGE 22) = BitVec.ofNat 32 (u.camAt i.toNat).banks ∧
      (∀ a, (∀ w < 23, a ≠ A.SORT_STAGE w) → a ≠ A.SORT_CAM_STATUS → t.rd a = u.rd a) ∧ t = { u with regs := t.regs }) ∧
  (∀ s u : State, s.takesWork sortBlock = true → u = s.touch A.SORT_SWAP →
    ∃ t, exec .swap s = .next t ∧
      (u.fld F.SORT_SWAP_STATUS_STATE = 1 → refusedOnly u t A.SORT_SWAP 2) ∧
      (u.fld F.SORT_SWAP_STATUS_STATE ≠ 1 → t.fld F.SORT_BANK_ACTIVE = 1 - u.fld F.SORT_BANK_ACTIVE ∧
        t.fld F.SORT_SWAP_STATUS_STATE = 1 ∧
        t.fld F.SORT_SWAP_STATUS_INFLIGHT = u.sort.inFlight (u.fld F.SORT_BANK_ACTIVE) % 65536 ∧
        onlyFields u t [F.SORT_BANK_ACTIVE, F.SORT_SWAP_STATUS_STATE, F.SORT_SWAP_STATUS_INFLIGHT] ∧
        t = { u with regs := t.regs })) ∧
  (∀ s : State, s.takesWork sortBlock = true → s.fld F.SORT_SWAP_STATUS_STATE = 1 →
    ∃ t, exec .swapDone s = .next t ∧
      (s.sort.inFlight (1 - s.fld F.SORT_BANK_ACTIVE) ≠ 0 → t = s) ∧
      (s.sort.inFlight (1 - s.fld F.SORT_BANK_ACTIVE) = 0 → t.fld F.SORT_SWAP_STATUS_STATE = 2 ∧
        t.fld F.SORT_SWAP_STATUS_INFLIGHT = 0 ∧
        onlyFields s t [F.SORT_SWAP_STATUS_STATE, F.SORT_SWAP_STATUS_INFLIGHT] ∧ t = { s with regs := t.regs })) ∧
  (∀ (s : State) (i : BitVec 13), exec (.camScrub i .agrees) s = .next s) ∧
  (∀ (s : State) (i : BitVec 13), s.takesWork sortBlock = true →
    ∃ t, exec (.camScrub i .transient) s = .next t ∧ counted s t C.SORT_CAM_CORRECTED 1 ∧
    onlyCtrs s t [C.SORT_CAM_CORRECTED] ∧ t = { s with ctrs := t.ctrs }) ∧
  (∀ (s : State) (i : BitVec 13), s.takesWork sortBlock = true → s.flt.queue.length < 16 →
    ∃ t, exec (.camScrub i .permanent) s = .next t ∧
      (s.fld F.SORT_CAM_STATUS_SPARES = 0 → noted s t 0x22 i.toNat false ∧ t = { s with flt := t.flt }) ∧
      (s.fld F.SORT_CAM_STATUS_SPARES ≠ 0 → noted s t 0x21 i.toNat false ∧
        t.fld F.SORT_CAM_STATUS_SPARES = s.fld F.SORT_CAM_STATUS_SPARES - 1 ∧
        t.sort.moved = s.sort.moved.filter (fun e => decide (e.1 ≠ i.toNat)) ++
          [(i.toNat, 256 - s.fld F.SORT_CAM_STATUS_SPARES)] ∧ onlyFields s t [F.SORT_CAM_STATUS_SPARES] ∧
        t = { s with regs := t.regs, flt := t.flt, sort := { s.sort with moved := t.sort.moved } })) ∧
  (∀ (s : State) (i : BitVec 13), s.takesWork sortBlock = true → s.flt.queue.length < 16 →
    ∃ t, exec (.camScrub i .shadow) s = .next t ∧ noted s t 0x23 i.toNat false ∧
      t.camAt i.toNat = { s.camAt i.toNat with banks := 0 } ∧ otherEntries s t i.toNat ∧
      t = { s with sort := { s.sort with cam := t.sort.cam }, flt := t.flt })

/-- Registers of the tables' occupancy. -/
def fillFields : List Fld := [F.TABLES_FILL_L2_ENTRIES, whole A.TABLES_FILL_ROUTE, F.TABLES_FILL_SESS_SESSIONS]

/-- The oldest packet of TABLES has gone on to TM with an egress, or nowhere. -/
def forwarded (s t : State) (rest : List Pkt) (out : List Pkt) : Prop :=
  t.tables.inbox = rest ∧ t.tm = { s.tm with inbox := s.tm.inbox ++ out } ∧ onlyFields s t fillFields ∧
    t = { s with regs := t.regs, ctrs := t.ctrs, tables := t.tables, tm := t.tm }

/-- A packet at the head of TABLES with its profile and bridge domain. -/
def lookupOf (s : State) (p : Pkt) (rest : List Pkt) (r : Profile) (vid : Nat) : Prop :=
  s.tables.inbox = p :: rest ∧ s.takesWork 0x30 = true ∧ s.takesWork 0x40 = true ∧ r = s.profile p ∧ vid = s.vidOf r p

/-- The profile bridges only. -/
def bridgesOnly (r : Profile) : Prop := r.l2 = true ∧ r.l3 = 0 ∧ r.sess = false

/-- The profile routes, and the packet is for the router interface f. -/
def routesOnly (s : State) (p : Pkt) (r : Profile) (vid f : Nat) : Prop :=
  r.l2 = false ∧ r.l3 ≠ 0 ∧ r.sess = false ∧ s.bdValid vid = true ∧ s.rifOf vid = some f ∧ macAt p.bytes 0 = s.rifMac f

/-- Lookups (R429 to R431, R433, R435 to R437, R443, R444, R446, R448, R453). -/
def Obligations.TableLookups : Prop :=
  (∀ (l : List (Fin 8 × BitVec 17)) (s : State), (s.tables.inbox = [] ∨ s.takesWork 0x30 = false ∨ s.takesWork 0x40 = false) →
    exec (.tablesLookup l) s = .next s) ∧
  (∀ (s : State) (p : Pkt) (rest : List Pkt) (r : Profile) (vid : Nat), lookupOf s p rest r vid →
    (r.l2 = true ∨ r.l3 ≠ 0 ∨ r.sess = true) → s.bdValid vid = false →
    ∃ t, exec (.tablesLookup []) s = .next t ∧ forwarded s t rest [] ∧ counted s t C.TABLES_BD_INVALID 1 ∧
      onlyCtrs s t [C.TABLES_BD_INVALID] ∧ t.tables = { s.tables with inbox := rest }) ∧
  (∀ (s : State) (p : Pkt) (rest : List Pkt) (r : Profile) (vid : Nat), lookupOf s p rest r vid →
    r.l2 = false → r.l3 = 0 → r.sess = false →
    ∃ t, exec (.tablesLookup []) s = .next t ∧ forwarded s t rest [{ p with egress := none }] ∧ t.ctrs = s.ctrs ∧
      t.tables = { s.tables with inbox := rest }) ∧
  (∀ (s : State) (p : Pkt) (rest : List Pkt) (r : Profile) (vid : Nat), lookupOf s p rest r vid → bridgesOnly r →
    s.bdValid vid = true → s.l2Find vid (macAt p.bytes 6) = none → s.flag F.TABLES_CTRL_LEARN_EN = false →
    s.flag F.TABLES_CTRL_DA_REFRESH = false →
    ∃ t out, exec (.tablesLookup []) s = .next t ∧ forwarded s t rest out ∧ t.tables = { s.tables with inbox := rest } ∧
      (macAt p.bytes 0 = macBroadcast → out = [{ p with egress := some (s.floodOf vid) }] ∧ t.ctrs = s.ctrs) ∧
      (∀ i e, isGroup (macAt p.bytes 0) = false → s.l2Find vid (macAt p.bytes 0) = some (i, e) →
        (e.discard = false → e.egress ≠ p.srcEg → out = [{ p with egress := some e.egress }] ∧ t.ctrs = s.ctrs) ∧
        (e.discard = true → out = [] ∧ counted s t C.TABLES_L2_DISCARD 1 ∧ onlyCtrs s t [C.TABLES_L2_DISCARD]) ∧
        (e.discard = false → e.egress = p.srcEg → out = [] ∧ counted s t C.TABLES_L2_HAIRPIN 1 ∧
          onlyCtrs s t [C.TABLES_L2_HAIRPIN])) ∧
      (macAt p.bytes 0 ≠ macBroadcast →
        (isGroup (macAt p.bytes 0) = true ∨ s.l2Find vid (macAt p.bytes 0) = none) →
        (getBits (idxWord s.tables.bds vid 0) 28 2 = 0 → out = [{ p with egress := some (s.floodOf vid) }] ∧
          counted s t C.TABLES_L2_FLOOD_UNKNOWN 1) ∧
        (getBits (idxWord s.tables.bds vid 0) 28 2 = 2 → out = [{ p with egress := some 0x60006 }] ∧ t.ctrs = s.ctrs) ∧
        (getBits (idxWord s.tables.bds vid 0) 28 2 = 1 → out = [] ∧ t.ctrs = s.ctrs))) ∧
  (∀ (s : State) (p : Pkt) (rest : List Pkt) (r : Profile) (vid : Nat), lookupOf s p rest r vid → bridgesOnly r →
    s.bdValid vid = true → s.l2Find vid (macAt p.bytes 6) = none → s.flag F.TABLES_CTRL_LEARN_EN = true → r.learn = true →
    (idxWord s.tables.bds vid 0).getLsbD 30 = true → isGroup (macAt p.bytes 6) = false →
    macAt p.bytes 0 = macBroadcast →
    ∃ t, exec (.tablesLookup []) s = .next t ∧ forwarded s t rest [{ p with egress := some (s.floodOf vid) }] ∧
      (s.tables.learnQ.length < 1024 → t.ctrs = s.ctrs ∧ t.tables = { s.tables with
        inbox := rest
        learnQ := s.tables.learnQ ++ [{
          bd := vid
          mac := macAt p.bytes 6
          egress := p.srcEg
          pkt := { p with egress := some (s.floodOf vid) } }] }) ∧
      (1024 ≤ s.tables.learnQ.length → counted s t C.TABLES_LEARN_QFULL 1 ∧ t.tables = { s.tables with inbox := rest })) ∧
  (∀ (s : State) (p : Pkt) (rest : List Pkt) (r : Profile) (vid i : Nat) (e : L2Slot), lookupOf s p rest r vid →
    bridgesOnly r → s.bdValid vid = true → macAt p.bytes 0 = macBroadcast → s.l2Find vid (macAt p.bytes 6) = some (i, e) →
    ∃ t out, exec (.tablesLookup []) s = .next t ∧ forwarded s t rest out ∧
      t.l2At i = some { e with
        hit := true
        egress := if e.egress ≠ p.srcEg ∧ e.static = false then p.srcEg else e.egress } ∧
      (∀ j, j ≠ i → t.l2At j = s.l2At j) ∧
      counted s t C.TABLES_MOVES (if e.egress ≠ p.srcEg ∧ e.static = false then 1 else 0) ∧
      counted s t C.TABLES_MOVE_BLOCKED (if e.egress ≠ p.srcEg ∧ e.static = true then 1 else 0) ∧
      (e.discard = true → out = [] ∧ counted s t C.TABLES_L2_DISCARD 1) ∧
      (e.discard = false → out = [{ p with egress := some (s.floodOf vid) }])) ∧
  (∀ (rs : List Route) (w v a : Nat),
    (∀ r, longest rs w v a = some r → r ∈ rs ∧ r.vrf = v ∧ prefixOf w r.len r.addr = prefixOf w r.len a ∧
      ∀ q ∈ rs, q.vrf = v → prefixOf w q.len q.addr = prefixOf w q.len a → q.len ≤ r.len) ∧
    (longest rs w v a = none → ∀ q ∈ rs, q.vrf = v → prefixOf w q.len q.addr ≠ prefixOf w q.len a)) ∧
  (∀ (s : State) (p : Pkt) (rest : List Pkt) (r : Profile) (vid f : Nat), lookupOf s p rest r vid →
    routesOnly s p r vid f →
    longest (if r.l3 = 2 then s.tables.v6 else s.tables.v4) (8 * r.width) (getBits (idxWord s.tables.rifs f 0) 24 4)
      (beNat (p.keyBytes r.dip r.width)) = none →
    ∃ t, exec (.tablesLookup []) s = .next t ∧ forwarded s t rest [{ p with egress := some 0x60001 }] ∧
      counted s t C.TABLES_L3_MISS 1 ∧ onlyCtrs s t [C.TABLES_L3_MISS]) ∧
  (∀ (s : State) (p : Pkt) (rest : List Pkt) (r : Profile) (vid f : Nat) (rt : Route) (w0 : Word) (o ttl : Nat),
    lookupOf s p rest r vid → routesOnly s p r vid f →
    longest (if r.l3 = 2 then s.tables.v6 else s.tables.v4) (8 * r.width) (getBits (idxWord s.tables.rifs f 0) 24 4)
      (beNat (p.keyBytes r.dip r.width)) = some rt →
    w0 = s.nhWord rt.nh 0 → o = (p.hdr r.ipHdr).getD 0 → ttl = frameByte p.bytes (o + (if r.width = 4 then 8 else 7)) →
    ∃ t out, exec (.tablesLookup []) s = .next t ∧ forwarded s t rest [out] ∧
      (w0.getLsbD 31 = false → out = { p with egress := some 0x60002 } ∧ counted s t C.TABLES_NH_INVALID 1) ∧
      (w0.getLsbD 31 = true → w0.getLsbD 30 = true → ttl ≤ 1 → out = { p with egress := some 0x60003 } ∧
        counted s t C.TABLES_TTL_PUNT 1) ∧
      (∀ b1 : List Byte, w0.getLsbD 31 = true → (w0.getLsbD 30 = true → 1 < ttl) →
        b1 = (if w0.getLsbD 30 = true then decTtl p.bytes o (decide (r.width = 4)) else p.bytes) →
        (getBits (idxWord s.tables.rifs (getBits (idxWord s.tables.bds (getBits w0 0 12) 0) 0 8) 0) 0 14 < b1.length - o →
          out = { p with
            bytes := b1
            egress := some 0x60004 } ∧ counted s t C.TABLES_MTU_PUNT 1) ∧
        (b1.length - o ≤ getBits (idxWord s.tables.rifs (getBits (idxWord s.tables.bds (getBits w0 0 12) 0) 0 8) 0) 0 14 →
          out.egress = some (getBits (s.nhWord rt.nh 3) 0 20) ∧ t.ctrs = s.ctrs ∧
          out.bytes = retag (putBytes b1 0 (leBytes 6 (macOf (s.nhWord rt.nh 1) (s.nhWord rt.nh 2)).toNat ++
            leBytes 6 (s.rifMac (getBits (idxWord s.tables.bds (getBits w0 0 12) 0) 0 8)).toNat)) (getBits w0 0 12)))) ∧
  (∀ (s : State) (p : Pkt) (rest : List Pkt) (r : Profile) (vid : Nat) (key : List Byte), lookupOf s p rest r vid →
    r.l2 = false → r.l3 = 0 → r.sess = true → r.l4Hdr ≠ 0 → s.bdValid vid = true → s.rifOf vid = none →
    key = sessKeyBytes 0 (beNat (p.keyBytes r.proto 1)) (p.keyBytes r.sip 4) (p.keyBytes r.dip 4)
      (beNat ((p.keyBytes r.l4 4).take 2)) (beNat ((p.keyBytes r.l4 4).drop 2)) →
    ∃ t out, exec (.tablesLookup []) s = .next t ∧ forwarded s t rest [out] ∧
      (s.keyFind key = none → counted s t C.TABLES_SESS_MISS 1 ∧ onlyCtrs s t [C.TABLES_SESS_MISS] ∧
        out = { p with egress := if r.puntMiss then some 0x60005 else none }) ∧
      (∀ k x, s.keyFind key = some k → s.sessAt (k / 2) = some x → (∃ y, t.sessAt (k / 2) = some y ∧ y.hit = true ∧
        y.words = x.words ∧ y.packets = x.packets + 1 ∧ y.octets = x.octets + BitVec.ofNat 64 p.bytes.length ∧
        (x.closing = true → y.closing = true)) ∧ (∀ j, j ≠ k / 2 → t.sessAt j = s.sessAt j) ∧ out.egress = none ∧
        t.ctrs = s.ctrs))

/-- Learning, ageing, audit (R436 to R441, R449 to R452). -/
def Obligations.LearningAgeingAudit : Prop :=
  (∀ s : State, s.tables.learnQ = [] → exec .learn s = .next s) ∧
  (∀ (s : State) (q : LearnReq) (rest : List LearnReq) (i : Nat) (e : L2Slot), s.tables.learnQ = q :: rest →
    s.l2Find q.bd q.mac = some (i, e) → s.takesWork 0x30 = true →
    ∃ t, exec .learn s = .next t ∧ (∀ j, j ≠ i → t.l2At j = s.l2At j) ∧
      t = { s with ctrs := t.ctrs, tables := { s.tables with learnQ := rest, l2 := t.tables.l2 } } ∧
      (e.egress = q.egress ∨ e.static = true → t.l2At i = some { e with hit := true }) ∧
      (e.egress = q.egress → t.ctrs = s.ctrs) ∧
      (e.egress ≠ q.egress → e.static = true → counted s t C.TABLES_MOVE_BLOCKED 1 ∧ onlyCtrs s t [C.TABLES_MOVE_BLOCKED]) ∧
      (e.egress ≠ q.egress → e.static = false → t.l2At i = some { e with
        hit := true
        egress := q.egress } ∧ counted s t C.TABLES_MOVES 1 ∧ onlyCtrs s t [C.TABLES_MOVES])) ∧
  (∀ (s : State) (q : LearnReq) (rest : List LearnReq) (h : Nat), s.tables.learnQ = q :: rest →
    s.l2Find q.bd q.mac = none → (s.homes (l2Key q.bd q.mac)).find? (fun i => !(s.l2At i).isSome) = some h →
    s.takesWork 0x30 = true →
    ∃ t, exec .learn s = .next t ∧ counted s t C.TABLES_LEARNED 1 ∧ onlyCtrs s t [C.TABLES_LEARNED] ∧
      (∃ e, t.l2At h = some e ∧ e.bd = q.bd ∧ e.mac = q.mac ∧ e.egress = q.egress ∧ e.static = false ∧ e.hit = true ∧
        e.discard = false ∧ e.pass = !s.tables.l2Parity) ∧ (∀ j, j ≠ h → t.l2At j = s.l2At j) ∧
      onlyFields s t fillFields ∧
      t = { s with regs := t.regs, ctrs := t.ctrs, tables := { s.tables with learnQ := rest, l2 := t.tables.l2 } }) ∧
  (∀ (s : State) (q : LearnReq) (rest : List LearnReq), s.tables.learnQ = q :: rest → s.l2Find q.bd q.mac = none →
    (∀ e : L2Slot, e.bd = q.bd → e.mac = q.mac → s.l2Insert e = none) → s.flt.queue.length < 16 →
    s.takesWork 0x30 = true →
    ∃ t, exec .learn s = .next t ∧ counted s t C.TABLES_LEARN_FAIL 1 ∧ onlyCtrs s t [C.TABLES_LEARN_FAIL] ∧
      t.tables.learnQ = rest ∧ t.tables.l2 = s.tables.l2 ∧ t.regs = s.regs ∧
      (q.pkt.egress = some (s.floodOf q.bd) → t.tm = s.tm) ∧
      (q.pkt.egress ≠ some (s.floodOf q.bd) → t.tm.inbox = s.tm.inbox ++ [{ q.pkt with
        skip := q.pkt.egress
        egress := some (s.floodOf q.bd) }]) ∧
      (s.tables.fullTime = none → noted s t 0x24 0 false ∧ t.tables.fullTime = some s.time.tick) ∧
      (∀ u, s.tables.fullTime = some u → s.now - u.toNat < 500000000 → t.flt = s.flt)) ∧
  (∀ s : State, s.fld F.TABLES_AGE_L2_PASS_MS = 0 → exec .l2Sweep s = .next s) ∧
  (∀ (s : State) (b : Nat), s.tables.l2Start = some b → s.tables.l2Pos ≠ 0 →
    s.now * 131072 < b * 131072 + s.tables.l2Pos * (s.tables.l2Ms * Config.ticksPerMs) → exec .l2Sweep s = .next s) ∧
  (∀ (s : State) (b ms : Nat) (par : Bool), s.takesWork 0x30 = true → s.fld F.TABLES_AGE_L2_PASS_MS ≠ 0 →
    s.sweepPass s.tables.l2Pos 131072 s.tables.l2Start s.tables.l2Ms (s.fld F.TABLES_AGE_L2_PASS_MS) = some (b, ms) →
    par = (if s.tables.l2Pos = 0 then !s.tables.l2Parity else s.tables.l2Parity) →
    ∃ t, exec .l2Sweep s = .next t ∧ t.tables.l2Pos = (s.tables.l2Pos + 1) % 131072 ∧ t.tables.l2Parity = par ∧
      t.tables.l2Start = some b ∧ t.tables.l2Ms = ms ∧
      (∀ j, j ≠ s.tables.l2Pos → t.l2At j = s.l2At j) ∧ onlyFields s t fillFields ∧ onlyCtrs s t [C.TABLES_AGED_OUT] ∧
      (s.l2At s.tables.l2Pos = none → t.l2At s.tables.l2Pos = none ∧ t.ctrs = s.ctrs) ∧
      (∀ e, s.l2At s.tables.l2Pos = some e →
        (e.static = true ∨ e.pass = par → t.l2At s.tables.l2Pos = some e ∧ t.ctrs = s.ctrs) ∧
        (e.static = false → e.pass ≠ par → e.hit = true → t.ctrs = s.ctrs ∧ t.l2At s.tables.l2Pos = some { e with
          pass := par
          hit := false
          miss := 0 }) ∧
        (e.static = false → e.pass ≠ par → e.hit = false → e.miss = 0 → t.ctrs = s.ctrs ∧
          t.l2At s.tables.l2Pos = some { e with
            pass := par
            miss := 1 }) ∧
        (e.static = false → e.pass ≠ par → e.hit = false → e.miss = 1 → t.l2At s.tables.l2Pos = none ∧
          counted s t C.TABLES_AGED_OUT 1))) ∧
  (∀ s : State, s.fld F.TABLES_AGE_SESS_PASS_MS = 0 → exec .sessSweep s = .next s) ∧
  (∀ (s : State) (b : Nat), s.tables.sessStart = some b → s.tables.sessPos ≠ 0 →
    s.now * 65536 < b * 65536 + s.tables.sessPos * (s.tables.sessMs * Config.ticksPerMs) → exec .sessSweep s = .next s) ∧
  (∀ (s : State) (b ms : Nat) (par : Bool), s.takesWork 0x30 = true → s.fld F.TABLES_AGE_SESS_PASS_MS ≠ 0 →
    s.sweepPass s.tables.sessPos 65536 s.tables.sessStart s.tables.sessMs (s.fld F.TABLES_AGE_SESS_PASS_MS) = some (b, ms) →
    par = (if s.tables.sessPos = 0 then !s.tables.sessParity else s.tables.sessParity) →
    ∃ t, exec .sessSweep s = .next t ∧ t.tables.sessPos = (s.tables.sessPos + 1) % 65536 ∧ t.tables.sessParity = par ∧
      t.tables.sessStart = some b ∧ t.tables.sessMs = ms ∧
      (∀ j, j ≠ s.tables.sessPos → t.sessAt j = s.sessAt j) ∧
      (s.sessAt s.tables.sessPos = none → t.sessAt s.tables.sessPos = none ∧ t.ctrs = s.ctrs) ∧
      (∀ x limit, s.sessAt s.tables.sessPos = some x →
        limit = (if x.closing = true then getBits (x.w 0) 0 8 else getBits (x.w 0) 8 8) →
        (x.pass = par → t.sessAt s.tables.sessPos = some x ∧ t.ctrs = s.ctrs) ∧
        (x.pass ≠ par → x.hit = true → t.ctrs = s.ctrs ∧ t.sessAt s.tables.sessPos = some { x with
          pass := par
          hit := false
          miss := 0 }) ∧
        (x.pass ≠ par → x.hit = false → x.miss + 1 < limit → t.ctrs = s.ctrs ∧
          t.sessAt s.tables.sessPos = some { x with
            pass := par
            miss := x.miss + 1 }) ∧
        (x.pass ≠ par → x.hit = false → limit ≤ x.miss + 1 → t.sessAt s.tables.sessPos = none ∧
          counted s t C.TABLES_SESS_AGED 1 ∧
          (s.recordFits (s.fld F.TABLES_FIFO_SESS_FIFO) 4 = false → t.tables.ends = s.tables.ends ++
            [(s.tables.sessPos, endRecord x s.tables.sessPos (if x.closing = true then 2 else 1))])))) ∧
  (∀ s : State, s.flag F.TABLES_AUDIT_CTRL_EN = false → exec .auditPass s = .next s) ∧
  (∀ s : State, s.auditDue = false → exec .auditPass s = .next s) ∧
  (∀ (s u : State) (r : Fin 7), s.takesWork 0x30 = true → s.flag F.TABLES_AUDIT_CTRL_EN = true → s.auditDue = true →
    s.fld F.TABLES_AUDIT_CTRL_MASK = 2 ^ r.val → u = s.logShadow r.val →
    ∃ t, exec .auditPass s = .next t ∧ t.fld F.TABLES_AUDIT_STATUS_REGION = r.val ∧
      t.flag F.TABLES_AUDIT_STATUS_RUNNING = true ∧ t.tables.auditAt = some s.now ∧
      onlyFields u t [F.TABLES_AUDIT_STATUS_REGION, F.TABLES_AUDIT_STATUS_RESULT, F.TABLES_AUDIT_STATUS_RUNNING] ∧
      t = { u with regs := t.regs, tables := { s.tables with suspects := t.tables.suspects, auditAt := t.tables.auditAt } } ∧
      (s.shadowList r.val = none → t.fld F.TABLES_AUDIT_STATUS_RESULT = 2 ∧ t.tables.suspects = s.tables.suspects) ∧
      (∀ sh, s.shadowList r.val = some sh → t.fld F.TABLES_AUDIT_STATUS_RESULT = 1 ∧
        (∀ x ∈ s.tables.suspects, x ∈ t.tables.suspects) ∧
        (∀ k, (∃ w, (r.val, k, w) ∈ t.tables.suspects) ↔ (∃ w, (r.val, k, w) ∈ s.tables.suspects) ∨
          k ∈ mismatches r.val sh (s.hwList r.val)))) ∧
  (∀ s : State, s.tables.suspects = [] →
    ∃ t, exec .auditConfirm s = .next t ∧ onlyFields s t fillFields ∧ t = { s with regs := t.regs }) ∧
  (∀ s : State, s.flag F.TABLES_AUDIT_CTRL_EN = false → exec .auditConfirm s = .next s) ∧
  (∀ (s : State) (r k : Nat) (u : DWord) (sh : List (Nat × Nat)), s.tables.suspects = [(r, k, u)] → r ≤ 6 →
    s.takesWork 0x30 = true →
    s.flag F.TABLES_AUDIT_CTRL_EN = true →
    s.fld F.TABLES_AUDIT_CFG_CONFIRM_US * 500 ≤ s.now - u.toNat → s.shadowList r = some sh →
    ∃ t, exec .auditConfirm s = .next t ∧ t.tables.suspects = [] ∧
      (listAt r sh k = listAt r (s.hwList r) k → t.ctrs = s.ctrs ∧ onlyFields s t fillFields ∧
        t = { s with regs := t.regs, tables := { s.tables with suspects := [] } }) ∧
      (listAt r sh k ≠ listAt r (s.hwList r) k → s.flt.queue.length < 16 → counted s t C.TABLES_AUDIT_MISMATCH 1 ∧
        (r < 4 → t.fld F.TABLES_AUDIT_STATUS_INDEX = k % 131072) ∧
        (s.tables.auditTime = none → r < 4 → noted s t 0x25 (r * 131072 + k) false ∧
          t.tables.auditTime = some s.time.tick) ∧
        (s.flag F.TABLES_AUDIT_CTRL_CORRECT = false → t.tables = { s.tables with
          suspects := []
          auditTime := t.tables.auditTime } ∧ onlyCtrs s t [C.TABLES_AUDIT_MISMATCH]) ∧
        (s.flag F.TABLES_AUDIT_CTRL_CORRECT = true → counted s t C.TABLES_AUDIT_CORRECTED 1)))

/-- A write of TABLES.CMD reaches the block in u. -/
def tblRuns (s u : State) : Prop := s.takesWork 0x30 = true ∧ u = s.touch A.TABLES_CMD

/-- And no command runs there. -/
def tblFree (s u : State) : Prop := tblRuns s u ∧ u.flag F.TABLES_STATUS_BUSY = false

/-- The fields of a command's end. -/
def tblShows : List Fld := F.TABLES_STATUS_RESULT :: F.TABLES_STATUS_BUSY :: fillFields

/-- STATUS shows a result, and no table changes. -/
def tblOnly (s t : State) (r : Nat) : Prop :=
  t.fld F.TABLES_STATUS_RESULT = r ∧ t.flag F.TABLES_STATUS_BUSY = true ∧ onlyFields s t tblShows ∧
    t = { s with regs := t.regs, tables := { s.tables with suspects := t.tables.suspects } }

/-- `DONE`, with the tables changed only as `u` says. -/
def tblDid (s t : State) (u : TablesSt) : Prop :=
  t.fld F.TABLES_STATUS_RESULT = 1 ∧ t.flag F.TABLES_STATUS_BUSY = true ∧ onlyFields s t tblShows ∧
    t = { s with regs := t.regs, tables := { u with suspects := t.tables.suspects } }

/-- The staged L2 entry is legal. -/
def stagedL2Legal (s : State) : Prop :=
  1 ≤ s.stagedL2.bd ∧ s.stagedL2.bd ≤ 4094 ∧ egressLegal s.stagedL2.egress true = true

/-- The staged IPv4 route is legal. -/
def stagedV4Legal (s : State) : Prop :=
  (s.stagedRoute false).len ≤ 32 ∧ (s.stagedRoute false).addr % 2 ^ (32 - (s.stagedRoute false).len) = 0

/-- The staged route's prefix. -/
def sameRoute (s : State) (x : Route) : Prop :=
  x.vrf = (s.stagedRoute false).vrf ∧ x.len = (s.stagedRoute false).len ∧ x.addr = (s.stagedRoute false).addr

/-- Commands of TABLES (R429, R438, R445, R447, R450, R456, R457). -/
def Obligations.TableCommands : Prop :=
  (∀ (s u : State) (k : BitVec 4) (x : BitVec 17) (i : Instr), tblRuns s u → 8 ≤ k.toNat ∨ u.flag F.TABLES_STATUS_BUSY = true →
    i ∈ [Instr.tablesAdd k x, .tablesUpdate k x, .tablesDelete k x, .tablesReadKey k x, .tablesWriteIndexed k x,
      .tablesReadIndex k x, .flush k] → ∃ t, exec i s = .next t ∧ refusedOnly u t A.TABLES_CMD 2) ∧
  (∀ (s u : State) (x : BitVec 17), tblFree s u →
    ∃ t, exec (.tablesAdd 0 x) s = .next t ∧
      (¬ stagedL2Legal u → tblOnly u t 5) ∧
      (stagedL2Legal u → ∀ y, u.l2Find u.stagedL2.bd u.stagedL2.mac = some y → tblOnly u t 2) ∧
      (stagedL2Legal u → u.l2Find u.stagedL2.bd u.stagedL2.mac = none → u.l2Insert u.stagedL2 = none → tblOnly u t 4) ∧
      (∀ h, stagedL2Legal u → u.l2Find u.stagedL2.bd u.stagedL2.mac = none →
        (u.homes (l2Key u.stagedL2.bd u.stagedL2.mac)).find? (fun i => !(u.l2At i).isSome) = some h →
        tblDid u t { u.tables with l2 := t.tables.l2 } ∧ t.l2At h = some u.stagedL2 ∧
          ∀ j, j ≠ h → t.l2At j = u.l2At j)) ∧
  (∀ (s u : State) (x : BitVec 17), tblFree s u → stagedL2Legal u →
    ∃ t v, exec (.tablesUpdate 0 x) s = .next t ∧ exec (.tablesDelete 0 x) s = .next v ∧
      (u.l2Find u.stagedL2.bd u.stagedL2.mac = none → tblOnly u t 3 ∧ tblOnly u v 3) ∧
      (∀ i e, u.l2Find u.stagedL2.bd u.stagedL2.mac = some (i, e) →
        tblDid u t { u.tables with l2 := t.tables.l2 } ∧ tblDid u v { u.tables with l2 := v.tables.l2 } ∧
        t.l2At i = some { e with
          static := u.stagedL2.static
          discard := u.stagedL2.discard
          egress := u.stagedL2.egress } ∧ v.l2At i = none ∧ ∀ j, j ≠ i → t.l2At j = u.l2At j ∧ v.l2At j = u.l2At j)) ∧
  (∀ (s u : State) (x : BitVec 17), tblFree s u →
    ∃ t, exec (.tablesAdd 1 x) s = .next t ∧
      (¬ stagedV4Legal u → tblOnly u t 5) ∧
      (stagedV4Legal u → (∃ y ∈ u.tables.v4, sameRoute u y) → tblOnly u t 2) ∧
      (stagedV4Legal u → (∀ y ∈ u.tables.v4, ¬ sameRoute u y) →
        (65536 ≤ u.tables.v4.length → tblOnly u t 4) ∧
        (u.tables.v4.length < 65536 → tblDid u t { u.tables with v4 := u.tables.v4 ++ [u.stagedRoute false] }))) ∧
  (∀ (s u : State) (x : BitVec 17), tblFree s u → stagedV4Legal u →
    ∃ t v, exec (.tablesUpdate 1 x) s = .next t ∧ exec (.tablesDelete 1 x) s = .next v ∧
      ((∀ y ∈ u.tables.v4, ¬ sameRoute u y) → tblOnly u t 3 ∧ tblOnly u v 3) ∧
      ((∃ y ∈ u.tables.v4, sameRoute u y) →
        tblDid u t { u.tables with v4 := t.tables.v4 } ∧ tblDid u v { u.tables with v4 := v.tables.v4 } ∧
        u.stagedRoute false ∈ t.tables.v4 ∧ (∀ y ∈ v.tables.v4, ¬ sameRoute u y) ∧
        ∀ y, ¬ sameRoute u y → (y ∈ t.tables.v4 ↔ y ∈ u.tables.v4) ∧ (y ∈ v.tables.v4 ↔ y ∈ u.tables.v4))) ∧
  (∀ (s u : State) (x : BitVec 17), tblFree s u → x.toNat < 65536 → u.sessAt x.toNat = none → u.tables.ends = [] →
    ∃ t, exec (.tablesAdd 3 x) s = .next t ∧
      (∀ r, u.stagedSess.check = some r → t.fld F.TABLES_STATUS_RESULT = r ∧ t.sessAt x.toNat = none) ∧
      (u.stagedSess.check = none →
        ((u.keyFind (u.stagedSess.key false)).isSome = true ∨ (u.keyFind (u.stagedSess.key true)).isSome = true →
          t.fld F.TABLES_STATUS_RESULT = 2 ∧ t.sessAt x.toNat = none) ∧
        (u.keyFind (u.stagedSess.key false) = none → u.keyFind (u.stagedSess.key true) = none →
          (u.sessInsert x.toNat u.stagedSess = none → tblOnly u t 4) ∧
          (∀ v, u.sessInsert x.toNat u.stagedSess = some v → t.fld F.TABLES_STATUS_RESULT = 1 ∧
            t.sessAt x.toNat = some u.stagedSess ∧ (∀ j, j ≠ x.toNat → t.sessAt j = u.sessAt j) ∧
            t.tables.keySlots = v.tables.keySlots)))) ∧
  (∀ (s u : State) (x : BitVec 17), tblFree s u → x.toNat < 65536 → u.sessAt x.toNat = none →
    ∃ t v, exec (.tablesUpdate 3 x) s = .next t ∧ exec (.tablesDelete 3 x) s = .next v ∧ tblOnly u t 3 ∧ tblOnly u v 3) ∧
  (∀ (s u : State) (x : BitVec 17) (y : Session), tblFree s u → x.toNat < 65536 → u.sessAt x.toNat = some y →
    u.recordFits (u.fld F.TABLES_FIFO_SESS_FIFO) 4 = false →
    ∃ t, exec (.tablesDelete 3 x) s = .next t ∧ t.fld F.TABLES_STATUS_RESULT = 1 ∧ t.sessAt x.toNat = none ∧
      (∀ j, j ≠ x.toNat → t.sessAt j = u.sessAt j) ∧
      t.tables.ends = u.tables.ends ++ [(x.toNat, endRecord y x.toNat 3)] ∧
      (∀ e ∈ t.tables.keySlots, ∀ k, e.2 = some k → k / 2 ≠ x.toNat)) ∧
  (∀ (s u : State) (k : BitVec 4) (x : BitVec 17), tblFree s u → k.toNat < 8 →
    ∃ t, exec (.tablesWriteIndexed k x) s = .next t ∧
      (k.toNat < 4 ∨ idxCount k.toNat ≤ x.toNat ∨ idxLegal k.toNat x.toNat (u.stagedIdx k.toNat) = false →
        tblOnly u t 5) ∧
      (4 ≤ k.toNat → x.toNat < idxCount k.toNat → idxLegal k.toNat x.toNat (u.stagedIdx k.toNat) = true →
        t.idxWords k.toNat x.toNat = u.stagedIdx k.toNat ∧ t.fld F.TABLES_STATUS_RESULT = 1 ∧
        (∀ j i, 4 ≤ j → j < 8 → (j, i) ≠ (k.toNat, x.toNat) → t.idxWords j i = u.idxWords j i) ∧
        t.tables.l2 = u.tables.l2 ∧ t.tables.v4 = u.tables.v4 ∧ t.tables.v6 = u.tables.v6 ∧
        t.tables.sess = u.tables.sess ∧ t = { u with regs := t.regs, tables := t.tables })) ∧
  (∀ (s u : State) (k : BitVec 4) (x : BitVec 17), tblFree s u → 4 ≤ k.toNat → k.toNat < 8 →
    ∃ t, exec (.tablesReadIndex k x) s = .next t ∧ t = { u with regs := t.regs } ∧
      (idxCount k.toNat ≤ x.toNat → t.fld F.TABLES_STATUS_RESULT = 5) ∧
      (x.toNat < idxCount k.toNat → (u.idxWords k.toNat x.toNat).length ≤ 24 → t.fld F.TABLES_STATUS_RESULT = 1 ∧
        ∀ w < 24, t.rd (A.TABLES_STAGE w) = (u.idxWords k.toNat x.toNat).getD w 0)) ∧
  (∀ (s u : State) (x : BitVec 17), tblFree s u →
    ∃ t, exec (.tablesReadKey 0 x) s = .next t ∧ t = { u with regs := t.regs } ∧
      (u.l2Find u.stagedL2.bd u.stagedL2.mac = none → t.fld F.TABLES_STATUS_RESULT = 3) ∧
      (∀ i e, u.l2Find u.stagedL2.bd u.stagedL2.mac = some (i, e) → i < 131072 → t.fld F.TABLES_STATUS_RESULT = 1 ∧
        t.fld F.TABLES_STATUS_SLOT = i ∧ t.rd (A.TABLES_STAGE 3) = BitVec.ofNat 32 e.egress ∧
        t.rd (A.TABLES_STAGE 1) = BitVec.ofNat 32 e.mac.toNat)) ∧
  (∀ s u : State, tblFree s u →
    ∃ t, exec (.flush 0) s = .next t ∧
      (getBits (u.tblStage 0) 0 12 = 0 → t.fld F.TABLES_STATUS_RESULT = 5 ∧ t.tables = u.tables) ∧
      (getBits (u.tblStage 0) 0 12 = 0xFFF → (u.tblStage 3).getLsbD 31 = false → t.fld F.TABLES_STATUS_RESULT = 1 ∧
        (∀ e ∈ u.tables.l2, ∀ x, e.2 = some x → (e ∈ t.tables.l2 ↔ x.static = true)) ∧
        t = { u with regs := t.regs, tables := { u.tables with l2 := t.tables.l2 } }))

/-- An unregistered packet at the head of TM, in u, where the refills that are due have been applied. -/
def tmHead (s u : State) (p : Pkt) (rest : List Pkt) : Prop :=
  s.tm.inbox = p :: rest ∧ s.takesWork 0x40 = true ∧ p.reg = none ∧ u = s.refill

/-- The packet has left TM's inbox, and only these counters have changed. -/
def tmCounts (s t : State) (rest : List Pkt) (cs : List Nat) : Prop :=
  onlyCtrs s t cs ∧ t = { s with ctrs := t.ctrs, tm := { s.tm with inbox := rest } }

/-- The limit of queue q for a colour, in bytes. -/
def colourLimit (s : State) (q colour : Nat) : Nat :=
  256 * (if colour = 0 then getBits (s.qw q 3) 0 16 else if colour = 1 then getBits (s.qw q 3) 16 16
    else getBits (s.qw q 2) 16 16)

/-- A frame of `p` has joined queue q at its tail, for an egress. -/
def tmJoins (s t : State) (p : Pkt) (q egress : Nat) : Prop :=
  (∃ f, t.qFrames q = s.qFrames q ++ [f] ∧ f.pkt = p ∧ f.egress = egress ∧ f.enq = s.time.tick) ∧
    (∀ k, k ≠ q → t.qFrames k = s.qFrames k) ∧
    t.rd (A.TM_Q_DEPTH_FRAMES q) = BitVec.ofNat 32 ((s.qFrames q).length + 1) ∧
    t.rd (A.TM_Q_DEPTH_BYTES q) = BitVec.ofNat 32 (depthBytes (s.qFrames q) + p.bytes.length) ∧
    counted s t C.TM_ENQUEUED 1

/-- One egress takes the head f of queue q. -/
def tmTakes (s t : State) (q : Nat) (f : TmFrame) (rest : List TmFrame) : Prop :=
  t.qFrames q = rest ∧ (∀ k, k ≠ q → t.qFrames k = s.qFrames k) ∧ counted s t (C.TM_Q_TX_PKT q) 1 ∧
    counted s t (C.TM_Q_TX_OCT q) f.pkt.bytes.length ∧
    t.rd (A.TM_Q_MAX_DELAY q) = BitVec.ofNat 32 (max (min 0xFFFFFFFF ((s.now - f.enq.toNat) / 5))
      (s.rd (A.TM_Q_MAX_DELAY q)).toNat) ∧ t.mem = s.mem

/-- TM's admission and hand-over (R275, R461, R463, R466, R467, R469, R474, R475, R477, R532). -/
def Obligations.TrafficManagerFrames : Prop :=
  (∀ s : State, (s.tm.inbox = [] ∨ s.takesWork 0x40 = false) → exec .tmEnqueue s = .next s) ∧
  (∀ (s : State) (p : Pkt) (e q : Nat) (m : Word) (flood : Bool),
    s.queueFor p none flood = (if s.qEn (actField p.act 8 13) then .inr (actField p.act 8 13) else .inl C.TM_Q_DISABLED) ∧
    (s.qEn (actField p.act 8 13) = true → s.qEgress (actField p.act 8 13) = e →
      s.queueFor p (some e) false = .inr (actField p.act 8 13)) ∧
    (s.qEn (actField p.act 8 13) = false → m = idxWord s.tm.egmap (mapIndex e) 0 →
      (m.getLsbD 31 = false → s.queueFor p (some e) flood = .inl C.TM_NO_EGMAP) ∧
      (m.getLsbD 31 = true →
        q = getBits m 0 13 + getBits (s.rd (A.TM_CMAP (getBits m 24 3) (actField p.act 0 6 / 4)))
          (8 * (actField p.act 0 6 % 4)) 3 % 2 ^ getBits m 28 2 →
        s.queueFor p (some e) flood = (if s.qEn q then .inr q else .inl C.TM_Q_DISABLED)))) ∧
  (∀ (s u : State) (p : Pkt) (rest : List Pkt) (c : Nat), tmHead s u p rest → actField p.act 23 1 = 0 →
    (∀ e, p.egress = some e → e / 65536 ≠ 5) → u.queueFor p p.egress false = .inl c →
    ∃ t, exec .tmEnqueue s = .next t ∧ counted u t c 1 ∧ tmCounts u t rest [c]) ∧
  (∀ (s u : State) (p : Pkt) (rest : List Pkt) (q colour : Nat), tmHead s u p rest → actField p.act 23 1 = 0 →
    (∀ e, p.egress = some e → e / 65536 ≠ 5) → u.queueFor p p.egress false = .inr q → q < 8192 →
    colour = actField p.act 6 2 →
    ∃ t, exec .tmEnqueue s = .next t ∧ t.tm.inbox = rest ∧
      (u.qMaxFrame q < p.bytes.length → counted u t C.TM_DROP_OVERSIZE 1 ∧ counted u t (C.TM_Q_DROP_PKT q) 1 ∧
        counted u t (C.TM_Q_DROP_OCT q) p.bytes.length ∧
        tmCounts u t rest [C.TM_DROP_OVERSIZE, C.TM_Q_DROP_PKT q, C.TM_Q_DROP_OCT q]) ∧
      (p.bytes.length ≤ u.qMaxFrame q → colourLimit u q colour < depthBytes (u.qFrames q) + p.bytes.length →
        counted u t C.TM_DROP_LIMIT 1 ∧ tmCounts u t rest [C.TM_DROP_LIMIT, C.TM_Q_DROP_PKT q, C.TM_Q_DROP_OCT q]) ∧
      (p.bytes.length ≤ u.qMaxFrame q → depthBytes (u.qFrames q) + p.bytes.length ≤ colourLimit u q colour →
        (u.placeFor q p.bytes.length = none → counted u t C.TM_DROP_POOL 1 ∧
          tmCounts u t rest [C.TM_DROP_POOL, C.TM_Q_DROP_PKT q, C.TM_Q_DROP_OCT q]) ∧
        (∀ pl, u.placeFor q p.bytes.length = some pl → tmJoins u t p q (p.egress.getD (u.qEgress q)) ∧
          t.tm.bufs = u.tm.bufs ++ [{
            id := u.tm.nextBuf
            len := p.bytes.length
            place := pl }] ∧ (pl = .dram → counted u t C.TM_DRAM_ENQ 1)))) ∧
  (∀ (s : State) (k c len : Nat), (s.polWord k 0).getLsbD 31 = false → s.police k c len = (c, false, s)) ∧
  (∀ (s t : State) (k c len colour : Nat) (drop : Bool), (s.polWord k 0).getLsbD 31 = true →
    (s.polWord k 0).getLsbD 30 = false → s.police k c len = (colour, drop, t) →
    (s.polTp k < 65536 * len → colour = 2 ∧ drop = (s.polWord k 0).getLsbD 29 ∧ counted s t (C.TM_P_RED k) 1 ∧
      t.polTc k = s.polTc k ∧ t.polTp k = s.polTp k) ∧
    (65536 * len ≤ s.polTp k → s.polTc k < 65536 * len → colour = 1 ∧ drop = false ∧ counted s t (C.TM_P_YELLOW k) 1 ∧
      t.polTc k = s.polTc k ∧ t.polTp k = s.polTp k - 65536 * len) ∧
    (65536 * len ≤ s.polTp k → 65536 * len ≤ s.polTc k → colour = 0 ∧ drop = false ∧ counted s t (C.TM_P_GREEN k) 1 ∧
      t.polTc k = s.polTc k - 65536 * len ∧ t.polTp k = s.polTp k - 65536 * len)) ∧
  (∀ (s u s1 : State) (p : Pkt) (rest : List Pkt) (colour : Nat), tmHead s u p rest → actField p.act 23 1 = 1 →
    u.police (actField p.act 32 12) (actField p.act 6 2) p.bytes.length = (colour, true, s1) →
    ∃ t, exec .tmEnqueue s = .next t ∧ (∀ q, t.qFrames q = u.qFrames q) ∧ t.ctrs = s1.ctrs ∧ t.tm.inbox = rest ∧
      t.tm.bufs = u.tm.bufs) ∧
  (∀ (s u : State) (p : Pkt) (rest : List Pkt) (e : Nat) (ms : List Nat), tmHead s u p rest → actField p.act 23 1 = 0 →
    p.egress = some e → e / 65536 = 5 →
    ms = (u.floodMembers (e % 1024)).filter (fun m => decide (m ≠ p.srcEg) && decide (some m ≠ p.skip)) →
    ∃ t, exec .tmEnqueue s = .next t ∧
      (ms = [] → counted u t C.TM_FLOOD_EMPTY 1 ∧ tmCounts u t rest [C.TM_FLOOD_EMPTY]) ∧
      (ms ≠ [] → counted u t C.TM_FLOOD_COPIES ms.length) ∧ t.tm.inbox = rest ∧ t.mem = u.mem) ∧
  (∀ (e : BitVec 20) (tid : BitVec 3) (b : Option BufUpset) (s : State),
    (s.takesWork 0x40 = false ∨ s.egressWorks e.toNat = false) → exec (.egressReady e tid b) s = .next s) ∧
  (∀ (e : BitVec 20) (tid : BitVec 3) (b : Option BufUpset) (s u : State), s.takesWork 0x40 = true →
    s.takesWork 0x60 = true → u = s.refill → u.queuesOf (mapIndex e.toNat) = [] → e.toNat / 65536 = 3 →
    exec (.egressReady e tid b) s = .next u) ∧
  (∀ (e : BitVec 20) (tid : BitVec 3) (s u : State) (q : Nat) (f : TmFrame) (rest : List TmFrame),
    s.takesWork 0x40 = true → s.takesWork 0x60 = true → u = s.refill → e.toNat / 65536 = 3 →
    u.queuesOf (mapIndex e.toNat) = [q] → q < 8192 → u.qFrames q = f :: rest →
    (u.qReg q = true ∨ u.qEligible q = true) →
    ∃ t, exec (.egressReady e tid none) s = .next t ∧ tmTakes u t q f rest ∧
      t.tm.handed = u.tm.handed ++ [(mapIndex f.egress, f)] ∧
      (u.shapersOf q = [] → t.tm.shTok = u.tm.shTok)) ∧
  (∀ (e : BitVec 20) (tid : BitVec 3) (s u : State) (q : Nat) (f : TmFrame) (rest : List TmFrame),
    s.takesWork 0x40 = true → s.takesWork 0x60 = true → u = s.refill → e.toNat / 65536 = 3 →
    u.queuesOf (mapIndex e.toNat) = [q] → q < 8192 → u.qFrames q = f :: rest → u.qReg q = false → u.qEligible q = true →
    u.tm.handed = [] → u.bufPlace f.buf ≠ some .dram → u.poison ≠ [] → f.pkt.reg = none →
    ∃ t, exec (.egressReady e tid (some .sram)) s = .next t ∧ tmTakes u t q f rest ∧ t.tm.handed = []) ∧
  (∀ (e : BitVec 20) (tid : BitVec 3) (s u : State) (q : Nat) (f : TmFrame) (rest : List TmFrame),
    s.takesWork 0x40 = true → e.toNat / 65536 = 6 → u = s.refill → u.queuesOf 4 = [q] → q < 8192 →
    u.qFrames q = f :: rest → u.qReg q = false → u.qEligible q = true → u.tm.handed = [] → mapIndex f.egress = 4 →
    ∃ t, exec (.egressReady e tid none) s = .next t ∧ tmTakes u t q f rest ∧ t.tm.fwRx = u.tm.fwRx ++ [f] ∧
      t.tm.handed = []) ∧
  (∀ (p : Fin 4) (tid : BitVec 3) (s u : State) (q : Nat) (f : TmFrame) (rest : List TmFrame), s.takesWork 0x40 = true →
    s.takesWork (emacBlock p.val) = true → u = s.refill → u.linkIsUp p.val = true → u.handedTo p.val = none →
    u.queuesOf p.val = [q] → q < 8192 → u.qFrames q = f :: rest → u.qReg q = false → u.qEligible q = true →
    u.pausedFrame p.val f = false → mapIndex f.egress = p.val →
    ∃ t g, exec (.egressReady (BitVec.ofNat 20 p.val) tid none) s = .next t ∧ tmTakes u t q f rest ∧
      t.handedTo p.val = some (p.val, g) ∧ g.start = u.ethStamp ∧ g.secy = u.secyNow p.val ∧ g.pkt.tx = f.pkt.tx ∧
      (f.pkt.tx.oneStep = none → g.pkt.bytes = f.pkt.bytes) ∧
      (∀ d off, f.pkt.tx.oneStep = some (d, off) → g.pkt.bytes = oneStepEdit f.pkt.bytes off (u.dom d).nanos)) ∧
  (∀ (p : Fin 4) (tid : BitVec 3) (b : Option BufUpset) (s : State), s.takesWork 0x40 = true → s.linkIsUp p.val = false →
    s.flag (F.EMAC_TX_CFG_DOWN_DROP p.val) = false →
    exec (.egressReady (BitVec.ofNat 20 p.val) tid b) s = .next s.refill)

/-- TM's commits and walks (R464, R465, R470 to R473, R477 to R479, R482 to R484). -/
def Obligations.TrafficManagerCommits : Prop :=
  (∀ (s u : State) (q : BitVec 13) (v : Word) (ws : List Word), s.takesWork (windowOf (A.TM_Q_W0 q.toNat)) = true → u = s.touch (A.TM_Q_W0 q.toNat) →
    ws = [v &&& 0xB7FF1FFF, u.rd (A.TM_Q_W1 q.toNat), u.rd (A.TM_Q_W2 q.toNat), u.rd (A.TM_Q_W3 q.toNat)] →
    ∃ t, exec (.queueCommit q v) s = .next t ∧
      (∀ c, u.queueCheck q.toNat ws = some c → refusedOnly u t (A.TM_Q_W0 q.toNat) c.num) ∧
      (u.queueCheck q.toNat ws = none → t.rd (A.TM_Q_W0 q.toNat) = v &&& 0xB7FF1FFF ∧
        (∀ w, t.qw q.toNat w = ws.getD w 0) ∧ (∀ k w, k ≠ q.toNat → t.qw k w = u.qw k w) ∧
        onlyFields u t [whole (A.TM_Q_W0 q.toNat)] ∧
        t = { u with regs := t.regs, tm := { u.tm with queues := t.tm.queues } })) ∧
  (∀ (s u : State) (i : BitVec 11) (v : Word), s.takesWork (windowOf (A.TM_EGMAP_W0 i.toNat)) = true → u = s.touch (A.TM_EGMAP_W0 i.toNat) →
    ∃ t, exec (.egmapCommit i v) s = .next t ∧
      (u.egmapCheck i.toNat (v &&& 0xB7001FFF) = false → refusedOnly u t (A.TM_EGMAP_W0 i.toNat) 2) ∧
      (u.egmapCheck i.toNat (v &&& 0xB7001FFF) = true → t.rd (A.TM_EGMAP_W0 i.toNat) = v &&& 0xB7001FFF ∧
        idxWord t.tm.egmap i.toNat 0 = v &&& 0xB7001FFF ∧ idxWord t.tm.egmap i.toNat 1 = u.rd (A.TM_EGMAP_W1 i.toNat) ∧
        (∀ k w, k ≠ i.toNat → idxWord t.tm.egmap k w = idxWord u.tm.egmap k w) ∧
        onlyFields u t [whole (A.TM_EGMAP_W0 i.toNat)] ∧
        t = { u with regs := t.regs, tm := { u.tm with egmap := t.tm.egmap } })) ∧
  (∀ (s u : State) (g : BitVec 10) (v : Word), s.takesWork (windowOf (A.TM_FLOOD_W0 g.toNat)) = true → u = s.touch (A.TM_FLOOD_W0 g.toNat) →
    ∃ t, exec (.floodCommit g v) s = .next t ∧ t.rd (A.TM_FLOOD_W0 g.toNat) = v &&& 0xF0FF000F ∧
      idxWord t.tm.floods g.toNat 0 = v &&& 0xF0FF000F ∧ idxWord t.tm.floods g.toNat 1 = u.rd (A.TM_FLOOD_W1 g.toNat) ∧
      idxWord t.tm.floods g.toNat 2 = u.rd (A.TM_FLOOD_W2 g.toNat) ∧
      (∀ k w, k ≠ g.toNat → idxWord t.tm.floods k w = idxWord u.tm.floods k w) ∧
      onlyFields u t [whole (A.TM_FLOOD_W0 g.toNat)] ∧
      t = { u with regs := t.regs, tm := { u.tm with floods := t.tm.floods } }) ∧
  (∀ (s u : State) (i : BitVec 13) (v : Word) (ws : List Word), s.takesWork (windowOf (A.TM_SH_W0 i.toNat)) = true → u = (s.touch (A.TM_SH_W0 i.toNat)).refill →
    ws = [v &&& 0x81FFFFFF, u.rd (A.TM_SH_W1 i.toNat), u.rd (A.TM_SH_W2 i.toNat)] →
    ∃ t, exec (.shaperCommit false i v) s = .next t ∧
      (∀ c, u.shaperCheck i.toNat ws = some c → refusedOnly u t (A.TM_SH_W0 i.toNat) c.num) ∧
      (u.shaperCheck i.toNat ws = none → t.rd (A.TM_SH_W0 i.toNat) = v &&& 0x81FFFFFF ∧
        (∀ w, t.shNext i.toNat w = ws.getD w 0) ∧ (∀ k w, t.shWord k w = u.shWord k w) ∧
        onlyFields u t [whole (A.TM_SH_W0 i.toNat)] ∧
        t = { u with regs := t.regs, tm := { u.tm with shStage := t.tm.shStage } })) ∧
  (∀ (s u : State) (i : BitVec 13) (v : Word) (k : Nat), k = i.toNat % 4096 → s.takesWork (windowOf (A.TM_POL_W0 k)) = true → u = (s.touch (A.TM_POL_W0 k)).refill →
    ∃ t, exec (.shaperCommit true i v) s = .next t ∧
      (getBits (u.rd (A.TM_POL_W1 k)) 0 25 < getBits v 0 25 → refusedOnly u t (A.TM_POL_W0 k) 2) ∧
      (getBits v 0 25 ≤ getBits (u.rd (A.TM_POL_W1 k)) 0 25 → t.rd (A.TM_POL_W0 k) = v &&& 0xE1FFFFFF ∧
        (k, [v &&& 0xE1FFFFFF, u.rd (A.TM_POL_W1 k), u.rd (A.TM_POL_W2 k), u.rd (A.TM_POL_W3 k)]) ∈ t.tm.polStage ∧
        onlyFields u t [whole (A.TM_POL_W0 k)] ∧
        t = { u with regs := t.regs, tm := { u.tm with polStage := t.tm.polStage } })) ∧
  (∀ s : State, s.refillsDue = s.now * 3 / 1280 - s.tm.refills ∧
    (s.refillsDue = 0 ∨ s.takesWork 0x40 = false → exec .refill s = .next s)) ∧
  (∀ (s : State) (n : Nat), s.takesWork 0x40 = true → n = s.refillsDue → 0 < n → s.tm.shStage = [] → s.tm.polStage = [] → swf (fun _ => ([] : List Word)) s.tm.shapers = true →
    swf (fun _ => ([] : List Word)) s.tm.pols = true →
    ∃ t, exec .refill s = .next t ∧ t.tm.queues = s.tm.queues ∧ t.tm.frames = s.tm.frames ∧ t.ctrs = s.ctrs ∧
      t.tm.refills = s.tm.refills + n ∧
      (∀ i, (s.shWord i 0).getLsbD 31 = true → t.shTokens i =
        min (((getBits (s.shWord i 1) 0 24 : Nat) : Int) * 65536)
          (s.shTokens i + ((n * (getBits (s.shWord i 0) 0 25 * 65536 / 9375) : Nat) : Int))) ∧
      (∀ i, (s.shWord i 0).getLsbD 31 = false → t.shTokens i = s.shTokens i) ∧
      (∀ k, (s.polWord k 0).getLsbD 31 = true →
        t.polTc k = min (getBits (s.polWord k 2) 0 24 * 65536) (s.polTc k + n * (getBits (s.polWord k 0) 0 25 * 65536 / 9375)) ∧
        t.polTp k = min (getBits (s.polWord k 3) 0 24 * 65536) (s.polTp k + n * (getBits (s.polWord k 1) 0 25 * 65536 / 9375))) ∧
      (∀ k, (s.polWord k 0).getLsbD 31 = false → t.polTc k = s.polTc k ∧ t.polTp k = s.polTp k)) ∧
  (∀ (s : State) (i : Nat) (ws : List Word), s.tm.shStage = [(i, ws)] → s.tm.polStage = [] → s.tm.shapers = [] →
    s.tm.pols = [] → (ws.getD 0 0).getLsbD 31 = true → s.takesWork 0x40 = true → 0 < s.refillsDue →
    ∃ t, exec .refill s = .next t ∧ t.tm.shStage = [] ∧ (∀ w, t.shWord i w = ws.getD w 0) ∧
      t.shTokens i = ((getBits (ws.getD 1 0) 0 24 : Nat) : Int) * 65536) ∧
  (∀ (s u : State) (q : BitVec 13), s.takesWork (windowOf A.TM_QCMD) = true → u = s.touch A.TM_QCMD →
    ∃ t, exec (.queueFlush q) s = .next t ∧
      (u.flag F.TM_QSTATUS_BUSY = true → refusedOnly u t A.TM_QCMD 2) ∧
      (u.flag F.TM_QSTATUS_BUSY = false → u.qReg q.toNat = true → t.fld F.TM_QSTATUS_RESULT = 2 ∧ (∀ k, t.qFrames k = u.qFrames k) ∧
        (getBits (u.rd (cfgStatusOf A.TM_QCMD)) 0 8 = 0 → getBits (t.rd (cfgStatusOf A.TM_QCMD)) 0 8 = 2) ∧
        t = { u with regs := t.regs }) ∧
      (u.flag F.TM_QSTATUS_BUSY = false → u.qReg q.toNat = false → t.flag F.TM_QSTATUS_BUSY = true ∧ t.fld F.TM_QSTATUS_RESULT = 1 ∧ t.qFrames q.toNat = [] ∧ t.deficit q.toNat = 0 ∧
        (∀ k, k ≠ q.toNat → t.qFrames k = u.qFrames k) ∧
        counted u t C.TM_FLUSHED (u.qFrames q.toNat).length)) ∧
  (∀ s : State, (s.flag F.TM_SAMPLE_CFG_EN = false ∨ s.tm.sampleNext = none ∨
      ∃ d, s.tm.sampleNext = some d ∧ s.now < max d s.tm.sampleEnd) → exec .sampleWalk s = .next s) ∧
  (∀ (s : State) (d q : Nat) (ws : List Word), s.takesWork 0x40 = true → s.flag F.TM_SAMPLE_CFG_EN = true →
    s.tm.sampleNext = some d → max d s.tm.sampleEnd ≤ s.now →
    q = s.fld F.TM_SAMPLE_RANGE_FIRST → q = s.fld F.TM_SAMPLE_RANGE_LAST →
    ws = [BitVec.ofNat 32 (0x7A000000 + s.tm.sampleDropped * 65536 + q), BitVec.ofNat 32 (depthBytes (s.qFrames q)),
      BitVec.ofNat 32 (s.qFrames q).length, BitVec.ofNat 32 (sget (fun _ => 0) s.tm.marks q)] →
    ∃ t, exec .sampleWalk s = .next t ∧ counted s t C.TM_SAMPLE_LATE (if d < s.tm.sampleEnd then 1 else 0) ∧
      t.tm.sampleNext = some (max d s.tm.sampleEnd + s.fld F.TM_SAMPLE_CFG_PERIOD_US * 500) ∧
      t.tm.sampleEnd = max d s.tm.sampleEnd + 2 ∧
      (s.recordFits (s.fld F.TM_SAMPLE_CFG_FIFO) 4 = true →
        t.mem = (s.hwRecord (s.fld F.TM_SAMPLE_CFG_FIFO) ws).2.mem ∧ sget (fun _ => 0) t.tm.marks q = 0 ∧
        t.tm.sampleDropped = 0) ∧
      (s.recordFits (s.fld F.TM_SAMPLE_CFG_FIFO) 4 = false → counted s t C.TM_SAMPLE_DROPPED 1 ∧
        counted s t (C.PIGEON_REFUSED (s.fld F.TM_SAMPLE_CFG_FIFO)) 1 ∧
        t.tm = { s.tm with
          sampleDropped := min 255 (s.tm.sampleDropped + 1)
          sampleNext := t.tm.sampleNext
          sampleEnd := t.tm.sampleEnd } ∧ t.mem = s.mem)) ∧
  (∀ (s : State) (q : BitVec 13), s.gated (windowOf (A.TM_Q_MAX_DELAY q.toNat)) = true →
    exec (.maxDelayRead q) s = .next (s.gatedAccess (.core 0) false (windowOf (A.TM_Q_MAX_DELAY q.toNat)))) ∧
  (∀ (s u : State) (q : BitVec 13), s.takesWork (windowOf (A.TM_Q_MAX_DELAY q.toNat)) = true →
    u = s.touch (A.TM_Q_MAX_DELAY q.toNat) → ∃ t, exec (.maxDelayRead q) s = .next t ∧
    t.resp = { value := (u.rd (A.TM_Q_MAX_DELAY q.toNat)).setWidth 64, busError := false } ∧
    t.rd (A.TM_Q_MAX_DELAY q.toNat) = 0 ∧ onlyFields u t [whole (A.TM_Q_MAX_DELAY q.toNat)] ∧
    t = { u with regs := t.regs, resp := t.resp })

/-- A flow command reaches REGSVC in u. -/
def flowCmd (s u : State) : Prop := s.takesWork regBlock = true ∧ u = s.touch A.REGSVC_FLOW_CMD

/-- And none runs there. -/
def flowIdle (s u : State) : Prop := flowCmd s u ∧ u.flag F.REGSVC_FLOW_STATUS_BUSY = false

/-- The staged descriptor words. -/
def stagedFlow (s : State) : List Word := (List.range 11).map (fun w => s.rd (A.REGSVC_STAGE w))

/-- FLOW_STATUS shows a result, and no flow changes. -/
def flowOnly (s t : State) (r : Nat) : Prop :=
  t.fld F.REGSVC_FLOW_STATUS_RESULT = r ∧ t.flag F.REGSVC_FLOW_STATUS_BUSY = true ∧
    onlyFields s t [F.REGSVC_FLOW_STATUS_RESULT, F.REGSVC_FLOW_STATUS_BUSY] ∧ t = { s with regs := t.regs }

/-- A registered frame of a flow is the next that REGSVC books. -/
def bookHead (s : State) (p : Pkt) (rest : List Pkt) (f : Nat) : Prop :=
  s.bookOrder = p :: rest ∧ s.takesWork regBlock = true ∧ f = actField p.act 52 9

/-- The flow has had one more outcome, `EXPIRED`, and its record joins the outcome queue. -/
def expires (s t : State) (f fnum id deadline why : Nat) : Prop :=
  counted s t (C.REGSVC_F_EXPIRED f) 1 ∧ counted s t C.REGSVC_EXPIRED 1 ∧
    (s.regsvc.outq ≠ [] → s.regsvc.outq.length < 1024 →
      t.regsvc.outq = s.regsvc.outq ++ [s.outcomeWords f fnum id deadline true why])

/-- REGSVC (R491, R494, R496, R500, R501, R503, R504, R506, R509, R514, R515, R517). -/
def Obligations.RegisteredService : Prop :=
  (∀ (s u : State) (f : BitVec 9) (c : Instr), flowCmd s u → u.flag F.REGSVC_FLOW_STATUS_BUSY = true →
    c = .flowAdmit f ∨ c = .flowRelease f ∨ c = .flowRead f →
    ∃ t, exec c s = .next t ∧ refusedOnly u t A.REGSVC_FLOW_CMD 2) ∧
  (∀ (s u : State) (f : BitVec 9) (r : Nat), flowIdle s u →
    u.admitCheck f.toNat (Machine.flowAsk (stagedFlow u)) = some r →
    ∃ t, exec (.flowAdmit f) s = .next t ∧ t.fld F.REGSVC_FLOW_STATUS_RESULT = r ∧
      (∀ w < 5, t.rd (A.REGSVC_STAGE_RO w) = 0) ∧ t = { u with regs := t.regs } ∧
      onlyFields u t (F.REGSVC_FLOW_STATUS_RESULT :: F.REGSVC_FLOW_STATUS_BUSY :: (List.range 5).map (fun w => whole (A.REGSVC_STAGE_RO w)))) ∧
  (∀ (s u : State) (f : BitVec 9) (a : FlowAsk) (bound : Nat), flowIdle s u → a = Machine.flowAsk (stagedFlow u) →
    u.admitCheck f.toNat a = none → bound = u.boundUs a ((u.upFlows f.toNat).map u.flowAsk) →
    ∃ t, exec (.flowAdmit f) s = .next t ∧
      (a.d < bound → t.fld F.REGSVC_FLOW_STATUS_RESULT = 2 ∧ t = { u with regs := t.regs } ∧
        getBits (t.rd (A.REGSVC_STAGE_RO 0)) 0 20 = min 0xFFFFF bound) ∧
      (bound ≤ a.d → a.up = false → sumOf u.heldFlows u.flowRecords + u.askRecords a ≤ 4096 →
        cdiv (sumOf u.heldFlows u.flowCharge + poolCharge (u.askRecords a) a.lmax) 65536 + 16 ≤
          u.fld F.TM_POOL_CFG_SRAM_POOL →
        ∀ got v, (u.wrList A.REGSVC_STAGE_RO (u.computed a bound 0)).askRounds
          (u.wrList A.REGSVC_STAGE_RO (u.computed a bound 0)) f.toNat a a.links [] = .inl (got, v) →
        t.fld F.REGSVC_FLOW_STATUS_RESULT = 1 ∧ t.flowState f.toNat = 1 ∧
        (t.flowX f.toNat).words = stagedFlow u ++ u.computed a bound 0 ∧
        (t.flowX f.toNat).links = List.range a.links.length ∧ t.qEn a.q0 = true ∧ t.qReg a.q0 = true ∧
        t.qEgress a.q0 = 0x20000 + a.sta ∧ (∀ g, g ≠ f.toNat → t.flowX g = u.flowX g) ∧ t.mem = u.mem) ∧
      (bound ≤ a.d → a.up = false → 4096 < sumOf u.heldFlows u.flowRecords + u.askRecords a →
        t.fld F.REGSVC_FLOW_STATUS_RESULT = 6 ∧ t = { u with regs := t.regs })) ∧
  (∀ (s u : State) (f : BitVec 9), flowIdle s u →
    ∃ t, exec (.flowRelease f) s = .next t ∧
      (u.flowLive f.toNat = false → flowOnly u t 11) ∧
      (u.flowLive f.toNat = true → t.flowState f.toNat = 4 ∧ t.fld F.REGSVC_FLOW_STATUS_RESULT = 1 ∧
        onlyFields u t [F.REGSVC_FLOW_W0_STATE f.toNat, F.REGSVC_FLOW_STATUS_RESULT,
          F.REGSVC_FLOW_STATUS_BUSY] ∧ t.flag F.REGSVC_FLOW_STATUS_BUSY = true ∧ t = { u with regs := t.regs })) ∧
  (∀ (s u : State) (f : BitVec 9), flowIdle s u →
    ∃ t, exec (.flowRead f) s = .next t ∧
      (u.flowState f.toNat = 0 → flowOnly u t 11) ∧
      (u.flowState f.toNat ≠ 0 → t.fld F.REGSVC_FLOW_STATUS_RESULT = 1 ∧
        (∀ w < 11, t.rd (A.REGSVC_STAGE w) = u.flowWord f.toNat w) ∧
        (∀ w < 5, t.rd (A.REGSVC_STAGE_RO w) = u.flowWord f.toNat (11 + w)) ∧
        t.fld (F.REGSVC_FLOW_W0_OVERRUN f.toNat) = 0 ∧ t.rd (A.REGSVC_FLOW_W2 f.toNat) = 0 ∧
        t.rd (A.REGSVC_FLOW_W3 f.toNat) = 0 ∧ t.flowX f.toNat = { u.flowX f.toNat with lostMarked := false } ∧
        (∀ g, g ≠ f.toNat → t.flowX g = u.flowX g) ∧ t = { u with regs := t.regs, regsvc := t.regsvc })) ∧
  (∀ (s : State) (f : BitVec 9), (s.flowState f.toNat ≠ 4 ∨ ∃ r ∈ s.regsvc.recs, r.flow = f.toNat) →
    exec (.flowFreed f) s = .next s) ∧
  (∀ (s : State) (f : BitVec 9), s.takesWork regBlock = true → s.flowState f.toNat = 4 →
    (∀ r ∈ s.regsvc.recs, r.flow ≠ f.toNat) →
    ∃ t, exec (.flowFreed f) s = .next t ∧ t.flowState f.toNat = 0 ∧
      (∀ q ∈ (s.flowAsk f.toNat).queues, t.qEn q = false ∧ t.qFrames q = []) ∧
      ((∀ r ∈ s.regsvc.recs, r.flow < 512) → ∀ i ∈ s.flowRsps f.toNat, t.flag (F.ROUNDS_RSP_W0_VALID i) = false)) ∧
  (∀ s : State, (s.regsvc.inbox = [] ∨ s.takesWork regBlock = false) → exec .booking s = .next s) ∧
  (∀ (s : State) (p : Pkt) (rest : List Pkt) (f : Nat), bookHead s p rest f → s.flowLive f = false →
    ∃ t, exec .booking s = .next t ∧ counted s t C.REGSVC_UNKNOWN_FLOW 1 ∧ onlyCtrs s t [C.REGSVC_UNKNOWN_FLOW] ∧
      t = { s with ctrs := t.ctrs, regsvc := { s.regsvc with inbox := rest } }) ∧
  (∀ (s : State) (p : Pkt) (rest : List Pkt) (f : Nat), bookHead s p rest f → s.flowState f = 3 →
    (s.flowAsk f).up = true →
    ∃ t, exec .booking s = .next t ∧
      expires s t f (s.fld (F.REGSVC_FLOW_W0_FNUM f)) p.sn (p.time.toNat + (s.flowAsk f).d * 500) 6 ∧
      t.fld (F.REGSVC_FLOW_W0_FNUM f) = (s.fld (F.REGSVC_FLOW_W0_FNUM f) + 1) % 65536 ∧ t.tm.inbox = s.tm.inbox) ∧
  (∀ (s : State) (p : Pkt) (rest : List Pkt) (f deadline : Nat) (a : FlowAsk), bookHead s p rest f →
    s.flowState f ∈ [1, 2] → a = s.flowAsk f → a.up = true → a.frer = false →
    deadline = p.time.toNat + a.d * 500 →
    ∃ t, exec .booking s = .next t ∧ t.regsvc.inbox = rest ∧
      t.fld (F.REGSVC_FLOW_W0_FNUM f) = (s.fld (F.REGSVC_FLOW_W0_FNUM f) + 1) % 65536 ∧
      (a.lmax < p.bytes.length → expires s t f (s.fld (F.REGSVC_FLOW_W0_FNUM f)) p.sn deadline 3 ∧
        t.tm.inbox = s.tm.inbox) ∧
      (p.bytes.length ≤ a.lmax → (s.regsvc.recs.filter (fun r => decide (r.flow = f))).length < s.flowRecords f →
        s.now * uTick + tTm + State.slowest a (s.tOut a ((s.upFlows f).map s.flowAsk)) + tGuard ≤ deadline * uTick →
        t.regsvc.recs = s.regsvc.recs ++ [{
          flow := f
          fnum := s.fld (F.REGSVC_FLOW_W0_FNUM f)
          id := p.sn
          deadline := deadline
          tries := []
          copies := 1 }] ∧
        t.tm = { s.tm with inbox := s.tm.inbox ++ [{ p with
          act := setActField p.act 8 13 a.q0
          reg := some (f, s.fld (F.REGSVC_FLOW_W0_FNUM f)) }] } ∧ t.ctrs = s.ctrs)) ∧
  (∀ (s : State) (f : BitVec 9) (n : BitVec 16), s.frameRec f.toNat n.toNat = none →
    exec (.frameDeadline f n) s = .next s) ∧
  (∀ (s : State) (f : BitVec 9) (n : BitVec 16) (r : FrameRec), s.takesWork regBlock = true →
    s.frameRec f.toNat n.toNat = some r →
    ∃ t, exec (.frameDeadline f n) s = .next t ∧
      (s.now + 1000 < r.deadline → t = s) ∧
      (r.deadline ≤ s.now + 1000 → (s.flowAsk f.toNat).up = false → s.flt.queue.length < 16 →
        counted s t C.REGSVC_WATCHDOG 1 ∧ (∃ l, t.flt.queue = s.flt.queue ++
          { src := 0x28, unit := f.toNat, perm := false, inj := false, full := false } :: l) ∧
        expires s t f.toNat n.toNat r.id r.deadline 11 ∧ t.frameRec f.toNat n.toNat = none)) ∧
  (∀ (s : State) (i : BitVec 8), (∀ x ∈ s.rounds.rsps, x.index ≠ i.toNat) → exec (.occurrenceEnd i) s = .next s) ∧
  (∀ (s : State) (i : BitVec 8) (x : RspRun), s.takesWork regBlock = true → s.rounds.rsps = [x] → x.index = i.toNat →
    ∃ t, exec (.occurrenceEnd i) s = .next t ∧ (s.now < x.stop → t = s) ∧
      (x.stop ≤ s.now → t.rounds.rsps = [] ∧
        (s.flag (F.ROUNDS_RSP_W0_DIR i.toNat) = false → s.regsvc.recs = [] → t = { s with rounds := t.rounds }) ∧
        (s.flag (F.ROUNDS_RSP_W0_DIR i.toNat) = true → (s.flowX (s.fld (F.ROUNDS_RSP_W0_FLOW i.toNat))).occHigh = none →
          (s.flowX (s.fld (F.ROUNDS_RSP_W0_FLOW i.toNat))).residue = 0 → t = { s with rounds := t.rounds }))) ∧
  (∀ (s : State) (f : BitVec 9), (s.flowX f.toNat).frer = none → exec (.frerReset f) s = .next s) ∧
  (∀ (s : State) (f : BitVec 9), s.takesWork regBlock = true → s.flowLive f.toNat = true →
    (s.flowX f.toNat).frer.isSome = true →
    ∃ t, exec (.frerReset f) s = .next t ∧
      ((s.flowX f.toNat).frerTime.toNat + (s.flowAsk f.toNat).resetMs * 500000 ≤ s.now →
        t.flowX f.toNat = { s.flowX f.toNat with frer := none } ∧ (∀ g, g ≠ f.toNat → t.flowX g = s.flowX g) ∧
        t = { s with regsvc := t.regsvc }) ∧
      (s.now < (s.flowX f.toNat).frerTime.toNat + (s.flowAsk f.toNat).resetMs * 500000 → t = s)) ∧
  (∀ s : State, s.regsvc.outq = [] → exec .outcomeRecord s = .next s) ∧
  (∀ (s : State) (ws : List Word) (rest : List (List Word)), s.takesWork regBlock = true → s.regsvc.outq = ws :: rest →
    ∃ t, exec .outcomeRecord s = .next t ∧
      (s.recordFits (s.fld F.REGSVC_REPORT_CFG_FIFO) 4 = false → t = s) ∧
      (s.recordFits (s.fld F.REGSVC_REPORT_CFG_FIFO) 4 = true → t.regsvc = { s.regsvc with outq := rest } ∧
        t.mem = (s.hwRecord (s.fld F.REGSVC_REPORT_CFG_FIFO) ws).2.mem ∧
        t.fld F.REGSVC_OUTQ_DEPTH = rest.length % 2048))

/-- Port n receives: its link is up and its block takes work. -/
def portOpen (s : State) (n : Nat) : Prop := s.linkIsUp n = true ∧ s.takesWork (emacBlock n) = true

/-- The ERR bits of a frame: a bad FCS, a code error, a runt, an oversize. -/
def errBits (s : State) (n : Nat) (f : List Byte) (ce fcs : Bool) (e : Nat) : Prop :=
  e < 16 ∧ e.testBit 0 = fcs ∧ e.testBit 1 = ce ∧ (e.testBit 2 = true ↔ f.length < 64) ∧
    (e.testBit 3 = true ↔ s.fld (F.EMAC_RX_CFG_MAX_LEN n) < f.length)

/-- A received frame without errors: its length, and its bytes without the FCS. -/
def goodFrame (s : State) (n : Nat) (f b : List Byte) : Prop :=
  s.rxError n f false = none ∧ b = f.take (f.length - 4)

/-- The two counters of a good frame. -/
def rxGood (s t : State) (n : Nat) (f : List Byte) : Prop :=
  counted s t (C.EMAC_RX_FRAMES n) 1 ∧ counted s t (C.EMAC_RX_OCTETS n) f.length

/-- Bytes `b` have arrived at SORT from port n, or found its receive buffer full. -/
def rxArrives (s t : State) (n : Nat) (b : List Byte) : Prop :=
  (262144 < s.rxFill n + b.length → counted s t (C.EMAC_RX_OVERFLOW n) 1 ∧ t.sort = s.sort) ∧
    (s.rxFill n + b.length ≤ 262144 → t.ctr (C.EMAC_RX_OVERFLOW n) = s.ctr (C.EMAC_RX_OVERFLOW n) ∧
      t.sort = { s.sort with arrivals := s.sort.arrivals ++ [{
        bytes := b
        src := n
        srcEg := n
        time := s.time.tick
        stamp := s.tsWords }] })

/-- MACsec judges frame b at port n. -/
def secured (s : State) (n : Nat) (b : List Byte) : Prop :=
  s.flag (F.EMAC_SECY_CFG_EN n) = true ∧ s.fld (F.EMAC_SECY_CFG_VALIDATE n) ≠ 0 ∧ s.bypasses n b = false

/-- A good frame dropped by MACsec, counted in c. -/
def secDrops (s t : State) (n : Nat) (f : List Byte) (c : Nat) : Prop :=
  rxGood s t n f ∧ counted s t c 1 ∧ onlyCtrs s t [C.EMAC_RX_FRAMES n, C.EMAC_RX_OCTETS n, c] ∧ t = { s with ctrs := t.ctrs }

/-- EMAC reception (R524, R527, R528, R533, R535). -/
def Obligations.EmacReception : Prop :=
  (∀ (p : Fin 4) (f : List Byte) (ce : Bool) (s : State), ¬ portOpen s p.val →
    exec (.emacRxFrame p f ce) s = .next s) ∧
  (∀ (n : Nat) (f : List Byte) (ce : Bool) (s : State),
    (f.length < 4 ∨ fcsOf (f.take (f.length - 4)) ≠ f.drop (f.length - 4) →
      ∃ e, s.rxError n f ce = some (C.EMAC_RX_FCS_ERR n, e) ∧ errBits s n f ce true e) ∧
    (4 ≤ f.length → fcsOf (f.take (f.length - 4)) = f.drop (f.length - 4) →
      (ce = true → ∃ e, s.rxError n f ce = some (C.EMAC_RX_CODE_ERR n, e) ∧ errBits s n f ce false e) ∧
      (ce = false → f.length < 64 → ∃ e, s.rxError n f ce = some (C.EMAC_RX_RUNT n, e) ∧ errBits s n f ce false e) ∧
      (ce = false → 64 ≤ f.length → s.fld (F.EMAC_RX_CFG_MAX_LEN n) < f.length →
        s.rxError n f ce = some (C.EMAC_RX_OVERSIZE n, 8)) ∧
      (ce = false → 64 ≤ f.length → f.length ≤ s.fld (F.EMAC_RX_CFG_MAX_LEN n) → s.rxError n f ce = none))) ∧
  (∀ (p : Fin 4) (f : List Byte) (ce : Bool) (s : State) (c e : Nat), portOpen s p.val →
    s.rxError p.val f ce = some (c, e) →
    ∃ t, exec (.emacRxFrame p f ce) s = .next t ∧ counted s t c 1 ∧
      (s.flag (F.EMAC_RX_CFG_KEEP_BAD p.val) = false ∨ f.length < 14 ∨
        s.fld (F.EMAC_RX_CFG_MAX_LEN p.val) + 64 < f.length → onlyCtrs s t [c] ∧ t = { s with ctrs := t.ctrs }) ∧
      (s.flag (F.EMAC_RX_CFG_KEEP_BAD p.val) = true → 14 ≤ f.length → f.length ≤ s.fld (F.EMAC_RX_CFG_MAX_LEN p.val) + 64 →
        counted s t (C.EMAC_RX_BAD_DELIVERED p.val) 1 ∧ onlyCtrs s t [c, C.EMAC_RX_BAD_DELIVERED p.val] ∧
        t = { s with ctrs := t.ctrs, hostp := { s.hostp with bad := s.hostp.bad ++ [{
          ring := s.fld (F.EMAC_RX_CFG_BAD_RING p.val)
          src := p.val
          bytes := f.take (f.length - 4)
          err := e
          stamp := s.tsWords }] } })) ∧
  (∀ (p : Fin 4) (f b : List Byte) (s : State), portOpen s p.val → goodFrame s p.val f b →
    (s.flag (F.EMAC_SECY_CFG_EN p.val) = false ∨ s.fld (F.EMAC_SECY_CFG_VALIDATE p.val) = 0 ∨ s.bypasses p.val b = true) →
    ∃ t, exec (.emacRxFrame p f false) s = .next t ∧ rxGood s t p.val f ∧ rxArrives s t p.val b ∧
      onlyCtrs s t [C.EMAC_RX_FRAMES p.val, C.EMAC_RX_OCTETS p.val, C.EMAC_RX_OVERFLOW p.val] ∧
      t = { s with ctrs := t.ctrs, sort := t.sort }) ∧
  (∀ (p : Fin 4) (f b : List Byte) (s : State), portOpen s p.val → goodFrame s p.val f b → secured s p.val b →
    frame16 b 12 ≠ 0x88E5 →
    ∃ t, exec (.emacRxFrame p f false) s = .next t ∧ counted s t (C.EMAC_MACSEC_UNTAGGED p.val) 1 ∧ rxGood s t p.val f ∧
      (s.fld (F.EMAC_SECY_CFG_VALIDATE p.val) = 1 → rxArrives s t p.val b) ∧
      (s.fld (F.EMAC_SECY_CFG_VALIDATE p.val) ≠ 1 → secDrops s t p.val f (C.EMAC_MACSEC_UNTAGGED p.val)) ∧
      t = { s with ctrs := t.ctrs, sort := t.sort }) ∧
  (∀ (p : Fin 4) (f b : List Byte) (s : State), portOpen s p.val → goodFrame s p.val f b → secured s p.val b →
    frame16 b 12 = 0x88E5 →
    ∃ t, exec (.emacRxFrame p f false) s = .next t ∧
      (secTag b = none → secDrops s t p.val f (C.EMAC_MACSEC_BAD_TAG p.val)) ∧
      (∀ sci an pn h, secTag b = some (sci, an, pn, h) →
        (sci.bind (s.findSc p.val) = none → secDrops s t p.val f (C.EMAC_MACSEC_NO_SC p.val)) ∧
        (∀ c, sci.bind (s.findSc p.val) = some c →
          (s.flag (F.EMAC_RX_SA_VALID p.val c an) = false → secDrops s t p.val f (C.EMAC_MACSEC_NO_SA p.val)) ∧
          (s.flag (F.EMAC_RX_SA_VALID p.val c an) = true →
            s.keyWaits (s.fld (F.EMAC_RX_SA_SLOT p.val c an)) = false →
            (s.keyCheck (s.fld (F.EMAC_RX_SA_SLOT p.val c an)) 1 (secySuits (s.rd (A.EMAC_SECY_CFG p.val)))).isSome = true →
            secDrops s t p.val f (C.EMAC_MACSEC_ICV_FAIL p.val))))) ∧
  (∀ (p : Fin 4) (f b : List Byte) (s : State) (sci : List Byte) (c an pn32 pn h low len off slot : Nat) (key : BitVec 256)
      (aad ct clear nonce : List Byte) (conf : Bool), portOpen s p.val → goodFrame s p.val f b → secured s p.val b →
    frame16 b 12 = 0x88E5 → secTag b = some (some sci, an, pn32, h) → s.findSc p.val sci = some c →
    s.flag (F.EMAC_RX_SA_VALID p.val c an) = true → slot = s.fld (F.EMAC_RX_SA_SLOT p.val c an) →
    s.keyWaits slot = false →
    s.keyCheck slot 1 (secySuits (s.rd (A.EMAC_SECY_CFG p.val))) = none → low = (s.keySlot slot).rx 0 → pn = fullPn (secyXpn (s.rd (A.EMAC_SECY_CFG p.val))) low pn32 →
    conf = decide (frameByte b 14 / 4 % 4 = 3) → len = (if frameByte b 15 = 0 then b.length - h - 16 else frameByte b 15) →
    off = (if conf then confOffset (s.rd (A.EMAC_SECY_CFG p.val)) else len) → aad = b.take (h + off) → ct = slice b (h + off) (len - off) →
    nonce = secNonce (secyXpn (s.rd (A.EMAC_SECY_CFG p.val))) sci pn → key = (s.keySlot slot).key →
    clear = b.take 12 ++ slice b h off ++ (List.range ct.length).map (Config.cipher 2 key nonce aad ct) →
    ∃ t, exec (.emacRxFrame p f false) s = .next t ∧ rxGood s t p.val f ∧
      ((List.range 16).map (Config.tag 2 key nonce aad ct) ≠ slice b (h + len) 16 →
        counted s t (C.EMAC_MACSEC_ICV_FAIL p.val) 1 ∧ t.keys = s.keys ∧
        ((s.fld (F.EMAC_SECY_CFG_VALIDATE p.val) ≠ 1 ∨ conf = true) → t.sort = s.sort) ∧
        (s.fld (F.EMAC_SECY_CFG_VALIDATE p.val) = 1 → conf = false → rxArrives s t p.val clear)) ∧
      ((List.range 16).map (Config.tag 2 key nonce aad ct) = slice b (h + len) 16 →
        (pn < low → counted s t (C.EMAC_MACSEC_REPLAY p.val) 1 ∧ t.keys = s.keys ∧
          ((s.fld (F.EMAC_SECY_CFG_VALIDATE p.val) ≠ 1 ∨ conf = true) → t.sort = s.sort)) ∧
        (low ≤ pn → rxArrives s t p.val clear ∧
          (t.keySlot slot).rx 0 = max low (pn + 1 - s.fld (F.EMAC_REPLAY_WIN_WIN p.val)) ∧
          (∀ k, k ≠ slot → t.keySlot k = s.keySlot k)))) ∧
  (∀ (p : Fin 4) (cl : BitVec 8) (q : BitVec 16) (s : State), s.takesWork (emacBlock p.val) = true →
    ∃ t, exec (.pauseRx p cl q) s = .next t ∧ counted s t (C.EMAC_RX_PAUSE p.val) 1 ∧ onlyCtrs s t [C.EMAC_RX_PAUSE p.val] ∧
      t = { s with ctrs := t.ctrs, emacs := t.emacs } ∧
      (s.flag (F.EMAC_FC_CFG_RX_FC p.val) = false → t.emacs = s.emacs) ∧
      (s.flag (F.EMAC_FC_CFG_RX_FC p.val) = true →
        (∀ k < 8, (t.emac p.val).pausedTo.getD k 0 = if cl.getLsbD k then
          s.now + bitTicks (512 * q.toNat) (rateOf (s.fld (F.EMAC_STATUS_SPEED p.val)))
          else (s.emac p.val).pausedTo.getD k 0) ∧
        (t.emac p.val).xoff = (s.emac p.val).xoff ∧ (∀ k, k ≠ p.val → t.emac k = s.emac k))) ∧
  (∀ (p : Fin 4) (s : State) (hi : Nat), s.takesWork (emacBlock p.val) = true →
    hi = s.fld (F.EMAC_FC_CFG_XOFF_KIB p.val) * 1024 →
    ∃ t, exec (.rxBufferXoff p) s = .next t ∧
      (s.flag (F.EMAC_FC_CFG_TX_FC p.val) = false → t = s) ∧
      (s.flag (F.EMAC_FC_CFG_TX_FC p.val) = true → (s.emac p.val).xoff = 0 → hi ≤ s.rxFill p.val →
        counted s t (C.EMAC_TX_PAUSE p.val) 1 ∧ t = { s with ctrs := t.ctrs, emacs := t.emacs } ∧
        ∀ k < 8, (t.emac p.val).xoff.getLsbD k =
          !(s.flag (F.EMAC_FC_CFG_PFC p.val) && (s.fld (F.SORT_PORT_CFG_REG_PCP p.val)).testBit k)) ∧
      (s.flag (F.EMAC_FC_CFG_TX_FC p.val) = true → (s.emac p.val).xoff ≠ 0 → s.rxFill p.val + 32768 ≤ hi →
        counted s t (C.EMAC_TX_PAUSE p.val) 1 ∧ (t.emac p.val).xoff = 0 ∧ t = { s with ctrs := t.ctrs, emacs := t.emacs }) ∧
      (((s.emac p.val).xoff = 0 ∧ s.rxFill p.val < hi) ∨ ((s.emac p.val).xoff ≠ 0 ∧ hi < s.rxFill p.val + 32768) → t = s))

/-- Port n's link goes down from s to t; nothing happens to a link that is down. -/
def linkLost (s t : State) (n : Nat) : Prop :=
  (s.linkIsUp n = false → t = s) ∧
    (s.linkIsUp n = true → t.linkIsUp n = false ∧ t.flag (F.EMAC_STATUS_LINK_CHG n) = true ∧
      counted s t (C.EMAC_LINK_DOWN n) 1 ∧ t.emac n = { s.emac n with
        pausedTo := []
        xoff := 0
        tried := s.time.tick } ∧ (∀ k, k ≠ n → t.emac k = s.emac k) ∧
      (s.handedTo n = none → t.tm = s.tm ∧ (s.flt.queue.length < 16 → noted s t 0x30 n false ∧
        onlyFields s t [F.EMAC_STATUS_LINK n, F.EMAC_STATUS_LINK_CHG n] ∧ onlyCtrs s t [C.EMAC_LINK_DOWN n])) ∧
      (∀ x, s.handedTo n = some x → counted s t (C.EMAC_TX_ABORTED n) 1 ∧ t.tm.handed = s.tm.handed.erase x))

/-- The frame x that port n sends, of no registered flow, and its bytes. -/
def plainSend (s : State) (n : Nat) (x : Nat × TmFrame) (b : List Byte) : Prop :=
  s.handedTo n = some x ∧ s.linkIsUp n = true ∧ x.2.pkt.reg = none ∧ s.takesWork (emacBlock n) = true ∧
    b = x.2.pkt.bytes

/-- EMAC transmission and links (R522, R523, R525, R529, R531, R533, R534, R536, R538). -/
def Obligations.EmacTransmissionAndLinks : Prop :=
  (∀ (p : Fin 4) (s : State), (s.handedTo p.val = none ∨ s.linkIsUp p.val = false) → exec (.emacTxEnd p) s = .next s) ∧
  (∀ (p : Fin 4) (s : State) (x : Nat × TmFrame) (b : List Byte), plainSend s p.val x b →
    (x.2.secy.getLsbD 31 = false ∨ s.bypasses p.val b = true) →
    ∃ t, exec (.emacTxEnd p) s = .next t ∧ t.wire = s.wire ++ [(p.val, b ++ fcsOf b)] ∧
      counted s t (C.EMAC_TX_FRAMES p.val) 1 ∧ counted s t (C.EMAC_TX_OCTETS p.val) (b.length + 4) ∧
      t.tm.handed = s.tm.handed.erase x ∧ t.mem = s.mem ∧ t.keys = s.keys ∧
      (x.2.pkt.tx.ts = none → onlyCtrs s t [C.EMAC_TX_FRAMES p.val, C.EMAC_TX_OCTETS p.val] ∧
        onlyFields s t [F.TM_POOL_STATUS_USED_KIB]) ∧
      (∀ id, x.2.pkt.tx.ts = some id →
        (tsqDepth p.val ≤ s.tsqHeld p.val → counted s t (C.POSTMARK_TS_OVERFLOW p.val) 1) ∧
        (s.tsqHeld p.val < tsqDepth p.val →
          t.fld (F.POSTMARK_TSQ_IDX_WR p.val) = (s.fld (F.POSTMARK_TSQ_IDX_WR p.val) + 1) % 65536 ∧
          t.rd (tsqWord p.val (s.fld (F.POSTMARK_TSQ_IDX_WR p.val) % tsqDepth p.val) 0) = BitVec.ofNat 32 (id % 65536) ∧
          ∀ i < x.2.start.length, x.2.start.length ≤ 7 →
            t.rd (tsqWord p.val (s.fld (F.POSTMARK_TSQ_IDX_WR p.val) % tsqDepth p.val) (i + 1)) = x.2.start.getD i 0))) ∧
  (∀ (p : Fin 4) (s : State) (x : Nat × TmFrame) (b : List Byte), plainSend s p.val x b →
    x.2.secy.getLsbD 31 = true → s.bypasses p.val b = false →
    ∃ t, exec (.emacTxEnd p) s = .next t ∧ t.tm.handed = s.tm.handed.erase x ∧ ∀ an slot,
      an = getBits x.2.secy 22 2 → slot = s.fld (F.EMAC_TX_SA_SLOT p.val an) →
      (s.flag (F.EMAC_TX_SA_VALID p.val an) = false → t.wire = s.wire ∧ t.keys = s.keys) ∧
      (s.flag (F.EMAC_TX_SA_VALID p.val an) = true → s.keyWaits slot = false → s.keyCheck slot 1 (secySuits x.2.secy) = none →
        (s.keySlot slot).state = 3 → t.wire = s.wire ∧ counted s t (C.EMAC_TX_PN_EXHAUSTED p.val) 1 ∧ t.keys = s.keys) ∧
      (s.flag (F.EMAC_TX_SA_VALID p.val an) = true → s.keyWaits slot = false → s.keyCheck slot 1 (secySuits x.2.secy) = none →
        (s.keySlot slot).state ≠ 3 → (t.keySlot slot).txPn = (s.keySlot slot).txPn + 1 ∧
        ∀ w, w = s.secProtect p.val x.2.secy (s.keySlot slot).key ((s.keySlot slot).txPn + 1) b →
          t.wire = s.wire ++ [(p.val, w ++ fcsOf w)] ∧ counted s t (C.EMAC_TX_OCTETS p.val) (w.length + 4))) ∧
  (∀ (p : Fin 4) (s : State) (x : Nat × TmFrame) (f n : Nat) (r : FrameRec), s.handedTo p.val = some x →
    s.linkIsUp p.val = true → x.2.pkt.reg = some (f, n) → x.2.pkt.tx = {} → x.2.secy.getLsbD 31 = false →
    s.takesWork (emacBlock p.val) = true →
    s.frameRec f n = some r → f < 512 →
    ∃ t, exec (.emacTxEnd p) s = .next t ∧ counted s t (C.EMAC_TX_FRAMES p.val) 1 ∧
      (s.now < r.deadline → counted s t (C.REGSVC_F_DELIVERED f) 1 ∧ t.frameRec f n = none) ∧
      (r.deadline ≤ s.now → t.regsvc = s.regsvc)) ∧
  (∀ (p : Fin 4) (sp : BitVec 3) (half : Bool) (s : State),
    (s.flag (F.EMAC_MODE_EN p.val) = false ∨ s.takesWork (emacBlock p.val) = false) →
    exec (.linkUp p sp half) s = .next s) ∧
  (∀ (p : Fin 4) (sp : BitVec 3) (s : State), s.flag (F.EMAC_MODE_EN p.val) = true →
    s.takesWork (emacBlock p.val) = true →
    ∃ u, exec (.linkUp p sp true) s = .next (u.count (C.EMAC_HALF_DUPLEX p.val)) ∧ linkLost s u p.val) ∧
  (∀ (p : Fin 4) (sp : BitVec 3) (s : State), s.flag (F.EMAC_MODE_EN p.val) = true →
    s.takesWork (emacBlock p.val) = true → ∃ t, exec (.linkUp p sp false) s = .next t ∧
      ((modeSpeeds (s.fld (F.EMAC_MODE_MODE p.val))).contains sp.toNat = false → linkLost s t p.val) ∧
      ((modeSpeeds (s.fld (F.EMAC_MODE_MODE p.val))).contains sp.toNat = true →
        (s.flag (F.EMAC_SECY_CFG_EN p.val) = true → (2 < s.fld (F.EMAC_MODE_MODE p.val) ∨ 1 < sp.toNat) →
          linkLost s t p.val) ∧
        ((s.flag (F.EMAC_SECY_CFG_EN p.val) = false ∨ (s.fld (F.EMAC_MODE_MODE p.val) ≤ 2 ∧ sp.toNat ≤ 1)) →
          (s.usablePresets p.val = [] → t = s) ∧
          (∀ k rest, s.usablePresets p.val = k :: rest → t.fld (F.EMAC_STATUS_SPEED p.val) = sp.toNat ∧
            t.flag (F.EMAC_STATUS_EQ_BUSY p.val) = false ∧ t.linkIsUp p.val = true ∧
            (s.linkIsUp p.val = true → onlyFields s t [F.EMAC_STATUS_SPEED p.val, F.EMAC_STATUS_EQ_BUSY p.val]) ∧
            (s.linkIsUp p.val = false → t.fld (F.EMAC_STATUS_PRESET p.val) = k ∧
              t.flag (F.EMAC_STATUS_LINK_CHG p.val) = true ∧ onlyFields s t [whole (A.EMAC_STATUS p.val)]) ∧
            t = { s with regs := t.regs })))) ∧
  (∀ (p : Fin 4) (s : State), s.takesWork (emacBlock p.val) = true → ∃ t, exec (.linkDown p) s = .next t ∧ linkLost s t p.val) ∧
  (∀ (p : Fin 4) (v : Word) (s u : State), s.takesWork (emacBlock p.val) = true → u = s.touch (A.EMAC_MODE p.val) →
    ∃ t, exec (.emacModeWrite p v) s = .next t ∧
      ((5 < getBits v 0 4 ∨ (u.flag (F.EMAC_MODE_EN p.val) = true ∧ (getBits v 0 4 ≠ u.fld (F.EMAC_MODE_MODE p.val) ∨
        getBits v 8 1 ≠ u.fld (F.EMAC_MODE_AN_EN p.val)))) → refusedOnly u t (A.EMAC_MODE p.val) 2) ∧
      (getBits v 0 4 ≤ 5 → (u.flag (F.EMAC_MODE_EN p.val) = false ∨ (getBits v 0 4 = u.fld (F.EMAC_MODE_MODE p.val) ∧
        getBits v 8 1 = u.fld (F.EMAC_MODE_AN_EN p.val))) →
        t.rd (A.EMAC_MODE p.val) = v &&& 0x8000010F ∧
        (v.getLsbD 31 = true → onlyFields u t [whole (A.EMAC_MODE p.val)] ∧
          t = { u with regs := t.regs, emacs := t.emacs } ∧ (u.flag (F.EMAC_MODE_EN p.val) = true → t.emacs = u.emacs) ∧
          (u.flag (F.EMAC_MODE_EN p.val) = false → t.emac p.val = { u.emac p.val with tried := u.time.tick } ∧
            ∀ k, k ≠ p.val → t.emac k = u.emac k)) ∧
        (v.getLsbD 31 = false → linkLost (u.wr (A.EMAC_MODE p.val) (v &&& 0x8000010F)) t p.val))) ∧
  (∀ (p : Fin 4) (e : BitVec 32) (s : State), (s.flag (F.EMAC_MODE_EN p.val) = false ∨ s.usablePresets p.val = [] ∨
      (s.linkIsUp p.val = true ∧ e.toNat ≤ s.fld (F.EMAC_EQ_CFG_ERR_LIMIT p.val)) ∨
      (s.linkIsUp p.val = false ∧ s.now < (s.emac p.val).tried.toNat + 5000000)) →
    exec (.sdsPreset p e) s = .next s) ∧
  (∀ (p : Fin 4) (e : BitVec 32) (s : State) (first k : Nat) (rest nexts : List Nat),
    s.takesWork (emacBlock p.val) = true → s.flag (F.EMAC_MODE_EN p.val) = true →
    (s.linkIsUp p.val = true → s.fld (F.EMAC_EQ_CFG_ERR_LIMIT p.val) < e.toNat) →
    (s.linkIsUp p.val = false → (s.emac p.val).tried.toNat + 5000000 ≤ s.now) →
    s.usablePresets p.val = first :: rest →
    k = (if s.linkIsUp p.val then s.fld (F.EMAC_STATUS_PRESET p.val) else first) →
    nexts = (s.usablePresets p.val).filter (fun j => decide (j ≠ k)) →
    ∃ t, exec (.sdsPreset p e) s = .next t ∧ (t.emac p.val).tried = s.time.tick ∧ t.flag (F.EMAC_EQ_PRESET_FAILED p.val k) = true ∧ t.linkIsUp p.val = false ∧
      (nexts = [] → t.flag (F.EMAC_STATUS_EQ_BUSY p.val) = false ∧ (s.linkIsUp p.val = false → s.flt.queue.length < 15 →
        t.flt.queue = s.flt.queue ++
          [{ src := 0x31, unit := 16 * p.val + k, perm := false, inj := false, full := false },
           { src := 0x32, unit := 16 * p.val, perm := false, inj := false, full := false }])) ∧
      (∀ j js, nexts = j :: js → t.fld (F.EMAC_STATUS_PRESET p.val) = j ∧ t.flag (F.EMAC_STATUS_EQ_BUSY p.val) = true ∧
        counted s t (C.EMAC_EQ_RETRAIN p.val) 1 ∧ (s.linkIsUp p.val = false → noted s t 0x31 (16 * p.val + k) false)))

/-- A transmit ring can run. -/
def txRuns (s : State) (g : RingRegs) : Prop :=
  s.ringEn g = true ∧ s.ringHeld g ≠ 0 ∧ s.ringReachable g = true ∧ s.takesWork hostpBlock = true

/-- The fetch of a frame's descriptors and buffers, with what it logs of holes in device memory (R125). -/
def fetchLogged (s : State) (g : RingRegs) (all : List TxDesc) : State :=
  let u := (List.range all.length).foldl (fun t i => t.logRing (s.ringDev g) (s.ringAddr g (s.ringCi g + i) 32) 32) s
  if 32 < all.length then u else all.foldl (fun t d => t.logRing (s.ringDev g) d.addr d.len) u

/-- Transmit ring r, whose turn it is, gives its next whole frame: its descriptors and its bytes; u is the state once they have
been fetched. -/
def fetched (s u : State) (r : Nat) (sop : TxDesc) (all : List TxDesc) (b : List Byte) : Prop :=
  ∃ g, g = ringRegs false r ∧ s.txTurn = some r ∧ s.sortRefuses 4 = false ∧ u = fetchLogged s g all ∧ txRuns s g ∧ all = s.fetchDescs g (s.ringHeld g) (s.ringCi g) ∧ all.head? = some sop ∧
    (all.getLast?.map (fun d => d.eop)).getD false = true ∧
    b = (if 32 < all.length then [] else all.flatMap (fun d => s.ringBytes (s.ringDev g) d.addr d.len))

/-- The job of a fetched frame joins the jobs, CI passes its descriptors, and the next ring has its turn. -/
def jobJoins (s t : State) (ring : Nat) (sop : TxDesc) (n status segs : Nat) (ts : Option Nat) : Prop :=
  t.ringCi (ringRegs false ring) = (s.ringCi (ringRegs false ring) + n) % 65536 ∧
    onlyFields s t [⟨(ringRegs false ring).idx, 16, 16⟩] ∧
    t.hostp = { s.hostp with txNext := (ring + 1) % 256, nextJob := s.hostp.nextJob + 1, jobs := s.hostp.jobs ++ [{
      id := s.hostp.nextJob
      ring := ring
      cookie := sop.cookie
      ts := ts
      status := status
      segments := segs
      tsId := sop.tsId }] }

/-- A receive ring is ready for a waiting frame x of n bytes. -/
def rxHas (s : State) (ring : Fin 256) (x : Nat × TmFrame) : Prop :=
  s.hostp.bad.find? (fun b => decide (b.ring = ring.val)) = none ∧ s.handedTo (256 + ring.val) = some x ∧
    x.2.pkt.reg = none ∧ s.rxReady (ringRegs true ring.val) x.2.pkt.bytes.length = true

/-- HOSTP (R546 to R553, R556, R628). -/
def Obligations.HostRings : Prop :=
  (∀ (r : Fin 256) (e : Bool) (s : State), ¬ txRuns s (ringRegs false r.val) → exec (.hostTxFrame r e) s = .next s) ∧
  (∀ (r : Fin 256) (e : Bool) (s : State) (g : RingRegs), g = ringRegs false r.val →
    ((s.fetchDescs g (s.ringHeld g) (s.ringCi g)).getLast?.map (fun d => d.eop)).getD false = false →
    exec (.hostTxFrame r e) s = .next s) ∧
  (∀ (r : Fin 256) (e : Bool) (s : State), s.txTurn ≠ some r.val ∨ s.sortRefuses 4 = true →
    exec (.hostTxFrame r e) s = .next s) ∧
  (∀ (r : Fin 256) (e : Bool) (s u : State) (sop : TxDesc) (all : List TxDesc) (b : List Byte) (c : Nat),
    fetched s u r.val sop all b → txCheck all sop b = some c →
    ∃ t, exec (.hostTxFrame r e) s = .next t ∧ jobJoins u t r.val sop all.length c 0 none ∧
      counted u t (if c = 5 then C.HOSTP_DMA_ERR else C.HOSTP_TX_DESC_ERR) 1 ∧
      t = { u with regs := t.regs, ctrs := t.ctrs, hostp := t.hostp }) ∧
  (∀ (r : Fin 256) (s u : State) (sop : TxDesc) (all : List TxDesc) (b : List Byte),
    fetched s u r.val sop all b → txCheck all sop b = none →
    ∃ t, exec (.hostTxFrame r true) s = .next t ∧ jobJoins u t r.val sop all.length 5 0 none ∧
      counted u t C.HOSTP_DMA_ERR 1 ∧ t = { u with regs := t.regs, ctrs := t.ctrs, hostp := t.hostp }) ∧
  (∀ (r : Fin 256) (s u : State) (sop : TxDesc) (all : List TxDesc) (b : List Byte) (segs : List (List Byte)),
    fetched s u r.val sop all b → txCheck all sop b = none → segs = txSegments b sop →
    (u.ringDev (ringRegs false r.val) = false ∨ ∀ d ∈ all, ∀ i < d.len, u.mapped (d.addr + i) = true ∧ u.poisoned (d.addr + i) = false) →
    ∃ t, exec (.hostTxFrame r false) s = .next t ∧
      jobJoins u t r.val sop all.length 0 segs.length (if sop.ts then some sop.tsId else none) ∧
      counted u t C.HOSTP_TX_FRAMES 1 ∧ counted u t C.HOSTP_TX_SEGMENTS (if sop.tso then segs.length else 0) ∧
      (∃ ps, t.sort = { u.sort with arrivals := u.sort.arrivals ++ ps } ∧ ps.map (fun q => q.bytes) = segs ∧
        ∀ q ∈ ps, q.src = 4 ∧ q.srcEg = 0x10000 + r.val ∧ q.time = u.time.tick ∧ q.wantReg = sop.w3.getLsbD 27 ∧
          q.tx.ts = (if sop.ts then some sop.tsId else none)) ∧
      t = { u with regs := t.regs, ctrs := t.ctrs, sort := t.sort, hostp := t.hostp }) ∧
  (∀ (r : Fin 256) (s : State) (g : RingRegs), g = ringRegs false r.val →
    ((∀ x ∈ s.hostp.jobs, x.ring = r.val → s.jobDone x = false) ∨ s.cqRoom g = 0 ∨ s.ringEn g = false ∨
      s.ringReachable g = false) → exec (.hostTxCompletion r) s = .next s) ∧
  (∀ (r : Fin 256) (s : State) (g : RingRegs) (x : TxJob) (a : Nat), g = ringRegs false r.val →
    s.hostp.jobs.find? (fun x => decide (x.ring = r.val) && s.jobDone x) = some x → s.cqRoom g ≠ 0 →
    s.takesWork hostpBlock = true → s.ringEn g = true → s.ringReachable g = true →
    a = s.rd64 g.cq.1 g.cq.2 + 16 * (getBits (s.rd g.cqIdx) 0 16 % s.ringSize g) →
    ∃ t, exec (.hostTxCompletion r) s = .next t ∧ t.hostp.jobs = s.hostp.jobs.filter (fun y => decide (y.id ≠ x.id)) ∧
      getBits (t.rd g.cqIdx) 0 16 = (getBits (s.rd g.cqIdx) 0 16 + 1) % 65536 ∧
      (s.ringDev g = false → t.hostMem = (s.hostWrite a x.completion).hostMem ∧ t.mem = s.mem) ∧
      (s.ringDev g = true → t.mem = (s.dmaWrite a x.completion).mem ∧ t.hostMem = s.hostMem)) ∧
  (∀ (r : Fin 256) (s : State), s.hostp.bad.find? (fun b => decide (b.ring = r.val)) = none →
    s.handedTo (256 + r.val) = none → exec (.hostRxFrame r) s = .next s) ∧
  (∀ (r : Fin 256) (s : State), (∀ n, s.rxReady (ringRegs true r.val) n = false) → exec (.hostRxFrame r) s = .next s) ∧
  (∀ (r : Fin 256) (s : State) (x : Nat × TmFrame) (g : RingRegs) (n : Nat), rxHas s r x → g = ringRegs true r.val →
    n = s.bufsFor g x.2.pkt.bytes.length →
    ∃ t, exec (.hostRxFrame r) s = .next t ∧ t.tm.handed = s.tm.handed.erase x ∧
      (n ≤ s.ringHeld g → counted s t C.HOSTP_RX_FRAMES 1 ∧ t.ringCi g = (s.ringCi g + n) % 65536 ∧
        getBits (t.rd g.cqIdx) 0 16 = (getBits (s.rd g.cqIdx) 0 16 + n) % 65536) ∧
      (s.ringHeld g < n → counted s t C.HOSTP_RX_NOBUF_MIDFRAME 1 ∧ t.rd g.idx = s.rd g.idx ∧
        t.rd g.cqIdx = s.rd g.cqIdx ∧ getBits (t.rd g.coal) 0 1 = 1)) ∧
  (∀ (r : Fin 256) (s : State) (x : Nat × TmFrame) (g : RingRegs) (d : List Word) (a c : Nat), rxHas s r x →
    g = ringRegs true r.val → s.bufsFor g x.2.pkt.bytes.length = 1 → s.ringDev g = false →
    d = toItems (s.hostBytes (s.ringAddr g (s.ringCi g) 16) 16) → a = (d.getD 0 0).toNat + (d.getD 1 0).toNat * 4294967296 →
    c = s.rd64 g.cq.1 g.cq.2 + 32 * (getBits (s.rd g.cqIdx) 0 16 % s.ringSize g) →
    ∃ t, exec (.hostRxFrame r) s = .next t ∧ t.mem = s.mem ∧
      t.hostMem = ((s.hostWrite a (x.2.pkt.bytes.take (s.bufSize g))).hostWrite c
        (rxCompletion { bytes := x.2.pkt.bytes, err := 0, cls := actField x.2.pkt.act 0 6, src := x.2.pkt.src,
                        stamp := x.2.pkt.stamp } (d.getD 2 0) 0 1 (x.2.pkt.bytes.take (s.bufSize g)).length)).hostMem) ∧
  (∀ (r : Fin 256) (s : State) (b : BadFrame) (g : RingRegs), g = ringRegs true r.val →
    s.hostp.bad.find? (fun b => decide (b.ring = r.val)) = some b → s.rxReady g b.bytes.length = true →
    s.bufsFor g b.bytes.length ≤ s.ringHeld g →
    ∃ t, exec (.hostRxFrame r) s = .next t ∧ t.hostp.bad = s.hostp.bad.erase b ∧ counted s t C.HOSTP_RX_FRAMES 1 ∧
      t.tm = s.tm) ∧
  (∀ (rx : Bool) (r : Fin 256) (s : State) (g : RingRegs), g = ringRegs rx r.val →
    ∃ t, exec (.coalTimeout rx r) s = .next t ∧ (s.coalOf g.key = none → t = s) ∧
      (∀ n at', s.coalOf g.key = some (n, at') →
        (s.now - at'.toNat < getBits (s.rd g.coal) 16 16 * 500 → t = s) ∧
        (s.takesWork hostpBlock = true → getBits (s.rd g.coal) 16 16 * 500 ≤ s.now - at'.toNat → t.coalOf g.key = none ∧ t.mem = s.mem))) ∧
  (∀ (w : Word) (s u : State), s.takesWork hostpBlock = true → u = s.touch A.HOSTP_RC_DATA →
    ∃ t, exec (.rcAccess w) s = .next t ∧
      ((u.fld F.HOSTP_CFG_MODE = 1 ∨ u.flag F.HOSTP_RC_STATUS_BUSY = true) → refusedOnly u t A.HOSTP_RC_DATA 2) ∧
      (u.fld F.HOSTP_CFG_MODE ≠ 1 → u.flag F.HOSTP_RC_STATUS_BUSY = false → t.rd A.HOSTP_RC_DATA = w ∧
        t.flag F.HOSTP_RC_STATUS_BUSY = true ∧ t.fld F.HOSTP_RC_STATUS_RESULT = 0 ∧
        onlyFields u t [whole A.HOSTP_RC_DATA, F.HOSTP_RC_STATUS_BUSY, F.HOSTP_RC_STATUS_RESULT] ∧
        t = { u with regs := t.regs, hostp := { u.hostp with rcSince := u.time.tick } })) ∧
  (∀ (x : RcResult) (d : Word) (s : State), s.flag F.HOSTP_RC_STATUS_BUSY = false → exec (.rcAccessDone x d) s = .next s) ∧
  (∀ (d : Word) (s : State), s.now < s.hostp.rcSince.toNat + 25000000 → exec (.rcAccessDone .timeout d) s = .next s) ∧
  (∀ (x : RcResult) (d : Word) (s : State), s.takesWork hostpBlock = true → s.flag F.HOSTP_RC_STATUS_BUSY = true →
    (x = .timeout → s.hostp.rcSince.toNat + 25000000 ≤ s.now) →
    ∃ t, exec (.rcAccessDone x d) s = .next t ∧ t.flag F.HOSTP_RC_STATUS_BUSY = false ∧
      t.fld F.HOSTP_RC_STATUS_RESULT = (match x with
        | .done => 1
        | .ur => 2
        | .ca => 3
        | .timeout => 4) ∧
      t.rd A.HOSTP_RC_DATA = (if x = .done ∧ s.flag F.HOSTP_RC_ADDR_HI_WR = false then d else s.rd A.HOSTP_RC_DATA) ∧
      onlyFields s t [whole A.HOSTP_RC_DATA, F.HOSTP_RC_STATUS_BUSY, F.HOSTP_RC_STATUS_RESULT] ∧
      t = { s with regs := t.regs }) ∧
  (∀ (gen w pm : BitVec 3) (l : BitVec 6) (m : Bool) (s : State),
    ∃ t, exec (.pcieLinkUp gen w pm l m) s = .next t ∧
      (s.fld F.HOSTP_CFG_MODE ≠ 0 → s.takesWork hostpBlock = true → 1 ≤ gen.toNat →
        gen.toNat ≤ s.fld F.HOSTP_CFG_MAX_GEN → (w = 1 ∨ w = 2) →
        s.pmLegal pm.toNat = true → getBits (t.rd A.HOSTP_LINK) 16 3 = pm.toNat ∧ t.flag F.HOSTP_LINK_UP = true ∧ t.fld F.HOSTP_LINK_GEN = gen.toNat ∧ t.fld F.HOSTP_LINK_WIDTH = w.toNat % 4 ∧
        getBits (t.rd A.HOSTP_LINK) 0 6 = l.toNat ∧ t.hostp = { s.hostp with msixEnable := m } ∧
        onlyFields s t [whole A.HOSTP_LINK] ∧ t = { s with regs := t.regs, hostp := t.hostp }) ∧
      ((s.fld F.HOSTP_CFG_MODE = 0 ∨ s.takesWork hostpBlock = false ∨ gen = 0 ∨
        s.fld F.HOSTP_CFG_MAX_GEN < gen.toNat ∨ (w ≠ 1 ∧ w ≠ 2) ∨ s.pmLegal pm.toNat = false) → t = s) ∧
      (5 ≤ pm.toNat → t = s)) ∧
  (∀ s : State, s.takesWork hostpBlock = true → ∃ t, exec .pcieLinkDown s = .next t ∧ t.rd A.HOSTP_LINK = 0 ∧ t.hostPresent = false ∧
    onlyFields s t [whole A.HOSTP_LINK] ∧ t = { s with regs := t.regs, hostp := { s.hostp with msixEnable := false } } ∧
    ∀ v, t.fld (F.DISPATCH_VROUTE_MODE v) = 0 → t.raise v = t.count C.DISPATCH_VEC_DROPPED)

/-- An error of a row is corrected, or not, from s to t (R563): counts and addresses. -/
def dramErred (s t : State) (u : DramUpset) : Prop :=
  (u.double = true → counted s t C.DRAMC_DRAM_UE 1 ∧ t.ctr C.DRAMC_DRAM_CE = s.ctr C.DRAMC_DRAM_CE ∧
    t.rd64 A.DRAMC_UE_ADDR_LO A.DRAMC_UE_ADDR_HI = u.addr.toNat) ∧
    (u.double = false → counted s t C.DRAMC_DRAM_CE 1 ∧ t.ctr C.DRAMC_DRAM_UE = s.ctr C.DRAMC_DRAM_UE ∧
      t.rd64 A.DRAMC_CE_ADDR_LO A.DRAMC_CE_ADDR_HI = u.addr.toNat)

/-- The row of an error has entered PPR entry k. -/
def rowEntered (t : State) (k : Nat) (u : DramUpset) : Prop :=
  t.flag (F.DRAMC_PPR_VALID k) = true ∧ t.fld (F.DRAMC_PPR_RANK k) = bit u.rank ∧
    t.fld (F.DRAMC_PPR_BANK k) = u.bank.toNat % 16 ∧ t.fld (F.DRAMC_PPR_ROW k) = u.row.toNat

/-- A memory request of master m names device address x, and no earlier one of the host waits. -/
def memAsks (s : State) (m : Master) (w : Bool) (a : BitVec 36) (x : Nat) : Prop :=
  s.requestAddr m w a = some x ∧ (m = .host → s.bar2 = [])

/-- It lies in DRAM, and DRAMC serves it. -/
def dramAsks (s : State) (m : Master) (w : Bool) (a : BitVec 36) (x : Nat) : Prop :=
  memAsks s m w a x ∧ s.dramReady = true ∧ s.takesWork 0x0B = true ∧ s.inDram x = true

/-- DRAMC (R560 to R563, R565, R566). -/
def Obligations.DramController : Prop :=
  (∀ (s : State) (m : Master) (w : Bool) (a : BitVec 36) (c : Fin 9), s.requestAddr (.core c) w a = some a.toNat ∧
    (s.fld F.HOSTP_CFG_MODE = 1 →
      s.requestAddr .host w a = some (s.fld F.SYSCTL_BAR2_WIN_WIN * 67108864 + a.toNat % 67108864)) ∧
    (s.fld F.HOSTP_CFG_MODE = 0 → s.requestAddr .host w a = none) ∧
    (s.requestAddr m w a = none → ∀ (d : List Byte) (n : Nat) (u : Option DramUpset), exec (.dramRequest m w a d n u) s = .next s)) ∧
  (∀ (m : Master) (w : Bool) (a : BitVec 36) (d : List Byte) (n x : Nat) (u : Option DramUpset) (s : State),
    memAsks s m w a x → s.inDram x = true → (s.dramReady = false ∨ s.takesWork 0x0B = false) →
    ∃ t, exec (.dramRequest m w a d n u) s = .next t ∧ (m ≠ .host → t = s) ∧
      (m = .host → t = { s with bar2 := [{ write := w, addr := x, size := n, data := d }] })) ∧
  (∀ (m : Master) (w : Bool) (a : BitVec 36) (d : List Byte) (n x : Nat) (u : Option DramUpset) (s : State),
    memAsks s m w a x → s.dark = false → s.inDram x = false →
    ∃ t, exec (.dramRequest m w a d n u) s = .next t ∧
      (s.mapped x = false → t = s.unmappedAccess m w x) ∧
      (s.mapped x = true → w = true → (∀ i < d.length, s.hitsKeyBank (x + i) 1 = false) → t = s.dmaWrite x d) ∧
      (w = false → (∀ i < min n 8, s.mapped (x + i) = true ∧ s.poisoned (x + i) = false ∧ s.hitsKeyBank (x + i) 1 = false) →
        0 < n → t = s.answer (BitVec.ofNat 64 (leNat (s.dmaBytes x (min n 8)))))) ∧
  (∀ (m : Master) (w : Bool) (a : BitVec 36) (d : List Byte) (n x : Nat) (u : Option DramUpset) (s : State),
    dramAsks s m w a x → (u = none ∨ s.flag F.DRAMC_CFG_ECC_EN = false) →
    ∃ t, exec (.dramRequest m w a d n u) s = .next t ∧ (t.fld F.DRAMC_STATUS_PD).testBit (s.rankOf x) = false ∧
      (∀ k, k ≠ s.rankOf x → (t.fld F.DRAMC_STATUS_PD).testBit k = (s.fld F.DRAMC_STATUS_PD).testBit k) ∧
      (w = true → counted s t C.DRAMC_WRITES 1 ∧ t.resp = s.resp ∧
        (∀ k, k = (if (x % 8 = 0 ∧ d.length % 8 = 0) ∨ s.flag F.DRAMC_CFG_ECC_EN = false then 0 else 1) →
          counted s t C.DRAMC_RMW k ∧ counted s t C.DRAMC_READS k) ∧
        (∀ i < d.length, x + i < 4294967296 + s.fld F.DRAMC_STATUS_CAP_MIB * 1048576 → t.byte (x + i) = d.getD i 0) ∧
        (∀ b, b < x ∨ x + d.length ≤ b → t.byte b = s.byte b)) ∧
      (w = false → counted s t C.DRAMC_READS 1 ∧ onlyCtrs s t [C.DRAMC_READS] ∧ onlyFields s t [F.DRAMC_STATUS_PD] ∧
        t.resp = { value := BitVec.ofNat 64 (leNat (s.dmaBytes x (min n 8))), busError := false } ∧
        t = { s with regs := t.regs, ctrs := t.ctrs, dram := t.dram, resp := t.resp })) ∧
  (∀ (m : Master) (a : BitVec 36) (d : List Byte) (n x : Nat) (u : DramUpset) (s : State), dramAsks s m false a x →
    s.flag F.DRAMC_CFG_ECC_EN = true →
    ∃ t, exec (.dramRequest m false a d n (some u)) s = .next t ∧ dramErred s t u ∧ counted s t C.DRAMC_READS 1 ∧
      t.mem = s.mem ∧
      (u.double = false → t.resp = { value := BitVec.ofNat 64 (leNat (s.dmaBytes x (min n 8))), busError := false } ∧
        onlyFields s t [F.DRAMC_STATUS_PD, whole A.DRAMC_CE_ADDR_LO, whole A.DRAMC_CE_ADDR_HI]) ∧
      (u.double = true → t.resp.value = 0 ∧ (∀ c, m = .core c → t.resp.busError = true) ∧
        (m = .host → t.resp.busError = false) ∧ ∀ k < 8, s.flag (F.DRAMC_PPR_VALID k) = false →
          (∀ j < k, s.flag (F.DRAMC_PPR_VALID j) = true) → rowEntered t k u)) ∧
  (∀ (rank : Fin 2) (s : State) (at' : DWord), at' = sget (fun _ => 0) s.dram.used rank.val →
    ∃ t, exec (.dramPowerDown rank) s = .next t ∧
      (s.takesWork 0x0B = true → s.dramReady = true → s.fld F.DRAMC_PD_CFG_PD_IDLE_NS ≠ 0 →
        rank.val < s.fld F.DRAMC_CFG_RANKS → at'.toNat * 1000 + s.fld F.DRAMC_PD_CFG_PD_IDLE_NS * 500 ≤ s.now * 1000 →
        (t.fld F.DRAMC_STATUS_PD).testBit rank.val = true ∧
        (∀ k, k ≠ rank.val → (t.fld F.DRAMC_STATUS_PD).testBit k = (s.fld F.DRAMC_STATUS_PD).testBit k) ∧
        onlyFields s t [F.DRAMC_STATUS_PD] ∧ t = { s with regs := t.regs }) ∧
      ((s.dramReady = false ∨ s.fld F.DRAMC_PD_CFG_PD_IDLE_NS = 0 ∨ s.fld F.DRAMC_CFG_RANKS ≤ rank.val ∨
        s.now * 1000 < at'.toNat * 1000 + s.fld F.DRAMC_PD_CFG_PD_IDLE_NS * 500) → t = s)) ∧
  (∀ (us : List DramUpset) (s : State) (due : Nat),
    due = s.dram.scrubbed.toNat + s.fld F.DRAMC_SCRUB_SCRUB_HOURS * 1800000000000 →
    ∃ t, exec (.dramScrub us) s = .next t ∧
      ((s.dramReady = false ∨ s.fld F.DRAMC_SCRUB_SCRUB_HOURS = 0 ∨ s.now < due) → t = s) ∧
      (s.takesWork 0x0B = true → s.dramReady = true → s.fld F.DRAMC_SCRUB_SCRUB_HOURS ≠ 0 → due ≤ s.now →
        counted s t C.DRAMC_SCRUB_PASSES 1 ∧ t.mem = s.mem ∧ t.dram.scrubbed = s.time.tick ∧
        (s.flag F.DRAMC_CFG_ECC_EN = false → onlyCtrs s t [C.DRAMC_SCRUB_PASSES] ∧
          t = { s with ctrs := t.ctrs, dram := { s.dram with scrubbed := s.time.tick } }) ∧
        (s.flag F.DRAMC_CFG_ECC_EN = true →
          counted s t C.DRAMC_DRAM_CE (us.filter (fun u => !u.double)).length ∧
          counted s t C.DRAMC_DRAM_UE (us.filter (fun u => u.double)).length))) ∧
  (∀ (u : DramUpset) (s : State) (k before : Nat), s.takesWork 0x0B = true → s.dramReady = true →
    s.fld F.DRAMC_SCRUB_SCRUB_HOURS ≠ 0 →
    s.dram.scrubbed.toNat + s.fld F.DRAMC_SCRUB_SCRUB_HOURS * 1800000000000 ≤ s.now →
    s.flag F.DRAMC_CFG_ECC_EN = true → u.double = false → k < 8 → s.flag (F.DRAMC_PPR_VALID k) = false →
    (∀ j < k, s.flag (F.DRAMC_PPR_VALID j) = true) →
    before = ((s.dram.ceRows.find? (fun e => decide (e.1 = (bit u.rank, u.bank.toNat, u.row.toNat)))).map
      (fun e => e.2)).getD 0 →
    ∃ t, exec (.dramScrub [u]) s = .next t ∧
      (before + 1 = s.fld F.DRAMC_SCRUB_PPR_THRESH → rowEntered t k u ∧ noted s t 0x34 k false) ∧
      (before + 1 ≠ s.fld F.DRAMC_SCRUB_PPR_THRESH → t.rd (A.DRAMC_PPR k) = s.rd (A.DRAMC_PPR k) ∧ t.flt = s.flt)) ∧
  (∀ s u : State, s.takesWork 0x0B = true → u = s.touch A.DRAMC_RETRAIN →
    ∃ t, exec .retrain s = .next t ∧
      ((u.flag F.DRAMC_STATUS_TRAINED = true ∨ u.flag F.DRAMC_STATUS_RETRAINING = true) →
        refusedOnly u t A.DRAMC_RETRAIN 2) ∧
      (u.flag F.DRAMC_STATUS_TRAINED = false → u.flag F.DRAMC_STATUS_RETRAINING = false →
        t.flag F.DRAMC_STATUS_RETRAINING = true ∧ t.fld F.DRAMC_STATUS_TRAIN_RESULT = 0 ∧
        onlyFields u t [F.DRAMC_STATUS_RETRAINING, F.DRAMC_STATUS_TRAIN_RESULT] ∧ t = { u with regs := t.regs })) ∧
  (∀ (ok : Bool) (s : State),
    ∃ t, exec (.retrainDone ok) s = .next t ∧ (s.flag F.DRAMC_STATUS_RETRAINING = false → t = s) ∧
      (s.takesWork 0x0B = true → s.flag F.DRAMC_STATUS_RETRAINING = true → t.flag F.DRAMC_STATUS_RETRAINING = false ∧
        (ok = true → t.dramReady = true ∧ t.fld F.DRAMC_STATUS_TRAIN_RESULT = 1 ∧
          t.fld F.DRAMC_STATUS_CAP_MIB = s.dramCap % 32768) ∧
        (ok = false → t.fld F.DRAMC_STATUS_TRAIN_RESULT = 2 ∧
          onlyFields s t [F.DRAMC_STATUS_RETRAINING, F.DRAMC_STATUS_TRAIN_RESULT]) ∧ t = { s with regs := t.regs }))

/-- KEYS takes the write of its register at `a`, which starts a command; u is what the write finds. -/
def keysOpen (s u : State) (a : Nat) : Prop := s.takesWork 0x06 = true ∧ u = s.touch a

/-- A key command is refused with CFG_RANGE; RESULT shows it unless a change is pending (R573, R604). -/
def keysRefused (s t : State) : Prop :=
  (getBits (s.rd (cfgStatusOf A.KEYS_CMD)) 0 8 = 0 → getBits (t.rd (cfgStatusOf A.KEYS_CMD)) 0 8 = 2) ∧
    (s.flag F.KEYS_STATUS_BUSY = false → t.fld F.KEYS_STATUS_RESULT = 2) ∧
    onlyFields s t [whole (cfgStatusOf A.KEYS_CMD), F.KEYS_STATUS_RESULT] ∧ t = { s with regs := t.regs }

/-- The change c is pending on its slot. -/
def changePends (s t : State) (c : KeyChange) : Prop :=
  t.keySlot c.slot = { s.keySlot c.slot with state := 2 } ∧ (∀ k, k ≠ c.slot → t.keySlot k = s.keySlot k) ∧
    t.keys.change = some c ∧ t.flag F.KEYS_STATUS_BUSY = true ∧ t.fld F.KEYS_STATUS_RESULT = 0

/-- KEYS (R568, R571 to R573, R576, R588, R598, R604, R605). -/
def Obligations.KeyStore : Prop :=
  (∀ (k : BitVec 13) (s u : State), keysOpen s u A.KEYS_CMD → u.flag F.KEYS_STATUS_BUSY = true ∨ 8184 ≤ k.toNat →
    ∃ t v, exec (.keyWrite k) s = .next t ∧ exec (.keyErase k) s = .next v ∧
      keysRefused u t ∧ keysRefused u v) ∧
  (∀ (k : BitVec 13) (s u : State) (pn : Nat), keysOpen s u A.KEYS_CMD → u.flag F.KEYS_STATUS_BUSY = false → k.toNat < 8184 →
    pn = u.rd64 A.KEYS_PN_INIT_LO A.KEYS_PN_INIT_HI →
    ∃ t, exec (.keyWrite k) s = .next t ∧
      (u.fld F.KEYS_SLOT_CFG_USE = 0 → refusedOnly u t A.KEYS_CMD 1) ∧
      (u.fld F.KEYS_SLOT_CFG_USE ≠ 0 → pnWarn (u.fld F.KEYS_SLOT_CFG_PNW) ≤ pn → keysRefused u t) ∧
      (u.fld F.KEYS_SLOT_CFG_USE ≠ 0 → pn < pnWarn (u.fld F.KEYS_SLOT_CFG_PNW) → u.fld F.DBG_STATUS_LEVEL = 3 →
        t.fld F.KEYS_STATUS_RESULT = 3 ∧ onlyFields u t [F.KEYS_STATUS_RESULT] ∧ t = { u with regs := t.regs }) ∧
      (u.fld F.KEYS_SLOT_CFG_USE ≠ 0 → pn < pnWarn (u.fld F.KEYS_SLOT_CFG_PNW) → u.fld F.DBG_STATUS_LEVEL ≠ 3 →
        changePends u t {
          slot := k.toNat
          erase := false
          key := u.stagedKey (u.fld F.KEYS_SLOT_CFG_KTYPE)
          ktype := u.fld F.KEYS_SLOT_CFG_KTYPE
          pnw := u.fld F.KEYS_SLOT_CFG_PNW
          use := u.fld F.KEYS_SLOT_CFG_USE
          pn := pn } ∧ (∀ i < 8, t.rd (A.KEYS_KEY_DATA i) = 0) ∧ t = { u with regs := t.regs, keys := t.keys })) ∧
  (∀ (k : BitVec 13) (s u : State), keysOpen s u A.KEYS_CMD → u.flag F.KEYS_STATUS_BUSY = false → k.toNat < 8184 →
    ∃ t, exec (.keyErase k) s = .next t ∧ changePends u t {
        slot := k.toNat
        erase := true
        key := 0
        ktype := 0
        pnw := 0
        use := 0
        pn := 0 } ∧
      onlyFields u t [F.KEYS_STATUS_BUSY, F.KEYS_STATUS_RESULT] ∧ t = { u with regs := t.regs, keys := t.keys }) ∧
  (∀ s u : State, keysOpen s u A.KEYS_CMD →
    ∃ t, exec .zeroise s = .next t ∧
      (u.flag F.KEYS_STATUS_BUSY = true → keysRefused u t) ∧
      (u.flag F.KEYS_STATUS_BUSY = false → t.keys = { u.keys with zeroise := true } ∧
        t.flag F.KEYS_STATUS_BUSY = true ∧ t.fld F.KEYS_STATUS_RESULT = 0 ∧
        (u.sealer.cur = none → t.sealer = u.sealer) ∧
        (∀ o, u.sealer.cur = some o → t.sealer.cur = some (if o.op = 7 ∨ o.op = 8 then
          { o with status := 0x0A, out := List.replicate o.dstLen 0, derive := none } else o)) ∧
        onlyFields u t [F.KEYS_STATUS_BUSY, F.KEYS_STATUS_RESULT])) ∧
  (∀ (k : BitVec 13) (s u : State), keysOpen s u A.KEYS_CMD →
    ∃ t, exec (.readState k) s = .next t ∧
      (u.flag F.KEYS_STATUS_BUSY = true → keysRefused u t) ∧
      (u.flag F.KEYS_STATUS_BUSY = false → t.fld F.KEYS_STATUS_RESULT = 1 ∧
        t.rd A.KEYS_SLOT_STATE = BitVec.ofNat 32 ((u.shownSlot k.toNat).state * 1073741824 +
          (u.shownSlot k.toNat).use * 16777216 + u.keyGen k.toNat * 65536 + (u.shownSlot k.toNat).inflight % 256 * 256 +
          (u.shownSlot k.toNat).pnw * 16 + (u.shownSlot k.toNat).ktype) ∧
        (k.toNat < 8184 → u.shownSlot k.toNat = u.keySlot k.toNat) ∧
        ((u.shownSlot k.toNat).txPn < 18446744073709551616 →
          t.rd64 A.KEYS_TX_PN_LO A.KEYS_TX_PN_HI = (u.shownSlot k.toNat).txPn) ∧ t = { u with regs := t.regs } ∧
        onlyFields u t [F.KEYS_STATUS_RESULT, whole A.KEYS_SLOT_STATE, whole A.KEYS_TX_PN_LO, whole A.KEYS_TX_PN_HI])) ∧
  (∀ (s : State) (c : KeyChange), s.keys.change = some c →
    ((s.keySlot c.slot).inflight ≠ 0 → exec .changeLanded s = .next s) ∧
    (s.takesWork 0x06 = true → (s.keySlot c.slot).inflight = 0 →
      ∃ u, exec .changeLanded s = .next (if s.sealer.stalled then u.sealTake else u) ∧
        (c.erase = true → u.keySlot c.slot = { gen := ((s.keySlot c.slot).gen + 1) % 256 }) ∧
        (c.erase = false → u.keySlot c.slot = {
          key := c.key
          ktype := c.ktype
          pnw := c.pnw
          use := c.use
          state := 1
          gen := ((s.keySlot c.slot).gen + 1) % 256
          txPn := c.pn }) ∧
        (∀ k, k ≠ c.slot → u.keySlot k = s.keySlot k) ∧ counted s u C.KEYS_CHANGES_LANDED 1 ∧ u.keys.change = none ∧
        u.fld F.KEYS_STATUS_RESULT = 1 ∧ u.flag F.KEYS_STATUS_BUSY = s.keys.zeroise ∧
        onlyFields s u [F.KEYS_STATUS_BUSY, F.KEYS_STATUS_RESULT] ∧
        u = { s with regs := u.regs, ctrs := u.ctrs, keys := u.keys })) ∧
  (∀ s : State, s.takesWork 0x06 = true → s.keys.change = none →
    (s.keys.zeroise = true → s.sealer.cur.isSome = true ∨ (∃ e ∈ s.keys.slots, e.2.inflight ≠ 0)) →
    exec .changeLanded s = .next (if s.keys.zeroise = false ∧ s.sealer.stalled = true then s.sealTake else s)) ∧
  (∀ s : State, s.takesWork 0x06 = true → s.keys.change = none → s.keys.zeroise = true → s.sealer = {} → swf (fun _ => {}) s.keys.slots = true →
    (∀ e ∈ s.keys.slots, e.2.inflight = 0) →
    ∃ t, exec .changeLanded s = .next t ∧ counted s t C.KEYS_CHANGES_LANDED 1 ∧ t.keys.zeroise = false ∧
      (∀ n, t.keySlot n = { gen := (s.keySlot n).gen } ∧ t.keyGen n = (s.keyGen n + 1) % 256) ∧
      t.keys.idLoaded = false ∧ t.keys.backing = none ∧ t.flag F.KEYS_STATUS_BUSY = false ∧
      t.fld F.KEYS_STATUS_RESULT = 1 ∧
      (s.keys.d3Waits = false → t.fld F.DBG_STATUS_LEVEL = s.fld F.DBG_STATUS_LEVEL ∧ t.flt = s.flt) ∧
      (s.keys.d3Waits = true → t.fld F.DBG_STATUS_LEVEL = 3 ∧ noted s t 0x3C 3 false)) ∧
  (∀ s : State, s.takesWork 0x06 = true → ∃ t, exec .entropy s = .next t ∧ t.flag F.KEYS_ENTROPY_HEALTH_OK = false ∧
    t.fld F.KEYS_ENTROPY_FAILS = min 65535 (s.fld F.KEYS_ENTROPY_FAILS + 1) ∧ noted s t 0x3B 0 false ∧ t.keys = s.keys) ∧
  (∀ s : State, s.takesWork 0x06 = true → ∃ t, exec .healthOk s = .next t ∧ t.flag F.KEYS_ENTROPY_HEALTH_OK = true ∧
    onlyFields s t [F.KEYS_ENTROPY_HEALTH_OK] ∧ t = { s with regs := t.regs })

/-- The commands of SEAL with their OP codes (R584). -/
def sealOps : List (Instr × Nat) :=
  [(Instr.encrypt, 1), (Instr.decrypt, 2), (Instr.mac, 3), (Instr.verify, 4), (Instr.hash, 5), (Instr.derive, 6),
   (Instr.sealCreate, 7), (Instr.attest, 8), (Instr.random, 9)]

/-- SEAL has fetched the next descriptor, unless a stalled operation had; a hole in memory is logged (R125). -/
def sealFetched (s u : State) : Prop :=
  (s.sealer.stalled = true → u = s) ∧ (s.sealer.stalled = false → u = s.logDma s.sealDescAt 64)

/-- A SEAL command takes descriptor d, whose slot is not waiting for a change; u is the state once it is fetched. -/
def sealTakes (s u : State) (c : Instr) (d : SealDesc) : Prop :=
  (c, d.op) ∈ sealOps ∧ s.sealReady = true ∧ s.takesWork 0x07 = true ∧ d = s.sealDesc ∧ sealFetched s u ∧
    (d.namesSlot = false ∨ s.keyWaits d.slot = false ∨ (s.keySlot d.slot).state = 0)

/-- Operation o is in progress. -/
def sealRuns (s t : State) (o : SealOp) : Prop :=
  t.sealer = { cur := some o, stalled := false } ∧
    t.fld F.SEAL_PIPE_STATUS_BUSY = s.fld F.SEAL_PIPE_STATUS_BUSY ||| 16 ∧ t.mem = s.mem ∧ t.fuses = s.fuses

/-- The operation ends with a status and does nothing else. -/
def sealEnds (s t : State) (d : SealDesc) (status : Nat) : Prop :=
  sealRuns s t (d.ends status) ∧ t.keys = s.keys ∧ onlyFields s t [F.SEAL_PIPE_STATUS_BUSY]

/-- Every check before the operation's own passes. -/
def sealPasses (s : State) (d : SealDesc) : Prop :=
  s.fld F.DBG_STATUS_LEVEL < 2 ∧ ((d.op = 7 ∨ d.op = 8) → s.fuses.lcBits = 1 ∨ s.fuses.lcBits = 2) ∧
    d.lengthFault = none ∧ ((d.op = 7 ∨ (d.op = 9 ∧ d.len ≠ 0)) → s.flag F.KEYS_ENTROPY_HEALTH_OK = true) ∧
    s.rangeMapped d.src d.srcLen = true ∧ s.rangeMapped d.dst d.dstLen = true ∧
    (d.namesSlot = true → s.keyCheck d.slot (if d.op = 6 then 4 else 3) d.suits = none)

/-- The slot of the operation has its key loaded once more. -/
def keyLoaded (s t : State) (n : Nat) : Prop :=
  (t.keySlot n).inflight = (s.keySlot n).inflight + 1 ∧ (∀ k, k ≠ n → t.keySlot k = s.keySlot k)

/-- The payload that SRC holds. -/
def sealBody (s : State) (d : SealDesc) : List Byte := slice (s.dmaBytes d.src d.srcLen) d.aadLen d.len

/-- The additional data that SRC holds. -/
def sealAad (s : State) (d : SealDesc) : List Byte := (s.dmaBytes d.src d.srcLen).take d.aadLen

/-- The nonce of the operation with a packet number. -/
def sealNonce (d : SealDesc) (pn : Nat) : List Byte := if d.noncey then d.nonceOf pn else []

/-- SEAL (R570, R572 to R575, R580, R582 to R585, R590, R592). -/
def Obligations.SealOperations : Prop :=
  (∀ (c : Instr) (op : Nat) (s : State), (c, op) ∈ sealOps →
    (s.sealReady = false ∨ s.takesWork 0x07 = false ∨ (s.sealDesc.op ≠ op ∧ 1 ≤ s.sealDesc.op ∧ s.sealDesc.op ≤ 9)) →
    exec c s = .next s) ∧
  (∀ (c : Instr) (d : SealDesc) (s u : State), (c, d.op) ∈ sealOps → s.sealReady = true → s.takesWork 0x07 = true →
    d = s.sealDesc → sealFetched s u → d.namesSlot = true → s.keyWaits d.slot = true → (s.keySlot d.slot).state ≠ 0 →
    ∃ t, exec c s = .next t ∧ (s.sealer.stalled = true → t = s) ∧
      (s.sealer.stalled = false → counted u t C.KEYS_KEY_STALLS 1 ∧ onlyCtrs u t [C.KEYS_KEY_STALLS] ∧
        t = { u with ctrs := t.ctrs, sealer := { u.sealer with stalled := true } })) ∧
  (∀ (c : Instr) (d : SealDesc) (s u : State), sealTakes s u c d →
    ∃ t, exec c s = .next t ∧
      (2 ≤ u.fld F.DBG_STATUS_LEVEL → (d.namesSlot = true ∨ d.op = 7 ∨ d.op = 8) →
        sealEnds u t d 0x0C ∧ counted u t C.SEAL_DEBUG_REFUSED 1) ∧
      (u.fld F.DBG_STATUS_LEVEL < 2 → (d.op = 7 ∨ d.op = 8) → u.fuses.lcBits ≠ 1 → u.fuses.lcBits ≠ 2 →
        sealEnds u t d 0x0B ∧ t.ctrs = u.ctrs) ∧
      (u.fld F.DBG_STATUS_LEVEL < 2 → d.op ≠ 7 → d.op ≠ 8 → ∀ e, d.lengthFault = some e →
        sealEnds u t d e ∧ t.ctrs = u.ctrs) ∧
      (u.fld F.DBG_STATUS_LEVEL < 2 → d.lengthFault = none → d.op = 9 → d.len ≠ 0 →
        u.flag F.KEYS_ENTROPY_HEALTH_OK = false → sealEnds u t d 0x0D ∧ t.ctrs = u.ctrs) ∧
      (u.fld F.DBG_STATUS_LEVEL < 2 → d.lengthFault = none → d.op ≤ 6 →
        (u.rangeMapped d.src d.srcLen = false ∨ u.rangeMapped d.dst d.dstLen = false) →
        sealEnds u t d 0x09 ∧ t.ctrs = u.ctrs) ∧
      (u.fld F.DBG_STATUS_LEVEL < 2 → d.lengthFault = none → d.namesSlot = true →
        u.rangeMapped d.src d.srcLen = true → u.rangeMapped d.dst d.dstLen = true →
        ∀ e, u.keyCheck d.slot (if d.op = 6 then 4 else 3) d.suits = some e → sealEnds u t d e.status ∧ t.ctrs = u.ctrs)) ∧
  (∀ (c : Instr) (d : SealDesc) (s u : State), sealTakes s u c d → sealPasses u d → (d.op = 1 ∨ d.op = 3) →
    ∃ t, exec c s = .next t ∧
      ((u.keySlot d.slot).state = 3 → sealEnds u t d 0x08 ∧ counted u t C.SEAL_PN_EXHAUSTED 1) ∧
      ((u.keySlot d.slot).state ≠ 3 → d.explicit = true → d.pn ≤ (u.keySlot d.slot).txPn →
        sealEnds u t d 0x07 ∧ counted u t C.SEAL_PN_REFUSED 1) ∧
      (∀ pn, (u.keySlot d.slot).state ≠ 3 → pn = (if d.explicit then d.pn else (u.keySlot d.slot).txPn + 1) →
        (u.keySlot d.slot).txPn < pn → (d.explicit = true → pn ≤ pnLimit (u.keySlot d.slot).pnw) →
        (t.keySlot d.slot).txPn = pn ∧ keyLoaded u t d.slot ∧ ∀ out tag,
          out = (if d.op = 1 then (List.range d.len).map (Config.cipher d.alg (u.keySlot d.slot).key (sealNonce d pn)
            (sealAad u d) (sealBody u d)) else sealBody u d) →
          tag = (List.range d.tagLen).map (Config.tag d.alg (u.keySlot d.slot).key (sealNonce d pn) (sealAad u d) out) →
          sealRuns u t { d.ends 0 with
            slot := some d.slot
            gen := u.keyGen d.slot
            dstLen := d.dstLen
            pn := pn
            out := if d.op = 1 then out ++ tag else []
            tag := if d.op = 3 then tag else [] })) ∧
  (∀ (c : Instr) (d : SealDesc) (s u : State), sealTakes s u c d → sealPasses u d → (d.op = 2 ∨ d.op = 4) →
    ∃ t, exec c s = .next t ∧ keyLoaded u t d.slot ∧ (t.keySlot d.slot).txPn = (u.keySlot d.slot).txPn ∧ ∀ tag,
      tag = (List.range d.tagLen).map
        (Config.tag d.alg (u.keySlot d.slot).key (sealNonce d d.pn) (sealAad u d) (sealBody u d)) →
      (tag = slice (u.dmaBytes d.src d.srcLen) (d.aadLen + d.len) d.tagLen →
        sealRuns u t { d.ends 0 with
          slot := some d.slot
          gen := u.keyGen d.slot
          dstLen := d.dstLen
          pn := d.pn
          out := if d.op = 4 then [] else (List.range d.len).map (Config.cipher d.alg (u.keySlot d.slot).key
            (sealNonce d d.pn) (sealAad u d) (sealBody u d)) }) ∧
      (tag ≠ slice (u.dmaBytes d.src d.srcLen) (d.aadLen + d.len) d.tagLen →
        sealRuns u t { d.ends 1 with
          slot := some d.slot
          gen := u.keyGen d.slot
          dstLen := d.dstLen
          pn := d.pn
          out := if d.op = 4 then [] else List.replicate d.len 0
          tag := tag })) ∧
  (∀ (d : SealDesc) (s u : State), sealTakes s u .hash d → sealPasses u d →
    ∃ t, exec .hash s = .next t ∧ t.keys = u.keys ∧ sealRuns u t { d.ends 0 with
      dstLen := 48
      out := leBytes 48 (Config.sha384 (u.dmaBytes d.src d.len)).toNat }) ∧
  (∀ (d : SealDesc) (s u : State), sealTakes s u .derive d → sealPasses u d →
    ∃ t, exec .derive s = .next t ∧ keyLoaded u t d.slot ∧ ∀ key,
      key = (if d.alg = 3 then BitVec.ofNat 256 (leNat ((List.range 16).map (Config.tag 3 (u.keySlot d.slot).key [] []
          (u.dmaBytes d.src d.srcLen)))) else Config.hkdf (u.keySlot d.slot).key (sealAad u d)
          ((u.dmaBytes d.src d.srcLen).drop d.aadLen)) →
      sealRuns u t { d.ends 0 with
        slot := some d.slot
        gen := u.keyGen d.slot
        derive := some {
          slot := d.outSlot
          erase := false
          key := if d.outKtype = 0 then BitVec.ofNat 256 (key.toNat % 340282366920938463463374607431768211456) else key
          ktype := d.outKtype
          pnw := d.outPnw
          use := d.outUse
          pn := 0 } }) ∧
  (∀ (d : SealDesc) (s u : State) (label aad plain nonce : List Byte), sealTakes s u .sealCreate d → sealPasses u d →
    label = (u.dmaBytes d.src d.srcLen).take 16 →
    aad = slice (u.dmaBytes d.src d.srcLen) 16 16 ++ List.replicate 48 0 → plain = (u.dmaBytes d.src d.srcLen).drop 80 →
    nonce = (u.randomBytes 12).1 →
    ∃ t, exec .sealCreate s = .next t ∧ (u.sealingKey label = none → sealEnds u t d 0x04) ∧
      (∀ key ct, u.sealingKey label = some key → ct = (List.range d.len).map (Config.cipher 2 key nonce aad plain) →
        t.keys.drawn = u.keys.drawn + 1 ∧ sealRuns u t { d.ends 0 with
          dstLen := d.dstLen
          out := label ++ nonce ++ [0, 0, 0, 0] ++ ct ++ (List.range 16).map (Config.tag 2 key nonce aad ct) })) ∧
  (∀ (d : SealDesc) (s u : State), sealTakes s u .attest d → sealPasses u d →
    ∃ t, exec .attest s = .next t ∧ t.keys = u.keys ∧
      ((u.keys.idLoaded = false ∨ u.fuses.identity = none) → sealEnds u t d 0x04) ∧
      (∀ seed, u.keys.idLoaded = true → u.fuses.identity = some seed → sealRuns u t { d.ends 0 with
        dstLen := 3584
        out := u.attestReport seed ((u.dmaBytes d.src 80).take 32) ((u.dmaBytes d.src 80).drop 32) })) ∧
  (∀ (d : SealDesc) (s u : State), sealTakes s u .random d → sealPasses u d →
    ∃ t, exec .random s = .next t ∧ (d.len = 0 → sealEnds u t d 0) ∧
      (d.len ≠ 0 → t.keys.drawn = u.keys.drawn + d.len / 32 + 1 ∧ sealRuns u t { d.ends 0 with
        dstLen := d.len
        out := ((List.range (d.len / 32 + 1)).flatMap (fun i =>
          leBytes 32 (Config.random (u.keys.drawn + i)).toNat)).take d.len })) ∧
  (∀ s : State, (s.sealer.cur = none ∨ s.sealCqRoom = false ∨ s.takesWork 0x07 = false) → exec .sealCompletion s = .next s) ∧
  (∀ (s : State) (o : SealOp) (cq : Nat), s.takesWork 0x07 = true → s.sealer.cur = some o → s.sealCqRoom = true →
    cq = s.rd64 A.SEAL_CQ_BASE_LO A.SEAL_CQ_BASE_HI + 32 * (s.fld F.SEAL_CQ_IDX_CQ_PI % s.fld F.SEAL_FW_CFG_SIZE) →
    ∃ t, exec .sealCompletion s = .next t ∧
      (o.derive.isSome = true → s.flag F.KEYS_STATUS_BUSY = true → t = s) ∧
      ((o.derive = none ∨ s.flag F.KEYS_STATUS_BUSY = false) → t.sealer = { cur := none, stalled := false } ∧
        (o.dstLen = 0 → t.mem = (s.dmaWrite cq o.completion).mem) ∧
        (o.dstLen ≠ 0 → t.mem = ((s.dmaWrite o.dst o.out).dmaWrite cq o.completion).mem) ∧
        t.fld F.SEAL_FW_IDX_CI = (s.fld F.SEAL_FW_IDX_CI + 1) % 65536 ∧
        t.fld F.SEAL_CQ_IDX_CQ_PI = (s.fld F.SEAL_CQ_IDX_CQ_PI + 1) % 65536 ∧
        counted s t C.SEAL_FW_OPS 1 ∧ counted s t C.SEAL_TAG_FAIL (if o.status = 1 then 1 else 0) ∧
        (∀ n, o.slot = some n → (t.keySlot n).inflight = (s.keySlot n).inflight - 1) ∧
        (∀ c, o.derive = some c → t.keys.change = some c ∧ (t.keySlot c.slot).state = 2 ∧
          t.flag F.KEYS_STATUS_BUSY = true)))

/-- LC_STATUS shows a result, and nothing else happens. -/
def lcOnly (s t : State) (r : Nat) : Prop :=
  t.fld F.KEYS_LC_STATUS_RESULT = r ∧ t.flag F.KEYS_LC_STATUS_BUSY = true ∧
    onlyFields s t [F.KEYS_LC_STATUS_RESULT, F.KEYS_LC_STATUS_BUSY] ∧ t = { s with regs := t.regs }

/-- A failed SUBMIT (R597). -/
def submitFails (s t : State) (r : Nat) : Prop :=
  t.fld F.DBG_STATUS_RESULT = r ∧ t.fld F.DBG_STATUS_FAILS = min 255 (s.keys.fails + 1) ∧
    t.flag F.DBG_STATUS_BUSY = true ∧
    t.keys = { s.keys with chalTime := none, fails := min 255 (s.keys.fails + 1) } ∧
    onlyFields s t [F.DBG_STATUS_RESULT, F.DBG_STATUS_FAILS, F.DBG_STATUS_BUSY] ∧ t = { s with regs := t.regs, keys := t.keys }

/-- Life cycle and debug (R588, R594 to R599, R606, R608). -/
def Obligations.LifeCycleAndDebug : Prop :=
  (∀ (vpp : Bool) (cut : Option Bool) (s u : State) (f1 f2 : Fuses), keysOpen s u A.KEYS_LC_CMD →
    f1 = { u.fuses with idSeed := some (Config.random u.keys.drawn) } →
    f2 = { f1 with ownerHash := u.stagedHash, hashBlown := true } →
    ∃ t, exec (.provision vpp cut) s = .next t ∧
      (u.fuses.lcBits ≠ 0 → lcOnly u t 2) ∧
      (u.fuses.lcBits = 0 → vpp = false → lcOnly u t 3) ∧
      (u.fuses.lcBits = 0 → vpp = true → u.flag F.KEYS_ENTROPY_HEALTH_OK = false → lcOnly u t 5) ∧
      (u.fuses.lcBits = 0 → vpp = true → u.flag F.KEYS_ENTROPY_HEALTH_OK = true →
        (u.fuses.idSeed ≠ none ∨ u.fuses.hashBlown = true) → lcOnly u t 4) ∧
      (u.fuses.lcBits = 0 → vpp = true → u.flag F.KEYS_ENTROPY_HEALTH_OK = true → u.fuses.idSeed = none →
        u.fuses.hashBlown = false →
        (cut = none → t.fuses = { f2 with lcBits := 1 } ∧ t.fld F.KEYS_LC_STATUS_RESULT = 1 ∧
          getBits (t.rd A.KEYS_LC) 0 3 = 1 ∧ t.mem = u.mem) ∧
        (cut = some false → t.fuses = f1 ∧ t.power.mode = .off) ∧
        (cut = some true → t.fuses = f2 ∧ t.power.mode = .off))) ∧
  (∀ (vpp : Bool) (s u : State), keysOpen s u A.KEYS_LC_CMD →
    ∃ t, exec (.deploy vpp) s = .next t ∧
      (u.fuses.lcBits ≠ 1 → lcOnly u t 2) ∧ (u.fuses.lcBits = 1 → vpp = false → lcOnly u t 3) ∧
      (u.fuses.lcBits = 1 → vpp = true → t.fuses = { u.fuses with lcBits := 2 } ∧
        t.fld F.KEYS_LC_STATUS_RESULT = 1 ∧ getBits (t.rd A.KEYS_LC) 0 3 = 2 ∧ t.keys = u.keys ∧ t.mem = u.mem)) ∧
  (∀ s : State, s.takesWork 0x06 = true → ∃ t, exec .newChal s = .next t ∧
    (s.flag F.KEYS_ENTROPY_HEALTH_OK = false → t.fld F.DBG_STATUS_RESULT = 8 ∧ onlyFields s t [F.DBG_STATUS_RESULT] ∧
      t = { s with regs := t.regs }) ∧
    (s.flag F.KEYS_ENTROPY_HEALTH_OK = true → t.fld F.DBG_STATUS_RESULT = 1 ∧
      (∀ n < 8, t.rd (A.DBG_CHAL n) = wordOf (Config.random s.keys.drawn).toNat n) ∧
      t.keys = { s.keys with drawn := s.keys.drawn + 1, chalTime := some s.time.tick } ∧
      t = { s with regs := t.regs, keys := t.keys })) ∧
  (∀ (s : State) (msg : List Byte), msg = leBytes 48 (Config.sha384 (s.mail 0 88)).toNat →
    (s.submitFault = none ↔ (∃ t0, s.keys.chalTime = some t0 ∧ s.now ≤ t0.toNat + 30000000000) ∧
      s.mail 8 32 = s.challenge ∧ s.keyHash = some (Config.sha384 (s.mail 88 1984)) ∧ s.mail 40 48 = s.deviceIdBytes ∧
      Config.ed25519Verify (s.mail 88 32) msg (s.mail 2072 64) = true ∧
      Config.mldsaVerify (s.mail 120 1952) msg (s.mail 2136 3309) = true ∧
      actionAllowed s.fuses.lcBits (leNat (s.mail 0 1)) = true) ∧
    ((∀ t0, s.keys.chalTime = some t0 → t0.toNat + 30000000000 < s.now) ∨ s.mail 8 32 ≠ s.challenge →
      s.submitFault = some 2)) ∧
  (∀ (vpp : Bool) (cut : Option (BitVec 3)) (s : State), s.dark = false → s.flag F.DBG_STATUS_BUSY = true →
    ∃ t, exec (.submit vpp cut) s = .next t ∧ refusedOnly s t A.DBG_CMD 2) ∧
  (∀ (vpp : Bool) (cut : Option (BitVec 3)) (s : State), s.dark = false → s.flag F.DBG_STATUS_BUSY = false →
    ∃ t, exec (.submit vpp cut) s = .next t ∧
      (cut = none ∨ vpp = false → t.keys.chalTime = none ∧ t.flag F.DBG_STATUS_BUSY = true) ∧
      (8 ≤ s.keys.fails → submitFails s t 6) ∧
      (s.keys.fails < 8 → ∀ r, s.submitFault = some r → submitFails s t r) ∧
      (s.keys.fails < 8 → s.submitFault = none →
        ((leNat (s.mail 0 1) = 8 ∨ leNat (s.mail 0 1) = 9) → vpp = false → t.fld F.DBG_STATUS_RESULT = 7 ∧
          t.fuses = s.fuses) ∧
        ((leNat (s.mail 0 1) = 8 ∨ leNat (s.mail 0 1) = 9) → vpp = true → cut = none → t.fld F.DBG_STATUS_RESULT = 1 ∧
          t.fuses = { s.fuses with idKilled := true, lcBits := if leNat (s.mail 0 1) = 8 then 3 else 4 } ∧
          t.keys.zeroised = true ∧ t.keys.idLoaded = false ∧ counted s t C.KEYS_CHANGES_LANDED 1 ∧
          t.rd (A.KEYS_DEVICE_ID 0) = 0) ∧
        (∀ n, (leNat (s.mail 0 1) = 8 ∨ leNat (s.mail 0 1) = 9) → vpp = true → cut = some n → t.power.mode = .off ∧
          t.fuses = { s.fuses with idKilled := true, lcBits := min (if leNat (s.mail 0 1) = 8 then 3 else 4) (s.fuses.lcBits + n.toNat) }) ∧
        (leNat (s.mail 0 1) = 3 → t.fld F.DBG_STATUS_RESULT = 1 ∧ t.keys.d3Waits = true ∧ t.keys.zeroise = true ∧
          t.fld F.DBG_STATUS_LEVEL = s.fld F.DBG_STATUS_LEVEL ∧ t.flag F.KEYS_STATUS_BUSY = true) ∧
        ((leNat (s.mail 0 1) = 1 ∨ leNat (s.mail 0 1) = 2) → t.fld F.DBG_STATUS_RESULT = 1 ∧
          t.fld F.DBG_STATUS_LEVEL = leNat (s.mail 0 1) ∧ t.keys.dbgSeen = max s.keys.dbgSeen (leNat (s.mail 0 1)) ∧
          noted s t 0x3C (leNat (s.mail 0 1)) false))) ∧
  (∀ s : State, s.dark = false → ∃ t, exec .drop s = .next t ∧ t.fld F.DBG_STATUS_LEVEL = 0 ∧ onlyFields s t [F.DBG_STATUS_LEVEL] ∧
    t = { s with regs := t.regs })

/-- Thread k is on core c of a device that runs. -/
def onCore (s : State) (c : Fin 9) (k : Nat) : Prop := s.dark = false ∧ (s.core c.val).cur = some k

/-- The operation of core c's thread has ended with a result, and nothing else has happened. -/
def opEnds (s t : State) (k r : Nat) : Prop :=
  t.thx k = { s.thx k with result := r } ∧ (∀ j, j ≠ k → t.thx j = s.thx j) ∧
    t = { s with disp := { s.disp with threads := t.disp.threads } }

/-- Thread k has blocked on core c in a wait of a kind; it wakes at w, if ever. A MIGRATING thread keeps that state (log 130). -/
def blocks (s t : State) (c : Fin 9) (k kind q : Nat) (w : Option Nat) : Prop :=
  t.thState k = (if s.thState k = 5 then 5 else 3) ∧ t.fld (F.DISPATCH_TH_WAIT_WAIT_KIND k) = kind ∧
    t.fld (F.DISPATCH_TH_WAIT_WAIT_QUEUE k) = q ∧ (t.core c.val).notified = true ∧ (t.core c.val).cur = some k ∧
    (w = none → t.disp.delay = s.disp.delay.filter (fun j => decide (j ≠ k))) ∧
    (∀ n, w = some n → t.disp.delay = s.disp.delay.filter (fun j => decide (j ≠ k)) ++ [k] ∧
      (n < 18446744073709551616 → t.rd64 (A.DISPATCH_TH_WAKE_LO k) (A.DISPATCH_TH_WAKE_HI k) = n)) ∧ t.mem = s.mem

/-- A SUSPENDED thread that is still on its core does not wait; its core is notified (log 130). -/
def staysOff (s t : State) (c : Fin 9) (k : Nat) : Prop :=
  t.thState k = 4 ∧ (t.core c.val).notified = true ∧ (t.core c.val).cur = some k ∧ t.disp.delay = s.disp.delay ∧
    t.disp.waiters = s.disp.waiters ∧ t.mem = s.mem

/-- Thread k has been made READY with a result: off the delay list, at the tail of the ready list, its wait over. -/
def woken (s t : State) (k r : Nat) : Prop :=
  t.thState k = 1 ∧ (t.thx k).result = r ∧ t.disp.ready = s.disp.ready.filter (fun j => decide (j ≠ k)) ++ [k] ∧
    k ∉ t.disp.delay ∧ (∀ w ∈ t.disp.waiters, w.2 ≠ k) ∧ t.rd (A.DISPATCH_TH_WAIT k) = 0 ∧ t.rd (A.DISPATCH_TH_MASK k) = 0

/-- The operations of R621 (R615, R621, R623 to R627, R637, R640). -/
def Obligations.ThreadOperations : Prop :=
  (∀ (c : Fin 9) (s : State), (s.core c.val).cur = none →
    exec (.yieldOp c) s = .next s ∧ exec (.exitOp c) s = .next s ∧ exec (.waitEv c) s = .next s ∧
      exec (.sleepUntil c) s = .next s ∧ exec (.recv c) s = .next s ∧ exec (.takeCompl c) s = .next s) ∧
  (∀ (c : Fin 9) (s : State) (k : Nat), onCore s c k →
    ∃ t, exec (.yieldOp c) s = .next t ∧ (t.thx k).result = 1 ∧
      (s.thState k ≠ 1 → s.thState k ≠ 2 → opEnds s t k 1) ∧
      ∀ v, v = { s with disp := { s.disp with ready := s.disp.ready.filter (fun j => decide (j ≠ k)) } } →
      (v.pickReady c.val = none → opEnds s t k 1) ∧
      (∀ b, v.pickReady c.val = some b → s.prio b < s.prio k → opEnds s t k 1) ∧
      (∀ b, v.pickReady c.val = some b → s.prio k ≤ s.prio b → (s.thState k = 1 ∨ s.thState k = 2) → t.thState k = 1 ∧
        t.disp.ready = v.disp.ready ++ [k] ∧ (t.core c.val).notified = true ∧ (t.core c.val).cur = some k ∧
        t.mem = s.mem)) ∧
  (∀ (c : Fin 9) (s : State) (k : Nat), onCore s c k →
    ∃ t, exec (.exitOp c) s = .next t ∧ ((s.thState k = 4 ∨ s.thState k = 0) → t = s) ∧
      (s.thState k ≠ 4 → s.thState k ≠ 0 → t.thx k = { s.thx k with exiting := true } ∧ (t.core c.val).notified = true ∧
        (t.core c.val).cur = some k ∧ t.disp.ready = s.disp.ready ∧ t.mem = s.mem)) ∧
  (∀ (c : Fin 9) (s : State) (k : Nat) (m us hit : Word) (all cons : Bool), onCore s c k → m = (s.core c.val).arg0 →
    us = (s.core c.val).arg1 → all = (s.thx k).item.getLsbD 0 → cons = (s.thx k).item.getLsbD 1 →
    hit = s.rd (A.DISPATCH_TH_EVENTS k) &&& m →
    ∃ t, exec (.waitEv c) s = .next t ∧
      (m = 0 → opEnds s t k 6) ∧
      (m ≠ 0 → (if all then hit = m else hit ≠ 0) → (t.thx k).result = 1 ∧
        (t.thx k).item.setWidth 32 = hit ∧ t.thState k = s.thState k ∧
        (cons = false → t.rd (A.DISPATCH_TH_EVENTS k) = s.rd (A.DISPATCH_TH_EVENTS k)) ∧
        (cons = true → t.rd (A.DISPATCH_TH_EVENTS k) = (s.rd (A.DISPATCH_TH_EVENTS k) &&& ~~~m) ||| s.heldFlags k)) ∧
      (m ≠ 0 → ¬ (if all then hit = m else hit ≠ 0) → us = 0 → opEnds s t k 2) ∧
      (m ≠ 0 → ¬ (if all then hit = m else hit ≠ 0) → us ≠ 0 →
        t.thx k = { s.thx k with waitAll := all, consume := cons } ∧ (s.thState k = 4 → staysOff s t c k) ∧
        (s.thState k ≠ 4 → blocks s t c k 1 0 (if us = 0xFFFFFFFF then none else some (s.now + us.toNat * 500)) ∧
          t.rd (A.DISPATCH_TH_MASK k) = m))) ∧
  (∀ (c : Fin 9) (s : State) (k : Nat), onCore s c k →
    ∃ t, exec (.sleepUntil c) s = .next t ∧ ((s.thx k).item.toNat ≤ s.now → opEnds s t k 1) ∧
      (s.now < (s.thx k).item.toNat → (s.thState k = 4 → staysOff s t c k) ∧
        (s.thState k ≠ 4 → blocks s t c k 3 0 (some (s.thx k).item.toNat)))) ∧
  (∀ (c : Fin 9) (s : State) (k j : Nat) (m : Word), onCore s c k → j = (s.core c.val).arg0.toNat →
    m = (s.core c.val).arg1 →
    ∃ t u, exec (.setEv c) s = .next t ∧ exec (.clrEv c) s = .next u ∧
      (1023 < j → opEnds s t k 5 ∧ opEnds s u k 5) ∧ (j ≤ 1023 → m = 0 → opEnds s t k 6 ∧ opEnds s u k 6) ∧
      (j ≤ 1023 → m ≠ 0 → (t.thx k).result = 1 ∧ (u.thx k).result = 1 ∧
        u.rd (A.DISPATCH_TH_EVENTS j) = (s.rd (A.DISPATCH_TH_EVENTS j) &&& ~~~m) ||| s.heldFlags j ∧
        onlyFields s u [whole (A.DISPATCH_TH_EVENTS j)] ∧
        ((s.thState j ≠ 3 ∨ s.fld (F.DISPATCH_TH_WAIT_WAIT_KIND j) ≠ 1) →
          t.rd (A.DISPATCH_TH_EVENTS j) = s.rd (A.DISPATCH_TH_EVENTS j) ||| m ∧
          onlyFields s t [whole (A.DISPATCH_TH_EVENTS j)] ∧ t.disp.ready = s.disp.ready) ∧
        (s.thState j = 3 → s.fld (F.DISPATCH_TH_WAIT_WAIT_KIND j) = 1 →
          (if (s.thx j).waitAll then (s.rd (A.DISPATCH_TH_EVENTS j) ||| m) &&& s.rd (A.DISPATCH_TH_MASK j) =
            s.rd (A.DISPATCH_TH_MASK j) else (s.rd (A.DISPATCH_TH_EVENTS j) ||| m) &&& s.rd (A.DISPATCH_TH_MASK j) ≠ 0) →
          woken s t j 1))) ∧
  (∀ (c : Fin 9) (s : State) (k q : Nat), onCore s c k → q = (s.core c.val).arg0.toNat →
    ∃ t, exec (.post c) s = .next t ∧
      ((255 < q ∨ s.flag (F.DISPATCH_MQ_W0_EN q) = false) → opEnds s t k 5) ∧
      (q ≤ 255 → s.flag (F.DISPATCH_MQ_W0_EN q) = true → s.bestWaiter q = none →
        ((s.mqEntries q).length < s.fld (F.DISPATCH_MQ_W0_DEPTH q) → (t.thx k).result = 1 ∧
          t.mqEntries q = s.mqEntries q ++ [(s.thx k).item] ∧ (∀ p, p ≠ q → t.mqEntries p = s.mqEntries p) ∧
          t.fld (F.DISPATCH_MQ_W1_COUNT q) = ((s.mqEntries q).length + 1) % 2048 ∧
          onlyFields s t [F.DISPATCH_MQ_W1_COUNT q, F.DISPATCH_POOL_MQ_FREE] ∧ t.ctrs = s.ctrs) ∧
        (s.fld (F.DISPATCH_MQ_W0_DEPTH q) ≤ (s.mqEntries q).length → (t.thx k).result = 3 ∧
          counted s t (C.DISPATCH_MQ_REFUSED q) 1 ∧ t.mqEntries q = s.mqEntries q ∧ t.regs = s.regs)) ∧
      (∀ w, q ≤ 255 → s.flag (F.DISPATCH_MQ_W0_EN q) = true → s.bestWaiter q = some w → w ≠ k →
        (t.thx w).item = (s.thx k).item ∧ (t.thx w).result = 1 ∧ (t.thx k).result = 1 ∧ t.mqEntries q = s.mqEntries q ∧
        (s.thState w ≠ 5 → woken s t w 1) ∧ (s.thState w = 5 → t.thState w = 5 ∧ ∀ y ∈ t.disp.waiters, y.2 ≠ w))) ∧
  (∀ (c : Fin 9) (s : State) (k q : Nat) (us : Word), onCore s c k → q = (s.core c.val).arg0.toNat →
    us = (s.core c.val).arg1 →
    ∃ t, exec (.recv c) s = .next t ∧
      ((255 < q ∨ s.flag (F.DISPATCH_MQ_W0_EN q) = false) → opEnds s t k 5) ∧
      (q ≤ 255 → s.flag (F.DISPATCH_MQ_W0_EN q) = true →
        (∀ e rest, s.mqEntries q = e :: rest → (t.thx k).result = 1 ∧ (t.thx k).item = e ∧ t.mqEntries q = rest ∧
          onlyFields s t [F.DISPATCH_MQ_W1_COUNT q, F.DISPATCH_POOL_MQ_FREE]) ∧
        (s.mqEntries q = [] → us = 0 → opEnds s t k 4) ∧
        (s.mqEntries q = [] → us ≠ 0 → (s.thState k = 4 → staysOff s t c k) ∧
          (s.thState k ≠ 4 → t.disp.waiters = s.disp.waiters.filter (fun y => decide (y.2 ≠ k)) ++ [(q, k)] ∧
            blocks s t c k 2 q (if us = 0xFFFFFFFF then none else some (s.now + us.toNat * 500)))))) ∧
  (∀ (c : Fin 9) (s : State) (k : Nat), onCore s c k →
    ∃ t, exec (.takeCompl c) s = .next t ∧ ((s.thx k).compl = [] → opEnds s t k 4) ∧
      (∀ e rest, (s.thx k).compl = e :: rest → t.thx k = { s.thx k with result := 1, item := e, compl := rest } ∧
        t.fld (F.DISPATCH_TH_W7_COMPL k) = rest.length % 2048 ∧
        onlyFields s t [F.DISPATCH_TH_W7_COMPL k, F.DISPATCH_POOL_COMPL_FREE]))

/-- Operations whose target is a thread in ARG0. -/
def targets (s : State) (c : Fin 9) (k j : Nat) : Prop := onCore s c k ∧ j = (s.core c.val).arg0.toNat

/-- Thread i's wake time has come, and no earlier one of the delay list has (R624). -/
def wakeComes (s : State) (i : Nat) : Prop :=
  i ∈ s.disp.delay ∧ (s.fld (F.DISPATCH_TH_WAIT_WAIT_KIND i) = 3 → s.wakeAt i ≤ s.now) ∧
    (s.fld (F.DISPATCH_TH_WAIT_WAIT_KIND i) ≠ 3 → s.wakeAt i < s.now)

/-- Thread states (R615 to R618, R620, R624, R628, R640, R643, R645). -/
def Obligations.ThreadScheduling : Prop :=
  (∀ (c : Fin 9) (s : State) (k j : Nat), targets s c k j → 1023 < j →
    ∃ t u v, exec (.start c) s = .next t ∧ exec (.suspend c) s = .next u ∧ exec (.delete c) s = .next v ∧
      opEnds s t k 5 ∧ opEnds s u k 5 ∧ opEnds s v k 5) ∧
  (∀ (c : Fin 9) (s : State) (k j : Nat), targets s c k j → j ≤ 1023 →
    ∃ t u v, exec (.start c) s = .next t ∧ exec (.suspend c) s = .next u ∧ exec (.delete c) s = .next v ∧
      (s.thState j ≠ 0 → s.thState j ≠ 4 → opEnds s t k 7) ∧
      ((s.thState j = 0 ∨ s.thState j = 4) → t.thState j = 1 ∧ t.flag (F.DISPATCH_TH_W0_ABORTED j) = false ∧
        t.flag (F.DISPATCH_TH_W0_FAULTED j) = false ∧ (t.thx k).result = 1 ∧
        t.disp.ready = s.disp.ready.filter (fun i => decide (i ≠ j)) ++ [j] ∧
        ∀ cs last idle, cs = allCores.filter (fun i => s.allows j i && s.coreAble i) →
          last = s.fld (F.DISPATCH_TH_W0_LAST_CORE j) →
          idle = (fun i => decide ((s.core i).cur = none) && !(s.core i).notified) →
          (cs = [] → t.disp.cores = s.disp.cores) ∧
          (last ∈ cs → idle last = true → (t.core last).notified = true ∧ ∀ i, i ≠ last → t.core i = s.core i) ∧
          (¬ (last ∈ cs ∧ idle last = true) → ∀ i, cs.find? idle = some i →
            (t.core i).notified = true ∧ ∀ n, n ≠ i → t.core n = s.core n)) ∧
      (s.thState j = 0 → opEnds s u k 7) ∧
      (s.thState j ≠ 0 → u.thState j = 4 ∧ (u.thx k).result = 1 ∧ j ∉ u.disp.ready ∧ j ∉ u.disp.delay ∧
        (∀ w ∈ u.disp.waiters, w.2 ≠ j) ∧ (∀ n, s.coreOf j = some n → (u.core n).notified = true)) ∧
      (s.thState j ≠ 4 → opEnds s v k 7) ∧
      (s.thState j = 4 → v.thState j = 0 ∧ (v.thx j).compl = [] ∧ (v.thx k).result = 1)) ∧
  (∀ (c : Fin 9) (s : State), s.dark = false → (s.core c.val).cur = none → (s.coreAble c.val = false ∨ s.pickReady c.val = none) →
    ∃ t, exec (.nextRead c) s = .next t ∧ t.resp = { value := 2147483648, busError := false } ∧
      (t.core c.val).cur = none ∧ (t.core c.val).notified = false ∧ t.ctrs = s.ctrs ∧ t.disp.ready = s.disp.ready) ∧
  (∀ (c : Fin 9) (s : State) (n : Nat), s.dark = false → (s.core c.val).cur = none → s.coreAble c.val = true →
    s.pickReady c.val = some n → n < 18446744073709551616 →
    ∃ t, exec (.nextRead c) s = .next t ∧ t.resp = { value := BitVec.ofNat 64 n, busError := false } ∧
      (t.core c.val).cur = some n ∧ (t.core c.val).notified = false ∧ t.thState n = 2 ∧
      t.fld (F.DISPATCH_TH_W0_LAST_CORE n) = c.val ∧ n ∉ t.disp.ready ∧ counted s t (C.DISPATCH_SWITCHES c.val) 1) ∧
  (∀ (c : Fin 9) (s : State) (k : Nat), onCore s c k → s.thState k = 2 → (s.thx k).exiting = false →
    s.coreAble c.val = true → s.allows k c.val = true →
    ∃ t, exec (.nextRead c) s = .next t ∧ (t.core c.val).notified = false ∧
      ((∀ b, s.pickReady c.val = some b → s.prio b ≤ s.prio k) → t.resp = { value := BitVec.ofNat 64 k, busError := false } ∧
        (t.core c.val).cur = some k ∧ t.thState k = 2 ∧ t.ctrs = s.ctrs) ∧
      (∀ b, s.pickReady c.val = some b → b ≠ k → s.prio k < s.prio b →
        t.resp = { value := BitVec.ofNat 64 b, busError := false } ∧ (t.core c.val).cur = some b ∧ t.thState b = 2 ∧
        t.thState k = 1 ∧ counted s t (C.DISPATCH_PREEMPTS c.val) 1 ∧ counted s t (C.DISPATCH_SWITCHES c.val) 1 ∧
        counted s t (C.DISPATCH_BUSY_CYCLES c.val) (coreCycles s.power.coreMhz (s.now - (s.core c.val).busyFrom.toNat)))) ∧
  (∀ (c : Fin 9) (s : State) (k : Nat), onCore s c k → (s.thx k).exiting = true → s.disp.ready = [] →
    ∃ t, exec (.nextRead c) s = .next t ∧ t.thState k = 0 ∧ (t.thx k).compl = [] ∧ (t.core c.val).cur = none ∧
      t.resp = { value := 2147483648, busError := false }) ∧
  (∀ (c : Fin 9) (s : State) (k : Nat), onCore s c k → s.thState k = 5 → (s.thx k).exiting = false → s.disp.ready = [] →
    ∃ t, exec (.nextRead c) s = .next t ∧ (t.core c.val).cur = none ∧
      (s.fld (F.DISPATCH_TH_WAIT_WAIT_KIND k) = 0 → t.thState k = 1 ∧ t.disp.ready = [k]) ∧
      (s.fld (F.DISPATCH_TH_WAIT_WAIT_KIND k) ≠ 0 → s.fld (F.DISPATCH_TH_WAIT_WAIT_KIND k) ≠ 1 → t.thState k = 3 ∧
        t.disp.delay = s.disp.delay ∧ t.disp.waiters = s.disp.waiters)) ∧
  (∀ (i : Fin 1024) (s : State),
    (i.val ∉ s.disp.delay ∨ s.now < s.wakeAt i.val ∨
      (s.fld (F.DISPATCH_TH_WAIT_WAIT_KIND i.val) ≠ 3 ∧ s.now ≤ s.wakeAt i.val)) → exec (.wakeTime i) s = .next s) ∧
  (∀ (i : Fin 1024) (s : State) (r : Nat), s.dark = false → wakeComes s i.val →
    (∀ j, wakeComes s j → s.wakeAt i.val < s.wakeAt j ∨ (s.wakeAt i.val = s.wakeAt j ∧ i.val ≤ j)) →
    r = (if s.fld (F.DISPATCH_TH_WAIT_WAIT_KIND i.val) = 3 then 1 else 2) →
    ∃ t, exec (.wakeTime i) s = .next t ∧ (t.thx i.val).result = r ∧ i.val ∉ t.disp.delay ∧
      (s.thState i.val ≠ 5 → woken s t i.val r) ∧ (s.thState i.val = 5 → t.thState i.val = 5)) ∧
  (∀ (c : Fin 9) (s : State) (k : Nat), onCore s c k →
    (s.fld F.DISPATCH_CTRL_SLICE_US = 0 ∨ s.thState k ≠ 2 ∨
      s.now < (s.core c.val).since.toNat + s.fld F.DISPATCH_CTRL_SLICE_US * 500 ∨
      (∀ r ∈ s.disp.ready, s.allows r c.val = true → s.prio r ≠ s.prio k)) →
    exec (.sliceEnd c) s = .next s) ∧
  (∀ (c : Fin 9) (s : State) (k : Nat), onCore s c k → s.fld F.DISPATCH_CTRL_SLICE_US ≠ 0 → s.thState k = 2 →
    (s.core c.val).since.toNat + s.fld F.DISPATCH_CTRL_SLICE_US * 500 ≤ s.now →
    (∃ r ∈ s.disp.ready, s.allows r c.val = true ∧ s.prio r = s.prio k) →
    ∃ t, exec (.sliceEnd c) s = .next t ∧ t.thState k = 1 ∧
      t.disp.ready = s.disp.ready.filter (fun j => decide (j ≠ k)) ++ [k] ∧
      (t.core c.val).notified = true ∧ counted s t (C.DISPATCH_PREEMPTS c.val) 1) ∧
  (∀ (i : Fin 1024) (v : Word) (s : State), s.dark = false →
    ∃ t, exec (.affinityWrite i v) s = .next t ∧
      (getBits v 0 9 &&& s.fld F.DISPATCH_CORE_MAP_ACTIVE = 0 → refusedOnly s t (A.DISPATCH_TH_W0 i.val) 2) ∧
      (getBits v 0 9 &&& s.fld F.DISPATCH_CORE_MAP_ACTIVE ≠ 0 → t.prio i.val = getBits v 24 5 ∧
        t.fld (F.DISPATCH_TH_W0_AFFINITY i.val) = getBits v 0 9 ∧
        (s.thState i.val ≠ 1 → s.thState i.val ≠ 2 → onlyFields s t [F.DISPATCH_TH_W0_PRIO i.val,
          F.DISPATCH_TH_W0_AFFINITY i.val] ∧ t = { s with regs := t.regs }) ∧
        (∀ c, s.thState i.val = 2 → s.coreOf i.val = some c →
          ((getBits v 0 9).testBit c = true → t.thState i.val = 2 ∧ t.disp = s.disp) ∧
          ((getBits v 0 9).testBit c = false → t.thState i.val = 5 ∧ (t.core c).notified = true ∧
            counted s t (C.DISPATCH_MIGRATIONS_OUT c) 1))))

/-- Vectors and supervision (R625, R627 to R629, R661). -/
def Obligations.VectorsAndSupervision : Prop :=
  (∀ (v : Fin 512) (s : State), s.dark = false → s.fld (F.DISPATCH_VROUTE_MODE v.val) = 0 →
    ∃ t, exec (.vectorRaise v) s = .next t ∧
      (s.hostPresent = false → counted s t C.DISPATCH_VEC_DROPPED 1 ∧ onlyCtrs s t [C.DISPATCH_VEC_DROPPED] ∧
        t = { s with ctrs := t.ctrs }) ∧
      (s.hostPresent = true → s.flag (F.HOSTP_MSIX_CTRL_MASK v.val) = true →
        (t.rd (A.HOSTP_MSIX_PBA (v.val / 32))).getLsbD (v.val % 32) = true ∧ t = { s with regs := t.regs } ∧
        onlyFields s t [⟨A.HOSTP_MSIX_PBA (v.val / 32), v.val % 32, 1⟩]) ∧
      (s.hostPresent = true → s.flag (F.HOSTP_MSIX_CTRL_MASK v.val) = false →
        t = { s with hostp := { s.hostp with msiSent := s.hostp.msiSent ++ [v.val] } })) ∧
  (∀ (v : Fin 512) (s : State) (k : Nat), s.dark = false → s.fld (F.DISPATCH_VROUTE_MODE v.val) ≠ 0 →
    k = s.fld (F.DISPATCH_VROUTE_THREAD v.val) → s.thState k = 0 →
    ∃ t, exec (.vectorRaise v) s = .next t ∧ counted s t C.DISPATCH_VEC_DROPPED 1 ∧ t = { s with ctrs := t.ctrs } ∧
      onlyCtrs s t [C.DISPATCH_VEC_DROPPED]) ∧
  (∀ (v : Fin 512) (s : State) (k f : Nat), s.dark = false → s.fld (F.DISPATCH_VROUTE_MODE v.val) = 1 →
    k = s.fld (F.DISPATCH_VROUTE_THREAD v.val) → s.thState k ≠ 0 → s.thState k ≠ 3 →
    f = s.fld (F.DISPATCH_VROUTE_FLAG v.val) →
    ∃ t, exec (.vectorRaise v) s = .next t ∧ (t.rd (A.DISPATCH_TH_EVENTS k)).getLsbD f = true ∧
      (sget (fun _ => none) s.disp.latches v.val = none → s.complRoom k = true →
        (t.thx k).compl = (s.thx k).compl ++ [complItem v.val 1 (BitVec.ofNat 32 s.now)] ∧ t.ctrs = s.ctrs ∧
        t.disp.latches = s.disp.latches) ∧
      (sget (fun _ => none) s.disp.latches v.val = none → s.complRoom k = false →
        sget (fun _ => none) t.disp.latches v.val = some (1, BitVec.ofNat 32 s.now) ∧ (t.thx k).compl = (s.thx k).compl ∧
        t.ctrs = s.ctrs) ∧
      (∀ n at', sget (fun _ => none) s.disp.latches v.val = some (n, at') →
        sget (fun _ => none) t.disp.latches v.val = some (if n < 65535 then n + 1 else n, at') ∧
        counted s t C.DISPATCH_COMPL_MERGED 1 ∧ (t.thx k).compl = (s.thx k).compl)) ∧
  (∀ (v : Fin 512) (s : State) (k f : Nat), s.dark = false → s.fld (F.DISPATCH_VROUTE_MODE v.val) = 2 →
    k = s.fld (F.DISPATCH_VROUTE_THREAD v.val) → s.thState k ≠ 0 → s.thState k ≠ 3 →
    f = s.fld (F.DISPATCH_VROUTE_FLAG v.val) →
    ∃ t, exec (.vectorRaise v) s = .next t ∧ (t.rd (A.DISPATCH_TH_EVENTS k)).getLsbD f = true ∧
      onlyFields s t [⟨A.DISPATCH_TH_EVENTS k, f, 1⟩] ∧ t = { s with regs := t.regs }) ∧
  (∀ (v : Fin 512) (s : State) (k : Nat), k = s.fld (F.DISPATCH_VROUTE_THREAD v.val) →
    (sget (fun _ => none) s.disp.latches v.val = none ∨ s.complRoom k = false) →
    exec (.complLatchDrain v) s = .next s) ∧
  (∀ (v : Fin 512) (s : State) (k n : Nat) (at' : Word), s.dark = false → k = s.fld (F.DISPATCH_VROUTE_THREAD v.val) →
    sget (fun _ => none) s.disp.latches v.val = some (n, at') → s.complRoom k = true →
    ∃ t, exec (.complLatchDrain v) s = .next t ∧ sget (fun _ => none) t.disp.latches v.val = none ∧
      (t.thx k).compl = (s.thx k).compl ++ [complItem v.val n at'] ∧
      onlyFields s t [F.DISPATCH_TH_W7_COMPL k, F.DISPATCH_POOL_COMPL_FREE]) ∧
  (∀ (s : State) (q : Nat), q = s.fld F.DISPATCH_CTRL_SUP_QUEUE →
    (s.disp.sup = [] ∨ s.flag (F.DISPATCH_MQ_W0_EN q) = false ∨
      (s.bestWaiter q = none ∧ s.fld (F.DISPATCH_MQ_W0_DEPTH q) ≤ (s.mqEntries q).length)) →
    exec .supItemPost s = .next s) ∧
  (∀ (s : State) (q : Nat) (x : DWord) (rest : List DWord), s.dark = false → q = s.fld F.DISPATCH_CTRL_SUP_QUEUE →
    s.disp.sup = x :: rest → s.flag (F.DISPATCH_MQ_W0_EN q) = true →
    ∃ t, exec .supItemPost s = .next t ∧
      (s.bestWaiter q = none → (s.mqEntries q).length < s.fld (F.DISPATCH_MQ_W0_DEPTH q) → t.disp.sup = rest ∧
        t.mqEntries q = s.mqEntries q ++ [x]) ∧
      (∀ w, s.bestWaiter q = some w → t.disp.sup = rest ∧ (t.thx w).item = x ∧ (t.thx w).result = 1 ∧
        (s.thState w ≠ 5 → woken s t w 1))) ∧
  (∀ (high : Bool) (v : Word) (s u : State), s.takesWork 0x09 = true →
    u = s.touch (if high then A.DISPATCH_SW_ENTRY_HI else A.DISPATCH_SW_ENTRY_LO) →
    ∃ t, exec (.swEntryWrite high v) s = .next t ∧
      (u.locked = false → (high = false → t.rd A.DISPATCH_SW_ENTRY_LO = v) ∧
        (high = true → t.rd A.DISPATCH_SW_ENTRY_HI = v &&& 7)) ∧
      (u.flt.spareHeld = false → t.flt = u.flt) ∧
      (u.flt.spareHeld = true → t.swEntrySet = false → t.flt = u.flt) ∧
      (u.flt.spareHeld = true → t.swEntrySet = true → u.spareCore = true →
        t.flt.coreMove = some 8 ∧ t.flt.spareHeld = false ∧ t.flag F.FAULT_STATE_RETIRE_BUSY = true))

/-- FIFO n holds g, its bank and level brought up to date, and its registers show it. -/
def fifoShows (s t : State) (n : Nat) (g : PigFifo) : Prop :=
  t.fifo n = { g.settle (s.pigDepth n / 2) with level := s.levelHolds n (g.settle (s.pigDepth n / 2)) } ∧
    (∀ k, k ≠ n → t.fifo k = s.fifo k) ∧
    t.rd (A.PIGEON_HEAD n) = BitVec.ofNat 32 (match g.head with
      | some r => r.count * 65536 + r.index
      | none => 0) ∧
    getBits (t.rd (A.PIGEON_CONS_STATUS n)) 16 11 = g.unread % 2048 ∧
    (t.rd (A.PIGEON_CONS_STATUS n)).getLsbD 31 = (t.fifo n).level

/-- A COMMIT ends with a result, and nothing else happens. -/
def commitEnds (s t : State) (n r : Nat) : Prop :=
  t.fld (F.PIGEON_PROD_RESULT_RESULT n) = r ∧ onlyFields s t [F.PIGEON_PROD_RESULT_RESULT n] ∧ t = { s with regs := t.regs }

/-- A consumer operation ends `EMPTY`, and nothing else happens. -/
def consEmpty (s t : State) (n : Nat) : Prop :=
  t.fld (F.PIGEON_CONS_STATUS_RESULT n) = 2 ∧ onlyFields s t [F.PIGEON_CONS_STATUS_RESULT n] ∧ t = { s with regs := t.regs }

/-- FIFO f of s after a record of k items at its producer's position. -/
def appended (s : State) (f : PigFifo) (half k : Nat) : PigFifo :=
  { f with recs := f.recs ++ [{ index := f.wr, count := k, time := s.time.tick }], wr := f.wr + k,
           left := decide (f.wr + k = (f.bank + 1) * half) }

/-- `r` idle items of R632. -/
def idleItems (r : Nat) : List Byte := ofItems (List.replicate r 0x1D1E1D1E)

/-- PIGEON (R631 to R633, R635, R637, R638, R646). -/
def Obligations.PigeonFifos : Prop :=
  (∀ (n : Fin 32) (v : Word) (s : State) (half k : Nat), half = s.pigDepth n.val / 2 → k = getBits v 0 15 → s.dark = false →
    ∃ t, exec (.commit n v) s = .next t ∧
      ((s.flag (F.PIGEON_CFG_EN n.val) = false ∨ s.fld (F.PIGEON_CFG_PROD n.val) = 2 ∨ half < k) → commitEnds s t n.val 3) ∧
      (s.flag (F.PIGEON_CFG_EN n.val) = true → s.fld (F.PIGEON_CFG_PROD n.val) ≠ 2 → k = 0 → v.getLsbD 31 = false →
        commitEnds s t n.val 1)) ∧
  (∀ (n : Fin 32) (v : Word) (s : State) (half k : Nat) (f g : PigFifo), half = s.pigDepth n.val / 2 →
    k = getBits v 0 15 → f = (s.fifo n.val).settle half → s.flag (F.PIGEON_CFG_EN n.val) = true →
    s.fld (F.PIGEON_CFG_PROD n.val) ≠ 2 → k ≤ half → k ≠ 0 → g = appended s f half k → s.dark = false →
    ∃ t, exec (.commit n v) s = .next t ∧
      ((f.rest half < k ∨ 1024 ≤ f.recs.length) → commitEnds s t n.val 2) ∧
      (k ≤ f.rest half → f.recs.length < 1024 → counted s t (C.PIGEON_RECORDS n.val) 1 ∧
        ((v.getLsbD 31 = false ∨ g.left = true) → fifoShows s t n.val g ∧ t.mem = s.mem ∧
          t.fld (F.PIGEON_PROD_RESULT_RESULT n.val) = 1) ∧
        (v.getLsbD 31 = true → g.left = false → g.otherFree half = false → fifoShows s t n.val g ∧ t.mem = s.mem ∧
          t.fld (F.PIGEON_PROD_RESULT_RESULT n.val) = 2) ∧
        (v.getLsbD 31 = true → g.left = false → g.otherFree half = true →
          fifoShows s t n.val { g with left := true } ∧ t.fld (F.PIGEON_PROD_RESULT_RESULT n.val) = 1 ∧
          counted s t (C.PIGEON_IDLE_ITEMS n.val) (g.rest half) ∧
          t.mem = (s.dmaWrite (s.pigBase n.val + 4 * g.wr) (idleItems (g.rest half))).mem))) ∧
  (∀ (n : Fin 32) (v : Word) (s : State) (half : Nat) (f : PigFifo), half = s.pigDepth n.val / 2 →
    f = (s.fifo n.val).settle half → s.flag (F.PIGEON_CFG_EN n.val) = true → s.fld (F.PIGEON_CFG_PROD n.val) ≠ 2 →
    getBits v 0 15 = 0 → v.getLsbD 31 = true → s.dark = false →
    ∃ t, exec (.commit n v) s = .next t ∧
      ((f.left = true ∨ f.otherFree half = false) → fifoShows s t n.val f ∧ t.mem = s.mem ∧
        t.fld (F.PIGEON_PROD_RESULT_RESULT n.val) = 2) ∧
      (f.left = false → f.otherFree half = true → fifoShows s t n.val { f with left := true } ∧
        t.fld (F.PIGEON_PROD_RESULT_RESULT n.val) = 1 ∧ counted s t (C.PIGEON_IDLE_ITEMS n.val) (f.rest half) ∧
        t.mem = (s.dmaWrite (s.pigBase n.val + 4 * f.wr) (idleItems (f.rest half))).mem)) ∧
  (∀ (n : Fin 32) (ws : List Word) (s : State) (half : Nat) (f : PigFifo), half = s.pigDepth n.val / 2 →
    f = (s.fifo n.val).settle half → s.dark = false →
    ∃ t, exec (.hwRecord n ws) s = .next t ∧
      ((s.flag (F.PIGEON_CFG_EN n.val) = false ∨ s.fld (F.PIGEON_CFG_PROD n.val) ≠ 2 ∨ ws = [] ∨ half < ws.length ∨
        1024 ≤ f.recs.length ∨ (f.rest half < ws.length ∧ (f.left = true ∨ f.otherFree half = false))) →
        counted s t (C.PIGEON_REFUSED n.val) 1 ∧ onlyCtrs s t [C.PIGEON_REFUSED n.val] ∧ t = { s with ctrs := t.ctrs }) ∧
      (s.flag (F.PIGEON_CFG_EN n.val) = true → s.fld (F.PIGEON_CFG_PROD n.val) = 2 → ws ≠ [] → ws.length ≤ half →
        f.recs.length < 1024 →
        (ws.length ≤ f.rest half → fifoShows s t n.val (appended s f half ws.length) ∧
          counted s t (C.PIGEON_RECORDS n.val) 1 ∧
          t.mem = (s.dmaWrite (s.pigBase n.val + 4 * f.wr) (ofItems ws)).mem) ∧
        (f.rest half < ws.length → f.left = false → f.otherFree half = true →
          counted s t (C.PIGEON_RECORDS n.val) 1 ∧ counted s t (C.PIGEON_IDLE_ITEMS n.val) (f.rest half) ∧
          fifoShows s t n.val (appended s (PigFifo.settle { f with left := true } half) half ws.length) ∧
          t.mem = ((s.dmaWrite (s.pigBase n.val + 4 * f.wr) (idleItems (f.rest half))).dmaWrite
            (s.pigBase n.val + 4 * ((1 - f.bank) * half)) (ofItems ws)).mem))) ∧
  (∀ (n : Fin 32) (s : State), s.dark = false → ∃ t, exec (.pop n) s = .next t ∧
    ((s.fifo n.val).head = none → consEmpty s t n.val) ∧
    ((s.fifo n.val).head.isSome = true →
      fifoShows s t n.val { s.fifo n.val with read := (s.fifo n.val).read + 1 } ∧
      t.fld (F.PIGEON_CONS_STATUS_RESULT n.val) = 1 ∧ t.mem = s.mem)) ∧
  (∀ (n : Fin 32) (s : State) (v : Nat), s.dark = false → (s.fifo n.val).head.isSome = true → v = s.fld (F.PIGEON_IRQ_VECTOR n.val) →
    s.fld (F.DISPATCH_VROUTE_MODE v) = 0 → s.hostPresent = true → s.flag (F.HOSTP_MSIX_CTRL_MASK v) = false →
    ∃ t, exec (.pop n) s = .next t ∧ t.hostp.msiSent =
      (if (t.fifo n.val).level then s.hostp.msiSent ++ [v] else s.hostp.msiSent)) ∧
  (∀ (n : Fin 32) (s : State), s.dark = false → ∃ t, exec (.mark n) s = .next t ∧
    fifoShows s t n.val { s.fifo n.val with mark := some (s.fifo n.val).read } ∧
    t.fld (F.PIGEON_CONS_STATUS_RESULT n.val) = 1 ∧ (t.rd (A.PIGEON_CONS_STATUS n.val)).getLsbD 30 = true ∧ t.mem = s.mem) ∧
  (∀ (n : Fin 32) (s : State), s.dark = false → ∃ t, exec (.rewind n) s = .next t ∧
    ((s.fifo n.val).mark = none → consEmpty s t n.val) ∧
    (∀ m, (s.fifo n.val).mark = some m → fifoShows s t n.val { s.fifo n.val with read := m } ∧
      t.fld (F.PIGEON_CONS_STATUS_RESULT n.val) = 1 ∧ t.mem = s.mem)) ∧
  (∀ (n : Fin 32) (s : State) (f : PigFifo) (mk : Option Nat), s.dark = false → f = s.fifo n.val →
    mk = (f.mark.bind (fun m => if m < f.read then none else some (m - f.read))) →
    ∃ t, exec (.release n) s = .next (t.flushEnds s.tables.ends) ∧
      fifoShows s t n.val { f with recs := f.recs.drop f.read, read := 0, mark := mk } ∧
      t.fld (F.PIGEON_CONS_STATUS_RESULT n.val) = 1 ∧ t.mem = s.mem ∧ t.tables = s.tables ∧
      (s.tables.ends = [] → exec (.release n) s = .next t)) ∧
  (∀ (n : Fin 32) (s : State), s.dark = false → ∃ t, exec (.levelAge n) s = .next t ∧ fifoShows s t n.val (s.fifo n.val) ∧ t.mem = s.mem) ∧
  (∀ (n : Fin 32) (s : State), s.flag (F.PIGEON_CFG_EN n.val) = false → exec (.fifoDisable n) s = .next s) ∧
  (∀ (n : Fin 32) (s : State), s.dark = false → s.flag (F.PIGEON_CFG_EN n.val) = true →
    ∃ t, exec (.fifoDisable n) s = .next t ∧ t.fifo n.val = {} ∧ (∀ k, k ≠ n.val → t.fifo k = s.fifo k) ∧
      t.flag (F.PIGEON_CFG_EN n.val) = false ∧ t.rd (A.PIGEON_HEAD n.val) = 0 ∧
      t = { s with regs := t.regs, pig := t.pig })

/-- The record of an event (R650). -/
def faultRecord (s : State) (e : FaultEv) (perm : Bool) (action : Nat) : List Word :=
  [BitVec.ofNat 32 (bit e.inj * 2147483648 + bit perm * 1073741824 + action * 134217728 + e.src), BitVec.ofNat 32 e.unit,
   BitVec.ofNat 32 s.now, BitVec.ofNat 32 (s.now / 4294967296)]

/-- From s to t the event e has been accepted and recorded with an action (R651 to R654). -/
def recorded (s t : State) (e : FaultEv) (perm : Bool) (action : Nat) : Prop :=
  t.flt.queue = s.flt.queue.erase e ∧ counted s t (C.FAULT_COUNT e.src) 1 ∧
    (t.rd (A.FAULT_PENDING (e.src / 32))).getLsbD (e.src % 32) = true ∧
    (∀ k < 4, t.rd (A.FAULT_LOG (s.fld F.FAULT_LOG_IDX_WR % 64) k) = (faultRecord s e perm action).getD k 0) ∧
    t.fld F.FAULT_LOG_IDX_WR = (s.fld F.FAULT_LOG_IDX_WR + 1) % 65536 ∧ t.flag F.FAULT_STATE_FIRST_VALID = true ∧
    (s.flag F.FAULT_STATE_FIRST_VALID = true → t.flag F.FAULT_STATE_OVERFLOW = true ∧
      ∀ k < 4, t.rd (A.FAULT_FIRST k) = s.rd (A.FAULT_FIRST k)) ∧
    (s.flag F.FAULT_STATE_FIRST_VALID = false →
      ∀ k < 4, t.rd (A.FAULT_FIRST k) = (faultRecord s e perm action).getD k 0) ∧
    ((s.fld F.FAULT_LOG_IDX_WR + 65536 - s.fld F.FAULT_LOG_IDX_RD) % 65536 < 64 →
      t.fld F.FAULT_LOG_IDX_RD = s.fld F.FAULT_LOG_IDX_RD ∧ t.ctr C.FAULT_LOG_LOST = s.ctr C.FAULT_LOG_LOST) ∧
    (64 ≤ (s.fld F.FAULT_LOG_IDX_WR + 65536 - s.fld F.FAULT_LOG_IDX_RD) % 65536 →
      t.fld F.FAULT_LOG_IDX_RD = (s.fld F.FAULT_LOG_IDX_RD + 1) % 65536 ∧ counted s t C.FAULT_LOG_LOST 1)

/-- The reaction that the map gives an event (R655, R657). -/
def mapped (s : State) (e : FaultEv) : Nat :=
  if sourceUnit e.src ∧ s.judge e then s.fld (F.FAULT_MAP_REACT_P e.src) else s.fld (F.FAULT_MAP_REACT_T e.src)

/-- FAULT (R651 to R655, R657, R658, R663 to R666). -/
def Obligations.FaultEvents : Prop :=
  (∀ s : State, s.flt.queue = [] → exec (.faultEvent none) s = .next s) ∧
  (∀ (q : List FaultEv) (e : FaultEv), nextEvent q = some e → e ∈ q ∧
    (e.inj = true → ∀ x ∈ q, x.inj = true) ∧
    (e.inj = false → ∀ x ∈ q, x.inj = false → e.src < x.src ∨ (e.src = x.src ∧ e.unit ≤ x.unit))) ∧
  (∀ (s : State) (e : FaultEv), s.dark = false → nextEvent s.flt.queue = some e → e.src < 256 → e.inj = false → mapped s e = 0 →
    ∃ t, exec (.faultEvent none) s = .next t ∧ recorded s t e (sourceUnit e.src && s.judge e) 0 ∧ t.disp = s.disp ∧
      t.flt.resetSrc = s.flt.resetSrc ∧ t.mem = s.mem ∧
      (sourceUnit e.src = true → t.flt.history.head? = some (e.src, e.unit, s.time.tick)) ∧
      (sourceUnit e.src = false → t.flt.history = s.flt.history)) ∧
  (∀ (s : State) (e : FaultEv), s.dark = false → nextEvent s.flt.queue = some e → e.src < 256 → e.inj = true → e.full = false →
    ∃ t, exec (.faultEvent none) s = .next t ∧ recorded s t e false 0 ∧ counted s t C.FAULT_INJECTED 1 ∧
      t.flag F.FAULT_STATE_INJ_BUSY = false ∧ t.flt.history = s.flt.history ∧ t.disp = s.disp) ∧
  (∀ (s : State) (e : FaultEv), s.dark = false → nextEvent s.flt.queue = some e → e.src < 256 → e.inj = false → mapped s e = 1 →
    ∃ t, exec (.faultEvent none) s = .next t ∧ recorded s t e (sourceUnit e.src && s.judge e) 1 ∧ t.mem = s.mem ∧
      (s.fld (F.DISPATCH_VROUTE_MODE (s.fld F.FAULT_CTRL_VECTOR)) = 0 → s.hostPresent = true →
        s.flag (F.HOSTP_MSIX_CTRL_MASK (s.fld F.FAULT_CTRL_VECTOR)) = false →
        t.hostp.msiSent = s.hostp.msiSent ++ [s.fld F.FAULT_CTRL_VECTOR])) ∧
  (∀ (s : State) (e : FaultEv), s.dark = false → nextEvent s.flt.queue = some e → e.src < 256 → e.inj = false → mapped s e = 4 →
    s.reacting e.src e.unit = false →
    ∃ t, exec (.faultEvent none) s = .next t ∧ recorded s t e (sourceUnit e.src && s.judge e) 4 ∧
      t.flt.resetSrc = some (s.flt.resetSrc.getD e.src) ∧ t.flt.abortQ = [] ∧
      (s.flt.resetSrc = none → t.flt.resetAt = s.time.tick)) ∧
  (∀ (s : State) (e : FaultEv), s.dark = false → nextEvent s.flt.queue = some e → e.src < 256 → e.inj = false → 2 ≤ mapped s e →
    s.reacting e.src e.unit = true →
    ∃ t, exec (.faultEvent none) s = .next t ∧ recorded s t e (sourceUnit e.src && s.judge e) 1 ∧ t.mem = s.mem) ∧
  (∀ (s : State) (e : FaultEv), (e.perm = true → s.judge e = true) ∧
    (e.perm = false → s.threshOf e.src = 0 → s.judge e = false) ∧
    (e.perm = false → s.threshOf e.src ≠ 0 → (s.judge e = true ↔ s.threshOf e.src ≤ s.recentEvents e.src e.unit + 1))) ∧
  (∀ (c : Fin 9) (s : State), s.dark = false →
    (s.coreActive c.val = true →
      exec (.faultEvent (some (.core c))) s = exec (.faultEvent none) (s.present 0x08 c.val)) ∧
    (s.coreActive c.val = false → exec (.faultEvent (some (.core c))) s = exec (.faultEvent none) s)) ∧
  (∀ (n : BitVec 13) (s : State), s.dark = false →
    exec (.faultEvent (some (.keySlot n false))) s = exec (.faultEvent none) (s.count C.KEYS_ECC_CORRECTED) ∧
    ∃ u, exec (.faultEvent (some (.keySlot n true))) s = exec (.faultEvent none) u ∧
      (n.toNat < 8184 → u.keySlot n.toNat = { gen := (s.keySlot n.toNat).gen } ∧
        (∀ k, k ≠ n.toNat → s.sealer.cur = none → u.keySlot k = s.keySlot k)) ∧
      (8184 ≤ n.toNat → u.keys.idLoaded = false) ∧ (s.sealer.cur = none → noted s u 0x38 n.toNat false) ∧
      ∀ o, s.sealer.cur = some o → o.slot = some n.toNat → s.sealCqRoom = false →
        u.sealer.cur = some { o with status := 4, dstLen := 0, out := [], tag := [], derive := none }) ∧
  (∀ s : State, (s.flt.resetSrc = none ∨ s.now < s.flt.resetAt.toNat + 500) → exec .faultReset s = .next s) ∧
  (∀ (s : State) (src : Nat), s.dark = false → s.flt.resetSrc = some src → src < 256 →
    s.flt.resetAt.toNat + 500 ≤ s.now →
    ∃ t, exec .faultReset s = .next t ∧ t.fuses = s.fuses ∧ t.flt = {} ∧ t.hostMem = s.hostMem) ∧
  (∀ (bank : Fin 68) (w : BitVec 22) (u : SramUpset) (s : State), s.bankOf bank.val = none →
    exec (.sramScrub bank w u) s = .next s) ∧
  (∀ (bank : Fin 68) (w : BitVec 22) (s : State) (b : Nat), s.bankOf bank.val = some b →
    ∃ t u x, exec (.sramScrub bank w .single) s = .next t ∧ exec (.sramScrub bank w .stuck) s = .next u ∧
      exec (.sramScrub bank w .double) s = .next x ∧ noted s t 0x0A bank.val false ∧ noted s u 0x0A bank.val true ∧
      noted s x 0x0B bank.val false ∧ t.poison = s.poison ∧ u.poison = s.poison ∧ x.mem = s.mem ∧
      x.poisoned (16777216 + 8 * w.toNat) = true ∧
      ∀ a, s.poisoned a = true → x.poisoned a = true) ∧
  (∀ (v : Word) (s u : State) (src : Nat), s.takesWork 0x0A = true → u = s.touch A.FAULT_INJ → src = getBits v 0 8 →
    ∃ t, exec (.inj v) s = .next t ∧
      ((sourceUsed src = false ∨ u.flag F.FAULT_STATE_INJ_BUSY = true) → refusedOnly u t A.FAULT_INJ 2) ∧
      (sourceUsed src = true → u.flag F.FAULT_STATE_INJ_BUSY = false →
        (v.getLsbD 31 = false → t = u) ∧
        (v.getLsbD 31 = true → t.flag F.FAULT_STATE_INJ_BUSY = true ∧ onlyFields u t [F.FAULT_STATE_INJ_BUSY] ∧
          t.flt = { u.flt with queue := u.flt.queue ++ [{
            src := src
            unit := (u.rd A.FAULT_INJ_UNIT).toNat
            perm := false
            inj := true
            full := v.getLsbD 30 }] } ∧
          t = { u with regs := t.regs, flt := t.flt }))) ∧
  (∀ s u : State, s.takesWork 0x0A = true → u = s.touch A.FAULT_CLEAR →
    ∃ t, exec .clearFirst s = .next t ∧ t.flag F.FAULT_STATE_FIRST_VALID = false ∧ t.flag F.FAULT_STATE_OVERFLOW = false ∧
      onlyFields u t [F.FAULT_STATE_FIRST_VALID, F.FAULT_STATE_OVERFLOW] ∧ t = { u with regs := t.regs }) ∧
  (∀ (m : Master) (v : Word) (s : State), s.gated (windowOf A.FAULT_RETIRE) = false →
    s.granted m true A.FAULT_RETIRE = true →
    ((getBits v 28 4 ≠ 1 ∧ getBits v 28 4 ≠ 2) ∨ (getBits v 28 4 = 1 ∧ 8 < getBits v 0 8) ∨
      (getBits v 28 4 = 2 ∧ 63 < getBits v 0 8) ∨ s.flag F.FAULT_STATE_RETIRE_BUSY = true ∨
      (∃ c : Fin 9, m = .core c ∧ getBits v 28 4 = 1 ∧ getBits v 0 8 = c.val)) →
    ∃ t, exec (.faultRetire m v) s = .next t ∧ refusedOnly s t A.FAULT_RETIRE 2)

/-- A FAULT.RETIRE write that R664 accepts. -/
def retireTakes (s : State) (m : Master) (v : Word) (kind i : Nat) : Prop :=
  s.gated (windowOf A.FAULT_RETIRE) = false ∧ s.granted m true A.FAULT_RETIRE = true ∧
    s.flag F.FAULT_STATE_RETIRE_BUSY = false ∧ kind = getBits v 28 4 ∧
    i = getBits v 0 8 ∧ ((kind = 1 ∧ i ≤ 8 ∧ ∀ c : Fin 9, m = .core c → c.val ≠ i) ∨ (kind = 2 ∧ i < 64))

/-- The next abort runs or none is left (R670). -/
def nextAbort (s t : State) : Prop :=
  (s.flt.abortQ = [] → t.flt.abort = none ∧ t.flag F.SYSCTL_ABORT_STATUS_BUSY = false ∧
    t.fld F.SYSCTL_ABORT_STATUS_RESULT = 1) ∧
    (∀ x rest, s.flt.abortQ = x :: rest → t.flt.abort = some (x.1, x.2.1, x.2.2.1) ∧ t.flt.abortQ = rest ∧
      t.flag F.SYSCTL_ABORT_STATUS_BUSY = true)

/-- Retirements and aborts (R660 to R662, R664, R667 to R670, R679). -/
def Obligations.RetirementsAndAborts : Prop :=
  (∀ (m : Master) (v : Word) (s : State) (c : Nat), retireTakes s m v 1 c →
    ∃ t, exec (.faultRetire m v) s = .next t ∧
      (s.coreRetirable c = false → t.fld F.FAULT_STATE_RETIRE_RESULT = 2 ∧
        t.flag F.FAULT_STATE_RETIRE_BUSY = true ∧
        onlyFields s t [F.FAULT_STATE_RETIRE_RESULT, F.FAULT_STATE_RETIRE_BUSY] ∧
        t = { s with regs := t.regs }) ∧
      (s.coreRetirable c = true → counted s t C.FAULT_RETIREMENTS 1 ∧
        (s.fld F.DISPATCH_CORE_MAP_RETIRED ||| 2 ^ c) = t.fld F.DISPATCH_CORE_MAP_RETIRED ∧ t.coreActive c = false ∧
        (∀ k, k ≠ c → t.coreActive k = s.coreActive k) ∧
        (∀ n < 1024, t.allows n c = false ∧ ∀ k, k ≠ c → k ≠ 8 → t.allows n k = s.allows n k) ∧
        (∀ n < 1024, (s.core c).cur = some n → s.thState n ≠ 0 → t.thState n = 4 ∧ t.flag (F.DISPATCH_TH_W0_FAULTED n) = true) ∧
        (s.coreActive c = true → c ≠ 8 → s.spareCore = true → s.swEntrySet = true → t.flt.coreMove = some c ∧
          t.flag F.FAULT_STATE_RETIRE_BUSY = true ∧ (∀ n < 1024, s.allows n c = true → t.allows n 8 = true)) ∧
        (s.coreActive c = false ∨ c = 8 ∨ s.spareCore = false ∨ s.swEntrySet = false →
          t.fld F.FAULT_STATE_RETIRE_RESULT = 3 ∧ t.flt.coreMove = s.flt.coreMove ∧
          ((s.core c).cur = none → noted s t 0x09 c false)))) ∧
  (∀ s : State, (s.flt.coreMove = none ∨ s.flt.resetSrc ≠ none) → exec .coreRetireDone s = .next s) ∧
  (∀ (s : State) (c : Nat), s.dark = false → s.flt.resetSrc = none → s.flt.coreMove = some c →
    ∃ t, exec .coreRetireDone s = .next t ∧ t.flt.coreMove = none ∧ t.coreActive 8 = true ∧ (t.core 8).cur = none ∧
      t.fld F.FAULT_STATE_RETIRE_RESULT = 1 ∧ (0x08, c) ∉ t.flt.running ∧
      t.flag F.FAULT_STATE_RETIRE_BUSY = (List.range 4).any (fun k => s.flag (F.FAULT_SRAM_SPARE_COPYING k))) ∧
  (∀ (m : Master) (v : Word) (s : State) (b : Nat), retireTakes s m v 2 b →
    ∃ t, exec (.faultRetire m v) s = .next t ∧
      (∀ k, s.freeSpare = some k → t.flag (F.FAULT_SRAM_SPARE_USED k) = true ∧
        t.flag (F.FAULT_SRAM_SPARE_COPYING k) = true ∧ t.fld (F.FAULT_SRAM_SPARE_BANK k) = b ∧
        counted s t C.FAULT_RETIREMENTS 1 ∧ t.flag F.FAULT_STATE_RETIRE_BUSY = true ∧ t.physBank b = s.physBank b ∧
        onlyFields s t [whole (A.FAULT_SRAM_SPARE k), F.FAULT_STATE_RETIRE_BUSY]) ∧
      (s.freeSpare = none → t.fld F.FAULT_STATE_RETIRE_RESULT = 3 ∧ t.physBank b = s.physBank b ∧
        (b ∈ s.flt.noSpare → t.flt = s.flt) ∧
        (b ∉ s.flt.noSpare → b ∈ t.flt.noSpare ∧ noted s t 0x0C b false))) ∧
  (∀ (k : Fin 4) (s : State), (s.flag (F.FAULT_SRAM_SPARE_COPYING k.val) = false ∨ s.flt.resetSrc ≠ none) →
    exec (.sramCopyDone k) s = .next s) ∧
  (∀ (k : Fin 4) (s : State) (b : Nat), s.dark = false → s.flt.resetSrc = none → s.flag (F.FAULT_SRAM_SPARE_COPYING k.val) = true →
    b = s.fld (F.FAULT_SRAM_SPARE_BANK k.val) →
    ∃ t, exec (.sramCopyDone k) s = .next t ∧ t.physBank b = 64 + k.val ∧ (∀ j, j ≠ b → t.physBank j = s.physBank j) ∧
      t.flt.worn = s.flt.worn ++ [s.physBank b] ∧ t.flag (F.FAULT_SRAM_SPARE_COPYING k.val) = false ∧
      t.fld F.FAULT_STATE_RETIRE_RESULT = 1 ∧ t.mem = s.mem ∧
      ∀ j < 4, s.physBank b = 64 + j → j ≠ k.val → t.flag (F.FAULT_SRAM_SPARE_USED j) = false) ∧
  (∀ (v : Word) (s u : State) (f : Nat × Nat × Nat), s.takesWork 0x00 = true → u = s.touch A.SYSCTL_ABORT →
    f = (getBits v 28 4, getBits v 24 4, getBits v 0 16) →
    ∃ t, exec (.abort v) s = .next t ∧
      (u.flag F.SYSCTL_ABORT_STATUS_BUSY = true → refusedOnly u t A.SYSCTL_ABORT 2) ∧
      (u.flag F.SYSCTL_ABORT_STATUS_BUSY = false → fnExists f = false → t.fld F.SYSCTL_ABORT_STATUS_RESULT = 2 ∧
        t = { u with regs := t.regs } ∧ onlyFields u t [F.SYSCTL_ABORT_STATUS_RESULT, whole (cfgStatusOf A.SYSCTL_ABORT)]) ∧
      (u.flag F.SYSCTL_ABORT_STATUS_BUSY = false → fnExists f = true → t.flt.abort = some f ∧
        t.flag F.SYSCTL_ABORT_STATUS_BUSY = true ∧ t.fld F.SYSCTL_ABORT_STATUS_RESULT = 0 ∧
        (f.1 = 2 → u.thState f.2.2 ≠ 0 → t.thState f.2.2 = 4) ∧
        (f.1 ≠ 6 → f.1 ≠ 2 → t.flt.abortAt = u.time.tick ∧ t.flt.abortForced = false ∧
          onlyFields u t [F.SYSCTL_ABORT_STATUS_BUSY, F.SYSCTL_ABORT_STATUS_RESULT] ∧
          t = { u with regs := t.regs, flt := t.flt }))) ∧
  (∀ s : State, s.flt.abort = none → exec .abortDone s = .next s ∧ exec .abortForced s = .next s) ∧
  (∀ (s : State) (f : Nat × Nat × Nat), s.dark = false → s.flt.resetSrc = none → s.flt.abort = some f →
    s.flt.abortForced = false →
    ∃ t, exec .abortDone s = .next t ∧ nextAbort s t ∧ t.flag F.SYSCTL_ABORT_STATUS_FORCED = false ∧
      (s.flt.abortQ = [] →
        (f.1 = 2 → f.2.2 < 1024 → s.thState f.2.2 ≠ 0 → t.thState f.2.2 = 4 ∧ t.flag (F.DISPATCH_TH_W0_ABORTED f.2.2) = true) ∧
        (f.1 = 3 → f.2.1 = 0 → t.qFrames f.2.2 = []) ∧
        (f.1 = 3 → f.2.1 = 3 → f.2.2 < 32 → t.fifo f.2.2 = {} ∧ t.flag (F.PIGEON_CFG_EN f.2.2) = false) ∧
        (f.1 = 5 → f.2.2 < 4 → t.linkIsUp f.2.2 = false ∧ t.flag (F.EMAC_MODE_EN f.2.2) = false) ∧
        (f.1 = 7 → t.flag F.DRAMC_STATUS_TRAINED = false ∧ t.flag F.DRAMC_STATUS_SELF_REFRESH = true ∧ t.mem = s.mem))) ∧
  (∀ (s : State) (f : Nat × Nat × Nat) (b : Nat), s.dark = false → s.flt.resetSrc = none → s.flt.abort = some f →
    b = abortBound f.1 * 500 →
    ∃ t, exec .abortForced s = .next t ∧
      (10 * s.now < 10 * s.flt.abortAt.toNat + 9 * b → t = s) ∧
      (10 * s.flt.abortAt.toNat + 9 * b ≤ 10 * s.now → (f.1 = 7 → ∀ a, s.inDram a = true → t.byte a = 0) ∧
        (s.now < s.flt.abortAt.toNat + b → t.flt = { s.flt with abortForced := true } ∧ t.regs = s.regs ∧
          (f.1 ≠ 7 → t.mem = s.mem)) ∧
        (s.flt.abortAt.toNat + b ≤ s.now → nextAbort s t ∧ t.flag F.SYSCTL_ABORT_STATUS_FORCED = true ∧
          (f.1 = 7 → s.flt.abortQ = [] → t.flag F.DRAMC_STATUS_TRAINED = false ∧ noted s t 0x40 (fnWord f) false)))) ∧
  (∀ (s : State) (f : Nat × Nat × Nat) (b : Nat), s.dark = false → s.flt.resetSrc = none → s.flt.abort = some f →
    s.flt.abortForced = true → b = abortBound f.1 * 500 →
    ∃ t, exec .abortDone s = .next t ∧ (s.now < s.flt.abortAt.toNat + b → t = s) ∧
      (s.flt.abortAt.toNat + b ≤ s.now → nextAbort s t ∧ t.flag F.SYSCTL_ABORT_STATUS_FORCED = true))

/-- Commands complete, keep the queue, and only blow fuses (R121, R123, R593 to R595). -/
def Obligations.EveryCommandCompletes : Prop :=
  ∀ (c : Instr) (s : State), ∃ t, exec c s = .next t ∧ t.pending = s.pending ∧ Fuses.onlyBlown s.fuses t.fuses

/-- The canonical form is kept by every step. -/
def Obligations.EveryStepKeepsTheCanonicalForm : Prop :=
  ∀ s t : State, s.canonical → step s = .next t → t.canonical

/-- Frame records name flows of the table. -/
def Obligations.FrameRecordsNameFlows : Prop :=
  (∀ r ∈ State.reset.regsvc.recs, r.flow < 512) ∧
  (∀ s t : State, (∀ r ∈ s.regsvc.recs, r.flow < 512) → step s = .next t → ∀ r ∈ t.regsvc.recs, r.flow < 512)

/-- A write of LDPC.ITER_CFG (R198). -/
def Obligations.AdmittedFlowsHoldTheIterations : Prop :=
  ∀ (s u : State) (m : Master) (addr : BitVec 64) (v : DWord) (w : Word), addr.toNat = A.LDPC_ITER_CFG →
    s.takesWork (windowOf A.LDPC_ITER_CFG) = true → s.granted m true A.LDPC_ITER_CFG = true → u = s.touch A.LDPC_ITER_CFG →
    w = v.setWidth 32 →
    ∃ t, exec (.registerWrite m addr 4 v) s = .next t ∧
      ((∃ f < 512, u.flowState f ∈ [1, 2, 3]) →
        (getBits w 24 5 ≠ u.fld F.LDPC_ITER_CFG_MIN_ITER ∨ getBits w 0 5 ≠ u.fld F.LDPC_ITER_CFG_CAP_REG) →
        t.rd A.LDPC_ITER_CFG = u.rd A.LDPC_ITER_CFG ∧
          (getBits w 16 5 ≠ 0 → getBits w 8 5 ≠ 0 → getBits w 0 5 ≠ 0 →
            getBits (u.rd (cfgStatusOf A.LDPC_ITER_CFG)) 0 8 = 0 →
            getBits (t.rd (cfgStatusOf A.LDPC_ITER_CFG)) 0 8 = 2) ∧
          onlyFields u t [whole (cfgStatusOf A.LDPC_ITER_CFG)] ∧ t = { u with regs := t.regs }) ∧
      (((∀ f < 512, u.flowState f = 0 ∨ u.flowState f = 4) ∨
          (getBits w 24 5 = u.fld F.LDPC_ITER_CFG_MIN_ITER ∧ getBits w 0 5 = u.fld F.LDPC_ITER_CFG_CAP_REG)) →
        (∀ lo ∈ [16, 8, 0], 1 ≤ getBits w lo 5 ∧ getBits w lo 5 ≤ 16 ∧ getBits w 24 5 ≤ getBits w lo 5) →
        (∀ lo ∈ [24, 16, 8, 0], getBits (t.rd A.LDPC_ITER_CFG) lo 5 = getBits w lo 5) ∧
          onlyFields u t [whole A.LDPC_ITER_CFG] ∧ t = { u with regs := t.regs })
end

