-- ==== Sys2Proof/Laws/Bits.lean ====
section
/-! SUPPORT. Reading a bit field of a word after writing one. -/

namespace Sys2Proof.Machine

/-- A field holds fewer values than its width gives. -/
theorem getBits_lt (w : Word) (lo len : Nat) : getBits w lo len < 2 ^ len := Nat.mod_lt _ (by positivity)

/-- A bit of a field is a bit of its word. -/
theorem testBit_getBits (w : Word) (lo len i : Nat) :
    (getBits w lo len).testBit i = (decide (i < len) && w.toNat.testBit (lo + i)) := by
  simp [getBits, Nat.testBit_mod_two_pow]

/-- A bit of a word after a field is written. -/
theorem testBit_setBits (w : Word) (lo len v i : Nat) (hi : i < 32) :
    (setBits w lo len v).toNat.testBit i =
      if lo ≤ i ∧ i < lo + len then v.testBit (i - lo) else w.toNat.testBit i := by
  rw [← BitVec.getLsbD, ← BitVec.getLsbD]
  simp only [setBits, BitVec.getLsbD_or, BitVec.getLsbD_and, BitVec.getLsbD_not, BitVec.getLsbD_ofNat,
    Nat.testBit_shiftLeft, Nat.testBit_two_pow_sub_one, Nat.testBit_mod_two_pow, hi, decide_true, Bool.true_and]
  by_cases h1 : lo ≤ i
  · by_cases h2 : i < lo + len
    · have : i - lo < len := by omega
      simp [h1, h2, this]
    · have : ¬ i - lo < len := by omega
      simp [h1, h2, this]
  · simp [h1]

/-- A field reads back what was written to it. -/
theorem getBits_setBits_same (w : Word) (lo len v : Nat) (h : lo + len ≤ 32) :
    getBits (setBits w lo len v) lo len = v % 2 ^ len := by
  apply Nat.eq_of_testBit_eq
  intro i
  rw [testBit_getBits, Nat.testBit_mod_two_pow]
  by_cases hi : i < len
  · rw [testBit_setBits _ _ _ _ _ (by omega)]
    have : lo + i < lo + len := by omega
    simp [hi]
  · simp [hi]

/-- Writing a field leaves a field that does not meet it. -/
theorem getBits_setBits_other (w : Word) (lo len v lo' len' : Nat) (h : lo' + len' ≤ 32)
    (hd : lo' + len' ≤ lo ∨ lo + len ≤ lo') : getBits (setBits w lo len v) lo' len' = getBits w lo' len' := by
  apply Nat.eq_of_testBit_eq
  intro i
  rw [testBit_getBits, testBit_getBits]
  by_cases hi : i < len'
  · rw [testBit_setBits _ _ _ _ _ (by omega)]
    have : ¬ (lo ≤ lo' + i ∧ lo' + i < lo + len) := by omega
    simp [this]
  · simp [hi]

/-- The word is the same when a field is written with what it holds. -/
theorem bit_of_true : bit true = 1 := rfl

/-- The number of a false condition. -/
theorem bit_of_false : bit false = 0 := rfl

end Sys2Proof.Machine
end

