-- ==== Sys2Proof/Laws/Sparse.lean ====
section
/-! SUPPORT. What the operations on sparse maps do, once: reading after writing, and the canonical form that every
operation keeps. -/

namespace Sys2Proof.Machine

variable {α : Type}

/-- Inserting a pair shows it under its key and leaves every other key. -/
theorem sget_sinsert (d : Nat → α) (m : List (Nat × α)) (k : Nat) (v : α) (j : Nat) :
    sget d (sinsert k v m) j = if j = k then v else sget d m j := by
  induction m with
  | nil => simp [sinsert, sget, eq_comm]
  | cons e m ih =>
    obtain ⟨i, w⟩ := e
    simp only [sinsert]
    split
    · subst_vars
      by_cases h : i = j
      · simp [sget, h]
      · simp [sget, h, Ne.symm h]
    · split
      · by_cases h : k = j
        · simp [sget, h]
        · simp [sget, h, Ne.symm h]
      · rename_i hik _
        simp only [sget, ih]
        by_cases h : i = j
        · subst h; simp [hik]
        · simp [h]

/-- Removing a key leaves its default there and every other key as it was. -/
theorem sget_serase (d : Nat → α) (m : List (Nat × α)) (k j : Nat) :
    sget d (serase k m) j = if j = k then d j else sget d m j := by
  induction m with
  | nil => simp [serase, sget]
  | cons e m ih =>
    obtain ⟨i, w⟩ := e
    simp only [serase] at ih
    by_cases hi : i = k
    · subst hi
      simp only [serase, List.filter_cons, ne_eq, not_true_eq_false, decide_false, Bool.false_eq_true, if_false, ih, sget]
      by_cases h : j = i
      · simp [h]
      · simp [h, Ne.symm h]
    · simp only [serase, List.filter_cons, ne_eq, hi, not_false_eq_true, decide_true, if_true, sget, ih]
      by_cases h : i = j
      · subst h; simp [hi]
      · simp [h]

/-- A store is read back under its key, and every other key reads as before. -/
theorem sget_sput [DecidableEq α] (d : Nat → α) (m : List (Nat × α)) (k : Nat) (v : α) (j : Nat) :
    sget d (sput d m k v) j = if j = k then v else sget d m j := by
  unfold sput
  split
  · rw [sget_serase]
    split
    · subst_vars; rfl
    · rfl
  · exact sget_sinsert d m k v j

/-- The value a key holds after it is stored. -/
@[simp] theorem sget_sput_same [DecidableEq α] (d : Nat → α) (m : List (Nat × α)) (k : Nat) (v : α) :
    sget d (sput d m k v) k = v := by simp [sget_sput]

/-- A store leaves every other key. -/
theorem sget_sput_ne [DecidableEq α] (d : Nat → α) (m : List (Nat × α)) {k j : Nat} (v : α) (h : j ≠ k) :
    sget d (sput d m k v) j = sget d m j := by simp [sget_sput, h]

/-- The canonical form above a bound is the canonical form. -/
theorem swfFrom_none [DecidableEq α] (d : Nat → α) {b : Option Nat} {m : List (Nat × α)} (h : swfFrom d b m = true) :
    swfFrom d none m = true := by
  cases m with
  | nil => rfl
  | cons e m => obtain ⟨k, v⟩ := e; simp only [swfFrom, Bool.and_eq_true] at h ⊢; exact ⟨⟨by simp, h.1.2⟩, h.2⟩

/-- A lower bound may be lowered. -/
theorem swfFrom_mono [DecidableEq α] (d : Nat → α) {a b : Nat} {m : List (Nat × α)} (hab : a ≤ b)
    (h : swfFrom d (some b) m = true) : swfFrom d (some a) m = true := by
  cases m with
  | nil => rfl
  | cons e m =>
    obtain ⟨k, v⟩ := e
    simp only [swfFrom, Bool.and_eq_true, decide_eq_true_eq] at h ⊢
    exact ⟨⟨by omega, h.1.2⟩, h.2⟩

/-- Keeping some of the pairs keeps the canonical form. -/
theorem swfFrom_filter [DecidableEq α] (d : Nat → α) (p : Nat × α → Bool) (m : List (Nat × α)) :
    ∀ b, swfFrom d b m = true → swfFrom d b (m.filter p) = true := by
  induction m with
  | nil => intro b h; simpa using h
  | cons e m ih =>
    intro b h
    obtain ⟨k, v⟩ := e
    simp only [swfFrom, Bool.and_eq_true] at h
    rw [List.filter_cons]
    split
    · simp only [swfFrom, Bool.and_eq_true]; exact ⟨h.1, ih _ h.2⟩
    · have h2 := ih _ h.2
      cases b with
      | none => exact swfFrom_none d h2
      | some a => exact swfFrom_mono d (by have := h.1.1; simp only [decide_eq_true_eq] at this; omega) h2

/-- Inserting a value that is not the default keeps the canonical form. -/
theorem swfFrom_sinsert [DecidableEq α] (d : Nat → α) (k : Nat) (v : α) (hv : v ≠ d k) (m : List (Nat × α)) :
    ∀ b : Option Nat, (∀ a ∈ b, a < k) → swfFrom d b m = true → swfFrom d b (sinsert k v m) = true := by
  induction m with
  | nil => intro b hb _; cases b <;> simp_all [sinsert, swfFrom]
  | cons e m ih =>
    intro b hb h
    obtain ⟨i, w⟩ := e
    simp only [swfFrom, Bool.and_eq_true] at h
    simp only [sinsert]
    split
    · subst_vars
      simp only [swfFrom, Bool.and_eq_true]
      exact ⟨⟨h.1.1, by simpa using hv⟩, h.2⟩
    · split
      · rename_i hlt
        simp only [swfFrom, Bool.and_eq_true]
        refine ⟨⟨?_, by simpa using hv⟩, ⟨by simpa using hlt, h.1.2⟩, h.2⟩
        cases b <;> simp_all
      · rename_i h1 h2
        simp only [swfFrom, Bool.and_eq_true]
        refine ⟨h.1, ih (some i) ?_ h.2⟩
        intro a ha
        simp only [Option.mem_def, Option.some.injEq] at ha
        omega

/-- Keeping some of the pairs keeps the canonical form. -/
theorem swf_filter [DecidableEq α] (d : Nat → α) (p : Nat × α → Bool) (m : List (Nat × α)) (h : swf d m = true) :
    swf d (m.filter p) = true := swfFrom_filter d p m none h

/-- A store keeps the canonical form. -/
theorem swf_sput [DecidableEq α] (d : Nat → α) (m : List (Nat × α)) (k : Nat) (v : α) (h : swf d m = true) :
    swf d (sput d m k v) = true := by
  unfold sput
  split
  · exact swf_filter d _ m h
  · rename_i hv; exact swfFrom_sinsert d k v hv m none (by simp) h

end Sys2Proof.Machine
end

