-- ==== Sys2Proof/Laws/State.lean ====
section
/-! SUPPORT. What the updates of a state leave alone: one lemma per field and update, true by rfl, so that no proof
unfolds a record update. -/

namespace Sys2Proof.Machine

variable (s : State)

/-! ### `wr` -/

@[simp] theorem State.wr_ctrs (a : Nat) (v : Word) : (s.wr a v).ctrs = s.ctrs := rfl
@[simp] theorem State.wr_ctrShadow (a : Nat) (v : Word) : (s.wr a v).ctrShadow = s.ctrShadow := rfl
@[simp] theorem State.wr_mem (a : Nat) (v : Word) : (s.wr a v).mem = s.mem := rfl
@[simp] theorem State.wr_poison (a : Nat) (v : Word) : (s.wr a v).poison = s.poison := rfl
@[simp] theorem State.wr_nvm (a : Nat) (v : Word) : (s.wr a v).nvm = s.nvm := rfl
@[simp] theorem State.wr_hostMem (a : Nat) (v : Word) : (s.wr a v).hostMem = s.hostMem := rfl
@[simp] theorem State.wr_fresh (a : Nat) (v : Word) : (s.wr a v).fresh = s.fresh := rfl
@[simp] theorem State.wr_resp (a : Nat) (v : Word) : (s.wr a v).resp = s.resp := rfl
@[simp] theorem State.wr_fuses (a : Nat) (v : Word) : (s.wr a v).fuses = s.fuses := rfl
@[simp] theorem State.wr_power (a : Nat) (v : Word) : (s.wr a v).power = s.power := rfl
@[simp] theorem State.wr_pins (a : Nat) (v : Word) : (s.wr a v).pins = s.pins := rfl
@[simp] theorem State.wr_held (a : Nat) (v : Word) : (s.wr a v).held = s.held := rfl
@[simp] theorem State.wr_bar2 (a : Nat) (v : Word) : (s.wr a v).bar2 = s.bar2 := rfl
@[simp] theorem State.wr_rwl (a : Nat) (v : Word) : (s.wr a v).rwl = s.rwl := rfl
@[simp] theorem State.wr_boot (a : Nat) (v : Word) : (s.wr a v).boot = s.boot := rfl
@[simp] theorem State.wr_nvmc (a : Nat) (v : Word) : (s.wr a v).nvmc = s.nvmc := rfl
@[simp] theorem State.wr_time (a : Nat) (v : Word) : (s.wr a v).time = s.time := rfl
@[simp] theorem State.wr_disp (a : Nat) (v : Word) : (s.wr a v).disp = s.disp := rfl
@[simp] theorem State.wr_pig (a : Nat) (v : Word) : (s.wr a v).pig = s.pig := rfl
@[simp] theorem State.wr_sort (a : Nat) (v : Word) : (s.wr a v).sort = s.sort := rfl
@[simp] theorem State.wr_tables (a : Nat) (v : Word) : (s.wr a v).tables = s.tables := rfl
@[simp] theorem State.wr_tm (a : Nat) (v : Word) : (s.wr a v).tm = s.tm := rfl
@[simp] theorem State.wr_regsvc (a : Nat) (v : Word) : (s.wr a v).regsvc = s.regsvc := rfl
@[simp] theorem State.wr_emacs (a : Nat) (v : Word) : (s.wr a v).emacs = s.emacs := rfl
@[simp] theorem State.wr_wire (a : Nat) (v : Word) : (s.wr a v).wire = s.wire := rfl
@[simp] theorem State.wr_dram (a : Nat) (v : Word) : (s.wr a v).dram = s.dram := rfl
@[simp] theorem State.wr_air (a : Nat) (v : Word) : (s.wr a v).air = s.air := rfl
@[simp] theorem State.wr_ldpc (a : Nat) (v : Word) : (s.wr a v).ldpc = s.ldpc := rfl
@[simp] theorem State.wr_wmac (a : Nat) (v : Word) : (s.wr a v).wmac = s.wmac := rfl
@[simp] theorem State.wr_rounds (a : Nat) (v : Word) : (s.wr a v).rounds = s.rounds := rfl
@[simp] theorem State.wr_ngr (a : Nat) (v : Word) : (s.wr a v).ngr = s.ngr := rfl
@[simp] theorem State.wr_ngl (a : Nat) (v : Word) : (s.wr a v).ngl = s.ngl := rfl
@[simp] theorem State.wr_hostp (a : Nat) (v : Word) : (s.wr a v).hostp = s.hostp := rfl
@[simp] theorem State.wr_keys (a : Nat) (v : Word) : (s.wr a v).keys = s.keys := rfl
@[simp] theorem State.wr_sealer (a : Nat) (v : Word) : (s.wr a v).sealer = s.sealer := rfl
@[simp] theorem State.wr_flt (a : Nat) (v : Word) : (s.wr a v).flt = s.flt := rfl
@[simp] theorem State.wr_pending (a : Nat) (v : Word) : (s.wr a v).pending = s.pending := rfl

/-! ### `setFld` -/

@[simp] theorem State.setFld_ctrs (f : Fld) (v : Nat) : (s.setFld f v).ctrs = s.ctrs := rfl
@[simp] theorem State.setFld_ctrShadow (f : Fld) (v : Nat) : (s.setFld f v).ctrShadow = s.ctrShadow := rfl
@[simp] theorem State.setFld_mem (f : Fld) (v : Nat) : (s.setFld f v).mem = s.mem := rfl
@[simp] theorem State.setFld_poison (f : Fld) (v : Nat) : (s.setFld f v).poison = s.poison := rfl
@[simp] theorem State.setFld_nvm (f : Fld) (v : Nat) : (s.setFld f v).nvm = s.nvm := rfl
@[simp] theorem State.setFld_hostMem (f : Fld) (v : Nat) : (s.setFld f v).hostMem = s.hostMem := rfl
@[simp] theorem State.setFld_fresh (f : Fld) (v : Nat) : (s.setFld f v).fresh = s.fresh := rfl
@[simp] theorem State.setFld_resp (f : Fld) (v : Nat) : (s.setFld f v).resp = s.resp := rfl
@[simp] theorem State.setFld_fuses (f : Fld) (v : Nat) : (s.setFld f v).fuses = s.fuses := rfl
@[simp] theorem State.setFld_power (f : Fld) (v : Nat) : (s.setFld f v).power = s.power := rfl
@[simp] theorem State.setFld_pins (f : Fld) (v : Nat) : (s.setFld f v).pins = s.pins := rfl
@[simp] theorem State.setFld_held (f : Fld) (v : Nat) : (s.setFld f v).held = s.held := rfl
@[simp] theorem State.setFld_bar2 (f : Fld) (v : Nat) : (s.setFld f v).bar2 = s.bar2 := rfl
@[simp] theorem State.setFld_rwl (f : Fld) (v : Nat) : (s.setFld f v).rwl = s.rwl := rfl
@[simp] theorem State.setFld_boot (f : Fld) (v : Nat) : (s.setFld f v).boot = s.boot := rfl
@[simp] theorem State.setFld_nvmc (f : Fld) (v : Nat) : (s.setFld f v).nvmc = s.nvmc := rfl
@[simp] theorem State.setFld_time (f : Fld) (v : Nat) : (s.setFld f v).time = s.time := rfl
@[simp] theorem State.setFld_disp (f : Fld) (v : Nat) : (s.setFld f v).disp = s.disp := rfl
@[simp] theorem State.setFld_pig (f : Fld) (v : Nat) : (s.setFld f v).pig = s.pig := rfl
@[simp] theorem State.setFld_sort (f : Fld) (v : Nat) : (s.setFld f v).sort = s.sort := rfl
@[simp] theorem State.setFld_tables (f : Fld) (v : Nat) : (s.setFld f v).tables = s.tables := rfl
@[simp] theorem State.setFld_tm (f : Fld) (v : Nat) : (s.setFld f v).tm = s.tm := rfl
@[simp] theorem State.setFld_regsvc (f : Fld) (v : Nat) : (s.setFld f v).regsvc = s.regsvc := rfl
@[simp] theorem State.setFld_emacs (f : Fld) (v : Nat) : (s.setFld f v).emacs = s.emacs := rfl
@[simp] theorem State.setFld_wire (f : Fld) (v : Nat) : (s.setFld f v).wire = s.wire := rfl
@[simp] theorem State.setFld_dram (f : Fld) (v : Nat) : (s.setFld f v).dram = s.dram := rfl
@[simp] theorem State.setFld_air (f : Fld) (v : Nat) : (s.setFld f v).air = s.air := rfl
@[simp] theorem State.setFld_ldpc (f : Fld) (v : Nat) : (s.setFld f v).ldpc = s.ldpc := rfl
@[simp] theorem State.setFld_wmac (f : Fld) (v : Nat) : (s.setFld f v).wmac = s.wmac := rfl
@[simp] theorem State.setFld_rounds (f : Fld) (v : Nat) : (s.setFld f v).rounds = s.rounds := rfl
@[simp] theorem State.setFld_ngr (f : Fld) (v : Nat) : (s.setFld f v).ngr = s.ngr := rfl
@[simp] theorem State.setFld_ngl (f : Fld) (v : Nat) : (s.setFld f v).ngl = s.ngl := rfl
@[simp] theorem State.setFld_hostp (f : Fld) (v : Nat) : (s.setFld f v).hostp = s.hostp := rfl
@[simp] theorem State.setFld_keys (f : Fld) (v : Nat) : (s.setFld f v).keys = s.keys := rfl
@[simp] theorem State.setFld_sealer (f : Fld) (v : Nat) : (s.setFld f v).sealer = s.sealer := rfl
@[simp] theorem State.setFld_flt (f : Fld) (v : Nat) : (s.setFld f v).flt = s.flt := rfl
@[simp] theorem State.setFld_pending (f : Fld) (v : Nat) : (s.setFld f v).pending = s.pending := rfl

/-! ### `count` -/

@[simp] theorem State.count_regs (a n : Nat) : (s.count a n).regs = s.regs := rfl
@[simp] theorem State.count_ctrShadow (a n : Nat) : (s.count a n).ctrShadow = s.ctrShadow := rfl
@[simp] theorem State.count_mem (a n : Nat) : (s.count a n).mem = s.mem := rfl
@[simp] theorem State.count_poison (a n : Nat) : (s.count a n).poison = s.poison := rfl
@[simp] theorem State.count_nvm (a n : Nat) : (s.count a n).nvm = s.nvm := rfl
@[simp] theorem State.count_hostMem (a n : Nat) : (s.count a n).hostMem = s.hostMem := rfl
@[simp] theorem State.count_fresh (a n : Nat) : (s.count a n).fresh = s.fresh := rfl
@[simp] theorem State.count_resp (a n : Nat) : (s.count a n).resp = s.resp := rfl
@[simp] theorem State.count_fuses (a n : Nat) : (s.count a n).fuses = s.fuses := rfl
@[simp] theorem State.count_power (a n : Nat) : (s.count a n).power = s.power := rfl
@[simp] theorem State.count_pins (a n : Nat) : (s.count a n).pins = s.pins := rfl
@[simp] theorem State.count_held (a n : Nat) : (s.count a n).held = s.held := rfl
@[simp] theorem State.count_bar2 (a n : Nat) : (s.count a n).bar2 = s.bar2 := rfl
@[simp] theorem State.count_rwl (a n : Nat) : (s.count a n).rwl = s.rwl := rfl
@[simp] theorem State.count_boot (a n : Nat) : (s.count a n).boot = s.boot := rfl
@[simp] theorem State.count_nvmc (a n : Nat) : (s.count a n).nvmc = s.nvmc := rfl
@[simp] theorem State.count_time (a n : Nat) : (s.count a n).time = s.time := rfl
@[simp] theorem State.count_disp (a n : Nat) : (s.count a n).disp = s.disp := rfl
@[simp] theorem State.count_pig (a n : Nat) : (s.count a n).pig = s.pig := rfl
@[simp] theorem State.count_sort (a n : Nat) : (s.count a n).sort = s.sort := rfl
@[simp] theorem State.count_tables (a n : Nat) : (s.count a n).tables = s.tables := rfl
@[simp] theorem State.count_tm (a n : Nat) : (s.count a n).tm = s.tm := rfl
@[simp] theorem State.count_regsvc (a n : Nat) : (s.count a n).regsvc = s.regsvc := rfl
@[simp] theorem State.count_emacs (a n : Nat) : (s.count a n).emacs = s.emacs := rfl
@[simp] theorem State.count_wire (a n : Nat) : (s.count a n).wire = s.wire := rfl
@[simp] theorem State.count_dram (a n : Nat) : (s.count a n).dram = s.dram := rfl
@[simp] theorem State.count_air (a n : Nat) : (s.count a n).air = s.air := rfl
@[simp] theorem State.count_ldpc (a n : Nat) : (s.count a n).ldpc = s.ldpc := rfl
@[simp] theorem State.count_wmac (a n : Nat) : (s.count a n).wmac = s.wmac := rfl
@[simp] theorem State.count_rounds (a n : Nat) : (s.count a n).rounds = s.rounds := rfl
@[simp] theorem State.count_ngr (a n : Nat) : (s.count a n).ngr = s.ngr := rfl
@[simp] theorem State.count_ngl (a n : Nat) : (s.count a n).ngl = s.ngl := rfl
@[simp] theorem State.count_hostp (a n : Nat) : (s.count a n).hostp = s.hostp := rfl
@[simp] theorem State.count_keys (a n : Nat) : (s.count a n).keys = s.keys := rfl
@[simp] theorem State.count_sealer (a n : Nat) : (s.count a n).sealer = s.sealer := rfl
@[simp] theorem State.count_flt (a n : Nat) : (s.count a n).flt = s.flt := rfl
@[simp] theorem State.count_pending (a n : Nat) : (s.count a n).pending = s.pending := rfl

/-! ### `clearCtr` -/

@[simp] theorem State.clearCtr_regs (a : Nat) : (s.clearCtr a).regs = s.regs := rfl
@[simp] theorem State.clearCtr_ctrShadow (a : Nat) : (s.clearCtr a).ctrShadow = s.ctrShadow := rfl
@[simp] theorem State.clearCtr_mem (a : Nat) : (s.clearCtr a).mem = s.mem := rfl
@[simp] theorem State.clearCtr_poison (a : Nat) : (s.clearCtr a).poison = s.poison := rfl
@[simp] theorem State.clearCtr_nvm (a : Nat) : (s.clearCtr a).nvm = s.nvm := rfl
@[simp] theorem State.clearCtr_hostMem (a : Nat) : (s.clearCtr a).hostMem = s.hostMem := rfl
@[simp] theorem State.clearCtr_fresh (a : Nat) : (s.clearCtr a).fresh = s.fresh := rfl
@[simp] theorem State.clearCtr_resp (a : Nat) : (s.clearCtr a).resp = s.resp := rfl
@[simp] theorem State.clearCtr_fuses (a : Nat) : (s.clearCtr a).fuses = s.fuses := rfl
@[simp] theorem State.clearCtr_power (a : Nat) : (s.clearCtr a).power = s.power := rfl
@[simp] theorem State.clearCtr_pins (a : Nat) : (s.clearCtr a).pins = s.pins := rfl
@[simp] theorem State.clearCtr_held (a : Nat) : (s.clearCtr a).held = s.held := rfl
@[simp] theorem State.clearCtr_bar2 (a : Nat) : (s.clearCtr a).bar2 = s.bar2 := rfl
@[simp] theorem State.clearCtr_rwl (a : Nat) : (s.clearCtr a).rwl = s.rwl := rfl
@[simp] theorem State.clearCtr_boot (a : Nat) : (s.clearCtr a).boot = s.boot := rfl
@[simp] theorem State.clearCtr_nvmc (a : Nat) : (s.clearCtr a).nvmc = s.nvmc := rfl
@[simp] theorem State.clearCtr_time (a : Nat) : (s.clearCtr a).time = s.time := rfl
@[simp] theorem State.clearCtr_disp (a : Nat) : (s.clearCtr a).disp = s.disp := rfl
@[simp] theorem State.clearCtr_pig (a : Nat) : (s.clearCtr a).pig = s.pig := rfl
@[simp] theorem State.clearCtr_sort (a : Nat) : (s.clearCtr a).sort = s.sort := rfl
@[simp] theorem State.clearCtr_tables (a : Nat) : (s.clearCtr a).tables = s.tables := rfl
@[simp] theorem State.clearCtr_tm (a : Nat) : (s.clearCtr a).tm = s.tm := rfl
@[simp] theorem State.clearCtr_regsvc (a : Nat) : (s.clearCtr a).regsvc = s.regsvc := rfl
@[simp] theorem State.clearCtr_emacs (a : Nat) : (s.clearCtr a).emacs = s.emacs := rfl
@[simp] theorem State.clearCtr_wire (a : Nat) : (s.clearCtr a).wire = s.wire := rfl
@[simp] theorem State.clearCtr_dram (a : Nat) : (s.clearCtr a).dram = s.dram := rfl
@[simp] theorem State.clearCtr_air (a : Nat) : (s.clearCtr a).air = s.air := rfl
@[simp] theorem State.clearCtr_ldpc (a : Nat) : (s.clearCtr a).ldpc = s.ldpc := rfl
@[simp] theorem State.clearCtr_wmac (a : Nat) : (s.clearCtr a).wmac = s.wmac := rfl
@[simp] theorem State.clearCtr_rounds (a : Nat) : (s.clearCtr a).rounds = s.rounds := rfl
@[simp] theorem State.clearCtr_ngr (a : Nat) : (s.clearCtr a).ngr = s.ngr := rfl
@[simp] theorem State.clearCtr_ngl (a : Nat) : (s.clearCtr a).ngl = s.ngl := rfl
@[simp] theorem State.clearCtr_hostp (a : Nat) : (s.clearCtr a).hostp = s.hostp := rfl
@[simp] theorem State.clearCtr_keys (a : Nat) : (s.clearCtr a).keys = s.keys := rfl
@[simp] theorem State.clearCtr_sealer (a : Nat) : (s.clearCtr a).sealer = s.sealer := rfl
@[simp] theorem State.clearCtr_flt (a : Nat) : (s.clearCtr a).flt = s.flt := rfl
@[simp] theorem State.clearCtr_pending (a : Nat) : (s.clearCtr a).pending = s.pending := rfl

/-! ### `setByte` -/

@[simp] theorem State.setByte_regs (a : Nat) (b : Byte) : (s.setByte a b).regs = s.regs := rfl
@[simp] theorem State.setByte_ctrs (a : Nat) (b : Byte) : (s.setByte a b).ctrs = s.ctrs := rfl
@[simp] theorem State.setByte_ctrShadow (a : Nat) (b : Byte) : (s.setByte a b).ctrShadow = s.ctrShadow := rfl
@[simp] theorem State.setByte_poison (a : Nat) (b : Byte) : (s.setByte a b).poison = s.poison := rfl
@[simp] theorem State.setByte_nvm (a : Nat) (b : Byte) : (s.setByte a b).nvm = s.nvm := rfl
@[simp] theorem State.setByte_hostMem (a : Nat) (b : Byte) : (s.setByte a b).hostMem = s.hostMem := rfl
@[simp] theorem State.setByte_fresh (a : Nat) (b : Byte) : (s.setByte a b).fresh = s.fresh := rfl
@[simp] theorem State.setByte_resp (a : Nat) (b : Byte) : (s.setByte a b).resp = s.resp := rfl
@[simp] theorem State.setByte_fuses (a : Nat) (b : Byte) : (s.setByte a b).fuses = s.fuses := rfl
@[simp] theorem State.setByte_power (a : Nat) (b : Byte) : (s.setByte a b).power = s.power := rfl
@[simp] theorem State.setByte_pins (a : Nat) (b : Byte) : (s.setByte a b).pins = s.pins := rfl
@[simp] theorem State.setByte_held (a : Nat) (b : Byte) : (s.setByte a b).held = s.held := rfl
@[simp] theorem State.setByte_bar2 (a : Nat) (b : Byte) : (s.setByte a b).bar2 = s.bar2 := rfl
@[simp] theorem State.setByte_rwl (a : Nat) (b : Byte) : (s.setByte a b).rwl = s.rwl := rfl
@[simp] theorem State.setByte_boot (a : Nat) (b : Byte) : (s.setByte a b).boot = s.boot := rfl
@[simp] theorem State.setByte_nvmc (a : Nat) (b : Byte) : (s.setByte a b).nvmc = s.nvmc := rfl
@[simp] theorem State.setByte_time (a : Nat) (b : Byte) : (s.setByte a b).time = s.time := rfl
@[simp] theorem State.setByte_disp (a : Nat) (b : Byte) : (s.setByte a b).disp = s.disp := rfl
@[simp] theorem State.setByte_pig (a : Nat) (b : Byte) : (s.setByte a b).pig = s.pig := rfl
@[simp] theorem State.setByte_sort (a : Nat) (b : Byte) : (s.setByte a b).sort = s.sort := rfl
@[simp] theorem State.setByte_tables (a : Nat) (b : Byte) : (s.setByte a b).tables = s.tables := rfl
@[simp] theorem State.setByte_tm (a : Nat) (b : Byte) : (s.setByte a b).tm = s.tm := rfl
@[simp] theorem State.setByte_regsvc (a : Nat) (b : Byte) : (s.setByte a b).regsvc = s.regsvc := rfl
@[simp] theorem State.setByte_emacs (a : Nat) (b : Byte) : (s.setByte a b).emacs = s.emacs := rfl
@[simp] theorem State.setByte_wire (a : Nat) (b : Byte) : (s.setByte a b).wire = s.wire := rfl
@[simp] theorem State.setByte_dram (a : Nat) (b : Byte) : (s.setByte a b).dram = s.dram := rfl
@[simp] theorem State.setByte_air (a : Nat) (b : Byte) : (s.setByte a b).air = s.air := rfl
@[simp] theorem State.setByte_ldpc (a : Nat) (b : Byte) : (s.setByte a b).ldpc = s.ldpc := rfl
@[simp] theorem State.setByte_wmac (a : Nat) (b : Byte) : (s.setByte a b).wmac = s.wmac := rfl
@[simp] theorem State.setByte_rounds (a : Nat) (b : Byte) : (s.setByte a b).rounds = s.rounds := rfl
@[simp] theorem State.setByte_ngr (a : Nat) (b : Byte) : (s.setByte a b).ngr = s.ngr := rfl
@[simp] theorem State.setByte_ngl (a : Nat) (b : Byte) : (s.setByte a b).ngl = s.ngl := rfl
@[simp] theorem State.setByte_hostp (a : Nat) (b : Byte) : (s.setByte a b).hostp = s.hostp := rfl
@[simp] theorem State.setByte_keys (a : Nat) (b : Byte) : (s.setByte a b).keys = s.keys := rfl
@[simp] theorem State.setByte_sealer (a : Nat) (b : Byte) : (s.setByte a b).sealer = s.sealer := rfl
@[simp] theorem State.setByte_flt (a : Nat) (b : Byte) : (s.setByte a b).flt = s.flt := rfl
@[simp] theorem State.setByte_pending (a : Nat) (b : Byte) : (s.setByte a b).pending = s.pending := rfl

/-! ### `setFlash` -/

@[simp] theorem State.setFlash_regs (a : Nat) (b : Byte) : (s.setFlash a b).regs = s.regs := rfl
@[simp] theorem State.setFlash_ctrs (a : Nat) (b : Byte) : (s.setFlash a b).ctrs = s.ctrs := rfl
@[simp] theorem State.setFlash_ctrShadow (a : Nat) (b : Byte) : (s.setFlash a b).ctrShadow = s.ctrShadow := rfl
@[simp] theorem State.setFlash_mem (a : Nat) (b : Byte) : (s.setFlash a b).mem = s.mem := rfl
@[simp] theorem State.setFlash_poison (a : Nat) (b : Byte) : (s.setFlash a b).poison = s.poison := rfl
@[simp] theorem State.setFlash_hostMem (a : Nat) (b : Byte) : (s.setFlash a b).hostMem = s.hostMem := rfl
@[simp] theorem State.setFlash_fresh (a : Nat) (b : Byte) : (s.setFlash a b).fresh = s.fresh := rfl
@[simp] theorem State.setFlash_resp (a : Nat) (b : Byte) : (s.setFlash a b).resp = s.resp := rfl
@[simp] theorem State.setFlash_fuses (a : Nat) (b : Byte) : (s.setFlash a b).fuses = s.fuses := rfl
@[simp] theorem State.setFlash_power (a : Nat) (b : Byte) : (s.setFlash a b).power = s.power := rfl
@[simp] theorem State.setFlash_pins (a : Nat) (b : Byte) : (s.setFlash a b).pins = s.pins := rfl
@[simp] theorem State.setFlash_held (a : Nat) (b : Byte) : (s.setFlash a b).held = s.held := rfl
@[simp] theorem State.setFlash_bar2 (a : Nat) (b : Byte) : (s.setFlash a b).bar2 = s.bar2 := rfl
@[simp] theorem State.setFlash_rwl (a : Nat) (b : Byte) : (s.setFlash a b).rwl = s.rwl := rfl
@[simp] theorem State.setFlash_boot (a : Nat) (b : Byte) : (s.setFlash a b).boot = s.boot := rfl
@[simp] theorem State.setFlash_nvmc (a : Nat) (b : Byte) : (s.setFlash a b).nvmc = s.nvmc := rfl
@[simp] theorem State.setFlash_time (a : Nat) (b : Byte) : (s.setFlash a b).time = s.time := rfl
@[simp] theorem State.setFlash_disp (a : Nat) (b : Byte) : (s.setFlash a b).disp = s.disp := rfl
@[simp] theorem State.setFlash_pig (a : Nat) (b : Byte) : (s.setFlash a b).pig = s.pig := rfl
@[simp] theorem State.setFlash_sort (a : Nat) (b : Byte) : (s.setFlash a b).sort = s.sort := rfl
@[simp] theorem State.setFlash_tables (a : Nat) (b : Byte) : (s.setFlash a b).tables = s.tables := rfl
@[simp] theorem State.setFlash_tm (a : Nat) (b : Byte) : (s.setFlash a b).tm = s.tm := rfl
@[simp] theorem State.setFlash_regsvc (a : Nat) (b : Byte) : (s.setFlash a b).regsvc = s.regsvc := rfl
@[simp] theorem State.setFlash_emacs (a : Nat) (b : Byte) : (s.setFlash a b).emacs = s.emacs := rfl
@[simp] theorem State.setFlash_wire (a : Nat) (b : Byte) : (s.setFlash a b).wire = s.wire := rfl
@[simp] theorem State.setFlash_dram (a : Nat) (b : Byte) : (s.setFlash a b).dram = s.dram := rfl
@[simp] theorem State.setFlash_air (a : Nat) (b : Byte) : (s.setFlash a b).air = s.air := rfl
@[simp] theorem State.setFlash_ldpc (a : Nat) (b : Byte) : (s.setFlash a b).ldpc = s.ldpc := rfl
@[simp] theorem State.setFlash_wmac (a : Nat) (b : Byte) : (s.setFlash a b).wmac = s.wmac := rfl
@[simp] theorem State.setFlash_rounds (a : Nat) (b : Byte) : (s.setFlash a b).rounds = s.rounds := rfl
@[simp] theorem State.setFlash_ngr (a : Nat) (b : Byte) : (s.setFlash a b).ngr = s.ngr := rfl
@[simp] theorem State.setFlash_ngl (a : Nat) (b : Byte) : (s.setFlash a b).ngl = s.ngl := rfl
@[simp] theorem State.setFlash_hostp (a : Nat) (b : Byte) : (s.setFlash a b).hostp = s.hostp := rfl
@[simp] theorem State.setFlash_keys (a : Nat) (b : Byte) : (s.setFlash a b).keys = s.keys := rfl
@[simp] theorem State.setFlash_sealer (a : Nat) (b : Byte) : (s.setFlash a b).sealer = s.sealer := rfl
@[simp] theorem State.setFlash_flt (a : Nat) (b : Byte) : (s.setFlash a b).flt = s.flt := rfl
@[simp] theorem State.setFlash_pending (a : Nat) (b : Byte) : (s.setFlash a b).pending = s.pending := rfl

/-! ### `answer` -/

@[simp] theorem State.answer_regs (v : DWord) : (s.answer v).regs = s.regs := rfl
@[simp] theorem State.answer_ctrs (v : DWord) : (s.answer v).ctrs = s.ctrs := rfl
@[simp] theorem State.answer_ctrShadow (v : DWord) : (s.answer v).ctrShadow = s.ctrShadow := rfl
@[simp] theorem State.answer_mem (v : DWord) : (s.answer v).mem = s.mem := rfl
@[simp] theorem State.answer_poison (v : DWord) : (s.answer v).poison = s.poison := rfl
@[simp] theorem State.answer_nvm (v : DWord) : (s.answer v).nvm = s.nvm := rfl
@[simp] theorem State.answer_hostMem (v : DWord) : (s.answer v).hostMem = s.hostMem := rfl
@[simp] theorem State.answer_fresh (v : DWord) : (s.answer v).fresh = s.fresh := rfl
@[simp] theorem State.answer_fuses (v : DWord) : (s.answer v).fuses = s.fuses := rfl
@[simp] theorem State.answer_power (v : DWord) : (s.answer v).power = s.power := rfl
@[simp] theorem State.answer_pins (v : DWord) : (s.answer v).pins = s.pins := rfl
@[simp] theorem State.answer_held (v : DWord) : (s.answer v).held = s.held := rfl
@[simp] theorem State.answer_bar2 (v : DWord) : (s.answer v).bar2 = s.bar2 := rfl
@[simp] theorem State.answer_rwl (v : DWord) : (s.answer v).rwl = s.rwl := rfl
@[simp] theorem State.answer_boot (v : DWord) : (s.answer v).boot = s.boot := rfl
@[simp] theorem State.answer_nvmc (v : DWord) : (s.answer v).nvmc = s.nvmc := rfl
@[simp] theorem State.answer_time (v : DWord) : (s.answer v).time = s.time := rfl
@[simp] theorem State.answer_disp (v : DWord) : (s.answer v).disp = s.disp := rfl
@[simp] theorem State.answer_pig (v : DWord) : (s.answer v).pig = s.pig := rfl
@[simp] theorem State.answer_sort (v : DWord) : (s.answer v).sort = s.sort := rfl
@[simp] theorem State.answer_tables (v : DWord) : (s.answer v).tables = s.tables := rfl
@[simp] theorem State.answer_tm (v : DWord) : (s.answer v).tm = s.tm := rfl
@[simp] theorem State.answer_regsvc (v : DWord) : (s.answer v).regsvc = s.regsvc := rfl
@[simp] theorem State.answer_emacs (v : DWord) : (s.answer v).emacs = s.emacs := rfl
@[simp] theorem State.answer_wire (v : DWord) : (s.answer v).wire = s.wire := rfl
@[simp] theorem State.answer_dram (v : DWord) : (s.answer v).dram = s.dram := rfl
@[simp] theorem State.answer_air (v : DWord) : (s.answer v).air = s.air := rfl
@[simp] theorem State.answer_ldpc (v : DWord) : (s.answer v).ldpc = s.ldpc := rfl
@[simp] theorem State.answer_wmac (v : DWord) : (s.answer v).wmac = s.wmac := rfl
@[simp] theorem State.answer_rounds (v : DWord) : (s.answer v).rounds = s.rounds := rfl
@[simp] theorem State.answer_ngr (v : DWord) : (s.answer v).ngr = s.ngr := rfl
@[simp] theorem State.answer_ngl (v : DWord) : (s.answer v).ngl = s.ngl := rfl
@[simp] theorem State.answer_hostp (v : DWord) : (s.answer v).hostp = s.hostp := rfl
@[simp] theorem State.answer_keys (v : DWord) : (s.answer v).keys = s.keys := rfl
@[simp] theorem State.answer_sealer (v : DWord) : (s.answer v).sealer = s.sealer := rfl
@[simp] theorem State.answer_flt (v : DWord) : (s.answer v).flt = s.flt := rfl
@[simp] theorem State.answer_pending (v : DWord) : (s.answer v).pending = s.pending := rfl

/-! ### `busError` -/

@[simp] theorem State.busError_regs (v : DWord) : (s.busError v).regs = s.regs := rfl
@[simp] theorem State.busError_ctrs (v : DWord) : (s.busError v).ctrs = s.ctrs := rfl
@[simp] theorem State.busError_ctrShadow (v : DWord) : (s.busError v).ctrShadow = s.ctrShadow := rfl
@[simp] theorem State.busError_mem (v : DWord) : (s.busError v).mem = s.mem := rfl
@[simp] theorem State.busError_poison (v : DWord) : (s.busError v).poison = s.poison := rfl
@[simp] theorem State.busError_nvm (v : DWord) : (s.busError v).nvm = s.nvm := rfl
@[simp] theorem State.busError_hostMem (v : DWord) : (s.busError v).hostMem = s.hostMem := rfl
@[simp] theorem State.busError_fresh (v : DWord) : (s.busError v).fresh = s.fresh := rfl
@[simp] theorem State.busError_fuses (v : DWord) : (s.busError v).fuses = s.fuses := rfl
@[simp] theorem State.busError_power (v : DWord) : (s.busError v).power = s.power := rfl
@[simp] theorem State.busError_pins (v : DWord) : (s.busError v).pins = s.pins := rfl
@[simp] theorem State.busError_held (v : DWord) : (s.busError v).held = s.held := rfl
@[simp] theorem State.busError_bar2 (v : DWord) : (s.busError v).bar2 = s.bar2 := rfl
@[simp] theorem State.busError_rwl (v : DWord) : (s.busError v).rwl = s.rwl := rfl
@[simp] theorem State.busError_boot (v : DWord) : (s.busError v).boot = s.boot := rfl
@[simp] theorem State.busError_nvmc (v : DWord) : (s.busError v).nvmc = s.nvmc := rfl
@[simp] theorem State.busError_time (v : DWord) : (s.busError v).time = s.time := rfl
@[simp] theorem State.busError_disp (v : DWord) : (s.busError v).disp = s.disp := rfl
@[simp] theorem State.busError_pig (v : DWord) : (s.busError v).pig = s.pig := rfl
@[simp] theorem State.busError_sort (v : DWord) : (s.busError v).sort = s.sort := rfl
@[simp] theorem State.busError_tables (v : DWord) : (s.busError v).tables = s.tables := rfl
@[simp] theorem State.busError_tm (v : DWord) : (s.busError v).tm = s.tm := rfl
@[simp] theorem State.busError_regsvc (v : DWord) : (s.busError v).regsvc = s.regsvc := rfl
@[simp] theorem State.busError_emacs (v : DWord) : (s.busError v).emacs = s.emacs := rfl
@[simp] theorem State.busError_wire (v : DWord) : (s.busError v).wire = s.wire := rfl
@[simp] theorem State.busError_dram (v : DWord) : (s.busError v).dram = s.dram := rfl
@[simp] theorem State.busError_air (v : DWord) : (s.busError v).air = s.air := rfl
@[simp] theorem State.busError_ldpc (v : DWord) : (s.busError v).ldpc = s.ldpc := rfl
@[simp] theorem State.busError_wmac (v : DWord) : (s.busError v).wmac = s.wmac := rfl
@[simp] theorem State.busError_rounds (v : DWord) : (s.busError v).rounds = s.rounds := rfl
@[simp] theorem State.busError_ngr (v : DWord) : (s.busError v).ngr = s.ngr := rfl
@[simp] theorem State.busError_ngl (v : DWord) : (s.busError v).ngl = s.ngl := rfl
@[simp] theorem State.busError_hostp (v : DWord) : (s.busError v).hostp = s.hostp := rfl
@[simp] theorem State.busError_keys (v : DWord) : (s.busError v).keys = s.keys := rfl
@[simp] theorem State.busError_sealer (v : DWord) : (s.busError v).sealer = s.sealer := rfl
@[simp] theorem State.busError_flt (v : DWord) : (s.busError v).flt = s.flt := rfl
@[simp] theorem State.busError_pending (v : DWord) : (s.busError v).pending = s.pending := rfl

/-! ### Registers under an update of another field -/

@[simp] theorem State.rd_of_ctrs (x : List (Nat × DWord)) (a : Nat) : ({ s with ctrs := x } : State).rd a = s.rd a := rfl
@[simp] theorem State.fld_of_ctrs (x : List (Nat × DWord)) (f : Fld) : ({ s with ctrs := x } : State).fld f = s.fld f := rfl
@[simp] theorem State.rd_of_ctrShadow (x : List (Nat × Option Word)) (a : Nat) : ({ s with ctrShadow := x } : State).rd a = s.rd a := rfl
@[simp] theorem State.fld_of_ctrShadow (x : List (Nat × Option Word)) (f : Fld) : ({ s with ctrShadow := x } : State).fld f = s.fld f := rfl
@[simp] theorem State.rd_of_mem (x : List (Nat × Byte)) (a : Nat) : ({ s with mem := x } : State).rd a = s.rd a := rfl
@[simp] theorem State.fld_of_mem (x : List (Nat × Byte)) (f : Fld) : ({ s with mem := x } : State).fld f = s.fld f := rfl
@[simp] theorem State.rd_of_poison (x : List Nat) (a : Nat) : ({ s with poison := x } : State).rd a = s.rd a := rfl
@[simp] theorem State.fld_of_poison (x : List Nat) (f : Fld) : ({ s with poison := x } : State).fld f = s.fld f := rfl
@[simp] theorem State.rd_of_nvm (x : List (Nat × Byte)) (a : Nat) : ({ s with nvm := x } : State).rd a = s.rd a := rfl
@[simp] theorem State.fld_of_nvm (x : List (Nat × Byte)) (f : Fld) : ({ s with nvm := x } : State).fld f = s.fld f := rfl
@[simp] theorem State.rd_of_hostMem (x : List (Nat × Byte)) (a : Nat) : ({ s with hostMem := x } : State).rd a = s.rd a := rfl
@[simp] theorem State.fld_of_hostMem (x : List (Nat × Byte)) (f : Fld) : ({ s with hostMem := x } : State).fld f = s.fld f := rfl
@[simp] theorem State.rd_of_fresh (x : Nat) (a : Nat) : ({ s with fresh := x } : State).rd a = s.rd a := rfl
@[simp] theorem State.fld_of_fresh (x : Nat) (f : Fld) : ({ s with fresh := x } : State).fld f = s.fld f := rfl
@[simp] theorem State.rd_of_resp (x : BusResp) (a : Nat) : ({ s with resp := x } : State).rd a = s.rd a := rfl
@[simp] theorem State.fld_of_resp (x : BusResp) (f : Fld) : ({ s with resp := x } : State).fld f = s.fld f := rfl
@[simp] theorem State.rd_of_fuses (x : Fuses) (a : Nat) : ({ s with fuses := x } : State).rd a = s.rd a := rfl
@[simp] theorem State.fld_of_fuses (x : Fuses) (f : Fld) : ({ s with fuses := x } : State).fld f = s.fld f := rfl
@[simp] theorem State.rd_of_power (x : PowerSt) (a : Nat) : ({ s with power := x } : State).rd a = s.rd a := rfl
@[simp] theorem State.fld_of_power (x : PowerSt) (f : Fld) : ({ s with power := x } : State).fld f = s.fld f := rfl
@[simp] theorem State.rd_of_pins (x : PinSt) (a : Nat) : ({ s with pins := x } : State).rd a = s.rd a := rfl
@[simp] theorem State.fld_of_pins (x : PinSt) (f : Fld) : ({ s with pins := x } : State).fld f = s.fld f := rfl
@[simp] theorem State.rd_of_held (x : List (Nat × Instr)) (a : Nat) : ({ s with held := x } : State).rd a = s.rd a := rfl
@[simp] theorem State.fld_of_held (x : List (Nat × Instr)) (f : Fld) : ({ s with held := x } : State).fld f = s.fld f := rfl
@[simp] theorem State.rd_of_bar2 (x : List HostAccess) (a : Nat) : ({ s with bar2 := x } : State).rd a = s.rd a := rfl
@[simp] theorem State.fld_of_bar2 (x : List HostAccess) (f : Fld) : ({ s with bar2 := x } : State).fld f = s.fld f := rfl
@[simp] theorem State.rd_of_rwl (x : List RwlWrite) (a : Nat) : ({ s with rwl := x } : State).rd a = s.rd a := rfl
@[simp] theorem State.fld_of_rwl (x : List RwlWrite) (f : Fld) : ({ s with rwl := x } : State).fld f = s.fld f := rfl
@[simp] theorem State.rd_of_boot (x : BootSt) (a : Nat) : ({ s with boot := x } : State).rd a = s.rd a := rfl
@[simp] theorem State.fld_of_boot (x : BootSt) (f : Fld) : ({ s with boot := x } : State).fld f = s.fld f := rfl
@[simp] theorem State.rd_of_nvmc (x : Option NvmOp) (a : Nat) : ({ s with nvmc := x } : State).rd a = s.rd a := rfl
@[simp] theorem State.fld_of_nvmc (x : Option NvmOp) (f : Fld) : ({ s with nvmc := x } : State).fld f = s.fld f := rfl
@[simp] theorem State.rd_of_time (x : TimeSt) (a : Nat) : ({ s with time := x } : State).rd a = s.rd a := rfl
@[simp] theorem State.fld_of_time (x : TimeSt) (f : Fld) : ({ s with time := x } : State).fld f = s.fld f := rfl
@[simp] theorem State.rd_of_disp (x : DispSt) (a : Nat) : ({ s with disp := x } : State).rd a = s.rd a := rfl
@[simp] theorem State.fld_of_disp (x : DispSt) (f : Fld) : ({ s with disp := x } : State).fld f = s.fld f := rfl
@[simp] theorem State.rd_of_pig (x : List (Nat × PigFifo)) (a : Nat) : ({ s with pig := x } : State).rd a = s.rd a := rfl
@[simp] theorem State.fld_of_pig (x : List (Nat × PigFifo)) (f : Fld) : ({ s with pig := x } : State).fld f = s.fld f := rfl
@[simp] theorem State.rd_of_sort (x : SortSt) (a : Nat) : ({ s with sort := x } : State).rd a = s.rd a := rfl
@[simp] theorem State.fld_of_sort (x : SortSt) (f : Fld) : ({ s with sort := x } : State).fld f = s.fld f := rfl
@[simp] theorem State.rd_of_tables (x : TablesSt) (a : Nat) : ({ s with tables := x } : State).rd a = s.rd a := rfl
@[simp] theorem State.fld_of_tables (x : TablesSt) (f : Fld) : ({ s with tables := x } : State).fld f = s.fld f := rfl
@[simp] theorem State.rd_of_tm (x : TmSt) (a : Nat) : ({ s with tm := x } : State).rd a = s.rd a := rfl
@[simp] theorem State.fld_of_tm (x : TmSt) (f : Fld) : ({ s with tm := x } : State).fld f = s.fld f := rfl
@[simp] theorem State.rd_of_regsvc (x : RegSt) (a : Nat) : ({ s with regsvc := x } : State).rd a = s.rd a := rfl
@[simp] theorem State.fld_of_regsvc (x : RegSt) (f : Fld) : ({ s with regsvc := x } : State).fld f = s.fld f := rfl
@[simp] theorem State.rd_of_emacs (x : List (Nat × EmacSt)) (a : Nat) : ({ s with emacs := x } : State).rd a = s.rd a := rfl
@[simp] theorem State.fld_of_emacs (x : List (Nat × EmacSt)) (f : Fld) : ({ s with emacs := x } : State).fld f = s.fld f := rfl
@[simp] theorem State.rd_of_wire (x : List (Nat × List Byte)) (a : Nat) : ({ s with wire := x } : State).rd a = s.rd a := rfl
@[simp] theorem State.fld_of_wire (x : List (Nat × List Byte)) (f : Fld) : ({ s with wire := x } : State).fld f = s.fld f := rfl
@[simp] theorem State.rd_of_dram (x : DramSt) (a : Nat) : ({ s with dram := x } : State).rd a = s.rd a := rfl
@[simp] theorem State.fld_of_dram (x : DramSt) (f : Fld) : ({ s with dram := x } : State).fld f = s.fld f := rfl
@[simp] theorem State.rd_of_air (x : AirSt) (a : Nat) : ({ s with air := x } : State).rd a = s.rd a := rfl
@[simp] theorem State.fld_of_air (x : AirSt) (f : Fld) : ({ s with air := x } : State).fld f = s.fld f := rfl
@[simp] theorem State.rd_of_ldpc (x : LdpcSt) (a : Nat) : ({ s with ldpc := x } : State).rd a = s.rd a := rfl
@[simp] theorem State.fld_of_ldpc (x : LdpcSt) (f : Fld) : ({ s with ldpc := x } : State).fld f = s.fld f := rfl
@[simp] theorem State.rd_of_wmac (x : WmacSt) (a : Nat) : ({ s with wmac := x } : State).rd a = s.rd a := rfl
@[simp] theorem State.fld_of_wmac (x : WmacSt) (f : Fld) : ({ s with wmac := x } : State).fld f = s.fld f := rfl
@[simp] theorem State.rd_of_rounds (x : RoundsSt) (a : Nat) : ({ s with rounds := x } : State).rd a = s.rd a := rfl
@[simp] theorem State.fld_of_rounds (x : RoundsSt) (f : Fld) : ({ s with rounds := x } : State).fld f = s.fld f := rfl
@[simp] theorem State.rd_of_ngr (x : NgrSt) (a : Nat) : ({ s with ngr := x } : State).rd a = s.rd a := rfl
@[simp] theorem State.fld_of_ngr (x : NgrSt) (f : Fld) : ({ s with ngr := x } : State).fld f = s.fld f := rfl
@[simp] theorem State.rd_of_ngl (x : NglSt) (a : Nat) : ({ s with ngl := x } : State).rd a = s.rd a := rfl
@[simp] theorem State.fld_of_ngl (x : NglSt) (f : Fld) : ({ s with ngl := x } : State).fld f = s.fld f := rfl
@[simp] theorem State.rd_of_hostp (x : HostSt) (a : Nat) : ({ s with hostp := x } : State).rd a = s.rd a := rfl
@[simp] theorem State.fld_of_hostp (x : HostSt) (f : Fld) : ({ s with hostp := x } : State).fld f = s.fld f := rfl
@[simp] theorem State.rd_of_keys (x : KeysSt) (a : Nat) : ({ s with keys := x } : State).rd a = s.rd a := rfl
@[simp] theorem State.fld_of_keys (x : KeysSt) (f : Fld) : ({ s with keys := x } : State).fld f = s.fld f := rfl
@[simp] theorem State.rd_of_sealer (x : SealSt) (a : Nat) : ({ s with sealer := x } : State).rd a = s.rd a := rfl
@[simp] theorem State.fld_of_sealer (x : SealSt) (f : Fld) : ({ s with sealer := x } : State).fld f = s.fld f := rfl
@[simp] theorem State.rd_of_flt (x : FaultSt) (a : Nat) : ({ s with flt := x } : State).rd a = s.rd a := rfl
@[simp] theorem State.fld_of_flt (x : FaultSt) (f : Fld) : ({ s with flt := x } : State).fld f = s.fld f := rfl
@[simp] theorem State.rd_of_pending (x : List Instr) (a : Nat) : ({ s with pending := x } : State).rd a = s.rd a := rfl
@[simp] theorem State.fld_of_pending (x : List Instr) (f : Fld) : ({ s with pending := x } : State).fld f = s.fld f := rfl

@[simp] theorem State.rd_count (a n : Nat) (i : Nat) : (s.count a n).rd i = s.rd i := rfl
@[simp] theorem State.fld_count (a n : Nat) (g : Fld) : (s.count a n).fld g = s.fld g := rfl
@[simp] theorem State.rd_clearCtr (a : Nat) (i : Nat) : (s.clearCtr a).rd i = s.rd i := rfl
@[simp] theorem State.fld_clearCtr (a : Nat) (g : Fld) : (s.clearCtr a).fld g = s.fld g := rfl
@[simp] theorem State.rd_setByte (a : Nat) (b : Byte) (i : Nat) : (s.setByte a b).rd i = s.rd i := rfl
@[simp] theorem State.fld_setByte (a : Nat) (b : Byte) (g : Fld) : (s.setByte a b).fld g = s.fld g := rfl
@[simp] theorem State.rd_setFlash (a : Nat) (b : Byte) (i : Nat) : (s.setFlash a b).rd i = s.rd i := rfl
@[simp] theorem State.fld_setFlash (a : Nat) (b : Byte) (g : Fld) : (s.setFlash a b).fld g = s.fld g := rfl
@[simp] theorem State.rd_answer (v : DWord) (i : Nat) : (s.answer v).rd i = s.rd i := rfl
@[simp] theorem State.fld_answer (v : DWord) (g : Fld) : (s.answer v).fld g = s.fld g := rfl
@[simp] theorem State.rd_busError (v : DWord) (i : Nat) : (s.busError v).rd i = s.rd i := rfl
@[simp] theorem State.fld_busError (v : DWord) (g : Fld) : (s.busError v).fld g = s.fld g := rfl

/-! ### Counters under an update of another field -/

@[simp] theorem State.ctr_of_regs (x : List (Nat × Word)) (a : Nat) : ({ s with regs := x } : State).ctr a = s.ctr a := rfl
@[simp] theorem State.ctr_of_ctrShadow (x : List (Nat × Option Word)) (a : Nat) : ({ s with ctrShadow := x } : State).ctr a = s.ctr a := rfl
@[simp] theorem State.ctr_of_mem (x : List (Nat × Byte)) (a : Nat) : ({ s with mem := x } : State).ctr a = s.ctr a := rfl
@[simp] theorem State.ctr_of_poison (x : List Nat) (a : Nat) : ({ s with poison := x } : State).ctr a = s.ctr a := rfl
@[simp] theorem State.ctr_of_nvm (x : List (Nat × Byte)) (a : Nat) : ({ s with nvm := x } : State).ctr a = s.ctr a := rfl
@[simp] theorem State.ctr_of_hostMem (x : List (Nat × Byte)) (a : Nat) : ({ s with hostMem := x } : State).ctr a = s.ctr a := rfl
@[simp] theorem State.ctr_of_fresh (x : Nat) (a : Nat) : ({ s with fresh := x } : State).ctr a = s.ctr a := rfl
@[simp] theorem State.ctr_of_resp (x : BusResp) (a : Nat) : ({ s with resp := x } : State).ctr a = s.ctr a := rfl
@[simp] theorem State.ctr_of_fuses (x : Fuses) (a : Nat) : ({ s with fuses := x } : State).ctr a = s.ctr a := rfl
@[simp] theorem State.ctr_of_power (x : PowerSt) (a : Nat) : ({ s with power := x } : State).ctr a = s.ctr a := rfl
@[simp] theorem State.ctr_of_pins (x : PinSt) (a : Nat) : ({ s with pins := x } : State).ctr a = s.ctr a := rfl
@[simp] theorem State.ctr_of_held (x : List (Nat × Instr)) (a : Nat) : ({ s with held := x } : State).ctr a = s.ctr a := rfl
@[simp] theorem State.ctr_of_bar2 (x : List HostAccess) (a : Nat) : ({ s with bar2 := x } : State).ctr a = s.ctr a := rfl
@[simp] theorem State.ctr_of_rwl (x : List RwlWrite) (a : Nat) : ({ s with rwl := x } : State).ctr a = s.ctr a := rfl
@[simp] theorem State.ctr_of_boot (x : BootSt) (a : Nat) : ({ s with boot := x } : State).ctr a = s.ctr a := rfl
@[simp] theorem State.ctr_of_nvmc (x : Option NvmOp) (a : Nat) : ({ s with nvmc := x } : State).ctr a = s.ctr a := rfl
@[simp] theorem State.ctr_of_time (x : TimeSt) (a : Nat) : ({ s with time := x } : State).ctr a = s.ctr a := rfl
@[simp] theorem State.ctr_of_disp (x : DispSt) (a : Nat) : ({ s with disp := x } : State).ctr a = s.ctr a := rfl
@[simp] theorem State.ctr_of_pig (x : List (Nat × PigFifo)) (a : Nat) : ({ s with pig := x } : State).ctr a = s.ctr a := rfl
@[simp] theorem State.ctr_of_sort (x : SortSt) (a : Nat) : ({ s with sort := x } : State).ctr a = s.ctr a := rfl
@[simp] theorem State.ctr_of_tables (x : TablesSt) (a : Nat) : ({ s with tables := x } : State).ctr a = s.ctr a := rfl
@[simp] theorem State.ctr_of_tm (x : TmSt) (a : Nat) : ({ s with tm := x } : State).ctr a = s.ctr a := rfl
@[simp] theorem State.ctr_of_regsvc (x : RegSt) (a : Nat) : ({ s with regsvc := x } : State).ctr a = s.ctr a := rfl
@[simp] theorem State.ctr_of_emacs (x : List (Nat × EmacSt)) (a : Nat) : ({ s with emacs := x } : State).ctr a = s.ctr a := rfl
@[simp] theorem State.ctr_of_wire (x : List (Nat × List Byte)) (a : Nat) : ({ s with wire := x } : State).ctr a = s.ctr a := rfl
@[simp] theorem State.ctr_of_dram (x : DramSt) (a : Nat) : ({ s with dram := x } : State).ctr a = s.ctr a := rfl
@[simp] theorem State.ctr_of_air (x : AirSt) (a : Nat) : ({ s with air := x } : State).ctr a = s.ctr a := rfl
@[simp] theorem State.ctr_of_ldpc (x : LdpcSt) (a : Nat) : ({ s with ldpc := x } : State).ctr a = s.ctr a := rfl
@[simp] theorem State.ctr_of_wmac (x : WmacSt) (a : Nat) : ({ s with wmac := x } : State).ctr a = s.ctr a := rfl
@[simp] theorem State.ctr_of_rounds (x : RoundsSt) (a : Nat) : ({ s with rounds := x } : State).ctr a = s.ctr a := rfl
@[simp] theorem State.ctr_of_ngr (x : NgrSt) (a : Nat) : ({ s with ngr := x } : State).ctr a = s.ctr a := rfl
@[simp] theorem State.ctr_of_ngl (x : NglSt) (a : Nat) : ({ s with ngl := x } : State).ctr a = s.ctr a := rfl
@[simp] theorem State.ctr_of_hostp (x : HostSt) (a : Nat) : ({ s with hostp := x } : State).ctr a = s.ctr a := rfl
@[simp] theorem State.ctr_of_keys (x : KeysSt) (a : Nat) : ({ s with keys := x } : State).ctr a = s.ctr a := rfl
@[simp] theorem State.ctr_of_sealer (x : SealSt) (a : Nat) : ({ s with sealer := x } : State).ctr a = s.ctr a := rfl
@[simp] theorem State.ctr_of_flt (x : FaultSt) (a : Nat) : ({ s with flt := x } : State).ctr a = s.ctr a := rfl
@[simp] theorem State.ctr_of_pending (x : List Instr) (a : Nat) : ({ s with pending := x } : State).ctr a = s.ctr a := rfl
@[simp] theorem State.ctr_wr (a : Nat) (v : Word) (i : Nat) : (s.wr a v).ctr i = s.ctr i := rfl
@[simp] theorem State.ctr_setFld (f : Fld) (v : Nat) (i : Nat) : (s.setFld f v).ctr i = s.ctr i := rfl
@[simp] theorem State.ctr_setByte (a : Nat) (b : Byte) (i : Nat) : (s.setByte a b).ctr i = s.ctr i := rfl
@[simp] theorem State.ctr_setFlash (a : Nat) (b : Byte) (i : Nat) : (s.setFlash a b).ctr i = s.ctr i := rfl
@[simp] theorem State.ctr_answer (v : DWord) (i : Nat) : (s.answer v).ctr i = s.ctr i := rfl
@[simp] theorem State.ctr_busError (v : DWord) (i : Nat) : (s.busError v).ctr i = s.ctr i := rfl

/-! ### Bytes under an update of another field -/

@[simp] theorem State.byte_wr (a : Nat) (v : Word) (i : Nat) : (s.wr a v).byte i = s.byte i := rfl
@[simp] theorem State.byte_setFld (f : Fld) (v : Nat) (i : Nat) : (s.setFld f v).byte i = s.byte i := rfl
@[simp] theorem State.byte_count (a n : Nat) (i : Nat) : (s.count a n).byte i = s.byte i := rfl
@[simp] theorem State.byte_clearCtr (a : Nat) (i : Nat) : (s.clearCtr a).byte i = s.byte i := rfl
@[simp] theorem State.byte_setFlash (a : Nat) (b : Byte) (i : Nat) : (s.setFlash a b).byte i = s.byte i := rfl
@[simp] theorem State.byte_answer (v : DWord) (i : Nat) : (s.answer v).byte i = s.byte i := rfl
@[simp] theorem State.byte_busError (v : DWord) (i : Nat) : (s.busError v).byte i = s.byte i := rfl

end Sys2Proof.Machine
end

