-- ==== Sys2Proof/Laws/Ops.lean ====
section
/-! SUPPORT. What each shared operation does, said once: registers and fields after a write, counters, refused writes,
events presented to FAULT, memory; and that every memory operation keeps the canonical form. -/

namespace Sys2Proof.Machine

variable (s : State)

/-! ### Registers -/

/-- A register after a write of any register. -/
theorem State.rd_wr (a : Nat) (v : Word) (b : Nat) : (s.wr a v).rd b = if b = a then v else s.rd b :=
  sget_sput resetWord s.regs a v b

/-- The register just written. -/
@[simp] theorem State.rd_wr_same (a : Nat) (v : Word) : (s.wr a v).rd a = v := by simp [State.rd_wr]

/-- Any other register. -/
theorem State.rd_wr_ne {a b : Nat} (v : Word) (h : b ≠ a) : (s.wr a v).rd b = s.rd b := by simp [State.rd_wr, h]

/-- A register after a write of a field. -/
theorem State.rd_setFld (f : Fld) (v b : Nat) :
    (s.setFld f v).rd b = if b = f.addr then setBits (s.rd f.addr) f.lo f.len v else s.rd b := State.rd_wr s _ _ b

/-- A register other than the field's own. -/
theorem State.rd_setFld_ne (f : Fld) (v : Nat) {b : Nat} (h : b ≠ f.addr) : (s.setFld f v).rd b = s.rd b := by
  simp [State.rd_setFld, h]

/-- The field just written, at its width. -/
theorem State.fld_setFld_same (f : Fld) (v : Nat) (h : f.lo + f.len ≤ 32) : (s.setFld f v).fld f = v % 2 ^ f.len := by
  simp [State.fld, State.rd_setFld, getBits_setBits_same, h]

/-- A field of another register. -/
theorem State.fld_setFld_ne (f g : Fld) (v : Nat) (h : g.addr ≠ f.addr) : (s.setFld f v).fld g = s.fld g := by
  simp [State.fld, State.rd_setFld, h]

/-- A field of the same register that does not meet the one written. -/
theorem State.fld_setFld_apart (f g : Fld) (v : Nat) (hg : g.lo + g.len ≤ 32)
    (h : g.lo + g.len ≤ f.lo ∨ f.lo + f.len ≤ g.lo) : (s.setFld f v).fld g = s.fld g := by
  by_cases ha : g.addr = f.addr
  · simp [State.fld, State.rd_setFld, ha, getBits_setBits_other _ _ _ _ _ _ hg h]
  · exact State.fld_setFld_ne s f g v ha

/-- A field after a write of a whole register. -/
theorem State.fld_wr (a : Nat) (v : Word) (g : Fld) :
    (s.wr a v).fld g = if g.addr = a then getBits v g.lo g.len else s.fld g := by
  unfold State.fld; rw [State.rd_wr]; split <;> rfl

/-! ### Counters -/

/-- A counter after an addition to any counter. -/
theorem State.ctr_count (a n b : Nat) :
    (s.count a n).ctr b = if b = a then s.ctr a + BitVec.ofNat 64 n else s.ctr b := sget_sput _ s.ctrs a _ b

/-- A counter after a counter is cleared. -/
theorem State.ctr_clearCtr (a b : Nat) : (s.clearCtr a).ctr b = if b = a then 0 else s.ctr b :=
  sget_sput (fun _ => 0) s.ctrs a 0 b

/-! ### Memory -/

/-- A byte of device memory after a store. -/
theorem State.byte_setByte (a : Nat) (b : Byte) (c : Nat) : (s.setByte a b).byte c = if c = a then b else s.byte c :=
  sget_sput memDefault s.mem a b c

/-- A byte of flash after a store. -/
theorem State.flashByte_setFlash (a : Nat) (b : Byte) (c : Nat) :
    (s.setFlash a b).flashByte c = if c = a then b else s.flashByte c := sget_sput _ s.nvm a b c

/-- Storing a byte keeps the memory's form. -/
theorem State.setByte_wf (a : Nat) (b : Byte) (h : Memory.wf s.mem = true) : Memory.wf (s.setByte a b).mem = true :=
  swf_sput memDefault s.mem a b h

/-- Storing a byte of flash keeps its form. -/
theorem State.setFlash_wf (a : Nat) (b : Byte) (h : Flash.wf s.nvm = true) : Flash.wf (s.setFlash a b).nvm = true :=
  swf_sput _ s.nvm a b h

/-- Storing bytes keeps the memory's form. -/
theorem State.storeBytes_wf (bs : List Byte) :
    ∀ (s : State) (a : Nat), Memory.wf s.mem = true → Memory.wf (s.storeBytes a bs).mem = true := by
  induction bs with
  | nil => intro s a h; exact h
  | cons b bs ih =>
    intro s a h
    apply ih
    split
    · exact State.setByte_wf s a b h
    · exact h

/-- Storing bytes leaves the bytes outside them. -/
theorem State.storeBytes_byte (bs : List Byte) :
    ∀ (s : State) (a c : Nat), c < a ∨ a + bs.length ≤ c → (s.storeBytes a bs).byte c = s.byte c := by
  induction bs with
  | nil => intro s a c _; rfl
  | cons b bs ih =>
    intro s a c h
    simp only [List.length_cons] at h
    show ((if s.mapped a then s.setByte a b else s).storeBytes (a + 1) bs).byte c = s.byte c
    rw [ih _ (a + 1) c (by omega)]
    split
    · rw [State.byte_setByte]; have : c ≠ a := by omega
      simp [this]
    · rfl

/-- An event presented to FAULT leaves everything but FAULT's queue, its registers and its counters. -/
theorem State.presentEv_mem (e : FaultEv) : (s.presentEv e).mem = s.mem ∧ (s.presentEv e).nvm = s.nvm ∧
    (s.presentEv e).hostMem = s.hostMem ∧ (s.presentEv e).fuses = s.fuses ∧ (s.presentEv e).pending = s.pending := by
  unfold State.presentEv
  split
  · exact ⟨rfl, rfl, rfl, rfl, rfl⟩
  · exact ⟨rfl, rfl, rfl, rfl, rfl⟩

/-- Logging a DMA access that meets a hole leaves the memories. -/
theorem State.logDma_mem (a n : Nat) : (s.logDma a n).mem = s.mem ∧ (s.logDma a n).hostMem = s.hostMem ∧
    (s.logDma a n).pending = s.pending := by
  unfold State.logDma
  split
  · exact ⟨(State.presentEv_mem s _).1, (State.presentEv_mem s _).2.2.1, (State.presentEv_mem s _).2.2.2.2⟩
  · exact ⟨rfl, rfl, rfl⟩

/-- A DMA write keeps the memory's form. -/
theorem State.dmaWrite_wf (a : Nat) (bs : List Byte) (h : Memory.wf s.mem = true) :
    Memory.wf (s.dmaWrite a bs).mem = true := by
  unfold State.dmaWrite
  apply State.storeBytes_wf
  rw [(State.logDma_mem s a bs.length).1]; exact h

/-- A DMA write leaves the bytes outside its range. -/
theorem State.dmaWrite_byte (a : Nat) (bs : List Byte) (c : Nat) (h : c < a ∨ a + bs.length ≤ c) :
    (s.dmaWrite a bs).byte c = s.byte c := by
  unfold State.dmaWrite
  show (State.storeBytes _ a bs).byte c = s.byte c
  rw [State.storeBytes_byte bs _ a c h]
  show sget memDefault (s.logDma a bs.length).mem c = s.byte c
  rw [(State.logDma_mem s a bs.length).1]; rfl

/-- Storing bytes in host memory keeps its form. -/
theorem State.hostWrite_wf (bs : List Byte) :
    ∀ (s : State) (a : Nat), Memory.wf s.hostMem = true → Memory.wf (s.hostWrite a bs).hostMem = true := by
  induction bs with
  | nil => intro s a h; exact h
  | cons b bs ih => intro s a h; exact ih _ _ (swf_sput memDefault s.hostMem a b h)

/-! ### Registers and counters keep the form -/

/-- A register write keeps the form of the registers. -/
theorem State.wr_regs_wf (a : Nat) (v : Word) (h : swf resetWord s.regs = true) :
    swf resetWord (s.wr a v).regs = true := swf_sput resetWord s.regs a v h

/-- Counting keeps the form of the counters. -/
theorem State.count_ctrs_wf (a n : Nat) (h : swf (fun _ => (0 : DWord)) s.ctrs = true) :
    swf (fun _ => (0 : DWord)) (s.count a n).ctrs = true := swf_sput _ s.ctrs a _ h

/-- A register write keeps the canonical form. -/
theorem State.canonical_wr (a : Nat) (v : Word) (h : s.canonical) : (s.wr a v).canonical :=
  ⟨h.1, h.2.1, h.2.2.1, State.wr_regs_wf s a v h.2.2.2.1, h.2.2.2.2⟩

/-- A field write keeps the canonical form. -/
theorem State.canonical_setFld (f : Fld) (v : Nat) (h : s.canonical) : (s.setFld f v).canonical :=
  State.canonical_wr s _ _ h

/-- Counting keeps the canonical form. -/
theorem State.canonical_count (a n : Nat) (h : s.canonical) : (s.count a n).canonical :=
  ⟨h.1, h.2.1, h.2.2.1, h.2.2.2.1, State.count_ctrs_wf s a n h.2.2.2.2⟩

/-- A refused write changes CFG_STATUS of its block and nothing else. -/
theorem State.refuse_rd (a : Nat) (c : RefCode) (b : Nat) (h : b ≠ cfgStatusOf a) : (s.refuse a c).rd b = s.rd b := by
  unfold State.refuse
  dsimp only
  split <;> exact State.rd_wr_ne s _ h

/-- A refusal keeps the canonical form. -/
theorem State.canonical_refuse (a : Nat) (c : RefCode) (h : s.canonical) : (s.refuse a c).canonical := by
  unfold State.refuse
  dsimp only
  split <;> exact State.canonical_wr s _ _ h

/-- An event presented keeps the canonical form. -/
theorem State.canonical_presentEv (e : FaultEv) (h : s.canonical) : (s.presentEv e).canonical := by
  unfold State.presentEv
  split
  · exact h
  · exact State.canonical_count _ _ _ (State.canonical_count _ _ _ (State.canonical_wr _ _ _ h))

end Sys2Proof.Machine
end

