-- ==== Sys2Proof/Laws/Frames.lean ====
section
/-! SUPPORT. Frames: how the statements' "nothing else has changed" goes through the shared operations. -/

namespace Sys2Proof.Machine

variable {s t : State}

/-- Nothing has changed yet. -/
theorem onlyFields_refl (s : State) (fs : List Fld) : onlyFields s s fs := fun _ _ _ => rfl

/-- A write of a listed field. -/
theorem onlyFields_setFld {fs : List Fld} (f : Fld) (v : Nat) (hf : f ∈ fs) (h : onlyFields s t fs) :
    onlyFields s (t.setFld f v) fs := by
  intro g hg hd
  rw [← h g hg hd]
  rcases hd f hf with h1 | h2
  · exact State.fld_setFld_ne t f g v h1
  · exact State.fld_setFld_apart t f g v hg h2

/-- A write of a register that is listed whole. -/
theorem onlyFields_wr {fs : List Fld} (a : Nat) (v : Word) (hf : whole a ∈ fs) (h : onlyFields s t fs) :
    onlyFields s (t.wr a v) fs := by
  intro g hg hd
  rcases hd _ hf with h1 | h2
  · rw [← h g hg hd, State.fld_wr]
    have h1 : g.addr ≠ a := h1
    simp [h1]
  · simp only [whole] at h2
    have hlen : g.len = 0 ∨ 32 ≤ g.lo := by omega
    have hz : g.len = 0 := by omega
    simp [State.fld, getBits, hz, Nat.mod_one]

/-- An update that leaves the registers. -/
theorem onlyFields_of_regs {fs : List Fld} {u : State} (hr : u.regs = t.regs) (h : onlyFields s t fs) :
    onlyFields s u fs := by
  intro g hg hd
  rw [← h g hg hd]
  simp only [State.fld, State.rd, hr]

/-- Nothing has been counted yet. -/
theorem onlyCtrs_refl (s : State) (cs : List Nat) : onlyCtrs s s cs := fun _ _ => rfl

/-- An addition to a listed counter. -/
theorem onlyCtrs_count {cs : List Nat} (a n : Nat) (ha : a ∈ cs) (h : onlyCtrs s t cs) : onlyCtrs s (t.count a n) cs := by
  intro b hb
  have : b ≠ a := fun e => hb (e ▸ ha)
  rw [State.ctr_count]; simp [this, h b hb]

/-- An update that leaves the counters. -/
theorem onlyCtrs_of_ctrs {cs : List Nat} {u : State} (hr : u.ctrs = t.ctrs) (h : onlyCtrs s t cs) : onlyCtrs s u cs := by
  intro b hb
  rw [← h b hb]
  simp only [State.ctr, hr]

/-- Words written to consecutive registers leave every other register. -/
theorem State.rd_wrWords_ne (s : State) (a : Nat) (count b : Nat) (f : Nat → Word)
    (h : ∀ n < count, b ≠ a + 4 * n) :
    ((List.range count).foldl (fun t n => t.wr (a + 4 * n) (f n)) s).rd b = s.rd b := by
  induction count with
  | zero => rfl
  | succ k ih =>
    rw [List.range_succ, List.foldl_append]
    simp only [List.foldl_cons, List.foldl_nil]
    rw [State.rd_wr_ne _ _ (h k (by omega)), ih (fun n hn => h n (by omega))]

end Sys2Proof.Machine
end

