-- ==== Sys2Proof/Tests/Help.lean ====
section
/-! SUPPORT. Small states for the tests and the witnesses. -/

namespace Sys2Proof.Tests

open Sys2Proof.Machine

/-- Reset, after its PLLs have locked (R95). -/
def up : State := State.reset.setFld F.CKGEN_PLL_STATUS_LOCK 0x1F

/-- That state with some fields set. -/
def fl (xs : List (Fld × Nat)) : State := xs.foldl (fun s x => s.setFld x.1 x.2) up

/-- A state with some fields set. -/
def setF (s : State) (xs : List (Fld × Nat)) : State := xs.foldl (fun s x => s.setFld x.1 x.2) s

/-- A state with some registers written. -/
def setR (s : State) (xs : List (Nat × Word)) : State := xs.foldl (fun s x => s.wr x.1 x.2) s

/-- Radio r runs, with `x` beside its registers and some fields set. -/
def rad (r : Nat) (x : RadioSt) (xs : List (Fld × Nat)) : State :=
  { fl ((F.RADIO_SYNTH_STATUS_LOCK r, 1) :: xs) with air := { radios := [(r, { x with seq := .running })] } }

/-- Rounds run on radio r, with a QUIET segment of 4 ms at the start of each. -/
def quietSeg (r : Nat) : List (Fld × Nat) :=
  [(F.ROUNDS_RCFG_EN r, 1), (F.ROUNDS_RCFG_ROUND_LEN_US r, 20000), (F.ROUNDS_SEG_W0_LEN_US r 0 0, 4000), (F.ROUNDS_SEG_W1_KIND r 0 0, 3)]

/-- A premise on every value of an empty option. -/
theorem none_all {α : Type} {o : Option α} {P : α → Prop} (h : o = none) : ∀ x, o = some x → P x := by
  intro x hx; rw [h] at hx; cases hx

/-- A peer's context: valid and authorised, AID 1, link 0 on BSS 0, every TID on link 0 (R254). -/
def peer : List Word := [0x84000001, 0, 0, 0x80000000, 0, 0, 0, 0, 0, 0, 0, 0, 0x249249, 0x249249] ++ List.replicate 16 0

/-- BSS 0 is enabled on radio 0, and peer 1 has the context `ws`. -/
def assoc (ws : List Word) (w : WmacSt) : State :=
  { up.wr (A.WMAC_BSS 0 0) 0x80000000 with wmac := { w with ctx := [(1, ws)] } }

/-- The staging record of WMAC holds `ws`. -/
def staged (s : State) (ws : List Word) : State :=
  (List.range 30).foldl (fun t n => t.wr (A.WMAC_STAGE_RW n) (ws.getD n 0)) s

/-- A packet of source `n`. -/
def pk (n : Nat) : Pkt := { bytes := [1, 2, 3], src := n, srcEg := n, time := 0 }

/-- A frame of `p` in a queue. -/
def tf (p : Pkt) (e : Nat) : TmFrame := { pkt := p, egress := e, buf := 0, enq := 0, deadline := none, tid := 0 }

/-- A booked frame of flow 0, frame number 0, with its deadline. -/
def frec (d : Nat) : FrameRec := { flow := 0, fnum := 0, id := 0, deadline := d, tries := [], copies := 1 }

theorem leBytes_length (n v : Nat) : (leBytes n v).length = n := by
  induction n generalizing v with
  | zero => rfl
  | succ k ih => simp [leBytes, ih]

end Sys2Proof.Tests
end

