-- ==== Sys2Proof/WellFormed.lean ====
section
/-! DEFINITION. Which commands are well formed: operands that the rule of the row can have (spec/00_scope.md R4, R10, R15,
R16; spec/01_package_pins.md R43; spec/15_wired_ports_dram.md; spec/06_wlan_mac_multilink.md). The types of the
operands hold their other ranges. exec does not ask for it: the meaning of an ill-formed command is total. -/

namespace Sys2Proof

/-- A register access keeps R4: 4 or 8 bytes, aligned to its size. -/
def okSize (a n : Nat) : Bool := decide (n = 4 ∨ n = 8) && decide (a % n = 0)

/-- A block number that the block map of spec/00_scope.md uses as the first number of a block (R8). -/
def blockNumber (b : Nat) : Bool :=
  decide (b ≤ 0x0C ∨ (0x10 ≤ b ∧ b ≤ 0x13) ∨ b = 0x20 ∨ b = 0x30 ∨ b = 0x40 ∨ b = 0x50 ∨ b = 0x60 ∨ b = 0x70 ∨
    b = 0x80 ∨ b = 0x90 ∨ b = 0xA0 ∨ b = 0xB0 ∨ b = 0xC0 ∨ b = 0xD0)

/-- Strap samples: two to eight of them (R43). -/
def samples (l : List (BitVec 6)) : Bool := decide (2 ≤ l.length ∧ l.length ≤ 8)

/-- A frame on a wire carries at least an FCS. -/
def onWire (f : List Byte) : Bool := decide (4 ≤ f.length)

/-- A descriptor has words; a management frame has bytes. -/
def TxSource.wellFormed : TxSource → Bool
  | .descriptor ws => decide (ws ≠ [])
  | .management _ _ _ _ f => decide (f ≠ [])
  | .handed _ => true
  | .registered _ => true

/-- The addresses of a received MPDU have six bytes; A4 stands in a header with ToDS and FromDS alone (R245). -/
def RxMpduIn.wellFormed (m : RxMpduIn) : Bool :=
  decide (m.a1.length = 6) && decide (m.a2.length = 6) && decide (m.a3.length = 6) &&
    decide (m.a4.length = if m.toDs && m.fromDs then 6 else 0)

/-- The operands of a command are ones that its row can have. -/
def Instr.wellFormed : Instr → Bool
  | .registerWrite _ a n _ => okSize a.toNat n
  | .badSize _ _ a n => !okSize a.toNat n
  | .cfgStatusRead _ b => blockNumber b.toNat
  | .counterRead _ a => decide (a.toNat % 8 = 0)
  | .counterLowRead _ a => decide (a.toNat % 8 = 0)
  | .counterHighRead _ a => decide (a.toNat % 8 = 4)
  | .powerOn l => samples l
  | .pin l => samples l
  | .wakePatternMatch _ f => onWire f
  | .txDescriptor t => t.wellFormed
  | .mpduRx m => m.wellFormed
  | .peerBeaconRx _ b _ => decide (b.length = 6)
  | .emacRxFrame _ f _ => onWire f
  | .dramRequest _ w _ d n _ => if w then decide (d ≠ []) else decide (1 ≤ n ∧ n ≤ 8)
  | .hwRecord _ l => decide (l ≠ [])
  | .gatedAccess _ _ _ | .addrUnmapped _ _ _ | .powerFail | .pmicPgTimeout | .vinAoLoss | .brownout
  | .thermalWarn _ _ | .thermal _ | .thermalResetRelease _ | .avsRecompute _ _ _ | .avsWriteDone _ | .avsRetry
  | .avsSettle | .branchWake _ | .branchIdleStop _ | .gateWrite _ | .pllCtrlWrite _ | .pllLock _ | .pllUnlock _
  | .clockLoss _ | .stateReqRun | .stateReqTrim | .stateReqWatch | .watchEntryDone | .stateReqSleep _
  | .sleepEntryDone | .abortedWake | .wakeLinkEnergy _ | .wakeWlanRequest _ | .wakeNguordFrame _ | .wakePcie
  | .wakeAlarm _ | .wakeIn _ | .sleepExit _ | .boot | .pmic | .nvmTiming | .clocks | .hostpRecord | .hostpLate _
  | .dramRecord _ | .load | .regWrites | .sealed | .lockRecord | .entry _ | .bootConfirm _ _ | .bootTimeout
  | .software _ | .host | .perstHostpReset | .debugReset | .cfgLock _ | .bar2WinWrite _ _ | .rbAdv _ _
  | .imageOpen _ _ _ | .imageWrite _ _ _ | .imageCommit _ _ _ | .resetMsg _ _ _ | .nvmRead | .nvmProgram
  | .nvmErase4k | .nvmErase64k | .nvmOpDone | .nvmTimeout | .synthWrite _ _ | .retuneStart _
  | .retuneDone _ _ _ | .rfUnlock _ | .radioStart _ | .calDone _ _ _ | .calCmdFull _ | .calDue _ _
  | .calTrack _ _ _ | .rfCalOverdue _ | .chainEnWrite _ _ | .txReady _ | .txUntimedReady _ _ | .dozeStart _
  | .dozeEnd _ | .rxPreamble _ _ | .secondDetect _ _ | .codewordEnqueue _ _ | .codewordReclass _ _
  | .engineFree _ | .decodeEnd _ _ _ _ | .ldpcRetire _ | .bist _ _ | .csiCapture _ _ | .ctxAdd _ | .ctxUpdate _
  | .ctxRemove _ | .ctxRead _ | .ppduFill _ _ _ _ _ | .blockAckRx _ _ _ _ _ | .blockAckTimeout _ _
  | .emlsrIcfFail _ | .blockAckReqRx _ _ _ | .reorderFlush _ _ | .beaconTx _ _ _ | .triggerFire _
  | .triggerArm _ _ | .timeStale _ | .domainSwitch | .selWrite _ | .incNsWrite _ _ | .set _ | .adj _ _
  | .kick _ | .nsRead _ | .localLoRead _ | .capture _ | .capCmd _ | .captureRead _ | .clk10mUpdate | .clk10mLoss
  | .ppsOut | .tsqRdWrite _ _ | .planSwap _ _ | .planCheckDone _ | .segmentStart _ _ _ | .twtEntryWrite _ _
  | .twtSpStart _ _ _ | .twtMissed _ _ | .rspStart _ _ _ _ | .join _ _ | .left _ _ | .ngRxDetect _
  | .ngHeaderResult _ | .ngRxEnd _ _ | .ngSecondDetect _ | .arm | .abortRanging | .poll | .resp | .final
  | .report | .rngTimeout | .nglEnable _ | .parentBeaconRx | .resyncScan | .ngFrameRx | .ngAckRx
  | .ngAckTimeout | .backoffEnd _ | .ngSlotStart _ | .ngCalStart _ _ | .ngLifetime | .ngTxDescriptor _
  | .ngDropRecord | .nodeAdd _ | .nodeUpdate _ | .nodeRemove _ | .nodeRead _ | .laneEnter _ | .passStart
  | .passEnd _ _ | .camWrite _ | .camRead _ | .camClear _ | .setBanks _ | .swap | .swapDone | .camScrub _ _
  | .tablesLookup _ | .learn | .l2Sweep | .sessSweep | .tablesAdd _ _ | .tablesUpdate _ _ | .tablesDelete _ _
  | .tablesReadKey _ _ | .tablesWriteIndexed _ _ | .tablesReadIndex _ _ | .flush _ | .auditPass | .auditConfirm
  | .tmEnqueue | .refill | .egressReady _ _ _ | .queueCommit _ _ | .egmapCommit _ _ | .floodCommit _ _
  | .shaperCommit _ _ _ | .queueFlush _ | .sampleWalk | .maxDelayRead _ | .flowAdmit _ | .flowRelease _
  | .flowRead _ | .flowFreed _ | .booking | .occurrenceEnd _ | .frameDeadline _ _ | .frerReset _
  | .outcomeRecord | .emacTxEnd _ | .linkUp _ _ _ | .linkDown _ | .emacModeWrite _ _ | .pauseRx _ _ _
  | .rxBufferXoff _ | .sdsPreset _ _ | .hostTxFrame _ _ | .hostTxCompletion _ | .hostRxFrame _ | .coalTimeout _ _
  | .rcAccess _ | .rcAccessDone _ _ | .dramPowerDown _ | .dramScrub _ | .retrain | .retrainDone _ | .keyWrite _
  | .keyErase _ | .zeroise | .readState _ | .changeLanded | .encrypt | .decrypt | .mac | .verify | .hash
  | .derive | .sealCreate | .attest | .random | .sealCompletion | .entropy | .provision _ _ | .deploy _
  | .newChal | .submit _ _ | .drop | .nextRead _ | .yieldOp _ | .exitOp _ | .waitEv _ | .sleepUntil _ | .post _
  | .recv _ | .takeCompl _ | .setEv _ | .clrEv _ | .start _ | .suspend _ | .delete _ | .wakeTime _
  | .sliceEnd _ | .affinityWrite _ _ | .vectorRaise _ | .complLatchDrain _ | .supItemPost | .commit _ _
  | .pop _ | .mark _ | .rewind _ | .release _ | .levelAge _ | .fifoDisable _ | .faultEvent _ | .faultReset
  | .coreRetireDone | .swEntryWrite _ _ | .sramCopyDone _ | .sramScrub _ _ _ | .faultRetire _ _ | .inj _
  | .clearFirst | .abort _ | .abortDone | .abortForced | .watchExitDone | .rxLast0Read | .pcieLinkUp _ _ _ _ _
  | .pcieLinkDown | .healthOk | .clk10mPresent | .codewordDeadline => true

end Sys2Proof
end

