-- ==== Sys2Proof/Tests/Slice0.lean ====
section
/-! SUPPORT. An ill-formed term for each check of WellFormed, and single steps whose results stand in the rules, tables
and worked examples of spec/. -/

namespace Sys2Proof.Tests

open Sys2Proof.Machine

set_option Elab.async false

/-! ### WellFormed -/

/-- R4: a 64-bit access is aligned to 8 bytes. -/
theorem test_wf_write_misaligned : (Instr.registerWrite .host 0x40800004 8 0).wellFormed = false := by decide

/-- R4: no access of 2 bytes. -/
theorem test_wf_write_two_bytes : (Instr.registerWrite .host 0x40800004 2 0).wellFormed = false := by decide

/-- R4: a good access is not BAD_SIZE. -/
theorem test_wf_badSize_good : (Instr.badSize .host true 0x40800004 4).wellFormed = false := by decide

/-- R8: block 0x14 is no block's first number. -/
theorem test_wf_block : (Instr.cfgStatusRead .host 0x14).wellFormed = false := by decide

/-- R16: a counter starts at a multiple of 8; its high word lies 4 above. -/
theorem test_wf_counter : (Instr.counterRead .host 0x40800004).wellFormed = false ∧
    (Instr.counterLowRead .host 0x40800004).wellFormed = false ∧
    (Instr.counterHighRead .host 0x40800008).wellFormed = false := by decide

/-- R43: one sample of the straps is not enough. -/
theorem test_wf_straps : (Instr.powerOn [0]).wellFormed = false ∧ (Instr.pin []).wellFormed = false := by decide

/-- R524: a frame without an FCS is on no wire. -/
theorem test_wf_frame : (Instr.emacRxFrame 0 [1, 2, 3] false).wellFormed = false ∧
    (Instr.wakePatternMatch 0 []).wellFormed = false := by decide

/-- R221: a descriptor has words, and a management frame has bytes. -/
theorem test_wf_descriptor : (Instr.txDescriptor (.descriptor [])).wellFormed = false ∧
    (Instr.txDescriptor (.management 0 0 false 0 [])).wellFormed = false := by decide

/-- R234: the transmitter's address has six bytes. -/
theorem test_wf_mpdu (m : RxMpduIn) : (Instr.mpduRx { m with a2 := [] }).wellFormed = false := by
  simp [Instr.wellFormed, RxMpduIn.wellFormed]

/-- R315: a BSSID has six bytes. -/
theorem test_wf_beacon : (Instr.peerBeaconRx 0 [1, 2, 3] none).wellFormed = false := by decide

/-- R561: a write carries data, and a read has 1 to 8 bytes. -/
theorem test_wf_dram : (Instr.dramRequest .host true 0 [] 0 none).wellFormed = false ∧
    (Instr.dramRequest .host false 0 [] 0 none).wellFormed = false := by decide

/-- R631: a record of the hardware has items. -/
theorem test_wf_record : (Instr.hwRecord 0 []).wellFormed = false := by decide

/-! ### Single steps -/

/-- A property of the state that a command leaves. -/
def after (c : Instr) (s : State) (p : State → Bool) : Bool :=
  match exec c s with
  | .next t => p t
  | _ => false

/-- The example of spec/00_scope.md: a counter of EMAC1 holds 0x0000_0002_FFFF_FFF0. -/
def octets : State :=
  { setF State.reset [(whole A.CKGEN_GATE, 0xFFFFFFFF)] with ctrs := [(C.EMAC_RX_OCTETS 1, 0x2FFFFFFF0)] }

/-- The low word is answered, the counter clears, and the shadow keeps the high word. -/
theorem test_counter_low : after (.counterLowRead .host (BitVec.ofNat 64 (C.EMAC_RX_OCTETS 1))) octets (fun t =>
    decide (t.resp.value = 0xFFFFFFF0 ∧ t.ctr (C.EMAC_RX_OCTETS 1) = 0 ∧
      t.ctrShadow = [(C.EMAC_RX_OCTETS 1, some 2)])) = true := by decide +kernel

/-- The high word then comes from the shadow, which empties. -/
theorem test_counter_high : after (.counterHighRead .host (BitVec.ofNat 64 (C.EMAC_RX_OCTETS 1 + 4)))
    { octets with ctrs := [(C.EMAC_RX_OCTETS 1, 0x40)], ctrShadow := [(C.EMAC_RX_OCTETS 1, some 2)] } (fun t =>
    decide (t.resp.value = 2 ∧ t.ctr (C.EMAC_RX_OCTETS 1) = 0x40 ∧ t.ctrShadow = [])) = true := by decide +kernel

/-- R18: a read of gated block 0x80 returns the pattern and is reported as source 0x01. -/
theorem test_gated : after (.gatedAccess (.core 0) false 0x40800018) (setF State.reset [(⟨A.CKGEN_GATE, 22, 2⟩, 0)]) (fun t =>
    decide (t.resp.value = 0x5EA1ED80 ∧ t.resp.busError = true)) = true := by decide +kernel

/-- The example of R72: with eight banks kept at 70 °C, Sleep is refused, and seven banks could be kept. -/
theorem test_sleep_refused : after (.stateReqSleep 70) (fl [(F.PMU_RET_CFG_KEEP, 0xFF), (F.PMU_WAKE_EN_SRC, 0x40)]) (fun t =>
    decide (t.fld F.PMU_AO_REG_SLEEP_EST_MA = 41 ∧ t.fld F.PMU_AO_REG_MAX_BANKS = 7 ∧ t.power.mode = .on)) = true := by
  decide +kernel

/-- With bank 6 given up, the request is accepted. -/
theorem test_sleep_accepted : after (.stateReqSleep 70) (fl [(F.PMU_RET_CFG_KEEP, 0xBF), (F.PMU_WAKE_EN_SRC, 0x40)]) (fun t =>
    decide (t.power.mode = .sleepEntry)) = true := by decide +kernel

/-- The example of R260: 1.999 991 600 ns is a legal increment of domain B. -/
theorem test_increment : after (.incNsWrite 1 1) (setR up [(A.POSTMARK_DOM_INC_FRAC 1, 0xFFFF7312)]) (fun t =>
    decide ((t.dom 1).inc = 0x1FFFF7312)) = true := by decide +kernel

/-- R260: an increment of 0 is refused with ZERO_LENGTH and changes nothing. -/
theorem test_increment_zero : after (.incNsWrite 1 0) up (fun t =>
    decide ((t.dom 1).inc = (up.dom 1).inc ∧ getBits (t.rd (cfgStatusOf (A.POSTMARK_DOM_INC_NS 1))) 0 8 ≠ 0)) = true := by
  decide +kernel

/-- The example of R470: a refill adds 10.667 bytes to TC and 21.333 to TP, rounded down to 2^-16 byte. -/
theorem test_refill : after .refill
    { up with time := { tick := 427 }, tm := { pols := [(17, [0x800186A0, 200000, 12000, 24000])] } } (fun t =>
    decide (t.polTc 17 = 699050 ∧ t.polTp 17 = 1398101)) = true := by decide +kernel

/-- The example of R627: thread 17 on core 2 may run on core 5 only, and starts to migrate. -/
def migrating : State :=
  dsp2 [(2, { cur := some 17 })] [(F.DISPATCH_CORE_MAP_ACTIVE, 255), (F.DISPATCH_TH_W0_STATE 17, 2),
    (F.DISPATCH_TH_W0_AFFINITY 17, 4), (F.DISPATCH_TH_W0_PRIO 17, 12)]
where
  /-- DISPATCH with these cores, and some fields. -/
  dsp2 (cs : List (Nat × CoreSt)) (xs : List (Fld × Nat)) : State := { fl xs with disp := { cores := cs } }

/-- Core 2 is notified, and the thread is MIGRATING. -/
theorem test_affinity : after (.affinityWrite 17 0x0C000020) migrating (fun t =>
    decide (t.thState 17 = 5 ∧ (t.core 2).notified = true ∧ (t.core 5).notified = false)) = true := by decide +kernel

/-- Core 2 reads NEXT: the thread is READY, and core 5 is notified. -/
theorem test_migrated : after (.nextRead 2)
    (setF migrating [(F.DISPATCH_TH_W0_STATE 17, 5), (F.DISPATCH_TH_W0_AFFINITY 17, 32)]) (fun t =>
    decide (t.thState 17 = 1 ∧ (t.core 2).cur = none ∧ (t.core 5).notified = true ∧ t.resp.value = 0x80000000)) = true := by
  decide +kernel

/-- The example of spec/18_faults_availability.md: a real LDPC_ENGINE event and an injected CAM_ROW event. -/
def twoEvents : State :=
  { State.reset with flt := { queue := [{ src := 0x21, unit := 40, perm := false, inj := true, full := false },
                                        { src := 0x13, unit := 6, perm := false, inj := false, full := false }] } }

/-- The real event is accepted first and latched in FIRST, as a transient NOTIFY. -/
theorem test_real_first : after (.faultEvent none) twoEvents (fun t =>
    decide (t.rd (A.FAULT_FIRST 0) = 0x08000013 ∧ t.rd (A.FAULT_FIRST 1) = 6 ∧ (t.rd (A.FAULT_PENDING 0)).getLsbD 19 = true ∧
      t.flag F.FAULT_STATE_OVERFLOW = false)) = true := by decide +kernel

/-- The injected event is logged as LOG with INJ; FIRST stays, and OVERFLOW is set. -/
theorem test_injected : after (.faultEvent none)
    (setF { twoEvents with flt := { queue := [{ src := 0x21, unit := 40, perm := false, inj := true, full := false }] } }
      [(F.FAULT_STATE_FIRST_VALID, 1)]) (fun t =>
    decide (t.rd (A.FAULT_LOG 0 0) = 0x80000021 ∧ t.flag F.FAULT_STATE_OVERFLOW = true ∧
      (t.rd (A.FAULT_PENDING 1)).getLsbD 1 = true ∧ t.rd (A.FAULT_FIRST 0) = 0)) = true := by decide +kernel

/-- The example of R331: order 7 at 800 kHz with CR 2/3 has symbols of 160 µs; a POLL lasts 11.52 ms and a FINAL 13.28 ms. -/
theorem test_ranging_airtime : chirpTs 7 3 = 160 * 500 ∧ ngAirtime 7 3 2 12 10 = 11520 * 500 ∧
    ngAirtime 7 3 2 12 20 = 13280 * 500 := by decide

/-- R198: a write of limits below MIN_ITER is refused, and the register stays. -/
theorem test_iterations : after (.registerWrite .host 0x40800018 4 0x05040404) State.reset (fun t =>
    decide (t.rd A.LDPC_ITER_CFG = resetWord A.LDPC_ITER_CFG)) = true := by decide +kernel

/-- R640: an idle core without work reads IDLE. -/
theorem test_idle : after (.nextRead 3) State.reset (fun t => decide (t.resp.value = 0x80000000)) = true := by
  decide +kernel

/-- R635: POP on a FIFO without a record ends EMPTY. -/
theorem test_pop_empty : after (.pop 7) State.reset (fun t => decide (t.fld (F.PIGEON_CONS_STATUS_RESULT 7) = 2)) = true := by
  decide +kernel

/-- R667: port 3 can be aborted; port 4 does not exist. -/
theorem test_abort : after (.abort 0x50000003) State.reset (fun t => decide (t.flt.abort = some (5, 0, 3))) = true ∧
    after (.abort 0x50000004) State.reset (fun t => decide (t.flt.abort = none)) = true := by decide +kernel

/-- The queue is first in, first out. -/
theorem test_queue : (match step { State.reset with pending := [.pop 1, .pop 2] } with
    | .next t => decide (t.pending = [.pop 2] ∧ t.fld (F.PIGEON_CONS_STATUS_RESULT 1) = 2)
    | _ => false) = true := by decide +kernel

/-- R612: mtime advances once in 50 ticks. -/
theorem test_mtime : ({ State.reset with time := { tick := 149 } } : State).mtime = 2 := by decide +kernel

/-- No row of the table gives a command bits, so no word spells one. -/
theorem test_no_words : decodeTableWord 32 0x12345678 = none := by decide

end Sys2Proof.Tests
end

