-- ==== Sys2Proof/Tests/Witnesses1.lean ====
section
/-! SUPPORT. States and operands that meet all hypotheses of a clause of a statement (part 1 of 4): the witness
wit_<Name>_<i> is for clause i of Obligations.<Name>. -/

namespace Sys2Proof.Tests

open Sys2Proof.Machine

set_option Elab.async false

theorem wit_StepRunsTheFrontCommand_0 : ∃ (s : State) (c : Instr) (rest : List Instr), s.pending = c :: rest :=
  ⟨{ pending := [.drop, .pop 3] }, .drop, [.pop 3], by decide +kernel⟩

theorem wit_StepRunsTheFrontCommand_1 : ∃ (s : State) (t : State), s.pending = [] ∧ s.bar2Served = some t :=
  ⟨{ bar2 := [{ write := false, addr := 0x01000000, size := 4, data := [] }] }, _, by decide +kernel, rfl⟩

theorem wit_StepRunsTheFrontCommand_2 : ∃ (s : State) (t : State) (c : Instr), s.pending = [] ∧ s.bar2Served = none ∧
    s.heldNext = some (c, t) :=
  ⟨{ up with held := [(0x40080000, .drop)] }, up, .drop, by decide +kernel⟩

theorem wit_StepRunsTheFrontCommand_3 : ∃ (s : State), s.pending = [] ∧ s.bar2Served = none ∧ s.heldNext = none :=
  ⟨up, by decide +kernel⟩

theorem wit_TickAdvancesLocalAndDomains_0 : ∃ (s : State), s.power.mode ≠ .off ∧ s.dark = false ∧ s.fed 15 = true ∧
    s.time.domB.steps = [] :=
  ⟨up, by decide +kernel⟩

theorem wit_TickAdvancesLocalAndDomains_1 : ∃ (s : State), s.power.mode ≠ .off ∧ s.dark = false ∧ s.fed 15 = true ∧
    s.time.domA.steps = [] ∧ s.time.domB.steps = [] :=
  ⟨up, by decide +kernel⟩

theorem wit_TickAdvancesLocalAndDomains_2 : ∃ (s : State), s.power.mode ≠ .off ∧ ((s.dark = true ∨ s.fed 15 = false))
    :=
  ⟨{ power := { mode := .sleep } }, by decide +kernel⟩

theorem wit_TickAdvancesLocalAndDomains_3 : ∃ (s : State), s.power.mode = .off :=
  ⟨{ power := { mode := .off } }, by decide +kernel⟩

theorem wit_ResetLeavesTheTablesValues_0 : ∃ a, inSram a = true :=
  ⟨0x01000000, by decide +kernel⟩

theorem wit_CounterReadsReturnAndClear_0 : ∃ (s : State) (u : State) (m : Master) (a : BitVec 64), s.stopped m false
    a.toNat 8 (.counterRead m a) = none ∧ isCounter a.toNat = true ∧ u = (s.touch a.toNat).freshCtr a.toNat :=
  ⟨up, _, .host, 0x40060800, by decide +kernel, by decide +kernel, rfl⟩

theorem wit_CounterReadsReturnAndClear_1 : ∃ (s : State) (u : State) (m : Master) (a : BitVec 64), s.stopped m false
    a.toNat 4 (.counterLowRead m a) = none ∧ isCounter a.toNat = true ∧ u = (s.touch a.toNat).freshCtr a.toNat :=
  ⟨up, _, .core 8, 0x40060800, by decide +kernel, by decide +kernel, rfl⟩

theorem wit_CounterReadsReturnAndClear_2 : ∃ (s : State) (u : State) (m : Master) (a : BitVec 64) (h : Word),
    s.stopped m false a.toNat 4 (.counterHighRead m a) = none ∧ isCounter (a.toNat - 4) = true ∧ sget (fun _ => none)
    s.ctrShadow (a.toNat - 4) = some h ∧ u = (s.touch a.toNat).freshCtr (a.toNat - 4) :=
  ⟨{ up with ctrShadow := [(0x40060800, some 7)] }, _, .host, 0x40060804, 7, by decide +kernel, by decide +kernel,
    by decide +kernel, rfl⟩

theorem wit_CounterReadsReturnAndClear_3 : ∃ (s : State) (u : State) (m : Master) (a : BitVec 64), s.stopped m false
    a.toNat 4 (.counterHighRead m a) = none ∧ isCounter (a.toNat - 4) = true ∧ sget (fun _ => none) s.ctrShadow
    (a.toNat - 4) = none ∧ u = (s.touch a.toNat).freshCtr (a.toNat - 4) :=
  ⟨up, _, .host, 0x40060804, by decide +kernel, by decide +kernel, by decide +kernel, rfl⟩

theorem wit_CounterReadsReturnAndClear_4 : ∃ (_ : State) (a : Nat), ((∀ c < 9, C.DISPATCH_BUSY_CYCLES c ≠ a)) :=
  ⟨up, 0x40060800, by decide +kernel⟩

theorem wit_StoppedAccessesAnswerAndLog_0 : ∃ (s : State) (m : Master) (w : Bool) (a : BitVec 64), inRegs a.toNat =
    true ∧ occupied (windowOf a.toNat) = true ∧ s.gated (windowOf a.toNat) = true ∧ s.dark = false ∧ s.granted m w
    a.toNat = true ∧ w = false :=
  ⟨up, .core 0, false, 0x400C0010, by decide +kernel⟩

theorem wit_StoppedAccessesAnswerAndLog_1 : ∃ (s : State) (m : Master) (w : Bool) (a : BitVec 64), inRegs a.toNat =
    true ∧ occupied (windowOf a.toNat) = true ∧ s.gated (windowOf a.toNat) = true ∧ s.dark = false ∧ s.granted m w
    a.toNat = true ∧ s.flt.queue.length < 16 :=
  ⟨up, .host, true, 0x400C0010, by decide +kernel⟩

theorem wit_StoppedAccessesAnswerAndLog_2 : ∃ (s : State) (m : Master) (w : Bool) (a : BitVec 64), s.reaches m a.toNat
    = false ∧ s.dark = false ∧ s.granted m w a.toNat = true ∧ w = false :=
  ⟨up, .host, false, 0x100000000, by decide +kernel⟩

theorem wit_StoppedAccessesAnswerAndLog_3 : ∃ (s : State) (m : Master) (w : Bool) (a : BitVec 64), s.reaches m a.toNat
    = false ∧ s.dark = false ∧ s.granted m w a.toNat = true ∧ s.flt.queue.length < 16 :=
  ⟨up, .core 3, true, 0x3FFFFFFF, by decide +kernel⟩

theorem wit_StoppedAccessesAnswerAndLog_4 : ∃ (s : State) (m : Master) (w : Bool) (a : BitVec 64) (_ : Nat), s.granted
    m w a.toNat = false :=
  ⟨up, .debug, true, 0x400C0010, 3, by decide +kernel⟩

theorem wit_StoppedAccessesAnswerAndLog_5 : ∃ (s : State) (m : Master) (w : Bool) (a : BitVec 64) (n : Nat), inRegs
    a.toNat = true ∧ occupied (windowOf a.toNat) = true ∧ s.gated (windowOf a.toNat) = false ∧ (¬ ((n = 4 ∨ n = 8) ∧
    a.toNat % n = 0)) ∧ s.granted m w a.toNat = true ∧ w = false :=
  ⟨up, .host, false, 0x40010022, 4, by decide +kernel⟩

theorem wit_StoppedAccessesAnswerAndLog_6 : ∃ (s : State) (m : Master) (w : Bool) (a : BitVec 64) (n : Nat), inRegs
    a.toNat = true ∧ occupied (windowOf a.toNat) = true ∧ s.gated (windowOf a.toNat) = false ∧ (¬ ((n = 4 ∨ n = 8) ∧
    a.toNat % n = 0)) ∧ s.granted m w a.toNat = true ∧ w = true ∧ getBits (s.rd (cfgStatusOf a.toNat)) 0 8 = 0 :=
  ⟨up, .core 0, true, 0x40010020, 2, by decide +kernel⟩

theorem wit_FirstRefusalIsKept_0 : ∃ (s : State) (w : Word), s.dark = false ∧ getBits w 0 9 ≠ 0 ∧ ¬ (0x40 ≤ getBits w
    0 9 ∧ getBits w 0 9 ≤ 0x13F) ∧ getBits (s.rd 0x40000004) 0 8 = 0 :=
  ⟨up, 0x3F, by decide +kernel⟩

theorem wit_FirstRefusalIsKept_1 : ∃ (s : State) (w : Word), s.dark = false ∧ getBits w 0 9 ≠ 0 ∧ ¬ (0x40 ≤ getBits w
    0 9 ∧ getBits w 0 9 ≤ 0x13F) ∧ getBits (s.rd 0x40000004) 0 8 ≠ 0 :=
  ⟨up.wr 0x40000004 0x00008002, 0x140, by decide +kernel⟩

theorem wit_FirstRefusalIsKept_2 : ∃ (s : State) (w : Word), s.dark = false ∧ ((getBits w 0 9 = 0 ∨ (0x40 ≤ getBits w
    0 9 ∧ getBits w 0 9 ≤ 0x13F))) :=
  ⟨up, 0x13F, by decide +kernel⟩

theorem wit_FirstRefusalIsKept_3 : ∃ (s : State) (_ : Word) (_ : List HostReq), s.dark = false :=
  ⟨up, 0, [{ write := true, offset := 4, size := 4, data := [1, 2, 3, 4] }], by decide +kernel⟩

theorem wit_FirstRefusalIsKept_4 : ∃ (s : State) (m : Master) (b : BitVec 8), s.stopped m false (cfgStatusOf
    (0x40000000 + 0x10000 * b.toNat)) 4 (.cfgStatusRead m b) = none ∧ cfgStatusOf (0x40000000 + 0x10000 * b.toNat) ≠
    A.CKGEN_ACTIVE :=
  ⟨up, .core 1, 0, by decide +kernel⟩

theorem wit_RegisterWriteFollowsAccessTypes_0 : ∃ (s : State) (m : Master) (addr : BitVec 64) (v : DWord) (w : Word)
    (d : RegDesc) (ix : List Nat), s.stopped m true addr.toNat 4 (.registerWrite m addr 4 v) = none ∧ selfOffset
    addr.toNat = none ∧ w = wordPut s addr.toNat (v.setWidth 32) ∧ ((∀ (u : State) (old new : Word), u.wroteReg
    (firstWindow (windowOf addr.toNat)) addr.toNat old new = u)) ∧ (s.touch addr.toNat).cmdWrite m (firstWindow
    (windowOf addr.toNat)) addr.toNat (v.setWidth 32) = none ∧ findReg addr.toNat = some (d, ix) ∧ addr.toNat ≠
    A.CKGEN_ACTIVE ∧ addr.toNat ≠ A.DISPATCH_SW_ENTRY_LO ∧ addr.toNat ≠ A.DISPATCH_SW_ENTRY_HI ∧ addr.toNat ≠
    cfgStatusOf addr.toNat ∧ A.CKGEN_ACTIVE ≠ cfgStatusOf addr.toNat ∧ (d.fields.Pairwise (fun f g => f.hi < g.lo ∨
    g.hi < f.lo)) ∧ ((∀ f ∈ d.fields, f.lo ≤ f.hi ∧ f.hi < 32)) ∧ checkFields s.locked w d.fields = none ∧ firstRef
    ((s.touch addr.toNat).regConds (firstWindow (windowOf addr.toNat)) addr.toNat w) = none ∧ ((s.flag
    F.SYSCTL_CFG_LOCK_LOCK = true ∧ ∃ f ∈ d.fields, f.acc = .rwl ∧ getBits (s.rd addr.toNat) f.lo (f.hi + 1 - f.lo) ≠
    getBits w f.lo (f.hi + 1 - f.lo))) ∧ getBits (s.rd (cfgStatusOf addr.toNat)) 0 8 = 0 :=
  ⟨fl [(F.SYSCTL_CFG_LOCK_LOCK, 1)], .host, 0x40000034, 1, _, ((findReg 0x40000034).get (by decide +kernel)).1,
    ((findReg 0x40000034).get (by decide +kernel)).2, by decide +kernel, by decide +kernel, rfl, fun _ _ _ => rfl,
    by decide +kernel⟩

theorem wit_RegisterWriteFollowsAccessTypes_1 : ∃ (s : State) (m : Master) (addr : BitVec 64) (v : DWord) (w : Word)
    (d : RegDesc) (ix : List Nat), s.stopped m true addr.toNat 4 (.registerWrite m addr 4 v) = none ∧ selfOffset
    addr.toNat = none ∧ w = wordPut s addr.toNat (v.setWidth 32) ∧ ((∀ (u : State) (old new : Word), u.wroteReg
    (firstWindow (windowOf addr.toNat)) addr.toNat old new = u)) ∧ (s.touch addr.toNat).cmdWrite m (firstWindow
    (windowOf addr.toNat)) addr.toNat (v.setWidth 32) = none ∧ findReg addr.toNat = some (d, ix) ∧ addr.toNat ≠
    A.CKGEN_ACTIVE ∧ addr.toNat ≠ A.DISPATCH_SW_ENTRY_LO ∧ addr.toNat ≠ A.DISPATCH_SW_ENTRY_HI ∧ addr.toNat ≠
    cfgStatusOf addr.toNat ∧ A.CKGEN_ACTIVE ≠ cfgStatusOf addr.toNat ∧ (d.fields.Pairwise (fun f g => f.hi < g.lo ∨
    g.hi < f.lo)) ∧ ((∀ f ∈ d.fields, f.lo ≤ f.hi ∧ f.hi < 32)) ∧ checkFields s.locked w d.fields = none ∧ firstRef
    ((s.touch addr.toNat).regConds (firstWindow (windowOf addr.toNat)) addr.toNat w) = none ∧ (¬ (s.flag
    F.SYSCTL_CFG_LOCK_LOCK = true ∧ ∃ f ∈ d.fields, f.acc = .rwl ∧ getBits (s.rd addr.toNat) f.lo (f.hi + 1 - f.lo) ≠
    getBits w f.lo (f.hi + 1 - f.lo))) :=
  ⟨up, .host, 0x40000030, 7, _, ((findReg 0x40000030).get (by decide +kernel)).1,
    ((findReg 0x40000030).get (by decide +kernel)).2, by decide +kernel, by decide +kernel, rfl, fun _ _ _ => rfl,
    by decide +kernel⟩

theorem wit_ColdResetsClearTheDevice_0 : ∃ (s : State) (_ : List (BitVec 6)), s.power.mode ≠ .off ∧ s.boot.phase ≠
    .waiting :=
  ⟨{ boot := { phase := .firmware } }, [5, 5], by decide +kernel⟩

theorem wit_ColdResetsClearTheDevice_1 : ∃ (s : State), s.power.mode ≠ .off ∧ s.power.mode ≠ .sleep ∧ s.power.mode ≠
    .sleepExit ∧ s.boot.phase ≠ .waiting :=
  ⟨{ boot := { phase := .firmware } }, by decide +kernel⟩

theorem wit_ColdResetsClearTheDevice_2 : ∃ (s : State), s.power.mode = .sleepExit ∧ s.boot.phase ≠ .waiting :=
  ⟨{ power := { mode := .sleepExit }, boot := { phase := .firmware } }, by decide +kernel⟩

theorem wit_ColdResetsClearTheDevice_3 : ∃ (s : State), s.flag F.PMU_AO_REG_LP_MODE = true ∧ s.boot.phase ≠ .waiting
    :=
  ⟨{ fl [(F.PMU_AO_REG_LP_MODE, 1)] with boot := { phase := .firmware } }, by decide +kernel⟩

theorem wit_ColdResetsClearTheDevice_4 : ∃ (s : State) (c : Int), 118 ≤ c ∧ s.dark = false ∧ s.boot.phase ≠ .waiting
    :=
  ⟨{ boot := { phase := .firmware } }, 118, by decide +kernel⟩

theorem wit_ColdResetsClearTheDevice_5 : ∃ (s : State) (_ : Int), s.power.mode = .thermalHold :=
  ⟨{ power := { mode := .thermalHold } }, 20, by decide +kernel⟩

theorem wit_ColdResetsClearTheDevice_6 : ∃ (s : State), s.nvmc = none :=
  ⟨up, by decide +kernel⟩

theorem wit_WarmResetsKeepWhatTheSpecLists_0 : ∃ (s : State) (w : Word), s.dark = false ∧ getBits w 16 16 = 0xB007 ∧
    w.getLsbD 0 = true ∧ s.boot.phase ≠ .waiting :=
  ⟨{ boot := { phase := .firmware } }, 0xB0070001, by decide +kernel⟩

theorem wit_WarmResetsKeepWhatTheSpecLists_1 : ∃ (s : State) (w : Word), s.dark = false ∧ getBits w 16 16 ≠ 0xB007 :=
  ⟨up, 0xB0060001, by decide +kernel⟩

theorem wit_WarmResetsKeepWhatTheSpecLists_2 : ∃ (s : State), s.fld F.HOSTP_CFG_MODE = 1 ∧ s.flag
    F.SYSCTL_RST_CFG_PERST_RESETS = true ∧ s.dark = false ∧ s.boot.phase ≠ .waiting ∧ s.boot.phase ≠ .halted :=
  ⟨{ fl [(F.HOSTP_CFG_MODE, 1), (F.SYSCTL_RST_CFG_PERST_RESETS, 1)] with boot := { phase := .firmware } },
    by decide +kernel⟩

theorem wit_WarmResetsKeepWhatTheSpecLists_3 : ∃ (s : State), 2 ≤ s.fld F.DBG_STATUS_LEVEL ∧ s.dark = false ∧
    s.boot.phase ≠ .waiting ∧ s.boot.phase ≠ .halted :=
  ⟨{ fl [(F.DBG_STATUS_LEVEL, 2)] with boot := { phase := .firmware } }, by decide +kernel⟩

theorem wit_WarmResetsKeepWhatTheSpecLists_4 : ∃ (s : State) (ms : Nat), s.boot.wdogMs = some ms ∧ s.boot.phase =
    .firmware ∧ s.dark = false ∧ s.boot.entryTime.toNat + ms * 500000 < s.time.tick.toNat :=
  ⟨{ boot := { phase := .firmware, wdogMs := some 1 }, time := { tick := 500001 } }, 1, by decide +kernel⟩

theorem wit_WarmResetsKeepWhatTheSpecLists_5 : ∃ (s : State), s.fld F.HOSTP_CFG_MODE = 1 ∧ s.flag
    F.SYSCTL_RST_CFG_PERST_RESETS = false ∧ s.dark = false :=
  ⟨fl [(F.HOSTP_CFG_MODE, 1)], by decide +kernel⟩

theorem wit_ThermalWarningAndAvs_0 : ∃ (s : State) (_ : Fin 12) (c : Int), 108 ≤ c ∧ s.dark = false ∧
    s.power.warnArmed = true ∧ s.flt.queue.length < 16 :=
  ⟨up, 0, 108, by decide +kernel⟩

theorem wit_ThermalWarningAndAvs_1 : ∃ (s : State) (_ : Fin 12) (c : Int), s.dark = false ∧ ((c < 103 ∨
    s.power.warnArmed = false)) ∧ c < 103 :=
  ⟨up, 11, 102, by decide +kernel⟩

theorem wit_ThermalWarningAndAvs_2 : ∃ (s : State) (_ : Fin 12) (c : Int), s.dark = false ∧ ((c < 103 ∨
    s.power.warnArmed = false)) ∧ 103 ≤ c :=
  ⟨{ power := { warnArmed := false } }, 0, 103, by decide +kernel⟩

theorem wit_ThermalWarningAndAvs_3 : ∃ (s : State) (c : Int) (x : BitVec 6) (_ : BitVec 6), s.flag F.PMU_AVS_CTRL_EN =
    true ∧ s.avsAsked c = true ∧ s.dark = false ∧ s.power.voltCore < min 50 (x.toNat + s.fld F.PMU_AVS_CTRL_MARGIN_MV
    / 5) :=
  ⟨{ fl [(F.PMU_AVS_CTRL_EN, 1)] with power := { avsDue := true, voltCore := 20 } }, 25, 40, 41, by decide +kernel⟩

theorem wit_ThermalWarningAndAvs_4 : ∃ (s : State) (c : Int) (_ : BitVec 6) (y : BitVec 6), s.flag F.PMU_AVS_CTRL_EN =
    true ∧ s.avsAsked c = true ∧ s.dark = false ∧ s.power.voltCpu < min 50 (y.toNat + s.fld F.PMU_AVS_CTRL_MARGIN_MV /
    5) :=
  ⟨{ fl [(F.PMU_AVS_CTRL_EN, 1)] with power := { avsDue := true } }, 25, 40, 41, by decide +kernel⟩

theorem wit_ThermalWarningAndAvs_5 : ∃ (s : State) (c : Int) (_ : BitVec 6) (_ : BitVec 6), s.flag F.PMU_AVS_CTRL_EN =
    true ∧ s.avsAsked c = true ∧ s.dark = false ∧ s.power.coreMhz = 1800 :=
  ⟨{ fl [(F.PMU_AVS_CTRL_EN, 1)] with power := { avsDue := true } }, 25, 20, 40, by decide +kernel⟩

theorem wit_ThermalWarningAndAvs_6 : ∃ (s : State) (c : Int) (_ : BitVec 6) (_ : BitVec 6), ((s.flag F.PMU_AVS_CTRL_EN
    = false ∨ s.avsAsked c = false ∨ s.dark = true)) :=
  ⟨up, 30, 20, 40, by decide +kernel⟩

theorem wit_ThermalWarningAndAvs_7 : ∃ (s : State) (v : Nat), s.power.avsWrite = some (0, v) ∧ s.power.avsWait = false
    :=
  ⟨{ power := { avsWrite := some (0, 40) } }, 40, by decide +kernel⟩

theorem wit_ThermalWarningAndAvs_8 : ∃ (s : State) (r : Nat) (v : Nat), s.power.avsWrite = some (r, v) ∧
    s.power.avsWait = false ∧ s.power.avsTries < 3 :=
  ⟨{ power := { avsWrite := some (1, 40), avsTries := 2 } }, 1, 40, by decide +kernel⟩

theorem wit_ThermalWarningAndAvs_9 : ∃ (s : State), s.power.avsWait = true :=
  ⟨{ power := { avsWait := true } }, by decide +kernel⟩

theorem wit_ThermalWarningAndAvs_10 : ∃ (s : State), s.power.avsWait = false :=
  ⟨up, by decide +kernel⟩

theorem wit_ThermalWarningAndAvs_11 : ∃ (s : State) (_ : Bool), s.power.avsWrite = none :=
  ⟨up, true, by decide +kernel⟩

theorem wit_ThermalWarningAndAvs_12 : ∃ (s : State) (r : Nat) (v : Nat), s.power.avsWrite = some (r, v) ∧
    s.power.avsWait = false ∧ 3 ≤ s.power.avsTries ∧ s.flt.queue.length < 16 :=
  ⟨{ power := { avsWrite := some (1, 40), avsTries := 3 } }, 1, 40, by decide +kernel⟩

theorem wit_ThermalWarningAndAvs_13 : ∃ (s : State), s.power.coreMhz = 1800 :=
  ⟨{ time := { tick := 60000 }, power := { settleCore := some 0, settleCpu := some 20000, holdCore := true, holdCpu := true } },
    by decide +kernel⟩

theorem wit_PowerStateTransitions_0 : ∃ (s : State) (c : Int) (i : Instr), i ∈ [.stateReqRun, .stateReqTrim,
    .stateReqWatch, .stateReqSleep c] ∧ s.dark = false ∧ s.flag F.PMU_STATE_BUSY = true :=
  ⟨fl [(F.PMU_STATE_BUSY, 1)], 25, .stateReqSleep 25, by decide +kernel⟩

theorem wit_PowerStateTransitions_1 : ∃ (s : State), s.dark = false ∧ s.flag F.PMU_STATE_BUSY = false ∧ s.fld
    F.PMU_STATE_CUR = 2 :=
  ⟨fl [(F.PMU_STATE_CUR, 2)], by decide +kernel⟩

theorem wit_PowerStateTransitions_2 : ∃ (s : State), s.dark = false ∧ s.flag F.PMU_STATE_BUSY = false ∧ s.fld
    F.PMU_STATE_CUR ≠ 2 ∧ s.fld F.REGSVC_TOTALS_FLOWS ≠ 0 :=
  ⟨fl [(F.REGSVC_TOTALS_FLOWS, 1)], by decide +kernel⟩

theorem wit_PowerStateTransitions_3 : ∃ (s : State), s.dark = false ∧ s.flag F.PMU_STATE_BUSY = false ∧ s.fld
    F.PMU_STATE_CUR ≠ 2 ∧ s.fld F.REGSVC_TOTALS_FLOWS = 0 ∧ s.hostActive = true :=
  ⟨fl [(F.HOSTP_LINK_UP, 1)], by decide +kernel⟩

theorem wit_PowerStateTransitions_4 : ∃ (s : State), s.dark = false ∧ s.flag F.PMU_STATE_BUSY = false ∧ s.fld
    F.PMU_STATE_CUR ≠ 2 ∧ s.fld F.REGSVC_TOTALS_FLOWS = 0 ∧ s.hostActive = false :=
  ⟨up, by decide +kernel⟩

theorem wit_PowerStateTransitions_5 : ∃ (s : State), s.power.mode = .watchEntry :=
  ⟨{ power := { mode := .watchEntry } }, by decide +kernel⟩

theorem wit_PowerStateTransitions_6 : ∃ (s : State), s.power.mode = .watchExit true ∧ s.disp.ready = [] ∧
    s.power.keptFrames = [] :=
  ⟨{ power := { mode := .watchExit true } }, by decide +kernel⟩

theorem wit_PowerStateTransitions_7 : ∃ (s : State) (_ : Int), s.dark = false ∧ s.flag F.PMU_STATE_BUSY = false ∧
    ((s.fld F.PMU_STATE_CUR = 2 ∨ s.hostActive = false)) ∧ s.canWake = false :=
  ⟨up, 25, by decide +kernel⟩

theorem wit_PowerStateTransitions_8 : ∃ (s : State) (c : Int), s.dark = false ∧ s.flag F.PMU_STATE_BUSY = false ∧
    ((s.fld F.PMU_STATE_CUR = 2 ∨ s.hostActive = false)) ∧ s.canWake = true ∧ 400 < 60 + popCount 8 (s.fld
    F.PMU_RET_CFG_KEEP) * bankLoad c :=
  ⟨fl [(F.PMU_WAKE_EN_SRC, 256), (F.PMU_RET_CFG_KEEP, 255)], 105, by decide +kernel⟩

theorem wit_PowerStateTransitions_9 : ∃ (s : State) (c : Int), s.dark = false ∧ s.flag F.PMU_STATE_BUSY = false ∧
    ((s.fld F.PMU_STATE_CUR = 2 ∨ s.hostActive = false)) ∧ s.canWake = true ∧ 60 + popCount 8 (s.fld
    F.PMU_RET_CFG_KEEP) * bankLoad c ≤ 400 ∧ ((s.fld F.PMU_STATE_CUR = 2 ∨ s.fld F.REGSVC_TOTALS_FLOWS = 0)) :=
  ⟨fl [(F.PMU_WAKE_EN_SRC, 256), (F.PMU_RET_CFG_KEEP, 1)], 25, by decide +kernel⟩

theorem wit_PowerStateTransitions_10 : ∃ (s : State), s.power.mode = .sleepEntry ∧ s.power.latched = none :=
  ⟨{ power := { mode := .sleepEntry } }, by decide +kernel⟩

theorem wit_PowerStateTransitions_11 : ∃ (s : State), s.power.mode = .sleepEntry ∧ s.power.latched ≠ none :=
  ⟨{ power := { mode := .sleepEntry, latched := some (8, 0) } }, by decide +kernel⟩

theorem wit_WakeEventsLeaveWatchAndSleep_0 : ∃ (s : State) (i : Instr) (src : Nat) (pat : Nat), (((∃ p : Fin 4, i =
    .wakeLinkEnergy p ∧ src = p.val ∧ pat = 0 ∧ s.watchPort p.val = 1) ∨ (∃ (p : Fin 4) (f : List Byte), i =
    .wakePatternMatch p f ∧ src = p.val ∧ s.watchPort p.val = 2 ∧ (List.range 16).find? (fun n => s.patMatches n p.val
    f) = some pat) ∨ (∃ f : List Byte, i = .wakeWlanRequest f ∧ src = 4 ∧ pat = 0 ∧ (∃ b, s.power.listenUntil = some b
    ∧ s.now ≤ b.toNat) ∧ s.fld F.PMU_WATCH_CFG_RADIO ≠ 3) ∨ (∃ f : List Byte, i = .wakeNguordFrame f ∧ src = 5 ∧ pat =
    0 ∧ s.flag F.PMU_WATCH_CFG_NGUORD = true) ∨ (i = .wakePcie ∧ src = 6 ∧ pat = 0 ∧ s.fld F.HOSTP_CFG_MODE ≠ 0) ∨ (i
    = .wakeAlarm true ∧ src = 7 ∧ pat = 0 ∧ s.wakeTrigger = true) ∨ (i = .wakeAlarm false ∧ src = 7 ∧ pat = 0 ∧ s.rd
    A.PMU_ALARM ≠ 0 ∧ s.power.entryAo + (s.rd A.PMU_ALARM).toNat ≤ s.aoNow) ∨ (∃ r, i = .wakeIn r ∧ src = 8 ∧ pat = 0
    ∧ r = !s.flag F.PMU_WAKE_EN_WAKE_IN_POL))) ∧ s.power.mode = .on ∧ s.fld F.PMU_STATE_CUR = 2 ∧ (s.fld
    F.PMU_WAKE_EN_SRC).testBit src = true :=
  ⟨setR (fl [(F.PMU_STATE_CUR, 2), (F.PMU_WAKE_EN_SRC, 128)]) [(A.PMU_ALARM, 1)] |> (fun s => { s with power := { s.power with ao := 1 } }),
    .wakeAlarm false, 7, 0,
    .inr (.inr (.inr (.inr (.inr (.inr (.inl ⟨rfl, rfl, rfl, by decide +kernel, by decide +kernel⟩)))))),
    by decide +kernel⟩

theorem wit_WakeEventsLeaveWatchAndSleep_1 : ∃ (s : State) (i : Instr) (src : Nat), (((i = .wakePcie ∧ src = 6 ∧ s.fld
    F.HOSTP_CFG_MODE ≠ 0) ∨ (i = .wakeAlarm false ∧ src = 7 ∧ s.rd A.PMU_ALARM ≠ 0 ∧ s.power.entryAo + (s.rd
    A.PMU_ALARM).toNat ≤ s.aoNow) ∨ (∃ r, i = .wakeIn r ∧ src = 8 ∧ r = !s.flag F.PMU_WAKE_EN_WAKE_IN_POL))) ∧
    s.power.mode = .sleep ∧ (s.fld F.PMU_WAKE_EN_SRC).testBit src = true :=
  ⟨{ setR (fl [(F.PMU_WAKE_EN_SRC, 128)]) [(A.PMU_ALARM, 1)] with power := { mode := .sleep, ao := 1 } },
    .wakeAlarm false, 7, .inr (.inl ⟨rfl, rfl, by decide +kernel, by decide +kernel⟩), by decide +kernel⟩

theorem wit_WakeEventsLeaveWatchAndSleep_2 : ∃ (s : State) (p : Fin 4), s.watchPort p.val = 1 ∧ s.power.mode = .sleep
    :=
  ⟨{ setR up [(A.PMU_WATCH_CFG, 0x10)] with power := { mode := .sleep } }, 0, by decide +kernel⟩

theorem wit_WakeEventsLeaveWatchAndSleep_3 : ∃ (s : State) (_ : List (BitVec 22 × Byte)), s.power.mode = .sleepExit ∧
    s.boot.phase ≠ .waiting ∧ s.nvmc = none :=
  ⟨{ power := { mode := .sleepExit }, boot := { phase := .firmware } }, [], by decide +kernel⟩

theorem wit_ClockBranchesAndPlls_0 : ∃ (s : State) (b : Fin 16), s.gateMode b.val = 1 ∧ s.fed b.val = true ∧ s.dark =
    false :=
  ⟨up, 0, by decide +kernel⟩

theorem wit_ClockBranchesAndPlls_1 : ∃ (s : State) (b : Fin 16), s.gateMode b.val = 1 ∧ s.branchWork b.val = false ∧
    s.dark = false ∧ sget (fun _ => 0) s.power.busyAt b.val + s.idleTicks ≤ s.now :=
  ⟨{ up with time := { tick := 100000 } }, 0, by decide +kernel⟩

theorem wit_ClockBranchesAndPlls_2 : ∃ (s : State) (w : Word), s.dark = false ∧ ((∀ b < 16, s.gateLegal w b = true))
    :=
  ⟨up, 0x80555555, by decide +kernel⟩

theorem wit_ClockBranchesAndPlls_3 : ∃ (s : State) (w : Word) (b : Nat), b < 16 ∧ s.dark = false ∧ ((getBits w (2 * b)
    2 = 3 ∨ (b = 15 ∧ getBits w (2 * b) 2 ≠ 2) ∨ (12 ≤ b ∧ getBits w (2 * b) 2 = 1) ∨ (getBits w (2 * b) 2 = 0 ∧
    (s.fld F.CKGEN_PIN_BRANCHES).testBit b = true) ∨ (getBits w (2 * b) 2 ≠ 0 ∧ ∃ p, pllOf b = some p ∧ (s.fld
    F.CKGEN_PLL_CTRL_EN).testBit p = false))) ∧ getBits (s.rd 0x40010004) 0 8 = 0 :=
  ⟨up, 0xC0555555, 15, by decide +kernel⟩

theorem wit_ClockBranchesAndPlls_4 : ∃ (s : State) (w : Word), s.dark = false ∧ s.pllLegal w = true :=
  ⟨up, 0x1F, by decide +kernel⟩

theorem wit_ClockBranchesAndPlls_5 : ∃ (s : State) (w : Word) (p : Nat), s.dark = false ∧ p < 5 ∧ w.getLsbD p = false
    ∧ (s.fld F.CKGEN_PLL_CTRL_EN).testBit p = true ∧ ((p = 0 ∨ p = 3 ∨ ∃ b < 16, pllOf b = some p ∧ s.gateMode b ≠ 0))
    :=
  ⟨up, 0x0E, 0, by decide +kernel⟩

theorem wit_ClockBranchesAndPlls_6 : ∃ (s : State) (p : Fin 5), (s.fld F.CKGEN_PLL_CTRL_EN).testBit p.val = true ∧
    s.pllHeld p.val = false :=
  ⟨up, 3, by decide +kernel⟩

theorem wit_ClockBranchesAndPlls_7 : ∃ (s : State) (p : Fin 5), (s.fld F.CKGEN_PLL_STATUS_LOCK).testBit p.val = true ∧
    s.dark = false ∧ s.flt.queue.length < 16 :=
  ⟨up, 4, by decide +kernel⟩

theorem wit_ClockBranchesAndPlls_8 : ∃ (s : State) (_ : Bool), s.dark = false ∧ s.flt.queue.length < 16 :=
  ⟨up, true, by decide +kernel⟩

/-- Flash bytes 0 to 639 of an image whose first record is of type `ty`, with `body` at offset 512 and the digest bytes
`dig`; the second record is an ENTRY (R109, R110). -/
def imgByte (ty : Nat) (body : List Byte) (dest : Nat) (dig : List Byte) (a : Nat) : Byte :=
  if a < 256 then 0 else if a = 256 then BitVec.ofNat 8 ty else if a = 320 then 10
  else if 512 ≤ a then body.getD (a - 512) 0
  else if 272 ≤ a ∧ a < 320 then dig.getD (a - 272) 0
  else if 260 ≤ a ∧ a < 264 then (leBytes 4 512).getD (a - 260) 0
  else if 264 ≤ a ∧ a < 268 then (leBytes 4 body.length).getD (a - 264) 0
  else if 268 ≤ a ∧ a < 272 then (leBytes 4 (dest / 16)).getD (a - 268) 0
  else 0

/-- The ROM at the first record of such an image in slot A. -/
def recSt (ty : Nat) (body : List Byte) (dest : Nat) (dig : List Byte) (s : State) : State :=
  { (s.setFld F.SYSCTL_BOOT_STATUS_SLOT 0).setFld F.SYSCTL_BOOT_STATUS_SLOT 0 with
    nvm := (List.range 640).map (fun a => (a, imgByte ty body dest dig a)), boot := { s.boot with phase := .records } }

/-- Reading a map listed over a range. -/
theorem sget_range {α : Type} (d f : Nat → α) (n k : Nat) (h : k < n) :
    sget d ((List.range n).map (fun a => (a, f a))) k = f k := by
  have key : ∀ (l : List Nat), k ∈ l → sget d (l.map (fun a => (a, f a))) k = f k := by
    intro l
    induction l with
    | nil => simp
    | cons x xs ih =>
      intro hk
      simp only [List.map_cons, sget]
      split
      · subst_vars; rfl
      · exact ih ((List.mem_cons.mp hk).resolve_left (fun e => by simp_all))
  exact key _ (List.mem_range.mpr h)

set_option exponentiation.threshold 400

theorem leNat_leBytes (n v : Nat) : leNat (leBytes n v) = v % 256 ^ n := by
  induction n generalizing v with
  | zero => simp [leNat, leBytes, Nat.mod_one]
  | succ k ih =>
    simp only [leBytes, leNat, ih, BitVec.toNat_ofNat, show (256 : Nat) ^ (k + 1) = 256 * 256 ^ k by rw [Nat.pow_succ, Nat.mul_comm]]
    rw [Nat.mod_mul]

theorem map_getD (l : List Byte) (n : Nat) (h : l.length = n) : (List.range n).map (fun i => l.getD i 0) = l := by
  apply List.ext_getElem
  · simp [h]
  · intro i h1 h2; simp [List.getD_eq_getElem?_getD, h2]

theorem rec_byte (ty : Nat) (body : List Byte) (dest : Nat) (dig : List Byte) (s : State) (a : Nat) (h : a < 640) :
    (recSt ty body dest dig s).flashByte a = imgByte ty body dest dig a := by
  simp only [State.flashByte, recSt]
  exact sget_range _ (imgByte ty body dest dig) 640 a h

theorem rec_slot (ty : Nat) (body : List Byte) (dest : Nat) (dig : List Byte) (s : State) :
    (recSt ty body dest dig s).slot = 0 := by
  have h : (recSt ty body dest dig s).slot =
      ((s.setFld F.SYSCTL_BOOT_STATUS_SLOT 0).setFld F.SYSCTL_BOOT_STATUS_SLOT 0).fld F.SYSCTL_BOOT_STATUS_SLOT := by
    simp only [State.slot, State.fld, State.rd, recSt]
  rw [h, State.fld_setFld_same _ _ _ (by decide), Nat.zero_mod]

theorem rec_img (ty : Nat) (body : List Byte) (dest : Nat) (dig : List Byte) (s : State) (off n : Nat) (h : off + n ≤ 640) :
    (recSt ty body dest dig s).img 0 off n = (List.range n).map (fun i => imgByte ty body dest dig (off + i)) := by
  apply List.map_congr_left
  intro i hi
  have := List.mem_range.mp hi
  rw [← rec_byte ty body dest dig s (off + i) (by omega)]
  simp only [slotBase, Nat.zero_mul, Nat.zero_add]

theorem rec_entry (ty : Nat) (body : List Byte) (dest : Nat) (dig : List Byte) (s : State) (ht : ty < 256)
    (hl : body.length ≤ 128) (hd : dig.length = 48) :
    (recSt ty body dest dig s).dirEntry 0 0 = { type := ty, critical := false, resume := false, offset := 512, length := body.length, dest := 16 * (dest / 16 % 4294967296), digest := leNat dig } := by
  have e1 : (recSt ty body dest dig s).imgNat 0 256 1 = ty := by
    rw [State.imgNat, rec_img _ _ _ _ _ _ _ (by omega)]
    simp [imgByte, leNat]; omega
  have e2 : (recSt ty body dest dig s).imgNat 0 257 1 = 0 := by
    rw [State.imgNat, rec_img _ _ _ _ _ _ _ (by omega)]; simp [imgByte, leNat]
  have e3 : (recSt ty body dest dig s).imgNat 0 260 4 = 512 := by
    rw [State.imgNat, rec_img _ _ _ _ _ _ _ (by omega)]; rfl
  have e4 : (recSt ty body dest dig s).imgNat 0 264 4 = body.length := by
    rw [State.imgNat, rec_img _ _ _ _ _ _ _ (by omega)]
    have := leNat_leBytes 4 body.length
    rw [Nat.mod_eq_of_lt (by omega)] at this
    rw [← this]; rfl
  have e5 : (recSt ty body dest dig s).imgNat 0 268 4 = dest / 16 % 4294967296 := by
    rw [State.imgNat, rec_img _ _ _ _ _ _ _ (by omega)]
    have h := leNat_leBytes 4 (dest / 16)
    rw [show (256 : Nat) ^ 4 = 4294967296 by decide] at h
    rw [← h]; rfl
  have e6 : (recSt ty body dest dig s).imgNat 0 272 48 = leNat dig := by
    rw [State.imgNat, rec_img _ _ _ _ _ _ _ (by omega)]
    refine congrArg leNat (Eq.trans ?_ (map_getD dig 48 hd))
    apply List.map_congr_left
    intro i hi
    have := List.mem_range.mp hi
    simp only [imgByte]
    rw [if_neg (by omega), if_neg (by omega), if_neg (by omega), if_neg (by omega), if_pos (by omega), Nat.add_sub_cancel_left]
  simp only [State.dirEntry]
  simp [e1, e2, e3, e4, e5, e6]

theorem rec_at (ty : Nat) (body : List Byte) (dest : Nat) (dig : List Byte) (s : State) (ht : ty < 256)
    (hl : body.length ≤ 128) (hd : dig.length = 48) (hr : s.boot.recIdx = 0) :
    atRecord (recSt ty body dest dig s) ty := by
  refine ⟨rfl, ?_, ?_, ?_⟩
  all_goals rw [rec_slot, show (recSt ty body dest dig s).boot.recIdx = 0 from hr]
  · rw [rec_entry ty body dest dig s ht hl hd]
  · simp only [State.dirEntry, State.imgNat, Nat.zero_add, Nat.mul_one]
    rw [rec_img _ _ _ _ _ _ _ (by omega)]; simp [imgByte, leNat]
  · simp only [State.dirEntry, State.imgNat, Nat.zero_add, Nat.mul_one]
    rw [rec_img _ _ _ _ _ _ _ (by omega)]; simp [imgByte, leNat]

theorem rec_body (ty : Nat) (body : List Byte) (dest : Nat) (dig : List Byte) (s : State) (ht : ty < 256)
    (hl : body.length ≤ 128) (hd : dig.length = 48) (hr : s.boot.recIdx = 0) :
    presentBody (recSt ty body dest dig s) = body := by
  rw [presentBody, rec_slot, show (recSt ty body dest dig s).boot.recIdx = 0 from hr, rec_entry ty body dest dig s ht hl hd,
    State.recBody, rec_img _ _ _ _ _ _ _ (by simp only; omega)]
  refine Eq.trans ?_ (map_getD body _ rfl)
  apply List.map_congr_left
  intro i hi
  have := List.mem_range.mp hi
  simp only [imgByte]
  rw [if_neg (by omega), if_neg (by omega), if_neg (by omega), if_pos (by omega), Nat.add_sub_cancel_left]

theorem rec_digest (ty : Nat) (body : List Byte) (dest : Nat) (v : Nat) (s : State) (ht : ty < 256)
    (hl : body.length ≤ 128) (hr : s.boot.recIdx = 0) :
    digestMatches (recSt ty body dest (leBytes 48 v) s) ↔ (Config.sha384 body).toNat = v % 2 ^ 384 := by
  have hb := rec_body ty body dest (leBytes 48 v) s ht hl (leBytes_length _ _) hr
  rw [presentBody] at hb
  rw [digestMatches, State.digestGood, hb, decide_eq_true_eq, rec_slot,
    show (recSt ty body dest (leBytes 48 v) s).boot.recIdx = 0 from hr,
    rec_entry ty body dest _ s ht hl (leBytes_length _ _), leNat_leBytes]
  rw [show (256 : Nat) ^ 48 = 2 ^ 384 by decide +kernel]

theorem rec_good (ty : Nat) (body : List Byte) (dest : Nat) (s : State) (ht : ty < 256)
    (hl : body.length ≤ 128) (hr : s.boot.recIdx = 0) :
    digestMatches (recSt ty body dest (leBytes 48 (Config.sha384 body).toNat) s) :=
  (rec_digest ty body dest _ s ht hl hr).mpr (Nat.mod_eq_of_lt (BitVec.isLt _)).symm

theorem rec_bad (ty : Nat) (body : List Byte) (dest : Nat) (s : State) (ht : ty < 256)
    (hl : body.length ≤ 128) (hr : s.boot.recIdx = 0) :
    ¬ digestMatches (recSt ty body dest (leBytes 48 ((Config.sha384 body).toNat + 1)) s) := by
  intro h
  have := (rec_digest ty body dest _ s ht hl hr).mp h
  have hlt := (Config.sha384 body).isLt
  revert this hlt
  generalize (Config.sha384 body).toNat = x
  generalize hM : 2 ^ 384 = M
  intro h1 h2
  rcases Nat.lt_or_ge (x + 1) M with h3 | h3
  · rw [Nat.mod_eq_of_lt h3] at h1; omega
  · rw [show x + 1 = M by omega, Nat.mod_self] at h1
    have : 2 ≤ M := by rw [← hM]; decide +kernel
    omega

/-- The record with its digest. -/
abbrev recGood (ty : Nat) (body : List Byte) (dest : Nat) (s : State) : State :=
  recSt ty body dest (leBytes 48 (Config.sha384 body).toNat) s

/-- The record with another digest. -/
abbrev recBad (ty : Nat) (body : List Byte) (dest : Nat) (s : State) : State :=
  recSt ty body dest (leBytes 48 ((Config.sha384 body).toNat + 1)) s

/-- The header of an image of one record with counter value `svn` (R109). -/
def hdrByte (svn a : Nat) : Byte :=
  if a < 4 then (leBytes 4 0x594C554B).getD a 0 else if a = 4 then 1 else if a = 7 then 1
  else if 8 ≤ a ∧ a < 12 then (leBytes 4 6000).getD (a - 8) 0
  else if a = 16 then BitVec.ofNat 8 svn else if a = 18 then 1
  else if a = 21 then 1 else if 24 ≤ a ∧ a < 28 then (leBytes 4 320).getD (a - 24) 0
  else if a = 32 then 0x40 else if a = 33 then 0x96 else 0

/-- A machine whose slot A holds such an image, of one ENTRY record or, with `ty` another type, without one. -/
def imgSt (ph : BootPhase) (svn ty rb0 : Nat) : State :=
  let s : State := { nvm := (List.range 320).map (fun a => (a, if a < 256 then hdrByte svn a else if a = 256 then BitVec.ofNat 8 ty else 0)) }
  { s with boot := { phase := ph, openSlot := some 0 }, fuses := { lcBits := 1, rb0 := rb0, ownerHash := Config.sha384 (s.img 0 320 1984) } }

/-- Both signatures of slot A verify. -/
def signed (s : State) : Prop :=
  Config.ed25519Verify (s.img 0 320 32) (leBytes 48 (s.imgDigest 0).toNat) (s.img 0 2304 64) = true ∧
    Config.mldsaVerify (s.img 0 352 1952) (leBytes 48 (s.imgDigest 0).toNat) (s.img 0 2368 3309) = true

/-- A signed image has no signature fault (R112). -/
theorem imgSt_signed (ph : BootPhase) (svn ty rb0 : Nat) (hr : (imgSt ph svn ty rb0).imgRecCount 0 = 1) (h : signed (imgSt ph svn ty rb0)) :
    (imgSt ph svn ty rb0).signatureFault 0 = none := by
  have hk : (imgSt ph svn ty rb0).keyHash = some (Config.sha384 ((imgSt ph svn ty rb0).img 0 320 1984)) := rfl
  simp only [State.signatureFault, hk, hr]
  rw [if_neg (fun h => h rfl)]
  exact if_pos h

/-- Where the two signatures of the image verify, which opaque functions decide, the premises on a verified slot hold:
an image below counter 0, one without an ENTRY record at its end, and a good one. -/
theorem wit_BootChoosesAndChecksTheSlot_2 (h : signed (imgSt .waiting 3 10 4)) :
    ∃ (s : State) (k : Nat), s.boot.phase = .waiting ∧ s.power.mode = .on ∧ s.fuses.lcBits ≠ 4 ∧
      s.fld F.SYSCTL_RESET_CAUSE_CAUSE ≠ 6 ∧ s.chooseSlot = some k ∧ s.signatureFault k = none ∧ s.imgSvn k < s.fuses.rb0 :=
  ⟨imgSt .waiting 3 10 4, 0, rfl, rfl, by decide +kernel, by decide +kernel, by decide +kernel, imgSt_signed _ _ _ _ (by decide +kernel) h,
    by decide +kernel⟩

/-- An image whose last record is no ENTRY. -/
theorem wit_BootChoosesAndChecksTheSlot_3 (h : signed (imgSt .waiting 3 9 0)) :
    ∃ (s : State) (k : Nat), s.boot.phase = .waiting ∧ s.power.mode = .on ∧ s.fuses.lcBits ≠ 4 ∧
      s.fld F.SYSCTL_RESET_CAUSE_CAUSE ≠ 6 ∧ s.chooseSlot = some k ∧ s.signatureFault k = none ∧ s.fuses.rb0 ≤ s.imgSvn k ∧
      s.entryGood k = false :=
  ⟨imgSt .waiting 3 9 0, 0, rfl, rfl, by decide +kernel, by decide +kernel, by decide +kernel, imgSt_signed _ _ _ _ (by decide +kernel) h,
    by decide +kernel⟩

/-- A good image. -/
theorem wit_BootChoosesAndChecksTheSlot_4 (h : signed (imgSt .waiting 3 10 3)) :
    ∃ (s : State) (k : Nat), s.boot.phase = .waiting ∧ s.power.mode = .on ∧ s.fuses.lcBits ≠ 4 ∧
      s.fld F.SYSCTL_RESET_CAUSE_CAUSE ≠ 6 ∧ s.chooseSlot = some k ∧ s.signatureFault k = none ∧ s.fuses.rb0 ≤ s.imgSvn k ∧
      s.entryGood k = true ∧ 1 ≤ (s.dirEntry k 0).type ∧ (s.dirEntry k 0).type ≤ 10 :=
  ⟨imgSt .waiting 3 10 3, 0, rfl, rfl, by decide +kernel, by decide +kernel, by decide +kernel, imgSt_signed _ _ _ _ (by decide +kernel) h,
    by decide +kernel⟩

/-- A staged image that passes every check, where its signatures and its record's digest are good. -/
theorem wit_FlashOperationsAndImageMessages_9 (h : signed (imgSt .firmware 3 10 3))
    (hd : (imgSt .firmware 3 10 3).digestGood 0 ((imgSt .firmware 3 10 3).dirEntry 0 0) = true) :
    ∃ (s : State) (_ n : Word) (l : List Word) (k : Nat), s.boot.phase = .firmware ∧ l.length = (n.toNat + 3) / 4 ∧
      s.boot.openSlot = some k ∧ k < 2 ∧ s.boot.spoiled = [] ∧ s.commitFault k = none :=
  ⟨imgSt .firmware 3 10 3, 1, 0, [], 0, rfl, by decide +kernel, rfl,
    by decide, rfl, by
      have e1 : (imgSt .firmware 3 10 3).headerFault 0 = none := by decide +kernel
      have e2 := imgSt_signed .firmware 3 10 3 (by decide +kernel) h
      have e3 : ¬ (imgSt .firmware 3 10 3).imgSvn 0 < (imgSt .firmware 3 10 3).fuses.rb0 := by decide +kernel
      have e4 : (imgSt .firmware 3 10 3).imgRecCount 0 = 1 := by decide +kernel
      simp only [State.commitFault, e1, e2, e4, if_neg e3, List.range_one, List.all_cons, List.all_nil, hd, Bool.and_self,
        if_true]⟩

theorem wit_BootChoosesAndChecksTheSlot_0 : ∃ (s : State), s.boot.phase = .waiting ∧ s.power.mode = .on ∧
    s.fuses.lcBits = 4 :=
  ⟨{ fuses := { lcBits := 4 } }, by decide +kernel⟩

theorem wit_BootChoosesAndChecksTheSlot_1 : ∃ (s : State), s.boot.phase = .waiting ∧ s.power.mode = .on ∧
    s.fuses.lcBits ≠ 4 ∧ s.fld F.SYSCTL_RESET_CAUSE_CAUSE ≠ 6 ∧ s.chooseSlot = none :=
  ⟨up, by decide +kernel⟩

theorem wit_BootRecordsAreApplied_0 : ∃ (s : State), atRecord s 0x01 ∧ (presentBody s).length = 4 ∧ byteAt
    (presentBody s) 0 ≤ 127 ∧ s.flag F.SYSCTL_CFG_LOCK_LOCK = false ∧ ¬ digestMatches s :=
  ⟨recBad 1 [5, 0, 0, 0] 0 up, rec_at _ _ _ _ _ (by decide) (by decide) (leBytes_length _ _) rfl,
    by rw [rec_body _ _ _ _ _ (by decide) (by decide) (leBytes_length _ _) rfl]; decide +kernel,
    by rw [rec_body _ _ _ _ _ (by decide) (by decide) (leBytes_length _ _) rfl]; decide +kernel, by decide +kernel,
    rec_bad _ _ _ _ (by decide) (by decide) rfl⟩

theorem wit_BootRecordsAreApplied_1 : ∃ (s : State), atRecord s 0x01 ∧ (presentBody s).length = 4 ∧ byteAt
    (presentBody s) 0 ≤ 127 ∧ s.flag F.SYSCTL_CFG_LOCK_LOCK = false ∧ digestMatches s :=
  ⟨recGood 1 [127, 0, 0, 0] 0 up, rec_at _ _ _ _ _ (by decide) (by decide) (leBytes_length _ _) rfl,
    by rw [rec_body _ _ _ _ _ (by decide) (by decide) (leBytes_length _ _) rfl]; decide +kernel,
    by rw [rec_body _ _ _ _ _ (by decide) (by decide) (leBytes_length _ _) rfl]; decide +kernel, by decide +kernel,
    rec_good _ _ _ _ (by decide) (by decide) rfl⟩

theorem wit_BootRecordsAreApplied_2 : ∃ (s : State), atRecord s 0x02 ∧ (presentBody s).length = 4 ∧ byteAt
    (presentBody s) 2 ≤ 31 ∧ 6 ≤ byteAt (presentBody s) 1 ∧ byteAt (presentBody s) 1 ≤ 120 ∧ s.flag
    F.SYSCTL_CFG_LOCK_LOCK = false ∧ ¬ digestMatches s :=
  ⟨recBad 2 [1, 6, 31, 0] 0 up, rec_at _ _ _ _ _ (by decide) (by decide) (leBytes_length _ _) rfl,
    by rw [rec_body _ _ _ _ _ (by decide) (by decide) (leBytes_length _ _) rfl]; decide +kernel,
    by rw [rec_body _ _ _ _ _ (by decide) (by decide) (leBytes_length _ _) rfl]; decide +kernel,
    by rw [rec_body _ _ _ _ _ (by decide) (by decide) (leBytes_length _ _) rfl]; decide +kernel,
    by rw [rec_body _ _ _ _ _ (by decide) (by decide) (leBytes_length _ _) rfl]; decide +kernel, by decide +kernel,
    rec_bad _ _ _ _ (by decide) (by decide) rfl⟩

theorem wit_BootRecordsAreApplied_3 : ∃ (s : State), atRecord s 0x02 ∧ (presentBody s).length = 4 ∧ byteAt
    (presentBody s) 2 ≤ 31 ∧ 6 ≤ byteAt (presentBody s) 1 ∧ byteAt (presentBody s) 1 ≤ 120 ∧ s.flag
    F.SYSCTL_CFG_LOCK_LOCK = false ∧ digestMatches s :=
  ⟨recGood 2 [1, 120, 0, 0] 0 up, rec_at _ _ _ _ _ (by decide) (by decide) (leBytes_length _ _) rfl,
    by rw [rec_body _ _ _ _ _ (by decide) (by decide) (leBytes_length _ _) rfl]; decide +kernel,
    by rw [rec_body _ _ _ _ _ (by decide) (by decide) (leBytes_length _ _) rfl]; decide +kernel,
    by rw [rec_body _ _ _ _ _ (by decide) (by decide) (leBytes_length _ _) rfl]; decide +kernel,
    by rw [rec_body _ _ _ _ _ (by decide) (by decide) (leBytes_length _ _) rfl]; decide +kernel, by decide +kernel,
    rec_good _ _ _ _ (by decide) (by decide) rfl⟩

theorem wit_BootRecordsAreApplied_4 : ∃ (s : State) (pll : Word) (gate : Word), atRecord s 0x03 ∧ (presentBody
    s).length = 8 ∧ pll = BitVec.ofNat 32 (leNat (slice (presentBody s) 0 4)) ∧ gate = BitVec.ofNat 32 (leNat (slice
    (presentBody s) 4 4)) ∧ s.pllLegal pll = true ∧ ((∀ b < 16, (s.setFld F.CKGEN_PLL_CTRL_EN (getBits pll 0
    5)).gateLegal gate b = true)) ∧ ¬ digestMatches s :=
  ⟨recBad 3 (leBytes 4 15 ++ leBytes 4 0x80555555) 0 up, 15, 0x80555555,
    rec_at _ _ _ _ _ (by decide) (by decide) (leBytes_length _ _) rfl,
    by rw [rec_body _ _ _ _ _ (by decide) (by decide) (leBytes_length _ _) rfl]; decide +kernel,
    by rw [rec_body _ _ _ _ _ (by decide) (by decide) (leBytes_length _ _) rfl]; decide +kernel,
    by rw [rec_body _ _ _ _ _ (by decide) (by decide) (leBytes_length _ _) rfl]; decide +kernel, by decide +kernel,
    by decide +kernel, rec_bad _ _ _ _ (by decide) (by decide) rfl⟩

theorem wit_BootRecordsAreApplied_5 : ∃ (s : State) (pll : Word) (gate : Word), atRecord s 0x03 ∧ (presentBody
    s).length = 8 ∧ pll = BitVec.ofNat 32 (leNat (slice (presentBody s) 0 4)) ∧ gate = BitVec.ofNat 32 (leNat (slice
    (presentBody s) 4 4)) ∧ s.pllLegal pll = true ∧ ((∀ b < 16, (s.setFld F.CKGEN_PLL_CTRL_EN (getBits pll 0
    5)).gateLegal gate b = true)) ∧ digestMatches s :=
  ⟨recGood 3 (leBytes 4 15 ++ leBytes 4 0x80555555) 0 up, 15, 0x80555555,
    rec_at _ _ _ _ _ (by decide) (by decide) (leBytes_length _ _) rfl,
    by rw [rec_body _ _ _ _ _ (by decide) (by decide) (leBytes_length _ _) rfl]; decide +kernel,
    by rw [rec_body _ _ _ _ _ (by decide) (by decide) (leBytes_length _ _) rfl]; decide +kernel,
    by rw [rec_body _ _ _ _ _ (by decide) (by decide) (leBytes_length _ _) rfl]; decide +kernel, by decide +kernel,
    by decide +kernel, rec_good _ _ _ _ (by decide) (by decide) rfl⟩

theorem wit_BootRecordsAreApplied_6 : ∃ (s : State) (f : Nat), atRecord s 0x04 ∧ (presentBody s).length = 16 ∧
    s.boot.recIdx < 8 ∧ 1 ≤ byteAt (presentBody s) 11 ∧ byteAt (presentBody s) 11 ≤ 4 ∧ 1 ≤ leNat (slice (presentBody
    s) 12 2) ∧ leNat (slice (presentBody s) 12 2) ≤ 512 ∧ f = byteAt (presentBody s) 14 ∧ f < 4 ∧ byteAt (presentBody
    s) 15 = 0 ∧ s.flag F.SYSCTL_CFG_LOCK_LOCK = false ∧ s.boot.hostpTrained = false ∧ ¬ digestMatches s :=
  ⟨recBad 4 [0, 0, 0, 0, 0, 0, 0, 0, 0, 0, 0, 1, 0, 2, 3, 0] 0 up, 3,
    rec_at _ _ _ _ _ (by decide) (by decide) (leBytes_length _ _) rfl,
    by rw [rec_body _ _ _ _ _ (by decide) (by decide) (leBytes_length _ _) rfl]; decide +kernel, by decide +kernel,
    by rw [rec_body _ _ _ _ _ (by decide) (by decide) (leBytes_length _ _) rfl]; decide +kernel,
    by rw [rec_body _ _ _ _ _ (by decide) (by decide) (leBytes_length _ _) rfl]; decide +kernel,
    by rw [rec_body _ _ _ _ _ (by decide) (by decide) (leBytes_length _ _) rfl]; decide +kernel,
    by rw [rec_body _ _ _ _ _ (by decide) (by decide) (leBytes_length _ _) rfl]; decide +kernel,
    by rw [rec_body _ _ _ _ _ (by decide) (by decide) (leBytes_length _ _) rfl]; decide +kernel, by decide +kernel,
    by rw [rec_body _ _ _ _ _ (by decide) (by decide) (leBytes_length _ _) rfl]; decide +kernel, by decide +kernel,
    by decide +kernel, rec_bad _ _ _ _ (by decide) (by decide) rfl⟩

theorem wit_BootRecordsAreApplied_7 : ∃ (s : State) (f : Nat), atRecord s 0x04 ∧ (presentBody s).length = 16 ∧
    s.boot.recIdx < 8 ∧ 1 ≤ byteAt (presentBody s) 11 ∧ byteAt (presentBody s) 11 ≤ 4 ∧ 1 ≤ leNat (slice (presentBody
    s) 12 2) ∧ leNat (slice (presentBody s) 12 2) ≤ 512 ∧ f = byteAt (presentBody s) 14 ∧ f < 4 ∧ byteAt (presentBody
    s) 15 = 0 ∧ s.flag F.SYSCTL_CFG_LOCK_LOCK = false ∧ s.boot.hostpTrained = false ∧ digestMatches s :=
  ⟨recGood 4 [0, 0, 0, 0, 0, 0, 0, 0, 0, 0, 0, 4, 1, 0, 0, 0] 0 up, 0,
    rec_at _ _ _ _ _ (by decide) (by decide) (leBytes_length _ _) rfl,
    by rw [rec_body _ _ _ _ _ (by decide) (by decide) (leBytes_length _ _) rfl]; decide +kernel, by decide +kernel,
    by rw [rec_body _ _ _ _ _ (by decide) (by decide) (leBytes_length _ _) rfl]; decide +kernel,
    by rw [rec_body _ _ _ _ _ (by decide) (by decide) (leBytes_length _ _) rfl]; decide +kernel,
    by rw [rec_body _ _ _ _ _ (by decide) (by decide) (leBytes_length _ _) rfl]; decide +kernel,
    by rw [rec_body _ _ _ _ _ (by decide) (by decide) (leBytes_length _ _) rfl]; decide +kernel,
    by rw [rec_body _ _ _ _ _ (by decide) (by decide) (leBytes_length _ _) rfl]; decide +kernel, by decide +kernel,
    by rw [rec_body _ _ _ _ _ (by decide) (by decide) (leBytes_length _ _) rfl]; decide +kernel, by decide +kernel,
    by decide +kernel, rec_good _ _ _ _ (by decide) (by decide) rfl⟩

theorem wit_BootRecordsAreApplied_8 : ∃ (s : State) (p : DWord), s.fld F.HOSTP_CFG_MODE ≠ 0 ∧ s.boot.hostpTrained =
    false ∧ s.boot.phase ≠ .waiting ∧ s.dark = false ∧ max p.toNat s.boot.released.toNat + 40000000 ≤ s.now :=
  ⟨{ fl [(F.HOSTP_CFG_MODE, 1)] with boot := { phase := .firmware }, time := { tick := 40000000 } }, 0,
    by decide +kernel⟩

theorem wit_BootRecordsAreApplied_9 : ∃ (s : State) (p : DWord), s.now < max p.toNat s.boot.released.toNat + 40000000
    :=
  ⟨up, 1, by decide +kernel⟩

theorem wit_BootRecordsAreApplied_10 : ∃ (s : State), atRecord s 0x05 ∧ (presentBody s).length = 16 ∧ byteAt
    (presentBody s) 0 = 1 ∧ byteAt (presentBody s) 1 ≤ 5 ∧ 1 ≤ byteAt (presentBody s) 2 ∧ byteAt (presentBody s) 2 ≤ 2
    ∧ byteAt (presentBody s) 3 ≤ 3 ∧ byteAt (presentBody s) 4 = 1 ∧ ((presentBody s).drop 8).all (fun x => decide (x =
    0)) = true ∧ s.flag F.SYSCTL_CFG_LOCK_LOCK = false ∧ ¬ digestMatches s :=
  ⟨recBad 5 [1, 0, 1, 0, 1, 0, 0, 0, 0, 0, 0, 0, 0, 0, 0, 0] 0 up,
    rec_at _ _ _ _ _ (by decide) (by decide) (leBytes_length _ _) rfl,
    by rw [rec_body _ _ _ _ _ (by decide) (by decide) (leBytes_length _ _) rfl]; decide +kernel,
    by rw [rec_body _ _ _ _ _ (by decide) (by decide) (leBytes_length _ _) rfl]; decide +kernel,
    by rw [rec_body _ _ _ _ _ (by decide) (by decide) (leBytes_length _ _) rfl]; decide +kernel,
    by rw [rec_body _ _ _ _ _ (by decide) (by decide) (leBytes_length _ _) rfl]; decide +kernel,
    by rw [rec_body _ _ _ _ _ (by decide) (by decide) (leBytes_length _ _) rfl]; decide +kernel,
    by rw [rec_body _ _ _ _ _ (by decide) (by decide) (leBytes_length _ _) rfl]; decide +kernel,
    by rw [rec_body _ _ _ _ _ (by decide) (by decide) (leBytes_length _ _) rfl]; decide +kernel,
    by rw [rec_body _ _ _ _ _ (by decide) (by decide) (leBytes_length _ _) rfl]; decide +kernel, by decide +kernel,
    rec_bad _ _ _ _ (by decide) (by decide) rfl⟩

theorem wit_BootRecordsAreApplied_11 : ∃ (s : State), atRecord s 0x05 ∧ (presentBody s).length = 16 ∧ byteAt
    (presentBody s) 0 = 1 ∧ byteAt (presentBody s) 1 ≤ 5 ∧ 1 ≤ byteAt (presentBody s) 2 ∧ byteAt (presentBody s) 2 ≤ 2
    ∧ byteAt (presentBody s) 3 ≤ 3 ∧ byteAt (presentBody s) 4 = 1 ∧ ((presentBody s).drop 8).all (fun x => decide (x =
    0)) = true ∧ s.flag F.SYSCTL_CFG_LOCK_LOCK = false ∧ digestMatches s :=
  ⟨recGood 5 [1, 5, 2, 3, 1, 0, 0, 0, 0, 0, 0, 0, 0, 0, 0, 0] 0 up,
    rec_at _ _ _ _ _ (by decide) (by decide) (leBytes_length _ _) rfl,
    by rw [rec_body _ _ _ _ _ (by decide) (by decide) (leBytes_length _ _) rfl]; decide +kernel,
    by rw [rec_body _ _ _ _ _ (by decide) (by decide) (leBytes_length _ _) rfl]; decide +kernel,
    by rw [rec_body _ _ _ _ _ (by decide) (by decide) (leBytes_length _ _) rfl]; decide +kernel,
    by rw [rec_body _ _ _ _ _ (by decide) (by decide) (leBytes_length _ _) rfl]; decide +kernel,
    by rw [rec_body _ _ _ _ _ (by decide) (by decide) (leBytes_length _ _) rfl]; decide +kernel,
    by rw [rec_body _ _ _ _ _ (by decide) (by decide) (leBytes_length _ _) rfl]; decide +kernel,
    by rw [rec_body _ _ _ _ _ (by decide) (by decide) (leBytes_length _ _) rfl]; decide +kernel,
    by rw [rec_body _ _ _ _ _ (by decide) (by decide) (leBytes_length _ _) rfl]; decide +kernel, by decide +kernel,
    rec_good _ _ _ _ (by decide) (by decide) rfl⟩

theorem wit_BootRecordsAreApplied_12 : ∃ (s : State) (d : DirEntry), atRecord s 0x06 ∧ d = s.dirEntry s.slot
    s.boot.recIdx ∧ d.length ≠ 0 ∧ s.boot.resume = false ∧ s.loadable d.dest d.length = true ∧ s.hitsKeyBank d.dest
    d.length = false ∧ ¬ digestMatches s :=
  ⟨recBad 6 [1, 2, 3, 4] 0x01000000 up,
    ⟨6, false, false, 512, 4, 0x01000000, leNat (leBytes 48 ((Config.sha384 [1, 2, 3, 4]).toNat + 1))⟩,
    rec_at _ _ _ _ _ (by decide) (by decide) (leBytes_length _ _) rfl,
    by rw [rec_slot]; exact (rec_entry 6 [1, 2, 3, 4] 0x01000000 _ _ (by decide) (by decide) (leBytes_length _ _)).symm,
    by decide +kernel, by decide +kernel, by decide +kernel, (by decide +kernel),
    rec_bad _ _ _ _ (by decide) (by decide) rfl⟩

theorem wit_BootRecordsAreApplied_13 : ∃ (s : State) (d : DirEntry), atRecord s 0x06 ∧ d = s.dirEntry s.slot
    s.boot.recIdx ∧ d.length ≠ 0 ∧ s.boot.resume = false ∧ s.loadable d.dest d.length = true ∧ s.hitsKeyBank d.dest
    d.length = false ∧ digestMatches s :=
  ⟨recGood 6 [1, 2, 3, 4] 0x03000000 up,
    ⟨6, false, false, 512, 4, 0x03000000, leNat (leBytes 48 (Config.sha384 [1, 2, 3, 4]).toNat)⟩,
    rec_at _ _ _ _ _ (by decide) (by decide) (leBytes_length _ _) rfl,
    by rw [rec_slot]; exact (rec_entry 6 [1, 2, 3, 4] 0x03000000 _ _ (by decide) (by decide) (leBytes_length _ _)).symm,
    by decide +kernel, by decide +kernel, by decide +kernel, (by decide +kernel),
    rec_good _ _ _ _ (by decide) (by decide) rfl⟩

theorem wit_BootRecordsAreApplied_14 : ∃ (s : State), atRecord s 0x09 ∧ (presentBody s).length = 0 ∧ ¬ digestMatches s
    :=
  ⟨recBad 9 [] 0 up, rec_at _ _ _ _ _ (by decide) (by decide) (leBytes_length _ _) rfl,
    by rw [rec_body _ _ _ _ _ (by decide) (by decide) (leBytes_length _ _) rfl]; decide +kernel,
    rec_bad _ _ _ _ (by decide) (by decide) rfl⟩

theorem wit_BootRecordsAreApplied_15 : ∃ (s : State), atRecord s 0x09 ∧ (presentBody s).length = 0 ∧ digestMatches s
    :=
  ⟨recGood 9 [] 0 up, rec_at _ _ _ _ _ (by decide) (by decide) (leBytes_length _ _) rfl,
    by rw [rec_body _ _ _ _ _ (by decide) (by decide) (leBytes_length _ _) rfl]; decide +kernel,
    rec_good _ _ _ _ (by decide) (by decide) rfl⟩

theorem wit_BootRecordsAreApplied_16 : ∃ (s : State), atRecord s 0x08 ∧ 48 ≤ (presentBody s).length ∧ leNat (slice
    (presentBody s) 28 4) = 0 ∧ s.boot.unbound = false ∧ s.sealingKey ((presentBody s).take 16) = none ∧ ¬
    digestMatches s :=
  ⟨recBad 8 (List.replicate 48 0) 0 up, rec_at _ _ _ _ _ (by decide) (by decide) (leBytes_length _ _) rfl,
    by rw [rec_body _ _ _ _ _ (by decide) (by decide) (leBytes_length _ _) rfl]; decide +kernel,
    by rw [rec_body _ _ _ _ _ (by decide) (by decide) (leBytes_length _ _) rfl]; decide +kernel, by decide +kernel,
    by rw [rec_body _ _ _ _ _ (by decide) (by decide) (leBytes_length _ _) rfl]; decide +kernel,
    rec_bad _ _ _ _ (by decide) (by decide) rfl⟩

theorem wit_BootRecordsAreApplied_17 : ∃ (s : State), atRecord s 0x08 ∧ 48 ≤ (presentBody s).length ∧ leNat (slice
    (presentBody s) 28 4) = 0 ∧ s.boot.unbound = false ∧ s.sealingKey ((presentBody s).take 16) = none ∧ digestMatches
    s :=
  ⟨recGood 8 (List.replicate 48 0) 0 up, rec_at _ _ _ _ _ (by decide) (by decide) (leBytes_length _ _) rfl,
    by rw [rec_body _ _ _ _ _ (by decide) (by decide) (leBytes_length _ _) rfl]; decide +kernel,
    by rw [rec_body _ _ _ _ _ (by decide) (by decide) (leBytes_length _ _) rfl]; decide +kernel, by decide +kernel,
    by rw [rec_body _ _ _ _ _ (by decide) (by decide) (leBytes_length _ _) rfl]; decide +kernel,
    rec_good _ _ _ _ (by decide) (by decide) rfl⟩

theorem wit_EntryConfirmationAndAntiRollback_0 : ∃ (s : State) (mask : Word) (v : Word), atRecord s 0x07 ∧ presentBody
    s = leBytes 4 0x4001002C ++ leBytes 4 mask.toNat ++ leBytes 4 v.toNat ∧ getBits (s.rd 0x40010004) 0 8 = 0 ∧ s.dark
    = false ∧ ¬ digestMatches s :=
  ⟨recBad 7 (leBytes 4 0x4001002C ++ leBytes 4 1 ++ leBytes 4 1) 0 up, 1, 1,
    rec_at _ _ _ _ _ (by decide) (by decide) (leBytes_length _ _) rfl,
    by rw [rec_body _ _ _ _ _ (by decide) (by decide) (leBytes_length _ _) rfl]; decide +kernel, by decide +kernel,
    by decide +kernel, rec_bad _ _ _ _ (by decide) (by decide) rfl⟩

theorem wit_EntryConfirmationAndAntiRollback_1 : ∃ (s : State) (mask : Word) (v : Word), atRecord s 0x07 ∧ presentBody
    s = leBytes 4 0x4001002C ++ leBytes 4 mask.toNat ++ leBytes 4 v.toNat ∧ getBits (s.rd 0x40010004) 0 8 = 0 ∧ s.dark
    = false ∧ digestMatches s :=
  ⟨recGood 7 (leBytes 4 0x4001002C ++ leBytes 4 1 ++ leBytes 4 1) 0 up, 1, 1,
    rec_at _ _ _ _ _ (by decide) (by decide) (leBytes_length _ _) rfl,
    by rw [rec_body _ _ _ _ _ (by decide) (by decide) (leBytes_length _ _) rfl]; decide +kernel, by decide +kernel,
    by decide +kernel, rec_good _ _ _ _ (by decide) (by decide) rfl⟩

theorem wit_EntryConfirmationAndAntiRollback_2 : ∃ (s : State), atRecord s 0x07 ∧ (presentBody s).length % 12 ≠ 0 :=
  ⟨recGood 7 [0] 0 up, rec_at _ _ _ _ _ (by decide) (by decide) (leBytes_length _ _) rfl,
    by rw [rec_body _ _ _ _ _ (by decide) (by decide) (leBytes_length _ _) rfl]; decide +kernel⟩

theorem wit_EntryConfirmationAndAntiRollback_3 : ∃ (s : State) (_ : SvnRun) (d : DirEntry), s.boot.phase = .records ∧
    s.dark = false ∧ d = s.dirEntry s.slot s.boot.recIdx ∧ d.type = 0x0A ∧ d.length = 8 ∧ leNat (slice (presentBody s)
    4 4) ≤ 31 ∧ s.boot.wdogMs ≠ none ∧ ¬ digestMatches s :=
  ⟨recBad 10 [0, 0, 0, 1, 31, 0, 0, 0] 0 { boot := { wdogMs := some 1 } }, .whole,
    ⟨10, false, false, 512, 8, 0, leNat (leBytes 48 ((Config.sha384 [0, 0, 0, 1, 31, 0, 0, 0]).toNat + 1))⟩,
    by decide +kernel, by decide +kernel,
    by rw [rec_slot]; exact (rec_entry 10 [0, 0, 0, 1, 31, 0, 0, 0] 0 _ _ (by decide) (by decide) (leBytes_length _ _)).symm,
    by decide +kernel, by decide +kernel,
    by rw [rec_body _ _ _ _ _ (by decide) (by decide) (leBytes_length _ _) rfl]; decide +kernel, by decide +kernel,
    rec_bad _ _ _ _ (by decide) (by decide) rfl⟩

theorem wit_EntryConfirmationAndAntiRollback_4 : ∃ (s : State) (_ : SvnRun) (d : DirEntry), s.boot.phase = .records ∧
    s.dark = false ∧ d = s.dirEntry s.slot s.boot.recIdx ∧ d.type = 0x0A ∧ d.length = 8 ∧ leNat (slice (presentBody s)
    4 4) ≤ 31 ∧ s.boot.wdogMs ≠ none ∧ digestMatches s ∧ s.boot.resume = false :=
  ⟨recGood 10 [0, 0, 0, 1, 31, 0, 0, 0] 0 { boot := { wdogMs := some 1 } }, .whole,
    ⟨10, false, false, 512, 8, 0, leNat (leBytes 48 (Config.sha384 [0, 0, 0, 1, 31, 0, 0, 0]).toNat)⟩,
    by decide +kernel, by decide +kernel,
    by rw [rec_slot]; exact (rec_entry 10 [0, 0, 0, 1, 31, 0, 0, 0] 0 _ _ (by decide) (by decide) (leBytes_length _ _)).symm,
    by decide +kernel, by decide +kernel,
    by rw [rec_body _ _ _ _ _ (by decide) (by decide) (leBytes_length _ _) rfl]; decide +kernel, by decide +kernel,
    rec_good _ _ _ _ (by decide) (by decide) rfl, by decide +kernel⟩

theorem wit_EntryConfirmationAndAntiRollback_5 : ∃ (s : State) (w : Word) (v : SvnRun), w.getLsbD 0 = true ∧
    s.boot.phase = .firmware ∧ s.dark = false ∧ s.boot.advance = true ∧ s.fuses.rb0 < s.fld F.SYSCTL_SVN_IMAGE_SVN ∧ v
    = .whole :=
  ⟨{ fl [(F.SYSCTL_SVN_IMAGE_SVN, 2)] with boot := { phase := .firmware, advance := true } }, 1, .whole,
    by decide +kernel⟩

theorem wit_EntryConfirmationAndAntiRollback_6 : ∃ (s : State) (w : Word) (_ : SvnRun), w.getLsbD 0 = true ∧
    s.boot.phase = .firmware ∧ s.dark = false ∧ (s.boot.advance = false ∨ s.fld F.SYSCTL_SVN_IMAGE_SVN ≤ s.fuses.rb0)
    :=
  ⟨{ boot := { phase := .firmware } }, 1, .cut 3, by decide +kernel⟩

theorem wit_EntryConfirmationAndAntiRollback_7 : ∃ (s : State) (_ : Word), s.dark = false ∧ ((∀ x ∈ s.rwl, x.tick ≠
    s.time.tick)) :=
  ⟨up, 1, by decide +kernel⟩

theorem wit_EntryConfirmationAndAntiRollback_8 : ∃ (s : State) (w : Word) (x : RwlWrite) (d : RegDesc) (ix : List Nat)
    (f : RegField), s.dark = false ∧ w.getLsbD 0 = true ∧ s.flag F.SYSCTL_CFG_LOCK_LOCK = false ∧ s.rwl = [x] ∧ x.tick
    = s.time.tick ∧ findReg x.addr = some (d, ix) ∧ f ∈ d.fields ∧ f.acc = .rwl ∧ f.lo ≤ f.hi ∧ f.hi < 32 ∧ x.addr ≠
    A.SYSCTL_CFG_LOCK ∧ x.addr ≠ cfgStatusOf x.addr ∧ getBits (s.rd (cfgStatusOf x.addr)) 0 8 = 0 :=
  ⟨{ up.wr A.SYSCTL_RST_CFG 1 with rwl := [{ tick := 0, addr := A.SYSCTL_RST_CFG, old := 0 }] }, 1,
    { tick := 0, addr := A.SYSCTL_RST_CFG, old := 0 }, ((findReg A.SYSCTL_RST_CFG).get (by decide +kernel)).1,
    ((findReg A.SYSCTL_RST_CFG).get (by decide +kernel)).2, ⟨0, 0, .rwl, .const 0, .any⟩, by decide +kernel⟩

theorem wit_EntryConfirmationAndAntiRollback_9 : ∃ (s : State) (w : Word) (c : Nat), s.dark = false ∧ c = getBits w 0
    2 ∧ c ≠ 0 ∧ s.fuses.counter c < 64 :=
  ⟨{ fuses := { rb1 := 63 } }, 1, 1, by decide +kernel⟩

theorem wit_EntryConfirmationAndAntiRollback_10 : ∃ (s : State) (w : Word) (_ : Bool), s.dark = false ∧ ((getBits w 0
    2 = 0 ∨ 64 ≤ s.fuses.counter (getBits w 0 2))) :=
  ⟨{ fuses := { rb1 := 64 } }, 1, true, by decide +kernel⟩

theorem wit_FlashOperationsAndImageMessages_0 : ∃ (s : State) (i : Instr) (c : Nat), (i, c) ∈ [(Instr.nvmRead, 1),
    (.nvmProgram, 2), (.nvmErase4k, 3), (.nvmErase64k, 4)] ∧ s.dark = false ∧ s.flag F.NVMC_STATUS_BUSY = false ∧ ((c
    = 1 → s.fld F.NVMC_LEN_COUNT ≤ 0x1000000)) ∧ ((c = 2 → s.fld F.NVMC_LEN_COUNT ≤ 256)) :=
  ⟨fl [(F.NVMC_LEN_COUNT, 16777215)], .nvmRead, 1, by decide +kernel⟩

theorem wit_FlashOperationsAndImageMessages_1 : ∃ (s : State) (i : Instr), i ∈ [Instr.nvmRead, .nvmProgram,
    .nvmErase4k, .nvmErase64k] ∧ s.dark = false ∧ ((s.flag F.NVMC_STATUS_BUSY = true ∨ (i = .nvmRead ∧ 0x1000000 <
    s.fld F.NVMC_LEN_COUNT) ∨ (i = .nvmProgram ∧ 256 < s.fld F.NVMC_LEN_COUNT))) :=
  ⟨fl [(F.NVMC_STATUS_BUSY, 1)], .nvmErase4k, by decide +kernel⟩

theorem wit_FlashOperationsAndImageMessages_2 : ∃ (s : State) (o : NvmOp), s.nvmc = some o ∧ s.dark = false ∧ o.result
    = 1 ∧ o.code = 1 ∧ o.addr + o.len ≤ 0x10000000 ∧ s.rangeMapped o.mem o.len = true ∧ s.boot.resetAsked = false :=
  ⟨{ nvmc := some ⟨1, 0, 0x01000000, 16, 1, 0⟩ }, ⟨1, 0, 0x01000000, 16, 1, 0⟩, by decide +kernel⟩

theorem wit_FlashOperationsAndImageMessages_3 : ∃ (s : State) (o : NvmOp), s.nvmc = some o ∧ s.dark = false ∧ o.result
    = 1 ∧ o.code = 2 ∧ o.addr + o.len ≤ 0x10000000 ∧ s.rangeMapped o.mem o.len = true ∧ s.boot.resetAsked = false :=
  ⟨{ nvmc := some ⟨2, 0, 0x01000000, 16, 1, 0⟩ }, ⟨2, 0, 0x01000000, 16, 1, 0⟩, by decide +kernel⟩

theorem wit_FlashOperationsAndImageMessages_4 : ∃ (s : State) (o : NvmOp) (n : Nat), s.nvmc = some o ∧ s.dark = false
    ∧ o.result = 1 ∧ ((o.code = 3 ∧ n = o.len * 4096 ∨ o.code = 4 ∧ n = o.len * 65536)) ∧ o.addr + n ≤ 0x10000000 ∧
    s.boot.resetAsked = false :=
  ⟨{ nvmc := some ⟨3, 0, 0, 1, 1, 0⟩ }, ⟨3, 0, 0, 1, 1, 0⟩, 4096, by decide +kernel⟩

theorem wit_FlashOperationsAndImageMessages_5 : ∃ (s : State) (o : NvmOp), s.nvmc = some o ∧ s.dark = false ∧ o.result
    ≠ 1 ∧ s.boot.resetAsked = false :=
  ⟨{ nvmc := some ⟨3, 1, 0, 1, 2, 0⟩ }, ⟨3, 1, 0, 1, 2, 0⟩, by decide +kernel⟩

theorem wit_FlashOperationsAndImageMessages_6 : ∃ (s : State) (o : NvmOp), s.nvmc = some o ∧ s.dark = false ∧ o.result
    = 1 ∧ o.len ≠ 0 ∧ o.start.toNat + nvmLimitMs o.code * 500000 ≤ s.now ∧ o.code ≠ 1 ∧ o.addr + nvmSpan o.code o.len
    ≤ 0x10000000 ∧ s.boot.resetAsked = false :=
  ⟨{ nvmc := some ⟨4, 0, 0, 1, 1, 0⟩, time := { tick := 1000000000 } }, ⟨4, 0, 0, 1, 1, 0⟩, by decide +kernel⟩

theorem wit_FlashOperationsAndImageMessages_7 : ∃ (s : State) (i : Instr) (ty : Nat) (q : Word) (n : Word) (l : List
    Word), s.boot.phase = .firmware ∧ s.dark = false ∧ l.length ≠ (n.toNat + 3) / 4 ∧ (i, ty) ∈ [(Instr.imageOpen q n
    l, 0x10), (.imageWrite q n l, 0x11), (.imageCommit q n l, 0x12), (.resetMsg q n l, 0x13)] :=
  ⟨{ boot := { phase := .firmware } }, .imageOpen 1 4 [], 0x10, 1, 4, [], by decide +kernel⟩

theorem wit_FlashOperationsAndImageMessages_8 : ∃ (s : State) (_ : Word) (n : Word) (w : Word) (l : List Word) (k :
    Nat) (d : List Byte), s.boot.phase = .firmware ∧ s.dark = false ∧ (w :: l).length = (n.toNat + 3) / 4 ∧ 4 ≤
    n.toNat ∧ s.boot.openSlot = some k ∧ k < 2 ∧ d = (ofItems l).take (n.toNat - 4) ∧ w.toNat + d.length ≤ 0x1000000 ∧
    s.nvmLocked (slotBase k + w.toNat) d.length = false :=
  ⟨{ boot := { phase := .firmware, openSlot := some 1 } }, 1, 8, 16, [7], 1, _, by decide +kernel, by decide +kernel,
    by decide +kernel, (by decide +kernel), by decide +kernel, by decide +kernel, rfl, by decide +kernel⟩

theorem wit_FlashOperationsAndImageMessages_10 : ∃ (s : State) (_ : Word) (n : Word) (l : List Word) (k : Nat),
    s.boot.phase = .firmware ∧ s.dark = false ∧ l.length = (n.toNat + 3) / 4 ∧ s.boot.openSlot = some k ∧ k < 2 ∧
    s.boot.spoiled = [] ∧ s.commitFault k ≠ none :=
  ⟨{ boot := { phase := .firmware, openSlot := some 0 } }, 1, 0, [], 0, by decide +kernel⟩

theorem wit_FlashOperationsAndImageMessages_11 : ∃ (s : State) (_ : Word) (n : Word) (l : List Word), s.boot.phase =
    .firmware ∧ s.dark = false ∧ l.length = (n.toNat + 3) / 4 ∧ s.nvmc = none :=
  ⟨{ boot := { phase := .firmware } }, 1, 0, [], by decide +kernel⟩

/-- Limits under which radio 0 may send at 20 dBm (R160). -/
def loud : List (Fld × Nat) :=
  [(F.RADIO_PWR_CAP_CAP_EIRP 0 0, 80), (F.RADIO_PWR_CAP_CAP_PSD 0 0, 80), (F.RADIO_ANT_ANT_GAIN 0, 0), (F.RADIO_CHAIN_EN_EN 0, 1),
    (F.RADIO_PWR_TABLE_TARGET 0 0 0, 60)]

/-- A rate of HE MCS 0, 20 MHz, one stream. -/
def he0 : TxRate := { fmt := .he, mcs := 0, bw := 0, nss := 1, steered := false, dur := 500 }

/-- A command to send an NDP at local count 900. -/
def ndpAt (rs : List TxRate) : AirCmd := { kind := .ndp, timed := some (900, 10), rates := rs }

/-- A reception that goes on. -/
def hearing (ok sat : Bool) : RxPpdu :=
  { id := 0, header := .failed true 700, fmt := .he, power := -50, sat := sat, hdrOk := ok, dataEnd := 9000, endT := 10000, elicits := false, stamp := (0, 0, 0) }

/-- A reception whose header is of a format. -/
def heard (f : PhyFormat) : RxPpdu := { hearing false false with header := .passed f 500 600 true }

/-- A preamble at 16 dBm. -/
def strong (sat : Bool) : RxPreamble := { power := 0x10, lltf := 0x10, sat := sat, after := 100, header := .failed false 0 }

/-- A codeword that waits. -/
def cw (id : Nat) : Codeword :=
  { id := id, radio := 0, rx := 0, part := 0, cls := .bulk, deadline := 100000, arrival := 0, dataEnd := 0, flow := none, order := id }

theorem wit_RadioTuningStartAndChains_0 : ∃ (s : State) (u : State) (r : Fin 4) (v : Word), s.takesWork (radioBlock
    r.val) = true ∧ u = s.touch (A.RADIO_SYNTH r.val) ∧ synthLegal r.val v = false :=
  ⟨up, _, 0, 0, by decide +kernel, rfl, by decide +kernel⟩

theorem wit_RadioTuningStartAndChains_1 : ∃ (s : State) (u : State) (r : Fin 4) (v : Word), s.takesWork (radioBlock
    r.val) = true ∧ u = s.touch (A.RADIO_SYNTH r.val) ∧ synthLegal r.val v = true ∧ noReception s r.val ∧ ((r.val = 3
    ∨ s.synthBw r.val = getBits v 16 3 ∨ ∀ f < 512, s.flowLive f = false)) :=
  ⟨up, _, 0, 2412, by decide +kernel, rfl, by decide +kernel, ⟨by decide +kernel, nofun⟩,
    .inr (.inl (by decide +kernel))⟩

theorem wit_RadioTuningStartAndChains_2 : ∃ (s : State) (r : Fin 4), s.takesWork (radioBlock r.val) = true ∧ (s.radio
    r.val).retune = true ∧ s.exchangeOn r.val = false ∧ noReception s r.val ∧ (s.radio r.val).seq ∈ [RadioSeq.running,
    .retuning, .relocking] :=
  ⟨{ up with air := { radios := [(2, { seq := .relocking, retune := true })] } }, 2, by decide +kernel,
    by decide +kernel, by decide +kernel, ⟨by decide +kernel, nofun⟩, by decide +kernel⟩

theorem wit_RadioTuningStartAndChains_3 : ∃ (s : State) (r : Fin 4), ((s.radio r.val).retune = false ∨ s.exchangeOn
    r.val = true) :=
  ⟨up, 3, by decide +kernel⟩

theorem wit_RadioTuningStartAndChains_4 : ∃ (s : State) (r : Fin 4) (_ : BitVec 8) (_ : List (CalResult × CalResult)),
    s.takesWork (radioBlock r.val) = true ∧ (s.radio r.val).seq = .relocking ∧ (s.radio r.val).retune = false :=
  ⟨{ up with air := { radios := [(0, { seq := .relocking })] } }, 0, 25, [], by decide +kernel⟩

theorem wit_RadioTuningStartAndChains_5 : ∃ (s : State) (r : Fin 4) (_ : BitVec 8) (_ : List (CalResult × CalResult))
    (k : CalRun), s.takesWork (radioBlock r.val) = true ∧ (s.radio r.val).seq = .retuning ∧ (s.radio r.val).retune =
    false ∧ k = ⟨decide (s.synthBw r.val ≠ (s.radio r.val).tunedBw), decide (r.val ≠ 3), decide (r.val ≠ 3) &&
    s.farMove r.val⟩ :=
  ⟨{ up with air := { radios := [(0, { seq := .retuning })] } }, 0, 25, [], _, by decide +kernel, by decide +kernel,
    by decide +kernel, rfl⟩

theorem wit_RadioTuningStartAndChains_6 : ∃ (s : State) (r : Fin 4), s.takesWork (radioBlock r.val) = true ∧ (s.radio
    r.val).seq = .running ∧ s.flag (F.RADIO_SYNTH_STATUS_LOCK r.val) = true ∧ noReception s r.val ∧ ((∀ x, (s.radio
    r.val).air = some x → r.val ≠ 3 → x.cmd.mpdus = [] ∧ s.wmac.waiting = [])) ∧ s.onAir r.val = true ∧
    s.flt.queue.length < 16 :=
  ⟨rad 0 { air := some { cmd := ndpAt [], t0 := 0, t1 := 10, stop := 10 } } [], 0, by decide +kernel,
    by decide +kernel, by decide +kernel, ⟨by decide +kernel, nofun⟩, fun x h _ => ⟨by cases h; rfl, rfl⟩,
    by decide +kernel⟩

theorem wit_RadioTuningStartAndChains_7 : ∃ (s : State) (r : Fin 4), s.takesWork (radioBlock r.val) = true ∧ (s.radio
    r.val).seq = .running ∧ s.flag (F.RADIO_SYNTH_STATUS_LOCK r.val) = true ∧ noReception s r.val ∧ ((∀ x, (s.radio
    r.val).air = some x → r.val ≠ 3 → x.cmd.mpdus = [] ∧ s.wmac.waiting = [])) ∧ s.onAir r.val = false ∧
    s.flt.queue.length < 16 :=
  ⟨rad 3 {} [], 3, by decide +kernel, by decide +kernel, by decide +kernel, ⟨by decide +kernel, fun _ => rfl⟩,
    none_all (by decide +kernel), by decide +kernel⟩

theorem wit_RadioTuningStartAndChains_8 : ∃ (s : State) (r : Fin 4), s.takesWork (radioBlock r.val) = true ∧ (s.radio
    r.val).seq = .running ∧ s.flag (F.RADIO_SYNTH_STATUS_LOCK r.val) = true ∧ noReception s r.val ∧ ((∀ x, (s.radio
    r.val).air = some x → r.val ≠ 3 → x.cmd.mpdus = [] ∧ s.wmac.waiting = [])) ∧ s.flt.queue.length < 16 :=
  ⟨rad 3 {} [], 3, by decide +kernel, by decide +kernel, by decide +kernel, ⟨by decide +kernel, fun _ => rfl⟩,
    none_all (by decide +kernel), by decide +kernel⟩

theorem wit_RadioTuningStartAndChains_9 : ∃ (s : State) (r : Fin 4), (s.radio r.val).seq = .off ∧ s.inWatch = false ∧
    s.takesWork (radioBlock r.val) = true :=
  ⟨up, 0, by decide +kernel⟩

theorem wit_RadioTuningStartAndChains_10 : ∃ (s : State) (r : Fin 4) (_ : BitVec 8) (_ : List (CalResult ×
    CalResult)), s.takesWork (radioBlock r.val) = true ∧ (s.radio r.val).seq ∈ [RadioSeq.starting, .calibrating] ∧
    s.strobing r.val = false :=
  ⟨{ up with air := { radios := [(0, { seq := .starting })] } }, 0, 25, [], by decide +kernel⟩

theorem wit_RadioTuningStartAndChains_11 : ∃ (s : State) (u : State) (r : Fin 3) (v : Word), s.takesWork (radioBlock
    r.val) = true ∧ u = s.touch (A.RADIO_CHAIN_EN r.val) ∧ 2 ^ chainCount r.val ≤ getBits v 0 8 :=
  ⟨up, _, 0, 0xFF, by decide +kernel, rfl, by decide +kernel⟩

theorem wit_RadioTuningStartAndChains_12 : ∃ (s : State) (u : State) (r : Fin 3) (v : Word), s.takesWork (radioBlock
    r.val) = true ∧ u = s.touch (A.RADIO_CHAIN_EN r.val) ∧ getBits v 0 8 = 0 :=
  ⟨up, _, 1, 0, by decide +kernel, rfl, by decide +kernel⟩

theorem wit_RadioTuningStartAndChains_13 : ∃ (s : State) (u : State) (r : Fin 3) (v : Word), s.takesWork (radioBlock
    r.val) = true ∧ u = s.touch (A.RADIO_CHAIN_EN r.val) ∧ getBits v 0 8 < 2 ^ chainCount r.val ∧ getBits v 0 8 ≠ 0 ∧
    ((∀ f < 512, s.flowLive f = false)) ∧ r.val = 2 :=
  ⟨up, _, 2, 3, by decide +kernel, rfl, by decide +kernel, by decide +kernel, fun f h => by revert f; decide +kernel,
    by decide +kernel⟩

theorem wit_RadioCalibrationDozeAndTransmission_0 : ∃ (s : State) (u : State) (r : Fin 4), s.takesWork (radioBlock
    r.val) = true ∧ u = s.touch (A.RADIO_CAL_CMD r.val) ∧ s.flag (F.RADIO_SYNTH_STATUS_CAL_BUSY r.val) = true :=
  ⟨fl [(F.RADIO_SYNTH_STATUS_CAL_BUSY 1, 1)], _, 1, by decide +kernel, rfl, by decide +kernel⟩

theorem wit_RadioCalibrationDozeAndTransmission_1 : ∃ (s : State) (u : State) (r : Fin 4), s.takesWork (radioBlock
    r.val) = true ∧ u = s.touch (A.RADIO_CAL_CMD r.val) ∧ s.flag (F.RADIO_SYNTH_STATUS_CAL_BUSY r.val) = false ∧
    (s.radio r.val).seq = .off :=
  ⟨up, _, 1, by decide +kernel, rfl, by decide +kernel⟩

theorem wit_RadioCalibrationDozeAndTransmission_2 : ∃ (s : State) (u : State) (r : Fin 4), s.takesWork (radioBlock
    r.val) = true ∧ u = s.touch (A.RADIO_CAL_CMD r.val) ∧ s.flag (F.RADIO_SYNTH_STATUS_CAL_BUSY r.val) = false ∧
    (s.radio r.val).seq ≠ .off ∧ noReception s r.val :=
  ⟨rad 2 {} [], _, 2, by decide +kernel, rfl, by decide +kernel, by decide +kernel, ⟨by decide +kernel, nofun⟩⟩

theorem wit_RadioCalibrationDozeAndTransmission_3 : ∃ (s : State) (r : Fin 4) (temp : BitVec 8), s.takesWork
    (radioBlock r.val) = true ∧ s.flag (F.RADIO_CAL_CFG_TRACK_EN r.val) = true ∧ (s.radio r.val).seq = .running ∧
    s.flag (F.RADIO_CAL_STATUS_DUE r.val) = false ∧ s.fld (F.RADIO_CAL_CFG_TEMP_STEP r.val) ≤ tempStep temp.toNat
    (s.fld (F.RADIO_CAL_STATUS_LAST_TEMP r.val)) ∧ ((∀ u, (s.radio r.val).lastTrack = some u → u + 500000000 ≤ s.now))
    :=
  ⟨rad 0 {} [(F.RADIO_CAL_CFG_TRACK_EN 0, 1), (F.RADIO_CAL_STATUS_LAST_TEMP 0, 0)], 0, 100, by decide +kernel,
    by decide +kernel, by decide +kernel, (by decide +kernel), by decide +kernel, nofun⟩

theorem wit_RadioCalibrationDozeAndTransmission_4 : ∃ (s : State) (r : Fin 4) (temp : BitVec 8), ((s.flag
    (F.RADIO_CAL_STATUS_DUE r.val) = true ∨ tempStep temp.toNat (s.fld (F.RADIO_CAL_STATUS_LAST_TEMP r.val)) < s.fld
    (F.RADIO_CAL_CFG_TEMP_STEP r.val))) :=
  ⟨up, 0, 0, by decide +kernel⟩

theorem wit_RadioCalibrationDozeAndTransmission_5 : ∃ (s : State) (r : Fin 4), s.takesWork (radioBlock r.val) = true ∧
    s.flag (F.RADIO_CAL_STATUS_DUE r.val) = true ∧ (s.radio r.val).overdue = false ∧ (s.radio r.val).dueSince + 500000
    * s.fld (F.RADIO_CAL_CFG_DEFER_MS r.val) ≤ s.now ∧ s.flt.queue.length < 16 :=
  ⟨{ fl [(F.RADIO_CAL_STATUS_DUE 0, 1)] with time := { tick := 0xFFFFFFFFFF } }, 0, by decide +kernel⟩

theorem wit_RadioCalibrationDozeAndTransmission_6 : ∃ (s : State) (r : Fin 4) (_ : BitVec 8) (_ : List (CalResult ×
    CalResult)), s.radioRuns r.val = true ∧ s.strobing r.val = false ∧ s.flag (F.RADIO_CAL_STATUS_DUE r.val) = true ∧
    (if r.val = 3 then s.ngCalGap else s.wlanCalGap r.val) = true ∧ noReception s r.val :=
  ⟨rad 3 {} [(F.RADIO_CAL_STATUS_DUE 3, 1)], 3, 25, [], by decide +kernel, by decide +kernel, by decide +kernel,
    (by decide +kernel), ⟨by decide +kernel, fun _ => rfl⟩⟩

theorem wit_RadioCalibrationDozeAndTransmission_7 : ∃ (s : State) (r : Fin 3) (w : Slot), s.fld F.PMU_STATE_CUR = 1 ∧
    s.radioRuns r.val = true ∧ s.exchangeOn r.val = false ∧ s.quietNow r.val = some w ∧ s.fld
    (F.ROUNDS_DOZE_CFG_DOZE_MIN_US r.val) ≤ w.len ∧ s.roundPos r.val + 12 < w.stop ∧ s.scheduledBefore r.val w.stop =
    false ∧ s.flag (F.RADIO_CAL_STATUS_DUE r.val) = false ∧ (s.radio r.val).rx = none :=
  ⟨rad 0 {} ((F.PMU_STATE_CUR, 1) :: quietSeg 0), 0, ⟨0, 0, 4000⟩, by decide +kernel⟩

theorem wit_RadioCalibrationDozeAndTransmission_8 : ∃ (s : State) (_ : Fin 3), s.fld F.PMU_STATE_CUR ≠ 1 :=
  ⟨up, 0, by decide +kernel⟩

theorem wit_RadioCalibrationDozeAndTransmission_9 : ∃ (s : State) (r : Fin 3), s.takesWork (radioBlock r.val) = true ∧
    s.flag (F.RADIO_SYNTH_STATUS_DOZING r.val) = true ∧ ((s.fld F.PMU_STATE_CUR ≠ 1 ∨ ∀ w, s.quietNow r.val = some w →
    w.stop ≤ s.roundPos r.val + 12 ∨ s.scheduledBefore r.val w.stop = true)) :=
  ⟨fl [(F.RADIO_SYNTH_STATUS_DOZING 1, 1)], 1, by decide +kernel, by decide +kernel, .inl (by decide +kernel)⟩

theorem wit_RadioCalibrationDozeAndTransmission_10 : ∃ (s : State) (r : Fin 3) (c : AirCmd) (t0 : Nat) (tol : Nat),
    s.nextTimed r.val = some (c, t0, tol) ∧ s.radioReady r.val = true ∧ (((s.radio r.val).retune = false ∨ t0 <
    s.exchangeEnd r.val)) ∧ t0 + tol < max t0 (s.now + s.swLead r.val) :=
  ⟨{ rad 0 { cmds := [ndpAt []] } [] with time := { tick := 1000 } }, 0, ndpAt [], 900, 10, by decide +kernel⟩

theorem wit_RadioCalibrationDozeAndTransmission_11 : ∃ (s : State) (r : Fin 4) (c : AirCmd) (t0 : Nat) (tol : Nat),
    s.nextTimed r.val = some (c, t0, tol) ∧ s.radioReady r.val = true ∧ (s.radio r.val).retune = true ∧ s.exchangeEnd
    r.val ≤ t0 :=
  ⟨rad 0 { retune := true, cmds := [ndpAt []], rx := some { hearing true false with endT := 500 } } [(F.RADIO_FEM_TIMING_SW_LEAD 0, 0)],
    0, ndpAt [], 900, 10, by decide +kernel⟩

theorem wit_RadioCalibrationDozeAndTransmission_12 : ∃ (s : State) (r : Fin 3) (c : AirCmd) (t0 : Nat) (tol : Nat)
    (at' : Nat) (stop : Nat) (x : TxRate), s.nextTimed r.val = some (c, t0, tol) ∧ c.rates = [x] ∧ at' = max t0 (s.now
    + s.swLead r.val) ∧ stop = at' + max x.dur.toNat c.fill ∧ c.mpdus = [] ∧ c.icf = [] ∧ s.nstrHeld c = [] ∧
    s.wmac.waiting = [] ∧ (s.radio r.val).rx = none ∧ s.radioReady r.val = true ∧ (((s.radio r.val).retune = false ∨
    t0 < s.exchangeEnd r.val)) ∧ at' ≤ t0 + tol ∧ s.schedFits r.val at' (stop + c.resp) (s.cmdFlow c) (!c.kind.isData)
    = true ∧ s.formatOk r.val c.kind.sta c.kind x = true ∧ s.powerOk r.val x c.red (s.srCap r.val at') = true :=
  ⟨rad 0 { cmds := [ndpAt [he0]] } loud, 0, ndpAt [he0], 900, 10, _, 1400, he0, by decide +kernel, by decide +kernel,
    rfl, by decide +kernel⟩

theorem wit_RadioCalibrationDozeAndTransmission_13 : ∃ (s : State) (r : Fin 3) (c : AirCmd) (t0 : Nat) (tol : Nat)
    (at' : Nat) (x : TxRate), s.nextTimed r.val = some (c, t0, tol) ∧ c.rates = [x] ∧ at' = max t0 (s.now + s.swLead
    r.val) ∧ c.mpdus = [] ∧ c.icf = [] ∧ s.nstrHeld c = [] ∧ s.radioReady r.val = true ∧ (((s.radio r.val).retune =
    false ∨ t0 < s.exchangeEnd r.val)) ∧ at' ≤ t0 + tol ∧ s.schedFits r.val at' (at' + max x.dur.toNat c.fill +
    c.resp) (s.cmdFlow c) (!c.kind.isData) = true ∧ s.formatOk r.val c.kind.sta c.kind x = true ∧ s.powerOk r.val x
    c.red (s.srCap r.val at') = false :=
  ⟨rad 0 { cmds := [ndpAt [he0]] } [], 0, ndpAt [he0], 900, 10, _, he0, by decide +kernel, by decide +kernel, rfl,
    by decide +kernel⟩

theorem wit_RadioCalibrationDozeAndTransmission_14 : ∃ (s : State) (c : AirCmd) (t0 : Nat) (tol : Nat), s.nextTimed 3
    = some (c, t0, tol) ∧ c.kind = .ngBeacon ∧ -10 ≤ c.dbm ∧ noReception s 3 ∧ s.radioReady 3 = true ∧ (((s.radio
    3).retune = false ∨ t0 < s.exchangeEnd 3)) ∧ max t0 (s.now + s.swLead 3) ≤ t0 + tol :=
  ⟨rad 3 { cmds := [{ kind := .ngBeacon, timed := some (900, 10), dbm := -10 }] } [],
    { kind := .ngBeacon, timed := some (900, 10), dbm := -10 }, 900, 10, by decide +kernel, by decide +kernel,
    by decide +kernel, ⟨by decide +kernel, fun _ => rfl⟩, by decide +kernel⟩

theorem wit_RadioCalibrationDozeAndTransmission_15 : ∃ (s : State) (r : Fin 3) (en : Byte) (c : AirCmd) (x : TxRate)
    (dur : Nat), (s.radio r.val).cmds.find? (fun c => c.timed.isNone) = some c ∧ c.rates = [x] ∧ dur = max x.dur.toNat
    c.fill ∧ c.mpdus = [] ∧ c.icf = [] ∧ s.nstrHeld c = [] ∧ s.wmac.waiting = [] ∧ (s.radio r.val).rx = none ∧
    s.radioReady r.val = true ∧ (s.radio r.val).retune = false ∧ c.after ≤ s.now ∧ (s.radio r.val).busyUntil ≤ s.now ∧
    en.toInt < sgn 8 (s.fld (F.RADIO_DET_CFG_ED_LEVEL r.val)) ∧ s.contentionFits r.val (s.swLead r.val + (max c.dur
    dur + c.resp)) = true ∧ s.formatOk r.val c.kind.sta c.kind x = true ∧ s.powerOk r.val x c.red (s.srCap r.val
    (s.now + s.swLead r.val)) = true :=
  ⟨rad 0 { cmds := [{ kind := .ndp, timed := none, rates := [he0] }] } loud, 0, 0x80,
    { kind := .ndp, timed := none, rates := [he0] }, he0, _, by decide +kernel, by decide +kernel, rfl,
    by decide +kernel⟩

theorem wit_RadioCalibrationDozeAndTransmission_16 : ∃ (s : State) (r : Fin 4) (_ : Byte), s.radioReady r.val = false
    ∧ s.takesWork (radioBlock r.val) = true :=
  ⟨up, 3, 0, by decide +kernel⟩

theorem wit_RadioCalibrationDozeAndTransmission_17 : ∃ (s : State) (r : Fin 4) (c : AirCmd) (t0 : Nat) (tol : Nat),
    s.takesWork (radioBlock r.val) = false ∧ s.nextTimed r.val = some (c, t0, tol) ∧ t0 + tol < s.now ∧ r.val ≠ 3 :=
  ⟨{ air := { radios := [(1, { cmds := [ndpAt []] })] }, time := { tick := 2000 } }, 1, ndpAt [], 900, 10,
    by decide +kernel⟩

theorem wit_ReceptionsAndCodewords_0 : ∃ (s : State) (r : Fin 3) (p : RxPreamble), (p.power.toInt < sgn 8 (s.fld
    (F.RADIO_DET_CFG_PD_LEVEL r.val)) ∨ (p.dsss = true ∧ r.val ≠ 0)) :=
  ⟨up, 0, { power := 0x80, lltf := 0, sat := false, header := .failed false 0 }, by decide +kernel⟩

theorem wit_ReceptionsAndCodewords_1 : ∃ (s : State) (r : Fin 3) (p : RxPreamble), s.listens r.val = true ∧ s.rxActive
    r.val = none ∧ s.detects r.val p = true ∧ p.sat = true :=
  ⟨rad 0 {} [], 0, strong true, by decide +kernel⟩

theorem wit_ReceptionsAndCodewords_2 : ∃ (s : State) (r : Fin 3) (p : RxPreamble), s.listens r.val = true ∧ s.rxActive
    r.val = none ∧ s.detects r.val p = true ∧ 0 < p.after.toNat :=
  ⟨rad 0 {} [], 0, strong false, by decide +kernel⟩

theorem wit_ReceptionsAndCodewords_3 : ∃ (s : State) (r : Fin 3) (x : RxPpdu) (ok : Bool) (dur : BitVec 24), (s.radio
    r.val).rx = some x ∧ x.hdrOk = false ∧ x.hdrAt ≤ s.now ∧ x.header = .failed ok dur :=
  ⟨rad 1 { rx := some (hearing false false) } [], 1, hearing false false, true, 700, by decide +kernel⟩

theorem wit_ReceptionsAndCodewords_4 : ∃ (s : State) (r : Fin 3) (x : RxPpdu) (f : PhyFormat) (dd : BitVec 24) (dur :
    BitVec 24) (el : Bool), (s.radio r.val).rx = some x ∧ x.hdrOk = false ∧ x.hdrAt ≤ s.now ∧ x.header = .passed f dd
    dur el ∧ s.receives r.val f = true :=
  ⟨rad 1 { rx := some (heard .ofdm) } [], 1, heard .ofdm, .ofdm, 500, 600, true, by decide +kernel⟩

theorem wit_ReceptionsAndCodewords_5 : ∃ (s : State) (r : Fin 3) (x : RxPpdu) (f : PhyFormat) (dd : BitVec 24) (dur :
    BitVec 24) (el : Bool), (s.radio r.val).rx = some x ∧ x.hdrOk = false ∧ x.hdrAt ≤ s.now ∧ x.header = .passed f dd
    dur el ∧ s.receives r.val f = false :=
  ⟨rad 1 { rx := some (heard .vmode) } [], 1, heard .vmode, .vmode, 500, 600, true, by decide +kernel⟩

theorem wit_ReceptionsAndCodewords_6 : ∃ (s : State) (r : Fin 3) (p : RxPreamble) (x : RxPpdu), s.listens r.val = true
    ∧ s.rxActive r.val = some x ∧ x.hdrOk = false ∧ s.detects r.val p = true ∧ 0 < p.after.toNat :=
  ⟨rad 1 { rx := some (hearing false false) } [], 1, strong false, hearing false false, by decide +kernel⟩

theorem wit_ReceptionsAndCodewords_7 : ∃ (s : State) (r : Fin 3) (p : RxPreamble) (x : RxPpdu), s.listens r.val = true
    ∧ s.rxActive r.val = some x ∧ x.hdrOk = true ∧ s.detects r.val p = true ∧ ((x.power + s.fld
    (F.RADIO_DET_CFG_CAP_DB r.val) ≤ p.power.toInt ∨ x.sat = true ∨ p.sat = true)) ∧ 0 < p.after.toNat :=
  ⟨rad 1 { rx := some (hearing true false), cmds := [{ kind := .blockAck 0 [], timed := none }] } [], 1, strong false,
    hearing true false, by decide +kernel⟩

theorem wit_ReceptionsAndCodewords_8 : ∃ (s : State) (r : Fin 3) (p : RxPreamble) (x : RxPpdu), s.rxActive r.val =
    some x ∧ x.hdrOk = true ∧ x.sat = false ∧ p.sat = false ∧ p.power.toInt < x.power + s.fld (F.RADIO_DET_CFG_CAP_DB
    r.val) :=
  ⟨rad 1 { rx := some (hearing true false) } [], 1, { strong false with power := 0xA0 }, hearing true false,
    by decide +kernel⟩

theorem wit_ReceptionsAndCodewords_9 : ∃ (s : State) (r : Fin 3) (w : CwIn) (x : RxPpdu), s.takesWork (radioBlock
    r.val) = true ∧ (s.radio r.val).rx = some x ∧ x.hdrOk = true ∧ w.bcc = false ∧ x.fmt ≠ .dsss ∧ x.fmt ≠ .ofdm ∧
    x.head w.ru.toNat = none ∧ s.ldpc.waiting.length + s.fld F.LDPC_RESERVE_REG_ENTRIES < 768 ∧ w.flow ≠ none :=
  ⟨rad 0 { rx := some (hearing true false) } [], 0, { header := false, flow := some 3, peerTid := none, lag := 0 },
    hearing true false, by decide +kernel⟩

theorem wit_ReceptionsAndCodewords_10 : ∃ (s : State) (r : Fin 3) (w : CwIn) (x : RxPpdu), s.takesWork (radioBlock
    r.val) = true ∧ (s.radio r.val).rx = some x ∧ x.hdrOk = true ∧ w.bcc = false ∧ x.fmt ≠ .dsss ∧ x.fmt ≠ .ofdm ∧
    x.head w.ru.toNat = none ∧ s.ldpc.waiting.length + s.fld F.LDPC_RESERVE_REG_ENTRIES < 768 ∧ w.flow = none ∧
    s.runningRsp r.val = none ∧ x.elicits = true :=
  ⟨rad 0 { rx := some { hearing true false with elicits := true } } [], 0,
    { header := false, flow := none, peerTid := none, lag := 0 }, { hearing true false with elicits := true },
    by decide +kernel⟩

theorem wit_ReceptionsAndCodewords_11 : ∃ (s : State) (r : Fin 3) (w : CwIn) (x : RxPpdu), s.takesWork (radioBlock
    r.val) = true ∧ (s.radio r.val).rx = some x ∧ x.hdrOk = true ∧ w.bcc = false ∧ x.fmt ≠ .dsss ∧ x.fmt ≠ .ofdm ∧
    x.head w.ru.toNat = none ∧ s.ldpc.waiting.length + s.fld F.LDPC_RESERVE_REG_ENTRIES < 768 ∧ w.flow = none ∧
    s.runningRsp r.val = none ∧ x.elicits = false ∧ w.peerTid = none :=
  ⟨rad 0 { rx := some (hearing true false) } [], 0, { header := false, flow := none, peerTid := none, lag := 0 },
    hearing true false, by decide +kernel⟩

theorem wit_ReceptionsAndCodewords_12 : ∃ (_ : State) (_ : Fin 3) (w : CwIn), w.bcc = true :=
  ⟨up, 1, { header := false, bcc := true, flow := none, peerTid := none, lag := 0 }, by decide +kernel⟩

theorem wit_ReceptionsAndCodewords_13 : ∃ (s : State) (r : Fin 3) (w : CwIn) (x : RxPpdu) (h : FirstHeader),
    s.takesWork (radioBlock r.val) = true ∧ (s.radio r.val).rx = some x ∧ x.hdrOk = true ∧ w.bcc = false ∧ x.fmt ≠
    .dsss ∧ x.fmt ≠ .ofdm ∧ x.head w.ru.toNat = some h ∧ h.addressed = false :=
  ⟨rad 0 { rx := some { hearing true false with heads := [⟨0, false, false, none, 0, 0⟩] } } [], 0,
    { header := false, flow := some 3, peerTid := none, lag := 0 },
    { hearing true false with heads := [⟨0, false, false, none, 0, 0⟩] }, ⟨0, false, false, none, 0, 0⟩,
    by decide +kernel⟩

theorem wit_ReceptionsAndCodewords_14 : ∃ (s : State) (r : Fin 3) (w : CwIn) (x : RxPpdu), s.takesWork (radioBlock
    r.val) = true ∧ (s.radio r.val).rx = some x ∧ x.hdrOk = true ∧ w.bcc = false ∧ x.fmt ≠ .dsss ∧ x.fmt ≠ .ofdm ∧
    x.head w.ru.toNat = none ∧ 768 ≤ s.ldpc.waiting.length :=
  ⟨{ rad 0 { rx := some (hearing true false) } [] with ldpc := { waiting := List.replicate 768 (cw 0) } }, 0,
    { header := false, flow := none, peerTid := none, lag := 0 }, hearing true false, by decide +kernel⟩

theorem wit_ReceptionsAndCodewords_15 : ∃ (s : State) (r : Fin 3) (h : FirstHeader) (x : RxPpdu), s.takesWork
    (radioBlock r.val) = true ∧ (s.radio r.val).rx = some x ∧ h.addressed = false :=
  ⟨rad 0 { rx := some (hearing true false) } [], 0, ⟨0, false, false, none, 0, 0⟩, hearing true false,
    by decide +kernel⟩

theorem wit_ReceptionsAndCodewords_16 : ∃ (s : State) (r : Fin 3) (h : FirstHeader) (x : RxPpdu), s.takesWork
    (radioBlock r.val) = true ∧ (s.radio r.val).rx = some x ∧ h.addressed = true :=
  ⟨{ rad 0 { rx := some (hearing true false) } [] with ldpc := { waiting := [cw 1] } }, 0,
    ⟨0, true, false, none, 5, 0⟩, hearing true false, by decide +kernel⟩

theorem wit_ReceptionsAndCodewords_17 : ∃ (s : State) (r : Fin 3) (e : CsiIn) (x : RxPpdu), s.takesWork (radioBlock
    r.val) = true ∧ (s.radio r.val).rx = some x ∧ x.hdrOk = true ∧ s.flag (F.RADIO_CSI_CFG_EN r.val) = true ∧
    s.csiMatches r.val e = true ∧ s.recordFits (s.fld (F.RADIO_CSI_CFG_FIFO r.val)) (s.csiRecord r.val x e).length =
    false :=
  ⟨rad 0 { rx := some (hearing true false) } [(F.RADIO_CSI_CFG_EN 0, 1), (F.RADIO_CSI_CFG_NDP 0, 1)], 0,
    ⟨true, none, 0, 0, 1, [], 1, 0, []⟩, hearing true false, by decide +kernel⟩

theorem wit_ReceptionsAndCodewords_18 : ∃ (s : State) (r : Fin 3) (e : CsiIn) (x : RxPpdu), s.takesWork (radioBlock
    r.val) = true ∧ (s.radio r.val).rx = some x ∧ x.hdrOk = true ∧ s.flag (F.RADIO_CSI_CFG_EN r.val) = true ∧
    s.csiMatches r.val e = true ∧ s.recordFits (s.fld (F.RADIO_CSI_CFG_FIFO r.val)) (s.csiRecord r.val x e).length =
    true :=
  ⟨rad 0 { rx := some (hearing true false) } [(F.RADIO_CSI_CFG_EN 0, 1), (F.RADIO_CSI_CFG_NDP 0, 1), (F.RADIO_CSI_CFG_FIFO 0, 2), (F.PIGEON_CFG_EN 2, 1), (F.PIGEON_CFG_PROD 2, 2), (F.PIGEON_CFG_DEPTH_LOG2 2, 8)],
    0, ⟨true, none, 0, 0, 1, [], 1, 0, []⟩, hearing true false, by decide +kernel⟩

theorem wit_DecoderEngines_0 : ∃ (s : State) (e : Fin 14) (c : Codeword) (rest : List Codeword) (n : Nat),
    s.engineFirst e.val = true ∧ s.takesWork 0x80 = true ∧ s.engineOrder e.val = c :: rest ∧ s.startable c = some n ∧
    s.flag (F.LDPC_ENG_STATUS_REG_FIRST e.val) = false :=
  ⟨{ up with ldpc := { waiting := [cw 1, cw 2] } }, 0, cw 1, [cw 2], 8, by decide +kernel⟩

theorem wit_DecoderEngines_1 : ∃ (s : State) (_ : Fin 14), s.ldpc.waiting = [] :=
  ⟨up, 13, by decide +kernel⟩

theorem wit_DecoderEngines_2 : ∃ (s : State) (e : Fin 14) (d : Decode) (_ : BitVec 5) (zero : Bool), s.takesWork 0x80
    = true ∧ s.decoding e.val = some d ∧ zero = true :=
  ⟨{ up with ldpc := { engines := [(3, some ⟨cw 0, 8, 0⟩)] } }, 3, ⟨cw 0, 8, 0⟩, 2, true, by decide +kernel⟩

theorem wit_DecoderEngines_3 : ∃ (s : State) (e : Fin 14) (d : Decode) (_ : BitVec 5) (zero : Bool), s.takesWork 0x80
    = true ∧ s.decoding e.val = some d ∧ zero = false :=
  ⟨{ up with ldpc := { engines := [(3, some ⟨cw 0, 8, 0⟩)] } }, 3, ⟨cw 0, 8, 0⟩, 8, false, by decide +kernel⟩

theorem wit_DecoderEngines_4 : ∃ (s : State) (e : Fin 14) (d : Decode) (_ : BitVec 5) (_ : Bool), s.takesWork 0x80 =
    true ∧ s.decoding e.val = some d ∧ s.ldpc.waiting.length + s.fld F.LDPC_RESERVE_REG_ENTRIES < 768 ∧
    s.flt.queue.length < 16 :=
  ⟨{ up with ldpc := { engines := [(3, some ⟨cw 0, 8, 0⟩)] } }, 3, ⟨cw 0, 8, 0⟩, 8, false, by decide +kernel⟩

theorem wit_DecoderEngines_5 : ∃ (s : State), s.dark = false :=
  ⟨up, by decide +kernel⟩

theorem wit_DecoderEngines_6 : ∃ (s : State) (u : State) (v : Word), s.takesWork 0x80 = true ∧ u = s.touch
    A.LDPC_RETIRE ∧ 14 ≤ getBits v 0 4 :=
  ⟨up, _, 15, by decide +kernel, rfl, by decide +kernel⟩

theorem wit_DecoderEngines_7 : ∃ (s : State) (v : Word) (e : Nat) (k : Nat), s.takesWork 0x80 = true ∧ e = getBits v 0
    4 ∧ e < 14 ∧ s.engineActive e = true ∧ (s.fld F.LDPC_ENGINE_MAP_RETIRED).testBit e = false ∧ s.engineRetirable e =
    true ∧ k < 14 ∧ k ≠ e ∧ s.flag (F.LDPC_ENG_STATUS_SPARE k) = true ∧ ((∀ j < k, j ≠ e → s.flag
    (F.LDPC_ENG_STATUS_SPARE j) = false)) ∧ s.engineActive k = false :=
  ⟨fl [(F.LDPC_ENG_STATUS_SPARE 12, 1)], 0, 0, 12, by decide +kernel⟩

theorem wit_DecoderEngines_8 : ∃ (s : State) (e : Fin 14), s.takesWork 0x80 = true ∧ s.fld F.LDPC_BIST_CFG_PERIOD_MS ≠
    0 ∧ s.ldpc.waiting = [] ∧ s.decoding e.val = none ∧ (s.fld F.LDPC_ENGINE_MAP_RETIRED).testBit e.val = false ∧
    s.inWatch = false ∧ s.flt.queue.length < 16 :=
  ⟨up, 13, by decide +kernel⟩

end Sys2Proof.Tests
end

