-- ==== Sys2Proof/Tests/Witnesses2.lean ====
section
/-! SUPPORT. States and operands that meet all hypotheses of a clause of a statement (part 2 of 4): the witness
wit_<Name>_<i> is for clause i of Obligations.<Name>. -/

namespace Sys2Proof.Tests

open Sys2Proof.Machine

set_option Elab.async false

/-- An MPDU for peer 1, as firmware posts it. -/
def mp (id : Nat) (sent : List Nat) (attempts : Nat) (mgmt : Bool) : TxMpdu :=
  { id := id, req := { sta := 1, bss := 0, tid := 0, frame := [], mgmt := mgmt }, sn := id, pn := 0, body := [], len := 100,
    attempts := attempts, sent := sent }

/-- An MPDU from the station with a link address. -/
def rxm (retry : Bool) (mgmt : Bool) (a2 : List Byte) (sn : BitVec 12) : RxMpduIn :=
  { bss := 0, a1 := [], a2 := a2, a3 := [], group := false, mgmt := mgmt, robust := false, retry := retry, pmClear := false, tid := 0, sn := sn,
    frag := 0, more := false, prot := false, oldCipher := false, keyId := 0, pn := 0, amsdu := false,
    hdr := [], body := [], rssi := 0, queueSize := none }

/-- Radio 0 receives a PPDU. -/
def ppduIn (el : Bool) : RxPpdu :=
  { id := 0, header := .failed false 0, fmt := .he, power := -50, sat := false, hdrOk := true, dataEnd := 50, endT := 100, elicits := el, stamp := (1, 9, 0) }

/-- A state in which radio 0 receives it. -/
def hears (el : Bool) (s : State) : State := { s with air := { radios := [(0, { rx := some (ppduIn el) })] } }

/-- A rate of HE MCS 0. -/
def he1 : TxRate := { fmt := .he, mcs := 0, bw := 0, nss := 1, steered := false, dur := 500 }

/-- A beacon. -/
def bcn : Beacon := { template := [], dtim := (0, 1), group := false, aids := [], links := [], vendor := [], rtwt := [], quiet := [] }

/-- A held entry. -/
def heldAt (sn : Nat) : Held :=
  { sn := sn, pn := none, msdus := [([], [], [])], hdr := [], bss := 0, time := 0, group := false, link := 0, rssi := 0, start := (0, 0) }

/-- Flow 0 comes from peer 1 with duplication, and number 4 has been received once. -/
def dupped : State :=
  { assoc (peer.set 14 0x00008040) { tids := [(8, { rxWin := 5, got := [4] })] } with
    regsvc := { flows := [(0, { words := [0x60000000, 0, 0x10000] })] } }.setFld (F.REGSVC_FLOW_W0_STATE 0) 1

/-- An MPDU to fill a PPDU with, for a peer that uses EMLSR. -/
theorem wit_WmacTransmission_3 : ∃ (s : State) (a : BitVec 11) (l : BitVec 6) (bytes : BitVec 24) (start : Option DWord)
    (rates : List TxRate) (ids : List Nat) (r at' dur : Nat), s.takesWork wmacBlock = true ∧ a.toNat ≠ 0 ∧ s.peerValid a.toNat = true ∧
    r = s.linkRadio a.toNat l.toNat ∧ at' = (start.map (fun t => t.toNat)).getD s.now ∧
    dur = (((withinLimit rates).head?).map (fun t => t.dur.toNat)).getD 0 ∧
    s.linkOn a.toNat l.toNat = true ∧ s.emlsrFree a.toNat l.toNat = true ∧ s.nstrBusy a.toNat l.toNat = false ∧
    s.rspHolds r at' = none ∧ s.awakeAt a.toNat at' = true ∧ withinLimit rates ≠ [] ∧ s.airLeft r at' (dur + 24000) = true ∧
    (∀ b ∈ s.wmac.bars, b.1 ≠ a.toNat) ∧ s.nstrCmds a.toNat l.toNat = [] ∧
    s.nstrMisaligned a.toNat l.toNat (start.map (fun t => t.toNat)) = false ∧
    ids = (match s.wmac.mpdus.filter (fun m => decide (m.req.sta = a.toNat ∧ m.links = []) && m.req.mgmt) with
      | m :: _ => [m.id]
      | [] => s.fillTids { sta := a.toNat, link := l.toNat, flow := none, stop := at' + dur + 24000 }
          [7, 6, 5, 4, 3, 0, 2, 1] bytes.toNat) ∧
    ids ≠ [] ∧ s.isEmlsr a.toNat = true :=
  ⟨assoc (peer.set 0 0x8C000001) { mpdus := [mp 0 [] 0 true] }, 1, 0, 1000, none, [he1], [0], 0, 0, 500, by decide +kernel⟩

theorem wit_PeerContexts_0 : ∃ (s : State) (u : State) (a : BitVec 11) (i : Instr), i ∈ [Instr.ctxAdd a, .ctxUpdate a,
    .ctxRemove a, .ctxRead a] ∧ s.takesWork (windowOf A.WMAC_CTX_CMD) = true ∧ u = s.touch A.WMAC_CTX_CMD ∧ ((a.toNat
    = 0 ∨ 1024 < a.toNat ∨ s.flag F.WMAC_CTX_STATUS_BUSY = true)) :=
  ⟨up, _, 1025, .ctxRemove 1025, by decide +kernel, by decide +kernel, rfl, by decide +kernel⟩

theorem wit_PeerContexts_1 : ∃ (s : State) (u : State) (a : BitVec 11) (w : Nat) (e : RefCode), ctxRuns s u a.toNat ∧
    s.peerValid a.toNat = false ∧ s.stageFails s.stage = some (w, e) :=
  ⟨up, up.touch A.WMAC_CTX_CMD, 1024, 0, .zeroLength, by unfold ctxRuns; decide +kernel, by decide +kernel⟩

theorem wit_PeerContexts_2 : ∃ (s : State) (u : State) (a : BitVec 11), ctxRuns s u a.toNat ∧ s.peerValid a.toNat =
    false ∧ s.stageFails s.stage = none ∧ s.addrTaken s.stage = true :=
  ⟨staged (assoc peer {}) peer, (staged (assoc peer {}) peer).touch A.WMAC_CTX_CMD, 2,
    by unfold ctxRuns; decide +kernel, by decide +kernel⟩

theorem wit_PeerContexts_3 : ∃ (s : State) (u : State) (a : BitVec 11), ctxRuns s u a.toNat ∧ s.peerValid a.toNat =
    false ∧ s.stageFails s.stage = none ∧ s.addrTaken s.stage = false :=
  ⟨staged up peer, (staged up peer).touch A.WMAC_CTX_CMD, 1, by unfold ctxRuns; decide +kernel, by decide +kernel⟩

theorem wit_PeerContexts_4 : ∃ (s : State) (u : State) (a : BitVec 11) (i : Instr), i ∈ [Instr.ctxUpdate a, .ctxRemove
    a, .ctxRead a] ∧ ctxRuns s u a.toNat ∧ s.peerValid a.toNat = false :=
  ⟨up, up.touch A.WMAC_CTX_CMD, 7, .ctxRead 7, by decide +kernel, by unfold ctxRuns; decide +kernel,
    by decide +kernel⟩

theorem wit_PeerContexts_5 : ∃ (s : State) (u : State) (a : BitVec 11), ctxRuns s u a.toNat ∧ s.peerValid a.toNat =
    true ∧ s.stageFails s.stage = none ∧ s.wmac.waiting = [] :=
  ⟨staged (assoc peer {}) peer, (staged (assoc peer {}) peer).touch A.WMAC_CTX_CMD, 1,
    by unfold ctxRuns; decide +kernel, by decide +kernel⟩

theorem wit_PeerContexts_6 : ∃ (s : State) (u : State) (a : BitVec 11), ctxRuns s u a.toNat ∧ s.peerValid a.toNat =
    true ∧ (s.ctxWords a.toNat).length = 30 :=
  ⟨assoc peer {}, (assoc peer {}).touch A.WMAC_CTX_CMD, 1, by unfold ctxRuns; decide +kernel, by decide +kernel⟩

theorem wit_WmacTransmission_0 : ∃ (s : State) (ws : List Word), s.takesWork wmacBlock = true ∧ getBits (ws.getD 2 0)
    0 14 = 0 :=
  ⟨up, [0, 0, 0, 0, 0, 9], by decide +kernel⟩

theorem wit_WmacTransmission_1 : ∃ (s : State) (a : BitVec 11) (_ : BitVec 6) (_ : Bool) (_ : Word) (_ : List Byte),
    s.takesWork wmacBlock = true ∧ a.toNat ≠ 0 ∧ s.peerValid a.toNat = false :=
  ⟨up, 5, 0, false, 7, [], by decide +kernel⟩

theorem wit_WmacTransmission_2 : ∃ (s : State) (a : BitVec 11) (_ : BitVec 6) (_ : Bool) (_ : Word) (_ : List Byte),
    s.takesWork wmacBlock = true ∧ a.toNat ≠ 0 ∧ s.peerValid a.toNat = true ∧ s.frameCipher a.toNat (s.peerBss
    a.toNat) = 0 ∧ s.wmac.waiting = [] :=
  ⟨assoc peer {}, 1, 0, false, 7, [], by decide +kernel⟩

theorem wit_WmacTransmission_4 : ∃ (s : State) (a : BitVec 11) (l : BitVec 6) (_ : BitVec 24) (_ : Option DWord) (_ :
    List TxRate), a.toNat ≠ 0 ∧ s.linkOn a.toNat l.toNat = false :=
  ⟨up, 1, 0, 1000, none, [], by decide +kernel⟩

theorem wit_WmacTransmission_5 : ∃ (s : State) (a : BitVec 11) (l : BitVec 6) (_ : BitVec 24) (start : Option DWord)
    (_ : List TxRate) (at' : Nat), at' = (start.map (fun t => t.toNat)).getD s.now ∧ a.toNat ≠ 0 ∧ s.awakeAt a.toNat
    at' = false ∧ s.rspHolds (s.linkRadio a.toNat l.toNat) at' = none :=
  ⟨fl [(F.ROUNDS_TWT_W0_VALID 7, 1), (F.ROUNDS_TWT_W0_STA_ID 7, 1)], 1, 0, 1000, none, [], _, rfl, by decide +kernel⟩

theorem wit_WmacTransmission_6 : ∃ (s : State) (a : BitVec 11) (l : BitVec 6) (_ : BitVec 24) (_ : List TxRate) (tid :
    Nat) (r : Nat), s.takesWork wmacBlock = true ∧ a.toNat ≠ 0 ∧ s.peerValid a.toNat = true ∧ s.linkOn a.toNat l.toNat
    = true ∧ r = s.linkRadio a.toNat l.toNat ∧ s.isEmlsr a.toNat = false ∧ s.nstrBusy a.toNat l.toNat = false ∧
    s.rspHolds r s.now = none ∧ s.awake a.toNat = true ∧ s.nstrMisaligned a.toNat l.toNat none = false ∧ s.wmac.bars =
    [(a.toNat, tid)] ∧ ttlmHas (s.ctxWords a.toNat) 12 tid l.toNat = true :=
  ⟨assoc peer { bars := [(1, 0)] }, 1, 0, 0, [], 0, _, by decide +kernel, by decide +kernel, by decide +kernel,
    (by decide +kernel), rfl, by decide +kernel⟩

theorem wit_WmacTransmission_7 : ∃ (s : State) (b : BitVec 6) (_ : BitVec 24) (_ : Option DWord) (_ : List TxRate) (m
    : TxMpdu), s.takesWork wmacBlock = true ∧ s.bssOn b.toNat = true ∧ s.wmac.mpdus.find? (fun m => decide (m.req.sta
    = 0 ∧ m.req.bss = b.toNat ∧ m.links = [])) = some m :=
  ⟨assoc peer { mpdus := [{ mp 0 [] 0 false with req := { sta := 0, bss := 0, tid := 0, frame := [] } }] }, 0, 1000,
    none, [], { mp 0 [] 0 false with req := { sta := 0, bss := 0, tid := 0, frame := [] } }, by decide +kernel⟩

theorem wit_WmacTransmission_8 : ∃ (s : State) (a : BitVec 11) (_ : Fin 3) (_ : BitVec 3) (_ : BitVec 12) (_ : List
    (BitVec 12)), s.takesWork wmacBlock = true ∧ s.peerValid a.toNat = true ∧ s.wmac.waiting = [] ∧ (s.wmac.mpdus.map
    (fun m => m.id)).Nodup ∧ ((∀ m ∈ s.wmac.mpdus, plainMpdu m)) :=
  ⟨assoc peer { mpdus := [mp 0 [0] 0 false, mp 1 [0] 0 false] }, 1, 0, 0, 0, [1], by decide +kernel,
    by decide +kernel, by decide +kernel, (by decide +kernel),
    fun m h => by rcases List.mem_pair.mp h with e | e <;> subst e <;> exact ⟨rfl, rfl, rfl, rfl⟩⟩

theorem wit_WmacTransmission_9 : ∃ (s : State) (a : BitVec 11) (l : Fin 3) (m : TxMpdu), s.takesWork wmacBlock = true
    ∧ s.wmac.waiting = [] ∧ s.wmac.mpdus = [m] ∧ plainMpdu m ∧ m.req.sta = a.toNat ∧ m.sent = [l.val] ∧ m.attempts <
    s.fld F.WMAC_AMPDU_CFG_RETRY_LIMIT :=
  ⟨assoc peer { mpdus := [mp 0 [0] 0 false] }, 1, 0, mp 0 [0] 0 false, by decide +kernel, by decide +kernel,
    by decide +kernel, ⟨rfl, rfl, rfl, rfl⟩, by decide +kernel⟩

theorem wit_WmacTransmission_10 : ∃ (s : State) (a : BitVec 11) (l : Fin 3) (m : TxMpdu), s.takesWork wmacBlock = true
    ∧ s.wmac.waiting = [] ∧ s.wmac.mpdus = [m] ∧ plainMpdu m ∧ m.req.sta = a.toNat ∧ m.sent = [l.val] ∧ s.fld
    F.WMAC_AMPDU_CFG_RETRY_LIMIT ≤ m.attempts ∧ a.toNat ≠ 0 :=
  ⟨assoc peer { mpdus := [mp 0 [0] 255 false] }, 1, 0, mp 0 [0] 255 false, by decide +kernel, by decide +kernel,
    by decide +kernel, ⟨rfl, rfl, rfl, rfl⟩, by decide +kernel⟩

theorem wit_WmacTransmission_11 : ∃ (s : State) (a : BitVec 11) (l : Nat), s.takesWork wmacBlock = true ∧ (s.emlsr
    a.toNat).icf = some l ∧ ((∀ c ∈ (s.radio (s.linkRadio a.toNat l)).cmds, c.icf = [] → (a.toNat, l) ∉ c.kind.users))
    :=
  ⟨{ up with wmac := { emlsr := [(1, { icf := some 0 })] } }, 1, 0, by decide +kernel⟩

theorem wit_WmacTransmission_12 : ∃ (s : State) (a : BitVec 11) (l : Nat) (c : AirCmd), s.takesWork wmacBlock = true ∧
    (s.emlsr a.toNat).icf = some l ∧ (s.radio (s.linkRadio a.toNat l)).cmds = [c] ∧ c.kind = .ppdu a.toNat l ∧ c.icf =
    [] :=
  ⟨{ assoc peer { emlsr := [(1, { icf := some 0 })], mpdus := [mp 0 [] 0 false] } with air := { radios := [(0, { cmds := [{ kind := .ppdu 1 0, timed := none, mpdus := [0] }] })] } },
    1, 0, { kind := .ppdu 1 0, timed := none, mpdus := [0] }, by decide +kernel⟩

theorem wit_WmacTransmission_13 : ∃ (s : State) (b : BitVec 6) (len : BitVec 12) (_ : List TxRate), s.takesWork
    wmacBlock = true ∧ s.inWatch = false ∧ s.bssOn b.toNat = true ∧ s.bipSlot b.toNat true true = none ∧ s.hole
    ((s.bssWord b.toNat 4).toNat * 16) len.toNat = none ∧ ((∀ u, sget (fun _ => none) s.wmac.beacons b.toNat = some u
    → u + getBits (s.bssWord b.toNat 3) 16 16 * 512000 ≤ s.now)) ∧ s.obstruction (s.bssRadio b.toNat) = none :=
  ⟨assoc peer {}, 0, 0, [], by decide +kernel, by decide +kernel, by decide +kernel, (by decide +kernel),
    by decide +kernel, none_all (by decide +kernel), by decide +kernel⟩

theorem wit_WmacTransmission_14 : ∃ (s : State) (b : BitVec 6) (_ : BitVec 12) (_ : List TxRate), s.bssOn b.toNat =
    false :=
  ⟨up, 63, 0, [], by decide +kernel⟩

theorem wit_WmacTransmission_15 : ∃ (s : State) (r : Fin 3) (a : OnAir) (b : Nat) (f : Beacon), (s.radio r.val).air =
    some a ∧ a.begun = false ∧ a.t0 ≤ s.now ∧ a.cmd.kind = .beacon b f ∧ a.cmd.mpdus = [] :=
  ⟨{ up with air := { radios := [(1, { air := some { cmd := { kind := .beacon 3 bcn, timed := none }, t0 := 0, t1 := 900, stop := 900 } })] } },
    1, { cmd := { kind := .beacon 3 bcn, timed := none }, t0 := 0, t1 := 900, stop := 900 }, 3, bcn,
    by decide +kernel⟩

theorem wit_WmacReception_0 : ∃ (s : State) (m : RxMpduIn) (x : RxPpdu), heardIn s m x ∧ s.findPeer m.bss.toNat m.a2 =
    none ∧ m.mgmt = true :=
  ⟨hears false (assoc peer {}), rxm false true [1, 0, 0, 0, 0, 0] 0, ppduIn false, by unfold heardIn; decide +kernel,
    by decide +kernel⟩

theorem wit_WmacReception_1 : ∃ (s : State) (m : RxMpduIn) (x : RxPpdu), heardIn s m x ∧ s.findPeer m.bss.toNat m.a2 =
    none ∧ m.mgmt = false :=
  ⟨hears false (assoc peer {}), rxm false false [1, 0, 0, 0, 0, 0] 0, ppduIn false, by unfold heardIn; decide +kernel,
    by decide +kernel⟩

theorem wit_WmacReception_2 : ∃ (s : State) (m : RxMpduIn) (n : Nat) (l : Nat) (x : RxPpdu), plainData s m n l x ∧
    s.frameCipher n m.bss.toNat ≠ 0 ∧ s.peerAuth n = true ∧ isEapol m.body = false :=
  ⟨hears false (assoc (peer.set 11 1) {}), rxm false false (List.replicate 6 0) 0, 1, 0, ppduIn false,
    by unfold plainData fromPeer heardIn; decide +kernel, by decide +kernel⟩

theorem wit_WmacReception_3 : ∃ (s : State) (m : RxMpduIn) (n : Nat) (l : Nat) (x : RxPpdu), plainData s m n l x ∧
    s.peerAuth n = false ∧ isEapol m.body = false :=
  ⟨hears false (assoc (peer.set 0 0x80000001) {}), rxm false false (List.replicate 6 0) 0, 1, 0, ppduIn false,
    by unfold plainData fromPeer heardIn; decide +kernel, by decide +kernel⟩

theorem wit_WmacReception_4 : ∃ (s : State) (m : RxMpduIn) (n : Nat) (l : Nat) (x : RxPpdu), plainData s m n l x ∧
    s.frameCipher n m.bss.toNat = 0 ∧ s.peerAuth n = true ∧ s.baRx n m.tid.toNat = false ∧ m.retry = true ∧ (s.tid n
    m.tid.toNat).lastSn = some m.sn.toNat :=
  ⟨hears false (assoc peer { tids := [(8, { lastSn := some 4 })] }), rxm true false (List.replicate 6 0) 4, 1, 0,
    ppduIn false, by unfold plainData fromPeer heardIn; decide +kernel, by decide +kernel⟩

theorem wit_WmacReception_5 : ∃ (s : State) (m : RxMpduIn) (n : Nat) (l : Nat) (x : RxPpdu), plainData s m n l x ∧
    s.frameCipher n m.bss.toNat = 0 ∧ s.peerAuth n = true ∧ s.baRx n m.tid.toNat = false ∧ ((m.retry = false ∨ (s.tid
    n m.tid.toNat).lastSn ≠ some m.sn.toNat)) ∧ s.flag F.WMAC_RX_CFG_TO_8023 = false :=
  ⟨hears false (setF (assoc peer {}) [(F.WMAC_RX_CFG_TO_8023, 0)]), rxm false false (List.replicate 6 0) 4, 1, 0,
    ppduIn false, by unfold plainData fromPeer heardIn; decide +kernel, by decide +kernel⟩

theorem wit_WmacReception_6 : ∃ (s : State) (m : RxMpduIn) (n : Nat) (l : Nat) (x : RxPpdu), plainData s m n l x ∧
    s.frameCipher n m.bss.toNat = 0 ∧ s.peerAuth n = true ∧ s.baRx n m.tid.toNat = false ∧ ((m.retry = false ∨ (s.tid
    n m.tid.toNat).lastSn ≠ some m.sn.toNat)) ∧ s.flag F.WMAC_RX_CFG_TO_8023 = true :=
  ⟨hears false (setF (assoc peer {}) [(F.WMAC_RX_CFG_TO_8023, 1)]), rxm true false (List.replicate 6 0) 4, 1, 0,
    ppduIn false, by unfold plainData fromPeer heardIn; decide +kernel, by decide +kernel⟩

theorem wit_WmacReception_7 : ∃ (s : State) (m : RxMpduIn) (n : Nat) (l : Nat) (x : RxPpdu), plainData s m n l x ∧
    s.frameCipher n m.bss.toNat = 0 ∧ s.peerAuth n = true ∧ s.baRx n m.tid.toNat = true ∧ 2048 ≤ (m.sn.toNat + 4096 -
    (s.tid n m.tid.toNat).rxWin) % 4096 ∧ m.sn.toNat ∉ (s.tid n m.tid.toNat).got :=
  ⟨hears false (assoc (peer.set 14 0x00008040) { tids := [(8, { rxWin := 5 })] }),
    rxm true false (List.replicate 6 0) 4, 1, 0, ppduIn false, by unfold plainData fromPeer heardIn; decide +kernel,
    by decide +kernel⟩

theorem wit_WmacReception_8 : ∃ (s : State) (m : RxMpduIn) (sta : Nat) (tid : Nat), s.baRx sta tid = true ∧ s.dupFlow
    sta tid = true ∧ 2048 ≤ (m.sn.toNat + 4096 - (s.tid sta tid).rxWin) % 4096 ∧ m.sn.toNat ∈ (s.tid sta tid).got :=
  ⟨dupped, rxm false false (List.replicate 6 0) 4, 1, 0, by decide +kernel⟩

theorem wit_WmacReception_9 : ∃ (s : State) (m : RxMpduIn) (n : Nat) (l : Nat) (x : RxPpdu), fromPeer s m n l x ∧
    m.mgmt = false ∧ m.group = false ∧ s.baRx n m.tid.toNat = true ∧ x.elicits = true ∧ ((∀ c ∈ (s.radio (s.bssRadio
    m.bss.toNat)).cmds, c.kind.baOf x.id = none)) :=
  ⟨hears true (assoc (peer.set 14 0x00008040) {}), rxm true false (List.replicate 6 0) 4, 1, 0, ppduIn true,
    by unfold fromPeer heardIn; decide +kernel, by decide +kernel⟩

theorem wit_WmacReception_10 : ∃ (s : State) (m : RxMpduIn) (n : Nat) (l : Nat) (x : RxPpdu), fromPeer s m n l x ∧
    m.mgmt = true ∧ m.group = false ∧ m.prot = false ∧ m.robust = false ∧ m.retry = true ∧ sget (fun _ => none)
    s.wmac.mgmtRx n = some m.sn.toNat :=
  ⟨hears false (assoc peer { mgmtRx := [(1, some 4)] }), rxm true true (List.replicate 6 0) 4, 1, 0, ppduIn false,
    by unfold fromPeer heardIn; decide +kernel, by decide +kernel⟩

theorem wit_WmacReception_11 : ∃ (s : State) (m : RxMpduIn) (n : Nat) (l : Nat) (x : RxPpdu), fromPeer s m n l x ∧
    m.mgmt = true ∧ m.group = false ∧ m.prot = false ∧ m.robust = false ∧ (m.retry = false ∨ sget (fun _ => none)
    s.wmac.mgmtRx n ≠ some m.sn.toNat) :=
  ⟨hears false (assoc peer { mgmtRx := [(1, some 4)] }), rxm true true (List.replicate 6 0) 5, 1, 0, ppduIn false,
    by unfold fromPeer heardIn; decide +kernel, by decide +kernel⟩

theorem wit_WmacReception_12 : ∃ (s : State) (a : BitVec 11) (tid : BitVec 3) (ssn : BitVec 12), s.takesWork wmacBlock
    = true ∧ s.peerValid a.toNat = true ∧ s.baRx a.toNat tid.toNat = true ∧ s.dupFlow a.toNat tid.toNat = false ∧
    (s.tid a.toNat tid.toNat).held = [] ∧ 0 < (ssn.toNat + 4096 - (s.tid a.toNat tid.toNat).rxWin) % 4096 ∧ (ssn.toNat
    + 4096 - (s.tid a.toNat tid.toNat).rxWin) % 4096 < 2048 :=
  ⟨assoc (peer.set 14 0x00008040) {}, 1, 0, 1, by decide +kernel⟩

theorem wit_WmacReception_13 : ∃ (s : State) (a : BitVec 11) (tid : BitVec 3) (ssn : BitVec 12) (h : Held) (x : List
    Byte × List Byte × List Byte), s.takesWork wmacBlock = true ∧ s.peerValid a.toNat = true ∧ s.baRx a.toNat
    tid.toNat = true ∧ (s.tid a.toNat tid.toNat).held = [h] ∧ h.pn = none ∧ h.msdus = [x] ∧ s.flag
    F.WMAC_RX_CFG_TO_8023 = false ∧ (h.sn + 4096 - (s.tid a.toNat tid.toNat).rxWin) % 4096 < (ssn.toNat + 4096 -
    (s.tid a.toNat tid.toNat).rxWin) % 4096 ∧ (ssn.toNat + 4096 - (s.tid a.toNat tid.toNat).rxWin) % 4096 < 2048 :=
  ⟨setF (assoc (peer.set 14 0x00008040) { tids := [(8, { held := [heldAt 0] })] }) [(F.WMAC_RX_CFG_TO_8023, 0)], 1, 0,
    1, heldAt 0, ([], [], []), by decide +kernel⟩

theorem wit_WmacReception_14 : ∃ (s : State) (a : BitVec 11) (tid : BitVec 3) (ssn : BitVec 12), ((s.baRx a.toNat
    tid.toNat = false ∨ (ssn.toNat + 4096 - (s.tid a.toNat tid.toNat).rxWin) % 4096 = 0 ∨ 2048 ≤ (ssn.toNat + 4096 -
    (s.tid a.toNat tid.toNat).rxWin) % 4096)) :=
  ⟨up, 1, 0, 0, by decide +kernel⟩

theorem wit_WmacReception_15 : ∃ (s : State) (a : BitVec 11) (tid : BitVec 3) (u : Nat), (s.tid a.toNat
    tid.toNat).flush = some u ∧ s.now < u + getBits (s.ctxWord a.toNat (15 + 2 * tid.toNat)) 16 16 * 500 :=
  ⟨{ assoc ((peer.set 14 0x00008040).set 15 0xFFFF0000) { tids := [(8, { flush := some 0 })] } with time := { tick := 5 } },
    1, 0, 0, by decide +kernel⟩

theorem wit_WmacReception_16 : ∃ (s : State) (a : BitVec 11) (tid : BitVec 3) (u : Nat) (h : Held) (x : List Byte ×
    List Byte × List Byte), s.takesWork wmacBlock = true ∧ (s.tid a.toNat tid.toNat).flush = some u ∧ u + getBits
    (s.ctxWord a.toNat (15 + 2 * tid.toNat)) 16 16 * 500 ≤ s.now ∧ s.flowOf true a.toNat tid.toNat = none ∧ (s.tid
    a.toNat tid.toNat).held = [h] ∧ h.pn = none ∧ h.msdus = [x] ∧ s.flag F.WMAC_RX_CFG_TO_8023 = false :=
  ⟨setF (assoc (peer.set 14 0x00008040) { tids := [(8, { flush := some 0, held := [heldAt 1] })] }) [(F.WMAC_RX_CFG_TO_8023, 0)],
    1, 0, 0, heldAt 1, ([], [], []), by decide +kernel⟩

theorem wit_TriggersAndDomainSteps_0 : ∃ (s : State) (u : State) (k : Fin 16) (v : Word), s.takesWork 0x08 = true ∧ u
    = s.touch (A.POSTMARK_TRG_CTRL k.val) ∧ ((k.val ≤ 3 ∨ 3 < getBits v 24 4 ∨ (v.getLsbD 31 = true ∧ getBits v 29 2 =
    3 ∧ s.fld (F.POSTMARK_TRG_PERIOD_PERIOD k.val) % 2 = 1) ∨ (v.getLsbD 31 = true ∧ getBits v 29 2 ≠ 3 ∧ 1000000000 ≤
    (s.rd (A.POSTMARK_TRG_NS k.val)).toNat))) :=
  ⟨up, _, 3, 0, by decide +kernel, rfl, by decide +kernel⟩

theorem wit_TriggersAndDomainSteps_1 : ∃ (s : State) (u : State) (k : Fin 16) (v : Word), s.takesWork 0x08 = true ∧ u
    = s.touch (A.POSTMARK_TRG_CTRL k.val) ∧ 3 < k.val ∧ getBits v 24 4 ≤ 3 ∧ s.flag (F.POSTMARK_TRG_CTRL_EN k.val) =
    false ∧ ((v.getLsbD 31 = true → (if getBits v 29 2 = 3 then s.fld (F.POSTMARK_TRG_PERIOD_PERIOD k.val) % 2 = 0
    else (s.rd (A.POSTMARK_TRG_NS k.val)).toNat < 1000000000))) :=
  ⟨up, _, 4, 0x80000000, by decide +kernel, rfl, by decide +kernel, by decide +kernel, by decide +kernel,
    fun _ => by decide +kernel⟩

theorem wit_TriggersAndDomainSteps_2 : ∃ (s : State) (k : Fin 16), ((s.flag (F.POSTMARK_TRG_CTRL_EN k.val) = false ∨
    s.trgBase k.val < s.trgTime k.val ∨ ∃ x, s.trgForced k.val = some x ∧ s.now < x.toNat)) :=
  ⟨up, 15, by decide +kernel⟩

theorem wit_TriggersAndDomainSteps_3 : ∃ (s : State) (k : Fin 16), s.takesWork 0x08 = true ∧ s.trgDue k.val = true ∧
    s.fld (F.POSTMARK_TRG_CTRL_TARGET k.val) = 0 ∧ s.fld (F.POSTMARK_TRG_PERIOD_PERIOD k.val) = 0 :=
  ⟨fl [(F.POSTMARK_TRG_CTRL_EN 4, 1), (F.POSTMARK_TRG_CTRL_DOMAIN 4, 3)], 4, by decide +kernel⟩

theorem wit_TriggersAndDomainSteps_4 : ∃ (s : State) (k : Fin 16) (p : Nat), s.takesWork 0x08 = true ∧ s.trgDue k.val
    = true ∧ s.fld (F.POSTMARK_TRG_CTRL_TARGET k.val) = 0 ∧ s.fld (F.POSTMARK_TRG_CTRL_DOMAIN k.val) = 3 ∧ p = s.fld
    (F.POSTMARK_TRG_PERIOD_PERIOD k.val) / 2 ∧ p ≠ 0 ∧ s.now + 4294967296 < 18446744073709551616 :=
  ⟨fl [(F.POSTMARK_TRG_CTRL_EN 4, 1), (F.POSTMARK_TRG_CTRL_DOMAIN 4, 3), (F.POSTMARK_TRG_PERIOD_PERIOD 4, 2)], 4, 1,
    by decide +kernel⟩

theorem wit_TriggersAndDomainSteps_5 : ∃ (s : State) (k : Fin 16) (x : DWord), s.trgForced k.val = some x :=
  ⟨{ up with time := { forced := [(4, 9)] } }, 4, 9, by decide +kernel⟩

theorem wit_TriggersAndDomainSteps_6 : ∃ (s : State) (d : Fin 2), s.takesWork 0x08 = true ∧ s.domValid d.val = true ∧
    s.fld (F.POSTMARK_DOM_CTRL_SERVO_TO_MS d.val) ≠ 0 ∧ s.fld (F.POSTMARK_DOM_CTRL_SERVO_TO_MS d.val) * 500000 ≤ s.now
    - (s.dom d.val).watchdog.toNat ∧ s.flt.queue.length < 16 ∧ ((∀ r < 3, s.joint r ≠ jointJoint)) :=
  ⟨{ fl [(F.POSTMARK_DOM_CTRL_VALID 1, 1), (F.POSTMARK_DOM_CTRL_SERVO_TO_MS 1, 1)] with time := { tick := 500000 } },
    1, by decide +kernel⟩

theorem wit_TriggersAndDomainSteps_7 : ∃ (s : State) (d : Fin 2), ((s.domValid d.val = false ∨ s.now - (s.dom
    d.val).watchdog.toNat < s.fld (F.POSTMARK_DOM_CTRL_SERVO_TO_MS d.val) * 500000)) :=
  ⟨up, 0, by decide +kernel⟩

theorem wit_TriggersAndDomainSteps_8 : ∃ (s : State) (u : State) (d : Fin 2) (v : Word) (p : Nat), s.takesWork 0x08 =
    true ∧ u = s.touch (A.POSTMARK_DOM_INC_NS d.val) ∧ p = getBits v 0 4 * 4294967296 + (u.rd (A.POSTMARK_DOM_INC_FRAC
    d.val)).toNat ∧ p = 0 :=
  ⟨setR up [(A.POSTMARK_DOM_INC_FRAC 0, 0)], _, 0, 0, 0, by decide +kernel, rfl, by decide +kernel⟩

theorem wit_TriggersAndDomainSteps_9 : ∃ (s : State) (u : State) (d : Fin 2) (v : Word) (p : Nat), s.takesWork 0x08 =
    true ∧ u = s.touch (A.POSTMARK_DOM_INC_NS d.val) ∧ p = getBits v 0 4 * 4294967296 + (u.rd (A.POSTMARK_DOM_INC_FRAC
    d.val)).toNat ∧ p ≠ 0 ∧ ((p < 0x1F0000000 ∨ 0x20FFFFFFF < p)) :=
  ⟨setR up [(A.POSTMARK_DOM_INC_FRAC 0, 0xEFFFFFFF)], _, 0, 1, 0x1EFFFFFFF, by decide +kernel, rfl, by decide +kernel⟩

theorem wit_TriggersAndDomainSteps_10 : ∃ (s : State) (u : State) (d : Fin 2) (v : Word) (p : Nat), s.takesWork 0x08 =
    true ∧ u = s.touch (A.POSTMARK_DOM_INC_NS d.val) ∧ p = getBits v 0 4 * 4294967296 + (u.rd (A.POSTMARK_DOM_INC_FRAC
    d.val)).toNat ∧ 0x1F0000000 ≤ p ∧ p ≤ 0x20FFFFFFF :=
  ⟨setR up [(A.POSTMARK_DOM_INC_FRAC 1, 0x0FFFFFFF)], _, 1, 2, 0x20FFFFFFF, by decide +kernel, rfl, by decide +kernel⟩

theorem wit_TriggersAndDomainSteps_11 : ∃ (s : State) (u : State) (d : Fin 2) (v : Word), s.takesWork 0x08 = true ∧ u
    = s.touch (A.POSTMARK_DOM_ADJ d.val) ∧ v = 0 :=
  ⟨up, _, 1, 0, by decide +kernel, rfl, by decide +kernel⟩

theorem wit_TriggersAndDomainSteps_12 : ∃ (s : State) (u : State) (d : Fin 2) (v : Word), s.takesWork 0x08 = true ∧ u
    = s.touch (A.POSTMARK_DOM_ADJ d.val) ∧ v ≠ 0 ∧ ((v.toInt < -999999999 ∨ 999999999 < v.toInt)) :=
  ⟨up, _, 1, 0x80000000, by decide +kernel, rfl, by decide +kernel⟩

theorem wit_TriggersAndDomainSteps_13 : ∃ (s : State) (u : State) (d : Fin 2) (v : Word), s.takesWork 0x08 = true ∧ u
    = s.touch (A.POSTMARK_DOM_ADJ d.val) ∧ v ≠ 0 ∧ -999999999 ≤ v.toInt ∧ v.toInt ≤ 999999999 :=
  ⟨up, _, 1, 5, by decide +kernel, rfl, by decide +kernel⟩

theorem wit_TriggersAndDomainSteps_14 : ∃ (x : TimeDomain) (sec : Nat) (ns : Nat), x.steps = [.set sec ns] :=
  ⟨{ steps := [.set 1 2] }, 1, 2, by decide +kernel⟩

theorem wit_TriggersAndDomainSteps_15 : ∃ (x : TimeDomain) (n : Int), x.steps = [.adj n] :=
  ⟨{ steps := [.adj (-5)] }, -5, by decide +kernel⟩

theorem wit_TriggersAndDomainSteps_16 : ∃ (s : State) (u : State) (d : Fin 2), s.takesWork 0x08 = true ∧ u = s.touch
    (A.POSTMARK_DOM_CMD d.val) ∧ s.domValid d.val = false :=
  ⟨up, _, 0, by decide +kernel, rfl, by decide +kernel⟩

theorem wit_TriggersAndDomainSteps_17 : ∃ (s : State) (u : State) (d : Fin 2), s.takesWork 0x08 = true ∧ u = s.touch
    (A.POSTMARK_DOM_CMD d.val) ∧ s.domValid d.val = true :=
  ⟨fl [(F.POSTMARK_DOM_CTRL_VALID 0, 1)], _, 0, by decide +kernel, rfl, by decide +kernel⟩

theorem wit_TimeReadsCapturesAndSwitch_0 : ∃ (s : State) (u : State) (d : Fin 2), s.takesWork 0x08 = true ∧ u =
    s.touch (A.POSTMARK_DOM_NS d.val) :=
  ⟨up, _, 1, by decide +kernel, rfl⟩

theorem wit_TimeReadsCapturesAndSwitch_1 : ∃ (s : State) (u : State) (_ : Bool), s.takesWork 0x08 = true ∧ u = s.touch
    A.POSTMARK_LOCAL_LO :=
  ⟨up, _, true, by decide +kernel, rfl⟩

theorem wit_TimeReadsCapturesAndSwitch_2 : ∃ (s : State) (c : Fin 8) (n : Nat), s.takesWork 0x08 = true ∧ s.flag
    (F.POSTMARK_CAP_CTRL_EN c.val) = true ∧ n = s.fld (F.POSTMARK_CAP_CTRL_SOURCE c.val) ∧ ((n = 1 ∨ n = 2 ∨ (n = 3 ∧
    ∃ x, s.ngr.rx = some x ∧ x.ref = s.now))) :=
  ⟨fl [(F.POSTMARK_CAP_CTRL_EN 7, 1), (F.POSTMARK_CAP_CTRL_SOURCE 7, 1)], 7, 1, by decide +kernel⟩

theorem wit_TimeReadsCapturesAndSwitch_3 : ∃ (s : State) (c : Fin 8), s.flag (F.POSTMARK_CAP_CTRL_EN c.val) = false :=
  ⟨up, 0, by decide +kernel⟩

theorem wit_TimeReadsCapturesAndSwitch_4 : ∃ (s : State) (c : Fin 8), ((s.fld (F.POSTMARK_CAP_CTRL_SOURCE c.val) = 0 ∨
    3 < s.fld (F.POSTMARK_CAP_CTRL_SOURCE c.val))) :=
  ⟨up, 0, by decide +kernel⟩

theorem wit_TimeReadsCapturesAndSwitch_5 : ∃ (s : State) (u : State) (_ : Word), s.takesWork 0x08 = true ∧ u = s.touch
    A.POSTMARK_CAP_CMD :=
  ⟨up, _, 0xFF, by decide +kernel, rfl⟩

theorem wit_TimeReadsCapturesAndSwitch_6 : ∃ (s : State) (u : State) (c : Fin 8) (a : Word) (b : Word) (e : Word) (f :
    Word) (g : Word) (h : Word) (v : Word), s.takesWork 0x08 = true ∧ u = s.touch (A.POSTMARK_CAP_REC c.val 0) ∧ sget
    (fun _ => []) s.time.caps c.val = [a, b, e, f, g, h, v] :=
  ⟨{ up with time := { caps := [(2, [1, 2, 3, 4, 5, 6, 7])] } }, _, 2, 1, 2, 3, 4, 5, 6, 7, by decide +kernel, rfl,
    by decide +kernel⟩

theorem wit_TimeReadsCapturesAndSwitch_7 : ∃ (s : State), s.takesWork 0x08 = true ∧ s.flag
    F.POSTMARK_CLK10M_STATUS_PRESENT = false :=
  ⟨up, by decide +kernel⟩

theorem wit_TimeReadsCapturesAndSwitch_8 : ∃ (s : State), s.takesWork 0x08 = true ∧ s.flag
    F.POSTMARK_CLK10M_STATUS_PRESENT = true :=
  ⟨fl [(F.POSTMARK_CLK10M_STATUS_PRESENT, 1)], by decide +kernel⟩

theorem wit_TimeReadsCapturesAndSwitch_9 : ∃ (s : State), s.takesWork 0x08 = true ∧ ((s.flag F.POSTMARK_PPS_CFG_EN =
    true ∧ (s.dom s.selected).onSecond = true ∧ ∀ u, s.time.pps = some u → 250000000 ≤ s.now - u.toNat)) :=
  ⟨{ fl [(F.POSTMARK_PPS_CFG_EN, 1)] with time := { tick := 5 } }, by decide +kernel,
    ⟨by decide +kernel, by decide +kernel, none_all rfl⟩⟩

theorem wit_TimeReadsCapturesAndSwitch_10 : ∃ (s : State), s.takesWork 0x08 = true ∧ (¬ (s.flag F.POSTMARK_PPS_CFG_EN
    = true ∧ (s.dom s.selected).onSecond = true ∧ ∀ u, s.time.pps = some u → 250000000 ≤ s.now - u.toNat)) :=
  ⟨up, by decide +kernel, fun h => absurd h.1 (by decide +kernel)⟩

theorem wit_TimeReadsCapturesAndSwitch_11 : ∃ (s : State) (u : State) (q : Fin 7) (v : Word), s.takesWork 0x08 = true
    ∧ u = s.touch (A.POSTMARK_TSQ_IDX q.val) ∧ (getBits v 0 16 + 65536 - u.fld (F.POSTMARK_TSQ_IDX_RD q.val)) % 65536
    ≤ u.tsqHeld q.val :=
  ⟨fl [(F.POSTMARK_TSQ_IDX_WR 6, 3)], _, 6, 3, by decide +kernel, rfl, by decide +kernel⟩

theorem wit_TimeReadsCapturesAndSwitch_12 : ∃ (s : State) (u : State) (q : Fin 7) (v : Word), s.takesWork 0x08 = true
    ∧ u = s.touch (A.POSTMARK_TSQ_IDX q.val) ∧ u.tsqHeld q.val < (getBits v 0 16 + 65536 - u.fld
    (F.POSTMARK_TSQ_IDX_RD q.val)) % 65536 :=
  ⟨fl [(F.POSTMARK_TSQ_IDX_WR 6, 3)], _, 6, 4, by decide +kernel, rfl, by decide +kernel⟩

theorem wit_TimeReadsCapturesAndSwitch_13 : ∃ (s : State) (u : State) (v : Word), s.takesWork 0x08 = true ∧ u =
    s.touch A.POSTMARK_SEL ∧ getBits v 0 1 ≠ s.selected ∧ s.domValid (getBits v 0 1) = false :=
  ⟨up, _, 1, by decide +kernel, rfl, by decide +kernel⟩

theorem wit_TimeReadsCapturesAndSwitch_14 : ∃ (s : State) (u : State) (v : Word), s.takesWork 0x08 = true ∧ u =
    s.touch A.POSTMARK_SEL ∧ getBits v 0 1 = s.selected :=
  ⟨up, _, 0, by decide +kernel, rfl, by decide +kernel⟩

theorem wit_TimeReadsCapturesAndSwitch_15 : ∃ (s : State) (u : State) (v : Word), s.takesWork 0x08 = true ∧ u =
    s.touch A.POSTMARK_SEL ∧ getBits v 0 1 ≠ s.selected ∧ s.domValid (getBits v 0 1) = true ∧ ((∀ r < 3, s.joint r ≠
    jointJoint)) :=
  ⟨fl [(F.POSTMARK_DOM_CTRL_VALID 1, 1)], _, 1, by decide +kernel, rfl, by decide +kernel⟩

theorem wit_TimeReadsCapturesAndSwitch_16 : ∃ (s : State), s.takesWork 0x08 = true ∧ s.flag F.POSTMARK_SEL_AUTO = true
    ∧ s.domValid s.selected = false ∧ s.domValid (1 - s.selected) = true ∧ ((∀ r < 3, s.joint r ≠ jointJoint)) :=
  ⟨fl [(F.POSTMARK_DOM_CTRL_VALID 1, 1), (F.POSTMARK_SEL_AUTO, 1)], by decide +kernel⟩

theorem wit_TimeReadsCapturesAndSwitch_17 : ∃ (s : State), ((s.flag F.POSTMARK_SEL_AUTO = false ∨ s.domValid
    s.selected = true)) :=
  ⟨up, by decide +kernel⟩

theorem wit_PlansSegmentsAndServicePeriods_0 : ∃ (s : State) (u : State) (r : Fin 3) (v : Word), s.takesWork
    roundsBlock = true ∧ u = s.touch (A.ROUNDS_PLAN_CMD r.val) ∧ v.getLsbD 0 = false :=
  ⟨up, _, 2, 0, by decide +kernel, rfl, by decide +kernel⟩

theorem wit_PlansSegmentsAndServicePeriods_1 : ∃ (s : State) (u : State) (r : Fin 3) (v : Word), s.takesWork
    roundsBlock = true ∧ u = s.touch (A.ROUNDS_PLAN_CMD r.val) ∧ v.getLsbD 0 = true ∧ u.fld
    (F.ROUNDS_PLAN_STATUS_RESULT r.val) = 1 :=
  ⟨fl [(F.ROUNDS_PLAN_STATUS_RESULT 2, 1)], _, 2, 1, by decide +kernel, rfl, by decide +kernel⟩

theorem wit_PlansSegmentsAndServicePeriods_2 : ∃ (s : State) (u : State) (r : Fin 3) (v : Word), s.takesWork
    roundsBlock = true ∧ u = s.touch (A.ROUNDS_PLAN_CMD r.val) ∧ v.getLsbD 0 = true ∧ u.fld
    (F.ROUNDS_PLAN_STATUS_RESULT r.val) ≠ 1 :=
  ⟨up, _, 0, 1, by decide +kernel, rfl, by decide +kernel⟩

theorem wit_PlansSegmentsAndServicePeriods_3 : ∃ (s : State) (r : Fin 3), s.fld (F.ROUNDS_PLAN_STATUS_RESULT r.val) =
    1 ∧ (s.rnd r.val).passed = none ∧ s.takesWork roundsBlock = true ∧ s.planFails r.val (1 - s.planBank r.val) = none
    :=
  ⟨fl [(F.ROUNDS_PLAN_STATUS_RESULT 0, 1)], 0, by decide +kernel⟩

theorem wit_PlansSegmentsAndServicePeriods_4 : ∃ (s : State) (r : Fin 3), s.fld (F.ROUNDS_PLAN_STATUS_RESULT r.val) ≠
    1 :=
  ⟨up, 0, by decide +kernel⟩

theorem wit_PlansSegmentsAndServicePeriods_5 : ∃ (s : State) (r : Fin 3) (i : Fin 32) (_ : SegmentIn), (((s.rnd
    r.val).ran.contains i.val = true ∨ s.roundsOn r.val = false ∨ s.segKind r.val (s.planBank r.val) i.val = 0 ∨ s.now
    + 5000 < roundTime s r.val (s.segSlot r.val (s.planBank r.val) i.val).off ∨ roundTime s r.val (s.segSlot r.val
    (s.planBank r.val) i.val).stop ≤ s.now)) :=
  ⟨up, 1, 31, ⟨[], 0, 0, [], [], []⟩, by decide +kernel⟩

theorem wit_PlansSegmentsAndServicePeriods_6 : ∃ (s : State) (r : Fin 3) (i : Fin 32) (_ : SegmentIn) (y : Slot),
    segmentBegins s r.val i.val y ∧ s.segKind r.val (s.planBank r.val) i.val = 3 :=
  ⟨fl (quietSeg 0), 0, 0, ⟨[], 0, 0, [], [], []⟩, ⟨0, 0, 4000⟩, by unfold segmentBegins; decide +kernel,
    by decide +kernel⟩

theorem wit_PlansSegmentsAndServicePeriods_7 : ∃ (s : State) (r : Fin 3) (i : Fin 32) (_ : SegmentIn) (y : Slot) (us :
    List (Nat × Nat)), segmentBegins s r.val i.val y ∧ s.segKind r.val (s.planBank r.val) i.val = 2 ∧ s.fld
    (F.ROUNDS_SEG_W1_TRIG r.val (s.planBank r.val) i.val) = 1 ∧ s.candidates r.val i.val (roundTime s r.val y.off)
    true false = [] ∧ us = s.ofdmaStations r.val i.val (roundTime s r.val y.off) ∧ plainUsers s us ∧ s.inTurns r.val =
    false :=
  ⟨setF (assoc peer {}) (quietSeg 0 ++ [(F.ROUNDS_SEG_W1_KIND 0 0 0, 2), (F.ROUNDS_SEG_W1_TRIG 0 0 0, 1), (F.ROUNDS_STA_W0_UL_OFDMA 0, 1)]),
    0, 0, ⟨[], 900, 0, [], [], [{ fmt := .he, mcs := 0, bw := 0, nss := 1, steered := false, dur := 500 }]⟩,
    ⟨0, 0, 4000⟩, _, by unfold segmentBegins; decide +kernel, by decide +kernel, by decide +kernel, by decide +kernel,
    rfl, by unfold plainUsers; decide +kernel, by decide +kernel⟩

theorem wit_PlansSegmentsAndServicePeriods_8 : ∃ (s : State) (r : Fin 3) (i : Fin 32) (x : SegmentIn) (y : Slot) (n :
    Nat) (l : Nat) (ul : Nat), segmentBegins s r.val i.val y ∧ s.segKind r.val (s.planBank r.val) i.val = 2 ∧ s.fld
    (F.ROUNDS_SEG_W1_TRIG r.val (s.planBank r.val) i.val) = 0 ∧ s.candidates r.val i.val (roundTime s r.val y.off)
    true true = [n] ∧ s.linkAt n r.val = some l ∧ plainUsers s [(n, l)] ∧ 0 < s.staDeficit n ∧ s.fld
    (F.ROUNDS_MU_CFG_MAX_USERS r.val) ≠ 0 ∧ x.punct = 0 ∧ s.fld (F.ROUNDS_MU_CFG_MIN_RU r.val) ≤ 3 + s.synthBw r.val ∧
    s.inTurns r.val = false ∧ ul = min (min 2742000 x.dur.toNat) (y.len * 500 - firstDur x.rates - sifsOf r.val -
    multiAck r.val) :=
  ⟨setF { assoc peer {} with rounds := { demand := [(1, 500)] } } (quietSeg 0 ++ [(F.ROUNDS_SEG_W1_KIND 0 0 0, 2), (F.ROUNDS_SEG_W1_TRIG 0 0 0, 0), (F.ROUNDS_STA_W0_WEIGHT 0, 1), (F.ROUNDS_STA_W0_UL_OFDMA 0, 1), (F.ROUNDS_STA_W1_DEFICIT_US 0, 5), (F.ROUNDS_MU_CFG_MAX_USERS 0, 1)]),
    0, 0, ⟨[], 9000, 0, [1], [], [{ fmt := .he, mcs := 0, bw := 0, nss := 1, steered := false, dur := 500 }]⟩,
    ⟨0, 0, 4000⟩, 1, 0, _, by unfold segmentBegins; decide +kernel, by decide +kernel, by decide +kernel,
    by decide +kernel, (by decide +kernel), by unfold plainUsers; decide +kernel, by decide +kernel,
    by decide +kernel, by decide +kernel, (by decide +kernel), by decide +kernel, rfl⟩

theorem wit_PlansSegmentsAndServicePeriods_9 : ∃ (s : State) (r : Fin 3) (i : Fin 32) (x : SegmentIn) (y : Slot) (g :
    Nat) (t0 : Nat) (d : Nat) (n : Nat) (us : List (Nat × Nat)), segmentBegins s r.val i.val y ∧ s.segKind r.val
    (s.planBank r.val) i.val = 4 ∧ (List.range 32).filter (fun g => s.flag (F.ROUNDS_MUG_W0_VALID r.val g)) = [g] ∧ t0
    = roundTime s r.val y.off ∧ s.soundUsers r.val g t0 = some us ∧ us ≠ [] ∧ plainUsers s us ∧ us.length ≤ muLimit
    r.val ∧ s.inTurns r.val = false ∧ d = firstDur x.rates ∧ n = sifsOf r.val ∧ 32000 + d + 3 * n + x.dur.toNat ≤
    y.len * 500 ∧ x.reports = [] :=
  ⟨setF (assoc peer {}) (quietSeg 0 ++ [(F.ROUNDS_SEG_W1_KIND 0 0 0, 4), (F.ROUNDS_MUG_W0_VALID 0 5, 1), (F.ROUNDS_MUG_W0_NUSERS 0 5, 1), (F.ROUNDS_MUG_STA_STA_LO 0 5 0, 1)]),
    0, 0, ⟨[], 900, 0, [], [], [{ fmt := .he, mcs := 0, bw := 0, nss := 1, steered := false, dur := 500 }]⟩,
    ⟨0, 0, 4000⟩, 5, 0, 500, 5000, [(1, 0)], by unfold segmentBegins; decide +kernel, by decide +kernel,
    by decide +kernel, by decide +kernel, (by decide +kernel), by decide +kernel,
    by unfold plainUsers; decide +kernel, by decide +kernel⟩

theorem wit_PlansSegmentsAndServicePeriods_10 : ∃ (s : State) (r : Fin 3) (i : Fin 32) (_ : SegmentIn) (y : Slot),
    segmentBegins s r.val i.val y ∧ s.segKind r.val (s.planBank r.val) i.val ≠ 0 ∧ s.segKind r.val (s.planBank r.val)
    i.val ≠ 3 ∧ s.inTurns r.val = true ∧ ((∀ z ∈ s.turns r.val, s.turnOther r.val z.index = true)) :=
  ⟨setF up (quietSeg 0 ++ [(F.ROUNDS_SEG_W1_KIND 0 0 0, 1), (F.ROUNDS_JOINT_CTRL_STATE 0, 2)]), 0, 0,
    ⟨[], 0, 0, [], [], []⟩, ⟨0, 0, 4000⟩, by unfold segmentBegins; decide +kernel, by decide +kernel⟩

theorem wit_PlansSegmentsAndServicePeriods_11 : ∃ (s : State) (u : State) (a : BitVec 10) (v : Word), s.takesWork
    roundsBlock = true ∧ u = s.touch (A.ROUNDS_TWT_W0 a.toNat) ∧ ((getBits v 29 2 = 3 ∨ 24 ≤ getBits v 16 5)) :=
  ⟨up, _, 1023, 0x60000000, by decide +kernel, rfl, by decide +kernel⟩

theorem wit_PlansSegmentsAndServicePeriods_12 : ∃ (s : State) (u : State) (a : BitVec 10) (v : Word), s.takesWork
    roundsBlock = true ∧ u = s.touch (A.ROUNDS_TWT_W0 a.toNat) ∧ getBits v 29 2 ≠ 3 ∧ getBits v 16 5 < 24 ∧ v.getLsbD
    31 = true ∧ ((u.fld (F.ROUNDS_TWT_W1_INTERVAL_ROUNDS a.toNat) = 0 ∨ u.fld (F.ROUNDS_TWT_W2_SP_LEN_US a.toNat) =
    0)) :=
  ⟨up, _, 0, 0x80000000, by decide +kernel, rfl, by decide +kernel⟩

theorem wit_PlansSegmentsAndServicePeriods_13 : ∃ (s : State) (u : State) (a : BitVec 10) (v : Word), s.takesWork
    roundsBlock = true ∧ u = s.touch (A.ROUNDS_TWT_W0 a.toNat) ∧ getBits v 29 2 ≠ 3 ∧ getBits v 16 5 < 24 ∧ v.getLsbD
    31 = false :=
  ⟨up, _, 0, 0x00170000, by decide +kernel, rfl, by decide +kernel⟩

theorem wit_PlansSegmentsAndServicePeriods_14 : ∃ (s : State) (u : State) (a : BitVec 10) (v : Word) (r : Nat) (x :
    Slot), s.takesWork roundsBlock = true ∧ u = s.touch (A.ROUNDS_TWT_W0 a.toNat) ∧ getBits v 29 2 = 0 ∧ getBits v 16
    5 = 0 ∧ 1 ≤ getBits v 0 11 ∧ getBits v 0 11 ≤ 1024 ∧ v.getLsbD 31 = true ∧ r = u.bssRadio (getBits v 21 6) ∧ r ≤ 2
    ∧ x = ⟨a.toNat, u.fld (F.ROUNDS_TWT_W2_SP_OFFSET_US a.toNat), u.fld (F.ROUNDS_TWT_W2_SP_LEN_US a.toNat)⟩ ∧ x.len ≠
    0 ∧ x.stop ≤ u.roundUs r ∧ u.fld (F.ROUNDS_TWT_W1_PHASE_ROUND a.toNat) < u.fld (F.ROUNDS_TWT_W1_INTERVAL_ROUNDS
    a.toNat) ∧ u.twtHits r a.toNat x = none :=
  ⟨fl [(F.ROUNDS_TWT_W2_SP_LEN_US 7, 100), (F.ROUNDS_TWT_W1_INTERVAL_ROUNDS 7, 1), (F.ROUNDS_RCFG_ROUND_LEN_US 0, 20000)],
    _, 7, 0x80000400, _, _, by decide +kernel, rfl, by decide +kernel, by decide +kernel, by decide +kernel,
    (by decide +kernel), by decide +kernel, rfl, by decide +kernel, rfl, by decide +kernel⟩

theorem wit_PlansSegmentsAndServicePeriods_15 : ∃ (s : State) (a : BitVec 10) (_ : BitVec 24) (rates : List TxRate) (r
    : Nat) (off : Nat) (t0 : Nat) (t1 : Nat) (n : Nat) (room : Nat) (used : Nat), r = s.bssRadio (s.fld
    (F.ROUNDS_TWT_W0_BSS a.toNat)) ∧ s.flag (F.ROUNDS_TWT_W0_VALID a.toNat) = true ∧ s.roundsOn r = true ∧ off = s.fld
    (F.ROUNDS_TWT_W2_SP_OFFSET_US a.toNat) ∧ t0 = roundTime s r off ∧ t1 = t0 + s.fld (F.ROUNDS_TWT_W2_SP_LEN_US
    a.toNat) * 500 ∧ t0 ≤ s.now + 5000 ∧ s.now < t1 ∧ s.fld (F.ROUNDS_ROUND_NUM_NUM r) % s.fld
    (F.ROUNDS_TWT_W1_INTERVAL_ROUNDS a.toNat) = s.fld (F.ROUNDS_TWT_W1_PHASE_ROUND a.toNat) ∧ s.rounds.sps = [] ∧
    s.fld (F.ROUNDS_TWT_W0_TYPE a.toNat) = 0 ∧ n = s.fld (F.ROUNDS_TWT_W0_STA_ID a.toNat) ∧ room = min (s.room r off)
    (t1 - t0) ∧ used = firstDur rates + sifsOf r + multiAck r ∧ ((s.flag (F.ROUNDS_TWT_W0_TRIGGERED a.toNat) = false ∨
    s.linkAt n r = none ∨ room ≤ used)) :=
  ⟨setF (assoc peer {}) [(F.ROUNDS_TWT_W0_VALID 7, 1), (F.ROUNDS_TWT_W0_STA_ID 7, 1), (F.ROUNDS_TWT_W2_SP_LEN_US 7, 4000), (F.ROUNDS_TWT_W1_INTERVAL_ROUNDS 7, 1), (F.ROUNDS_RCFG_EN 0, 1), (F.ROUNDS_RCFG_ROUND_LEN_US 0, 20000)],
    7, 900, [{ fmt := .he, mcs := 0, bw := 0, nss := 1, steered := false, dur := 500 }], _, _, _, _, _, _, _, rfl,
    by decide +kernel, by decide +kernel, rfl, rfl, rfl, by decide +kernel, by decide +kernel, by decide +kernel,
    (by decide +kernel), by decide +kernel, rfl, rfl, rfl, by decide +kernel⟩

theorem wit_PlansSegmentsAndServicePeriods_16 : ∃ (s : State) (a : BitVec 10) (n : BitVec 11) (r : Nat) (x : SpRun),
    s.takesWork roundsBlock = true ∧ s.rounds.sps = [(r, x)] ∧ x.entry = a.toNat ∧ x.stop ≤ s.now ∧ x.heard.contains
    n.toNat = false ∧ (s.twtMembers a.toNat).contains n.toNat = true :=
  ⟨{ fl [(F.ROUNDS_TWT_W0_STA_ID 7, 3)] with rounds := { sps := [(0, { entry := 7, stop := 0 })] } }, 7, 3, 0,
    { entry := 7, stop := 0 }, by decide +kernel⟩

theorem wit_PlansSegmentsAndServicePeriods_17 : ∃ (s : State) (_ : BitVec 10) (_ : BitVec 11), s.rounds.sps = [] :=
  ⟨up, 0, 0, by decide +kernel⟩

theorem wit_PlansSegmentsAndServicePeriods_18 : ∃ (s : State) (i : BitVec 8) (idle : BitVec 24) (_ : BitVec 24) (rates
    : List TxRate) (r : Nat) (t0 : Nat) (t1 : Nat) (n : Nat) (used : Nat) (room : Nat), r = s.fld
    (F.ROUNDS_RSP_W0_RADIO i.toNat) ∧ s.flag (F.ROUNDS_RSP_W0_VALID i.toNat) = true ∧ s.roundsOn r = true ∧ s.rspIn
    i.toNat (s.fld (F.ROUNDS_ROUND_NUM_NUM r)) = true ∧ t0 = roundTime s r (s.fld (F.ROUNDS_RSP_W1_OFFSET_US i.toNat))
    ∧ t1 = t0 + s.fld (F.ROUNDS_RSP_W1_LEN_US i.toNat) * 500 ∧ t0 ≤ s.now + 5000 ∧ s.now < t1 ∧ s.rounds.rsps = [] ∧ n
    = s.fld (F.ROUNDS_RSP_W0_STA_ID i.toNat) ∧ room = t1 - (t0 + idle.toNat) ∧ used = firstDur rates + sifsOf r +
    multiAck r ∧ ((s.flag (F.ROUNDS_RSP_W0_DIR i.toNat) = true ∨ s.linkAt n r = none ∨ room = 0)) ∧ ((s.linkAt n r =
    none ∨ room ≤ used)) :=
  ⟨fl [(F.ROUNDS_RSP_W0_VALID 9, 1), (F.ROUNDS_RSP_W0_STA_ID 9, 1), (F.ROUNDS_RSP_W0_DIR 9, 1), (F.ROUNDS_RSP_W1_LEN_US 9, 1000), (F.ROUNDS_RSP_W2_PERIOD 9, 1), (F.ROUNDS_RCFG_EN 0, 1)],
    9, 7, 900, [{ fmt := .he, mcs := 0, bw := 0, nss := 1, steered := false, dur := 500 }], _, _, _, _, _, _, rfl,
    by decide +kernel, by decide +kernel, by decide +kernel, rfl, rfl, by decide +kernel, by decide +kernel,
    by decide +kernel, rfl, rfl, rfl, by decide +kernel⟩

theorem wit_PlansSegmentsAndServicePeriods_19 : ∃ (s : State) (i : BitVec 8) (_ : BitVec 24) (_ : BitVec 24) (_ : List
    TxRate), s.flag (F.ROUNDS_RSP_W0_VALID i.toNat) = false :=
  ⟨up, 255, 1, 1, [], by decide +kernel⟩

theorem wit_JointRoundsAndBoundaries_0 : ∃ (s : State) (u : State) (r : Fin 3) (v : Word), s.takesWork roundsBlock =
    true ∧ u = s.touch (A.ROUNDS_JOINT_CTRL r.val) ∧ u.joined r.val = true ∧ getBits v 24 3 = u.fld
    (F.ROUNDS_JOINT_CTRL_MEMBER r.val) ∧ getBits v 16 8 = u.fld (F.ROUNDS_JOINT_CTRL_GEN r.val) :=
  ⟨fl [(F.ROUNDS_JOINT_CTRL_JOIN 0, 1)], _, 0, 0x80000000, by decide +kernel, rfl, by decide +kernel⟩

theorem wit_JointRoundsAndBoundaries_1 : ∃ (s : State) (u : State) (r : Fin 3) (v : Word), s.takesWork roundsBlock =
    true ∧ u = s.touch (A.ROUNDS_JOINT_CTRL r.val) ∧ u.joined r.val = true ∧ ¬ (getBits v 24 3 = u.fld
    (F.ROUNDS_JOINT_CTRL_MEMBER r.val) ∧ getBits v 16 8 = u.fld (F.ROUNDS_JOINT_CTRL_GEN r.val)) :=
  ⟨fl [(F.ROUNDS_JOINT_CTRL_JOIN 0, 1)], _, 0, 0x07000000, by decide +kernel, rfl, by decide +kernel⟩

theorem wit_JointRoundsAndBoundaries_2 : ∃ (s : State) (u : State) (r : Fin 3) (_ : Word), s.takesWork roundsBlock =
    true ∧ u = s.touch (A.ROUNDS_JOINT_CTRL r.val) ∧ u.joined r.val = false ∧ (u.rnd r.val).leaving = false ∧ u.fld
    (F.ROUNDS_START_ROUND_ROUND r.val) = 0 :=
  ⟨up, _, 1, 0x80000000, by decide +kernel, rfl, by decide +kernel⟩

theorem wit_JointRoundsAndBoundaries_3 : ∃ (s : State) (u : State) (r : Fin 3) (v : Word), s.takesWork roundsBlock =
    true ∧ u = s.touch (A.ROUNDS_JOINT_CTRL r.val) ∧ u.joined r.val = false ∧ (u.rnd r.val).leaving = false ∧
    u.joinError r.val (getBits v 24 3) = none :=
  ⟨fl [(whole (A.ROUNDS_EPOCH_NS 0), 2), (F.ROUNDS_START_ROUND_ROUND 0, 4), (F.ROUNDS_RCFG_ROUND_LEN_US 0, 20000), (F.ROUNDS_TURN_W1_VALID 0 0, 1), (F.ROUNDS_TURN_W0_LEN_US 0 0, 20000)],
    _, 0, 0, by decide +kernel, rfl, by decide +kernel⟩

theorem wit_JointRoundsAndBoundaries_4 : ∃ (s : State) (r : Fin 3) (_ : List Byte) (_ : Option (List Byte)), ((∀ m <
    8, s.peerOn r.val m = false)) :=
  ⟨up, 0, [], none, by decide +kernel⟩

theorem wit_JointRoundsAndBoundaries_5 : ∃ (s : State) (r : Fin 3) (b : List Byte) (a : Option (List Byte)) (m : Nat),
    s.takesWork roundsBlock = true ∧ (List.range 8).find? (fun m => s.peerOn r.val m && decide (b = leBytes 4 (s.fld
    (F.ROUNDS_PEER_W0_BSSID_LO r.val m)) ++ leBytes 2 (s.fld (F.ROUNDS_PEER_W1_BSSID_HI r.val m)))) = some m ∧ 2 ≤
    s.joint r.val ∧ ((a = none ∨ ∃ x, a = some x ∧ attrField x 0 1 ≠ s.fld (F.ROUNDS_JOINT_CTRL_GEN r.val))) :=
  ⟨fl [(F.ROUNDS_PEER_W1_EN 0 3, 1), (F.ROUNDS_JOINT_CTRL_STATE 0, 2)], 0, [0, 0, 0, 0, 0, 0], none, 3,
    by decide +kernel, by decide +kernel, by decide +kernel, .inl rfl⟩

theorem wit_JointRoundsAndBoundaries_6 : ∃ (s : State) (r : Fin 3) (b : List Byte) (a : Option (List Byte)) (m : Nat),
    s.takesWork roundsBlock = true ∧ (List.range 8).find? (fun m => s.peerOn r.val m && decide (b = leBytes 4 (s.fld
    (F.ROUNDS_PEER_W0_BSSID_LO r.val m)) ++ leBytes 2 (s.fld (F.ROUNDS_PEER_W1_BSSID_HI r.val m)))) = some m ∧
    ((s.joint r.val < 2 ∨ ∃ x, a = some x ∧ attrField x 0 1 = s.fld (F.ROUNDS_JOINT_CTRL_GEN r.val))) :=
  ⟨fl [(F.ROUNDS_PEER_W1_EN 0 3, 1)], 0, [0, 0, 0, 0, 0, 0], none, 3, by decide +kernel, by decide +kernel,
    .inl (by decide +kernel)⟩

theorem wit_JointRoundsAndBoundaries_7 : ∃ (s : State) (k : Fin 16) (r : Nat), r = k.val ∧ r ≤ 2 ∧ s.takesWork 0x08 =
    true ∧ s.trgDue r = true ∧ s.inWatch = false ∧ (s.rnd r).halted = false ∧ s.fld (F.POSTMARK_TRG_CTRL_DOMAIN r) = 3
    ∧ s.fld (F.POSTMARK_TRG_CTRL_TARGET r) = 4 ∧ s.fld (F.POSTMARK_TRG_PERIOD_PERIOD r) = 0 ∧ s.joint r = jointSolo ∧
    (s.rnd r).leaving = false ∧ s.trgTime r + 4294967296 < 18446744073709551616 ∧ (s.rnd r).passed = none :=
  ⟨fl [(F.POSTMARK_TRG_CTRL_EN 0, 1), (F.POSTMARK_TRG_CTRL_DOMAIN 0, 3), (F.POSTMARK_TRG_CTRL_TARGET 0, 4)], 0, _,
    rfl, by decide +kernel⟩

theorem wit_JointRoundsAndBoundaries_8 : ∃ (s : State) (k : Fin 16) (r : Nat), r = k.val ∧ r ≤ 2 ∧ s.takesWork 0x08 =
    true ∧ s.trgDue r = true ∧ s.inWatch = true ∧ s.fld (F.POSTMARK_TRG_CTRL_DOMAIN r) = 3 ∧ s.fld
    (F.POSTMARK_TRG_CTRL_TARGET r) = 4 ∧ s.fld (F.POSTMARK_TRG_PERIOD_PERIOD r) = 0 ∧ s.trgTime r + 4294967296 <
    18446744073709551616 :=
  ⟨fl [(F.POSTMARK_TRG_CTRL_EN 0, 1), (F.POSTMARK_TRG_CTRL_DOMAIN 0, 3), (F.POSTMARK_TRG_CTRL_TARGET 0, 4), (F.PMU_STATE_CUR, 2)],
    0, _, rfl, by decide +kernel⟩

theorem wit_JointRoundsAndBoundaries_9 : ∃ (s : State) (d : Fin 2) (r : Fin 3), s.takesWork 0x08 = true ∧
    s.watchdogOut d.val = true ∧ s.selected = d.val ∧ s.joint r.val = jointJoint ∧ s.flag F.POSTMARK_SEL_AUTO = false
    :=
  ⟨{ fl [(F.POSTMARK_DOM_CTRL_VALID 0, 1), (F.POSTMARK_DOM_CTRL_SERVO_TO_MS 0, 1), (F.POSTMARK_SEL_AUTO, 0), (F.ROUNDS_JOINT_CTRL_STATE 1, 2)] with time := { tick := 500000 } },
    0, 1, by decide +kernel⟩

/-- A Nguord reception. -/
def ngx (hdr : Option NgHeader) (dec : Option Bool) (endT : Nat) : NgRx :=
  { id := 0, power := -400, sat := false, port := 0, ref := 0, refPs := 0, snr := 0, cfo := 0, hdr := hdr, hdrDec := dec, endT := endT }

/-- A ranging frame of type `k` with `n` bytes of payload, from device 0 to device 0. -/
def rngIn (k : Byte) (n : Nat) : NgIn :=
  { hdr := { version := 0, cr := 0, ranging := true, ackreq := false, length := n, link := 0 }
    psdu := k :: List.replicate (n - 1) 0, rssi := 0, snr := 0, port := 0, ref := 0, refPs := 0, endT := 0 }

/-- The receiver of Nguord listens. -/
def ngOnSt : State := rad 3 {} [(F.NGR_RNG_CFG_AUTO_RESP, 1)]

/-- A training section at 0 dBm plus `power` quarter dB, of the device's network code or not, with its reference point `ref` ticks later. -/
def ngp (power : BitVec 16) (ok : Bool) (ref : BitVec 32) : NgPreamble :=
  { power := power, sat := false, other := none, snr := 0, cfo := 0, ref := ref, sub := 0
    codeA := BitVec.ofNat 12 (ngCode (State.reset.fld F.NGR_PHY_CFG_ORDER) (State.reset.fld F.NGR_PHY_CFG_NETCODE)).1 + (if ok then 0 else 5)
    codeB := BitVec.ofNat 12 (ngCode (State.reset.fld F.NGR_PHY_CFG_ORDER) (State.reset.fld F.NGR_PHY_CFG_NETCODE)).2 }

theorem wit_NguordReceptions_0 : ∃ (s : State) (_ : NgPreamble), s.ngListens = false :=
  ⟨up, ngp 0 true 0, by decide +kernel⟩

theorem wit_NguordReceptions_1 : ∃ (s : State) (p : NgPreamble), s.takesWork 0xC0 = true ∧ s.ngListens = true ∧
    s.ngr.rx = none ∧ s.ngCodeOk p = false :=
  ⟨ngOnSt, ngp 0 false 0, by decide +kernel⟩

theorem wit_NguordReceptions_2 : ∃ (s : State) (p : NgPreamble), s.takesWork 0xC0 = true ∧ s.ngListens = true ∧
    s.ngr.rx = none ∧ s.ngCodeOk p = true :=
  ⟨ngOnSt, ngp 0 true 1999, by decide +kernel⟩

theorem wit_NguordReceptions_3 : ∃ (s : State) (_ : NgPreamble), s.takesWork 0xC0 = true ∧ s.ngListens = true ∧
    s.ngr.rx = none ∧ s.fld F.NGR_RX_CFG_ANT_MODE ≤ 1 :=
  ⟨setF ngOnSt [(F.NGR_RX_CFG_ANT_MODE, 0)], { ngp 0 true 0 with sat := true }, by decide +kernel⟩

theorem wit_NguordReceptions_4 : ∃ (s : State) (_ : BitVec 192), s.ngr.rx = none :=
  ⟨up, 0, by decide +kernel⟩

theorem wit_NguordReceptions_5 : ∃ (s : State) (bits : BitVec 192) (x : NgRx) (ok : Bool), s.takesWork 0xC0 = true ∧
    s.ngr.rx = some x ∧ x.hdr = none ∧ x.hdrDec = some ok ∧ ((ok = false ∨ ngHeaderWord bits = false ∨ bits.toNat % 4
    ≠ 0 ∨ 2 < bits.toNat / 4 % 4)) :=
  ⟨{ up with ngr := { rx := some (ngx none (some true) 10) } }, 1, ngx none (some true) 10, true, by decide +kernel⟩

theorem wit_NguordReceptions_6 : ∃ (s : State) (bits : BitVec 192) (x : NgRx) (h : NgHeader), s.takesWork 0xC0 = true
    ∧ s.ngr.rx = some x ∧ x.hdr = none ∧ x.hdrDec = some true ∧ ngHeaderWord bits = true ∧ bits.toNat % 4 = 0 ∧
    bits.toNat / 4 % 4 ≤ 2 ∧ h = ngHeader bits.toNat ∧ x.port ≤ 1 ∧ h.ranging = false ∧ s.ngWants h.link ≠ some true
    :=
  ⟨{ setR up [(A.NGL_NET_ID, 1)] with ngr := { rx := some (ngx none (some true) 10) } }, 0, ngx none (some true) 10,
    _, by decide +kernel, by decide +kernel, by decide +kernel, (by decide +kernel), by decide +kernel,
    by decide +kernel, by decide +kernel, rfl, by decide +kernel⟩

theorem wit_NguordReceptions_7 : ∃ (s : State) (bits : BitVec 192) (x : NgRx) (h : NgHeader), s.takesWork 0xC0 = true
    ∧ s.ngr.rx = some x ∧ x.hdr = none ∧ x.hdrDec = some true ∧ ngHeaderWord bits = true ∧ bits.toNat % 4 = 0 ∧
    bits.toNat / 4 % 4 ≤ 2 ∧ h = ngHeader bits.toNat ∧ x.port ≤ 1 ∧ ((h.ranging = true ∨ s.ngWants h.link = some
    true)) :=
  ⟨{ up with ngr := { rx := some (ngx none (some true) 10) } }, 0, ngx none (some true) 10, _, by decide +kernel,
    by decide +kernel, by decide +kernel, (by decide +kernel), by decide +kernel, by decide +kernel,
    by decide +kernel, rfl, by decide +kernel⟩

theorem wit_NguordReceptions_8 : ∃ (s : State) (_ : BitVec 16) (_ : List Byte), s.ngr.rx = none ∧ s.ngr.done = [] :=
  ⟨up, 0, [], by decide +kernel⟩

theorem wit_NguordReceptions_9 : ∃ (s : State) (_ : BitVec 16) (psdu : List Byte) (bytes : List Byte) (x : NgRx) (h :
    NgHeader), s.takesWork 0xC0 = true ∧ ngAtEnd s x h ∧ bytes = (psdu ++ List.replicate h.length 0).take h.length ∧
    x.cancelled = true :=
  ⟨{ up with ngr := { rx := some ({ ngx (some (ngHeader 0)) (some true) 0 with cancelled := true }) } }, 0, [], _,
    { ngx (some (ngHeader 0)) (some true) 0 with cancelled := true }, ngHeader 0, by decide +kernel,
    ⟨rfl, rfl, rfl, by decide +kernel, by decide +kernel⟩, rfl, by decide +kernel⟩

theorem wit_NguordReceptions_10 : ∃ (s : State) (_ : BitVec 16) (psdu : List Byte) (bytes : List Byte) (x : NgRx) (h :
    NgHeader), s.takesWork 0xC0 = true ∧ ngAtEnd s x h ∧ bytes = (psdu ++ List.replicate h.length 0).take h.length ∧
    x.cancelled = false ∧ x.missed = true :=
  ⟨{ up with ngr := { rx := some ({ ngx (some (ngHeader 0)) (some true) 0 with missed := true }) } }, 0, [], _,
    { ngx (some (ngHeader 0)) (some true) 0 with missed := true }, ngHeader 0, by decide +kernel,
    ⟨rfl, rfl, rfl, by decide +kernel, by decide +kernel⟩, rfl, by decide +kernel⟩

theorem wit_NguordReceptions_11 : ∃ (s : State) (crc : BitVec 16) (psdu : List Byte) (bytes : List Byte) (x : NgRx) (h
    : NgHeader), s.takesWork 0xC0 = true ∧ ngAtEnd s x h ∧ bytes = (psdu ++ List.replicate h.length 0).take h.length ∧
    x.cancelled = false ∧ x.missed = false ∧ h.length ≠ 0 ∧ crc ≠ ngCrc (bitsOf bytes) :=
  ⟨{ up with ngr := { rx := some (ngx (some (ngHeader 0x100)) (some true) 0) } }, ngCrc (bitsOf [7]) + 1, [7], _,
    ngx (some (ngHeader 0x100)) (some true) 0, ngHeader 0x100, by decide +kernel,
    ⟨rfl, rfl, rfl, by decide +kernel, by decide +kernel⟩, rfl, by decide +kernel⟩

theorem wit_NguordReceptions_12 : ∃ (s : State) (crc : BitVec 16) (psdu : List Byte) (bytes : List Byte) (x : NgRx) (h
    : NgHeader), s.takesWork 0xC0 = true ∧ ngAtEnd s x h ∧ bytes = (psdu ++ List.replicate h.length 0).take h.length ∧
    x.cancelled = false ∧ x.missed = false ∧ ((h.length = 0 ∨ crc = ngCrc (bitsOf bytes))) ∧ h.ranging = true :=
  ⟨{ up with ngr := { rx := some (ngx (some (ngHeader 0x110)) (some true) 0) } }, ngCrc (bitsOf [7]), [7], _,
    ngx (some (ngHeader 0x110)) (some true) 0, ngHeader 0x110, by decide +kernel,
    ⟨rfl, rfl, rfl, by decide +kernel, by decide +kernel⟩, rfl, by decide +kernel⟩

theorem wit_NguordReceptions_13 : ∃ (s : State) (crc : BitVec 16) (psdu : List Byte) (bytes : List Byte) (x : NgRx) (h
    : NgHeader), s.takesWork 0xC0 = true ∧ ngAtEnd s x h ∧ bytes = (psdu ++ List.replicate h.length 0).take h.length ∧
    x.cancelled = false ∧ x.missed = false ∧ ((h.length = 0 ∨ crc = ngCrc (bitsOf bytes))) ∧ h.ranging = false :=
  ⟨{ up with ngr := { rx := some (ngx (some (ngHeader 0)) (some true) 0) } }, 0, [], _,
    ngx (some (ngHeader 0)) (some true) 0, ngHeader 0, by decide +kernel,
    ⟨rfl, rfl, rfl, by decide +kernel, by decide +kernel⟩, rfl, by decide +kernel⟩

theorem wit_NguordReceptions_14 : ∃ (s : State) (p : NgPreamble) (x : NgRx), s.takesWork 0xC0 = true ∧ s.ngListens =
    true ∧ s.ngr.rx = some x ∧ x.hdr = none ∧ s.ngOffset x p = true ∧ s.ngCodeOk p = true ∧ poolIdle s :=
  ⟨{ ngOnSt with ngr := { rx := some (ngx none none 10) } }, ngp 0 true 25000, ngx none none 10, by decide +kernel,
    by decide +kernel, by decide +kernel, (by decide +kernel), by decide +kernel, by decide +kernel,
    ⟨rfl, fun _ => rfl⟩⟩

theorem wit_NguordReceptions_15 : ∃ (s : State) (p : NgPreamble) (x : NgRx), s.takesWork 0xC0 = true ∧ s.ngListens =
    true ∧ s.ngr.rx = some x ∧ x.hdr.isSome = true ∧ s.now < x.endT ∧ s.ngOffset x p = true ∧ s.ngCodeOk p = true ∧
    poolIdle s ∧ (x.power + 4 * x.capDb ≤ p.power.toInt ∨ x.sat = true ∨ p.sat = true) :=
  ⟨{ ngOnSt with ngr := { rx := some (ngx (some (ngHeader 0)) none 10) } }, ngp 0 true 25000,
    ngx (some (ngHeader 0)) none 10, by decide +kernel, by decide +kernel, by decide +kernel, (by decide +kernel),
    by decide +kernel, by decide +kernel, by decide +kernel, ⟨rfl, fun _ => rfl⟩, by decide +kernel⟩

theorem wit_NguordReceptions_16 : ∃ (s : State) (p : NgPreamble) (x : NgRx), s.takesWork 0xC0 = true ∧ s.ngListens =
    true ∧ s.ngr.rx = some x ∧ x.hdr.isSome = true ∧ s.now < x.endT ∧ s.ngOffset x p = true ∧ s.ngCodeOk p = true ∧
    poolIdle s ∧ p.power.toInt < x.power + 4 * x.capDb ∧ x.sat = false ∧ p.sat = false :=
  ⟨{ ngOnSt with ngr := { rx := some (ngx (some (ngHeader 0)) none 10) } }, ngp 0xFE00 true 25000,
    ngx (some (ngHeader 0)) none 10, by decide +kernel, by decide +kernel, by decide +kernel, (by decide +kernel),
    by decide +kernel, by decide +kernel, by decide +kernel, ⟨rfl, fun _ => rfl⟩, by decide +kernel⟩

theorem wit_NguordReceptions_17 : ∃ (s : State) (p : NgPreamble) (x : NgRx), s.ngr.rx = some x ∧ s.ngOffset x p =
    false :=
  ⟨{ ngOnSt with ngr := { rx := some (ngx (some (ngHeader 0)) none 10) } }, ngp 0 true 0,
    ngx (some (ngHeader 0)) none 10, by decide +kernel⟩

theorem wit_NguordReceptions_18 : ∃ (s : State) (u : State), s.takesWork 0xC0 = true ∧ u = s.touch A.NGR_RX_LAST0 :=
  ⟨up, _, by decide +kernel, rfl⟩

theorem wit_RangingExchanges_0 : ∃ (s : State) (u : State), s.takesWork 0xC0 = true ∧ u = s.touch A.NGR_RNG_CMD ∧
    u.flag F.NGR_RNG_STATUS_BUSY = true :=
  ⟨fl [(F.NGR_RNG_STATUS_BUSY, 1)], _, by decide +kernel, rfl, by decide +kernel⟩

theorem wit_RangingExchanges_1 : ∃ (s : State) (u : State), s.takesWork 0xC0 = true ∧ u = s.touch A.NGR_RNG_CMD ∧
    u.flag F.NGR_RNG_STATUS_BUSY = false :=
  ⟨up, _, by decide +kernel, rfl, by decide +kernel⟩

theorem wit_RangingExchanges_2 : ∃ (s : State), s.ngr.rng.inbox = [] :=
  ⟨up, by decide +kernel⟩

theorem wit_RangingExchanges_3 : ∃ (s : State) (x : NgIn) (rest : List NgIn) (k : Nat), s.takesWork 0xC0 = true ∧
    rangingIn s x rest k ∧ ((k = 0 ∨ 4 < k)) :=
  ⟨{ up with ngr := { rng := { inbox := [rngIn 5 10] } } }, rngIn 5 10, [], 5, by decide +kernel,
    ⟨rfl, by decide +kernel⟩, by decide +kernel⟩

theorem wit_RangingExchanges_4 : ∃ (s : State) (x : NgIn) (rest : List NgIn), s.takesWork 0xC0 = true ∧ rangingIn s x
    rest 1 ∧ (¬ rangingForUs s x 1 ∨ s.flag F.NGR_RNG_CFG_AUTO_RESP = false ∨ s.flag F.NGR_RNG_STATUS_BUSY = true) :=
  ⟨{ up with ngr := { rng := { inbox := [rngIn 1 10] } } }, rngIn 1 10, [], by decide +kernel,
    ⟨rfl, by decide +kernel⟩, .inr (.inl (by decide +kernel))⟩

theorem wit_RangingExchanges_5 : ∃ (s : State) (x : NgIn) (rest : List NgIn), s.takesWork 0xC0 = true ∧ rangingIn s x
    rest 1 ∧ rangingForUs s x 1 ∧ s.flag F.NGR_RNG_CFG_AUTO_RESP = true ∧ s.flag F.NGR_RNG_STATUS_BUSY = false :=
  ⟨{ fl [(F.NGR_RNG_CFG_AUTO_RESP, 1)] with ngr := { rng := { inbox := [rngIn 1 (rngLength 1)] } } },
    rngIn 1 (rngLength 1), [], by decide +kernel, ⟨rfl, by decide +kernel⟩, ⟨by decide +kernel, by decide +kernel⟩,
    by decide +kernel⟩

theorem wit_RangingExchanges_6 : ∃ (s : State) (x : NgIn) (rest : List NgIn), s.takesWork 0xC0 = true ∧ rangingIn s x
    rest 2 ∧ (¬ rangingForUs s x 2 ∨ s.rngFits x .waitResp = false) :=
  ⟨{ up with ngr := { rng := { inbox := [rngIn 2 (rngLength 2)] } } }, rngIn 2 (rngLength 2), [], by decide +kernel,
    ⟨rfl, by decide +kernel⟩, .inr (by decide +kernel)⟩

theorem wit_RangingExchanges_7 : ∃ (s : State) (x : NgIn) (rest : List NgIn), s.takesWork 0xC0 = true ∧ rangingIn s x
    rest 2 ∧ rangingForUs s x 2 ∧ s.rngFits x .waitResp = true :=
  ⟨{ up with ngr := { rng := { step := .waitResp, inbox := [rngIn 2 (rngLength 2)] } } }, rngIn 2 (rngLength 2), [],
    by decide +kernel, ⟨rfl, by decide +kernel⟩, ⟨by decide +kernel, by decide +kernel⟩, by decide +kernel⟩

theorem wit_RangingExchanges_8 : ∃ (s : State) (x : NgIn) (rest : List NgIn), s.takesWork 0xC0 = true ∧ rangingIn s x
    rest 3 ∧ (¬ rangingForUs s x 3 ∨ s.rngFits x .waitFinal = false) :=
  ⟨{ up with ngr := { rng := { inbox := [rngIn 3 (rngLength 3)] } } }, rngIn 3 (rngLength 3), [], by decide +kernel,
    ⟨rfl, by decide +kernel⟩, .inr (by decide +kernel)⟩

theorem wit_RangingExchanges_9 : ∃ (s : State) (x : NgIn) (rest : List NgIn), s.takesWork 0xC0 = true ∧ rangingIn s x
    rest 4 ∧ (¬ rangingForUs s x 4 ∨ s.rngFits x .waitReport = false) :=
  ⟨{ up with ngr := { rng := { inbox := [rngIn 4 (rngLength 4)] } } }, rngIn 4 (rngLength 4), [], by decide +kernel,
    ⟨rfl, by decide +kernel⟩, .inr (by decide +kernel)⟩

theorem wit_RangingExchanges_10 : ∃ (s : State), s.takesWork 0xC0 = true ∧ s.flag F.NGR_RNG_STATUS_BUSY = true ∧
    s.ngr.rng.step ∈ [RngStep.waitResp, .waitReport, .waitFinal] ∧ s.ngr.rng.sentAt + 500000 * s.fld
    F.NGR_RNG_CFG_WAIT_MS ≤ s.now :=
  ⟨{ fl [(F.NGR_RNG_STATUS_BUSY, 1), (F.NGR_RNG_CFG_WAIT_MS, 1)] with time := { tick := 500000 }, ngr := { rng := { step := .waitResp } } },
    by decide +kernel⟩

theorem wit_RangingExchanges_11 : ∃ (s : State), s.takesWork 0xC0 = true ∧ s.flag F.NGR_RNG_STATUS_BUSY = true ∧
    s.ngr.rng.step ∈ [RngStep.waitResp, .waitReport, .waitFinal] ∧ s.now < s.ngr.rng.sentAt + 500000 * s.fld
    F.NGR_RNG_CFG_WAIT_MS :=
  ⟨{ fl [(F.NGR_RNG_STATUS_BUSY, 1), (F.NGR_RNG_CFG_WAIT_MS, 1)] with time := { tick := 499999 }, ngr := { rng := { step := .waitFinal } } },
    by decide +kernel⟩

end Sys2Proof.Tests
end

