-- ==== Sys2Proof/Tests/Witnesses3.lean ====
section
/-! SUPPORT. States and operands that meet all hypotheses of a clause of a statement (part 3 of 4): the witness
wit_<Name>_<i> is for clause i of Obligations.<Name>. -/

namespace Sys2Proof.Tests

open Sys2Proof.Machine

set_option Elab.async false

/-- A sealed body whose MIC is right opens: one that is only authenticated, and an encrypted one. -/
theorem open_mic (key : BitVec 256) (nonce aad ct : List Byte) :
    ngOpen key nonce aad (ct ++ (List.range 8).map (Config.tag 1 key nonce (aad ++ ct) [])) true = some ct := by
  have e : (ct ++ (List.range 8).map (Config.tag 1 key nonce (aad ++ ct) [])).length - 8 = ct.length := by simp
  simp only [ngOpen, e, List.take_left, List.drop_left, if_true]

theorem open_enc (key : BitVec 256) (nonce aad ct : List Byte) :
    ngOpen key nonce aad (ct ++ (List.range 8).map (Config.tag 1 key nonce aad ct)) false =
      some ((List.range ct.length).map (Config.cipher 1 key nonce aad ct)) := by
  have e : (ct ++ (List.range 8).map (Config.tag 1 key nonce aad ct)).length - 8 = ct.length := by simp
  simp only [ngOpen, e, List.take_left, List.drop_left, if_true]
  rfl

/-- A frame whose key is usable and whose body opens is verified (R360, R376). -/
theorem verify_ok (s : State) (x : NgIn) (slot : Nat) (body : List Byte) (h1 : s.ngRxKey x.src x.dst x.keyId = some slot)
    (h2 : s.keyWaits slot = false) (h3 : s.keyCheck slot 2 (fun kt => decide (kt = 0)) = none)
    (h : ngOpen (s.keySlot slot).key (s.ngNonce x.src x.dst x.fcnt x.typ x.keyId) (leBytes 4 x.hdr.link ++ x.psdu.take x.hdrLen)
      (x.psdu.drop x.hdrLen) (micOnly x.typ) = some body) : s.ngVerify x = (.inl body, s) := by
  have h4 : s.keyReady slot = s := by simp [State.keyReady, h2]
  simp only [State.ngVerify, h1, h4, State.keyRx, h3, h]

/-- A usable key in slot 0. -/
def ngKey : KeysSt := { slots := [(0, { key := 7, state := 1, use := 4 })] }

/-- Fields under which the Nguord network runs, with beacons of order 6 on one channel at 900 MHz. -/
def ngNet (role : Nat) : List (Fld × Nat) :=
  [(F.NGL_CTRL_EN, 1), (F.NGL_CTRL_ROLE, role), (F.NGL_CTRL_OWN_ADDR, role * 9), (F.NGL_PARENT_PARENT_ADDR, 5),
    (F.NGL_BCN_PHY_ORDER, 6), (F.NGL_BCN_PHY_NPRE, 6), (F.NGL_CH_BASE_FREQ, 23592960), (whole A.NGL_CH_EN_LO, 1)]

/-- A network that runs. -/
def ngRun (role : Nat) (g : NglSt) (xs : List (Fld × Nat)) : State :=
  { fl (ngNet role ++ xs) with keys := ngKey, ngl := g }

/-- A frame with its MAC header, ciphertext and MIC. -/
def ngIn (link : Nat) (hdr ct mic : List Byte) : NgIn :=
  { hdr := { version := 0, cr := 0, ranging := false, ackreq := false, length := hdr.length + ct.length + mic.length, link := link }
    psdu := hdr ++ (ct ++ mic), rssi := 0, snr := 0, port := 0, ref := 0, refPs := 0, endT := 0 }

/-- A beacon body with depths `f` (R358). -/
def bcnBody (f : Byte) : List Byte :=
  [1, 0, 0, 0, 0, 0, 0, 0, 0x60, 0xEA, 0, 0x40, 0x9C, 0, 0x90, 0xE2, 0, 0x90, 1, f, 20, 0]

/-- Nonce and header of the parent's beacon. -/
def bcnNonce : List Byte := [5, 0, 0xFF, 0xFF, 1, 0, 0, 0, 0, 0, 0, 0, 0]
def bcnAad : List Byte := [16, 0, 0xFF, 0xFF, 5, 0, 1, 0, 0, 0]

/-- A beacon of the parent, node 5, with its MIC. -/
def bcnIn (f : Byte) : NgIn :=
  let hdr : List Byte := [5, 0, 1, 0, 0, 0]
  let link := 16 + 0xFFFF * 65536
  ngIn link hdr (bcnBody f) ((List.range 8).map (Config.tag 1 7 bcnNonce (bcnAad ++ bcnBody f) []))

/-- A router whose parent's beacon has come. -/
def bcnSt (f : Byte) : State := ngRun 1 { inbox := [bcnIn f] } []

/-- A frame that is only authenticated, or encrypted, with the right MIC is verified. -/
theorem verify_mic (s : State) (x : NgIn) (slot : Nat) (key : BitVec 256) (nonce aad ct : List Byte)
    (h1 : s.ngRxKey x.src x.dst x.keyId = some slot) (h2 : s.keyWaits slot = false)
    (h3 : s.keyCheck slot 2 (fun kt => decide (kt = 0)) = none) (hk : (s.keySlot slot).key = key)
    (hn : s.ngNonce x.src x.dst x.fcnt x.typ x.keyId = nonce) (ha : leBytes 4 x.hdr.link ++ x.psdu.take x.hdrLen = aad)
    (hd : x.psdu.drop x.hdrLen = ct ++ (List.range 8).map (Config.tag 1 key nonce (aad ++ ct) []))
    (hm : micOnly x.typ = true) : s.ngVerify x = (.inl ct, s) :=
  verify_ok s x slot ct h1 h2 h3 (by rw [hk, hn, ha, hd, hm]; exact open_mic key nonce aad ct)

theorem verify_enc (s : State) (x : NgIn) (slot : Nat) (key : BitVec 256) (nonce aad ct : List Byte)
    (h1 : s.ngRxKey x.src x.dst x.keyId = some slot) (h2 : s.keyWaits slot = false)
    (h3 : s.keyCheck slot 2 (fun kt => decide (kt = 0)) = none) (hk : (s.keySlot slot).key = key)
    (hn : s.ngNonce x.src x.dst x.fcnt x.typ x.keyId = nonce) (ha : leBytes 4 x.hdr.link ++ x.psdu.take x.hdrLen = aad)
    (hd : x.psdu.drop x.hdrLen = ct ++ (List.range 8).map (Config.tag 1 key nonce aad ct))
    (hm : micOnly x.typ = false) :
    s.ngVerify x = (.inl ((List.range ct.length).map (Config.cipher 1 key nonce aad ct)), s) :=
  verify_ok s x slot _ h1 h2 h3 (by rw [hk, hn, ha, hd, hm]; exact open_enc key nonce aad ct)

theorem bcn_ok0 : (bcnSt 0).ngTake.ngVerify (bcnIn 0) = (.inl (bcnBody 0), (bcnSt 0).ngTake) :=
  verify_mic _ _ 0 7 bcnNonce bcnAad _ (by decide +kernel) (by decide +kernel) (by decide +kernel) (by decide +kernel)
    (by decide +kernel) (by decide +kernel) (List.drop_left' (by decide +kernel)) (by decide +kernel)

theorem bcn_ok16 : (bcnSt 16).ngTake.ngVerify (bcnIn 16) = (.inl (bcnBody 16), (bcnSt 16).ngTake) :=
  verify_mic _ _ 0 7 bcnNonce bcnAad _ (by decide +kernel) (by decide +kernel) (by decide +kernel) (by decide +kernel)
    (by decide +kernel) (by decide +kernel) (List.drop_left' (by decide +kernel)) (by decide +kernel)

/-- Node 2, a live child; with `w` its first word. -/
def kid (w : Word) : List (Nat × NgNode) := [(2, { words := [w, 0, 0, 0, 0, 0] })]

/-- A queued frame for node `dst`. -/
def ngf (dst attempts : Nat) : NgFrame :=
  { id := 0, source := .relay, typ := 1, ack := false, dst := dst, body := [], phy := (6, 0, 6), attempts := attempts, be := 3,
    backoff := 0, since := 0, psdu := [1] }

/-- A slot for node 2 at the start of every superframe. -/
def slot2 (dir : Nat) : List (Fld × Nat) :=
  [(F.NGL_SLOT_W0_VALID 4, 1), (F.NGL_SLOT_W0_DIR 4, dir), (F.NGL_SLOT_W1_NODE 4, 2), (F.NGL_SLOT_W1_LEN_MS 4, 1000),
    (F.NGL_SLOT_W2_PERIOD 4, 1)]

/-- A data frame of node 2 for the root, with its MIC. -/
def dataNonce : List Byte := [2, 0, 0, 0, 1, 0, 0, 0, 0, 0, 0, 0, 1]
def dataAad : List Byte := [17, 0, 0, 0, 2, 0, 1, 0, 0, 0]
def dataIn : NgIn := ngIn 17 [2, 0, 1, 0, 0, 0] [9] ((List.range 8).map (Config.tag 1 7 dataNonce dataAad [9]))

/-- The staging record of NGL holds a legal context. -/
def ngStaged (s : State) : State := setR s [(A.NGL_STAGE 0, 1), (A.NGL_STAGE 4, 0x00020001), (A.NGL_STAGE 5, 0x01000000)]

theorem data_ok (s : State) (h1 : s.ngRxKey dataIn.src dataIn.dst dataIn.keyId = some 0) (h2 : s.keyWaits 0 = false)
    (h3 : s.keyCheck 0 2 (fun kt => decide (kt = 0)) = none) (h4 : (s.keySlot 0).key = 7)
    (h5 : s.ngNonce dataIn.src dataIn.dst dataIn.fcnt dataIn.typ dataIn.keyId = dataNonce) :
    s.ngVerify dataIn = (.inl ((List.range [9].length).map (Config.cipher 1 7 dataNonce dataAad [9])), s) :=
  verify_enc _ _ 0 7 dataNonce dataAad [9] h1 h2 h3 h4 h5 (by decide +kernel) (List.drop_left' (by decide +kernel)) (by decide +kernel)

/-- That data frame waits, and node 2 has sent FCNT `n` before. -/
def dataSt (n : Nat) (xs : List (Fld × Nat)) : State :=
  ngRun 0 { inbox := [dataIn], nodes := [(2, { words := [0x81000000, 0, 0, 0, 0, 0], fcnt0 := n })] } xs

/-- Pigeon's FIFO 2 takes NGL's records. -/
def fifo2 : List (Fld × Nat) := [(F.NGL_FIFO_RX, 2), (F.PIGEON_CFG_EN 2, 1), (F.PIGEON_CFG_PROD 2, 2), (F.PIGEON_CFG_DEPTH_LOG2 2, 8)]

theorem wit_NguordNetwork_0 : ∃ (s : State) (u : State) (v : Word), s.takesWork nglBlock = true ∧ u = s.touch
    A.NGL_CTRL ∧ u.ngCtrlError (v ||| 0x80000000) = none ∧ u.flag F.NGL_CTRL_EN = false ∧ getBits v 29 2 = 1 ∧
    u.ngr.rx = none :=
  ⟨setF up ((ngNet 1).drop 4), _, 0x20000009, by decide +kernel, rfl, by decide +kernel⟩

theorem wit_NguordNetwork_1 : ∃ (s : State) (u : State) (v : Word), s.takesWork nglBlock = true ∧ u = s.touch
    A.NGL_CTRL ∧ u.ngCtrlError (v ||| 0x80000000) = none ∧ u.flag F.NGL_CTRL_EN = false ∧ getBits v 29 2 = 0 :=
  ⟨setF up ((ngNet 0).drop 4), _, 0, by decide +kernel, rfl, by decide +kernel⟩

theorem wit_NguordNetwork_2 : ∃ (s : State), ((s.ngl.inbox = [] ∨ s.ngOn = false ∨ s.ngRouter = false)) :=
  ⟨up, by decide +kernel⟩

theorem wit_NguordNetwork_3 : ∃ (s : State) (s2 : State) (x : NgIn) (rest : List NgIn) (body : List Byte) (b :
    BeaconIn), s.ngl.inbox = x :: rest ∧ s.ngOn = true ∧ s.ngRouter = true ∧ x.typ = 0 ∧ s.fld F.NGL_SYNC_STATE ≠ 4 ∧
    36 ≤ x.psdu.length ∧ x.hdr.ackreq = false ∧ x.relay = false ∧ x.hdr.link.testBit 4 = true ∧ x.dst = 0xFFFF ∧ x.src
    = s.ngParent ∧ s.ngTake.ngVerify x = (.inl body, s2) ∧ b = readBeacon body ∧ s2.ngLastFcnt x < x.fcnt ∧
    x.psdu.length = 36 + 2 * psduNat body 21 1 ∧ psduNat body 21 1 ≤ 16 ∧ psduNat body 4 4 = (s2.rd
    A.NGL_NET_ID).toNat ∧ s2.sfError b.period b.cap b.active b.relay b.maxDepth = none ∧ s2.ngl.s0 = none ∧
    s2.ngl.owed = [] ∧ s2.ngr.rx = none ∧ b.depth + 1 ≤ b.maxDepth :=
  ⟨bcnSt 16, (bcnSt 16).ngTake, bcnIn 16, [], bcnBody 16, _, rfl, by decide +kernel, by decide +kernel,
    by decide +kernel, (by decide +kernel), by decide +kernel, by decide +kernel, by decide +kernel,
    (by decide +kernel), by decide +kernel, by decide +kernel, bcn_ok16, rfl, by decide +kernel⟩

theorem wit_NguordNetwork_4 : ∃ (s : State) (s2 : State) (x : NgIn) (rest : List NgIn) (body : List Byte) (b :
    BeaconIn), s.ngl.inbox = x :: rest ∧ s.ngOn = true ∧ s.ngRouter = true ∧ x.typ = 0 ∧ s.fld F.NGL_SYNC_STATE ≠ 4 ∧
    36 ≤ x.psdu.length ∧ x.hdr.ackreq = false ∧ x.relay = false ∧ x.hdr.link.testBit 4 = true ∧ x.dst = 0xFFFF ∧ x.src
    = s.ngParent ∧ s.ngTake.ngVerify x = (.inl body, s2) ∧ b = readBeacon body ∧ s2.ngLastFcnt x < x.fcnt ∧
    x.psdu.length = 36 + 2 * psduNat body 21 1 ∧ psduNat body 21 1 ≤ 16 ∧ psduNat body 4 4 = (s2.rd
    A.NGL_NET_ID).toNat ∧ s2.sfError b.period b.cap b.active b.relay b.maxDepth = none ∧ s2.ngl.s0 = none ∧
    s2.ngl.owed = [] ∧ s2.ngr.rx = none ∧ b.maxDepth < b.depth + 1 :=
  ⟨bcnSt 0, (bcnSt 0).ngTake, bcnIn 0, [], bcnBody 0, _, rfl, by decide +kernel, by decide +kernel, by decide +kernel,
    (by decide +kernel), by decide +kernel, by decide +kernel, by decide +kernel, (by decide +kernel),
    by decide +kernel, by decide +kernel, bcn_ok0, rfl, by decide +kernel⟩

theorem wit_NguordNetwork_5 : ∃ (s : State), beaconPassed s ∧ s.ngl.scan = none ∧ s.now ≤ s.bcnExpected + s.bcnGuard
    :=
  ⟨ngRun 1 { s0 := some 0 } [], by unfold beaconPassed; decide +kernel, by decide +kernel⟩

theorem wit_NguordNetwork_6 : ∃ (s : State), beaconPassed s ∧ s.ngl.scan = none ∧ s.bcnExpected + s.bcnGuard < s.now
    :=
  ⟨{ ngRun 1 { s0 := some 0 } [] with time := { tick := 0xFFFFFFFFFF } }, by unfold beaconPassed; decide +kernel,
    by decide +kernel⟩

theorem wit_NguordNetwork_7 : ∃ (s : State) (stop : Nat), beaconPassed s ∧ s.ngl.scan = some stop ∧ s.now ≤ stop :=
  ⟨ngRun 1 { s0 := some 0, scan := some 10 } [], 10, by unfold beaconPassed; decide +kernel, by decide +kernel⟩

theorem wit_NguordNetwork_8 : ∃ (s : State) (stop : Nat), beaconPassed s ∧ s.ngl.scan = some stop ∧ stop < s.now :=
  ⟨{ ngRun 1 { s0 := some 0, scan := some 10 } [] with time := { tick := 11 } }, 10,
    by unfold beaconPassed; decide +kernel, by decide +kernel⟩

theorem wit_NguordNetwork_9 : ∃ (s : State), s.ngRouter = false :=
  ⟨up, by decide +kernel⟩

theorem wit_NguordNetwork_10 : ∃ (s : State) (i : BitVec 8), ((s.flag (F.NGL_SLOT_W0_VALID i.toNat) = false ∨ i.toNat
    ∈ s.ngl.slotsRun ∨ s.ngOn = false)) :=
  ⟨up, 255, by decide +kernel⟩

theorem wit_NguordNetwork_11 : ∃ (s : State) (i : BitVec 8), slotBegins s i.toNat ∧ ((s.flag (F.NGL_SLOT_W0_DIR
    i.toNat) = false ∨ s.ngQueue (s.fld (F.NGL_SLOT_W1_NODE i.toNat)) = [])) :=
  ⟨ngRun 0 { s0 := some 0, bcnOk := true, nodes := kid 0x81000000 } (slot2 0), 4,
    by unfold slotBegins; decide +kernel, by decide +kernel⟩

theorem wit_NguordNetwork_12 : ∃ (s : State) (i : BitVec 8) (f : NgFrame) (more : List NgFrame) (start : Nat) (dur :
    Nat), slotBegins s i.toNat ∧ s.flag (F.NGL_SLOT_W0_DIR i.toNat) = true ∧ s.ngIdle (s.sfAt (s.fld
    (F.NGL_SLOT_W0_OFFSET_MS i.toNat)) + 500000 * s.fld (F.NGL_SLOT_W1_LEN_MS i.toNat)) = true ∧ s.ngCommanded f.id =
    false ∧ s.ngQueue (s.fld (F.NGL_SLOT_W1_NODE i.toNat)) = f :: more ∧ f.psdu ≠ [] ∧ start = max (s.sfAt (s.fld
    (F.NGL_SLOT_W0_OFFSET_MS i.toNat))) (s.now + s.swLead 3) ∧ dur = s.phyDur f.phy f.len ∧ start + dur + s.ackTail f
    ≤ s.sfAt (s.fld (F.NGL_SLOT_W0_OFFSET_MS i.toNat)) + 500000 * s.fld (F.NGL_SLOT_W1_LEN_MS i.toNat) ∧ s.dwellOk
    s.ngl.ch start dur = true ∧ s.dutyOk s.ngl.ch start dur = true :=
  ⟨ngRun 0 { s0 := some 0, bcnOk := true, nodes := kid 0x81000000, frames := [ngf 2 0] } (slot2 1), 4, ngf 2 0, [], _,
    _, by unfold slotBegins; decide +kernel, by decide +kernel, by decide +kernel, by decide +kernel,
    (by decide +kernel), by decide +kernel, rfl, rfl, by decide +kernel⟩

theorem wit_NguordNetwork_13 : ∃ (s : State) (_ : BitVec 8), ((s.ngContender = none ∨ s.ngOn = false ∨ s.regionAt
    s.now ≠ .contention)) :=
  ⟨up, 0, by decide +kernel⟩

theorem wit_NguordNetwork_14 : ∃ (s : State) (energy : BitVec 8) (f : NgFrame), s.ngContender = some f ∧ s.ngOn = true
    ∧ s.ngl.s0.isSome = true ∧ s.ngl.bcnOk = true ∧ s.regionAt s.now = .contention ∧ s.ngIdle (s.now + (if s.flag
    F.NGL_REG_LBT_LBT_EN then 500 * s.fld F.NGL_REG_LBT_LBT_US else 0) + s.phyDur f.phy f.len + s.ackTail f) = true ∧
    max f.since s.capStart + f.backoff * s.phyTs f.phy ≤ s.now ∧ s.flag F.NGL_REG_LBT_LBT_EN = true ∧ s.lbtBusy energy
    = true :=
  ⟨{ ngRun 0 { s0 := some 0, bcnOk := true, nodes := kid 0x81000000, frames := [ngf 2 0] } [(F.NGL_REG_LBT_LBT_EN, 1)] with time := { tick := 200000000 } },
    127, ngf 2 0, by decide +kernel⟩

theorem wit_NguordNetwork_15 : ∃ (s : State) (_ : BitVec 8) (f : NgFrame), s.ngContender = some f ∧ s.ngOn = true ∧
    s.ngl.s0.isSome = true ∧ s.ngl.bcnOk = true ∧ s.regionAt s.now = .contention ∧ s.ngIdle (s.now + (if s.flag
    F.NGL_REG_LBT_LBT_EN then 500 * s.fld F.NGL_REG_LBT_LBT_US else 0) + s.phyDur f.phy f.len + s.ackTail f) = true ∧
    max f.since s.capStart + f.backoff * s.phyTs f.phy ≤ s.now ∧ s.flag F.NGL_REG_LBT_LBT_EN = false ∧ s.now +
    s.phyDur f.phy f.len + s.ackTail f ≤ s.capEnd ∧ s.dwellOk s.ngl.ch s.now (s.phyDur f.phy f.len) = true ∧ s.dutyOk
    s.ngl.ch s.now (s.phyDur f.phy f.len) = true ∧ f.psdu ≠ [] :=
  ⟨{ ngRun 0 { s0 := some 0, bcnOk := true, nodes := kid 0x81000000, frames := [ngf 2 0] } [] with time := { tick := 200000000 } },
    0, ngf 2 0, by decide +kernel⟩

theorem wit_NguordNetwork_16 : ∃ (s : State) (_ : BitVec 8) (_ : CalResult × CalResult), s.takesWork nglBlock = true ∧
    s.radioRuns 3 = true ∧ s.flag (F.RADIO_CAL_STATUS_DUE 3) = true ∧ s.ngCalGap = true ∧ noReception s 3 :=
  ⟨rad 3 {} [(F.RADIO_CAL_STATUS_DUE 3, 1)], 25, ⟨⟨0, 0, false, false⟩, ⟨0, 0, false, false⟩⟩, by decide +kernel,
    by decide +kernel, by decide +kernel, (by decide +kernel), ⟨by decide +kernel, fun _ => rfl⟩⟩

theorem wit_NguordNetwork_17 : ∃ (s : State) (_ : BitVec 8) (_ : CalResult × CalResult), s.flag
    (F.RADIO_CAL_STATUS_DUE 3) = false :=
  ⟨up, 25, ⟨⟨0, 0, false, false⟩, ⟨0, 0, false, false⟩⟩, by decide +kernel⟩

theorem wit_NguordNetwork_18 : ∃ (s : State), s.ngl.recs = [] :=
  ⟨up, by decide +kernel⟩

theorem wit_NguordNetwork_19 : ∃ (s : State) (ws : List Word) (rest : List (List Word)), s.takesWork nglBlock = true ∧
    s.ngl.recs = ws :: rest ∧ s.recordFits (s.fld F.NGL_FIFO_RX) 6 = false :=
  ⟨{ up with ngl := { recs := [[1, 2, 3, 4, 5, 6]] } }, [1, 2, 3, 4, 5, 6], [], by decide +kernel⟩

theorem wit_NguordNetwork_20 : ∃ (s : State) (ws : List Word) (rest : List (List Word)), s.takesWork nglBlock = true ∧
    s.ngl.recs = ws :: rest ∧ s.recordFits (s.fld F.NGL_FIFO_RX) 6 = true :=
  ⟨{ fl [(F.NGL_FIFO_RX, 2), (F.PIGEON_CFG_EN 2, 1), (F.PIGEON_CFG_PROD 2, 2), (F.PIGEON_CFG_DEPTH_LOG2 2, 8)] with ngl := { recs := [[1, 2, 3, 4, 5, 6]] } },
    [1, 2, 3, 4, 5, 6], [], by decide +kernel⟩

theorem wit_NguordFrames_0 : ∃ (s : State), s.ngl.inbox = [] :=
  ⟨up, by decide +kernel⟩

theorem wit_NguordFrames_1 : ∃ (s : State) (x : NgIn) (rest : List NgIn), ngHeadIs s x rest ∧ x.typ ≠ 2 ∧ ¬ (x.typ = 0
    ∧ s.ngRouter = true) ∧ s.ngFrameOk x = false :=
  ⟨ngRun 0 { inbox := [ngIn 1 [2, 0, 1, 0, 0, 0] [] (List.replicate 8 0)] } [],
    ngIn 1 [2, 0, 1, 0, 0, 0] [] (List.replicate 8 0), [], by unfold ngHeadIs; decide +kernel, by decide +kernel⟩

theorem wit_NguordFrames_2 : ∃ (s : State) (x : NgIn) (rest : List NgIn), ngHeadIs s x rest ∧ x.typ = 4 ∧ s.ngFrameOk
    x = true ∧ s.inWatch = false ∧ s.ngRoom x.psdu = true :=
  ⟨ngRun 0 { inbox := [ngIn 0xFFFE0014 [0xFE, 0xFF, 1, 0, 0, 0] (List.replicate 23 0) (List.replicate 8 0)] } fifo2,
    ngIn 0xFFFE0014 [0xFE, 0xFF, 1, 0, 0, 0] (List.replicate 23 0) (List.replicate 8 0), [],
    by unfold ngHeadIs; decide +kernel, by decide +kernel⟩

theorem wit_NguordFrames_3 : ∃ (s : State) (x : NgIn) (rest : List NgIn), ngHeadIs s x rest ∧ x.typ = 4 ∧ s.ngFrameOk
    x = true ∧ s.inWatch = false ∧ s.ngRoom x.psdu = false :=
  ⟨ngRun 0 { inbox := [ngIn 0xFFFE0014 [0xFE, 0xFF, 1, 0, 0, 0] (List.replicate 23 0) (List.replicate 8 0)] } [],
    ngIn 0xFFFE0014 [0xFE, 0xFF, 1, 0, 0, 0] (List.replicate 23 0) (List.replicate 8 0), [],
    by unfold ngHeadIs; decide +kernel, by decide +kernel⟩

theorem wit_NguordFrames_4 : ∃ (s : State) (x : NgIn) (rest : List NgIn), ngHeadIs s x rest ∧ x.typ = 1 ∧ s.ngFrameOk
    x = true ∧ s.neighbour x.src = false :=
  ⟨ngRun 0 { inbox := [ngIn 17 [3, 0, 1, 0, 0, 0] [] (List.replicate 8 0)] } [],
    ngIn 17 [3, 0, 1, 0, 0, 0] [] (List.replicate 8 0), [], by unfold ngHeadIs; decide +kernel, by decide +kernel⟩

theorem wit_NguordFrames_5 : ∃ (s : State) (s2 : State) (x : NgIn) (rest : List NgIn) (c : Nat), ngHeadIs s x rest ∧
    x.typ = 1 ∧ s.ngFrameOk x = true ∧ s.neighbour x.src = true ∧ ((x.dst = 0xFFFF → x.src = s.ngParent)) ∧
    s.ngTake.ngVerify x = (.inr c, s2) :=
  ⟨ngRun 0 { inbox := [ngIn 17 [2, 0, 1, 0, 0, 0] [] (List.replicate 8 0)], nodes := kid 0x80000000 } [],
    (ngRun 0 { inbox := [ngIn 17 [2, 0, 1, 0, 0, 0] [] (List.replicate 8 0)], nodes := kid 0x80000000 } []).ngTake,
    ngIn 17 [2, 0, 1, 0, 0, 0] [] (List.replicate 8 0), [], C.NGL_RX_NO_KEY, by unfold ngHeadIs; decide +kernel,
    by decide +kernel⟩

theorem wit_NguordFrames_6 : ∃ (s : State) (s2 : State) (x : NgIn) (rest : List NgIn) (body : List Byte), ngHeadIs s x
    rest ∧ x.typ = 1 ∧ s.ngFrameOk x = true ∧ s.neighbour x.src = true ∧ ((x.dst = 0xFFFF → x.src = s.ngParent)) ∧
    s.ngTake.ngVerify x = (.inl body, s2) ∧ x.hdr.ackreq = false ∧ x.relay = false ∧ s2.inWatch = false ∧ x.fcnt =
    s2.ngLastFcnt x :=
  ⟨dataSt 1 [], (dataSt 1 []).ngTake, dataIn, [],
    (List.range [9].length).map (Config.cipher 1 7 dataNonce dataAad [9]), ⟨rfl, by decide +kernel⟩,
    by decide +kernel, by decide +kernel, by decide +kernel, (by decide +kernel),
    data_ok _ (by decide +kernel) (by decide +kernel) (by decide +kernel) (by decide +kernel) (by decide +kernel),
    by decide +kernel⟩

theorem wit_NguordFrames_7 : ∃ (s : State) (s2 : State) (x : NgIn) (rest : List NgIn) (body : List Byte), ngHeadIs s x
    rest ∧ x.typ = 1 ∧ s.ngFrameOk x = true ∧ s.neighbour x.src = true ∧ ((x.dst = 0xFFFF → x.src = s.ngParent)) ∧
    s.ngTake.ngVerify x = (.inl body, s2) ∧ x.hdr.ackreq = false ∧ x.relay = false ∧ s2.inWatch = false ∧ x.fcnt <
    s2.ngLastFcnt x :=
  ⟨dataSt 2 [], (dataSt 2 []).ngTake, dataIn, [],
    (List.range [9].length).map (Config.cipher 1 7 dataNonce dataAad [9]), ⟨rfl, by decide +kernel⟩,
    by decide +kernel, by decide +kernel, by decide +kernel, (by decide +kernel),
    data_ok _ (by decide +kernel) (by decide +kernel) (by decide +kernel) (by decide +kernel) (by decide +kernel),
    by decide +kernel⟩

theorem wit_NguordFrames_8 : ∃ (s : State) (s2 : State) (x : NgIn) (rest : List NgIn) (body : List Byte), ngHeadIs s x
    rest ∧ x.typ = 1 ∧ s.ngFrameOk x = true ∧ s.neighbour x.src = true ∧ ((x.dst = 0xFFFF → x.src = s.ngParent)) ∧
    s.ngTake.ngVerify x = (.inl body, s2) ∧ x.hdr.ackreq = false ∧ x.relay = false ∧ s2.inWatch = false ∧
    s2.ngLastFcnt x < x.fcnt ∧ s2.ngRoom body = false :=
  ⟨dataSt 0 [], (dataSt 0 []).ngTake, dataIn, [],
    (List.range [9].length).map (Config.cipher 1 7 dataNonce dataAad [9]), ⟨rfl, by decide +kernel⟩,
    by decide +kernel, by decide +kernel, by decide +kernel, (by decide +kernel),
    data_ok _ (by decide +kernel) (by decide +kernel) (by decide +kernel) (by decide +kernel) (by decide +kernel),
    by decide +kernel⟩

theorem wit_NguordFrames_9 : ∃ (s : State) (s2 : State) (x : NgIn) (rest : List NgIn) (body : List Byte), ngHeadIs s x
    rest ∧ x.typ = 1 ∧ s.ngFrameOk x = true ∧ s.neighbour x.src = true ∧ ((x.dst = 0xFFFF → x.src = s.ngParent)) ∧
    s.ngTake.ngVerify x = (.inl body, s2) ∧ x.hdr.ackreq = false ∧ x.relay = false ∧ s2.inWatch = false ∧
    s2.ngLastFcnt x < x.fcnt ∧ s2.ngRoom body = true :=
  ⟨dataSt 0 fifo2, (dataSt 0 fifo2).ngTake, dataIn, [],
    (List.range [9].length).map (Config.cipher 1 7 dataNonce dataAad [9]), ⟨rfl, by decide +kernel⟩,
    by decide +kernel, by decide +kernel, by decide +kernel, (by decide +kernel),
    data_ok _ (by decide +kernel) (by decide +kernel) (by decide +kernel) (by decide +kernel) (by decide +kernel),
    by decide +kernel⟩

theorem wit_NguordFrames_10 : ∃ (s : State) (x : NgIn) (rest : List NgIn), ngHeadIs s x rest ∧ x.typ = 2 ∧
    ((x.hdr.ackreq = true ∨ x.hdr.length ≠ 0)) :=
  ⟨ngRun 0 { inbox := [ngIn 2 [1] [] []] } [], ngIn 2 [1] [] [], [], by unfold ngHeadIs; decide +kernel,
    by decide +kernel⟩

theorem wit_NguordFrames_11 : ∃ (s : State) (x : NgIn) (rest : List NgIn), ngHeadIs s x rest ∧ x.typ = 2 ∧ x.ackOk =
    true ∧ s.ngl.wait = none :=
  ⟨ngRun 0 { inbox := [ngIn 2 [] [] []] } [], ngIn 2 [] [] [], [], by unfold ngHeadIs; decide +kernel,
    by decide +kernel⟩

theorem wit_NguordFrames_12 : ∃ (s : State) (x : NgIn) (rest : List NgIn) (w : NgWait) (f : NgFrame), ngHeadIs s x
    rest ∧ x.typ = 2 ∧ x.ackOk = true ∧ s.ngl.wait = some w ∧ s.ngFrame w.id = some f ∧ (x.dst ≠ s.ngAddr ∨ x.hdr.link
    / 256 % 256 ≠ f.fcnt % 256 ∨ w.ref + w.ts < x.ref) :=
  ⟨ngRun 0 { inbox := [ngIn 2 [] [] []], wait := some ⟨0, 0, 0, 0⟩, frames := [{ ngf 2 0 with fcnt := 1 }] } [],
    ngIn 2 [] [] [], [], ⟨0, 0, 0, 0⟩, { ngf 2 0 with fcnt := 1 }, by unfold ngHeadIs; decide +kernel,
    by decide +kernel⟩

theorem wit_NguordFrames_13 : ∃ (s : State) (x : NgIn) (rest : List NgIn) (w : NgWait) (f : NgFrame), ngHeadIs s x
    rest ∧ x.typ = 2 ∧ x.ackOk = true ∧ s.ngl.wait = some w ∧ s.ngFrame w.id = some f ∧ x.dst = s.ngAddr ∧ x.hdr.link
    / 256 % 256 = f.fcnt % 256 ∧ w.ref ≤ x.ref + w.ts ∧ x.ref ≤ w.ref + w.ts ∧ f.link.testBit 5 = false ∧ s.ngl.slot =
    none ∧ f.source = .relay :=
  ⟨ngRun 0 { inbox := [ngIn 2 [] [] []], wait := some ⟨0, 0, 0, 0⟩, frames := [ngf 2 0] } [], ngIn 2 [] [] [], [],
    ⟨0, 0, 0, 0⟩, ngf 2 0, by unfold ngHeadIs; decide +kernel, by decide +kernel⟩

theorem wit_NguordFrames_14 : ∃ (s : State), s.ngl.wait = none :=
  ⟨up, by decide +kernel⟩

theorem wit_NguordFrames_15 : ∃ (s : State) (w : NgWait) (f : NgFrame), s.takesWork nglBlock = true ∧ s.ngl.wait =
    some w ∧ s.ngFrame w.id = some f ∧ s.now < w.stop + w.ts :=
  ⟨ngRun 0 { wait := some ⟨0, 0, 5, 9⟩, frames := [ngf 2 0] } [], ⟨0, 0, 5, 9⟩, ngf 2 0, by decide +kernel⟩

theorem wit_NguordFrames_16 : ∃ (s : State) (w : NgWait) (f : NgFrame), s.takesWork nglBlock = true ∧ s.ngl.wait =
    some w ∧ s.ngFrame w.id = some f ∧ w.stop + w.ts ≤ s.now ∧ s.fld F.NGL_TX_CFG_RETRY_LIMIT ≤ f.attempts :=
  ⟨ngRun 0 { wait := some ⟨0, 0, 0, 0⟩, frames := [ngf 2 15] } [], ⟨0, 0, 0, 0⟩, ngf 2 15, by decide +kernel⟩

theorem wit_NguordFrames_17 : ∃ (s : State) (w : NgWait) (f : NgFrame), s.takesWork nglBlock = true ∧ s.ngl.wait =
    some w ∧ s.ngFrame w.id = some f ∧ w.stop + w.ts ≤ s.now ∧ f.attempts < s.fld F.NGL_TX_CFG_RETRY_LIMIT :=
  ⟨ngRun 0 { wait := some ⟨0, 0, 0, 0⟩, frames := [ngf 2 0] } [(F.NGL_TX_CFG_RETRY_LIMIT, 1)], ⟨0, 0, 0, 0⟩, ngf 2 0,
    by decide +kernel⟩

theorem wit_NguordFrames_18 : ∃ (s : State), s.takesWork nglBlock = true ∧ s.ngl.wait = none ∧ s.onAir 3 = false ∧
    (s.ngl.frames.map (fun f => f.id)).Nodup ∧ ((∀ f ∈ s.ngl.frames, f.expiry.any (fun x => decide (x ≤ s.now)) =
    false)) :=
  ⟨ngRun 0 { frames := [ngf 2 0] } [], by decide +kernel⟩

theorem wit_NguordFrames_19 : ∃ (s : State), ((s.ngOn = false ∨ s.fld F.NGL_TXR_IDX_RD = s.fld F.NGL_TXR_IDX_WR)) :=
  ⟨up, by decide +kernel⟩

theorem wit_NguordFrames_20 : ∃ (s : State) (s1 : State) (ws : List Word), s.ngOn = true ∧ s.fld F.NGL_TXR_IDX_RD ≠
    s.fld F.NGL_TXR_IDX_WR ∧ s.ringTake = (ws, s1) :=
  ⟨ngRun 0 {} [(F.NGL_TXR_IDX_WR, 1)], _, _, by decide +kernel, by decide +kernel, rfl⟩

theorem wit_NguordFrames_21 : ∃ (s : State) (x : Nat × TmFrame), s.ngOn = true ∧ s.tm.handed.find? (fun x => decide
    (x.1 = 5) && !s.ngHolds x) = some x ∧ x.2.egress % 65536 = 0xFFFF ∧ x.2.pkt.bytes.length ≤ 236 :=
  ⟨{ ngRun 0 {} [] with tm := { handed := [(5, { pkt := { bytes := [], src := 0, srcEg := 0, time := 0 }, egress := 0xFFFF, buf := 0, enq := 0, deadline := none, tid := 0 })] } },
    (5, { pkt := { bytes := [], src := 0, srcEg := 0, time := 0 }, egress := 0xFFFF, buf := 0, enq := 0, deadline := none, tid := 0 }),
    by decide +kernel⟩

theorem wit_NodeContexts_0 : ∃ (s : State) (u : State) (a : BitVec 16) (i : Instr), i ∈ [Instr.nodeAdd a, .nodeUpdate
    a, .nodeRemove a, .nodeRead a] ∧ s.takesWork nglBlock = true ∧ u = s.touch A.NGL_NODE_CMD ∧ ((a.toNat = 0 ∨ 4096 <
    a.toNat ∨ u.flag F.NGL_NODE_STATUS_BUSY = true)) :=
  ⟨up, _, 4097, .nodeRead 4097, by decide +kernel, by decide +kernel, rfl, by decide +kernel⟩

theorem wit_NodeContexts_1 : ∃ (s : State) (u : State) (a : BitVec 16) (w : Nat) (r : Nat), nodeRuns s u a.toNat ∧
    (u.ngNode a.toNat).valid = false ∧ ngStageError u.ngStage = some (w, r) :=
  ⟨up, (up).touch A.NGL_NODE_CMD, 1, 0, 5, by unfold nodeRuns; decide +kernel, by decide +kernel⟩

theorem wit_NodeContexts_2 : ∃ (s : State) (u : State) (a : BitVec 16), nodeRuns s u a.toNat ∧ (u.ngNode
    a.toNat).valid = false ∧ ngStageError u.ngStage = none ∧ u.euiTaken a.toNat u.ngStage = true :=
  ⟨{ ngStaged up with ngl := { nodes := [(7, { words := [0x80000000, 0, 0, 0, 0, 0] })] } },
    ({ ngStaged up with ngl := { nodes := [(7, { words := [0x80000000, 0, 0, 0, 0, 0] })] } }).touch A.NGL_NODE_CMD,
    1, by unfold nodeRuns; decide +kernel, by decide +kernel⟩

theorem wit_NodeContexts_3 : ∃ (s : State) (u : State) (a : BitVec 16), nodeRuns s u a.toNat ∧ (u.ngNode
    a.toNat).valid = false ∧ ngStageError u.ngStage = none ∧ u.euiTaken a.toNat u.ngStage = false :=
  ⟨ngStaged up, (ngStaged up).touch A.NGL_NODE_CMD, 4096, by unfold nodeRuns; decide +kernel, by decide +kernel⟩

theorem wit_NodeContexts_4 : ∃ (s : State) (u : State) (a : BitVec 16) (i : Instr), i ∈ [Instr.nodeUpdate a,
    .nodeRemove a, .nodeRead a] ∧ nodeRuns s u a.toNat ∧ (u.ngNode a.toNat).valid = false :=
  ⟨up, (up).touch A.NGL_NODE_CMD, 1, .nodeRead 1, by decide +kernel, by unfold nodeRuns; decide +kernel,
    by decide +kernel⟩

theorem wit_NodeContexts_5 : ∃ (s : State) (u : State) (a : BitVec 16), nodeRuns s u a.toNat ∧ (u.ngNode
    a.toNat).valid = true ∧ ngStageError u.ngStage = none :=
  ⟨{ ngStaged up with ngl := { nodes := [(7, { words := [0x80000000, 0, 0, 0, 0, 0] })] } },
    ({ ngStaged up with ngl := { nodes := [(7, { words := [0x80000000, 0, 0, 0, 0, 0] })] } }).touch A.NGL_NODE_CMD,
    7, by unfold nodeRuns; decide +kernel, by decide +kernel⟩

theorem wit_NodeContexts_6 : ∃ (s : State) (u : State) (a : BitVec 16), nodeRuns s u a.toNat ∧ (u.ngNode
    a.toNat).valid = true ∧ u.ngl.frames = [] :=
  ⟨{ up with ngl := { nodes := [(7, { words := [0x80000000, 0, 0, 0, 0, 0] })] } },
    ({ up with ngl := { nodes := [(7, { words := [0x80000000, 0, 0, 0, 0, 0] })] } }).touch A.NGL_NODE_CMD, 7,
    by unfold nodeRuns; decide +kernel, by decide +kernel⟩

theorem wit_NodeContexts_7 : ∃ (s : State) (u : State) (a : BitVec 16), nodeRuns s u a.toNat ∧ (u.ngNode
    a.toNat).valid = true ∧ (u.ngNode a.toNat).words.length = 6 :=
  ⟨{ up with ngl := { nodes := [(7, { words := [0x80000000, 0, 0, 0, 0, 0] })] } },
    ({ up with ngl := { nodes := [(7, { words := [0x80000000, 0, 0, 0, 0, 0] })] } }).touch A.NGL_NODE_CMD, 7,
    by unfold nodeRuns; decide +kernel, by decide +kernel⟩

/-- SORT holds `x`, and some fields are set. -/
def srt (x : SortSt) (xs : List (Fld × Nat)) : State := { fl xs with sort := x }

/-- Nothing of a source waits in the normal lane, so its share is not full. -/
theorem share_open (s : State) (k : Nat) (h : s.sort.normLane = []) : s.shareFull k = false := by
  simp [State.shareFull, h]

/-- Frames of source 4 fill its share of the normal lane. -/
def shareSt : State := srt { arrivals := [pk 4], normLane := List.replicate (max 1 Config.laneShare) (pk 4) } []

theorem share_full : shareSt.shareFull 4 = true := by
  simp [State.shareFull, shareSt, srt, pk]

/-- The branch of TABLES is off, and SORT's pipeline holds one packet. -/
def tablesOff : State := setR (srt { pipe := [pk 0] } []) [(A.CKGEN_GATE, setBits (up.rd A.CKGEN_GATE) 2 2 0)]

theorem wit_SortPipeline_10 : ∃ (s : State) (p : Pkt) (rest : List Pkt) (src : Nat) (k : Walk) (key : BitVec 320)
    (hit : Bool) (act : DWord) (q : Pkt), s.sort.pipe = p :: rest ∧ src = (if p.pass2 then 6 else p.src) ∧
    k = walkOf s p src ∧ key = keyOf k src (if src = 5 then p.bss else 0) p.pass2 (p.regIn && !p.pass2) ∧
    s.actionOf [] p.bank key = (hit, act) ∧ q = { p with hdrs := k.hdrs.map (fun h => h.2), key := key, act := act } ∧
    s.fld F.SORT_SWAP_STATUS_STATE ≠ 1 ∧ actField act 24 1 = 0 ∧ s.takesWork sortBlock = true ∧ s.fwdTakes act = true ∧
    actFwd act ≠ 3 :=
  ⟨srt { pipe := [pk 0] } [], pk 0, [], _, _, _, false, 0x400000, _, rfl, rfl, rfl, rfl, by decide +kernel, rfl,
    by decide +kernel, by decide +kernel, by decide +kernel, by decide +kernel, by decide +kernel⟩

theorem wit_SortPipeline_11 : ∃ (s : State) (p : Pkt) (rest : List Pkt) (src : Nat) (k : Walk) (key : BitVec 320)
    (hit : Bool) (act : DWord) (q : Pkt), s.sort.pipe = p :: rest ∧ src = (if p.pass2 then 6 else p.src) ∧
    k = walkOf s p src ∧ key = keyOf k src (if src = 5 then p.bss else 0) p.pass2 (p.regIn && !p.pass2) ∧
    s.actionOf [] p.bank key = (hit, act) ∧ q = { p with hdrs := k.hdrs.map (fun h => h.2), key := key, act := act } ∧
    s.fld F.SORT_SWAP_STATUS_STATE ≠ 1 ∧ actField act 24 1 = 0 ∧ s.takesWork sortBlock = true ∧ s.fwdTakes act = true ∧
    actFwd act = 3 ∧ p.pass2 = true :=
  ⟨srt { pipe := [{ pk 0 with pass2 := true }], cam := [(0, { banks := 1, act := 0x600000 })] } [],
    { pk 0 with pass2 := true }, [], _, _, _, true, 0x600000, _, rfl, rfl, rfl, rfl, by decide +kernel, rfl,
    by decide +kernel, by decide +kernel, by decide +kernel, by decide +kernel, by decide +kernel, rfl⟩

theorem wit_SortPipeline_12 : ∃ (u : List (BitVec 8 × Bool)) (r : List (BitVec 13 × List Word)) (s : State) (p : Pkt)
    (rest : List Pkt) (k : Walk) (src : Nat) (hit : Bool) (act : DWord), s.sort.pipe = p :: rest ∧
    (∀ x ∈ u, x.2 = false) ∧ src = (if p.pass2 then 6 else p.src) ∧ k = walkOf s p src ∧
    s.actionOf r p.bank (keyOf k src (if src = 5 then p.bss else 0) p.pass2 (p.regIn && !p.pass2)) = (hit, act) ∧
    s.fwdTakes act = false :=
  ⟨[], [], { tablesOff with sort := { tablesOff.sort with cam := [(0, { banks := 1, act := 0 })] } }, pk 0, [], _, _, true, 0,
    rfl, by simp, rfl, rfl, by decide +kernel, by decide +kernel⟩

theorem wit_SortPipeline_0 : ∃ (s : State) (k : Fin 6), ((∀ p ∈ s.sort.arrivals, p.src ≠ k.val)) :=
  ⟨srt { arrivals := [pk 1] } [], 0, by decide +kernel⟩

theorem wit_SortPipeline_1 : ∃ (s : State) (k : Fin 6) (p : Pkt), s.sort.arrivals.find? (fun p => decide (p.src =
    k.val)) = some p ∧ ((s.asksReg p = true → 32 ≤ s.sort.regLane.length)) ∧ s.shareFull k.val = true :=
  ⟨shareSt, 4, pk 4, by decide +kernel, by decide +kernel, share_full⟩

theorem wit_SortPipeline_2 : ∃ (s : State) (k : Fin 6) (p : Pkt), s.takesWork sortBlock = true ∧ s.sort.arrivals.find?
    (fun p => decide (p.src = k.val)) = some p ∧ ((s.asksReg p = true ∧ s.sort.regLane.length < 32) ∨ s.shareFull
    k.val = false) ∧ s.asksReg p = true ∧ s.sort.regLane.length < 32 :=
  ⟨srt { arrivals := [{ pk 4 with wantReg := true }] } [], 4, { pk 4 with wantReg := true }, by decide +kernel,
    by decide +kernel, Or.inl (by decide +kernel), by decide +kernel⟩

theorem wit_SortPipeline_3 : ∃ (s : State) (k : Fin 6) (p : Pkt), s.takesWork sortBlock = true ∧ s.sort.arrivals.find?
    (fun p => decide (p.src = k.val)) = some p ∧ ((s.asksReg p = true ∧ s.sort.regLane.length < 32) ∨ s.shareFull
    k.val = false) ∧ s.asksReg p = true ∧ 32 ≤ s.sort.regLane.length :=
  ⟨srt { arrivals := [{ pk 4 with wantReg := true }], regLane := List.replicate 32 (pk 5) } [], 4,
    { pk 4 with wantReg := true }, by decide +kernel, by decide +kernel, Or.inr (share_open _ _ rfl),
    by decide +kernel⟩

theorem wit_SortPipeline_4 : ∃ (s : State) (k : Fin 6) (p : Pkt), s.takesWork sortBlock = true ∧ s.sort.arrivals.find?
    (fun p => decide (p.src = k.val)) = some p ∧ ((s.asksReg p = true ∧ s.sort.regLane.length < 32) ∨ s.shareFull
    k.val = false) ∧ s.asksReg p = false :=
  ⟨srt { arrivals := [pk 4] } [], 4, pk 4, by decide +kernel, by decide +kernel, Or.inr (share_open _ _ rfl),
    by decide +kernel⟩

theorem wit_SortPipeline_5 : ∃ (s : State), (s.takesWork sortBlock = false ∨ 64 ≤ s.sort.pipe.length ∨ (s.sort.regLane
    = [] ∧ s.sort.recLane = [] ∧ nextNormal s.sort.normLane s.sort.rr = none)) :=
  ⟨up, by decide +kernel⟩

theorem wit_SortPipeline_6 : ∃ (s : State) (p : Pkt) (rest : List Pkt), s.takesWork sortBlock = true ∧
    s.sort.pipe.length < 64 ∧ s.sort.regLane = p :: rest :=
  ⟨srt { regLane := [pk 4, pk 5] } [], pk 4, [pk 5], by decide +kernel⟩

theorem wit_SortPipeline_7 : ∃ (s : State) (p : Pkt) (rest : List Pkt), s.takesWork sortBlock = true ∧
    s.sort.pipe.length < 64 ∧ s.sort.regLane = [] ∧ s.sort.recLane = p :: rest :=
  ⟨srt { recLane := [pk 4, pk 5] } [], pk 4, [pk 5], by decide +kernel⟩

theorem wit_SortPipeline_8 : ∃ (s : State) (p : Pkt), s.takesWork sortBlock = true ∧ s.sort.pipe.length < 64 ∧
    s.sort.regLane = [] ∧ s.sort.recLane = [] ∧ nextNormal s.sort.normLane s.sort.rr = some p :=
  ⟨srt { normLane := [pk 3, pk 0] } [], pk 0, by decide +kernel⟩

theorem wit_SortPipeline_9 : ∃ (_ : List (BitVec 8 × Bool)) (_ : List (BitVec 13 × List Word)) (s : State),
    s.sort.pipe = [] :=
  ⟨[(0, true)], [], up, by decide +kernel⟩

theorem wit_SortPipeline_13 : ∃ (s : State) (p : Pkt) (src : Nat), s.fld (F.SORT_START_NODE p.bank src) = nodeEnd :=
  ⟨fl [(F.SORT_START_NODE 0 0, 256)], pk 0, 0, by decide +kernel⟩

theorem wit_SortPipeline_14 : ∃ (s : State) (p : Pkt) (src : Nat), s.fld (F.SORT_START_NODE p.bank src) ≠ nodeEnd ∧
    (s.nodeWord p.bank (s.fld (F.SORT_START_NODE p.bank src)) 0).getLsbD 31 = false :=
  ⟨fl [(F.SORT_START_NODE 0 0, 0)], pk 0, 0, by decide +kernel⟩

theorem wit_AssociativeMemoryAndSwap_0 : ∃ (s : State) (b : Nat) (i : Nat) (key : BitVec 320), swf (fun _ => ({} :
    CamEntry)) s.sort.cam = true ∧ (s.camAt i).hits b key = true ∧ ((∀ j < i, (s.camAt j).hits b key = false)) :=
  ⟨srt { cam := [(0, { banks := 2, mask := 1, value := 1 }), (1, { banks := 1, mask := 1, value := 1 })] } [], 0, 1,
    1, by decide +kernel⟩

theorem wit_AssociativeMemoryAndSwap_1 : ∃ (s : State) (b : Nat) (key : BitVec 320), swf (fun _ => ({} : CamEntry))
    s.sort.cam = true ∧ ((∀ j, (s.camAt j).hits b key = false)) :=
  ⟨State.reset, 0, 0, by decide +kernel, fun j => by simp [State.camAt, sget, State.reset, CamEntry.hits]⟩

theorem wit_AssociativeMemoryAndSwap_2 : ∃ (s : State) (u : State) (i : BitVec 13) (c : Instr), s.takesWork sortBlock
    = true ∧ u = s.touch A.SORT_CAM_CMD ∧ u.flag F.SORT_CAM_STATUS_BUSY = true ∧ (c = .camWrite i ∨ c = .camClear i ∨
    c = .setBanks i ∨ c = .camRead i) :=
  ⟨fl [(F.SORT_CAM_STATUS_BUSY, 1)], _, 1, .camRead 1, by decide +kernel, rfl, by decide +kernel⟩

theorem wit_AssociativeMemoryAndSwap_3 : ∃ (s : State) (u : State) (i : BitVec 13), s.takesWork sortBlock = true ∧ u =
    s.touch A.SORT_CAM_CMD ∧ u.flag F.SORT_CAM_STATUS_BUSY = false ∧ (u.touchesBusy (u.camAt i.toNat).banks = true ∨
    u.touchesBusy u.stagedCam.banks = true) :=
  ⟨srt { cam := [(1, { banks := 1 })] } [], _, 1, by decide +kernel, rfl, by decide +kernel⟩

theorem wit_AssociativeMemoryAndSwap_4 : ∃ (s : State) (u : State) (i : BitVec 13), s.takesWork sortBlock = true ∧ u =
    s.touch A.SORT_CAM_CMD ∧ u.flag F.SORT_CAM_STATUS_BUSY = false ∧ u.touchesBusy (u.camAt i.toNat).banks = false ∧
    u.touchesBusy u.stagedCam.banks = false ∧ actLegal u.stagedCam.act (some (u.stagedCam.mask, u.stagedCam.value)) =
    false :=
  ⟨setR up [(A.SORT_STAGE 20, 0xC0)], _, 1, by decide +kernel, rfl, by decide +kernel⟩

theorem wit_AssociativeMemoryAndSwap_5 : ∃ (s : State) (u : State) (i : BitVec 13), s.takesWork sortBlock = true ∧ u =
    s.touch A.SORT_CAM_CMD ∧ u.flag F.SORT_CAM_STATUS_BUSY = false ∧ u.touchesBusy (u.camAt i.toNat).banks = false ∧
    u.touchesBusy u.stagedCam.banks = false ∧ actLegal u.stagedCam.act (some (u.stagedCam.mask, u.stagedCam.value)) =
    true :=
  ⟨setR up [(A.SORT_STAGE 22, 2)], _, 1, by decide +kernel, rfl, by decide +kernel⟩

theorem wit_AssociativeMemoryAndSwap_6 : ∃ (s : State) (u : State) (i : BitVec 13), s.takesWork sortBlock = true ∧ u =
    s.touch A.SORT_CAM_CMD ∧ u.flag F.SORT_CAM_STATUS_BUSY = false ∧ u.touchesBusy (u.camAt i.toNat).banks = true :=
  ⟨srt { cam := [(1, { banks := 1 })] } [], _, 1, by decide +kernel, rfl, by decide +kernel⟩

theorem wit_AssociativeMemoryAndSwap_7 : ∃ (s : State) (u : State) (i : BitVec 13), s.takesWork sortBlock = true ∧ u =
    s.touch A.SORT_CAM_CMD ∧ u.flag F.SORT_CAM_STATUS_BUSY = false ∧ (u.touchesBusy (u.camAt i.toNat).banks = true ∨
    u.touchesBusy ((u.rd (A.SORT_STAGE 22)).toNat % 4) = true) :=
  ⟨setR up [(A.SORT_STAGE 22, 1)], _, 1, by decide +kernel, rfl, by decide +kernel⟩

theorem wit_AssociativeMemoryAndSwap_8 : ∃ (s : State) (u : State) (i : BitVec 13), s.takesWork sortBlock = true ∧ u =
    s.touch A.SORT_CAM_CMD ∧ u.flag F.SORT_CAM_STATUS_BUSY = false ∧ u.touchesBusy (u.camAt i.toNat).banks = false ∧
    u.touchesBusy ((u.rd (A.SORT_STAGE 22)).toNat % 4) = false :=
  ⟨setR up [(A.SORT_STAGE 22, 2)], _, 1, by decide +kernel, rfl, by decide +kernel⟩

theorem wit_AssociativeMemoryAndSwap_9 : ∃ (s : State) (u : State), s.takesWork sortBlock = true ∧ u = s.touch
    A.SORT_SWAP ∧ u.fld F.SORT_SWAP_STATUS_STATE = 1 :=
  ⟨fl [(F.SORT_SWAP_STATUS_STATE, 1)], _, by decide +kernel, rfl, by decide +kernel⟩

theorem wit_AssociativeMemoryAndSwap_10 : ∃ (s : State) (u : State), s.takesWork sortBlock = true ∧ u = s.touch
    A.SORT_SWAP ∧ u.fld F.SORT_SWAP_STATUS_STATE ≠ 1 :=
  ⟨up, _, by decide +kernel, rfl, by decide +kernel⟩

theorem wit_AssociativeMemoryAndSwap_11 : ∃ (s : State), s.takesWork sortBlock = true ∧ s.fld F.SORT_SWAP_STATUS_STATE
    = 1 ∧ s.sort.inFlight (1 - s.fld F.SORT_BANK_ACTIVE) ≠ 0 :=
  ⟨srt { pipe := [{ pk 0 with bank := 1 }] } [(F.SORT_SWAP_STATUS_STATE, 1)], by decide +kernel⟩

theorem wit_AssociativeMemoryAndSwap_12 : ∃ (s : State), s.takesWork sortBlock = true ∧ s.fld F.SORT_SWAP_STATUS_STATE
    = 1 ∧ s.sort.inFlight (1 - s.fld F.SORT_BANK_ACTIVE) = 0 :=
  ⟨srt { pipe := [pk 0] } [(F.SORT_SWAP_STATUS_STATE, 1)], by decide +kernel⟩

theorem wit_AssociativeMemoryAndSwap_13 : ∃ (s : State) (_ : BitVec 13), s.takesWork sortBlock = true ∧
    s.flt.queue.length < 16 ∧ s.fld F.SORT_CAM_STATUS_SPARES = 0 :=
  ⟨fl [(F.SORT_CAM_STATUS_SPARES, 0)], 5, by decide +kernel⟩

theorem wit_AssociativeMemoryAndSwap_14 : ∃ (s : State) (_ : BitVec 13), s.takesWork sortBlock = true ∧
    s.flt.queue.length < 16 ∧ s.fld F.SORT_CAM_STATUS_SPARES ≠ 0 :=
  ⟨fl [(F.SORT_CAM_STATUS_SPARES, 16)], 5, by decide +kernel⟩

/-- TABLES holds `x`, and some fields are set. -/
def tb (x : TablesSt) (xs : List (Fld × Nat)) : State := { fl xs with tables := x }

/-- A packet of source 0 with addresses 2 and 4, or broadcast, in bridge domain 5 whose first word is `bd`; its profile has
the words `pr`; TABLES holds `x` beside. -/
def lk (da : List Byte) (pr : List Word) (bd : Word) (x : TablesSt) (xs : List (Fld × Nat)) : State :=
  tb { x with inbox := [{ pk 0 with bytes := da ++ [4, 0, 0, 0, 0, 0] }], profs := [(0, pr)], bds := [(5, [bd])] }
    ((F.TABLES_PORT_CFG_PVID 0, 5) :: xs)

/-- The packet of `lk`. -/
def lkp (da : List Byte) : Pkt := { pk 0 with bytes := da ++ [4, 0, 0, 0, 0, 0] }

def uni : List Byte := [2, 0, 0, 0, 0, 0]
def bro : List Byte := List.replicate 6 0xFF
def zer : List Byte := List.replicate 6 0

/-- The entry of address 4 in bridge domain 5. -/
def sa4 (d : Bool) : L2Slot :=
  { bd := 5, mac := 4, static := false, discard := d, hit := false, version := 0, miss := 0, pass := false, egress := 1 }

/-- The home of address 4 in way 0. -/
def home4 : Nat := up.home (l2Key 5 4) 0

/-- A waiting learn request. -/
def lreq (e : Option Nat) : LearnReq := { bd := 5, mac := 4, egress := 2, pkt := { pk 0 with egress := e } }

/-- Every home of address 4 is taken by the entry of address 9, as are that one's own homes. -/
def fullL2 (n : Nat) : List (Nat × Option L2Slot) :=
  ((up.homes (l2Key n 4)) ++ (up.homes (l2Key n 9))).map (fun i => (i, some { sa4 false with bd := n, mac := 9 }))

theorem full_none (x : TablesSt) (h : x.l2 = fullL2 5) (e : L2Slot) (h1 : e.bd = 5) (h2 : e.mac = 4) :
    (tb x []).l2Insert e = none := by
  have hs : (tb x []).homes = up.homes := rfl
  have ha : (tb x []).l2At = (tb { l2 := fullL2 5 } []).l2At := by
    funext i; show sget _ x.l2 i = sget _ (fullL2 5) i; rw [h]
  have hp : insertPlan (fun i => ((tb { l2 := fullL2 5 } []).l2At i).isSome) (tb { l2 := fullL2 5 } []).l2Alts
      (up.homes (l2Key 5 4)) = none := by decide +kernel
  have hl : (tb x []).l2Alts = (tb { l2 := fullL2 5 } []).l2Alts := by
    have h2 : (tb { l2 := fullL2 5 } []).homes = up.homes := rfl
    funext i; unfold State.l2Alts; rw [ha, hs, h2]
  unfold State.l2Insert; rw [hs, ha, hl, h1, h2, hp]

theorem wit_TableLookups_11 : ∃ (rs : List Route) (w v a : Nat) (r : Route), longest rs w v a = some r :=
  ⟨[⟨0, 8, 0x0A000000, 1⟩, ⟨0, 16, 0x0A010000, 2⟩], 32, 0, 0x0A010203, ⟨0, 16, 0x0A010000, 2⟩, by decide +kernel⟩

/-- Staging holds words from 0 on. -/
def stg (s : State) (ws : List Word) : State := setR s ((List.range ws.length).map (fun i => (A.TABLES_STAGE i, ws.getD i 0)))

/-- The key of a session whose words are zero but the first. -/
def key0 : List Byte := sessKeyBytes 0 0 [0, 0, 0, 0] [0, 0, 0, 0] 0 0

theorem wit_TableCommands_2 : ∃ (s u : State) (_ : BitVec 17), tblFree s u ∧ stagedL2Legal u ∧
    ∃ y, u.l2Find u.stagedL2.bd u.stagedL2.mac = some y :=
  ⟨stg (tb { l2 := [(home4, some (sa4 false))] } []) [5, 4], _, 0, ⟨⟨by decide +kernel, rfl⟩, by decide +kernel⟩,
    by unfold stagedL2Legal; decide +kernel, (home4, sa4 false), by decide +kernel⟩

theorem wit_TableLookups_0 : ∃ (_ : List (Fin 8 × BitVec 17)) (s : State), ((s.tables.inbox = [] ∨ s.takesWork 0x30 =
    false ∨ s.takesWork 0x40 = false)) :=
  ⟨[], up, by decide +kernel⟩

theorem wit_TableLookups_1 : ∃ (s : State) (p : Pkt) (rest : List Pkt) (r : Profile) (vid : Nat), lookupOf s p rest r
    vid ∧ ((r.l2 = true ∨ r.l3 ≠ 0 ∨ r.sess = true)) ∧ s.bdValid vid = false :=
  ⟨lk uni [0x80000000, 0] 0 {} [], lkp uni, [], profileOf 0x80000000 0, 5, by unfold lookupOf; decide +kernel,
    by decide +kernel⟩

theorem wit_TableLookups_2 : ∃ (s : State) (p : Pkt) (rest : List Pkt) (r : Profile) (vid : Nat), lookupOf s p rest r
    vid ∧ r.l2 = false ∧ r.l3 = 0 ∧ r.sess = false :=
  ⟨lk uni [0, 0] 0 {} [], lkp uni, [], profileOf 0 0, 5, by unfold lookupOf; decide +kernel, by decide +kernel⟩

theorem wit_TableLookups_3 : ∃ (s : State) (p : Pkt) (rest : List Pkt) (r : Profile) (vid : Nat), lookupOf s p rest r
    vid ∧ bridgesOnly r ∧ s.bdValid vid = true ∧ s.l2Find vid (macAt p.bytes 6) = none ∧ s.flag F.TABLES_CTRL_LEARN_EN
    = false ∧ s.flag F.TABLES_CTRL_DA_REFRESH = false ∧ macAt p.bytes 0 = macBroadcast :=
  ⟨lk bro [0x80000000, 0] 0x80000000 {} [(F.TABLES_CTRL_LEARN_EN, 0)], lkp bro, [], profileOf 0x80000000 0, 5,
    by unfold lookupOf; decide +kernel, by unfold bridgesOnly; decide +kernel, by decide +kernel⟩

theorem wit_TableLookups_4 : ∃ (s : State) (p : Pkt) (rest : List Pkt) (r : Profile) (vid : Nat), lookupOf s p rest r
    vid ∧ bridgesOnly r ∧ s.bdValid vid = true ∧ s.l2Find vid (macAt p.bytes 6) = none ∧ s.flag F.TABLES_CTRL_LEARN_EN
    = false ∧ s.flag F.TABLES_CTRL_DA_REFRESH = false ∧ macAt p.bytes 0 ≠ macBroadcast ∧ ((isGroup (macAt p.bytes 0) =
    true ∨ s.l2Find vid (macAt p.bytes 0) = none)) ∧ getBits (idxWord s.tables.bds vid 0) 28 2 = 0 :=
  ⟨lk uni [0x80000000, 0] 0x80000000 {} [(F.TABLES_CTRL_LEARN_EN, 0)], lkp uni, [], profileOf 0x80000000 0, 5,
    by unfold lookupOf; decide +kernel, by unfold bridgesOnly; decide +kernel, by decide +kernel⟩

theorem wit_TableLookups_5 : ∃ (s : State) (p : Pkt) (rest : List Pkt) (r : Profile) (vid : Nat), lookupOf s p rest r
    vid ∧ bridgesOnly r ∧ s.bdValid vid = true ∧ s.l2Find vid (macAt p.bytes 6) = none ∧ s.flag F.TABLES_CTRL_LEARN_EN
    = false ∧ s.flag F.TABLES_CTRL_DA_REFRESH = false ∧ macAt p.bytes 0 ≠ macBroadcast ∧ ((isGroup (macAt p.bytes 0) =
    true ∨ s.l2Find vid (macAt p.bytes 0) = none)) ∧ getBits (idxWord s.tables.bds vid 0) 28 2 = 2 :=
  ⟨lk uni [0x80000000, 0] 0xA0000000 {} [(F.TABLES_CTRL_LEARN_EN, 0)], lkp uni, [], profileOf 0x80000000 0, 5,
    by unfold lookupOf; decide +kernel, by unfold bridgesOnly; decide +kernel, by decide +kernel⟩

theorem wit_TableLookups_6 : ∃ (s : State) (p : Pkt) (rest : List Pkt) (r : Profile) (vid : Nat), lookupOf s p rest r
    vid ∧ bridgesOnly r ∧ s.bdValid vid = true ∧ s.l2Find vid (macAt p.bytes 6) = none ∧ s.flag F.TABLES_CTRL_LEARN_EN
    = false ∧ s.flag F.TABLES_CTRL_DA_REFRESH = false ∧ macAt p.bytes 0 ≠ macBroadcast ∧ ((isGroup (macAt p.bytes 0) =
    true ∨ s.l2Find vid (macAt p.bytes 0) = none)) ∧ getBits (idxWord s.tables.bds vid 0) 28 2 = 1 :=
  ⟨lk uni [0x80000000, 0] 0x90000000 {} [(F.TABLES_CTRL_LEARN_EN, 0)], lkp uni, [], profileOf 0x80000000 0, 5,
    by unfold lookupOf; decide +kernel, by unfold bridgesOnly; decide +kernel, by decide +kernel⟩

theorem wit_TableLookups_7 : ∃ (s : State) (p : Pkt) (rest : List Pkt) (r : Profile) (vid : Nat), lookupOf s p rest r
    vid ∧ bridgesOnly r ∧ s.bdValid vid = true ∧ s.l2Find vid (macAt p.bytes 6) = none ∧ s.flag F.TABLES_CTRL_LEARN_EN
    = true ∧ r.learn = true ∧ (idxWord s.tables.bds vid 0).getLsbD 30 = true ∧ isGroup (macAt p.bytes 6) = false ∧
    macAt p.bytes 0 = macBroadcast ∧ s.tables.learnQ.length < 1024 :=
  ⟨lk bro [0xC0000000, 0] 0xC0000000 {} [(F.TABLES_CTRL_LEARN_EN, 1)], lkp bro, [], profileOf 0xC0000000 0, 5,
    by unfold lookupOf; decide +kernel, by unfold bridgesOnly; decide +kernel, by decide +kernel⟩

theorem wit_TableLookups_8 : ∃ (s : State) (p : Pkt) (rest : List Pkt) (r : Profile) (vid : Nat), lookupOf s p rest r
    vid ∧ bridgesOnly r ∧ s.bdValid vid = true ∧ s.l2Find vid (macAt p.bytes 6) = none ∧ s.flag F.TABLES_CTRL_LEARN_EN
    = true ∧ r.learn = true ∧ (idxWord s.tables.bds vid 0).getLsbD 30 = true ∧ isGroup (macAt p.bytes 6) = false ∧
    macAt p.bytes 0 = macBroadcast ∧ 1024 ≤ s.tables.learnQ.length :=
  ⟨lk bro [0xC0000000, 0] 0xC0000000 { learnQ := List.replicate 1024 (lreq none) } [(F.TABLES_CTRL_LEARN_EN, 1)],
    lkp bro, [], profileOf 0xC0000000 0, 5, by unfold lookupOf; decide +kernel, by unfold bridgesOnly; decide +kernel,
    by decide +kernel⟩

theorem wit_TableLookups_9 : ∃ (s : State) (p : Pkt) (rest : List Pkt) (r : Profile) (vid : Nat) (i : Nat) (e :
    L2Slot), lookupOf s p rest r vid ∧ bridgesOnly r ∧ s.bdValid vid = true ∧ macAt p.bytes 0 = macBroadcast ∧
    s.l2Find vid (macAt p.bytes 6) = some (i, e) ∧ e.discard = true :=
  ⟨lk bro [0x80000000, 0] 0x80000000 { l2 := [(home4, some (sa4 true))] } [], lkp bro, [], profileOf 0x80000000 0, 5,
    home4, sa4 true, by unfold lookupOf; decide +kernel, by unfold bridgesOnly; decide +kernel, by decide +kernel⟩

theorem wit_TableLookups_10 : ∃ (s : State) (p : Pkt) (rest : List Pkt) (r : Profile) (vid : Nat) (i : Nat) (e :
    L2Slot), lookupOf s p rest r vid ∧ bridgesOnly r ∧ s.bdValid vid = true ∧ macAt p.bytes 0 = macBroadcast ∧
    s.l2Find vid (macAt p.bytes 6) = some (i, e) ∧ e.discard = false :=
  ⟨lk bro [0x80000000, 0] 0x80000000 { l2 := [(home4, some (sa4 false))] } [], lkp bro, [], profileOf 0x80000000 0, 5,
    home4, sa4 false, by unfold lookupOf; decide +kernel, by unfold bridgesOnly; decide +kernel, by decide +kernel⟩

theorem wit_TableLookups_12 : ∃ (rs : List Route) (w : Nat) (v : Nat) (a : Nat), longest rs w v a = none :=
  ⟨[⟨0, 8, 0x0A000000, 1⟩], 32, 0, 0x0B010203, by decide +kernel⟩

theorem wit_TableLookups_13 : ∃ (s : State) (p : Pkt) (rest : List Pkt) (r : Profile) (vid : Nat) (f : Nat), lookupOf
    s p rest r vid ∧ routesOnly s p r vid f ∧ longest (if r.l3 = 2 then s.tables.v6 else s.tables.v4) (8 * r.width)
    (getBits (idxWord s.tables.rifs f 0) 24 4) (beNat (p.keyBytes r.dip r.width)) = none :=
  ⟨lk zer [0x10000000, 0] 0x80000003 { rifs := [(3, [0x80000000])] } [], lkp zer, [], profileOf 0x10000000 0, 5, 3,
    by unfold lookupOf; decide +kernel, by unfold routesOnly; decide +kernel, by decide +kernel⟩

theorem wit_TableLookups_14 : ∃ (s : State) (p : Pkt) (rest : List Pkt) (r : Profile) (vid : Nat) (f : Nat) (rt :
    Route) (w0 : Word) (o : Nat) (ttl : Nat), lookupOf s p rest r vid ∧ routesOnly s p r vid f ∧ longest (if r.l3 = 2
    then s.tables.v6 else s.tables.v4) (8 * r.width) (getBits (idxWord s.tables.rifs f 0) 24 4) (beNat (p.keyBytes
    r.dip r.width)) = some rt ∧ w0 = s.nhWord rt.nh 0 ∧ o = (p.hdr r.ipHdr).getD 0 ∧ ttl = frameByte p.bytes (o + (if
    r.width = 4 then 8 else 7)) ∧ w0.getLsbD 31 = false :=
  ⟨lk zer [0x10000000, 0] 0x80000003 { rifs := [(3, [0x80000000])], v4 := [⟨0, 0, 0, 7⟩] } [], lkp zer, [],
    profileOf 0x10000000 0, 5, 3, ⟨0, 0, 0, 7⟩, _, _, _, by unfold lookupOf; decide +kernel,
    by unfold routesOnly; decide +kernel, by decide +kernel, rfl, rfl, rfl, by decide +kernel⟩

theorem wit_TableLookups_15 : ∃ (s : State) (p : Pkt) (rest : List Pkt) (r : Profile) (vid : Nat) (f : Nat) (rt :
    Route) (w0 : Word) (o : Nat) (ttl : Nat), lookupOf s p rest r vid ∧ routesOnly s p r vid f ∧ longest (if r.l3 = 2
    then s.tables.v6 else s.tables.v4) (8 * r.width) (getBits (idxWord s.tables.rifs f 0) 24 4) (beNat (p.keyBytes
    r.dip r.width)) = some rt ∧ w0 = s.nhWord rt.nh 0 ∧ o = (p.hdr r.ipHdr).getD 0 ∧ ttl = frameByte p.bytes (o + (if
    r.width = 4 then 8 else 7)) ∧ w0.getLsbD 31 = true ∧ w0.getLsbD 30 = true ∧ ttl ≤ 1 :=
  ⟨lk zer [0x10000000, 0] 0x80000003 { rifs := [(3, [0x80000000])], v4 := [⟨0, 0, 0, 7⟩], nhs := [(7, [0xC0000000])] } [],
    lkp zer, [], profileOf 0x10000000 0, 5, 3, ⟨0, 0, 0, 7⟩, _, _, _, by unfold lookupOf; decide +kernel,
    by unfold routesOnly; decide +kernel, by decide +kernel, rfl, rfl, rfl, by decide +kernel⟩

theorem wit_TableLookups_16 : ∃ (s : State) (p : Pkt) (rest : List Pkt) (r : Profile) (vid : Nat) (key : List Byte),
    lookupOf s p rest r vid ∧ r.l2 = false ∧ r.l3 = 0 ∧ r.sess = true ∧ r.l4Hdr ≠ 0 ∧ s.bdValid vid = true ∧ s.rifOf
    vid = none ∧ key = sessKeyBytes 0 (beNat (p.keyBytes r.proto 1)) (p.keyBytes r.sip 4) (p.keyBytes r.dip 4) (beNat
    ((p.keyBytes r.l4 4).take 2)) (beNat ((p.keyBytes r.l4 4).drop 2)) ∧ s.keyFind key = none :=
  ⟨lk zer [0x08000000, 0x400] 0x80000000 {} [], lkp zer, [], profileOf 0x08000000 0x400, 5, _,
    by unfold lookupOf; decide +kernel, by decide +kernel, by decide +kernel, by decide +kernel, (by decide +kernel),
    by decide +kernel, by decide +kernel, rfl, by decide +kernel⟩

theorem wit_LearningAgeingAudit_0 : ∃ (s : State), s.tables.learnQ = [] :=
  ⟨up, by decide +kernel⟩

theorem wit_LearningAgeingAudit_1 : ∃ (s : State) (q : LearnReq) (rest : List LearnReq) (i : Nat) (e : L2Slot),
    s.tables.learnQ = q :: rest ∧ s.l2Find q.bd q.mac = some (i, e) ∧ s.takesWork 0x30 = true ∧ (e.egress = q.egress ∨
    e.static = true) :=
  ⟨tb { learnQ := [lreq none], l2 := [(home4, some { sa4 false with static := true })] } [], lreq none, [], home4,
    { sa4 false with static := true }, by decide +kernel⟩

theorem wit_LearningAgeingAudit_2 : ∃ (s : State) (q : LearnReq) (rest : List LearnReq) (i : Nat) (e : L2Slot),
    s.tables.learnQ = q :: rest ∧ s.l2Find q.bd q.mac = some (i, e) ∧ s.takesWork 0x30 = true ∧ e.egress = q.egress :=
  ⟨tb { learnQ := [lreq none], l2 := [(home4, some { sa4 false with egress := (lreq none).egress })] } [], lreq none,
    [], home4, { sa4 false with egress := (lreq none).egress }, by decide +kernel⟩

theorem wit_LearningAgeingAudit_3 : ∃ (s : State) (q : LearnReq) (rest : List LearnReq) (i : Nat) (e : L2Slot),
    s.tables.learnQ = q :: rest ∧ s.l2Find q.bd q.mac = some (i, e) ∧ s.takesWork 0x30 = true ∧ e.egress ≠ q.egress ∧
    e.static = true :=
  ⟨tb { learnQ := [lreq none], l2 := [(home4, some { sa4 false with static := true, egress := 9 })] } [], lreq none,
    [], home4, { sa4 false with static := true, egress := 9 }, by decide +kernel⟩

theorem wit_LearningAgeingAudit_4 : ∃ (s : State) (q : LearnReq) (rest : List LearnReq) (i : Nat) (e : L2Slot),
    s.tables.learnQ = q :: rest ∧ s.l2Find q.bd q.mac = some (i, e) ∧ s.takesWork 0x30 = true ∧ e.egress ≠ q.egress ∧
    e.static = false :=
  ⟨tb { learnQ := [lreq none], l2 := [(home4, some { sa4 false with static := false, egress := 9 })] } [], lreq none,
    [], home4, { sa4 false with static := false, egress := 9 }, by decide +kernel⟩

theorem wit_LearningAgeingAudit_5 : ∃ (s : State) (q : LearnReq) (rest : List LearnReq) (h : Nat), s.tables.learnQ = q
    :: rest ∧ s.l2Find q.bd q.mac = none ∧ (s.homes (l2Key q.bd q.mac)).find? (fun i => !(s.l2At i).isSome) = some h ∧
    s.takesWork 0x30 = true :=
  ⟨tb { learnQ := [lreq none] } [], lreq none, [], home4, by decide +kernel⟩

theorem wit_LearningAgeingAudit_6 : ∃ (s : State) (q : LearnReq) (rest : List LearnReq), s.tables.learnQ = q :: rest ∧
    s.l2Find q.bd q.mac = none ∧ ((∀ e : L2Slot, e.bd = q.bd → e.mac = q.mac → s.l2Insert e = none)) ∧
    s.flt.queue.length < 16 ∧ s.takesWork 0x30 = true ∧ q.pkt.egress = some (s.floodOf q.bd) :=
  ⟨tb { learnQ := [lreq (some 0x50000)], l2 := fullL2 5 } [], lreq (some 0x50000), [], by decide +kernel,
    by decide +kernel, full_none _ rfl, by decide +kernel⟩

theorem wit_LearningAgeingAudit_7 : ∃ (s : State) (q : LearnReq) (rest : List LearnReq), s.tables.learnQ = q :: rest ∧
    s.l2Find q.bd q.mac = none ∧ ((∀ e : L2Slot, e.bd = q.bd → e.mac = q.mac → s.l2Insert e = none)) ∧
    s.flt.queue.length < 16 ∧ s.takesWork 0x30 = true ∧ q.pkt.egress ≠ some (s.floodOf q.bd) :=
  ⟨tb { learnQ := [lreq (some 1)], l2 := fullL2 5 } [], lreq (some 1), [], by decide +kernel, by decide +kernel,
    full_none _ rfl, by decide +kernel⟩

theorem wit_LearningAgeingAudit_8 : ∃ (s : State) (q : LearnReq) (rest : List LearnReq), s.tables.learnQ = q :: rest ∧
    s.l2Find q.bd q.mac = none ∧ ((∀ e : L2Slot, e.bd = q.bd → e.mac = q.mac → s.l2Insert e = none)) ∧
    s.flt.queue.length < 16 ∧ s.takesWork 0x30 = true ∧ s.tables.fullTime = none :=
  ⟨tb { learnQ := [lreq (some 1)], l2 := fullL2 5 } [], lreq (some 1), [], by decide +kernel, by decide +kernel,
    full_none _ rfl, by decide +kernel⟩

theorem wit_LearningAgeingAudit_9 : ∃ (s : State), s.fld F.TABLES_AGE_L2_PASS_MS = 0 :=
  ⟨fl [(F.TABLES_AGE_L2_PASS_MS, 0)], by decide +kernel⟩

theorem wit_LearningAgeingAudit_10 : ∃ (s : State) (b : Nat), s.tables.l2Start = some b ∧ s.tables.l2Pos ≠ 0 ∧ s.now *
    131072 < b * 131072 + s.tables.l2Pos * (s.tables.l2Ms * Config.ticksPerMs) :=
  ⟨tb { l2Start := some 0, l2Ms := 100, l2Pos := 1 } [], 0, by decide +kernel⟩

theorem wit_LearningAgeingAudit_11 : ∃ (s : State) (b : Nat) (ms : Nat) (par : Bool), s.takesWork 0x30 = true ∧ s.fld
    F.TABLES_AGE_L2_PASS_MS ≠ 0 ∧ s.sweepPass s.tables.l2Pos 131072 s.tables.l2Start s.tables.l2Ms (s.fld
    F.TABLES_AGE_L2_PASS_MS) = some (b, ms) ∧ par = (if s.tables.l2Pos = 0 then !s.tables.l2Parity else
    s.tables.l2Parity) ∧ s.l2At s.tables.l2Pos = none :=
  ⟨fl [(F.TABLES_AGE_L2_PASS_MS, 100)], 0, 100, _, by decide +kernel, by decide +kernel, by decide +kernel, rfl,
    by decide +kernel⟩

theorem wit_LearningAgeingAudit_12 : ∃ (s : State), s.fld F.TABLES_AGE_SESS_PASS_MS = 0 :=
  ⟨fl [(F.TABLES_AGE_SESS_PASS_MS, 0)], by decide +kernel⟩

theorem wit_LearningAgeingAudit_13 : ∃ (s : State) (b : Nat), s.tables.sessStart = some b ∧ s.tables.sessPos ≠ 0 ∧
    s.now * 65536 < b * 65536 + s.tables.sessPos * (s.tables.sessMs * Config.ticksPerMs) :=
  ⟨tb { sessStart := some 0, sessMs := 100, sessPos := 1 } [], 0, by decide +kernel⟩

theorem wit_LearningAgeingAudit_14 : ∃ (s : State) (b : Nat) (ms : Nat) (par : Bool), s.takesWork 0x30 = true ∧ s.fld
    F.TABLES_AGE_SESS_PASS_MS ≠ 0 ∧ s.sweepPass s.tables.sessPos 65536 s.tables.sessStart s.tables.sessMs (s.fld
    F.TABLES_AGE_SESS_PASS_MS) = some (b, ms) ∧ par = (if s.tables.sessPos = 0 then !s.tables.sessParity else
    s.tables.sessParity) ∧ s.sessAt s.tables.sessPos = none :=
  ⟨fl [(F.TABLES_AGE_SESS_PASS_MS, 100)], 0, 100, _, by decide +kernel, by decide +kernel, by decide +kernel, rfl,
    by decide +kernel⟩

theorem wit_LearningAgeingAudit_15 : ∃ (s : State), s.flag F.TABLES_AUDIT_CTRL_EN = false :=
  ⟨fl [(F.TABLES_AUDIT_CTRL_EN, 0)], by decide +kernel⟩

theorem wit_LearningAgeingAudit_16 : ∃ (s : State), s.auditDue = false :=
  ⟨tb { auditAt := some 0 } [(F.TABLES_AUDIT_CTRL_PERIOD_S, 10)], by decide +kernel⟩

theorem wit_LearningAgeingAudit_17 : ∃ (s : State) (u : State) (r : Fin 7), s.takesWork 0x30 = true ∧ s.flag
    F.TABLES_AUDIT_CTRL_EN = true ∧ s.auditDue = true ∧ s.fld F.TABLES_AUDIT_CTRL_MASK = 2 ^ r.val ∧ u = s.logShadow
    r.val ∧ s.shadowList r.val = none :=
  ⟨{ fl [(F.TABLES_AUDIT_CTRL_EN, 1), (F.TABLES_AUDIT_CTRL_MASK, 1), (F.TABLES_SHADOW_LO_BASE, 0x1000000)] with mem := [(0x1000000, 65)] },
    _, 0, by decide +kernel, by decide +kernel, by decide +kernel, (by decide +kernel), rfl, by decide +kernel⟩

theorem wit_LearningAgeingAudit_18 : ∃ (s : State), s.tables.suspects = [] :=
  ⟨up, by decide +kernel⟩

theorem wit_LearningAgeingAudit_19 : ∃ (s : State) (r : Nat) (k : Nat) (u : DWord) (sh : List (Nat × Nat)),
    s.tables.suspects = [(r, k, u)] ∧ r ≤ 6 ∧ s.takesWork 0x30 = true ∧ s.flag F.TABLES_AUDIT_CTRL_EN = true ∧ s.fld
    F.TABLES_AUDIT_CFG_CONFIRM_US * 500 ≤ s.now - u.toNat ∧ s.shadowList r = some sh ∧ listAt r sh k = listAt r
    (s.hwList r) k :=
  ⟨tb { suspects := [(4, 9, 0)] } [(F.TABLES_AUDIT_CFG_CONFIRM_US, 0), (F.TABLES_AUDIT_CTRL_EN, 1)], 4, 9, 0, [],
    by decide +kernel⟩

theorem wit_LearningAgeingAudit_20 : ∃ (s : State) (r : Nat) (k : Nat) (u : DWord) (sh : List (Nat × Nat)),
    s.tables.suspects = [(r, k, u)] ∧ r ≤ 6 ∧ s.takesWork 0x30 = true ∧ s.flag F.TABLES_AUDIT_CTRL_EN = true ∧ s.fld
    F.TABLES_AUDIT_CFG_CONFIRM_US * 500 ≤ s.now - u.toNat ∧ s.shadowList r = some sh ∧ listAt r sh k ≠ listAt r
    (s.hwList r) k ∧ s.flt.queue.length < 16 ∧ r < 4 :=
  ⟨tb { suspects := [(0, 9, 0)], profs := [(9, [1])] } [(F.TABLES_AUDIT_CFG_CONFIRM_US, 0), (F.TABLES_AUDIT_CTRL_EN, 1)],
    0, 9, 0, [], by decide +kernel⟩

theorem wit_LearningAgeingAudit_21 : ∃ (s : State) (r : Nat) (k : Nat) (u : DWord) (sh : List (Nat × Nat)),
    s.tables.suspects = [(r, k, u)] ∧ r ≤ 6 ∧ s.takesWork 0x30 = true ∧ s.flag F.TABLES_AUDIT_CTRL_EN = true ∧ s.fld
    F.TABLES_AUDIT_CFG_CONFIRM_US * 500 ≤ s.now - u.toNat ∧ s.shadowList r = some sh ∧ listAt r sh k ≠ listAt r
    (s.hwList r) k ∧ s.flt.queue.length < 16 ∧ s.tables.auditTime = none ∧ r < 4 :=
  ⟨tb { suspects := [(0, 9, 0)], profs := [(9, [1])] } [(F.TABLES_AUDIT_CFG_CONFIRM_US, 0), (F.TABLES_AUDIT_CTRL_EN, 1)],
    0, 9, 0, [], by decide +kernel⟩

theorem wit_LearningAgeingAudit_22 : ∃ (s : State) (r : Nat) (k : Nat) (u : DWord) (sh : List (Nat × Nat)),
    s.tables.suspects = [(r, k, u)] ∧ r ≤ 6 ∧ s.takesWork 0x30 = true ∧ s.flag F.TABLES_AUDIT_CTRL_EN = true ∧ s.fld
    F.TABLES_AUDIT_CFG_CONFIRM_US * 500 ≤ s.now - u.toNat ∧ s.shadowList r = some sh ∧ listAt r sh k ≠ listAt r
    (s.hwList r) k ∧ s.flt.queue.length < 16 ∧ s.flag F.TABLES_AUDIT_CTRL_CORRECT = false :=
  ⟨tb { suspects := [(4, 9, 0)], v4 := [⟨0, 0, 9, 1⟩] } [(F.TABLES_AUDIT_CFG_CONFIRM_US, 0), (F.TABLES_AUDIT_CTRL_EN, 1)],
    4, 9, 0, [], by decide +kernel⟩

theorem wit_LearningAgeingAudit_23 : ∃ (s : State) (r : Nat) (k : Nat) (u : DWord) (sh : List (Nat × Nat)),
    s.tables.suspects = [(r, k, u)] ∧ r ≤ 6 ∧ s.takesWork 0x30 = true ∧ s.flag F.TABLES_AUDIT_CTRL_EN = true ∧ s.fld
    F.TABLES_AUDIT_CFG_CONFIRM_US * 500 ≤ s.now - u.toNat ∧ s.shadowList r = some sh ∧ listAt r sh k ≠ listAt r
    (s.hwList r) k ∧ s.flt.queue.length < 16 ∧ s.flag F.TABLES_AUDIT_CTRL_CORRECT = true :=
  ⟨tb { suspects := [(4, 9, 0)], v4 := [⟨0, 0, 9, 1⟩] } [(F.TABLES_AUDIT_CFG_CONFIRM_US, 0), (F.TABLES_AUDIT_CTRL_EN, 1), (F.TABLES_AUDIT_CTRL_CORRECT, 1)],
    4, 9, 0, [], by decide +kernel⟩

theorem wit_TableCommands_0 : ∃ (s : State) (u : State) (k : BitVec 4) (x : BitVec 17) (i : Instr), tblRuns s u ∧ (8 ≤
    k.toNat ∨ u.flag F.TABLES_STATUS_BUSY = true) ∧ i ∈ [Instr.tablesAdd k x, .tablesUpdate k x, .tablesDelete k x,
    .tablesReadKey k x, .tablesWriteIndexed k x, .tablesReadIndex k x, .flush k] :=
  ⟨fl [(F.TABLES_STATUS_BUSY, 1)], (fl [(F.TABLES_STATUS_BUSY, 1)]).touch A.TABLES_CMD, 0, 0, .tablesAdd 0 0,
    ⟨by decide +kernel, rfl⟩, by decide +kernel, .head _⟩

theorem wit_TableCommands_1 : ∃ (s : State) (u : State) (_ : BitVec 17), tblFree s u ∧ ¬ stagedL2Legal u :=
  ⟨up, (up).touch A.TABLES_CMD, 0, ⟨⟨by decide +kernel, rfl⟩, by decide +kernel⟩,
    by unfold stagedL2Legal; decide +kernel⟩

theorem wit_TableCommands_3 : ∃ (s : State) (u : State) (_ : BitVec 17), tblFree s u ∧ stagedL2Legal u ∧ u.l2Find
    u.stagedL2.bd u.stagedL2.mac = none ∧ u.l2Insert u.stagedL2 = none :=
  ⟨stg (tb { l2 := fullL2 5 } []) [5, 4], (stg (tb { l2 := fullL2 5 } []) [5, 4]).touch A.TABLES_CMD, 0,
    ⟨⟨by decide +kernel, rfl⟩, by decide +kernel⟩, by unfold stagedL2Legal; decide +kernel, by decide +kernel⟩

theorem wit_TableCommands_4 : ∃ (s : State) (u : State) (_ : BitVec 17), tblFree s u ∧ ¬ stagedV4Legal u :=
  ⟨stg up [33], (stg up [33]).touch A.TABLES_CMD, 0, ⟨⟨by decide +kernel, rfl⟩, by decide +kernel⟩,
    by unfold stagedV4Legal; decide +kernel⟩

theorem wit_TableCommands_5 : ∃ (s : State) (u : State) (_ : BitVec 17), tblFree s u ∧ stagedV4Legal u ∧ ((∃ y ∈
    u.tables.v4, sameRoute u y)) :=
  ⟨tb { v4 := [⟨0, 0, 0, 9⟩] } [], (tb { v4 := [⟨0, 0, 0, 9⟩] } []).touch A.TABLES_CMD, 0,
    ⟨⟨by decide +kernel, rfl⟩, by decide +kernel⟩, by unfold stagedV4Legal; decide +kernel,
    ⟨⟨0, 0, 0, 9⟩, .head _, by unfold sameRoute; decide +kernel⟩⟩

theorem wit_TableCommands_6 : ∃ (s : State) (u : State) (_ : BitVec 17), tblFree s u ∧ stagedV4Legal u ∧ ((∀ y ∈
    u.tables.v4, ¬ sameRoute u y)) ∧ 65536 ≤ u.tables.v4.length :=
  ⟨tb { v4 := List.replicate 65536 ⟨1, 0, 0, 0⟩ } [],
    (tb { v4 := List.replicate 65536 ⟨1, 0, 0, 0⟩ } []).touch A.TABLES_CMD, 0,
    ⟨⟨by decide +kernel, rfl⟩, by decide +kernel⟩, by unfold stagedV4Legal; decide +kernel,
    by intro y hy; rw [List.eq_of_mem_replicate hy]; unfold sameRoute; decide +kernel,
    (List.length_replicate (n := 65536)).ge⟩

theorem wit_TableCommands_7 : ∃ (s : State) (u : State) (_ : BitVec 17), tblFree s u ∧ stagedV4Legal u ∧ ((∀ y ∈
    u.tables.v4, ¬ sameRoute u y)) ∧ u.tables.v4.length < 65536 :=
  ⟨up, (up).touch A.TABLES_CMD, 0, ⟨⟨by decide +kernel, rfl⟩, by decide +kernel⟩,
    by unfold stagedV4Legal; decide +kernel, (by intro y hy; cases hy), by decide +kernel⟩

theorem wit_TableCommands_8 : ∃ (s : State) (u : State) (x : BitVec 17), tblFree s u ∧ x.toNat < 65536 ∧ u.sessAt
    x.toNat = none ∧ u.tables.ends = [] ∧ u.stagedSess.check = none ∧ ((u.keyFind (u.stagedSess.key false)).isSome =
    true ∨ (u.keyFind (u.stagedSess.key true)).isSome = true) :=
  ⟨stg (tb { sess := [(7, some { words := [0x0202] })], keySlots := [(up.home key0 0, some 14)] } []) [0x0202],
    (stg (tb { sess := [(7, some { words := [0x0202] })], keySlots := [(up.home key0 0, some 14)] } []) [0x0202]).touch A.TABLES_CMD,
    0, ⟨⟨by decide +kernel, rfl⟩, by decide +kernel⟩, by decide +kernel⟩

theorem wit_TableCommands_9 : ∃ (s : State) (u : State) (x : BitVec 17), tblFree s u ∧ x.toNat < 65536 ∧ u.sessAt
    x.toNat = none ∧ u.tables.ends = [] ∧ u.stagedSess.check = none ∧ u.keyFind (u.stagedSess.key false) = none ∧
    u.keyFind (u.stagedSess.key true) = none :=
  ⟨stg up [0x0202], (stg up [0x0202]).touch A.TABLES_CMD, 0, ⟨⟨by decide +kernel, rfl⟩, by decide +kernel⟩,
    by decide +kernel⟩

theorem wit_TableCommands_10 : ∃ (s : State) (u : State) (x : BitVec 17) (y : Session), tblFree s u ∧ x.toNat < 65536
    ∧ u.sessAt x.toNat = some y ∧ u.recordFits (u.fld F.TABLES_FIFO_SESS_FIFO) 4 = false :=
  ⟨tb { sess := [(7, some { words := [0x0202] })] } [],
    (tb { sess := [(7, some { words := [0x0202] })] } []).touch A.TABLES_CMD, 7, { words := [0x0202] },
    ⟨⟨by decide +kernel, rfl⟩, by decide +kernel⟩, by decide +kernel⟩

theorem wit_TableCommands_11 : ∃ (s : State) (u : State) (k : BitVec 4) (x : BitVec 17), tblFree s u ∧ k.toNat < 8 ∧
    (k.toNat < 4 ∨ idxCount k.toNat ≤ x.toNat ∨ idxLegal k.toNat x.toNat (u.stagedIdx k.toNat) = false) :=
  ⟨up, (up).touch A.TABLES_CMD, 0, 0, ⟨⟨by decide +kernel, rfl⟩, by decide +kernel⟩, by decide +kernel⟩

theorem wit_TableCommands_12 : ∃ (s : State) (u : State) (k : BitVec 4) (x : BitVec 17), tblFree s u ∧ k.toNat < 8 ∧ 4
    ≤ k.toNat ∧ x.toNat < idxCount k.toNat ∧ idxLegal k.toNat x.toNat (u.stagedIdx k.toNat) = true :=
  ⟨up, (up).touch A.TABLES_CMD, 4, 0, ⟨⟨by decide +kernel, rfl⟩, by decide +kernel⟩, by decide +kernel⟩

theorem wit_TableCommands_13 : ∃ (s : State) (u : State) (k : BitVec 4) (x : BitVec 17), tblFree s u ∧ 4 ≤ k.toNat ∧
    k.toNat < 8 ∧ idxCount k.toNat ≤ x.toNat :=
  ⟨up, (up).touch A.TABLES_CMD, 4, 0x4000, ⟨⟨by decide +kernel, rfl⟩, by decide +kernel⟩, by decide +kernel⟩

theorem wit_TableCommands_14 : ∃ (s : State) (u : State) (k : BitVec 4) (x : BitVec 17), tblFree s u ∧ 4 ≤ k.toNat ∧
    k.toNat < 8 ∧ x.toNat < idxCount k.toNat ∧ (u.idxWords k.toNat x.toNat).length ≤ 24 :=
  ⟨up, (up).touch A.TABLES_CMD, 4, 0, ⟨⟨by decide +kernel, rfl⟩, by decide +kernel⟩, by decide +kernel⟩

theorem wit_TableCommands_15 : ∃ (s : State) (u : State) (_ : BitVec 17), tblFree s u ∧ u.l2Find u.stagedL2.bd
    u.stagedL2.mac = none :=
  ⟨stg up [5, 4], (stg up [5, 4]).touch A.TABLES_CMD, 0, ⟨⟨by decide +kernel, rfl⟩, by decide +kernel⟩,
    by decide +kernel⟩

theorem wit_TableCommands_16 : ∃ (s : State) (u : State), tblFree s u ∧ getBits (u.tblStage 0) 0 12 = 0 :=
  ⟨up, (up).touch A.TABLES_CMD, ⟨⟨by decide +kernel, rfl⟩, by decide +kernel⟩, by decide +kernel⟩

theorem wit_TableCommands_17 : ∃ (s : State) (u : State), tblFree s u ∧ getBits (u.tblStage 0) 0 12 = 0xFFF ∧
    (u.tblStage 3).getLsbD 31 = false :=
  ⟨stg up [0xFFF], (stg up [0xFFF]).touch A.TABLES_CMD, ⟨⟨by decide +kernel, rfl⟩, by decide +kernel⟩,
    by decide +kernel⟩

/-- TM holds `x`, and some fields are set. -/
def tms (x : TmSt) (xs : List (Fld × Nat)) : State := { fl xs with tm := x }

/-- REGSVC holds `x`, and some fields are set. -/
def rgs (x : RegSt) (xs : List (Fld × Nat)) : State := { fl xs with regsvc := x }

/-- Staging asks for a downlink flow to peer 1, with words 6 and 7 as given; the peer, the SORT entry, the branches and the
rounds of radio 0 suit it. -/
def asking (w6 w7 : Word) : State :=
  { setR (setF (assoc peer {}) [(F.SORT_PORT_CFG_REG_PCP 0, 1), (F.ROUNDS_RCFG_EN 0, 1), (F.ROUNDS_RCFG_ROUND_LEN_US 0, 20000)])
      [(A.CKGEN_GATE, 0x55555555), (A.REGSVC_STAGE 2, 0x10000), (A.REGSVC_STAGE 3, 0x100), (A.REGSVC_STAGE 5, 0x40100),
        (A.REGSVC_STAGE 6, w6), (A.REGSVC_STAGE 7, w7)] with
    sort := { cam := [(0, { banks := 1, act := 0x2200000 })] } }

theorem left_ex {α β γ : Type} {x : (α × β) ⊕ γ} (h : x.isLeft = true) : ∃ a b, x = .inl (a, b) := by
  obtain ⟨y, hy⟩ := Sum.isLeft_iff.mp h; exact ⟨y.1, y.2, hy⟩

theorem wit_RegisteredService_3 : ∃ (s u : State) (f : BitVec 9) (a : FlowAsk) (bound : Nat), flowIdle s u ∧
    a = Machine.flowAsk (stagedFlow u) ∧ u.admitCheck f.toNat a = none ∧
    bound = u.boundUs a ((u.upFlows f.toNat).map u.flowAsk) ∧ bound ≤ a.d ∧ a.up = false ∧
    sumOf u.heldFlows u.flowRecords + u.askRecords a ≤ 4096 ∧
    cdiv (sumOf u.heldFlows u.flowCharge + poolCharge (u.askRecords a) a.lmax) 65536 + 16 ≤ u.fld F.TM_POOL_CFG_SRAM_POOL ∧
    ∃ got v, (u.wrList A.REGSVC_STAGE_RO (u.computed a bound 0)).askRounds
      (u.wrList A.REGSVC_STAGE_RO (u.computed a bound 0)) f.toNat a a.links [] = .inl (got, v) := by
  refine ⟨asking 100 0x010186A0, _, 0, _, _, ⟨⟨by decide +kernel, rfl⟩, by decide +kernel⟩, rfl, by decide +kernel, rfl,
    by decide +kernel, by decide +kernel, by decide +kernel, by decide +kernel, ?_⟩
  exact left_ex (by decide +kernel)

theorem wit_TrafficManagerFrames_0 : ∃ (s : State), ((s.tm.inbox = [] ∨ s.takesWork 0x40 = false)) :=
  ⟨up, by decide +kernel⟩

theorem wit_TrafficManagerFrames_1 : ∃ (s : State) (p : Pkt) (e : Nat) (_ : Nat) (_ : Word) (_ : Bool), s.qEn
    (actField p.act 8 13) = true ∧ s.qEgress (actField p.act 8 13) = e :=
  ⟨tms { queues := [(0, [0x80000000, 2])] } [], pk 0, 2, 0, 0, false, by decide +kernel⟩

theorem wit_TrafficManagerFrames_2 : ∃ (s : State) (p : Pkt) (e : Nat) (_ : Nat) (m : Word) (_ : Bool), s.qEn
    (actField p.act 8 13) = false ∧ m = idxWord s.tm.egmap (mapIndex e) 0 ∧ m.getLsbD 31 = false :=
  ⟨up, pk 0, 2, 0, _, false, by decide +kernel, rfl, by decide +kernel⟩

theorem wit_TrafficManagerFrames_3 : ∃ (s : State) (p : Pkt) (e : Nat) (q : Nat) (m : Word) (_ : Bool), s.qEn
    (actField p.act 8 13) = false ∧ m = idxWord s.tm.egmap (mapIndex e) 0 ∧ m.getLsbD 31 = true ∧ q = getBits m 0 13 +
    getBits (s.rd (A.TM_CMAP (getBits m 24 3) (actField p.act 0 6 / 4))) (8 * (actField p.act 0 6 % 4)) 3 % 2 ^
    getBits m 28 2 :=
  ⟨tms { egmap := [(2, [0x80000005, 0])] } [], pk 0, 2, 5, 0x80000005, false, by decide +kernel⟩

theorem wit_TrafficManagerFrames_4 : ∃ (s : State) (u : State) (p : Pkt) (rest : List Pkt) (c : Nat), tmHead s u p
    rest ∧ actField p.act 23 1 = 0 ∧ ((∀ e, p.egress = some e → e / 65536 ≠ 5)) ∧ u.queueFor p p.egress false = .inl c
    :=
  ⟨tms { inbox := [pk 0] } [], (tms { inbox := [pk 0] } []).refill, pk 0, [], C.TM_Q_DISABLED,
    ⟨rfl, by decide +kernel, rfl, rfl⟩, by decide +kernel, none_all rfl, by decide +kernel⟩

theorem wit_TrafficManagerFrames_5 : ∃ (s : State) (u : State) (p : Pkt) (rest : List Pkt) (q : Nat) (colour : Nat),
    tmHead s u p rest ∧ actField p.act 23 1 = 0 ∧ ((∀ e, p.egress = some e → e / 65536 ≠ 5)) ∧ u.queueFor p p.egress
    false = .inr q ∧ q < 8192 ∧ colour = actField p.act 6 2 ∧ u.qMaxFrame q < p.bytes.length :=
  ⟨tms { inbox := [pk 0], queues := [(0, [0x80000000])] } [],
    (tms { inbox := [pk 0], queues := [(0, [0x80000000])] } []).refill, pk 0, [], 0, 0,
    ⟨rfl, by decide +kernel, rfl, rfl⟩, by decide +kernel, none_all rfl, by decide +kernel⟩

theorem wit_TrafficManagerFrames_6 : ∃ (s : State) (u : State) (p : Pkt) (rest : List Pkt) (q : Nat) (colour : Nat),
    tmHead s u p rest ∧ actField p.act 23 1 = 0 ∧ ((∀ e, p.egress = some e → e / 65536 ≠ 5)) ∧ u.queueFor p p.egress
    false = .inr q ∧ q < 8192 ∧ colour = actField p.act 6 2 ∧ p.bytes.length ≤ u.qMaxFrame q ∧ colourLimit u q colour
    < depthBytes (u.qFrames q) + p.bytes.length :=
  ⟨tms { inbox := [pk 0], queues := [(0, [0x80000000, 0, 100])] } [],
    (tms { inbox := [pk 0], queues := [(0, [0x80000000, 0, 100])] } []).refill, pk 0, [], 0, 0,
    ⟨rfl, by decide +kernel, rfl, rfl⟩, by decide +kernel, none_all rfl, by decide +kernel⟩

theorem wit_TrafficManagerFrames_7 : ∃ (s : State) (u : State) (p : Pkt) (rest : List Pkt) (q : Nat) (colour : Nat),
    tmHead s u p rest ∧ actField p.act 23 1 = 0 ∧ ((∀ e, p.egress = some e → e / 65536 ≠ 5)) ∧ u.queueFor p p.egress
    false = .inr q ∧ q < 8192 ∧ colour = actField p.act 6 2 ∧ p.bytes.length ≤ u.qMaxFrame q ∧ depthBytes (u.qFrames
    q) + p.bytes.length ≤ colourLimit u q colour ∧ u.placeFor q p.bytes.length = none :=
  ⟨tms { inbox := [pk 0], queues := [(0, [0x80000000, 0, 100, 1])] } [(F.TM_POOL_CFG_SRAM_POOL, 0)],
    (tms { inbox := [pk 0], queues := [(0, [0x80000000, 0, 100, 1])] } [(F.TM_POOL_CFG_SRAM_POOL, 0)]).refill, pk 0,
    [], 0, 0, ⟨rfl, by decide +kernel, rfl, rfl⟩, by decide +kernel, none_all rfl, by decide +kernel⟩

theorem wit_TrafficManagerFrames_8 : ∃ (s : State) (k : Nat) (_ : Nat) (_ : Nat), (s.polWord k 0).getLsbD 31 = false
    :=
  ⟨up, 0, 0, 3, by decide +kernel⟩

theorem wit_TrafficManagerFrames_9 : ∃ (s : State) (t : State) (k : Nat) (c : Nat) (len : Nat) (colour : Nat) (drop :
    Bool), (s.polWord k 0).getLsbD 31 = true ∧ (s.polWord k 0).getLsbD 30 = false ∧ s.police k c len = (colour, drop,
    t) ∧ s.polTp k < 65536 * len :=
  ⟨tms { pols := [(0, [0x80000000])] } [], (State.police (tms { pols := [(0, [0x80000000])] } []) 0 0 3).2.2, 0, 0, 3,
    (State.police (tms { pols := [(0, [0x80000000])] } []) 0 0 3).1,
    (State.police (tms { pols := [(0, [0x80000000])] } []) 0 0 3).2.1, by decide +kernel, by decide +kernel, rfl,
    by decide +kernel⟩

theorem wit_TrafficManagerFrames_10 : ∃ (s : State) (t : State) (k : Nat) (c : Nat) (len : Nat) (colour : Nat) (drop :
    Bool), (s.polWord k 0).getLsbD 31 = true ∧ (s.polWord k 0).getLsbD 30 = false ∧ s.police k c len = (colour, drop,
    t) ∧ 65536 * len ≤ s.polTp k ∧ s.polTc k < 65536 * len :=
  ⟨tms { pols := [(0, [0x80000000])], tp := [(0, 655360)] } [],
    (State.police (tms { pols := [(0, [0x80000000])], tp := [(0, 655360)] } []) 0 0 3).2.2, 0, 0, 3,
    (State.police (tms { pols := [(0, [0x80000000])], tp := [(0, 655360)] } []) 0 0 3).1,
    (State.police (tms { pols := [(0, [0x80000000])], tp := [(0, 655360)] } []) 0 0 3).2.1, by decide +kernel,
    by decide +kernel, rfl, by decide +kernel⟩

theorem wit_TrafficManagerFrames_11 : ∃ (s : State) (t : State) (k : Nat) (c : Nat) (len : Nat) (colour : Nat) (drop :
    Bool), (s.polWord k 0).getLsbD 31 = true ∧ (s.polWord k 0).getLsbD 30 = false ∧ s.police k c len = (colour, drop,
    t) ∧ 65536 * len ≤ s.polTp k ∧ 65536 * len ≤ s.polTc k :=
  ⟨tms { pols := [(0, [0x80000000])], tp := [(0, 655360)], tc := [(0, 655360)] } [],
    (State.police (tms { pols := [(0, [0x80000000])], tp := [(0, 655360)], tc := [(0, 655360)] } []) 0 0 3).2.2, 0, 0,
    3, (State.police (tms { pols := [(0, [0x80000000])], tp := [(0, 655360)], tc := [(0, 655360)] } []) 0 0 3).1,
    (State.police (tms { pols := [(0, [0x80000000])], tp := [(0, 655360)], tc := [(0, 655360)] } []) 0 0 3).2.1,
    by decide +kernel, by decide +kernel, rfl, by decide +kernel⟩

theorem wit_TrafficManagerFrames_12 : ∃ (s : State) (u : State) (s1 : State) (p : Pkt) (rest : List Pkt) (colour :
    Nat), tmHead s u p rest ∧ actField p.act 23 1 = 1 ∧ u.police (actField p.act 32 12) (actField p.act 6 2)
    p.bytes.length = (colour, true, s1) :=
  ⟨tms { inbox := [{ pk 0 with act := 0x800000 }], pols := [(0, [0xA0000000])] } [],
    (tms { inbox := [{ pk 0 with act := 0x800000 }], pols := [(0, [0xA0000000])] } []).refill,
    (State.police ((tms { inbox := [{ pk 0 with act := 0x800000 }], pols := [(0, [0xA0000000])] } []).refill) 0 0 3).2.2,
    { pk 0 with act := 0x800000 }, [], 2, ⟨rfl, by decide +kernel, rfl, rfl⟩, by decide +kernel,
    Prod.ext (by decide +kernel) (Prod.ext (by decide +kernel) rfl)⟩

theorem wit_TrafficManagerFrames_13 : ∃ (s : State) (u : State) (p : Pkt) (rest : List Pkt) (e : Nat) (ms : List Nat),
    tmHead s u p rest ∧ actField p.act 23 1 = 0 ∧ p.egress = some e ∧ e / 65536 = 5 ∧ ms = (u.floodMembers (e %
    1024)).filter (fun m => decide (m ≠ p.srcEg) && decide (some m ≠ p.skip)) ∧ ms = [] :=
  ⟨tms { inbox := [{ pk 0 with egress := some 0x50000 }] } [],
    (tms { inbox := [{ pk 0 with egress := some 0x50000 }] } []).refill, { pk 0 with egress := some 0x50000 }, [],
    0x50000, [], ⟨rfl, by decide +kernel, rfl, rfl⟩, by decide +kernel⟩

theorem wit_TrafficManagerFrames_14 : ∃ (s : State) (u : State) (p : Pkt) (rest : List Pkt) (e : Nat) (ms : List Nat),
    tmHead s u p rest ∧ actField p.act 23 1 = 0 ∧ p.egress = some e ∧ e / 65536 = 5 ∧ ms = (u.floodMembers (e %
    1024)).filter (fun m => decide (m ≠ p.srcEg) && decide (some m ≠ p.skip)) ∧ ms ≠ [] :=
  ⟨tms { inbox := [{ pk 0 with egress := some 0x50000 }], floods := [(0, [0x80000003])] } [],
    (tms { inbox := [{ pk 0 with egress := some 0x50000 }], floods := [(0, [0x80000003])] } []).refill,
    { pk 0 with egress := some 0x50000 }, [], 0x50000, [1], ⟨rfl, by decide +kernel, rfl, rfl⟩, by decide +kernel⟩

theorem wit_TrafficManagerFrames_15 : ∃ (e : BitVec 20) (_ : BitVec 3) (_ : Option BufUpset) (s : State),
    ((s.takesWork 0x40 = false ∨ s.egressWorks e.toNat = false)) :=
  ⟨0x30000, 0, none, setR up [(A.CKGEN_GATE, 0)], by decide +kernel⟩

theorem wit_TrafficManagerFrames_16 : ∃ (e : BitVec 20) (_ : BitVec 3) (_ : Option BufUpset) (s : State) (u : State),
    s.takesWork 0x40 = true ∧ s.takesWork 0x60 = true ∧ u = s.refill ∧ u.queuesOf (mapIndex e.toNat) = [] ∧ e.toNat /
    65536 = 3 :=
  ⟨0x30000, 0, none, up, _, by decide +kernel, by decide +kernel, rfl, by decide +kernel⟩

theorem wit_TrafficManagerFrames_17 : ∃ (e : BitVec 20) (_ : BitVec 3) (s : State) (u : State) (q : Nat) (f : TmFrame)
    (rest : List TmFrame), s.takesWork 0x40 = true ∧ s.takesWork 0x60 = true ∧ u = s.refill ∧ e.toNat / 65536 = 3 ∧
    u.queuesOf (mapIndex e.toNat) = [q] ∧ q < 8192 ∧ u.qFrames q = f :: rest ∧ ((u.qReg q = true ∨ u.qEligible q =
    true)) ∧ u.shapersOf q = [] :=
  ⟨0x30000, 0, tms { queues := [(3, [0xC0000000, 0x30000])], frames := [(3, [tf (pk 0) 0x30000])] } [], _, 3,
    tf (pk 0) 0x30000, [], by decide +kernel, by decide +kernel, rfl, by decide +kernel⟩

theorem wit_TrafficManagerFrames_18 : ∃ (e : BitVec 20) (_ : BitVec 3) (s : State) (u : State) (q : Nat) (f : TmFrame)
    (rest : List TmFrame), s.takesWork 0x40 = true ∧ s.takesWork 0x60 = true ∧ u = s.refill ∧ e.toNat / 65536 = 3 ∧
    u.queuesOf (mapIndex e.toNat) = [q] ∧ q < 8192 ∧ u.qFrames q = f :: rest ∧ u.qReg q = false ∧ u.qEligible q = true
    ∧ u.tm.handed = [] ∧ u.bufPlace f.buf ≠ some .dram ∧ u.poison ≠ [] ∧ f.pkt.reg = none :=
  ⟨0x30000, 0,
    { tms { queues := [(3, [0x80000000, 0x30000])], frames := [(3, [tf (pk 0) 0x30000])] } [] with poison := [5] }, _,
    3, tf (pk 0) 0x30000, [], by decide +kernel, by decide +kernel, rfl, by decide +kernel⟩

theorem wit_TrafficManagerFrames_19 : ∃ (e : BitVec 20) (_ : BitVec 3) (s : State) (u : State) (q : Nat) (f : TmFrame)
    (rest : List TmFrame), s.takesWork 0x40 = true ∧ e.toNat / 65536 = 6 ∧ u = s.refill ∧ u.queuesOf 4 = [q] ∧ q <
    8192 ∧ u.qFrames q = f :: rest ∧ u.qReg q = false ∧ u.qEligible q = true ∧ u.tm.handed = [] ∧ mapIndex f.egress =
    4 :=
  ⟨0x60000, 0, tms { queues := [(3, [0x80000000, 0x60000])], frames := [(3, [tf (pk 0) 0x60000])] } [], _, 3,
    tf (pk 0) 0x60000, [], by decide +kernel, by decide +kernel, rfl, by decide +kernel⟩

theorem wit_TrafficManagerFrames_20 : ∃ (p : Fin 4) (_ : BitVec 3) (s : State) (u : State) (q : Nat) (f : TmFrame)
    (rest : List TmFrame), s.takesWork 0x40 = true ∧ s.takesWork (emacBlock p.val) = true ∧ u = s.refill ∧ u.linkIsUp
    p.val = true ∧ u.handedTo p.val = none ∧ u.queuesOf p.val = [q] ∧ q < 8192 ∧ u.qFrames q = f :: rest ∧ u.qReg q =
    false ∧ u.qEligible q = true ∧ u.pausedFrame p.val f = false ∧ mapIndex f.egress = p.val ∧ f.pkt.tx.oneStep = none
    :=
  ⟨0, 0,
    { setR (fl [(F.EMAC_STATUS_LINK 0, 1)]) [(A.CKGEN_GATE, 0x55555555)] with tm := { queues := [(3, [0x80000000, 0])], frames := [(3, [tf (pk 0) 0])] } },
    _, 3, tf (pk 0) 0, [], by decide +kernel, by decide +kernel, rfl, by decide +kernel⟩

theorem wit_TrafficManagerFrames_21 : ∃ (p : Fin 4) (_ : BitVec 3) (_ : Option BufUpset) (s : State), s.takesWork 0x40
    = true ∧ s.linkIsUp p.val = false ∧ s.flag (F.EMAC_TX_CFG_DOWN_DROP p.val) = false :=
  ⟨0, 0, none, up, by decide +kernel⟩

theorem wit_TrafficManagerCommits_0 : ∃ (s : State) (u : State) (q : BitVec 13) (v : Word) (ws : List Word),
    s.takesWork (windowOf (A.TM_Q_W0 q.toNat)) = true ∧ u = s.touch (A.TM_Q_W0 q.toNat) ∧ ws = [v &&& 0xB7FF1FFF, u.rd
    (A.TM_Q_W1 q.toNat), u.rd (A.TM_Q_W2 q.toNat), u.rd (A.TM_Q_W3 q.toNat)] ∧ u.queueCheck q.toNat ws = none :=
  ⟨up, _, 0, 0, _, by decide +kernel, rfl, rfl, by decide +kernel⟩

theorem wit_TrafficManagerCommits_1 : ∃ (s : State) (u : State) (i : BitVec 11) (v : Word), s.takesWork (windowOf
    (A.TM_EGMAP_W0 i.toNat)) = true ∧ u = s.touch (A.TM_EGMAP_W0 i.toNat) ∧ u.egmapCheck i.toNat (v &&& 0xB7001FFF) =
    false :=
  ⟨up, _, 0, 0x80000000, by decide +kernel, rfl, by decide +kernel⟩

theorem wit_TrafficManagerCommits_2 : ∃ (s : State) (u : State) (i : BitVec 11) (v : Word), s.takesWork (windowOf
    (A.TM_EGMAP_W0 i.toNat)) = true ∧ u = s.touch (A.TM_EGMAP_W0 i.toNat) ∧ u.egmapCheck i.toNat (v &&& 0xB7001FFF) =
    true :=
  ⟨up, _, 0, 0, by decide +kernel, rfl, by decide +kernel⟩

theorem wit_TrafficManagerCommits_3 : ∃ (s : State) (u : State) (g : BitVec 10) (_ : Word), s.takesWork (windowOf
    (A.TM_FLOOD_W0 g.toNat)) = true ∧ u = s.touch (A.TM_FLOOD_W0 g.toNat) :=
  ⟨up, _, 0, 0, by decide +kernel, rfl⟩

theorem wit_TrafficManagerCommits_4 : ∃ (s : State) (u : State) (i : BitVec 13) (v : Word) (ws : List Word),
    s.takesWork (windowOf (A.TM_SH_W0 i.toNat)) = true ∧ u = (s.touch (A.TM_SH_W0 i.toNat)).refill ∧ ws = [v &&&
    0x81FFFFFF, u.rd (A.TM_SH_W1 i.toNat), u.rd (A.TM_SH_W2 i.toNat)] ∧ u.shaperCheck i.toNat ws = none :=
  ⟨up, _, 0, 0, _, by decide +kernel, rfl, rfl, by decide +kernel⟩

theorem wit_TrafficManagerCommits_5 : ∃ (s : State) (u : State) (i : BitVec 13) (v : Word) (k : Nat), k = i.toNat %
    4096 ∧ s.takesWork (windowOf (A.TM_POL_W0 k)) = true ∧ u = (s.touch (A.TM_POL_W0 k)).refill ∧ getBits (u.rd
    (A.TM_POL_W1 k)) 0 25 < getBits v 0 25 :=
  ⟨up, _, 0, 1, 0, by decide +kernel, by decide +kernel, rfl, by decide +kernel⟩

theorem wit_TrafficManagerCommits_6 : ∃ (s : State) (u : State) (i : BitVec 13) (v : Word) (k : Nat), k = i.toNat %
    4096 ∧ s.takesWork (windowOf (A.TM_POL_W0 k)) = true ∧ u = (s.touch (A.TM_POL_W0 k)).refill ∧ getBits v 0 25 ≤
    getBits (u.rd (A.TM_POL_W1 k)) 0 25 :=
  ⟨up, _, 0, 0, 0, by decide +kernel, by decide +kernel, rfl, by decide +kernel⟩

theorem wit_TrafficManagerCommits_7 : ∃ (s : State), (s.refillsDue = 0 ∨ s.takesWork 0x40 = false) :=
  ⟨up, by decide +kernel⟩

theorem wit_TrafficManagerCommits_8 : ∃ (s : State) (n : Nat), s.takesWork 0x40 = true ∧ n = s.refillsDue ∧ 0 < n ∧
    s.tm.shStage = [] ∧ s.tm.polStage = [] ∧ swf (fun _ => ([] : List Word)) s.tm.shapers = true ∧ swf (fun _ => ([] :
    List Word)) s.tm.pols = true :=
  ⟨{ tms { shapers := [(0, [0x80000000, 5])] } [] with time := { tick := 1280 } }, _, by decide +kernel, rfl,
    by decide +kernel⟩

theorem wit_TrafficManagerCommits_9 : ∃ (s : State) (i : Nat) (ws : List Word), s.tm.shStage = [(i, ws)] ∧
    s.tm.polStage = [] ∧ s.tm.shapers = [] ∧ s.tm.pols = [] ∧ (ws.getD 0 0).getLsbD 31 = true ∧ s.takesWork 0x40 =
    true ∧ 0 < s.refillsDue :=
  ⟨{ tms { shStage := [(0, [0x80000000, 5])] } [] with time := { tick := 1280 } }, 0, [0x80000000, 5],
    by decide +kernel⟩

theorem wit_TrafficManagerCommits_10 : ∃ (s : State) (u : State) (_ : BitVec 13), s.takesWork (windowOf A.TM_QCMD) =
    true ∧ u = s.touch A.TM_QCMD ∧ u.flag F.TM_QSTATUS_BUSY = true :=
  ⟨fl [(F.TM_QSTATUS_BUSY, 1)], _, 0, by decide +kernel, rfl, by decide +kernel⟩

theorem wit_TrafficManagerCommits_11 : ∃ (s : State) (u : State) (q : BitVec 13), s.takesWork (windowOf A.TM_QCMD) =
    true ∧ u = s.touch A.TM_QCMD ∧ u.flag F.TM_QSTATUS_BUSY = false ∧ u.qReg q.toNat = true ∧ getBits (u.rd
    (cfgStatusOf A.TM_QCMD)) 0 8 = 0 :=
  ⟨tms { queues := [(0, [0x40000000])] } [], _, 0, by decide +kernel, rfl, by decide +kernel⟩

theorem wit_TrafficManagerCommits_12 : ∃ (s : State) (u : State) (q : BitVec 13), s.takesWork (windowOf A.TM_QCMD) =
    true ∧ u = s.touch A.TM_QCMD ∧ u.flag F.TM_QSTATUS_BUSY = false ∧ u.qReg q.toNat = false :=
  ⟨up, _, 0, by decide +kernel, rfl, by decide +kernel⟩

theorem wit_TrafficManagerCommits_13 : ∃ (s : State), ((s.flag F.TM_SAMPLE_CFG_EN = false ∨ s.tm.sampleNext = none ∨ ∃
    d, s.tm.sampleNext = some d ∧ s.now < max d s.tm.sampleEnd)) :=
  ⟨up, Or.inl (by decide +kernel)⟩

theorem wit_TrafficManagerCommits_14 : ∃ (s : State) (d : Nat) (q : Nat) (ws : List Word), s.takesWork 0x40 = true ∧
    s.flag F.TM_SAMPLE_CFG_EN = true ∧ s.tm.sampleNext = some d ∧ max d s.tm.sampleEnd ≤ s.now ∧ q = s.fld
    F.TM_SAMPLE_RANGE_FIRST ∧ q = s.fld F.TM_SAMPLE_RANGE_LAST ∧ ws = [BitVec.ofNat 32 (0x7A000000 +
    s.tm.sampleDropped * 65536 + q), BitVec.ofNat 32 (depthBytes (s.qFrames q)), BitVec.ofNat 32 (s.qFrames q).length,
    BitVec.ofNat 32 (sget (fun _ => 0) s.tm.marks q)] ∧ s.recordFits (s.fld F.TM_SAMPLE_CFG_FIFO) 4 = true :=
  ⟨tms { sampleNext := some 0 } [(F.TM_SAMPLE_CFG_EN, 1), (F.TM_SAMPLE_CFG_FIFO, 2), (F.PIGEON_CFG_EN 2, 1), (F.PIGEON_CFG_PROD 2, 2), (F.PIGEON_CFG_DEPTH_LOG2 2, 8)],
    0, 0, _, by decide +kernel, by decide +kernel, by decide +kernel, (by decide +kernel), by decide +kernel,
    by decide +kernel, rfl, by decide +kernel⟩

theorem wit_TrafficManagerCommits_15 : ∃ (s : State) (d : Nat) (q : Nat) (ws : List Word), s.takesWork 0x40 = true ∧
    s.flag F.TM_SAMPLE_CFG_EN = true ∧ s.tm.sampleNext = some d ∧ max d s.tm.sampleEnd ≤ s.now ∧ q = s.fld
    F.TM_SAMPLE_RANGE_FIRST ∧ q = s.fld F.TM_SAMPLE_RANGE_LAST ∧ ws = [BitVec.ofNat 32 (0x7A000000 +
    s.tm.sampleDropped * 65536 + q), BitVec.ofNat 32 (depthBytes (s.qFrames q)), BitVec.ofNat 32 (s.qFrames q).length,
    BitVec.ofNat 32 (sget (fun _ => 0) s.tm.marks q)] ∧ s.recordFits (s.fld F.TM_SAMPLE_CFG_FIFO) 4 = false :=
  ⟨tms { sampleNext := some 0 } [(F.TM_SAMPLE_CFG_EN, 1)], 0, 0, _, by decide +kernel, by decide +kernel,
    by decide +kernel, (by decide +kernel), by decide +kernel, by decide +kernel, rfl, by decide +kernel⟩

theorem wit_TrafficManagerCommits_16 : ∃ (s : State) (q : BitVec 13), s.gated (windowOf (A.TM_Q_MAX_DELAY q.toNat)) =
    true :=
  ⟨setR up [(A.CKGEN_GATE, 0)], 0, by decide +kernel⟩

theorem wit_TrafficManagerCommits_17 : ∃ (s : State) (u : State) (q : BitVec 13), s.takesWork (windowOf
    (A.TM_Q_MAX_DELAY q.toNat)) = true ∧ u = s.touch (A.TM_Q_MAX_DELAY q.toNat) :=
  ⟨up, _, 0, by decide +kernel, rfl⟩

theorem wit_RegisteredService_0 : ∃ (s : State) (u : State) (f : BitVec 9) (c : Instr), flowCmd s u ∧ u.flag
    F.REGSVC_FLOW_STATUS_BUSY = true ∧ (c = .flowAdmit f ∨ c = .flowRelease f ∨ c = .flowRead f) :=
  ⟨fl [(F.REGSVC_FLOW_STATUS_BUSY, 1)], (fl [(F.REGSVC_FLOW_STATUS_BUSY, 1)]).touch A.REGSVC_FLOW_CMD, 0,
    .flowAdmit 0, ⟨by decide +kernel, rfl⟩, by decide +kernel⟩

theorem wit_RegisteredService_1 : ∃ (s : State) (u : State) (f : BitVec 9) (r : Nat), flowIdle s u ∧ u.admitCheck
    f.toNat (Machine.flowAsk (stagedFlow u)) = some r :=
  ⟨up, (up).touch A.REGSVC_FLOW_CMD, 0, 13, ⟨⟨by decide +kernel, rfl⟩, by decide +kernel⟩, by decide +kernel⟩

theorem wit_RegisteredService_2 : ∃ (s : State) (u : State) (f : BitVec 9) (a : FlowAsk) (bound : Nat), flowIdle s u ∧
    a = Machine.flowAsk (stagedFlow u) ∧ u.admitCheck f.toNat a = none ∧ bound = u.boundUs a ((u.upFlows f.toNat).map
    u.flowAsk) ∧ a.d < bound :=
  ⟨asking 100 0x01000064, (asking 100 0x01000064).touch A.REGSVC_FLOW_CMD, 0, _, _,
    ⟨⟨by decide +kernel, rfl⟩, by decide +kernel⟩, rfl, by decide +kernel, rfl, by decide +kernel⟩

theorem wit_RegisteredService_4 : ∃ (s : State) (u : State) (f : BitVec 9) (a : FlowAsk) (bound : Nat), flowIdle s u ∧
    a = Machine.flowAsk (stagedFlow u) ∧ u.admitCheck f.toNat a = none ∧ bound = u.boundUs a ((u.upFlows f.toNat).map
    u.flowAsk) ∧ bound ≤ a.d ∧ a.up = false ∧ 4096 < sumOf u.heldFlows u.flowRecords + u.askRecords a :=
  ⟨setF (asking 100 0x400F4240) [(F.ROUNDS_RCFG_ROUND_LEN_US 0, 10000)],
    (setF (asking 100 0x400F4240) [(F.ROUNDS_RCFG_ROUND_LEN_US 0, 10000)]).touch A.REGSVC_FLOW_CMD, 0, _, _,
    ⟨⟨by decide +kernel, rfl⟩, by decide +kernel⟩, rfl, by decide +kernel, rfl, by decide +kernel⟩

theorem wit_RegisteredService_5 : ∃ (s : State) (u : State) (f : BitVec 9), flowIdle s u ∧ u.flowLive f.toNat = false
    :=
  ⟨up, (up).touch A.REGSVC_FLOW_CMD, 0, ⟨⟨by decide +kernel, rfl⟩, by decide +kernel⟩, by decide +kernel⟩

theorem wit_RegisteredService_6 : ∃ (s : State) (u : State) (f : BitVec 9), flowIdle s u ∧ u.flowLive f.toNat = true
    :=
  ⟨fl [(F.REGSVC_FLOW_W0_STATE 0, 1)], (fl [(F.REGSVC_FLOW_W0_STATE 0, 1)]).touch A.REGSVC_FLOW_CMD, 0,
    ⟨⟨by decide +kernel, rfl⟩, by decide +kernel⟩, by decide +kernel⟩

theorem wit_RegisteredService_7 : ∃ (s : State) (u : State) (f : BitVec 9), flowIdle s u ∧ u.flowState f.toNat = 0 :=
  ⟨up, (up).touch A.REGSVC_FLOW_CMD, 0, ⟨⟨by decide +kernel, rfl⟩, by decide +kernel⟩, by decide +kernel⟩

theorem wit_RegisteredService_8 : ∃ (s : State) (u : State) (f : BitVec 9), flowIdle s u ∧ u.flowState f.toNat ≠ 0 :=
  ⟨fl [(F.REGSVC_FLOW_W0_STATE 0, 1)], (fl [(F.REGSVC_FLOW_W0_STATE 0, 1)]).touch A.REGSVC_FLOW_CMD, 0,
    ⟨⟨by decide +kernel, rfl⟩, by decide +kernel⟩, by decide +kernel⟩

theorem wit_RegisteredService_9 : ∃ (s : State) (f : BitVec 9), ((s.flowState f.toNat ≠ 4 ∨ ∃ r ∈ s.regsvc.recs,
    r.flow = f.toNat)) :=
  ⟨up, 0, by decide +kernel⟩

theorem wit_RegisteredService_10 : ∃ (s : State) (f : BitVec 9), s.takesWork regBlock = true ∧ s.flowState f.toNat = 4
    ∧ ((∀ r ∈ s.regsvc.recs, r.flow ≠ f.toNat)) ∧ ((∀ r ∈ s.regsvc.recs, r.flow < 512)) :=
  ⟨fl [(F.REGSVC_FLOW_W0_STATE 0, 4)], 0, by decide +kernel⟩

theorem wit_RegisteredService_11 : ∃ (s : State), ((s.regsvc.inbox = [] ∨ s.takesWork regBlock = false)) :=
  ⟨up, by decide +kernel⟩

theorem wit_RegisteredService_12 : ∃ (s : State) (p : Pkt) (rest : List Pkt) (f : Nat), bookHead s p rest f ∧
    s.flowLive f = false :=
  ⟨rgs { inbox := [pk 0] } [], pk 0, [], 0, by unfold bookHead; decide +kernel, by decide +kernel⟩

theorem wit_RegisteredService_13 : ∃ (s : State) (p : Pkt) (rest : List Pkt) (f : Nat), bookHead s p rest f ∧
    s.flowState f = 3 ∧ (s.flowAsk f).up = true :=
  ⟨rgs { inbox := [pk 0], flows := [(0, { words := [0x40000000] })] } [(F.REGSVC_FLOW_W0_STATE 0, 3)], pk 0, [], 0,
    by unfold bookHead; decide +kernel, by decide +kernel⟩

theorem wit_RegisteredService_14 : ∃ (s : State) (p : Pkt) (rest : List Pkt) (f : Nat) (deadline : Nat) (a : FlowAsk),
    bookHead s p rest f ∧ s.flowState f ∈ [1, 2] ∧ a = s.flowAsk f ∧ a.up = true ∧ a.frer = false ∧ deadline =
    p.time.toNat + a.d * 500 ∧ a.lmax < p.bytes.length :=
  ⟨rgs { inbox := [pk 0], flows := [(0, { words := [0x40000000] })] } [(F.REGSVC_FLOW_W0_STATE 0, 1)], pk 0, [], 0, 0,
    _, by unfold bookHead; decide +kernel, by decide +kernel, rfl, by decide +kernel⟩

theorem wit_RegisteredService_15 : ∃ (s : State) (p : Pkt) (rest : List Pkt) (f : Nat) (deadline : Nat) (a : FlowAsk),
    bookHead s p rest f ∧ s.flowState f ∈ [1, 2] ∧ a = s.flowAsk f ∧ a.up = true ∧ a.frer = false ∧ deadline =
    p.time.toNat + a.d * 500 ∧ p.bytes.length ≤ a.lmax ∧ (s.regsvc.recs.filter (fun r => decide (r.flow = f))).length
    < s.flowRecords f ∧ s.now * uTick + tTm + State.slowest a (s.tOut a ((s.upFlows f).map s.flowAsk)) + tGuard ≤
    deadline * uTick :=
  ⟨rgs { inbox := [pk 0], flows := [(0, { words := [0x40000000, 0, 0, 0, 0, 0, 3, 100000, 0, 0, 0, 0, 0, 0, 0x10000] })] } [(F.REGSVC_FLOW_W0_STATE 0, 1)],
    pk 0, [], 0, 50000000, _, by unfold bookHead; decide +kernel, by decide +kernel, rfl, by decide +kernel⟩

theorem wit_RegisteredService_16 : ∃ (s : State) (f : BitVec 9) (n : BitVec 16), s.frameRec f.toNat n.toNat = none :=
  ⟨up, 0, 0, by decide +kernel⟩

theorem wit_RegisteredService_17 : ∃ (s : State) (f : BitVec 9) (n : BitVec 16) (r : FrameRec), s.takesWork regBlock =
    true ∧ s.frameRec f.toNat n.toNat = some r ∧ s.now + 1000 < r.deadline :=
  ⟨rgs { recs := [frec 5000] } [], 0, 0, frec 5000, by decide +kernel⟩

theorem wit_RegisteredService_18 : ∃ (s : State) (f : BitVec 9) (n : BitVec 16) (r : FrameRec), s.takesWork regBlock =
    true ∧ s.frameRec f.toNat n.toNat = some r ∧ r.deadline ≤ s.now + 1000 ∧ (s.flowAsk f.toNat).up = false ∧
    s.flt.queue.length < 16 :=
  ⟨rgs { recs := [frec 1000] } [], 0, 0, frec 1000, by decide +kernel⟩

theorem wit_RegisteredService_19 : ∃ (s : State) (i : BitVec 8), ((∀ x ∈ s.rounds.rsps, x.index ≠ i.toNat)) :=
  ⟨up, 0, by decide +kernel⟩

theorem wit_RegisteredService_20 : ∃ (s : State) (i : BitVec 8) (x : RspRun), s.takesWork regBlock = true ∧
    s.rounds.rsps = [x] ∧ x.index = i.toNat ∧ s.now < x.stop :=
  ⟨{ up with rounds := { rsps := [{ index := 0, start := 0, stop := 9 }] } }, 0,
    { index := 0, start := 0, stop := 9 }, by decide +kernel⟩

theorem wit_RegisteredService_21 : ∃ (s : State) (i : BitVec 8) (x : RspRun), s.takesWork regBlock = true ∧
    s.rounds.rsps = [x] ∧ x.index = i.toNat ∧ x.stop ≤ s.now ∧ s.flag (F.ROUNDS_RSP_W0_DIR i.toNat) = false ∧
    s.regsvc.recs = [] :=
  ⟨{ up with rounds := { rsps := [{ index := 0, start := 0, stop := 0 }] } }, 0,
    { index := 0, start := 0, stop := 0 }, by decide +kernel⟩

theorem wit_RegisteredService_22 : ∃ (s : State) (i : BitVec 8) (x : RspRun), s.takesWork regBlock = true ∧
    s.rounds.rsps = [x] ∧ x.index = i.toNat ∧ x.stop ≤ s.now ∧ s.flag (F.ROUNDS_RSP_W0_DIR i.toNat) = true ∧ (s.flowX
    (s.fld (F.ROUNDS_RSP_W0_FLOW i.toNat))).occHigh = none ∧ (s.flowX (s.fld (F.ROUNDS_RSP_W0_FLOW i.toNat))).residue
    = 0 :=
  ⟨{ fl [(F.ROUNDS_RSP_W0_DIR 0, 1)] with rounds := { rsps := [{ index := 0, start := 0, stop := 0 }] } }, 0,
    { index := 0, start := 0, stop := 0 }, by decide +kernel⟩

theorem wit_RegisteredService_23 : ∃ (s : State) (f : BitVec 9), (s.flowX f.toNat).frer = none :=
  ⟨up, 0, by decide +kernel⟩

theorem wit_RegisteredService_24 : ∃ (s : State) (f : BitVec 9), s.takesWork regBlock = true ∧ s.flowLive f.toNat =
    true ∧ (s.flowX f.toNat).frer.isSome = true ∧ (s.flowX f.toNat).frerTime.toNat + (s.flowAsk f.toNat).resetMs *
    500000 ≤ s.now :=
  ⟨rgs { flows := [(0, { frer := some [] })] } [(F.REGSVC_FLOW_W0_STATE 0, 1)], 0, by decide +kernel⟩

theorem wit_RegisteredService_25 : ∃ (s : State) (f : BitVec 9), s.takesWork regBlock = true ∧ s.flowLive f.toNat =
    true ∧ (s.flowX f.toNat).frer.isSome = true ∧ s.now < (s.flowX f.toNat).frerTime.toNat + (s.flowAsk
    f.toNat).resetMs * 500000 :=
  ⟨rgs { flows := [(0, { frer := some [], frerTime := 9 })] } [(F.REGSVC_FLOW_W0_STATE 0, 1)], 0, by decide +kernel⟩

theorem wit_RegisteredService_26 : ∃ (s : State), s.regsvc.outq = [] :=
  ⟨up, by decide +kernel⟩

theorem wit_RegisteredService_27 : ∃ (s : State) (ws : List Word) (rest : List (List Word)), s.takesWork regBlock =
    true ∧ s.regsvc.outq = ws :: rest ∧ s.recordFits (s.fld F.REGSVC_REPORT_CFG_FIFO) 4 = false :=
  ⟨rgs { outq := [[1, 2, 3, 4]] } [], [1, 2, 3, 4], [], by decide +kernel⟩

theorem wit_RegisteredService_28 : ∃ (s : State) (ws : List Word) (rest : List (List Word)), s.takesWork regBlock =
    true ∧ s.regsvc.outq = ws :: rest ∧ s.recordFits (s.fld F.REGSVC_REPORT_CFG_FIFO) 4 = true :=
  ⟨rgs { outq := [[1, 2, 3, 4]] } [(F.REGSVC_REPORT_CFG_FIFO, 2), (F.PIGEON_CFG_EN 2, 1), (F.PIGEON_CFG_PROD 2, 2), (F.PIGEON_CFG_DEPTH_LOG2 2, 8)],
    [1, 2, 3, 4], [], by decide +kernel⟩

end Sys2Proof.Tests
end

