-- ==== Sys2Proof/Tests/Witnesses4.lean ====
section
/-! SUPPORT. States and operands that meet all hypotheses of a clause of a statement (part 4 of 4): the witness
wit_<Name>_<i> is for clause i of Obligations.<Name>. -/

namespace Sys2Proof.Tests

open Sys2Proof.Machine

set_option Elab.async false

/-- Reset with every branch on, and some fields set. -/
def onB (xs : List (Fld × Nat)) : State := setR (fl xs) [(A.CKGEN_GATE, 0x55555555)]

/-- EMAC 0's link is up. -/
def emUp (xs : List (Fld × Nat)) : State := onB ((F.EMAC_STATUS_LINK 0, 1) :: xs)

/-- A frame with its FCS. -/
def fcs (b : List Byte) : List Byte := b ++ fcsOf b

/-- A frame of 60 bytes with an EtherType. -/
def eth (a b : Byte) : List Byte := List.replicate 12 0 ++ [a, b] ++ List.replicate 46 0

/-- A frame with its FCS and a legal length has no errors. -/
theorem good_ok (s : State) (n : Nat) (b : List Byte) (h1 : 60 ≤ b.length) (h2 : b.length + 4 ≤ s.fld (F.EMAC_RX_CFG_MAX_LEN n)) :
    goodFrame s n (fcs b) b := by
  have h : (fcs b).length - 4 = b.length := by simp [fcs, fcsOf, leBytes_length]
  have h3 : (fcs b).take b.length = b := by simp [fcs]
  have h4 : (fcs b).drop b.length = fcsOf b := by simp [fcs]
  have h5 : (fcs b).length = b.length + 4 := by simp [fcs, fcsOf, leBytes_length]
  refine ⟨?_, by rw [h, h3]⟩
  have h6 : badFcs (fcs b) = false := by simp [badFcs, h3, h4, h5]
  have h7 : ¬ (fcs b).length < 64 := by omega
  have h8 : ¬ s.fld (F.EMAC_RX_CFG_MAX_LEN n) < (fcs b).length := by omega
  simp [State.rxError, h6, h7, h8]

/-- A MACsec frame that is only authenticated: addresses, SecTAG with SCI 0 and PN 5, 20 bytes of data; then its ICV. -/
def secHdr : List Byte := List.replicate 12 0 ++ [0x88, 0xE5, 0x20, 0, 0, 0, 0, 5] ++ List.replicate 28 0
def secNonce0 : List Byte := secNonce false (List.replicate 8 0) 5
def icv : List Byte := (List.range 16).map (Config.tag 2 7 secNonce0 secHdr [])
def badIcv : List Byte := icv.map (fun x => x + 1)
def secB (x : List Byte) : List Byte := secHdr ++ x

/-- A frame whose SecTAG has a version bit. -/
def badTag : List Byte := List.replicate 12 0 ++ [0x88, 0xE5, 0x80] ++ List.replicate 45 0

/-- MACsec runs at port 0 with a usable key in slot 0 whose lowest acceptable PN is `low`. -/
def secSt (v low : Nat) : State :=
  { emUp [(F.EMAC_SECY_CFG_EN 0, 1), (F.EMAC_SECY_CFG_VALIDATE 0, v), (F.EMAC_RXSC_CTRL_VALID 0 0, 1), (F.EMAC_RX_SA_VALID 0 0 0, 1),
      (F.EMAC_TX_SA_VALID 0 0, 1)] with
    keys := { slots := [(0, { key := 7, state := 1, use := 2, rxPn := [low] })] } }

theorem icv_len : icv.length = 16 := by simp [icv]
theorem badIcv_len : badIcv.length = 16 := by simp [badIcv, icv]
theorem sec_icv (x : List Byte) (h : x.length = 16) : slice (secB x) (28 + 20) 16 = x := by
  have e : secHdr.length = 28 + 20 := by decide
  rw [slice, secB, List.drop_left' e, List.take_of_length_le (by omega)]
theorem icv_bad : icv ≠ slice (secB badIcv) (28 + 20) 16 := by
  rw [sec_icv _ badIcv_len]
  intro h
  have h1 : icv.headD 0 = icv.headD 0 + 1 := congrArg (fun l => l.headD 0) h
  have h2 := congrArg BitVec.toNat h1
  rw [BitVec.toNat_add] at h2
  have := (icv.headD 0).isLt
  simp at h2
  omega

/-- Port 0 holds a frame to send. -/
def txSt (x : TmFrame) (xs : List (Fld × Nat)) : State := { emUp xs with tm := { handed := [(0, x)] } }

/-- A frame whose start captured a transmitting MACsec. -/
def secTf : Nat × TmFrame := (0, { tf (pk 0) 0 with secy := 0x80000000 })

theorem wit_EmacTransmissionAndLinks_2 : ∃ (p : Fin 4) (s : State) (x : Nat × TmFrame) (b : List Byte) (an slot : Nat),
    plainSend s p.val x b ∧ x.2.secy.getLsbD 31 = true ∧ s.bypasses p.val b = false ∧
    an = getBits x.2.secy 22 2 ∧ slot = s.fld (F.EMAC_TX_SA_SLOT p.val an) ∧
    s.flag (F.EMAC_TX_SA_VALID p.val an) = true ∧ s.keyWaits slot = false ∧ s.keyCheck slot 1 (secySuits x.2.secy) = none ∧
    (s.keySlot slot).state ≠ 3 :=
  ⟨0, { secSt 0 0 with tm := { handed := [secTf] } }, secTf, [1, 2, 3], 0, 0,
    by unfold plainSend; decide +kernel, by decide +kernel⟩

/-- Ring 0 of a kind, transmit (false) or receive (true), runs in device memory, or in host memory over a link that is up. -/
def ringSt (rx dev : Bool) (held : Nat) : State :=
  let g := ringRegs rx 0
  setR (onB [(F.HOSTP_LINK_UP, bit (!dev))]) [(g.ctrl, if dev then 0xC0100400 else 0x80100400), (g.base.1, 0x1000000), (g.idx, BitVec.ofNat 32 held)]

/-- One transmit descriptor with EOP at the ring's base. -/
def descMem (len : Byte) (w0 : List Nat) : List (Nat × Byte) :=
  (w0.map (fun i => (0x1000000 + i, 1))) ++ (if len = 0 then [] else [(0x1000008, len)]) ++ [(0x100000B, 0x40)]

def descOf (len : Byte) (w0 : List Byte) : TxDesc := txDescOf (w0 ++ List.replicate 4 0 ++ [len, 0, 0, 0x40] ++ List.replicate 20 0)

def txRing (len : Byte) (w0 : List Nat) : State := { ringSt false true 1 with mem := descMem len w0 }

/-- A finished job of transmit ring 0. -/
def job0 : TxJob := { id := 0, ring := 0, cookie := 0, ts := none, status := 0, segments := 1 }

theorem ring_off (n : Nat) : up.rxReady (ringRegs true (0 : Fin 256).val) n = false := by
  have h : up.ringEn (ringRegs true (0 : Fin 256).val) = false := by decide +kernel
  unfold State.rxReady; rw [h]; rfl

/-- A frame of n bytes waits for receive ring 0. -/
def rxFrame (n : Nat) : Nat × TmFrame := (256, tf { pk 0 with bytes := List.replicate n 0 } 0x10000)
def rxRing (dev : Bool) (n : Nat) : State := { ringSt true dev 1 with tm := { handed := [rxFrame n] } }

/-- DRAM of 1 MiB is trained, and its branch runs. -/
def dramSt (xs : List (Fld × Nat)) : State :=
  setR (onB ([(F.DRAMC_STATUS_TRAINED, 1), (F.DRAMC_STATUS_SELF_REFRESH, 0), (F.DRAMC_STATUS_CAP_MIB, 1)] ++ xs)) [(A.CKGEN_GATE, 0x56555555)]

/-- An hour later. -/
def dramLate (xs : List (Fld × Nat)) : State := { dramSt xs with time := { tick := 1800000000000 } }

def ups : DramUpset := { addr := 0x100000000, double := false, rank := false, bank := 0, row := 0 }

theorem wit_EmacReception_0 : ∃ (p : Fin 4) (_ : List Byte) (_ : Bool) (s : State), ¬ portOpen s p.val :=
  ⟨0, [], false, up, by unfold portOpen; decide +kernel⟩

theorem wit_EmacReception_1 : ∃ (_ : Nat) (f : List Byte) (_ : Bool) (_ : State), (f.length < 4 ∨ fcsOf (f.take
    (f.length - 4)) ≠ f.drop (f.length - 4)) :=
  ⟨0, [], false, up, by decide +kernel⟩

theorem wit_EmacReception_2 : ∃ (_ : Nat) (f : List Byte) (ce : Bool) (_ : State), 4 ≤ f.length ∧ fcsOf (f.take
    (f.length - 4)) = f.drop (f.length - 4) ∧ ce = true :=
  ⟨0, fcs [], true, up, by decide +kernel⟩

theorem wit_EmacReception_3 : ∃ (_ : Nat) (f : List Byte) (ce : Bool) (_ : State), 4 ≤ f.length ∧ fcsOf (f.take
    (f.length - 4)) = f.drop (f.length - 4) ∧ ce = false ∧ f.length < 64 :=
  ⟨0, fcs [], false, up, by decide +kernel⟩

theorem wit_EmacReception_4 : ∃ (n : Nat) (f : List Byte) (ce : Bool) (s : State), 4 ≤ f.length ∧ fcsOf (f.take
    (f.length - 4)) = f.drop (f.length - 4) ∧ ce = false ∧ 64 ≤ f.length ∧ s.fld (F.EMAC_RX_CFG_MAX_LEN n) < f.length
    :=
  ⟨0, fcs (eth 8 0), false, fl [(F.EMAC_RX_CFG_MAX_LEN 0, 60)], by decide +kernel⟩

theorem wit_EmacReception_5 : ∃ (n : Nat) (f : List Byte) (ce : Bool) (s : State), 4 ≤ f.length ∧ fcsOf (f.take
    (f.length - 4)) = f.drop (f.length - 4) ∧ ce = false ∧ 64 ≤ f.length ∧ f.length ≤ s.fld (F.EMAC_RX_CFG_MAX_LEN n)
    :=
  ⟨0, fcs (eth 8 0), false, fl [(F.EMAC_RX_CFG_MAX_LEN 0, 1518)], by decide +kernel⟩

theorem wit_EmacReception_6 : ∃ (p : Fin 4) (f : List Byte) (ce : Bool) (s : State) (c : Nat) (e : Nat), portOpen s
    p.val ∧ s.rxError p.val f ce = some (c, e) ∧ (s.flag (F.EMAC_RX_CFG_KEEP_BAD p.val) = false ∨ f.length < 14 ∨
    s.fld (F.EMAC_RX_CFG_MAX_LEN p.val) + 64 < f.length) :=
  ⟨0, [], false, emUp [], C.EMAC_RX_FCS_ERR 0, 5, by unfold portOpen; decide +kernel, by decide +kernel⟩

theorem wit_EmacReception_7 : ∃ (p : Fin 4) (f : List Byte) (ce : Bool) (s : State) (c : Nat) (e : Nat), portOpen s
    p.val ∧ s.rxError p.val f ce = some (c, e) ∧ s.flag (F.EMAC_RX_CFG_KEEP_BAD p.val) = true ∧ 14 ≤ f.length ∧
    f.length ≤ s.fld (F.EMAC_RX_CFG_MAX_LEN p.val) + 64 :=
  ⟨0, List.replicate 14 0, false, emUp [(F.EMAC_RX_CFG_KEEP_BAD 0, 1)], C.EMAC_RX_FCS_ERR 0, 5,
    by unfold portOpen; decide +kernel, by decide +kernel⟩

theorem wit_EmacReception_8 : ∃ (p : Fin 4) (f : List Byte) (b : List Byte) (s : State), portOpen s p.val ∧ goodFrame
    s p.val f b ∧ ((s.flag (F.EMAC_SECY_CFG_EN p.val) = false ∨ s.fld (F.EMAC_SECY_CFG_VALIDATE p.val) = 0 ∨
    s.bypasses p.val b = true)) :=
  ⟨0, fcs (eth 8 0), eth 8 0, emUp [], by unfold portOpen; decide +kernel,
    good_ok _ _ _ (by decide +kernel) (by decide +kernel), by decide +kernel⟩

theorem wit_EmacReception_9 : ∃ (p : Fin 4) (f : List Byte) (b : List Byte) (s : State), portOpen s p.val ∧ goodFrame
    s p.val f b ∧ secured s p.val b ∧ frame16 b 12 ≠ 0x88E5 ∧ s.fld (F.EMAC_SECY_CFG_VALIDATE p.val) = 1 :=
  ⟨0, fcs (eth 8 0), eth 8 0, secSt 1 0, by unfold portOpen; decide +kernel,
    good_ok _ _ _ (by decide +kernel) (by decide +kernel), by unfold secured; decide +kernel, by decide +kernel⟩

theorem wit_EmacReception_10 : ∃ (p : Fin 4) (f : List Byte) (b : List Byte) (s : State), portOpen s p.val ∧ goodFrame
    s p.val f b ∧ secured s p.val b ∧ frame16 b 12 ≠ 0x88E5 ∧ s.fld (F.EMAC_SECY_CFG_VALIDATE p.val) ≠ 1 :=
  ⟨0, fcs (eth 8 0), eth 8 0, secSt 2 0, by unfold portOpen; decide +kernel,
    good_ok _ _ _ (by decide +kernel) (by decide +kernel), by unfold secured; decide +kernel, by decide +kernel⟩

theorem wit_EmacReception_11 : ∃ (p : Fin 4) (f : List Byte) (b : List Byte) (s : State), portOpen s p.val ∧ goodFrame
    s p.val f b ∧ secured s p.val b ∧ frame16 b 12 = 0x88E5 ∧ secTag b = none :=
  ⟨0, fcs badTag, badTag, secSt 2 0, by unfold portOpen; decide +kernel,
    good_ok _ _ _ (by decide +kernel) (by decide +kernel), by unfold secured; decide +kernel, by decide +kernel⟩

theorem wit_EmacReception_12 : ∃ (p : Fin 4) (f : List Byte) (b : List Byte) (s : State) (sci : List Byte) (c : Nat)
    (an : Nat) (pn32 : Nat) (pn : Nat) (h : Nat) (low : Nat) (len : Nat) (off : Nat) (slot : Nat) (key : BitVec 256)
    (aad : List Byte) (ct : List Byte) (clear : List Byte) (nonce : List Byte) (conf : Bool), portOpen s p.val ∧
    goodFrame s p.val f b ∧ secured s p.val b ∧ frame16 b 12 = 0x88E5 ∧ secTag b = some (some sci, an, pn32, h) ∧
    s.findSc p.val sci = some c ∧ s.flag (F.EMAC_RX_SA_VALID p.val c an) = true ∧ slot = s.fld (F.EMAC_RX_SA_SLOT
    p.val c an) ∧ s.keyWaits slot = false ∧ s.keyCheck slot 1 (secySuits (s.rd (A.EMAC_SECY_CFG p.val))) = none ∧ low
    = (s.keySlot slot).rx 0 ∧ pn = fullPn (secyXpn (s.rd (A.EMAC_SECY_CFG p.val))) low pn32 ∧ conf = decide (frameByte
    b 14 / 4 % 4 = 3) ∧ len = (if frameByte b 15 = 0 then b.length - h - 16 else frameByte b 15) ∧ off = (if conf then
    confOffset (s.rd (A.EMAC_SECY_CFG p.val)) else len) ∧ aad = b.take (h + off) ∧ ct = slice b (h + off) (len - off)
    ∧ nonce = secNonce (secyXpn (s.rd (A.EMAC_SECY_CFG p.val))) sci pn ∧ key = (s.keySlot slot).key ∧ clear = b.take
    12 ++ slice b h off ++ (List.range ct.length).map (Config.cipher 2 key nonce aad ct) ∧ (List.range 16).map
    (Config.tag 2 key nonce aad ct) ≠ slice b (h + len) 16 ∧ ((s.fld (F.EMAC_SECY_CFG_VALIDATE p.val) ≠ 1 ∨ conf =
    true)) :=
  ⟨0, fcs (secB badIcv), secB badIcv, secSt 2 0, List.replicate 8 0, 0, 0, 5, 5, 28, 0, 20, 20, 0, 7, secHdr, [], _,
    secNonce0, false, by unfold portOpen; decide +kernel,
    good_ok _ _ _ (by simp [secB, badIcv_len, secHdr]) (by rw [show (secB badIcv).length = 64 by simp [secB, badIcv_len, secHdr]]; decide +kernel),
    by unfold secured; decide +kernel, by decide +kernel, by decide +kernel, by decide +kernel, (by decide +kernel),
    by decide +kernel, by decide +kernel, by decide +kernel, (by decide +kernel), by decide +kernel,
    by decide +kernel, by decide +kernel, (by decide +kernel), by decide +kernel, by decide +kernel,
    by decide +kernel, (by decide +kernel), rfl, icv_bad, by decide +kernel⟩

theorem wit_EmacReception_13 : ∃ (p : Fin 4) (f : List Byte) (b : List Byte) (s : State) (sci : List Byte) (c : Nat)
    (an : Nat) (pn32 : Nat) (pn : Nat) (h : Nat) (low : Nat) (len : Nat) (off : Nat) (slot : Nat) (key : BitVec 256)
    (aad : List Byte) (ct : List Byte) (clear : List Byte) (nonce : List Byte) (conf : Bool), portOpen s p.val ∧
    goodFrame s p.val f b ∧ secured s p.val b ∧ frame16 b 12 = 0x88E5 ∧ secTag b = some (some sci, an, pn32, h) ∧
    s.findSc p.val sci = some c ∧ s.flag (F.EMAC_RX_SA_VALID p.val c an) = true ∧ slot = s.fld (F.EMAC_RX_SA_SLOT
    p.val c an) ∧ s.keyWaits slot = false ∧ s.keyCheck slot 1 (secySuits (s.rd (A.EMAC_SECY_CFG p.val))) = none ∧ low
    = (s.keySlot slot).rx 0 ∧ pn = fullPn (secyXpn (s.rd (A.EMAC_SECY_CFG p.val))) low pn32 ∧ conf = decide (frameByte
    b 14 / 4 % 4 = 3) ∧ len = (if frameByte b 15 = 0 then b.length - h - 16 else frameByte b 15) ∧ off = (if conf then
    confOffset (s.rd (A.EMAC_SECY_CFG p.val)) else len) ∧ aad = b.take (h + off) ∧ ct = slice b (h + off) (len - off)
    ∧ nonce = secNonce (secyXpn (s.rd (A.EMAC_SECY_CFG p.val))) sci pn ∧ key = (s.keySlot slot).key ∧ clear = b.take
    12 ++ slice b h off ++ (List.range ct.length).map (Config.cipher 2 key nonce aad ct) ∧ (List.range 16).map
    (Config.tag 2 key nonce aad ct) ≠ slice b (h + len) 16 ∧ s.fld (F.EMAC_SECY_CFG_VALIDATE p.val) = 1 ∧ conf = false
    :=
  ⟨0, fcs (secB badIcv), secB badIcv, secSt 1 0, List.replicate 8 0, 0, 0, 5, 5, 28, 0, 20, 20, 0, 7, secHdr, [], _,
    secNonce0, false, by unfold portOpen; decide +kernel,
    good_ok _ _ _ (by simp [secB, badIcv_len, secHdr]) (by rw [show (secB badIcv).length = 64 by simp [secB, badIcv_len, secHdr]]; decide +kernel),
    by unfold secured; decide +kernel, by decide +kernel, by decide +kernel, by decide +kernel, (by decide +kernel),
    by decide +kernel, by decide +kernel, by decide +kernel, (by decide +kernel), by decide +kernel,
    by decide +kernel, by decide +kernel, (by decide +kernel), by decide +kernel, by decide +kernel,
    by decide +kernel, (by decide +kernel), rfl, icv_bad, by decide +kernel⟩

theorem wit_EmacReception_14 : ∃ (p : Fin 4) (f : List Byte) (b : List Byte) (s : State) (sci : List Byte) (c : Nat)
    (an : Nat) (pn32 : Nat) (pn : Nat) (h : Nat) (low : Nat) (len : Nat) (off : Nat) (slot : Nat) (key : BitVec 256)
    (aad : List Byte) (ct : List Byte) (clear : List Byte) (nonce : List Byte) (conf : Bool), portOpen s p.val ∧
    goodFrame s p.val f b ∧ secured s p.val b ∧ frame16 b 12 = 0x88E5 ∧ secTag b = some (some sci, an, pn32, h) ∧
    s.findSc p.val sci = some c ∧ s.flag (F.EMAC_RX_SA_VALID p.val c an) = true ∧ slot = s.fld (F.EMAC_RX_SA_SLOT
    p.val c an) ∧ s.keyWaits slot = false ∧ s.keyCheck slot 1 (secySuits (s.rd (A.EMAC_SECY_CFG p.val))) = none ∧ low
    = (s.keySlot slot).rx 0 ∧ pn = fullPn (secyXpn (s.rd (A.EMAC_SECY_CFG p.val))) low pn32 ∧ conf = decide (frameByte
    b 14 / 4 % 4 = 3) ∧ len = (if frameByte b 15 = 0 then b.length - h - 16 else frameByte b 15) ∧ off = (if conf then
    confOffset (s.rd (A.EMAC_SECY_CFG p.val)) else len) ∧ aad = b.take (h + off) ∧ ct = slice b (h + off) (len - off)
    ∧ nonce = secNonce (secyXpn (s.rd (A.EMAC_SECY_CFG p.val))) sci pn ∧ key = (s.keySlot slot).key ∧ clear = b.take
    12 ++ slice b h off ++ (List.range ct.length).map (Config.cipher 2 key nonce aad ct) ∧ (List.range 16).map
    (Config.tag 2 key nonce aad ct) = slice b (h + len) 16 ∧ pn < low :=
  ⟨0, fcs (secB icv), secB icv, secSt 2 6, List.replicate 8 0, 0, 0, 5, 5, 28, 6, 20, 20, 0, 7, secHdr, [], _,
    secNonce0, false, by unfold portOpen; decide +kernel,
    good_ok _ _ _ (by simp [secB, icv_len, secHdr]) (by rw [show (secB icv).length = 64 by simp [secB, icv_len, secHdr]]; decide +kernel),
    by unfold secured; decide +kernel, by decide +kernel, by decide +kernel, by decide +kernel, (by decide +kernel),
    by decide +kernel, by decide +kernel, by decide +kernel, (by decide +kernel), by decide +kernel,
    by decide +kernel, by decide +kernel, (by decide +kernel), by decide +kernel, by decide +kernel,
    by decide +kernel, (by decide +kernel), rfl, (sec_icv _ icv_len).symm, by decide +kernel⟩

theorem wit_EmacReception_15 : ∃ (p : Fin 4) (f : List Byte) (b : List Byte) (s : State) (sci : List Byte) (c : Nat)
    (an : Nat) (pn32 : Nat) (pn : Nat) (h : Nat) (low : Nat) (len : Nat) (off : Nat) (slot : Nat) (key : BitVec 256)
    (aad : List Byte) (ct : List Byte) (clear : List Byte) (nonce : List Byte) (conf : Bool), portOpen s p.val ∧
    goodFrame s p.val f b ∧ secured s p.val b ∧ frame16 b 12 = 0x88E5 ∧ secTag b = some (some sci, an, pn32, h) ∧
    s.findSc p.val sci = some c ∧ s.flag (F.EMAC_RX_SA_VALID p.val c an) = true ∧ slot = s.fld (F.EMAC_RX_SA_SLOT
    p.val c an) ∧ s.keyWaits slot = false ∧ s.keyCheck slot 1 (secySuits (s.rd (A.EMAC_SECY_CFG p.val))) = none ∧ low
    = (s.keySlot slot).rx 0 ∧ pn = fullPn (secyXpn (s.rd (A.EMAC_SECY_CFG p.val))) low pn32 ∧ conf = decide (frameByte
    b 14 / 4 % 4 = 3) ∧ len = (if frameByte b 15 = 0 then b.length - h - 16 else frameByte b 15) ∧ off = (if conf then
    confOffset (s.rd (A.EMAC_SECY_CFG p.val)) else len) ∧ aad = b.take (h + off) ∧ ct = slice b (h + off) (len - off)
    ∧ nonce = secNonce (secyXpn (s.rd (A.EMAC_SECY_CFG p.val))) sci pn ∧ key = (s.keySlot slot).key ∧ clear = b.take
    12 ++ slice b h off ++ (List.range ct.length).map (Config.cipher 2 key nonce aad ct) ∧ (List.range 16).map
    (Config.tag 2 key nonce aad ct) = slice b (h + len) 16 ∧ low ≤ pn :=
  ⟨0, fcs (secB icv), secB icv, secSt 2 0, List.replicate 8 0, 0, 0, 5, 5, 28, 0, 20, 20, 0, 7, secHdr, [], _,
    secNonce0, false, by unfold portOpen; decide +kernel,
    good_ok _ _ _ (by simp [secB, icv_len, secHdr]) (by rw [show (secB icv).length = 64 by simp [secB, icv_len, secHdr]]; decide +kernel),
    by unfold secured; decide +kernel, by decide +kernel, by decide +kernel, by decide +kernel, (by decide +kernel),
    by decide +kernel, by decide +kernel, by decide +kernel, (by decide +kernel), by decide +kernel,
    by decide +kernel, by decide +kernel, (by decide +kernel), by decide +kernel, by decide +kernel,
    by decide +kernel, (by decide +kernel), rfl, (sec_icv _ icv_len).symm, by decide +kernel⟩

theorem wit_EmacReception_16 : ∃ (p : Fin 4) (_ : BitVec 8) (_ : BitVec 16) (s : State), s.takesWork (emacBlock p.val)
    = true ∧ s.flag (F.EMAC_FC_CFG_RX_FC p.val) = false :=
  ⟨0, 1, 5, onB [(F.EMAC_FC_CFG_RX_FC 0, 0)], by decide +kernel⟩

theorem wit_EmacReception_17 : ∃ (p : Fin 4) (_ : BitVec 8) (_ : BitVec 16) (s : State), s.takesWork (emacBlock p.val)
    = true ∧ s.flag (F.EMAC_FC_CFG_RX_FC p.val) = true :=
  ⟨0, 1, 5, onB [(F.EMAC_FC_CFG_RX_FC 0, 1)], by decide +kernel⟩

theorem wit_EmacReception_18 : ∃ (p : Fin 4) (s : State) (hi : Nat), s.takesWork (emacBlock p.val) = true ∧ hi = s.fld
    (F.EMAC_FC_CFG_XOFF_KIB p.val) * 1024 ∧ s.flag (F.EMAC_FC_CFG_TX_FC p.val) = false :=
  ⟨0, onB [], _, by decide +kernel, rfl, by decide +kernel⟩

theorem wit_EmacReception_19 : ∃ (p : Fin 4) (s : State) (hi : Nat), s.takesWork (emacBlock p.val) = true ∧ hi = s.fld
    (F.EMAC_FC_CFG_XOFF_KIB p.val) * 1024 ∧ s.flag (F.EMAC_FC_CFG_TX_FC p.val) = true ∧ (s.emac p.val).xoff = 0 ∧ hi ≤
    s.rxFill p.val :=
  ⟨0, onB [(F.EMAC_FC_CFG_TX_FC 0, 1), (F.EMAC_FC_CFG_XOFF_KIB 0, 0)], _, by decide +kernel, rfl, by decide +kernel⟩

theorem wit_EmacReception_20 : ∃ (p : Fin 4) (s : State) (hi : Nat), s.takesWork (emacBlock p.val) = true ∧ hi = s.fld
    (F.EMAC_FC_CFG_XOFF_KIB p.val) * 1024 ∧ s.flag (F.EMAC_FC_CFG_TX_FC p.val) = true ∧ (s.emac p.val).xoff ≠ 0 ∧
    s.rxFill p.val + 32768 ≤ hi :=
  ⟨0, { onB [(F.EMAC_FC_CFG_TX_FC 0, 1), (F.EMAC_FC_CFG_XOFF_KIB 0, 32)] with emacs := [(0, { xoff := 1 })] }, _,
    by decide +kernel, rfl, by decide +kernel⟩

theorem wit_EmacReception_21 : ∃ (p : Fin 4) (s : State) (hi : Nat), s.takesWork (emacBlock p.val) = true ∧ hi = s.fld
    (F.EMAC_FC_CFG_XOFF_KIB p.val) * 1024 ∧ (((s.emac p.val).xoff = 0 ∧ s.rxFill p.val < hi) ∨ ((s.emac p.val).xoff ≠
    0 ∧ hi < s.rxFill p.val + 32768)) :=
  ⟨0, onB [(F.EMAC_FC_CFG_XOFF_KIB 0, 32)], _, by decide +kernel, rfl, by decide +kernel⟩

theorem wit_EmacTransmissionAndLinks_0 : ∃ (p : Fin 4) (s : State), ((s.handedTo p.val = none ∨ s.linkIsUp p.val =
    false)) :=
  ⟨0, up, by decide +kernel⟩

theorem wit_EmacTransmissionAndLinks_1 : ∃ (p : Fin 4) (s : State) (x : Nat × TmFrame) (b : List Byte), plainSend s
    p.val x b ∧ ((x.2.secy.getLsbD 31 = false ∨ s.bypasses p.val b = true)) ∧ x.2.pkt.tx.ts = none :=
  ⟨0, txSt (tf (pk 0) 0) [], (0, tf (pk 0) 0), [1, 2, 3], by unfold plainSend; decide +kernel, by decide +kernel⟩

theorem wit_EmacTransmissionAndLinks_3 : ∃ (p : Fin 4) (s : State) (x : Nat × TmFrame) (f : Nat) (n : Nat) (r :
    FrameRec), s.handedTo p.val = some x ∧ s.linkIsUp p.val = true ∧ x.2.pkt.reg = some (f, n) ∧ x.2.pkt.tx = {} ∧
    x.2.secy.getLsbD 31 = false ∧ s.takesWork (emacBlock p.val) = true ∧ s.frameRec f n = some r ∧ f < 512 ∧ s.now <
    r.deadline :=
  ⟨0, { txSt (tf { pk 0 with reg := some (0, 0) } 0) [] with regsvc := { recs := [frec 5000] } },
    (0, tf { pk 0 with reg := some (0, 0) } 0), 0, 0, frec 5000, by decide +kernel⟩

theorem wit_EmacTransmissionAndLinks_4 : ∃ (p : Fin 4) (s : State) (x : Nat × TmFrame) (f : Nat) (n : Nat) (r :
    FrameRec), s.handedTo p.val = some x ∧ s.linkIsUp p.val = true ∧ x.2.pkt.reg = some (f, n) ∧ x.2.pkt.tx = {} ∧
    x.2.secy.getLsbD 31 = false ∧ s.takesWork (emacBlock p.val) = true ∧ s.frameRec f n = some r ∧ f < 512 ∧
    r.deadline ≤ s.now :=
  ⟨0, { txSt (tf { pk 0 with reg := some (0, 0) } 0) [] with regsvc := { recs := [frec 0] } },
    (0, tf { pk 0 with reg := some (0, 0) } 0), 0, 0, frec 0, by decide +kernel⟩

theorem wit_EmacTransmissionAndLinks_5 : ∃ (p : Fin 4) (_ : BitVec 3) (_ : Bool) (s : State), ((s.flag (F.EMAC_MODE_EN
    p.val) = false ∨ s.takesWork (emacBlock p.val) = false)) :=
  ⟨0, 0, true, up, by decide +kernel⟩

theorem wit_EmacTransmissionAndLinks_6 : ∃ (p : Fin 4) (sp : BitVec 3) (s : State), s.flag (F.EMAC_MODE_EN p.val) =
    true ∧ s.takesWork (emacBlock p.val) = true ∧ (modeSpeeds (s.fld (F.EMAC_MODE_MODE p.val))).contains sp.toNat =
    false :=
  ⟨0, 1, onB [(F.EMAC_MODE_EN 0, 1), (F.EMAC_MODE_MODE 0, 0)], by decide +kernel⟩

theorem wit_EmacTransmissionAndLinks_7 : ∃ (p : Fin 4) (sp : BitVec 3) (s : State), s.flag (F.EMAC_MODE_EN p.val) =
    true ∧ s.takesWork (emacBlock p.val) = true ∧ (modeSpeeds (s.fld (F.EMAC_MODE_MODE p.val))).contains sp.toNat =
    true ∧ s.flag (F.EMAC_SECY_CFG_EN p.val) = true ∧ ((2 < s.fld (F.EMAC_MODE_MODE p.val) ∨ 1 < sp.toNat)) :=
  ⟨0, 2, onB [(F.EMAC_MODE_EN 0, 1), (F.EMAC_MODE_MODE 0, 3), (F.EMAC_SECY_CFG_EN 0, 1)], by decide +kernel⟩

theorem wit_EmacTransmissionAndLinks_8 : ∃ (p : Fin 4) (sp : BitVec 3) (s : State), s.flag (F.EMAC_MODE_EN p.val) =
    true ∧ s.takesWork (emacBlock p.val) = true ∧ (modeSpeeds (s.fld (F.EMAC_MODE_MODE p.val))).contains sp.toNat =
    true ∧ ((s.flag (F.EMAC_SECY_CFG_EN p.val) = false ∨ (s.fld (F.EMAC_MODE_MODE p.val) ≤ 2 ∧ sp.toNat ≤ 1))) :=
  ⟨0, 0, onB [(F.EMAC_MODE_EN 0, 1), (F.EMAC_MODE_MODE 0, 0)], by decide +kernel⟩

theorem wit_EmacTransmissionAndLinks_9 : ∃ (p : Fin 4) (s : State), s.takesWork (emacBlock p.val) = true :=
  ⟨0, onB [], by decide +kernel⟩

theorem wit_EmacTransmissionAndLinks_10 : ∃ (p : Fin 4) (v : Word) (s : State) (u : State), s.takesWork (emacBlock
    p.val) = true ∧ u = s.touch (A.EMAC_MODE p.val) ∧ ((5 < getBits v 0 4 ∨ (u.flag (F.EMAC_MODE_EN p.val) = true ∧
    (getBits v 0 4 ≠ u.fld (F.EMAC_MODE_MODE p.val) ∨ getBits v 8 1 ≠ u.fld (F.EMAC_MODE_AN_EN p.val))))) :=
  ⟨0, 6, onB [], _, by decide +kernel, rfl, by decide +kernel⟩

theorem wit_EmacTransmissionAndLinks_11 : ∃ (p : Fin 4) (v : Word) (s : State) (u : State), s.takesWork (emacBlock
    p.val) = true ∧ u = s.touch (A.EMAC_MODE p.val) ∧ getBits v 0 4 ≤ 5 ∧ ((u.flag (F.EMAC_MODE_EN p.val) = false ∨
    (getBits v 0 4 = u.fld (F.EMAC_MODE_MODE p.val) ∧ getBits v 8 1 = u.fld (F.EMAC_MODE_AN_EN p.val)))) ∧ v.getLsbD
    31 = true :=
  ⟨0, 0x80000000, onB [], _, by decide +kernel, rfl, by decide +kernel⟩

theorem wit_EmacTransmissionAndLinks_12 : ∃ (p : Fin 4) (v : Word) (s : State) (u : State), s.takesWork (emacBlock
    p.val) = true ∧ u = s.touch (A.EMAC_MODE p.val) ∧ getBits v 0 4 ≤ 5 ∧ ((u.flag (F.EMAC_MODE_EN p.val) = false ∨
    (getBits v 0 4 = u.fld (F.EMAC_MODE_MODE p.val) ∧ getBits v 8 1 = u.fld (F.EMAC_MODE_AN_EN p.val)))) ∧ v.getLsbD
    31 = false :=
  ⟨0, 0, onB [], _, by decide +kernel, rfl, by decide +kernel⟩

theorem wit_EmacTransmissionAndLinks_13 : ∃ (p : Fin 4) (e : BitVec 32) (s : State), ((s.flag (F.EMAC_MODE_EN p.val) =
    false ∨ s.usablePresets p.val = [] ∨ (s.linkIsUp p.val = true ∧ e.toNat ≤ s.fld (F.EMAC_EQ_CFG_ERR_LIMIT p.val)) ∨
    (s.linkIsUp p.val = false ∧ s.now < (s.emac p.val).tried.toNat + 5000000))) :=
  ⟨0, 0, up, by decide +kernel⟩

theorem wit_EmacTransmissionAndLinks_14 : ∃ (p : Fin 4) (e : BitVec 32) (s : State) (first : Nat) (k : Nat) (rest :
    List Nat) (nexts : List Nat), s.takesWork (emacBlock p.val) = true ∧ s.flag (F.EMAC_MODE_EN p.val) = true ∧
    ((s.linkIsUp p.val = true → s.fld (F.EMAC_EQ_CFG_ERR_LIMIT p.val) < e.toNat)) ∧ ((s.linkIsUp p.val = false →
    (s.emac p.val).tried.toNat + 5000000 ≤ s.now)) ∧ s.usablePresets p.val = first :: rest ∧ k = (if s.linkIsUp p.val
    then s.fld (F.EMAC_STATUS_PRESET p.val) else first) ∧ nexts = (s.usablePresets p.val).filter (fun j => decide (j ≠
    k)) ∧ nexts = [] ∧ s.linkIsUp p.val = false ∧ s.flt.queue.length < 15 :=
  ⟨0, 0,
    { onB ((F.EMAC_MODE_EN 0, 1) :: (List.range 8).map (fun k => (F.EMAC_EQ_PRESET_VALID 0 k, bit (k = 0)))) with time := { tick := 5000000 } },
    0, 0, [], [], by decide +kernel⟩

theorem wit_HostRings_0 : ∃ (r : Fin 256) (_ : Bool) (s : State), ¬ txRuns s (ringRegs false r.val) :=
  ⟨0, false, up, by unfold txRuns; decide +kernel⟩

theorem wit_HostRings_1 : ∃ (r : Fin 256) (_ : Bool) (s : State) (g : RingRegs), g = ringRegs false r.val ∧
    ((s.fetchDescs g (s.ringHeld g) (s.ringCi g)).getLast?.map (fun d => d.eop)).getD false = false :=
  ⟨0, false, up, _, rfl, by decide +kernel⟩

theorem wit_HostRings_2 : ∃ (r : Fin 256) (_ : Bool) (s : State), (s.txTurn ≠ some r.val ∨ s.sortRefuses 4 = true) :=
  ⟨0, false, up, Or.inl (by decide +kernel)⟩

theorem wit_HostRings_3 : ∃ (r : Fin 256) (_ : Bool) (s : State) (u : State) (sop : TxDesc) (all : List TxDesc) (b :
    List Byte) (c : Nat), fetched s u r.val sop all b ∧ txCheck all sop b = some c :=
  ⟨0, false, txRing 0 [], fetchLogged (txRing 0 []) (ringRegs false 0) [descOf 0 [0, 0, 0, 0]], descOf 0 [0, 0, 0, 0],
    [descOf 0 [0, 0, 0, 0]], [], 1,
    ⟨_, rfl, by decide +kernel, Bool.and_false _, rfl, by unfold txRuns; decide +kernel, by decide +kernel⟩,
    by decide +kernel⟩

theorem wit_HostRings_4 : ∃ (r : Fin 256) (s : State) (u : State) (sop : TxDesc) (all : List TxDesc) (b : List Byte),
    fetched s u r.val sop all b ∧ txCheck all sop b = none :=
  ⟨0, txRing 60 [], fetchLogged (txRing 60 []) (ringRegs false 0) [descOf 60 [0, 0, 0, 0]], descOf 60 [0, 0, 0, 0],
    [descOf 60 [0, 0, 0, 0]], List.replicate 60 0,
    ⟨_, rfl, by decide +kernel, Bool.and_false _, rfl, by unfold txRuns; decide +kernel, by decide +kernel⟩,
    by decide +kernel⟩

theorem wit_HostRings_5 : ∃ (r : Fin 256) (s : State) (u : State) (sop : TxDesc) (all : List TxDesc) (b : List Byte)
    (segs : List (List Byte)), fetched s u r.val sop all b ∧ txCheck all sop b = none ∧ segs = txSegments b sop ∧
    ((u.ringDev (ringRegs false r.val) = false ∨ ∀ d ∈ all, ∀ i < d.len, u.mapped (d.addr + i) = true ∧ u.poisoned
    (d.addr + i) = false)) :=
  ⟨0, txRing 60 [1, 3], fetchLogged (txRing 60 [1, 3]) (ringRegs false 0) [descOf 60 [0, 1, 0, 1]],
    descOf 60 [0, 1, 0, 1], [descOf 60 [0, 1, 0, 1]], List.replicate 60 0, _,
    ⟨_, rfl, by decide +kernel, Bool.and_false _, rfl, by unfold txRuns; decide +kernel, by decide +kernel⟩,
    by decide +kernel, rfl, by decide +kernel⟩

theorem wit_HostRings_6 : ∃ (r : Fin 256) (s : State) (g : RingRegs), g = ringRegs false r.val ∧ (((∀ x ∈
    s.hostp.jobs, x.ring = r.val → s.jobDone x = false) ∨ s.cqRoom g = 0 ∨ s.ringEn g = false ∨ s.ringReachable g =
    false)) :=
  ⟨0, up, _, rfl, by decide +kernel⟩

theorem wit_HostRings_7 : ∃ (r : Fin 256) (s : State) (g : RingRegs) (x : TxJob) (a : Nat), g = ringRegs false r.val ∧
    s.hostp.jobs.find? (fun x => decide (x.ring = r.val) && s.jobDone x) = some x ∧ s.cqRoom g ≠ 0 ∧ s.takesWork
    hostpBlock = true ∧ s.ringEn g = true ∧ s.ringReachable g = true ∧ a = s.rd64 g.cq.1 g.cq.2 + 16 * (getBits (s.rd
    g.cqIdx) 0 16 % s.ringSize g) ∧ s.ringDev g = false :=
  ⟨0, { ringSt false false 1 with hostp := { jobs := [job0] } }, _, job0, _, rfl, by decide +kernel,
    by decide +kernel, by decide +kernel, (by decide +kernel), by decide +kernel, rfl, by decide +kernel⟩

theorem wit_HostRings_8 : ∃ (r : Fin 256) (s : State) (g : RingRegs) (x : TxJob) (a : Nat), g = ringRegs false r.val ∧
    s.hostp.jobs.find? (fun x => decide (x.ring = r.val) && s.jobDone x) = some x ∧ s.cqRoom g ≠ 0 ∧ s.takesWork
    hostpBlock = true ∧ s.ringEn g = true ∧ s.ringReachable g = true ∧ a = s.rd64 g.cq.1 g.cq.2 + 16 * (getBits (s.rd
    g.cqIdx) 0 16 % s.ringSize g) ∧ s.ringDev g = true :=
  ⟨0, { ringSt false true 1 with hostp := { jobs := [job0] } }, _, job0, _, rfl, by decide +kernel, by decide +kernel,
    by decide +kernel, (by decide +kernel), by decide +kernel, rfl, by decide +kernel⟩

theorem wit_HostRings_9 : ∃ (r : Fin 256) (s : State), s.hostp.bad.find? (fun b => decide (b.ring = r.val)) = none ∧
    s.handedTo (256 + r.val) = none :=
  ⟨0, up, by decide +kernel⟩

theorem wit_HostRings_10 : ∃ (r : Fin 256) (s : State), ((∀ n, s.rxReady (ringRegs true r.val) n = false)) :=
  ⟨0, up, fun n => ring_off n⟩

theorem wit_HostRings_11 : ∃ (r : Fin 256) (s : State) (x : Nat × TmFrame) (g : RingRegs) (n : Nat), rxHas s r x ∧ g =
    ringRegs true r.val ∧ n = s.bufsFor g x.2.pkt.bytes.length ∧ n ≤ s.ringHeld g :=
  ⟨0, rxRing true 100, rxFrame 100, _, _, by unfold rxHas; decide +kernel, rfl, rfl, by decide +kernel⟩

theorem wit_HostRings_12 : ∃ (r : Fin 256) (s : State) (x : Nat × TmFrame) (g : RingRegs) (n : Nat), rxHas s r x ∧ g =
    ringRegs true r.val ∧ n = s.bufsFor g x.2.pkt.bytes.length ∧ s.ringHeld g < n :=
  ⟨0, rxRing true 300, rxFrame 300, _, _, by unfold rxHas; decide +kernel, rfl, rfl, by decide +kernel⟩

theorem wit_HostRings_13 : ∃ (r : Fin 256) (s : State) (x : Nat × TmFrame) (g : RingRegs) (d : List Word) (a : Nat) (c
    : Nat), rxHas s r x ∧ g = ringRegs true r.val ∧ s.bufsFor g x.2.pkt.bytes.length = 1 ∧ s.ringDev g = false ∧ d =
    toItems (s.hostBytes (s.ringAddr g (s.ringCi g) 16) 16) ∧ a = (d.getD 0 0).toNat + (d.getD 1 0).toNat * 4294967296
    ∧ c = s.rd64 g.cq.1 g.cq.2 + 32 * (getBits (s.rd g.cqIdx) 0 16 % s.ringSize g) :=
  ⟨0, rxRing false 100, rxFrame 100, _, _, _, _, by unfold rxHas; decide +kernel, rfl, by decide +kernel,
    by decide +kernel, rfl, rfl, rfl⟩

theorem wit_HostRings_14 : ∃ (r : Fin 256) (s : State) (b : BadFrame) (g : RingRegs), g = ringRegs true r.val ∧
    s.hostp.bad.find? (fun b => decide (b.ring = r.val)) = some b ∧ s.rxReady g b.bytes.length = true ∧ s.bufsFor g
    b.bytes.length ≤ s.ringHeld g :=
  ⟨0, { ringSt true true 1 with hostp := { bad := [⟨0, 0, [1, 2], 1, []⟩] } }, ⟨0, 0, [1, 2], 1, []⟩, _, rfl,
    by decide +kernel⟩

theorem wit_HostRings_15 : ∃ (rx : Bool) (r : Fin 256) (s : State) (g : RingRegs), g = ringRegs rx r.val ∧ s.coalOf
    g.key = none :=
  ⟨false, 0, up, _, rfl, by decide +kernel⟩

theorem wit_HostRings_16 : ∃ (_ : Word) (s : State) (u : State), s.takesWork hostpBlock = true ∧ u = s.touch
    A.HOSTP_RC_DATA ∧ ((u.fld F.HOSTP_CFG_MODE = 1 ∨ u.flag F.HOSTP_RC_STATUS_BUSY = true)) :=
  ⟨0, onB [(F.HOSTP_CFG_MODE, 1)], _, by decide +kernel, rfl, by decide +kernel⟩

theorem wit_HostRings_17 : ∃ (_ : Word) (s : State) (u : State), s.takesWork hostpBlock = true ∧ u = s.touch
    A.HOSTP_RC_DATA ∧ u.fld F.HOSTP_CFG_MODE ≠ 1 ∧ u.flag F.HOSTP_RC_STATUS_BUSY = false :=
  ⟨0, onB [(F.HOSTP_CFG_MODE, 2)], _, by decide +kernel, rfl, by decide +kernel⟩

theorem wit_HostRings_18 : ∃ (_ : RcResult) (_ : Word) (s : State), s.flag F.HOSTP_RC_STATUS_BUSY = false :=
  ⟨.done, 0, up, by decide +kernel⟩

theorem wit_HostRings_19 : ∃ (_ : Word) (s : State), s.now < s.hostp.rcSince.toNat + 25000000 :=
  ⟨0, up, by decide +kernel⟩

theorem wit_HostRings_20 : ∃ (x : RcResult) (_ : Word) (s : State), s.takesWork hostpBlock = true ∧ s.flag
    F.HOSTP_RC_STATUS_BUSY = true ∧ ((x = .timeout → s.hostp.rcSince.toNat + 25000000 ≤ s.now)) :=
  ⟨.done, 0, onB [(F.HOSTP_RC_STATUS_BUSY, 1)], by decide +kernel⟩

theorem wit_HostRings_21 : ∃ (gen : BitVec 3) (w : BitVec 3) (pm : BitVec 3) (_ : BitVec 6) (_ : Bool) (s : State),
    s.fld F.HOSTP_CFG_MODE ≠ 0 ∧ s.takesWork hostpBlock = true ∧ 1 ≤ gen.toNat ∧ gen.toNat ≤ s.fld F.HOSTP_CFG_MAX_GEN
    ∧ ((w = 1 ∨ w = 2)) ∧ s.pmLegal pm.toNat = true :=
  ⟨1, 1, 0, 0, false, onB [(F.HOSTP_CFG_MODE, 1), (F.HOSTP_CFG_MAX_GEN, 1)], by decide +kernel⟩

theorem wit_HostRings_22 : ∃ (gen : BitVec 3) (w : BitVec 3) (pm : BitVec 3) (_ : BitVec 6) (_ : Bool) (s : State),
    ((s.fld F.HOSTP_CFG_MODE = 0 ∨ s.takesWork hostpBlock = false ∨ gen = 0 ∨ s.fld F.HOSTP_CFG_MAX_GEN < gen.toNat ∨
    (w ≠ 1 ∧ w ≠ 2) ∨ s.pmLegal pm.toNat = false)) :=
  ⟨0, 1, 0, 0, false, up, by decide +kernel⟩

theorem wit_HostRings_23 : ∃ (_ : BitVec 3) (_ : BitVec 3) (pm : BitVec 3) (_ : BitVec 6) (_ : Bool) (_ : State), 5 ≤
    pm.toNat :=
  ⟨1, 1, 5, 0, false, up, by decide +kernel⟩

theorem wit_HostRings_24 : ∃ (s : State), s.takesWork hostpBlock = true :=
  ⟨onB [], by decide +kernel⟩

theorem wit_DramController_0 : ∃ (s : State) (_ : Master) (_ : Bool) (_ : BitVec 36) (_ : Fin 9), s.fld
    F.HOSTP_CFG_MODE = 1 :=
  ⟨onB [(F.HOSTP_CFG_MODE, 1)], .host, false, 0, 0, by decide +kernel⟩

theorem wit_DramController_1 : ∃ (s : State) (_ : Master) (_ : Bool) (_ : BitVec 36) (_ : Fin 9), s.fld
    F.HOSTP_CFG_MODE = 0 :=
  ⟨up, .host, false, 0, 0, by decide +kernel⟩

theorem wit_DramController_2 : ∃ (s : State) (m : Master) (w : Bool) (a : BitVec 36) (_ : Fin 9) (_ : List Byte) (_ :
    Nat) (_ : Option DramUpset), s.requestAddr m w a = none :=
  ⟨up, .host, false, 0, 0, [], 8, none, by decide +kernel⟩

theorem wit_DramController_3 : ∃ (m : Master) (w : Bool) (a : BitVec 36) (_ : List Byte) (_ : Nat) (x : Nat) (_ :
    Option DramUpset) (s : State), memAsks s m w a x ∧ s.inDram x = true ∧ ((s.dramReady = false ∨ s.takesWork 0x0B =
    false)) ∧ m ≠ .host :=
  ⟨.core 0, false, 0x100000000, [], 8, 0x100000000, none, setF up [(F.DRAMC_STATUS_CAP_MIB, 1)],
    by unfold memAsks; decide +kernel, by decide +kernel⟩

theorem wit_DramController_4 : ∃ (m : Master) (w : Bool) (a : BitVec 36) (_ : List Byte) (_ : Nat) (x : Nat) (_ :
    Option DramUpset) (s : State), memAsks s m w a x ∧ s.inDram x = true ∧ ((s.dramReady = false ∨ s.takesWork 0x0B =
    false)) ∧ m = .host :=
  ⟨.host, false, 0, [], 8, 0x100000000, none,
    onB [(F.HOSTP_CFG_MODE, 1), (F.DRAMC_STATUS_CAP_MIB, 1), (F.SYSCTL_BAR2_WIN_WIN, 64)],
    by unfold memAsks; decide +kernel, by decide +kernel⟩

theorem wit_DramController_5 : ∃ (m : Master) (w : Bool) (a : BitVec 36) (_ : List Byte) (_ : Nat) (x : Nat) (_ :
    Option DramUpset) (s : State), memAsks s m w a x ∧ s.dark = false ∧ s.inDram x = false ∧ s.mapped x = false :=
  ⟨.core 0, false, 0, [], 8, 0, none, up, by unfold memAsks; decide +kernel, by decide +kernel⟩

theorem wit_DramController_6 : ∃ (m : Master) (w : Bool) (a : BitVec 36) (d : List Byte) (_ : Nat) (x : Nat) (_ :
    Option DramUpset) (s : State), memAsks s m w a x ∧ s.dark = false ∧ s.inDram x = false ∧ s.mapped x = true ∧ w =
    true ∧ ((∀ i < d.length, s.hitsKeyBank (x + i) 1 = false)) :=
  ⟨.core 0, true, 0x1000000, [1], 8, 0x1000000, none, up, by unfold memAsks; decide +kernel, by decide +kernel⟩

theorem wit_DramController_7 : ∃ (m : Master) (w : Bool) (a : BitVec 36) (_ : List Byte) (n : Nat) (x : Nat) (_ :
    Option DramUpset) (s : State), memAsks s m w a x ∧ s.dark = false ∧ s.inDram x = false ∧ w = false ∧ ((∀ i < min n
    8, s.mapped (x + i) = true ∧ s.poisoned (x + i) = false ∧ s.hitsKeyBank (x + i) 1 = false)) ∧ 0 < n :=
  ⟨.core 0, false, 0x1000000, [], 8, 0x1000000, none, up, by unfold memAsks; decide +kernel, by decide +kernel⟩

theorem wit_DramController_8 : ∃ (m : Master) (w : Bool) (a : BitVec 36) (_ : List Byte) (_ : Nat) (x : Nat) (u :
    Option DramUpset) (s : State), dramAsks s m w a x ∧ ((u = none ∨ s.flag F.DRAMC_CFG_ECC_EN = false)) ∧ w = true :=
  ⟨.core 0, true, 0x100000000, [1], 8, 0x100000000, none, dramSt [], by unfold dramAsks memAsks; decide +kernel,
    by decide +kernel⟩

theorem wit_DramController_9 : ∃ (m : Master) (w : Bool) (a : BitVec 36) (_ : List Byte) (_ : Nat) (x : Nat) (u :
    Option DramUpset) (s : State), dramAsks s m w a x ∧ ((u = none ∨ s.flag F.DRAMC_CFG_ECC_EN = false)) ∧ w = false
    :=
  ⟨.core 0, false, 0x100000000, [], 8, 0x100000000, none, dramSt [], by unfold dramAsks memAsks; decide +kernel,
    by decide +kernel⟩

theorem wit_DramController_10 : ∃ (m : Master) (a : BitVec 36) (_ : List Byte) (_ : Nat) (x : Nat) (u : DramUpset) (s
    : State), dramAsks s m false a x ∧ s.flag F.DRAMC_CFG_ECC_EN = true ∧ u.double = false :=
  ⟨.core 0, 0x100000000, [], 8, 0x100000000, ups, dramSt [(F.DRAMC_CFG_ECC_EN, 1)],
    by unfold dramAsks memAsks; decide +kernel, by decide +kernel⟩

theorem wit_DramController_11 : ∃ (rank : Fin 2) (s : State) (at' : DWord), at' = sget (fun _ => 0) s.dram.used
    rank.val ∧ s.takesWork 0x0B = true ∧ s.dramReady = true ∧ s.fld F.DRAMC_PD_CFG_PD_IDLE_NS ≠ 0 ∧ rank.val < s.fld
    F.DRAMC_CFG_RANKS ∧ at'.toNat * 1000 + s.fld F.DRAMC_PD_CFG_PD_IDLE_NS * 500 ≤ s.now * 1000 :=
  ⟨0, { dramSt [(F.DRAMC_PD_CFG_PD_IDLE_NS, 10), (F.DRAMC_CFG_RANKS, 1)] with time := { tick := 50 } }, _, rfl,
    by decide +kernel⟩

theorem wit_DramController_12 : ∃ (rank : Fin 2) (s : State) (at' : DWord), at' = sget (fun _ => 0) s.dram.used
    rank.val ∧ ((s.dramReady = false ∨ s.fld F.DRAMC_PD_CFG_PD_IDLE_NS = 0 ∨ s.fld F.DRAMC_CFG_RANKS ≤ rank.val ∨
    s.now * 1000 < at'.toNat * 1000 + s.fld F.DRAMC_PD_CFG_PD_IDLE_NS * 500)) :=
  ⟨0, up, _, rfl, by decide +kernel⟩

theorem wit_DramController_13 : ∃ (_ : List DramUpset) (s : State) (due : Nat), due = s.dram.scrubbed.toNat + s.fld
    F.DRAMC_SCRUB_SCRUB_HOURS * 1800000000000 ∧ ((s.dramReady = false ∨ s.fld F.DRAMC_SCRUB_SCRUB_HOURS = 0 ∨ s.now <
    due)) :=
  ⟨[], up, _, rfl, by decide +kernel⟩

theorem wit_DramController_14 : ∃ (_ : List DramUpset) (s : State) (due : Nat), due = s.dram.scrubbed.toNat + s.fld
    F.DRAMC_SCRUB_SCRUB_HOURS * 1800000000000 ∧ s.takesWork 0x0B = true ∧ s.dramReady = true ∧ s.fld
    F.DRAMC_SCRUB_SCRUB_HOURS ≠ 0 ∧ due ≤ s.now ∧ s.flag F.DRAMC_CFG_ECC_EN = false :=
  ⟨[], dramLate [(F.DRAMC_SCRUB_SCRUB_HOURS, 1), (F.DRAMC_CFG_ECC_EN, 0)], _, rfl, by decide +kernel⟩

theorem wit_DramController_15 : ∃ (_ : List DramUpset) (s : State) (due : Nat), due = s.dram.scrubbed.toNat + s.fld
    F.DRAMC_SCRUB_SCRUB_HOURS * 1800000000000 ∧ s.takesWork 0x0B = true ∧ s.dramReady = true ∧ s.fld
    F.DRAMC_SCRUB_SCRUB_HOURS ≠ 0 ∧ due ≤ s.now ∧ s.flag F.DRAMC_CFG_ECC_EN = true :=
  ⟨[], dramLate [(F.DRAMC_SCRUB_SCRUB_HOURS, 1), (F.DRAMC_CFG_ECC_EN, 1)], _, rfl, by decide +kernel⟩

theorem wit_DramController_16 : ∃ (u : DramUpset) (s : State) (k : Nat) (before : Nat), s.takesWork 0x0B = true ∧
    s.dramReady = true ∧ s.fld F.DRAMC_SCRUB_SCRUB_HOURS ≠ 0 ∧ s.dram.scrubbed.toNat + s.fld F.DRAMC_SCRUB_SCRUB_HOURS
    * 1800000000000 ≤ s.now ∧ s.flag F.DRAMC_CFG_ECC_EN = true ∧ u.double = false ∧ k < 8 ∧ s.flag (F.DRAMC_PPR_VALID
    k) = false ∧ ((∀ j < k, s.flag (F.DRAMC_PPR_VALID j) = true)) ∧ before = ((s.dram.ceRows.find? (fun e => decide
    (e.1 = (bit u.rank, u.bank.toNat, u.row.toNat)))).map (fun e => e.2)).getD 0 ∧ before + 1 = s.fld
    F.DRAMC_SCRUB_PPR_THRESH :=
  ⟨ups, dramLate [(F.DRAMC_SCRUB_SCRUB_HOURS, 1), (F.DRAMC_CFG_ECC_EN, 1), (F.DRAMC_SCRUB_PPR_THRESH, 1)], 0, 0,
    by decide +kernel⟩

theorem wit_DramController_17 : ∃ (u : DramUpset) (s : State) (k : Nat) (before : Nat), s.takesWork 0x0B = true ∧
    s.dramReady = true ∧ s.fld F.DRAMC_SCRUB_SCRUB_HOURS ≠ 0 ∧ s.dram.scrubbed.toNat + s.fld F.DRAMC_SCRUB_SCRUB_HOURS
    * 1800000000000 ≤ s.now ∧ s.flag F.DRAMC_CFG_ECC_EN = true ∧ u.double = false ∧ k < 8 ∧ s.flag (F.DRAMC_PPR_VALID
    k) = false ∧ ((∀ j < k, s.flag (F.DRAMC_PPR_VALID j) = true)) ∧ before = ((s.dram.ceRows.find? (fun e => decide
    (e.1 = (bit u.rank, u.bank.toNat, u.row.toNat)))).map (fun e => e.2)).getD 0 ∧ before + 1 ≠ s.fld
    F.DRAMC_SCRUB_PPR_THRESH :=
  ⟨ups, dramLate [(F.DRAMC_SCRUB_SCRUB_HOURS, 1), (F.DRAMC_CFG_ECC_EN, 1), (F.DRAMC_SCRUB_PPR_THRESH, 5)], 0, 0,
    by decide +kernel⟩

theorem wit_DramController_18 : ∃ (s : State) (u : State), s.takesWork 0x0B = true ∧ u = s.touch A.DRAMC_RETRAIN ∧
    ((u.flag F.DRAMC_STATUS_TRAINED = true ∨ u.flag F.DRAMC_STATUS_RETRAINING = true)) :=
  ⟨dramSt [], _, by decide +kernel, rfl, by decide +kernel⟩

theorem wit_DramController_19 : ∃ (s : State) (u : State), s.takesWork 0x0B = true ∧ u = s.touch A.DRAMC_RETRAIN ∧
    u.flag F.DRAMC_STATUS_TRAINED = false ∧ u.flag F.DRAMC_STATUS_RETRAINING = false :=
  ⟨setF (dramSt []) [(F.DRAMC_STATUS_TRAINED, 0)], _, by decide +kernel, rfl, by decide +kernel⟩

theorem wit_DramController_20 : ∃ (_ : Bool) (s : State), s.flag F.DRAMC_STATUS_RETRAINING = false :=
  ⟨true, up, by decide +kernel⟩

theorem wit_DramController_21 : ∃ (ok : Bool) (s : State), s.takesWork 0x0B = true ∧ s.flag F.DRAMC_STATUS_RETRAINING
    = true ∧ ok = true :=
  ⟨true, dramSt [(F.DRAMC_STATUS_RETRAINING, 1)], by decide +kernel⟩

theorem wit_DramController_22 : ∃ (ok : Bool) (s : State), s.takesWork 0x0B = true ∧ s.flag F.DRAMC_STATUS_RETRAINING
    = true ∧ ok = false :=
  ⟨false, dramSt [(F.DRAMC_STATUS_RETRAINING, 1)], by decide +kernel⟩

/-- KEYS holds `x`, and some fields are set. -/
def kst (x : KeysSt) (xs : List (Fld × Nat)) : State := { fl xs with keys := x }

/-- A change of slot 3. -/
def kchg (e : Bool) : KeyChange := { slot := 3, erase := e, key := 1, ktype := 0, pnw := 0, use := 1, pn := 0 }

theorem wit_KeyStore_13 : ∃ (s : State) (c : KeyChange) (k : Nat), s.keys.change = some c ∧
    s.takesWork 0x06 = true ∧ (s.keySlot c.slot).inflight = 0 ∧ k ≠ c.slot :=
  ⟨kst { change := some (kchg true) } [], kchg true, 4, by decide +kernel⟩

/-- The bytes of a list, as cells from address `a` on. -/
def memOf (a : Nat) (bs : List Byte) : List (Nat × Byte) :=
  ((List.range bs.length).map (fun i => (a + i, bs.getD i 0))).filter (fun e => e.2 ≠ 0)

/-- The firmware ring of SEAL holds one descriptor with the words `ws`; slot 5 holds the key `k`. -/
def sealMem (ws : List Nat) : List (Nat × Byte) := memOf 0x1000000 (ws.flatMap (leBytes 4))
def sealSt (ws : List Nat) (k : KeysSt) (xs : List (Fld × Nat)) : State :=
  { fl ([(F.SEAL_FW_CFG_EN, 1), (F.SEAL_FW_CFG_SIZE, 4), (F.SEAL_FW_IDX_PI, 1), (whole A.SEAL_FW_BASE_LO, 0x1000000)] ++ xs) with
    mem := sealMem ws, keys := k }

/-- Words of a descriptor: OP, ALG, EXPLICIT; AAD_LEN 0, TAG_LEN 16, the nonce's length, LEN; source and destination in SRAM. -/
def dw (op alg expl nlen tag len out : Nat) : List Nat :=
  [op * 2 ^ 28 + alg * 2 ^ 24 + expl * 2 ^ 20 + 5, 0x1001000, 0, 0x1002000, 0, tag * 2 ^ 16 + nlen * 2 ^ 24, len, out]

def slot5 (k : KeySlot) : KeysSt := { slots := [(5, k)] }
def lcOne (s : State) : State := { s with fuses := { s.fuses with lcBits := 1 } }

def sealEx1 (k : KeySlot) : State := sealSt (dw 1 2 0 12 16 0 0) (slot5 k) []

theorem wit_SealOperations_5 : ∃ (c : Instr) (d : SealDesc) (s u : State) (e : Nat), sealTakes s u c d ∧
    u.fld F.DBG_STATUS_LEVEL < 2 ∧ d.op ≠ 7 ∧ d.op ≠ 8 ∧ d.lengthFault = some e :=
  ⟨.hash, (sealSt (dw 5 1 0 0 0 3 0) {} []).sealDesc, sealSt (dw 5 1 0 0 0 3 0) {} [],
    (sealSt (dw 5 1 0 0 0 3 0) {} []).logDma (sealSt (dw 5 1 0 0 0 3 0) {} []).sealDescAt 64, 3, ⟨by decide +kernel, by decide +kernel, by decide +kernel, rfl, ⟨fun h => absurd h (by decide +kernel), fun _ => rfl⟩, by decide +kernel⟩,
    by decide +kernel⟩

theorem wit_SealOperations_8 : ∃ (c : Instr) (d : SealDesc) (s u : State) (e : KeyErr), sealTakes s u c d ∧
    u.fld F.DBG_STATUS_LEVEL < 2 ∧ d.lengthFault = none ∧ d.namesSlot = true ∧ u.rangeMapped d.src d.srcLen = true ∧
    u.rangeMapped d.dst d.dstLen = true ∧ u.keyCheck d.slot (if d.op = 6 then 4 else 3) d.suits = some e :=
  ⟨.encrypt, (sealEx1 {}).sealDesc, sealEx1 {}, (sealEx1 {}).logDma (sealEx1 {}).sealDescAt 64, .empty,
    ⟨by decide +kernel, by decide +kernel, by decide +kernel, rfl, ⟨fun h => absurd h (by decide +kernel), fun _ => rfl⟩, by decide +kernel⟩, by decide +kernel⟩
/-- State 11: a good descriptor whose tag in SRC is not the one that CMAC gives. -/
def tagMem : State :=
  let s := sealSt (dw 4 3 0 0 16 0 0) (slot5 { state := 1, use := 8 }) []
  { s with mem := s.mem ++ [(0x1001000, Config.tag 3 0 [] [] [] 0 + 1)] }

/-- Its descriptor. -/
def tagDesc : SealDesc where
  op := 4
  alg := 3
  explicit := false
  slot := 5
  src := 0x1001000
  dst := 0x1002000
  aadLen := 0
  tagLen := 16
  nonceLen := 0
  len := 0
  outUse := 0
  outPnw := 0
  outKtype := 0
  outSlot := 0
  pn := 0
  nonce := List.replicate 16 0
  cookie := 0

theorem byte_ne (x : Byte) : x ≠ x + 1 := by
  intro h
  have h2 := congrArg BitVec.toNat h
  rw [BitVec.toNat_add] at h2
  have := x.isLt
  simp at h2
  omega


/-- The operation in progress. -/
def sop (d : Option KeyChange) : SealOp :=
  { op := 6, status := 0, slot := none, slotNo := 0, gen := 0, pn := 0, dst := 0x1000000, dstLen := 0, out := [], tag := [], cookie := 0, derive := d }

theorem wit_SealOperations_11 : ∃ (c : Instr) (d : SealDesc) (s u : State) (tag : List Byte), sealTakes s u c d ∧ sealPasses u d ∧
    (d.op = 2 ∨ d.op = 4) ∧ tag = (List.range d.tagLen).map
        (Config.tag d.alg (u.keySlot d.slot).key (sealNonce d d.pn) (sealAad u d) (sealBody u d)) ∧
    tag ≠ slice (u.dmaBytes d.src d.srcLen) (d.aadLen + d.len) d.tagLen := by
  have hu : tagMem.logDma tagMem.sealDescAt 64 = tagMem := by
    unfold State.logDma; rw [show tagMem.hole tagMem.sealDescAt 64 = none by decide +kernel]
  have hd : tagMem.sealDesc = tagDesc := by decide +kernel
  refine ⟨.verify, tagMem.sealDesc, tagMem, tagMem, _,
    ⟨by decide +kernel, by decide +kernel, by decide +kernel, rfl, ⟨fun h => absurd h (by decide +kernel), fun _ => hu.symm⟩, by decide +kernel⟩, by unfold sealPasses; decide +kernel,
    by decide +kernel, rfl, ?_⟩
  rw [hd]
  intro h
  have h1 := congrArg (fun l => l.headD 0) h
  have e1 : sealAad tagMem tagDesc = [] := rfl
  have e2 : sealBody tagMem tagDesc = [] := rfl
  have e3 : (tagMem.keySlot tagDesc.slot).key = 0 := by decide +kernel
  rw [e1, e2, e3] at h1
  exact byte_ne _ h1

/-- The conditions of SUBMIT, with the signatures' results. -/
theorem submit_ok (s : State) (t0 : DWord) (h0 : s.keys.chalTime = some t0) (h1 : s.now ≤ t0.toNat + 60000 * Config.ticksPerMs)
    (h2 : s.mail 8 32 = s.challenge) (h3 : s.keyHash = some (Config.sha384 (s.mail 88 1984))) (h4 : s.mail 40 48 = s.deviceIdBytes)
    (h5 : Config.ed25519Verify (s.mail 88 32) (leBytes 48 (Config.sha384 (s.mail 0 88)).toNat) (s.mail 2072 64) = true)
    (h6 : Config.mldsaVerify (s.mail 120 1952) (leBytes 48 (Config.sha384 (s.mail 0 88)).toNat) (s.mail 2136 3309) = true)
    (h7 : actionAllowed s.fuses.lcBits (leNat (s.mail 0 1)) = true) : s.submitFault = none := by
  simp only [State.submitFault, h0, h1, h2, h3, h4, h5, h6, h7, decide_true, not_true_eq_false, ne_eq, or_self, and_self, if_false]

/-- ACTION a waits in the mailbox with a fresh challenge; the owner's hash is that of the keys in the mailbox. -/
def unlockSt (a : Word) : State :=
  let s := kst { chalTime := some 0 } [(whole (A.DBG_MAIL 0), a.toNat)]
  { s with fuses := { lcBits := 1, ownerHash := Config.sha384 (s.mail 88 1984) } }

theorem unlock_ok (a : Word) (ha : actionAllowed 1 (leNat ((unlockSt a).mail 0 1)) = true)
    (hm : (unlockSt a).mail 8 32 = (unlockSt a).challenge ∧ (unlockSt a).mail 40 48 = (unlockSt a).deviceIdBytes)
    (h5 : Config.ed25519Verify ((unlockSt a).mail 88 32) (leBytes 48 (Config.sha384 ((unlockSt a).mail 0 88)).toNat)
      ((unlockSt a).mail 2072 64) = true)
    (h6 : Config.mldsaVerify ((unlockSt a).mail 120 1952) (leBytes 48 (Config.sha384 ((unlockSt a).mail 0 88)).toNat)
      ((unlockSt a).mail 2136 3309) = true) : (unlockSt a).submitFault = none :=
  submit_ok _ 0 rfl (Nat.zero_le _) hm.1 rfl hm.2 h5 h6 ha

/-- A granted action runs where its signatures are good: 9 without and with VPP, 1. -/
theorem wit_LifeCycleAndDebug_17 (h5 : ∀ a b c, Config.ed25519Verify a b c = true)
    (h6 : ∀ a b c, Config.mldsaVerify a b c = true) :
    ∃ (vpp : Bool) (_ : Option (BitVec 3)) (s : State), s.dark = false ∧ s.flag F.DBG_STATUS_BUSY = false ∧ s.keys.fails < 8 ∧
      s.submitFault = none ∧ (leNat (s.mail 0 1) = 8 ∨ leNat (s.mail 0 1) = 9) ∧ vpp = false :=
  ⟨false, none, unlockSt 9, by decide +kernel, by decide +kernel, by decide +kernel,
    unlock_ok 9 (by decide +kernel) (by decide +kernel) (h5 _ _ _) (h6 _ _ _), by decide +kernel, rfl⟩

theorem wit_LifeCycleAndDebug_18 (h5 : ∀ a b c, Config.ed25519Verify a b c = true)
    (h6 : ∀ a b c, Config.mldsaVerify a b c = true) :
    ∃ (vpp : Bool) (cut : Option (BitVec 3)) (s : State), s.dark = false ∧ s.flag F.DBG_STATUS_BUSY = false ∧ s.keys.fails < 8 ∧
      s.submitFault = none ∧ (leNat (s.mail 0 1) = 8 ∨ leNat (s.mail 0 1) = 9) ∧ vpp = true ∧ cut = none :=
  ⟨true, none, unlockSt 8, by decide +kernel, by decide +kernel, by decide +kernel,
    unlock_ok 8 (by decide +kernel) (by decide +kernel) (h5 _ _ _) (h6 _ _ _), by decide +kernel, rfl, rfl⟩

theorem wit_LifeCycleAndDebug_19 (h5 : ∀ a b c, Config.ed25519Verify a b c = true)
    (h6 : ∀ a b c, Config.mldsaVerify a b c = true) (h7 : ∀ a, Config.sha384 a = Config.returnKeyHash) :
    ∃ s : State, s.dark = false ∧ s.flag F.DBG_STATUS_BUSY = false ∧ s.keys.fails < 8 ∧
      s.submitFault = none ∧ leNat (s.mail 0 1) = 3 :=
  ⟨{ kst { chalTime := some 0 } [(whole (A.DBG_MAIL 0), 3)] with fuses := { lcBits := 3 } },
    by decide +kernel, by decide +kernel, by decide +kernel,
    submit_ok _ 0 rfl (Nat.zero_le _) (by decide +kernel) (congrArg some (h7 _).symm) (by decide +kernel) (h5 _ _ _) (h6 _ _ _)
      (by decide +kernel), by decide +kernel⟩

theorem wit_LifeCycleAndDebug_22 (h5 : ∀ a b c, Config.ed25519Verify a b c = true)
    (h6 : ∀ a b c, Config.mldsaVerify a b c = true) :
    ∃ (vpp : Bool) (cut : Option (BitVec 3)) (s : State) (n : BitVec 3), s.dark = false ∧
      s.flag F.DBG_STATUS_BUSY = false ∧ s.keys.fails < 8 ∧ s.submitFault = none ∧
      (leNat (s.mail 0 1) = 8 ∨ leNat (s.mail 0 1) = 9) ∧ vpp = true ∧ cut = some n :=
  ⟨true, some 1, unlockSt 9, 1, by decide +kernel, by decide +kernel, by decide +kernel,
    unlock_ok 9 (by decide +kernel) (by decide +kernel) (h5 _ _ _) (h6 _ _ _), by decide +kernel, rfl, rfl⟩

theorem wit_LifeCycleAndDebug_20 (h5 : ∀ a b c, Config.ed25519Verify a b c = true) (h6 : ∀ a b c, Config.mldsaVerify a b c = true) :
    ∃ s : State, s.dark = false ∧ s.flag F.DBG_STATUS_BUSY = false ∧ s.keys.fails < 8 ∧ s.submitFault = none ∧
      (leNat (s.mail 0 1) = 1 ∨ leNat (s.mail 0 1) = 2) :=
  ⟨unlockSt 1, by decide +kernel, by decide +kernel, by decide +kernel, unlock_ok 1 (by decide +kernel) (by decide +kernel) (h5 _ _ _) (h6 _ _ _),
    by decide +kernel⟩

theorem wit_LifeCycleAndDebug_16 : ∃ (_ : Bool) (s : State) (r : Nat), s.dark = false ∧ s.flag F.DBG_STATUS_BUSY = false ∧ s.keys.fails < 8 ∧
    s.submitFault = some r := ⟨true, up, 2, by decide +kernel⟩

def lcS (n : Nat) (xs : List (Fld × Nat)) : State := { fl xs with fuses := { lcBits := n } }

theorem wit_KeyStore_0 : ∃ (k : BitVec 13) (s : State) (u : State), keysOpen s u A.KEYS_CMD ∧ (u.flag
    F.KEYS_STATUS_BUSY = true ∨ 8184 ≤ k.toNat) :=
  ⟨8184, up, (up).touch A.KEYS_CMD, ⟨by decide +kernel, rfl⟩, by decide +kernel⟩

theorem wit_KeyStore_1 : ∃ (k : BitVec 13) (s : State) (u : State) (pn : Nat), keysOpen s u A.KEYS_CMD ∧ u.flag
    F.KEYS_STATUS_BUSY = false ∧ k.toNat < 8184 ∧ pn = u.rd64 A.KEYS_PN_INIT_LO A.KEYS_PN_INIT_HI ∧ u.fld
    F.KEYS_SLOT_CFG_USE = 0 :=
  ⟨3, up, (up).touch A.KEYS_CMD, State.rd64 ((up).touch A.KEYS_CMD) A.KEYS_PN_INIT_LO A.KEYS_PN_INIT_HI,
    ⟨by decide +kernel, rfl⟩, by decide +kernel⟩

theorem wit_KeyStore_2 : ∃ (k : BitVec 13) (s : State) (u : State) (pn : Nat), keysOpen s u A.KEYS_CMD ∧ u.flag
    F.KEYS_STATUS_BUSY = false ∧ k.toNat < 8184 ∧ pn = u.rd64 A.KEYS_PN_INIT_LO A.KEYS_PN_INIT_HI ∧ u.fld
    F.KEYS_SLOT_CFG_USE ≠ 0 ∧ pnWarn (u.fld F.KEYS_SLOT_CFG_PNW) ≤ pn :=
  ⟨3, setR (fl [(F.KEYS_SLOT_CFG_USE, 1)]) [(A.KEYS_PN_INIT_LO, 0xFFFFFFFF), (A.KEYS_PN_INIT_HI, 0xFFFFFFFF)],
    (setR (fl [(F.KEYS_SLOT_CFG_USE, 1)]) [(A.KEYS_PN_INIT_LO, 0xFFFFFFFF), (A.KEYS_PN_INIT_HI, 0xFFFFFFFF)]).touch A.KEYS_CMD,
    State.rd64 ((setR (fl [(F.KEYS_SLOT_CFG_USE, 1)]) [(A.KEYS_PN_INIT_LO, 0xFFFFFFFF), (A.KEYS_PN_INIT_HI, 0xFFFFFFFF)]).touch A.KEYS_CMD) A.KEYS_PN_INIT_LO A.KEYS_PN_INIT_HI,
    ⟨by decide +kernel, rfl⟩, by decide +kernel⟩

theorem wit_KeyStore_3 : ∃ (k : BitVec 13) (s : State) (u : State) (pn : Nat), keysOpen s u A.KEYS_CMD ∧ u.flag
    F.KEYS_STATUS_BUSY = false ∧ k.toNat < 8184 ∧ pn = u.rd64 A.KEYS_PN_INIT_LO A.KEYS_PN_INIT_HI ∧ u.fld
    F.KEYS_SLOT_CFG_USE ≠ 0 ∧ pn < pnWarn (u.fld F.KEYS_SLOT_CFG_PNW) ∧ u.fld F.DBG_STATUS_LEVEL = 3 :=
  ⟨3, fl [(F.KEYS_SLOT_CFG_USE, 1), (F.DBG_STATUS_LEVEL, 3)],
    (fl [(F.KEYS_SLOT_CFG_USE, 1), (F.DBG_STATUS_LEVEL, 3)]).touch A.KEYS_CMD,
    State.rd64 ((fl [(F.KEYS_SLOT_CFG_USE, 1), (F.DBG_STATUS_LEVEL, 3)]).touch A.KEYS_CMD) A.KEYS_PN_INIT_LO A.KEYS_PN_INIT_HI,
    ⟨by decide +kernel, rfl⟩, by decide +kernel⟩

theorem wit_KeyStore_4 : ∃ (k : BitVec 13) (s : State) (u : State) (pn : Nat), keysOpen s u A.KEYS_CMD ∧ u.flag
    F.KEYS_STATUS_BUSY = false ∧ k.toNat < 8184 ∧ pn = u.rd64 A.KEYS_PN_INIT_LO A.KEYS_PN_INIT_HI ∧ u.fld
    F.KEYS_SLOT_CFG_USE ≠ 0 ∧ pn < pnWarn (u.fld F.KEYS_SLOT_CFG_PNW) ∧ u.fld F.DBG_STATUS_LEVEL ≠ 3 :=
  ⟨3, fl [(F.KEYS_SLOT_CFG_USE, 1)], (fl [(F.KEYS_SLOT_CFG_USE, 1)]).touch A.KEYS_CMD,
    State.rd64 ((fl [(F.KEYS_SLOT_CFG_USE, 1)]).touch A.KEYS_CMD) A.KEYS_PN_INIT_LO A.KEYS_PN_INIT_HI,
    ⟨by decide +kernel, rfl⟩, by decide +kernel⟩

theorem wit_KeyStore_5 : ∃ (k : BitVec 13) (s : State) (u : State), keysOpen s u A.KEYS_CMD ∧ u.flag
    F.KEYS_STATUS_BUSY = false ∧ k.toNat < 8184 :=
  ⟨3, up, (up).touch A.KEYS_CMD, ⟨by decide +kernel, rfl⟩, by decide +kernel⟩

theorem wit_KeyStore_6 : ∃ (s : State) (u : State), keysOpen s u A.KEYS_CMD ∧ u.flag F.KEYS_STATUS_BUSY = true :=
  ⟨fl [(F.KEYS_STATUS_BUSY, 1)], (fl [(F.KEYS_STATUS_BUSY, 1)]).touch A.KEYS_CMD, ⟨by decide +kernel, rfl⟩,
    by decide +kernel⟩

theorem wit_KeyStore_7 : ∃ (s : State) (u : State), keysOpen s u A.KEYS_CMD ∧ u.flag F.KEYS_STATUS_BUSY = false ∧
    u.sealer.cur = none :=
  ⟨up, (up).touch A.KEYS_CMD, ⟨by decide +kernel, rfl⟩, by decide +kernel⟩

theorem wit_KeyStore_8 : ∃ (_ : BitVec 13) (s : State) (u : State), keysOpen s u A.KEYS_CMD ∧ u.flag
    F.KEYS_STATUS_BUSY = true :=
  ⟨3, fl [(F.KEYS_STATUS_BUSY, 1)], (fl [(F.KEYS_STATUS_BUSY, 1)]).touch A.KEYS_CMD, ⟨by decide +kernel, rfl⟩,
    by decide +kernel⟩

theorem wit_KeyStore_9 : ∃ (k : BitVec 13) (s : State) (u : State), keysOpen s u A.KEYS_CMD ∧ u.flag
    F.KEYS_STATUS_BUSY = false ∧ (u.shownSlot k.toNat).txPn < 18446744073709551616 :=
  ⟨3, up, (up).touch A.KEYS_CMD, ⟨by decide +kernel, rfl⟩, by decide +kernel⟩

theorem wit_KeyStore_10 : ∃ (s : State) (c : KeyChange), s.keys.change = some c ∧ (s.keySlot c.slot).inflight ≠ 0 :=
  ⟨kst { change := some (kchg true), slots := [(3, { inflight := 1 })] } [], kchg true, by decide +kernel⟩

theorem wit_KeyStore_11 : ∃ (s : State) (c : KeyChange), s.keys.change = some c ∧ s.takesWork 0x06 = true ∧ (s.keySlot
    c.slot).inflight = 0 ∧ c.erase = true :=
  ⟨kst { change := some (kchg true) } [], kchg true, by decide +kernel⟩

theorem wit_KeyStore_12 : ∃ (s : State) (c : KeyChange), s.keys.change = some c ∧ s.takesWork 0x06 = true ∧ (s.keySlot
    c.slot).inflight = 0 ∧ c.erase = false :=
  ⟨kst { change := some (kchg false) } [], kchg false, by decide +kernel⟩

theorem wit_KeyStore_14 : ∃ (s : State), s.takesWork 0x06 = true ∧ s.keys.change = none ∧ ((s.keys.zeroise = true →
    s.sealer.cur.isSome = true ∨ (∃ e ∈ s.keys.slots, e.2.inflight ≠ 0))) :=
  ⟨up, by decide +kernel⟩

theorem wit_KeyStore_15 : ∃ (s : State), s.takesWork 0x06 = true ∧ s.keys.change = none ∧ s.keys.zeroise = true ∧
    s.sealer = {} ∧ swf (fun _ => {}) s.keys.slots = true ∧ ((∀ e ∈ s.keys.slots, e.2.inflight = 0)) ∧ s.keys.d3Waits
    = false :=
  ⟨kst { zeroise := true, slots := [(3, { key := 1 })] } [], by decide +kernel⟩

theorem wit_KeyStore_16 : ∃ (s : State), s.takesWork 0x06 = true ∧ s.keys.change = none ∧ s.keys.zeroise = true ∧
    s.sealer = {} ∧ swf (fun _ => {}) s.keys.slots = true ∧ ((∀ e ∈ s.keys.slots, e.2.inflight = 0)) ∧ s.keys.d3Waits
    = true :=
  ⟨kst { zeroise := true, d3Waits := true } [], by decide +kernel⟩

theorem wit_SealOperations_0 : ∃ (c : Instr) (op : Nat) (s : State), (c, op) ∈ sealOps ∧ ((s.sealReady = false ∨
    s.takesWork 0x07 = false ∨ (s.sealDesc.op ≠ op ∧ 1 ≤ s.sealDesc.op ∧ s.sealDesc.op ≤ 9))) :=
  ⟨.encrypt, 1, up, by decide +kernel⟩

theorem wit_SealOperations_1 : ∃ (c : Instr) (d : SealDesc) (s : State) (u : State), (c, d.op) ∈ sealOps ∧ s.sealReady
    = true ∧ s.takesWork 0x07 = true ∧ d = s.sealDesc ∧ sealFetched s u ∧ d.namesSlot = true ∧ s.keyWaits d.slot =
    true ∧ (s.keySlot d.slot).state ≠ 0 ∧ s.sealer.stalled = true :=
  ⟨.encrypt, (sealEx1 { state := 2 }).sealDesc, { sealEx1 { state := 2 } with sealer := { stalled := true } },
    { sealEx1 { state := 2 } with sealer := { stalled := true } }, by decide +kernel, by decide +kernel,
    by decide +kernel, (by decide +kernel), ⟨fun _ => rfl, fun h => absurd h (by decide +kernel)⟩, by decide +kernel⟩

theorem wit_SealOperations_2 : ∃ (c : Instr) (d : SealDesc) (s : State) (u : State), (c, d.op) ∈ sealOps ∧ s.sealReady
    = true ∧ s.takesWork 0x07 = true ∧ d = s.sealDesc ∧ sealFetched s u ∧ d.namesSlot = true ∧ s.keyWaits d.slot =
    true ∧ (s.keySlot d.slot).state ≠ 0 ∧ s.sealer.stalled = false :=
  ⟨.encrypt, (sealEx1 { state := 2 }).sealDesc, sealEx1 { state := 2 },
    (sealEx1 { state := 2 }).logDma (sealEx1 { state := 2 }).sealDescAt 64, by decide +kernel, by decide +kernel,
    by decide +kernel, (by decide +kernel), ⟨fun h => absurd h (by decide +kernel), fun _ => rfl⟩, by decide +kernel⟩

theorem wit_SealOperations_3 : ∃ (c : Instr) (d : SealDesc) (s : State) (u : State), sealTakes s u c d ∧ 2 ≤ u.fld
    F.DBG_STATUS_LEVEL ∧ ((d.namesSlot = true ∨ d.op = 7 ∨ d.op = 8)) :=
  ⟨.encrypt, (sealEx1 {}).sealDesc, setF (sealEx1 {}) [(F.DBG_STATUS_LEVEL, 2)],
    (setF (sealEx1 {}) [(F.DBG_STATUS_LEVEL, 2)]).logDma (setF (sealEx1 {}) [(F.DBG_STATUS_LEVEL, 2)]).sealDescAt 64,
    ⟨by decide +kernel, by decide +kernel, by decide +kernel, rfl, ⟨fun h => absurd h (by decide +kernel), fun _ => rfl⟩, by decide +kernel⟩,
    by decide +kernel⟩

theorem wit_SealOperations_4 : ∃ (c : Instr) (d : SealDesc) (s : State) (u : State), sealTakes s u c d ∧ u.fld
    F.DBG_STATUS_LEVEL < 2 ∧ ((d.op = 7 ∨ d.op = 8)) ∧ u.fuses.lcBits ≠ 1 ∧ u.fuses.lcBits ≠ 2 :=
  ⟨.sealCreate, (sealSt (dw 7 0 0 0 0 5 0) {} []).sealDesc, sealSt (dw 7 0 0 0 0 5 0) {} [],
    (sealSt (dw 7 0 0 0 0 5 0) {} []).logDma (sealSt (dw 7 0 0 0 0 5 0) {} []).sealDescAt 64,
    ⟨by decide +kernel, by decide +kernel, by decide +kernel, rfl, ⟨fun h => absurd h (by decide +kernel), fun _ => rfl⟩, by decide +kernel⟩,
    by decide +kernel⟩

theorem wit_SealOperations_6 : ∃ (c : Instr) (d : SealDesc) (s : State) (u : State), sealTakes s u c d ∧ u.fld
    F.DBG_STATUS_LEVEL < 2 ∧ d.lengthFault = none ∧ d.op = 9 ∧ d.len ≠ 0 ∧ u.flag F.KEYS_ENTROPY_HEALTH_OK = false :=
  ⟨.random, (sealSt (dw 9 0 0 0 0 5 0) {} []).sealDesc, sealSt (dw 9 0 0 0 0 5 0) {} [(F.KEYS_ENTROPY_HEALTH_OK, 0)],
    (sealSt (dw 9 0 0 0 0 5 0) {} [(F.KEYS_ENTROPY_HEALTH_OK, 0)]).logDma (sealSt (dw 9 0 0 0 0 5 0) {} [(F.KEYS_ENTROPY_HEALTH_OK, 0)]).sealDescAt 64,
    ⟨by decide +kernel, by decide +kernel, by decide +kernel, rfl, ⟨fun h => absurd h (by decide +kernel), fun _ => rfl⟩, by decide +kernel⟩,
    by decide +kernel⟩

theorem wit_SealOperations_7 : ∃ (c : Instr) (d : SealDesc) (s : State) (u : State), sealTakes s u c d ∧ u.fld
    F.DBG_STATUS_LEVEL < 2 ∧ d.lengthFault = none ∧ d.op ≤ 6 ∧ ((u.rangeMapped d.src d.srcLen = false ∨ u.rangeMapped
    d.dst d.dstLen = false)) :=
  ⟨.hash, (sealSt [0x56000000, 0, 0, 0, 0, 0, 3] {} []).sealDesc, sealSt [0x56000000, 0, 0, 0, 0, 0, 3] {} [],
    (sealSt [0x56000000, 0, 0, 0, 0, 0, 3] {} []).logDma (sealSt [0x56000000, 0, 0, 0, 0, 0, 3] {} []).sealDescAt 64,
    ⟨by decide +kernel, by decide +kernel, by decide +kernel, rfl, ⟨fun h => absurd h (by decide +kernel), fun _ => rfl⟩, by decide +kernel⟩,
    by decide +kernel⟩

theorem wit_SealOperations_9 : ∃ (c : Instr) (d : SealDesc) (s : State) (u : State), sealTakes s u c d ∧ sealPasses u
    d ∧ ((d.op = 1 ∨ d.op = 3)) ∧ (u.keySlot d.slot).state = 3 :=
  ⟨.encrypt, (sealEx1 { state := 3, use := 8 }).sealDesc, sealEx1 { state := 3, use := 8 },
    (sealEx1 { state := 3, use := 8 }).logDma (sealEx1 { state := 3, use := 8 }).sealDescAt 64,
    ⟨by decide +kernel, by decide +kernel, by decide +kernel, rfl, ⟨fun h => absurd h (by decide +kernel), fun _ => rfl⟩, by decide +kernel⟩,
    by unfold sealPasses; decide +kernel, by decide +kernel⟩

theorem wit_SealOperations_10 : ∃ (c : Instr) (d : SealDesc) (s : State) (u : State), sealTakes s u c d ∧ sealPasses u
    d ∧ ((d.op = 1 ∨ d.op = 3)) ∧ (u.keySlot d.slot).state ≠ 3 ∧ d.explicit = true ∧ d.pn ≤ (u.keySlot d.slot).txPn :=
  ⟨.encrypt, (sealSt (dw 1 2 1 12 16 0 0) (slot5 { state := 1, use := 8 }) []).sealDesc,
    sealSt (dw 1 2 1 12 16 0 0) (slot5 { state := 1, use := 8 }) [],
    (sealSt (dw 1 2 1 12 16 0 0) (slot5 { state := 1, use := 8 }) []).logDma (sealSt (dw 1 2 1 12 16 0 0) (slot5 { state := 1, use := 8 }) []).sealDescAt 64,
    ⟨by decide +kernel, by decide +kernel, by decide +kernel, rfl, ⟨fun h => absurd h (by decide +kernel), fun _ => rfl⟩, by decide +kernel⟩,
    by unfold sealPasses; decide +kernel, by decide +kernel⟩

theorem wit_SealOperations_12 : ∃ (d : SealDesc) (s : State) (u : State), sealTakes s u .hash d ∧ sealPasses u d :=
  ⟨(sealSt (dw 5 6 0 0 0 3 0) {} []).sealDesc, sealSt (dw 5 6 0 0 0 3 0) {} [],
    (sealSt (dw 5 6 0 0 0 3 0) {} []).logDma (sealSt (dw 5 6 0 0 0 3 0) {} []).sealDescAt 64,
    ⟨by decide +kernel, by decide +kernel, by decide +kernel, rfl, ⟨fun h => absurd h (by decide +kernel), fun _ => rfl⟩, by decide +kernel⟩,
    by unfold sealPasses; decide +kernel⟩

theorem wit_SealOperations_13 : ∃ (d : SealDesc) (s : State) (u : State), sealTakes s u .derive d ∧ sealPasses u d :=
  ⟨(sealSt (dw 6 7 0 0 0 16 0x01000006) (slot5 { state := 1, use := 16, ktype := 2 }) []).sealDesc,
    sealSt (dw 6 7 0 0 0 16 0x01000006) (slot5 { state := 1, use := 16, ktype := 2 }) [],
    (sealSt (dw 6 7 0 0 0 16 0x01000006) (slot5 { state := 1, use := 16, ktype := 2 }) []).logDma (sealSt (dw 6 7 0 0 0 16 0x01000006) (slot5 { state := 1, use := 16, ktype := 2 }) []).sealDescAt 64,
    ⟨by decide +kernel, by decide +kernel, by decide +kernel, rfl, ⟨fun h => absurd h (by decide +kernel), fun _ => rfl⟩, by decide +kernel⟩,
    by unfold sealPasses; decide +kernel⟩

theorem wit_SealOperations_14 : ∃ (d : SealDesc) (s : State) (u : State) (label : List Byte) (aad : List Byte) (plain
    : List Byte) (nonce : List Byte), sealTakes s u .sealCreate d ∧ sealPasses u d ∧ label = (u.dmaBytes d.src
    d.srcLen).take 16 ∧ aad = slice (u.dmaBytes d.src d.srcLen) 16 16 ++ List.replicate 48 0 ∧ plain = (u.dmaBytes
    d.src d.srcLen).drop 80 ∧ nonce = (u.randomBytes 12).1 ∧ u.sealingKey label = none :=
  ⟨(lcOne (sealSt (dw 7 0 0 0 0 5 0) {} [(F.KEYS_ENTROPY_HEALTH_OK, 1)])).sealDesc,
    lcOne (sealSt (dw 7 0 0 0 0 5 0) {} [(F.KEYS_ENTROPY_HEALTH_OK, 1)]),
    (lcOne (sealSt (dw 7 0 0 0 0 5 0) {} [(F.KEYS_ENTROPY_HEALTH_OK, 1)])).logDma (lcOne (sealSt (dw 7 0 0 0 0 5 0) {} [(F.KEYS_ENTROPY_HEALTH_OK, 1)])).sealDescAt 64,
    List.take 16 (((lcOne (sealSt (dw 7 0 0 0 0 5 0) {} [(F.KEYS_ENTROPY_HEALTH_OK, 1)])).logDma (lcOne (sealSt (dw 7 0 0 0 0 5 0) {} [(F.KEYS_ENTROPY_HEALTH_OK, 1)])).sealDescAt 64).dmaBytes (lcOne (sealSt (dw 7 0 0 0 0 5 0) {} [(F.KEYS_ENTROPY_HEALTH_OK, 1)])).sealDesc.src (lcOne (sealSt (dw 7 0 0 0 0 5 0) {} [(F.KEYS_ENTROPY_HEALTH_OK, 1)])).sealDesc.srcLen),
    _, _, _,
    ⟨by decide +kernel, by decide +kernel, by decide +kernel, rfl, ⟨fun h => absurd h (by decide +kernel), fun _ => rfl⟩, by decide +kernel⟩,
    by unfold sealPasses; decide +kernel, by decide +kernel, rfl, rfl, rfl, by decide +kernel⟩

theorem wit_SealOperations_15 : ∃ (d : SealDesc) (s : State) (u : State), sealTakes s u .attest d ∧ sealPasses u d ∧
    ((u.keys.idLoaded = false ∨ u.fuses.identity = none)) :=
  ⟨(lcOne (sealSt (dw 8 0 0 0 0 80 0) {} [])).sealDesc, lcOne (sealSt (dw 8 0 0 0 0 80 0) {} []),
    (lcOne (sealSt (dw 8 0 0 0 0 80 0) {} [])).logDma (lcOne (sealSt (dw 8 0 0 0 0 80 0) {} [])).sealDescAt 64,
    ⟨by decide +kernel, by decide +kernel, by decide +kernel, rfl, ⟨fun h => absurd h (by decide +kernel), fun _ => rfl⟩, by decide +kernel⟩,
    by unfold sealPasses; decide +kernel, by decide +kernel⟩

theorem wit_SealOperations_16 : ∃ (d : SealDesc) (s : State) (u : State), sealTakes s u .random d ∧ sealPasses u d ∧
    d.len = 0 :=
  ⟨(sealSt (dw 9 0 0 0 0 0 0) {} []).sealDesc, sealSt (dw 9 0 0 0 0 0 0) {} [],
    (sealSt (dw 9 0 0 0 0 0 0) {} []).logDma (sealSt (dw 9 0 0 0 0 0 0) {} []).sealDescAt 64,
    ⟨by decide +kernel, by decide +kernel, by decide +kernel, rfl, ⟨fun h => absurd h (by decide +kernel), fun _ => rfl⟩, by decide +kernel⟩,
    by unfold sealPasses; decide +kernel, by decide +kernel⟩

theorem wit_SealOperations_17 : ∃ (d : SealDesc) (s : State) (u : State), sealTakes s u .random d ∧ sealPasses u d ∧
    d.len ≠ 0 :=
  ⟨(sealSt (dw 9 0 0 0 0 5 0) {} []).sealDesc, sealSt (dw 9 0 0 0 0 5 0) {} [(F.KEYS_ENTROPY_HEALTH_OK, 1)],
    (sealSt (dw 9 0 0 0 0 5 0) {} [(F.KEYS_ENTROPY_HEALTH_OK, 1)]).logDma (sealSt (dw 9 0 0 0 0 5 0) {} [(F.KEYS_ENTROPY_HEALTH_OK, 1)]).sealDescAt 64,
    ⟨by decide +kernel, by decide +kernel, by decide +kernel, rfl, ⟨fun h => absurd h (by decide +kernel), fun _ => rfl⟩, by decide +kernel⟩,
    by unfold sealPasses; decide +kernel, by decide +kernel⟩

theorem wit_SealOperations_18 : ∃ (s : State), ((s.sealer.cur = none ∨ s.sealCqRoom = false ∨ s.takesWork 0x07 =
    false)) :=
  ⟨up, by decide +kernel⟩

theorem wit_SealOperations_19 : ∃ (s : State) (o : SealOp) (cq : Nat), s.takesWork 0x07 = true ∧ s.sealer.cur = some o
    ∧ s.sealCqRoom = true ∧ cq = s.rd64 A.SEAL_CQ_BASE_LO A.SEAL_CQ_BASE_HI + 32 * (s.fld F.SEAL_CQ_IDX_CQ_PI % s.fld
    F.SEAL_FW_CFG_SIZE) ∧ o.derive.isSome = true ∧ s.flag F.KEYS_STATUS_BUSY = true :=
  ⟨{ fl [(F.SEAL_FW_CFG_SIZE, 4), (F.KEYS_STATUS_BUSY, 1)] with sealer := { cur := some (sop (some (kchg false))) } },
    sop (some (kchg false)), _, by decide +kernel, by decide +kernel, by decide +kernel, rfl, by decide +kernel⟩

theorem wit_SealOperations_20 : ∃ (s : State) (o : SealOp) (cq : Nat), s.takesWork 0x07 = true ∧ s.sealer.cur = some o
    ∧ s.sealCqRoom = true ∧ cq = s.rd64 A.SEAL_CQ_BASE_LO A.SEAL_CQ_BASE_HI + 32 * (s.fld F.SEAL_CQ_IDX_CQ_PI % s.fld
    F.SEAL_FW_CFG_SIZE) ∧ ((o.derive = none ∨ s.flag F.KEYS_STATUS_BUSY = false)) ∧ o.dstLen = 0 :=
  ⟨{ fl [(F.SEAL_FW_CFG_SIZE, 4)] with sealer := { cur := some (sop none) } }, sop none, _, by decide +kernel,
    by decide +kernel, by decide +kernel, rfl, by decide +kernel⟩

theorem wit_SealOperations_21 : ∃ (s : State) (o : SealOp) (cq : Nat), s.takesWork 0x07 = true ∧ s.sealer.cur = some o
    ∧ s.sealCqRoom = true ∧ cq = s.rd64 A.SEAL_CQ_BASE_LO A.SEAL_CQ_BASE_HI + 32 * (s.fld F.SEAL_CQ_IDX_CQ_PI % s.fld
    F.SEAL_FW_CFG_SIZE) ∧ ((o.derive = none ∨ s.flag F.KEYS_STATUS_BUSY = false)) ∧ o.dstLen ≠ 0 :=
  ⟨{ fl [(F.SEAL_FW_CFG_SIZE, 4)] with sealer := { cur := some { sop none with dstLen := 2, out := [1, 2] } } },
    { sop none with dstLen := 2, out := [1, 2] }, _, by decide +kernel, by decide +kernel, by decide +kernel, rfl,
    by decide +kernel⟩

theorem wit_LifeCycleAndDebug_0 : ∃ (_ : Bool) (_ : Option Bool) (s : State) (u : State) (f1 : Fuses) (f2 : Fuses),
    keysOpen s u A.KEYS_LC_CMD ∧ f1 = { u.fuses with idSeed := some (Config.random u.keys.drawn) } ∧ f2
    = { f1 with ownerHash := u.stagedHash, hashBlown := true } ∧ u.fuses.lcBits ≠ 0 :=
  ⟨true, none, lcS 1 [], (lcS 1 []).touch A.KEYS_LC_CMD, _, _, ⟨by decide +kernel, rfl⟩, rfl, rfl, by decide +kernel⟩

theorem wit_LifeCycleAndDebug_1 : ∃ (vpp : Bool) (_ : Option Bool) (s : State) (u : State) (f1 : Fuses) (f2 : Fuses),
    keysOpen s u A.KEYS_LC_CMD ∧ f1 = { u.fuses with idSeed := some (Config.random u.keys.drawn) } ∧ f2
    = { f1 with ownerHash := u.stagedHash, hashBlown := true } ∧ u.fuses.lcBits = 0 ∧ vpp = false :=
  ⟨false, none, lcS 0 [], (lcS 0 []).touch A.KEYS_LC_CMD, _, _, ⟨by decide +kernel, rfl⟩, rfl, rfl, by decide +kernel⟩

theorem wit_LifeCycleAndDebug_2 : ∃ (vpp : Bool) (_ : Option Bool) (s : State) (u : State) (f1 : Fuses) (f2 : Fuses),
    keysOpen s u A.KEYS_LC_CMD ∧ f1 = { u.fuses with idSeed := some (Config.random u.keys.drawn) } ∧ f2
    = { f1 with ownerHash := u.stagedHash, hashBlown := true } ∧ u.fuses.lcBits = 0 ∧ vpp = true ∧ u.flag
    F.KEYS_ENTROPY_HEALTH_OK = false :=
  ⟨true, none, lcS 0 [(F.KEYS_ENTROPY_HEALTH_OK, 0)], (lcS 0 [(F.KEYS_ENTROPY_HEALTH_OK, 0)]).touch A.KEYS_LC_CMD, _,
    _, ⟨by decide +kernel, rfl⟩, rfl, rfl, by decide +kernel⟩

theorem wit_LifeCycleAndDebug_3 : ∃ (vpp : Bool) (_ : Option Bool) (s : State) (u : State) (f1 : Fuses) (f2 : Fuses),
    keysOpen s u A.KEYS_LC_CMD ∧ f1 = { u.fuses with idSeed := some (Config.random u.keys.drawn) } ∧ f2
    = { f1 with ownerHash := u.stagedHash, hashBlown := true } ∧ u.fuses.lcBits = 0 ∧ vpp = true ∧ u.flag
    F.KEYS_ENTROPY_HEALTH_OK = true ∧ ((u.fuses.idSeed ≠ none ∨ u.fuses.hashBlown = true)) :=
  ⟨true, none, { lcS 0 [(F.KEYS_ENTROPY_HEALTH_OK, 1)] with fuses := { hashBlown := true } },
    ({ lcS 0 [(F.KEYS_ENTROPY_HEALTH_OK, 1)] with fuses := { hashBlown := true } }).touch A.KEYS_LC_CMD, _, _,
    ⟨by decide +kernel, rfl⟩, rfl, rfl, by decide +kernel⟩

theorem wit_LifeCycleAndDebug_4 : ∃ (vpp : Bool) (cut : Option Bool) (s : State) (u : State) (f1 : Fuses) (f2 :
    Fuses), keysOpen s u A.KEYS_LC_CMD ∧ f1 = { u.fuses with idSeed := some (Config.random u.keys.drawn) } ∧ f2
    = { f1 with ownerHash := u.stagedHash, hashBlown := true } ∧ u.fuses.lcBits = 0 ∧ vpp = true ∧ u.flag
    F.KEYS_ENTROPY_HEALTH_OK = true ∧ u.fuses.idSeed = none ∧ u.fuses.hashBlown = false ∧ cut = none :=
  ⟨true, none, lcS 0 [(F.KEYS_ENTROPY_HEALTH_OK, 1)], (lcS 0 [(F.KEYS_ENTROPY_HEALTH_OK, 1)]).touch A.KEYS_LC_CMD, _,
    _, ⟨by decide +kernel, rfl⟩, rfl, rfl, by decide +kernel⟩

theorem wit_LifeCycleAndDebug_5 : ∃ (vpp : Bool) (cut : Option Bool) (s : State) (u : State) (f1 : Fuses) (f2 :
    Fuses), keysOpen s u A.KEYS_LC_CMD ∧ f1 = { u.fuses with idSeed := some (Config.random u.keys.drawn) } ∧ f2
    = { f1 with ownerHash := u.stagedHash, hashBlown := true } ∧ u.fuses.lcBits = 0 ∧ vpp = true ∧ u.flag
    F.KEYS_ENTROPY_HEALTH_OK = true ∧ u.fuses.idSeed = none ∧ u.fuses.hashBlown = false ∧ cut = some false :=
  ⟨true, some false, lcS 0 [(F.KEYS_ENTROPY_HEALTH_OK, 1)],
    (lcS 0 [(F.KEYS_ENTROPY_HEALTH_OK, 1)]).touch A.KEYS_LC_CMD, _, _, ⟨by decide +kernel, rfl⟩, rfl, rfl,
    by decide +kernel⟩

theorem wit_LifeCycleAndDebug_6 : ∃ (vpp : Bool) (cut : Option Bool) (s : State) (u : State) (f1 : Fuses) (f2 :
    Fuses), keysOpen s u A.KEYS_LC_CMD ∧ f1 = { u.fuses with idSeed := some (Config.random u.keys.drawn) } ∧ f2
    = { f1 with ownerHash := u.stagedHash, hashBlown := true } ∧ u.fuses.lcBits = 0 ∧ vpp = true ∧ u.flag
    F.KEYS_ENTROPY_HEALTH_OK = true ∧ u.fuses.idSeed = none ∧ u.fuses.hashBlown = false ∧ cut = some true :=
  ⟨true, some true, lcS 0 [(F.KEYS_ENTROPY_HEALTH_OK, 1)],
    (lcS 0 [(F.KEYS_ENTROPY_HEALTH_OK, 1)]).touch A.KEYS_LC_CMD, _, _, ⟨by decide +kernel, rfl⟩, rfl, rfl,
    by decide +kernel⟩

theorem wit_LifeCycleAndDebug_7 : ∃ (_ : Bool) (s : State) (u : State), keysOpen s u A.KEYS_LC_CMD ∧ u.fuses.lcBits ≠
    1 :=
  ⟨true, lcS 0 [], (lcS 0 []).touch A.KEYS_LC_CMD, ⟨by decide +kernel, rfl⟩, by decide +kernel⟩

theorem wit_LifeCycleAndDebug_8 : ∃ (vpp : Bool) (s : State) (u : State), keysOpen s u A.KEYS_LC_CMD ∧ u.fuses.lcBits
    = 1 ∧ vpp = false :=
  ⟨false, lcS 1 [], (lcS 1 []).touch A.KEYS_LC_CMD, ⟨by decide +kernel, rfl⟩, by decide +kernel⟩

theorem wit_LifeCycleAndDebug_9 : ∃ (vpp : Bool) (s : State) (u : State), keysOpen s u A.KEYS_LC_CMD ∧ u.fuses.lcBits
    = 1 ∧ vpp = true :=
  ⟨true, lcS 1 [], (lcS 1 []).touch A.KEYS_LC_CMD, ⟨by decide +kernel, rfl⟩, by decide +kernel⟩

theorem wit_LifeCycleAndDebug_10 : ∃ (s : State), s.takesWork 0x06 = true ∧ s.flag F.KEYS_ENTROPY_HEALTH_OK = false :=
  ⟨fl [(F.KEYS_ENTROPY_HEALTH_OK, 0)], by decide +kernel⟩

theorem wit_LifeCycleAndDebug_11 : ∃ (s : State), s.takesWork 0x06 = true ∧ s.flag F.KEYS_ENTROPY_HEALTH_OK = true :=
  ⟨fl [(F.KEYS_ENTROPY_HEALTH_OK, 1)], by decide +kernel⟩

theorem wit_LifeCycleAndDebug_12 : ∃ (s : State) (msg : List Byte), msg = leBytes 48 (Config.sha384 (s.mail 0
    88)).toNat ∧ ((∀ t0, s.keys.chalTime = some t0 → t0.toNat + 30000000000 < s.now) ∨ s.mail 8 32 ≠ s.challenge) :=
  ⟨up, _, rfl, .inl (none_all rfl)⟩

theorem wit_LifeCycleAndDebug_13 : ∃ (_ : Bool) (_ : Option (BitVec 3)) (s : State), s.dark = false ∧ s.flag
    F.DBG_STATUS_BUSY = true :=
  ⟨true, none, fl [(F.DBG_STATUS_BUSY, 1)], by decide +kernel⟩

theorem wit_LifeCycleAndDebug_14 : ∃ (vpp : Bool) (cut : Option (BitVec 3)) (s : State), s.dark = false ∧ s.flag
    F.DBG_STATUS_BUSY = false ∧ (cut = none ∨ vpp = false) :=
  ⟨true, none, kst { fails := 8 } [], by decide +kernel⟩

theorem wit_LifeCycleAndDebug_15 : ∃ (_ : Bool) (_ : Option (BitVec 3)) (s : State), s.dark = false ∧ s.flag
    F.DBG_STATUS_BUSY = false ∧ 8 ≤ s.keys.fails :=
  ⟨true, none, kst { fails := 8 } [], by decide +kernel⟩

theorem wit_LifeCycleAndDebug_21 : ∃ (s : State), s.dark = false :=
  ⟨up, by decide +kernel⟩

/-- DISPATCH holds `x`, and some fields are set. -/
def dsp (x : DispSt) (xs : List (Fld × Nat)) : State := { fl xs with disp := x }

/-- Thread 5 is RUNNING on core 2 with the arguments `a` and `b`; `x` is what DISPATCH holds beside it. -/
def run5 (a b : Word) (th : ThreadX) (x : DispSt) (xs : List (Fld × Nat)) : State :=
  dsp { x with cores := [(2, { cur := some 5, arg0 := a, arg1 := b })], threads := [(5, th)] }
    ((F.DISPATCH_TH_W0_STATE 5, 2) :: xs)

theorem wit_ThreadOperations_24 : ∃ (c : Fin 9) (s : State) (k : Nat) (e : DWord) (rest : List DWord), onCore s c k ∧
    (s.thx k).compl = e :: rest :=
  ⟨2, run5 0 0 { compl := [9] } {} [], 5, 9, [], by unfold onCore; decide +kernel, by decide +kernel⟩

theorem wit_ThreadOperations_25 : ∃ (c : Fin 9) (s v : State) (k b : Nat), onCore s c k ∧
    v = { s with disp := { s.disp with ready := s.disp.ready.filter (fun j => decide (j ≠ k)) } } ∧
    v.pickReady c.val = some b ∧ s.prio k ≤ s.prio b ∧ (s.thState k = 1 ∨ s.thState k = 2) :=
  ⟨2, run5 0 0 {} { ready := [6] } [(F.DISPATCH_TH_W0_AFFINITY 6, 4)], _, 5, 6, by unfold onCore; decide +kernel, rfl,
    by decide +kernel⟩

theorem wit_ThreadOperations_26 : ∃ (c : Fin 9) (s : State) (k q w : Nat), onCore s c k ∧ q = (s.core c.val).arg0.toNat ∧
    q ≤ 255 ∧ s.flag (F.DISPATCH_MQ_W0_EN q) = true ∧ s.bestWaiter q = some w ∧ w ≠ k :=
  ⟨2, run5 7 0 {} { waiters := [(7, 6)] } [(F.DISPATCH_MQ_W0_EN 7, 1), (F.DISPATCH_TH_W0_STATE 6, 3)], 5, 7, 6,
    by unfold onCore; decide +kernel, by decide +kernel⟩

theorem wit_ThreadOperations_27 : ∃ (c : Fin 9) (s : State) (k q : Nat) (e : DWord) (rest : List DWord), onCore s c k ∧
    q = (s.core c.val).arg0.toNat ∧ q ≤ 255 ∧ s.flag (F.DISPATCH_MQ_W0_EN q) = true ∧ s.mqEntries q = e :: rest :=
  ⟨2, run5 7 0 {} { mq := [(7, [4, 5])] } [(F.DISPATCH_MQ_W0_EN 7, 1)], 5, 7, 4, [5],
    by unfold onCore; decide +kernel, by decide +kernel⟩

theorem wit_ThreadScheduling_18 : ∃ (c : Fin 9) (s : State) (k b : Nat), onCore s c k ∧ s.thState k = 2 ∧
    (s.thx k).exiting = false ∧ s.coreAble c.val = true ∧ s.allows k c.val = true ∧ s.pickReady c.val = some b ∧
    b ≠ k ∧ s.prio k < s.prio b :=
  ⟨2, run5 0 0 {} { ready := [6] } [(F.DISPATCH_CORE_MAP_ACTIVE, 4), (F.DISPATCH_TH_W0_AFFINITY 5, 4),
    (F.DISPATCH_TH_W0_AFFINITY 6, 4), (F.DISPATCH_TH_W0_PRIO 6, 1)], 5, 6, by unfold onCore; decide +kernel,
    by decide +kernel⟩

theorem wit_ThreadScheduling_19 : ∃ (i : Fin 1024) (v : Word) (s : State) (c : Nat), s.dark = false ∧
    getBits v 0 9 &&& s.fld F.DISPATCH_CORE_MAP_ACTIVE ≠ 0 ∧ s.thState i.val = 2 ∧ s.coreOf i.val = some c ∧
    (getBits v 0 9).testBit c = false :=
  ⟨5, 2, run5 0 0 {} {} [(F.DISPATCH_CORE_MAP_ACTIVE, 2)], 2, by decide +kernel⟩

theorem wit_VectorsAndSupervision_14 : ∃ (high : Bool) (v : Word) (s u t : State), s.takesWork 0x09 = true ∧
    u = s.touch (if high then A.DISPATCH_SW_ENTRY_HI else A.DISPATCH_SW_ENTRY_LO) ∧ u.flt.spareHeld = true ∧
    exec (.swEntryWrite high v) s = .next t ∧ t.swEntrySet = true ∧ u.spareCore = true :=
  ⟨false, 0x1000, { up with flt := { spareHeld := true } }, _, _, by decide +kernel, rfl, by decide +kernel, rfl, by decide +kernel⟩

theorem wit_ThreadOperations_0 : ∃ (c : Fin 9) (s : State), (s.core c.val).cur = none :=
  ⟨2, up, by decide +kernel⟩

theorem wit_ThreadOperations_1 : ∃ (c : Fin 9) (s : State) (k : Nat), onCore s c k ∧ s.thState k ≠ 1 ∧ s.thState k ≠ 2
    :=
  ⟨2, run5 0 0 {} {} [(F.DISPATCH_TH_W0_STATE 5, 3)], 5, by unfold onCore; decide +kernel, by decide +kernel⟩

theorem wit_ThreadOperations_2 : ∃ (c : Fin 9) (s : State) (k : Nat), onCore s c k ∧ ((s.thState k = 4 ∨ s.thState k =
    0)) :=
  ⟨2, run5 0 0 {} {} [(F.DISPATCH_TH_W0_STATE 5, 4)], 5, by unfold onCore; decide +kernel, by decide +kernel⟩

theorem wit_ThreadOperations_3 : ∃ (c : Fin 9) (s : State) (k : Nat), onCore s c k ∧ s.thState k ≠ 4 ∧ s.thState k ≠ 0
    :=
  ⟨2, run5 0 0 {} {} [], 5, by unfold onCore; decide +kernel, by decide +kernel⟩

theorem wit_ThreadOperations_4 : ∃ (c : Fin 9) (s : State) (k : Nat) (m : Word) (us : Word) (hit : Word) (all : Bool)
    (cons : Bool), onCore s c k ∧ m = (s.core c.val).arg0 ∧ us = (s.core c.val).arg1 ∧ all = (s.thx k).item.getLsbD 0
    ∧ cons = (s.thx k).item.getLsbD 1 ∧ hit = s.rd (A.DISPATCH_TH_EVENTS k) &&& m ∧ m = 0 :=
  ⟨2, run5 0 0 {} {} [], 5, _, _, _, _, _, by unfold onCore; decide +kernel, rfl, rfl, rfl, rfl, rfl, rfl⟩

theorem wit_ThreadOperations_5 : ∃ (c : Fin 9) (s : State) (k : Nat) (m : Word) (us : Word) (hit : Word) (all : Bool)
    (cons : Bool), onCore s c k ∧ m = (s.core c.val).arg0 ∧ us = (s.core c.val).arg1 ∧ all = (s.thx k).item.getLsbD 0
    ∧ cons = (s.thx k).item.getLsbD 1 ∧ hit = s.rd (A.DISPATCH_TH_EVENTS k) &&& m ∧ m ≠ 0 ∧ (if all then hit = m else
    hit ≠ 0) ∧ cons = false :=
  ⟨2, run5 6 0 {} {} [(whole (A.DISPATCH_TH_EVENTS 5), 2)], 5, _, _, _, _, _, by unfold onCore; decide +kernel, rfl,
    rfl, rfl, rfl, rfl, by decide +kernel, by decide +kernel, rfl⟩

theorem wit_ThreadOperations_6 : ∃ (c : Fin 9) (s : State) (k : Nat) (m : Word) (us : Word) (hit : Word) (all : Bool)
    (cons : Bool), onCore s c k ∧ m = (s.core c.val).arg0 ∧ us = (s.core c.val).arg1 ∧ all = (s.thx k).item.getLsbD 0
    ∧ cons = (s.thx k).item.getLsbD 1 ∧ hit = s.rd (A.DISPATCH_TH_EVENTS k) &&& m ∧ m ≠ 0 ∧ (if all then hit = m else
    hit ≠ 0) ∧ cons = true :=
  ⟨2, run5 6 0 { item := 3 } {} [(whole (A.DISPATCH_TH_EVENTS 5), 7)], 5, _, _, _, _, _,
    by unfold onCore; decide +kernel, rfl, rfl, rfl, rfl, rfl, by decide +kernel, by decide +kernel, rfl⟩

theorem wit_ThreadOperations_7 : ∃ (c : Fin 9) (s : State) (k : Nat) (m : Word) (us : Word) (hit : Word) (all : Bool)
    (cons : Bool), onCore s c k ∧ m = (s.core c.val).arg0 ∧ us = (s.core c.val).arg1 ∧ all = (s.thx k).item.getLsbD 0
    ∧ cons = (s.thx k).item.getLsbD 1 ∧ hit = s.rd (A.DISPATCH_TH_EVENTS k) &&& m ∧ m ≠ 0 ∧ ¬ (if all then hit = m
    else hit ≠ 0) ∧ us = 0 :=
  ⟨2, run5 6 0 { item := 1 } {} [(whole (A.DISPATCH_TH_EVENTS 5), 2)], 5, _, _, _, _, _,
    by unfold onCore; decide +kernel, rfl, rfl, rfl, rfl, rfl, by decide +kernel, by decide +kernel, rfl⟩

theorem wit_ThreadOperations_8 : ∃ (c : Fin 9) (s : State) (k : Nat) (m : Word) (us : Word) (hit : Word) (all : Bool)
    (cons : Bool), onCore s c k ∧ m = (s.core c.val).arg0 ∧ us = (s.core c.val).arg1 ∧ all = (s.thx k).item.getLsbD 0
    ∧ cons = (s.thx k).item.getLsbD 1 ∧ hit = s.rd (A.DISPATCH_TH_EVENTS k) &&& m ∧ m ≠ 0 ∧ ¬ (if all then hit = m
    else hit ≠ 0) ∧ us ≠ 0 ∧ s.thState k = 4 :=
  ⟨2, run5 6 9 { item := 1 } {} [(whole (A.DISPATCH_TH_EVENTS 5), 2), (F.DISPATCH_TH_W0_STATE 5, 4)], 5, _, _, _, _,
    _, by unfold onCore; decide +kernel, rfl, rfl, rfl, rfl, rfl, by decide +kernel⟩

theorem wit_ThreadOperations_9 : ∃ (c : Fin 9) (s : State) (k : Nat) (m : Word) (us : Word) (hit : Word) (all : Bool)
    (cons : Bool), onCore s c k ∧ m = (s.core c.val).arg0 ∧ us = (s.core c.val).arg1 ∧ all = (s.thx k).item.getLsbD 0
    ∧ cons = (s.thx k).item.getLsbD 1 ∧ hit = s.rd (A.DISPATCH_TH_EVENTS k) &&& m ∧ m ≠ 0 ∧ ¬ (if all then hit = m
    else hit ≠ 0) ∧ us ≠ 0 ∧ s.thState k ≠ 4 :=
  ⟨2, run5 6 9 { item := 1 } {} [(whole (A.DISPATCH_TH_EVENTS 5), 2)], 5, _, _, _, _, _,
    by unfold onCore; decide +kernel, rfl, rfl, rfl, rfl, rfl, by decide +kernel⟩

theorem wit_ThreadOperations_10 : ∃ (c : Fin 9) (s : State) (k : Nat), onCore s c k ∧ (s.thx k).item.toNat ≤ s.now :=
  ⟨2, run5 0 0 {} {} [], 5, by unfold onCore; decide +kernel, by decide +kernel⟩

theorem wit_ThreadOperations_11 : ∃ (c : Fin 9) (s : State) (k : Nat), onCore s c k ∧ s.now < (s.thx k).item.toNat ∧
    s.thState k = 4 :=
  ⟨2, run5 0 0 { item := 9999 } {} [(F.DISPATCH_TH_W0_STATE 5, 4)], 5, by unfold onCore; decide +kernel,
    by decide +kernel⟩

theorem wit_ThreadOperations_12 : ∃ (c : Fin 9) (s : State) (k : Nat), onCore s c k ∧ s.now < (s.thx k).item.toNat ∧
    s.thState k ≠ 4 :=
  ⟨2, run5 0 0 { item := 9999 } {} [], 5, by unfold onCore; decide +kernel, by decide +kernel⟩

theorem wit_ThreadOperations_13 : ∃ (c : Fin 9) (s : State) (k : Nat) (j : Nat) (m : Word), onCore s c k ∧ j = (s.core
    c.val).arg0.toNat ∧ m = (s.core c.val).arg1 ∧ 1023 < j :=
  ⟨2, run5 1024 0 {} {} [], 5, _, _, by unfold onCore; decide +kernel, rfl, rfl, by decide +kernel⟩

theorem wit_ThreadOperations_14 : ∃ (c : Fin 9) (s : State) (k : Nat) (j : Nat) (m : Word), onCore s c k ∧ j = (s.core
    c.val).arg0.toNat ∧ m = (s.core c.val).arg1 ∧ j ≤ 1023 ∧ m = 0 :=
  ⟨2, run5 1023 0 {} {} [], 5, _, _, by unfold onCore; decide +kernel, rfl, rfl, by decide +kernel, rfl⟩

theorem wit_ThreadOperations_15 : ∃ (c : Fin 9) (s : State) (k : Nat) (j : Nat) (m : Word), onCore s c k ∧ j = (s.core
    c.val).arg0.toNat ∧ m = (s.core c.val).arg1 ∧ j ≤ 1023 ∧ m ≠ 0 ∧ ((s.thState j ≠ 3 ∨ s.fld
    (F.DISPATCH_TH_WAIT_WAIT_KIND j) ≠ 1)) :=
  ⟨2, run5 1023 8 {} {} [], 5, _, _, by unfold onCore; decide +kernel, rfl, rfl, by decide +kernel⟩

theorem wit_ThreadOperations_16 : ∃ (c : Fin 9) (s : State) (k : Nat) (j : Nat) (m : Word), onCore s c k ∧ j = (s.core
    c.val).arg0.toNat ∧ m = (s.core c.val).arg1 ∧ j ≤ 1023 ∧ m ≠ 0 ∧ s.thState j = 3 ∧ s.fld
    (F.DISPATCH_TH_WAIT_WAIT_KIND j) = 1 ∧ (if (s.thx j).waitAll then (s.rd (A.DISPATCH_TH_EVENTS j) ||| m) &&& s.rd
    (A.DISPATCH_TH_MASK j) = s.rd (A.DISPATCH_TH_MASK j) else (s.rd (A.DISPATCH_TH_EVENTS j) ||| m) &&& s.rd
    (A.DISPATCH_TH_MASK j) ≠ 0) :=
  ⟨2,
    run5 6 8 {} {} [(F.DISPATCH_TH_W0_STATE 6, 3), (F.DISPATCH_TH_WAIT_WAIT_KIND 6, 1), (whole (A.DISPATCH_TH_MASK 6), 24)],
    5, _, _, by unfold onCore; decide +kernel, rfl, rfl, by decide +kernel⟩

theorem wit_ThreadOperations_17 : ∃ (c : Fin 9) (s : State) (k : Nat) (q : Nat), onCore s c k ∧ q = (s.core
    c.val).arg0.toNat ∧ ((255 < q ∨ s.flag (F.DISPATCH_MQ_W0_EN q) = false)) :=
  ⟨2, run5 256 0 {} {} [], 5, _, by unfold onCore; decide +kernel, rfl, by decide +kernel⟩

theorem wit_ThreadOperations_18 : ∃ (c : Fin 9) (s : State) (k : Nat) (q : Nat), onCore s c k ∧ q = (s.core
    c.val).arg0.toNat ∧ q ≤ 255 ∧ s.flag (F.DISPATCH_MQ_W0_EN q) = true ∧ s.bestWaiter q = none ∧ (s.mqEntries
    q).length < s.fld (F.DISPATCH_MQ_W0_DEPTH q) :=
  ⟨2, run5 255 0 {} {} [(F.DISPATCH_MQ_W0_EN 255, 1), (F.DISPATCH_MQ_W0_DEPTH 255, 4)], 5, _,
    by unfold onCore; decide +kernel, rfl, by decide +kernel⟩

theorem wit_ThreadOperations_19 : ∃ (c : Fin 9) (s : State) (k : Nat) (q : Nat), onCore s c k ∧ q = (s.core
    c.val).arg0.toNat ∧ q ≤ 255 ∧ s.flag (F.DISPATCH_MQ_W0_EN q) = true ∧ s.bestWaiter q = none ∧ s.fld
    (F.DISPATCH_MQ_W0_DEPTH q) ≤ (s.mqEntries q).length :=
  ⟨2, run5 7 0 {} { mq := [(7, [1])] } [(F.DISPATCH_MQ_W0_EN 7, 1), (F.DISPATCH_MQ_W0_DEPTH 7, 1)], 5, _,
    by unfold onCore; decide +kernel, rfl, by decide +kernel⟩

theorem wit_ThreadOperations_20 : ∃ (c : Fin 9) (s : State) (k : Nat) (q : Nat) (us : Word), onCore s c k ∧ q =
    (s.core c.val).arg0.toNat ∧ us = (s.core c.val).arg1 ∧ ((255 < q ∨ s.flag (F.DISPATCH_MQ_W0_EN q) = false)) :=
  ⟨2, run5 255 0 {} {} [], 5, _, _, by unfold onCore; decide +kernel, rfl, rfl, by decide +kernel⟩

theorem wit_ThreadOperations_21 : ∃ (c : Fin 9) (s : State) (k : Nat) (q : Nat) (us : Word), onCore s c k ∧ q =
    (s.core c.val).arg0.toNat ∧ us = (s.core c.val).arg1 ∧ q ≤ 255 ∧ s.flag (F.DISPATCH_MQ_W0_EN q) = true ∧
    s.mqEntries q = [] ∧ us = 0 :=
  ⟨2, run5 255 0 {} {} [(F.DISPATCH_MQ_W0_EN 255, 1)], 5, _, _, by unfold onCore; decide +kernel, rfl, rfl,
    by decide +kernel, by decide +kernel, by decide +kernel, rfl⟩

theorem wit_ThreadOperations_22 : ∃ (c : Fin 9) (s : State) (k : Nat) (q : Nat) (us : Word), onCore s c k ∧ q =
    (s.core c.val).arg0.toNat ∧ us = (s.core c.val).arg1 ∧ q ≤ 255 ∧ s.flag (F.DISPATCH_MQ_W0_EN q) = true ∧
    s.mqEntries q = [] ∧ us ≠ 0 :=
  ⟨2, run5 7 3 {} {} [(F.DISPATCH_MQ_W0_EN 7, 1)], 5, _, _, by unfold onCore; decide +kernel, rfl, rfl,
    by decide +kernel⟩

theorem wit_ThreadOperations_23 : ∃ (c : Fin 9) (s : State) (k : Nat), onCore s c k ∧ (s.thx k).compl = [] :=
  ⟨2, run5 0 0 {} {} [], 5, by unfold onCore; decide +kernel, by decide +kernel⟩

theorem wit_ThreadScheduling_0 : ∃ (c : Fin 9) (s : State) (k : Nat) (j : Nat), targets s c k j ∧ 1023 < j :=
  ⟨2, run5 1024 0 {} {} [], 5, 1024, (by unfold targets onCore; decide +kernel), by decide +kernel⟩

theorem wit_ThreadScheduling_1 : ∃ (c : Fin 9) (s : State) (k : Nat) (j : Nat), targets s c k j ∧ j ≤ 1023 ∧ s.thState
    j ≠ 0 ∧ s.thState j ≠ 4 :=
  ⟨2, run5 6 0 {} {} [(F.DISPATCH_TH_W0_STATE 6, 1)], 5, 6, (by unfold targets onCore; decide +kernel),
    by decide +kernel⟩

theorem wit_ThreadScheduling_2 : ∃ (c : Fin 9) (s : State) (k : Nat) (j : Nat), targets s c k j ∧ j ≤ 1023 ∧ s.thState
    j = 0 :=
  ⟨2, run5 1023 0 {} {} [], 5, 1023, (by unfold targets onCore; decide +kernel), by decide +kernel⟩

theorem wit_ThreadScheduling_3 : ∃ (c : Fin 9) (s : State) (k : Nat) (j : Nat), targets s c k j ∧ j ≤ 1023 ∧ s.thState
    j ≠ 4 :=
  ⟨2, run5 6 0 {} {} [(F.DISPATCH_TH_W0_STATE 6, 3)], 5, 6, (by unfold targets onCore; decide +kernel),
    by decide +kernel⟩

theorem wit_ThreadScheduling_4 : ∃ (c : Fin 9) (s : State) (k : Nat) (j : Nat), targets s c k j ∧ j ≤ 1023 ∧ s.thState
    j = 4 :=
  ⟨2, run5 6 0 {} {} [(F.DISPATCH_TH_W0_STATE 6, 4)], 5, 6, (by unfold targets onCore; decide +kernel),
    by decide +kernel⟩

theorem wit_ThreadScheduling_5 : ∃ (c : Fin 9) (s : State), s.dark = false ∧ (s.core c.val).cur = none ∧ ((s.coreAble
    c.val = false ∨ s.pickReady c.val = none)) :=
  ⟨2, fl [(F.DISPATCH_CORE_MAP_ACTIVE, 4)], by decide +kernel⟩

theorem wit_ThreadScheduling_6 : ∃ (c : Fin 9) (s : State) (n : Nat), s.dark = false ∧ (s.core c.val).cur = none ∧
    s.coreAble c.val = true ∧ s.pickReady c.val = some n ∧ n < 18446744073709551616 :=
  ⟨2, dsp { ready := [5] } [(F.DISPATCH_CORE_MAP_ACTIVE, 4), (F.DISPATCH_TH_W0_AFFINITY 5, 4)], 5, by decide +kernel⟩

theorem wit_ThreadScheduling_7 : ∃ (c : Fin 9) (s : State) (k : Nat), onCore s c k ∧ s.thState k = 2 ∧ (s.thx
    k).exiting = false ∧ s.coreAble c.val = true ∧ s.allows k c.val = true ∧ ((∀ b, s.pickReady c.val = some b →
    s.prio b ≤ s.prio k)) :=
  ⟨2, run5 0 0 {} {} [(F.DISPATCH_CORE_MAP_ACTIVE, 4), (F.DISPATCH_TH_W0_AFFINITY 5, 4)], 5,
    by unfold onCore; decide +kernel, by decide +kernel, by decide +kernel, by decide +kernel, (by decide +kernel),
    none_all (by decide +kernel)⟩

theorem wit_ThreadScheduling_8 : ∃ (c : Fin 9) (s : State) (k : Nat), onCore s c k ∧ (s.thx k).exiting = true ∧
    s.disp.ready = [] :=
  ⟨2, run5 0 0 { exiting := true } {} [], 5, by unfold onCore; decide +kernel, by decide +kernel⟩

theorem wit_ThreadScheduling_9 : ∃ (c : Fin 9) (s : State) (k : Nat), onCore s c k ∧ s.thState k = 5 ∧ (s.thx
    k).exiting = false ∧ s.disp.ready = [] ∧ s.fld (F.DISPATCH_TH_WAIT_WAIT_KIND k) = 0 :=
  ⟨2, run5 0 0 {} {} [(F.DISPATCH_TH_W0_STATE 5, 5)], 5, by unfold onCore; decide +kernel, by decide +kernel⟩

theorem wit_ThreadScheduling_10 : ∃ (c : Fin 9) (s : State) (k : Nat), onCore s c k ∧ s.thState k = 5 ∧ (s.thx
    k).exiting = false ∧ s.disp.ready = [] ∧ s.fld (F.DISPATCH_TH_WAIT_WAIT_KIND k) ≠ 0 ∧ s.fld
    (F.DISPATCH_TH_WAIT_WAIT_KIND k) ≠ 1 :=
  ⟨2, run5 0 0 {} {} [(F.DISPATCH_TH_W0_STATE 5, 5), (F.DISPATCH_TH_WAIT_WAIT_KIND 5, 2)], 5,
    by unfold onCore; decide +kernel, by decide +kernel⟩

theorem wit_ThreadScheduling_11 : ∃ (i : Fin 1024) (s : State), ((i.val ∉ s.disp.delay ∨ s.now < s.wakeAt i.val ∨
    (s.fld (F.DISPATCH_TH_WAIT_WAIT_KIND i.val) ≠ 3 ∧ s.now ≤ s.wakeAt i.val))) :=
  ⟨5, up, by decide +kernel⟩

theorem wit_ThreadScheduling_12 : ∃ (i : Fin 1024) (s : State) (r : Nat), s.dark = false ∧ wakeComes s i.val ∧ ((∀ j,
    wakeComes s j → s.wakeAt i.val < s.wakeAt j ∨ (s.wakeAt i.val = s.wakeAt j ∧ i.val ≤ j))) ∧ r = (if s.fld
    (F.DISPATCH_TH_WAIT_WAIT_KIND i.val) = 3 then 1 else 2) ∧ s.thState i.val ≠ 5 :=
  ⟨5, { dsp { delay := [5] } [] with time := { tick := 1 } }, _, by decide +kernel,
    ⟨by decide +kernel, by decide +kernel, by decide +kernel⟩,
    by rintro j ⟨hj, -, -⟩; have h : j = 5 := List.mem_singleton.1 hj; subst h; exact .inr ⟨rfl, Nat.le_refl _⟩, rfl,
    by decide +kernel⟩

theorem wit_ThreadScheduling_13 : ∃ (i : Fin 1024) (s : State) (r : Nat), s.dark = false ∧ wakeComes s i.val ∧ ((∀ j,
    wakeComes s j → s.wakeAt i.val < s.wakeAt j ∨ (s.wakeAt i.val = s.wakeAt j ∧ i.val ≤ j))) ∧ r = (if s.fld
    (F.DISPATCH_TH_WAIT_WAIT_KIND i.val) = 3 then 1 else 2) ∧ s.thState i.val = 5 :=
  ⟨5, { dsp { delay := [5] } [(F.DISPATCH_TH_W0_STATE 5, 5)] with time := { tick := 1 } }, _, by decide +kernel,
    ⟨by decide +kernel, by decide +kernel, by decide +kernel⟩,
    by rintro j ⟨hj, -, -⟩; have h : j = 5 := List.mem_singleton.1 hj; subst h; exact .inr ⟨rfl, Nat.le_refl _⟩, rfl,
    by decide +kernel⟩

theorem wit_ThreadScheduling_14 : ∃ (c : Fin 9) (s : State) (k : Nat), onCore s c k ∧ ((s.fld F.DISPATCH_CTRL_SLICE_US
    = 0 ∨ s.thState k ≠ 2 ∨ s.now < (s.core c.val).since.toNat + s.fld F.DISPATCH_CTRL_SLICE_US * 500 ∨ (∀ r ∈
    s.disp.ready, s.allows r c.val = true → s.prio r ≠ s.prio k))) :=
  ⟨2, run5 0 0 {} {} [(F.DISPATCH_CTRL_SLICE_US, 0)], 5, by unfold onCore; decide +kernel, .inl (by decide +kernel)⟩

theorem wit_ThreadScheduling_15 : ∃ (c : Fin 9) (s : State) (k : Nat), onCore s c k ∧ s.fld F.DISPATCH_CTRL_SLICE_US ≠
    0 ∧ s.thState k = 2 ∧ (s.core c.val).since.toNat + s.fld F.DISPATCH_CTRL_SLICE_US * 500 ≤ s.now ∧ ((∃ r ∈
    s.disp.ready, s.allows r c.val = true ∧ s.prio r = s.prio k)) :=
  ⟨2,
    { run5 0 0 {} { ready := [6] } [(F.DISPATCH_CTRL_SLICE_US, 1), (F.DISPATCH_TH_W0_AFFINITY 6, 4)] with time := { tick := 500 } },
    5, by unfold onCore; decide +kernel, by decide +kernel, by decide +kernel, by decide +kernel,
    ⟨6, by decide +kernel⟩⟩

theorem wit_ThreadScheduling_16 : ∃ (_ : Fin 1024) (v : Word) (s : State), s.dark = false ∧ getBits v 0 9 &&& s.fld
    F.DISPATCH_CORE_MAP_ACTIVE = 0 :=
  ⟨5, 2, fl [(F.DISPATCH_CORE_MAP_ACTIVE, 4)], by decide +kernel⟩

theorem wit_ThreadScheduling_17 : ∃ (i : Fin 1024) (v : Word) (s : State), s.dark = false ∧ getBits v 0 9 &&& s.fld
    F.DISPATCH_CORE_MAP_ACTIVE ≠ 0 ∧ s.thState i.val ≠ 1 ∧ s.thState i.val ≠ 2 :=
  ⟨5, 6, fl [(F.DISPATCH_CORE_MAP_ACTIVE, 4)], by decide +kernel⟩

theorem wit_VectorsAndSupervision_0 : ∃ (v : Fin 512) (s : State), s.dark = false ∧ s.fld (F.DISPATCH_VROUTE_MODE
    v.val) = 0 ∧ s.hostPresent = false :=
  ⟨511, up, by decide +kernel⟩

theorem wit_VectorsAndSupervision_1 : ∃ (v : Fin 512) (s : State), s.dark = false ∧ s.fld (F.DISPATCH_VROUTE_MODE
    v.val) = 0 ∧ s.hostPresent = true ∧ s.flag (F.HOSTP_MSIX_CTRL_MASK v.val) = true :=
  ⟨3,
    { fl [(F.HOSTP_CFG_MODE, 1), (F.HOSTP_LINK_UP, 1), (F.HOSTP_MSIX_CTRL_MASK 3, 1)] with hostp := { msixEnable := true } },
    by decide +kernel⟩

theorem wit_VectorsAndSupervision_2 : ∃ (v : Fin 512) (s : State), s.dark = false ∧ s.fld (F.DISPATCH_VROUTE_MODE
    v.val) = 0 ∧ s.hostPresent = true ∧ s.flag (F.HOSTP_MSIX_CTRL_MASK v.val) = false :=
  ⟨3,
    { fl [(F.HOSTP_CFG_MODE, 1), (F.HOSTP_LINK_UP, 1), (F.HOSTP_MSIX_CTRL_MASK 3, 0)] with hostp := { msixEnable := true } },
    by decide +kernel⟩

theorem wit_VectorsAndSupervision_3 : ∃ (v : Fin 512) (s : State) (k : Nat), s.dark = false ∧ s.fld
    (F.DISPATCH_VROUTE_MODE v.val) ≠ 0 ∧ k = s.fld (F.DISPATCH_VROUTE_THREAD v.val) ∧ s.thState k = 0 :=
  ⟨3, fl [(F.DISPATCH_VROUTE_MODE 3, 1), (F.DISPATCH_VROUTE_THREAD 3, 5)], _, by decide +kernel, by decide +kernel,
    rfl, by decide +kernel⟩

theorem wit_VectorsAndSupervision_4 : ∃ (v : Fin 512) (s : State) (k : Nat) (f : Nat), s.dark = false ∧ s.fld
    (F.DISPATCH_VROUTE_MODE v.val) = 1 ∧ k = s.fld (F.DISPATCH_VROUTE_THREAD v.val) ∧ s.thState k ≠ 0 ∧ s.thState k ≠
    3 ∧ f = s.fld (F.DISPATCH_VROUTE_FLAG v.val) ∧ sget (fun _ => none) s.disp.latches v.val = none ∧ s.complRoom k =
    true :=
  ⟨3,
    fl [(F.DISPATCH_VROUTE_MODE 3, 1), (F.DISPATCH_VROUTE_THREAD 3, 5), (F.DISPATCH_TH_W0_STATE 5, 1), (F.DISPATCH_VROUTE_FLAG 3, 9), (F.DISPATCH_TH_W7_CMAX 5, 4), (F.DISPATCH_POOL_COMPL_FREE, 9)],
    _, _, by decide +kernel, by decide +kernel, rfl, by decide +kernel, by decide +kernel, rfl, by decide +kernel⟩

theorem wit_VectorsAndSupervision_5 : ∃ (v : Fin 512) (s : State) (k : Nat) (f : Nat), s.dark = false ∧ s.fld
    (F.DISPATCH_VROUTE_MODE v.val) = 1 ∧ k = s.fld (F.DISPATCH_VROUTE_THREAD v.val) ∧ s.thState k ≠ 0 ∧ s.thState k ≠
    3 ∧ f = s.fld (F.DISPATCH_VROUTE_FLAG v.val) ∧ sget (fun _ => none) s.disp.latches v.val = none ∧ s.complRoom k =
    false :=
  ⟨3,
    fl [(F.DISPATCH_VROUTE_MODE 3, 1), (F.DISPATCH_VROUTE_THREAD 3, 5), (F.DISPATCH_TH_W0_STATE 5, 1), (F.DISPATCH_VROUTE_FLAG 3, 9), (F.DISPATCH_POOL_COMPL_FREE, 0)],
    _, _, by decide +kernel, by decide +kernel, rfl, by decide +kernel, by decide +kernel, rfl, by decide +kernel⟩

theorem wit_VectorsAndSupervision_6 : ∃ (v : Fin 512) (s : State) (k : Nat) (f : Nat), s.dark = false ∧ s.fld
    (F.DISPATCH_VROUTE_MODE v.val) = 2 ∧ k = s.fld (F.DISPATCH_VROUTE_THREAD v.val) ∧ s.thState k ≠ 0 ∧ s.thState k ≠
    3 ∧ f = s.fld (F.DISPATCH_VROUTE_FLAG v.val) :=
  ⟨3,
    fl [(F.DISPATCH_VROUTE_MODE 3, 2), (F.DISPATCH_VROUTE_THREAD 3, 5), (F.DISPATCH_TH_W0_STATE 5, 1), (F.DISPATCH_VROUTE_FLAG 3, 31)],
    _, _, by decide +kernel, by decide +kernel, rfl, by decide +kernel, by decide +kernel, rfl⟩

theorem wit_VectorsAndSupervision_7 : ∃ (v : Fin 512) (s : State) (k : Nat), k = s.fld (F.DISPATCH_VROUTE_THREAD
    v.val) ∧ ((sget (fun _ => none) s.disp.latches v.val = none ∨ s.complRoom k = false)) :=
  ⟨3, up, _, rfl, by decide +kernel⟩

theorem wit_VectorsAndSupervision_8 : ∃ (v : Fin 512) (s : State) (k : Nat) (n : Nat) (at' : Word), s.dark = false ∧ k
    = s.fld (F.DISPATCH_VROUTE_THREAD v.val) ∧ sget (fun _ => none) s.disp.latches v.val = some (n, at') ∧ s.complRoom
    k = true :=
  ⟨3,
    dsp { latches := [(3, some (2, 77))] } [(F.DISPATCH_VROUTE_THREAD 3, 5), (F.DISPATCH_TH_W7_CMAX 5, 4), (F.DISPATCH_POOL_COMPL_FREE, 9)],
    _, 2, 77, by decide +kernel, rfl, by decide +kernel⟩

theorem wit_VectorsAndSupervision_9 : ∃ (s : State) (q : Nat), q = s.fld F.DISPATCH_CTRL_SUP_QUEUE ∧ ((s.disp.sup = []
    ∨ s.flag (F.DISPATCH_MQ_W0_EN q) = false ∨ (s.bestWaiter q = none ∧ s.fld (F.DISPATCH_MQ_W0_DEPTH q) ≤
    (s.mqEntries q).length))) :=
  ⟨up, _, rfl, by decide +kernel⟩

theorem wit_VectorsAndSupervision_10 : ∃ (s : State) (q : Nat) (x : DWord) (rest : List DWord), s.dark = false ∧ q =
    s.fld F.DISPATCH_CTRL_SUP_QUEUE ∧ s.disp.sup = x :: rest ∧ s.flag (F.DISPATCH_MQ_W0_EN q) = true ∧ s.bestWaiter q
    = none ∧ (s.mqEntries q).length < s.fld (F.DISPATCH_MQ_W0_DEPTH q) :=
  ⟨dsp { sup := [12] } [(F.DISPATCH_CTRL_SUP_QUEUE, 7), (F.DISPATCH_MQ_W0_EN 7, 1), (F.DISPATCH_MQ_W0_DEPTH 7, 4)], _,
    12, [], by decide +kernel, rfl, by decide +kernel⟩

theorem wit_VectorsAndSupervision_11 : ∃ (high : Bool) (_ : Word) (s : State) (u : State), s.takesWork 0x09 = true ∧ u
    = s.touch (if high then A.DISPATCH_SW_ENTRY_HI else A.DISPATCH_SW_ENTRY_LO) ∧ u.locked = false ∧ high = false :=
  ⟨false, 5, up, _, by decide +kernel, rfl, by decide +kernel⟩

theorem wit_VectorsAndSupervision_12 : ∃ (high : Bool) (_ : Word) (s : State) (u : State), s.takesWork 0x09 = true ∧ u
    = s.touch (if high then A.DISPATCH_SW_ENTRY_HI else A.DISPATCH_SW_ENTRY_LO) ∧ u.locked = false ∧ high = true :=
  ⟨true, 5, up, _, by decide +kernel, rfl, by decide +kernel⟩

theorem wit_VectorsAndSupervision_13 : ∃ (high : Bool) (_ : Word) (s : State) (u : State), s.takesWork 0x09 = true ∧ u
    = s.touch (if high then A.DISPATCH_SW_ENTRY_HI else A.DISPATCH_SW_ENTRY_LO) ∧ u.flt.spareHeld = false :=
  ⟨true, 5, up, _, by decide +kernel, rfl, by decide +kernel⟩

/-- FIFO 3 has 16 items and its bit EN set; it holds `f`; PROD is `p`. -/
def pg3 (f : PigFifo) (p : Nat) (xs : List (Fld × Nat)) : State :=
  { fl ([(F.PIGEON_CFG_EN 3, 1), (F.PIGEON_CFG_DEPTH_LOG2 3, 4), (F.PIGEON_CFG_PROD 3, p)] ++ xs) with pig := [(3, f)] }

/-- A record of `k` items at position `i`. -/
def prec (i k : Nat) : PigRec := { index := i, count := k, time := 0 }

/-- The producer has left the first bank, which holds a record, and the second holds one too. -/
def pfull : PigFifo := { left := true, wr := 8, recs := [prec 0 2, prec 8 2] }

/-- FAULT holds `x`, and some fields are set. -/
def flst (x : FaultSt) (xs : List (Fld × Nat)) : State := { fl xs with flt := x }

/-- An event of source `src`. -/
def fev (src unit : Nat) : FaultEv := { src := src, unit := unit, perm := false, inj := false, full := false }
def fevI (src unit : Nat) : FaultEv := { src := src, unit := unit, perm := false, inj := true, full := false }

/-- A RETIRE command with no other in progress; cores 0 to 7 are active. -/
def rst (xs : List (Fld × Nat)) : State := fl ([(F.DISPATCH_CORE_MAP_ACTIVE, 255)] ++ xs)

theorem wit_RetirementsAndAborts_25 : ∃ (m : Master) (v : Word) (s : State) (b k : Nat), retireTakes s m v 2 b ∧
    s.freeSpare = some k :=
  ⟨.host, 0x2000003F, up, 63, 0, by unfold retireTakes; decide +kernel, by decide +kernel⟩

theorem wit_RetirementsAndAborts_26 : ∃ (s : State) (f : Nat × Nat × Nat) (x : Nat × Nat × Nat × Bool)
    (rest : List (Nat × Nat × Nat × Bool)), s.dark = false ∧ s.flt.resetSrc = none ∧
    s.flt.abort = some f ∧ s.flt.abortForced = false ∧ s.flt.abortQ = x :: rest :=
  ⟨flst { abort := some (5, 0, 2), abortQ := [(5, 0, 3, false)] } [], (5, 0, 2), (5, 0, 3, false), [], by decide +kernel, rfl, rfl, rfl, rfl⟩

theorem wit_RetirementsAndAborts_20 : ∃ (s : State) (f : Nat × Nat × Nat) (a : Nat), s.dark = false ∧ s.flt.resetSrc = none ∧
    s.flt.abort = some f ∧ 10 * s.flt.abortAt.toNat + 9 * (abortBound f.1 * 500) ≤ 10 * s.now ∧ f.1 = 7 ∧ s.inDram a = true :=
  ⟨{ flst { abort := some (7, 0, 0) } [(F.DRAMC_STATUS_CAP_MIB, 1)] with time := { tick := 225000 } }, (7, 0, 0), 0x100000000,
    by decide +kernel⟩

theorem wit_PigeonFifos_18 : ∃ (n : Fin 32) (s : State) (m : Nat), s.dark = false ∧ (s.fifo n.val).mark = some m :=
  ⟨3, pg3 { mark := some 0 } 0 [], 0, by decide +kernel⟩

theorem wit_FaultEvents_14 : ∃ s : State, s.dark = false ∧ s.sealer.cur = none := ⟨up, by decide +kernel, rfl⟩

theorem wit_FaultEvents_24 : ∃ (m : Master) (v : Word) (s : State) (c : Fin 9), s.gated (windowOf A.FAULT_RETIRE) = false ∧
    s.granted m true A.FAULT_RETIRE = true ∧ m = .core c ∧ getBits v 28 4 = 1 ∧ getBits v 0 8 = c.val :=
  ⟨.core 3, 0x10000003, up, 3, by decide +kernel, by decide +kernel, rfl, by decide +kernel⟩

theorem wit_PigeonFifos_0 : ∃ (n : Fin 32) (v : Word) (s : State) (half : Nat) (k : Nat), half = s.pigDepth n.val / 2
    ∧ k = getBits v 0 15 ∧ s.dark = false ∧ ((s.flag (F.PIGEON_CFG_EN n.val) = false ∨ s.fld (F.PIGEON_CFG_PROD n.val)
    = 2 ∨ half < k)) :=
  ⟨3, 9, pg3 {} 0 [], _, _, rfl, rfl, by decide +kernel, .inr (.inr (by decide +kernel))⟩

theorem wit_PigeonFifos_1 : ∃ (n : Fin 32) (v : Word) (s : State) (half : Nat) (k : Nat), half = s.pigDepth n.val / 2
    ∧ k = getBits v 0 15 ∧ s.dark = false ∧ s.flag (F.PIGEON_CFG_EN n.val) = true ∧ s.fld (F.PIGEON_CFG_PROD n.val) ≠
    2 ∧ k = 0 ∧ v.getLsbD 31 = false :=
  ⟨3, 0, pg3 {} 0 [], _, _, rfl, rfl, by decide +kernel, by decide +kernel, by decide +kernel, rfl, by decide +kernel⟩

theorem wit_PigeonFifos_2 : ∃ (n : Fin 32) (v : Word) (s : State) (half : Nat) (k : Nat) (f : PigFifo) (g : PigFifo),
    half = s.pigDepth n.val / 2 ∧ k = getBits v 0 15 ∧ f = (s.fifo n.val).settle half ∧ s.flag (F.PIGEON_CFG_EN n.val)
    = true ∧ s.fld (F.PIGEON_CFG_PROD n.val) ≠ 2 ∧ k ≤ half ∧ k ≠ 0 ∧ g = appended s f half k ∧ s.dark = false ∧
    ((f.rest half < k ∨ 1024 ≤ f.recs.length)) :=
  ⟨3, 3, pg3 { wr := 6 } 0 [], _, _, _, _, rfl, rfl, rfl, by decide +kernel, by decide +kernel, by decide +kernel,
    (by decide +kernel), rfl, by decide +kernel⟩

theorem wit_PigeonFifos_3 : ∃ (n : Fin 32) (v : Word) (s : State) (half : Nat) (k : Nat) (f : PigFifo) (g : PigFifo),
    half = s.pigDepth n.val / 2 ∧ k = getBits v 0 15 ∧ f = (s.fifo n.val).settle half ∧ s.flag (F.PIGEON_CFG_EN n.val)
    = true ∧ s.fld (F.PIGEON_CFG_PROD n.val) ≠ 2 ∧ k ≤ half ∧ k ≠ 0 ∧ g = appended s f half k ∧ s.dark = false ∧ k ≤
    f.rest half ∧ f.recs.length < 1024 ∧ ((v.getLsbD 31 = false ∨ g.left = true)) :=
  ⟨3, 2, pg3 { wr := 6 } 0 [], _, _, _, _, rfl, rfl, rfl, by decide +kernel, by decide +kernel, by decide +kernel,
    (by decide +kernel), rfl, by decide +kernel⟩

theorem wit_PigeonFifos_4 : ∃ (n : Fin 32) (v : Word) (s : State) (half : Nat) (k : Nat) (f : PigFifo) (g : PigFifo),
    half = s.pigDepth n.val / 2 ∧ k = getBits v 0 15 ∧ f = (s.fifo n.val).settle half ∧ s.flag (F.PIGEON_CFG_EN n.val)
    = true ∧ s.fld (F.PIGEON_CFG_PROD n.val) ≠ 2 ∧ k ≤ half ∧ k ≠ 0 ∧ g = appended s f half k ∧ s.dark = false ∧ k ≤
    f.rest half ∧ f.recs.length < 1024 ∧ v.getLsbD 31 = true ∧ g.left = false ∧ g.otherFree half = false :=
  ⟨3, 0x80000003, pg3 { wr := 3, recs := [prec 8 2] } 0 [], _, _, _, _, rfl, rfl, rfl, by decide +kernel,
    by decide +kernel, by decide +kernel, (by decide +kernel), rfl, by decide +kernel⟩

theorem wit_PigeonFifos_5 : ∃ (n : Fin 32) (v : Word) (s : State) (half : Nat) (k : Nat) (f : PigFifo) (g : PigFifo),
    half = s.pigDepth n.val / 2 ∧ k = getBits v 0 15 ∧ f = (s.fifo n.val).settle half ∧ s.flag (F.PIGEON_CFG_EN n.val)
    = true ∧ s.fld (F.PIGEON_CFG_PROD n.val) ≠ 2 ∧ k ≤ half ∧ k ≠ 0 ∧ g = appended s f half k ∧ s.dark = false ∧ k ≤
    f.rest half ∧ f.recs.length < 1024 ∧ v.getLsbD 31 = true ∧ g.left = false ∧ g.otherFree half = true :=
  ⟨3, 0x80000003, pg3 { wr := 3, recs := [prec 0 3] } 0 [], _, _, _, _, rfl, rfl, rfl, by decide +kernel,
    by decide +kernel, by decide +kernel, (by decide +kernel), rfl, by decide +kernel⟩

theorem wit_PigeonFifos_6 : ∃ (n : Fin 32) (v : Word) (s : State) (half : Nat) (f : PigFifo), half = s.pigDepth n.val
    / 2 ∧ f = (s.fifo n.val).settle half ∧ s.flag (F.PIGEON_CFG_EN n.val) = true ∧ s.fld (F.PIGEON_CFG_PROD n.val) ≠ 2
    ∧ getBits v 0 15 = 0 ∧ v.getLsbD 31 = true ∧ s.dark = false ∧ ((f.left = true ∨ f.otherFree half = false)) :=
  ⟨3, 0x80000000, pg3 pfull 0 [], _, _, rfl, rfl, by decide +kernel⟩

theorem wit_PigeonFifos_7 : ∃ (n : Fin 32) (v : Word) (s : State) (half : Nat) (f : PigFifo), half = s.pigDepth n.val
    / 2 ∧ f = (s.fifo n.val).settle half ∧ s.flag (F.PIGEON_CFG_EN n.val) = true ∧ s.fld (F.PIGEON_CFG_PROD n.val) ≠ 2
    ∧ getBits v 0 15 = 0 ∧ v.getLsbD 31 = true ∧ s.dark = false ∧ f.left = false ∧ f.otherFree half = true :=
  ⟨3, 0x80000000, pg3 { wr := 3, recs := [prec 0 3] } 0 [], _, _, rfl, rfl, by decide +kernel⟩

theorem wit_PigeonFifos_8 : ∃ (n : Fin 32) (ws : List Word) (s : State) (half : Nat) (f : PigFifo), half = s.pigDepth
    n.val / 2 ∧ f = (s.fifo n.val).settle half ∧ s.dark = false ∧ ((s.flag (F.PIGEON_CFG_EN n.val) = false ∨ s.fld
    (F.PIGEON_CFG_PROD n.val) ≠ 2 ∨ ws = [] ∨ half < ws.length ∨ 1024 ≤ f.recs.length ∨ (f.rest half < ws.length ∧
    (f.left = true ∨ f.otherFree half = false)))) :=
  ⟨3, [], up, _, _, rfl, rfl, by decide +kernel⟩

theorem wit_PigeonFifos_9 : ∃ (n : Fin 32) (ws : List Word) (s : State) (half : Nat) (f : PigFifo), half = s.pigDepth
    n.val / 2 ∧ f = (s.fifo n.val).settle half ∧ s.dark = false ∧ s.flag (F.PIGEON_CFG_EN n.val) = true ∧ s.fld
    (F.PIGEON_CFG_PROD n.val) = 2 ∧ ws ≠ [] ∧ ws.length ≤ half ∧ f.recs.length < 1024 ∧ ws.length ≤ f.rest half :=
  ⟨3, [1, 2, 3, 4, 5, 6, 7, 8], pg3 {} 2 [], _, _, rfl, rfl, by decide +kernel⟩

theorem wit_PigeonFifos_10 : ∃ (n : Fin 32) (ws : List Word) (s : State) (half : Nat) (f : PigFifo), half = s.pigDepth
    n.val / 2 ∧ f = (s.fifo n.val).settle half ∧ s.dark = false ∧ s.flag (F.PIGEON_CFG_EN n.val) = true ∧ s.fld
    (F.PIGEON_CFG_PROD n.val) = 2 ∧ ws ≠ [] ∧ ws.length ≤ half ∧ f.recs.length < 1024 ∧ f.rest half < ws.length ∧
    f.left = false ∧ f.otherFree half = true :=
  ⟨3, [1, 2, 3], pg3 { wr := 6, recs := [prec 0 6] } 2 [], _, _, rfl, rfl, by decide +kernel⟩

theorem wit_PigeonFifos_11 : ∃ (n : Fin 32) (s : State), s.dark = false ∧ (s.fifo n.val).head = none :=
  ⟨3, up, by decide +kernel⟩

theorem wit_PigeonFifos_12 : ∃ (n : Fin 32) (s : State), s.dark = false ∧ (s.fifo n.val).head.isSome = true :=
  ⟨3, pg3 { recs := [prec 0 3] } 0 [], by decide +kernel⟩

theorem wit_PigeonFifos_13 : ∃ (n : Fin 32) (s : State) (v : Nat), s.dark = false ∧ (s.fifo n.val).head.isSome = true
    ∧ v = s.fld (F.PIGEON_IRQ_VECTOR n.val) ∧ s.fld (F.DISPATCH_VROUTE_MODE v) = 0 ∧ s.hostPresent = true ∧ s.flag
    (F.HOSTP_MSIX_CTRL_MASK v) = false :=
  ⟨3,
    { pg3 { recs := [prec 0 3] } 0 [(F.HOSTP_CFG_MODE, 1), (F.HOSTP_LINK_UP, 1), (F.PIGEON_IRQ_VECTOR 3, 0), (F.HOSTP_MSIX_CTRL_MASK 0, 0)] with hostp := { msixEnable := true } },
    _, by decide +kernel, by decide +kernel, rfl, by decide +kernel⟩

theorem wit_PigeonFifos_14 : ∃ (n : Fin 32) (s : State), s.dark = false ∧ (s.fifo n.val).mark = none :=
  ⟨3, up, by decide +kernel⟩

theorem wit_PigeonFifos_15 : ∃ (n : Fin 32) (s : State) (f : PigFifo) (mk : Option Nat), s.dark = false ∧ f = s.fifo
    n.val ∧ mk = (f.mark.bind (fun m => if m < f.read then none else some (m - f.read))) ∧ s.tables.ends = [] :=
  ⟨3, up, _, _, by decide +kernel, rfl, rfl, by decide +kernel⟩

theorem wit_PigeonFifos_16 : ∃ (n : Fin 32) (s : State), s.flag (F.PIGEON_CFG_EN n.val) = false :=
  ⟨31, up, by decide +kernel⟩

theorem wit_PigeonFifos_17 : ∃ (n : Fin 32) (s : State), s.dark = false ∧ s.flag (F.PIGEON_CFG_EN n.val) = true :=
  ⟨3, pg3 pfull 0 [], by decide +kernel⟩

theorem wit_FaultEvents_0 : ∃ (s : State), s.flt.queue = [] :=
  ⟨up, by decide +kernel⟩

theorem wit_FaultEvents_1 : ∃ (q : List FaultEv) (e : FaultEv), nextEvent q = some e ∧ e.inj = true :=
  ⟨[fevI 1 0], fevI 1 0, by decide +kernel⟩

theorem wit_FaultEvents_2 : ∃ (q : List FaultEv) (e : FaultEv), nextEvent q = some e ∧ e.inj = false :=
  ⟨[fevI 1 0, fev 9 1, fev 9 0], fev 9 0, by decide +kernel⟩

theorem wit_FaultEvents_3 : ∃ (s : State) (e : FaultEv), s.dark = false ∧ nextEvent s.flt.queue = some e ∧ e.src < 256
    ∧ e.inj = false ∧ mapped s e = 0 ∧ sourceUnit e.src = true :=
  ⟨flst { queue := [fev 0x0A 3] } [(F.FAULT_MAP_REACT_T 0x0A, 0)], fev 0x0A 3, by decide +kernel⟩

theorem wit_FaultEvents_4 : ∃ (s : State) (e : FaultEv), s.dark = false ∧ nextEvent s.flt.queue = some e ∧ e.src < 256
    ∧ e.inj = false ∧ mapped s e = 0 ∧ sourceUnit e.src = false :=
  ⟨flst { queue := [fev 0x09 3] } [(F.FAULT_MAP_REACT_T 0x09, 0)], fev 0x09 3, by decide +kernel⟩

theorem wit_FaultEvents_5 : ∃ (s : State) (e : FaultEv), s.dark = false ∧ nextEvent s.flt.queue = some e ∧ e.src < 256
    ∧ e.inj = true ∧ e.full = false :=
  ⟨flst { queue := [fevI 0x09 3] } [], fevI 0x09 3, by decide +kernel⟩

theorem wit_FaultEvents_6 : ∃ (s : State) (e : FaultEv), s.dark = false ∧ nextEvent s.flt.queue = some e ∧ e.src < 256
    ∧ e.inj = false ∧ mapped s e = 1 ∧ s.fld (F.DISPATCH_VROUTE_MODE (s.fld F.FAULT_CTRL_VECTOR)) = 0 ∧ s.hostPresent
    = true ∧ s.flag (F.HOSTP_MSIX_CTRL_MASK (s.fld F.FAULT_CTRL_VECTOR)) = false :=
  ⟨{ flst { queue := [fev 0x09 3] } [(F.FAULT_MAP_REACT_T 0x09, 1), (F.HOSTP_CFG_MODE, 1), (F.HOSTP_LINK_UP, 1), (F.FAULT_CTRL_VECTOR, 0), (F.HOSTP_MSIX_CTRL_MASK 0, 0)] with hostp := { msixEnable := true } },
    fev 0x09 3, by decide +kernel⟩

theorem wit_FaultEvents_7 : ∃ (s : State) (e : FaultEv), s.dark = false ∧ nextEvent s.flt.queue = some e ∧ e.src < 256
    ∧ e.inj = false ∧ mapped s e = 4 ∧ s.reacting e.src e.unit = false ∧ s.flt.resetSrc = none :=
  ⟨flst { queue := [fev 0x09 3] } [(F.FAULT_MAP_REACT_T 0x09, 4)], fev 0x09 3, by decide +kernel⟩

theorem wit_FaultEvents_8 : ∃ (s : State) (e : FaultEv), s.dark = false ∧ nextEvent s.flt.queue = some e ∧ e.src < 256
    ∧ e.inj = false ∧ 2 ≤ mapped s e ∧ s.reacting e.src e.unit = true :=
  ⟨flst { queue := [fev 0x10 2], running := [(0x10, 2)] } [(F.FAULT_MAP_REACT_T 0x10, 3)], fev 0x10 2,
    by decide +kernel⟩

theorem wit_FaultEvents_9 : ∃ (_ : State) (e : FaultEv), e.perm = true :=
  ⟨up, { src := 5, unit := 1, perm := true, inj := false, full := false }, by decide +kernel⟩

theorem wit_FaultEvents_10 : ∃ (s : State) (e : FaultEv), e.perm = false ∧ s.threshOf e.src = 0 :=
  ⟨fl [(F.FAULT_MAP_THRESH 5, 0)], fev 5 1, by decide +kernel⟩

theorem wit_FaultEvents_11 : ∃ (s : State) (e : FaultEv), e.perm = false ∧ s.threshOf e.src ≠ 0 :=
  ⟨up, fev 0x0A 1, by decide +kernel⟩

theorem wit_FaultEvents_12 : ∃ (c : Fin 9) (s : State), s.dark = false ∧ s.coreActive c.val = true :=
  ⟨0, rst [], by decide +kernel⟩

theorem wit_FaultEvents_13 : ∃ (c : Fin 9) (s : State), s.dark = false ∧ s.coreActive c.val = false :=
  ⟨8, up, by decide +kernel⟩

theorem wit_FaultEvents_15 : ∃ (s : State), ((s.flt.resetSrc = none ∨ s.now < s.flt.resetAt.toNat + 500)) :=
  ⟨up, by decide +kernel⟩

theorem wit_FaultEvents_16 : ∃ (s : State) (src : Nat), s.dark = false ∧ s.flt.resetSrc = some src ∧ src < 256 ∧
    s.flt.resetAt.toNat + 500 ≤ s.now :=
  ⟨{ flst { resetSrc := some 9 } [] with time := { tick := 500 } }, 9, by decide +kernel⟩

theorem wit_FaultEvents_17 : ∃ (bank : Fin 68) (_ : BitVec 22) (_ : SramUpset) (s : State), s.bankOf bank.val = none
    :=
  ⟨64, 0, .single, up, by decide +kernel⟩

theorem wit_FaultEvents_18 : ∃ (bank : Fin 68) (_ : BitVec 22) (s : State) (b : Nat), s.bankOf bank.val = some b :=
  ⟨63, 7, up, 63, by decide +kernel⟩

theorem wit_FaultEvents_19 : ∃ (v : Word) (s : State) (u : State) (src : Nat), s.takesWork 0x0A = true ∧ u = s.touch
    A.FAULT_INJ ∧ src = getBits v 0 8 ∧ ((sourceUsed src = false ∨ u.flag F.FAULT_STATE_INJ_BUSY = true)) :=
  ⟨0x8000000D, up, _, _, by decide +kernel, rfl, rfl, by decide +kernel⟩

theorem wit_FaultEvents_20 : ∃ (v : Word) (s : State) (u : State) (src : Nat), s.takesWork 0x0A = true ∧ u = s.touch
    A.FAULT_INJ ∧ src = getBits v 0 8 ∧ sourceUsed src = true ∧ u.flag F.FAULT_STATE_INJ_BUSY = false ∧ v.getLsbD 31 =
    false :=
  ⟨1, up, _, _, by decide +kernel, rfl, rfl, by decide +kernel⟩

theorem wit_FaultEvents_21 : ∃ (v : Word) (s : State) (u : State) (src : Nat), s.takesWork 0x0A = true ∧ u = s.touch
    A.FAULT_INJ ∧ src = getBits v 0 8 ∧ sourceUsed src = true ∧ u.flag F.FAULT_STATE_INJ_BUSY = false ∧ v.getLsbD 31 =
    true :=
  ⟨0x80000001, up, _, _, by decide +kernel, rfl, rfl, by decide +kernel⟩

theorem wit_FaultEvents_22 : ∃ (s : State) (u : State), s.takesWork 0x0A = true ∧ u = s.touch A.FAULT_CLEAR :=
  ⟨up, _, by decide +kernel, rfl⟩

theorem wit_FaultEvents_23 : ∃ (m : Master) (v : Word) (s : State), s.gated (windowOf A.FAULT_RETIRE) = false ∧
    s.granted m true A.FAULT_RETIRE = true ∧ (((getBits v 28 4 ≠ 1 ∧ getBits v 28 4 ≠ 2) ∨ (getBits v 28 4 = 1 ∧ 8 <
    getBits v 0 8) ∨ (getBits v 28 4 = 2 ∧ 63 < getBits v 0 8) ∨ s.flag F.FAULT_STATE_RETIRE_BUSY = true ∨ (∃ c : Fin
    9, m = .core c ∧ getBits v 28 4 = 1 ∧ getBits v 0 8 = c.val))) :=
  ⟨.host, 0x10000009, up, by decide +kernel, by decide +kernel, .inr (.inl (by decide +kernel))⟩

theorem wit_RetirementsAndAborts_0 : ∃ (m : Master) (v : Word) (s : State) (c : Nat), retireTakes s m v 1 c ∧
    s.coreRetirable c = false :=
  ⟨.host, 0x10000002, fl [(F.DISPATCH_CORE_MAP_ACTIVE, 4)], 2, by unfold retireTakes; decide +kernel,
    by decide +kernel⟩

theorem wit_RetirementsAndAborts_1 : ∃ (m : Master) (v : Word) (s : State) (c : Nat), retireTakes s m v 1 c ∧
    s.coreRetirable c = true ∧ s.coreActive c = true ∧ c ≠ 8 ∧ s.spareCore = true ∧ s.swEntrySet = true :=
  ⟨.core 3, 0x10000002, rst [(whole A.DISPATCH_SW_ENTRY_LO, 0x1000)], 2, by unfold retireTakes; decide +kernel,
    by decide +kernel⟩

theorem wit_RetirementsAndAborts_2 : ∃ (m : Master) (v : Word) (s : State) (c : Nat), retireTakes s m v 1 c ∧
    s.coreRetirable c = true ∧ (s.coreActive c = false ∨ c = 8 ∨ s.spareCore = false ∨ s.swEntrySet = false) :=
  ⟨.host, 0x10000008, rst [(whole A.DISPATCH_SW_ENTRY_LO, 0x1000)], 8, by unfold retireTakes; decide +kernel,
    by decide +kernel⟩

theorem wit_RetirementsAndAborts_3 : ∃ (s : State), ((s.flt.coreMove = none ∨ s.flt.resetSrc ≠ none)) :=
  ⟨up, by decide +kernel⟩

theorem wit_RetirementsAndAborts_4 : ∃ (s : State) (c : Nat), s.dark = false ∧ s.flt.resetSrc = none ∧ s.flt.coreMove
    = some c :=
  ⟨flst { coreMove := some 2 } [], 2, by decide +kernel⟩

theorem wit_RetirementsAndAborts_5 : ∃ (m : Master) (v : Word) (s : State) (b : Nat), retireTakes s m v 2 b ∧
    s.freeSpare = none ∧ b ∈ s.flt.noSpare :=
  ⟨.host, 0x20000005,
    flst { noSpare := [5] } [(F.FAULT_SRAM_SPARE_USED 0, 1), (F.FAULT_SRAM_SPARE_USED 1, 1), (F.FAULT_SRAM_SPARE_USED 2, 1), (F.FAULT_SRAM_SPARE_USED 3, 1)],
    5, by unfold retireTakes; decide +kernel, by decide +kernel⟩

theorem wit_RetirementsAndAborts_6 : ∃ (m : Master) (v : Word) (s : State) (b : Nat), retireTakes s m v 2 b ∧
    s.freeSpare = none ∧ b ∉ s.flt.noSpare :=
  ⟨.host, 0x20000005,
    fl [(F.FAULT_SRAM_SPARE_USED 0, 1), (F.FAULT_SRAM_SPARE_USED 1, 1), (F.FAULT_SRAM_SPARE_USED 2, 1), (F.FAULT_SRAM_SPARE_USED 3, 1)],
    5, by unfold retireTakes; decide +kernel, by decide +kernel⟩

theorem wit_RetirementsAndAborts_7 : ∃ (k : Fin 4) (s : State), ((s.flag (F.FAULT_SRAM_SPARE_COPYING k.val) = false ∨
    s.flt.resetSrc ≠ none)) :=
  ⟨3, up, by decide +kernel⟩

theorem wit_RetirementsAndAborts_8 : ∃ (k : Fin 4) (s : State) (b : Nat), s.dark = false ∧ s.flt.resetSrc = none ∧
    s.flag (F.FAULT_SRAM_SPARE_COPYING k.val) = true ∧ b = s.fld (F.FAULT_SRAM_SPARE_BANK k.val) :=
  ⟨3, fl [(F.FAULT_SRAM_SPARE_COPYING 3, 1), (F.FAULT_SRAM_SPARE_BANK 3, 5)], _, by decide +kernel, by decide +kernel,
    by decide +kernel, rfl⟩

theorem wit_RetirementsAndAborts_9 : ∃ (v : Word) (s : State) (u : State) (f : Nat × Nat × Nat), s.takesWork 0x00 =
    true ∧ u = s.touch A.SYSCTL_ABORT ∧ f = (getBits v 28 4, getBits v 24 4, getBits v 0 16) ∧ u.flag
    F.SYSCTL_ABORT_STATUS_BUSY = true :=
  ⟨0x50000002, fl [(F.SYSCTL_ABORT_STATUS_BUSY, 1)], _, _, by decide +kernel, rfl, rfl, by decide +kernel⟩

theorem wit_RetirementsAndAborts_10 : ∃ (v : Word) (s : State) (u : State) (f : Nat × Nat × Nat), s.takesWork 0x00 =
    true ∧ u = s.touch A.SYSCTL_ABORT ∧ f = (getBits v 28 4, getBits v 24 4, getBits v 0 16) ∧ u.flag
    F.SYSCTL_ABORT_STATUS_BUSY = false ∧ fnExists f = false :=
  ⟨0x50000004, up, _, _, by decide +kernel, rfl, rfl, by decide +kernel⟩

theorem wit_RetirementsAndAborts_11 : ∃ (v : Word) (s : State) (u : State) (f : Nat × Nat × Nat), s.takesWork 0x00 =
    true ∧ u = s.touch A.SYSCTL_ABORT ∧ f = (getBits v 28 4, getBits v 24 4, getBits v 0 16) ∧ u.flag
    F.SYSCTL_ABORT_STATUS_BUSY = false ∧ fnExists f = true ∧ f.1 = 2 ∧ u.thState f.2.2 ≠ 0 :=
  ⟨0x20000005, fl [(F.DISPATCH_TH_W0_STATE 5, 1)], _, _, by decide +kernel, rfl, rfl, by decide +kernel⟩

theorem wit_RetirementsAndAborts_12 : ∃ (v : Word) (s : State) (u : State) (f : Nat × Nat × Nat), s.takesWork 0x00 =
    true ∧ u = s.touch A.SYSCTL_ABORT ∧ f = (getBits v 28 4, getBits v 24 4, getBits v 0 16) ∧ u.flag
    F.SYSCTL_ABORT_STATUS_BUSY = false ∧ fnExists f = true ∧ f.1 ≠ 6 ∧ f.1 ≠ 2 :=
  ⟨0x50000003, up, _, _, by decide +kernel, rfl, rfl, by decide +kernel⟩

theorem wit_RetirementsAndAborts_13 : ∃ (s : State), s.flt.abort = none :=
  ⟨up, by decide +kernel⟩

theorem wit_RetirementsAndAborts_14 : ∃ (s : State) (f : Nat × Nat × Nat), s.dark = false ∧ s.flt.resetSrc = none ∧
    s.flt.abort = some f ∧ s.flt.abortForced = false ∧ s.flt.abortQ = [] ∧ f.1 = 2 ∧ f.2.2 < 1024 ∧ s.thState f.2.2 ≠
    0 :=
  ⟨flst { abort := some (2, 0, 1023) } [(F.DISPATCH_TH_W0_STATE 1023, 1)], (2, 0, 1023), by decide +kernel⟩

theorem wit_RetirementsAndAborts_15 : ∃ (s : State) (f : Nat × Nat × Nat), s.dark = false ∧ s.flt.resetSrc = none ∧
    s.flt.abort = some f ∧ s.flt.abortForced = false ∧ s.flt.abortQ = [] ∧ f.1 = 3 ∧ f.2.1 = 0 :=
  ⟨flst { abort := some (3, 0, 8191) } [], (3, 0, 8191), by decide +kernel⟩

theorem wit_RetirementsAndAborts_16 : ∃ (s : State) (f : Nat × Nat × Nat), s.dark = false ∧ s.flt.resetSrc = none ∧
    s.flt.abort = some f ∧ s.flt.abortForced = false ∧ s.flt.abortQ = [] ∧ f.1 = 3 ∧ f.2.1 = 3 ∧ f.2.2 < 32 :=
  ⟨flst { abort := some (3, 3, 31) } [], (3, 3, 31), by decide +kernel⟩

theorem wit_RetirementsAndAborts_17 : ∃ (s : State) (f : Nat × Nat × Nat), s.dark = false ∧ s.flt.resetSrc = none ∧
    s.flt.abort = some f ∧ s.flt.abortForced = false ∧ s.flt.abortQ = [] ∧ f.1 = 5 ∧ f.2.2 < 4 :=
  ⟨flst { abort := some (5, 0, 3) } [], (5, 0, 3), by decide +kernel⟩

theorem wit_RetirementsAndAborts_18 : ∃ (s : State) (f : Nat × Nat × Nat), s.dark = false ∧ s.flt.resetSrc = none ∧
    s.flt.abort = some f ∧ s.flt.abortForced = false ∧ s.flt.abortQ = [] ∧ f.1 = 7 :=
  ⟨flst { abort := some (7, 0, 0) } [], (7, 0, 0), by decide +kernel⟩

theorem wit_RetirementsAndAborts_19 : ∃ (s : State) (f : Nat × Nat × Nat) (b : Nat), s.dark = false ∧ s.flt.resetSrc =
    none ∧ s.flt.abort = some f ∧ b = abortBound f.1 * 500 ∧ 10 * s.now < 10 * s.flt.abortAt.toNat + 9 * b :=
  ⟨flst { abort := some (7, 0, 0) } [], (7, 0, 0), _, by decide +kernel, by decide +kernel, by decide +kernel, rfl,
    by decide +kernel⟩

theorem wit_RetirementsAndAborts_21 : ∃ (s : State) (f : Nat × Nat × Nat) (b : Nat), s.dark = false ∧ s.flt.resetSrc =
    none ∧ s.flt.abort = some f ∧ b = abortBound f.1 * 500 ∧ 10 * s.flt.abortAt.toNat + 9 * b ≤ 10 * s.now ∧ s.now <
    s.flt.abortAt.toNat + b :=
  ⟨{ flst { abort := some (7, 0, 0) } [] with time := { tick := 225000 } }, (7, 0, 0), _, by decide +kernel,
    by decide +kernel, by decide +kernel, rfl, by decide +kernel⟩

theorem wit_RetirementsAndAborts_22 : ∃ (s : State) (f : Nat × Nat × Nat) (b : Nat), s.dark = false ∧ s.flt.resetSrc =
    none ∧ s.flt.abort = some f ∧ b = abortBound f.1 * 500 ∧ 10 * s.flt.abortAt.toNat + 9 * b ≤ 10 * s.now ∧
    s.flt.abortAt.toNat + b ≤ s.now :=
  ⟨{ flst { abort := some (7, 0, 0) } [] with time := { tick := 250000 } }, (7, 0, 0), _, by decide +kernel,
    by decide +kernel, by decide +kernel, rfl, by decide +kernel⟩

theorem wit_RetirementsAndAborts_23 : ∃ (s : State) (f : Nat × Nat × Nat) (b : Nat), s.dark = false ∧ s.flt.resetSrc =
    none ∧ s.flt.abort = some f ∧ s.flt.abortForced = true ∧ b = abortBound f.1 * 500 ∧ s.now < s.flt.abortAt.toNat +
    b :=
  ⟨flst { abort := some (7, 0, 0), abortForced := true } [], (7, 0, 0), _, by decide +kernel, by decide +kernel,
    by decide +kernel, (by decide +kernel), rfl, by decide +kernel⟩

theorem wit_RetirementsAndAborts_24 : ∃ (s : State) (f : Nat × Nat × Nat) (b : Nat), s.dark = false ∧ s.flt.resetSrc =
    none ∧ s.flt.abort = some f ∧ s.flt.abortForced = true ∧ b = abortBound f.1 * 500 ∧ s.flt.abortAt.toNat + b ≤
    s.now :=
  ⟨{ flst { abort := some (7, 0, 0), abortForced := true } [] with time := { tick := 250000 } }, (7, 0, 0), _,
    by decide +kernel, by decide +kernel, by decide +kernel, (by decide +kernel), rfl, by decide +kernel⟩

theorem wit_EveryStepKeepsTheCanonicalForm_0 : ∃ (s t : State), s.canonical ∧ step s = .next t :=
  ⟨{ up with pending := [.pop 3] }, _, by unfold State.canonical; decide +kernel, rfl⟩

theorem wit_FrameRecordsNameFlows_0 : ∃ (s t : State), (∀ r ∈ s.regsvc.recs, r.flow < 512) ∧ step s = .next t :=
  ⟨{ up with pending := [.pop 3], regsvc := { recs := [frec 9] } }, _, by decide +kernel, rfl⟩

theorem wit_AdmittedFlowsHoldTheIterations_0 : ∃ (s : State) (u : State) (m : Master) (addr : BitVec 64) (v : DWord)
    (w : Word), addr.toNat = A.LDPC_ITER_CFG ∧ s.takesWork (windowOf A.LDPC_ITER_CFG) = true ∧ s.granted m true
    A.LDPC_ITER_CFG = true ∧ u = s.touch A.LDPC_ITER_CFG ∧ w = v.setWidth 32 ∧ ((∃ f < 512, u.flowState f ∈ [1, 2,
    3])) ∧ ((getBits w 24 5 ≠ u.fld F.LDPC_ITER_CFG_MIN_ITER ∨ getBits w 0 5 ≠ u.fld F.LDPC_ITER_CFG_CAP_REG)) ∧
    getBits w 16 5 ≠ 0 ∧ getBits w 8 5 ≠ 0 ∧ getBits w 0 5 ≠ 0 ∧ getBits (u.rd (cfgStatusOf A.LDPC_ITER_CFG)) 0 8 = 0
    :=
  ⟨setR (fl [(F.REGSVC_FLOW_W0_STATE 511, 1)]) [(A.CKGEN_GATE, 0x55555555)], _, .host, 0x40800018, 0x04080810, _,
    by decide +kernel, by decide +kernel, by decide +kernel, rfl, rfl, ⟨511, by decide +kernel⟩,
    .inl (by decide +kernel), by decide +kernel⟩

theorem wit_AdmittedFlowsHoldTheIterations_1 : ∃ (s : State) (u : State) (m : Master) (addr : BitVec 64) (v : DWord)
    (w : Word), addr.toNat = A.LDPC_ITER_CFG ∧ s.takesWork (windowOf A.LDPC_ITER_CFG) = true ∧ s.granted m true
    A.LDPC_ITER_CFG = true ∧ u = s.touch A.LDPC_ITER_CFG ∧ w = v.setWidth 32 ∧ (((∀ f < 512, u.flowState f = 0 ∨
    u.flowState f = 4) ∨ (getBits w 24 5 = u.fld F.LDPC_ITER_CFG_MIN_ITER ∧ getBits w 0 5 = u.fld
    F.LDPC_ITER_CFG_CAP_REG))) ∧ ((∀ lo ∈ [16, 8, 0], 1 ≤ getBits w lo 5 ∧ getBits w lo 5 ≤ 16 ∧ getBits w 24 5 ≤
    getBits w lo 5)) :=
  ⟨setR up [(A.CKGEN_GATE, 0x55555555)], _, .core 3, 0x40800018, 0x04080810, _, by decide +kernel, by decide +kernel,
    by decide +kernel, rfl, rfl, .inl (by decide +kernel), by decide +kernel⟩

end Sys2Proof.Tests
end

section
/-! SUPPORT. Rules of the shared operations that the statements of spec/00_scope.md and of the image's life need: refusals,
a running clock, counters brought up to date, interrupts, flash and memory ranges, warm resets. Each says once what the
operation changes and what it leaves. -/

namespace Sys2Proof.Machine

variable (s : State)

/-! ### Updates of registers alone -/

/-- From `s` to `t` nothing but registers has changed. -/
def regsFrame (s t : State) : Prop := t = { s with regs := t.regs }

theorem regsFrame_refl : regsFrame s s := rfl

theorem regsFrame_trans {s t u : State} (h : regsFrame s t) (k : regsFrame t u) : regsFrame s u := by
  unfold regsFrame at *
  rw [k, h]

theorem regsFrame_wr (a : Nat) (v : Word) : regsFrame s (s.wr a v) := rfl

theorem regsFrame_setFld (f : Fld) (v : Nat) : regsFrame s (s.setFld f v) := rfl

/-- A refusal writes CFG_STATUS of the block and nothing else (R10). -/
theorem regsFrame_refuse (a : Nat) (c : RefCode) : regsFrame s (s.refuse a c) := by
  unfold State.refuse
  dsimp only
  split <;> exact regsFrame_wr s _ _

/-- Words written to consecutive registers change registers alone. -/
theorem regsFrame_wrWords (a count v : Nat) : regsFrame s (s.wrWords a count v) := by
  unfold State.wrWords
  induction count with
  | zero => exact regsFrame_refl s
  | succ n ih =>
    rw [List.range_succ, List.foldl_append]
    exact regsFrame_trans ih (regsFrame_wr _ _ _)

/-- What runs depends on the power state alone. -/
theorem State.dark_of_power {s t : State} (h : t.power = s.power) : t.dark = s.dark := by
  unfold State.dark
  rw [h]

/-- A state whose windows are gated only in part runs. -/
theorem State.dark_of_not_gated {s : State} {b : Nat} (h : s.gated b = false) : s.dark = false := by
  unfold State.gated at h
  simp only [Bool.or_eq_false_iff] at h
  exact h.1.1

/-! ### Refusals (R9, R10) -/

/-- The first refusal is recorded with its code. -/
theorem State.refuse_code (a : Nat) (c : RefCode) (h : getBits (s.rd (cfgStatusOf a)) 0 8 = 0) :
    getBits ((s.refuse a c).rd (cfgStatusOf a)) 0 8 = c.num := by
  have hc : c.num % 2 ^ 8 = c.num := by cases c <;> rfl
  simp only [State.refuse, h, ne_eq, not_true_eq_false, if_false, State.rd_wr_same]
  rw [getBits_setBits_same _ _ _ _ (by omega), hc]

/-- The first refusal is recorded with the offset of its register. -/
theorem State.refuse_offset (a : Nat) (c : RefCode) (h : getBits (s.rd (cfgStatusOf a)) 0 8 = 0) :
    getBits ((s.refuse a c).rd (cfgStatusOf a)) 8 20 = (a - blockBase a) % 2 ^ 20 := by
  simp only [State.refuse, h, ne_eq, not_true_eq_false, if_false, State.rd_wr_same]
  rw [getBits_setBits_other _ _ _ _ _ _ (by omega) (by omega), getBits_setBits_same _ _ _ _ (by omega)]

/-- A later refusal sets MORE in the record and changes nothing else of it. -/
theorem State.refuse_again (a : Nat) (c : RefCode) (h : getBits (s.rd (cfgStatusOf a)) 0 8 ≠ 0) :
    s.refuse a c = s.wr (cfgStatusOf a) (setBits (s.rd (cfgStatusOf a)) 31 1 1) := by
  simp [State.refuse, h]

/-- A refusal changes CFG_STATUS of its block alone. -/
theorem onlyFields_refuse {s t : State} {fs : List Fld} (a : Nat) (c : RefCode) (hf : whole (cfgStatusOf a) ∈ fs)
    (h : onlyFields s t fs) : onlyFields s (t.refuse a c) fs := by
  unfold State.refuse
  dsimp only
  split <;> exact onlyFields_wr _ _ hf h

/-! ### The clock that an access starts (R59) -/

/-- An access leaves the state, notes work of the branch, or also starts its clock. -/
theorem State.touch_cases (a : Nat) :
    s.touch a = s ∨ ∃ br, s.touch a = s.noteBusy br ∨ s.touch a = (s.noteBusy br).setActive br true := by
  unfold State.touch
  split
  · next br _ =>
    split
    · refine .inr ⟨br, ?_⟩
      dsimp only
      split
      · exact .inl rfl
      · exact .inr rfl
    · exact .inl rfl
  · exact .inl rfl

/-- An access changes registers and the idle times of branches alone before it is made. -/
theorem State.touch_frame (a : Nat) :
    s.touch a = { s with regs := (s.touch a).regs, power := (s.touch a).power } := by
  rcases s.touch_cases a with h | ⟨br, h | h⟩ <;> rw [h] <;> rfl

/-- The registers that an access starts its clock in: CKGEN.ACTIVE alone. -/
theorem onlyFields_touch {fs : List Fld} (a : Nat) (hf : whole A.CKGEN_ACTIVE ∈ fs) : onlyFields s (s.touch a) fs := by
  rcases s.touch_cases a with h | ⟨br, h | h⟩ <;> rw [h]
  · exact onlyFields_refl s fs
  · exact onlyFields_of_regs rfl (onlyFields_refl s fs)
  · exact onlyFields_wr _ _ hf (onlyFields_of_regs rfl (onlyFields_refl s fs))

/-- A register other than CKGEN.ACTIVE reads the same once the clock runs. -/
theorem State.rd_touch (a : Nat) {b : Nat} (hb : b ≠ A.CKGEN_ACTIVE) : (s.touch a).rd b = s.rd b := by
  rcases s.touch_cases a with h | ⟨br, h | h⟩ <;> rw [h]
  · rfl
  · exact State.rd_wr_ne _ _ hb

/-- An access does not move the configuration lock. -/
theorem State.locked_touch (a : Nat) : (s.touch a).locked = s.locked := by
  unfold State.locked State.flag State.fld
  rw [s.rd_touch a (by decide)]

/-! ### What DISPATCH changes when it counts and when an interrupt is raised -/

/-- From `s` to `t` nothing has changed but registers, counters, the records of DISPATCH, and what HOSTP has sent. -/
def dispatchFrame (s t : State) : Prop :=
  t = { s with regs := t.regs, ctrs := t.ctrs, disp := t.disp, hostp := t.hostp }

theorem dispatchFrame_refl : dispatchFrame s s := rfl

theorem dispatchFrame_trans {s t u : State} (h : dispatchFrame s t) (k : dispatchFrame t u) : dispatchFrame s u := by
  unfold dispatchFrame at *
  rw [k, h]

theorem dispatchFrame_wr (a : Nat) (v : Word) : dispatchFrame s (s.wr a v) := rfl

theorem dispatchFrame_disp (x : DispSt) : dispatchFrame s { s with disp := x } := rfl

theorem dispatchFrame_setFld (f : Fld) (v : Nat) : dispatchFrame s (s.setFld f v) := rfl

theorem dispatchFrame_modCore (c : Nat) (f : CoreSt → CoreSt) : dispatchFrame s (s.modCore c f) := rfl

theorem dispatchFrame_endWait (t : Nat) : dispatchFrame s (s.endWait t) :=
  dispatchFrame_trans (dispatchFrame_disp s _) <| dispatchFrame_trans (dispatchFrame_wr _ _ _) <|
    dispatchFrame_trans (dispatchFrame_wr _ _ _) (dispatchFrame_setFld _ _ _)

/-- Placing a READY thread notifies a core at most (R617). -/
theorem dispatchFrame_placeNotify (t : Nat) : dispatchFrame s (s.placeNotify t) := by
  unfold State.placeNotify
  dsimp only
  split
  · exact dispatchFrame_modCore s _ _
  · split
    · exact dispatchFrame_modCore s _ _
    · split
      · split
        · exact dispatchFrame_modCore s _ _
        · exact dispatchFrame_refl s
      · exact dispatchFrame_refl s

theorem dispatchFrame_place (t : Nat) : dispatchFrame s (s.place t) :=
  dispatchFrame_trans (dispatchFrame_disp s _) <| dispatchFrame_trans (dispatchFrame_setFld _ _ _) <|
    dispatchFrame_trans (dispatchFrame_disp _ _) (dispatchFrame_placeNotify _ t)

theorem dispatchFrame_wake (t res : Nat) : dispatchFrame s (s.wake t res) := by
  unfold State.wake
  dsimp only
  have hend : dispatchFrame s ((s.endWait t).modThx t (fun x => { x with result := res })) :=
    dispatchFrame_trans (dispatchFrame_endWait s t) (dispatchFrame_disp _ _)
  split
  · exact hend
  · exact dispatchFrame_trans hend (dispatchFrame_place _ t)

theorem dispatchFrame_takeEvents (t : Nat) (m : Word) (consume : Bool) :
    dispatchFrame s (s.takeEvents t m consume) := by
  unfold State.takeEvents
  dsimp only
  split
  · exact dispatchFrame_trans (dispatchFrame_disp s _) (dispatchFrame_wr _ _ _)
  · exact dispatchFrame_disp s _

/-- Setting flags wakes at most the thread that waits for them (R623). -/
theorem dispatchFrame_setEvents (t : Nat) (m : Word) : dispatchFrame s (s.setEvents t m) := by
  unfold State.setEvents
  dsimp only
  have hwr : dispatchFrame s (s.wr (A.DISPATCH_TH_EVENTS t) (s.rd (A.DISPATCH_TH_EVENTS t) ||| m)) := rfl
  split
  · exact dispatchFrame_trans hwr (dispatchFrame_trans (dispatchFrame_takeEvents _ _ _ _) (dispatchFrame_wake _ _ _))
  · exact hwr

theorem dispatchFrame_msiSend (v : Nat) : dispatchFrame s (s.msiSend v) := by
  unfold State.msiSend
  split
  · rfl
  · split <;> rfl

theorem dispatchFrame_raiseCompletion (v t : Nat) : dispatchFrame s (s.raiseCompletion v t) := by
  have hcompl : ∀ l, dispatchFrame s (s.setCompl t l) := fun _ =>
    dispatchFrame_trans (dispatchFrame_disp s _) <| dispatchFrame_trans (dispatchFrame_setFld _ _ _)
      (dispatchFrame_setFld _ _ _)
  have hcount : ∀ x n, dispatchFrame s (({ s with disp := x } : State).count n) := fun _ _ => rfl
  unfold State.raiseCompletion
  dsimp only
  split
  · exact dispatchFrame_trans (hcount _ _) (dispatchFrame_setEvents _ _ _)
  · split
    · exact dispatchFrame_trans (hcompl _) (dispatchFrame_setEvents _ _ _)
    · exact dispatchFrame_trans (dispatchFrame_disp s _) (dispatchFrame_setEvents _ _ _)

/-- An interrupt changes registers, counters, DISPATCH and HOSTP alone (R627, R628). -/
theorem dispatchFrame_raise (v : Nat) : dispatchFrame s (s.raise v) := by
  unfold State.raise
  dsimp only
  split
  · exact dispatchFrame_msiSend s v
  · split
    · rfl
    · split
      · exact dispatchFrame_raiseCompletion s v _
      · exact dispatchFrame_setEvents s _ _

theorem dispatchFrame_raiseUnit (u : IntUnit) (i : Nat) : dispatchFrame s (s.raiseUnit u i) := dispatchFrame_raise s _

/-- Bringing BUSY_CYCLES up to date changes counters, registers and DISPATCH alone. -/
theorem dispatchFrame_freshCtr (a : Nat) : dispatchFrame s (s.freshCtr a) := by
  unfold State.freshCtr
  split
  · unfold State.countBusy
    split <;> rfl
  · exact dispatchFrame_refl s

/-- Only BUSY_CYCLES need to be brought up to date. -/
theorem State.freshCtr_of_ne_busy (a : Nat) (h : ∀ c < 9, C.DISPATCH_BUSY_CYCLES c ≠ a) : s.freshCtr a = s := by
  have hnone : allCores.find? (fun c => decide (C.DISPATCH_BUSY_CYCLES c = a)) = none := by
    rw [List.find?_eq_none]
    intro c hc
    simpa using h c (List.mem_range.mp hc)
  simp only [State.freshCtr, hnone]

end Sys2Proof.Machine
end

section
/-! The register accesses of spec/00_scope.md: reset, counters, stopped accesses, refusals, and a write field by field. -/

namespace Sys2Proof.Machine

variable (s : State)

/-! ### Reset -/

/-- Settles O3: no register has been written, so each reads its table value. -/
theorem resetLeavesTheTablesValues : Obligations.ResetLeavesTheTablesValues := by
  have hfields : State.reset.flag F.SYSCTL_CFG_LOCK_LOCK = false ∧ State.reset.fld F.PMU_STATE_CUR = 0 ∧
      State.reset.flag F.PMU_STATE_BUSY = false := by decide +kernel
  have hwords : State.reset.rd A.SYSCTL_CHIP_ID = 0x9640A000 ∧ State.reset.rd A.SYSCTL_RESET_CAUSE = 0x11 ∧
      State.reset.rd A.CKGEN_PLL_CTRL = 0x0F ∧ State.reset.rd A.CKGEN_GATE = 0x80555555 ∧
      State.reset.rd A.CKGEN_ACTIVE = 0x8000 := by decide +kernel
  obtain ⟨hlock, hcur, hbusy⟩ := hfields
  obtain ⟨hchip, hcause, hpll, hgate, hactive⟩ := hwords
  exact ⟨hchip, hcause, hlock, hcur, hbusy, hpll, hgate, hactive, rfl, by decide +kernel, fun _ => rfl,
    fun _ _ => rfl, rfl, rfl, rfl, rfl, rfl, rfl⟩

/-! ### Counters (R15, R16) -/

/-- A counter access that is not stopped acts on the counter brought up to date. -/
theorem State.counterAccess_reached {s : State} {m : Master} {a low size : Nat} {c : Instr} (f : State → State)
    (hs : s.stopped m false a size c = none) (hc : isCounter low = true) :
    s.counterAccess m a low size c f = f ((s.touch a).freshCtr low) := by
  simp [State.counterAccess, hs, hc]

/-- Starting the clock and counting busy cycles leave memories, fuses, waiting commands and shadows. -/
theorem State.touch_freshCtr_kept (a low : Nat) :
    dataKept s ((s.touch a).freshCtr low) ∧ ((s.touch a).freshCtr low).ctrShadow = s.ctrShadow := by
  have hf := dispatchFrame_freshCtr (s.touch a) low
  have ht := s.touch_frame a
  unfold dispatchFrame at hf
  rw [hf, ht]
  exact ⟨⟨fun _ => rfl, fun _ => rfl, fun _ => rfl, rfl, rfl⟩, rfl⟩

/-- The low word of a count, as a 64-bit answer. -/
theorem lowWord_eq (c : DWord) : (c.setWidth 32).setWidth 64 = BitVec.ofNat 64 (c.toNat % 2 ^ 32) := by
  apply BitVec.eq_of_toNat_eq
  simp only [BitVec.toNat_setWidth, BitVec.toNat_ofNat]

/-- The high word of a count. -/
theorem highWord_eq (c : DWord) : (c >>> 32).setWidth 32 = BitVec.ofNat 32 (c.toNat / 2 ^ 32) := by
  apply BitVec.eq_of_toNat_eq
  simp only [BitVec.toNat_setWidth, BitVec.toNat_ushiftRight, Nat.shiftRight_eq_div_pow, BitVec.toNat_ofNat]

/-- The high word of a count, as a 64-bit answer. -/
theorem highAnswer_eq (c : DWord) : (c >>> 32) &&& 0xFFFFFFFF = BitVec.ofNat 64 (c.toNat / 2 ^ 32) := by
  apply BitVec.eq_of_toNat_eq
  have hmask : (0xFFFFFFFF : DWord).toNat = 2 ^ 32 - 1 := rfl
  rw [BitVec.toNat_and, hmask, Nat.and_two_pow_sub_one_eq_mod, BitVec.toNat_ushiftRight, Nat.shiftRight_eq_div_pow,
    BitVec.toNat_ofNat]
  have hc := c.isLt
  omega

/-- The state with `h` in the shadow of the counter at `a`. -/
def State.latch (u : State) (a : Nat) (h : Option Word) : State :=
  { u with ctrShadow := sput (fun _ => none) u.ctrShadow a h }

/-- Latching changes the shadow of one counter. -/
theorem State.sget_latch (u : State) (a : Nat) (h : Option Word) (k : Nat) :
    sget (fun _ => none) (u.latch a h).ctrShadow k = if k = a then h else sget (fun _ => none) u.ctrShadow k :=
  sget_sput _ _ _ _ k

section reads

variable {s u : State} {m : Master} {a : BitVec 64}

/-- COUNTER_READ answers the whole count and clears it (R15). -/
theorem exec_counterRead (hs : s.stopped m false a.toNat 8 (.counterRead m a) = none) (hc : isCounter a.toNat = true)
    (hu : u = (s.touch a.toNat).freshCtr a.toNat) :
    exec (.counterRead m a) s = .next ((u.clearCtr a.toNat).answer (u.ctr a.toNat)) := by
  rw [hu]
  exact congrArg Host.Outcome.next (State.counterAccess_reached _ hs hc)

/-- COUNTER_LOW_READ answers the low word, latches the high word and clears the counter (R16). -/
theorem exec_counterLowRead (hs : s.stopped m false a.toNat 4 (.counterLowRead m a) = none)
    (hc : isCounter a.toNat = true) (hu : u = (s.touch a.toNat).freshCtr a.toNat) :
    exec (.counterLowRead m a) s = .next
      (((u.latch a.toNat (some (BitVec.ofNat 32 ((u.ctr a.toNat).toNat / 2 ^ 32)))).clearCtr a.toNat).answer
        (BitVec.ofNat 64 ((u.ctr a.toNat).toNat % 2 ^ 32))) := by
  rw [hu, ← highWord_eq, ← lowWord_eq]
  exact congrArg Host.Outcome.next (State.counterAccess_reached _ hs hc)

/-- COUNTER_HIGH_READ with a full shadow answers it and empties it (R16). -/
theorem exec_counterHighRead_of_shadow {h : Word} (hs : s.stopped m false a.toNat 4 (.counterHighRead m a) = none)
    (hc : isCounter (a.toNat - 4) = true) (hu : u = (s.touch a.toNat).freshCtr (a.toNat - 4))
    (hsh : sget (fun _ => none) u.ctrShadow (a.toNat - 4) = some h) :
    exec (.counterHighRead m a) s = .next
      ((u.latch (a.toNat - 4) none).answer (h.setWidth 64)) := by
  refine (congrArg Host.Outcome.next (State.counterAccess_reached _ hs hc)).trans ?_
  rw [← hu, hsh]
  rfl

/-- COUNTER_HIGH_READ with an empty shadow answers the live high word (R16). -/
theorem exec_counterHighRead_of_live (hs : s.stopped m false a.toNat 4 (.counterHighRead m a) = none)
    (hc : isCounter (a.toNat - 4) = true) (hu : u = (s.touch a.toNat).freshCtr (a.toNat - 4))
    (hsh : sget (fun _ => none) u.ctrShadow (a.toNat - 4) = none) :
    exec (.counterHighRead m a) s = .next (u.answer (BitVec.ofNat 64 ((u.ctr (a.toNat - 4)).toNat / 2 ^ 32))) := by
  refine (congrArg Host.Outcome.next (State.counterAccess_reached _ hs hc)).trans ?_
  rw [← hu, hsh, highAnswer_eq]

end reads

/-- A counter that is cleared reads 0, and no other counter changes. -/
theorem onlyCtrs_clearCtr (u : State) (a : Nat) : onlyCtrs u (u.clearCtr a) [a] := by
  intro b hb
  rw [State.ctr_clearCtr, if_neg (by simpa using hb)]

/-- Settles O4: a read that is not stopped acts on the counter brought up to date, by the rule of its command. -/
theorem counterReadsReturnAndClear : Obligations.CounterReadsReturnAndClear := by
  have hzero : ∀ (u : State) (a : Nat), (u.clearCtr a).ctr a = 0 := fun u a => by rw [State.ctr_clearCtr, if_pos rfl]
  refine ⟨?whole, ?low, ?shadow, ?live, fun s a h => State.freshCtr_of_ne_busy _ a h⟩
  case whole =>
    intro s u m a hs hc hu
    have hkept : dataKept s u := hu ▸ (s.touch_freshCtr_kept _ _).1
    exact ⟨_, exec_counterRead hs hc hu, rfl, hzero u _, onlyCtrs_clearCtr u _, rfl, rfl, hkept⟩
  case low =>
    intro s u m a hs hc hu
    have hkept : dataKept s u := hu ▸ (s.touch_freshCtr_kept _ _).1
    exact ⟨_, exec_counterLowRead hs hc hu, rfl, hzero u _, onlyCtrs_clearCtr u _, u.sget_latch a.toNat (some _), rfl,
      hkept⟩
  case shadow =>
    intro s u m a h hs hc hsh hu
    obtain ⟨hkept, hshadow⟩ : dataKept s u ∧ u.ctrShadow = s.ctrShadow := hu ▸ s.touch_freshCtr_kept _ _
    exact ⟨_, exec_counterHighRead_of_shadow hs hc hu (hshadow ▸ hsh), rfl, u.sget_latch (a.toNat - 4) none,
      onlyCtrs_refl u _, rfl, hkept⟩
  case live =>
    intro s u m a hs hc hsh hu
    obtain ⟨hkept, hshadow⟩ : dataKept s u ∧ u.ctrShadow = s.ctrShadow := hu ▸ s.touch_freshCtr_kept _ _
    exact ⟨_, exec_counterHighRead_of_live hs hc hu (hshadow ▸ hsh), rfl, rfl, onlyCtrs_refl u _, rfl, hkept⟩

end Sys2Proof.Machine
end

section
/-! Accesses that reach no register (R4, R18, R125) and what CFG_STATUS keeps (R9, R10, R127). -/

namespace Sys2Proof.Machine

variable (s : State)

/-! ### Answers of accesses that reach no register -/

/-- An answer changes the answer alone. -/
theorem State.bounce_frame (m : Master) (w : Bool) (v : DWord) :
    s.bounce m w v = { s with resp := (s.bounce m w v).resp } := by
  cases m <;> rfl

@[simp] theorem State.bounce_regs (m : Master) (w : Bool) (v : DWord) : (s.bounce m w v).regs = s.regs := by
  cases m <;> rfl

@[simp] theorem State.bounce_mem (m : Master) (w : Bool) (v : DWord) : (s.bounce m w v).mem = s.mem := by
  cases m <;> rfl

@[simp] theorem State.bounce_flt (m : Master) (w : Bool) (v : DWord) : (s.bounce m w v).flt = s.flt := by
  cases m <;> rfl

@[simp] theorem State.bounce_rd (m : Master) (w : Bool) (v : DWord) (a : Nat) : (s.bounce m w v).rd a = s.rd a := by
  cases m <;> rfl

/-- Only a core takes a bus error. -/
theorem State.bounce_busError (m : Master) (w : Bool) (v : DWord) :
    (s.bounce m w v).resp.busError = true ↔ ∃ c, m = .core c := by
  cases m <;> simp [State.bounce, State.busError, State.answer]

/-- A read is answered with the value given. -/
theorem State.bounce_value (m : Master) (v : DWord) : (s.bounce m false v).resp.value = v := by
  cases m <;> rfl

/-- An event presented leaves the answer. -/
theorem State.present_resp (src unit : Nat) : (s.present src unit).resp = s.resp := by
  unfold State.present State.presentEv
  split <;> rfl

/-- While fewer than 16 events wait in all, an event presented joins FAULT's queue (R683). -/
theorem State.present_of_room (src unit : Nat) (h : s.flt.queue.length < 16) :
    s.present src unit = { s with flt := { s.flt with queue := s.flt.queue ++
      [{ src := src, unit := unit, perm := false, inj := false, full := false }] } } :=
  if_pos (Nat.lt_of_le_of_lt (List.length_filter_le _ _) h)

/-- An access that is answered without effect and presented to FAULT: a bus error at a core alone, the value on a read, and
beside the answer nothing but the event. -/
theorem State.bounce_present_spec (m : Master) (w : Bool) (v : DWord) (src unit : Nat) :
    let t := (s.bounce m w v).present src unit
    (t.resp.busError = true ↔ ∃ c, m = .core c) ∧ (w = false → t.resp.value = v) ∧
      (s.flt.queue.length < 16 → t = { s with resp := t.resp, flt := { s.flt with queue := s.flt.queue ++
        [{ src := src, unit := unit, perm := false, inj := false, full := false }] } }) ∧
      t.mem = s.mem := by
  dsimp only
  refine ⟨?_, ?_, ?_, ?_⟩
  · rw [State.present_resp]
    exact s.bounce_busError m w v
  · rintro rfl
    rw [State.present_resp, s.bounce_value]
  · intro hroom
    rw [State.present_of_room _ src unit (by simpa using hroom), s.bounce_frame m w v]
  · exact (State.presentEv_mem _ _).1.trans (s.bounce_mem m w v)

/-- An access of a gated block bounces with its pattern and is presented as source 0x01 (R18). -/
theorem exec_gatedAccess {s : State} {m : Master} {w : Bool} {a : BitVec 64} (hreg : inRegs a.toNat = true)
    (hocc : occupied (windowOf a.toNat) = true) (hgated : s.gated (windowOf a.toNat) = true) (hdark : s.dark = false)
    (hgrant : s.granted m w a.toNat = true) :
    exec (.gatedAccess m w a) s =
      .next ((s.bounce m w (gatedPattern (windowOf a.toNat))).present 0x01 (windowOf a.toNat)) := by
  have hret : inRetention a.toNat = false := by
    simp only [inRegs, inRetention, decide_eq_true_eq, decide_eq_false_iff_not] at hreg ⊢
    omega
  show execGatedAccess m w a s = _
  simp [execGatedAccess, State.gatedAccess, hgrant, hret, hreg, hocc, hgated, hdark]

/-- An access of an unmapped address bounces with 0 and is presented as source 0x02 (R125). -/
theorem exec_addrUnmapped {s : State} {m : Master} {w : Bool} {a : BitVec 64} (hreach : s.reaches m a.toNat = false)
    (hdark : s.dark = false) (hgrant : s.granted m w a.toNat = true) :
    exec (.addrUnmapped m w a) s = .next ((s.bounce m w 0).present 0x02 (a.toNat / 2 ^ 16 % 2 ^ 19)) := by
  show execAddrUnmapped m w a s = _
  simp [execAddrUnmapped, State.unmappedAccess, State.unmapped, hreach, hdark, hgrant]

/-- An access outside the debug grant does nothing (R600; notes/assumptions/112.md). -/
theorem exec_stopped_of_not_granted {s : State} {m : Master} {w : Bool} {a : BitVec 64} (n : Nat)
    (h : s.granted m w a.toNat = false) :
    exec (.gatedAccess m w a) s = .next s ∧ exec (.addrUnmapped m w a) s = .next s ∧
      exec (.badSize m w a n) s = .next s :=
  ⟨if_pos (by simp [h]), if_pos (by simp [h]), if_neg (by simp [h])⟩

/-- An access that breaks R4 bounces with 0; a write is recorded as BAD_SIZE. -/
theorem exec_badSize {s : State} {m : Master} {w : Bool} {a : BitVec 64} {n : Nat} (hreg : inRegs a.toNat = true)
    (hocc : occupied (windowOf a.toNat) = true) (hgated : s.gated (windowOf a.toNat) = false)
    (hsize : ¬ ((n = 4 ∨ n = 8) ∧ a.toNat % n = 0)) (hgrant : s.granted m w a.toNat = true) :
    exec (.badSize m w a n) s = .next (s.badSizeAccess m w a.toNat) := by
  have hgood : ¬ goodSize a.toNat n = true := by simpa [goodSize] using hsize
  have hrun : ¬ s.dark = true := by simp [State.dark_of_not_gated hgated]
  exact if_pos ⟨hreg, hocc, by simp [hgated], hgood, hrun, hgrant⟩

/-- A refusal after an answer changes registers and the answer alone. -/
theorem State.refuse_bounce_frame (m : Master) (w : Bool) (v : DWord) (a : Nat) (c : RefCode) :
    (s.bounce m w v).refuse a c =
      { s with regs := ((s.bounce m w v).refuse a c).regs, resp := (s.bounce m w v).resp } := by
  have hrefuse := regsFrame_refuse (s.bounce m w v) a c
  unfold regsFrame at hrefuse
  rw [hrefuse, s.bounce_frame m w v]

/-- What an access that breaks R4 leaves (R4, R9). -/
theorem State.badSizeAccess_spec (m : Master) (w : Bool) (a : Nat) :
    let t := s.badSizeAccess m w a
    (t.resp.busError = true ↔ ∃ c, m = .core c) ∧ (w = false → t.resp.value = 0 ∧ t.regs = s.regs) ∧
      (w = true → getBits (s.rd (cfgStatusOf a)) 0 8 = 0 → getBits (t.rd (cfgStatusOf a)) 0 8 = 4) ∧
      onlyFields s t [whole (cfgStatusOf a)] ∧ t = { s with regs := t.regs, resp := t.resp } := by
  have honly : onlyFields s (s.bounce m w 0) [whole (cfgStatusOf a)] :=
    onlyFields_of_regs (s.bounce_regs m w 0) (onlyFields_refl s _)
  cases w with
  | false =>
    refine ⟨s.bounce_busError m false 0, fun _ => ⟨s.bounce_value m 0, s.bounce_regs m false 0⟩,
      fun h => absurd h (by decide), honly, ?_⟩
    cases m <;> rfl
  | true =>
    have hframe := s.refuse_bounce_frame m true 0 a .badSize
    have hresp : (s.badSizeAccess m true a).resp = (s.bounce m true 0).resp := by
      show ((s.bounce m true 0).refuse a .badSize).resp = _
      rw [hframe]
    refine ⟨hresp ▸ s.bounce_busError m true 0, fun h => absurd h (by decide), fun _ h0 => ?_,
      onlyFields_refuse a _ (by simp) honly, ?_⟩
    · exact State.refuse_code _ a .badSize (by simpa using h0)
    · rw [hresp]
      exact hframe

/-- Settles O5: each kind of access bounces, and what it presents or records is said by the rule of that kind. -/
theorem stoppedAccessesAnswerAndLog : Obligations.StoppedAccessesAnswerAndLog := by
  refine ⟨?_, ?_, ?_, ?_⟩
  · intro s m w a hreg hocc hgated hdark hgrant
    exact ⟨_, exec_gatedAccess hreg hocc hgated hdark hgrant, s.bounce_present_spec _ _ _ _ _⟩
  · intro s m w a hreach hdark hgrant
    exact ⟨_, exec_addrUnmapped hreach hdark hgrant, s.bounce_present_spec _ _ _ _ _⟩
  · exact fun s m w a n h => exec_stopped_of_not_granted n h
  · intro s m w a n hreg hocc hgated hsize hgrant
    exact ⟨_, exec_badSize hreg hocc hgated hsize hgrant, s.badSizeAccess_spec _ _ _⟩

/-! ### BAR2_WIN and CFG_STATUS -/

/-- A BAR2_WIN write that is out of range is refused, and a legal one moves the window (R127, R138). -/
theorem exec_bar2WinWrite {s : State} (w : Word) (h : s.dark = false) :
    exec (.bar2WinWrite w []) s = .next
      (if getBits w 0 9 = 0 ∨ (0x40 ≤ getBits w 0 9 ∧ getBits w 0 9 ≤ 0x13F) then
        s.setFld F.SYSCTL_BAR2_WIN_WIN (getBits w 0 9) else s.refuse A.SYSCTL_BAR2_WIN .cfgRange) := by
  show execBar2WinWrite w [] s = _
  simp only [execBar2WinWrite, List.foldl_nil, h, Bool.false_eq_true, if_false]
  split <;> rfl

/-- Accesses that HOSTP receives leave the power state. -/
theorem State.power_receiveBar2 (l : List HostReq) : ∀ s : State, (l.foldl State.receiveBar2 s).power = s.power := by
  induction l with
  | nil => exact fun _ => rfl
  | cons x l ih => exact fun s => ih (s.receiveBar2 x)

/-- Accesses received before the write count as received at the old base (R128). -/
theorem exec_bar2WinWrite_received (w : Word) (l : List HostReq) (h : s.dark = false) :
    exec (.bar2WinWrite w l) s = exec (.bar2WinWrite w []) (l.foldl State.receiveBar2 s) := by
  have hrun : (l.foldl State.receiveBar2 s).dark = false := (State.dark_of_power (State.power_receiveBar2 l s)).trans h
  rw [exec_bar2WinWrite w hrun]
  show execBar2WinWrite w l s = _
  simp only [execBar2WinWrite, h, Bool.false_eq_true, if_false]
  split <;> rfl

/-- A read of CFG_STATUS answers the record and clears it (R10). -/
theorem exec_cfgStatusRead {s : State} {m : Master} {b : BitVec 8} {a : Nat}
    (ha : a = cfgStatusOf (0x40000000 + 0x10000 * b.toNat)) (hs : s.stopped m false a 4 (.cfgStatusRead m b) = none) :
    exec (.cfgStatusRead m b) s = .next (((s.touch a).wr a 0).answer ((s.rd a).setWidth 64)) := by
  subst ha
  show execCfgStatusRead m b s = _
  simp only [execCfgStatusRead, hs]

/-- Settles O6: the rule of a refusal at BAR2_WIN, the first one and a later one, and the rule of the read. -/
theorem firstRefusalIsKept : Obligations.FirstRefusalIsKept := by
  have hstatus : cfgStatusOf A.SYSCTL_BAR2_WIN = 0x40000004 := by decide
  refine ⟨?_, ?_, fun s w l h => exec_bar2WinWrite_received s w l h, ?_⟩
  · intro s w hrun hnz hrange
    have hexec := exec_bar2WinWrite w hrun
    rw [if_neg (by tauto)] at hexec
    refine ⟨_, hexec, State.refuse_rd s _ _ _ (by decide), fun h0 => ⟨?_, ?_⟩, fun h1 => ?_,
      onlyFields_refuse _ _ (by rw [hstatus]; simp) (onlyFields_refl s _), regsFrame_refuse s _ _⟩
    · exact hstatus ▸ State.refuse_code s A.SYSCTL_BAR2_WIN .cfgRange (by rw [hstatus]; exact h0)
    · exact (hstatus ▸ State.refuse_offset s A.SYSCTL_BAR2_WIN .cfgRange (by rw [hstatus]; exact h0) :)
    · rw [State.refuse_again s _ _ (by rw [hstatus]; exact h1), hstatus, State.rd_wr_same]
      exact ⟨getBits_setBits_other _ _ _ _ _ _ (by omega) (by omega),
        getBits_setBits_other _ _ _ _ _ _ (by omega) (by omega), getBits_setBits_same _ _ _ _ (by omega)⟩
  · intro s w hrun hrange
    have hexec := exec_bar2WinWrite w hrun
    rw [if_pos hrange] at hexec
    exact ⟨_, hexec, (State.fld_setFld_same s _ _ (by decide)).trans (Nat.mod_eq_of_lt (getBits_lt w 0 9)),
      onlyFields_setFld _ _ (by simp) (onlyFields_refl s _), rfl⟩
  · intro s m b hs hne
    generalize ha : cfgStatusOf (0x40000000 + 0x10000 * b.toNat) = a at hs hne ⊢
    refine ⟨_, exec_cfgStatusRead ha.symm hs, rfl, rfl, State.rd_wr_same _ _ _,
      onlyFields_of_regs rfl (onlyFields_wr _ _ (by simp) (onlyFields_touch s _ (by simp))), ?_⟩
    rw [s.touch_frame a]
    rfl

end Sys2Proof.Machine
end

section
/-! A write of one register that has no command of its own, field by field (R5, R7, R9, R10, R680). -/

namespace Sys2Proof.Machine

/-! ### Fields of a word written -/

/-- A field takes a value of its width. -/
theorem RegField.next_lt (f : RegField) (locked : Bool) (old w : Word) :
    f.next locked old w < 2 ^ (f.hi + 1 - f.lo) := by
  have hold := getBits_lt old f.lo (f.hi + 1 - f.lo)
  have hnew := getBits_lt w f.lo (f.hi + 1 - f.lo)
  unfold RegField.next
  dsimp only
  split
  · exact hnew
  · exact hnew
  · split <;> assumption
  · exact Nat.lt_of_le_of_lt Nat.and_le_left hold
  · exact Nat.or_lt_two_pow hold hnew
  · exact hold
  · exact hold

/-- Two fields of a register that share no bit. -/
def RegField.apart (f g : RegField) : Prop := f.hi < g.lo ∨ g.hi < f.lo

/-- A field lies within a word. -/
def RegField.fits (f : RegField) : Prop := f.lo ≤ f.hi ∧ f.hi < 32

/-- The word `acc` with each of the fields `fs` at the value it takes. -/
def putFields (locked : Bool) (old w : Word) (fs : List RegField) (acc : Word) : Word :=
  fs.foldl (fun acc f => setBits acc f.lo (f.hi + 1 - f.lo) (f.next locked old w)) acc

theorem applyFields_eq_putFields (locked : Bool) (old w : Word) (fs : List RegField) :
    applyFields locked old w fs = putFields locked old w fs old := rfl

section fields

variable {locked : Bool} {old w : Word} {f : RegField} {fs : List RegField}

/-- Fields that are put leave a field apart from them. -/
theorem getBits_putFields_of_apart (hf : f.fits) :
    ∀ (fs : List RegField) (acc : Word), (∀ g ∈ fs, g.fits ∧ RegField.apart g f) →
      getBits (putFields locked old w fs acc) f.lo (f.hi + 1 - f.lo) = getBits acc f.lo (f.hi + 1 - f.lo) := by
  intro fs
  induction fs with
  | nil => exact fun _ _ => rfl
  | cons g fs ih =>
    intro acc h
    obtain ⟨⟨hg, hg32⟩, hapart⟩ := h g (by simp)
    obtain ⟨hlo, hhi⟩ := hf
    unfold RegField.apart at hapart
    exact (ih _ fun k hk => h k (by simp [hk])).trans
      (getBits_setBits_other _ _ _ _ _ _ (by omega) (by omega))

/-- Each of a register's fields that do not overlap holds the value it takes. -/
theorem getBits_putFields_of_mem :
    ∀ (fs : List RegField) (acc : Word), fs.Pairwise RegField.apart → (∀ g ∈ fs, g.fits) → f ∈ fs →
      getBits (putFields locked old w fs acc) f.lo (f.hi + 1 - f.lo) = f.next locked old w := by
  intro fs
  induction fs with
  | nil => exact fun _ _ _ h => absurd h (by simp)
  | cons g fs ih =>
    intro acc hpair hfits hmem
    obtain ⟨hhead, htail⟩ := List.pairwise_cons.mp hpair
    rcases List.mem_cons.mp hmem with rfl | hin
    · obtain ⟨hlo, hhi⟩ := hfits f (by simp)
      have hrest : ∀ k ∈ fs, k.fits ∧ RegField.apart k f := fun k hk =>
        ⟨hfits k (by simp [hk]), (hhead k hk).symm⟩
      refine (getBits_putFields_of_apart ⟨hlo, hhi⟩ fs _ hrest).trans ?_
      rw [getBits_setBits_same _ _ _ _ (by omega), Nat.mod_eq_of_lt (f.next_lt locked old w)]
    · exact ih _ htail (fun k hk => hfits k (by simp [hk])) hin

/-- A locked change is a locked RWL field whose value would differ. -/
theorem lockedChange_iff : lockedChange locked old w fs = true ↔
    locked = true ∧ ∃ f ∈ fs, f.acc = .rwl ∧
      getBits old f.lo (f.hi + 1 - f.lo) ≠ getBits w f.lo (f.hi + 1 - f.lo) := by
  simp [lockedChange]

end fields

/-! ### The write -/

variable (s : State)

/-- The register at `a` with `w` written to its fields, and what the lock makes CFG_STATUS record. -/
def State.writeFields (s : State) (a : Nat) (w : Word) (fs : List RegField) : State :=
  let t := s.wr a (applyFields s.locked (s.rd a) w fs)
  if lockedChange s.locked (s.rd a) w fs then t.refuse a .cfgLocked else t

/-- The register written holds its fields' values. -/
theorem State.rd_writeFields (a : Nat) (w : Word) (fs : List RegField) (ha : a ≠ cfgStatusOf a) :
    (s.writeFields a w fs).rd a = applyFields s.locked (s.rd a) w fs := by
  unfold State.writeFields
  dsimp only
  split
  · rw [State.refuse_rd _ _ _ _ ha, State.rd_wr_same]
  · rw [State.rd_wr_same]

/-- A locked change is recorded as CFG_LOCKED, where no refusal is. -/
theorem State.writeFields_locked (a : Nat) (w : Word) (fs : List RegField) (ha : a ≠ cfgStatusOf a)
    (hl : lockedChange s.locked (s.rd a) w fs = true) (h0 : getBits (s.rd (cfgStatusOf a)) 0 8 = 0) :
    getBits ((s.writeFields a w fs).rd (cfgStatusOf a)) 0 8 = 3 := by
  unfold State.writeFields
  dsimp only
  rw [if_pos hl]
  exact State.refuse_code _ a .cfgLocked (by rw [State.rd_wr_ne _ _ ha.symm]; exact h0)

/-- Without a locked change CFG_STATUS stays. -/
theorem State.writeFields_unlocked (a : Nat) (w : Word) (fs : List RegField) (ha : a ≠ cfgStatusOf a)
    (hl : ¬ lockedChange s.locked (s.rd a) w fs = true) :
    (s.writeFields a w fs).rd (cfgStatusOf a) = s.rd (cfgStatusOf a) := by
  unfold State.writeFields
  dsimp only
  rw [if_neg hl, State.rd_wr_ne _ _ ha.symm]

/-- A write of fields changes the register and CFG_STATUS alone. -/
theorem onlyFields_writeFields {t : State} {fs : List Fld} (a : Nat) (w : Word) (ds : List RegField)
    (hreg : whole a ∈ fs) (hst : whole (cfgStatusOf a) ∈ fs) (h : onlyFields s t fs) :
    onlyFields s (t.writeFields a w ds) fs := by
  unfold State.writeFields
  dsimp only
  split
  · exact onlyFields_refuse a _ hst (onlyFields_wr a _ hreg h)
  · exact onlyFields_wr a _ hreg h

theorem regsFrame_writeFields (a : Nat) (w : Word) (fs : List RegField) : regsFrame s (s.writeFields a w fs) := by
  unfold State.writeFields
  dsimp only
  split
  · exact regsFrame_trans (regsFrame_wr s _ _) (regsFrame_refuse _ _ _)
  · exact regsFrame_wr s _ _

/-- Remembering an RWL write changes that memory alone (R134). -/
theorem State.noteRwl_frame (a : Nat) (old : Word) (fs : List RegField) :
    s.noteRwl a old fs = { s with rwl := (s.noteRwl a old fs).rwl } := by
  unfold State.noteRwl
  split <;> rfl

/-- A write whose checks pass writes the fields, notes RWL writes, and has the register's effect. -/
theorem State.plainWrite_of_checks {s : State} {a : Nat} {v w : Word} {d : RegDesc} {ix : List Nat}
    (hw : w = wordPut s a v) (hfind : findReg a = some (d, ix)) (hfields : checkFields s.locked w d.fields = none)
    (hconds : firstRef (s.regConds (firstWindow (windowOf a)) a w) = none) :
    s.plainWrite a v = ((s.writeFields a w d.fields).noteRwl a (s.rd a) d.fields).wroteReg
      (firstWindow (windowOf a)) a (s.rd a) w := by
  subst hw
  unfold wordPut at hfields hconds
  simp only [State.plainWrite, hfind, hfields, hconds]
  rfl

/-- A 32-bit write that reaches a register outside the SELF window, has no command of its own and is no write of
DISPATCH.SW_ENTRY is a plain write on a running clock (R59). -/
theorem exec_registerWrite_plain {s : State} {m : Master} {addr : BitVec 64} {v : DWord}
    (hs : s.stopped m true addr.toNat 4 (.registerWrite m addr 4 v) = none) (hself : selfOffset addr.toNat = none)
    (hcmd : (s.touch addr.toNat).cmdWrite m (firstWindow (windowOf addr.toNat)) addr.toNat (v.setWidth 32) = none)
    (hlo : addr.toNat ≠ A.DISPATCH_SW_ENTRY_LO) (hhi : addr.toNat ≠ A.DISPATCH_SW_ENTRY_HI) :
    exec (.registerWrite m addr 4 v) s = .next ((s.touch addr.toNat).plainWrite addr.toNat (v.setWidth 32)) := by
  show execRegisterWrite m addr 4 v s = _
  simp [execRegisterWrite, hs, State.busWord, hself, State.writeWord, hcmd, State.afterSwEntry, hlo, hhi]

/-- Starting the clock leaves the word that a write puts to the fields. -/
theorem wordPut_touch (b : Nat) {a : Nat} (v : Word) (ha : a ≠ A.CKGEN_ACTIVE) :
    wordPut (s.touch b) a v = wordPut s a v := by
  unfold wordPut
  rw [s.rd_touch b ha]

/-- Settles O7: the write puts its word to the fields on a running clock, so each field, CFG_STATUS and the rest are read off
the rules of the fields and of the frames. -/
theorem registerWriteFollowsAccessTypes : Obligations.RegisterWriteFollowsAccessTypes := by
  intro s m addr v w d ix hs hself hw hplain hcmd hfind hactive hlo hhi ha hst hpair hfits hfields hconds
  generalize haddr : addr.toNat = a at *
  have hlock : (s.touch a).locked = s.locked := s.locked_touch a
  have hold : (s.touch a).rd a = s.rd a := s.rd_touch a hactive
  have hstatus : (s.touch a).rd (cfgStatusOf a) = s.rd (cfgStatusOf a) := s.rd_touch a hst.symm
  have hexec : exec (.registerWrite m addr 4 v) s =
      .next (((s.touch a).writeFields a w d.fields).noteRwl a (s.rd a) d.fields) := by
    have hput : w = wordPut (s.touch a) a (v.setWidth 32) := by rw [wordPut_touch s a _ hactive]; exact hw
    rw [exec_registerWrite_plain (haddr ▸ hs) (haddr ▸ hself) (haddr ▸ hcmd) (haddr ▸ hlo) (haddr ▸ hhi), haddr,
      State.plainWrite_of_checks hput hfind (hlock ▸ hfields) hconds, hplain, hold]
  have hregs : (((s.touch a).writeFields a w d.fields).noteRwl a (s.rd a) d.fields).regs =
      ((s.touch a).writeFields a w d.fields).regs := by rw [State.noteRwl_frame]
  have hrd : ∀ b, (((s.touch a).writeFields a w d.fields).noteRwl a (s.rd a) d.fields).rd b =
      ((s.touch a).writeFields a w d.fields).rd b := fun b => by rw [State.rd, hregs]; rfl
  refine ⟨_, hexec, ?_, ?_, ?_, ?_, ?_⟩
  · intro f hf
    dsimp only
    rw [hrd, State.rd_writeFields _ a w _ ha, hlock, hold, applyFields_eq_putFields,
      getBits_putFields_of_mem _ _ hpair hfits hf]
    unfold RegField.next
    cases f.acc <;> rfl
  · intro hchange h0
    rw [hrd]
    exact State.writeFields_locked _ a w _ ha (by rw [hlock, hold]; exact lockedChange_iff.mpr hchange)
      (by rw [hstatus]; exact h0)
  · intro hchange
    rw [hrd, State.writeFields_unlocked _ a w _ ha (by rw [hlock, hold]; exact fun h => hchange (lockedChange_iff.mp h)),
      hstatus]
  · exact onlyFields_of_regs hregs
      (onlyFields_writeFields s a w _ (by simp) (by simp) (onlyFields_touch s a (by simp)))
  · have hwrite := regsFrame_writeFields (s.touch a) a w d.fields
    have htouch := s.touch_frame a
    unfold regsFrame at hwrite
    rw [State.noteRwl_frame, hwrite, htouch]

end Sys2Proof.Machine
end

section
/-! REG_WRITES while a block that the record names waits for its PLL (R95, R115). -/

namespace Sys2Proof.Machine

/-- The ROM waits at a REG_WRITES record one of whose triples addresses a block that waits for its PLL (R95). -/
theorem exec_regWrites_of_wait {s : State} (h : s.triplesWait (s.bodyNow 0x07) = true) :
    exec .regWrites s = .next s := if_pos h

/-- The bytes of slot A's flash that matter to `waitingRom`: a directory entry of type 0x07 whose body of 13 bytes lies at
offset 512, an entry of type 0x01 after it, and a first triple that addresses KEYS (0x40060000). -/
def partTripleImage : List (Nat × Byte) :=
  [(256, 7), (260, 0), (261, 2), (262, 0), (263, 0), (264, 13), (265, 0), (266, 0), (267, 0), (320, 1),
    (512, 0), (513, 0), (514, 6), (515, 0x40)]

/-- A ROM at the first record of that image, before any PLL has locked. -/
def waitingRom : State := { nvm := partTripleImage, boot := { phase := .records } }

/-- The record at which the ROM stands is a REG_WRITES of one triple and one byte. -/
theorem waitingRom_atRecord : atRecord waitingRom 0x07 ∧ (presentBody waitingRom).length % 12 ≠ 0 := by
  unfold atRecord
  decide +kernel

/-- KEYS waits for the CORE PLL, and so does the ROM. -/
theorem waitingRom_waits : waitingRom.triplesWait (waitingRom.bodyNow 0x07) = true := by decide +kernel

/-- Refutes O16 in its second clause: a REG_WRITES body that is not whole triples fails the slot only once the ROM gets to it.
While a whole triple of the same body addresses a block whose PLL is not locked, the ROM's access stalls (R95), and the
state stays as it is. -/
theorem not_entryConfirmationAndAntiRollback : ¬ Obligations.EntryConfirmationAndAntiRollback := by
  rintro ⟨-, hpart, -⟩
  obtain ⟨hat, hlen⟩ := waitingRom_atRecord
  obtain ⟨t, hexec, -, -, -, hphase, -⟩ := hpart waitingRom hat hlen
  rw [exec_regWrites_of_wait waitingRom_waits] at hexec
  obtain rfl : waitingRom = t := Host.Outcome.next.inj hexec
  exact absurd hphase (by decide)

end Sys2Proof.Machine
end

section
/-! SUPPORT. What a warm reset leaves (R98 to R102): one rule for a register, and from it everything that the statements
list. -/

namespace Sys2Proof.Machine

variable (s : State)

/-! ### Sparse maps that lose some of their keys -/

/-- A map that keeps the keys of `p` alone reads its default at the others. -/
theorem sget_filter {α : Type} (d : Nat → α) (p : Nat → Bool) (m : List (Nat × α)) (k : Nat) :
    sget d (m.filter (fun e => p e.1)) k = if p k then sget d m k else d k := by
  induction m with
  | nil => simp [sget]
  | cons e m ih =>
    obtain ⟨j, v⟩ := e
    by_cases hk : j = k
    · subst hk
      by_cases hj : p j = true
      · simp [sget, hj]
      · simp [hj, ih]
    · by_cases hj : p j = true
      · simp [sget, hj, hk, ih]
      · simp [sget, hj, hk, ih]

/-! ### Registers set from straps and fuses -/

/-- An address outside some windows is no address of them. -/
theorem ne_of_window {a b : Nat} {ws : List Nat} (ha : windowOf a ∉ ws) (hb : windowOf b ∈ ws) : a ≠ b := by
  rintro rfl
  exact ha hb

/-- Words of a number leave the registers outside them. -/
theorem State.rd_wrWords {a count v b : Nat} (h : ∀ n < count, b ≠ a + 4 * n) : (s.wrWords a count v).rd b = s.rd b :=
  State.rd_wrWords_ne s a count b _ h

/-- The identity registers all lie in KEYS. -/
theorem State.rd_showIdentity {a : Nat} (h : windowOf a ≠ 0x06) : s.showIdentity.rd a = s.rd a := by
  have hwords : ∀ {t : State} {b n v : Nat}, 0x40060000 ≤ b → b + 4 * n ≤ 0x40070000 →
      (t.wrWords b n v).rd a = t.rd a := by
    intro t b n v hb hn
    refine State.rd_wrWords t fun i hi ha => h ?_
    unfold windowOf
    omega
  unfold State.showIdentity
  split
  · rfl
  · rw [hwords (by decide) (by decide), hwords (by decide) (by decide), hwords (by decide) (by decide)]

/-- Beside SVN and the counters of SYSCTL, the registers that show fuses lie in KEYS. -/
theorem State.rd_showFuses {a : Nat} (hw : windowOf a ≠ 0x06)
    (ha : a ∉ [A.SYSCTL_SVN, A.SYSCTL_RB_CNT 0, A.SYSCTL_RB_CNT 1, A.SYSCTL_RB_CNT 2]) :
    s.showFuses.rd a = s.rd a := by
  simp only [List.mem_cons, List.not_mem_nil, or_false, not_or] at ha
  obtain ⟨hsvn, h0, h1, h2⟩ := ha
  have hlc : a ≠ A.KEYS_LC := ne_of_window (ws := [0x06]) (by simpa using hw) (by decide)
  have hhash : ∀ n < 12, a ≠ A.KEYS_FUSED_HASH 0 + 4 * n := by
    rintro n hn rfl
    apply hw
    unfold windowOf A.KEYS_FUSED_HASH
    omega
  unfold State.showFuses
  dsimp only
  rw [State.rd_wrWords _ hhash, State.rd_wr_ne _ _ hlc, State.rd_wr_ne _ _ h2, State.rd_wr_ne _ _ h1,
    State.rd_wr_ne _ _ h0, State.rd_setFld_ne _ _ _ hsvn]

/-- The registers whose reset value is a strap or a fuse: those of DBG, NVMC, KEYS and HOSTP, SVN and the counters. -/
theorem State.rd_afterReset {a : Nat} (hw : windowOf a ∉ [0x04, 0x05, 0x06, 0x0C])
    (ha : a ∉ [A.SYSCTL_SVN, A.SYSCTL_RB_CNT 0, A.SYSCTL_RB_CNT 1, A.SYSCTL_RB_CNT 2]) :
    s.afterReset.rd a = s.rd a := by
  have hkeys : windowOf a ≠ 0x06 := fun h => hw (by simp [h])
  have hdbg : a ≠ F.DBG_STATUS_FAILS.addr := ne_of_window hw (by decide)
  have hids : a ≠ F.HOSTP_IDS_VENDOR_ID.addr := ne_of_window hw (by decide)
  have hcfg : a ≠ F.HOSTP_CFG_MODE.addr := ne_of_window hw (by decide)
  have hmode : a ≠ F.NVMC_MODE_PROTO.addr := ne_of_window hw (by decide)
  unfold State.afterReset
  dsimp only
  rw [State.rd_setFld_ne _ _ _ hdbg, State.rd_showIdentity _ hkeys, State.rd_showFuses _ hkeys ha,
    State.rd_setFld_ne _ _ _ hids, State.rd_setFld_ne _ _ _ hcfg, State.rd_setFld_ne _ _ _ hmode]

/-- Straps and fuses set registers alone. -/
theorem regsFrame_afterReset : regsFrame s s.afterReset := by
  have hfuses : ∀ t : State, regsFrame t t.showFuses := fun t =>
    regsFrame_trans (t := (((t.setFld F.SYSCTL_SVN_FUSE_SVN t.fuses.rb0).wr _ _).wr _ _).wr _ _) rfl <|
      regsFrame_trans (regsFrame_wr _ _ _) (regsFrame_wrWords _ _ _ _)
  have hidentity : ∀ t : State, regsFrame t t.showIdentity := by
    intro t
    unfold State.showIdentity
    split
    · exact regsFrame_refl t
    · exact regsFrame_trans (regsFrame_wrWords _ _ _ _)
        (regsFrame_trans (regsFrame_wrWords _ _ _ _) (regsFrame_wrWords _ _ _ _))
  exact regsFrame_trans (regsFrame_setFld s _ _) <| regsFrame_trans (regsFrame_setFld _ _ _) <|
    regsFrame_trans (regsFrame_setFld _ _ _) <| regsFrame_trans (hfuses _) <|
      regsFrame_trans (hidentity _) (regsFrame_setFld _ _ _)

/-! ### The state before straps and fuses are set -/

/-- What a warm reset keeps (R100), before any register is set. -/
def State.warmBase : State :=
  { nvm := s.cutFlash.nvm, hostMem := s.hostMem, fuses := s.fuses, fresh := s.cutFlash.fresh, pending := s.pending
    regs := s.regs.filter (fun r => keptWarm r.1)
    mem := s.mem.filter (fun c => !inSram c.1)
    power := s.power.afterWarm (s.power.ao + s.now * 128 / 1953125)
    dram := { s.dram with stored := s.dram.stored || s.flag F.DRAMC_STATUS_TRAINED, used := [], scrubbed := 0 }
    keys := s.keys.afterWarm
    boot := { spoiled := s.boot.spoiled, replies := s.boot.replies } }

/-- The same with the registers that a warm reset keeps in part. -/
def State.warmParts : State :=
  (((((s.warmBase.wr A.SYSCTL_BOOT_STATUS (s.rd A.SYSCTL_BOOT_STATUS &&& bootStatusKept)).wr A.SYSCTL_SVN
    (s.rd A.SYSCTL_SVN &&& svnKept)).setFld F.PMU_STATE_CUR 0).setFld F.PMU_STATE_BUSY 0).setFld
    F.PMU_AVS_STATUS_PENDING 0).setFld F.DRAMC_STATUS_SELF_REFRESH 1

/-- A warm reset with a warm cause to report. -/
theorem State.warmReset_eq {cause : Nat} (src : Nat) (h : 5 < s.mergedCause cause) :
    s.warmReset cause src = s.warmParts.afterReset.reportCause (s.mergedCause cause) src :=
  if_neg (Nat.not_le.mpr h)

theorem regsFrame_warmParts : regsFrame s.warmBase s.warmParts :=
  regsFrame_trans (regsFrame_wr _ _ _) <| regsFrame_trans (regsFrame_wr _ _ _) <|
    regsFrame_trans (regsFrame_setFld _ _ _) <| regsFrame_trans (regsFrame_setFld _ _ _) <|
      regsFrame_trans (regsFrame_setFld _ _ _) (regsFrame_setFld _ _ _)

/-- Registers aside, a warm reset leaves what `State.warmBase` holds. -/
theorem State.warmReset_frame {cause : Nat} (src : Nat) (h : 5 < s.mergedCause cause) :
    regsFrame s.warmBase (s.warmReset cause src) := by
  rw [s.warmReset_eq src h]
  exact regsFrame_trans (regsFrame_warmParts s) (regsFrame_trans (regsFrame_afterReset _) (regsFrame_wr _ _ _))

/-- The registers that a warm reset sets beside those of straps and fuses in DBG, NVMC, KEYS and HOSTP. -/
def warmSet : List Nat :=
  [A.SYSCTL_RESET_CAUSE, A.SYSCTL_BOOT_STATUS, A.SYSCTL_SVN, A.SYSCTL_RB_CNT 0, A.SYSCTL_RB_CNT 1, A.SYSCTL_RB_CNT 2,
    A.PMU_STATE, A.PMU_AVS_STATUS, A.DRAMC_STATUS]

/-- A register that a warm reset does not set is kept or holds its reset value (R100). -/
theorem State.rd_warmReset {cause : Nat} (src : Nat) (h : 5 < s.mergedCause cause) {a : Nat}
    (hw : windowOf a ∉ [0x04, 0x05, 0x06, 0x0C]) (ha : a ∉ warmSet) :
    (s.warmReset cause src).rd a = if keptWarm a then s.rd a else resetWord a := by
  simp only [warmSet, List.mem_cons, List.not_mem_nil, or_false, not_or] at ha
  obtain ⟨hcause, hboot, hsvn, h0, h1, h2, hpmu, havs, hdram⟩ := ha
  rw [s.warmReset_eq src h]
  unfold State.reportCause State.warmParts
  rw [State.rd_wr_ne _ _ hcause, State.rd_afterReset _ hw (by simp [hsvn, h0, h1, h2]), State.rd_setFld_ne _ _ _ hdram,
    State.rd_setFld_ne _ _ _ havs, State.rd_setFld_ne _ _ _ hpmu, State.rd_setFld_ne _ _ _ hpmu,
    State.rd_wr_ne _ _ hsvn, State.rd_wr_ne _ _ hboot]
  exact sget_filter resetWord keptWarm s.regs a

/-- Every field of AVS_STATUS but PENDING is kept. -/
theorem State.fld_avsStatus_warmReset {cause : Nat} (src : Nat) (h : 5 < s.mergedCause cause) {f : Fld}
    (hf : f.addr = A.PMU_AVS_STATUS) (hlen : f.lo + f.len ≤ 32)
    (hapart : f.lo + f.len ≤ 16 ∨ 17 ≤ f.lo) : (s.warmReset cause src).fld f = s.fld f := by
  have hrd : (s.warmReset cause src).rd A.PMU_AVS_STATUS = s.warmParts.rd A.PMU_AVS_STATUS := by
    rw [s.warmReset_eq src h]
    exact (State.rd_wr_ne _ _ (by decide)).trans (State.rd_afterReset _ (by decide) (by decide))
  have hfld : (s.warmReset cause src).fld f = s.warmParts.fld f := by
    unfold State.fld
    rw [hf, hrd]
  have hbase : s.warmBase.fld f = s.fld f := by
    unfold State.fld
    rw [hf]
    exact congrArg (getBits · f.lo f.len)
      ((sget_filter resetWord keptWarm s.regs A.PMU_AVS_STATUS).trans (if_pos (by decide)))
  rw [hfld]
  unfold State.warmParts
  rw [State.fld_setFld_ne _ _ _ _ (by rw [hf]; decide), State.fld_setFld_apart _ _ _ _ hlen hapart,
    State.fld_setFld_ne _ _ _ _ (by rw [hf]; decide), State.fld_setFld_ne _ _ _ _ (by rw [hf]; decide),
    State.fld_wr, if_neg (by rw [hf]; decide), State.fld_wr, if_neg (by rw [hf]; decide)]
  exact hbase

/-- A register of no window that a warm reset sets or keeps holds its reset value. -/
theorem State.rd_warmReset_of_window {cause : Nat} (src : Nat) (h : 5 < s.mergedCause cause) {a : Nat}
    (hw : windowOf a ∉ [0x00, 0x02, 0x04, 0x05, 0x06, 0x0B, 0x0C]) : (s.warmReset cause src).rd a = resetWord a := by
  have hset : a ∉ warmSet := fun ha =>
    hw ((by decide : ∀ b ∈ warmSet, windowOf b ∈ [0x00, 0x02, 0x04, 0x05, 0x06, 0x0B, 0x0C]) a ha)
  have hkept : keptWarm a = false := by
    have hstraps : a ≠ A.SYSCTL_STRAPS := ne_of_window hw (by decide)
    have hseq : a ≠ A.SYSCTL_IMG_SEQ := ne_of_window hw (by decide)
    have hused : a ≠ A.DRAMC_PPR_USED := ne_of_window hw (by decide)
    have hpmu : windowOf a ≠ 0x02 := fun h => hw (by simp [h])
    have hdigest : ¬ (A.SYSCTL_IMAGE_DIGEST 0 ≤ a ∧ a ≤ A.SYSCTL_IMAGE_DIGEST 11) := by
      intro hr
      apply hw
      have : windowOf a = 0 := by unfold windowOf A.SYSCTL_IMAGE_DIGEST at *; omega
      simp [this]
    have hppr : ¬ (A.DRAMC_PPR 0 ≤ a ∧ a ≤ A.DRAMC_PPR 7) := by
      intro hr
      apply hw
      have : windowOf a = 0x0B := by unfold windowOf A.DRAMC_PPR at *; omega
      simp [this]
    simp [keptWarm, hstraps, hseq, hused, hpmu, hdigest, hppr]
  have hsub : windowOf a ∉ [0x04, 0x05, 0x06, 0x0C] := fun hm => hw (by simp at hm ⊢; tauto)
  rw [s.rd_warmReset src h hsub hset, hkept]
  rfl

/-- A register of the PMU is kept, but for STATE and AVS_STATUS. -/
theorem State.rd_warmReset_of_pmu {cause : Nat} (src : Nat) (h : 5 < s.mergedCause cause) {a : Nat}
    (hw : windowOf a = 0x02) (hstate : a ≠ A.PMU_STATE) (havs : a ≠ A.PMU_AVS_STATUS) :
    (s.warmReset cause src).rd a = s.rd a := by
  have hset : a ∉ warmSet := by
    intro ha
    have hlist := (by decide : ∀ b ∈ warmSet, windowOf b = 0x02 → b = A.PMU_STATE ∨ b = A.PMU_AVS_STATUS) a ha hw
    tauto
  have hkept : keptWarm a = true := by simp [keptWarm, hw]
  rw [s.rd_warmReset src h (by rw [hw]; decide) hset, hkept]
  rfl

/-- What every warm reset leaves whose cause arises after the ROM has started (R100, R102). -/
theorem warmLeaves_warmReset {cause : Nat} (hphase : s.boot.phase ≠ .waiting) (hwarm : 5 < cause)
    (hfault : cause ≠ causeFault) :
    warmLeaves s (s.warmReset cause) (BitVec.ofNat 32 cause) := by
  have hmerged : s.mergedCause cause = cause := if_neg hphase
  have h : 5 < s.mergedCause cause := by rw [hmerged]; exact hwarm
  have hframe := s.warmReset_frame 0 h
  unfold regsFrame at hframe
  have hsingle : ∀ {a : Nat}, windowOf a ∉ [0x04, 0x05, 0x06, 0x0C] → a ∉ warmSet → keptWarm a = true →
      (s.warmReset cause).rd a = s.rd a := fun hw ha hk => by
    rw [s.rd_warmReset 0 h hw ha, hk]
    rfl
  have hmem : ∀ a, (s.warmReset cause).byte a = if inSram a = true then 0 else s.byte a := by
    intro a
    have hfilter : (s.warmReset cause).byte a = if !inSram a then s.byte a else 0 := by
      rw [hframe]
      exact sget_filter memDefault (fun k => !inSram k) s.mem a
    rw [hfilter]
    cases inSram a <;> rfl
  have hdigest : ∀ n < 12, windowOf (A.SYSCTL_IMAGE_DIGEST n) ∉ [0x04, 0x05, 0x06, 0x0C] ∧
      A.SYSCTL_IMAGE_DIGEST n ∉ warmSet ∧ keptWarm (A.SYSCTL_IMAGE_DIGEST n) = true := by decide
  have hppr : ∀ n < 8, windowOf (A.DRAMC_PPR n) ∉ [0x04, 0x05, 0x06, 0x0C] ∧ A.DRAMC_PPR n ∉ warmSet ∧
      keptWarm (A.DRAMC_PPR n) = true := by decide
  refine ⟨?_, fun a ha => by rw [hmem, if_pos ha], fun a ha => by rw [hmem, if_neg (by simp [ha])], by rw [hframe]; rfl,
    ?_, by rw [hframe]; rfl, by rw [hframe]; rfl, by rw [hframe]; rfl,
    fun a hw h1 h2 => s.rd_warmReset_of_pmu 0 h hw h1 h2,
    s.fld_avsStatus_warmReset 0 h rfl (by decide) (by decide), s.fld_avsStatus_warmReset 0 h rfl (by decide) (by decide),
    ?_, hsingle (by decide) (by decide) (by decide), ?_, ?_, hsingle (by decide) (by decide) (by decide),
    fun a hw => s.rd_warmReset_of_window 0 h hw, ?_, by rw [hframe]; rfl⟩
  · rw [s.warmReset_eq 0 h, hmerged]
    have hcold : ¬ cause ≤ 5 := by omega
    simp [State.reportCause, hfault, hcold]
  · intro hnone
    rw [hframe]
    show s.cutFlash.nvm = s.nvm
    rw [State.cutFlash, hnone]
  · unfold State.flag
    rw [s.fld_avsStatus_warmReset 0 h rfl (by decide) (by decide)]
  · intro n hn
    obtain ⟨hw, hset, hkept⟩ := hdigest n hn
    exact hsingle hw hset hkept
  · intro n hn
    obtain ⟨hw, hset, hkept⟩ := hppr n hn
    exact hsingle hw hset hkept
  · unfold State.flag State.fld
    rw [s.rd_warmReset 0 h (by decide) (by decide), if_neg (by decide)]
    decide +kernel

end Sys2Proof.Machine
end

section
/-! Flash operations (R141, R142) and the host's image messages (R129, R130, R143). -/

namespace Sys2Proof.Machine

variable (s : State)

/-! ### Ranges of flash and memory -/

/-- Bytes stored in flash change flash alone. -/
theorem State.flashStore_frame (bs : List Byte) :
    ∀ (s : State) (a : Nat), s.flashStore a bs = { s with nvm := (s.flashStore a bs).nvm } := by
  induction bs with
  | nil => exact fun _ _ => rfl
  | cons b bs ih =>
    intro s a
    exact ih (s.setFlash (a % 0x10000000) b) (a + 1)

/-- Flash after bytes are stored in a range that does not reach past its end. -/
theorem State.flashByte_flashStore (bs : List Byte) :
    ∀ (s : State) (a c : Nat), a + bs.length ≤ 0x10000000 →
      (s.flashStore a bs).flashByte c = if a ≤ c ∧ c < a + bs.length then bs.getD (c - a) 0 else s.flashByte c := by
  induction bs with
  | nil =>
    intro s a c _
    rw [if_neg (by simp)]
    rfl
  | cons b bs ih =>
    intro s a c h
    simp only [List.length_cons] at h ⊢
    rw [State.flashStore, ih _ _ _ (by omega), State.flashByte_setFlash, Nat.mod_eq_of_lt (by omega)]
    rcases Nat.lt_trichotomy c a with hlt | rfl | hgt
    · rw [if_neg (by omega), if_neg (by omega), if_neg (by omega)]
    · rw [if_neg (by omega), if_pos rfl, if_pos (by omega), Nat.sub_self]
      rfl
    · have hpos : c - a = (c - (a + 1)) + 1 := by omega
      by_cases hin : c < a + 1 + bs.length
      · rw [if_pos (by omega), if_pos (by omega), hpos, List.getD_cons_succ]
      · rw [if_neg (by omega), if_neg (by omega), if_neg (by omega)]

/-- Bytes stored in device memory change memory alone. -/
theorem State.storeBytes_frame (bs : List Byte) :
    ∀ (s : State) (a : Nat), s.storeBytes a bs = { s with mem := (s.storeBytes a bs).mem } := by
  induction bs with
  | nil => exact fun _ _ => rfl
  | cons b bs ih =>
    intro s a
    rw [State.storeBytes]
    split
    · exact ih (s.setByte a b) (a + 1)
    · exact ih s (a + 1)

/-- Bytes stored in a mapped range are there. -/
theorem State.byte_storeBytes (bs : List Byte) :
    ∀ (s : State) (a i : Nat), (∀ j < bs.length, s.mapped (a + j) = true) → i < bs.length →
      (s.storeBytes a bs).byte (a + i) = bs.getD i 0 := by
  induction bs with
  | nil => exact fun _ _ i _ h => absurd h (by simp)
  | cons b bs ih =>
    intro s a i hmap hi
    simp only [List.length_cons] at hmap hi
    have hhead : s.mapped a = true := hmap 0 (by omega)
    rw [State.storeBytes, if_pos hhead]
    cases i with
    | zero =>
      rw [State.storeBytes_byte bs _ _ _ (by omega), State.byte_setByte, if_pos (by omega)]
      rfl
    | succ i =>
      have hrest : ∀ j < bs.length, (s.setByte a b).mapped (a + 1 + j) = true := fun j hj => by
        rw [Nat.add_right_comm]
        exact hmap (j + 1) (by omega)
      rw [← Nat.add_assoc, Nat.add_right_comm]
      exact ih (s.setByte a b) (a + 1) i hrest (by omega)

/-- A range is mapped when each of its bytes is. -/
theorem State.rangeMapped_iff (a n : Nat) : s.rangeMapped a n = true ↔ ∀ i < n, s.mapped (a + i) = true := by
  simp [State.rangeMapped]

/-- A DMA access of a mapped range is not logged. -/
theorem State.logDma_of_mapped {a n : Nat} (h : s.rangeMapped a n = true) : s.logDma a n = s := by
  have hnone : s.hole a n = none := by
    unfold State.hole
    rw [Option.map_eq_none_iff, List.find?_eq_none]
    intro i hi
    simp [s.rangeMapped_iff a n |>.mp h i (List.mem_range.mp hi)]
  rw [State.logDma, hnone]

/-- A DMA write of a mapped range changes memory and its poison alone. -/
theorem State.dmaWrite_frame {a : Nat} {bs : List Byte} (h : s.rangeMapped a bs.length = true) :
    s.dmaWrite a bs = { s with mem := (s.storeBytes a bs).mem, poison := (s.dmaWrite a bs).poison } := by
  have hstore := s.storeBytes_frame bs a
  unfold State.dmaWrite
  rw [s.logDma_of_mapped h]
  dsimp only
  rw [hstore]

/-- A DMA read of a mapped range finds its bytes. -/
theorem State.getD_dmaBytes {a n i : Nat} (h : s.rangeMapped a n = true) (hi : i < n) :
    (s.dmaBytes a n).getD i 0 = s.byte (a + i) := by
  simp [State.dmaBytes, List.getD_eq_getElem?_getD, hi, s.rangeMapped_iff a n |>.mp h i hi]

/-! ### NVMC -/

/-- Each row of NVMC gives the code of its operation (R141). -/
theorem exec_nvmStart {i : Instr} {c : Nat}
    (h : (i, c) ∈ [(Instr.nvmRead, 1), (.nvmProgram, 2), (.nvmErase4k, 3), (.nvmErase64k, 4)]) :
    exec i s = .next (s.nvmStart c) := by
  simp only [List.mem_cons, Prod.mk.injEq, List.not_mem_nil, or_false] at h
  rcases h with ⟨rfl, rfl⟩ | ⟨rfl, rfl⟩ | ⟨rfl, rfl⟩ | ⟨rfl, rfl⟩ <;> rfl

/-- A flash operation in range, given while no other runs, is held and selects the flash. -/
theorem State.nvmStart_accepted {c : Nat} (hrun : s.dark = false) (hbusy : s.flag F.NVMC_STATUS_BUSY = false)
    (hread : c = 1 → s.fld F.NVMC_LEN_COUNT ≤ 0x1000000) (hprog : c = 2 → s.fld F.NVMC_LEN_COUNT ≤ 256) :
    s.nvmStart c = ({ s with
      nvmc := some { code := c, addr := s.fld F.NVMC_ADDR_NVM_ADDR, mem := 16 * (s.rd A.NVMC_MEM).toNat
                     len := s.fld F.NVMC_LEN_COUNT
                     result := s.nvmResult c (s.fld F.NVMC_ADDR_NVM_ADDR) (16 * (s.rd A.NVMC_MEM).toNat)
                       (s.fld F.NVMC_LEN_COUNT)
                     start := s.time.tick }
      pins := { s.pins with nvmCsN := false } } : State).setFld F.NVMC_STATUS_BUSY 1 := by
  have hlegal : ¬ (s.flag F.NVMC_STATUS_BUSY = true ∨ (c = 1 ∧ 0x1000000 < s.fld F.NVMC_LEN_COUNT) ∨
      (c = 2 ∧ 256 < s.fld F.NVMC_LEN_COUNT)) := by
    rw [hbusy]
    rintro (h | ⟨h1, h2⟩ | ⟨h1, h2⟩)
    · exact absurd h (by decide)
    · exact absurd (hread h1) (by omega)
    · exact absurd (hprog h1) (by omega)
  unfold State.nvmStart
  dsimp only
  rw [if_neg (by simp [hrun]), if_neg hlegal]

/-- A flash operation while another runs, or out of range, is refused. -/
theorem State.nvmStart_refused {c : Nat} (hrun : s.dark = false)
    (h : s.flag F.NVMC_STATUS_BUSY = true ∨ (c = 1 ∧ 0x1000000 < s.fld F.NVMC_LEN_COUNT) ∨
      (c = 2 ∧ 256 < s.fld F.NVMC_LEN_COUNT)) : s.nvmStart c = s.refuse A.NVMC_OP .cfgRange := by
  unfold State.nvmStart
  dsimp only
  rw [if_neg (by simp [hrun]), if_pos h]

/-- The end of an operation without a reset that waits: nothing of flash or memory changes. -/
theorem State.nvmEnd_kept (result : Nat) (h : s.boot.resetAsked = false) :
    (s.nvmEnd result).nvmc = none ∧ (s.nvmEnd result).nvm = s.nvm ∧ (s.nvmEnd result).mem = s.mem := by
  unfold State.nvmEnd
  dsimp only
  rw [if_neg (by simp [h])]
  generalize hu : State.setFld _ F.NVMC_STATUS_BUSY 0 = u
  have hraise := dispatchFrame_raiseUnit u .nvmc 0
  unfold dispatchFrame at hraise
  rw [hraise, ← hu]
  exact ⟨rfl, rfl, rfl⟩

/-- NVM_OP_DONE: the effect of an operation that ends DONE, then its end. -/
theorem exec_nvmOpDone {s : State} {o : NvmOp} (ho : s.nvmc = some o) (hrun : s.dark = false) :
    exec .nvmOpDone s = .next ((if o.result = nvmDone then s.nvmEffect o else s).nvmEnd o.result) := by
  show execNvmOpDone s = _
  unfold execNvmOpDone
  rw [ho]
  exact if_neg (by simp [hrun])

/-- NVM_TIMEOUT of a program or an erase whose time is over leaves the bytes it covers open. -/
theorem exec_nvmTimeout {s : State} {o : NvmOp} (ho : s.nvmc = some o) (hrun : s.dark = false) (hcode : o.code ≠ 1)
    (hres : o.result = nvmDone) (hlen : o.len ≠ 0) (htime : o.start.toNat + nvmLimitMs o.code * 500000 ≤ s.now) :
    exec .nvmTimeout s = .next (((s.freeBytes (nvmSpan o.code o.len)).2.flashStore o.addr
      (s.freeBytes (nvmSpan o.code o.len)).1).nvmEnd nvmTimedOut) := by
  have hover : ¬ s.now < o.start.toNat + nvmLimitMs o.code * Config.ticksPerMs := Nat.not_lt.mpr htime
  show execNvmTimeout s = _
  unfold execNvmTimeout
  rw [ho]
  exact if_neg (by simp [hcode, hres, hlen, hrun, hover])

/-- An erase clears its sectors and leaves the rest of flash. -/
theorem State.flashByte_erase {a n : Nat} (h : a + n ≤ 0x10000000) (c : Nat) :
    (s.flashStore a (List.replicate n 0xFF)).flashByte c = if a ≤ c ∧ c < a + n then 0xFF else s.flashByte c := by
  rw [State.flashByte_flashStore _ s a c (by simpa using h), List.length_replicate]
  split
  · next hc => simp [List.getD_eq_getElem?_getD, show c - a < n by omega]
  · rfl

/-! ### Messages -/

/-- A message whose LENGTH matches its items is acted on once firmware runs. -/
theorem State.message_acts {n : Word} {l : List Word} (ty : Nat) (q : Word) (f : State) (hfw : s.boot.phase = .firmware)
    (hrun : s.dark = false) (hl : l.length = (n.toNat + 3) / 4) : s.message ty q n l f = f := by
  simp [State.message, hfw, hrun, hl]

/-- A message whose LENGTH does not match is answered BAD_LENGTH (R129). -/
theorem State.message_badLength {n : Word} {l : List Word} (ty : Nat) (q : Word) (f : State)
    (hfw : s.boot.phase = .firmware) (hrun : s.dark = false) (hl : l.length ≠ (n.toNat + 3) / 4) :
    s.message ty q n l f = s.reply { type := ty, seq := q.toNat, status := .badLength } := by
  simp [State.message, hfw, hrun, hl]

/-- Each message of the image update answers BAD_LENGTH under its own type. -/
theorem exec_imageMessage_badLength {i : Instr} {ty : Nat} {q n : Word} {l : List Word} (hfw : s.boot.phase = .firmware)
    (hrun : s.dark = false) (hl : l.length ≠ (n.toNat + 3) / 4)
    (h : (i, ty) ∈ [(Instr.imageOpen q n l, 0x10), (.imageWrite q n l, 0x11), (.imageCommit q n l, 0x12),
      (.resetMsg q n l, 0x13)]) :
    exec i s = .next (s.reply { type := ty, seq := q.toNat, status := .badLength }) := by
  simp only [List.mem_cons, Prod.mk.injEq, List.not_mem_nil, or_false] at h
  rcases h with ⟨rfl, rfl⟩ | ⟨rfl, rfl⟩ | ⟨rfl, rfl⟩ | ⟨rfl, rfl⟩ <;>
    exact congrArg Host.Outcome.next (s.message_badLength _ q _ hfw hrun hl)

/-- IMAGE_WRITE of data within the open slot, where nothing it touches is protected, stores the data (R129, R130). -/
theorem exec_imageWrite {s : State} {q n w : Word} {l : List Word} {k : Nat} {d : List Byte}
    (hfw : s.boot.phase = .firmware) (hrun : s.dark = false) (hl : (w :: l).length = (n.toNat + 3) / 4)
    (hn : 4 ≤ n.toNat) (hopen : s.boot.openSlot = some k) (hd : d = (ofItems l).take (n.toNat - 4))
    (hfit : w.toNat + d.length ≤ 0x1000000) (hfree : s.nvmLocked (slotBase k + w.toNat) d.length = false) :
    exec (.imageWrite q n (w :: l)) s = .next ((s.flashStore (slotBase k + w.toNat) d).reply
      { type := 0x0011, seq := q.toNat, status := .ok }) := by
  refine (congrArg Host.Outcome.next (s.message_acts 0x0011 q _ hfw hrun hl)).trans ?_
  simp only [hopen, List.headD_cons, List.tail_cons, ← hd]
  rw [if_neg (by omega), if_neg (by simp [hfree])]

section commit

variable {s : State} {q n : Word} {l : List Word} {k : Nat}

/-- Where no slot is spoiled, a commit has nothing to take off the list. -/
theorem State.unspoil_eq (h : s.boot.spoiled = []) :
    ({ s with boot := { s.boot with spoiled := s.boot.spoiled.filter (· ≠ k) } } : State) = s := by
  have hfilter : s.boot.spoiled.filter (· ≠ k) = s.boot.spoiled := by rw [h]; rfl
  rw [hfilter]

/-- IMAGE_COMMIT of a slot that passes every check clears its SLOT_FAIL bit (R129, R130). -/
theorem exec_imageCommit_of_good (hfw : s.boot.phase = .firmware) (hrun : s.dark = false)
    (hl : l.length = (n.toNat + 3) / 4) (hopen : s.boot.openSlot = some k) (hspoiled : s.boot.spoiled = [])
    (hgood : s.commitFault k = none) :
    exec (.imageCommit q n l) s = .next ((s.setFld F.SYSCTL_BOOT_STATUS_SLOT_FAIL
      (s.fld F.SYSCTL_BOOT_STATUS_SLOT_FAIL &&& (3 - 2 ^ k))).reply
        { type := 0x0012, seq := q.toNat, status := .ok }) := by
  refine (congrArg Host.Outcome.next (s.message_acts 0x0012 q _ hfw hrun hl)).trans ?_
  rw [hopen]
  dsimp only
  rw [State.unspoil_eq hspoiled, hgood]

/-- IMAGE_COMMIT of a slot with a fault is answered with it, and nothing else happens. -/
theorem exec_imageCommit_of_fault {c : Nat} (hfw : s.boot.phase = .firmware) (hrun : s.dark = false)
    (hl : l.length = (n.toNat + 3) / 4) (hopen : s.boot.openSlot = some k) (hspoiled : s.boot.spoiled = [])
    (hfault : s.commitFault k = some c) :
    exec (.imageCommit q n l) s = .next (s.reply { type := 0x0012, seq := q.toNat, status := .imageBad c }) := by
  refine (congrArg Host.Outcome.next (s.message_acts 0x0012 q _ hfw hrun hl)).trans ?_
  rw [hopen]
  dsimp only
  rw [State.unspoil_eq hspoiled, hfault]

end commit

/-- RESET while NVMC is idle is a warm reset of SOFTWARE after the reply (R129, R130). -/
theorem exec_resetMsg {s : State} {q n : Word} {l : List Word} (hfw : s.boot.phase = .firmware)
    (hrun : s.dark = false) (hl : l.length = (n.toNat + 3) / 4) (hidle : s.nvmc = none) :
    exec (.resetMsg q n l) s =
      .next ((s.reply { type := 0x0013, seq := q.toNat, status := .ok }).warmReset causeSoftware) := by
  refine (congrArg Host.Outcome.next (s.message_acts 0x0013 q _ hfw hrun hl)).trans ?_
  rw [hidle]

/-! ### What each command leaves -/

/-- NVM_OP_DONE of a READ copies the flash bytes to memory, and no other byte changes. -/
theorem exec_nvmOpDone_read {s : State} {o : NvmOp} (ho : s.nvmc = some o) (hrun : s.dark = false)
    (hres : o.result = nvmDone) (hcode : o.code = 1) (hfit : o.addr + o.len ≤ 0x10000000)
    (hmap : s.rangeMapped o.mem o.len = true)
    (hreset : s.boot.resetAsked = false) :
    ∃ t, exec .nvmOpDone s = .next t ∧ t.nvmc = none ∧ t.nvm = s.nvm ∧
      (∀ i < o.len, t.byte (o.mem + i) = s.flashByte (o.addr + i)) ∧
      (∀ a, a < o.mem ∨ o.mem + o.len ≤ a → t.byte a = s.byte a) := by
  generalize hbs : (List.range o.len).map (fun i => s.flashByte ((o.addr + i) % 0x10000000)) = bs
  have hlen : bs.length = o.len := by simp [← hbs]
  have hget : ∀ i < o.len, bs.getD i 0 = s.flashByte (o.addr + i) := by
    intro i hi
    have hmod : (o.addr + i) % 0x10000000 = o.addr + i := Nat.mod_eq_of_lt (by omega)
    simp [← hbs, List.getD_eq_getElem?_getD, hi, hmod]
  have heffect : (if o.result = nvmDone then s.nvmEffect o else s) = s.dmaWrite o.mem bs := by
    rw [if_pos hres, State.nvmEffect, if_pos hcode, hbs]
  have hframe := s.dmaWrite_frame (a := o.mem) (bs := bs) (hlen ▸ hmap)
  have hasked : (s.dmaWrite o.mem bs).boot.resetAsked = false := by rw [hframe]; exact hreset
  obtain ⟨hnvmc, hnvm, hmem⟩ := State.nvmEnd_kept _ o.result hasked
  have hbyte : ∀ a, ((s.dmaWrite o.mem bs).nvmEnd o.result).byte a = (s.storeBytes o.mem bs).byte a := by
    intro a
    rw [State.byte, hmem, hframe]
    rfl
  refine ⟨_, (exec_nvmOpDone ho hrun).trans (by rw [heffect]), hnvmc, hnvm.trans (by rw [hframe]), ?_, ?_⟩
  · intro i hi
    rw [hbyte, State.byte_storeBytes bs s o.mem i (hlen ▸ (s.rangeMapped_iff _ _).mp hmap) (hlen ▸ hi), hget i hi]
  · intro a ha
    rw [hbyte, State.storeBytes_byte bs s o.mem a (hlen ▸ ha)]

/-- NVM_OP_DONE of an operation that writes flash stores its bytes there, and no other byte of flash or memory changes. -/
theorem exec_nvmOpDone_store {s : State} {o : NvmOp} {bs : List Byte} (ho : s.nvmc = some o) (hrun : s.dark = false)
    (heffect : (if o.result = nvmDone then s.nvmEffect o else s) = s.flashStore o.addr bs)
    (hreset : s.boot.resetAsked = false) :
    ∃ t, exec .nvmOpDone s = .next t ∧ t.nvmc = none ∧ t.mem = s.mem ∧
      ∀ a, t.flashByte a = (s.flashStore o.addr bs).flashByte a := by
  have hframe := State.flashStore_frame bs s o.addr
  have hasked : (s.flashStore o.addr bs).boot.resetAsked = false := by rw [hframe]; exact hreset
  obtain ⟨hnvmc, hnvm, hmem⟩ := State.nvmEnd_kept _ o.result hasked
  refine ⟨_, (exec_nvmOpDone ho hrun).trans (by rw [heffect]), hnvmc, hmem.trans (by rw [hframe]), fun a => ?_⟩
  rw [State.flashByte, hnvm]
  rfl

/-- NVM_OP_DONE of a PROGRAM stores the memory bytes in flash, and no other byte changes. -/
theorem exec_nvmOpDone_program {s : State} {o : NvmOp} (ho : s.nvmc = some o) (hrun : s.dark = false)
    (hres : o.result = nvmDone) (hcode : o.code = 2) (hfit : o.addr + o.len ≤ 0x10000000)
    (hmap : s.rangeMapped o.mem o.len = true) (hreset : s.boot.resetAsked = false) :
    ∃ t, exec .nvmOpDone s = .next t ∧ t.nvmc = none ∧ t.mem = s.mem ∧
      (∀ i < o.len, t.flashByte (o.addr + i) = s.byte (o.mem + i)) ∧
      (∀ a, a < o.addr ∨ o.addr + o.len ≤ a → t.flashByte a = s.flashByte a) := by
  have hlen : (s.dmaBytes o.mem o.len).length = o.len := by simp [State.dmaBytes]
  have hstore := State.flashByte_flashStore (s.dmaBytes o.mem o.len) s o.addr
  rw [hlen] at hstore
  obtain ⟨t, hexec, hnvmc, hmem, hflash⟩ := exec_nvmOpDone_store (bs := s.dmaBytes o.mem o.len) ho hrun
    (by rw [if_pos hres, State.nvmEffect, if_neg (by omega), if_pos hcode]) hreset
  refine ⟨t, hexec, hnvmc, hmem, fun i hi => ?_, fun a ha => ?_⟩
  · rw [hflash, hstore _ hfit, if_pos (by omega), Nat.add_sub_cancel_left, s.getD_dmaBytes hmap hi]
  · rw [hflash, hstore _ hfit, if_neg (by omega)]

/-- NVM_OP_DONE of an erase leaves 0xFF in its sectors, and no other byte changes. -/
theorem exec_nvmOpDone_erase {s : State} {o : NvmOp} {n : Nat} (ho : s.nvmc = some o) (hrun : s.dark = false)
    (hres : o.result = nvmDone) (hcode : o.code = 3 ∧ n = o.len * 4096 ∨ o.code = 4 ∧ n = o.len * 65536)
    (hfit : o.addr + n ≤ 0x10000000) (hreset : s.boot.resetAsked = false) :
    ∃ t, exec .nvmOpDone s = .next t ∧ t.nvmc = none ∧ t.mem = s.mem ∧
      ∀ a, t.flashByte a = if o.addr ≤ a ∧ a < o.addr + n then 0xFF else s.flashByte a := by
  have hspan : nvmSpan o.code o.len = n := by
    rcases hcode with ⟨hc, rfl⟩ | ⟨hc, rfl⟩ <;> simp [nvmSpan, hc]
  obtain ⟨t, hexec, hnvmc, hmem, hflash⟩ := exec_nvmOpDone_store (bs := List.replicate n 0xFF) ho hrun
    (by rw [if_pos hres, State.nvmEffect, if_neg (by omega), if_neg (by omega), hspan]) hreset
  exact ⟨t, hexec, hnvmc, hmem, fun a => by rw [hflash, s.flashByte_erase hfit]⟩

/-- NVM_TIMEOUT ends the operation and leaves memory and the flash outside its range. -/
theorem exec_nvmTimeout_leaves {s : State} {o : NvmOp} (ho : s.nvmc = some o) (hrun : s.dark = false)
    (hres : o.result = nvmDone) (hlen : o.len ≠ 0) (htime : o.start.toNat + nvmLimitMs o.code * 500000 ≤ s.now)
    (hcode : o.code ≠ 1) (hfit : o.addr + nvmSpan o.code o.len ≤ 0x10000000) (hreset : s.boot.resetAsked = false) :
    ∃ t, exec .nvmTimeout s = .next t ∧ t.nvmc = none ∧ t.mem = s.mem ∧
      (∀ a, a < o.addr ∨ o.addr + nvmSpan o.code o.len ≤ a → t.flashByte a = s.flashByte a) := by
  have hexec := exec_nvmTimeout ho hrun hcode hres hlen htime
  generalize hbs : (s.freeBytes (nvmSpan o.code o.len)).1 = bs at hexec
  have hspan : bs.length = nvmSpan o.code o.len := by simp [← hbs, State.freeBytes]
  have hframe := State.flashStore_frame bs (s.freeBytes (nvmSpan o.code o.len)).2 o.addr
  have hstore := State.flashByte_flashStore bs (s.freeBytes (nvmSpan o.code o.len)).2 o.addr
  generalize (s.freeBytes (nvmSpan o.code o.len)).2.flashStore o.addr bs = u at hexec hframe hstore
  obtain ⟨hnvmc, hnvm, hmem⟩ := u.nvmEnd_kept nvmTimedOut (by rw [hframe]; exact hreset)
  refine ⟨_, hexec, hnvmc, hmem.trans (by rw [hframe]; rfl), fun a ha => ?_⟩
  have hflash : (u.nvmEnd nvmTimedOut).flashByte a = u.flashByte a := by rw [State.flashByte, hnvm]; rfl
  rw [hflash, hstore a (by omega), if_neg (by omega)]
  rfl

/-- Each operation of NVMC that is accepted is held, and selects the flash. -/
theorem exec_nvmStart_accepted {s : State} {i : Instr} {c : Nat}
    (hi : (i, c) ∈ [(Instr.nvmRead, 1), (.nvmProgram, 2), (.nvmErase4k, 3), (.nvmErase64k, 4)]) (hrun : s.dark = false)
    (hbusy : s.flag F.NVMC_STATUS_BUSY = false) (hread : c = 1 → s.fld F.NVMC_LEN_COUNT ≤ 0x1000000)
    (hprog : c = 2 → s.fld F.NVMC_LEN_COUNT ≤ 256) :
    ∃ t o, exec i s = .next t ∧ t.nvmc = some o ∧ o.code = c ∧ o.addr = s.fld F.NVMC_ADDR_NVM_ADDR ∧
      o.mem = 16 * (s.rd A.NVMC_MEM).toNat ∧ o.len = s.fld F.NVMC_LEN_COUNT ∧ o.start = s.time.tick ∧
      t.flag F.NVMC_STATUS_BUSY = true ∧ t.pins.nvmCsN = false ∧ onlyFields s t [F.NVMC_STATUS_BUSY] ∧
      t = { s with regs := t.regs, nvmc := t.nvmc, pins := t.pins } := by
  have hexec := exec_nvmStart s hi
  rw [s.nvmStart_accepted hrun hbusy hread hprog] at hexec
  refine ⟨_, _, hexec, rfl, rfl, rfl, rfl, rfl, rfl, ?_, rfl,
    onlyFields_setFld _ _ (by simp) (onlyFields_of_regs rfl (onlyFields_refl s _)), rfl⟩
  unfold State.flag
  rw [State.fld_setFld_same _ _ _ (by decide)]
  decide

/-- Each operation of NVMC that is refused is recorded in CFG_STATUS alone. -/
theorem exec_nvmStart_refused {s : State} {i : Instr}
    (hi : i ∈ [Instr.nvmRead, .nvmProgram, .nvmErase4k, .nvmErase64k]) (hrun : s.dark = false)
    (h : s.flag F.NVMC_STATUS_BUSY = true ∨ (i = .nvmRead ∧ 0x1000000 < s.fld F.NVMC_LEN_COUNT) ∨
      (i = .nvmProgram ∧ 256 < s.fld F.NVMC_LEN_COUNT)) :
    ∃ t, exec i s = .next t ∧ onlyFields s t [whole (cfgStatusOf A.NVMC_OP)] ∧ t = { s with regs := t.regs } := by
  obtain ⟨c, hc, hread, hprog⟩ : ∃ c, (i, c) ∈ [(Instr.nvmRead, 1), (.nvmProgram, 2), (.nvmErase4k, 3),
      (.nvmErase64k, 4)] ∧ (i = .nvmRead → c = 1) ∧ (i = .nvmProgram → c = 2) := by
    simp only [List.mem_cons, List.not_mem_nil, or_false] at hi
    rcases hi with rfl | rfl | rfl | rfl
    · exact ⟨1, by simp⟩
    · exact ⟨2, by simp⟩
    · exact ⟨3, by simp⟩
    · exact ⟨4, by simp⟩
  have hexec := exec_nvmStart s hc
  rw [s.nvmStart_refused hrun (by tauto)] at hexec
  exact ⟨_, hexec, onlyFields_refuse _ _ (by simp) (onlyFields_refl s _),
    regsFrame_refuse s _ _⟩

/-- IMAGE_WRITE of data that may be written changes flash in its range alone, and answers. -/
theorem exec_imageWrite_stores {s : State} {q n w : Word} {l : List Word} {k : Nat} {d : List Byte}
    (hfw : s.boot.phase = .firmware) (hrun : s.dark = false) (hl : (w :: l).length = (n.toNat + 3) / 4)
    (hn : 4 ≤ n.toNat) (hopen : s.boot.openSlot = some k) (hk : k < 2) (hd : d = (ofItems l).take (n.toNat - 4))
    (hfit : w.toNat + d.length ≤ 0x1000000) (hfree : s.nvmLocked (slotBase k + w.toNat) d.length = false) :
    ∃ t, exec (.imageWrite q n (w :: l)) s = .next t ∧
      (∀ i < d.length, t.flashByte (0x1000000 * k + w.toNat + i) = d.getD i 0) ∧
      (∀ a, a < 0x1000000 * k + w.toNat ∨ 0x1000000 * k + w.toNat + d.length ≤ a →
        t.flashByte a = s.flashByte a) ∧
      t.regs = s.regs ∧ t.mem = s.mem := by
  have hexec := exec_imageWrite (q := q) hfw hrun hl hn hopen hd hfit hfree
  have hbase : slotBase k = 0x1000000 * k := Nat.mul_comm _ _
  rw [hbase] at hexec
  have hstore := fun c => State.flashByte_flashStore d s (0x1000000 * k + w.toNat) c (by omega)
  have hframe := State.flashStore_frame d s (0x1000000 * k + w.toNat)
  generalize s.flashStore (0x1000000 * k + w.toNat) d = u at hexec hstore hframe
  refine ⟨_, hexec, fun i hi => ?_, fun a ha => ?_, ?_, ?_⟩
  · exact (hstore _).trans (by rw [if_pos (by omega), Nat.add_sub_cancel_left])
  · exact (hstore _).trans (by rw [if_neg (by omega)])
  · show u.regs = s.regs
    rw [hframe]
  · show u.mem = s.mem
    rw [hframe]

/-- IMAGE_COMMIT touches SLOT_FAIL alone among registers, and clears the slot's bit only where every check passes. -/
theorem exec_imageCommit_leaves {s : State} {q n : Word} {l : List Word} {k : Nat} (hfw : s.boot.phase = .firmware)
    (hrun : s.dark = false) (hl : l.length = (n.toNat + 3) / 4) (hopen : s.boot.openSlot = some k) (hk : k < 2)
    (hspoiled : s.boot.spoiled = []) :
    ∃ t, exec (.imageCommit q n l) s = .next t ∧
      (s.commitFault k = none → (t.fld F.SYSCTL_BOOT_STATUS_SLOT_FAIL).testBit k = false) ∧
      (s.commitFault k ≠ none → t.regs = s.regs) ∧ t.nvm = s.nvm ∧
      onlyFields s t [F.SYSCTL_BOOT_STATUS_SLOT_FAIL] := by
  cases hfault : s.commitFault k with
  | none =>
    refine ⟨_, exec_imageCommit_of_good hfw hrun hl hopen hspoiled hfault, fun _ => ?_, fun h => absurd rfl h, rfl,
      onlyFields_of_regs rfl (onlyFields_setFld _ _ (by simp) (onlyFields_refl s _))⟩
    have hbit : (3 - 2 ^ k).testBit k = false := by interval_cases k <;> rfl
    refine (congrArg (Nat.testBit · k) (State.fld_setFld_same s F.SYSCTL_BOOT_STATUS_SLOT_FAIL _ (by decide))).trans ?_
    simp [Nat.testBit_mod_two_pow, hbit]
  | some c =>
    exact ⟨_, exec_imageCommit_of_fault hfw hrun hl hopen hspoiled hfault, fun h => absurd h (by simp), fun _ => rfl,
      rfl, onlyFields_of_regs rfl (onlyFields_refl s _)⟩

/-- RESET while NVMC is idle leaves what a warm reset of SOFTWARE leaves. -/
theorem exec_resetMsg_leaves {s : State} {q n : Word} {l : List Word} (hfw : s.boot.phase = .firmware)
    (hrun : s.dark = false) (hl : l.length = (n.toNat + 3) / 4) (hidle : s.nvmc = none) :
    ∃ t, exec (.resetMsg q n l) s = .next t ∧ warmLeaves s t 0x07 :=
  ⟨_, exec_resetMsg hfw hrun hl hidle,
    warmLeaves_warmReset (s.reply { type := 0x0013, seq := q.toNat, status := .ok })
      (show s.boot.phase ≠ .waiting by rw [hfw]; decide) (by decide) (by decide)⟩

/-- Settles O17: each clause is the rule of its command. -/
theorem flashOperationsAndImageMessages : Obligations.FlashOperationsAndImageMessages := by
  refine ⟨?_, ?_, ?_, ?_, ?_, ?_, ?_, ?_, ?_, ?_, ?_, ?_⟩
  · exact fun s i c hi hrun hbusy hread hprog => exec_nvmStart_accepted hi hrun hbusy hread hprog
  · exact fun s i hi hrun h => exec_nvmStart_refused hi hrun h
  · exact fun s o ho hrun hres hcode hfit hmap hreset => exec_nvmOpDone_read ho hrun hres hcode hfit hmap hreset
  · exact fun s o ho hrun hres hcode hfit hmap hreset => exec_nvmOpDone_program ho hrun hres hcode hfit hmap hreset
  · exact fun s o n ho hrun hres hcode hfit hreset => exec_nvmOpDone_erase ho hrun hres hcode hfit hreset
  · exact fun s o ho hrun hres hreset =>
      ⟨_, (exec_nvmOpDone ho hrun).trans (by rw [if_neg (show ¬ o.result = nvmDone from hres)]),
        s.nvmEnd_kept o.result hreset⟩
  · exact fun s o ho hrun hres hlen htime hcode hfit hreset =>
      exec_nvmTimeout_leaves ho hrun hres hlen htime hcode hfit hreset
  · exact fun s q n l hfw hrun hl =>
      ⟨_, congrArg Host.Outcome.next (s.message_acts 0x0010 q _ hfw hrun hl), rfl, rfl, rfl⟩
  · exact fun s i ty q n l hfw hrun hl hi => ⟨_, exec_imageMessage_badLength s hfw hrun hl hi, rfl, rfl⟩
  · exact fun s q n w l k d hfw hrun hl hn hopen hk hd hfit hfree =>
      exec_imageWrite_stores hfw hrun hl hn hopen hk hd hfit hfree
  · exact fun s q n l k hfw hrun hl hopen hk hspoiled => exec_imageCommit_leaves hfw hrun hl hopen hk hspoiled
  · exact fun s q n l hfw hrun hl hidle => exec_resetMsg_leaves hfw hrun hl hidle

end Sys2Proof.Machine
end

section
/-! One tick of the clocks (R57, R258, R259): the domains advance, the bookkeeping of idle branches and PPS_OUT
follows. -/

namespace Sys2Proof.Machine

/-! ### A domain -/

/-- A time below the wrap of SEC is held as it is. -/
theorem TimeDomain.total_atTotal (x : TimeDomain) {v : Nat} (h : v < timeWrap) : (x.atTotal v).total = v := by
  have hsec : v / 2 ^ 32 / nsPerSec % 2 ^ 48 = v / 2 ^ 32 / nsPerSec := by
    refine Nat.mod_eq_of_lt ?_
    rw [Nat.div_div_eq_div_mul, Nat.div_lt_iff_lt_mul (by decide)]
    calc v < timeWrap := h
      _ = 2 ^ 48 * (2 ^ 32 * nsPerSec) := by decide
  unfold TimeDomain.total TimeDomain.atTotal
  simp only [BitVec.toNat_ofNat, hsec]
  rw [Nat.div_add_mod', Nat.div_add_mod']

/-- NS stays below a second. -/
theorem TimeDomain.ns_atTotal_lt (x : TimeDomain) (v : Nat) : (x.atTotal v).ns < nsPerSec := Nat.mod_lt _ (by decide)

/-- The span after which SEC wraps is not empty. -/
theorem timeWrap_pos : 0 < timeWrap := by decide

/-- The steps that wait are no part of the time. -/
@[simp] theorem TimeDomain.total_of_steps (x : TimeDomain) (l : List TimeStep) :
    ({ x with steps := l } : TimeDomain).total = x.total := by
  unfold TimeDomain.total
  rfl

/-- A tick with no step waiting adds the increment (R259). -/
theorem TimeDomain.tick_of_no_steps {x : TimeDomain} (h : x.steps = []) :
    x.tick = { x.atTotal ((x.total + x.inc.toNat) % timeWrap) with steps := [] } := by
  simp only [TimeDomain.tick, h, List.foldl_nil]

/-- The time after a tick with no step waiting, and its nanoseconds. -/
theorem TimeDomain.tick_total {x : TimeDomain} (h : x.steps = []) :
    x.tick.total = (x.total + x.inc.toNat) % timeWrap ∧ x.tick.ns < nsPerSec := by
  rw [TimeDomain.tick_of_no_steps h, TimeDomain.total_of_steps]
  exact ⟨x.total_atTotal (Nat.mod_lt _ timeWrap_pos), x.ns_atTotal_lt _⟩

/-! ### The device -/

variable (s : State)

/-- A tick of TIME advances the local count and both domains, whatever triggers a step in it makes due. -/
theorem State.stepTick_time : s.stepTick.time.tick = s.time.tick + 1 ∧ s.stepTick.time.domA = s.time.domA.tick ∧
    s.stepTick.time.domB = s.time.domB.tick := by
  unfold State.stepTick
  dsimp only
  split <;> exact ⟨rfl, rfl, rfl⟩

/-- A tick of TIME with no step waiting changes the time alone. -/
theorem State.stepTick_of_no_steps {s : State} (hA : s.time.domA.steps = []) (hB : s.time.domB.steps = []) :
    s.stepTick = { s with time := s.stepTick.time } := by
  unfold State.stepTick
  dsimp only
  rw [if_pos ⟨hA, hB⟩]
  rfl

/-- Noting work of the branches changes their idle times alone. -/
theorem State.noteWork_frame : s.noteWork = { s with power := s.noteWork.power } := by
  unfold State.noteWork
  generalize List.range 12 = l
  induction l generalizing s with
  | nil => rfl
  | cons br l ih =>
    rw [List.foldl_cons, ih]
    split <;> rfl

/-- The fall of PPS_OUT changes the pins alone. -/
theorem State.ppsFall_frame : s.ppsFall = { s with pins := s.ppsFall.pins } := by
  unfold State.ppsFall
  split <;> rfl

/-- While TIME runs, a tick of the clocks is one of TIME, and beside it changes idle times, pins and the note of RWL
writes. -/
theorem State.clockTick_of_fed {s : State} (hmode : s.power.mode ≠ .off) (hrun : s.dark = false)
    (hfed : s.fed 15 = true) :
    s.clockTick = { s.stepTick with rwl := [], power := s.clockTick.power, pins := s.clockTick.pins } := by
  have htick : s.clockTick = ({ s.stepTick with rwl := [] } : State).noteWork.ppsFall := by
    simp [State.clockTick, hmode, hrun, hfed]
  rw [htick, State.ppsFall_frame, State.noteWork_frame]

/-- While TIME stands still, a tick is one of the always-on domain (R57). -/
theorem State.clockTick_of_unfed {s : State} (hmode : s.power.mode ≠ .off) (h : s.dark = true ∨ s.fed 15 = false) :
    s.clockTick = { s with power := { s.power with ao := s.power.ao + 1 } } := by
  unfold State.clockTick
  rw [if_neg hmode, if_pos (by simpa using h)]

/-- Settles O2: a tick while TIME runs is read off the tick of each domain; the other two cases are its equations. -/
theorem tickAdvancesLocalAndDomains : Obligations.TickAdvancesLocalAndDomains := by
  refine ⟨?_, fun s hmode h => State.clockTick_of_unfed hmode h, fun s h => if_pos h⟩
  intro s hmode hrun hfed
  have htick := State.clockTick_of_fed hmode hrun hfed
  have htime : s.clockTick.time = s.stepTick.time := by rw [htick]
  obtain ⟨hlocal, hA, hB⟩ := s.stepTick_time
  rw [htime, hlocal, hA, hB]
  refine ⟨rfl, TimeDomain.tick_total, TimeDomain.tick_total, fun hnoA hnoB => ?_⟩
  rw [State.stepTick_of_no_steps hnoA hnoB] at htick
  exact htick

end Sys2Proof.Machine
end

section
/-! Cold resets (R38 to R42, R53, R64, R71, R98 to R100): one rule for what each leaves, from the state that each
starts in. -/

namespace Sys2Proof.Machine

variable (s : State)

/-! ### The state that a cold reset starts in -/

/-- Registers aside, `b` holds what survives every reset of `s`; of the registers the straps alone are set. -/
def coldStart (s b : State) : Prop :=
  regsFrame s.coldBase b ∧ ∀ a, a ≠ A.SYSCTL_STRAPS → b.rd a = resetWord a

theorem coldStart_coldBase : coldStart s s.coldBase := ⟨rfl, fun _ ha => State.rd_wr_ne _ _ ha⟩

/-- Sampling the straps again sets the straps alone (R43). -/
theorem coldStart_setStraps {b : State} (l : List (BitVec 6)) (h : coldStart s b) : coldStart s (b.setStraps l) := by
  obtain ⟨hframe, hregs⟩ := h
  have hwr : ∀ v, coldStart s (b.wr A.SYSCTL_STRAPS v) := fun v =>
    ⟨regsFrame_trans hframe (regsFrame_wr b _ v), fun a ha => (State.rd_wr_ne _ _ ha).trans (hregs a ha)⟩
  unfold State.setStraps
  split <;> exact hwr _

/-- A reset that meets no operation of NVMC keeps flash. -/
theorem State.coldBase_nvm_of_idle {s : State} (h : s.nvmc = none) : s.coldBase.nvm = s.nvm := by
  show s.cutFlash.nvm = s.nvm
  rw [State.cutFlash, h]

/-! ### What a cold reset leaves -/

/-- RESET_CAUSE after a cold cause is reported: its code, and COLD (R132). -/
theorem State.rd_reportCause {cause : Nat} (h : cause ≤ 5) (src : Nat) :
    (s.reportCause cause src).rd A.SYSCTL_RESET_CAUSE = BitVec.ofNat 32 (16 + cause) := by
  have hfault : cause ≠ causeFault := by unfold causeFault; omega
  simp [State.reportCause, h, hfault]

/-- Straps, fuses and the cause set registers alone. -/
theorem regsFrame_of_coldStart {s b : State} (cause : Nat) (h : coldStart s b) :
    regsFrame s.coldBase (b.afterReset.reportCause cause 0) :=
  regsFrame_trans h.1 (regsFrame_trans (regsFrame_afterReset b) (regsFrame_wr _ _ _))

/-- A register that shows neither strap, fuse nor cause holds its reset value after a cold reset (R100). -/
theorem rd_afterReset_of_coldStart {s b : State} (cause : Nat) (h : coldStart s b) {a : Nat}
    (hw : windowOf a ∉ [0x04, 0x05, 0x06, 0x0C])
    (ha : a ∉ [A.SYSCTL_STRAPS, A.SYSCTL_RESET_CAUSE, A.SYSCTL_SVN, A.SYSCTL_RB_CNT 0, A.SYSCTL_RB_CNT 1,
      A.SYSCTL_RB_CNT 2]) :
    (b.afterReset.reportCause cause 0).rd a = resetWord a := by
  obtain ⟨-, hregs⟩ := h
  rw [List.mem_cons, List.mem_cons, not_or, not_or] at ha
  obtain ⟨hstraps, hcause, hfuses⟩ := ha
  exact (State.rd_wr_ne _ _ hcause).trans ((State.rd_afterReset b hw hfuses).trans (hregs a hstraps))

/-- What every cold reset leaves (R100), from the state it starts in. -/
theorem coldLeaves_of_coldStart {s b : State} {cause : Nat} (h : coldStart s b) (hcold : cause ≤ 5) :
    coldLeaves s (b.afterReset.reportCause cause 0) (BitVec.ofNat 32 (16 + cause)) := by
  have hframe := regsFrame_of_coldStart cause h
  have hlock : (b.afterReset.reportCause cause 0).flag F.SYSCTL_CFG_LOCK_LOCK = false := by
    unfold State.flag State.fld
    rw [rd_afterReset_of_coldStart cause h (by decide) (by decide)]
    decide +kernel
  have hregs : ∀ a, windowOf a ∉ [0x00, 0x04, 0x05, 0x06, 0x0C] →
      (b.afterReset.reportCause cause 0).rd a = resetWord a := by
    intro a hw
    refine rd_afterReset_of_coldStart cause h (fun hm => hw (List.mem_cons_of_mem _ hm)) fun hm => hw ?_
    exact List.mem_cons.mpr (.inl ((by decide : ∀ b ∈ [A.SYSCTL_STRAPS, A.SYSCTL_RESET_CAUSE, A.SYSCTL_SVN,
      A.SYSCTL_RB_CNT 0, A.SYSCTL_RB_CNT 1, A.SYSCTL_RB_CNT 2], windowOf b = 0) a hm))
  have hcause := State.rd_reportCause b.afterReset hcold 0
  generalize b.afterReset.reportCause cause 0 = t at hframe hlock hregs hcause ⊢
  unfold regsFrame at hframe
  exact ⟨hcause, by rw [hframe]; rfl, by rw [hframe]; rfl, by rw [hframe]; rfl, by rw [hframe]; rfl, hregs, hlock,
    by rw [hframe]; rfl, fun hidle => by rw [hframe]; exact State.coldBase_nvm_of_idle hidle, by rw [hframe]; rfl,
    by rw [hframe]; rfl, by rw [hframe]; rfl⟩

/-- What a cold reset leaves does not speak of the PMU's state beside its registers. -/
theorem coldLeaves_of_power {s t : State} {w : Word} (p : PowerSt) (h : coldLeaves s t w) :
    coldLeaves s { t with power := p } w := h

/-- The hold of a thermal trip changes the power state alone. -/
theorem coldLeaves_keepHold {s t u : State} {w : Word} (h : coldLeaves s t w) : coldLeaves s (u.keepHold t) w := by
  unfold State.keepHold
  split
  · exact coldLeaves_of_power _ h
  · exact h

/-- What a cold reset leaves whose cause arises after the ROM has started (R99, R100). -/
theorem coldLeaves_coldReset {s : State} {cause : Nat} (hphase : s.boot.phase ≠ .waiting) (hcold : cause ≤ 5) :
    coldLeaves s (s.coldReset cause) (BitVec.ofNat 32 (16 + cause)) := by
  unfold State.coldReset
  rw [State.mergedCause, if_neg hphase]
  exact coldLeaves_keepHold (coldLeaves_of_coldStart (coldStart_coldBase s) hcold)

/-! ### A reading of the temperature -/

/-- AO_REG follows the reading by its own fields alone (R93). -/
theorem regsFrame_refreshAo : regsFrame s s.refreshAo := by
  unfold State.refreshAo
  split
  · exact regsFrame_refl s
  · exact regsFrame_refl s
  · exact regsFrame_trans (regsFrame_setFld s _ _) (regsFrame_setFld _ _ _)

/-- A reading is held, and moves registers alone beside. -/
theorem State.setTemp_frame (c : Int) :
    s.setTemp c = { s with regs := (s.setTemp c).regs, power := { s.power with temp := c } } :=
  regsFrame_refreshAo _

/-- What a cold reset leaves after a reading was taken is what it leaves of the state before. -/
theorem coldLeaves_of_setTemp {s t : State} {w : Word} {c : Int} (h : coldLeaves (s.setTemp c) t w) :
    coldLeaves s t w := by
  rw [s.setTemp_frame c] at h
  exact h

/-! ### The commands -/

/-- POWER_ON starts the device with its own cause, whatever went before (R37, R98). -/
theorem exec_powerOn_leaves (l : List (BitVec 6)) :
    ∃ t, exec (.powerOn l) s = .next t ∧ coldLeaves s t 0x11 ∧ t.power.mode = .on := by
  have hstart : coldStart s (s.coldBase.setStraps l) := coldStart_setStraps s l (coldStart_coldBase s)
  refine ⟨_, rfl, coldLeaves_of_coldStart hstart (by decide), ?_⟩
  rw [regsFrame_of_coldStart causePowerOn hstart]
  rfl

/-- PIN is a cold reset that samples the straps again (R39, R43). -/
theorem exec_pin_leaves {s : State} (l : List (BitVec 6)) (hmode : s.power.mode ≠ .off)
    (hphase : s.boot.phase ≠ .waiting) : ∃ t, exec (.pin l) s = .next t ∧ coldLeaves s t 0x15 := by
  refine ⟨_, if_neg hmode, coldLeaves_keepHold ?_⟩
  rw [State.mergedCause, if_neg hphase]
  exact coldLeaves_of_coldStart (coldStart_setStraps s l (coldStart_coldBase s)) (by decide)

/-- POWER_FAIL resets the device wherever its rails must hold (R40). -/
theorem exec_powerFail {s : State} (hoff : s.power.mode ≠ .off) (hsleep : s.power.mode ≠ .sleep)
    (hexit : s.power.mode ≠ .sleepExit) : exec .powerFail s = .next (s.coldReset causePowerFail) := by
  show execPowerFail s = _
  unfold execPowerFail
  split
  · next h => exact absurd h hsleep
  · next h => exact absurd h hexit
  · next h => exact absurd h hoff
  · rfl

/-- THERMAL at 118 °C or above resets the device, which stays held (R53). -/
theorem exec_thermal_leaves {s : State} {c : Int} (hc : 118 ≤ c) (hrun : s.dark = false)
    (hphase : s.boot.phase ≠ .waiting) :
    ∃ t, exec (.thermal c) s = .next t ∧ coldLeaves s t 0x14 ∧ t.power.mode = .thermalHold := by
  have hphase' : (s.setTemp c).boot.phase ≠ .waiting := by
    rw [s.setTemp_frame c]
    exact hphase
  exact ⟨_, if_pos ⟨hc, by simp [hrun]⟩,
    coldLeaves_of_power _ (coldLeaves_of_setTemp (coldLeaves_coldReset hphase' (by decide))), rfl⟩

/-- THERMAL_RESET_RELEASE ends the hold by a reading below 95 °C, and changes the power state alone (R53). -/
theorem exec_thermalResetRelease_leaves {s : State} (c : Int) (hhold : s.power.mode = .thermalHold) :
    ∃ t, exec (.thermalResetRelease c) s = .next t ∧ (t.power.mode = .on ↔ c < 95) ∧
      t = { s with power := t.power } := by
  by_cases hc : c < 95
  · exact ⟨_, if_pos ⟨hhold, hc⟩, by simp [hc], rfl⟩
  · have htemp : s.setTemp c = { s with power := { s.power with temp := c } } := by
      simp only [State.setTemp, State.refreshAo, hhold]
    have hexec : exec (.thermalResetRelease c) s = .next (s.setTemp c) := if_neg (by simp [hc])
    rw [htemp] at hexec
    exact ⟨_, hexec, by simp [hhold, hc], rfl⟩

/-- Settles O8: each cause is a cold reset of the present state, and the hold and Off are the commands' own. -/
theorem coldResetsClearTheDevice : Obligations.ColdResetsClearTheDevice := by
  refine ⟨fun s l => exec_powerOn_leaves s l, fun s l hmode hphase => exec_pin_leaves l hmode hphase, ?_, ?_, ?_,
    fun s c hc hrun hphase => exec_thermal_leaves hc hrun hphase,
    fun s c hhold => exec_thermalResetRelease_leaves c hhold, ?_⟩
  · exact fun s hoff hsleep hexit hphase =>
      ⟨_, exec_powerFail hoff hsleep hexit, coldLeaves_coldReset hphase (by decide)⟩
  · exact fun s hexit hphase => ⟨_, if_pos hexit, coldLeaves_coldReset hphase (by decide)⟩
  · exact fun s hlow hphase => ⟨_, if_pos hlow, coldLeaves_coldReset hphase (by decide)⟩
  · exact fun s => ⟨_, rfl, rfl, rfl, rfl, fun hidle => State.coldBase_nvm_of_idle hidle, rfl⟩

end Sys2Proof.Machine
end

section
/-! The temperature warning (R53) and the adaptive voltage (R34 to R36, R79, R80): what a reading, a start of a voltage
write and a rise of the cores' clock change, and from these each command. -/

namespace Sys2Proof.Machine

variable (s : State)

/-! ### A reading of the temperature -/

/-- A reading moves AO_REG alone among registers (R93). -/
theorem onlyFields_setTemp (c : Int) {fs : List Fld} (hf : whole A.PMU_AO_REG ∈ fs) :
    onlyFields s (s.setTemp c) fs := by
  have htemp : onlyFields s { s with power := { s.power with temp := c } } fs :=
    onlyFields_of_regs rfl (onlyFields_refl s fs)
  unfold State.setTemp State.refreshAo
  split
  · exact htemp
  · exact htemp
  · exact onlyFields_wr _ _ hf (onlyFields_wr _ _ hf htemp)

/-- A field outside AO_REG reads the same after a reading. -/
theorem State.fld_setTemp (c : Int) {f : Fld} (hlen : f.lo + f.len ≤ 32) (h : f.addr ≠ A.PMU_AO_REG) :
    (s.setTemp c).fld f = s.fld f :=
  onlyFields_setTemp s c (List.mem_singleton_self _) f hlen fun _ hg => .inl (List.mem_singleton.mp hg ▸ h)

/-- THERMAL_WARN raises the warning that is armed, once (R53). -/
theorem exec_thermalWarn_raised {s : State} (n : Fin 12) {c : Int} (hc : 108 ≤ c) (hrun : s.dark = false)
    (harmed : s.power.warnArmed = true) (hroom : s.flt.queue.length < 16) :
    ∃ t, exec (.thermalWarn n c) s = .next t ∧ t.power.warnArmed = false ∧ t.power.temp = c ∧
      t.flt.queue = s.flt.queue ++ [{ src := 0x04, unit := n.val, perm := false, inj := false, full := false }] ∧
      onlyFields s t [whole A.PMU_AO_REG] ∧ t = { s with regs := t.regs, power := t.power, flt := t.flt } := by
  have hexec : exec (.thermalWarn n c) s = .next
      (({ s.setTemp c with power := { (s.setTemp c).power with warnArmed := false } } : State).present 0x04 n.val) := by
    show execThermalWarn n c s = _
    simp [execThermalWarn, hrun, hc, harmed]
  have honly := onlyFields_setTemp s c (List.mem_singleton_self (whole A.PMU_AO_REG))
  have hframe := s.setTemp_frame c
  generalize s.setTemp c = u at hexec honly hframe
  have hqueue : u.flt.queue = s.flt.queue := by rw [hframe]
  rw [State.present_of_room _ 0x04 n.val (by rw [hqueue]; exact hroom)] at hexec
  exact ⟨_, hexec, rfl, by rw [hframe], congrArg (· ++ _) hqueue, onlyFields_of_regs rfl honly, by rw [hframe]⟩

/-- THERMAL_WARN with nothing to raise takes the reading, and below 103 °C arms the warning (R53). -/
theorem exec_thermalWarn_armed {s : State} (n : Fin 12) {c : Int} (hrun : s.dark = false)
    (h : c < 103 ∨ s.power.warnArmed = false) :
    ∃ t, exec (.thermalWarn n c) s = .next t ∧ (c < 103 → t.power.warnArmed = true) ∧
      (103 ≤ c → t.power.warnArmed = false) ∧ t.power.temp = c ∧ onlyFields s t [whole A.PMU_AO_REG] ∧
      t = { s with regs := t.regs, power := t.power } := by
  have hquiet : ¬ (108 ≤ c ∧ s.power.warnArmed = true) := by
    rintro ⟨hc, harmed⟩
    rcases h with h | h
    · omega
    · exact absurd (harmed.symm.trans h) (by decide)
  have hexec : exec (.thermalWarn n c) s = .next (if c < 103 then
      { s.setTemp c with power := { (s.setTemp c).power with warnArmed := true } } else s.setTemp c) := by
    show execThermalWarn n c s = _
    simp only [execThermalWarn, hrun, Bool.false_eq_true, if_false, hquiet]
    split <;> rfl
  have honly := onlyFields_setTemp s c (List.mem_singleton_self (whole A.PMU_AO_REG))
  have hframe := s.setTemp_frame c
  generalize s.setTemp c = u at hexec honly hframe
  by_cases hc : c < 103
  · rw [if_pos hc] at hexec
    exact ⟨_, hexec, fun _ => rfl, fun h => absurd hc (not_lt.mpr h), by rw [hframe], onlyFields_of_regs rfl honly,
      by rw [hframe]⟩
  · rw [if_neg hc] at hexec
    exact ⟨_, hexec, fun h => absurd h hc, fun _ => by rw [hframe]; exact h.resolve_left hc, by rw [hframe], honly,
      by rw [hframe]⟩

/-! ### The start of a voltage write -/

/-- What the start of voltage writes leaves: beside PENDING and the write itself, rails and clock stay, and no hold
ends. -/
structure avsStarted (s t : State) : Prop where
  frame : t = { s with regs := t.regs, power := t.power }
  fields : onlyFields s t [F.PMU_AVS_STATUS_PENDING]
  voltCore : t.power.voltCore = s.power.voltCore
  voltCpu : t.power.voltCpu = s.power.voltCpu
  coreMhz : t.power.coreMhz = s.power.coreMhz
  holdCore : s.power.holdCore = true → t.power.holdCore = true
  holdCpu : s.power.holdCpu = true → t.power.holdCpu = true

theorem avsStarted_refl : avsStarted s s := ⟨rfl, onlyFields_refl s _, rfl, rfl, rfl, id, id⟩

/-- What two updates in a row leave. -/
theorem onlyFields_trans {s t u : State} {fs : List Fld} (h : onlyFields s t fs) (k : onlyFields t u fs) :
    onlyFields s u fs := fun g hg hd => (k g hg hd).trans (h g hg hd)

theorem avsStarted_trans {s t u : State} (h : avsStarted s t) (k : avsStarted t u) : avsStarted s u where
  frame := by rw [k.frame, h.frame]
  fields := onlyFields_trans h.fields k.fields
  voltCore := k.voltCore.trans h.voltCore
  voltCpu := k.voltCpu.trans h.voltCpu
  coreMhz := k.coreMhz.trans h.coreMhz
  holdCore := k.holdCore ∘ h.holdCore
  holdCpu := k.holdCpu ∘ h.holdCpu

/-- A power state with the same rails and clock that ends no hold, and PENDING set, are a start of voltage writes. -/
theorem avsStarted_setPending {p : PowerSt} (hcore : p.voltCore = s.power.voltCore)
    (hcpu : p.voltCpu = s.power.voltCpu) (hmhz : p.coreMhz = s.power.coreMhz)
    (hholdCore : s.power.holdCore = true → p.holdCore = true)
    (hholdCpu : s.power.holdCpu = true → p.holdCpu = true) :
    avsStarted s (({ s with power := p } : State).setFld F.PMU_AVS_STATUS_PENDING 1) :=
  ⟨rfl, onlyFields_setFld _ _ (by simp) (onlyFields_of_regs rfl (onlyFields_refl s _)), hcore, hcpu, hmhz, hholdCore,
    hholdCpu⟩

/-- The start of a write for a rail: nothing, or the write of the next step, where none was in progress (R34). -/
theorem State.startRail_cases (rail : Nat) :
    s.startRail rail = s ∨ s.power.avsWrite = none ∧ avsStarted s (s.startRail rail) ∧
      (s.startRail rail).power.avsWrite = some (rail, avsStep (s.volt rail) (s.avsTarget rail)) := by
  unfold State.startRail PowerSt.hold PowerSt.settle
  dsimp only
  split
  · exact .inl rfl
  · next h =>
    refine .inr ⟨by simpa using fun hw => h (.inl hw), ?_⟩
    by_cases hrise : s.volt rail < s.avsTarget rail
    · by_cases hcore : rail = 0
      · subst hcore
        simp only [hrise, if_true]
        exact ⟨avsStarted_setPending s rfl rfl rfl (fun _ => rfl) id, rfl⟩
      · simp only [hrise, hcore, if_true, if_false]
        exact ⟨avsStarted_setPending s rfl rfl rfl id (fun _ => rfl), rfl⟩
    · simp only [hrise, if_false]
      exact ⟨avsStarted_setPending s rfl rfl rfl id id, rfl⟩

theorem avsStarted_startRail (rail : Nat) : avsStarted s (s.startRail rail) := by
  rcases s.startRail_cases rail with h | ⟨-, h, -⟩
  · rw [h]
    exact avsStarted_refl s
  · exact h

theorem avsStarted_startAvs : avsStarted s s.startAvs :=
  avsStarted_trans (avsStarted_startRail s 0) (avsStarted_startRail _ 1)

/-- No step asks for more than 10 codes (R34). -/
theorem avsStep_near (v g : Nat) : avsStep v g ≤ v + 10 ∧ v ≤ avsStep v g + 10 := by
  unfold avsStep
  split <;> omega

/-- A write that starts for VDD_CORE asks for a step of at most 10 codes (R34). -/
theorem State.startAvs_near {s : State} {v : Nat} (hnone : s.power.avsWrite = none)
    (h : s.startAvs.power.avsWrite = some (0, v)) : v ≤ s.power.voltCore + 10 ∧ s.power.voltCore ≤ v + 10 := by
  unfold State.startAvs at h
  have hcpu : (s.startRail 0).power.avsWrite = some (0, v) := by
    rcases (s.startRail 0).startRail_cases 1 with hsame | ⟨-, -, hwrite⟩
    · rwa [hsame] at h
    · rw [hwrite] at h
      simp at h
  rcases s.startRail_cases 0 with hsame | ⟨-, -, hwrite⟩
  · rw [hsame, hnone] at hcpu
    simp at hcpu
  · rw [hwrite] at hcpu
    obtain rfl : avsStep (s.volt 0) (s.avsTarget 0) = v := by simpa using hcpu
    exact avsStep_near _ _

/-! ### The clock of the cores -/

/-- Showing what a core does changes its CORE_STATUS alone. -/
theorem State.syncCore_kept (c : Nat) : (s.syncCore c).power = s.power ∧
    ∀ a, a ≠ A.DISPATCH_CORE_STATUS c → (s.syncCore c).rd a = s.rd a := by
  unfold State.syncCore
  dsimp only
  generalize BitVec.ofNat 32 _ = w
  exact ⟨s.wr_power _ w, fun a ha => State.rd_wr_ne s w ha⟩

/-- Counting the busy cycles of a core leaves the power state and AVS_STATUS. -/
theorem State.countBusy_kept (c : Nat) :
    (s.countBusy c).power = s.power ∧ (s.countBusy c).rd A.PMU_AVS_STATUS = s.rd A.PMU_AVS_STATUS := by
  have hne : A.PMU_AVS_STATUS ≠ A.DISPATCH_CORE_STATUS c := by
    unfold A.PMU_AVS_STATUS A.DISPATCH_CORE_STATUS
    omega
  unfold State.countBusy State.modCore
  split
  · obtain ⟨hpower, hrd⟩ := State.syncCore_kept _ c
    exact ⟨hpower, hrd _ hne⟩
  · exact ⟨rfl, rfl⟩

/-- Counting the busy cycles of some cores leaves the power state and AVS_STATUS. -/
theorem State.foldl_countBusy_kept (l : List Nat) : (l.foldl State.countBusy s).power = s.power ∧
    (l.foldl State.countBusy s).rd A.PMU_AVS_STATUS = s.rd A.PMU_AVS_STATUS := by
  induction l generalizing s with
  | nil => exact ⟨rfl, rfl⟩
  | cons c l ih =>
    obtain ⟨hpower, hrd⟩ := s.countBusy_kept c
    obtain ⟨hpower', hrd'⟩ := ih (s.countBusy c)
    exact ⟨hpower'.trans hpower, hrd'.trans hrd⟩

/-- A change of the cores' clock leaves the rest of the power state, and AVS_STATUS. -/
theorem State.setCoreMhz_kept (mhz : Nat) : (s.setCoreMhz mhz).power = { s.power with coreMhz := mhz } ∧
    (s.setCoreMhz mhz).rd A.PMU_AVS_STATUS = s.rd A.PMU_AVS_STATUS := by
  obtain ⟨hpower, hrd⟩ := s.foldl_countBusy_kept allCores
  unfold State.setCoreMhz
  generalize allCores.foldl State.countBusy s = u at hpower hrd ⊢
  exact ⟨by rw [← hpower], hrd⟩

/-- A rise of the cores' clock leaves the rest of the power state, and AVS_STATUS. -/
theorem State.raiseCores_kept : s.raiseCores.power = { s.power with coreMhz := s.raiseCores.power.coreMhz } ∧
    s.raiseCores.rd A.PMU_AVS_STATUS = s.rd A.PMU_AVS_STATUS := by
  unfold State.raiseCores
  split
  · exact ⟨rfl, rfl⟩
  · obtain ⟨hpower, hrd⟩ := s.setCoreMhz_kept 1800
    exact ⟨by rw [hpower], hrd⟩

/-- Cores that run at 1.8 GHz go on so. -/
theorem State.raiseCores_of_full {s : State} (h : s.power.coreMhz = 1800) : s.raiseCores = s := if_pos (.inl h)

/-! ### New targets -/

/-- The targets held, and the frequencies of a rail below its target (R80). -/
def State.putTargets (s : State) (core cpu : Nat) : State :=
  { (s.setFld F.PMU_AVS_STATUS_TARGET_CORE core).setFld F.PMU_AVS_STATUS_TARGET_CPU cpu with
    power := { s.power with holdCore := decide (s.power.voltCore < core), holdCpu := decide (s.power.voltCpu < cpu) } }

theorem State.newTargets_eq (core cpu : Nat) :
    s.newTargets core cpu = (s.putTargets core cpu).startAvs.raiseCores := rfl

/-- New targets read back (R79). -/
theorem State.newTargets_targets {core cpu : Nat} (hcore : core < 64) (hcpu : cpu < 64) :
    (s.newTargets core cpu).fld F.PMU_AVS_STATUS_TARGET_CORE = core ∧
      (s.newTargets core cpu).fld F.PMU_AVS_STATUS_TARGET_CPU = cpu := by
  have hkept : ∀ f : Fld, f.addr = A.PMU_AVS_STATUS → f.lo + f.len ≤ 16 →
      (s.newTargets core cpu).fld f =
        ((s.setFld F.PMU_AVS_STATUS_TARGET_CORE core).setFld F.PMU_AVS_STATUS_TARGET_CPU cpu).fld f := by
    intro f haddr hlen
    have hraise : (s.putTargets core cpu).startAvs.raiseCores.fld f = (s.putTargets core cpu).startAvs.fld f := by
      unfold State.fld
      rw [haddr, ((s.putTargets core cpu).startAvs.raiseCores_kept).2]
    rw [s.newTargets_eq, hraise]
    exact (avsStarted_startAvs (s.putTargets core cpu)).fields f (by omega)
      fun g hg => .inr (.inl (List.mem_singleton.mp hg ▸ hlen))
  rw [hkept _ rfl (by decide), hkept _ rfl (by decide), State.fld_setFld_same _ _ _ (by decide),
    State.fld_setFld_apart _ _ _ _ (by decide) (by decide), State.fld_setFld_same _ _ _ (by decide)]
  exact ⟨Nat.mod_eq_of_lt hcore, Nat.mod_eq_of_lt hcpu⟩

/-- A rail below its new target holds its frequencies (R80). -/
theorem State.newTargets_holds (core cpu : Nat) :
    (s.power.voltCore < core → (s.newTargets core cpu).power.holdCore = true) ∧
      (s.power.voltCpu < cpu → (s.newTargets core cpu).power.holdCpu = true) := by
  have hstart := avsStarted_startAvs (s.putTargets core cpu)
  rw [s.newTargets_eq, ((s.putTargets core cpu).startAvs.raiseCores_kept).1]
  exact ⟨fun h => hstart.holdCore (decide_eq_true h), fun h => hstart.holdCpu (decide_eq_true h)⟩

/-- The first write toward a new target of VDD_CORE asks for a step of at most 10 codes (R34). -/
theorem State.newTargets_near {core cpu v : Nat} (hnone : s.power.avsWrite = none)
    (h : (s.newTargets core cpu).power.avsWrite = some (0, v)) :
    v ≤ s.power.voltCore + 10 ∧ s.power.voltCore ≤ v + 10 := by
  rw [s.newTargets_eq, ((s.putTargets core cpu).startAvs.raiseCores_kept).1] at h
  exact State.startAvs_near (s := s.putTargets core cpu) hnone h

/-- While the cores run at 1.8 GHz, new targets change AVS_STATUS and the power state alone. -/
theorem State.newTargets_frame (core cpu : Nat) (hmhz : s.power.coreMhz = 1800) :
    s.newTargets core cpu =
      { s with regs := (s.newTargets core cpu).regs, power := (s.newTargets core cpu).power } ∧
    onlyFields s (s.newTargets core cpu)
      [F.PMU_AVS_STATUS_TARGET_CORE, F.PMU_AVS_STATUS_TARGET_CPU, F.PMU_AVS_STATUS_PENDING] := by
  have hstart := avsStarted_startAvs (s.putTargets core cpu)
  rw [s.newTargets_eq, State.raiseCores_of_full (hstart.coreMhz.trans hmhz)]
  refine ⟨hstart.frame, ?_⟩
  have hput : onlyFields s (s.putTargets core cpu)
      [F.PMU_AVS_STATUS_TARGET_CORE, F.PMU_AVS_STATUS_TARGET_CPU, F.PMU_AVS_STATUS_PENDING] :=
    onlyFields_of_regs rfl (onlyFields_setFld _ _ (by simp) (onlyFields_setFld _ _ (by simp) (onlyFields_refl s _)))
  exact onlyFields_trans hput fun g hg hd => hstart.fields g hg fun f hf => hd f (List.mem_cons_of_mem _ (List.mem_cons_of_mem _ hf))

/-! ### AVS_RECOMPUTE -/

/-- The state with a reading taken at which the targets are computed (R79). -/
def State.avsRead (s : State) (c : Int) : State :=
  { s.setTemp c with power := { s.power with temp := c, avsTemp := c, avsTime := s.time.tick, avsDue := false } }

theorem onlyFields_avsRead (c : Int) {fs : List Fld} (hf : whole A.PMU_AO_REG ∈ fs) : onlyFields s (s.avsRead c) fs :=
  onlyFields_of_regs rfl (onlyFields_setTemp s c hf)

theorem State.avsRead_frame (c : Int) :
    s.avsRead c = { s with regs := (s.avsRead c).regs, power := (s.avsRead c).power } := by
  unfold State.avsRead
  rw [s.setTemp_frame c]

/-- AVS_RECOMPUTE at one of the times of R79 sets new targets. -/
theorem exec_avsRecompute_asked {s : State} {c : Int} (x y : BitVec 6) (hen : s.flag F.PMU_AVS_CTRL_EN = true)
    (hask : s.avsAsked c = true) (hrun : s.dark = false) :
    exec (.avsRecompute c x y) s =
      .next ((s.avsRead c).newTargets (s.avsCode x.toNat) (s.avsCode y.toNat)) := by
  have hread : ({ s.setTemp c with
      power := { (s.setTemp c).power with avsTemp := c, avsTime := s.time.tick, avsDue := false } } : State) =
      s.avsRead c := by
    unfold State.avsRead
    rw [s.setTemp_frame c]
  have hcode : ∀ n, (s.avsRead c).avsCode n = s.avsCode n := fun n =>
    congrArg (fun m => min 50 (n + m / 5)) (s.fld_setTemp c (f := F.PMU_AVS_CTRL_MARGIN_MV) (by decide) (by decide))
  rw [← hcode, ← hcode, ← hread]
  exact if_pos ⟨hen, hask, by simp [hrun]⟩

/-- AVS_RECOMPUTE at any other time takes the reading alone. -/
theorem exec_avsRecompute_unasked {s : State} {c : Int} (x y : BitVec 6)
    (h : s.flag F.PMU_AVS_CTRL_EN = false ∨ s.avsAsked c = false ∨ s.dark = true) :
    exec (.avsRecompute c x y) s = .next (s.setTemp c) := by
  refine if_neg ?_
  rintro ⟨hen, hask, hrun⟩
  rcases h with h | h | h
  · exact absurd (hen.symm.trans h) (by decide)
  · exact absurd (hask.symm.trans h) (by decide)
  · exact hrun h

/-- What AVS_RECOMPUTE leaves where it computes (R34, R79, R80). -/
theorem exec_avsRecompute_leaves {s : State} {c : Int} (x y : BitVec 6) (hen : s.flag F.PMU_AVS_CTRL_EN = true)
    (hask : s.avsAsked c = true) (hrun : s.dark = false) :
    ∃ t, exec (.avsRecompute c x y) s = .next t ∧
      t.fld F.PMU_AVS_STATUS_TARGET_CORE = s.avsCode x.toNat ∧ t.fld F.PMU_AVS_STATUS_TARGET_CPU = s.avsCode y.toNat ∧
      (s.power.voltCore < s.avsCode x.toNat → t.power.holdCore = true) ∧
      (s.power.voltCpu < s.avsCode y.toNat → t.power.holdCpu = true) ∧
      (∀ v, s.power.avsWrite = none → t.power.avsWrite = some (0, v) →
        v ≤ s.power.voltCore + 10 ∧ s.power.voltCore ≤ v + 10) ∧
      (s.power.coreMhz = 1800 →
        onlyFields s t [F.PMU_AVS_STATUS_TARGET_CORE, F.PMU_AVS_STATUS_TARGET_CPU, F.PMU_AVS_STATUS_PENDING,
          whole A.PMU_AO_REG] ∧ t = { s with regs := t.regs, power := t.power }) := by
  have hlt : ∀ n, s.avsCode n < 64 := fun n => Nat.lt_of_le_of_lt (Nat.min_le_left _ _) (by decide)
  obtain ⟨hcore, hcpu⟩ := (s.avsRead c).newTargets_targets (hlt x.toNat) (hlt y.toNat)
  obtain ⟨hholdCore, hholdCpu⟩ := (s.avsRead c).newTargets_holds (s.avsCode x.toNat) (s.avsCode y.toNat)
  refine ⟨_, exec_avsRecompute_asked x y hen hask hrun, hcore, hcpu, hholdCore, hholdCpu,
    fun v hnone h => (s.avsRead c).newTargets_near hnone h, fun hmhz => ?_⟩
  obtain ⟨hframe, honly⟩ := (s.avsRead c).newTargets_frame (s.avsCode x.toNat) (s.avsCode y.toNat) hmhz
  refine ⟨onlyFields_trans (onlyFields_avsRead s c (by simp)) fun g hg hd =>
    honly g hg fun f hf => hd f (List.mem_append_left [whole A.PMU_AO_REG] hf), hframe.trans ?_⟩
  rw [s.avsRead_frame c]

/-! ### AVS_WRITE_DONE, AVS_RETRY and AVS_SETTLE -/

section write

variable {s : State} {r v : Nat}

/-- An acknowledged write moves its rail, clears NO_ACK, and the next step starts (R34, R36). -/
theorem exec_avsWriteDone_acked (hwrite : s.power.avsWrite = some (r, v)) (hwait : s.power.avsWait = false) :
    ∃ p : PowerSt, exec (.avsWriteDone true) s = .next
        (((({ s with power := p }).setFld F.PMU_AVS_STATUS_PENDING 0).setFld F.PMU_AVS_STATUS_NO_ACK 0).startAvs) ∧
      p.voltCore = (if r = 0 then v else s.power.voltCore) ∧ p.voltCpu = (if r = 0 then s.power.voltCpu else v) := by
  have hexec : exec (.avsWriteDone true) s = execAvsWriteDone true s := rfl
  simp only [execAvsWriteDone, hwrite, hwait, Bool.false_eq_true, if_false, if_true] at hexec
  refine ⟨_, hexec, ?_⟩
  unfold PowerSt.settle
  split
  · split <;> exact ⟨rfl, rfl⟩
  · exact ⟨rfl, rfl⟩

/-- A write not acknowledged waits for its retry, three times at most (R36). -/
theorem exec_avsWriteDone_waits (hwrite : s.power.avsWrite = some (r, v)) (hwait : s.power.avsWait = false)
    (htries : s.power.avsTries < 3) :
    exec (.avsWriteDone false) s = .next { s with power := { s.power with avsWait := true } } := by
  show execAvsWriteDone false s = _
  simp [execAvsWriteDone, hwrite, hwait, htries]

/-- After the third retry the write is dropped, and AVS_NO_ACK is raised (R36). -/
theorem exec_avsWriteDone_dropped (hwrite : s.power.avsWrite = some (r, v)) (hwait : s.power.avsWait = false)
    (htries : 3 ≤ s.power.avsTries) :
    exec (.avsWriteDone false) s = .next
      (((({ s with power := { s.power with avsWrite := none, avsTries := 0 } }).setFld
        F.PMU_AVS_STATUS_PENDING 0).setFld F.PMU_AVS_STATUS_NO_ACK 1).present 0x03 r) := by
  show execAvsWriteDone false s = _
  simp [execAvsWriteDone, hwrite, hwait, Nat.not_lt.mpr htries]

/-- The write that waits goes out again (R36). -/
theorem exec_avsRetry (hwait : s.power.avsWait = true) :
    exec .avsRetry s =
      .next { s with power := { s.power with avsWait := false, avsTries := s.power.avsTries + 1 } } := if_pos hwait

/-- Without a write in progress there is nothing to acknowledge. -/
theorem exec_avsWriteDone_of_none (ack : Bool) (h : s.power.avsWrite = none) :
    exec (.avsWriteDone ack) s = .next s := by
  show execAvsWriteDone ack s = _
  simp only [execAvsWriteDone, h]

/-- What an acknowledged write of VDD_CORE leaves (R34, R36). -/
theorem exec_avsWriteDone_acked_leaves (hwrite : s.power.avsWrite = some (0, v)) (hwait : s.power.avsWait = false) :
    ∃ t, exec (.avsWriteDone true) s = .next t ∧ t.power.voltCore = v ∧ t.power.voltCpu = s.power.voltCpu ∧
      t.flag F.PMU_AVS_STATUS_NO_ACK = false ∧ t = { s with regs := t.regs, power := t.power } := by
  obtain ⟨p, hexec, hcore, hcpu⟩ := exec_avsWriteDone_acked hwrite hwait
  generalize hu : State.setFld _ F.PMU_AVS_STATUS_NO_ACK 0 = u at hexec
  have hstart := avsStarted_startAvs u
  have hpower : u.power = p := by rw [← hu]; rfl
  have hack : u.fld F.PMU_AVS_STATUS_NO_ACK = 0 := by
    rw [← hu, State.fld_setFld_same _ _ _ (by decide)]
    rfl
  refine ⟨_, hexec, ?_, ?_, ?_, hstart.frame.trans (by rw [← hu]; rfl)⟩
  · rw [hstart.voltCore, hpower, hcore, if_pos rfl]
  · rw [hstart.voltCpu, hpower, hcpu, if_pos rfl]
  · unfold State.flag
    rw [hstart.fields F.PMU_AVS_STATUS_NO_ACK (by decide) (by decide), hack]
    rfl

/-- What a write dropped after its third retry leaves (R36; notes/assumptions/100.md). -/
theorem exec_avsWriteDone_dropped_leaves (hwrite : s.power.avsWrite = some (r, v)) (hwait : s.power.avsWait = false)
    (htries : 3 ≤ s.power.avsTries) (hroom : s.flt.queue.length < 16) :
    ∃ t, exec (.avsWriteDone false) s = .next t ∧ t.power.avsWrite = none ∧ t.flag F.PMU_AVS_STATUS_NO_ACK = true ∧
      t.flt.queue = s.flt.queue ++ [{ src := 0x03, unit := r, perm := false, inj := false, full := false }] ∧
      t.power.voltCore = s.power.voltCore ∧ t.power.voltCpu = s.power.voltCpu ∧
      onlyFields s t [F.PMU_AVS_STATUS_NO_ACK, F.PMU_AVS_STATUS_PENDING] := by
  have hexec := exec_avsWriteDone_dropped hwrite hwait htries
  rw [State.present_of_room _ 0x03 r (by exact hroom)] at hexec
  refine ⟨_, hexec, rfl, ?_, rfl, rfl, rfl, onlyFields_of_regs rfl <| onlyFields_setFld _ _ (by simp) <|
    onlyFields_setFld _ _ (by simp) <| onlyFields_of_regs rfl (onlyFields_refl s _)⟩
  unfold State.flag
  rw [State.fld_of_flt, State.fld_setFld_same _ _ _ (by decide)]
  rfl

end write

/-- The power state after the waits that are over have ended (R35, R80). -/
def State.settledPower (s : State) : PowerSt :=
  { s.power with
    settleCore := if s.settled s.power.settleCore then none else s.power.settleCore
    holdCore := !s.settled s.power.settleCore && s.power.holdCore
    settleCpu := if s.settled s.power.settleCpu then none else s.power.settleCpu
    holdCpu := !s.settled s.power.settleCpu && s.power.holdCpu }

/-- AVS_SETTLE ends the waits that are over; cores at 1.8 GHz go on so. -/
theorem exec_avsSettle {s : State} (hmhz : s.power.coreMhz = 1800) :
    exec .avsSettle s = .next { s with power := s.settledPower } := by
  have hfull : ({ s with power := s.settledPower } : State).raiseCores = { s with power := s.settledPower } :=
    State.raiseCores_of_full hmhz
  have hpower : (let p := if s.settled s.power.settleCore then (s.power.settle 0 none).hold 0 false else s.power
      if s.settled s.power.settleCpu then (p.settle 1 none).hold 1 false else p) = s.settledPower := by
    unfold State.settledPower
    cases s.settled s.power.settleCore <;> cases s.settled s.power.settleCpu <;> rfl
  rw [← hfull, ← hpower]
  rfl

/-- A wait is over 100 µs, 50,000 ticks, after it began (R35). -/
theorem State.settled_some (b : DWord) : s.settled (some b) = decide (b.toNat + 50000 ≤ s.now) := rfl

/-- What AVS_SETTLE leaves while the cores run at 1.8 GHz (R35, R80). -/
theorem exec_avsSettle_leaves {s : State} (hmhz : s.power.coreMhz = 1800) :
    ∃ t, exec .avsSettle s = .next t ∧
      (∀ b, s.power.settleCore = some b → b.toNat + 50000 ≤ s.now →
        t.power.settleCore = none ∧ t.power.holdCore = false) ∧
      (∀ b, s.power.settleCore = some b → s.now < b.toNat + 50000 →
        t.power.settleCore = some b ∧ t.power.holdCore = s.power.holdCore) ∧
      (∀ b, s.power.settleCpu = some b → b.toNat + 50000 ≤ s.now → t.power.settleCpu = none ∧ t.power.holdCpu = false) ∧
      (∀ b, s.power.settleCpu = some b → s.now < b.toNat + 50000 →
        t.power.settleCpu = some b ∧ t.power.holdCpu = s.power.holdCpu) ∧
      t = { s with power := t.power } := by
  refine ⟨_, exec_avsSettle hmhz, ?_, ?_, ?_, ?_, rfl⟩ <;> intro b hb h
  · simp [State.settledPower, hb, State.settled_some, h]
  · simp [State.settledPower, hb, State.settled_some, Nat.not_le.mpr h]
  · simp [State.settledPower, hb, State.settled_some, h]
  · simp [State.settledPower, hb, State.settled_some, Nat.not_le.mpr h]

/-- Settles O10: each clause is the rule of its command. -/
theorem thermalWarningAndAvs : Obligations.ThermalWarningAndAvs := by
  refine ⟨?_, ?_, ?_, ?_, ?_, ?_, ?_, ?_, ?_, ?_, ?_⟩
  · exact fun s n c hc hrun harmed hroom => exec_thermalWarn_raised n hc hrun harmed hroom
  · exact fun s n c hrun h => exec_thermalWarn_armed n hrun h
  · exact fun s c x y hen hask hrun => exec_avsRecompute_leaves x y hen hask hrun
  · intro s c x y h
    refine ⟨_, exec_avsRecompute_unasked x y h, ?_, onlyFields_setTemp s c (by simp), s.setTemp_frame c⟩
    rw [s.setTemp_frame c]
  · exact fun s v hwrite hwait => exec_avsWriteDone_acked_leaves hwrite hwait
  · exact fun s r v hwrite hwait htries =>
      ⟨_, exec_avsWriteDone_waits hwrite hwait htries, rfl, rfl, _, exec_avsRetry rfl, rfl, rfl, hwrite, rfl⟩
  · exact fun s hwait => ⟨_, exec_avsRetry hwait, rfl⟩
  · exact fun s hwait => if_neg (by simp [hwait])
  · exact fun s ack h => exec_avsWriteDone_of_none ack h
  · exact fun s r v hwrite hwait htries hroom => exec_avsWriteDone_dropped_leaves hwrite hwait htries hroom
  · exact fun s hmhz => exec_avsSettle_leaves hmhz

end Sys2Proof.Machine
end

section
/-! The step of the machine over its queue (notes/assumptions/1.md). -/

namespace Sys2Proof.Machine

/-- Settles O1: the four cases are the branches of `step`. -/
theorem stepRunsTheFrontCommand : Obligations.StepRunsTheFrontCommand := by
  refine ⟨?_, ?_, ?_, ?_⟩
  · intro s c rest hfront
    simp only [step, hfront]
  · intro s t hempty hserved
    simp only [step, hempty, hserved]
  · intro s t c hempty hnone hheld
    simp only [step, hempty, hnone, hheld]
  · intro s hempty hnone hheld
    simp only [step, hempty, hnone, hheld]

end Sys2Proof.Machine
end

section
/-! Branches, PLLs and clock inputs (R58 to R63, R95 to R97): the ACTIVE bits that a command moves, said once for a
list of branches, and from it each command. -/

namespace Sys2Proof.Machine

variable (s : State)

/-! ### ACTIVE bits -/

/-- A branch's ACTIVE bit after one branch has been started or stopped. -/
theorem State.active_setActive (br : Nat) (on : Bool) {c : Nat} (hc : c < 16) :
    (s.setActive br on).active c = if c = br then on else s.active c := by
  unfold State.active State.setActive State.fld
  simp only [F.CKGEN_ACTIVE_BRANCHES, State.rd_wr_same, testBit_getBits]
  rw [testBit_setBits _ _ _ _ _ (by omega)]
  by_cases hb : c = br
  · subst hb
    cases on <;> simp [bit, hc]
  · simp only [hb, if_false]
    rw [if_neg (by omega)]

/-- The branches of `l` take the ACTIVE bits that `f` names; those for which it names none stay. -/
def State.setActives (s : State) (f : Nat → Option Bool) (l : List Nat) : State :=
  l.foldl (fun t br => (f br).elim t (t.setActive br)) s

theorem State.setActives_cons (f : Nat → Option Bool) (br : Nat) (l : List Nat) :
    s.setActives f (br :: l) = ((f br).elim s (s.setActive br)).setActives f l := rfl

/-- What holds of the state and outlasts every ACTIVE bit set holds after some are set. -/
theorem State.setActives_induction {P : State → Prop} (f : Nat → Option Bool) (l : List Nat) {s : State} (h0 : P s)
    (hset : ∀ t br on, P t → P (t.setActive br on)) : P (s.setActives f l) := by
  induction l generalizing s with
  | nil => exact h0
  | cons br l ih =>
    rw [State.setActives_cons]
    cases f br with
    | none => exact ih h0
    | some on => exact ih (hset s br on h0)

theorem State.active_setActives (f : Nat → Option Bool) (l : List Nat) {c : Nat} (hc : c < 16) :
    (s.setActives f l).active c = if c ∈ l then (f c).getD (s.active c) else s.active c := by
  induction l generalizing s with
  | nil => rfl
  | cons br l ih =>
    have hstep : ((f br).elim s (s.setActive br)).active c =
        if c = br then (f c).getD (s.active c) else s.active c := by
      by_cases hb : c = br
      · subst hb
        cases f c with
        | none => simp
        | some on => simp [State.active_setActive s c on hc]
      · cases f br with
        | none => simp [hb]
        | some on => simp [State.active_setActive s br on hc, hb]
    rw [State.setActives_cons, ih, hstep]
    by_cases hb : c = br
    · subst hb
      cases f c <;> simp
    · simp [hb]

/-- Every branch takes the bit that `f` names for it. -/
theorem State.active_setActives_all (f : Nat → Option Bool) {c : Nat} (hc : c < 16) :
    (s.setActives f allBranches).active c = (f c).getD (s.active c) := by
  exact (s.active_setActives f _ hc).trans (if_pos (List.mem_range.mpr hc))

theorem State.rd_setActives (f : Nat → Option Bool) (l : List Nat) {a : Nat} (ha : a ≠ A.CKGEN_ACTIVE) :
    (s.setActives f l).rd a = s.rd a :=
  State.setActives_induction (P := fun t => t.rd a = s.rd a) f l rfl fun _ _ _ h => (State.rd_wr_ne _ _ ha).trans h

theorem regsFrame_setActives (f : Nat → Option Bool) (l : List Nat) : regsFrame s (s.setActives f l) :=
  State.setActives_induction f l (regsFrame_refl s) fun t _ _ h => regsFrame_trans h (regsFrame_wr t _ _)

theorem onlyFields_setActives {t : State} {fs : List Fld} (f : Nat → Option Bool) (l : List Nat)
    (hf : whole A.CKGEN_ACTIVE ∈ fs) (h : onlyFields s t fs) : onlyFields s (t.setActives f l) fs :=
  State.setActives_induction (P := fun u => onlyFields s u fs) f l h fun _ _ _ hu => onlyFields_wr _ _ hf hu

/-- A walk over branches whose every step sets an ACTIVE bit by modes and locks, which no such step moves. -/
theorem State.foldl_eq_setActives {g : State → Nat → State} {f : Nat → Option Bool} (l : List Nat) {s : State}
    (h : ∀ t : State, t.rd A.CKGEN_GATE = s.rd A.CKGEN_GATE → t.rd A.CKGEN_PLL_STATUS = s.rd A.CKGEN_PLL_STATUS →
      ∀ br, g t br = (f br).elim t (t.setActive br)) :
    l.foldl g s = s.setActives f l := by
  induction l generalizing s with
  | nil => rfl
  | cons br l ih =>
    rw [List.foldl_cons, h s rfl rfl br, State.setActives_cons]
    cases f br with
    | none => exact ih h
    | some on =>
      exact ih fun t hgate hpll => h t (hgate.trans (State.rd_wr_ne _ _ (by decide)))
        (hpll.trans (State.rd_wr_ne _ _ (by decide)))

/-- The mode of a branch is read from CKGEN.GATE. -/
theorem State.gateMode_of_rd {s t : State} (h : t.rd A.CKGEN_GATE = s.rd A.CKGEN_GATE) (br : Nat) :
    t.gateMode br = s.gateMode br := by
  unfold State.gateMode
  rw [h]

/-- Whether a branch is fed is read from CKGEN.PLL_STATUS. -/
theorem State.fed_of_rd {s t : State} (h : t.rd A.CKGEN_PLL_STATUS = s.rd A.CKGEN_PLL_STATUS) (br : Nat) :
    t.fed br = s.fed br := by
  unfold State.fed State.fld
  simp only [F.CKGEN_PLL_STATUS_LOCK, h]

/-! ### BRANCH_WAKE and BRANCH_IDLE_STOP -/

/-- One branch started or stopped leaves the other fifteen, and every other register. -/
theorem State.setActive_leaves (b : Nat) (on : Bool) (hb : b < 16) :
    (s.setActive b on).active b = on ∧ (∀ c, c < 16 → c ≠ b → (s.setActive b on).active c = s.active c) ∧
      onlyFields s (s.setActive b on) [whole A.CKGEN_ACTIVE] := by
  refine ⟨?_, ?_, onlyFields_wr _ _ (by simp) (onlyFields_refl s _)⟩
  · rw [State.active_setActive s b on hb, if_pos rfl]
  · intro c hc hne
    rw [State.active_setActive s b on hc, if_neg hne]

/-! ### GATE_WRITE -/

/-- The ACTIVE bit that a branch takes from a GATE word (R95, R96). -/
def State.gateMoves (s : State) (w : Word) (br : Nat) : Option Bool :=
  if getBits w (2 * br) 2 = 0 then some false
  else if getBits w (2 * br) 2 = 2 ∧ s.fed br = true then some true else none

theorem State.applyGate_eq (w : Word) :
    s.applyGate w = (s.wr A.CKGEN_GATE w).setActives (s.gateMoves w) allBranches := by
  refine State.foldl_eq_setActives _ fun t hgate hpll br => ?_
  have hmode : t.gateMode br = getBits w (2 * br) 2 := by
    rw [State.gateMode_of_rd hgate, State.gateMode, State.rd_wr_same]
  have hfed : t.fed br = s.fed br := State.fed_of_rd (hpll.trans (State.rd_wr_ne s w (by decide))) br
  rw [hmode, hfed]
  unfold State.gateMoves
  split
  · rfl
  · split <;> rfl

/-- A GATE word that sets a mode which a branch may not have is not legal for it (R61, R62, R95, R96). -/
theorem State.not_gateLegal {s : State} {w : Word} {b : Nat}
    (h : getBits w (2 * b) 2 = 3 ∨ (b = 15 ∧ getBits w (2 * b) 2 ≠ 2) ∨ (12 ≤ b ∧ getBits w (2 * b) 2 = 1) ∨
      (getBits w (2 * b) 2 = 0 ∧ (s.fld F.CKGEN_PIN_BRANCHES).testBit b = true) ∨
      (getBits w (2 * b) 2 ≠ 0 ∧ ∃ p, pllOf b = some p ∧ (s.fld F.CKGEN_PLL_CTRL_EN).testBit p = false)) :
    s.gateLegal w b = false := by
  unfold State.gateLegal
  rcases h with hreserved | ⟨rfl, htime⟩ | ⟨hio, hauto⟩ | ⟨hoff, hpin⟩ | ⟨hon, p, hpll, hen⟩
  · simp [hreserved]
  · simp [htime]
  · simp only [hauto]
    by_cases hb : b = 15 <;> simp [hio, hb]
  · simp [hoff, hpin]
  · simp [hon, hpll, hen]

/-- A write of GATE that is not legal for some branch is refused whole (R9, R62). -/
theorem exec_gateWrite_refused {s : State} {w : Word} {b : Nat} (hb : b < 16) (hrun : s.dark = false)
    (h : s.gateLegal w b = false) : exec (.gateWrite w) s = .next (s.refuse A.CKGEN_GATE .cfgRange) := by
  have hall : ¬ allBranches.all (s.gateLegal w) = true := fun hall =>
    absurd ((List.all_eq_true.mp hall b (List.mem_range.mpr hb)).symm.trans h) (by decide)
  show execGateWrite w s = _
  simp [execGateWrite, hrun, hall]

/-- A legal write of GATE is held and moves the branches (R62, R96). -/
theorem exec_gateWrite_legal {s : State} {w : Word} (hrun : s.dark = false) (h : ∀ b < 16, s.gateLegal w b = true) :
    exec (.gateWrite w) s = .next (s.applyGate w) := by
  have hall : allBranches.all (s.gateLegal w) = true := List.all_eq_true.mpr fun b hb => h b (List.mem_range.mp hb)
  show execGateWrite w s = _
  simp [execGateWrite, hrun, hall]

/-- What a GATE word that is held leaves. -/
theorem State.applyGate_leaves (w : Word) :
    (s.applyGate w).rd A.CKGEN_GATE = w ∧
      (∀ b < 16, getBits w (2 * b) 2 = 0 → (s.applyGate w).active b = false) ∧
      (∀ b < 16, getBits w (2 * b) 2 = 2 → s.fed b = true → (s.applyGate w).active b = true) ∧
      (∀ b < 16, getBits w (2 * b) 2 = 1 → (s.applyGate w).active b = s.active b) ∧
      onlyFields s (s.applyGate w) [whole A.CKGEN_GATE, whole A.CKGEN_ACTIVE] ∧ regsFrame s (s.applyGate w) := by
  have hactive : ∀ b < 16, (s.applyGate w).active b = (s.gateMoves w b).getD (s.active b) := by
    intro b hb
    rw [s.applyGate_eq w, State.active_setActives_all _ _ hb]
    unfold State.active State.fld
    rw [State.rd_wr_ne s w (by decide)]
  refine ⟨?_, fun b hb h => ?_, fun b hb h hfed => ?_, fun b hb h => ?_, ?_, ?_⟩
  · rw [s.applyGate_eq w, State.rd_setActives _ _ _ (by decide), State.rd_wr_same]
  · simp [hactive b hb, State.gateMoves, h]
  · simp [hactive b hb, State.gateMoves, h, hfed]
  · simp [hactive b hb, State.gateMoves, h]
  · rw [s.applyGate_eq w]
    exact onlyFields_setActives s _ _ (by simp) (onlyFields_wr _ _ (by simp) (onlyFields_refl s _))
  · rw [s.applyGate_eq w]
    exact regsFrame_trans (regsFrame_wr s _ _) (regsFrame_setActives _ _ _)

/-- CFG_STATUS of CKGEN. -/
theorem cfgStatusOf_gate : cfgStatusOf A.CKGEN_GATE = 0x40010004 ∧ cfgStatusOf A.CKGEN_PLL_CTRL = 0x40010004 := by
  decide

/-- What a refused write of GATE leaves. -/
theorem State.refuse_gate_leaves :
    (s.refuse A.CKGEN_GATE .cfgRange).rd A.CKGEN_GATE = s.rd A.CKGEN_GATE ∧
      (getBits (s.rd 0x40010004) 0 8 = 0 →
        getBits ((s.refuse A.CKGEN_GATE .cfgRange).rd 0x40010004) 0 8 = 2) ∧
      onlyFields s (s.refuse A.CKGEN_GATE .cfgRange) [whole 0x40010004] ∧
      regsFrame s (s.refuse A.CKGEN_GATE .cfgRange) := by
  obtain ⟨hstatus, -⟩ := cfgStatusOf_gate
  refine ⟨State.refuse_rd s _ _ _ (by decide), fun h => ?_,
    onlyFields_refuse _ _ (by rw [hstatus]; simp) (onlyFields_refl s _), regsFrame_refuse s _ _⟩
  exact hstatus ▸ State.refuse_code s A.CKGEN_GATE .cfgRange (by rw [hstatus]; exact h)

/-! ### PLL_CTRL_WRITE, PLL_LOCK and PLL_UNLOCK -/

/-- A word that clears EN of a PLL which may not stop is not legal (R95). -/
theorem State.not_pllLegal {s : State} {w : Word} {p : Nat} (hp : p < 5) (hclear : w.getLsbD p = false)
    (hen : (s.fld F.CKGEN_PLL_CTRL_EN).testBit p = true)
    (h : p = 0 ∨ p = 3 ∨ ∃ b < 16, pllOf b = some p ∧ s.gateMode b ≠ 0) : s.pllLegal w = false := by
  have hfree : s.pllFree p = false := by
    unfold State.pllFree
    rcases h with rfl | rfl | ⟨b, hb, hpll, hmode⟩
    · rfl
    · rfl
    · have hall : allBranches.all (fun br => decide (pllOf br ≠ some p) || decide (s.gateMode br = 0)) = false :=
        List.all_eq_false.mpr ⟨b, List.mem_range.mpr hb, by simp [hpll, hmode]⟩
      rw [hall, Bool.and_false]
  exact List.all_eq_false.mpr ⟨p, List.mem_range.mpr hp, by simp [hclear, hen, hfree]⟩

/-- What a legal PLL_CTRL word leaves: EN held, and the LOCK bits of PLLs that stop dropped (R95). -/
theorem exec_pllCtrlWrite_legal {s : State} {w : Word} (hrun : s.dark = false) (h : s.pllLegal w = true) :
    ∃ t, exec (.pllCtrlWrite w) s = .next t ∧ t.fld F.CKGEN_PLL_CTRL_EN = getBits w 0 5 ∧
      t.fld F.CKGEN_PLL_STATUS_LOCK = s.fld F.CKGEN_PLL_STATUS_LOCK &&& getBits w 0 5 ∧
      onlyFields s t [F.CKGEN_PLL_CTRL_EN, F.CKGEN_PLL_STATUS_LOCK] ∧ t = { s with regs := t.regs } := by
  have hlock : (s.setFld F.CKGEN_PLL_CTRL_EN (getBits w 0 5)).fld F.CKGEN_PLL_STATUS_LOCK =
      s.fld F.CKGEN_PLL_STATUS_LOCK := State.fld_setFld_ne _ _ _ _ (by decide)
  have hexec : exec (.pllCtrlWrite w) s = .next ((s.setFld F.CKGEN_PLL_CTRL_EN (getBits w 0 5)).setFld
      F.CKGEN_PLL_STATUS_LOCK (s.fld F.CKGEN_PLL_STATUS_LOCK &&& getBits w 0 5)) := by
    show execPllCtrlWrite w s = _
    simp [execPllCtrlWrite, hrun, h, hlock]
  refine ⟨_, hexec, ?_, ?_, ?_, rfl⟩
  · rw [State.fld_setFld_ne _ _ _ _ (by decide), State.fld_setFld_same _ _ _ (by decide)]
    exact Nat.mod_eq_of_lt (getBits_lt w 0 5)
  · rw [State.fld_setFld_same _ _ _ (by decide)]
    exact Nat.mod_eq_of_lt (Nat.and_lt_two_pow _ (getBits_lt w 0 5))
  · exact onlyFields_setFld _ _ (by simp) (onlyFields_setFld _ _ (by simp) (onlyFields_refl s _))

/-- A PLL_CTRL word that is not legal is refused whole (R9, R95). -/
theorem exec_pllCtrlWrite_refused {s : State} {w : Word} (hrun : s.dark = false) (h : s.pllLegal w = false) :
    exec (.pllCtrlWrite w) s = .next (s.refuse A.CKGEN_PLL_CTRL .cfgRange) := by
  show execPllCtrlWrite w s = _
  simp [execPllCtrlWrite, hrun, h]

/-- A PLL's bit rises in a field of PLL_STATUS. -/
theorem State.testBit_setFld_or {f : Fld} (v : Nat) {p : Nat} (hf : f.lo + f.len ≤ 32) (hp : p < f.len) :
    ((s.setFld f (v ||| 2 ^ p)).fld f).testBit p = true := by
  simp [State.fld_setFld_same s f _ hf, Nat.testBit_mod_two_pow, hp]

/-- The ON branches of PLL `p` run (R95). -/
def State.pllStarts (s : State) (p br : Nat) : Option Bool :=
  if pllOf br = some p ∧ s.gateMode br = 2 then some true else none

/-- The branches of PLL `p` stop (R63). -/
def pllStops (p br : Nat) : Option Bool := if pllOf br = some p then some false else none

/-- PLL_LOCK of a PLL that the PMU does not hold stopped: its bit rises, and its ON branches run (R95). -/
theorem exec_pllLock_leaves {s : State} (p : Fin 5) (hen : (s.fld F.CKGEN_PLL_CTRL_EN).testBit p.val = true)
    (hheld : s.pllHeld p.val = false) :
    ∃ t, exec (.pllLock p) s = .next t ∧ (t.fld F.CKGEN_PLL_STATUS_LOCK).testBit p.val = true ∧
      (∀ b < 16, pllOf b = some p.val → s.gateMode b = 2 → t.active b = true) ∧
      onlyFields s t [F.CKGEN_PLL_STATUS_LOCK, whole A.CKGEN_ACTIVE] ∧ t = { s with regs := t.regs } := by
  generalize hs1 : s.setFld F.CKGEN_PLL_STATUS_LOCK (s.fld F.CKGEN_PLL_STATUS_LOCK ||| 2 ^ p.val) = s1
  have hexec : exec (.pllLock p) s = .next (s1.setActives (s.pllStarts p.val) allBranches) := by
    show execPllLock p s = _
    simp only [execPllLock, hen, hheld, Bool.false_eq_true, not_false_eq_true, and_self, if_true, hs1]
    refine congrArg Host.Outcome.next (State.foldl_eq_setActives _ fun t hgate _ br => ?_)
    have hmode : t.gateMode br = s.gateMode br :=
      State.gateMode_of_rd (hgate.trans (by rw [← hs1]; exact State.rd_wr_ne _ _ (by decide))) br
    rw [hmode]
    unfold State.pllStarts
    split <;> rfl
  have hs : onlyFields s s1 [F.CKGEN_PLL_STATUS_LOCK, whole A.CKGEN_ACTIVE] :=
    hs1 ▸ onlyFields_setFld _ _ (by simp) (onlyFields_refl s _)
  have hbit : (s1.fld F.CKGEN_PLL_STATUS_LOCK).testBit p.val = true :=
    hs1 ▸ State.testBit_setFld_or s _ (by decide) p.isLt
  refine ⟨_, hexec, ?_, fun b hb hpll hmode => ?_, onlyFields_setActives s _ _ (by simp) hs,
    regsFrame_trans (hs1 ▸ regsFrame_setFld s _ _) (regsFrame_setActives s1 _ _)⟩
  · unfold State.fld at hbit ⊢
    rw [State.rd_setActives _ _ _ (by decide)]
    exact hbit
  · simp [State.active_setActives_all _ _ hb, State.pllStarts, hpll, hmode]

/-- Taking a set bit from LOCK clears it. -/
theorem testBit_sub_two_pow : ∀ l < 32, ∀ p < 5, l.testBit p = true → ((l - 2 ^ p) % 2 ^ 5).testBit p = false := by
  decide

/-- PLL_UNLOCK of a locked PLL: its branches stop, UNLOCK is set, and PLL_UNLOCK is presented (R63). -/
theorem exec_pllUnlock_leaves {s : State} (p : Fin 5) (hlock : (s.fld F.CKGEN_PLL_STATUS_LOCK).testBit p.val = true)
    (hrun : s.dark = false) (hroom : s.flt.queue.length < 16) :
    ∃ t, exec (.pllUnlock p) s = .next t ∧ (t.fld F.CKGEN_PLL_STATUS_LOCK).testBit p.val = false ∧
      (t.fld F.CKGEN_PLL_STATUS_UNLOCK).testBit p.val = true ∧
      (∀ b < 16, pllOf b = some p.val → t.active b = false) ∧
      t.flt.queue = s.flt.queue ++ [{ src := 0x05, unit := p.val, perm := false, inj := false, full := false }] ∧
      onlyFields s t [F.CKGEN_PLL_STATUS_LOCK, F.CKGEN_PLL_STATUS_UNLOCK, whole A.CKGEN_ACTIVE] ∧
      t = { s with regs := t.regs, flt := t.flt } := by
  generalize hs1 : (s.setFld F.CKGEN_PLL_STATUS_LOCK (s.fld F.CKGEN_PLL_STATUS_LOCK - 2 ^ p.val)).setFld
    F.CKGEN_PLL_STATUS_UNLOCK (s.fld F.CKGEN_PLL_STATUS_UNLOCK ||| 2 ^ p.val) = s1
  have hexec : exec (.pllUnlock p) s = .next ((s1.setActives (pllStops p.val) allBranches).present 0x05 p.val) := by
    show execPllUnlock p s = _
    simp only [execPllUnlock, hlock, hrun, Bool.false_eq_true, not_false_eq_true, and_self, if_true, hs1]
    refine congrArg (fun u : State => Host.Outcome.next (u.present 0x05 p.val))
      (State.foldl_eq_setActives _ fun t _ _ br => ?_)
    unfold pllStops
    split <;> rfl
  have hs : onlyFields s s1 [F.CKGEN_PLL_STATUS_LOCK, F.CKGEN_PLL_STATUS_UNLOCK, whole A.CKGEN_ACTIVE] :=
    hs1 ▸ onlyFields_setFld _ _ (by simp) (onlyFields_setFld _ _ (by simp) (onlyFields_refl s _))
  have hlow : (s1.fld F.CKGEN_PLL_STATUS_LOCK).testBit p.val = false := by
    rw [← hs1, State.fld_setFld_apart _ _ _ _ (by decide) (by decide), State.fld_setFld_same _ _ _ (by decide)]
    exact testBit_sub_two_pow _ (getBits_lt _ 0 5) _ p.isLt hlock
  have hset : (s1.fld F.CKGEN_PLL_STATUS_UNLOCK).testBit p.val = true :=
    hs1 ▸ State.testBit_setFld_or _ _ (by decide) p.isLt
  have hframe := regsFrame_setActives s1 (pllStops p.val) allBranches
  have hactive : ∀ b < 16, pllOf b = some p.val → (s1.setActives (pllStops p.val) allBranches).active b = false := by
    intro b hb hpll
    simp [State.active_setActives_all _ _ hb, pllStops, hpll]
  have hrd : (s1.setActives (pllStops p.val) allBranches).rd A.CKGEN_PLL_STATUS = s1.rd A.CKGEN_PLL_STATUS :=
    State.rd_setActives s1 _ _ (by decide)
  have honly := onlyFields_setActives s (pllStops p.val) allBranches (by simp) hs
  generalize s1.setActives _ allBranches = u at hexec hframe hactive hrd honly
  have hu : regsFrame s u := regsFrame_trans (hs1 ▸ rfl) hframe
  have hqueue : u.flt = s.flt := by rw [hu]
  rw [State.present_of_room u 0x05 p.val (by rw [hqueue]; exact hroom)] at hexec
  refine ⟨_, hexec, ?_, ?_, hactive, congrArg (·.queue ++ _) hqueue, onlyFields_of_regs rfl honly, ?_⟩
  · unfold State.fld at hlow ⊢
    exact hrd ▸ hlow
  · unfold State.fld at hset ⊢
    exact hrd ▸ hset
  · unfold regsFrame at hu
    rw [hu]

/-- CLOCK_LOSS sets the bit of its input and is presented (R63). -/
theorem exec_clockLoss_leaves {s : State} (ao : Bool) (hrun : s.dark = false) (hroom : s.flt.queue.length < 16) :
    ∃ t, exec (.clockLoss ao) s = .next t ∧
      t.flag (if ao then F.CKGEN_PLL_STATUS_AO_LOSS else F.CKGEN_PLL_STATUS_REF_LOSS) = true ∧
      t.flt.queue = s.flt.queue ++
        [{ src := 0x06, unit := if ao then 1 else 0, perm := false, inj := false, full := false }] ∧
      onlyFields s t [if ao then F.CKGEN_PLL_STATUS_AO_LOSS else F.CKGEN_PLL_STATUS_REF_LOSS] := by
  have hfield : ∀ f : Fld, f.lo + f.len ≤ 32 → f.len = 1 → (s.setFld f 1).flag f = true := by
    intro f hf hlen
    simp [State.flag, State.fld_setFld_same s f 1 hf, hlen]
  have hexec : ∀ f, f = (if ao then F.CKGEN_PLL_STATUS_AO_LOSS else F.CKGEN_PLL_STATUS_REF_LOSS) →
      exec (.clockLoss ao) s = .next ((s.setFld f 1).present 0x06 (bit ao)) := by
    rintro f rfl
    show execClockLoss ao s = _
    simp [execClockLoss, hrun]
  have hexec := hexec _ rfl
  rw [State.present_of_room _ 0x06 (bit ao) (by exact hroom)] at hexec
  refine ⟨_, hexec, ?_, rfl, onlyFields_of_regs rfl (onlyFields_setFld _ _ (by simp) (onlyFields_refl s _))⟩
  cases ao
  · exact hfield _ (by decide) (by decide)
  · exact hfield _ (by decide) (by decide)

/-- Settles O13: each clause is the rule of its command. -/
theorem clockBranchesAndPlls : Obligations.ClockBranchesAndPlls := by
  obtain ⟨-, hstatus⟩ := cfgStatusOf_gate
  refine ⟨?_, ?_, ?_, ?_, ?_, ?_, ?_, ?_, ?_⟩
  · intro s b hauto hfed hrun
    have hexec : exec (.branchWake b) s = .next ((s.noteBusy b.val).setActive b.val true) :=
      if_pos ⟨hauto, hfed, by simp [hrun]⟩
    obtain ⟨hset, hother, honly⟩ := (s.noteBusy b.val).setActive_leaves b.val true b.isLt
    exact ⟨_, hexec, hset, hother, honly, rfl⟩
  · intro s b hauto hwork hrun hidle
    have hexec : exec (.branchIdleStop b) s = .next (s.setActive b.val false) :=
      if_pos ⟨hauto, by simp [hwork], by simp [hrun], hidle⟩
    obtain ⟨hset, hother, honly⟩ := s.setActive_leaves b.val false b.isLt
    exact ⟨_, hexec, hset, hother, honly, rfl⟩
  · exact fun s w hrun hlegal => ⟨_, exec_gateWrite_legal hrun hlegal, s.applyGate_leaves w⟩
  · exact fun s w b hb hrun h => ⟨_, exec_gateWrite_refused hb hrun (State.not_gateLegal h), s.refuse_gate_leaves⟩
  · exact fun s w hrun hlegal => exec_pllCtrlWrite_legal hrun hlegal
  · exact fun s w p hrun hp hclear hen h =>
      ⟨_, exec_pllCtrlWrite_refused hrun (State.not_pllLegal hp hclear hen h),
        onlyFields_refuse _ _ (by rw [hstatus]; simp) (onlyFields_refl s _), regsFrame_refuse s _ _⟩
  · exact fun s p hen hheld => exec_pllLock_leaves p hen hheld
  · exact fun s p hlock hrun hroom => exec_pllUnlock_leaves p hlock hrun hroom
  · exact fun s ao hrun hroom => exec_clockLoss_leaves ao hrun hroom

end Sys2Proof.Machine
end

section
/-! SUPPORT. What the parts of a change of power state do to PMU.STATE (R64, R85), and what they leave. -/

namespace Sys2Proof.Machine

variable (s : State)

/-! ### Registers outside the fields that change -/

/-- A register that none of the changed fields lies in reads as before. -/
theorem rd_of_onlyFields {s t : State} {fs : List Fld} {a : Nat} (h : onlyFields s t fs) (ha : ∀ f ∈ fs, a ≠ f.addr) :
    t.rd a = s.rd a := by
  have hfull : ∀ w : Word, getBits w 0 32 = w.toNat := fun w => Nat.mod_eq_of_lt w.isLt
  have hword : getBits (t.rd a) 0 32 = getBits (s.rd a) 0 32 := h (whole a) (Nat.le_refl 32) fun f hf => .inl (ha f hf)
  rw [hfull, hfull] at hword
  exact BitVec.eq_of_toNat_eq hword

/-- A field of a register that reads as before. -/
theorem fld_of_rd {s t : State} {f : Fld} (h : t.rd f.addr = s.rd f.addr) : t.fld f = s.fld f :=
  congrArg (fun w => getBits w f.lo f.len) h

/-- A flag of a register that reads as before. -/
theorem flag_of_rd {s t : State} {f : Fld} (h : t.rd f.addr = s.rd f.addr) : t.flag f = s.flag f := by
  unfold State.flag
  rw [fld_of_rd h]

/-- A field that is not wider than its register holds a number of its width. -/
theorem State.fld_lt (f : Fld) : s.fld f < 2 ^ f.len := getBits_lt _ _ _

/-! ### The outcome of a request -/

theorem State.fld_last {c : Nat} (h : c < 16) : (s.last c).fld F.PMU_STATE_LAST = c := by
  rw [State.last, State.fld_setFld_same _ _ _ (by decide)]
  exact Nat.mod_eq_of_lt h

/-- The outcome is shown in LAST alone. -/
theorem State.fld_last_ne {c : Nat} {f : Fld} (hf : f.lo + f.len ≤ 32)
    (h : f.addr ≠ A.PMU_STATE ∨ f.lo + f.len ≤ 8 ∨ 12 ≤ f.lo) : (s.last c).fld f = s.fld f :=
  onlyFields_setFld F.PMU_STATE_LAST c (List.mem_singleton_self _) (onlyFields_refl s _) f hf
    fun _ hg => List.mem_singleton.mp hg ▸ h

theorem State.cur_last (c : Nat) : (s.last c).fld F.PMU_STATE_CUR = s.fld F.PMU_STATE_CUR :=
  s.fld_last_ne (by decide) (by decide)

theorem State.busy_last (c : Nat) : (s.last c).flag F.PMU_STATE_BUSY = s.flag F.PMU_STATE_BUSY := by
  unfold State.flag
  rw [s.fld_last_ne (by decide) (by decide)]

/-! ### The start and the end of a transition -/

theorem State.busy_transition (m : PMode) : (s.transition m).flag F.PMU_STATE_BUSY = true := by
  unfold State.flag State.transition
  rw [State.fld_setFld_same _ _ _ (by decide)]
  rfl

theorem onlyFields_transition (m : PMode) {fs : List Fld} (hf : F.PMU_STATE_BUSY ∈ fs) :
    onlyFields s (s.transition m) fs :=
  onlyFields_setFld _ _ hf (onlyFields_of_regs rfl (onlyFields_refl s fs))

theorem State.cur_arrive {c : Nat} (h : c < 8) : (s.arrive c).fld F.PMU_STATE_CUR = c := by
  rw [State.arrive, State.fld_setFld_same _ _ _ (by decide)]
  exact Nat.mod_eq_of_lt h

theorem State.busy_arrive (c : Nat) : (s.arrive c).flag F.PMU_STATE_BUSY = false := by
  unfold State.flag State.arrive
  rw [State.fld_setFld_apart _ _ _ _ (by decide) (by decide), State.fld_setFld_same _ _ _ (by decide)]
  rfl

theorem onlyFields_arrive (c : Nat) {fs : List Fld} (hbusy : F.PMU_STATE_BUSY ∈ fs) (hcur : F.PMU_STATE_CUR ∈ fs) :
    onlyFields s (s.arrive c) fs :=
  onlyFields_setFld _ _ hcur (onlyFields_setFld _ _ hbusy (onlyFields_of_regs rfl (onlyFields_refl s fs)))

theorem State.cur_enter {c : Nat} (h : c < 8) : (s.enter c).fld F.PMU_STATE_CUR = c := by
  rw [State.enter, State.fld_setFld_same _ _ _ (by decide)]
  exact Nat.mod_eq_of_lt h

theorem onlyFields_enter (c : Nat) {fs : List Fld} (hcur : F.PMU_STATE_CUR ∈ fs) : onlyFields s (s.enter c) fs :=
  onlyFields_setFld _ _ hcur (onlyFields_of_regs rfl (onlyFields_refl s fs))

/-! ### What the cores show -/

/-- CORE_STATUS of each core lies in the window of DISPATCH. -/
theorem ne_coreStatus {a c : Nat} (hc : c < 9) (ha : windowOf a ≠ 0x09) : a ≠ A.DISPATCH_CORE_STATUS c := by
  rintro rfl
  apply ha
  unfold windowOf A.DISPATCH_CORE_STATUS
  omega

theorem State.foldl_syncCore_kept (l : List Nat) (hl : ∀ c ∈ l, c < 9) :
    regsFrame s (l.foldl (fun t c => t.syncCore c) s) ∧
      ∀ a, windowOf a ≠ 0x09 → (l.foldl (fun t c => t.syncCore c) s).rd a = s.rd a := by
  induction l generalizing s with
  | nil => exact ⟨rfl, fun _ _ => rfl⟩
  | cons c l ih =>
    obtain ⟨hframe, hrd⟩ := ih (s.syncCore c) fun d hd => hl d (List.mem_cons_of_mem c hd)
    have hone : regsFrame s (s.syncCore c) := rfl
    have hc := hl c List.mem_cons_self
    exact ⟨regsFrame_trans hone hframe, fun a ha => (hrd a ha).trans ((s.syncCore_kept c).2 a (ne_coreStatus hc ha))⟩

/-- Showing what the cores do changes registers of DISPATCH alone. -/
theorem State.syncCores_kept : regsFrame s s.syncCores ∧ ∀ a, windowOf a ≠ 0x09 → s.syncCores.rd a = s.rd a :=
  s.foldl_syncCore_kept allCores fun _ hc => List.mem_range.mp hc

end Sys2Proof.Machine
end

section
/-! The requests of a power state (R64, R67, R72, R73, R85, R599), each by the checks that it makes. -/

namespace Sys2Proof.Machine

section requests

variable {s : State} (hrun : s.dark = false)
include hrun

/-- With a transition under way a request of any state is answered BUSY (R64). -/
theorem exec_stateReq_busy {c : Int} {i : Instr}
    (hi : i ∈ [.stateReqRun, .stateReqTrim, .stateReqWatch, .stateReqSleep c])
    (hbusy : s.flag F.PMU_STATE_BUSY = true) :
    exec i s = .next (s.last lastBusy) := by
  have hlit : ¬ (s.dark = true ∧ s.power.mode ≠ .sleepEntry) := by simp [hrun]
  simp only [List.mem_cons, List.not_mem_nil, or_false] at hi
  rcases hi with rfl | rfl | rfl | rfl
  all_goals exact (if_neg hlit).trans (if_pos hbusy)

variable (hbusy : s.flag F.PMU_STATE_BUSY = false)
include hbusy

theorem exec_stateReqRun : exec .stateReqRun s =
    .next (if s.fld F.PMU_STATE_CUR = 2 then s.transition (.watchExit true) else (s.enter 0).last lastDone) := by
  show execStateReqRun s = _
  simp only [execStateReqRun, hrun, hbusy, Bool.false_eq_true, false_and, if_false]
  split <;> rfl

theorem exec_stateReqTrim : exec .stateReqTrim s =
    .next (if s.fld F.PMU_STATE_CUR = 2 then s.last lastBadTarget else (s.enter 1).last lastDone) := by
  show execStateReqTrim s = _
  simp only [execStateReqTrim, hrun, hbusy, Bool.false_eq_true, false_and, if_false]
  split <;> rfl

/-- From Run or Trim the Watch entry starts, unless a registered flow is admitted or the host is active (R64). -/
theorem exec_stateReqWatch (hcur : s.fld F.PMU_STATE_CUR ≠ 2) : exec .stateReqWatch s =
    .next (if s.fld F.REGSVC_TOTALS_FLOWS ≠ 0 then s.last lastRegActive
      else if s.hostActive = true then s.last lastHostActive else (s.transition .watchEntry).syncCores) := by
  show execStateReqWatch s = _
  simp only [execStateReqWatch, hrun, hbusy, hcur, State.regActive, decide_eq_true_eq, Bool.false_eq_true, false_and,
    if_false]
  split
  · rfl
  · split <;> rfl

/-- The checks of Sleep in the order of R64's table, once the host is not active. -/
theorem exec_stateReqSleep {c : Int} (hhost : s.fld F.PMU_STATE_CUR = 2 ∨ s.hostActive = false) :
    exec (.stateReqSleep c) s =
      .next (if s.canWake = false then s.last lastNoWake
        else if 400 < 60 + popCount 8 (s.fld F.PMU_RET_CFG_KEEP) * bankLoad c then (s.setTemp c).last lastSleepBudget
        else if s.fld F.PMU_STATE_CUR ≠ 2 ∧ s.fld F.REGSVC_TOTALS_FLOWS ≠ 0 then (s.setTemp c).last lastRegActive
        else ((s.setTemp c).transition .sleepEntry).endGrant) := by
  have hquiet : ¬ (s.fld F.PMU_STATE_CUR ≠ 2 ∧ s.hostActive = true) := by
    rintro ⟨hcur, hactive⟩
    rcases hhost with h | h
    · exact hcur h
    · exact absurd (hactive.symm.trans h) (by decide)
  show execStateReqSleep c s = _
  simp only [execStateReqSleep, hrun, hbusy, hquiet, sleepLoad, State.regActive, decide_eq_true_eq, Bool.not_eq_true,
    Bool.false_eq_true, false_and, if_false]
  split
  · rfl
  · split
    · rfl
    · split <;> rfl

theorem exec_stateReqRun_leaves :
    ∃ t, exec .stateReqRun s = .next t ∧
      (s.fld F.PMU_STATE_CUR ≠ 2 →
        t.fld F.PMU_STATE_CUR = 0 ∧ t.fld F.PMU_STATE_LAST = 1 ∧ t.power.mode = s.power.mode) ∧
      (s.fld F.PMU_STATE_CUR = 2 → t.power.mode = .watchExit true ∧ t.flag F.PMU_STATE_BUSY = true) ∧
      onlyFields s t [F.PMU_STATE_CUR, F.PMU_STATE_LAST, F.PMU_STATE_BUSY] ∧
      t = { s with regs := t.regs, power := t.power } := by
  rw [exec_stateReqRun hrun hbusy]
  by_cases hcur : s.fld F.PMU_STATE_CUR = 2
  · rw [if_pos hcur]
    exact ⟨_, rfl, fun h => absurd hcur h, fun _ => ⟨rfl, s.busy_transition _⟩,
      onlyFields_transition s _ (by simp), rfl⟩
  · rw [if_neg hcur]
    exact ⟨_, rfl, fun _ => ⟨(State.cur_last _ _).trans (s.cur_enter (by decide)), State.fld_last _ (by decide), rfl⟩,
      fun h => absurd h hcur, onlyFields_setFld _ _ (by simp) (onlyFields_enter s 0 (by simp)), rfl⟩

theorem exec_stateReqTrim_leaves :
    ∃ t, exec .stateReqTrim s = .next t ∧
      (s.fld F.PMU_STATE_CUR ≠ 2 → t.fld F.PMU_STATE_CUR = 1 ∧ t.fld F.PMU_STATE_LAST = 1) ∧
      (s.fld F.PMU_STATE_CUR = 2 → t.fld F.PMU_STATE_CUR = 2 ∧ t.fld F.PMU_STATE_LAST = 8) ∧
      onlyFields s t [F.PMU_STATE_CUR, F.PMU_STATE_LAST] ∧ t.power.mode = s.power.mode ∧
      t = { s with regs := t.regs, power := t.power } := by
  rw [exec_stateReqTrim hrun hbusy]
  by_cases hcur : s.fld F.PMU_STATE_CUR = 2
  · rw [if_pos hcur]
    exact ⟨_, rfl, fun h => absurd hcur h, fun _ => ⟨(s.cur_last _).trans hcur, s.fld_last (by decide)⟩,
      onlyFields_setFld _ _ (by simp) (onlyFields_refl s _), rfl, rfl⟩
  · rw [if_neg hcur]
    exact ⟨_, rfl, fun _ => ⟨(State.cur_last _ _).trans (s.cur_enter (by decide)), State.fld_last _ (by decide)⟩,
      fun h => absurd h hcur, onlyFields_setFld _ _ (by simp) (onlyFields_enter s 1 (by simp)), rfl, rfl⟩

theorem exec_stateReqWatch_leaves (hcur : s.fld F.PMU_STATE_CUR ≠ 2) :
    ∃ t, exec .stateReqWatch s = .next t ∧
      (s.fld F.REGSVC_TOTALS_FLOWS ≠ 0 → t.fld F.PMU_STATE_LAST = 7 ∧ t.power = s.power) ∧
      (s.fld F.REGSVC_TOTALS_FLOWS = 0 → s.hostActive = true → t.fld F.PMU_STATE_LAST = 5 ∧ t.power = s.power) ∧
      (s.fld F.REGSVC_TOTALS_FLOWS = 0 → s.hostActive = false →
        t.power.mode = .watchEntry ∧ t.flag F.PMU_STATE_BUSY = true) ∧
      t = { s with regs := t.regs, power := t.power } := by
  rw [exec_stateReqWatch hrun hbusy hcur]
  by_cases hflows : s.fld F.REGSVC_TOTALS_FLOWS = 0
  · rw [if_neg (not_not_intro hflows)]
    by_cases hhost : s.hostActive = true
    · rw [if_pos hhost]
      exact ⟨_, rfl, fun h => absurd hflows h, fun _ _ => ⟨s.fld_last (by decide), rfl⟩,
        fun _ h => absurd (hhost.symm.trans h) (by decide), rfl⟩
    · rw [if_neg hhost]
      obtain ⟨hframe, hrd⟩ := (s.transition .watchEntry).syncCores_kept
      have hflag : (s.transition .watchEntry).syncCores.flag F.PMU_STATE_BUSY = true :=
        (flag_of_rd (hrd A.PMU_STATE (by decide))).trans (s.busy_transition _)
      refine ⟨_, rfl, fun h => absurd hflows h, fun _ h => absurd h hhost, fun _ _ => ⟨?_, hflag⟩, ?_⟩
      · rw [hframe]
        rfl
      · rw [hframe]
        rfl
  · rw [if_pos hflows]
    exact ⟨_, rfl, fun _ => ⟨s.fld_last (by decide), rfl⟩, fun h => absurd h hflows, fun h => absurd h hflows, rfl⟩

theorem exec_stateReqSleep_leaves {c : Int} (hhost : s.fld F.PMU_STATE_CUR = 2 ∨ s.hostActive = false) :
    ∃ t, exec (.stateReqSleep c) s = .next t ∧
      (s.canWake = false → t.fld F.PMU_STATE_LAST = 6 ∧ t.power = s.power) ∧
      (s.canWake = true → 400 < 60 + popCount 8 (s.fld F.PMU_RET_CFG_KEEP) * bankLoad c →
        t.fld F.PMU_STATE_LAST = 2 ∧ t.power.mode = s.power.mode) ∧
      (s.canWake = true → 60 + popCount 8 (s.fld F.PMU_RET_CFG_KEEP) * bankLoad c ≤ 400 →
        (s.fld F.PMU_STATE_CUR = 2 ∨ s.fld F.REGSVC_TOTALS_FLOWS = 0) →
        t.power.mode = .sleepEntry ∧ t.flag F.PMU_STATE_BUSY = true ∧ t.fld F.DBG_STATUS_LEVEL = 0) ∧
      t = { s with regs := t.regs, power := t.power } := by
  have htemp := s.setTemp_frame c
  have hmode : (s.setTemp c).power.mode = s.power.mode := by rw [htemp]
  rw [exec_stateReqSleep hrun hbusy hhost]
  by_cases hwake : s.canWake = false
  · rw [if_pos hwake]
    have hnot : s.canWake ≠ true := by simp [hwake]
    exact ⟨_, rfl, fun _ => ⟨s.fld_last (by decide), rfl⟩, fun h => absurd h hnot, fun h => absurd h hnot, rfl⟩
  rw [if_neg hwake]
  by_cases hload : 400 < 60 + popCount 8 (s.fld F.PMU_RET_CFG_KEEP) * bankLoad c
  · rw [if_pos hload]
    exact ⟨_, rfl, fun h => absurd h hwake, fun _ _ => ⟨State.fld_last _ (by decide), hmode⟩,
      fun _ h => absurd hload (not_lt.mpr h), by rw [State.last, htemp]; rfl⟩
  rw [if_neg hload]
  by_cases hreg : s.fld F.PMU_STATE_CUR ≠ 2 ∧ s.fld F.REGSVC_TOTALS_FLOWS ≠ 0
  · rw [if_pos hreg]
    exact ⟨_, rfl, fun h => absurd h hwake, fun _ h => absurd h hload,
      fun _ _ h => absurd h (not_or.mpr hreg), by rw [State.last, htemp]; rfl⟩
  · rw [if_neg hreg]
    have hbit : ((s.setTemp c).transition .sleepEntry).endGrant.flag F.PMU_STATE_BUSY = true := by
      unfold State.flag State.endGrant
      rw [State.fld_setFld_ne _ _ _ _ (by decide)]
      exact (s.setTemp c).busy_transition .sleepEntry
    have hlevel : ((s.setTemp c).transition .sleepEntry).endGrant.fld F.DBG_STATUS_LEVEL = 0 :=
      State.fld_setFld_same _ _ _ (by decide)
    exact ⟨_, rfl, fun h => absurd h hwake, fun _ h => absurd h hload, fun _ _ _ => ⟨rfl, hbit, hlevel⟩,
      by rw [State.endGrant, State.transition, htemp]; rfl⟩

end requests

/-- A wake event that was latched undoes the Sleep entry (R75). -/
theorem exec_abortedWake_leaves {s : State} (hmode : s.power.mode = .sleepEntry) (hlatch : s.power.latched ≠ none) :
    ∃ t, exec .abortedWake s = .next t ∧ t.power.mode = .on ∧ t.power.latched = none ∧
      t.fld F.PMU_STATE_CUR = s.fld F.PMU_STATE_CUR ∧ t.flag F.PMU_STATE_BUSY = false ∧
      t.fld F.PMU_STATE_LAST = 3 ∧ onlyFields s t [F.PMU_STATE_CUR, F.PMU_STATE_LAST, F.PMU_STATE_BUSY] ∧
      t = { s with regs := t.regs, power := t.power } :=
  ⟨_, if_pos ⟨hmode, hlatch⟩, rfl, rfl, (State.cur_last _ _).trans (State.cur_arrive _ (s.fld_lt F.PMU_STATE_CUR)),
    (State.busy_last _ _).trans (State.busy_arrive _ _), State.fld_last _ (by decide),
    onlyFields_setFld _ _ (by simp) (onlyFields_arrive (s := { s with power := { s.power with latched := none } }) _
      (by simp) (by simp)), rfl⟩

end Sys2Proof.Machine
end

section
/-! The end of the Watch entry (R67): what each of its parts changes and what it leaves, and from these the command. -/

namespace Sys2Proof.Machine

variable (s : State)

/-! ### A radio that loses power -/

/-- From `s` to `t` nothing has changed but what the Watch entry moves. -/
def watchFrame (s t : State) : Prop :=
  t = { s with regs := t.regs, ctrs := t.ctrs, power := t.power, disp := t.disp, air := t.air, wmac := t.wmac,
               ngr := t.ngr }

theorem watchFrame_trans {s t u : State} (h : watchFrame s t) (k : watchFrame t u) : watchFrame s u := by
  unfold watchFrame at *
  rw [k, h]

theorem watchFrame_of_regs {s t : State} (h : regsFrame s t) : watchFrame s t := by
  unfold regsFrame at h
  rw [h]
  rfl

theorem watchFrame_darken (r : Nat) : watchFrame s (s.darken r) := rfl

/-- The radio that loses power stops; the others stay. -/
theorem State.seq_darken (r q : Nat) : ((s.darken r).radio q).seq = if q = r then .off else (s.radio q).seq := by
  unfold State.radio State.darken smod
  dsimp only
  rw [sget_sput]
  split <;> rfl

/-- The registers of the radios' blocks alone show that a radio has lost power. -/
theorem State.rd_darken {r a : Nat} (hr : r < 4) (ha : windowOf a ∉ [0x90, 0xA0, 0xB0, 0xC0]) :
    (s.darken r).rd a = s.rd a := by
  have hsynth : a ≠ synthStatusOf r := by
    rintro rfl
    interval_cases r <;> exact ha (by decide)
  have hcal : a ≠ A.RADIO_CAL_STATUS r := by
    rintro rfl
    interval_cases r <;> exact ha (by decide)
  show ((s.wr (synthStatusOf r) 0).setFld (F.RADIO_CAL_STATUS_BUSY r) 0).rd a = s.rd a
  rw [State.rd_setFld_ne _ _ _ hcal, State.rd_wr_ne _ _ hsynth]

theorem State.watchLoses_of_rd {s t : State} (h : t.rd A.PMU_WATCH_CFG = s.rd A.PMU_WATCH_CFG) (r : Nat) :
    t.watchLoses r = s.watchLoses r := by
  unfold State.watchLoses
  rw [flag_of_rd (f := F.PMU_WATCH_CFG_NGUORD) h, fld_of_rd (f := F.PMU_WATCH_CFG_RADIO) h]

/-- The radios of `l` that Watch does not keep lose power. -/
def State.darkenLost (s : State) (l : List Nat) : State :=
  l.foldl (fun t r => if t.watchLoses r then t.darken r else t) s

theorem State.darkenLost_cons (r : Nat) (l : List Nat) :
    s.darkenLost (r :: l) = (if s.watchLoses r then s.darken r else s).darkenLost l := rfl

theorem State.darkenLost_kept {l : List Nat} (hl : ∀ r ∈ l, r < 4) : watchFrame s (s.darkenLost l) ∧
    (s.darkenLost l).power = s.power ∧
    ∀ a, windowOf a ∉ [0x90, 0xA0, 0xB0, 0xC0] → (s.darkenLost l).rd a = s.rd a := by
  induction l generalizing s with
  | nil => exact ⟨rfl, rfl, fun _ _ => rfl⟩
  | cons r l ih =>
    have hl' : ∀ q ∈ l, q < 4 := fun q hq => hl q (List.mem_cons_of_mem r hq)
    rw [State.darkenLost_cons]
    split
    · obtain ⟨hframe, hpower, hrd⟩ := ih (s.darken r) hl'
      exact ⟨watchFrame_trans (watchFrame_darken s r) hframe, hpower,
        fun a ha => (hrd a ha).trans (s.rd_darken (hl r List.mem_cons_self) ha)⟩
    · exact ih s hl'

/-- A radio that is off stays off while others lose power. -/
theorem State.darkenLost_off {l : List Nat} {q : Nat} (h : (s.radio q).seq = .off) :
    ((s.darkenLost l).radio q).seq = .off := by
  induction l generalizing s with
  | nil => exact h
  | cons r l ih =>
    rw [State.darkenLost_cons]
    split
    · refine ih (s.darken r) ?_
      rw [State.seq_darken]
      split
      · rfl
      · exact h
    · exact ih s h

/-- Each radio that Watch does not keep is off. -/
theorem State.darkenLost_lost {l : List Nat} (hl : ∀ r ∈ l, r < 4) {q : Nat} (hq : q ∈ l)
    (hlost : s.watchLoses q = true) : ((s.darkenLost l).radio q).seq = .off := by
  induction l generalizing s with
  | nil => exact absurd hq List.not_mem_nil
  | cons r l ih =>
    have hl' : ∀ q ∈ l, q < 4 := fun q hq => hl q (List.mem_cons_of_mem r hq)
    rw [State.darkenLost_cons]
    by_cases hqr : q = r
    · subst hqr
      rw [if_pos hlost]
      refine State.darkenLost_off _ ?_
      rw [State.seq_darken, if_pos rfl]
    · have hq' : q ∈ l := (List.mem_cons.mp hq).resolve_left hqr
      split
      · refine ih (s.darken r) hl' hq' ?_
        rw [State.watchLoses_of_rd (s.rd_darken (hl r List.mem_cons_self) (by decide))]
        exact hlost
      · exact ih s hl' hq' hlost

/-! ### Ports that leave their links -/

/-- A port leaves its link in EMAC.STATUS alone. -/
theorem State.watchUnlink_kept (p : Nat) : regsFrame s (s.watchUnlink p) ∧
    ∀ a, a ≠ A.EMAC_STATUS p → (s.watchUnlink p).rd a = s.rd a := by
  unfold State.watchUnlink
  split
  · exact ⟨rfl, fun _ _ => rfl⟩
  · refine ⟨rfl, fun a ha => ?_⟩
    rw [State.rd_setFld_ne _ _ _ ha, State.rd_setFld_ne _ _ _ ha]

theorem State.watchPort_of_rd {s t : State} (h : t.rd A.PMU_WATCH_CFG = s.rd A.PMU_WATCH_CFG) (p : Nat) :
    t.watchPort p = s.watchPort p := by
  unfold State.watchPort
  rw [h]

theorem State.link_watchUnlink (p q : Nat) : (s.watchUnlink p).flag (F.EMAC_STATUS_LINK q) =
    if q = p ∧ s.watchPort q ≠ 2 then false else s.flag (F.EMAC_STATUS_LINK q) := by
  by_cases hqp : q = p
  · subst hqp
    unfold State.watchUnlink State.watchPort
    split
    · next h => rw [if_neg (by simp [h])]
    · next h =>
      rw [if_pos ⟨rfl, h⟩]
      unfold State.flag
      rw [State.fld_setFld_apart _ _ _ _ (by simp [F.EMAC_STATUS_LINK])
          (by simp [F.EMAC_STATUS_LINK, F.EMAC_STATUS_SPEED]),
        State.fld_setFld_same _ _ _ (by simp [F.EMAC_STATUS_LINK])]
      rfl
  · rw [if_neg (by simp [hqp])]
    refine flag_of_rd ((s.watchUnlink_kept p).2 _ ?_)
    unfold F.EMAC_STATUS_LINK A.EMAC_STATUS
    dsimp only
    omega

/-- Ports that leave their links change EMAC.STATUS alone. -/
theorem State.foldl_watchUnlink_kept (l : List Nat) : regsFrame s (l.foldl State.watchUnlink s) ∧
    (∀ a, (∀ p ∈ l, a ≠ A.EMAC_STATUS p) → (l.foldl State.watchUnlink s).rd a = s.rd a) := by
  induction l generalizing s with
  | nil => exact ⟨rfl, fun _ _ => rfl⟩
  | cons p l ih =>
    obtain ⟨hframe, hrd⟩ := ih (s.watchUnlink p)
    obtain ⟨hone, hkept⟩ := s.watchUnlink_kept p
    exact ⟨regsFrame_trans hone hframe, fun a ha =>
      (hrd a fun q hq => ha q (List.mem_cons_of_mem p hq)).trans (hkept a (ha p List.mem_cons_self))⟩

theorem watchCfg_ne_emacStatus (p : Nat) : A.PMU_WATCH_CFG ≠ A.EMAC_STATUS p := by
  unfold A.PMU_WATCH_CFG A.EMAC_STATUS
  omega

/-- A port of `l` keeps its link in PATTERN mode alone. -/
theorem State.link_foldl_watchUnlink (l : List Nat) (q : Nat) :
    (l.foldl State.watchUnlink s).flag (F.EMAC_STATUS_LINK q) =
      if q ∈ l ∧ s.watchPort q ≠ 2 then false else s.flag (F.EMAC_STATUS_LINK q) := by
  induction l generalizing s with
  | nil => simp
  | cons p l ih =>
    have hport : (s.watchUnlink p).watchPort q = s.watchPort q :=
      State.watchPort_of_rd ((s.watchUnlink_kept p).2 _ (watchCfg_ne_emacStatus p)) q
    rw [List.foldl_cons, ih, State.link_watchUnlink, hport]
    by_cases hmode : s.watchPort q = 2
    · simp [hmode]
    · by_cases hq : q ∈ l <;> simp [hmode, hq]

/-! ### The clocks and voltages of the cores, and the clock of DRAM -/

variable {l : List Nat}

/-- What changes of clocks and voltages leave, where registers of DISPATCH and those of `l` show them. -/
structure clockMoved (l : List Nat) (s t : State) : Prop where
  frame : t = { s with regs := t.regs, ctrs := t.ctrs, power := t.power, disp := t.disp }
  mode : t.power.mode = s.power.mode
  ready : t.disp.ready = s.disp.ready
  rd : ∀ a, windowOf a ≠ 0x09 → a ∉ l → t.rd a = s.rd a

theorem clockMoved_refl : clockMoved l s s := ⟨rfl, rfl, rfl, fun _ _ _ => rfl⟩

theorem clockMoved_trans {s t u : State} (h : clockMoved l s t) (k : clockMoved l t u) : clockMoved l s u where
  frame := by rw [k.frame, h.frame]
  mode := k.mode.trans h.mode
  ready := k.ready.trans h.ready
  rd := fun a hw ha => (k.rd a hw ha).trans (h.rd a hw ha)

theorem clockMoved_foldl {f : State → Nat → State} {cs : List Nat} (hf : ∀ t, ∀ c ∈ cs, clockMoved l t (f t c)) :
    clockMoved l s (cs.foldl f s) := by
  induction cs generalizing s with
  | nil => exact clockMoved_refl s
  | cons c cs ih =>
    exact clockMoved_trans (hf s c List.mem_cons_self) (ih (f s c) fun t d hd => hf t d (List.mem_cons_of_mem c hd))

theorem clockMoved_setFld {f : Fld} (v : Nat) (hf : f.addr ∈ l) : clockMoved l s (s.setFld f v) where
  frame := rfl
  mode := rfl
  ready := rfl
  rd := fun _ _ ha => State.rd_setFld_ne s f v fun h => ha (h ▸ hf)

theorem clockMoved_countBusy {c : Nat} (hc : c < 9) : clockMoved l s (s.countBusy c) := by
  unfold State.countBusy State.modCore
  split
  · exact ⟨rfl, rfl, rfl, fun a hw _ => (State.syncCore_kept _ c).2 a (ne_coreStatus hc hw)⟩
  · exact clockMoved_refl s

theorem clockMoved_setCoreMhz (mhz : Nat) : clockMoved l s (s.setCoreMhz mhz) := by
  have hcount : clockMoved l s (allCores.foldl State.countBusy s) :=
    clockMoved_foldl s fun t _ hc => clockMoved_countBusy t (List.mem_range.mp hc)
  unfold State.setCoreMhz
  generalize allCores.foldl State.countBusy s = u at hcount
  exact clockMoved_trans hcount ⟨rfl, rfl, rfl, fun _ _ _ => rfl⟩

theorem clockMoved_raiseCores : clockMoved l s s.raiseCores := by
  unfold State.raiseCores
  split
  · exact clockMoved_refl s
  · exact clockMoved_setCoreMhz s 1800

theorem clockMoved_syncCores : clockMoved l s s.syncCores := by
  obtain ⟨hframe, hrd⟩ := s.syncCores_kept
  exact ⟨by rw [hframe], by rw [hframe], by rw [hframe], fun a hw _ => hrd a hw⟩

theorem State.mode_startRail (rail : Nat) : (s.startRail rail).power.mode = s.power.mode := by
  unfold State.startRail PowerSt.hold PowerSt.settle
  dsimp only
  split
  · rfl
  · split
    · split <;> rfl
    · rfl

theorem clockMoved_startAvs (hl : A.PMU_AVS_STATUS ∈ l) : clockMoved l s s.startAvs where
  frame := by rw [(avsStarted_startAvs s).frame]
  mode := ((s.startRail 0).mode_startRail 1).trans (s.mode_startRail 0)
  ready := by rw [(avsStarted_startAvs s).frame]
  rd := fun a _ ha => rd_of_onlyFields (avsStarted_startAvs s).fields fun _ hf =>
    List.mem_singleton.mp hf ▸ fun h => ha (h ▸ hl)

/-- The clocks and voltages of Watch: DRAM in power-down, CPLL without lock, the cores at 250 MHz, and what AVS asks
for. -/
def State.slowDown (s : State) : State :=
  ((((s.setFld F.DRAMC_STATUS_PD 3).setFld F.CKGEN_PLL_STATUS_LOCK
    (s.fld F.CKGEN_PLL_STATUS_LOCK &&& 0x1E)).setCoreMhz 250).markEntry).startAvs.syncCores

theorem clockMoved_markEntry : clockMoved l s s.markEntry := ⟨rfl, rfl, rfl, fun _ _ _ => rfl⟩

theorem clockMoved_slowDown :
    clockMoved [A.DRAMC_STATUS, A.CKGEN_PLL_STATUS, A.PMU_AVS_STATUS] s s.slowDown := by
  unfold State.slowDown
  have hdown : clockMoved [A.DRAMC_STATUS, A.CKGEN_PLL_STATUS, A.PMU_AVS_STATUS] s (s.setFld F.DRAMC_STATUS_PD 3) :=
    clockMoved_setFld s 3 (by decide)
  generalize s.setFld F.DRAMC_STATUS_PD 3 = t at hdown ⊢
  have hlock := clockMoved_trans hdown
    (clockMoved_setFld t (f := F.CKGEN_PLL_STATUS_LOCK) (s.fld F.CKGEN_PLL_STATUS_LOCK &&& 0x1E) (by decide))
  have hmhz := clockMoved_trans hlock (clockMoved_setCoreMhz _ 250)
  have hmark := clockMoved_trans hmhz (clockMoved_markEntry _)
  exact clockMoved_trans (clockMoved_trans hmark (clockMoved_startAvs _ (by decide))) (clockMoved_syncCores _)

end Sys2Proof.Machine
end

section
/-! The ends of the Watch entry and exit (R67, R70) and of the Sleep entry (R73, R77), and the settling of O11. -/

namespace Sys2Proof.Machine

variable {s : State}

/-! ### The end of the Watch entry -/

/-- What the end of a transition in the state `cur` shows, and what it leaves. -/
theorem State.arrive_last_reads (s : State) {cur : Nat} (h : cur < 8) :
    ((s.arrive cur).last lastDone).fld F.PMU_STATE_CUR = cur ∧
      ((s.arrive cur).last lastDone).flag F.PMU_STATE_BUSY = false ∧
      ((s.arrive cur).last lastDone).fld F.PMU_STATE_LAST = 1 ∧
      ∀ a, a ≠ A.PMU_STATE → ((s.arrive cur).last lastDone).rd a = s.rd a := by
  refine ⟨?_, ?_, State.fld_last _ (by decide), fun a ha => ?_⟩
  · rw [State.cur_last, State.cur_arrive _ h]
  · rw [State.busy_last, State.busy_arrive]
  · rw [State.last, State.arrive, State.rd_setFld_ne _ _ _ ha, State.rd_setFld_ne _ _ _ ha, State.rd_setFld_ne _ _ _ ha]
    rfl

theorem exec_watchEntryDone (hmode : s.power.mode = .watchEntry) : exec .watchEntryDone s =
    .next ((List.range 4).foldl State.watchUnlink (((s.arrive 2).last lastDone).darkenLost (List.range 4))).slowDown :=
  if_pos hmode

theorem watchFrame_of_clockMoved {l : List Nat} {s t : State} (h : clockMoved l s t) : watchFrame s t := by
  rw [h.frame]
  rfl

theorem dataKept_trans {s t u : State} (h : dataKept s t) (k : dataKept t u) : dataKept s u := by
  obtain ⟨hbyte, hflash, hhost, hfuses, hpending⟩ := h
  obtain ⟨kbyte, kflash, khost, kfuses, kpending⟩ := k
  exact ⟨fun a => (kbyte a).trans (hbyte a), fun a => (kflash a).trans (hflash a), fun a => (khost a).trans (hhost a),
    kfuses.trans hfuses, kpending.trans hpending⟩

theorem dataKept_of_clockMoved {l : List Nat} {s t : State} (h : clockMoved l s t) : dataKept s t := by
  rw [h.frame]
  exact ⟨fun _ => rfl, fun _ => rfl, fun _ => rfl, rfl, rfl⟩

/-- A register outside the windows of EMAC shows no port's link. -/
theorem ne_emacStatus {a : Nat} (h : windowOf a ∉ [0x10, 0x11, 0x12, 0x13]) {p : Nat} (hp : p < 4) :
    a ≠ A.EMAC_STATUS p := by
  rintro rfl
  interval_cases p <;> exact h (by decide)

/-- The links of the ports once the radios have lost power, the ports have left their links, and the clock is slow. -/
theorem State.link_watchEntered (u : State) {p : Nat} (hp : p < 4) :
    (((List.range 4).foldl State.watchUnlink (u.darkenLost (List.range 4))).slowDown).flag (F.EMAC_STATUS_LINK p) =
      if u.watchPort p ≠ 2 then false else u.flag (F.EMAC_STATUS_LINK p) := by
  obtain ⟨-, -, hdark⟩ := u.darkenLost_kept fun r hr => List.mem_range.mp hr
  rw [flag_of_rd ((clockMoved_slowDown _).rd _ (by interval_cases p <;> decide) (by interval_cases p <;> decide)),
    State.link_foldl_watchUnlink, State.watchPort_of_rd (hdark _ (by decide)),
    flag_of_rd (hdark _ (by interval_cases p <;> decide))]
  simp only [List.mem_range, hp, true_and]

/-- PMU.STATE and what is in the air once the radios have lost power, the ports have left their links, and the clock is
slow. -/
theorem State.watchEntered_kept (u : State) :
    (((List.range 4).foldl State.watchUnlink (u.darkenLost (List.range 4))).slowDown).rd A.PMU_STATE =
      u.rd A.PMU_STATE ∧
    (((List.range 4).foldl State.watchUnlink (u.darkenLost (List.range 4))).slowDown).power.mode = u.power.mode ∧
    (((List.range 4).foldl State.watchUnlink (u.darkenLost (List.range 4))).slowDown).air =
      (u.darkenLost (List.range 4)).air ∧
    watchFrame u (((List.range 4).foldl State.watchUnlink (u.darkenLost (List.range 4))).slowDown) := by
  obtain ⟨hdark, hpower, hdarkRd⟩ := u.darkenLost_kept fun r hr => List.mem_range.mp hr
  obtain ⟨hunlink, hunlinkRd⟩ := (u.darkenLost (List.range 4)).foldl_watchUnlink_kept (List.range 4)
  have hslow := clockMoved_slowDown ((List.range 4).foldl State.watchUnlink (u.darkenLost (List.range 4)))
  refine ⟨?_, ?_, ?_, watchFrame_trans hdark (watchFrame_trans (watchFrame_of_regs hunlink)
    (watchFrame_of_clockMoved hslow))⟩
  · rw [hslow.rd _ (by decide) (by decide), hunlinkRd _ fun p hp => ne_emacStatus (by decide) (List.mem_range.mp hp),
      hdarkRd _ (by decide)]
  · rw [hslow.mode, hunlink]
    exact congrArg PowerSt.mode hpower
  · rw [hslow.frame, hunlink]

theorem exec_watchEntryDone_leaves (hmode : s.power.mode = .watchEntry) :
    ∃ t, exec .watchEntryDone s = .next t ∧ t.power.mode = .on ∧ t.fld F.PMU_STATE_CUR = 2 ∧
      t.flag F.PMU_STATE_BUSY = false ∧ t.fld F.PMU_STATE_LAST = 1 ∧
      (∀ r : Fin 4, s.watchLoses r.val = true → (t.radio r.val).seq = .off) ∧
      (∀ p < 4, s.watchPort p = 2 → t.flag (F.EMAC_STATUS_LINK p) = s.flag (F.EMAC_STATUS_LINK p)) ∧
      (∀ p < 4, s.watchPort p ≠ 2 → t.flag (F.EMAC_STATUS_LINK p) = false) ∧ watchFrame s t := by
  obtain ⟨hcur, hbusy, hlast, hrd⟩ := s.arrive_last_reads (cur := 2) (by decide)
  have hport : ∀ p, ((s.arrive 2).last lastDone).watchPort p = s.watchPort p :=
    State.watchPort_of_rd (hrd _ (by decide))
  obtain ⟨hstate, hpower, hair, hframe⟩ := ((s.arrive 2).last lastDone).watchEntered_kept
  have hlost : ∀ r : Fin 4, s.watchLoses r.val = true →
      ((((s.arrive 2).last lastDone).darkenLost (List.range 4)).radio r.val).seq = .off := fun r hr =>
    State.darkenLost_lost _ (fun q hq => List.mem_range.mp hq) (List.mem_range.mpr r.isLt)
      ((State.watchLoses_of_rd (hrd _ (by decide)) r.val).trans hr)
  have hlink := fun p (hp : p < 4) => ((s.arrive 2).last lastDone).link_watchEntered hp
  have hheld : ∀ p < 4, ((s.arrive 2).last lastDone).flag (F.EMAC_STATUS_LINK p) = s.flag (F.EMAC_STATUS_LINK p) :=
    fun p hp => flag_of_rd (hrd _ (by interval_cases p <;> decide))
  have hstart : watchFrame s ((s.arrive 2).last lastDone) := rfl
  have hexec := exec_watchEntryDone hmode
  generalize ((List.range 4).foldl State.watchUnlink
    (((s.arrive 2).last lastDone).darkenLost (List.range 4))).slowDown = t at hexec hstate hpower hair hframe hlink
  refine ⟨t, hexec, hpower, (fld_of_rd hstate).trans hcur, (flag_of_rd hstate).trans hbusy,
    (fld_of_rd hstate).trans hlast, fun r hr => ?_, fun p hp hpat => ?_, fun p hp hother => ?_,
    watchFrame_trans hstart hframe⟩
  · unfold State.radio
    rw [hair]
    exact hlost r hr
  · rw [hlink p hp, hport, if_neg (not_not_intro hpat)]
    exact hheld p hp
  · rw [hlink p hp, hport, if_pos hother]

/-! ### The end of the Watch exit -/

/-- CPLL is locked again, and nothing listens for WLAN requests. -/
def State.relocked (s : State) : State :=
  { s.setFld F.CKGEN_PLL_STATUS_LOCK (s.fld F.CKGEN_PLL_STATUS_LOCK ||| 1) with
    power := { s.power with keptFrames := [], listenUntil := none } }

/-- The lock of CPLL shows in PLL_STATUS alone. -/
theorem State.relocked_reads (s : State) : (∀ a, a ≠ A.CKGEN_PLL_STATUS → s.relocked.rd a = s.rd a) ∧
    (s.relocked.fld F.CKGEN_PLL_STATUS_LOCK).testBit 0 = true := by
  have hlock : s.relocked.fld F.CKGEN_PLL_STATUS_LOCK = (s.fld F.CKGEN_PLL_STATUS_LOCK ||| 1) % 2 ^ 5 :=
    State.fld_setFld_same s _ _ (by decide)
  have hbit : ∀ n : Nat, ((n ||| 1) % 2 ^ 5).testBit 0 = true := fun n => by
    rw [Nat.testBit_mod_two_pow, Nat.testBit_or]
    simp
  exact ⟨fun a ha => State.rd_setFld_ne s _ _ ha, (congrArg (Nat.testBit · 0) hlock).trans (hbit _)⟩

/-- Where no frame was kept and no thread is READY, the exit ends with the clocks and the cores. -/
theorem exec_watchExitDone (hmode : s.power.mode = .watchExit true) (hready : s.disp.ready = [])
    (hkept : s.power.keptFrames = []) :
    exec .watchExitDone s = .next ((s.arrive 0).last lastDone).relocked.raiseCores.syncCores := by
  have hframes : (((s.arrive 0).last lastDone).setFld F.CKGEN_PLL_STATUS_LOCK
      (((s.arrive 0).last lastDone).fld F.CKGEN_PLL_STATUS_LOCK ||| 1)).power.keptFrames = [] := hkept
  have hplace : ∀ u : State, u.disp.ready = [] → u.raiseCores.placeAll = u.raiseCores := fun u hu => by
    unfold State.placeAll
    rw [(clockMoved_raiseCores (l := []) u).ready, hu, List.foldl_nil]
  rw [← hplace _ (show ((s.arrive 0).last lastDone).relocked.disp.ready = [] from hready)]
  show execWatchExitDone s = _
  simp only [execWatchExitDone, hmode, if_true, hframes, List.filter_nil, List.map_nil, List.append_nil, List.foldl_nil]
  rfl

theorem exec_watchExitDone_leaves (hmode : s.power.mode = .watchExit true) (hready : s.disp.ready = [])
    (hkept : s.power.keptFrames = []) :
    ∃ t, exec .watchExitDone s = .next t ∧ t.power.mode = .on ∧ t.fld F.PMU_STATE_CUR = 0 ∧
      t.flag F.PMU_STATE_BUSY = false ∧ t.fld F.PMU_STATE_LAST = 1 ∧
      (t.fld F.CKGEN_PLL_STATUS_LOCK).testBit 0 = true ∧ dataKept s t := by
  obtain ⟨hcur, hbusy, hlast, -⟩ := s.arrive_last_reads (cur := 0) (by decide)
  obtain ⟨hstate, hlock⟩ := ((s.arrive 0).last lastDone).relocked_reads
  have hdata : dataKept s ((s.arrive 0).last lastDone).relocked := ⟨fun _ => rfl, fun _ => rfl, fun _ => rfl, rfl, rfl⟩
  have hon : ((s.arrive 0).last lastDone).relocked.power.mode = .on := rfl
  have hexec := exec_watchExitDone hmode hready hkept
  generalize ((s.arrive 0).last lastDone).relocked = u at hexec hstate hlock hdata hon
  have hmoved : clockMoved [] u u.raiseCores.syncCores :=
    clockMoved_trans (clockMoved_raiseCores u) (clockMoved_syncCores _)
  have hrd : ∀ a, windowOf a ≠ 0x09 → u.raiseCores.syncCores.rd a = u.rd a :=
    fun a ha => hmoved.rd a ha List.not_mem_nil
  have hshown := (hrd A.PMU_STATE (by decide)).trans (hstate _ (by decide))
  refine ⟨_, hexec, hmoved.mode.trans hon, (fld_of_rd hshown).trans hcur, (flag_of_rd hshown).trans hbusy,
    (fld_of_rd hshown).trans hlast, ?_, ?_⟩
  · rw [fld_of_rd (hrd _ (by decide))]
    exact hlock
  · exact dataKept_trans hdata (dataKept_of_clockMoved hmoved)

/-! ### The end of the Sleep entry -/

/-- The signatures of the kept banks are registers (R77). -/
theorem regsFrame_signatures (l : List Nat) (u : State) (f : Nat → Nat) : regsFrame u (l.foldl (fun t n =>
    t.wr64 (A.PMU_RET_SIG_LO n) (A.PMU_RET_SIG_HI n) (f n)) u) := by
  induction l generalizing u with
  | nil => rfl
  | cons n l ih => exact regsFrame_trans (t := u.wr64 _ _ _) rfl (ih _)

/-- A byte that Sleep loses: shared SRAM, and retention SRAM outside the kept banks (R73, R76). -/
def State.sleepLoses (s : State) (a : Nat) : Bool :=
  inSram a || (inRetention a && !(s.fld F.PMU_RET_CFG_KEEP).testBit ((a - 0x03000000) / 0x80000))

/-- The device as PMIC_SLEEP rises, its signatures held in `u`. -/
def State.fellAsleep (s u : State) : State :=
  { u with mem := u.mem.filter (fun c => !s.sleepLoses c.1), poison := [],
           power := { u.power with mode := .sleep }, pins := { u.pins with pmicSleep := true } }

theorem State.sleepLoses_of_sram {a : Nat} (h : inSram a = true) : s.sleepLoses a = true := by
  unfold State.sleepLoses
  rw [h, Bool.true_or]

/-- Of a retention bank Sleep loses the bytes unless KEEP names the bank. -/
theorem State.sleepLoses_of_bank {a n : Nat} (hn : n < 8) (hlo : 0x03000000 + n * 0x80000 ≤ a)
    (hhi : a < 0x03000000 + (n + 1) * 0x80000) :
    s.sleepLoses a = !(s.fld F.PMU_RET_CFG_KEEP).testBit n := by
  have hsram : inSram a = false := by
    simp only [inSram, decide_eq_false_iff_not]
    omega
  have hret : inRetention a = true := by
    simp only [inRetention, decide_eq_true_eq]
    omega
  have hbank : (a - 0x03000000) / 0x80000 = n := by omega
  rw [State.sleepLoses, hsram, hret, hbank, Bool.false_or, Bool.true_and]

theorem State.byte_fellAsleep (s : State) {u : State} (hmem : u.mem = s.mem) (a : Nat) :
    (s.fellAsleep u).byte a = if s.sleepLoses a = true then 0 else s.byte a := by
  unfold State.byte State.fellAsleep
  dsimp only
  rw [sget_filter memDefault (fun k => !s.sleepLoses k), hmem]
  cases s.sleepLoses a <;> rfl

/-- DRAM in self-refresh, the PLLs stopped, the regulator in low-power mode, and the request's outcome (R73, R85). -/
def State.showAsleep (s : State) : State :=
  ((((s.setFld F.DRAMC_STATUS_SELF_REFRESH 1).setFld F.CKGEN_PLL_STATUS_LOCK 0).setFld
    F.PMU_AO_REG_LP_MODE 1).last lastDone).markEntry

theorem State.fld_markEntry (s : State) (f : Fld) : s.markEntry.fld f = s.fld f := rfl

theorem State.showAsleep_reads (s : State) : s.showAsleep.fld F.PMU_STATE_LAST = 1 ∧
    s.showAsleep.fld F.CKGEN_PLL_STATUS_LOCK = 0 ∧ s.showAsleep.flag F.PMU_AO_REG_LP_MODE = true ∧
    ∀ a, s.showAsleep.byte a = s.byte a := by
  refine ⟨State.fld_last _ (by decide), ?_, ?_, fun _ => rfl⟩
  · rw [State.showAsleep, State.fld_markEntry, State.last, State.fld_setFld_ne _ _ _ _ (by decide),
      State.fld_setFld_ne _ _ _ _ (by decide), State.fld_setFld_same _ _ _ (by decide)]
    rfl
  · rw [State.flag, State.showAsleep, State.fld_markEntry, State.last, State.fld_setFld_ne _ _ _ _ (by decide),
      State.fld_setFld_same _ _ _ (by decide)]
    rfl

theorem exec_sleepEntryDone_leaves (hmode : s.power.mode = .sleepEntry) (hlatch : s.power.latched = none) :
    ∃ t, exec .sleepEntryDone s = .next t ∧ t.power.mode = .sleep ∧ t.pins.pmicSleep = true ∧
      t.fld F.PMU_STATE_LAST = 1 ∧ t.fld F.CKGEN_PLL_STATUS_LOCK = 0 ∧ t.flag F.PMU_AO_REG_LP_MODE = true ∧
      (∀ a, inSram a = true → t.byte a = 0) ∧
      (∀ a n, n < 8 → 0x03000000 + n * 0x80000 ≤ a → a < 0x03000000 + (n + 1) * 0x80000 →
        t.byte a = if (s.fld F.PMU_RET_CFG_KEEP).testBit n then s.byte a else 0) := by
  have hsigned := regsFrame_signatures s.keptBanks s.keysSleepEntry fun n => (s.bankSignature n).toNat
  have hexec : exec .sleepEntryDone s = .next (s.fellAsleep (s.keptBanks.foldl (fun t n =>
      t.wr64 (A.PMU_RET_SIG_LO n) (A.PMU_RET_SIG_HI n) (s.bankSignature n).toNat) s.keysSleepEntry)).showAsleep :=
    if_pos ⟨hmode, hlatch⟩
  have hmem : (s.keptBanks.foldl (fun t n =>
      t.wr64 (A.PMU_RET_SIG_LO n) (A.PMU_RET_SIG_HI n) (s.bankSignature n).toNat) s.keysSleepEntry).mem = s.mem := by
    rw [hsigned]
    rfl
  generalize s.keptBanks.foldl (fun t n =>
    t.wr64 (A.PMU_RET_SIG_LO n) (A.PMU_RET_SIG_HI n) (s.bankSignature n).toNat) s.keysSleepEntry = u at hexec hmem
  obtain ⟨hlast, hlock, hlow, hshown⟩ := (s.fellAsleep u).showAsleep_reads
  have hbyte := fun a => (hshown a).trans (s.byte_fellAsleep hmem a)
  refine ⟨_, hexec, rfl, rfl, hlast, hlock, hlow, fun a ha => ?_, fun a n hn hlo hhi => ?_⟩
  · rw [hbyte, if_pos (State.sleepLoses_of_sram ha)]
  · rw [hbyte, State.sleepLoses_of_bank hn hlo hhi]
    cases Nat.testBit _ n <;> rfl

/-- Settles O11: each request is checked in the order of R64, and each end of a transition is the composition of its
parts. -/
theorem powerStateTransitions : Obligations.PowerStateTransitions := by
  refine ⟨?_, fun s hrun hbusy => exec_stateReqRun_leaves hrun hbusy,
    fun s hrun hbusy => exec_stateReqTrim_leaves hrun hbusy,
    fun s hrun hbusy hcur => exec_stateReqWatch_leaves hrun hbusy hcur,
    fun s hmode => exec_watchEntryDone_leaves hmode,
    fun s hmode hready hkept => exec_watchExitDone_leaves hmode hready hkept,
    fun s c hrun hbusy hhost => exec_stateReqSleep_leaves hrun hbusy hhost,
    fun s hmode hlatch => exec_sleepEntryDone_leaves hmode hlatch,
    fun s hmode hlatch => exec_abortedWake_leaves hmode hlatch⟩
  intro s c i hi hrun hbusy
  exact ⟨_, exec_stateReq_busy hrun hi hbusy, s.fld_last (by decide),
    onlyFields_setFld _ _ (by simp) (onlyFields_refl s _), rfl⟩

end Sys2Proof.Machine
end

section
/-! Wake events (R64, R68, R69, R75, R76, R81, R82, R84, R92): what an event records, the events of each source, and the
exit from Sleep. -/

namespace Sys2Proof.Machine

variable {s : State} {src pat : Nat}

/-! ### What an event records -/

theorem State.firstWake_iff : s.firstWake src = true ↔ s.fld F.PMU_WAKE_CAUSE_FIRST_SRC = 0xF ∨
    (s.power.firstAo = s.aoNow ∧ src < s.fld F.PMU_WAKE_CAUSE_FIRST_SRC) := by
  unfold State.firstWake
  simp only [Bool.or_eq_true, Bool.and_eq_true, decide_eq_true_eq]

/-- The source joins those that SRC holds. -/
theorem State.addWake_src (s : State) (hsrc : src < 9) :
    (s.setFld F.PMU_WAKE_CAUSE_SRC (s.fld F.PMU_WAKE_CAUSE_SRC ||| 2 ^ src)).fld F.PMU_WAKE_CAUSE_SRC =
      s.fld F.PMU_WAKE_CAUSE_SRC ||| 2 ^ src := by
  rw [State.fld_setFld_same _ _ _ (by decide)]
  exact Nat.mod_eq_of_lt
    (Nat.or_lt_two_pow (s.fld_lt F.PMU_WAKE_CAUSE_SRC) (Nat.pow_lt_pow_right (by decide) hsrc))

/-- A wake event is recorded as R82 says. -/
theorem wakeRecorded_recordWake (s : State) (hsrc : src < 9) (hpat : pat < 16) :
    wakeRecorded s (s.recordWake src pat) src pat := by
  by_cases hfirst : s.firstWake src = true
  · have heq : s.recordWake src pat = { ((s.setFld F.PMU_WAKE_CAUSE_SRC
        (s.fld F.PMU_WAKE_CAUSE_SRC ||| 2 ^ src)).setFld F.PMU_WAKE_CAUSE_FIRST_SRC src).setFld
        F.PMU_WAKE_CAUSE_FIRST_PAT pat with power := { s.power with firstAo := s.aoNow } } := if_pos hfirst
    rw [heq]
    refine ⟨?_, fun _ => ⟨?_, ?_⟩, fun hheld hno => absurd (State.firstWake_iff.mp hfirst) (not_or.mpr ⟨hheld, hno⟩),
      ?_, rfl⟩
    · rw [State.fld_of_power, State.fld_setFld_apart _ _ _ _ (by decide) (by decide),
        State.fld_setFld_apart _ _ _ _ (by decide) (by decide), s.addWake_src hsrc]
    · rw [State.fld_of_power, State.fld_setFld_apart _ _ _ _ (by decide) (by decide),
        State.fld_setFld_same _ _ _ (by decide)]
      exact Nat.mod_eq_of_lt (hsrc.trans (by decide))
    · rw [State.fld_of_power, State.fld_setFld_same _ _ _ (by decide)]
      exact Nat.mod_eq_of_lt hpat
    · exact onlyFields_of_regs rfl (onlyFields_setFld _ _ (by simp) (onlyFields_setFld _ _ (by simp)
        (onlyFields_setFld _ _ (by simp) (onlyFields_refl s _))))
  · have heq : s.recordWake src pat =
        s.setFld F.PMU_WAKE_CAUSE_SRC (s.fld F.PMU_WAKE_CAUSE_SRC ||| 2 ^ src) := if_neg hfirst
    rw [heq]
    refine ⟨s.addWake_src hsrc, fun h => absurd (State.firstWake_iff.mpr h) hfirst, fun _ _ => ⟨?_, ?_⟩,
      onlyFields_setFld _ _ (by simp) (onlyFields_refl s _), rfl⟩
    · exact State.fld_setFld_apart _ _ _ _ (by decide) (by decide)
    · exact State.fld_setFld_apart _ _ _ _ (by decide) (by decide)

/-- What was recorded stays recorded while BUSY, the power state and the pins change. -/
theorem wakeRecorded_of_busy {t u : State} (h : wakeRecorded s t src pat) (honly : onlyFields t u [F.PMU_STATE_BUSY])
    (hframe : u = { t with regs := u.regs, power := u.power, pins := u.pins }) : wakeRecorded s u src pat := by
  obtain ⟨hadd, hfirst, hheld, hfields, ht⟩ := h
  have hkept : ∀ f : Fld, f.lo + f.len ≤ 32 → f.addr ≠ A.PMU_STATE → u.fld f = t.fld f := fun f hf ha =>
    honly f hf fun g hg => .inl (List.mem_singleton.mp hg ▸ ha)
  refine ⟨?_, fun h => ?_, fun h k => ?_, fun f hf ha => ?_, ?_⟩
  · rw [hkept _ (by decide) (by decide), hadd]
  · rw [hkept F.PMU_WAKE_CAUSE_FIRST_SRC (by decide) (by decide),
      hkept F.PMU_WAKE_CAUSE_FIRST_PAT (by decide) (by decide)]
    exact hfirst h
  · rw [hkept F.PMU_WAKE_CAUSE_FIRST_SRC (by decide) (by decide),
      hkept F.PMU_WAKE_CAUSE_FIRST_PAT (by decide) (by decide)]
    exact hheld h k
  · rw [honly f hf fun g hg => ha g (List.mem_singleton.mp hg ▸ by simp), hfields f hf ha]
  · rw [hframe, ht]

/-- A frame kept beforehand changes nothing of what an event records. -/
theorem wakeRecorded_of_keptFrames {t : State} {l : List (Bool × List Byte)}
    (h : wakeRecorded { s with power := { s.power with keptFrames := l } } t src pat) : wakeRecorded s t src pat := by
  obtain ⟨hadd, hfirst, hheld, hfields, ht⟩ := h
  exact ⟨hadd, hfirst, hheld, hfields, ht⟩

/-! ### An event in Watch and in Sleep -/

/-- In Watch an enabled event starts the exit to Run. -/
theorem State.wakeEvent_watch (b : Bool) (hmode : s.power.mode = .on) (hcur : s.fld F.PMU_STATE_CUR = 2)
    (hen : (s.fld F.PMU_WAKE_EN_SRC).testBit src = true) :
    s.wakeEvent src b pat = (s.recordWake src pat).transition (.watchExit false) := by
  simp only [State.wakeEvent, hen, hmode, hcur, if_true]

/-- In Watch an enabled event is recorded, and the exit is under way. -/
theorem State.wakeEvent_watch_leaves (b : Bool) (hmode : s.power.mode = .on) (hcur : s.fld F.PMU_STATE_CUR = 2)
    (hen : (s.fld F.PMU_WAKE_EN_SRC).testBit src = true) (hsrc : src < 9) (hpat : pat < 16) :
    wakeRecorded s (s.wakeEvent src b pat) src pat ∧ (s.wakeEvent src b pat).power.mode = .watchExit false ∧
      (s.wakeEvent src b pat).flag F.PMU_STATE_BUSY = true := by
  rw [State.wakeEvent_watch b hmode hcur hen]
  exact ⟨wakeRecorded_of_busy (wakeRecorded_recordWake s hsrc hpat) (onlyFields_transition _ _ (by simp)) rfl, rfl,
    State.busy_transition _ _⟩

/-- In Sleep an enabled event of a source that acts there lowers PMIC_SLEEP. -/
theorem State.wakeEvent_sleep (hmode : s.power.mode = .sleep) (hen : (s.fld F.PMU_WAKE_EN_SRC).testBit src = true) :
    s.wakeEvent src true pat = { s.recordWake src pat with
      power := { (s.recordWake src pat).power with mode := .sleepExit }
      pins := { (s.recordWake src pat).pins with pmicSleep := false } } := by
  simp only [State.wakeEvent, hen, hmode, if_true]

theorem State.wakeEvent_sleep_leaves (hmode : s.power.mode = .sleep)
    (hen : (s.fld F.PMU_WAKE_EN_SRC).testBit src = true) (hsrc : src < 9) :
    wakeRecorded s (s.wakeEvent src true) src 0 ∧ (s.wakeEvent src true).power.mode = .sleepExit ∧
      (s.wakeEvent src true).pins.pmicSleep = false := by
  rw [State.wakeEvent_sleep hmode hen]
  exact ⟨wakeRecorded_of_busy (wakeRecorded_recordWake s hsrc (by decide))
    (onlyFields_of_regs rfl (onlyFields_refl _ _)) rfl, rfl, rfl⟩

/-! ### The sources -/

theorem exec_wakeLinkEnergy {p : Fin 4} (h : s.watchPort p.val = 1) :
    exec (.wakeLinkEnergy p) s = .next (s.wakeEvent p.val false) := if_pos h

theorem exec_wakePatternMatch {p : Fin 4} {f : List Byte} (h : s.watchPort p.val = 2)
    (hmatch : (List.range 16).find? (fun n => s.patMatches n p.val f) = some pat) :
    exec (.wakePatternMatch p f) s = .next (s.wakeEvent p.val false pat) := by
  show execWakePatternMatch p f s = _
  simp only [execWakePatternMatch, h, hmatch, if_true]

theorem State.inWatch_of_on (hmode : s.power.mode = .on) (hcur : s.fld F.PMU_STATE_CUR = 2) : s.inWatch = true := by
  simp only [State.inWatch, hmode, hcur, decide_true, Bool.and_self]

theorem exec_wakeWlanRequest {f : List Byte} {b : DWord} (hin : s.inWatch = true)
    (hlisten : s.power.listenUntil = some b) (hnow : s.now ≤ b.toNat) (hradio : s.fld F.PMU_WATCH_CFG_RADIO ≠ 3) :
    exec (.wakeWlanRequest f) s = .next
      (({ s with power := { s.power with keptFrames := s.power.keptFrames ++ [(true, f)] } } : State).wakeEvent 4
        false) :=
  if_pos ⟨hin, by simp [hlisten, hnow], hradio⟩

theorem exec_wakeNguordFrame {f : List Byte} (hin : s.inWatch = true) (hng : s.flag F.PMU_WATCH_CFG_NGUORD = true) :
    exec (.wakeNguordFrame f) s = .next
      (({ s with power := { s.power with keptFrames := s.power.keptFrames ++ [(false, f)] } } : State).wakeEvent 5
        false) :=
  if_pos ⟨hin, hng⟩

theorem exec_wakePcie (h : s.fld F.HOSTP_CFG_MODE ≠ 0) : exec .wakePcie s = .next (s.wakeEvent 6 true) := if_neg h

theorem exec_wakeAlarm_postmark (hin : s.inWatch = true) (h : s.wakeTrigger = true) :
    exec (.wakeAlarm true) s = .next (s.wakeEvent 7 false) := congrArg Host.Outcome.next (if_pos ⟨hin, h⟩)

/-- PMU.ALARM counts out in Watch and in Sleep (R92). -/
theorem exec_wakeAlarm_pmu (hin : s.inWatch = true ∨ s.power.mode = .sleep) (halarm : s.rd A.PMU_ALARM ≠ 0)
    (hout : s.power.entryAo + (s.rd A.PMU_ALARM).toNat ≤ s.aoNow) :
    exec (.wakeAlarm false) s = .next (s.wakeEvent 7 true) := by
  have hn : (s.rd A.PMU_ALARM).toNat ≠ 0 := fun h => halarm (BitVec.eq_of_toNat_eq h)
  have hstate : (s.inWatch || decide (s.power.mode = .sleep) || decide (s.power.mode = .sleepExit)) = true := by
    rcases hin with h | h <;> simp [h]
  exact if_pos (show s.alarmOut = true by simp [State.alarmOut, hn, hout, hstate])

theorem exec_wakeIn {r : Bool} (h : r = !s.flag F.PMU_WAKE_EN_WAKE_IN_POL) :
    exec (.wakeIn r) s = .next (s.wakeEvent 8 true) := if_pos h

/-- An event of a port that is in ENERGY mode does nothing in Sleep (R64). -/
theorem exec_wakeLinkEnergy_sleep {p : Fin 4} (h : s.watchPort p.val = 1) (hmode : s.power.mode = .sleep) :
    exec (.wakeLinkEnergy p) s = .next s := by
  rw [exec_wakeLinkEnergy h]
  simp only [State.wakeEvent, hmode, Bool.false_eq_true, if_false, ite_self]

/-! ### The exit from Sleep -/

/-- From `s` to `t` nothing has changed but what events presented to FAULT change: its queue, PENDING and counters. -/
structure faultsPresented (src : Nat) (s t : State) : Prop where
  frame : t = { s with regs := t.regs, ctrs := t.ctrs, flt := t.flt }
  rd : ∀ a, a ≠ A.FAULT_PENDING (src / 32) → t.rd a = s.rd a

theorem faultsPresented_refl (src : Nat) (s : State) : faultsPresented src s s := ⟨rfl, fun _ _ => rfl⟩

theorem faultsPresented_trans {src : Nat} {s t u : State} (h : faultsPresented src s t) (k : faultsPresented src t u) :
    faultsPresented src s u where
  frame := by rw [k.frame, h.frame]
  rd := fun a ha => (k.rd a ha).trans (h.rd a ha)

/-- An event waits in FAULT's queue, or is counted as lost (R651). -/
theorem faultsPresented_present (s : State) (src unit : Nat) (perm : Bool) :
    faultsPresented src s (s.present src unit perm) := by
  unfold State.present State.presentEv
  split
  · exact ⟨rfl, fun _ _ => rfl⟩
  · exact ⟨rfl, fun a ha => State.rd_wr_ne _ _ ha⟩

theorem faultsPresented_foldl (src : Nat) (l : List Nat) (s : State) :
    faultsPresented src s (l.foldl (fun t n => t.present src n) s) := by
  induction l generalizing s with
  | nil => exact faultsPresented_refl src s
  | cons n l ih => exact faultsPresented_trans (faultsPresented_present s src n false) (ih _)

/-- The bytes of kept banks that did not keep their value (R77). -/
def State.bytesChanged (s : State) (l : List (BitVec 22 × Byte)) : State :=
  l.foldl (fun t e =>
    if (s.fld F.PMU_RET_CFG_KEEP).testBit (e.1.toNat / 0x80000) then t.setByte (0x03000000 + e.1.toNat) e.2 else t) s

/-- Bytes that change are memory alone. -/
theorem State.bytesChanged_frame (s : State) (l : List (BitVec 22 × Byte)) :
    s.bytesChanged l = { s with mem := (s.bytesChanged l).mem } := by
  have hgen : ∀ u : State, l.foldl (fun t e => if (s.fld F.PMU_RET_CFG_KEEP).testBit (e.1.toNat / 0x80000) then
      t.setByte (0x03000000 + e.1.toNat) e.2 else t) u =
      { u with mem := (l.foldl (fun t e => if (s.fld F.PMU_RET_CFG_KEEP).testBit (e.1.toNat / 0x80000) then
        t.setByte (0x03000000 + e.1.toNat) e.2 else t) u).mem } := by
    induction l with
    | nil => exact fun _ => rfl
    | cons e l ih =>
      intro u
      rw [List.foldl_cons]
      split
      · exact (ih (u.setByte (0x03000000 + e.1.toNat) e.2)).trans rfl
      · exact ih u
  exact hgen s

/-- The signature of bank `n` is the one held (R77). -/
def State.bankGood (s : State) (n : Nat) : Bool :=
  decide ((s.bankSignature n).toNat = s.rd64 (A.PMU_RET_SIG_LO n) (A.PMU_RET_SIG_HI n))

/-- The kept banks whose signature is not the one held. -/
def State.badBanks (s : State) : List Nat := s.keptBanks.filter (fun n => !s.bankGood n)

/-- A set of banks as bits. -/
def bankBits (l : List Nat) : Nat := l.foldl (fun acc n => acc + 2 ^ n) 0

/-- The outcome of the check of the kept banks, and the regulator out of low-power mode (R76, R77). -/
def State.banksChecked (s : State) : State :=
  ((s.setFld F.PMU_RET_STATUS_VALID (bankBits (s.keptBanks.filter s.bankGood))).setFld
    F.PMU_RET_STATUS_FAILED (bankBits s.badBanks)).setFld F.PMU_AO_REG_LP_MODE 0

/-- The banks for which RETENTION events are due (R77, R587). -/
def State.retentionEvents (s : State) : List Nat :=
  if s.banksChecked.keysSleepExit.1 ∧ ¬ s.badBanks.contains (s.fld F.PMU_RET_CFG_KEY_BANK) then
    s.badBanks ++ [s.fld F.PMU_RET_CFG_KEY_BANK]
  else s.badBanks

/-- The key store at the exit from Sleep changes KEYS alone (R587). -/
theorem State.keysSleepExit_frame (s : State) : s.keysSleepExit.2 = { s with keys := s.keysSleepExit.2.keys } := by
  unfold State.keysSleepExit
  split
  · split
    · split <;> rfl
    · rfl
  · rfl

/-- The warm reset that ends Sleep, and DRAM brought out of self-refresh with its stored training (R77). -/
def State.wokenUp (s : State) : State :=
  if (s.warmReset causeSleepWake).dram.stored then
    ((s.warmReset causeSleepWake).setFld F.DRAMC_STATUS_SELF_REFRESH 0).setFld F.DRAMC_STATUS_TRAINED 1
  else s.warmReset causeSleepWake

/-- The exit from Sleep is a warm reset after the kept banks and the key store have been checked, and RETENTION
events. -/
theorem exec_sleepExit {l : List (BitVec 22 × Byte)} (hmode : s.power.mode = .sleepExit) :
    exec (.sleepExit l) s = .next ((s.bytesChanged l).retentionEvents.foldl (fun t n => t.present 0x07 n)
      (s.bytesChanged l).banksChecked.keysSleepExit.2.wokenUp) := by
  have hbank : s.fld F.PMU_RET_CFG_KEY_BANK = (s.bytesChanged l).fld F.PMU_RET_CFG_KEY_BANK := by
    rw [s.bytesChanged_frame]
    rfl
  unfold State.retentionEvents
  rw [← hbank]
  exact if_pos hmode

/-- From `s` to `t` nothing has changed but registers, memory and the key store. -/
def checksFrame (s t : State) : Prop := t = { s with regs := t.regs, mem := t.mem, keys := t.keys }

theorem checksFrame_trans {s t u : State} (h : checksFrame s t) (k : checksFrame t u) : checksFrame s u := by
  unfold checksFrame at *
  rw [k, h]

theorem checksFrame_bytesChanged (s : State) (l : List (BitVec 22 × Byte)) : checksFrame s (s.bytesChanged l) := by
  rw [s.bytesChanged_frame]
  rfl

theorem checksFrame_of_regs {s t : State} (h : regsFrame s t) : checksFrame s t := by
  unfold regsFrame at h
  rw [h]
  rfl

theorem checksFrame_banksChecked (s : State) : checksFrame s s.banksChecked :=
  checksFrame_of_regs <| regsFrame_trans (regsFrame_setFld s _ _) <|
    regsFrame_trans (regsFrame_setFld _ _ _) (regsFrame_setFld _ _ _)

theorem checksFrame_keysSleepExit (s : State) : checksFrame s s.keysSleepExit.2 := by
  rw [State.keysSleepExit_frame]
  rfl

/-- The checks at the exit from Sleep leave flash, fuses, NVMC's operation and the boot's phase. -/
theorem checksFrame_checked (s : State) (l : List (BitVec 22 × Byte)) :
    checksFrame s (s.bytesChanged l).banksChecked.keysSleepExit.2 :=
  checksFrame_trans (checksFrame_bytesChanged s l)
    (checksFrame_trans (checksFrame_banksChecked _) (checksFrame_keysSleepExit _))

/-- A device that has woken reports SLEEP_WAKE and waits for its ROM, with flash and fuses as before (R77). -/
theorem State.wokenUp_leaves (s : State) (hphase : s.boot.phase ≠ .waiting) :
    s.wokenUp.rd A.SYSCTL_RESET_CAUSE = 0x06 ∧ s.wokenUp.power.mode = .on ∧ s.wokenUp.boot.phase = .waiting ∧
      s.wokenUp.fuses = s.fuses ∧ (s.nvmc = none → s.wokenUp.nvm = s.nvm) := by
  have hmerged : 5 < s.mergedCause causeSleepWake := by
    rw [State.mergedCause, if_neg hphase]
    decide
  have hmode : (s.warmReset causeSleepWake).power.mode = .on := by
    rw [s.warmReset_frame 0 hmerged]
    rfl
  obtain ⟨hcause, -, -, -, hnvm, hfuses, -⟩ :=
    warmLeaves_warmReset s hphase (cause := causeSleepWake) (by decide) (by decide)
  have hwaiting : (s.warmReset causeSleepWake).boot.phase = .waiting := by
    rw [s.warmReset_frame 0 hmerged]
    rfl
  unfold State.wokenUp
  split
  · refine ⟨?_, hmode, hwaiting, hfuses, hnvm⟩
    rw [State.rd_setFld_ne _ _ _ (by decide), State.rd_setFld_ne _ _ _ (by decide), hcause]
    rfl
  · exact ⟨hcause, hmode, hwaiting, hfuses, hnvm⟩

theorem exec_sleepExit_leaves (l : List (BitVec 22 × Byte)) (hmode : s.power.mode = .sleepExit)
    (hphase : s.boot.phase ≠ .waiting) :
    ∃ t, exec (.sleepExit l) s = .next t ∧ t.rd A.SYSCTL_RESET_CAUSE = 0x06 ∧ t.power.mode = .on ∧
      t.boot.phase = .waiting ∧ t.fuses = s.fuses ∧ (s.nvmc = none → t.nvm = s.nvm) := by
  have hframe := checksFrame_checked s l
  have hexec := exec_sleepExit (l := l) hmode
  generalize (s.bytesChanged l).banksChecked.keysSleepExit.2 = u at hframe hexec
  have hboot : u.boot = s.boot := by rw [hframe]
  have hnvmc : u.nvmc = s.nvmc := by rw [hframe]
  have hnvmu : u.nvm = s.nvm := by rw [hframe]
  have hfusesu : u.fuses = s.fuses := by rw [hframe]
  obtain ⟨hcause, hon, hwaiting, hfuses, hnvm⟩ := u.wokenUp_leaves (hboot ▸ hphase)
  have hpresented := faultsPresented_foldl 0x07 (s.bytesChanged l).retentionEvents u.wokenUp
  refine ⟨_, hexec, (hpresented.rd _ (by decide)).trans hcause, ?_, ?_, ?_, fun hnone => ?_⟩
  · rw [hpresented.frame]
    exact hon
  · rw [hpresented.frame]
    exact hwaiting
  · rw [hpresented.frame]
    exact hfuses.trans hfusesu
  · rw [hpresented.frame]
    exact (hnvm (hnvmc.trans hnone)).trans hnvmu

/-! ### The statement -/

/-- What an enabled event of any source leaves in Watch. -/
theorem wakeEvents_in_watch (i : Instr)
    (h : (∃ p : Fin 4, i = .wakeLinkEnergy p ∧ src = p.val ∧ pat = 0 ∧ s.watchPort p.val = 1) ∨
     (∃ (p : Fin 4) (f : List Byte), i = .wakePatternMatch p f ∧ src = p.val ∧ s.watchPort p.val = 2 ∧
       (List.range 16).find? (fun n => s.patMatches n p.val f) = some pat) ∨
     (∃ f : List Byte, i = .wakeWlanRequest f ∧ src = 4 ∧ pat = 0 ∧
       (∃ b, s.power.listenUntil = some b ∧ s.now ≤ b.toNat) ∧ s.fld F.PMU_WATCH_CFG_RADIO ≠ 3) ∨
     (∃ f : List Byte, i = .wakeNguordFrame f ∧ src = 5 ∧ pat = 0 ∧ s.flag F.PMU_WATCH_CFG_NGUORD = true) ∨
     (i = .wakePcie ∧ src = 6 ∧ pat = 0 ∧ s.fld F.HOSTP_CFG_MODE ≠ 0) ∨
     (i = .wakeAlarm true ∧ src = 7 ∧ pat = 0 ∧ s.wakeTrigger = true) ∨
     (i = .wakeAlarm false ∧ src = 7 ∧ pat = 0 ∧ s.rd A.PMU_ALARM ≠ 0 ∧
       s.power.entryAo + (s.rd A.PMU_ALARM).toNat ≤ s.aoNow) ∨
     (∃ r, i = .wakeIn r ∧ src = 8 ∧ pat = 0 ∧ r = !s.flag F.PMU_WAKE_EN_WAKE_IN_POL))
    (hmode : s.power.mode = .on) (hcur : s.fld F.PMU_STATE_CUR = 2)
    (hen : (s.fld F.PMU_WAKE_EN_SRC).testBit src = true) :
    ∃ t, exec i s = .next t ∧ wakeRecorded s t src pat ∧ t.power.mode = .watchExit false ∧
      t.flag F.PMU_STATE_BUSY = true := by
  have hin := State.inWatch_of_on hmode hcur
  have hleaves := fun (b : Bool) => State.wakeEvent_watch_leaves (pat := pat) b hmode hcur hen
  have hport : ∀ p : Fin 4, p.val < 9 := fun p => p.isLt.trans (by decide)
  rcases h with ⟨p, rfl, rfl, rfl, hp⟩ | ⟨p, f, rfl, rfl, hp, hmatch⟩ | ⟨f, rfl, rfl, rfl, ⟨b, hlisten, hnow⟩, hradio⟩ |
    ⟨f, rfl, rfl, rfl, hng⟩ | ⟨rfl, rfl, rfl, hhost⟩ | ⟨rfl, rfl, rfl, htrigger⟩ | ⟨rfl, rfl, rfl, halarm, hout⟩ |
    ⟨r, rfl, rfl, rfl, hr⟩
  · exact ⟨_, exec_wakeLinkEnergy hp, hleaves false (hport p) (by decide)⟩
  · have hpat : pat < 16 := List.mem_range.mp (List.mem_of_find?_eq_some hmatch)
    exact ⟨_, exec_wakePatternMatch hp hmatch, hleaves false (hport p) hpat⟩
  · obtain ⟨hrec, hexit, hbusy⟩ := State.wakeEvent_watch_leaves (pat := 0) (src := 4)
      (s := { s with power := { s.power with keptFrames := s.power.keptFrames ++ [(true, f)] } }) false hmode hcur hen
      (by decide) (by decide)
    exact ⟨_, exec_wakeWlanRequest hin hlisten hnow hradio, wakeRecorded_of_keptFrames hrec, hexit, hbusy⟩
  · obtain ⟨hrec, hexit, hbusy⟩ := State.wakeEvent_watch_leaves (pat := 0) (src := 5)
      (s := { s with power := { s.power with keptFrames := s.power.keptFrames ++ [(false, f)] } }) false hmode hcur hen
      (by decide) (by decide)
    exact ⟨_, exec_wakeNguordFrame hin hng, wakeRecorded_of_keptFrames hrec, hexit, hbusy⟩
  · exact ⟨_, exec_wakePcie hhost, hleaves true (by decide) (by decide)⟩
  · exact ⟨_, exec_wakeAlarm_postmark hin htrigger, hleaves false (by decide) (by decide)⟩
  · exact ⟨_, exec_wakeAlarm_pmu (.inl hin) halarm hout, hleaves true (by decide) (by decide)⟩
  · exact ⟨_, exec_wakeIn hr, hleaves true (by decide) (by decide)⟩

/-- Settles O12: each source's command is the wake event of its number, and the event does what its state asks for. -/
theorem wakeEventsLeaveWatchAndSleep : Obligations.WakeEventsLeaveWatchAndSleep := by
  refine ⟨fun s i src pat h hmode hcur hen => wakeEvents_in_watch i h hmode hcur hen, ?_,
    fun s p hp hmode => exec_wakeLinkEnergy_sleep hp hmode,
    fun s l hmode hphase => exec_sleepExit_leaves l hmode hphase⟩
  intro s i src h hmode hen
  rcases h with ⟨rfl, rfl, hhost⟩ | ⟨rfl, rfl, halarm, hout⟩ | ⟨r, rfl, rfl, hr⟩
  · exact ⟨_, exec_wakePcie hhost, State.wakeEvent_sleep_leaves hmode hen (by decide)⟩
  · exact ⟨_, exec_wakeAlarm_pmu (.inr hmode) halarm hout, State.wakeEvent_sleep_leaves hmode hen (by decide)⟩
  · exact ⟨_, exec_wakeIn hr, State.wakeEvent_sleep_leaves hmode hen (by decide)⟩

end Sys2Proof.Machine
end

section
/-! SUPPORT. The ROM at a record (R104, R114, R115): a slot that fails, the step to the next record, and what a record
whose body is legal leaves. -/

namespace Sys2Proof.Machine

variable {s : State}

/-! ### A slot that fails -/

/-- A field under a mask that holds all its bits. -/
theorem getBits_and_of_mask {w m : Word} {lo len : Nat} (h : ∀ i < len, m.toNat.testBit (lo + i) = true) :
    getBits (w &&& m) lo len = getBits w lo len := by
  apply Nat.eq_of_testBit_eq
  intro i
  rw [testBit_getBits, testBit_getBits, BitVec.toNat_and, Nat.testBit_and]
  by_cases hi : i < len
  · rw [h i hi, Bool.and_true]
  · simp [hi]

/-- BOOT_STATUS after a warm reset: the fields of R135 that it keeps. -/
theorem State.rd_bootStatus_warmReset (s : State) {cause : Nat} (src : Nat) (h : 5 < s.mergedCause cause) :
    (s.warmReset cause src).rd A.SYSCTL_BOOT_STATUS = s.rd A.SYSCTL_BOOT_STATUS &&& bootStatusKept := by
  rw [s.warmReset_eq src h]
  unfold State.reportCause State.warmParts
  rw [State.rd_wr_ne _ _ (by decide), State.rd_afterReset _ (by decide) (by decide),
    State.rd_setFld_ne _ _ _ (by decide),
    State.rd_setFld_ne _ _ _ (by decide), State.rd_setFld_ne _ _ _ (by decide), State.rd_setFld_ne _ _ _ (by decide),
    State.rd_wr_ne _ _ (by decide), State.rd_wr_same]

/-- A field of BOOT_STATUS that a warm reset keeps (R135). -/
theorem State.fld_bootStatus_warmReset (s : State) {cause : Nat} (src : Nat) (h : 5 < s.mergedCause cause) {f : Fld}
    (ha : f.addr = A.SYSCTL_BOOT_STATUS) (hf : ∀ i < f.len, bootStatusKept.toNat.testBit (f.lo + i) = true) :
    (s.warmReset cause src).fld f = s.fld f := by
  unfold State.fld
  rw [ha, s.rd_bootStatus_warmReset src h, getBits_and_of_mask hf]

/-- What a slot's failure records before its warm reset (R104). -/
def State.failNoted (s : State) (code : Nat) : State :=
  ((({ s with boot := { s.boot with phase := .records } } : State).setFld F.SYSCTL_BOOT_STATUS_CODE code).setFld
    F.SYSCTL_BOOT_STATUS_REC_INDEX s.boot.recIdx).setFld
    F.SYSCTL_BOOT_STATUS_SLOT_FAIL (s.fld F.SYSCTL_BOOT_STATUS_SLOT_FAIL ||| 2 ^ s.slot)

theorem State.bootFail_eq (s : State) (code : Nat) : s.bootFail code = (s.failNoted code).warmReset causeBootFail := rfl

theorem State.slot_lt (s : State) : s.slot < 2 := s.fld_lt F.SYSCTL_BOOT_STATUS_SLOT

/-- A slot fails with the code given (R104). -/
theorem slotFails_bootFail (s : State) {code : Nat} (hcode : code < 256) :
    slotFails s (s.bootFail code) s.slot code := by
  have hphase : (s.failNoted code).boot.phase ≠ .waiting := fun h => nomatch h
  have hmerged : 5 < (s.failNoted code).mergedCause causeBootFail := by
    rw [State.mergedCause, if_neg hphase]
    decide
  obtain ⟨hcause, -, -, -, hnvm, hfuses, -⟩ :=
    warmLeaves_warmReset (s.failNoted code) hphase (cause := causeBootFail) (by decide) (by decide)
  have hwaiting : (s.bootFail code).boot.phase = .waiting := by
    rw [State.bootFail_eq, (s.failNoted code).warmReset_frame 0 hmerged]
    rfl
  refine ⟨hcause, ?_, ?_, hwaiting, hnvm, hfuses⟩
  · rw [State.bootFail_eq, State.fld_bootStatus_warmReset _ 0 hmerged rfl (by decide), State.failNoted,
      State.fld_setFld_apart _ _ _ _ (by decide) (by decide), State.fld_setFld_apart _ _ _ _ (by decide) (by decide),
      State.fld_setFld_same _ _ _ (by decide)]
    exact Nat.mod_eq_of_lt hcode
  · rw [State.bootFail_eq, State.fld_bootStatus_warmReset _ 0 hmerged rfl (by decide), State.failNoted,
      State.fld_setFld_same _ _ _ (by decide)]
    exact Nat.mod_eq_of_lt (Nat.or_lt_two_pow (s.fld_lt F.SYSCTL_BOOT_STATUS_SLOT_FAIL)
      (Nat.pow_lt_pow_right (by decide) s.slot_lt))

/-! ### The step to the next record -/

/-- The ROM stands one record further on. -/
def State.advance (s : State) : State := { s with boot := { s.boot with recIdx := s.boot.recIdx + 1 } }

theorem State.fld_advance (s : State) (f : Fld) : s.advance.fld f = s.fld f := rfl

theorem onlyFields_advance {s t : State} {fs : List Fld} (h : onlyFields s t fs) : onlyFields s t.advance fs :=
  onlyFields_of_regs rfl h

/-- Before a record of a known type the ROM passes over nothing (R115). -/
theorem State.nextRecord_of_known (u : State)
    (hlo : 1 ≤ (u.dirEntry u.slot (u.boot.recIdx + 1)).type) (hhi : (u.dirEntry u.slot (u.boot.recIdx + 1)).type ≤ 10) :
    u.nextRecord = u.advance := if_pos (.inr ⟨hlo, hhi⟩)

/-- What a record leaves of the ROM's place in the image. -/
structure placeKept (s u : State) : Prop where
  phase : u.boot.phase = s.boot.phase
  recIdx : u.boot.recIdx = s.boot.recIdx
  nvm : u.nvm = s.nvm
  fuses : u.fuses = s.fuses
  slot : u.slot = s.slot

/-- An update of registers that leaves SLOT leaves the ROM's place. -/
theorem placeKept_of_regs {s u : State} (h : regsFrame s u)
    (hslot : u.fld F.SYSCTL_BOOT_STATUS_SLOT = s.fld F.SYSCTL_BOOT_STATUS_SLOT) : placeKept s u :=
  ⟨by rw [h], by rw [h], by rw [h], by rw [h], hslot⟩

theorem dirEntry_of_nvm {s u : State} (h : u.nvm = s.nvm) (k n : Nat) : u.dirEntry k n = s.dirEntry k n := by
  unfold State.dirEntry State.imgNat State.img State.flashByte
  rw [h]

/-- With the ROM's place kept and a known type ahead, the ROM goes on. -/
theorem wentOn_nextRecord {u : State} {ty : Nat} (hat : atRecord s ty) (hkept : placeKept s u) :
    u.nextRecord = u.advance ∧ wentOn s u.advance := by
  obtain ⟨hphase, -, hlo, hhi⟩ := hat
  have hdir : u.dirEntry u.slot (u.boot.recIdx + 1) = s.dirEntry s.slot (s.boot.recIdx + 1) := by
    rw [dirEntry_of_nvm hkept.nvm, hkept.slot, hkept.recIdx]
  exact ⟨u.nextRecord_of_known (hdir ▸ hlo) (hdir ▸ hhi), hkept.phase.trans hphase,
    congrArg (· + 1) hkept.recIdx, hkept.nvm, hkept.fuses⟩

/-! ### A record -/

/-- The body of a record has its LENGTH. -/
theorem length_presentBody (s : State) : (presentBody s).length = (s.dirEntry s.slot s.boot.recIdx).length := by
  unfold presentBody State.recBody State.img
  rw [List.length_map, List.length_range]

section record

variable {ty : Nat} {f : DirEntry → List Byte → Except Nat State} (hat : atRecord s ty)
include hat

/-- A record whose digest does not match fails the slot (R104). -/
theorem State.record_of_bad_digest (h : ¬ digestMatches s) : s.record ty f = s.bootFail codeBadRecord := by
  obtain ⟨hphase, htype, -⟩ := hat
  exact (if_pos ⟨hphase, htype⟩).trans (if_pos h)

/-- A record whose digest matches and whose body is applied. -/
theorem State.record_of_applied (h : digestMatches s) (hlen : ty = 0x09 ∨ (presentBody s).length ≠ 0) {u : State}
    (hf : f (s.dirEntry s.slot s.boot.recIdx) (presentBody s) = .ok u) : s.record ty f = u.nextRecord := by
  obtain ⟨hphase, htype, -⟩ := hat
  have hsized : ¬ (ty ≠ 0x09 ∧ (s.dirEntry s.slot s.boot.recIdx).length = 0) := by
    rw [← length_presentBody]
    tauto
  refine (if_pos ⟨hphase, htype⟩).trans ((if_neg (not_not_intro h)).trans ((if_neg hsized).trans ?_))
  rw [show f (s.dirEntry s.slot s.boot.recIdx) (s.recBody s.slot (s.dirEntry s.slot s.boot.recIdx)) = .ok u from hf]

/-- A record that applies its body as `u`: it fails the slot, or the ROM stands at the next record of `u`. -/
theorem State.record_leaves (hlen : ty = 0x09 ∨ (presentBody s).length ≠ 0) {u : State}
    (hf : f (s.dirEntry s.slot s.boot.recIdx) (presentBody s) = .ok u) (hkept : placeKept s u) :
    (¬ digestMatches s → slotFails s (s.record ty f) s.slot 6) ∧
      (digestMatches s → wentOn s (s.record ty f) ∧ s.record ty f = u.advance) := by
  refine ⟨fun h => ?_, fun h => ?_⟩
  · rw [State.record_of_bad_digest hat h]
    exact slotFails_bootFail s (by decide)
  · obtain ⟨hnext, hwent⟩ := wentOn_nextRecord hat hkept
    rw [State.record_of_applied hat h hlen hf, hnext]
    exact ⟨hwent, rfl⟩

end record

/-! ### Fields that CFG_LOCK protects -/

theorem State.setRwl_of_unlocked {f : Fld} {v : Nat} (h : s.flag F.SYSCTL_CFG_LOCK_LOCK = false) :
    s.setRwl f v = s.setFld f v := if_neg (by simp [h])

/-- A field of another register leaves the lock. -/
theorem State.unlocked_setFld {f : Fld} {v : Nat} (h : s.flag F.SYSCTL_CFG_LOCK_LOCK = false)
    (hf : F.SYSCTL_CFG_LOCK_LOCK.addr ≠ f.addr) : (s.setFld f v).flag F.SYSCTL_CFG_LOCK_LOCK = false := by
  unfold State.flag at *
  rwa [State.fld_setFld_ne _ _ _ _ hf]

theorem byteAt_lt (b : List Byte) (i : Nat) : byteAt b i < 256 := (b.getD i 0).isLt

end Sys2Proof.Machine
end

section
/-! SUPPORT. Several fields written in a row, and what they read back. -/

namespace Sys2Proof.Machine

variable (s : State)

/-- Two fields that share no bit of a register. -/
def fldsApart (f g : Fld) : Bool := decide (f.addr ≠ g.addr ∨ f.lo + f.len ≤ g.lo ∨ g.lo + g.len ≤ f.lo)

/-- Fields are written in a row. -/
def State.setFlds (s : State) (l : List (Fld × Nat)) : State := l.foldl (fun t p => t.setFld p.1 p.2) s

/-- Fields are written in a row, but for those that CFG_LOCK protects (R680). -/
def State.setRwls (s : State) (l : List (Fld × Nat)) : State := l.foldl (fun t p => t.setRwl p.1 p.2) s

theorem State.setFlds_cons (p : Fld × Nat) (l : List (Fld × Nat)) :
    s.setFlds (p :: l) = (s.setFld p.1 p.2).setFlds l := rfl

theorem State.fld_setFld_of_apart {f g : Fld} (v : Nat) (hg : g.lo + g.len ≤ 32) (h : fldsApart g f = true) :
    (s.setFld f v).fld g = s.fld g := by
  rcases of_decide_eq_true h with ha | hd
  · exact State.fld_setFld_ne s f g v ha
  · exact State.fld_setFld_apart s f g v hg hd

theorem regsFrame_setFlds (l : List (Fld × Nat)) : regsFrame s (s.setFlds l) := by
  induction l generalizing s with
  | nil => rfl
  | cons p l ih => exact regsFrame_trans (regsFrame_setFld s p.1 p.2) (ih _)

section
variable {l : List (Fld × Nat)} {fs : List Fld} (hfs : l.map Prod.fst = fs)
include hfs

/-- A field apart from all that are written reads as before. -/
theorem State.fld_setFlds_of_apart {g : Fld} (hg : g.lo + g.len ≤ 32) (h : ∀ f ∈ fs, fldsApart g f = true) :
    (s.setFlds l).fld g = s.fld g := by
  subst hfs
  induction l generalizing s with
  | nil => rfl
  | cons p l ih =>
    rw [State.setFlds_cons, ih _ fun f hf => h f (by simp only [List.map_cons]; exact List.mem_cons_of_mem _ hf)]
    exact s.fld_setFld_of_apart p.2 hg (h p.1 (by simp))

/-- Of fields that are apart, each reads back what was written, at its width. -/
theorem State.fld_setFlds_of_mem (hp : fs.Pairwise (fun f g => fldsApart f g = true)) (hw : ∀ f ∈ fs, f.lo + f.len ≤ 32)
    {f : Fld} {v : Nat} (hm : (f, v) ∈ l) : (s.setFlds l).fld f = v % 2 ^ f.len := by
  subst hfs
  induction l generalizing s with
  | nil => exact absurd hm List.not_mem_nil
  | cons p l ih =>
    rw [List.map_cons, List.pairwise_cons] at hp
    obtain ⟨hhead, htail⟩ := hp
    rw [State.setFlds_cons]
    rcases List.mem_cons.mp hm with rfl | hm
    · rw [State.fld_setFlds_of_apart _ rfl (hw f (by simp)) hhead]
      exact State.fld_setFld_same s f v (hw f (by simp))
    · exact ih _ hm htail (fun g hg => hw g (by simp only [List.map_cons]; exact List.mem_cons_of_mem _ hg))

/-- Fields written in a row change those fields alone. -/
theorem onlyFields_setFlds {t : State} {gs : List Fld} (h : ∀ f ∈ fs, f ∈ gs ∨ whole f.addr ∈ gs)
    (k : onlyFields s t gs) : onlyFields s (t.setFlds l) gs := by
  subst hfs
  induction l generalizing t with
  | nil => exact k
  | cons p l ih =>
    have hone : onlyFields s (t.setFld p.1 p.2) gs := by
      rcases h p.1 (by simp) with hf | hf
      · exact onlyFields_setFld _ _ hf k
      · exact onlyFields_wr _ _ hf k
    exact ih hone (fun f hf => h f (by simp only [List.map_cons]; exact List.mem_cons_of_mem _ hf))

/-- Without the lock, fields that it protects are written as any other. -/
theorem State.setRwls_of_unlocked (h : s.flag F.SYSCTL_CFG_LOCK_LOCK = false)
    (hl : ∀ f ∈ fs, F.SYSCTL_CFG_LOCK_LOCK.addr ≠ f.addr) : s.setRwls l = s.setFlds l := by
  subst hfs
  induction l generalizing s with
  | nil => rfl
  | cons p l ih =>
    have hhead := hl p.1 (by simp)
    have hstep : s.setRwl p.1 p.2 = s.setFld p.1 p.2 := State.setRwl_of_unlocked h
    show (s.setRwl p.1 p.2).setRwls l = _
    rw [hstep, ih _ (State.unlocked_setFld h hhead) fun f hf => hl f (by
      simp only [List.map_cons]
      exact List.mem_cons_of_mem _ hf)]
    rfl

/-- Fields written in a row, apart from SLOT, leave the ROM's place. -/
theorem placeKept_setFlds (h : ∀ f ∈ fs, fldsApart F.SYSCTL_BOOT_STATUS_SLOT f = true) : placeKept s (s.setFlds l) :=
  placeKept_of_regs (regsFrame_setFlds s l) (s.fld_setFlds_of_apart hfs (by decide) h)

end

end Sys2Proof.Machine
end

section
/-! The boot records (R95, R104, R114 to R119, R140, R545, R559): what each body that is legal leaves. -/

namespace Sys2Proof.Machine

variable {s : State}

/-- The outcome of a record that applies its body as `u`. -/
theorem record_outcome {i : Instr} {ty : Nat} {f : DirEntry → List Byte → Except Nat State} {u : State}
    {P : State → Prop} (hexec : exec i s = .next (s.record ty f)) (hat : atRecord s ty)
    (hlen : ty = 0x09 ∨ (presentBody s).length ≠ 0)
    (hf : f (s.dirEntry s.slot s.boot.recIdx) (presentBody s) = .ok u) (hkept : placeKept s u) (hP : P u.advance) :
    ∃ t, exec i s = .next t ∧ (¬ digestMatches s → slotFails s t s.slot 6) ∧ (digestMatches s → wentOn s t ∧ P t) := by
  obtain ⟨hfail, hgo⟩ := State.record_leaves hat hlen hf hkept
  refine ⟨_, hexec, hfail, fun h => ?_⟩
  obtain ⟨hwent, heq⟩ := hgo h
  exact ⟨hwent, heq ▸ hP⟩

/-! ### PMIC and NVM_TIMING -/

/-- The fields that a PMIC record sets (R114). -/
def pmicFields (b : List Byte) : List (Fld × Nat) :=
  [(F.PMU_AVS_CFG_PMIC_ADDR, byteAt b 0), (F.PMU_AVS_CFG_REG_CORE, byteAt b 1), (F.PMU_AVS_CFG_REG_CPU, byteAt b 2),
    (F.PMU_AVS_CTRL_EN, byteAt b 3)]

/-- The fields themselves. -/
def pmicRegs : List Fld :=
  [F.PMU_AVS_CFG_PMIC_ADDR, F.PMU_AVS_CFG_REG_CORE, F.PMU_AVS_CFG_REG_CPU, F.PMU_AVS_CTRL_EN]

theorem pmic_body {d : DirEntry} {b : List Byte} (hd : d.length = 4) (haddr : byteAt b 0 ≤ 127)
    (hlock : s.flag F.SYSCTL_CFG_LOCK_LOCK = false) :
    (if d.length ≠ 4 ∨ 127 < byteAt b 0 then Except.error codeBadRecord
      else Except.ok ((((s.setRwl F.PMU_AVS_CFG_PMIC_ADDR (byteAt b 0)).setRwl F.PMU_AVS_CFG_REG_CORE
        (byteAt b 1)).setRwl F.PMU_AVS_CFG_REG_CPU (byteAt b 2)).setFld F.PMU_AVS_CTRL_EN (byteAt b 3))) =
      Except.ok (s.setFlds (pmicFields b)) := by
  have hrwl := s.setRwls_of_unlocked (l := (pmicFields b).take 3) (fs := pmicRegs.take 3) rfl hlock (by decide)
  rw [if_neg (by omega)]
  exact congrArg (fun t : State => Except.ok (t.setFld F.PMU_AVS_CTRL_EN (byteAt b 3))) hrwl

theorem pmic_reads {b : List Byte} (haddr : byteAt b 0 ≤ 127) :
    (s.setFlds (pmicFields b)).fld F.PMU_AVS_CFG_PMIC_ADDR = byteAt b 0 ∧
      (s.setFlds (pmicFields b)).fld F.PMU_AVS_CFG_REG_CORE = byteAt b 1 ∧
      (s.setFlds (pmicFields b)).fld F.PMU_AVS_CFG_REG_CPU = byteAt b 2 ∧
      (s.setFlds (pmicFields b)).fld F.PMU_AVS_CTRL_EN = byteAt b 3 % 2 := by
  have hregs : (pmicFields b).map Prod.fst = pmicRegs := rfl
  have hread := fun f v hm => s.fld_setFlds_of_mem hregs (by decide) (by decide) (f := f) (v := v) hm
  have hbytes := byteAt_lt b
  refine ⟨?_, ?_, ?_, ?_⟩
  · exact (hread _ _ (by simp [pmicFields])).trans (Nat.mod_eq_of_lt (by omega : byteAt b 0 < 2 ^ 7))
  · exact (hread _ _ (by simp [pmicFields])).trans (Nat.mod_eq_of_lt (hbytes 1))
  · exact (hread _ _ (by simp [pmicFields])).trans (Nat.mod_eq_of_lt (hbytes 2))
  · exact hread F.PMU_AVS_CTRL_EN _ (by simp [pmicFields])

theorem exec_pmic_leaves (hat : atRecord s 0x01) (hlen : (presentBody s).length = 4)
    (haddr : byteAt (presentBody s) 0 ≤ 127) (hlock : s.flag F.SYSCTL_CFG_LOCK_LOCK = false) :
    ∃ t, exec .pmic s = .next t ∧ (¬ digestMatches s → slotFails s t s.slot 6) ∧
      (digestMatches s → wentOn s t ∧ t.fld F.PMU_AVS_CFG_PMIC_ADDR = byteAt (presentBody s) 0 ∧
        t.fld F.PMU_AVS_CFG_REG_CORE = byteAt (presentBody s) 1 ∧
        t.fld F.PMU_AVS_CFG_REG_CPU = byteAt (presentBody s) 2 ∧
        t.fld F.PMU_AVS_CTRL_EN = byteAt (presentBody s) 3 % 2 ∧
        onlyFields s t [whole A.PMU_AVS_CFG, F.PMU_AVS_CTRL_EN]) := by
  have hregs : (pmicFields (presentBody s)).map Prod.fst = pmicRegs := rfl
  refine record_outcome (u := s.setFlds (pmicFields (presentBody s))) rfl hat (.inr (by rw [hlen]; decide))
    (pmic_body ((length_presentBody s).symm.trans hlen) haddr hlock) (placeKept_setFlds s hregs (by decide)) ?_
  obtain ⟨haddr', hcore, hcpu, hen⟩ := pmic_reads (s := s) haddr
  exact ⟨(State.fld_advance _ _).trans haddr', (State.fld_advance _ _).trans hcore, (State.fld_advance _ _).trans hcpu,
    (State.fld_advance _ _).trans hen,
    onlyFields_advance (onlyFields_setFlds s hregs (by decide) (onlyFields_refl s _))⟩

/-- The fields that an NVM_TIMING record sets (R140). -/
def timingFields (b : List Byte) : List (Fld × Nat) :=
  [(F.NVMC_MODE_DUMMY, byteAt b 2), (F.NVMC_MODE_CLK_DIV, byteAt b 1), (F.NVMC_MODE_PROTO, byteAt b 0 % 4)]

/-- The fields themselves. -/
def timingRegs : List Fld := [F.NVMC_MODE_DUMMY, F.NVMC_MODE_CLK_DIV, F.NVMC_MODE_PROTO]

theorem timing_reads {b : List Byte} (hdummy : byteAt b 2 ≤ 31) (hhi : byteAt b 1 ≤ 120) :
    (s.setFlds (timingFields b)).fld F.NVMC_MODE_DUMMY = byteAt b 2 ∧
      (s.setFlds (timingFields b)).fld F.NVMC_MODE_CLK_DIV = byteAt b 1 ∧
      (s.setFlds (timingFields b)).fld F.NVMC_MODE_PROTO = byteAt b 0 % 4 := by
  have hregs : (timingFields b).map Prod.fst = timingRegs := rfl
  have hread := fun f v hm => s.fld_setFlds_of_mem hregs (by decide) (by decide) (f := f) (v := v) hm
  refine ⟨?_, ?_, ?_⟩
  · exact (hread _ _ (by simp [timingFields])).trans (Nat.mod_eq_of_lt (by omega : byteAt b 2 < 2 ^ 8))
  · exact (hread _ _ (by simp [timingFields])).trans (Nat.mod_eq_of_lt (by omega : byteAt b 1 < 2 ^ 8))
  · exact (hread _ _ (by simp [timingFields])).trans (Nat.mod_mod _ 4)

theorem exec_nvmTiming_leaves (hat : atRecord s 0x02) (hlen : (presentBody s).length = 4)
    (hdummy : byteAt (presentBody s) 2 ≤ 31) (hlo : 6 ≤ byteAt (presentBody s) 1)
    (hhi : byteAt (presentBody s) 1 ≤ 120) (hlock : s.flag F.SYSCTL_CFG_LOCK_LOCK = false) :
    ∃ t, exec .nvmTiming s = .next t ∧ (¬ digestMatches s → slotFails s t s.slot 6) ∧
      (digestMatches s → wentOn s t ∧ t.fld F.NVMC_MODE_DUMMY = byteAt (presentBody s) 2 ∧
        t.fld F.NVMC_MODE_CLK_DIV = byteAt (presentBody s) 1 ∧
        t.fld F.NVMC_MODE_PROTO = byteAt (presentBody s) 0 % 4 ∧ onlyFields s t [whole A.NVMC_MODE]) := by
  have hregs : (timingFields (presentBody s)).map Prod.fst = timingRegs := rfl
  have hd := (length_presentBody s).symm.trans hlen
  refine record_outcome (u := s.setFlds (timingFields (presentBody s))) rfl hat (.inr (by rw [hlen]; decide))
    ((if_pos ⟨hd, hdummy, hlo, hhi⟩).trans (congrArg Except.ok (s.setRwls_of_unlocked hregs hlock (by decide))))
    (placeKept_setFlds s hregs (by decide)) ?_
  obtain ⟨hread2, hread1, hread0⟩ := timing_reads (s := s) hdummy hhi
  exact ⟨(State.fld_advance _ _).trans hread2, (State.fld_advance _ _).trans hread1,
    (State.fld_advance _ _).trans hread0,
    onlyFields_advance (onlyFields_setFlds s hregs (by decide) (onlyFields_refl s _))⟩

/-! ### CLOCKS -/

/-- Whether a GATE word is legal depends on PIN and PLL_CTRL alone. -/
theorem State.gateLegal_congr {u : State} (w : Word) (b : Nat)
    (hpin : u.fld F.CKGEN_PIN_BRANCHES = s.fld F.CKGEN_PIN_BRANCHES)
    (hen : u.fld F.CKGEN_PLL_CTRL_EN = s.fld F.CKGEN_PLL_CTRL_EN) : u.gateLegal w b = s.gateLegal w b := by
  unfold State.gateLegal
  rw [hpin, hen]

/-- PLL_CTRL as a CLOCKS record sets it (R95). -/
def State.setPlls (s : State) (w : Word) : State :=
  let t := s.setFld F.CKGEN_PLL_CTRL_EN (getBits w 0 5)
  t.setFld F.CKGEN_PLL_STATUS_LOCK (t.fld F.CKGEN_PLL_STATUS_LOCK &&& getBits w 0 5)

theorem onlyFields_setPlls (w : Word) :
    onlyFields s (s.setPlls w) [F.CKGEN_PLL_CTRL_EN, F.CKGEN_PLL_STATUS_LOCK] :=
  onlyFields_setFld _ _ (by simp) (onlyFields_setFld _ _ (by simp) (onlyFields_refl s _))

theorem State.en_setPlls (w : Word) : (s.setPlls w).fld F.CKGEN_PLL_CTRL_EN = getBits w 0 5 := by
  rw [State.setPlls, State.fld_setFld_ne _ _ _ _ (by decide), State.fld_setFld_same _ _ _ (by decide)]
  exact Nat.mod_eq_of_lt (getBits_lt w 0 5)

/-- Every branch mode of a CLOCKS record is legal once its PLLs are set. -/
theorem State.gateLegal_setPlls {pll gate : Word}
    (h : ∀ b < 16, (s.setFld F.CKGEN_PLL_CTRL_EN (getBits pll 0 5)).gateLegal gate b = true) :
    allBranches.all ((s.setPlls pll).gateLegal gate) = true := by
  rw [List.all_eq_true]
  intro b hb
  refine (State.gateLegal_congr gate b ?_ ?_).trans (h b (List.mem_range.mp hb))
  · exact State.fld_setFld_ne _ _ _ _ (by decide)
  · exact State.fld_setFld_ne _ _ _ _ (by decide)

theorem exec_clocks_leaves {pll gate : Word} (hat : atRecord s 0x03) (hlen : (presentBody s).length = 8)
    (hpll : pll = BitVec.ofNat 32 (leNat (slice (presentBody s) 0 4)))
    (hgate : gate = BitVec.ofNat 32 (leNat (slice (presentBody s) 4 4))) (hlegal : s.pllLegal pll = true)
    (hmodes : ∀ b < 16, (s.setFld F.CKGEN_PLL_CTRL_EN (getBits pll 0 5)).gateLegal gate b = true) :
    ∃ t, exec .clocks s = .next t ∧ (¬ digestMatches s → slotFails s t s.slot 6) ∧
      (digestMatches s → wentOn s t ∧ t.fld F.CKGEN_PLL_CTRL_EN = getBits pll 0 5 ∧ t.rd A.CKGEN_GATE = gate) := by
  have hd := (length_presentBody s).symm.trans hlen
  have hbody : ¬ ((s.dirEntry s.slot s.boot.recIdx).length ≠ 8 ∨ ¬ s.pllLegal pll = true) := by simp [hd, hlegal]
  obtain ⟨hheld, -, -, -, honly, hframe⟩ := (s.setPlls pll).applyGate_leaves gate
  have hsame : ∀ f : Fld, f.lo + f.len ≤ 32 → f.addr ≠ A.CKGEN_GATE → f.addr ≠ A.CKGEN_ACTIVE →
      ((s.setPlls pll).applyGate gate).fld f = (s.setPlls pll).fld f := fun f hf hg ha =>
    honly f hf fun g hm => .inl (by
      simp only [List.mem_cons, List.not_mem_nil, or_false] at hm
      rcases hm with rfl | rfl
      · exact hg
      · exact ha)
  have hslot : ((s.setPlls pll).applyGate gate).fld F.SYSCTL_BOOT_STATUS_SLOT = s.fld F.SYSCTL_BOOT_STATUS_SLOT :=
    (hsame _ (by decide) (by decide) (by decide)).trans
      (onlyFields_setPlls pll _ (by decide) (by decide))
  refine record_outcome (u := (s.setPlls pll).applyGate gate) rfl hat (.inr (by rw [hlen]; decide)) ?_
    (placeKept_of_regs (regsFrame_trans (t := s.setPlls pll) rfl hframe) hslot) ⟨?_, ?_⟩
  · rw [← hpll, ← hgate]
    exact (if_neg hbody).trans (if_pos (State.gateLegal_setPlls hmodes))
  · exact (State.fld_advance _ _).trans ((hsame _ (by decide) (by decide) (by decide)).trans (State.en_setPlls pll))
  · exact hheld

end Sys2Proof.Machine
end

section
/-! The boot records (R96, R114 to R119, R545, R559), continued: HOSTP and the link's late start, and what DRAM shows.
-/

namespace Sys2Proof.Machine

variable {s : State}

/-! ### HOSTP -/

/-- A little-endian number of at most `n` bytes. -/
theorem leNat_lt_of_length (b : List Byte) {n : Nat} (h : b.length ≤ n) : leNat b < 256 ^ n := by
  induction n generalizing b with
  | zero =>
    rw [List.eq_nil_of_length_eq_zero (Nat.le_zero.mp h)]
    decide
  | succ n ih =>
    cases b with
    | nil => exact Nat.pow_pos (by decide)
    | cons x b =>
      have hrest := ih b (Nat.le_of_succ_le_succ h)
      have hx := x.isLt
      rw [leNat, Nat.pow_succ]
      omega

theorem leNat_slice_lt (b : List Byte) (off n : Nat) : leNat (slice b off n) < 256 ^ n :=
  leNat_lt_of_length _ (List.length_take_le _ _)

/-- The fields that a HOSTP record sets beside the vendor (R545). -/
def hostpFields (b : List Byte) : List (Fld × Nat) :=
  [(F.HOSTP_IDS_DEVICE_ID, leNat (slice b 2 2)), (F.HOSTP_SUBSYS_SUBSYS_VID, leNat (slice b 4 2)),
    (F.HOSTP_SUBSYS_SUBSYS_ID, leNat (slice b 6 2)), (F.HOSTP_CLASS_CLASS, leNat (slice b 8 3)),
    (F.HOSTP_CFG_MAX_GEN, byteAt b 11), (F.HOSTP_CFG_MSIX_COUNT, leNat (slice b 12 2)),
    (F.HOSTP_PM_CFG_L1_EN, byteAt b 14 % 2), (F.HOSTP_PM_CFG_L1SS_EN, byteAt b 14 / 2)]

/-- The fields themselves. -/
def hostpRegs : List Fld :=
  [F.HOSTP_IDS_DEVICE_ID, F.HOSTP_SUBSYS_SUBSYS_VID, F.HOSTP_SUBSYS_SUBSYS_ID, F.HOSTP_CLASS_CLASS,
    F.HOSTP_CFG_MAX_GEN, F.HOSTP_CFG_MSIX_COUNT, F.HOSTP_PM_CFG_L1_EN, F.HOSTP_PM_CFG_L1SS_EN]

theorem hostp_reads {b : List Byte} (hgen : byteAt b 11 ≤ 4) (hmsix : leNat (slice b 12 2) ≤ 512)
    (hf : byteAt b 14 < 4) :
    (s.setFlds (hostpFields b)).fld F.HOSTP_IDS_DEVICE_ID = leNat (slice b 2 2) ∧
      (s.setFlds (hostpFields b)).fld F.HOSTP_CLASS_CLASS = leNat (slice b 8 3) ∧
      (s.setFlds (hostpFields b)).fld F.HOSTP_CFG_MAX_GEN = byteAt b 11 ∧
      (s.setFlds (hostpFields b)).fld F.HOSTP_CFG_MSIX_COUNT = leNat (slice b 12 2) ∧
      (s.setFlds (hostpFields b)).fld F.HOSTP_PM_CFG_L1_EN = byteAt b 14 % 2 ∧
      (s.setFlds (hostpFields b)).fld F.HOSTP_PM_CFG_L1SS_EN = byteAt b 14 / 2 := by
  have hregs : (hostpFields b).map Prod.fst = hostpRegs := rfl
  have hread := fun f v hm => s.fld_setFlds_of_mem hregs (by decide) (by decide) (f := f) (v := v) hm
  refine ⟨?_, ?_, ?_, ?_, ?_, ?_⟩
  · exact (hread _ _ (by simp [hostpFields])).trans (Nat.mod_eq_of_lt (leNat_slice_lt b 2 2))
  · exact (hread _ _ (by simp [hostpFields])).trans (Nat.mod_eq_of_lt (leNat_slice_lt b 8 3))
  · exact (hread _ _ (by simp [hostpFields])).trans (Nat.mod_eq_of_lt (by omega : byteAt b 11 < 2 ^ 3))
  · exact (hread _ _ (by simp [hostpFields])).trans (Nat.mod_eq_of_lt (by omega : leNat (slice b 12 2) < 2 ^ 10))
  · exact (hread _ _ (by simp [hostpFields])).trans (Nat.mod_mod _ 2)
  · exact (hread _ _ (by simp [hostpFields])).trans (Nat.mod_eq_of_lt (by omega : byteAt b 14 / 2 < 2 ^ 1))

/-- The vendor that a HOSTP record names; 0xFFFF leaves that of the fuses (R545). -/
def State.setVendor (s : State) (v : Nat) : State := if v = 0xFFFF then s else s.setRwl F.HOSTP_IDS_VENDOR_ID v

theorem State.setVendor_kept (v : Nat) (hlock : s.flag F.SYSCTL_CFG_LOCK_LOCK = false) :
    regsFrame s (s.setVendor v) ∧ (s.setVendor v).flag F.SYSCTL_CFG_LOCK_LOCK = false ∧
      (s.setVendor v).fld F.SYSCTL_BOOT_STATUS_SLOT = s.fld F.SYSCTL_BOOT_STATUS_SLOT := by
  unfold State.setVendor
  split
  · exact ⟨rfl, hlock, rfl⟩
  · rw [State.setRwl_of_unlocked hlock]
    exact ⟨rfl, State.unlocked_setFld hlock (by decide), State.fld_setFld_ne _ _ _ _ (by decide)⟩

/-- The link has been set to train. -/
def State.markTrained (s : State) : State := { s with boot := { s.boot with hostpTrained := true } }

theorem State.fld_markTrained (f : Fld) : s.markTrained.fld f = s.fld f := rfl

/-- What a HOSTP record does with its body before the link has started (R116, R545). -/
def State.hostpBody (s : State) (d : DirEntry) (b : List Byte) : Except Nat State :=
  if s.boot.hostpTrained then .ok (s.setFld F.SYSCTL_BOOT_STATUS_HOSTP_LATE 1)
  else if d.length = 16 ∧ s.boot.recIdx < 8 ∧ 1 ≤ byteAt b 11 ∧ byteAt b 11 ≤ 4 ∧
      1 ≤ leNat (slice b 12 2) ∧ leNat (slice b 12 2) ≤ 512 ∧ byteAt b 14 < 4 ∧ byteAt b 15 = 0 then
    .ok ((s.setVendor (leNat (slice b 0 2))).setRwls (hostpFields b)).markTrained
  else .error codeBadRecord

theorem exec_hostpRecord : exec .hostpRecord s = .next (s.record 0x04 s.hostpBody) := by
  show execHostpRecord s = _
  unfold execHostpRecord State.hostpBody State.setVendor State.setRwls hostpFields State.markTrained
  simp only [List.foldl_cons, List.foldl_nil]

theorem placeKept_markTrained {u : State} (h : placeKept s u) : placeKept s u.markTrained := by
  obtain ⟨hphase, hidx, hnvm, hfuses, hslot⟩ := h
  exact ⟨hphase, hidx, hnvm, hfuses, hslot⟩

theorem placeKept_trans {t u : State} (h : placeKept s t) (k : placeKept t u) : placeKept s u :=
  ⟨k.phase.trans h.phase, k.recIdx.trans h.recIdx, k.nvm.trans h.nvm, k.fuses.trans h.fuses, k.slot.trans h.slot⟩

theorem exec_hostpRecord_leaves {f : Nat} (hat : atRecord s 0x04) (hlen : (presentBody s).length = 16)
    (hidx : s.boot.recIdx < 8) (hgenLo : 1 ≤ byteAt (presentBody s) 11) (hgen : byteAt (presentBody s) 11 ≤ 4)
    (hmsixLo : 1 ≤ leNat (slice (presentBody s) 12 2)) (hmsix : leNat (slice (presentBody s) 12 2) ≤ 512)
    (hf : f = byteAt (presentBody s) 14) (hflags : f < 4) (hres : byteAt (presentBody s) 15 = 0)
    (hlock : s.flag F.SYSCTL_CFG_LOCK_LOCK = false) (hfirst : s.boot.hostpTrained = false) :
    ∃ t, exec .hostpRecord s = .next t ∧ (¬ digestMatches s → slotFails s t s.slot 6) ∧
      (digestMatches s → wentOn s t ∧ t.boot.hostpTrained = true ∧
        t.fld F.HOSTP_IDS_DEVICE_ID = leNat (slice (presentBody s) 2 2) ∧
        t.fld F.HOSTP_CLASS_CLASS = leNat (slice (presentBody s) 8 3) ∧
        t.fld F.HOSTP_CFG_MAX_GEN = byteAt (presentBody s) 11 ∧
        t.fld F.HOSTP_CFG_MSIX_COUNT = leNat (slice (presentBody s) 12 2) ∧
        t.fld F.HOSTP_PM_CFG_L1_EN = f % 2 ∧ t.fld F.HOSTP_PM_CFG_L1SS_EN = f / 2) := by
  subst hf
  have hd := (length_presentBody s).symm.trans hlen
  have hregs : (hostpFields (presentBody s)).map Prod.fst = hostpRegs := rfl
  obtain ⟨hvframe, hvlock, hvslot⟩ := State.setVendor_kept (leNat (slice (presentBody s) 0 2)) hlock
  have hset := (s.setVendor (leNat (slice (presentBody s) 0 2))).setRwls_of_unlocked hregs hvlock (by decide)
  obtain ⟨hdev, hclass, hmaxgen, hcount, hl1, hl1ss⟩ :=
    hostp_reads (s := s.setVendor (leNat (slice (presentBody s) 0 2))) hgen hmsix hflags
  have hkept : placeKept s ((s.setVendor (leNat (slice (presentBody s) 0 2))).setFlds (hostpFields (presentBody s))) :=
    placeKept_trans (placeKept_of_regs hvframe hvslot) (placeKept_setFlds _ hregs (by decide))
  have hbody : s.hostpBody (s.dirEntry s.slot s.boot.recIdx) (presentBody s) =
      .ok ((s.setVendor (leNat (slice (presentBody s) 0 2))).setFlds (hostpFields (presentBody s))).markTrained := by
    rw [State.hostpBody, if_neg (by simp [hfirst]),
      if_pos ⟨hd, hidx, hgenLo, hgen, hmsixLo, hmsix, hflags, hres⟩, hset]
  have hlen' : (0x04 : Nat) = 0x09 ∨ (presentBody s).length ≠ 0 := .inr (by rw [hlen]; decide)
  generalize (s.setVendor (leNat (slice (presentBody s) 0 2))).setFlds (hostpFields (presentBody s)) = u at *
  refine record_outcome exec_hostpRecord hat hlen' hbody (placeKept_markTrained hkept) ⟨rfl, ?_⟩
  exact ⟨(State.fld_advance _ _).trans ((State.fld_markTrained _).trans hdev),
    (State.fld_advance _ _).trans ((State.fld_markTrained _).trans hclass),
    (State.fld_advance _ _).trans ((State.fld_markTrained _).trans hmaxgen),
    (State.fld_advance _ _).trans ((State.fld_markTrained _).trans hcount),
    (State.fld_advance _ _).trans ((State.fld_markTrained _).trans hl1),
    (State.fld_advance _ _).trans ((State.fld_markTrained _).trans hl1ss)⟩

/-! ### The link's late start -/

/-- The link starts to train, and the HOSTP branch is ON (R96, R116). -/
theorem State.trainLink_leaves (hmode : s.fld F.HOSTP_CFG_MODE ≠ 0) :
    s.trainLink.boot.hostpTrained = true ∧ s.trainLink.gateMode 13 = 2 ∧ s.trainLink.active 13 = true ∧
      onlyFields s s.trainLink [⟨A.CKGEN_GATE, 26, 2⟩, ⟨A.CKGEN_ACTIVE, 13, 1⟩] ∧
      s.trainLink = { s with regs := s.trainLink.regs, boot := s.trainLink.boot } := by
  have heq : s.trainLink = ((s.setFld ⟨A.CKGEN_GATE, 26, 2⟩ 2).setActive 13 true).markTrained := if_neg hmode
  rw [heq]
  refine ⟨rfl, ?_, ?_, ?_, rfl⟩
  · have hmode : (s.setFld ⟨A.CKGEN_GATE, 26, 2⟩ 2).fld ⟨A.CKGEN_GATE, 26, 2⟩ = 2 :=
      State.fld_setFld_same _ _ _ (by decide)
    have hkept : (((s.setFld ⟨A.CKGEN_GATE, 26, 2⟩ 2).setActive 13 true).markTrained).rd A.CKGEN_GATE =
        (s.setFld ⟨A.CKGEN_GATE, 26, 2⟩ 2).rd A.CKGEN_GATE := State.rd_wr_ne _ _ (by decide)
    unfold State.gateMode
    rw [hkept]
    exact hmode
  · have hset := (s.setFld ⟨A.CKGEN_GATE, 26, 2⟩ 2).active_setActive 13 true (c := 13) (by decide)
    exact hset.trans (if_pos rfl)
  · exact onlyFields_of_regs rfl (onlyFields_setFld ⟨A.CKGEN_ACTIVE, 13, 1⟩ (bit true) (by simp)
      (onlyFields_setFld _ _ (by simp) (onlyFields_refl s _)))

theorem exec_hostpLate_leaves {p : DWord} (hmode : s.fld F.HOSTP_CFG_MODE ≠ 0) (hfirst : s.boot.hostpTrained = false)
    (hphase : s.boot.phase ≠ .waiting) (hrun : s.dark = false)
    (htime : max p.toNat s.boot.released.toNat + 40000000 ≤ s.now) :
    ∃ t, exec (.hostpLate p) s = .next t ∧ t.boot.hostpTrained = true ∧ t.gateMode 13 = 2 ∧ t.active 13 = true ∧
      onlyFields s t [⟨A.CKGEN_GATE, 26, 2⟩, ⟨A.CKGEN_ACTIVE, 13, 1⟩] ∧
      t = { s with regs := t.regs, boot := t.boot } := by
  have hdue : ¬ (s.boot.hostpTrained = true ∨ s.boot.phase = .waiting ∨ s.dark = true ∨
      s.now < max p.toNat s.boot.released.toNat + 80 * Config.ticksPerMs) := by
    have hms : 80 * Config.ticksPerMs = 40000000 := rfl
    simp only [hfirst, hrun, hphase, hms, Bool.false_eq_true, false_or, not_lt]
    exact htime
  exact ⟨_, if_neg hdue, State.trainLink_leaves hmode⟩

/-- Before the 80 ms are over the link does not start (R116). -/
theorem exec_hostpLate_early {p : DWord} (htime : s.now < max p.toNat s.boot.released.toNat + 40000000) :
    exec (.hostpLate p) s = .next s := if_pos (.inr (.inr (.inr htime)))

/-! ### DRAM -/

/-- The fields of DRAMC.CFG that a DRAM record sets (R559). -/
def dramFields (b : List Byte) : List (Fld × Nat) :=
  [(F.DRAMC_CFG_TYPE, byteAt b 0), (F.DRAMC_CFG_RATE, byteAt b 1), (F.DRAMC_CFG_RANKS, byteAt b 2),
    (F.DRAMC_CFG_DENSITY, byteAt b 3), (F.DRAMC_CFG_ECC_EN, byteAt b 4 % 2)]

/-- The fields themselves. -/
def dramRegs : List Fld :=
  [F.DRAMC_CFG_TYPE, F.DRAMC_CFG_RATE, F.DRAMC_CFG_RANKS, F.DRAMC_CFG_DENSITY, F.DRAMC_CFG_ECC_EN]

/-- What the parameters of a DRAM record set beside DRAMC.CFG. -/
def State.dramSet (s : State) (b : List Byte) : State :=
  let t := s.setFld F.DRAMC_PD_CFG_PD_IDLE_NS (leNat (slice b 6 2))
  { t with dram := { t.dram with drive := byteAt b 5, dbi := (byteAt b 4).testBit 3 } }

/-- What a DRAM record does with its body. -/
def State.dramBody (s : State) (trains : Bool) (d : DirEntry) (b : List Byte) : Except Nat State :=
  if d.length = 16 ∧ byteAt b 0 ≤ 1 ∧ byteAt b 1 ≤ 5 ∧ (byteAt b 0 = 1 ∨ byteAt b 1 ≤ 3) ∧
      1 ≤ byteAt b 2 ∧ byteAt b 2 ≤ 2 ∧ byteAt b 3 ≤ 3 ∧ byteAt b 4 < 16 ∧
      (b.drop 8).all (fun x => decide (x = 0)) then
    if trains ∨ (s.dram.stored ∧ ¬ (byteAt b 4).testBit 1) then
      .ok (if (byteAt b 4).testBit 2 then
        (((s.setRwls (dramFields b)).dramSet b).dramUp.setFld F.SYSCTL_BOOT_STATUS_STAGE 4).repair
      else ((s.setRwls (dramFields b)).dramSet b).dramUp.setFld F.SYSCTL_BOOT_STATUS_STAGE 4)
    else .error codeDramTrain
  else .error codeBadRecord

theorem exec_dramRecord (trains : Bool) : exec (.dramRecord trains) s = .next (s.record 0x05 (s.dramBody trains)) := by
  show execDramRecord trains s = _
  unfold execDramRecord State.dramBody State.dramSet State.setRwls dramFields
  simp only [List.foldl_cons, List.foldl_nil]

theorem State.fld_dramSet (b : List Byte) {f : Fld} (h : f.addr ≠ A.DRAMC_PD_CFG) : (s.dramSet b).fld f = s.fld f :=
  State.fld_setFld_ne s _ _ _ h

/-- The capacity that the parameters of a DRAM record with ECC give (R559, R560). -/
theorem State.dramCap_of_record {b : List Byte} (hranks : byteAt b 2 ≤ 2) (hdens : byteAt b 3 ≤ 3)
    (hflags : byteAt b 4 = 1) :
    ((s.setFlds (dramFields b)).dramSet b).dramCap = byteAt b 2 * (896 * 2 ^ byteAt b 3) := by
  have hregs : (dramFields b).map Prod.fst = dramRegs := rfl
  have hread := fun f v hm => s.fld_setFlds_of_mem hregs (by decide) (by decide) (f := f) (v := v) hm
  have hecc : ((s.setFlds (dramFields b)).dramSet b).flag F.DRAMC_CFG_ECC_EN = true := by
    unfold State.flag
    rw [State.fld_dramSet b (by decide), hread F.DRAMC_CFG_ECC_EN (byteAt b 4 % 2) (by simp [dramFields]), hflags]
    rfl
  have hr : ((s.setFlds (dramFields b)).dramSet b).fld F.DRAMC_CFG_RANKS = byteAt b 2 := by
    rw [State.fld_dramSet b (by decide), hread F.DRAMC_CFG_RANKS (byteAt b 2) (by simp [dramFields])]
    exact Nat.mod_eq_of_lt (by omega : byteAt b 2 < 2 ^ 2)
  have hdn : ((s.setFlds (dramFields b)).dramSet b).fld F.DRAMC_CFG_DENSITY = byteAt b 3 := by
    rw [State.fld_dramSet b (by decide), hread F.DRAMC_CFG_DENSITY (byteAt b 3) (by simp [dramFields])]
    exact Nat.mod_eq_of_lt (by omega : byteAt b 3 < 2 ^ 3)
  have hrank : 1024 * 2 ^ byteAt b 3 / 8 * 7 = 896 * 2 ^ byteAt b 3 := by omega
  rw [State.dramCap, hecc, hr, hdn, dramMib, if_pos rfl, hrank]

/-- The clock of trained DRAM (R95, R96). -/
def State.dramClock (s : State) : State :=
  let t := (s.setFld F.CKGEN_PLL_CTRL_EN (s.fld F.CKGEN_PLL_CTRL_EN ||| 16)).setFld F.CKGEN_PLL_STATUS_LOCK
    (s.fld F.CKGEN_PLL_STATUS_LOCK ||| 16)
  if t.gateMode 12 = 2 then t.setActive 12 true else t

theorem State.dramClock_kept : regsFrame s s.dramClock ∧
    ∀ a, a ∉ [A.CKGEN_PLL_CTRL, A.CKGEN_PLL_STATUS, A.CKGEN_ACTIVE] → s.dramClock.rd a = s.rd a := by
  have hpll : ∀ a, a ∉ [A.CKGEN_PLL_CTRL, A.CKGEN_PLL_STATUS, A.CKGEN_ACTIVE] →
      ((s.setFld F.CKGEN_PLL_CTRL_EN (s.fld F.CKGEN_PLL_CTRL_EN ||| 16)).setFld F.CKGEN_PLL_STATUS_LOCK
        (s.fld F.CKGEN_PLL_STATUS_LOCK ||| 16)).rd a = s.rd a := fun a ha => by
    simp only [List.mem_cons, List.not_mem_nil, or_false, not_or] at ha
    obtain ⟨hctrl, hstatus, -⟩ := ha
    rw [State.rd_setFld_ne _ _ _ hstatus, State.rd_setFld_ne _ _ _ hctrl]
  unfold State.dramClock
  dsimp only
  split
  · refine ⟨rfl, fun a ha => (State.rd_wr_ne _ _ ?_).trans (hpll a ha)⟩
    simp only [List.mem_cons, List.not_mem_nil, or_false, not_or] at ha
    exact ha.2.2
  · exact ⟨rfl, hpll⟩

/-- DRAM shown as trained. -/
def State.dramShown (s : State) : State :=
  ((s.setFld F.DRAMC_STATUS_TRAINED 1).setFld F.DRAMC_STATUS_SELF_REFRESH 0).setFld F.DRAMC_STATUS_CAP_MIB s.dramCap

theorem State.dramUp_eq (s : State) : s.dramUp = s.dramShown.dramClock := rfl

/-- Trained DRAM shows TRAINED and its capacity, and no register but those of its clock changes with it. -/
theorem State.dramUp_leaves : regsFrame s s.dramUp ∧ s.dramUp.flag F.DRAMC_STATUS_TRAINED = true ∧
    s.dramUp.flag F.DRAMC_STATUS_SELF_REFRESH = false ∧
    s.dramUp.fld F.DRAMC_STATUS_CAP_MIB = s.dramCap % 2 ^ 15 ∧
    s.dramUp.fld F.SYSCTL_BOOT_STATUS_SLOT = s.fld F.SYSCTL_BOOT_STATUS_SLOT := by
  obtain ⟨hframe, hrd⟩ := State.dramClock_kept (s := s.dramShown)
  have hstatus := hrd A.DRAMC_STATUS (by decide)
  rw [State.dramUp_eq]
  refine ⟨regsFrame_trans (t := s.dramShown) rfl hframe, ?_, ?_, ?_, ?_⟩
  · rw [flag_of_rd hstatus, State.flag, State.dramShown, State.fld_setFld_apart _ _ _ _ (by decide) (by decide),
      State.fld_setFld_apart _ _ _ _ (by decide) (by decide), State.fld_setFld_same _ _ _ (by decide)]
    rfl
  · rw [flag_of_rd hstatus, State.flag, State.dramShown, State.fld_setFld_apart _ _ _ _ (by decide) (by decide),
      State.fld_setFld_same _ _ _ (by decide)]
    rfl
  · rw [fld_of_rd hstatus]
    exact State.fld_setFld_same _ _ _ (by decide)
  · rw [fld_of_rd (hrd _ (by decide)), State.dramShown, State.fld_setFld_ne _ _ _ _ (by decide),
      State.fld_setFld_ne _ _ _ _ (by decide), State.fld_setFld_ne _ _ _ _ (by decide)]

end Sys2Proof.Machine
end

section
/-! The boot records DRAM, LOAD, LOCK and SEALED (R114, R115, R117 to R119, R559), and the settling of O15. -/

namespace Sys2Proof.Machine

variable {s : State}

/-! ### DRAM -/

theorem placeKept_dramSet (b : List Byte) : placeKept s (s.dramSet b) :=
  ⟨rfl, rfl, rfl, rfl, s.fld_dramSet b (by decide)⟩

theorem exec_dramRecord_leaves (hat : atRecord s 0x05) (hlen : (presentBody s).length = 16)
    (htype : byteAt (presentBody s) 0 = 1) (hrate : byteAt (presentBody s) 1 ≤ 5)
    (hrankLo : 1 ≤ byteAt (presentBody s) 2) (hranks : byteAt (presentBody s) 2 ≤ 2)
    (hdens : byteAt (presentBody s) 3 ≤ 3) (hflags : byteAt (presentBody s) 4 = 1)
    (hres : ((presentBody s).drop 8).all (fun x => decide (x = 0)) = true)
    (hlock : s.flag F.SYSCTL_CFG_LOCK_LOCK = false) :
    ∃ t, exec (.dramRecord true) s = .next t ∧ (¬ digestMatches s → slotFails s t s.slot 6) ∧
      (digestMatches s → wentOn s t ∧ t.flag F.DRAMC_STATUS_TRAINED = true ∧
        t.flag F.DRAMC_STATUS_SELF_REFRESH = false ∧
        t.fld F.DRAMC_STATUS_CAP_MIB = byteAt (presentBody s) 2 * (896 * 2 ^ byteAt (presentBody s) 3) ∧
        t.fld F.SYSCTL_BOOT_STATUS_STAGE = 4) := by
  have hd := (length_presentBody s).symm.trans hlen
  have hregs : (dramFields (presentBody s)).map Prod.fst = dramRegs := rfl
  have hset := s.setRwls_of_unlocked hregs hlock (by decide)
  have hcap := s.dramCap_of_record hranks hdens hflags
  have hkept : placeKept s ((s.setFlds (dramFields (presentBody s))).dramSet (presentBody s)) :=
    placeKept_trans (placeKept_setFlds s hregs (by decide)) (placeKept_dramSet _)
  have hbody : s.dramBody true (s.dirEntry s.slot s.boot.recIdx) (presentBody s) = .ok
      (((s.setFlds (dramFields (presentBody s))).dramSet (presentBody s)).dramUp.setFld
        F.SYSCTL_BOOT_STATUS_STAGE 4) := by
    rw [State.dramBody, if_pos ⟨hd, by omega, hrate, .inl htype, hrankLo, hranks, hdens, by omega, hres⟩,
      if_pos (.inl rfl), hflags, hset]
    rfl
  have hlen' : (0x05 : Nat) = 0x09 ∨ (presentBody s).length ≠ 0 := .inr (by rw [hlen]; decide)
  generalize (s.setFlds (dramFields (presentBody s))).dramSet (presentBody s) = u at hcap hkept hbody
  obtain ⟨hframe, htrained, hself, hshown, hslot⟩ := State.dramUp_leaves (s := u)
  have hstage : placeKept s (u.dramUp.setFld F.SYSCTL_BOOT_STATUS_STAGE 4) :=
    placeKept_trans hkept (placeKept_trans (placeKept_of_regs hframe hslot)
      (placeKept_of_regs rfl (State.fld_setFld_apart _ _ _ _ (by decide) (by decide))))
  have hother : ∀ f : Fld, f.addr ≠ A.SYSCTL_BOOT_STATUS →
      (u.dramUp.setFld F.SYSCTL_BOOT_STATUS_STAGE 4).advance.fld f = u.dramUp.fld f := fun f hf =>
    (State.fld_advance _ _).trans (State.fld_setFld_ne _ _ _ _ hf)
  refine record_outcome (exec_dramRecord true) hat hlen' hbody hstage ⟨?_, ?_, ?_, ?_⟩
  · rw [State.flag, hother _ (by decide)]
    exact htrained
  · rw [State.flag, hother _ (by decide)]
    exact hself
  · rw [hother _ (by decide), hshown, hcap]
    refine Nat.mod_eq_of_lt ?_
    have hpow : 2 ^ byteAt (presentBody s) 3 ≤ 2 ^ 3 := Nat.pow_le_pow_right (by decide) hdens
    calc byteAt (presentBody s) 2 * (896 * 2 ^ byteAt (presentBody s) 3) ≤ 2 * (896 * 2 ^ 3) :=
          Nat.mul_le_mul hranks (Nat.mul_le_mul_left 896 hpow)
      _ < 2 ^ 15 := by decide
  · exact (State.fld_advance _ _).trans (State.fld_setFld_same _ _ _ (by decide))

/-! ### LOAD -/

/-- A LOAD goes to mapped memory (R115, R125). -/
theorem State.mapped_of_loadable {a n : Nat} (h : s.loadable a n = true) : ∀ i < n, s.mapped (a + i) = true := by
  intro i hi
  simp only [State.loadable, Bool.or_eq_true, Bool.and_eq_true] at h
  simp only [State.mapped, Bool.or_eq_true]
  rcases h with (⟨hlo, hhi⟩ | ⟨hlo, hhi⟩) | ⟨⟨-, hlo⟩, hhi⟩
  · refine .inl (.inl ?_)
    simp only [inSram, decide_eq_true_eq] at hlo hhi ⊢
    omega
  · refine .inl (.inr ?_)
    simp only [inRetention, decide_eq_true_eq] at hlo hhi ⊢
    omega
  · refine .inr ?_
    simp only [State.inDram, decide_eq_true_eq] at hlo hhi ⊢
    omega

theorem placeKept_storeBytes (bs : List Byte) (a : Nat) : placeKept s (s.storeBytes a bs) := by
  rw [State.storeBytes_frame]
  exact ⟨rfl, rfl, rfl, rfl, rfl⟩

theorem State.regs_storeBytes (bs : List Byte) (a : Nat) : (s.storeBytes a bs).regs = s.regs := by
  rw [State.storeBytes_frame]

theorem State.regs_advance (s : State) : s.advance.regs = s.regs := rfl

theorem State.byte_advance (a : Nat) : s.advance.byte a = s.byte a := rfl

theorem exec_load_leaves {d : DirEntry} (hat : atRecord s 0x06) (hd : d = s.dirEntry s.slot s.boot.recIdx)
    (hlen : d.length ≠ 0) (hfirst : s.boot.resume = false) (hdest : s.loadable d.dest d.length = true)
    (hkeys : s.hitsKeyBank d.dest d.length = false) :
    ∃ t, exec .load s = .next t ∧ (¬ digestMatches s → slotFails s t s.slot 6) ∧
      (digestMatches s → wentOn s t ∧ (∀ i < d.length, t.byte (d.dest + i) = (presentBody s).getD i 0) ∧
        (∀ a, a < d.dest ∨ d.dest + d.length ≤ a → t.byte a = s.byte a) ∧ t.regs = s.regs) := by
  subst hd
  have hsize := length_presentBody s
  have hmapped : ∀ j < (presentBody s).length, s.mapped ((s.dirEntry s.slot s.boot.recIdx).dest + j) = true :=
    hsize ▸ State.mapped_of_loadable hdest
  have hbody : s.applyLoad (s.dirEntry s.slot s.boot.recIdx).dest (s.dirEntry s.slot s.boot.recIdx).resume
      (presentBody s) = .ok (s.storeBytes (s.dirEntry s.slot s.boot.recIdx).dest (presentBody s)) := by
    unfold State.applyLoad
    rw [hsize, if_neg (by simp [hdest, hkeys]), if_neg (by simp [hfirst])]
  have hexec : exec .load s = .next (s.record 0x06 (fun d b => s.applyLoad d.dest d.resume b)) := rfl
  refine record_outcome hexec hat (.inr (hsize ▸ hlen)) hbody (placeKept_storeBytes _ _)
    ⟨fun i hi => ?_, fun a ha => ?_, ?_⟩
  · rw [State.byte_advance]
    exact State.byte_storeBytes (presentBody s) s _ i hmapped (hsize ▸ hi)
  · rw [State.byte_advance]
    exact State.storeBytes_byte (presentBody s) s _ a (hsize ▸ ha)
  · exact (State.regs_advance _).trans (State.regs_storeBytes _ _)

/-! ### LOCK -/

theorem exec_lockRecord_leaves (hat : atRecord s 0x09) (hlen : (presentBody s).length = 0) :
    ∃ t, exec .lockRecord s = .next t ∧ (¬ digestMatches s → slotFails s t s.slot 6) ∧
      (digestMatches s → wentOn s t ∧ t.flag F.SYSCTL_CFG_LOCK_LOCK = true ∧
        onlyFields s t [F.SYSCTL_CFG_LOCK_LOCK]) := by
  have hd := (length_presentBody s).symm.trans hlen
  refine record_outcome (u := s.setFld F.SYSCTL_CFG_LOCK_LOCK 1) rfl hat (.inl rfl) (if_neg (not_not_intro hd))
    (placeKept_of_regs rfl (State.fld_setFld_ne _ _ _ _ (by decide))) ⟨?_, ?_⟩
  · rw [State.flag, State.fld_advance, State.fld_setFld_same _ _ _ (by decide)]
    rfl
  · exact onlyFields_advance (onlyFields_setFld _ _ (by simp) (onlyFields_refl s _))

/-! ### SEALED -/

/-- Without the sealing key nothing is opened (R119). -/
theorem State.openSealed_of_no_key {b : List Byte} (h : s.sealingKey (b.take 16) = none) : s.openSealed b = none := by
  simp only [State.openSealed, h]

theorem exec_sealed_leaves (hat : atRecord s 0x08) (hlen : 48 ≤ (presentBody s).length)
    (hres : leNat (slice (presentBody s) 28 4) = 0) (hbound : s.boot.unbound = false)
    (hkey : s.sealingKey ((presentBody s).take 16) = none) :
    ∃ t, exec .sealed s = .next t ∧ (¬ digestMatches s → slotFails s t s.slot 6) ∧
      (digestMatches s → wentOn s t ∧ t.flag F.SYSCTL_BOOT_STATUS_UNBOUND = true ∧ t.boot.unbound = true ∧
        t.mem = s.mem ∧ t.keys = s.keys) := by
  have hopen := State.openSealed_of_no_key hkey
  have hnow : s.bodyNow 0x08 = presentBody s := if_pos ⟨hat.1, hat.2.1⟩
  have hwaits : s.sealedWaits = false := by
    simp only [State.sealedWaits, hnow, hopen, Bool.and_false]
  have hexec : exec .sealed s = .next (s.record 0x08 (fun _ b => s.sealedBody b)) := if_neg (by simp [hwaits])
  have hbody : s.sealedBody (presentBody s) = .ok s.bootUnbound := by
    unfold State.sealedBody
    rw [if_neg (by simp [hbound]), if_neg (by omega), hopen]
  refine record_outcome hexec hat (.inr (by omega)) hbody
    ⟨rfl, rfl, rfl, rfl, State.fld_setFld_apart s _ _ _ (by decide) (by decide)⟩ ⟨?_, rfl, rfl, rfl⟩
  have hset : s.bootUnbound.fld F.SYSCTL_BOOT_STATUS_UNBOUND = 1 := State.fld_setFld_same s _ _ (by decide)
  rw [State.flag, State.fld_advance, hset]
  rfl

/-- Settles O15: each record with a legal body sets its own state, and `record_outcome` does the rest. -/
theorem bootRecordsAreApplied : Obligations.BootRecordsAreApplied := by
  refine ⟨fun s hat hlen haddr hlock => exec_pmic_leaves hat hlen haddr hlock,
    fun s hat hlen hdummy hlo hhi hlock => exec_nvmTiming_leaves hat hlen hdummy hlo hhi hlock,
    fun s pll gate hat hlen hpll hgate hlegal hmodes => exec_clocks_leaves hat hlen hpll hgate hlegal hmodes,
    fun s f hat hlen hidx hgenLo hgen hmsixLo hmsix hf hflags hres hlock hfirst =>
      exec_hostpRecord_leaves hat hlen hidx hgenLo hgen hmsixLo hmsix hf hflags hres hlock hfirst,
    fun s p hmode hfirst hphase hrun htime => exec_hostpLate_leaves hmode hfirst hphase hrun htime,
    fun s p htime => exec_hostpLate_early htime, ?_,
    fun s d hat hd hlen hfirst hdest hkeys => exec_load_leaves hat hd hlen hfirst hdest hkeys,
    fun s hat hlen => exec_lockRecord_leaves hat hlen,
    fun s hat hlen hres hbound hkey => exec_sealed_leaves hat hlen hres hbound hkey⟩
  exact fun s hat hlen htype hrate hrankLo hranks hdens hflags hres hlock =>
    exec_dramRecord_leaves hat hlen htype hrate hrankLo hranks hdens hflags hres hlock

end Sys2Proof.Machine
end

section
/-! What the radios hold (R144 to R164), and what WMAC and ROUNDS keep of an exchange: what an update of one radio
leaves of the others, and what closing, locking and charging an exchange leave. -/

namespace Sys2Proof.Machine

variable {s t u : State} {r q : Nat}

/-! ### What one radio holds -/

theorem State.radio_modRadio (s : State) (r q : Nat) (f : RadioSt → RadioSt) :
    (s.modRadio r f).radio q = if q = r then f (s.radio r) else s.radio q :=
  sget_sput _ s.air.radios r _ q

theorem State.radio_modRadio_same (s : State) (r : Nat) (f : RadioSt → RadioSt) :
    (s.modRadio r f).radio r = f (s.radio r) := (s.radio_modRadio r r f).trans (if_pos rfl)

theorem State.radio_modRadio_ne (s : State) (f : RadioSt → RadioSt) (h : q ≠ r) :
    (s.modRadio r f).radio q = s.radio q :=
  (s.radio_modRadio r q f).trans (if_neg h)

theorem State.radio_of_air (h : t.air = s.air) (q : Nat) : t.radio q = s.radio q :=
  congrArg (fun a : AirSt => sget (fun _ => ({} : RadioSt)) a.radios q) h

theorem otherRadios_of_air (h : t.air = s.air) (r : Nat) : otherRadios s t r := fun q _ => State.radio_of_air h q

theorem otherRadios_modRadio (s : State) (r : Nat) (f : RadioSt → RadioSt) : otherRadios s (s.modRadio r f) r :=
  fun _ hq => s.radio_modRadio_ne f hq

theorem otherRadios_trans (h : otherRadios s t r) (k : otherRadios t u r) : otherRadios s u r :=
  fun q hq => (k q hq).trans (h q hq)

/-! ### A reception that is not there -/

theorem State.dropRx_of_none (h : (s.radio r).rx = none) : s.dropRx r = s := by
  unfold State.dropRx
  rw [h]

theorem State.ngDrop_of_none (h : s.ngr.rx = none) : s.ngDrop = s := by
  unfold State.ngDrop
  rw [h]

/-- A radio that receives nothing drops nothing. -/
theorem State.dropAny_of_noReception (h : noReception s r) : s.dropAny r = s := by
  obtain ⟨hrx, hngr⟩ := h
  unfold State.dropAny
  split
  · next h3 => exact State.ngDrop_of_none (hngr h3)
  · exact State.dropRx_of_none hrx

theorem State.rxActive_of_none (h : (s.radio r).rx = none) : s.rxActive r = none := by
  unfold State.rxActive
  rw [h]

theorem State.ngRxNow_of_none (h : s.ngr.rx = none) : s.ngRxNow = none := by
  unfold State.ngRxNow
  rw [h]

/-- The strobes of a radio that receives nothing lose nothing. -/
theorem State.deafen_of_noReception (h : noReception s r) : s.deafen r = s := by
  obtain ⟨hrx, hngr⟩ := h
  unfold State.deafen
  split
  · rfl
  · split
    · next h3 => rw [State.ngRxNow_of_none (hngr h3)]; rfl
    · rw [State.rxActive_of_none hrx]; rfl

theorem noReception_of_eq (hair : (t.radio r).rx = (s.radio r).rx) (hngr : t.ngr = s.ngr) (h : noReception s r) :
    noReception t r :=
  ⟨hair.trans h.1, fun h3 => (congrArg NgrSt.rx hngr).trans (h.2 h3)⟩

/-! ### What WMAC and ROUNDS keep of an exchange -/

/-- From `s` to `t` nothing has changed but the EMLSR exchanges of WMAC, the airtime of ROUNDS and the listening
window of Watch. -/
def exchangeFrame (s t : State) : Prop :=
  t = { s with wmac := { s.wmac with emlsr := t.wmac.emlsr }, rounds := t.rounds, power := t.power }

theorem exchangeFrame.eq (h : exchangeFrame s t) :
    t = { s with wmac := { s.wmac with emlsr := t.wmac.emlsr }, rounds := t.rounds, power := t.power } := h

theorem exchangeFrame_refl (s : State) : exchangeFrame s s := rfl

theorem exchangeFrame_trans (h : exchangeFrame s t) (k : exchangeFrame t u) : exchangeFrame s u := by
  unfold exchangeFrame at *
  rw [k, h]

theorem exchangeFrame_modEmlsr (s : State) (sta : Nat) (f : EmlsrSt → EmlsrSt) :
    exchangeFrame s (s.modEmlsr sta f) := rfl

theorem exchangeFrame_closeUsers (s : State) (l : List (Nat × Nat)) : exchangeFrame s (s.closeUsers l) := by
  induction l generalizing s with
  | nil => exact exchangeFrame_refl s
  | cons x l ih =>
    refine exchangeFrame_trans ?_ (ih _)
    dsimp only
    split
    · exact exchangeFrame_modEmlsr s _ _
    · exact exchangeFrame_refl s

theorem exchangeFrame_emlsrLock (s : State) (l : List (Nat × Nat)) (stop : Nat) :
    exchangeFrame s (s.emlsrLock l stop) := by
  induction l generalizing s with
  | nil => exact exchangeFrame_refl s
  | cons x l ih =>
    refine exchangeFrame_trans ?_ (ih _)
    dsimp only
    split
    · exact exchangeFrame_modEmlsr s _ _
    · exact exchangeFrame_refl s

theorem exchangeFrame_usersServed (s : State) (k : AirKind) (stop : Nat) : exchangeFrame s (s.usersServed k stop) := by
  unfold State.usersServed
  split
  · exact exchangeFrame_refl s
  · exact exchangeFrame_emlsrLock s _ stop

theorem exchangeFrame_chargeRsp (s : State) (r t0 ticks : Nat) : exchangeFrame s (s.chargeRsp r t0 ticks) := by
  unfold State.chargeRsp
  split <;> rfl

theorem exchangeFrame_watchListens (s : State) (k : AirKind) (t1 : Nat) : exchangeFrame s (s.watchListens k t1) := by
  unfold State.watchListens
  split
  · split <;> rfl
  · exact exchangeFrame_refl s

theorem regs_of_exchangeFrame (h : exchangeFrame s t) : t.regs = s.regs := by rw [exchangeFrame.eq h]

theorem mem_of_exchangeFrame (h : exchangeFrame s t) : t.mem = s.mem := by rw [exchangeFrame.eq h]

theorem air_of_exchangeFrame (h : exchangeFrame s t) : t.air = s.air := by rw [exchangeFrame.eq h]

theorem ctrs_of_exchangeFrame (h : exchangeFrame s t) : t.ctrs = s.ctrs := by rw [exchangeFrame.eq h]

theorem mpdus_of_exchangeFrame (h : exchangeFrame s t) : t.wmac.mpdus = s.wmac.mpdus := by
  rw [exchangeFrame.eq h]

theorem waiting_of_exchangeFrame (h : exchangeFrame s t) : t.wmac.waiting = s.wmac.waiting := by
  rw [exchangeFrame.eq h]

/-! ### MPDUs and waiting frames -/

theorem WmacSt.waiting_nil_eq {w : WmacSt} (h : w.waiting = []) : { w with waiting := [] } = w := by
  cases w
  cases h
  rfl

/-- Where no frame waits, none is admitted. -/
theorem State.admitWaiting_of_none (h : s.wmac.waiting = []) : s.admitWaiting = s := by
  have hall : s.wmac.waiting ++ [] = [] := by rw [h]; rfl
  unfold State.admitWaiting State.admitWith
  simp only [hall, List.length_nil, State.admitFrames]
  exact congrArg (fun w => { s with wmac := w }) (WmacSt.waiting_nil_eq h)

theorem State.cmdMpdus_of_nil {c : AirCmd} (h : c.mpdus = []) : s.cmdMpdus c = [] := by
  unfold State.cmdMpdus
  rw [h]
  rfl

/-- What an MPDU keeps while it is unbound from a link. -/
def TxMpdu.kept (m : TxMpdu) : Nat × Nat × Nat × Nat := (m.id, m.attempts, m.sn, m.pn)

/-- MPDUs that return unbound keep their attempts and numbers (R226). -/
theorem WmacSt.kept_giveBack (w : WmacSt) (c : AirCmd) :
    (w.giveBack c).mpdus.map TxMpdu.kept = w.mpdus.map TxMpdu.kept := by
  unfold WmacSt.giveBack
  split
  · rfl
  · rw [List.map_map]
    refine List.map_congr_left fun m _ => ?_
    dsimp only [Function.comp_apply]
    split <;> rfl

end Sys2Proof.Machine
end

section
/-! Calibrations of the radios (R148, R150, R151, R152, R171): what CAL_CMD.FULL does, when a tracking calibration
falls due and is overdue, and what it leaves. -/

namespace Sys2Proof.Machine

variable {s t u : State} {r : Nat}

/-! ### Commands of a block that takes work, flags and refusals -/

theorem State.whenWorks_of_takesWork {b : Nat} (h : s.takesWork b = true) (o : Host.Outcome State Fault Refusal) :
    s.whenWorks b o = o := if_pos h

theorem State.ownWrite_of_takesWork {a : Nat} (h : s.takesWork (windowOf a) = true) (c : Instr) (f : State → State) :
    s.ownWrite a c f = f (s.touch a) := by
  unfold State.takesWork at h
  simp only [Bool.and_eq_true, Bool.not_eq_true'] at h
  obtain ⟨hgated, hawaits⟩ := h
  unfold State.ownWrite State.ownAccess
  simp only [hgated, hawaits, Bool.false_eq_true, if_false]

theorem State.flag_setFld_one {f : Fld} (hf : f.lo + f.len ≤ 32) (hlen : 0 < f.len) : (s.setFld f 1).flag f = true := by
  have hone : 1 < 2 ^ f.len := Nat.one_lt_two_pow hlen.ne'
  unfold State.flag
  rw [State.fld_setFld_same _ _ _ hf, Nat.mod_eq_of_lt hone]
  rfl

theorem State.flag_setFld_zero {f : Fld} (hf : f.lo + f.len ≤ 32) : (s.setFld f 0).flag f = false := by
  unfold State.flag
  rw [State.fld_setFld_same _ _ _ hf, Nat.zero_mod]
  rfl

theorem State.flag_setFld_ne {f g : Fld} (v : Nat) (h : g.addr ≠ f.addr) : (s.setFld f v).flag g = s.flag g := by
  unfold State.flag
  rw [State.fld_setFld_ne _ _ _ _ h]

theorem refusedOnly_refuse (u : State) (a : Nat) (c : RefCode) : refusedOnly u (u.refuse a c) a c.num :=
  ⟨fun h => u.refuse_code a c h, onlyFields_refuse a c (List.mem_singleton_self _) (onlyFields_refl u _),
    regsFrame_refuse u a c⟩

theorem State.air_touch (s : State) (a : Nat) : (s.touch a).air = s.air := by rw [s.touch_frame a]

theorem State.ngr_touch (s : State) (a : Nat) : (s.touch a).ngr = s.ngr := by rw [s.touch_frame a]

/-! ### CAL_CMD.FULL -/

/-- What a write of CAL_CMD.FULL does behind the clock that it starts (R171). -/
def State.calCommanded (u : State) (r : Nat) : State :=
  if u.flag (F.RADIO_SYNTH_STATUS_CAL_BUSY r) then u.refuse (A.RADIO_CAL_CMD r) .cfgRange
  else if (u.radio r).seq = .off then u
  else u.calFull r

theorem windowOf_calCmd : ∀ r : Fin 4, windowOf (A.RADIO_CAL_CMD r.val) = radioBlock r.val := by decide

theorem synthStatus_ne_active : ∀ r : Fin 4, A.RADIO_SYNTH_STATUS r.val ≠ A.CKGEN_ACTIVE := by decide

theorem exec_calCmdFull (r : Fin 4) (h : s.takesWork (radioBlock r.val) = true) :
    exec (.calCmdFull r) s = .next ((s.touch (A.RADIO_CAL_CMD r.val)).calCommanded r.val) :=
  congrArg Host.Outcome.next (State.ownWrite_of_takesWork ((windowOf_calCmd r).symm ▸ h) _ _)

theorem State.calCommanded_of_busy (h : u.flag (F.RADIO_SYNTH_STATUS_CAL_BUSY r) = true) :
    u.calCommanded r = u.refuse (A.RADIO_CAL_CMD r) .cfgRange := if_pos h

theorem State.calCommanded_of_off (h : u.flag (F.RADIO_SYNTH_STATUS_CAL_BUSY r) = false)
    (hoff : (u.radio r).seq = .off) : u.calCommanded r = u := by
  unfold State.calCommanded
  simp only [h, hoff, Bool.false_eq_true, if_false, if_true]

/-- The state in which a full calibration of a radio that receives nothing has begun (R171). -/
def State.calBegun (u : State) (r : Nat) : State :=
  ((u.setFld (F.RADIO_CAL_STATUS_BUSY r) 1).setFld (F.RADIO_SYNTH_STATUS_CAL_BUSY r) 1).modRadio r
    (fun x => { x with seq := .calibrating })

theorem State.calFull_of_noReception (h : noReception u r) : u.calFull r = u.calBegun r := by
  unfold State.calFull
  rw [State.dropAny_of_noReception h]
  rfl

theorem State.calCommanded_of_idle (h : u.flag (F.RADIO_SYNTH_STATUS_CAL_BUSY r) = false)
    (hseq : (u.radio r).seq ≠ .off)
    (hrx : noReception u r) : u.calCommanded r = u.calBegun r := by
  rw [← State.calFull_of_noReception hrx]
  unfold State.calCommanded
  rw [h, if_neg Bool.false_ne_true, if_neg hseq]

theorem State.flag_modRadio (s : State) (r : Nat) (f : RadioSt → RadioSt) (g : Fld) :
    (s.modRadio r f).flag g = s.flag g := rfl

theorem State.regs_modRadio (s : State) (r : Nat) (f : RadioSt → RadioSt) : (s.modRadio r f).regs = s.regs := rfl

theorem calStatus_ne_synthStatus (r : Nat) : A.RADIO_CAL_STATUS r ≠ A.RADIO_SYNTH_STATUS r := by
  unfold A.RADIO_CAL_STATUS A.RADIO_SYNTH_STATUS
  omega

theorem State.busy_calBegun (u : State) (r : Nat) : (u.calBegun r).flag (F.RADIO_CAL_STATUS_BUSY r) = true := by
  unfold State.calBegun
  rw [State.flag_modRadio, State.flag_setFld_ne _ (calStatus_ne_synthStatus r),
    State.flag_setFld_one (of_decide_eq_true rfl) Nat.one_pos]

theorem State.calBusy_calBegun (u : State) (r : Nat) : (u.calBegun r).flag (F.RADIO_SYNTH_STATUS_CAL_BUSY r) = true :=
    by
  unfold State.calBegun
  rw [State.flag_modRadio, State.flag_setFld_one (of_decide_eq_true rfl) Nat.one_pos]

theorem State.radio_setFld (s : State) (f : Fld) (v q : Nat) : (s.setFld f v).radio q = s.radio q := rfl

theorem State.radio_calBegun (u : State) (r : Nat) :
    (u.calBegun r).radio r = { u.radio r with seq := .calibrating } := by
  unfold State.calBegun
  rw [State.radio_modRadio_same, State.radio_setFld, State.radio_setFld]

theorem otherRadios_calBegun (u : State) (r : Nat) : otherRadios u (u.calBegun r) r := by
  intro q hq
  unfold State.calBegun
  rw [State.radio_modRadio_ne _ _ hq, State.radio_setFld, State.radio_setFld]

theorem onlyFields_calBegun (u : State) (r : Nat) :
    onlyFields u (u.calBegun r) [F.RADIO_CAL_STATUS_BUSY r, F.RADIO_SYNTH_STATUS_CAL_BUSY r] :=
  onlyFields_of_regs (State.regs_modRadio _ _ _)
    (onlyFields_setFld _ 1 (by simp) (onlyFields_setFld _ 1 (by simp) (onlyFields_refl u _)))

theorem State.calBegun_frame (u : State) (r : Nat) :
    u.calBegun r = { u with regs := (u.calBegun r).regs, air := (u.calBegun r).air } := rfl

theorem calCmdFull_rule (s u : State) (r : Fin 4) (hworks : s.takesWork (radioBlock r.val) = true)
    (hu : u = s.touch (A.RADIO_CAL_CMD r.val)) :
    ∃ t, exec (.calCmdFull r) s = .next t ∧
      (s.flag (F.RADIO_SYNTH_STATUS_CAL_BUSY r.val) = true → refusedOnly u t (A.RADIO_CAL_CMD r.val) 2) ∧
      (s.flag (F.RADIO_SYNTH_STATUS_CAL_BUSY r.val) = false → (s.radio r.val).seq = .off → t = u) ∧
      (s.flag (F.RADIO_SYNTH_STATUS_CAL_BUSY r.val) = false → (s.radio r.val).seq ≠ .off → noReception s r.val →
        t.flag (F.RADIO_CAL_STATUS_BUSY r.val) = true ∧ t.flag (F.RADIO_SYNTH_STATUS_CAL_BUSY r.val) = true ∧
        t.radio r.val = { s.radio r.val with seq := .calibrating } ∧ otherRadios s t r.val ∧
        onlyFields u t [F.RADIO_CAL_STATUS_BUSY r.val, F.RADIO_SYNTH_STATUS_CAL_BUSY r.val] ∧
        t = { u with regs := t.regs, air := t.air }) := by
  have hflag : u.flag (F.RADIO_SYNTH_STATUS_CAL_BUSY r.val) = s.flag (F.RADIO_SYNTH_STATUS_CAL_BUSY r.val) :=
    hu ▸ flag_of_rd (s.rd_touch _ (synthStatus_ne_active r))
  have hair : u.air = s.air := hu ▸ s.air_touch _
  have hradio : u.radio r.val = s.radio r.val := State.radio_of_air hair _
  refine ⟨u.calCommanded r.val, hu ▸ exec_calCmdFull r hworks, fun hbusy => ?_, fun hidle hoff => ?_,
    fun hidle hseq hrx => ?_⟩
  · rw [State.calCommanded_of_busy (hflag.trans hbusy)]
    exact refusedOnly_refuse u _ .cfgRange
  · exact State.calCommanded_of_off (hflag.trans hidle) (hradio ▸ hoff)
  · have hrx' : noReception u r.val := noReception_of_eq (congrArg RadioSt.rx hradio) (hu ▸ s.ngr_touch _) hrx
    rw [State.calCommanded_of_idle (hflag.trans hidle) (hradio ▸ hseq) hrx', ← hradio]
    exact ⟨u.busy_calBegun _, u.calBusy_calBegun _, u.radio_calBegun _,
      otherRadios_trans (otherRadios_of_air hair _) (otherRadios_calBegun u _), onlyFields_calBegun u _,
      u.calBegun_frame _⟩

/-! ### When a tracking calibration falls due, and when it is overdue -/

theorem exec_calDue (r : Fin 4) (temp : BitVec 8) (hworks : s.takesWork (radioBlock r.val) = true)
    (htrack : s.flag (F.RADIO_CAL_CFG_TRACK_EN r.val) = true) (hseq : (s.radio r.val).seq = .running)
    (hdue : s.flag (F.RADIO_CAL_STATUS_DUE r.val) = false)
    (hstep : s.fld (F.RADIO_CAL_CFG_TEMP_STEP r.val) ≤
      tempStep temp.toNat (s.fld (F.RADIO_CAL_STATUS_LAST_TEMP r.val)))
    (hlast : ∀ u, (s.radio r.val).lastTrack = some u → u + 500000000 ≤ s.now) :
    exec (.calDue r temp) s = .next ((s.setFld (F.RADIO_CAL_STATUS_DUE r.val) 1).modRadio r.val
      (fun x => { x with dueSince := s.now, overdue := false })) :=
  (State.whenWorks_of_takesWork hworks _).trans
    (if_pos ⟨htrack, hseq, hdue ▸ Bool.false_ne_true, hstep, fun u hu => hlast u hu⟩)

theorem calDue_rule (s : State) (r : Fin 4) (temp : BitVec 8) (hworks : s.takesWork (radioBlock r.val) = true)
    (htrack : s.flag (F.RADIO_CAL_CFG_TRACK_EN r.val) = true) (hseq : (s.radio r.val).seq = .running)
    (hdue : s.flag (F.RADIO_CAL_STATUS_DUE r.val) = false)
    (hstep : s.fld (F.RADIO_CAL_CFG_TEMP_STEP r.val) ≤
      tempStep temp.toNat (s.fld (F.RADIO_CAL_STATUS_LAST_TEMP r.val)))
    (hlast : ∀ u, (s.radio r.val).lastTrack = some u → u + 500000000 ≤ s.now) :
    ∃ t, exec (.calDue r temp) s = .next t ∧ t.flag (F.RADIO_CAL_STATUS_DUE r.val) = true ∧
      t.radio r.val = { s.radio r.val with dueSince := s.now, overdue := false } ∧ otherRadios s t r.val ∧
      onlyFields s t [F.RADIO_CAL_STATUS_DUE r.val] ∧ t = { s with regs := t.regs, air := t.air } :=
  ⟨_, exec_calDue r temp hworks htrack hseq hdue hstep hlast,
    State.flag_setFld_one (s := s) (of_decide_eq_true rfl) Nat.one_pos, State.radio_modRadio_same _ _ _,
    otherRadios_modRadio (s.setFld _ 1) _ _,
    onlyFields_of_regs rfl (onlyFields_setFld _ 1 (List.mem_singleton_self _) (onlyFields_refl s _)), rfl⟩

/-- A calibration that is due, or a temperature that has not moved, changes nothing. -/
theorem exec_calDue_of_not (r : Fin 4) (temp : BitVec 8) (h : s.flag (F.RADIO_CAL_STATUS_DUE r.val) = true ∨
      tempStep temp.toNat (s.fld (F.RADIO_CAL_STATUS_LAST_TEMP r.val)) < s.fld (F.RADIO_CAL_CFG_TEMP_STEP r.val)) :
    exec (.calDue r temp) s = .next s := by
  show s.whenWorks _ _ = _
  unfold State.whenWorks
  split
  · refine if_neg ?_
    rintro ⟨-, -, hdue, hstep, -⟩
    rcases h with h | h
    · exact hdue h
    · exact absurd hstep (Nat.not_le.mpr h)
  · rfl

/-- The state in which a calibration shows as overdue. -/
def State.overdueShown (s : State) (r : Nat) : State :=
  (s.setFld (F.RADIO_CAL_STATUS_OVERDUE r) 1).modRadio r (fun y => { y with overdue := true })

theorem exec_rfCalOverdue (r : Fin 4) (hworks : s.takesWork (radioBlock r.val) = true)
    (hdue : s.flag (F.RADIO_CAL_STATUS_DUE r.val) = true) (hover : (s.radio r.val).overdue = false)
    (hdefer : (s.radio r.val).dueSince + 500000 * s.fld (F.RADIO_CAL_CFG_DEFER_MS r.val) ≤ s.now) :
    exec (.rfCalOverdue r) s = .next ((s.overdueShown r.val).present 0x11 r.val) := by
  have hms : msTicks (s.fld (F.RADIO_CAL_CFG_DEFER_MS r.val)) = 500000 * s.fld (F.RADIO_CAL_CFG_DEFER_MS r.val) :=
    Nat.mul_comm _ 500000
  exact (State.whenWorks_of_takesWork hworks _).trans
    (if_pos ⟨hdue, hover ▸ Bool.false_ne_true, hms.symm ▸ hdefer⟩)

theorem faultPending_ne_calStatus (r : Nat) : A.RADIO_CAL_STATUS r ≠ A.FAULT_PENDING (0x11 / 32) := by
  unfold A.RADIO_CAL_STATUS A.FAULT_PENDING
  omega

theorem rfCalOverdue_rule (s : State) (r : Fin 4) (hworks : s.takesWork (radioBlock r.val) = true)
    (hdue : s.flag (F.RADIO_CAL_STATUS_DUE r.val) = true) (hover : (s.radio r.val).overdue = false)
    (hdefer : (s.radio r.val).dueSince + 500000 * s.fld (F.RADIO_CAL_CFG_DEFER_MS r.val) ≤ s.now) :
    ∃ t, exec (.rfCalOverdue r) s = .next t ∧ t.flag (F.RADIO_CAL_STATUS_OVERDUE r.val) = true ∧
      t.radio r.val = { s.radio r.val with overdue := true } ∧ otherRadios s t r.val ∧ noted s t 0x11 r.val false ∧
      (s.flt.queue.length < 16 → onlyFields s t [F.RADIO_CAL_STATUS_OVERDUE r.val] ∧
        t = { s with regs := t.regs, air := t.air, flt := t.flt }) := by
  have hfault := faultsPresented_present (s.overdueShown r.val) 0x11 r.val false
  have hair : ((s.overdueShown r.val).present 0x11 r.val).air = (s.overdueShown r.val).air := by rw [hfault.frame]
  refine ⟨_, exec_rfCalOverdue r hworks hdue hover hdefer, ?_, ?_, ?_, fun hroom => ?_, fun hroom => ?_⟩
  · rw [flag_of_rd (f := F.RADIO_CAL_STATUS_OVERDUE r.val) (hfault.rd _ (faultPending_ne_calStatus r.val))]
    exact State.flag_setFld_one (s := s) (of_decide_eq_true rfl) Nat.one_pos
  · exact (State.radio_of_air hair _).trans (State.radio_modRadio_same _ _ _)
  · exact otherRadios_trans (otherRadios_modRadio (s.setFld _ 1) _ _) (otherRadios_of_air hair _)
  · rw [State.present_of_room (s.overdueShown r.val) _ _ hroom]
    rfl
  · rw [State.present_of_room (s.overdueShown r.val) _ _ hroom]
    exact ⟨onlyFields_of_regs rfl (onlyFields_setFld _ 1 (List.mem_singleton_self _) (onlyFields_refl s _)), rfl⟩

end Sys2Proof.Machine
end

section
/-! The tracking calibration (R150 to R152, R309) and the doze (R65, R66, R308): what each leaves, and when a doze
begins and ends. -/

namespace Sys2Proof.Machine

variable {s t u : State} {r : Nat}

/-! ### Results of a calibration -/

/-- From `s` to `t` nothing has changed but registers, counters and what waits at FAULT. -/
def resultsFrame (s t : State) : Prop := t = { s with regs := t.regs, ctrs := t.ctrs, flt := t.flt }

theorem resultsFrame_refl (s : State) : resultsFrame s s := rfl

theorem resultsFrame_trans (h : resultsFrame s t) (k : resultsFrame t u) : resultsFrame s u := by
  unfold resultsFrame at *
  rw [k, h]

theorem resultsFrame_setFld (s : State) (f : Fld) (v : Nat) : resultsFrame s (s.setFld f v) := rfl

theorem resultsFrame_present (s : State) (src unit : Nat) : resultsFrame s (s.present src unit) :=
  (faultsPresented_present s src unit false).frame

theorem resultsFrame.air_eq (h : resultsFrame s t) : t.air = s.air := by
  unfold resultsFrame at h
  rw [h]

theorem resultsFrame.mem_eq (h : resultsFrame s t) : t.mem = s.mem := by
  unfold resultsFrame at h
  rw [h]

theorem resultsFrame.pending_eq (h : resultsFrame s t) : t.pending = s.pending := by
  unfold resultsFrame at h
  rw [h]

/-- The registers that show one chain's result. -/
theorem resultsFrame_shown (s : State) (k : CalRun) (r c failed : Nat) (x : CalResult) :
    resultsFrame s (if k.image then
        ((s.setFld (F.RADIO_CHAIN_STATUS_FAILED r c) failed).setFld (F.RADIO_CHAIN_STATUS_IRR_DB r c)
          x.irr.toNat).setFld (F.RADIO_CHAIN_STATUS_EVM_DB r c) x.evm.toNat
      else s.setFld (F.RADIO_CHAIN_STATUS_FAILED r c) failed) := by
  split
  · exact resultsFrame_trans (resultsFrame_setFld s _ _)
      (resultsFrame_trans (resultsFrame_setFld _ _ _) (resultsFrame_setFld _ _ _))
  · exact resultsFrame_setFld s _ _

/-- A result that fails is presented to FAULT. -/
theorem resultsFrame_presentUnless (s : State) (ok : Bool) (src unit : Nat) :
    resultsFrame s (if ok then s else s.present src unit) := by
  split
  · exact resultsFrame_refl s
  · exact resultsFrame_present s src unit

theorem resultsFrame_chainResult (s : State) (r : Nat) (k : CalRun) (c : Nat) (res : CalResult × CalResult) :
    resultsFrame s (s.chainResult r k c res) := by
  unfold State.chainResult
  dsimp only
  generalize (if calPasses r k res.1 = true then res.1 else res.2) = last
  split
  · exact resultsFrame_presentUnless s _ _ _
  · exact resultsFrame_trans (resultsFrame_shown s k r c _ last) (resultsFrame_presentUnless _ _ _ _)

/-- The results of the chains of radio r, each as R151 treats it. -/
def State.chainResults (s : State) (r : Nat) (l : List ((CalResult × CalResult) × Nat)) : State :=
  l.foldl (fun t x => t.chainResult r CalRun.all x.2 x.1) s

theorem resultsFrame_chainResults (s : State) (r : Nat) (l : List ((CalResult × CalResult) × Nat)) :
    resultsFrame s (s.chainResults r l) := by
  induction l generalizing s with
  | nil => exact resultsFrame_refl s
  | cons x l ih => exact resultsFrame_trans (resultsFrame_chainResult s r _ _ _) (ih _)

/-- The sensor reading and the centre, which a calibration with image rejection stores (R148, R171). -/
def State.readingStored (s : State) (r temp : Nat) (centre : Nat) : State :=
  (s.setFld (F.RADIO_CAL_STATUS_LAST_TEMP r) temp).modRadio r (fun x => { x with imgCentre := centre })

/-- The state after all three calibrations of radio r. -/
theorem State.calResults_all (s : State) (r temp : Nat) (l : List (CalResult × CalResult)) :
    s.calResults r CalRun.all temp l =
      if r = 2 then ((s.chainResults r (l.take (chainCount r)).zipIdx).readingStored r temp (s.synthCentre r)).evalEvm
      else (s.chainResults r (l.take (chainCount r)).zipIdx).readingStored r temp (s.synthCentre r) := rfl

theorem State.fld_modRadio (s : State) (r : Nat) (f : RadioSt → RadioSt) (g : Fld) :
    (s.modRadio r f).fld g = s.fld g := rfl

theorem State.lastTemp_readingStored (s : State) {temp : Nat} (centre : Nat) (h : temp < 256) :
    (s.readingStored r temp centre).fld (F.RADIO_CAL_STATUS_LAST_TEMP r) = temp := by
  unfold State.readingStored
  rw [State.fld_modRadio, State.fld_setFld_same _ _ _ (of_decide_eq_true rfl)]
  exact Nat.mod_eq_of_lt h

theorem State.lastTemp_evalEvm (s : State) :
    s.evalEvm.fld (F.RADIO_CAL_STATUS_LAST_TEMP 2) = s.fld (F.RADIO_CAL_STATUS_LAST_TEMP 2) :=
  State.fld_setFld_apart s _ _ _ (by decide) (by decide)

theorem State.lastTemp_calResults (s : State) {temp : Nat} (l : List (CalResult × CalResult)) (h : temp < 256) :
    (s.calResults r CalRun.all temp l).fld (F.RADIO_CAL_STATUS_LAST_TEMP r) = temp := by
  rw [State.calResults_all]
  split
  · next h2 =>
    subst h2
    rw [State.lastTemp_evalEvm, State.lastTemp_readingStored _ _ h]
  · exact State.lastTemp_readingStored _ _ h

/-- What a calibration leaves beside registers, counters and what waits at FAULT: of its own radio all but the centre
of the image rejection, and everything else. -/
structure calibrated (s t : State) (r : Nat) : Prop where
  own : ∃ centre, t.radio r = { s.radio r with imgCentre := centre }
  others : otherRadios s t r
  mem : t.mem = s.mem
  pending : t.pending = s.pending

theorem calibrated_readingStored (h : resultsFrame s t) (temp centre : Nat) :
    calibrated s (t.readingStored r temp centre) r where
  own := by
    refine ⟨centre, ?_⟩
    unfold State.readingStored
    rw [State.radio_modRadio_same, State.radio_setFld, State.radio_of_air h.air_eq]
  others := fun q hq => by
    unfold State.readingStored
    rw [State.radio_modRadio_ne _ _ hq, State.radio_setFld, State.radio_of_air h.air_eq]
  mem := h.mem_eq
  pending := h.pending_eq

theorem calibrated_evalEvm (h : calibrated s t r) : calibrated s t.evalEvm r := by
  obtain ⟨hown, hothers, hmem, hpending⟩ := h
  exact ⟨hown, hothers, hmem, hpending⟩

theorem calibrated_calResults (s : State) (r temp : Nat) (l : List (CalResult × CalResult)) :
    calibrated s (s.calResults r CalRun.all temp l) r := by
  have hstored := calibrated_readingStored (r := r) (resultsFrame_chainResults s r (l.take (chainCount r)).zipIdx) temp
    (s.synthCentre r)
  rw [State.calResults_all]
  split
  · exact calibrated_evalEvm hstored
  · exact hstored

/-! ### The tracking calibration -/

/-- The end of a tracking calibration whose results are in `u`. -/
def State.tracked (u : State) (r now : Nat) : State :=
  (u.setFld (F.RADIO_CAL_STATUS_DUE r) 0).modRadio r (fun x => { x with lastTrack := some now, overdue := false })

theorem State.trackDone_eq (s : State) (r temp : Nat) (l : List (CalResult × CalResult)) :
    s.trackDone r temp l = (s.calResults r CalRun.all temp l).tracked r s.now := rfl

theorem exec_calTrack (r : Fin 4) (temp : BitVec 8) (l : List (CalResult × CalResult)) (hruns :
    s.radioRuns r.val = true)
    (hstrobe : s.strobing r.val = false) (hdue : s.flag (F.RADIO_CAL_STATUS_DUE r.val) = true)
    (hgap : (if r.val = 3 then s.ngCalGap else s.wlanCalGap r.val) = true) (hrx : noReception s r.val) :
    exec (.calTrack r temp l) s = .next (s.trackDone r.val temp.toNat l) := by
  have hworks : s.takesWork (radioBlock r.val) = true := (Bool.and_eq_true_iff.mp hruns).2
  refine (State.whenWorks_of_takesWork hworks _).trans
    ((if_pos ⟨hruns, hstrobe ▸ Bool.false_ne_true, hdue, hgap⟩).trans ?_)
  rw [State.dropAny_of_noReception hrx]

theorem State.due_tracked (u : State) (r now : Nat) : (u.tracked r now).flag (F.RADIO_CAL_STATUS_DUE r) = false := by
  unfold State.tracked
  rw [State.flag_modRadio, State.flag_setFld_zero (of_decide_eq_true rfl)]

theorem State.lastTemp_tracked (u : State) (r now : Nat) :
    (u.tracked r now).fld (F.RADIO_CAL_STATUS_LAST_TEMP r) = u.fld (F.RADIO_CAL_STATUS_LAST_TEMP r) := by
  unfold State.tracked
  rw [State.fld_modRadio, State.fld_setFld_apart _ _ _ _ (of_decide_eq_true rfl) (of_decide_eq_true rfl)]

theorem State.radio_tracked (u : State) (r now : Nat) :
    (u.tracked r now).radio r = { u.radio r with lastTrack := some now, overdue := false } := by
  unfold State.tracked
  rw [State.radio_modRadio_same, State.radio_setFld]

theorem otherRadios_tracked (u : State) (r now : Nat) : otherRadios u (u.tracked r now) r := fun q hq => by
  unfold State.tracked
  rw [State.radio_modRadio_ne _ _ hq, State.radio_setFld]

theorem State.tracked_frame (u : State) (r now : Nat) :
    u.tracked r now = { u with regs := (u.tracked r now).regs, air := (u.tracked r now).air } := rfl

theorem State.seq_of_radioRuns (h : s.radioRuns r = true) : (s.radio r).seq = .running := by
  unfold State.radioRuns at h
  simp only [Bool.and_eq_true, decide_eq_true_eq] at h
  exact h.1.1

theorem calTrack_rule (s : State) (r : Fin 4) (temp : BitVec 8) (l : List (CalResult × CalResult))
    (hruns : s.radioRuns r.val = true) (hstrobe : s.strobing r.val = false)
    (hdue : s.flag (F.RADIO_CAL_STATUS_DUE r.val) = true)
    (hgap : (if r.val = 3 then s.ngCalGap else s.wlanCalGap r.val) = true) (hrx : noReception s r.val) :
    ∃ t, exec (.calTrack r temp l) s = .next t ∧ t.flag (F.RADIO_CAL_STATUS_DUE r.val) = false ∧
      t.fld (F.RADIO_CAL_STATUS_LAST_TEMP r.val) = temp.toNat ∧ (t.radio r.val).lastTrack = some s.now ∧
      (t.radio r.val).seq = .running ∧ otherRadios s t r.val ∧ t.mem = s.mem ∧ t.pending = s.pending := by
  refine ⟨_, exec_calTrack r temp l hruns hstrobe hdue hgap hrx, ?_⟩
  have htemp := s.lastTemp_calResults (r := r.val) l temp.isLt
  obtain ⟨⟨centre, hown⟩, hothers, hmem, hpending⟩ := calibrated_calResults s r.val temp.toNat l
  rw [State.trackDone_eq]
  generalize s.calResults r.val CalRun.all temp.toNat l = u at *
  refine ⟨u.due_tracked _ _, (u.lastTemp_tracked _ _).trans htemp, ?_, ?_,
    otherRadios_trans hothers (otherRadios_tracked u _ _), ?_, ?_⟩
  · rw [u.radio_tracked]
  · rw [u.radio_tracked, hown]
    exact State.seq_of_radioRuns hruns
  · rw [u.tracked_frame]
    exact hmem
  · rw [u.tracked_frame]
    exact hpending

/-! ### The doze -/

theorem dozeStart_rule (s : State) (r : Fin 3) (w : Slot) (hcur : s.fld F.PMU_STATE_CUR = 1)
    (hruns : s.radioRuns r.val = true) (hidle : s.exchangeOn r.val = false) (hquiet : s.quietNow r.val = some w)
    (hlen : s.fld (F.ROUNDS_DOZE_CFG_DOZE_MIN_US r.val) ≤ w.len) (hpos : s.roundPos r.val + 12 < w.stop)
    (hsched : s.scheduledBefore r.val w.stop = false) (hdue : s.flag (F.RADIO_CAL_STATUS_DUE r.val) = false)
    (hrx : (s.radio r.val).rx = none) :
    ∃ t, exec (.dozeStart r) s = .next t ∧ t.flag (F.RADIO_SYNTH_STATUS_DOZING r.val) = true ∧
      onlyFields s t [F.RADIO_SYNTH_STATUS_DOZING r.val] ∧ t = { s with regs := t.regs } := by
  have hworks : s.takesWork (radioBlock r.val) = true := (Bool.and_eq_true_iff.mp hruns).2
  have hgo : exec (.dozeStart r) s = .next (s.setFld (F.RADIO_SYNTH_STATUS_DOZING r.val) 1) := by
    refine (State.whenWorks_of_takesWork hworks _).trans ?_
    simp only [hquiet, hcur, hruns, hidle, hlen, hpos, hsched, hdue, State.dropRx_of_none hrx, Bool.false_eq_true,
      not_false_eq_true, false_and, and_self, if_true]
  exact ⟨_, hgo, State.flag_setFld_one (of_decide_eq_true rfl) Nat.one_pos,
    onlyFields_setFld _ 1 (List.mem_singleton_self _) (onlyFields_refl s _), rfl⟩

/-- Outside Trim no radio dozes off. -/
theorem exec_dozeStart_of_not_trim (r : Fin 3) (hcur : s.fld F.PMU_STATE_CUR ≠ 1) :
    exec (.dozeStart r) s = .next s := by
  show s.whenWorks _ _ = _
  unfold State.whenWorks
  split
  · split
    · rfl
    · exact if_neg fun h => hcur h.1
  · rfl

/-- The window of a doze is over, or something is scheduled in it. -/
def State.quietOver (s : State) (r : Nat) : Bool :=
  match s.quietNow r with
  | some w => decide (w.stop ≤ s.roundPos r + 12) || s.scheduledBefore r w.stop
  | none => true

theorem State.quietOver_of_all
    (h : ∀ w, s.quietNow r = some w → w.stop ≤ s.roundPos r + 12 ∨ s.scheduledBefore r w.stop = true) :
    s.quietOver r = true := by
  unfold State.quietOver
  split
  · next w hw => simpa using h w hw
  · rfl

/-- The state in which the chains of radio r wake (R65). -/
def State.chainsWake (s : State) (r : Nat) : State :=
  (s.setFld (F.RADIO_SYNTH_STATUS_DOZING r) 0).modRadio r (fun x => { x with wakeAt := s.now + 12 * Config.ticksPerUs })

theorem exec_dozeEnd (r : Fin 3) (hworks : s.takesWork (radioBlock r.val) = true)
    (hdoze : s.flag (F.RADIO_SYNTH_STATUS_DOZING r.val) = true)
    (hend : s.quietOver r.val = true ∨ s.fld F.PMU_STATE_CUR ≠ 1) : exec (.dozeEnd r) s = .next (s.chainsWake r.val) :=
  (State.whenWorks_of_takesWork hworks _).trans (if_pos ⟨hdoze, hend⟩)

theorem State.dozing_chainsWake (s : State) (r : Nat) :
    (s.chainsWake r).flag (F.RADIO_SYNTH_STATUS_DOZING r) = false := by
  unfold State.chainsWake
  rw [State.flag_modRadio, State.flag_setFld_zero (of_decide_eq_true rfl)]

theorem State.radio_chainsWake (s : State) (r : Nat) :
    (s.chainsWake r).radio r = { s.radio r with wakeAt := s.now + 6000 } := by
  unfold State.chainsWake
  rw [State.radio_modRadio_same, State.radio_setFld]
  rfl

theorem otherRadios_chainsWake (s : State) (r : Nat) : otherRadios s (s.chainsWake r) r := fun q hq => by
  unfold State.chainsWake
  rw [State.radio_modRadio_ne _ _ hq, State.radio_setFld]

theorem onlyFields_chainsWake (s : State) (r : Nat) :
    onlyFields s (s.chainsWake r) [F.RADIO_SYNTH_STATUS_DOZING r] :=
  onlyFields_of_regs (State.regs_modRadio _ _ _) (onlyFields_setFld _ 0 (List.mem_singleton_self _) (onlyFields_refl s
      _))

theorem dozeEnd_rule (s : State) (r : Fin 3) (hworks : s.takesWork (radioBlock r.val) = true)
    (hdoze : s.flag (F.RADIO_SYNTH_STATUS_DOZING r.val) = true)
    (hend : s.fld F.PMU_STATE_CUR ≠ 1 ∨
      ∀ w, s.quietNow r.val = some w → w.stop ≤ s.roundPos r.val + 12 ∨ s.scheduledBefore r.val w.stop = true) :
    ∃ t, exec (.dozeEnd r) s = .next t ∧ t.flag (F.RADIO_SYNTH_STATUS_DOZING r.val) = false ∧
      t.radio r.val = { s.radio r.val with wakeAt := s.now + 6000 } ∧ otherRadios s t r.val ∧
      onlyFields s t [F.RADIO_SYNTH_STATUS_DOZING r.val] ∧ t = { s with regs := t.regs, air := t.air } :=
  ⟨_, exec_dozeEnd r hworks hdoze (hend.symm.imp_left State.quietOver_of_all), s.dozing_chainsWake _,
    s.radio_chainsWake _, otherRadios_chainsWake s _, onlyFields_chainsWake s _, rfl⟩

end Sys2Proof.Machine
end

section
/-! The decision on a command (R146, R158 to R164, R179, R228): which command starts and when, and what its start, its
refusal at the power cap and its lateness leave. -/

namespace Sys2Proof.Machine

variable {s t u : State} {r : Nat} {c : AirCmd} {x : TxRate} {t0 tol : Nat}

/-! ### What the checks of a command read of the radio -/

/-- The command stands at the front of its radio's queue. -/
def State.commandFirst (s : State) (r : Nat) (c : AirCmd) : State :=
  s.modRadio r (fun x => { x with cmds := c :: x.cmds.erase c })

theorem State.radio_commandFirst (s : State) (r : Nat) (c : AirCmd) :
    (s.commandFirst r c).radio r = { s.radio r with cmds := c :: (s.radio r).cmds.erase c } :=
        State.radio_modRadio_same _ _ _

theorem State.chainMask_commandFirst (s : State) (r : Nat) (c : AirCmd) :
    (s.commandFirst r c).chainMask r = s.chainMask r := by
  have hradio := s.radio_commandFirst r c
  have hon : (s.commandFirst r c).onAir r = s.onAir r := by
    unfold State.onAir
    rw [hradio]
    rfl
  unfold State.chainMask
  rw [hon, hradio]
  rfl

theorem State.formatOk_commandFirst (s : State) (r : Nat) (c : AirCmd) (sta : Nat) (k : AirKind) (x : TxRate) :
    (s.commandFirst r c).formatOk r sta k x = s.formatOk r sta k x := by
  unfold State.formatOk
  rw [s.chainMask_commandFirst]
  rfl

theorem State.portPower_commandFirst (s : State) (r : Nat) (c : AirCmd) (x : TxRate) (red : Nat) (cap : Option Int)
    (n : Nat) : (s.commandFirst r c).portPower r x red cap n = s.portPower r x red cap n := by
  unfold State.portPower
  rw [s.chainMask_commandFirst]
  rfl

theorem State.powerOk_commandFirst (s : State) (r : Nat) (c : AirCmd) (x : TxRate) (red : Nat) (cap : Option Int) :
    (s.commandFirst r c).powerOk r x red cap = s.powerOk r x red cap := by
  unfold State.powerOk
  simp only [State.chainMask_commandFirst, State.portPower_commandFirst]

/-! ### Which command goes -/

theorem AirCmd.rates_eq (h : c.rates = [x]) : { c with rates := [x] } = c := by
  cases c
  cases h
  rfl

/-- All of a command with one rate that fits may go (R229, R293). -/
theorem State.txAllowed_of_fits (hrates : c.rates = [x]) (hicf : c.icf = []) (hnstr : s.nstrHeld c = [])
    (hfits : s.schedFits r t0 (t0 + max x.dur.toNat c.fill + c.resp) (s.cmdFlow c) (!c.kind.isData) = true) :
    s.txAllowed r c t0 = some c := by
  have hkept : c.rates.filter (fun t =>
      s.schedFits r t0 (t0 + 0 + max t.dur.toNat c.fill + c.resp) (s.cmdFlow c) (!c.kind.isData)) = [x] := by
    rw [hrates]
    exact List.filter_eq_self.mpr fun y hy => List.mem_singleton.mp hy ▸ hfits
  unfold State.txAllowed
  rw [if_pos hnstr, Option.bind_some]
  dsimp only
  rw [if_pos hicf, hkept, if_neg (List.cons_ne_nil _ _), AirCmd.rates_eq hrates]

theorem State.txTimed_of_fits (hr : r ≠ 3) (hrates : c.rates = [x]) (hicf : c.icf = []) (hnstr : s.nstrHeld c = [])
    (hfits : s.schedFits r t0 (t0 + max x.dur.toNat c.fill + c.resp) (s.cmdFlow c) (!c.kind.isData) = true) :
    s.txTimed r c t0 = (s.commandFirst r c).txGo r c t0 := by
  unfold State.txTimed
  rw [if_neg hr, State.txAllowed_of_fits hrates hicf hnstr hfits]
  dsimp only
  rw [if_pos hnstr]
  rfl

/-- A rate that passes both checks starts the command (R160, R178). -/
theorem State.txGo_of_passes (hr : r ≠ 3) (hrates : c.rates = [x]) (hicf : c.icf = [])
    (hformat : s.formatOk r c.kind.sta c.kind x = true) (hpower : s.powerOk r x c.red (s.srCap r t0) = true) :
    s.txGo r c t0 = s.txStart r c t0 (max x.dur.toNat c.fill) (some x) := by
  unfold State.txGo
  rw [if_neg hr, if_neg (not_not.mpr hicf), hrates]
  simp only [State.offerRates, hformat, hpower, not_true_eq_false, if_false, if_true]

/-- A command whose only rate is over the cap is refused, and the cap counts (R160). -/
theorem State.txGo_of_capped (hr : r ≠ 3) (hrates : c.rates = [x]) (hicf : c.icf = [])
    (hformat : s.formatOk r c.kind.sta c.kind x = true) (hpower : s.powerOk r x c.red (s.srCap r t0) = false) :
    s.txGo r c t0 = (s.count (C.RADIO_TX_CAP r)).txRefused r c true := by
  unfold State.txGo
  rw [if_neg hr, if_neg (not_not.mpr hicf), hrates]
  simp only [State.offerRates, hformat, hpower, not_true_eq_false, Bool.false_eq_true, if_false]

/-! ### The start of a command -/

/-- Radio r sends a command from t0 on, for `dur` ticks (R158, R163). -/
def State.airSet (s : State) (r : Nat) (c : AirCmd) (t0 dur : Nat) (k : Coding) : State :=
  (s.takeCmd r c).modRadio r (fun x => { x with
    air := some { cmd := c, t0 := t0, t1 := t0 + dur, stop := t0 + dur + c.resp, coding := k }
    chains := s.chainMask r })

theorem State.radio_airSet (s : State) (r : Nat) (c : AirCmd) (t0 dur : Nat) (k : Coding) :
    (s.airSet r c t0 dur k).radio r = { s.radio r with
      cmds := (s.radio r).cmds.erase c
      air := some { cmd := c, t0 := t0, t1 := t0 + dur, stop := t0 + dur + c.resp, coding := k }
      chains := s.chainMask r } := by
  unfold State.airSet State.takeCmd
  rw [State.radio_modRadio_same, State.radio_modRadio_same]

theorem startsAt_airSet (s : State) (r : Nat) (c : AirCmd) (t0 dur : Nat) (k : Coding) :
    startsAt s (s.airSet r c t0 dur k) r c t0 dur k := by
  refine ⟨?_, ?_, otherRadios_trans (otherRadios_modRadio s r _) (otherRadios_modRadio _ r _)⟩ <;> rw [s.radio_airSet]

theorem startsAt_of_air {dur : Nat} {k : Coding} (h : startsAt s t r c t0 dur k) (hair : u.air = t.air) :
    startsAt s u r c t0 dur k := by
  obtain ⟨hon, hcmds, hothers⟩ := h
  have hradio : ∀ q, u.radio q = t.radio q := State.radio_of_air hair
  exact ⟨(hradio r).symm ▸ hon, (hradio r).symm ▸ hcmds, otherRadios_trans hothers (otherRadios_of_air hair r)⟩

theorem State.airSet_frame (s : State) (r : Nat) (c : AirCmd) (t0 dur : Nat) (k : Coding) :
    s.airSet r c t0 dur k = { s with air := (s.airSet r c t0 dur k).air } := rfl

theorem noReception_airSet {dur : Nat} {k : Coding} (h : noReception s r) : noReception (s.airSet r c t0 dur k) r := by
  refine noReception_of_eq ?_ (by rw [s.airSet_frame]) h
  rw [s.radio_airSet]

/-- What the start of a command leaves beside its counters: registers, memory, the radios and the waiting frames; and
one counter. -/
structure sendKept (a : Nat) (s t : State) : Prop where
  regs : t.regs = s.regs
  mem : t.mem = s.mem
  air : t.air = s.air
  waiting : t.wmac.waiting = s.wmac.waiting
  ctr : t.ctr a = s.ctr a

variable {a : Nat}

theorem sendKept_refl (a : Nat) (s : State) : sendKept a s s := ⟨rfl, rfl, rfl, rfl, rfl⟩

theorem sendKept_trans (h : sendKept a s t) (k : sendKept a t u) : sendKept a s u :=
  ⟨k.regs.trans h.regs, k.mem.trans h.mem, k.air.trans h.air, k.waiting.trans h.waiting, k.ctr.trans h.ctr⟩

theorem State.ctr_of_ctrs (h : t.ctrs = s.ctrs) (a : Nat) : t.ctr a = s.ctr a :=
  congrArg (fun m => sget (fun _ => (0 : DWord)) m a) h

theorem sendKept_of_exchangeFrame (a : Nat) (h : exchangeFrame s t) : sendKept a s t :=
  ⟨regs_of_exchangeFrame h, mem_of_exchangeFrame h, air_of_exchangeFrame h, waiting_of_exchangeFrame h,
    State.ctr_of_ctrs (ctrs_of_exchangeFrame h) a⟩

theorem sendKept_count (s : State) {b : Nat} (n : Nat) (h : a ≠ b) : sendKept a s (s.count b n) :=
  ⟨rfl, rfl, rfl, rfl, (s.ctr_count b n a).trans (if_neg h)⟩

/-- A PPDU in V-mode counts (R207). -/
def State.countVmode (s : State) (r : Nat) (x : TxRate) : State :=
  if decide (x.fmt = .vmode) then s.count (C.RADIO_VEXT_TX r) else s

theorem sendKept_countVmode (s : State) (x : TxRate) (h : a ≠ C.RADIO_VEXT_TX r) : sendKept a s (s.countVmode r x) := by
  unfold State.countVmode
  split
  · exact sendKept_count s 1 h
  · exact sendKept_refl a s

theorem sendKept_countTrigger (s : State) (k : AirKind) (h : a ≠ C.ROUNDS_TRIG_SENT r) :
    sendKept a s (s.countTrigger r k) := by
  unfold State.countTrigger
  split
  · exact sendKept_count s 1 h
  · exact sendKept_count s 1 h
  · exact sendKept_refl a s

/-- What is booked of a command that starts, behind its airtime (R206, R230, R306, R323). -/
def State.booked (s : State) (r : Nat) (c : AirCmd) (t0 dur : Nat) (x : TxRate) : State :=
  (((((s.chargeRsp r t0 (dur + c.resp)).countVmode r x).usersServed c.kind (t0 + dur + c.resp)).watchListens c.kind
    (t0 + dur)).countTrigger r c.kind)

theorem sendKept_booked (s : State) (r : Nat) (c : AirCmd) (t0 dur : Nat) (x : TxRate) (hvext : a ≠ C.RADIO_VEXT_TX r)
    (htrig : a ≠ C.ROUNDS_TRIG_SENT r) : sendKept a s (s.booked r c t0 dur x) :=
  sendKept_trans (sendKept_of_exchangeFrame a (exchangeFrame_chargeRsp s r t0 _)) <|
    sendKept_trans (sendKept_countVmode _ x hvext) <|
    sendKept_trans (sendKept_of_exchangeFrame a (exchangeFrame_usersServed _ _ _)) <|
    sendKept_trans (sendKept_of_exchangeFrame a (exchangeFrame_watchListens _ _ _)) (sendKept_countTrigger _ _ htrig)

/-- The MPDUs of a command go on air, and waiting frames are looked at again (R221, R222). -/
def State.mpdusSent (s : State) (c : AirCmd) : State :=
  ((s.cmdMpdus c).foldl (fun t x => t.mpduStarts x) s).admitWaiting

theorem State.mpdusSent_of_none (hmpdus : c.mpdus = []) (hwait : s.wmac.waiting = []) : s.mpdusSent c = s := by
  unfold State.mpdusSent
  rw [State.cmdMpdus_of_nil hmpdus]
  exact State.admitWaiting_of_none hwait

/-- The start of a command of a WLAN radio: on air, charged, booked, its MPDUs sent. -/
theorem State.txStart_wlan (hr : r ≠ 3) (s : State) (c : AirCmd) (t0 dur : Nat) (x : TxRate) :
    s.txStart r c t0 dur (some x) =
      (((((s.airSet r c t0 dur ((codingOf (c.kind.tones x) x).getD .plain)).deafen r).count (C.ROUNDS_AIR_OWN_US r)
        (divRound dur Config.ticksPerUs)).booked r c t0 dur x).mpdusSent c) := if_neg hr

theorem airOwn_ne : ∀ r : Fin 3, C.ROUNDS_AIR_OWN_US r.val ≠ C.RADIO_VEXT_TX r.val ∧
    C.ROUNDS_AIR_OWN_US r.val ≠ C.ROUNDS_TRIG_SENT r.val := by decide

theorem fin3_ne_three (r : Fin 3) : r.val ≠ 3 := Nat.ne_of_lt r.isLt

/-- A command without MPDUs of a radio that receives nothing starts, while no frame waits. -/
theorem txStart_starts (s : State) (r : Fin 3) {dur : Nat} (x : TxRate) (hmpdus : c.mpdus = [])
    (hwait : s.wmac.waiting = []) (hrx : (s.radio r.val).rx = none) :
    startsAt s (s.txStart r.val c t0 dur (some x)) r.val c t0 dur ((codingOf (c.kind.tones x) x).getD .plain) ∧
      counted s (s.txStart r.val c t0 dur (some x)) (C.ROUNDS_AIR_OWN_US r.val) (divRound dur 500) ∧
      (s.txStart r.val c t0 dur (some x)).regs = s.regs ∧ (s.txStart r.val c t0 dur (some x)).mem = s.mem := by
  obtain ⟨hvext, htrig⟩ := airOwn_ne r
  have hno : noReception s r.val := ⟨hrx, fun h => absurd h (fin3_ne_three r)⟩
  rw [State.txStart_wlan (fin3_ne_three r), State.deafen_of_noReception (noReception_airSet hno)]
  have hstart := startsAt_airSet s r.val c t0 dur ((codingOf (c.kind.tones x) x).getD .plain)
  have hframe := s.airSet_frame r.val c t0 dur ((codingOf (c.kind.tones x) x).getD .plain)
  generalize s.airSet r.val c t0 dur ((codingOf (c.kind.tones x) x).getD .plain) = u at hstart hframe ⊢
  have hkept := sendKept_booked (u.count (C.ROUNDS_AIR_OWN_US r.val) (divRound dur Config.ticksPerUs)) r.val c t0 dur x
    hvext htrig
  generalize (u.count (C.ROUNDS_AIR_OWN_US r.val) (divRound dur Config.ticksPerUs)).booked r.val c t0 dur x = v
    at hkept ⊢
  obtain ⟨hregs, hmem, hair, hwaiting, hctr⟩ := hkept
  have hnone : v.wmac.waiting = [] := hwaiting.trans ((congrArg (fun w : State => w.wmac.waiting) hframe).trans hwait)
  rw [State.mpdusSent_of_none hmpdus hnone]
  have huregs : u.regs = s.regs := by rw [hframe]
  have humem : u.mem = s.mem := by rw [hframe]
  refine ⟨startsAt_of_air hstart hair, ?_, hregs.trans huregs, hmem.trans humem⟩
  unfold counted
  rw [hctr, State.ctr_count, if_pos rfl, State.ctr_of_ctrs (congrArg State.ctrs hframe)]
  rfl

end Sys2Proof.Machine
end

section
/-! What a late command of the Nguord radio leaves (R163, R341, R345): the completion of its frame or exchange moves
neither the other radios nor the count of late commands. -/

namespace Sys2Proof.Machine

variable {s t u : State}

/-! ### What leaves the radios and the count of late Nguord commands -/

/-- The radios and the count of late commands of the Nguord radio are as before. -/
structure lateKept (s t : State) : Prop where
  air : t.air = s.air
  ctr : t.ctr (C.RADIO_TX_LATE 3) = s.ctr (C.RADIO_TX_LATE 3)

theorem lateKept_refl (s : State) : lateKept s s := ⟨rfl, rfl⟩

theorem lateKept_trans (h : lateKept s t) (k : lateKept t u) : lateKept s u := ⟨k.air.trans h.air, k.ctr.trans h.ctr⟩

theorem lateKept_count (s : State) {a : Nat} (n : Nat) (h : C.RADIO_TX_LATE 3 ≠ a) : lateKept s (s.count a n) :=
  ⟨rfl, (s.ctr_count a n _).trans (if_neg h)⟩

theorem lateKept_wr (s : State) (a : Nat) (v : Word) : lateKept s (s.wr a v) := ⟨rfl, rfl⟩

theorem lateKept_setFld (s : State) (f : Fld) (v : Nat) : lateKept s (s.setFld f v) := ⟨rfl, rfl⟩

theorem lateKept_disp (s : State) (x : DispSt) : lateKept s { s with disp := x } := ⟨rfl, rfl⟩

theorem lateKept_modCore (s : State) (n : Nat) (f : CoreSt → CoreSt) : lateKept s (s.modCore n f) :=
  lateKept_trans (lateKept_disp s _) (lateKept_wr _ _ _)

theorem lateKept_hostp (s : State) (x : HostSt) : lateKept s { s with hostp := x } := ⟨rfl, rfl⟩

theorem lateKept_flt (s : State) (x : FaultSt) : lateKept s { s with flt := x } := ⟨rfl, rfl⟩

theorem lateKept_setByte (s : State) (a : Nat) (b : Byte) : lateKept s (s.setByte a b) := ⟨rfl, rfl⟩

theorem lateKept_poison (s : State) (l : List Nat) : lateKept s { s with poison := l } := ⟨rfl, rfl⟩

theorem lateKept_setFifo (s : State) (n : Nat) (f : PigFifo) : lateKept s (s.setFifo n f) := ⟨rfl, rfl⟩

theorem lateKept_modTm (s : State) (f : TmSt → TmSt) : lateKept s (s.modTm f) := ⟨rfl, rfl⟩

theorem lateKept_modNgl (s : State) (f : NglSt → NglSt) : lateKept s (s.modNgl f) := ⟨rfl, rfl⟩

theorem lateKept_modRng (s : State) (f : RngSt → RngSt) : lateKept s (s.modRng f) := ⟨rfl, rfl⟩

/-! ### Interrupts -/

theorem lateKept_placeNotify (s : State) (t : Nat) : lateKept s (s.placeNotify t) := by
  have hnotify : ∀ c, lateKept s (s.notify c) := fun c => lateKept_modCore s c _
  unfold State.placeNotify
  dsimp only
  split
  · exact hnotify _
  · split
    · exact hnotify _
    · split
      · split
        · exact hnotify _
        · exact lateKept_refl s
      · exact lateKept_refl s

theorem lateKept_place (s : State) (t : Nat) : lateKept s (s.place t) :=
  lateKept_trans (lateKept_disp s _) <| lateKept_trans (lateKept_setFld _ _ _) <|
    lateKept_trans (lateKept_disp _ _) (lateKept_placeNotify _ t)

theorem lateKept_endWait (s : State) (t : Nat) : lateKept s (s.endWait t) :=
  lateKept_trans (lateKept_disp s _) <| lateKept_trans (lateKept_wr _ _ _) <|
    lateKept_trans (lateKept_wr _ _ _) (lateKept_setFld _ _ _)

theorem lateKept_wake (s : State) (t res : Nat) : lateKept s (s.wake t res) := by
  have hend : lateKept s ((s.endWait t).modThx t (fun x => { x with result := res })) :=
    lateKept_trans (lateKept_endWait s t) (lateKept_disp _ _)
  unfold State.wake
  dsimp only
  split
  · exact hend
  · exact lateKept_trans hend (lateKept_place _ t)

theorem lateKept_takeEvents (s : State) (t : Nat) (m : Word) (consume : Bool) :
    lateKept s (s.takeEvents t m consume) := by
  unfold State.takeEvents
  dsimp only
  split
  · exact lateKept_trans (lateKept_disp s _) (lateKept_wr _ _ _)
  · exact lateKept_disp s _

theorem lateKept_setEvents (s : State) (t : Nat) (m : Word) : lateKept s (s.setEvents t m) := by
  have hset : lateKept s (s.wr (A.DISPATCH_TH_EVENTS t) (s.rd (A.DISPATCH_TH_EVENTS t) ||| m)) := lateKept_wr s _ _
  unfold State.setEvents
  dsimp only
  split
  · exact lateKept_trans hset (lateKept_trans (lateKept_takeEvents _ _ _ _) (lateKept_wake _ _ _))
  · exact hset

theorem txLate_ne_dispatch : C.RADIO_TX_LATE 3 ≠ C.DISPATCH_VEC_DROPPED ∧
    C.RADIO_TX_LATE 3 ≠ C.DISPATCH_COMPL_MERGED := by decide

theorem lateKept_msiSend (s : State) (v : Nat) : lateKept s (s.msiSend v) := by
  unfold State.msiSend
  split
  · exact lateKept_count s 1 txLate_ne_dispatch.1
  · split
    · exact lateKept_wr s _ _
    · exact lateKept_hostp s _

theorem lateKept_setCompl (s : State) (t : Nat) (l : List DWord) : lateKept s (s.setCompl t l) :=
  lateKept_trans (lateKept_disp s _) (lateKept_trans (lateKept_setFld _ _ _) (lateKept_setFld _ _ _))

theorem lateKept_raiseCompletion (s : State) (v t : Nat) : lateKept s (s.raiseCompletion v t) := by
  unfold State.raiseCompletion
  dsimp only
  split
  · exact lateKept_trans (lateKept_disp s _)
      (lateKept_trans (lateKept_count _ 1 txLate_ne_dispatch.2) (lateKept_setEvents _ _ _))
  · split
    · exact lateKept_trans (lateKept_setCompl s t _) (lateKept_setEvents _ _ _)
    · exact lateKept_trans (lateKept_disp s _) (lateKept_setEvents _ _ _)

theorem lateKept_raise (s : State) (v : Nat) : lateKept s (s.raise v) := by
  unfold State.raise
  dsimp only
  split
  · exact lateKept_msiSend s v
  · split
    · exact lateKept_count s 1 txLate_ne_dispatch.1
    · split
      · exact lateKept_raiseCompletion s v _
      · exact lateKept_setEvents s _ _

/-! ### Hardware records -/

theorem txLate_ne_fault : C.RADIO_TX_LATE 3 ≠ C.FAULT_COUNT 0x02 ∧ C.RADIO_TX_LATE 3 ≠ C.FAULT_LOG_LOST := by decide

theorem lateKept_countFault (s : State) {src : Nat} (h : C.RADIO_TX_LATE 3 ≠ C.FAULT_COUNT src) :
    lateKept s (s.countFault src) := lateKept_trans (lateKept_wr s _ _) (lateKept_count _ 1 h)

theorem lateKept_unmapped (s : State) (a : Nat) : lateKept s (s.unmapped a) := by
  unfold State.unmapped State.present State.presentEv
  split
  · exact lateKept_flt s _
  · exact lateKept_trans (lateKept_countFault s txLate_ne_fault.1) (lateKept_count _ 1 txLate_ne_fault.2)

theorem lateKept_storeBytes (s : State) (a : Nat) (bs : List Byte) : lateKept s (s.storeBytes a bs) := by
  induction bs generalizing s a with
  | nil => exact lateKept_refl s
  | cons b bs ih =>
    refine lateKept_trans ?_ (ih _ _)
    split
    · exact lateKept_setByte s a b
    · exact lateKept_refl s

theorem lateKept_logDma (s : State) (a n : Nat) : lateKept s (s.logDma a n) := by
  unfold State.logDma
  split
  · exact lateKept_unmapped s _
  · exact lateKept_refl s

theorem lateKept_dmaWrite (s : State) (a : Nat) (bs : List Byte) : lateKept s (s.dmaWrite a bs) :=
  lateKept_trans (lateKept_logDma s a _) (lateKept_trans (lateKept_storeBytes _ a bs) (lateKept_poison _ _))

theorem lateKept_syncFifo (s : State) (n : Nat) : lateKept s (s.syncFifo n) :=
  lateKept_trans (lateKept_wr s _ _) <| lateKept_trans (lateKept_wr _ _ _) <|
    lateKept_trans (lateKept_wr _ _ _) (lateKept_wr _ _ _)

theorem lateKept_finishFifo (s : State) (n : Nat) (f : PigFifo) : lateKept s (s.finishFifo n f) := by
  have hsync : ∀ g : PigFifo, lateKept s ((s.setFifo n g).syncFifo n) := fun g =>
    lateKept_trans (lateKept_setFifo s n g) (lateKept_syncFifo _ n)
  unfold State.finishFifo
  dsimp only
  split
  · exact lateKept_trans (hsync _) (lateKept_raise _ _)
  · exact hsync _

/-- The counters of PIGEON lie below those of the radios. -/
theorem txLate_ne_pigeon {n : Nat} (h : n < 256) : C.RADIO_TX_LATE 3 ≠ C.PIGEON_RECORDS n ∧
    C.RADIO_TX_LATE 3 ≠ C.PIGEON_REFUSED n ∧ C.RADIO_TX_LATE 3 ≠ C.PIGEON_IDLE_ITEMS n := by
  unfold C.RADIO_TX_LATE C.PIGEON_RECORDS C.PIGEON_REFUSED C.PIGEON_IDLE_ITEMS
  omega

theorem lateKept_hwRecord (s : State) {n : Nat} (items : List Word) (h : n < 256) :
    lateKept s (s.hwRecord n items).2 := by
  obtain ⟨hrecords, hrefused, hidle⟩ := txLate_ne_pigeon h
  unfold State.hwRecord
  dsimp only
  split
  · exact lateKept_count s 1 hrefused
  · split
    · exact lateKept_trans (lateKept_dmaWrite s _ _)
        (lateKept_trans (lateKept_count _ 1 hrecords) (lateKept_finishFifo _ n _))
    · split
      · exact lateKept_trans (lateKept_dmaWrite s _ _) <| lateKept_trans (lateKept_count _ _ hidle) <|
          lateKept_trans (lateKept_dmaWrite _ _ _)
            (lateKept_trans (lateKept_count _ 1 hrecords) (lateKept_finishFifo _ n _))
      · exact lateKept_count s 1 hrefused

/-! ### The end of a frame and of a ranging exchange -/

theorem lateKept_releaseBuf (s : State) (b : Nat) : lateKept s (s.releaseBuf b) := by
  unfold State.releaseBuf
  dsimp only
  split
  · exact lateKept_refl s
  · exact lateKept_trans (lateKept_modTm s _) (lateKept_setFld _ _ _)

theorem lateKept_finishHanded (s : State) (x : Nat × TmFrame) : lateKept s (s.finishHanded x) :=
  lateKept_trans (lateKept_modTm s _) (lateKept_releaseBuf _ _)

theorem lateKept_ngComplete (s : State) (source : NgFrom) (attempts fcnt status : Nat) :
    lateKept s (s.ngComplete source attempts fcnt status) := by
  unfold State.ngComplete
  split
  · exact lateKept_hwRecord s _ (s.fld_lt F.NGL_FIFO_CMPL)
  · exact lateKept_finishHanded s _
  · exact lateKept_refl s

theorem lateKept_rngEnd (s : State) (result : Nat) : lateKept s (s.rngEnd result) := by
  have hcount : C.RADIO_TX_LATE 3 ≠ (if result = 1 then C.NGR_RNG_OK else C.NGR_RNG_FAIL) := by
    split <;> decide
  exact lateKept_trans (lateKept_setFld s _ _) <| lateKept_trans (lateKept_setFld _ _ _) <|
    lateKept_trans (lateKept_modRng _ _) <| lateKept_trans (lateKept_count _ 1 hcount) (lateKept_raise _ _)

/-- The other radios and the count of late Nguord commands, behind a step that may change the Nguord radio. -/
def lateOthers (s t : State) : Prop := otherRadios s t 3 ∧ t.ctr (C.RADIO_TX_LATE 3) = s.ctr (C.RADIO_TX_LATE 3)

theorem lateOthers_of_lateKept (h : lateKept s t) : lateOthers s t := ⟨otherRadios_of_air h.air 3, h.ctr⟩

theorem lateOthers_trans (h : lateOthers s t) (k : lateOthers t u) : lateOthers s u :=
  ⟨otherRadios_trans h.1 k.1, k.2.trans h.2⟩

theorem lateOthers_modRadio (s : State) (f : RadioSt → RadioSt) : lateOthers s (s.modRadio 3 f) :=
  ⟨otherRadios_modRadio s 3 f, rfl⟩

theorem lateOthers_ngEnd (s : State) (f : NgFrame) (status : Nat) : lateOthers s (s.ngEnd f status) :=
  lateOthers_trans (lateOthers_of_lateKept (lateKept_modNgl s _)) <|
    lateOthers_trans (lateOthers_modRadio _ _) (lateOthers_of_lateKept (lateKept_ngComplete _ _ _ _ _))

theorem lateOthers_ngAirLate (s : State) (k : AirKind) : lateOthers s (s.ngAirLate k) := by
  have hrefl : lateOthers s s := lateOthers_of_lateKept (lateKept_refl s)
  unfold State.ngAirLate
  split
  · split
    · split
      · exact lateOthers_ngEnd s _ _
      · exact hrefl
    · exact hrefl
  · split
    · exact lateOthers_of_lateKept (lateKept_rngEnd s 3)
    · exact hrefl
  · exact hrefl

end Sys2Proof.Machine
end

section
/-! The commands TX_READY and TX_UNTIMED_READY (R146, R158 to R164, R228, R293, R308, R682), and the statement of the
family on calibration, doze and transmission. -/

namespace Sys2Proof.Machine

variable {s t u : State} {c : AirCmd} {x : TxRate} {t0 tol : Nat}

/-! ### The decision on the timed command -/

/-- A radio that is ready decides on its timed command: late, or on its way at the later of its time and SW_LEAD from
now. -/
theorem exec_txReady_of_ready (r : Fin 4) (hnext : s.nextTimed r.val = some (c, t0, tol))
    (hready : s.radioReady r.val = true)
    (hretune : (s.radio r.val).retune = false ∨ t0 < s.exchangeEnd r.val) :
    exec (.txReady r) s = .next (if t0 + tol < max t0 (s.now + s.swLead r.val) then s.txLate r.val c
      else s.txTimed r.val c (max t0 (s.now + s.swLead r.val))) := by
  have hgo : ¬ (¬ s.radioReady r.val = true ∨ ((s.radio r.val).retune = true ∧ s.exchangeEnd r.val ≤ t0)) := by
    rintro (h | ⟨h, hend⟩)
    · exact h hready
    · rcases hretune with h' | h'
      · exact Bool.false_ne_true (h'.symm.trans h)
      · exact Nat.not_le.mpr h' hend
  show execTxReady r s = _
  unfold execTxReady
  dsimp only
  rw [hnext]
  dsimp only
  rw [if_neg hgo]
  split <;> rfl

theorem exec_txReady_of_late (r : Fin 4) (hnext : s.nextTimed r.val = some (c, t0, tol))
    (hready : s.radioReady r.val = true)
    (hretune : (s.radio r.val).retune = false ∨ t0 < s.exchangeEnd r.val)
    (hlate : t0 + tol < max t0 (s.now + s.swLead r.val)) : exec (.txReady r) s = .next (s.txLate r.val c) := by
  rw [exec_txReady_of_ready r hnext hready hretune, if_pos hlate]

theorem exec_txReady_of_time (r : Fin 4) (hnext : s.nextTimed r.val = some (c, t0, tol))
    (hready : s.radioReady r.val = true)
    (hretune : (s.radio r.val).retune = false ∨ t0 < s.exchangeEnd r.val)
    (htime : max t0 (s.now + s.swLead r.val) ≤ t0 + tol) :
    exec (.txReady r) s = .next (s.txTimed r.val c (max t0 (s.now + s.swLead r.val))) := by
  rw [exec_txReady_of_ready r hnext hready hretune, if_neg (Nat.not_lt.mpr htime)]

theorem State.takesWork_of_radioReady {r : Nat} (h : s.radioReady r = true) : s.takesWork (radioBlock r) = true := by
  unfold State.radioReady State.radioRuns at h
  simp only [Bool.and_eq_true] at h
  exact h.1.1.1.2

/-- A command that has to wait waits, while the radio's block takes work. -/
theorem exec_txReady_of_waits (r : Fin 4) (hworks : s.takesWork (radioBlock r.val) = true)
    (hwaits : ∀ c t0 tol, s.nextTimed r.val = some (c, t0, tol) →
      ¬ s.radioReady r.val = true ∨ ((s.radio r.val).retune = true ∧ s.exchangeEnd r.val ≤ t0)) :
    exec (.txReady r) s = .next s := by
  show execTxReady r s = _
  unfold execTxReady
  dsimp only
  split
  · rfl
  · next c t0 tol hnext => rw [if_pos (hwaits c t0 tol hnext), if_pos (.inl hworks)]

/-! ### A late command -/

theorem State.txLate_wlan {r : Nat} (hr : r ≠ 3) (s : State) (c : AirCmd) :
    s.txLate r c = (((s.count (C.RADIO_TX_LATE r)).withdraw r c).closeUsers c.kind.users) := if_neg hr

theorem State.radio_withdraw (s : State) (r : Nat) (c : AirCmd) :
    (s.withdraw r c).radio r = { s.radio r with cmds := (s.radio r).cmds.erase c } := State.radio_modRadio_same s r _

theorem otherRadios_withdraw (s : State) (r : Nat) (c : AirCmd) : otherRadios s (s.withdraw r c) r :=
  otherRadios_modRadio s r _

theorem State.kept_withdraw (s : State) (r : Nat) (c : AirCmd) :
    (s.withdraw r c).wmac.mpdus.map TxMpdu.kept = s.wmac.mpdus.map TxMpdu.kept := s.wmac.kept_giveBack c

theorem State.withdraw_frame (s : State) (r : Nat) (c : AirCmd) :
    s.withdraw r c = { s with air := (s.withdraw r c).air, wmac := (s.withdraw r c).wmac } := rfl

/-- What a late command of a WLAN radio leaves: it counts and leaves its queue, and its MPDUs keep their attempts
(R163, R228). -/
theorem txLate_leaves (s : State) {r : Nat} (hr : r ≠ 3) (c : AirCmd) :
    counted s (s.txLate r c) (C.RADIO_TX_LATE r) 1 ∧ onlyCtrs s (s.txLate r c) [C.RADIO_TX_LATE r] ∧
      (s.txLate r c).radio r = { s.radio r with cmds := (s.radio r).cmds.erase c } ∧ otherRadios s (s.txLate r c) r ∧
      (s.txLate r c).wmac.mpdus.map TxMpdu.kept = s.wmac.mpdus.map TxMpdu.kept ∧
      (s.txLate r c).regs = s.regs ∧ (s.txLate r c).mem = s.mem := by
  rw [State.txLate_wlan hr]
  have hradio := (s.count (C.RADIO_TX_LATE r)).radio_withdraw r c
  have hothers := otherRadios_withdraw (s.count (C.RADIO_TX_LATE r)) r c
  have hkept := (s.count (C.RADIO_TX_LATE r)).kept_withdraw r c
  have hframe := (s.count (C.RADIO_TX_LATE r)).withdraw_frame r c
  generalize (s.count (C.RADIO_TX_LATE r)).withdraw r c = u at hradio hothers hkept hframe ⊢
  have hclose := exchangeFrame_closeUsers u c.kind.users
  have hair := air_of_exchangeFrame hclose
  have huctrs : u.ctrs = (s.count (C.RADIO_TX_LATE r)).ctrs := by rw [hframe]
  have hctrs : (u.closeUsers c.kind.users).ctrs = (s.count (C.RADIO_TX_LATE r)).ctrs :=
    (ctrs_of_exchangeFrame hclose).trans huctrs
  have huregs : u.regs = s.regs := by rw [hframe]; rfl
  have humem : u.mem = s.mem := by rw [hframe]; rfl
  refine ⟨?_, onlyCtrs_of_ctrs hctrs (onlyCtrs_count _ 1 (List.mem_singleton_self _) (onlyCtrs_refl s _)),
    (State.radio_of_air hair r).trans hradio, otherRadios_trans hothers (otherRadios_of_air hair r), ?_,
    (regs_of_exchangeFrame hclose).trans huregs, (mem_of_exchangeFrame hclose).trans humem⟩
  · unfold counted
    rw [State.ctr_of_ctrs hctrs, State.ctr_count, if_pos rfl]
  · rw [mpdus_of_exchangeFrame hclose]
    exact hkept

theorem txLate_rule (s : State) (r : Fin 3) (c : AirCmd) (t0 tol : Nat) (hnext : s.nextTimed r.val = some (c, t0, tol))
    (hready : s.radioReady r.val = true) (hretune : (s.radio r.val).retune = false ∨ t0 < s.exchangeEnd r.val)
    (hlate : t0 + tol < max t0 (s.now + s.swLead r.val)) :
    ∃ t, exec (.txReady (r.castSucc)) s = .next t ∧ counted s t (C.RADIO_TX_LATE r.val) 1 ∧
      onlyCtrs s t [C.RADIO_TX_LATE r.val] ∧
      t.radio r.val = { s.radio r.val with cmds := (s.radio r.val).cmds.erase c } ∧
      otherRadios s t r.val ∧
      t.wmac.mpdus.map (fun m => (m.id, m.attempts, m.sn, m.pn)) =
        s.wmac.mpdus.map (fun m => (m.id, m.attempts, m.sn, m.pn)) ∧
      t.regs = s.regs ∧ t.mem = s.mem :=
  ⟨_, exec_txReady_of_late r.castSucc hnext hready hretune hlate, txLate_leaves s (fin3_ne_three r) c⟩

/-- At a stopped radio the timed command whose tolerance has passed is late (R682). -/
theorem exec_txReady_of_stopped (r : Fin 4) (hworks : s.takesWork (radioBlock r.val) = false)
    (hnext : s.nextTimed r.val = some (c, t0, tol)) (hpassed : t0 + tol < s.now) :
    exec (.txReady r) s = .next (s.txLate r.val c) := by
  have hnot : ¬ s.radioReady r.val = true := fun h =>
    Bool.false_ne_true (hworks.symm.trans (State.takesWork_of_radioReady h))
  have hover : ¬ (s.takesWork (radioBlock r.val) = true ∨ s.now ≤ t0 + tol) := by
    rintro (h | h)
    · exact Bool.false_ne_true (hworks.symm.trans h)
    · exact Nat.not_lt.mpr h hpassed
  show execTxReady r s = _
  unfold execTxReady
  dsimp only
  rw [hnext]
  dsimp only
  rw [if_pos (.inl hnot), if_neg hover]

/-- What a late command of the Nguord radio leaves of the other radios, and the count of late commands. -/
theorem txLate_nguord_leaves (s : State) (c : AirCmd) :
    (s.txLate 3 c).ctr (C.RADIO_TX_LATE 3) = s.ctr (C.RADIO_TX_LATE 3) + 1 ∧ otherRadios s (s.txLate 3 c) 3 := by
  have htaken := lateOthers_modRadio (s.count (C.RADIO_TX_LATE 3)) (fun x => { x with cmds := x.cmds.erase c })
  obtain ⟨hothers, hctr⟩ := lateOthers_trans htaken (lateOthers_ngAirLate _ c.kind)
  refine ⟨hctr.trans ?_, hothers⟩
  rw [State.ctr_count, if_pos rfl]
  rfl

theorem txStopped_rule (s : State) (r : Fin 4) (c : AirCmd) (t0 tol : Nat)
    (hworks : s.takesWork (radioBlock r.val) = false) (hnext : s.nextTimed r.val = some (c, t0, tol))
    (hpassed : t0 + tol < s.now) :
    ∃ t, exec (.txReady r) s = .next t ∧ t.ctr (C.RADIO_TX_LATE r.val) = s.ctr (C.RADIO_TX_LATE r.val) + 1 ∧
      (r.val ≠ 3 → (t.radio r.val).cmds = (s.radio r.val).cmds.erase c ∧ t.regs = s.regs) ∧ otherRadios s t r.val := by
  refine ⟨_, exec_txReady_of_stopped r hworks hnext hpassed, ?_⟩
  by_cases hr : r.val = 3
  · obtain ⟨hctr, hothers⟩ := txLate_nguord_leaves s c
    rw [hr]
    exact ⟨hctr, fun h => absurd rfl h, hothers⟩
  · obtain ⟨hctr, -, hradio, hothers, -, hregs, -⟩ := txLate_leaves s hr c
    exact ⟨hctr, fun _ => ⟨by rw [hradio], hregs⟩, hothers⟩

/-! ### A command that starts, and one over the cap -/

/-- What stands first in the queue and starts has left the queue as it was. -/
theorem startsAt_of_commandFirst {r dur : Nat} {k : Coding} (h : startsAt (s.commandFirst r c) t r c t0 dur k) :
    startsAt s t r c t0 dur k := by
  obtain ⟨hon, hcmds, hothers⟩ := h
  refine ⟨hon, ?_, otherRadios_trans (otherRadios_modRadio s r _) hothers⟩
  rw [hcmds, s.radio_commandFirst]
  exact List.erase_cons_head _ _

theorem txStart_rule (s : State) (r : Fin 3) (c : AirCmd) (t0 tol at' stop : Nat) (x : TxRate)
    (hnext : s.nextTimed r.val = some (c, t0, tol)) (hrates : c.rates = [x])
    (hat : at' = max t0 (s.now + s.swLead r.val)) (hstop : stop = at' + max x.dur.toNat c.fill)
    (hmpdus : c.mpdus = []) (hicf : c.icf = []) (hnstr : s.nstrHeld c = []) (hwait : s.wmac.waiting = [])
    (hrx : (s.radio r.val).rx = none) (hready : s.radioReady r.val = true)
    (hretune : (s.radio r.val).retune = false ∨ t0 < s.exchangeEnd r.val) (htime : at' ≤ t0 + tol)
    (hfits : s.schedFits r.val at' (stop + c.resp) (s.cmdFlow c) (!c.kind.isData) = true)
    (hformat : s.formatOk r.val c.kind.sta c.kind x = true)
    (hpower : s.powerOk r.val x c.red (s.srCap r.val at') = true) :
    ∃ t, exec (.txReady (r.castSucc)) s = .next t ∧
      startsAt s t r.val c at' (stop - at') ((codingOf (c.kind.tones x) x).getD .plain) ∧
      counted s t (C.ROUNDS_AIR_OWN_US r.val) (divRound (stop - at') 500) ∧ t.regs = s.regs ∧ t.mem = s.mem := by
  subst hstop
  have hexec := exec_txReady_of_time r.castSucc hnext hready hretune (hat ▸ htime)
  have hgo : s.txTimed r.val c at' =
      (s.commandFirst r.val c).txStart r.val c at' (max x.dur.toNat c.fill) (some x) :=
    (State.txTimed_of_fits (fin3_ne_three r) hrates hicf hnstr hfits).trans
      (State.txGo_of_passes (fin3_ne_three r) hrates hicf ((s.formatOk_commandFirst _ _ _ _ _).trans hformat)
        ((s.powerOk_commandFirst _ _ _ _ _).trans hpower))
  have hnone : ((s.commandFirst r.val c).radio r.val).rx = none := by rw [s.radio_commandFirst]; exact hrx
  obtain ⟨hstart, hcount, hregs, hmem⟩ := txStart_starts (t0 := at') (dur := max x.dur.toNat c.fill)
    (s.commandFirst r.val c) r x hmpdus hwait hnone
  refine ⟨_, hexec.trans (congrArg Host.Outcome.next ((congrArg (s.txTimed r.val c) hat.symm).trans hgo)), ?_, ?_,
    hregs, hmem⟩
  · rw [Nat.add_sub_cancel_left]
    exact startsAt_of_commandFirst hstart
  · rw [Nat.add_sub_cancel_left]
    exact hcount

theorem State.txRefused_of_none {r : Nat} (hmpdus : c.mpdus = []) (cap : Bool) :
    s.txRefused r c cap = (s.takeCmd r c).closeUsers c.kind.users := by
  unfold State.txRefused
  rw [State.cmdMpdus_of_nil hmpdus]
  rfl

/-- A command over the power cap has counted and left its queue (R160). -/
def State.capTaken (s : State) (r : Nat) (c : AirCmd) : State :=
  ((s.commandFirst r c).count (C.RADIO_TX_CAP r)).takeCmd r c

theorem State.capTaken_frame (s : State) (r : Nat) (c : AirCmd) :
    s.capTaken r c = { s.count (C.RADIO_TX_CAP r) with air := (s.capTaken r c).air } := rfl

theorem State.radio_count (s : State) (a n q : Nat) : (s.count a n).radio q = s.radio q := rfl

theorem State.radio_capTaken (s : State) (r : Nat) (c : AirCmd) :
    (s.capTaken r c).radio r = { s.radio r with cmds := (s.radio r).cmds.erase c } := by
  unfold State.capTaken State.takeCmd
  rw [State.radio_modRadio_same, State.radio_count, s.radio_commandFirst, List.erase_cons_head]

theorem otherRadios_capTaken (s : State) (r : Nat) (c : AirCmd) : otherRadios s (s.capTaken r c) r := fun q hq => by
  unfold State.capTaken State.takeCmd State.commandFirst
  rw [State.radio_modRadio_ne _ _ hq, State.radio_count, State.radio_modRadio_ne _ _ hq]

theorem State.txRefused_capped {r : Nat} (hmpdus : c.mpdus = []) :
    ((s.commandFirst r c).count (C.RADIO_TX_CAP r)).txRefused r c true = (s.capTaken r c).closeUsers c.kind.users :=
  State.txRefused_of_none hmpdus true

/-- What a command of a WLAN radio that falls to the power cap leaves, its users' exchanges closed (R160, R228). -/
theorem txCapped_leaves (s : State) (r : Nat) (c : AirCmd) (l : List (Nat × Nat)) :
    counted s ((s.capTaken r c).closeUsers l) (C.RADIO_TX_CAP r) 1 ∧
      onlyCtrs s ((s.capTaken r c).closeUsers l) [C.RADIO_TX_CAP r] ∧
      ((s.capTaken r c).closeUsers l).radio r = { s.radio r with cmds := (s.radio r).cmds.erase c } ∧
      otherRadios s ((s.capTaken r c).closeUsers l) r ∧ ((s.capTaken r c).closeUsers l).regs = s.regs ∧
      ((s.capTaken r c).closeUsers l).wmac.mpdus = s.wmac.mpdus := by
  have hradio := s.radio_capTaken r c
  have hothers := otherRadios_capTaken s r c
  have hframe := s.capTaken_frame r c
  generalize s.capTaken r c = u at hradio hothers hframe ⊢
  have hclose := exchangeFrame_closeUsers u l
  have hair := air_of_exchangeFrame hclose
  have huctrs : u.ctrs = (s.count (C.RADIO_TX_CAP r)).ctrs := by rw [hframe]
  have hctrs : (u.closeUsers l).ctrs = (s.count (C.RADIO_TX_CAP r)).ctrs := (ctrs_of_exchangeFrame hclose).trans huctrs
  have huregs : u.regs = s.regs := by rw [hframe]; rfl
  have humpdus : u.wmac.mpdus = s.wmac.mpdus := by rw [hframe]; rfl
  refine ⟨?_, onlyCtrs_of_ctrs hctrs (onlyCtrs_count _ 1 (List.mem_singleton_self _) (onlyCtrs_refl s _)),
    (State.radio_of_air hair r).trans hradio, otherRadios_trans hothers (otherRadios_of_air hair r),
    (regs_of_exchangeFrame hclose).trans huregs, (mpdus_of_exchangeFrame hclose).trans humpdus⟩
  unfold counted
  rw [State.ctr_of_ctrs hctrs, State.ctr_count, if_pos rfl]

theorem txCap_rule (s : State) (r : Fin 3) (c : AirCmd) (t0 tol at' : Nat) (x : TxRate)
    (hnext : s.nextTimed r.val = some (c, t0, tol)) (hrates : c.rates = [x])
    (hat : at' = max t0 (s.now + s.swLead r.val)) (hmpdus : c.mpdus = []) (hicf : c.icf = [])
    (hnstr : s.nstrHeld c = []) (hready : s.radioReady r.val = true)
    (hretune : (s.radio r.val).retune = false ∨ t0 < s.exchangeEnd r.val) (htime : at' ≤ t0 + tol)
    (hfits : s.schedFits r.val at' (at' + max x.dur.toNat c.fill + c.resp) (s.cmdFlow c) (!c.kind.isData) = true)
    (hformat : s.formatOk r.val c.kind.sta c.kind x = true)
    (hpower : s.powerOk r.val x c.red (s.srCap r.val at') = false) :
    ∃ t, exec (.txReady (r.castSucc)) s = .next t ∧ counted s t (C.RADIO_TX_CAP r.val) 1 ∧
      onlyCtrs s t [C.RADIO_TX_CAP r.val] ∧
      t.radio r.val = { s.radio r.val with cmds := (s.radio r.val).cmds.erase c } ∧
      otherRadios s t r.val ∧ t.regs = s.regs ∧ t.wmac.mpdus = s.wmac.mpdus := by
  have hexec := exec_txReady_of_time r.castSucc hnext hready hretune (hat ▸ htime)
  have hgo : s.txTimed r.val c at' = (s.capTaken r.val c).closeUsers c.kind.users :=
    ((State.txTimed_of_fits (fin3_ne_three r) hrates hicf hnstr hfits).trans
      (State.txGo_of_capped (fin3_ne_three r) hrates hicf ((s.formatOk_commandFirst _ _ _ _ _).trans hformat)
        ((s.powerOk_commandFirst _ _ _ _ _).trans hpower))).trans (State.txRefused_capped hmpdus)
  exact ⟨_, hexec.trans (congrArg Host.Outcome.next ((congrArg (s.txTimed r.val c) hat.symm).trans hgo)),
    txCapped_leaves s r.val c c.kind.users⟩

/-! ### The beacon of the Nguord radio -/

/-- A beacon that starts is charged to its channel and counts (R373). -/
def State.bcnSent (u : State) (t0 dur : Nat) : State := (u.logAir u.ngl.ch t0 (t0 + dur - t0)).count C.NGL_BCN_SENT

theorem State.bcnSent_frame (u : State) (t0 dur : Nat) :
    u.bcnSent t0 dur = { u.count C.NGL_BCN_SENT with ngl := (u.bcnSent t0 dur).ngl } := rfl

/-- A beacon within the power cap starts (R342). -/
theorem State.txTimed_ngBeacon (hkind : c.kind = .ngBeacon) (hdbm : -10 ≤ c.dbm) (hrx : noReception s 3) :
    s.txTimed 3 c t0 = (s.airSet 3 c t0 c.dur .plain).bcnSent t0 c.dur := by
  have hgo : s.txTimed 3 c t0 = s.txStart 3 c t0 c.dur none := if_neg (not_lt.mpr hdbm)
  have hstart : s.txStart 3 c t0 c.dur none =
      ((s.airSet 3 c t0 c.dur .plain).deafen 3).ngAirStart c.kind t0 (t0 + c.dur) := rfl
  rw [hgo, hstart, State.deafen_of_noReception (noReception_airSet hrx), hkind]
  rfl

/-- What a beacon that starts leaves, of a state in which its radio sends. -/
theorem bcnSent_leaves {dur : Nat} (hstart : startsAt s u 3 c t0 dur .plain) (hframe : u = { s with air := u.air }) :
    startsAt s (u.bcnSent t0 dur) 3 c t0 dur .plain ∧ counted s (u.bcnSent t0 dur) C.NGL_BCN_SENT 1 ∧
      (u.bcnSent t0 dur).regs = s.regs ∧ (u.bcnSent t0 dur).mem = s.mem := by
  have hsent := u.bcnSent_frame t0 dur
  generalize u.bcnSent t0 dur = v at hsent ⊢
  have hair : v.air = u.air := by rw [hsent]; rfl
  have hctrs : v.ctrs = (s.count C.NGL_BCN_SENT).ctrs := by rw [hsent, hframe]; rfl
  refine ⟨startsAt_of_air hstart hair, ?_, by rw [hsent, hframe]; rfl, by rw [hsent, hframe]; rfl⟩
  unfold counted
  rw [State.ctr_of_ctrs hctrs, State.ctr_count, if_pos rfl]

theorem ngBeacon_rule (s : State) (c : AirCmd) (t0 tol : Nat) (hnext : s.nextTimed 3 = some (c, t0, tol))
    (hkind : c.kind = .ngBeacon) (hdbm : -10 ≤ c.dbm) (hrx : noReception s 3) (hready : s.radioReady 3 = true)
    (hretune : (s.radio 3).retune = false ∨ t0 < s.exchangeEnd 3) (htime : max t0 (s.now + s.swLead 3) ≤ t0 + tol) :
    ∃ t, exec (.txReady 3) s = .next t ∧ startsAt s t 3 c (max t0 (s.now + s.swLead 3)) c.dur .plain ∧
      counted s t C.NGL_BCN_SENT 1 ∧ t.regs = s.regs ∧ t.mem = s.mem := by
  have hexec : exec (.txReady 3) s = .next (s.txTimed 3 c (max t0 (s.now + s.swLead 3))) :=
    exec_txReady_of_time 3 hnext hready hretune htime
  refine ⟨_, hexec.trans (congrArg Host.Outcome.next (State.txTimed_ngBeacon hkind hdbm hrx)), ?_⟩
  have hstart := startsAt_airSet s 3 c (max t0 (s.now + s.swLead 3)) c.dur .plain
  have hframe := s.airSet_frame 3 c (max t0 (s.now + s.swLead 3)) c.dur .plain
  generalize s.airSet 3 c (max t0 (s.now + s.swLead 3)) c.dur .plain = u at hstart hframe ⊢
  exact bcnSent_leaves hstart hframe

/-! ### A command without a start time -/

theorem State.mediumBusy_of_quiet {r : Nat} {en : Byte} (hrx : (s.radio r).rx = none)
    (hbusy : (s.radio r).busyUntil ≤ s.now) (hen : en.toInt < sgn 8 (s.fld (F.RADIO_DET_CFG_ED_LEVEL r))) :
    s.mediumBusy r en = false := by
  unfold State.mediumBusy
  rw [State.rxActive_of_none hrx, decide_eq_false (Nat.not_lt.mpr hbusy), decide_eq_false (not_le.mpr hen)]
  rfl

theorem State.cmdFlow_of_nil (hmpdus : c.mpdus = []) : s.cmdFlow c = none := by
  unfold State.cmdFlow
  rw [hmpdus]
  rfl

/-- The longest that a command with one rate and no initial control frame takes. -/
theorem longest_of_single (hrates : c.rates = [x]) :
    0 + ((c.rates.map (fun t => t.dur.toNat)).foldl max (max c.dur c.fill)) + c.resp =
      max c.dur (max x.dur.toNat c.fill) + c.resp := by
  rw [hrates]
  show 0 + max (max c.dur c.fill) x.dur.toNat + c.resp = _
  omega

theorem exec_txUntimedReady (r : Fin 3) (en : Byte)
    (hfind : (s.radio r.val).cmds.find? (fun c => c.timed.isNone) = some c) (hrates : c.rates = [x])
    (hmpdus : c.mpdus = []) (hicf : c.icf = []) (hnstr : s.nstrHeld c = []) (hrx : (s.radio r.val).rx = none)
    (hready : s.radioReady r.val = true) (hretune : (s.radio r.val).retune = false) (hafter : c.after ≤ s.now)
    (hbusy : (s.radio r.val).busyUntil ≤ s.now) (hen : en.toInt < sgn 8 (s.fld (F.RADIO_DET_CFG_ED_LEVEL r.val)))
    (hfits : s.contentionFits r.val (s.swLead r.val + (max c.dur (max x.dur.toNat c.fill) + c.resp)) = true) :
    exec (.txUntimedReady (r.castSucc) en) s = .next (s.txGo r.val c (s.now + s.swLead r.val)) := by
  have hval : r.castSucc.val = r.val := rfl
  show execTxUntimedReady r.castSucc en s = _
  unfold execTxUntimedReady
  simp only [hval, hfind, hicf, if_true, longest_of_single hrates, hready, hretune, Nat.not_lt.mpr hafter,
    fin3_ne_three r, State.mediumBusy_of_quiet hrx hbusy hen, hnstr, State.cmdFlow_of_nil hmpdus, hfits,
        not_true_eq_false,
    Bool.false_eq_true, false_and, and_false, or_self, ne_eq, not_false_eq_true, if_false]

theorem txUntimed_rule (s : State) (r : Fin 3) (en : Byte) (c : AirCmd) (x : TxRate) (dur : Nat)
    (hfind : (s.radio r.val).cmds.find? (fun c => c.timed.isNone) = some c) (hrates : c.rates = [x])
    (hdur : dur = max x.dur.toNat c.fill) (hmpdus : c.mpdus = []) (hicf : c.icf = []) (hnstr : s.nstrHeld c = [])
    (hwait : s.wmac.waiting = []) (hrx : (s.radio r.val).rx = none) (hready : s.radioReady r.val = true)
    (hretune : (s.radio r.val).retune = false) (hafter : c.after ≤ s.now) (hbusy : (s.radio r.val).busyUntil ≤ s.now)
    (hen : en.toInt < sgn 8 (s.fld (F.RADIO_DET_CFG_ED_LEVEL r.val)))
    (hfits : s.contentionFits r.val (s.swLead r.val + (max c.dur dur + c.resp)) = true)
    (hformat : s.formatOk r.val c.kind.sta c.kind x = true)
    (hpower : s.powerOk r.val x c.red (s.srCap r.val (s.now + s.swLead r.val)) = true) :
    ∃ t, exec (.txUntimedReady (r.castSucc) en) s = .next t ∧
      startsAt s t r.val c (s.now + s.swLead r.val) dur ((codingOf (c.kind.tones x) x).getD .plain) ∧
      t.regs = s.regs ∧ t.mem = s.mem := by
  subst hdur
  have hexec := exec_txUntimedReady r en hfind hrates hmpdus hicf hnstr hrx hready hretune hafter hbusy hen hfits
  rw [State.txGo_of_passes (fin3_ne_three r) hrates hicf hformat hpower] at hexec
  obtain ⟨hstart, -, hregs, hmem⟩ := txStart_starts (t0 := s.now + s.swLead r.val) (dur := max x.dur.toNat c.fill) s r x
    hmpdus hwait hrx
  exact ⟨_, hexec, hstart, hregs, hmem⟩

/-- A radio that is not ready starts no command without a start time. -/
theorem exec_txUntimedReady_of_not_ready (r : Fin 4) (en : Byte) (h : s.radioReady r.val = false) :
    exec (.txUntimedReady r en) s = .next s := by
  show execTxUntimedReady r en s = _
  unfold execTxUntimedReady
  dsimp only
  split
  · rfl
  · exact if_pos (.inl (h ▸ Bool.false_ne_true))

/-! ### The statement -/

/-- Settles O19: each clause is the rule of its command. -/
theorem radioCalibrationDozeAndTransmission : Obligations.RadioCalibrationDozeAndTransmission := by
  unfold Obligations.RadioCalibrationDozeAndTransmission
  exact ⟨calCmdFull_rule, calDue_rule, fun _ r temp h => exec_calDue_of_not r temp h, rfCalOverdue_rule, calTrack_rule,
    dozeStart_rule, fun _ r h => exec_dozeStart_of_not_trim r h, dozeEnd_rule, txLate_rule,
    fun _ r _ _ _ hnext hready hretune hend => exec_txReady_of_waits r (State.takesWork_of_radioReady hready)
      fun _ _ _ h => .inr ⟨hretune, by cases hnext.symm.trans h; exact hend⟩,
    txStart_rule, txCap_rule, ngBeacon_rule, txUntimed_rule,
    fun _ r en h => ⟨fun hworks => exec_txReady_of_waits r hworks fun _ _ _ _ => .inl (h ▸ Bool.false_ne_true),
      exec_txUntimedReady_of_not_ready r en h⟩, txStopped_rule⟩

end Sys2Proof.Machine
end

section
/-! SUPPORT. What every command keeps (R121, R123, R124, R593 to R595): the canonical form of memory, flash, host memory,
registers and counters, the queue of waiting commands, and fuses that are only ever blown. Said once as a relation between
two states, with a rule for each shape that a meaning is built from. -/

namespace Sys2Proof.Machine

variable {s₀ s : State} {α β : Type}

/-! ### Fuses -/

/-- No fuse blown. -/
theorem Fuses.onlyBlown_refl (f : Fuses) : f.onlyBlown f :=
  ⟨le_rfl, le_rfl, le_rfl, le_rfl, le_rfl, id, fun _ => rfl, fun h => ⟨h, rfl⟩⟩

/-- Fuses blown in two goes. -/
theorem Fuses.onlyBlown_trans {f g k : Fuses} (h : f.onlyBlown g) (h' : g.onlyBlown k) : f.onlyBlown k := by
  obtain ⟨h0, h1, h2, h3, hl, hid, hseed, hhash⟩ := h
  obtain ⟨h0', h1', h2', h3', hl', hid', hseed', hhash'⟩ := h'
  refine ⟨h0.trans h0', h1.trans h1', h2.trans h2', h3.trans h3', hl.trans hl', fun hk => hid' (hid hk), fun hs => ?_,
    fun hb => ?_⟩
  · exact (hseed' (hseed hs ▸ hs)).trans (hseed hs)
  · obtain ⟨hg, howner⟩ := hhash hb
    obtain ⟨hk, howner'⟩ := hhash' hg
    exact ⟨hk, howner'.trans howner⟩

/-! ### The relation -/

/-- From `s₀` to `s` the canonical form is kept, the queue has not moved, and fuses have only been blown. -/
def Kept (s₀ s : State) : Prop :=
  (s₀.canonical → s.canonical) ∧ s.pending = s₀.pending ∧ s₀.fuses.onlyBlown s.fuses

/-- A state that an operation may answer keeps what `Kept` says. -/
def KeptOpt (s₀ : State) (o : Option State) : Prop := ∀ t, o = some t → Kept s₀ t

/-- A state that a body of the boot image leaves, where it is legal, keeps what `Kept` says. -/
def KeptExc (s₀ : State) (r : Except Nat State) : Prop := ∀ t, r = .ok t → Kept s₀ t

/-- An outcome is a next state that keeps what `Kept` says. -/
def Completes (s₀ : State) (o : Host.Outcome State Fault Refusal) : Prop := ∃ t, o = .next t ∧ Kept s₀ t

theorem KeptOpt.some (h : Kept s₀ s) : KeptOpt s₀ (some s) := fun _ e => Option.some.inj e ▸ h

theorem KeptOpt.none : KeptOpt s₀ none := fun _ e => nomatch e

theorem KeptOpt.ite {c : Prop} [Decidable c] {o o' : Option State} (h : KeptOpt s₀ o) (h' : KeptOpt s₀ o') :
    KeptOpt s₀ (if c then o else o') := by
  split
  · exact h
  · exact h'

theorem KeptOpt.map {f : α → State} {o : Option α} (h : ∀ a, Kept s₀ (f a)) : KeptOpt s₀ (o.map f) := by
  cases o with
  | none => exact .none
  | some a => exact .some (h a)

theorem KeptOpt.getD {o : Option State} (h : KeptOpt s₀ o) (h' : Kept s₀ s) : Kept s₀ (o.getD s) := by
  cases o with
  | none => exact h'
  | some t => exact h t rfl

theorem KeptExc.ok (h : Kept s₀ s) : KeptExc s₀ (.ok s) := fun _ e => Except.ok.inj e ▸ h

theorem KeptExc.error {n : Nat} : KeptExc s₀ (.error n) := fun _ e => nomatch e

theorem KeptExc.ite {c : Prop} [Decidable c] {r r' : Except Nat State} (h : KeptExc s₀ r) (h' : KeptExc s₀ r') :
    KeptExc s₀ (if c then r else r') := by
  split
  · exact h
  · exact h'

theorem Completes.next (h : Kept s₀ s) : Completes s₀ (.next s) := ⟨s, rfl, h⟩

theorem Completes.ite {c : Prop} [Decidable c] {o o' : Host.Outcome State Fault Refusal} (h : Completes s₀ o)
    (h' : Completes s₀ o') : Completes s₀ (if c then o else o') := by
  split
  · exact h
  · exact h'

namespace Kept

theorem refl (s : State) : Kept s s := ⟨id, rfl, s.fuses.onlyBlown_refl⟩

/-- A step that moves the canonical form on, and leaves the queue and the fuses. -/
theorem of_canonical {t : State} (h : Kept s₀ s) (hc : s.canonical → t.canonical) (hp : t.pending = s.pending)
    (hf : t.fuses = s.fuses) : Kept s₀ t :=
  ⟨fun c => hc (h.1 c), hp.trans h.2.1, hf ▸ h.2.2⟩

theorem ite {c : Prop} [Decidable c] {t : State} (h : Kept s₀ s) (h' : Kept s₀ t) : Kept s₀ (if c then s else t) := by
  split
  · exact h
  · exact h'

theorem foldl {f : State → α → State} {l : List α} (h : Kept s₀ s) (hf : ∀ t a, Kept s₀ t → Kept s₀ (f t a)) :
    Kept s₀ (l.foldl f s) := by
  induction l generalizing s with
  | nil => exact h
  | cons a l ih => exact ih (hf s a h)

theorem foldl_fst {f : State × β → α → State × β} {l : List α} {p : State × β} (h : Kept s₀ p.1)
    (hf : ∀ q a, Kept s₀ q.1 → Kept s₀ (f q a).1) : Kept s₀ (l.foldl f p).1 := by
  induction l generalizing p with
  | nil => exact h
  | cons a l ih => exact ih (hf p a h)

theorem of_snd {p : α × State} {a : α} (h : Kept s₀ p.2) (e : p = (a, s)) : Kept s₀ s := by
  subst e
  exact h

theorem of_fst {p : State × α} {a : α} (h : Kept s₀ p.1) (e : p = (s, a)) : Kept s₀ s := by
  subst e
  exact h

/-- An update of anything outside memory, registers, counters, fuses and the queue. -/
theorem upd {ctrShadow poison fresh resp power pins held bar2 rwl boot nvmc time disp pig sort tables tm regsvc emacs wire
    dram air ldpc wmac rounds ngr ngl hostp keys sealer flt} (h : Kept s₀ s) :
    Kept s₀ ⟨s.regs, s.ctrs, ctrShadow, s.mem, poison, s.nvm, s.hostMem, fresh, resp, s.fuses, power, pins, held, bar2,
      rwl, boot, nvmc, time, disp, pig, sort, tables, tm, regsvc, emacs, wire, dram, air, ldpc, wmac, rounds, ngr, ngl,
      hostp, keys, sealer, flt, s.pending⟩ := h

/-- Fuses are blown. -/
theorem blow {f : Fuses} (h : Kept s₀ s) (hf : s.fuses.onlyBlown f) : Kept s₀ { s with fuses := f } :=
  ⟨h.1, h.2.1, Fuses.onlyBlown_trans h.2.2 hf⟩

/-- Bytes of memory fall to what an unlisted address reads as. -/
theorem memFilter {p : Nat × Byte → Bool} (h : Kept s₀ s) : Kept s₀ { s with mem := s.mem.filter p } :=
  h.of_canonical (fun ⟨hm, hrest⟩ => ⟨swf_filter _ p _ hm, hrest⟩) rfl rfl

/-- Registers and counters fall to their reset values. -/
theorem regsCtrsFilter {p : Nat × Word → Bool} {q : Nat × DWord → Bool} (h : Kept s₀ s) :
    Kept s₀ { s with regs := s.regs.filter p, ctrs := s.ctrs.filter q } :=
  h.of_canonical (fun ⟨hm, hn, hh, hr, hc⟩ => ⟨hm, hn, hh, swf_filter _ p _ hr, swf_filter _ q _ hc⟩) rfl rfl

/-- What a reset puts in place of the state: the queue, flash, host memory and fuses stand, and each map is in canonical
form. -/
theorem reset {t : State} (h : Kept s₀ s) (hmem : s.canonical → Memory.wf t.mem = true)
    (hregs : s.canonical → swf resetWord t.regs = true) (hctrs : t.ctrs = []) (hnvm : t.nvm = s.cutFlash.nvm)
    (hcut : Kept s s.cutFlash) (hhost : t.hostMem = s.hostMem) (hp : t.pending = s.pending) (hf : t.fuses = s.fuses) :
    Kept s₀ t :=
  h.of_canonical (fun c => ⟨hmem c, hnvm ▸ (hcut.1 c).2.1, hhost ▸ c.2.2.1, hregs c, hctrs ▸ rfl⟩) hp hf

end Kept

end Sys2Proof.Machine
end

section
/-! SUPPORT. What every command keeps, said of each function of the model in the order of its files.
The operations that the meanings share: access, threads, packets, resets, keys and time. -/

namespace Sys2Proof.Machine

variable {s₀ s : State}

namespace Kept

/-! ### Ops -/

theorem wr {a v} (h : Kept s₀ s) : Kept s₀ (s.wr a v) := h.of_canonical (State.canonical_wr s a v) rfl rfl

theorem setFld {f v} (h : Kept s₀ s) : Kept s₀ (s.setFld f v) := h.wr

theorem wr64 {lo hi v} (h : Kept s₀ s) : Kept s₀ (s.wr64 lo hi v) := h.wr.wr

theorem count {a n} (h : Kept s₀ s) : Kept s₀ (s.count a n) := h.of_canonical (State.canonical_count s a n) rfl rfl

theorem clearCtr {a} (h : Kept s₀ s) : Kept s₀ (s.clearCtr a) :=
  h.of_canonical (fun ⟨hm, hn, hh, hr, hc⟩ => ⟨hm, hn, hh, hr, swf_sput _ _ a 0 hc⟩) rfl rfl

theorem refuse {a c} (h : Kept s₀ s) : Kept s₀ (s.refuse a c) := .ite h.wr h.wr

theorem free (h : Kept s₀ s) : Kept s₀ s.free.2 := h.upd

theorem countFault {src} (h : Kept s₀ s) : Kept s₀ (s.countFault src) := h.wr.count

theorem presentEv {e} (h : Kept s₀ s) : Kept s₀ (s.presentEv e) := .ite h.upd h.countFault.count

theorem present {src unit perm} (h : Kept s₀ s) : Kept s₀ (s.present src unit perm) := h.presentEv

theorem setByte {a x} (h : Kept s₀ s) : Kept s₀ (s.setByte a x) :=
  h.of_canonical (fun ⟨hm, hrest⟩ => ⟨State.setByte_wf s a x hm, hrest⟩) rfl rfl

theorem setFlash {a x} (h : Kept s₀ s) : Kept s₀ (s.setFlash a x) :=
  h.of_canonical (fun ⟨hm, hn, hrest⟩ => ⟨hm, State.setFlash_wf s a x hn, hrest⟩) rfl rfl

theorem unmapped {a} (h : Kept s₀ s) : Kept s₀ (s.unmapped a) := h.present

theorem storeBytes {a bs} (h : Kept s₀ s) : Kept s₀ (s.storeBytes a bs) := by
  induction bs generalizing s a with
  | nil => exact h
  | cons x bs ih => exact ih (.ite h.setByte h)

theorem logDma {a n} (h : Kept s₀ s) : Kept s₀ (s.logDma a n) := by
  unfold State.logDma
  split
  · exact h.unmapped
  · exact h

theorem dmaWrite {a bs} (h : Kept s₀ s) : Kept s₀ (s.dmaWrite a bs) := h.logDma.storeBytes.upd

theorem hostWrite {a bs} (h : Kept s₀ s) : Kept s₀ (s.hostWrite a bs) := by
  induction bs generalizing s a with
  | nil => exact h
  | cons x bs ih =>
    exact ih (h.of_canonical (fun ⟨hm, hn, hh, hrest⟩ => ⟨hm, hn, swf_sput memDefault _ a x hh, hrest⟩) rfl rfl)

theorem answer {v} (h : Kept s₀ s) : Kept s₀ (s.answer v) := h.upd

theorem busError {v} (h : Kept s₀ s) : Kept s₀ (s.busError v) := h.upd

theorem enterPpr {rank bank row} (h : Kept s₀ s) : Kept s₀ (s.enterPpr rank bank row) := by
  unfold State.enterPpr
  split
  · exact h.wr.present
  · exact h

theorem dramError {u scrub} (h : Kept s₀ s) : Kept s₀ (s.dramError u scrub) :=
  .ite h.count.wr64.present.enterPpr (.ite h.count.wr64 (.ite h.count.wr64.upd.enterPpr h.count.wr64.upd))

/-! ### DispatchOps -/

theorem modThx {t f} (h : Kept s₀ s) : Kept s₀ (s.modThx t f) := h.upd

theorem setThState {t st} (h : Kept s₀ s) : Kept s₀ (s.setThState t st) := h.setFld

theorem syncCore {c} (h : Kept s₀ s) : Kept s₀ (s.syncCore c) := h.wr

theorem modCore {c f} (h : Kept s₀ s) : Kept s₀ (s.modCore c f) := h.upd.syncCore

theorem notify {c} (h : Kept s₀ s) : Kept s₀ (s.notify c) := h.modCore

theorem unlist {t} (h : Kept s₀ s) : Kept s₀ (s.unlist t) := h.upd

theorem syncWaiters {q} (h : Kept s₀ s) : Kept s₀ (s.syncWaiters q) := h.setFld

theorem placeNotify {t} (h : Kept s₀ s) : Kept s₀ (s.placeNotify t) := by
  unfold State.placeNotify
  extract_lets
  refine .ite h.notify ?_
  split
  · exact h.notify
  · split
    · exact .ite h.notify h
    · exact h

theorem place {t} (h : Kept s₀ s) : Kept s₀ (s.place t) := h.unlist.setThState.upd.placeNotify

theorem endWait {t} (h : Kept s₀ s) : Kept s₀ (s.endWait t) := h.unlist.wr.wr.syncWaiters

theorem wake {t res} (h : Kept s₀ s) : Kept s₀ (s.wake t res) := .ite h.endWait.modThx h.endWait.modThx.place

theorem takeEvents {t m consume} (h : Kept s₀ s) : Kept s₀ (s.takeEvents t m consume) := .ite h.modThx.wr h.modThx

theorem setEvents {t m} (h : Kept s₀ s) : Kept s₀ (s.setEvents t m) := .ite h.wr.takeEvents.wake h.wr

theorem setMq {q es} (h : Kept s₀ s) : Kept s₀ (s.setMq q es) := h.upd.setFld.setFld

theorem mqPost {q e} (h : Kept s₀ s) : Kept s₀ (s.mqPost q e).2 := by
  unfold State.mqPost
  split
  · exact h
  · split
    · exact h.modThx.wake
    · split
      · exact h.setMq
      · exact h.count

theorem msiSend {v} (h : Kept s₀ s) : Kept s₀ (s.msiSend v) := .ite h.count (.ite h.wr h.upd)

theorem setCompl {t l} (h : Kept s₀ s) : Kept s₀ (s.setCompl t l) := h.modThx.setFld.setFld

theorem raiseCompletion {v t} (h : Kept s₀ s) : Kept s₀ (s.raiseCompletion v t) := by
  unfold State.raiseCompletion
  extract_lets _ x2
  have hx2 : Kept s₀ x2 := by
    unfold x2
    split
    · exact h.upd.count
    · exact .ite h.setCompl h.upd
  exact hx2.setEvents

theorem raise {v} (h : Kept s₀ s) : Kept s₀ (s.raise v) :=
  .ite h.msiSend (.ite h.count (.ite h.raiseCompletion h.setEvents))

theorem raiseUnit {u i} (h : Kept s₀ s) : Kept s₀ (s.raiseUnit u i) := h.raise

theorem supItem {t reason core} (h : Kept s₀ s) : Kept s₀ (s.supItem t reason core) := .ite h.mqPost h.upd

theorem suspend {t} (h : Kept s₀ s) : Kept s₀ (s.suspend t) := by
  unfold State.suspend
  extract_lets
  split
  · exact h.endWait.setThState.notify
  · exact h.endWait.setThState

theorem abortThread {t} (h : Kept s₀ s) : Kept s₀ (s.abortThread t) := by
  unfold State.abortThread
  refine .ite h ?_
  extract_lets c _ s2
  have h2 : Kept s₀ s2 := by
    unfold s2
    unfold c
    split
    · exact h.suspend.setFld.modCore
    · exact h.suspend.setFld
  exact h2.supItem.raiseUnit

theorem countBusy {c} (h : Kept s₀ s) : Kept s₀ (s.countBusy c) := .ite h.count.modCore h

theorem freshCtr {a} (h : Kept s₀ s) : Kept s₀ (s.freshCtr a) := by
  unfold State.freshCtr
  split
  · exact h.countBusy
  · exact h

theorem setCoreMhz {mhz} (h : Kept s₀ s) : Kept s₀ (s.setCoreMhz mhz) := upd (h.foldl (fun _ _ ht => ht.countBusy))

/-! ### PigeonOps -/

theorem setFifo {n f} (h : Kept s₀ s) : Kept s₀ (s.setFifo n f) := h.upd

theorem syncFifo {n} (h : Kept s₀ s) : Kept s₀ (s.syncFifo n) := h.wr.wr.wr.wr

theorem finishFifo {n f opDone} (h : Kept s₀ s) : Kept s₀ (s.finishFifo n f opDone) :=
  .ite h.setFifo.syncFifo.raise h.setFifo.syncFifo

theorem closeBank {n f} (h : Kept s₀ s) : Kept s₀ (s.closeBank n f).1 := h.dmaWrite.count

theorem appendRec {n f k} (h : Kept s₀ s) : Kept s₀ (s.appendRec n f k).1 := h.count

theorem hwRecord {n items} (h : Kept s₀ s) : Kept s₀ (s.hwRecord n items).2 := by
  unfold State.hwRecord
  extract_lets
  split
  · exact h.count
  · split
    · exact h.dmaWrite.appendRec.finishFifo
    · split
      · exact h.closeBank.dmaWrite.appendRec.finishFifo
      · exact h.count

theorem flushEnds {es} (h : Kept s₀ s) : Kept s₀ (s.flushEnds es) := by
  induction es generalizing s with
  | nil => exact h
  | cons e es ih => exact .ite (ih h.hwRecord) h.upd

theorem stopFifo {n} (h : Kept s₀ s) : Kept s₀ (s.stopFifo n) := h.setFld.setFifo.syncFifo

theorem abortFifo {n} (h : Kept s₀ s) : Kept s₀ (s.abortFifo n) := h.stopFifo.raise

/-! ### Resets -/

theorem wrWords {a count v} (h : Kept s₀ s) : Kept s₀ (s.wrWords a count v) := h.foldl (fun _ _ ht => ht.wr)

theorem showFuses (h : Kept s₀ s) : Kept s₀ s.showFuses := h.setFld.wr.wr.wr.wr.wrWords

theorem showIdentity (h : Kept s₀ s) : Kept s₀ s.showIdentity := by
  unfold State.showIdentity
  split
  · exact h
  · exact h.wrWords.wrWords.wrWords

theorem afterReset (h : Kept s₀ s) : Kept s₀ s.afterReset := h.setFld.setFld.setFld.showFuses.showIdentity.setFld

theorem reportCause {cause src} (h : Kept s₀ s) : Kept s₀ (s.reportCause cause src) := h.wr

theorem flashStore {a bs} (h : Kept s₀ s) : Kept s₀ (s.flashStore a bs) := by
  induction bs generalizing s a with
  | nil => exact h
  | cons x bs ih => exact ih h.setFlash

theorem freeBytes {n} (h : Kept s₀ s) : Kept s₀ (s.freeBytes n).2 := h.upd

theorem cutFlash (h : Kept s₀ s) : Kept s₀ s.cutFlash := by
  unfold State.cutFlash
  split
  · exact .ite h.freeBytes.flashStore h
  · exact h

theorem coldBase (h : Kept s₀ s) : Kept s₀ s.coldBase :=
  wr (h.reset (fun _ => rfl) (fun _ => rfl) rfl rfl (refl s).cutFlash rfl rfl rfl)

theorem keepHold {t} (_h : Kept s₀ s) (h' : Kept s₀ t) : Kept s₀ (s.keepHold t) := .ite h'.upd h'

theorem coldReset {cause} (h : Kept s₀ s) : Kept s₀ (s.coldReset cause) :=
  h.keepHold h.coldBase.afterReset.reportCause

theorem warmReset {cause src} (h : Kept s₀ s) : Kept s₀ (s.warmReset cause src) := by
  refine .ite h.coldReset (reportCause (afterReset (setFld (setFld (setFld (setFld (wr (wr ?_))))))))
  exact h.reset (fun c => swf_filter _ _ _ c.1) (fun c => swf_filter _ _ _ c.2.2.2.1) rfl rfl
    (refl s).cutFlash rfl rfl rfl

theorem setStraps {samples} (h : Kept s₀ s) : Kept s₀ (s.setStraps samples) := by
  unfold State.setStraps
  split
  · exact h.wr
  · exact h.wr

/-! ### KeyOps -/

theorem keysSleepEntry (h : Kept s₀ s) : Kept s₀ s.keysSleepEntry := h.upd

theorem keysSleepExit (h : Kept s₀ s) : Kept s₀ s.keysSleepExit.2 := by
  unfold State.keysSleepExit
  split
  · split
    · split
      · exact h.upd
      · exact h.upd
    · exact h.upd
  · exact h.upd

theorem endGrant (h : Kept s₀ s) : Kept s₀ s.endGrant := h.setFld

/-! ### Access -/

theorem whenWorks {n o} (h : Kept s₀ s) (ho : Completes s₀ o) : Completes s₀ (s.whenWorks n o) := .ite ho (.next h)

theorem whenUp {o} (h : Kept s₀ s) (ho : Completes s₀ o) : Completes s₀ (s.whenUp o) := .ite (.next h) ho

theorem setActive {br on} (h : Kept s₀ s) : Kept s₀ (s.setActive br on) := h.wr

theorem noteBusy {br} (h : Kept s₀ s) : Kept s₀ (s.noteBusy br) := h.upd

theorem touch {a} (h : Kept s₀ s) : Kept s₀ (s.touch a) := by
  unfold State.touch
  split
  · exact .ite (.ite h.noteBusy h.noteBusy.setActive) h
  · exact h

theorem bounce {m write v} (h : Kept s₀ s) : Kept s₀ (s.bounce m write v) := by
  unfold State.bounce
  extract_lets
  split
  · exact h.busError
  · exact h.answer
  · exact h.answer

theorem gatedAccess {m write b} (h : Kept s₀ s) : Kept s₀ (s.gatedAccess m write b) := .ite h h.bounce.present

theorem closedAccess {write} (h : Kept s₀ s) : Kept s₀ (s.closedAccess write) := h.bounce.present

theorem unmappedAccess {m write a} (h : Kept s₀ s) : Kept s₀ (s.unmappedAccess m write a) := h.bounce.unmapped

theorem badSizeAccess {m write a} (h : Kept s₀ s) : Kept s₀ (s.badSizeAccess m write a) :=
  .ite h.bounce.refuse h.bounce

theorem holdAccess {a c} (h : Kept s₀ s) : Kept s₀ (s.holdAccess a c) := h.upd

theorem stopped {m write a size c} (h : Kept s₀ s) : KeptOpt s₀ (s.stopped m write a size c) :=
  .ite (.some h) (.ite (.some h.unmappedAccess) (.ite (.some h)
    (.ite (.some h.gatedAccess) (.ite (.some h.badSizeAccess) (.ite (.some h.holdAccess) .none)))))

theorem ownAccess {write a c f} (h : Kept s₀ s) (hf : ∀ t, Kept s₀ t → Kept s₀ (f t)) :
    Kept s₀ (s.ownAccess write a c f) := .ite h.gatedAccess (.ite h.holdAccess (hf _ h.touch))

theorem ownWrite {a c f} (h : Kept s₀ s) (hf : ∀ t, Kept s₀ t → Kept s₀ (f t)) : Kept s₀ (s.ownWrite a c f) :=
  h.ownAccess hf

theorem heldNext {c t} (h : Kept s₀ s) (e : s.heldNext = some (c, t)) : Kept s₀ t := by
  obtain ⟨x, -, hx⟩ := Option.map_eq_some_iff.mp e
  cases hx
  exact h

/-! ### TimeOps -/

theorem modDom {d f} (h : Kept s₀ s) : Kept s₀ (s.modDom d f) := h.upd

theorem timeTick (h : Kept s₀ s) : Kept s₀ s.timeTick := h.upd

theorem startWatchdog {d} (h : Kept s₀ s) : Kept s₀ (s.startWatchdog d) := h.modDom

theorem setTrgTime {t v} (h : Kept s₀ s) : Kept s₀ (s.setTrgTime t v) := .ite h.wr64 h.wr64.wr

theorem moveTriggers {delta} (h : Kept s₀ s) : Kept s₀ (s.moveTriggers delta) :=
  h.foldl (fun _ _ ht => .ite ht.setTrgTime ht)

theorem armTrigger {t domain target time period} (h : Kept s₀ s) : Kept s₀ (s.armTrigger t domain target time period) :=
  h.wr.setTrgTime.wr

theorem trgFired {t} (h : Kept s₀ s) : Kept s₀ (s.trgFired t) := by
  unfold State.trgFired
  extract_lets _ _ _ _ _ _ _ _ s4
  have h4 : Kept s₀ s4 := upd (setFld (setFld (.ite h.setFld h)))
  exact .ite h4.setFld h4.setTrgTime

theorem forceTriggers {t} (h : Kept s₀ s) (_h' : Kept s₀ t) : Kept s₀ (s.forceTriggers t) := h.upd

theorem stepTick (h : Kept s₀ s) : Kept s₀ s.stepTick := .ite h.timeTick (h.timeTick.forceTriggers h.upd.timeTick)

theorem wrList {f ws} (h : Kept s₀ s) : Kept s₀ (s.wrList f ws) := h.foldl (fun _ _ ht => ht.wr)

theorem tsPush {q words} (h : Kept s₀ s) : Kept s₀ (s.tsPush q words).2 := by
  unfold State.tsPush
  split
  · exact h.count
  · exact h.wrList.setFld

theorem tsEth {p tsId start} (h : Kept s₀ s) : Kept s₀ (s.tsEth p tsId start).2 := h.tsPush

theorem captureNow {c} (h : Kept s₀ s) : Kept s₀ (s.captureNow c) := wr (upd (setFld (.ite h.setFld h)))

theorem captureSource {source arg} (h : Kept s₀ s) : Kept s₀ (s.captureSource source arg) :=
  h.foldl (fun _ _ ht => .ite ht.captureNow ht)

end Kept

end Sys2Proof.Machine
end

section
/-! SUPPORT. What every command keeps, said of each function of the model in the order of its files.
Power, clocks, boot, flash and keys. -/

namespace Sys2Proof.Machine

variable {s₀ s : State}

namespace Kept

/-! ### Power -/

theorem execPowerOn {straps} (h : Kept s₀ s) : Completes s₀ (execPowerOn straps s) :=
  .next h.coldBase.setStraps.afterReset.reportCause

theorem execPin {straps} (h : Kept s₀ s) : Completes s₀ (execPin straps s) :=
  .ite (.next h) (.next (h.keepHold h.coldBase.setStraps.afterReset.reportCause))

theorem execPowerFail (h : Kept s₀ s) : Completes s₀ (execPowerFail s) := by
  unfold Machine.execPowerFail
  split
  · exact .next h
  · exact .next h
  · exact .next h
  · exact .next h.coldReset

theorem execPmicPgTimeout (h : Kept s₀ s) : Completes s₀ (execPmicPgTimeout s) := .ite (.next h.coldReset) (.next h)

theorem execVinAoLoss (h : Kept s₀ s) : Completes s₀ (execVinAoLoss s) := .next h.coldBase.upd

theorem execBrownout (h : Kept s₀ s) : Completes s₀ (execBrownout s) := .ite (.next h.coldReset) (.next h)

theorem refreshAo (h : Kept s₀ s) : Kept s₀ s.refreshAo := by
  unfold State.refreshAo
  split
  · exact h
  · exact h
  · exact h.setFld.setFld

theorem setTemp {t} (h : Kept s₀ s) : Kept s₀ (s.setTemp t) := h.upd.refreshAo

theorem execThermalWarn {sensor temp} (h : Kept s₀ s) : Completes s₀ (execThermalWarn sensor temp s) :=
  .ite (.next h.setTemp) (.ite (.next h.setTemp.upd.present) (.ite (.next h.setTemp.upd) (.next h.setTemp)))

theorem execThermal {temp} (h : Kept s₀ s) : Completes s₀ (execThermal temp s) :=
  .ite (.next h.setTemp.coldReset.upd) (.next h.setTemp)

theorem execThermalResetRelease {temp} (h : Kept s₀ s) : Completes s₀ (execThermalResetRelease temp s) :=
  .ite (.next h.upd) (.next h.setTemp)

theorem startRail {rail} (h : Kept s₀ s) : Kept s₀ (s.startRail rail) := .ite h h.upd.setFld

theorem startAvs (h : Kept s₀ s) : Kept s₀ s.startAvs := h.startRail.startRail

theorem raiseCores (h : Kept s₀ s) : Kept s₀ s.raiseCores := .ite h h.setCoreMhz

theorem newTargets {core cpu} (h : Kept s₀ s) : Kept s₀ (s.newTargets core cpu) :=
  h.setFld.setFld.upd.startAvs.raiseCores

theorem execAvsRecompute {temp core cpu} (h : Kept s₀ s) : Completes s₀ (execAvsRecompute temp core cpu s) :=
  .ite (.next h.setTemp.upd.newTargets) (.next h.setTemp)

theorem execAvsWriteDone {ack} (h : Kept s₀ s) : Completes s₀ (execAvsWriteDone ack s) := by
  unfold Machine.execAvsWriteDone
  split
  · exact .next h
  · exact .ite (.next h) (.ite (.next h.upd.setFld.setFld.startAvs)
      (.ite (.next h.upd) (.next h.upd.setFld.setFld.present)))

theorem execAvsRetry (h : Kept s₀ s) : Completes s₀ (execAvsRetry s) := .ite (.next h.upd) (.next h)

theorem execAvsSettle (h : Kept s₀ s) : Completes s₀ (execAvsSettle s) := .next h.upd.raiseCores

theorem last {code} (h : Kept s₀ s) : Kept s₀ (s.last code) := h.setFld

theorem transition {m} (h : Kept s₀ s) : Kept s₀ (s.transition m) := h.upd.setFld

theorem arrive {cur} (h : Kept s₀ s) : Kept s₀ (s.arrive cur) := h.upd.setFld.setFld

theorem enter {cur} (h : Kept s₀ s) : Kept s₀ (s.enter cur) := h.upd.setFld

theorem markEntry (h : Kept s₀ s) : Kept s₀ s.markEntry := h.upd

theorem execStateReqRun (h : Kept s₀ s) : Completes s₀ (execStateReqRun s) :=
  .ite (.next h) (.ite (.next h.last) (.ite (.next h.transition) (.next h.enter.last)))

theorem execStateReqTrim (h : Kept s₀ s) : Completes s₀ (execStateReqTrim s) :=
  .ite (.next h) (.ite (.next h.last) (.ite (.next h.last) (.next h.enter.last)))

theorem syncCores (h : Kept s₀ s) : Kept s₀ s.syncCores := h.foldl (fun _ _ ht => ht.syncCore)

theorem execStateReqWatch (h : Kept s₀ s) : Completes s₀ (execStateReqWatch s) :=
  .ite (.next h) (.ite (.next h.last) (.ite (.next h.last) (.ite (.next h.last)
    (.ite (.next h.last) (.next h.transition.syncCores)))))

theorem darken {r} (h : Kept s₀ s) : Kept s₀ (s.darken r) := h.wr.setFld.upd

theorem watchUnlink {p} (h : Kept s₀ s) : Kept s₀ (s.watchUnlink p) := .ite h h.setFld.setFld

theorem execWatchEntryDone (h : Kept s₀ s) : Completes s₀ (execWatchEntryDone s) :=
  .ite (.next (syncCores (startAvs (markEntry (setCoreMhz (setFld
    (setFld (foldl (h.arrive.last.foldl (fun _ _ ht => .ite ht.darken ht)) (fun _ _ ht => ht.watchUnlink)))))))))
    (.next h)

theorem placeAll (h : Kept s₀ s) : Kept s₀ s.placeAll := h.foldl (fun _ _ ht => ht.place)

theorem execWatchExitDone (h : Kept s₀ s) : Completes s₀ (execWatchExitDone s) := by
  unfold Machine.execWatchExitDone
  split
  · exact .next (syncCores (placeAll (raiseCores (foldl (upd (setFld (.ite h.arrive.last h.arrive)))
      (fun _ _ ht => ht.hwRecord)))))
  · exact .next h

theorem execStateReqSleep {temp} (h : Kept s₀ s) : Completes s₀ (execStateReqSleep temp s) :=
  .ite (.next h) (.ite (.next h.last) (.ite (.next h.last) (.ite (.next h.last)
    (.ite (.next h.setTemp.last) (.ite (.next h.setTemp.last) (.next h.setTemp.transition.endGrant))))))

theorem execSleepEntryDone (h : Kept s₀ s) : Completes s₀ (execSleepEntryDone s) :=
  .ite (.next (h.keysSleepEntry.foldl fun _ _ ht => ht.wr64).memFilter.upd.setFld.setFld.setFld.last.markEntry)
    (.next h)

theorem execAbortedWake (h : Kept s₀ s) : Completes s₀ (execAbortedWake s) := .ite (.next h.upd.arrive.last) (.next h)

theorem recordWake {src pat} (h : Kept s₀ s) : Kept s₀ (s.recordWake src pat) :=
  .ite h.setFld.setFld.setFld.upd h.setFld

theorem wakeEvent {src inSleep pat} (h : Kept s₀ s) : Kept s₀ (s.wakeEvent src inSleep pat) := by
  unfold State.wakeEvent
  refine .ite ?_ h
  split
  · exact .ite h.recordWake.transition h
  · exact h.recordWake
  · exact .ite h.recordWake.upd h
  · exact .ite h.recordWake.upd h
  · exact .ite h.recordWake h
  · exact h

theorem execWakeLinkEnergy {p} (h : Kept s₀ s) : Completes s₀ (execWakeLinkEnergy p s) :=
  .ite (.next h.wakeEvent) (.next h)

theorem execWakePatternMatch {p frame} (h : Kept s₀ s) : Completes s₀ (execWakePatternMatch p frame s) := by
  unfold Machine.execWakePatternMatch
  refine .ite ?_ (.next h)
  split
  · exact .next h.wakeEvent
  · exact .next h

theorem execWakeWlanRequest {frame} (h : Kept s₀ s) : Completes s₀ (execWakeWlanRequest frame s) :=
  .ite (.next h.upd.wakeEvent) (.next h)

theorem execWakeNguordFrame {frame} (h : Kept s₀ s) : Completes s₀ (execWakeNguordFrame frame s) :=
  .ite (.next h.upd.wakeEvent) (.next h)

theorem execWakePcie (h : Kept s₀ s) : Completes s₀ (execWakePcie s) := .ite (.next h) (.next h.wakeEvent)

theorem execWakeAlarm {postmark} (h : Kept s₀ s) : Completes s₀ (execWakeAlarm postmark s) :=
  .ite (.next (.ite h.wakeEvent h)) (.ite (.next h.wakeEvent) (.next h))

theorem execWakeIn {rising} (h : Kept s₀ s) : Completes s₀ (execWakeIn rising s) := .ite (.next h.wakeEvent) (.next h)

theorem execSleepExit {changed} (h : Kept s₀ s) : Completes s₀ (execSleepExit changed s) := by
  unfold Machine.execSleepExit
  refine .ite ?_ (.next h)
  extract_lets
  split
  next _ _ e =>
    have h1 := (keysSleepExit (setFld (setFld (setFld (h.foldl (fun _ _ ht => .ite ht.setByte ht)))))).of_snd e
    exact .next (foldl (.ite h1.warmReset.setFld.setFld h1.warmReset) (fun _ _ ht => ht.present))

/-! ### Work -/

theorem noteWork (h : Kept s₀ s) : Kept s₀ s.noteWork := h.foldl (fun _ _ ht => .ite ht.noteBusy ht)

theorem ppsFall (h : Kept s₀ s) : Kept s₀ s.ppsFall := .ite h.upd h

theorem clockTick (h : Kept s₀ s) : Kept s₀ s.clockTick := .ite h (.ite h.upd h.stepTick.upd.noteWork.ppsFall)

/-! ### Clocks -/

theorem execBranchWake {b} (h : Kept s₀ s) : Completes s₀ (execBranchWake b s) :=
  .ite (.next h.noteBusy.setActive) (.next h)

theorem execBranchIdleStop {b} (h : Kept s₀ s) : Completes s₀ (execBranchIdleStop b s) :=
  .ite (.next h.setActive) (.next h)

theorem applyGate {v} (h : Kept s₀ s) : Kept s₀ (s.applyGate v) :=
  h.wr.foldl (fun _ _ ht => .ite ht.setActive (.ite ht.setActive ht))

theorem execGateWrite {value} (h : Kept s₀ s) : Completes s₀ (execGateWrite value s) :=
  .ite (.next h) (.ite (.next h.applyGate) (.next h.refuse))

theorem execPllCtrlWrite {value} (h : Kept s₀ s) : Completes s₀ (execPllCtrlWrite value s) :=
  .ite (.next h) (.ite (.next h.setFld.setFld) (.next h.refuse))

theorem execPllLock {p} (h : Kept s₀ s) : Completes s₀ (execPllLock p s) :=
  .ite (.next (h.setFld.foldl (fun _ _ ht => .ite ht.setActive ht))) (.next h)

theorem execPllUnlock {p} (h : Kept s₀ s) : Completes s₀ (execPllUnlock p s) :=
  .ite (.next (present (h.setFld.setFld.foldl (fun _ _ ht => .ite ht.setActive ht)))) (.next h)

theorem execClockLoss {ao} (h : Kept s₀ s) : Completes s₀ (execClockLoss ao s) :=
  .ite (.next h) (.next h.setFld.present)

/-! ### Boot -/

theorem bootFail {code} (h : Kept s₀ s) : Kept s₀ (s.bootFail code) := h.upd.setFld.setFld.setFld.warmReset

theorem settleRecords {n} (h : Kept s₀ s) : Kept s₀ (s.settleRecords n) := by
  induction n generalizing s with
  | zero => exact h
  | succ n ih => exact .ite h (.ite h.bootFail (.ite h.bootFail (ih h.upd)))

theorem nextRecord (h : Kept s₀ s) : Kept s₀ s.nextRecord := h.upd.settleRecords

theorem record {t f} (h : Kept s₀ s) (hf : ∀ d x, KeptExc s₀ (f d x)) : Kept s₀ (s.record t f) := by
  unfold State.record
  refine .ite (.ite h.bootFail (.ite h.bootFail ?_)) h
  split
  · exact h.bootFail
  · next t e => exact (hf _ _ t e).nextRecord

theorem trainLink (h : Kept s₀ s) : Kept s₀ s.trainLink := .ite h h.wr.setActive.upd

theorem romHalt (h : Kept s₀ s) : Kept s₀ s.romHalt := h.setFld.upd.trainLink

theorem startRecords {k resume} (h : Kept s₀ s) : Kept s₀ (s.startRecords k resume) :=
  h.setFld.setFld.setFld.wr.wrWords.upd.settleRecords

theorem release (h : Kept s₀ s) : Kept s₀ s.release := h.upd

theorem bootRom (h : Kept s₀ s) : Completes s₀ s.bootRom := by
  unfold State.bootRom
  refine .ite (.next h.setFld.romHalt) (.ite (.next h.startRecords) ?_)
  split
  · exact .next h.setFld.romHalt
  · extract_lets
    split
    · exact .next h.setFld.bootFail
    · exact .ite (.next h.setFld.bootFail) (.ite (.next h.setFld.bootFail) (.next h.setFld.startRecords))

theorem execBoot (h : Kept s₀ s) : Completes s₀ (execBoot s) := .ite (.next h) h.release.bootRom

theorem setRwl {f v} (h : Kept s₀ s) : Kept s₀ (s.setRwl f v) := .ite h h.setFld

theorem execPmic (h : Kept s₀ s) : Completes s₀ (execPmic s) :=
  .next (h.record (fun _ _ => .ite .error (.ok h.setRwl.setRwl.setRwl.setFld)))

theorem execNvmTiming (h : Kept s₀ s) : Completes s₀ (execNvmTiming s) :=
  .next (h.record (fun _ _ => .ite (.ok h.setRwl.setRwl.setRwl) .error))

theorem execClocks (h : Kept s₀ s) : Completes s₀ (execClocks s) :=
  .next (h.record (fun _ _ => .ite .error (.ite (.ok h.setFld.setFld.applyGate) .error)))

theorem execHostpRecord (h : Kept s₀ s) : Completes s₀ (execHostpRecord s) :=
  .next (h.record (fun _ _ => .ite (.ok h.setFld) (.ite (.ok (upd
    (setRwl (setRwl (setRwl (setRwl (setRwl (setRwl (setRwl (setRwl (.ite h h.setRwl))))))))))) .error)))

theorem execHostpLate {perst} (h : Kept s₀ s) : Completes s₀ (execHostpLate perst s) :=
  .ite (.next h) (.next h.trainLink)

theorem repairOne {k} (h : Kept s₀ s) : Kept s₀ (s.repairOne k) := .ite (.ite h.present h.setFld.wr.count) h

theorem repair (h : Kept s₀ s) : Kept s₀ s.repair := h.foldl (fun _ _ ht => ht.repairOne)

theorem dramUp (h : Kept s₀ s) : Kept s₀ s.dramUp := by
  unfold State.dramUp
  extract_lets _ s2
  have h2 : Kept s₀ s2 := h.setFld.setFld.setFld.setFld.setFld
  exact .ite h2.setActive h2

theorem execDramRecord {trains} (h : Kept s₀ s) : Completes s₀ (execDramRecord trains s) := by
  unfold Machine.execDramRecord
  refine .next (record h (fun _ _ => ?_))
  extract_lets _ _ _ _ s3
  have h3 : Kept s₀ s3 := h.setRwl.setRwl.setRwl.setRwl.setRwl.setFld.upd.dramUp.setFld
  exact .ite (.ite (.ok (.ite h3.repair h3)) .error) .error

theorem applyLoad {a resumeFlag b} (h : Kept s₀ s) : KeptExc s₀ (s.applyLoad a resumeFlag b) :=
  .ite .error (.ite (.ok h) (.ok h.storeBytes))

theorem execLoad (h : Kept s₀ s) : Completes s₀ (execLoad s) := .next (h.record (fun _ _ => h.applyLoad))

theorem execLockRecord (h : Kept s₀ s) : Completes s₀ (execLockRecord s) :=
  .next (h.record (fun _ _ => .ite .error (.ok h.setFld)))

/-- Counter 0 only rises. -/
theorem setSvn {v} (h : Kept s₀ s) (hv : s.fuses.rb0 ≤ v) : Kept s₀ (s.setSvn v) :=
  setFld (h.blow ⟨hv, le_rfl, le_rfl, le_rfl, le_rfl, id, fun _ => rfl, fun hb => ⟨hb, rfl⟩⟩)

theorem advanceSvn {run} (h : Kept s₀ s) : Kept s₀ (s.advanceSvn run) := by
  unfold State.advanceSvn
  extract_lets v upTo
  split
  · next hadv =>
    have hup (n : Nat) : s.fuses.rb0 ≤ upTo n := le_min hadv.2.le (Nat.le_add_right _ n)
    split
    · exact (h.setSvn hadv.2.le).setFld.setFld
    · exact (h.setSvn (hup _)).setFld.setFld
    · exact (h.setSvn (hup _)).setFld
  · exact h

theorem confirm {run} (h : Kept s₀ s) : Kept s₀ (s.confirm run) := h.setFld.setFld.upd.advanceSvn

theorem sendReady (h : Kept s₀ s) : Kept s₀ s.sendReady := h.upd

theorem firstThread {prio} (h : Kept s₀ s) : Kept s₀ (s.firstThread prio) := h.setThState.setFld.setFld.setFld.modCore

theorem execEntry {run} (h : Kept s₀ s) : Completes s₀ (execEntry run s) := by
  unfold Machine.execEntry
  extract_lets _ _ _ _ _ s3
  have h3 : Kept s₀ s3 := h.setFld.setFld.wr.upd.firstThread
  exact .ite (.ite (.next h.bootFail) (.ite (.next h.bootFail)
    (.ite (.next h.bootFail) (.next (sendReady (.ite h3.confirm h3)))))) (.next h)

theorem execBootConfirm {value run} (h : Kept s₀ s) : Completes s₀ (execBootConfirm value run s) :=
  .ite (.next h.confirm) (.next h)

theorem execBootTimeout (h : Kept s₀ s) : Completes s₀ (execBootTimeout s) := by
  unfold Machine.execBootTimeout
  split
  · exact .ite (.next h.setFld.warmReset) (.next h)
  · exact .next h

theorem execSoftware {value} (h : Kept s₀ s) : Completes s₀ (execSoftware value s) :=
  .ite (.next h) (.ite (.next h.refuse) (.ite (.next h.warmReset) (.next h)))

theorem execHost (h : Kept s₀ s) : Completes s₀ (execHost s) := .ite (.next h.warmReset) (.next h)

theorem execPerstHostpReset (h : Kept s₀ s) : Completes s₀ (execPerstHostpReset s) :=
  .ite (.next h.regsCtrsFilter.upd) (.next h)

theorem execDebugReset (h : Kept s₀ s) : Completes s₀ (execDebugReset s) := .ite (.next h.warmReset) (.next h)

theorem receiveBar2 {x} (h : Kept s₀ s) : Kept s₀ (s.receiveBar2 x) := h.upd

theorem execBar2WinWrite {value received} (h : Kept s₀ s) : Completes s₀ (execBar2WinWrite value received s) := by
  unfold Machine.execBar2WinWrite
  extract_lets s
  have hs : Kept s₀ s := h.foldl (fun _ _ ht => ht.receiveBar2)
  exact .ite (.next h) (.ite (.next hs.setFld) (.next hs.refuse))

/-- One more bit of a counter. -/
theorem onlyBlown_bump (f : Fuses) (c : Nat) : f.onlyBlown (f.bump c) := by
  unfold Fuses.bump
  split
  · exact ⟨le_rfl, Nat.le_succ _, le_rfl, le_rfl, le_rfl, id, fun _ => rfl, fun hb => ⟨hb, rfl⟩⟩
  · split
    · exact ⟨le_rfl, le_rfl, Nat.le_succ _, le_rfl, le_rfl, id, fun _ => rfl, fun hb => ⟨hb, rfl⟩⟩
    · exact ⟨le_rfl, le_rfl, le_rfl, Nat.le_succ _, le_rfl, id, fun _ => rfl, fun hb => ⟨hb, rfl⟩⟩

theorem execRbAdv {value vpp} (h : Kept s₀ s) : Completes s₀ (execRbAdv value vpp s) :=
  .ite (.next h) (.ite (.next h.refuse) (.ite (.next h.setFld) (.next (h.blow (onlyBlown_bump _ _)).wr)))

/-! ### Nvm -/

theorem nvmStart {code} (h : Kept s₀ s) : Kept s₀ (s.nvmStart code) := .ite h (.ite h.refuse h.upd.setFld)

theorem execNvmRead (h : Kept s₀ s) : Completes s₀ (execNvmRead s) := .next h.nvmStart

theorem execNvmProgram (h : Kept s₀ s) : Completes s₀ (execNvmProgram s) := .next h.nvmStart

theorem execNvmErase4k (h : Kept s₀ s) : Completes s₀ (execNvmErase4k s) := .next h.nvmStart

theorem execNvmErase64k (h : Kept s₀ s) : Completes s₀ (execNvmErase64k s) := .next h.nvmStart

theorem nvmEffect {o} (h : Kept s₀ s) : Kept s₀ (s.nvmEffect o) := .ite h.dmaWrite (.ite h.flashStore h.flashStore)

theorem nvmEnd {result} (h : Kept s₀ s) : Kept s₀ (s.nvmEnd result) :=
  .ite h.upd.setFld.setFld.warmReset h.upd.setFld.setFld.raiseUnit

theorem execNvmOpDone (h : Kept s₀ s) : Completes s₀ (execNvmOpDone s) := by
  unfold Machine.execNvmOpDone
  split
  · exact .ite (.next h) (.next (nvmEnd (.ite h.nvmEffect h)))
  · exact .next h

theorem execNvmTimeout (h : Kept s₀ s) : Completes s₀ (execNvmTimeout s) := by
  unfold Machine.execNvmTimeout
  split
  · exact .ite (.next h) (.next h.freeBytes.flashStore.nvmEnd)
  · exact .next h

theorem reply {r} (h : Kept s₀ s) : Kept s₀ (s.reply r) := h.upd

theorem message {type seq length items} {t} (h : Kept s₀ s) (h' : Kept s₀ t) : Kept s₀
    (s.message type seq length items t) :=
  .ite h (.ite h.reply h')

theorem execImageOpen {seq length items} (h : Kept s₀ s) : Completes s₀ (execImageOpen seq length items s) :=
  .next (h.message h.upd.reply)

theorem execImageWrite {seq length items} (h : Kept s₀ s) : Completes s₀ (execImageWrite seq length items s) := by
  unfold Machine.execImageWrite
  extract_lets
  refine .next (message h ?_)
  split
  · exact h.reply
  · exact .ite h.reply (.ite h.reply h.flashStore.reply)

theorem execImageCommit {seq length items} (h : Kept s₀ s) : Completes s₀ (execImageCommit seq length items s) := by
  unfold Machine.execImageCommit
  extract_lets
  refine .next (message h ?_)
  split
  · exact h.reply
  · extract_lets
    split
    · exact h.reply
    · exact h.upd.setFld.reply

theorem execResetMsg {seq length items} (h : Kept s₀ s) : Completes s₀ (execResetMsg seq length items s) := by
  unfold Machine.execResetMsg
  extract_lets
  refine .next (message h ?_)
  split
  · exact .ite h.reply.upd (.ite h.reply.warmReset h.reply.upd.warmReset)
  · exact h.reply.warmReset

/-! ### Keys -/

theorem setKeySlot {n k} (h : Kept s₀ s) : Kept s₀ (s.setKeySlot n k) := h.upd

theorem setTxPn {n pn} (h : Kept s₀ s) : Kept s₀ (s.setTxPn n pn) := by
  unfold State.setTxPn
  extract_lets _ _ _ _ s2
  have h2 : Kept s₀ s2 := .ite h.setKeySlot.present h.setKeySlot
  exact .ite h2.present h2

theorem keyResult {r} (h : Kept s₀ s) : Kept s₀ (s.keyResult r) := h.setFld

theorem landChange {c} (h : Kept s₀ s) : Kept s₀ (s.landChange c) := h.setKeySlot.count.upd.setFld.keyResult

theorem hideIdentity (h : Kept s₀ s) : Kept s₀ s.hideIdentity := h.wrWords.wrWords.wrWords

theorem grant {level} (h : Kept s₀ s) : Kept s₀ (s.grant level) := h.upd.setFld.setFld.present

theorem landZeroise (h : Kept s₀ s) : Kept s₀ s.landZeroise :=
  .ite h.upd.count.setFld.keyResult.grant h.upd.count.setFld.keyResult

theorem beginChange {c} (h : Kept s₀ s) : Kept s₀ (s.beginChange c) := h.setKeySlot.upd.setFld.keyResult

theorem keyRefuse (h : Kept s₀ s) : Kept s₀ s.keyRefuse := .ite h.refuse h.refuse.keyResult

theorem execKeyWrite {slot} (h : Kept s₀ s) : Completes s₀ (execKeyWrite slot s) :=
  .next (h.ownWrite (fun _ ht => .ite ht.keyRefuse (.ite ht.refuse
    (.ite ht.keyRefuse (.ite ht.keyResult ht.beginChange.wrWords)))))

theorem execKeyErase {slot} (h : Kept s₀ s) : Completes s₀ (execKeyErase slot s) :=
  .next (h.ownWrite (fun _ ht => .ite ht.keyRefuse ht.beginChange))

theorem askZeroise (h : Kept s₀ s) : Kept s₀ s.askZeroise := h.upd.setFld.keyResult

theorem execZeroise (h : Kept s₀ s) : Completes s₀ (execZeroise s) :=
  .next (h.ownWrite (fun _ ht => .ite ht.keyRefuse ht.askZeroise))

theorem execReadState {slot} (h : Kept s₀ s) : Completes s₀ (execReadState slot s) :=
  .next (h.ownWrite (fun _ ht => .ite ht.keyRefuse ht.wr.wr64.keyResult))

theorem keyTx {n useBit suits} (h : Kept s₀ s) : Kept s₀ (s.keyTx n useBit suits).2 := by
  unfold State.keyTx
  split
  · exact h
  · extract_lets
    split
    · exact h.count
    · exact h.setTxPn

theorem setRxPn {n t pn} (h : Kept s₀ s) : Kept s₀ (s.setRxPn n t pn) := h.setKeySlot

theorem keyReady {n} (h : Kept s₀ s) : Kept s₀ (s.keyReady n) := by
  unfold State.keyReady
  refine .ite ?_ h
  extract_lets _ s2
  have h2 : Kept s₀ s2 := by
    unfold s2
    split
    · exact .ite h.count.landChange h.count
    · exact h.count
  exact .ite h2.landZeroise h2

end Kept

end Sys2Proof.Machine
end

section
/-! SUPPORT. What every command keeps, said of each function of the model in the order of its files.
The switch and its ports, the host port and DRAM. -/

namespace Sys2Proof.Machine

variable {s₀ s : State}

namespace Kept

/-! ### Sort -/

theorem modSort {f} (h : Kept s₀ s) : Kept s₀ (s.modSort f) := h.upd

theorem arrivePkt {p} (h : Kept s₀ s) : Kept s₀ (s.arrivePkt p) := h.modSort

theorem countIf {b c} (h : Kept s₀ s) : Kept s₀ (s.countIf b c) := .ite h.count h

theorem execLaneEnter {source} (h : Kept s₀ s) : Completes s₀ (execLaneEnter source s) := by
  unfold Machine.execLaneEnter
  refine whenWorks h ?_
  split
  · exact .next h
  · exact .ite (.next h.modSort.modSort) (.ite (.next h) (.next h.modSort.modSort.countIf))

theorem syncSwap (h : Kept s₀ s) : Kept s₀ s.syncSwap := .ite h.setFld h

theorem enterPipe {p} (h : Kept s₀ s) : Kept s₀ (s.enterPipe p) := h.modSort.count.syncSwap

theorem execPassStart (h : Kept s₀ s) : Completes s₀ (execPassStart s) := by
  unfold Machine.execPassStart
  refine .ite ?_ (.next h)
  split
  · exact .next h.modSort.enterPipe
  · exact .next h.modSort.enterPipe
  · exact .next h.modSort.enterPipe
  · exact .next h

theorem setCam {i e} (h : Kept s₀ s) : Kept s₀ (s.setCam i e) := h.modSort

theorem recirc {p} (h : Kept s₀ s) : Kept s₀ (s.recirc p) := by
  unfold State.recirc
  split
  · exact .ite h.modSort h.count
  · exact h.count

theorem forwardPkt {p} (h : Kept s₀ s) : Kept s₀ (s.forwardPkt p) := by
  unfold State.forwardPkt
  split
  · exact h.upd
  · exact .ite h.upd h.upd
  · exact h.count
  · exact h.recirc

theorem nodeUpsets {b read ups} (h : Kept s₀ s) : Kept s₀ (s.nodeUpsets b read ups) :=
  h.foldl (fun _ _ ht => .ite ht (.ite ht.present ht.count))

theorem countRule {a len} (h : Kept s₀ s) : Kept s₀ (s.countRule a len) := .ite h.count.count h

theorem execPassEnd {upsets rows} (h : Kept s₀ s) : Completes s₀ (execPassEnd upsets rows s) := by
  unfold Machine.execPassEnd
  refine whenWorks h ?_
  split
  · exact .next h
  · extract_lets
    split
    · exact .ite (.next h) (.next
        h.modSort.nodeUpsets.modSort.countIf.countIf.countIf.countIf.countIf.countRule.forwardPkt.syncSwap)

theorem camResult {r} (h : Kept s₀ s) : Kept s₀ (s.camResult r) := h.setFld

theorem camCmd {c f} (h : Kept s₀ s) (hf : ∀ t, Kept s₀ t → Kept s₀ (f t)) : Kept s₀ (s.camCmd c f) :=
  h.ownWrite fun _ ht => .ite ht.refuse (hf _ ht).setFld

theorem camChange {i e legal} (h : Kept s₀ s) : Kept s₀ (s.camChange i e legal) :=
  .ite h.camResult (.ite h.camResult h.setCam.camResult)

theorem execCamWrite {index} (h : Kept s₀ s) : Completes s₀ (execCamWrite index s) :=
  .next (h.camCmd (fun _ ht => ht.camChange))

theorem execCamRead {index} (h : Kept s₀ s) : Completes s₀ (execCamRead index s) :=
  .next (h.camCmd (fun _ ht => ht.wrList.camResult))

theorem execCamClear {index} (h : Kept s₀ s) : Completes s₀ (execCamClear index s) :=
  .next (h.camCmd (fun _ ht => ht.camChange))

theorem execSetBanks {index} (h : Kept s₀ s) : Completes s₀ (execSetBanks index s) :=
  .next (h.camCmd (fun _ ht => ht.camChange))

theorem execSwap (h : Kept s₀ s) : Completes s₀ (execSwap s) :=
  .next (h.ownWrite (fun _ ht => .ite ht.refuse ht.setFld.setFld.syncSwap))

theorem execSwapDone (h : Kept s₀ s) : Completes s₀ (execSwapDone s) :=
  h.whenWorks (.ite (.next h.setFld.setFld) (.next h))

theorem moveRow {i} (h : Kept s₀ s) : Kept s₀ (s.moveRow i) := h.modSort.setFld

theorem execCamScrub {entry upset} (h : Kept s₀ s) : Completes s₀ (execCamScrub entry upset s) := by
  unfold Machine.execCamScrub
  refine whenWorks h ?_
  split
  · exact .next h
  · exact .next h.count
  · exact .ite (.next h.present) (.next h.moveRow.present)
  · exact .next h.setCam.present

/-! ### Macsec -/

theorem macsecTx {p c b} (h : Kept s₀ s) : Kept s₀ (s.macsecTx p c b).2 := by
  unfold State.macsecTx
  split
  · exact h
  · extract_lets
    split
    · exact h
    · split
      · next _ _ _ e => exact (h.keyReady.keyTx.of_snd e)
      · next _ _ e => exact (h.keyReady.keyTx.of_snd e)

theorem macsecRx {p b} (h : Kept s₀ s) : Kept s₀ (s.macsecRx p b).2 := by
  unfold State.macsecRx
  extract_lets
  split
  · exact h
  · split
    · exact h
    · split
      · exact h
      · split
        · exact h
        · split
          · exact h
          · extract_lets
            split
            · exact h.keyReady
            · split
              · exact h.keyReady.count
              · split
                · exact h.keyReady
                · exact h.keyReady.setRxPn

/-! ### RegOps -/

theorem modReg {f} (h : Kept s₀ s) : Kept s₀ (s.modReg f) := h.upd

theorem modFlow {f g} (h : Kept s₀ s) : Kept s₀ (s.modFlow f g) := h.modReg

theorem recDropped {ws} (h : Kept s₀ s) : Kept s₀ (s.recDropped ws) :=
  .ite h.count.setFld (.ite h.count.setFld.setFld (modFlow (setFld
    (.ite h.count.setFld.setFld h.count.setFld.setFld.setFld))))

theorem setOutq {q} (h : Kept s₀ s) : Kept s₀ (s.setOutq q) := h.modReg.setFld

theorem queueRecord {ws} (h : Kept s₀ s) : Kept s₀ (s.queueRecord ws) := by
  unfold State.queueRecord
  refine .ite h.setOutq (.ite h.recDropped ?_)
  split
  · exact h.setOutq.recDropped
  · exact h.recDropped

theorem emitRecord {ws} (h : Kept s₀ s) : Kept s₀ (s.emitRecord ws) := .ite h.hwRecord h.queueRecord

theorem outcome {flow fnum id deadline expired why} (h : Kept s₀ s) : Kept s₀
    (s.outcome flow fnum id deadline expired why) := by
  unfold State.outcome
  extract_lets s1
  have h1 : Kept s₀ s1 := .ite h.count.count h.count.count
  exact .ite h1.emitRecord h1

theorem syncRecs {f} (h : Kept s₀ s) : Kept s₀ (s.syncRecs f) := h.setFld

theorem endFrame {flow fnum expired why} (h : Kept s₀ s) : Kept s₀ (s.endFrame flow fnum expired why) := by
  unfold State.endFrame
  split
  · exact h
  · exact h.modReg.outcome.syncRecs

theorem modRec {flow fnum g} (h : Kept s₀ s) : Kept s₀ (s.modRec flow fnum g) := h.modReg

theorem copyLost {flow fnum why} (h : Kept s₀ s) : Kept s₀ (s.copyLost flow fnum why) := by
  unfold State.copyLost
  split
  · exact h
  · exact .ite h.modRec h.endFrame

theorem regLost {p why} (h : Kept s₀ s) : Kept s₀ (s.regLost p why) := by
  unfold State.regLost
  split
  · exact h.copyLost
  · exact h

theorem regDone {p} (h : Kept s₀ s) : Kept s₀ (s.regDone p) := by
  unfold State.regDone
  split
  · split
    · exact .ite h.endFrame h
    · exact h
  · exact h

theorem flowLoses {f gone why} (h : Kept s₀ s) : Kept s₀ (s.flowLoses f gone why) :=
  .ite h (.ite h (.ite h.modFlow.setFld.setFld.present (.ite h.modFlow.setFld.setFld.present h.modFlow.setFld)))

theorem flowRevoke {f why} (h : Kept s₀ s) : Kept s₀ (s.flowRevoke f why) := h.flowLoses

/-! ### TablesOps -/

theorem modTables {f} (h : Kept s₀ s) : Kept s₀ (s.modTables f) := h.upd

theorem setL2 {i e} (h : Kept s₀ s) : Kept s₀ (s.setL2 i e) := h.modTables

theorem relocate {m} (h : Kept s₀ s) : Kept s₀ (s.relocate m) := by
  unfold State.relocate
  split
  · exact h.setL2.setL2.count
  · exact h

theorem l2Insert {e} (h : Kept s₀ s) : KeptOpt s₀ (s.l2Insert e) := by
  unfold State.l2Insert
  split
  · exact .some (setL2 (h.foldl (fun _ _ ht => ht.relocate)))
  · exact .none

theorem setSess {i x} (h : Kept s₀ s) : Kept s₀ (s.setSess i x) := h.modTables

theorem setKey {i k} (h : Kept s₀ s) : Kept s₀ (s.setKey i k) := h.modTables

theorem keyInsert {k key} (h : Kept s₀ s) : KeptOpt s₀ (s.keyInsert k key) := by
  unfold State.keyInsert
  extract_lets
  split
  · exact .some (setKey (h.foldl (fun _ _ ht => ht.setKey.setKey.count)))
  · exact .none

theorem keysRemove {i} (h : Kept s₀ s) : Kept s₀ (s.keysRemove i) := h.modTables

theorem sessRemove {i reason} (h : Kept s₀ s) : Kept s₀ (s.sessRemove i reason) := by
  unfold State.sessRemove
  split
  · exact h.keysRemove.setSess.flushEnds
  · exact h

theorem syncFill (h : Kept s₀ s) : Kept s₀ s.syncFill := h.setFld.wr.setFld

/-! ### TmOps -/

theorem modTm {f} (h : Kept s₀ s) : Kept s₀ (s.modTm f) := h.upd

theorem setQ {q l} (h : Kept s₀ s) : Kept s₀ (s.setQ q l) := h.modTm.wr.wr

theorem syncPool (h : Kept s₀ s) : Kept s₀ s.syncPool := h.setFld

theorem releaseBuf {b} (h : Kept s₀ s) : Kept s₀ (s.releaseBuf b) := .ite h h.modTm.syncPool

theorem setPol {p tc tp} (h : Kept s₀ s) : Kept s₀ (s.setPol p tc tp) := h.modTm.wr.wr

theorem police {p colour len} (h : Kept s₀ s) : Kept s₀ (s.police p colour len).2.2 := by
  unfold State.police
  extract_lets w0 pre l tc tp
  split
  · exact h
  · split
    · exact h.count.countIf
    · split
      · exact h.setPol.count
      · exact h.setPol.count

theorem setShTokens {i v} (h : Kept s₀ s) : Kept s₀ (s.setShTokens i v) := h.modTm.wr

theorem chargeShapers {q len} (h : Kept s₀ s) : Kept s₀ (s.chargeShapers q len) :=
  h.foldl (fun _ _ ht => .ite ht.setShTokens ht)

theorem refuseCopy {q p c} (h : Kept s₀ s) : Kept s₀ (s.refuseCopy q p c) := h.count.count.count.countIf.regLost

theorem admitCopy {q p colour egress shared} (h : Kept s₀ s) : Kept s₀ (s.admitCopy q p colour egress shared).2 := by
  unfold State.admitCopy
  extract_lets
  split
  · exact h.refuseCopy
  · split
    · exact h.refuseCopy
    · split
      · exact h.setQ.count
      · split
        · exact h.refuseCopy
        · exact h.modTm.syncPool.countIf.setQ.count

theorem enqueueCopy {p colour egress flood shared} (h : Kept s₀ s) : Kept s₀
    (s.enqueueCopy p colour egress flood shared).2 := by
  unfold State.enqueueCopy
  split
  · exact h.count.countIf.regLost
  · exact h.admitCopy

theorem floodCopies {p colour es shared} (h : Kept s₀ s) : Kept s₀ (s.floodCopies p colour es shared) := by
  induction es generalizing s shared with
  | nil => exact h
  | cons e es ih => exact ih h.count.enqueueCopy

theorem enqueuePkt {p} (h : Kept s₀ s) : Kept s₀ (s.enqueuePkt p) := by
  unfold State.enqueuePkt
  extract_lets colour0
  split
  next colour drop s1 e =>
    have h1 : Kept s₀ s1 := by
      split at e
      · exact (congrArg (·.2.2) e : _ = s1) ▸ h.police
      · exact (congrArg (·.2.2) e : _ = s1) ▸ h
    refine .ite h1.countIf.regLost ?_
    split
    · exact .ite (.ite h1.count h1.floodCopies) h1.enqueueCopy
    · exact h1.enqueueCopy

theorem setDeficit {q v} (h : Kept s₀ s) : Kept s₀ (s.setDeficit q v) := h.modTm

theorem dwrr {cs n cur} (h : Kept s₀ s) : Kept s₀ (s.dwrr cs n cur).2 := by
  induction n generalizing s cur with
  | zero => exact h
  | succ n ih =>
    unfold State.dwrr
    extract_lets q s1
    split
    · exact h.setDeficit
    · exact ih h.setDeficit

theorem chooseQueue {m cs q t} (h : Kept s₀ s) (e : s.chooseQueue m cs = some (q, t)) : Kept s₀ t := by
  unfold State.chooseQueue at e
  split at e
  · cases e
  · extract_lets _ _ _ _ go at e
    split at e
    next _ s1 hturn =>
      have h1 : Kept s₀ s1 := by
        split at hturn
        · exact of_snd (p := (_, s)) h hturn
        · exact h.dwrr.of_snd hturn
      cases e
      exact h1.setDeficit.modTm

theorem handOver {q} (h : Kept s₀ s) : Kept s₀ (s.handOver q) := by
  unfold State.handOver
  split
  · exact h
  · extract_lets _ _ _ s2
    have h2 : Kept s₀ s2 := h.setQ.chargeShapers.count.count.wr
    exact modTm (.ite h2.setDeficit h2)

theorem dropHead {q why} (h : Kept s₀ s) : Kept s₀ (s.dropHead q why) := by
  unfold State.dropHead
  split
  · exact h
  · exact h.setQ.regLost.releaseBuf

theorem finishHanded {x} (h : Kept s₀ s) : Kept s₀ (s.finishHanded x) := h.modTm.releaseBuf

theorem flushQueue {q} (h : Kept s₀ s) : Kept s₀ (s.flushQueue q) :=
  h.setQ.setDeficit.count.foldl (fun _ _ ht => ht.countIf.regLost.releaseBuf)

/-! ### Emac -/

theorem modEmac {p f} (h : Kept s₀ s) : Kept s₀ (s.modEmac p f) := h.upd

theorem jobSent {job tsDropped} (h : Kept s₀ s) : Kept s₀ (s.jobSent job tsDropped) := by
  unfold State.jobSent
  split
  · exact h.upd
  · exact h

theorem takeLinkDown {p} (h : Kept s₀ s) : Kept s₀ (s.takeLinkDown p) := by
  unfold State.takeLinkDown
  refine .ite h ?_
  extract_lets s1
  have h1 : Kept s₀ s1 := by
    unfold s1
    split
    · exact h.count.finishHanded.regLost
    · exact h
  exact h1.setFld.setFld.count.modEmac.present

theorem rxBad {p f e} (h : Kept s₀ s) : Kept s₀ (s.rxBad p f e) := .ite h.count h.count.count.upd

theorem execEmacRxFrame {p frame codeErr} (h : Kept s₀ s) : Completes s₀ (execEmacRxFrame p frame codeErr s) := by
  unfold Machine.execEmacRxFrame
  extract_lets
  refine .ite (.next h) ?_
  split
  · exact .next h.rxBad
  · split
    next _ _ e =>
      have h1 := h.count.count.macsecRx.of_snd e
      extract_lets s3
      have h3 : Kept s₀ s3 := by
        unfold s3
        split
        · exact h1.count
        · exact h1
      exact .ite (.next h3) (.ite (.next h3.count) (.next h3.arrivePkt))

theorem execPauseRx {p classes quanta} (h : Kept s₀ s) : Completes s₀ (execPauseRx p classes quanta s) :=
  h.whenWorks (.ite (.next h.count.modEmac) (.next h.count))

theorem execRxBufferXoff {p} (h : Kept s₀ s) : Completes s₀ (execRxBufferXoff p s) :=
  h.whenWorks (.ite (.next h) (.ite (.next h.modEmac.count) (.ite (.next h.modEmac.count) (.next h))))

theorem startTx {p} (h : Kept s₀ s) : Kept s₀ (s.startTx p) := h.modTm

theorem sendFrame {p x} (h : Kept s₀ s) : Kept s₀ (s.sendFrame p x) := by
  unfold State.sendFrame
  extract_lets k
  split
  · next e => exact (h.macsecTx.of_snd e).countIf.finishHanded.regLost
  · next w s1 e =>
    have h1 : Kept s₀ s1 := h.macsecTx.of_snd e
    split
    next queued s2 e2 =>
      have h2 : Kept s₀ s2 := by
        split at e2
        · exact h1.tsEth.of_snd e2
        · exact of_snd (p := (true, s1)) h1 e2
      exact h2.count.count.upd.jobSent.finishHanded.regDone

theorem execEmacTxEnd {p} (h : Kept s₀ s) : Completes s₀ (execEmacTxEnd p s) := by
  unfold Machine.execEmacTxEnd
  refine whenWorks h ?_
  split
  · exact .ite (.next h.sendFrame) (.next h)
  · exact .next h

theorem execLinkUp {p speed half} (h : Kept s₀ s) : Completes s₀ (execLinkUp p speed half s) := by
  unfold Machine.execLinkUp
  extract_lets
  refine .ite (.next h) (.ite (.next h.takeLinkDown.count) (.ite (.next h.takeLinkDown)
    (.ite (.next h.takeLinkDown) ?_)))
  split
  · exact .next h
  · exact .ite (.next h.setFld.setFld) (.next h.setFld.setFld.setFld.setFld.setFld)

theorem execLinkDown {p} (h : Kept s₀ s) : Completes s₀ (execLinkDown p s) := h.whenWorks (.next h.takeLinkDown)

theorem emacMode {p v} (h : Kept s₀ s) : Kept s₀ (s.emacMode p v) :=
  .ite h.refuse (.ite h.refuse (.ite h.wr.takeLinkDown (.ite h.wr h.wr.modEmac)))

theorem execEmacModeWrite {p value} (h : Kept s₀ s) : Completes s₀ (execEmacModeWrite p value s) :=
  .next (h.ownWrite (fun _ ht => ht.emacMode))

theorem execSdsPreset {p errors} (h : Kept s₀ s) : Completes s₀ (execSdsPreset p errors s) := by
  unfold Machine.execSdsPreset
  refine whenWorks h ?_
  extract_lets
  split
  · exact .next h
  · extract_lets _ s1
    have h1 : Kept s₀ s1 := h.takeLinkDown.modEmac.setFld.present
    split
    · exact .next h1.setFld.present
    · exact .next h1.setFld.setFld.count

theorem abortPort {p} (h : Kept s₀ s) : Kept s₀ (s.abortPort p) := by
  unfold State.abortPort
  exact h.modSort.upd.takeLinkDown.setFld.raiseUnit

/-! ### Hostp -/

theorem logRing {device a n} (h : Kept s₀ s) : Kept s₀ (s.logRing device a n) := .ite h.logDma h

theorem ringWrite {device a b} (h : Kept s₀ s) : Kept s₀ (s.ringWrite device a b) := .ite h.dmaWrite h.hostWrite

theorem setCoal {key x} (h : Kept s₀ s) : Kept s₀ (s.setCoal key x) := h.upd

theorem notifyRing {g} (h : Kept s₀ s) : Kept s₀ (s.notifyRing g) := .ite h.setCoal.raise h.setCoal

theorem writeCq {g b} (h : Kept s₀ s) : Kept s₀ (s.writeCq g b) := h.ringWrite.wr.notifyRing

theorem execHostTxFrame {ring dmaError} (h : Kept s₀ s) : Completes s₀ (execHostTxFrame ring dmaError s) := by
  unfold Machine.execHostTxFrame
  extract_lets _ x2 _ x4 _ x6 x7 x8
  have hx6 : Kept s₀ x6 := h.upd.foldl (fun _ _ ht => ht.logRing)
  have hx8 : Kept s₀ x8 := wr (.ite hx6 (hx6.foldl (fun _ _ ht => ht.logRing)))
  refine .ite (.next h) ?_
  unfold x2
  split
  · exact .next h
  · extract_lets x1'
    unfold x1'
    split
    · exact .next hx8.count.upd
    · exact .next (upd (count (count (hx8.foldl (fun _ _ ht => ht.arrivePkt)))))

theorem execHostTxCompletion {ring} (h : Kept s₀ s) : Completes s₀ (execHostTxCompletion ring s) := by
  unfold Machine.execHostTxCompletion
  refine whenWorks h ?_
  extract_lets
  split
  · exact .next h
  · exact .ite (.next h) (.next h.upd.writeCq)

theorem fillBuf {g j i} (h : Kept s₀ s) : Kept s₀ (s.fillBuf g j i).2 := h.logRing.ringWrite

theorem deliver {g j} (h : Kept s₀ s) : Kept s₀ (s.deliver g j).2 := by
  unfold State.deliver
  extract_lets
  split
  · exact raise (count (wr (h.foldl (fun _ _ ht => ht.fillBuf))))
  · exact count (wr (h.foldl (fun _ _ ht => ht.fillBuf.writeCq)))

theorem execHostRxFrame {ring} (h : Kept s₀ s) : Completes s₀ (execHostRxFrame ring s) := by
  unfold Machine.execHostRxFrame
  extract_lets
  split
  · exact .ite (.next h.upd.deliver) (.next h)
  · split
    · exact .next h
    · exact .ite (.next (.ite h.deliver.finishHanded.regDone h.deliver.finishHanded.regLost)) (.next h)

theorem execCoalTimeout {receive ring} (h : Kept s₀ s) : Completes s₀ (execCoalTimeout receive ring s) := by
  unfold Machine.execCoalTimeout
  refine whenWorks h ?_
  extract_lets
  split
  · exact .ite (.next h.setCoal.raise) (.next h)
  · exact .next h

theorem abortRing {receive r} (h : Kept s₀ s) : Kept s₀ (s.abortRing receive r) := by
  unfold State.abortRing
  extract_lets _ _ _ _ _ x6
  have hx6 : Kept s₀ x6 := by
    refine .ite ?_ (h.upd.foldl (fun _ _ ht => .ite ht ht.writeCq))
    split
    · exact h.upd.finishHanded.regLost
    · exact h.upd
  exact hx6.wr.raise

theorem execRcAccess {value} (h : Kept s₀ s) : Completes s₀ (execRcAccess value s) :=
  .next (h.ownWrite (fun _ ht => .ite ht.refuse ht.wr.setFld.setFld.upd))

theorem execRcAccessDone {result data} (h : Kept s₀ s) : Completes s₀ (execRcAccessDone result data s) :=
  h.whenWorks (.ite (.next (.ite h.setFld.setFld.wr h.setFld.setFld)) (.next h))

theorem execPcieLinkUp {gen width pm ltssm msix} (h : Kept s₀ s) : Completes s₀
    (execPcieLinkUp gen width pm ltssm msix s) :=
  .ite (.next h.wr.upd) (.next h)

theorem execPcieLinkDown (h : Kept s₀ s) : Completes s₀ (execPcieLinkDown s) := h.whenWorks (.next h.wr.upd)

theorem unmask {v} (h : Kept s₀ s) : Kept s₀ (s.unmask v) := .ite h.wr.msiSend h

/-! ### Dram -/

theorem wakeRank {k} (h : Kept s₀ s) : Kept s₀ (s.wakeRank k) := h.setFld.upd

theorem dramServe {m x upset} (h : Kept s₀ s) : Kept s₀ (s.dramServe m x upset) := by
  unfold State.dramServe
  extract_lets _ _ bad _ s1
  have h1 : Kept s₀ s1 := by
    unfold s1
    unfold bad
    split
    · exact h.wakeRank.dramError
    · exact h.wakeRank
  exact .ite h1.count.countIf.countIf.dmaWrite (.ite h1.count.bounce h1.count.answer)

theorem sramServe {m x} (h : Kept s₀ s) : Kept s₀ (s.sramServe m x) :=
  .ite h.unmappedAccess (.ite (.ite (h.foldl (fun _ _ ht => .ite ht ht.dmaWrite)) h.dmaWrite)
    (.ite h.bounce h.logDma.answer))

theorem memServe {m x upset} (h : Kept s₀ s) : Kept s₀ (s.memServe m x upset) :=
  .ite h.closedAccess (.ite h.dramServe h.sramServe)

theorem bar2Served (h : Kept s₀ s) : KeptOpt s₀ s.bar2Served := by
  unfold State.bar2Served
  split
  · exact .ite .none (.some h.upd.memServe)
  · exact .none

theorem bar2Drain {n} (h : Kept s₀ s) : Kept s₀ (State.bar2Drain n s) := by
  induction n generalizing s with
  | zero => exact h
  | succ n ih =>
    unfold State.bar2Drain
    split
    · next t e => exact ih (h.bar2Served t e)
    · exact h

theorem execDramRequest {m write addr data size upset} (h : Kept s₀ s) : Completes s₀
    (execDramRequest m write addr data size upset s) := by
  unfold Machine.execDramRequest
  extract_lets x1
  unfold x1
  split
  · exact .next h
  · exact .next (.ite h h.memServe)
  · exact .next (.ite h h.memServe)
  · exact .next (.ite h.bar2Drain.upd h.bar2Drain.memServe)

theorem execDramPowerDown {rank} (h : Kept s₀ s) : Completes s₀ (execDramPowerDown rank s) :=
  h.whenWorks (.ite (.next h.setFld) (.next h))

theorem execDramScrub {upsets} (h : Kept s₀ s) : Completes s₀ (execDramScrub upsets s) :=
  h.whenWorks (.ite (.next (foldl_fst h.upd.count fun _ _ ht => ht.dramError)) (.next h))

theorem execRetrain (h : Kept s₀ s) : Completes s₀ (execRetrain s) :=
  .next (h.ownWrite (fun _ ht => .ite ht.refuse ht.setFld.setFld))

theorem execRetrainDone {ok} (h : Kept s₀ s) : Completes s₀ (execRetrainDone ok s) :=
  h.whenWorks (.ite (.next (.ite h.setFld.dramUp.setFld h.setFld.setFld)) (.next h))

theorem abortDramc (h : Kept s₀ s) : Kept s₀ s.abortDramc := by
  unfold State.abortDramc
  split
  · exact raiseUnit (setFld (setFld (h.upd.foldl (fun _ _ ht => .ite ht ht.bounce))))

end Kept

end Sys2Proof.Machine
end

section
/-! SUPPORT. What every command keeps, said of each function of the model in the order of its files.
Threads, the engines and the NG radio. -/

namespace Sys2Proof.Machine

variable {s₀ s : State}

namespace Kept

/-! ### Threads -/

theorem freeThread {t} (h : Kept s₀ s) : Kept s₀ (s.freeThread t) := h.endWait.setCompl.modThx.setThState

theorem toTail {t} (h : Kept s₀ s) : Kept s₀ (s.toTail t) := h.setThState.upd

theorem takeOff {c} (h : Kept s₀ s) : Kept s₀ (s.takeOff c).2 := by
  unfold State.takeOff
  extract_lets
  split
  · exact h
  · split
    · exact h.freeThread
    · split
      · split
        · exact h.toTail
        · exact h
      · exact h

theorem landed {t} (h : Kept s₀ s) : Kept s₀ (s.landed t) :=
  .ite h.place (.ite h.setThState.takeEvents.wake h.setThState)

theorem execNextRead {core} (h : Kept s₀ s) : Completes s₀ (execNextRead core s) := by
  unfold Machine.execNextRead
  refine whenUp h ?_
  extract_lets _ old
  split
  next _ _ e =>
    have h1 := h.takeOff.of_snd e
    extract_lets _ next s2 s3 _ s5 s6
    have h2 : Kept s₀ s2 := by
      unfold s2
      split
      · exact .ite h1 h1.toTail.count
      · exact h1
    have h3 : Kept s₀ s3 := by
      unfold s3
      unfold next
      split
      · exact h2.unlist.setThState.setFld
      · exact h2
    have h5 : Kept s₀ s5 := .ite h3.modCore h3.modCore.count.count
    have h6 : Kept s₀ s6 := by
      unfold s6
      unfold old
      split
      · exact .ite h5 (.ite h5.landed (.ite h5.placeNotify h5))
      · exact h5
    exact .next h6.answer

theorem opResult {c res} (h : Kept s₀ s) : Kept s₀ (s.opResult c res) := by
  unfold State.opResult
  split
  · exact h.modThx
  · exact h

theorem block {c t kind q mask wake} (h : Kept s₀ s) : Kept s₀ (s.block c t kind q mask wake) := by
  unfold State.block
  refine .ite h.notify ?_
  extract_lets _ _ s2 s3
  have h2 : Kept s₀ s2 := wr (wr (.ite h.unlist h.unlist.setThState))
  have h3 : Kept s₀ s3 := by
    unfold s3
    split
    · exact h2.wr64.upd
    · exact h2
  exact notify (.ite h3.upd.syncWaiters h3)

theorem execYieldOp {core} (h : Kept s₀ s) : Completes s₀ (execYieldOp core s) := by
  unfold Machine.execYieldOp
  refine whenUp h ?_
  extract_lets
  split
  · exact .next h
  · refine .ite (.next h.opResult) ?_
    split
    · exact .ite (.next h.opResult.toTail.notify) (.next h.opResult)
    · exact .next h.opResult

theorem execExitOp {core} (h : Kept s₀ s) : Completes s₀ (execExitOp core s) := by
  unfold Machine.execExitOp
  refine whenUp h ?_
  split
  · exact .next h
  · exact .ite (.next h) (.next h.modThx.notify)

theorem execWaitEv {core} (h : Kept s₀ s) : Completes s₀ (execWaitEv core s) := by
  unfold Machine.execWaitEv
  refine whenUp h ?_
  extract_lets
  split
  · exact .next h
  · exact .ite (.next h.opResult) (.ite (.next h.takeEvents.opResult) (.ite (.next h.opResult) (.next h.modThx.block)))

theorem execSleepUntil {core} (h : Kept s₀ s) : Completes s₀ (execSleepUntil core s) := by
  unfold Machine.execSleepUntil
  refine whenUp h ?_
  extract_lets
  split
  · exact .next h
  · exact .ite (.next h.opResult) (.next h.block)

theorem execPost {core} (h : Kept s₀ s) : Completes s₀ (execPost core s) :=
  h.whenUp (.ite (.next h.opResult) (.next h.mqPost.opResult))

theorem execRecv {core} (h : Kept s₀ s) : Completes s₀ (execRecv core s) := by
  unfold Machine.execRecv
  refine whenUp h ?_
  extract_lets
  split
  · exact .next h
  · refine .ite (.next h.opResult) ?_
    split
    · exact .next h.setMq.modThx.opResult
    · exact .ite (.next h.opResult) (.next h.block)

theorem execTakeCompl {core} (h : Kept s₀ s) : Completes s₀ (execTakeCompl core s) := by
  unfold Machine.execTakeCompl
  refine whenUp h ?_
  extract_lets
  split
  · exact .next h
  · split
    · exact .next h.setCompl.modThx.opResult
    · exact .next h.opResult

theorem onThread {c f} (h : Kept s₀ s) (hf : ∀ t, Kept s₀ (f t)) : Kept s₀ (s.onThread c f) := .ite h.opResult (hf _)

theorem execSetEv {core} (h : Kept s₀ s) : Completes s₀ (execSetEv core s) :=
  h.whenUp (.next (h.onThread (fun _ => .ite h.opResult h.setEvents.opResult)))

theorem execClrEv {core} (h : Kept s₀ s) : Completes s₀ (execClrEv core s) :=
  h.whenUp (.next (h.onThread (fun _ => .ite h.opResult h.wr.opResult)))

theorem execStart {core} (h : Kept s₀ s) : Completes s₀ (execStart core s) :=
  h.whenUp (.next (h.onThread (fun _ => .ite h.wr.setFld.setFld.place.opResult h.opResult)))

theorem execSuspend {core} (h : Kept s₀ s) : Completes s₀ (execSuspend core s) :=
  h.whenUp (.next (h.onThread (fun _ => .ite h.opResult h.suspend.opResult)))

theorem execDelete {core} (h : Kept s₀ s) : Completes s₀ (execDelete core s) :=
  h.whenUp (.next (h.onThread (fun _ => .ite h.freeThread.opResult h.opResult)))

theorem execWakeTime {thread} (h : Kept s₀ s) : Completes s₀ (execWakeTime thread s) :=
  h.whenUp (.ite (.next h.wake) (.next h))

theorem execSliceEnd {core} (h : Kept s₀ s) : Completes s₀ (execSliceEnd core s) := by
  unfold Machine.execSliceEnd
  refine whenUp h ?_
  extract_lets
  split
  · exact .next h
  · exact .ite (.next h.toTail.notify.count) (.next h)

theorem writeThread0 {t w} (h : Kept s₀ s) : Kept s₀ (s.writeThread0 t w) := by
  unfold State.writeThread0
  extract_lets
  refine .ite h.refuse (.ite h.setFld.setFld.placeNotify (.ite ?_ h.setFld.setFld))
  split
  · exact .ite h.setFld.setFld.syncCore h.setFld.setFld.setThState.notify.count
  · exact h.setFld.setFld

theorem execAffinityWrite {thread value} (h : Kept s₀ s) : Completes s₀ (execAffinityWrite thread value s) :=
  h.whenUp (.next h.writeThread0)

theorem execVectorRaise {vector} (h : Kept s₀ s) : Completes s₀ (execVectorRaise vector s) := h.whenUp (.next h.raise)

theorem execComplLatchDrain {vector} (h : Kept s₀ s) : Completes s₀ (execComplLatchDrain vector s) := by
  unfold Machine.execComplLatchDrain
  refine whenUp h ?_
  extract_lets
  split
  · exact .ite (.next h.upd.setCompl) (.next h)
  · exact .next h

theorem execSupItemPost (h : Kept s₀ s) : Completes s₀ (execSupItemPost s) := by
  unfold Machine.execSupItemPost
  refine whenUp h ?_
  extract_lets
  split
  · exact .ite (.next h.upd.mqPost) (.next h)
  · exact .next h

theorem selfWrite {c off v} (h : Kept s₀ s) : Kept s₀ (s.selfWrite c off v) := by
  unfold State.selfWrite
  extract_lets setItem
  refine .ite h.modCore (.ite h.modCore (.ite ?_ ?_))
  · unfold setItem
    split
    · exact h.modThx
    · exact h
  · refine .ite ?_ (.ite h.opResult h)
    unfold setItem
    split
    · exact h.modThx
    · exact h

/-! ### Pigeon -/

theorem prodResult {n r} (h : Kept s₀ s) : Kept s₀ (s.prodResult n r) := h.setFld

theorem commitClose {n f} (h : Kept s₀ s) : Kept s₀ (s.commitClose n f) :=
  .ite h.finishFifo.prodResult h.closeBank.finishFifo.prodResult

theorem execCommit {fifo value} (h : Kept s₀ s) : Completes s₀ (execCommit fifo value s) := by
  unfold Machine.execCommit
  refine whenUp h ?_
  extract_lets
  refine .ite (.next h.prodResult) (.ite (.next (.ite h.commitClose h.prodResult)) (.ite (.next h.prodResult) ?_))
  split
  next _ _ e =>
    have h1 := h.appendRec.of_fst e
    exact .next (.ite h1.commitClose h1.finishFifo.prodResult)

theorem execHwRecord {fifo items} (h : Kept s₀ s) : Completes s₀ (execHwRecord fifo items s) :=
  h.whenUp (.next h.hwRecord)

theorem consResult {n r} (h : Kept s₀ s) : Kept s₀ (s.consResult n r) := h.setFld

theorem execPop {fifo} (h : Kept s₀ s) : Completes s₀ (execPop fifo s) := by
  unfold Machine.execPop
  refine whenUp h ?_
  extract_lets
  split
  · exact .next h.finishFifo.consResult
  · exact .next h.consResult

theorem execMark {fifo} (h : Kept s₀ s) : Completes s₀ (execMark fifo s) := h.whenUp (.next h.finishFifo.consResult)

theorem execRewind {fifo} (h : Kept s₀ s) : Completes s₀ (execRewind fifo s) := by
  unfold Machine.execRewind
  refine whenUp h ?_
  extract_lets
  split
  · exact .next h.finishFifo.consResult
  · exact .next h.consResult

theorem execRelease {fifo} (h : Kept s₀ s) : Completes s₀ (execRelease fifo s) :=
  h.whenUp (.next h.finishFifo.consResult.flushEnds)

theorem execLevelAge {fifo} (h : Kept s₀ s) : Completes s₀ (execLevelAge fifo s) := h.whenUp (.next h.finishFifo)

theorem execFifoDisable {fifo} (h : Kept s₀ s) : Completes s₀ (execFifoDisable fifo s) :=
  h.whenUp (.ite (.next h.stopFifo) (.next h))

/-! ### RadioOps -/

theorem modRadio {r f} (h : Kept s₀ s) : Kept s₀ (s.modRadio r f) := h.upd

theorem chainResult {r k c res} (h : Kept s₀ s) : Kept s₀ (s.chainResult r k c res) := by
  unfold State.chainResult
  extract_lets _ _ _ s2
  have h2 : Kept s₀ s2 := .ite h.setFld.setFld.setFld h.setFld
  exact .ite (.ite h h.present) (.ite h2 h2.present)

theorem evalEvm (h : Kept s₀ s) : Kept s₀ s.evalEvm := h.setFld

theorem calResults {r k temp results} (h : Kept s₀ s) : Kept s₀ (s.calResults r k temp results) := by
  unfold State.calResults
  extract_lets s1
  have h1 : Kept s₀ s1 := h.foldl (fun _ _ ht => ht.chainResult)
  exact .ite h1 (.ite h1.setFld.modRadio.evalEvm h1.setFld.modRadio)

/-! ### LdpcOps -/

theorem modLdpc {f} (h : Kept s₀ s) : Kept s₀ (s.modLdpc f) := h.upd

theorem syncCw (h : Kept s₀ s) : Kept s₀ s.syncCw := h.setFld.setFld.setFld

theorem setWaiting {l} (h : Kept s₀ s) : Kept s₀ (s.setWaiting l) := h.modLdpc.syncCw

theorem setEngine {e d} (h : Kept s₀ s) : Kept s₀ (s.setEngine e d) := h.modLdpc.setFld

theorem ngCodeword {c ok missed} (h : Kept s₀ s) : Kept s₀ (s.ngCodeword c ok missed) := .ite h.upd h

theorem cwMissed {c} (h : Kept s₀ s) : Kept s₀ (s.cwMissed c) := by
  unfold State.cwMissed
  extract_lets
  split
  · exact .ite h.count.ngCodeword.modFlow h.count.ngCodeword
  · exact h.count.ngCodeword

theorem cwCancelled {c} (h : Kept s₀ s) : Kept s₀ (s.cwCancelled c) := h.count.ngCodeword

theorem cwArrive {c0} (h : Kept s₀ s) : Kept s₀ (s.cwArrive c0) :=
  .ite h.modLdpc.setWaiting h.modLdpc.setWaiting.cwMissed

theorem cwRequeue {c} (h : Kept s₀ s) : Kept s₀ (s.cwRequeue c) := h.count.cwArrive

theorem engineChoose {e cs} (h : Kept s₀ s) : Kept s₀ (State.engineChoose e cs s) := by
  induction cs generalizing s with
  | nil => exact h
  | cons c cs ih =>
    unfold State.engineChoose
    extract_lets s1
    split
    · exact h.setWaiting.setEngine
    · exact ih h.setWaiting.cwMissed

theorem stopEngine {e} (h : Kept s₀ s) : Kept s₀ (s.stopEngine e) := by
  unfold State.stopEngine
  split
  · exact h.setEngine.count.cwRequeue
  · exact h

theorem checkEngines (h : Kept s₀ s) : Kept s₀ s.checkEngines :=
  .ite (h.foldl (fun _ _ ht => .ite ht.flowRevoke ht)) h

theorem retireEngine {e} (h : Kept s₀ s) : Kept s₀ (s.retireEngine e) := by
  unfold State.retireEngine
  extract_lets _ _ _ _ s3
  have h3 : Kept s₀ s3 := h.stopEngine.setFld.setFld.setFld.setFld.setFld
  refine .ite h3 ?_
  split
  · exact h3.setFld.setFld.setFld
  · exact h3.present.checkEngines

theorem setReserve {entries engines} (h : Kept s₀ s) : Kept s₀ (s.setReserve entries engines) :=
  h.setFld.setFld.foldl (fun _ _ ht => ht.setFld)

theorem cancelRx {r rx} (h : Kept s₀ s) : Kept s₀ (s.cancelRx r rx) := by
  unfold State.cancelRx
  extract_lets
  refine foldl (h.setWaiting.foldl (fun _ _ ht => ht.cwCancelled)) fun _ _ ht => ?_
  split
  · exact .ite ht.setEngine.count.cwCancelled ht
  · exact ht

/-! ### NglOps -/

theorem modNgl {f} (h : Kept s₀ s) : Kept s₀ (s.modNgl f) := h.upd

theorem modNgr {f} (h : Kept s₀ s) : Kept s₀ (s.modNgr f) := h.upd

theorem logAir {ch t dur} (h : Kept s₀ s) : Kept s₀ (s.logAir ch t dur) := h.modNgl

theorem setNgNode {a n} (h : Kept s₀ s) : Kept s₀ (s.setNgNode a n) := h.modNgl

theorem ngProtect {slot keyId typ pend dst mesh body} (h : Kept s₀ s) : Kept s₀
    (s.ngProtect slot keyId typ pend dst mesh body).2 := by
  unfold State.ngProtect
  split
  · next _ _ e => exact (h.keyReady.keyTx.of_snd e)
  · next _ _ _ e => exact (h.keyReady.keyTx.of_snd e)

theorem ngComplete {source attempts fcnt status} (h : Kept s₀ s) : Kept s₀
    (s.ngComplete source attempts fcnt status) := by
  unfold State.ngComplete
  split
  · exact h.hwRecord
  · exact h.finishHanded
  · exact h

theorem modNgFrame {id g} (h : Kept s₀ s) : Kept s₀ (s.modNgFrame id g) := h.modNgl

theorem ngEnd {f status} (h : Kept s₀ s) : Kept s₀ (s.ngEnd f status) := h.modNgl.modRadio.ngComplete

theorem ngEndAll {p status} (h : Kept s₀ s) : Kept s₀ (s.ngEndAll p status) := h.foldl (fun _ _ ht => ht.ngEnd)

theorem ngEvent {kind node} (h : Kept s₀ s) : Kept s₀ (s.ngEvent kind node) := .ite h.hwRecord h.modNgl

theorem ngRoute {orig final left} (h : Kept s₀ s) : Kept s₀ (s.ngRoute orig final left).2 := by
  unfold State.ngRoute
  extract_lets
  split
  · split
    · exact h
    · split
      · exact h
      · exact h
  · split
    · split
      · exact h
      · split
        · exact h
        · exact h.free
    · exact h

theorem drawBackoff {be} (h : Kept s₀ s) : Kept s₀ (s.drawBackoff be).2 := h.free

theorem ngRedraw {f up since} (h : Kept s₀ s) : Kept s₀ (s.ngRedraw f up since) := by
  unfold State.ngRedraw
  extract_lets
  split
  next _ _ e =>
    have h1 := h.drawBackoff.of_snd e
    exact h1.modNgFrame

theorem ngHeld {f ctr} (h : Kept s₀ s) : Kept s₀ (s.ngHeld f ctr) := .ite h h.count.modNgFrame

theorem ngCommand {k chirps start after dur} (h : Kept s₀ s) : Kept s₀ (s.ngCommand k chirps start after dur) :=
  h.modRadio

theorem ngReady {f} (h : Kept s₀ s) : Kept s₀ (s.ngReady f).2 := by
  unfold State.ngReady
  split
  · exact h
  · extract_lets x1
    unfold x1
    split
    · exact h.ngEnd
    · split
      · next _ _ _ _ e => exact (h.ngProtect.of_snd e).modNgFrame
      · next _ e => exact (h.ngProtect.of_snd e).ngEnd
      · next _ _ e => exact (h.ngProtect.of_snd e).ngEnd

theorem ngDownlink {node t} (h : Kept s₀ s) : Kept s₀ (s.ngDownlink node t) := by
  unfold State.ngDownlink
  split
  · exact h
  · extract_lets
    refine .ite h (.ite h.ngHeld (.ite h.ngHeld ?_))
    split
    · next _ _ e => exact (h.ngReady.of_snd e).ngCommand
    · next _ e => exact (h.ngReady.of_snd e)

theorem ngDrop (h : Kept s₀ s) : Kept s₀ s.ngDrop := by
  unfold State.ngDrop
  split
  · exact .ite h.cancelRx.modNgr h
  · exact h

theorem ngHop {ch} (h : Kept s₀ s) : Kept s₀ (s.ngHop ch) := .ite h.ngDrop.modNgl h.ngDrop.modNgl.setFld.modRadio

theorem modRng {f} (h : Kept s₀ s) : Kept s₀ (s.modRng f) := h.modNgr

theorem rngEnd {result} (h : Kept s₀ s) : Kept s₀ (s.rngEnd result) := by
  unfold State.rngEnd
  exact h.setFld.setFld.modRng.count.raiseUnit

theorem rngAbort (h : Kept s₀ s) : Kept s₀ s.rngAbort := .ite h.modRadio.rngEnd h

/-! ### Ngr -/

theorem ngStart {at' p} (h : Kept s₀ s) : Kept s₀ (s.ngStart at' p) := by
  unfold State.ngStart
  split
  · exact .ite (modNgr (count (.ite h.count h))) (modNgr (upd (.ite h.count h)))

theorem ngSetAside (h : Kept s₀ s) : Kept s₀ s.ngSetAside := by
  unfold State.ngSetAside
  split
  · exact h.modNgr
  · exact h

theorem execNgRxDetect {preamble} (h : Kept s₀ s) : Completes s₀ (execNgRxDetect preamble s) :=
  h.whenWorks (.ite (.next h.ngSetAside.ngStart) (.next h))

theorem ngLinkCheck {x h'} (h : Kept s₀ s) : Kept s₀ (s.ngLinkCheck x h') := by
  unfold State.ngLinkCheck
  extract_lets
  refine .ite h ?_
  split
  · exact h.count.cancelRx.modNgr
  · exact h
  · exact modNgr (cancelRx (.ite h.count h))

theorem ngLast {x} (h : Kept s₀ s) : Kept s₀ (s.ngLast x) := h.wr.modNgr

theorem execNgHeaderResult {word} (h : Kept s₀ s) : Completes s₀ (execNgHeaderResult word s) := by
  unfold Machine.execNgHeaderResult
  refine whenWorks h ?_
  split
  · exact .next h
  · split
    · exact .ite (.next h.count.modNgr) (.next h.modNgr.ngLast.ngLinkCheck)
    · exact .next h

theorem ngDeliver {x h' psdu} (h : Kept s₀ s) : Kept s₀ (s.ngDeliver x h' psdu) := .ite h.count.modRng h.count.modNgl

theorem execNgRxEnd {crc psdu} (h : Kept s₀ s) : Completes s₀ (execNgRxEnd crc psdu s) := by
  unfold Machine.execNgRxEnd
  refine whenWorks h ?_
  extract_lets
  split
  · exact .next h
  · split
    · exact .next h
    · exact .ite (.next h.modNgr) (.ite (.next h.modNgr.count) (.ite (.next h.modNgr.count) (.next h.modNgr.ngDeliver)))

theorem execNgSecondDetect {preamble} (h : Kept s₀ s) : Completes s₀ (execNgSecondDetect preamble s) := by
  unfold Machine.execNgSecondDetect
  refine whenWorks h ?_
  split
  · exact .ite (.next h) (.ite (.next h.count.cancelRx.ngStart) (.ite (.next h.count.cancelRx.ngStart) (.next h)))
  · exact .next h

theorem execRxLast0Read (h : Kept s₀ s) : Completes s₀ (execRxLast0Read s) :=
  .next (h.ownAccess (fun _ ht => ht.wr.wr.wr.answer))

theorem execArm (h : Kept s₀ s) : Completes s₀ (execArm s) :=
  .next (h.ownWrite (fun _ ht => .ite ht.refuse ht.setFld.setFld.setFld.setFld.modRng))

theorem execAbortRanging (h : Kept s₀ s) : Completes s₀ (execAbortRanging s) :=
  .next (h.ownWrite (fun _ ht => ht.rngAbort))

theorem rngTake (h : Kept s₀ s) : Kept s₀ s.rngTake := h.modRng

theorem rngSend {typ ref psdu} (h : Kept s₀ s) : Kept s₀ (s.rngSend typ ref psdu).2 := h.ngCommand

theorem setInt {i v} (h : Kept s₀ s) : Kept s₀ (s.setInt i v) := h.wr64

theorem rngResult {tof} (h : Kept s₀ s) : Kept s₀ (s.rngResult tof) := h.wr.rngEnd

theorem rngFire (h : Kept s₀ s) : Kept s₀ s.rngFire := .ite h.rngSend.modRng h

theorem execPoll (h : Kept s₀ s) : Completes s₀ (execPoll s) := by
  unfold Machine.execPoll
  refine whenWorks h ?_
  split
  · exact .ite (.next h.rngTake) (.next h)
  · exact .ite (.next h.rngTake) (.next h.rngTake.setFld.setFld.setFld.setFld.rngSend.setInt.modRng)

theorem execResp (h : Kept s₀ s) : Completes s₀ (execResp s) := by
  unfold Machine.execResp
  refine whenWorks h ?_
  split
  · exact .next h
  · exact .ite (.next h.rngTake) (.next h.rngTake.rngSend.setInt.setInt.modRng)

theorem execFinal (h : Kept s₀ s) : Completes s₀ (execFinal s) := by
  unfold Machine.execFinal
  refine whenWorks h ?_
  split
  · exact .next h
  · exact .ite (.next h.rngTake) (.next h.rngTake.setInt.setInt.setInt.rngResult.rngSend)

theorem execReport (h : Kept s₀ s) : Completes s₀ (execReport s) := by
  unfold Machine.execReport
  refine whenWorks h ?_
  split
  · exact .next h
  · exact .ite (.next h.rngTake) (.next h.rngTake.rngResult)

theorem execRngTimeout (h : Kept s₀ s) : Completes s₀ (execRngTimeout s) :=
  h.whenWorks (.ite (.next h.rngEnd) (.next h))

/-! ### Ngl -/

theorem ngDropNode {a} (h : Kept s₀ s) : Kept s₀ (s.ngDropNode a) := h.setNgNode.ngEndAll.count.ngEvent

theorem ngNodeEvent {n a} (h : Kept s₀ s) : Kept s₀ (s.ngNodeEvent n a) :=
  .ite h (.ite h.setNgNode.count.ngDropNode h.setNgNode.count)

theorem ngChecks (h : Kept s₀ s) : Kept s₀ s.ngChecks :=
  h.modNgl.foldl (fun _ _ ht => modNgl (ht.foldl (fun _ _ hu => hu.ngNodeEvent)))

theorem ngBegin {n s0 period} (h : Kept s₀ s) : Kept s₀ (s.ngBegin n s0 period) := h.ngChecks.setFld.modNgl

theorem armBeacon {s0} (h : Kept s₀ s) : Kept s₀ (s.armBeacon s0) := h.armTrigger

theorem sendBeacon (h : Kept s₀ s) : Kept s₀ s.sendBeacon := by
  unfold State.sendBeacon
  extract_lets
  refine .ite h.count ?_
  split
  · exact h.count
  · split
    · next _ _ e => exact (h.ngProtect.of_snd e).count
    · next _ _ _ _ e => exact (h.ngProtect.of_snd e).modNgl.ngCommand

theorem ngTrigger (h : Kept s₀ s) : Kept s₀ s.ngTrigger := by
  unfold State.ngTrigger
  refine .ite h (.ite h.rngAbort.ngHop.sendBeacon ?_)
  split
  · exact h.ngBegin.modNgl.rngAbort.ngHop.sendBeacon.armBeacon

theorem nglStop (h : Kept s₀ s) : Kept s₀ s.nglStop := h.setFld.setFld.setFld.wr.modRadio.modNgl

theorem nglStart (h : Kept s₀ s) : Kept s₀ s.nglStart :=
  .ite h.setFld.setFld.modNgl.setFld.ngHop h.setFld.setFld.modNgl.armTrigger

theorem ngCtrlWrite {v} (h : Kept s₀ s) : Kept s₀ (s.ngCtrlWrite v) := by
  unfold State.ngCtrlWrite
  split
  · exact h.refuse
  · extract_lets _ _ s2
    have h2 : Kept s₀ s2 := .ite h.setFld.setFld.setFld h.setFld.setFld.setFld.setFld
    exact .ite h2.nglStart (.ite h2.nglStop h2)

theorem execNglEnable {value} (h : Kept s₀ s) : Completes s₀ (execNglEnable value s) :=
  .next (h.ownWrite (fun _ ht => ht.ngCtrlWrite))

theorem ngTake (h : Kept s₀ s) : Kept s₀ s.ngTake := h.modNgl

theorem ngVerify {x} (h : Kept s₀ s) : Kept s₀ (s.ngVerify x).2 := by
  unfold State.ngVerify
  split
  · exact h
  · extract_lets
    split
    · exact h.keyReady
    · split
      · exact h.keyReady
      · exact h.keyReady.count

theorem ngAccept {x} (h : Kept s₀ s) : Kept s₀ (s.ngAccept x) := .ite h.modNgl h.setNgNode

theorem takeBeacon {x b} (h : Kept s₀ s) : Kept s₀ (s.takeBeacon x b) := by
  unfold State.takeBeacon
  extract_lets _ _ _ _ s4
  have h4 : Kept s₀ s4 := h.ngAccept.ngBegin.setFld.setFld.setFld.setFld.setFld.setFld.setFld.setFld.modNgl.ngHop
  exact .ite h4.armBeacon h4

theorem execParentBeaconRx (h : Kept s₀ s) : Completes s₀ (execParentBeaconRx s) := by
  unfold Machine.execParentBeaconRx
  split
  · exact .next h
  · refine .ite (.next h) ?_
    extract_lets
    refine .ite (.next h.ngTake.count) (.ite (.next h.ngTake.count) ?_)
    split
    · next e => exact .next (h.ngTake.ngVerify.of_snd e).count
    · next e =>
      have hv := h.ngTake.ngVerify.of_snd e
      exact .ite (.next hv.count) (.ite (.next hv.count) (.ite (.next hv.count)
        (.ite (.next hv.takeBeacon) (.next hv))))

theorem parentLost (h : Kept s₀ s) : Kept s₀ s.parentLost := h.setFld.ngEndAll.ngEvent

theorem bcnMissed {scan wide} (h : Kept s₀ s) : Kept s₀ (s.bcnMissed scan wide) := by
  unfold State.bcnMissed
  extract_lets _ _ _ s2
  have h2 : Kept s₀ s2 := h.ngBegin.setFld.count.modNgl
  exact .ite (parentLost (.ite h2.setFld h2)) (.ite h2.setFld h2)

theorem execResyncScan (h : Kept s₀ s) : Completes s₀ (execResyncScan s) := by
  unfold Machine.execResyncScan
  refine .ite (.next h) ?_
  split
  · exact .ite (.next h) (.next h.count.bcnMissed)
  · exact .ite (.next h) (.next h.bcnMissed)

theorem ngHeard {a} (h : Kept s₀ s) : Kept s₀ (s.ngHeard a) := .ite h h.setNgNode.modNgl

theorem ngAck {x} (h : Kept s₀ s) : Kept s₀ (s.ngAck x) :=
  .ite h (.ite h.count (.ite h.count (.ite h.ngCommand.ngDownlink h.ngCommand)))

theorem ngToFirmware {x payload} (h : Kept s₀ s) : Kept s₀ (s.ngToFirmware x payload) :=
  .ite h.count.upd.wakeEvent h.count.hwRecord

theorem ngEnqueue {f} (h : Kept s₀ s) : Kept s₀ (s.ngEnqueue f) := by
  unfold State.ngEnqueue
  extract_lets
  split
  next _ _ e =>
    have h1 := h.drawBackoff.of_snd e
    exact h1.modNgl

theorem ngRelay {x body} (h : Kept s₀ s) : Kept s₀ (s.ngRelay x body) := by
  unfold State.ngRelay
  extract_lets
  refine .ite h.count ?_
  split
  · next _ e => exact (h.ngRoute.of_snd e)
  · next _ _ _ e => exact .ite (h.ngRoute.of_snd e) (h.ngRoute.of_snd e).count.ngEnqueue

theorem ngJudge {x body} (h : Kept s₀ s) : Kept s₀ (s.ngJudge x body) := by
  unfold State.ngJudge
  extract_lets _ _ _ _ s2
  have h2 : Kept s₀ s2 := .ite h.ngAccept.ngAck h.ngAccept
  exact .ite (.ite h.count.ngAck h.count) (.ite h.count (.ite h.count
    (.ite h.count (.ite (.ite h2 h2.ngRelay) (.ite h2 h2.ngToFirmware)))))

theorem execNgFrameRx (h : Kept s₀ s) : Completes s₀ (execNgFrameRx s) := by
  unfold Machine.execNgFrameRx
  split
  · exact .next h
  · refine .ite (.next h) ?_
    extract_lets
    refine .ite (.next h.ngTake.count) (.ite (.ite (.next h.ngTake.ngToFirmware) (.next h.ngTake.count))
      (.ite (.next h.ngTake.count) ?_))
    split
    · next _ _ e => exact .next (h.ngTake.ngVerify.of_snd e).count
    · next _ _ e =>
        exact .ite (.next (h.ngTake.ngVerify.of_snd e).ngHeard.count)
          (.next (h.ngTake.ngVerify.of_snd e).ngHeard.ngJudge)

theorem execNgAckRx (h : Kept s₀ s) : Completes s₀ (execNgAckRx s) := by
  unfold Machine.execNgAckRx
  split
  · exact .next h
  · refine .ite (.next h) ?_
    extract_lets
    refine .ite (.next h.ngTake.count) ?_
    split
    · exact .next h.ngTake
    · exact .ite (.ite (.next h.ngTake.ngEnd.ngDownlink) (.ite (.next h.ngTake.ngEnd.ngDownlink)
        (.next h.ngTake.ngEnd))) (.next h.ngTake)

theorem execNgAckTimeout (h : Kept s₀ s) : Completes s₀ (execNgAckTimeout s) := by
  unfold Machine.execNgAckTimeout
  refine whenWorks h ?_
  split
  · exact .next h
  · refine .ite (.next h) ?_
    extract_lets
    split
    · exact .next h.modNgl
    · exact .ite (.next h.modNgl.count.ngEnd) (.next h.modNgl.ngRedraw)

theorem execBackoffEnd {energy} (h : Kept s₀ s) : Completes s₀ (execBackoffEnd energy s) := by
  unfold Machine.execBackoffEnd
  split
  · exact .next h
  · refine .ite (.next h) (.ite (.next h.count.ngRedraw) ?_)
    extract_lets
    refine .ite (.next h.ngRedraw) (.ite (.next h.ngHeld.ngRedraw) (.ite (.next h.ngHeld.ngRedraw) ?_))
    split
    · next _ _ e => exact .next (h.ngReady.of_snd e).ngCommand
    · next _ e => exact .next (h.ngReady.of_snd e)

theorem execNgSlotStart {slot} (h : Kept s₀ s) : Completes s₀ (execNgSlotStart slot s) :=
  .ite (.next h) (.ite (.next h.modNgl.ngDownlink) (.next h.modNgl))

theorem trackDone {r temp results} (h : Kept s₀ s) : Kept s₀ (s.trackDone r temp results) :=
  h.calResults.setFld.modRadio

theorem execNgCalStart {temp result} (h : Kept s₀ s) : Completes s₀ (execNgCalStart temp result s) :=
  h.whenWorks (.ite (.next h.ngDrop.trackDone) (.next h))

theorem execNgLifetime (h : Kept s₀ s) : Completes s₀ (execNgLifetime s) := h.whenWorks (.next h.ngEndAll)

theorem ngEnrol {f at' ch} (h : Kept s₀ s) : Kept s₀ (s.ngEnrol f at' ch) := by
  unfold State.ngEnrol
  extract_lets
  refine .ite h.ngComplete ?_
  split
  · exact h.ngEnqueue
  · split
    · next _ _ e => exact (h.ngEnqueue.ngReady.of_snd e).ngCommand
    · next _ e => exact (h.ngEnqueue.ngReady.of_snd e)

theorem ngAsk {a} (h : Kept s₀ s) : Kept s₀ (s.ngAsk a) := by
  unfold State.ngAsk
  split
  · exact h.ngEnrol
  · refine .ite h.ngEnqueue ?_
    split
    · next _ e => exact (h.ngRoute.of_snd e).ngComplete
    · next _ _ _ e =>
        exact .ite (h.ngRoute.of_snd e).ngComplete (.ite (h.ngRoute.of_snd e).ngComplete (h.ngRoute.of_snd e).ngEnqueue)

theorem tmAsk {x} (h : Kept s₀ s) : Kept s₀ (s.tmAsk x).2 := by
  unfold State.tmAsk
  extract_lets
  split
  next _ _ e =>
    have h1 := h.free.of_snd e
    split
    · exact h1
    · exact h1

theorem ringTake (h : Kept s₀ s) : Kept s₀ s.ringTake.2 := h.logDma.setFld

theorem execNgTxDescriptor {source} (h : Kept s₀ s) : Completes s₀ (execNgTxDescriptor source s) := by
  unfold Machine.execNgTxDescriptor
  refine .ite (.next h) ?_
  split
  · refine .ite (.next h) ?_
    split
    next _ _ e =>
      have h1 := h.ringTake.of_snd e
      split
      · exact .next h1.ngComplete
      · exact .next h1.logDma.ngAsk
  · split
    · exact .next h
    · split
      · next _ _ _ e => exact .next (h.tmAsk.of_snd e).ngComplete
      · next _ _ e => exact .next (h.tmAsk.of_snd e).ngAsk

theorem execNgDropRecord (h : Kept s₀ s) : Completes s₀ (execNgDropRecord s) := by
  unfold Machine.execNgDropRecord
  refine whenWorks h ?_
  split
  · exact .ite (.next h.hwRecord.modNgl) (.next h)
  · exact .next h

theorem nodeResult {result word} (h : Kept s₀ s) : Kept s₀ (s.nodeResult result word) := h.setFld.setFld

theorem nodeCmd {a c f} (h : Kept s₀ s) (hf : ∀ t, Kept s₀ t → Kept s₀ (f t)) : Kept s₀ (s.nodeCmd a c f) :=
  h.ownWrite fun _ ht => .ite ht.refuse (hf _ ht).setFld

theorem execNodeAdd {node} (h : Kept s₀ s) : Completes s₀ (execNodeAdd node s) := by
  unfold Machine.execNodeAdd
  extract_lets
  refine .next (nodeCmd h (fun _ ht => ?_))
  extract_lets
  refine .ite ht.nodeResult ?_
  split
  · exact ht.nodeResult
  · exact .ite ht.nodeResult ht.setNgNode.nodeResult

theorem execNodeUpdate {node} (h : Kept s₀ s) : Completes s₀ (execNodeUpdate node s) := by
  unfold Machine.execNodeUpdate
  extract_lets
  refine .next (nodeCmd h (fun _ ht => ?_))
  extract_lets
  refine .ite ht.nodeResult ?_
  split
  · exact ht.nodeResult
  · exact ht.setNgNode.nodeResult

theorem execNodeRemove {node} (h : Kept s₀ s) : Completes s₀ (execNodeRemove node s) :=
  .next (h.nodeCmd (fun _ ht => .ite ht.nodeResult ht.setNgNode.ngEndAll.nodeResult))

theorem execNodeRead {node} (h : Kept s₀ s) : Completes s₀ (execNodeRead node s) :=
  .next (h.nodeCmd (fun _ ht => .ite ht.nodeResult ht.wrList.wrList.nodeResult))

theorem nglTick (h : Kept s₀ s) : Kept s₀ s.nglTick := .ite h (.ite h.ngChecks h.ngChecks.ngHop)

theorem ngAirStart {k t0 t1} (h : Kept s₀ s) : Kept s₀ (s.ngAirStart k t0 t1) := by
  unfold State.ngAirStart
  split
  · split
    · exact h
    · extract_lets _ s1
      have h1 : Kept s₀ s1 := h.logAir.count.modNgFrame
      exact .ite h1.modNgl h1.ngEnd
  · exact h.logAir.count
  · exact h.logAir
  · exact h.logAir
  · exact h

theorem ngAirLate {k} (h : Kept s₀ s) : Kept s₀ (s.ngAirLate k) := by
  unfold State.ngAirLate
  split
  · split
    · exact .ite h.ngEnd h
    · exact h
  · exact .ite h.rngEnd h
  · exact h

theorem ngAirCap {k} (h : Kept s₀ s) : Kept s₀ (s.ngAirCap k) := by
  unfold State.ngAirCap
  extract_lets
  split
  · split
    · exact h.count.ngEnd
    · exact h.count
  · exact h.count

/-! ### Phy -/

theorem dropAnswer {r rx} (h : Kept s₀ s) : Kept s₀ (s.dropAnswer r rx) := h.modRadio

theorem checkHeader {r} (h : Kept s₀ s) : Kept s₀ (s.checkHeader r) := by
  unfold State.checkHeader
  split
  · exact h
  · refine .ite h ?_
    split
    · exact h.count.modRadio
    · exact .ite h.count.modRadio.modRadio (modRadio (.ite h.count.modRadio.count h.count.modRadio))

theorem setAside {r} (h : Kept s₀ s) : Kept s₀ (s.setAside r) := h.modRadio

theorem startRx {r p} (h : Kept s₀ s) : Kept s₀ (s.startRx r p) := checkHeader (modRadio (upd (.ite h.count h)))

theorem execRxPreamble {radio preamble} (h : Kept s₀ s) : Completes s₀ (execRxPreamble radio preamble s) :=
  h.whenWorks (.ite (.next h.setAside.startRx) (.next h))

theorem execSecondDetect {radio preamble} (h : Kept s₀ s) : Completes s₀ (execSecondDetect radio preamble s) := by
  unfold Machine.execSecondDetect
  refine whenWorks h ?_
  extract_lets
  split
  · exact .ite (.next h.count.cancelRx.startRx) (.ite (.next h.count.cancelRx.dropAnswer.startRx) (.next h))
  · exact .next h

theorem dropRx {r} (h : Kept s₀ s) : Kept s₀ (s.dropRx r) := by
  unfold State.dropRx
  split
  · exact h.cancelRx.dropAnswer.modRadio
  · exact h

theorem execCodewordEnqueue {radio cw} (h : Kept s₀ s) : Completes s₀ (execCodewordEnqueue radio cw s) := by
  unfold Machine.execCodewordEnqueue
  refine whenWorks h ?_
  extract_lets
  refine .ite ?_ ?_
  · split
    · exact .next h
    · exact .ite (.next h.count) (.next h.cwArrive)
  · split
    · exact .next h
    · exact .ite (.next h) (.ite (.next h.count) (.next h.cwArrive))

theorem execCodewordReclass {radio hdr} (h : Kept s₀ s) : Completes s₀ (execCodewordReclass radio hdr s) := by
  unfold Machine.execCodewordReclass
  refine whenWorks h ?_
  extract_lets
  split
  · exact .next h
  · exact .ite (.next (h.modRadio.setWaiting.foldl (fun _ _ ht => ht.cwCancelled))) (.next h.modRadio.setWaiting)

theorem execEngineFree {engine} (h : Kept s₀ s) : Completes s₀ (execEngineFree engine s) :=
  .ite (.next h.engineChoose) (.next h)

theorem execDecodeEnd {engine iterations zero agree} (h : Kept s₀ s) : Completes s₀
    (execDecodeEnd engine iterations zero agree s) := by
  unfold Machine.execDecodeEnd
  refine whenWorks h ?_
  extract_lets
  split
  · exact .next h
  · exact .ite (.next h.setEngine.count.present.cwRequeue) (.ite (.next h.setEngine.count.count.ngCodeword)
      (.next h.setEngine.count.count.ngCodeword))

theorem execCodewordDeadline (h : Kept s₀ s) : Completes s₀ (execCodewordDeadline s) :=
  h.whenUp (.next (h.setWaiting.foldl (fun _ _ ht => ht.cwMissed)))

theorem execLdpcRetire {value} (h : Kept s₀ s) : Completes s₀ (execLdpcRetire value s) :=
  .next (h.ownWrite (fun _ ht => .ite ht.refuse (.ite ht ht.retireEngine)))

theorem execBist {engine pass} (h : Kept s₀ s) : Completes s₀ (execBist engine pass s) :=
  h.whenWorks (.ite (.next h) (.next h.setFld.present))

theorem execCsiCapture {radio est} (h : Kept s₀ s) : Completes s₀ (execCsiCapture radio est s) := by
  unfold Machine.execCsiCapture
  refine whenWorks h ?_
  extract_lets
  split
  · exact .next h
  · exact .ite (.next h) (.ite (.next h.hwRecord.count.modRadio) (.next h.hwRecord.count.modRadio))

end Kept

end Sys2Proof.Machine
end

section
/-! SUPPORT. What every command keeps, said of each function of the model in the order of its files.
The MAC, rounds and the radios. -/

namespace Sys2Proof.Machine

variable {s₀ s : State}

namespace Kept

/-! ### RoundsOps -/

theorem modRounds {f} (h : Kept s₀ s) : Kept s₀ (s.modRounds f) := h.upd

theorem modRnd {r f} (h : Kept s₀ s) : Kept s₀ (s.modRnd r f) := h.modRounds

/-! ### WmacOps -/

theorem modWmac {f} (h : Kept s₀ s) : Kept s₀ (s.modWmac f) := h.upd

theorem modTid {sta tid f} (h : Kept s₀ s) : Kept s₀ (s.modTid sta tid f) := h.modWmac

theorem airStart {f n k} (h : Kept s₀ s) : Kept s₀ (s.airStart f n k) := h.modRec

theorem airLinkEnds {f n k} (h : Kept s₀ s) : Kept s₀ (s.airLinkEnds f n k) := by
  unfold State.airLinkEnds
  split
  · exact h
  · exact .ite h.endFrame h.modRec

theorem airFailed {f n k} (h : Kept s₀ s) : Kept s₀ (s.airFailed f n k) := by
  unfold State.airFailed
  split
  · exact h
  · exact .ite h.airLinkEnds h

theorem complete {q sn attempts link status tsDropped} (h : Kept s₀ s) : Kept s₀
    (s.complete q sn attempts link status tsDropped) := by
  unfold State.complete
  extract_lets
  split
  · exact h.modWmac.finishHanded
  · exact h.modWmac

theorem completeReq {q status why} (h : Kept s₀ s) : Kept s₀ (s.completeReq q status why) := by
  unfold State.completeReq
  extract_lets
  split
  · exact h.complete.endFrame
  · exact h.complete

theorem completeMpdu {m status acked} (h : Kept s₀ s) : Kept s₀ (s.completeMpdu m status acked) := by
  unfold State.completeMpdu
  extract_lets _ s1
  have h1 : Kept s₀ s1 := h.modWmac.foldl (fun _ _ ht => ht.complete)
  exact .ite h1.tsPush.complete h1.complete

theorem takeSn {q} (h : Kept s₀ s) : Kept s₀ (s.takeSn q) := .ite h.modWmac (.ite h.modWmac h.modTid)

theorem addMpdu {q others pn len body} (h : Kept s₀ s) : Kept s₀ (s.addMpdu q others pn len body) := by
  unfold State.addMpdu
  extract_lets s1
  have h1 : Kept s₀ s1 := by
    unfold s1
    split
    · exact .ite h h.modRec
    · exact h
  exact h1.modWmac.takeSn

theorem number {q others} (h : Kept s₀ s) : Kept s₀ (s.number q others).2 := by
  unfold State.number
  extract_lets
  split
  · exact h
  · exact h.addMpdu
  · split
    · next _ _ _ e => exact (h.keyReady.keyTx.of_snd e).addMpdu
    · next _ e => exact (h.keyReady.keyTx.of_snd e).completeReq
    · next _ _ e => exact (h.keyReady.keyTx.of_snd e)
  · split
    · next _ _ _ e => exact (h.keyReady.keyTx.of_snd e).addMpdu
    · next _ e => exact (h.keyReady.keyTx.of_snd e).foldl (fun _ _ ht => ht.completeReq)
    · next _ _ e => exact (h.keyReady.keyTx.of_snd e)

theorem admitFrames {n qs} (h : Kept s₀ s) : Kept s₀ (s.admitFrames n qs) := by
  induction n generalizing s qs with
  | zero => exact h
  | succ n ih =>
    cases qs with
    | nil => exact h
    | cons q rest =>
      unfold State.admitFrames
      refine .ite ?_ (ih h.modWmac)
      split
      split
      · next e => exact ih (h.number.of_snd e)
      · next e => exact ih (h.number.of_snd e).modWmac

theorem admitWith {l} (h : Kept s₀ s) : Kept s₀ (s.admitWith l) := h.modWmac.admitFrames

theorem admitWaiting (h : Kept s₀ s) : Kept s₀ s.admitWaiting := h.admitWith

theorem modMpdu {id f} (h : Kept s₀ s) : Kept s₀ (s.modMpdu id f) := h.modWmac

theorem oweBar {sta tid} (h : Kept s₀ s) : Kept s₀ (s.oweBar sta tid) := h.modWmac

theorem mpduFailed {l m} (h : Kept s₀ s) : Kept s₀ (s.mpduFailed l m) := by
  unfold State.mpduFailed
  extract_lets _ x2
  have hx2 : Kept s₀ x2 := h.modMpdu.completeMpdu.count
  split
  · split
    · exact .ite h.modMpdu.airFailed.completeMpdu h.modMpdu.airFailed
    · exact h.modMpdu
  · exact .ite (.ite hx2 hx2.oweBar) h.modMpdu

theorem mpduAcked {m} (h : Kept s₀ s) : Kept s₀ (s.mpduAcked m) := by
  unfold State.mpduAcked
  split
  · split
    · exact .ite h.completeMpdu.endFrame h.completeMpdu
    · exact h.completeMpdu
  · exact h.completeMpdu

theorem dropReg {f n} (h : Kept s₀ s) : Kept s₀ (s.dropReg f n) :=
  foldl (modWmac (h.foldl (fun _ _ ht => ht.completeMpdu))) (fun _ _ ht => ht.complete)

theorem withdraw {r c} (h : Kept s₀ s) : Kept s₀ (s.withdraw r c) := h.modRadio.modWmac

theorem withdrawBars {sta link} (h : Kept s₀ s) : Kept s₀ (s.withdrawBars sta link) :=
  h.foldl (fun _ _ ht => ht.withdraw)

theorem pruneCmds {r} (h : Kept s₀ s) : Kept s₀ (s.pruneCmds r) := h.modRadio

/-! ### Wmac -/

theorem ctxResult {result word} (h : Kept s₀ s) : Kept s₀ (s.ctxResult result word) := h.setFld.setFld

theorem ctxCmd {sta c f} (h : Kept s₀ s) (hf : ∀ t, Kept s₀ t → Kept s₀ (f t)) : Kept s₀ (s.ctxCmd sta c f) :=
  h.ownWrite fun _ ht => .ite ht.refuse (hf _ ht).setFld

theorem setCtx {sta ws} (h : Kept s₀ s) : Kept s₀ (s.setCtx sta ws) := h.modWmac

theorem execCtxAdd {sta} (h : Kept s₀ s) : Completes s₀ (execCtxAdd sta s) := by
  unfold Machine.execCtxAdd
  extract_lets
  refine .next (ctxCmd h (fun _ ht => ?_))
  extract_lets
  refine .ite ht.ctxResult ?_
  split
  · exact ht.ctxResult
  · exact .ite ht.ctxResult ht.setCtx.wr.ctxResult

theorem updateFlows {sta ws} (h : Kept s₀ s) : Kept s₀ (s.updateFlows sta ws) :=
  h.foldl (fun _ _ ht => .ite ht.flowRevoke ht.flowLoses)

theorem freeLinks {sta ws} (h : Kept s₀ s) : Kept s₀ (s.freeLinks sta ws) :=
  h.foldl (fun _ _ ht => .ite ht ht.modWmac.pruneCmds.withdrawBars)

theorem execCtxUpdate {sta} (h : Kept s₀ s) : Completes s₀ (execCtxUpdate sta s) := by
  unfold Machine.execCtxUpdate
  extract_lets
  refine .next (ctxCmd h (fun _ ht => ?_))
  extract_lets
  refine .ite ht.ctxResult ?_
  split
  · exact ht.ctxResult
  · exact ht.freeLinks.setCtx.updateFlows.admitWaiting.ctxResult

theorem execCtxRemove {sta} (h : Kept s₀ s) : Completes s₀ (execCtxRemove sta s) := by
  unfold Machine.execCtxRemove
  extract_lets
  refine .next (ctxCmd h (fun _ ht => .ite ht.ctxResult ?_))
  extract_lets _ _ s2
  have h2 : Kept s₀ s2 := by
    refine foldl (foldl (ht.foldl (fun _ _ hu => hu.withdrawBars)) (fun _ _ hu => hu.flowRevoke)) fun _ _ hu => ?_
    extract_lets
    split
    · exact hu.completeMpdu.endFrame
    · exact hu.completeMpdu
  exact ctxResult (foldl (modWmac (h2.modWmac.foldl (fun _ _ hu => hu.completeReq))) (fun _ _ hu => hu.pruneCmds))

theorem execCtxRead {sta} (h : Kept s₀ s) : Completes s₀ (execCtxRead sta s) :=
  .next (h.ctxCmd (fun _ ht => .ite ht.ctxResult (ctxResult (ht.wrList.foldl (fun _ _ hu => hu.wr.wr)))))

theorem acceptReq {q0} (h : Kept s₀ s) : Kept s₀ (s.acceptReq q0) :=
  .ite h.completeReq (.ite h.completeReq h.admitWith)

theorem execTxDescriptor {source} (h : Kept s₀ s) : Completes s₀ (execTxDescriptor source s) := by
  unfold Machine.execTxDescriptor
  refine .ite (.next h) ?_
  split
  · split
    · exact .next h.complete
    · exact .next h.logDma.acceptReq
  · exact .next h.acceptReq
  · split
    · exact .next h.acceptReq
    · exact .next h
  · extract_lets
    split
    · exact .next h
    · exact .ite (.next h) (.next h.handOver.acceptReq)

theorem modEmlsr {sta f} (h : Kept s₀ s) : Kept s₀ (s.modEmlsr sta f) := h.modWmac

theorem queueCmd {r c} (h : Kept s₀ s) : Kept s₀ (s.queueCmd r c) := h.modRadio

theorem openUsers {users} (h : Kept s₀ s) : Kept s₀ (s.openUsers users) := h.foldl (fun _ _ ht => .ite ht.modEmlsr ht)

theorem closeUsers {users} (h : Kept s₀ s) : Kept s₀ (s.closeUsers users) :=
  h.foldl (fun _ _ ht => .ite ht.modEmlsr ht)

theorem bindPpdu {sta link r ids start rates fill} (h : Kept s₀ s) : Kept s₀
    (s.bindPpdu sta link r ids start rates fill) :=
  queueCmd (openUsers (h.foldl (fun _ _ ht => ht.modMpdu)))

theorem sendBar {sta link r tid start} (h : Kept s₀ s) : Kept s₀ (s.sendBar sta link r tid start) :=
  h.modWmac.openUsers.queueCmd

theorem nstrPad {sta l dur} (h : Kept s₀ s) : Kept s₀ (s.nstrPad sta l dur) := h.foldl (fun _ _ ht => ht.modRadio)

theorem fillPpdu {n l bytes start rates} (h : Kept s₀ s) : Kept s₀ (s.fillPpdu n l bytes start rates) := by
  unfold State.fillPpdu
  extract_lets
  refine .ite h ?_
  split
  · exact h.sendBar
  · exact .ite h h.nstrPad.bindPpdu

theorem execPpduFill {sta link bytes start rates} (h : Kept s₀ s) : Completes s₀
    (execPpduFill sta link bytes start rates s) := by
  unfold Machine.execPpduFill
  extract_lets
  refine .ite (.next h) (.ite ?_ (.next h.fillPpdu))
  split
  · exact .ite (.next h.bindPpdu) (.next h)
  · exact .next h

theorem emlsrLock {users stop} (h : Kept s₀ s) : Kept s₀ (s.emlsrLock users stop) :=
  h.foldl (fun _ _ ht => .ite ht.modEmlsr ht)

theorem markHeard {sta} (h : Kept s₀ s) : Kept s₀ (s.markHeard sta) := h.modRounds

theorem execBlockAckRx {sta link tid ssn acked} (h : Kept s₀ s) : Completes s₀
    (execBlockAckRx sta link tid ssn acked s) :=
  .ite (.next h) (.next (admitWaiting (h.markHeard.foldl (fun _ _ ht => .ite ht.mpduAcked ht.mpduFailed))))

theorem execBlockAckTimeout {sta link} (h : Kept s₀ s) : Completes s₀ (execBlockAckTimeout sta link s) :=
  .ite (.next h) (.next (admitWaiting (h.foldl (fun _ _ ht => ht.mpduFailed))))

theorem usersLeave {r c gone} (h : Kept s₀ s) : Kept s₀ (s.usersLeave r c gone) := by
  unfold State.usersLeave
  split
  · exact h.withdraw.closeUsers
  · exact h.modRadio.modWmac.closeUsers

theorem execEmlsrIcfFail {sta} (h : Kept s₀ s) : Completes s₀ (execEmlsrIcfFail sta s) := by
  unfold Machine.execEmlsrIcfFail
  refine whenWorks h ?_
  extract_lets
  split
  · exact .next (h.count.closeUsers.foldl (fun _ _ ht => ht.usersLeave))
  · exact .next h

theorem deliverMsdu {sta tid h' m} (h : Kept s₀ s) : Kept s₀ (s.deliverMsdu sta tid h' m) :=
  .ite h.arrivePkt h.modWmac

theorem releaseMpdu {sta tid h'} (h : Kept s₀ s) : Kept s₀ (s.releaseMpdu sta tid h') := by
  unfold State.releaseMpdu
  extract_lets
  split
  · exact .ite h.count (h.setRxPn.foldl (fun _ _ ht => ht.deliverMsdu))
  · exact h.foldl (fun _ _ ht => ht.deliverMsdu)

theorem releaseRun {sta tid n} (h : Kept s₀ s) : Kept s₀ (s.releaseRun sta tid n) := by
  induction n generalizing s with
  | zero => exact h
  | succ n ih =>
    unfold State.releaseRun
    extract_lets x
    split
    · exact ih h.modTid.releaseMpdu
    · exact h

theorem moveWin {sta tid win} (h : Kept s₀ s) : Kept s₀ (s.moveWin sta tid win) :=
  releaseRun (h.modTid.foldl (fun _ _ ht => ht.releaseMpdu))

theorem syncFlush {sta tid oldWin} (h : Kept s₀ s) : Kept s₀ (s.syncFlush sta tid oldWin) := h.modTid

theorem reorder {sta tid h'} (h : Kept s₀ s) : Kept s₀ (s.reorder sta tid h') :=
  .ite (syncFlush (releaseRun (modTid (.ite h h.moveWin)))) h.modTid.releaseMpdu

theorem openMpdu {sta m} (h : Kept s₀ s) : Kept s₀ (s.openMpdu sta m).2 := by
  unfold State.openMpdu
  extract_lets
  split
  · exact h
  · split
    · split
      · exact h
      · exact h
    · split
      · exact h
      · extract_lets
        split
        · exact h.keyReady
        · split
          · exact h.keyReady.count
          · exact h.keyReady

theorem defrag {sta m body} (h : Kept s₀ s) : Kept s₀ (s.defrag sta m body).2 := by
  unfold State.defrag
  extract_lets t sn x
  unfold x
  split
  · split
    · exact h.modTid.count
    · exact h
  · split
    next parts s1 e =>
      have h1 : Kept s₀ s1 := by
        split at e
        · split at e
          · exact of_snd (p := (_, s)) h e
          · exact of_snd (p := (_, s.count _)) h.count e
        · exact of_snd (p := (_, s)) h e
      extract_lets ps
      split
      · exact h1.modTid
      · split
        · exact h1.modTid
        · exact h1.modTid.count

theorem heardPeer {r sta x m} (h : Kept s₀ s) : Kept s₀ (s.heardPeer r sta x m) := h.markHeard.modRounds

theorem noteOccurrence {sta tid sn queue} (h : Kept s₀ s) : Kept s₀ (s.noteOccurrence sta tid sn queue) := by
  unfold State.noteOccurrence
  split
  · exact h.modFlow
  · exact h

theorem noteDemand {sta queue bytes} (h : Kept s₀ s) : Kept s₀ (s.noteDemand sta queue bytes) := h.modRounds

theorem rxData {r sta link x m} (h : Kept s₀ s) : Kept s₀ (s.rxData r sta link x m) := by
  unfold State.rxData
  extract_lets
  refine .ite h.count ?_
  split
  · next _ _ e => exact (h.openMpdu.of_snd e).count
  · next _ _ _ e =>
      extract_lets s2 s3
      have h2 : Kept s₀ s2 := (h.openMpdu.of_snd e).count
      have h3 : Kept s₀ s3 := .ite h2 h2.noteOccurrence.noteDemand
      refine .ite h2.count ?_
      split
      · exact h3.count
      · split
        · next _ e2 => exact (h3.defrag.of_snd e2)
        · next _ _ e2 => exact .ite (h3.defrag.of_snd e2).releaseMpdu (h3.defrag.of_snd e2).reorder

theorem cancelIcf {sta l} (h : Kept s₀ s) : Kept s₀ (s.cancelIcf sta l) := h.foldl (fun _ _ ht => ht.usersLeave)

theorem answerMpdu {r sta tid sn x} (h : Kept s₀ s) : Kept s₀ (s.answerMpdu r sta tid sn x) := .ite h h.modRadio

theorem toFirmware {b} (h : Kept s₀ s) : Kept s₀ (s.toFirmware b) := h.modWmac

theorem rxGroupMgmt {m} (h : Kept s₀ s) : Kept s₀ (s.rxGroupMgmt m) := by
  unfold State.rxGroupMgmt
  extract_lets
  split
  · exact h.toFirmware
  · exact h.count
  · extract_lets
    split
    · exact h.keyReady.count
    · exact .ite h.keyReady.count.count (.ite h.keyReady.count.count h.keyReady.count.setRxPn.toFirmware)

theorem rxMgmt {sta m} (h : Kept s₀ s) : Kept s₀ (s.rxMgmt sta m) := by
  have hopen : Kept s₀ (if m.prot then s.openMpdu sta m else (.inl (m.body, none), s)).2 := by
    split
    · exact h.openMpdu
    · exact h
  unfold State.rxMgmt
  refine .ite h.count ?_
  split
  · next e => exact (hopen.of_snd e).count
  · next e =>
    have h1 := hopen.of_snd e
    extract_lets s2 s3
    have h2 : Kept s₀ s2 := .ite h1.count h1
    have h3 : Kept s₀ s3 := h2.modWmac
    refine .ite h2.count ?_
    split
    · exact h3.toFirmware
    · exact .ite h3.count h3.modWmac.toFirmware

theorem execMpduRx {mpdu} (h : Kept s₀ s) : Completes s₀ (execMpduRx mpdu s) := by
  unfold Machine.execMpduRx
  extract_lets
  split
  · exact .next h
  · refine .ite (.next h) ?_
    split
    · exact .next (.ite h.toFirmware h.count)
    · extract_lets _ s2
      have h2 : Kept s₀ s2 := by
        unfold s2
        split
        · exact .ite h.heardPeer h.heardPeer.cancelIcf
        · exact h.heardPeer
      exact .next (.ite (.ite h2.rxGroupMgmt h2.rxMgmt) (rxData (.ite h2 h2.answerMpdu)))

theorem execBlockAckReqRx {sta tid ssn} (h : Kept s₀ s) : Completes s₀ (execBlockAckReqRx sta tid ssn s) :=
  h.whenWorks (.ite (.next h.moveWin.syncFlush) (.next h))

theorem execReorderFlush {sta tid} (h : Kept s₀ s) : Completes s₀ (execReorderFlush sta tid s) := by
  unfold Machine.execReorderFlush
  refine whenWorks h ?_
  extract_lets
  split
  · exact .next h
  · refine .ite (.next h) ?_
    split
    · exact .next h
    · exact .next h.count.moveWin.syncFlush

theorem protectBeacon {b f} (h : Kept s₀ s) : Kept s₀ (s.protectBeacon b f).2 := by
  unfold State.protectBeacon
  split
  · exact h
  · extract_lets
    split
    · next _ _ _ e => exact (h.keyReady.keyTx.of_snd e)
    · next _ _ e => exact (h.keyReady.keyTx.of_snd e)

theorem makeBeacon {b len} (h : Kept s₀ s) : Kept s₀ (s.makeBeacon b len).2 := h.logDma.protectBeacon.modWmac

theorem execBeaconTx {bss len rates} (h : Kept s₀ s) : Completes s₀ (execBeaconTx bss len rates s) := by
  unfold Machine.execBeaconTx
  extract_lets
  refine .ite (.next h) ?_
  split
  next _ _ e =>
    have h1 := h.makeBeacon.of_snd e
    split
    · exact .next h1.count.queueCmd
    · exact .next h1.queueCmd

/-! ### Rounds -/

theorem conflict {r with' index} (h : Kept s₀ s) : Kept s₀ (s.conflict r with' index) := h.setFld.setFld

theorem execPlanSwap {radio value} (h : Kept s₀ s) : Completes s₀ (execPlanSwap radio value s) :=
  .next (h.ownWrite (fun _ ht => .ite ht (.ite ht.refuse ht.setFld.setFld.modRnd)))

theorem execPlanCheckDone {radio} (h : Kept s₀ s) : Completes s₀ (execPlanCheckDone radio s) := by
  unfold Machine.execPlanCheckDone
  extract_lets
  refine .ite (.next h) ?_
  split
  · exact .next h.setFld.setFld
  · exact .next h.modRnd

theorem setStaDeficit {n d} (h : Kept s₀ s) : Kept s₀ (s.setStaDeficit n d) := h.setFld

theorem soundGroup {r t users x rates} (h : Kept s₀ s) : Kept s₀ (s.soundGroup r t users x rates) :=
  h.openUsers.queueCmd.queueCmd.queueCmd

theorem keepFeedback {r g start users reports} (h : Kept s₀ s) : Kept s₀ (s.keepFeedback r g start users reports) :=
  h.modRounds

theorem soundGroups {r stop seg gs t dims} (h : Kept s₀ s) : Kept s₀ (State.soundGroups r stop seg gs t dims s) := by
  induction gs generalizing s t dims with
  | nil => exact h
  | cons g gs ih =>
    unfold State.soundGroups
    split
    · exact ih h
    · exact .ite h (ih h.soundGroup.keepFeedback)

theorem chargeSta {l} (h : Kept s₀ s) : Kept s₀ (s.chargeSta l) := h.foldl (fun _ _ ht => ht.setStaDeficit)

theorem nstrMatch {users ul} (h : Kept s₀ s) : Kept s₀ (s.nstrMatch users ul) := by
  unfold State.nstrMatch
  refine foldl h fun _ _ ht => ?_
  split
  · exact ht.modRadio
  · exact ht

theorem sendTrigger {r start bsrp users ul rates} (h : Kept s₀ s) : Kept s₀
    (s.sendTrigger r start bsrp users ul rates) :=
  h.nstrMatch.openUsers.queueCmd

theorem cutTrigger {r start room users ul rates} (h : Kept s₀ s) : Kept s₀ (s.cutTrigger r start room users ul rates) :=
  .ite h h.sendTrigger

theorem sendMu {r start mimo tones users rates} (h : Kept s₀ s) : Kept s₀ (s.sendMu r start mimo tones users rates) :=
  .ite h (queueCmd (openUsers (foldl (h.foldl (fun _ _ ht => ht.foldl (fun _ _ hu => hu.modMpdu)))
    (fun _ _ ht => ht.nstrPad))))

theorem countEmpty {r users silent} (h : Kept s₀ s) : Kept s₀ (s.countEmpty r users silent) := h.count

theorem refillDeficits {r cand} (h : Kept s₀ s) : Kept s₀ (s.refillDeficits r cand) :=
  .ite (h.foldl (fun _ _ ht => ht.setStaDeficit)) h

theorem runDown {r seg start room x} (h : Kept s₀ s) : Kept s₀ (s.runDown r seg start room x) := by
  unfold State.runDown
  extract_lets
  refine .ite h.modRnd ?_
  split
  · exact h.refillDeficits.sendMu.chargeSta
  · exact h.refillDeficits.sendMu.chargeSta

theorem runUp {r seg start room x} (h : Kept s₀ s) : Kept s₀ (s.runUp r seg start room x) :=
  .ite (.ite h.sendTrigger h.modRnd) h.refillDeficits.sendTrigger.countEmpty.chargeSta

theorem execSegmentStart {radio segment seg} (h : Kept s₀ s) : Completes s₀ (execSegmentStart radio segment seg s) := by
  unfold Machine.execSegmentStart
  refine whenWorks h ?_
  extract_lets
  refine .ite (.next h) ?_
  split
  · exact .next h.modRnd.runDown
  · exact .next h.modRnd.runUp
  · exact .next h.modRnd.count
  · exact .next h.modRnd.soundGroups
  · exact .next h.modRnd

theorem execTwtEntryWrite {entry value} (h : Kept s₀ s) : Completes s₀ (execTwtEntryWrite entry value s) := by
  unfold Machine.execTwtEntryWrite
  extract_lets
  refine .next (ownWrite h (fun _ ht => ?_))
  extract_lets
  refine .ite ht.refuse (.ite ht.wr (.ite ht.refuse (.ite ht.refuse ?_)))
  split
  · exact ht.conflict.refuse
  · exact ht.wr

theorem execTwtSpStart {entry ul rates} (h : Kept s₀ s) : Completes s₀ (execTwtSpStart entry ul rates s) :=
  h.whenWorks (.ite (.next h) (.ite (.next h.modRounds.cutTrigger) (.next h.modRounds)))

theorem execTwtMissed {entry sta} (h : Kept s₀ s) : Completes s₀ (execTwtMissed entry sta s) := by
  unfold Machine.execTwtMissed
  refine whenWorks h ?_
  extract_lets
  split
  · exact .next h
  · exact .ite (.next h) (.next h.count.modRounds)

theorem writeRsp {i q} (h : Kept s₀ s) : Kept s₀ (s.writeRsp i q) := h.wr.wr.wr.wr

theorem clearRsp {i} (h : Kept s₀ s) : Kept s₀ (s.clearRsp i) := h.wr.wr.wr.wr.modRounds

theorem execRspStart {index idle ul rates} (h : Kept s₀ s) : Completes s₀ (execRspStart index idle ul rates s) := by
  unfold Machine.execRspStart
  refine whenWorks h ?_
  extract_lets _ _ _ _ _ _ _ _ s2
  have h2 : Kept s₀ s2 := h.modRounds.count.modFlow
  refine .ite (.next h) (.ite (.next (.ite h2 h2.count)) ?_)
  split
  · exact .next (.ite h2 h2.count)
  · exact .ite (.next (cutTrigger (.ite h2 h2.count))) (.next (fillPpdu (.ite h2 h2.count)))

theorem setJoint {r st} (h : Kept s₀ s) : Kept s₀ (s.setJoint r st) := h.setFld

theorem leaveJoint {r last lost} (h : Kept s₀ s) : Kept s₀ (s.leaveJoint r last lost) := by
  unfold State.leaveJoint
  extract_lets s1
  have h1 : Kept s₀ s1 := h.setJoint.setFld.setFld.modRnd
  exact .ite h1.present h1

theorem writeJointCtrl {r c value} (h : Kept s₀ s) : Kept s₀ (s.writeJointCtrl r c value) := by
  unfold State.writeJointCtrl
  refine ownWrite h (fun _ ht => ?_)
  extract_lets
  refine .ite (.ite ht.refuse (.ite ht ht.setFld.modRnd)) (.ite ht.setFld.setFld (.ite ht.refuse ?_))
  split
  · refine refuse ?_
    split
    · exact ht.conflict
    · exact ht
  · exact ht.setFld.setFld.setFld.setJoint.modRnd

theorem execJoin {radio value} (h : Kept s₀ s) : Completes s₀ (execJoin radio value s) := .next h.writeJointCtrl

theorem execLeft {radio value} (h : Kept s₀ s) : Completes s₀ (execLeft radio value s) := .next h.writeJointCtrl

theorem syncPeers {r} (h : Kept s₀ s) : Kept s₀ (s.syncPeers r) := h.setFld.setFld.setFld

theorem execPeerBeaconRx {radio bssid attr} (h : Kept s₀ s) : Completes s₀ (execPeerBeaconRx radio bssid attr s) := by
  unfold Machine.execPeerBeaconRx
  extract_lets
  split
  · exact .next h
  · exact .ite (.next h) (.ite (.next h.modRnd.syncPeers.leaveJoint) (.next h.modRnd.syncPeers))

theorem armBoundary {r t} (h : Kept s₀ s) : Kept s₀ (s.armBoundary r t) := h.armTrigger

theorem enterHold {r} (h : Kept s₀ s) : Kept s₀ (s.enterHold r) := .ite h h.setJoint.count.modRnd

theorem evalJoint {r e} (h : Kept s₀ s) : Kept s₀ (s.evalJoint r e) :=
  .ite h.leaveJoint (.ite h.leaveJoint (.ite (.ite h.enterHold h) (.ite h.setJoint (.ite h.leaveJoint h.modRnd))))

theorem joiningBoundary {r t} (h : Kept s₀ s) : Kept s₀ (s.joiningBoundary r t).2 := by
  unfold State.joiningBoundary
  extract_lets
  split
  · split
    · exact h.setJoint.modRnd
    · exact h.leaveJoint
  · exact h

theorem startJoint {r} (h : Kept s₀ s) : Kept s₀ (s.startJoint r) := .ite h.setFld.modRnd h

theorem takeSwap {r} (h : Kept s₀ s) : Kept s₀ (s.takeSwap r) := by
  unfold State.takeSwap
  split
  · exact .ite h.setFld.setFld.modRnd h
  · exact h

theorem roundBoundary {r t late} (h : Kept s₀ s) : Kept s₀ (s.roundBoundary r t late) := by
  unfold State.roundBoundary
  refine .ite h.modRnd.armBoundary ?_
  extract_lets _ _ s2 _ s4 s5 len quiet e s6 c
  have h2 : Kept s₀ s2 := h.modRnd.setFld.wr64.count
  have h4 : Kept s₀ s4 := takeSwap (modRnd (.ite h2.count h2))
  have h5 : Kept s₀ s5 := startJoint (.ite h4.leaveJoint h4)
  have h6 : Kept s₀ s6 := h5.setFld.evalJoint
  have hquiet (u) (hu : Kept s₀ u) : Kept s₀ (quiet u) := .ite hu.count hu
  refine .ite ?_ (.ite (hquiet _ h6.armBoundary.modRnd.syncPeers) h5.armBoundary.syncPeers)
  split
  next hjoin => exact (h5.joiningBoundary.of_snd hjoin).armBoundary.syncPeers

theorem roundsStart {r was} (h : Kept s₀ s) : Kept s₀ (s.roundsStart r was) :=
  .ite h.modRnd.armBoundary (.ite h.setFld h)

theorem roundsSwitch {delta} (h : Kept s₀ s) : Kept s₀ (s.roundsSwitch delta) :=
  h.foldl (fun _ _ ht => .ite ht.enterHold ht)

theorem roundsDomain (h : Kept s₀ s) : Kept s₀ s.roundsDomain := .ite h (h.foldl (fun _ _ ht => .ite ht.enterHold ht))

/-! ### Radio -/

theorem dropAny {r} (h : Kept s₀ s) : Kept s₀ (s.dropAny r) := .ite h.ngDrop h.dropRx

theorem flowsLose {r why p} (h : Kept s₀ s) : Kept s₀ (s.flowsLose r why p) :=
  .ite h (h.foldl (fun _ _ ht => ht.flowLoses))

theorem synthWrite {r v} (h : Kept s₀ s) : Kept s₀ (s.synthWrite r v) := by
  unfold State.synthWrite
  extract_lets _ _ _ s2 s3
  have h2 : Kept s₀ s2 := .ite h.wr h.wr.modRadio
  have h3 : Kept s₀ s3 := .ite (.ite h2.ngDrop h2) (.ite h2.dropRx h2)
  exact .ite h.refuse (.ite h3.flowsLose h3)

theorem execSynthWrite {radio value} (h : Kept s₀ s) : Completes s₀ (execSynthWrite radio value s) :=
  .next (h.ownWrite (fun _ ht => ht.synthWrite))

theorem execRetuneStart {radio} (h : Kept s₀ s) : Completes s₀ (execRetuneStart radio s) :=
  h.whenWorks (.ite (.next h.dropAny.setFld.setFld.setFld.modRadio) (.next h))

theorem execRetuneDone {radio temp results} (h : Kept s₀ s) : Completes s₀ (execRetuneDone radio temp results s) :=
  h.whenWorks (.ite (.next (modRadio (setFld (setFld (setFld (.ite h h.calResults)))))) (.next h))

theorem cutAir {r} (h : Kept s₀ s) : Kept s₀ (s.cutAir r) := by
  unfold State.cutAir
  split
  · exact .ite (.ite h.modRadio (admitWaiting (h.modRadio.foldl (fun _ _ ht => ht.mpduFailed)))) h
  · exact h

theorem execRfUnlock {radio} (h : Kept s₀ s) : Completes s₀ (execRfUnlock radio s) :=
  h.whenWorks (.ite (.next h) (.next (present (modRadio (setFld (setFld (dropAny (.ite h.cutAir.count h))))))))

theorem execRadioStart {radio} (h : Kept s₀ s) : Completes s₀ (execRadioStart radio s) :=
  .ite (.next h.setFld.setFld.modRadio) (.next h)

theorem execCalDone {radio temp results} (h : Kept s₀ s) : Completes s₀ (execCalDone radio temp results s) :=
  h.whenWorks (.ite (.next h.calResults.setFld.setFld.setFld.modRadio) (.next h))

theorem calFull {r} (h : Kept s₀ s) : Kept s₀ (s.calFull r) := h.dropAny.setFld.setFld.modRadio

theorem execCalCmdFull {radio} (h : Kept s₀ s) : Completes s₀ (execCalCmdFull radio s) :=
  .next (h.ownWrite (fun _ ht => .ite ht.refuse (.ite ht ht.calFull)))

theorem execCalDue {radio temp} (h : Kept s₀ s) : Completes s₀ (execCalDue radio temp s) :=
  h.whenWorks (.ite (.next h.setFld.modRadio) (.next h))

theorem execCalTrack {radio temp results} (h : Kept s₀ s) : Completes s₀ (execCalTrack radio temp results s) :=
  h.whenWorks (.ite (.next h.dropAny.trackDone) (.next h))

theorem execRfCalOverdue {radio} (h : Kept s₀ s) : Completes s₀ (execRfCalOverdue radio s) :=
  h.whenWorks (.ite (.next h.setFld.modRadio.present) (.next h))

theorem chainEnWrite {r v} (h : Kept s₀ s) : Kept s₀ (s.chainEnWrite r v) :=
  .ite h.refuse (.ite h.refuse (flowsLose (.ite h.wr.evalEvm h.wr)))

theorem execChainEnWrite {radio value} (h : Kept s₀ s) : Completes s₀ (execChainEnWrite radio value s) :=
  .next (h.ownWrite (fun _ ht => ht.chainEnWrite))

theorem takeCmd {r c} (h : Kept s₀ s) : Kept s₀ (s.takeCmd r c) := h.modRadio

theorem mpduStarts {x} (h : Kept s₀ s) : Kept s₀ (s.mpduStarts x) := by
  unfold State.mpduStarts
  split
  · extract_lets _ _ _ s3 s4
    have h3 : Kept s₀ s3 := modMpdu (.ite h.count h.count.count)
    have h4 : Kept s₀ s4 := by
      unfold s4
      split
      · split
        · exact h3.airStart
        · exact h3
      · exact h3
    exact .ite h4.completeMpdu h4

theorem airBegins {r} (h : Kept s₀ s) : Kept s₀ (s.airBegins r) := by
  unfold State.airBegins
  split
  · exact h
  · exact .ite h (h.modRadio.foldl (fun _ _ ht => .ite ht.completeMpdu ht.modMpdu))

theorem chargeRsp {r t0 ticks} (h : Kept s₀ s) : Kept s₀ (s.chargeRsp r t0 ticks) := by
  unfold State.chargeRsp
  split
  · exact h.modRounds
  · exact h

theorem deafen {r} (h : Kept s₀ s) : Kept s₀ (s.deafen r) := .ite h (.ite (.ite h.count.ngDrop h) (.ite h.dropRx h))

theorem watchListens {k t1} (h : Kept s₀ s) : Kept s₀ (s.watchListens k t1) := by
  unfold State.watchListens
  split
  · exact .ite h.upd h
  · exact h

theorem countTrigger {r k} (h : Kept s₀ s) : Kept s₀ (s.countTrigger r k) := by
  unfold State.countTrigger
  split
  · exact h.count
  · exact h.count
  · exact h

theorem usersServed {k stop} (h : Kept s₀ s) : Kept s₀ (s.usersServed k stop) := by
  unfold State.usersServed
  split
  · exact h
  · exact h.emlsrLock

theorem txStart {r c t0 dur rate} (h : Kept s₀ s) : Kept s₀ (s.txStart r c t0 dur rate) := by
  unfold State.txStart
  extract_lets s1
  have h1 : Kept s₀ s1 := h.takeCmd.modRadio.deafen
  exact .ite h1.ngAirStart (admitWaiting (foldl (countTrigger
    (watchListens (usersServed (.ite h1.count.chargeRsp.count h1.count.chargeRsp)))) (fun _ _ ht => ht.mpduStarts)))

theorem txOff {r c} (h : Kept s₀ s) : Kept s₀ (s.txOff r c) := h.withdraw.closeUsers

theorem txLate {r c} (h : Kept s₀ s) : Kept s₀ (s.txLate r c) := .ite h.count.takeCmd.ngAirLate h.count.txOff

theorem txRefused {r c cap} (h : Kept s₀ s) : Kept s₀ (s.txRefused r c cap) :=
  h.takeCmd.closeUsers.foldl (fun _ _ ht => .ite ht.modMpdu ht.completeMpdu)

theorem offerRates {r t0 c ts cap} (h : Kept s₀ s) : Kept s₀ (s.offerRates r t0 c ts cap).2.2 := by
  induction ts generalizing s cap with
  | nil => exact h
  | cons t ts ih =>
    unfold State.offerRates
    split
    · exact ih h
    · split
      · exact h
      · exact ih h.count

theorem icfStart {r c t0 rate} (h : Kept s₀ s) : Kept s₀ (s.icfStart r c t0 rate) := h.takeCmd.queueCmd.txStart

/-- The state that a rate offered leaves. -/
theorem of_offerRates {r t0 c ts cap o cap'} {t : State} (h : Kept s₀ s)
    (e : s.offerRates r t0 c ts cap = (o, cap', t)) : Kept s₀ t :=
  h.offerRates.of_snd (p := (s.offerRates r t0 c ts cap).2) (congrArg Prod.snd e)

theorem txGo {r c t0} (h : Kept s₀ s) : Kept s₀ (s.txGo r c t0) := by
  unfold State.txGo
  refine .ite (.ite h.takeCmd.ngAirCap h.txStart) (.ite ?_ ?_)
  · split
    · next e => exact (h.of_offerRates e).icfStart
    · next e => exact (h.of_offerRates e).txRefused
  · split
    · next e => exact (h.of_offerRates e).txStart
    · next e => exact (h.of_offerRates e).txRefused

theorem txTimed {r c t0} (h : Kept s₀ s) : Kept s₀ (s.txTimed r c t0) := by
  unfold State.txTimed
  refine .ite h.txGo ?_
  split
  · exact h.txOff
  · exact txGo (modRadio (.ite h h.usersLeave))

theorem execTxReady {radio} (h : Kept s₀ s) : Completes s₀ (execTxReady radio s) := by
  unfold Machine.execTxReady
  extract_lets
  split
  · exact .next h
  · exact .ite (.ite (.next h) (.next h.txLate)) (.ite (.next h.txLate) (.next h.txTimed))

theorem execTxUntimedReady {radio energy} (h : Kept s₀ s) : Completes s₀ (execTxUntimedReady radio energy s) := by
  unfold Machine.execTxUntimedReady
  extract_lets
  split
  · exact .next h
  · exact .ite (.next h) (.next h.txGo)

theorem execDozeStart {radio} (h : Kept s₀ s) : Completes s₀ (execDozeStart radio s) := by
  unfold Machine.execDozeStart
  refine whenWorks h ?_
  extract_lets
  split
  · exact .next h
  · exact .ite (.next h.dropRx.setFld) (.next h)

theorem execDozeEnd {radio} (h : Kept s₀ s) : Completes s₀ (execDozeEnd radio s) :=
  h.whenWorks (.ite (.next h.setFld.modRadio) (.next h))

end Kept

end Sys2Proof.Machine
end

section
/-! SUPPORT. What every command keeps, said of each function of the model in the order of its files.
Egress, flows, sealing, tables, faults and time. -/

namespace Sys2Proof.Machine

variable {s₀ s : State}

namespace Kept

/-! ### Tm -/

theorem applyShapers (h : Kept s₀ s) : Kept s₀ s.applyShapers := modTm (h.foldl (fun _ _ ht => ht.modTm.setShTokens))

theorem applyPolicers (h : Kept s₀ s) : Kept s₀ s.applyPolicers := modTm (h.foldl (fun _ _ ht => ht.modTm.setPol))

theorem refillShaper {n i} (h : Kept s₀ s) : Kept s₀ (s.refillShaper n i) := .ite h.setShTokens h

theorem refillPolicer {n p} (h : Kept s₀ s) : Kept s₀ (s.refillPolicer n p) := .ite h.setPol h

theorem refill (h : Kept s₀ s) : Kept s₀ s.refill :=
  .ite h (modTm (foldl (h.applyShapers.applyPolicers.foldl (fun _ _ ht => ht.refillShaper))
    (fun _ _ ht => ht.refillPolicer)))

theorem execRefill (h : Kept s₀ s) : Completes s₀ (execRefill s) := h.whenWorks (.next h.refill)

theorem execTmEnqueue (h : Kept s₀ s) : Completes s₀ (execTmEnqueue s) := by
  unfold Machine.execTmEnqueue
  split
  · exact .next h
  · exact .ite (.next h.refill.modTm.enqueuePkt) (.next h)

theorem commitShaper {i v} (h : Kept s₀ s) : Kept s₀ (s.commitShaper i v) := by
  unfold State.commitShaper
  extract_lets
  split
  · exact h.refill.refuse
  · exact h.refill.wr.modTm

theorem commitPolicer {p v} (h : Kept s₀ s) : Kept s₀ (s.commitPolicer p v) := by
  unfold State.commitPolicer
  extract_lets
  split
  · exact h.refill.refuse
  · exact h.refill.wr.modTm

theorem execShaperCommit {policer index value} (h : Kept s₀ s) : Completes s₀
    (execShaperCommit policer index value s) :=
  .ite (.next (h.ownWrite (fun _ ht => ht.commitPolicer))) (.next (h.ownWrite (fun _ ht => ht.commitShaper)))

theorem commitQueue {q v} (h : Kept s₀ s) : Kept s₀ (s.commitQueue q v) := by
  unfold State.commitQueue
  extract_lets
  split
  · exact h.refuse
  · exact h.wr.modTm

theorem execQueueCommit {queue value} (h : Kept s₀ s) : Completes s₀ (execQueueCommit queue value s) :=
  .next (h.ownWrite (fun _ ht => ht.commitQueue))

theorem commitEgmap {i v} (h : Kept s₀ s) : Kept s₀ (s.commitEgmap i v) := .ite h.wr.modTm h.refuse

theorem execEgmapCommit {entry value} (h : Kept s₀ s) : Completes s₀ (execEgmapCommit entry value s) :=
  .next (h.ownWrite (fun _ ht => ht.commitEgmap))

theorem execFloodCommit {group value} (h : Kept s₀ s) : Completes s₀ (execFloodCommit group value s) :=
  .next (h.ownWrite (fun _ ht => ht.wr.modTm))

theorem flushCmd {q} (h : Kept s₀ s) : Kept s₀ (s.flushCmd q) :=
  .ite h.refuse (.ite h.setFld.refuse h.flushQueue.setFld.setFld)

theorem execQueueFlush {queue} (h : Kept s₀ s) : Completes s₀ (execQueueFlush queue s) :=
  .next (h.ownWrite (fun _ ht => ht.flushCmd))

theorem sampleQueue {q} (h : Kept s₀ s) : Kept s₀ (s.sampleQueue q) := .ite h.hwRecord.modTm h.hwRecord.modTm.count

theorem execSampleWalk (h : Kept s₀ s) : Completes s₀ (execSampleWalk s) := by
  unfold Machine.execSampleWalk
  refine whenWorks h ?_
  split
  · exact .ite (.next h) (.next (h.countIf.modTm.foldl (fun _ _ ht => ht.sampleQueue)))
  · exact .next h

theorem execMaxDelayRead {queue} (h : Kept s₀ s) : Completes s₀ (execMaxDelayRead queue s) :=
  .next (h.ownAccess (fun _ ht => ht.wr.answer))

/-! ### Egress -/

theorem dropLate {egress q n} (h : Kept s₀ s) : Kept s₀ (s.dropLate egress q n) := by
  induction n generalizing s with
  | zero => exact h
  | succ n ih =>
    unfold State.dropLate
    split
    · exact .ite (ih h.dropHead) h
    · exact h

theorem serve {m regs free} (h : Kept s₀ s) : Kept s₀ (s.serve m regs free) := by
  unfold State.serve
  extract_lets qs
  split
  · exact h.handOver
  · split
    · next e => exact (h.chooseQueue e).handOver
    · exact h

theorem serveEmac {p} (h : Kept s₀ s) : Kept s₀ (s.serveEmac p) := by
  unfold State.serveEmac
  refine .ite h (.ite (startTx (serve (h.foldl (fun _ _ ht => ht.dropLate)))) (.ite ?_ h))
  extract_lets
  split
  · exact h.serve.finishHanded.count.regLost
  · exact h.serve

theorem serveRing {e} (h : Kept s₀ s) : Kept s₀ (s.serveRing e) := by
  unfold State.serveRing
  extract_lets _ _ _ s1
  have h1 : Kept s₀ s1 := h.foldl (fun _ _ ht => ht.dropLate)
  exact .ite h (.ite h1.serve h1)

theorem readBuf {upset} {t} (_h : Kept s₀ s) (h' : Kept s₀ t) : Kept s₀ (s.readBuf t upset) := by
  unfold State.readBuf
  split
  · exact .ite (.ite h'.dramError.finishHanded h'.dramError) h'
  · exact .ite h'.finishHanded.regLost h'
  · exact h'

theorem serveFw {upset} (h : Kept s₀ s) : Kept s₀ (s.serveFw upset) := by
  unfold State.serveFw
  extract_lets
  split
  · exact finishHanded (modTm (h.readBuf h.serve))
  · exact h.readBuf h.serve

theorem execEgressReady {egress tid upset} (h : Kept s₀ s) : Completes s₀ (execEgressReady egress tid upset s) := by
  unfold Machine.execEgressReady
  extract_lets
  refine .ite (.next h) ?_
  split
  · exact .next (.ite (h.refill.readBuf h.refill.serveEmac) h.refill)
  · exact .next (.ite (h.refill.readBuf h.refill.serveRing) h.refill)
  · exact .next (h.refill.readBuf h.refill.serve)
  · exact .next (h.refill.readBuf h.refill.serve)
  · exact .next (h.refill.readBuf h.refill.serve)
  · exact .next h.refill.serveFw
  · exact .next h.refill

/-! ### RegAdmit -/

/-- Both ways in which a question to ROUNDS ends. -/
theorem askRounds {base f a ls got} (h : Kept s₀ s) (hbase : Kept s₀ base) :
    (s.askRounds base f a ls got).elim (fun x => Kept s₀ x.2) (Kept s₀) := by
  induction ls generalizing s got with
  | nil => exact h
  | cons l ls ih =>
    unfold State.askRounds
    extract_lets q
    split
    · exact hbase.conflict
    · exact hbase
    · exact ih h.writeRsp

theorem of_askRounds_inl {base f a ls got x} (h : Kept s₀ s) (hbase : Kept s₀ base)
    (e : s.askRounds base f a ls got = .inl x) : Kept s₀ x.2 := by
  have hasked := h.askRounds hbase (f := f) (a := a) (ls := ls) (got := got)
  rw [e] at hasked
  exact hasked

theorem of_askRounds_inr {base f a ls got t} (h : Kept s₀ s) (hbase : Kept s₀ base)
    (e : s.askRounds base f a ls got = .inr t) : Kept s₀ t := by
  have hasked := h.askRounds hbase (f := f) (a := a) (ls := ls) (got := got)
  rw [e] at hasked
  exact hasked

theorem reserveQueue {q eg tid lmax limit} (h : Kept s₀ s) : Kept s₀ (s.reserveQueue q eg tid lmax limit) :=
  h.wr.wr.wr.wr.modTm

theorem freeQueue {q} (h : Kept s₀ s) : Kept s₀ (s.freeQueue q) := h.flushQueue.wr.wr.wr.wr.modTm

theorem syncReserves (h : Kept s₀ s) : Kept s₀ s.syncReserves := h.setFld.syncPool.setReserve.setFld.setFld.setFld

theorem regResult {r} (h : Kept s₀ s) : Kept s₀ (s.regResult r) := h.setFld

theorem admitFlow {f a ws rsps} (h : Kept s₀ s) : Kept s₀ (s.admitFlow f a ws rsps) := by
  unfold State.admitFlow
  extract_lets _ _ _ _ _ s4
  have h4 : Kept s₀ s4 := h.modReg.setFld.setFld.setFld.setFld.wr.wr.wr.reserveQueue
  exact syncReserves (.ite h4.reserveQueue h4)

theorem admitCmd {f ws} (h : Kept s₀ s) : Kept s₀ (s.admitCmd f ws) := by
  unfold State.admitCmd
  extract_lets a others bound q x comp fs units t
  split
  · exact h.wrList.regResult
  · have ht : Kept s₀ t := h.wrList
    refine .ite ht.regResult (.ite ht.regResult (.ite ht.regResult (.ite ht.regResult (.ite ht.regResult ?_))))
    split
    · next e => exact (ht.of_askRounds_inr ht e).regResult
    · next e => exact (ht.of_askRounds_inl ht e).admitFlow.regResult

/-! ### Regsvc -/

theorem flowCmd {c f} (h : Kept s₀ s) (hf : ∀ t, Kept s₀ t → Kept s₀ (f t)) : Kept s₀ (s.flowCmd c f) :=
  h.ownWrite fun _ ht => .ite ht.refuse (hf _ ht).setFld

theorem execFlowAdmit {flow} (h : Kept s₀ s) : Completes s₀ (execFlowAdmit flow s) :=
  .next (h.flowCmd (fun _ ht => ht.admitCmd))

theorem execFlowRelease {flow} (h : Kept s₀ s) : Completes s₀ (execFlowRelease flow s) :=
  .next (h.flowCmd (fun _ ht => .ite ht.setFld.regResult ht.regResult))

theorem execFlowRead {flow} (h : Kept s₀ s) : Completes s₀ (execFlowRead flow s) :=
  .next (h.flowCmd (fun _ ht => .ite ht.regResult ht.wrList.wrList.setFld.wr.wr.modFlow.regResult))

theorem execFlowFreed {flow} (h : Kept s₀ s) : Completes s₀ (execFlowFreed flow s) :=
  h.whenWorks (.ite (.next h) (.next (syncReserves (setFld (foldl (h.foldl (fun _ _ ht => ht.clearRsp))
    (fun _ _ ht => ht.freeQueue))))))

theorem takeFnum {f} (h : Kept s₀ s) : Kept s₀ (s.takeFnum f).2 := h.setFld

theorem bookFails {f id deadline why} (h : Kept s₀ s) : Kept s₀ (s.bookFails f id deadline why) := h.takeFnum.outcome

theorem regToTm {p f n q} (h : Kept s₀ s) : Kept s₀ (s.regToTm p f n q) := h.modTm

theorem bookFrame {f id deadline tries copies} (h : Kept s₀ s) : Kept s₀ (s.bookFrame f id deadline tries copies) :=
  h.takeFnum.modReg.syncRecs.foldl (fun _ _ ht => ht.regToTm)

theorem bookDown {f id deadline a p} (h : Kept s₀ s) : Kept s₀ (s.bookDown f id deadline a p) :=
  .ite h.bookFails h.bookFrame

theorem bookUp {f deadline a p} (h : Kept s₀ s) : Kept s₀ (s.bookUp f deadline a p) :=
  .ite h.bookFails (.ite h.modFlow.bookFrame h.bookFrame)

theorem bookNew {f id a p} (h : Kept s₀ s) : Kept s₀ (s.bookNew f id a p) :=
  .ite h.bookFails (.ite h.bookUp h.bookDown)

theorem execBooking (h : Kept s₀ s) : Completes s₀ (execBooking s) := by
  unfold Machine.execBooking
  split
  · exact .next h
  · refine .ite (.next h) ?_
    extract_lets
    refine .ite (.next h.modReg.count) (.ite (.next h.modReg.bookFails) (.ite ?_ (.next h.modReg.bookNew)))
    split
    · exact .next h.modReg.modFlow.count.bookNew
    · exact .next h.modReg.count
    · exact .next h.modReg.count

theorem execFrerReset {flow} (h : Kept s₀ s) : Completes s₀ (execFrerReset flow s) := .ite (.next h.modFlow) (.next h)

theorem regUnqueue {f n} (h : Kept s₀ s) : Kept s₀ (s.regUnqueue f n) :=
  h.foldl (fun _ _ ht => .ite ht (ht.setQ.foldl (fun _ _ hu => hu.releaseBuf)))

theorem tryEnds {f n k} (h : Kept s₀ s) : Kept s₀ (s.tryEnds f n k) :=
  .ite h.airLinkEnds.regUnqueue.dropReg h.airLinkEnds

theorem upEnds {f start} (h : Kept s₀ s) : Kept s₀ (s.upEnds f start) := by
  unfold State.upEnds
  extract_lets _ _ _ _ _ s1
  have h1 : Kept s₀ s1 := by
    unfold s1
    split
    · exact .ite (moveWin (h.foldl (fun _ _ ht => ht.outcome))) h
    · exact h
  exact .ite h1 h1.emitRecord

theorem execOccurrenceEnd {index} (h : Kept s₀ s) : Completes s₀ (execOccurrenceEnd index s) := by
  unfold Machine.execOccurrenceEnd
  refine whenWorks h ?_
  extract_lets
  split
  · exact .next h
  · exact .ite (.next h) (.ite (.next h.modRounds.upEnds) (.next (h.modRounds.foldl (fun _ _ ht => ht.tryEnds))))

theorem execFrameDeadline {flow fnum} (h : Kept s₀ s) : Completes s₀ (execFrameDeadline flow fnum s) := by
  unfold Machine.execFrameDeadline
  refine whenWorks h ?_
  extract_lets
  split
  · exact .next h
  · exact .ite (.next h) (.ite (.next h.endFrame.regUnqueue) (.next h.count.present.endFrame.regUnqueue.dropReg))

theorem execOutcomeRecord (h : Kept s₀ s) : Completes s₀ (execOutcomeRecord s) := by
  unfold Machine.execOutcomeRecord
  refine whenWorks h ?_
  split
  · exact .next h
  · exact .ite (.next h.setOutq.hwRecord) (.next h)

/-! ### Seal -/

theorem randomBytes {n} (h : Kept s₀ s) : Kept s₀ (s.randomBytes n).2 := h.upd

theorem takePn {d} (h : Kept s₀ s) : Kept s₀ (s.takePn d).2 := by
  unfold State.takePn
  extract_lets
  split
  · exact h.count
  · split
    · exact h.setTxPn
    · split
      · exact h.count
      · split
        · exact h
        · exact h.setTxPn

theorem inflight {n} (h : Kept s₀ s) : Kept s₀ (s.inflight n) := h.setKeySlot

theorem sealKeyed {d} (h : Kept s₀ s) : Kept s₀ (s.sealKeyed d).2 := by
  unfold State.sealKeyed
  extract_lets
  split
  · split
    · next _ _ e => exact (h.takePn.of_snd e)
    · next _ _ e => exact (h.takePn.of_snd e).inflight
  · exact h.inflight

theorem sealDerive {d} (h : Kept s₀ s) : Kept s₀ (s.sealDerive d).2 := h.inflight

theorem sealCreate {d} (h : Kept s₀ s) : Kept s₀ (s.sealCreate d).2 := by
  unfold State.sealCreate
  extract_lets
  split
  · exact h
  · split
    next _ _ e =>
      have h1 := h.randomBytes.of_snd e
      exact h1

theorem sealPlan {d} (h : Kept s₀ s) : Kept s₀ (s.sealPlan d).2 := by
  unfold State.sealPlan
  extract_lets
  split
  · exact h.count
  · split
    · exact h
    · split
      · exact h
      · split
        · exact h
        · split
          · exact h
          · split
            · split
              · exact h
              · split
                · exact h.sealDerive
                · exact h.sealKeyed
            · split
              · exact h
              · split
                · exact h.sealCreate
                · split
                  · split
                    · exact h
                    · exact h
                  · split
                    next _ _ e =>
                      have h1 := h.randomBytes.of_snd e
                      split
                      · exact h
                      · exact h1

theorem sealTake (h : Kept s₀ s) : Kept s₀ s.sealTake :=
  .ite (.ite (.ite h h.logDma) (count (upd (.ite h h.logDma)))) (setFld (upd (sealPlan (.ite h h.logDma))))

theorem sealCommand {op} (h : Kept s₀ s) : Kept s₀ (s.sealCommand op) := .ite h.sealTake h

theorem execEncrypt (h : Kept s₀ s) : Completes s₀ (execEncrypt s) := .next h.sealCommand

theorem execDecrypt (h : Kept s₀ s) : Completes s₀ (execDecrypt s) := .next h.sealCommand

theorem execMac (h : Kept s₀ s) : Completes s₀ (execMac s) := .next h.sealCommand

theorem execVerify (h : Kept s₀ s) : Completes s₀ (execVerify s) := .next h.sealCommand

theorem execHash (h : Kept s₀ s) : Completes s₀ (execHash s) := .next h.sealCommand

theorem execDerive (h : Kept s₀ s) : Completes s₀ (execDerive s) := .next h.sealCommand

theorem execSealCreate (h : Kept s₀ s) : Completes s₀ (execSealCreate s) := .next h.sealCommand

theorem execAttest (h : Kept s₀ s) : Completes s₀ (execAttest s) := .next h.sealCommand

theorem execRandom (h : Kept s₀ s) : Completes s₀ (execRandom s) := .next h.sealCommand

theorem execChangeLanded (h : Kept s₀ s) : Completes s₀ (execChangeLanded s) := by
  unfold Machine.execChangeLanded
  refine whenWorks h ?_
  extract_lets
  split
  · exact .ite (.next (.ite h.landChange.sealTake h.landChange)) (.next h)
  · exact .ite (.next (.ite h.landZeroise.sealTake h.landZeroise)) (.next (.ite h (.ite h.sealTake h)))

theorem sealFinish {o} (h : Kept s₀ s) : Kept s₀ (s.sealFinish o) := by
  unfold State.sealFinish
  extract_lets _ _ _ s3 s4 s5
  have h3 : Kept s₀ s3 := setFld (setFld (dmaWrite (.ite h h.dmaWrite)))
  have h4 : Kept s₀ s4 := by
    unfold s4
    split
    · exact h3.setKeySlot
    · exact h3
  have h5 : Kept s₀ s5 := by
    unfold s5
    split
    · exact h4.beginChange
    · exact h4
  exact raise (.ite h5.upd.setFld.count.count h5.upd.setFld.count)

theorem execSealCompletion (h : Kept s₀ s) : Completes s₀ (execSealCompletion s) := by
  unfold Machine.execSealCompletion
  refine whenWorks h ?_
  split
  · exact .next h
  · exact .ite (.next h) (.next h.sealFinish)

theorem abortSeal (h : Kept s₀ s) : Kept s₀ s.abortSeal := by
  unfold State.abortSeal
  extract_lets
  split
  · exact .ite h.sealFinish (upd (.ite h h.dmaWrite))
  · exact .ite (.ite h.sealFinish (upd (.ite h h.dmaWrite))) h

theorem keyEcc {n double} (h : Kept s₀ s) : Kept s₀ (s.keyEcc n double) := by
  unfold State.keyEcc
  refine .ite h.count ?_
  extract_lets s1
  have h1 : Kept s₀ s1 := by
    unfold s1
    split
    · exact .ite h (.ite h.sealFinish h.upd)
    · exact h
  exact present (.ite h1.upd h1.setKeySlot)

theorem execEntropy (h : Kept s₀ s) : Completes s₀ (execEntropy s) := h.whenWorks (.next h.setFld.setFld.present)

theorem execHealthOk (h : Kept s₀ s) : Completes s₀ (execHealthOk s) := h.whenWorks (.next h.setFld)

theorem lcResult {r} (h : Kept s₀ s) : Kept s₀ (s.lcResult r) := h.setFld.setFld

theorem powerLost (h : Kept s₀ s) : Kept s₀ s.powerLost := h.coldBase.upd

theorem trimGrant (h : Kept s₀ s) : Kept s₀ s.trimGrant := .ite h h.endGrant

/-- IDSEED, and the owner hash after it, are blown only where neither has been (R595). -/
theorem execProvision {vpp cut} (h : Kept s₀ s) : Completes s₀ (execProvision vpp cut s) := by
  refine .next (h.ownWrite fun u hu => ?_)
  split
  · exact hu.lcResult
  · next hlc =>
    refine .ite hu.lcResult (.ite hu.lcResult ?_)
    split
    · exact hu.lcResult
    · next hblank =>
      obtain ⟨hseed, hhash⟩ := not_or.mp hblank
      have hnone : u.fuses.idSeed ≠ none → False := fun hs => hseed (Option.isSome_iff_ne_none.mpr hs)
      have hblow (lc : Nat) (hle : u.fuses.lcBits ≤ lc) :
          Kept s₀ { u with keys := { u.keys with drawn := u.keys.drawn + 1 }, fuses :=
            { u.fuses with idSeed := some (Config.random u.keys.drawn), ownerHash := u.stagedHash, hashBlown := true,
                           lcBits := lc } } :=
        hu.upd.blow ⟨le_rfl, le_rfl, le_rfl, le_rfl, hle, id, fun hs => (hnone hs).elim, fun hb => (hhash hb).elim⟩
      split
      · exact powerLost (hu.upd.blow
          ⟨le_rfl, le_rfl, le_rfl, le_rfl, le_rfl, id, fun hs => (hnone hs).elim, fun hb => ⟨hb, rfl⟩⟩)
      · exact (hblow _ le_rfl).powerLost
      · exact (hblow 1 ((not_not.mp hlc).trans_le (Nat.zero_le 1))).showFuses.trimGrant.lcResult

/-- More life-cycle bits. -/
theorem onlyBlown_lcBits (f : Fuses) {n : Nat} (hle : f.lcBits ≤ n) : f.onlyBlown { f with lcBits := n } :=
  ⟨le_rfl, le_rfl, le_rfl, le_rfl, hle, id, fun _ => rfl, fun hb => ⟨hb, rfl⟩⟩

theorem execDeploy {vpp} (h : Kept s₀ s) : Completes s₀ (execDeploy vpp s) := by
  refine .next (h.ownWrite fun u hu => ?_)
  split
  · exact hu.lcResult
  · next hlc =>
    have hle : u.fuses.lcBits ≤ 2 := (not_not.mp hlc).trans_le (Nat.le_succ 1)
    exact .ite hu.lcResult (hu.blow (onlyBlown_lcBits _ hle)).showFuses.trimGrant.lcResult

theorem dbgResult {r} (h : Kept s₀ s) : Kept s₀ (s.dbgResult r) := h.setFld

theorem execNewChal (h : Kept s₀ s) : Completes s₀ (execNewChal s) :=
  h.whenWorks (.ite (.next h.dbgResult) (.next h.wrWords.upd.dbgResult))

/-- A retirement kills the identity and blows life-cycle bits. -/
theorem onlyBlown_retired (f : Fuses) {n : Nat} (hle : f.lcBits ≤ n) :
    f.onlyBlown { f with idKilled := true, lcBits := n } :=
  ⟨le_rfl, le_rfl, le_rfl, le_rfl, hle, fun _ => rfl, fun _ => rfl, fun hb => ⟨hb, rfl⟩⟩

/-- The life-cycle bits that a retirement asks for are no fewer than those blown before (R594, R595). -/
theorem retire {bits cut} (h : Kept s₀ s) (hbits : s.fuses.lcBits ≤ bits) : Kept s₀ (s.retire bits cut) := by
  unfold State.retire
  extract_lets s1
  have h1 : Kept s₀ s1 := h.upd.count
  have hbits1 : s1.fuses.lcBits ≤ bits := hbits
  split
  · exact (h1.blow (onlyBlown_retired _ (le_min hbits1 (Nat.le_add_right _ _)))).powerLost
  · exact (h1.blow (onlyBlown_retired _ hbits1)).showFuses.trimGrant.hideIdentity.setFld

/-- A SUBMIT that passes its checks asks for an action that the life cycle allows (R593). -/
theorem actionAllowed_of_submitFault (h : s.submitFault = none) :
    actionAllowed s.fuses.lcBits (leNat (s.mail 0 1)) = true := by
  unfold State.submitFault at h
  extract_lets msg fresh at h
  split at h
  · cases h
  · split at h
    · cases h
    · split_ifs at h with _ _ hallow
      exact hallow

/-- Retirement and scrapping are allowed only below the life-cycle bits that they blow (R594). -/
theorem lcBits_le_of_actionAllowed {lc action : Nat} (h : actionAllowed lc action = true)
    (ha : action = 8 ∨ action = 9) :
    lc ≤ if action = 8 then 3 else 4 := by
  unfold actionAllowed at h
  obtain rfl | rfl := ha
  · have hlc : lc = 1 ∨ lc = 2 := of_decide_eq_true h
    simp only [if_true]
    omega
  · exact (of_decide_eq_true h).le

theorem execSubmit {vpp cut} (h : Kept s₀ s) : Completes s₀ (execSubmit vpp cut s) := by
  refine h.whenUp ?_
  extract_lets _ used fails _ fail action
  have hused : Kept s₀ used := h.upd.setFld
  have hfail (r : Nat) : Kept s₀ (fail r) := hused.upd.setFld.dbgResult
  refine .ite (.next h.refuse) (.ite (.next (hfail 6)) ?_)
  split
  · next r _ => exact .next (hfail r)
  · next hpass =>
    split
    · next hact =>
      have hbits : used.fuses.lcBits ≤ if action = 8 then 3 else 4 :=
        lcBits_le_of_actionAllowed (actionAllowed_of_submitFault hpass) hact
      exact .ite (.next hused.dbgResult) (.ite (.next (hused.retire hbits)) (.next (hused.retire hbits).dbgResult))
    · exact .ite (.next hused.upd.askZeroise.dbgResult) (.next hused.grant.dbgResult)

theorem execDrop (h : Kept s₀ s) : Completes s₀ (execDrop s) := h.whenUp (.next h.endGrant)

/-! ### FaultOps -/

theorem modFlt {f} (h : Kept s₀ s) : Kept s₀ (s.modFlt f) := h.upd

theorem faultNotify (h : Kept s₀ s) : Kept s₀ s.faultNotify := h.raise

theorem remember {e} (h : Kept s₀ s) : Kept s₀ (s.remember e) := h.modFlt

theorem logFault {e perm action} (h : Kept s₀ s) : Kept s₀ (s.logFault e perm action) := by
  unfold State.logFault
  extract_lets _ _ _ _ s1 s2
  have h1 : Kept s₀ s1 := setFld (h.foldl (fun _ _ ht => ht.wr))
  have h2 : Kept s₀ s2 := .ite h1.setFld.count h1
  exact .ite h2.setFld (setFld (h2.foldl (fun _ _ ht => ht.wr)))

theorem retireResult {r} (h : Kept s₀ s) : Kept s₀ (s.retireResult r) := h.setFld

theorem syncRetire (h : Kept s₀ s) : Kept s₀ s.syncRetire := h.setFld

theorem moveAffinity {c spare} (h : Kept s₀ s) : Kept s₀ (s.moveAffinity c spare) :=
  h.foldl (fun _ _ ht => .ite ht.setFld ht)

theorem faultThread {c} (h : Kept s₀ s) : Kept s₀ (s.faultThread c) := by
  unfold State.faultThread
  split
  · exact .ite h.modCore h.suspend.setFld.modCore.supItem
  · exact h

theorem retireCore {c} (h : Kept s₀ s) : Kept s₀ (s.retireCore c) := by
  unfold State.retireCore
  extract_lets _ _ _ s3
  have h3 : Kept s₀ s3 := h.faultThread.setFld.setFld.moveAffinity.syncCore.count
  exact .ite h3.modFlt.syncRetire h3.modFlt.retireResult.present

theorem swEntryHook (h : Kept s₀ s) : Kept s₀ s.swEntryHook := .ite h.modFlt.syncRetire h

theorem retireBank {b} (h : Kept s₀ s) : Kept s₀ (s.retireBank b) := by
  unfold State.retireBank
  split
  · exact h.wr.count.syncRetire
  · exact .ite h.retireResult h.retireResult.modFlt.present

theorem stopRadio {r} (h : Kept s₀ s) : Kept s₀ (s.stopRadio r) := h.cutAir.dropAny.foldl (fun _ _ ht => ht.txLate)

theorem abortBegins {f} (h : Kept s₀ s) : Kept s₀ (s.abortBegins f) := .ite h.stopRadio (.ite h.suspend h)

theorem quiesce {f} (h : Kept s₀ s) : Kept s₀ (s.quiesce f) := by
  unfold State.quiesce
  split
  · split
    · exact .ite h.abortSeal h
    · exact h.abortThread
    · split
      · exact h.flushQueue.raiseUnit
      · exact h.abortRing
      · exact h.abortRing
      · exact h.abortFifo
    · exact h.stopEngine.raiseUnit
    · exact h.abortPort
    · exact raiseUnit (.ite h.stopRadio h.stopRadio.calFull)
    · exact h.abortDramc

theorem abortStart {f} (h : Kept s₀ s) : Kept s₀ (s.abortStart f) := h.modFlt.setFld.setFld.abortBegins

theorem setAbortQ {q} (h : Kept s₀ s) : Kept s₀ (s.setAbortQ q) := h.modFlt.setFld

theorem faultAbort {f inj} (h : Kept s₀ s) : KeptOpt s₀ (s.faultAbort f inj) := by
  unfold State.faultAbort
  refine .ite .none ?_
  split
  · exact .some h.abortStart
  · exact .ite (.some h) (.ite .none (.some h.setAbortQ))

theorem abortEnds {f forced} (h : Kept s₀ s) : Kept s₀ (s.abortEnds f forced) := by
  unfold State.abortEnds
  extract_lets _ s2
  have h2 : Kept s₀ s2 := h.quiesce.modFlt.setFld.setFld.setFld
  split
  · exact h2
  · exact h2.setAbortQ.abortStart

theorem reactStarts {src unit} (h : Kept s₀ s) : Kept s₀ (s.reactStarts src unit) := h.modFlt

theorem retireUnit {src unit} (h : Kept s₀ s) : KeptOpt s₀ (s.retireUnit src unit) := by
  unfold State.retireUnit
  refine .ite (.ite (.some (.ite h.retireCore.reactStarts h.retireCore)) .none)
    (.ite ?_ (.ite (.ite (.some h.chainEnWrite.count.retireResult) .none) (.ite (.ite
    (.some h.retireEngine.count.retireResult) .none) .none)))
  split
  · exact .ite .none (.ite (.some h.retireBank.reactStarts) (.some h.retireBank))
  · exact .none

theorem react {e code} (h : Kept s₀ s) : Kept s₀ (s.react e code).2 := by
  unfold State.react
  split
  · exact h
  · split
    · exact h.faultNotify
    · split
      · exact h.setAbortQ.modFlt.faultNotify
      · split
        · split
          · next t ht => exact (h.retireUnit t ht).faultNotify
          · exact h.faultNotify
        · split
          · next t ht =>
            obtain ⟨f, -, hf⟩ := Option.bind_eq_some_iff.mp ht
            exact (h.faultAbort t hf).reactStarts.faultNotify
          · exact h.faultNotify

/-! ### RegWrite -/

theorem wroteReg {b a old w} (h : Kept s₀ s) : Kept s₀ (s.wroteReg b a old w) :=
  .ite (.ite h.setFld.setFld (.ite h.refreshAo h)) (.ite (.ite h.modFlt h)
    (.ite (.ite h.startWatchdog (.ite h.startWatchdog (.ite (.ite h h.upd) h.roundsDomain))) (.ite (.ite
    (.ite h h.setEvents) h) (.ite (.ite (.ite h.stopFifo h.setFifo.syncFifo.flushEnds) h) (.ite (.ite h.unmask h)
    (.ite (.ite h.modEmac (.ite (.ite (modEmac (.ite h h.setFld)) (.ite h h.setFld)) h)) (.ite (.ite h.upd h) (.ite
    (.ite h.upd (.ite h.flushEnds h)) (.ite (.ite h.modSort h) (.ite (.ite h.roundsStart
    (.ite h.syncPeers h)) h))))))))))

theorem noteRwl {a old fs} (h : Kept s₀ s) : Kept s₀ (s.noteRwl a old fs) := .ite h.upd h

theorem plainWrite {a w0} (h : Kept s₀ s) : Kept s₀ (s.plainWrite a w0) := by
  unfold State.plainWrite
  extract_lets
  split
  · exact .ite h.refuse h
  · split
    · exact h.refuse
    · exact h.refuse
    · exact wroteReg (noteRwl (.ite h.wr.refuse h.wr))

theorem undoRwl {x} (h : Kept s₀ s) : Kept s₀ (s.undoRwl x) := by
  unfold State.undoRwl
  refine .ite h ?_
  split
  · exact h
  · exact h.wr.refuse

theorem setLock (h : Kept s₀ s) : Kept s₀ s.setLock := .ite h (setFld (upd (h.foldl (fun _ _ ht => ht.undoRwl))))

/-! ### Tables -/

theorem toTm {p e} (h : Kept s₀ s) : Kept s₀ (s.toTm p e) := h.upd

theorem punt {p reason} (h : Kept s₀ s) : Kept s₀ (s.punt p reason) := h.toTm

theorem sessTouch {i x len fin} (h : Kept s₀ s) : Kept s₀ (s.sessTouch i x len fin) := h.setSess

theorem sessStep {p r vrf} (h : Kept s₀ s) : Kept s₀ (s.sessStep p r vrf).1 := by
  unfold State.sessStep
  extract_lets
  split
  · exact h
  · split
    · split
      · exact h.count.punt
      · exact h.count
    · split
      · exact h
      · exact h.sessTouch

theorem routePkt {p r vrf dip src} (h : Kept s₀ s) : Kept s₀ (s.routePkt p r vrf dip src) := by
  unfold State.routePkt
  extract_lets
  split
  · exact h.punt.count
  · exact .ite h.punt.count (.ite h.punt.count (.ite h.punt.count h.toTm))

theorem l2Hit {i e} (h : Kept s₀ s) : Kept s₀ (s.l2Hit i e) := h.setL2

theorem daResult {p vid} (h : Kept s₀ s) : Kept s₀ (s.daResult p vid).1 := by
  unfold State.daResult
  extract_lets
  split
  · exact h
  · split
    · split
      · exact h.count
      · exact h
      · exact h
    · extract_lets
      split
      · exact count (.ite h.l2Hit h)
      · split
        · exact count (.ite h.l2Hit h)
        · exact .ite h.l2Hit h

theorem saHit {i e eg} (h : Kept s₀ s) : Kept s₀ (s.saHit i e eg) := .ite h.setL2.count h.setL2

theorem saResult {p r vid dest counted} (h : Kept s₀ s) : Kept s₀ (s.saResult p r vid dest counted).1 := by
  unfold State.saResult
  extract_lets
  split
  · exact h.saHit.countIf
  · split
    · split
      · exact h.modTables
      · exact h.count
    · exact h

theorem bridge {p r vid} (h : Kept s₀ s) : Kept s₀ (s.bridge p r vid) := by
  unfold State.bridge
  split
  next _ _ e =>
    have h1 := h.daResult.of_fst e
    split
    next _ _ e =>
      have h1 := h1.saResult.of_fst e
      split
      · exact h1.toTm
      · exact h1

theorem lookupPkt {p} (h : Kept s₀ s) : Kept s₀ (s.lookupPkt p) := by
  unfold State.lookupPkt
  extract_lets
  refine .ite h.count ?_
  split
  · next _ e => exact (h.sessStep.of_fst e)
  · next _ _ _ _ e =>
      refine .ite (.ite ?_ (h.sessStep.of_fst e).routePkt) (.ite (h.sessStep.of_fst e).bridge
        (h.sessStep.of_fst e).toTm)
      split
      · next _ e2 => exact ((h.sessStep.of_fst e).saResult.of_fst e2)
      · next _ e2 => exact ((h.sessStep.of_fst e).saResult.of_fst e2).routePkt

theorem tableLost {t i} (h : Kept s₀ s) : Kept s₀ (s.tableLost t i) := by
  unfold State.tableLost
  extract_lets
  split
  · exact h.present.count.setL2
  · exact h.present.count.modTables
  · exact h.present.count.modTables
  · exact h.present.count.keysRemove.setSess
  · exact h.present.count.modTables
  · exact h.present.count.modTables
  · exact h.present.count.modTables
  · exact h.present.count.modTables

theorem execTablesLookup {lost} (h : Kept s₀ s) : Completes s₀ (execTablesLookup lost s) := by
  unfold Machine.execTablesLookup
  split
  · exact .next h
  · exact .ite (.next (syncFill (lookupPkt (h.modTables.foldl (fun _ _ ht => ht.tableLost))))) (.next h)

theorem learnFail {q} (h : Kept s₀ s) : Kept s₀ (s.learnFail q) := by
  unfold State.learnFail
  extract_lets _ _ _ s2
  have h2 : Kept s₀ s2 := .ite h.count h.count.toTm
  split
  · exact .ite h2 h2.modTables.present
  · exact h2.modTables.present

theorem execLearn (h : Kept s₀ s) : Completes s₀ (execLearn s) := by
  unfold Machine.execLearn
  refine whenWorks h ?_
  split
  · exact .next h
  · extract_lets
    split
    · exact .next h.modTables.saHit
    · split
      · next _ e => exact .next (h.modTables.l2Insert _ e).count.syncFill
      · exact .next h.modTables.learnFail

theorem l2Judge {i parity} (h : Kept s₀ s) : Kept s₀ (s.l2Judge i parity) := by
  unfold State.l2Judge
  split
  · exact h
  · exact .ite h (.ite h.setL2 (.ite h.setL2.count h.setL2))

theorem execL2Sweep (h : Kept s₀ s) : Completes s₀ (execL2Sweep s) := by
  unfold Machine.execL2Sweep
  refine whenWorks h ?_
  extract_lets
  split
  · exact .ite (.next h) (.next h.modTables.l2Judge.syncFill)
  · exact .next h

theorem sessJudge {i parity} (h : Kept s₀ s) : Kept s₀ (s.sessJudge i parity) := by
  unfold State.sessJudge
  split
  · exact h
  · exact .ite h (.ite h.setSess (.ite h.sessRemove.count h.setSess))

theorem execSessSweep (h : Kept s₀ s) : Completes s₀ (execSessSweep s) := by
  unfold Machine.execSessSweep
  refine whenWorks h ?_
  extract_lets
  split
  · exact .ite (.next h) (.next h.modTables.sessJudge.syncFill)
  · exact .next h

theorem tblEnd {r} (h : Kept s₀ s) : Kept s₀ (s.tblEnd r) := h.setFld

theorem l2Command {op} (h : Kept s₀ s) : Kept s₀ (s.l2Command op) := by
  unfold State.l2Command
  extract_lets e
  refine .ite h.tblEnd ?_
  split
  · exact h.tblEnd
  · split
    · next _ e => exact (h.l2Insert _ e).tblEnd
    · exact h.tblEnd
  · exact h.setL2.tblEnd
  · exact h.setL2.tblEnd
  · exact h.tblEnd

theorem routeCommand {op v6} (h : Kept s₀ s) : Kept s₀ (s.routeCommand op v6) := by
  unfold State.routeCommand
  extract_lets
  refine .ite h.tblEnd ?_
  split
  · exact h.tblEnd
  · exact .ite h.tblEnd (tblEnd (.ite h.modTables h.modTables))
  · exact tblEnd (.ite h.modTables h.modTables)
  · exact tblEnd (.ite h.modTables h.modTables)
  · exact h.tblEnd

theorem sessInsert {i x} (h : Kept s₀ s) : KeptOpt s₀ (s.sessInsert i x) := by
  unfold State.sessInsert
  extract_lets
  split
  · next _ e => exact (h.setSess.keyInsert _ e).keyInsert
  · exact .none

theorem sessCommand {op i} (h : Kept s₀ s) : Kept s₀ (s.sessCommand op i) := by
  unfold State.sessCommand
  refine .ite h.tblEnd ?_
  split
  · exact h.sessRemove.tblEnd
  · exact h.tblEnd
  · exact h.tblEnd
  · extract_lets
    split
    · exact h.tblEnd
    · refine .ite h.setSess.tblEnd (.ite h.tblEnd ?_)
      split
      · next _ e => exact (h.keysRemove.setSess.sessInsert _ e).tblEnd
      · exact h.tblEnd
  · exact h.tblEnd
  · extract_lets
    refine .ite h.flushEnds.tblEnd ?_
    split
    · exact h.flushEnds.tblEnd
    · refine .ite h.flushEnds.tblEnd ?_
      split
      · next _ e => exact (h.flushEnds.sessInsert _ e).tblEnd
      · exact h.flushEnds.tblEnd

theorem keyedCommand {op table i} (h : Kept s₀ s) : Kept s₀ (s.keyedCommand op table i) := by
  unfold State.keyedCommand
  split
  · exact h.l2Command
  · exact h.routeCommand
  · exact h.routeCommand
  · exact h.sessCommand
  · exact h.tblEnd

theorem untouch {table i} (h : Kept s₀ s) : Kept s₀ (s.untouch table i) := h.modTables

theorem tblCmd {table c f} (h : Kept s₀ s) (hf : ∀ t, Kept s₀ t → Kept s₀ (f t)) : Kept s₀ (s.tblCmd table c f) :=
  h.ownWrite fun _ ht => .ite ht.refuse (hf _ ht).syncFill.setFld

theorem execTablesAdd {table index} (h : Kept s₀ s) : Completes s₀ (execTablesAdd table index s) :=
  .next (h.tblCmd (fun _ ht => ht.keyedCommand.untouch))

theorem execTablesUpdate {table index} (h : Kept s₀ s) : Completes s₀ (execTablesUpdate table index s) :=
  .next (h.tblCmd (fun _ ht => ht.keyedCommand.untouch))

theorem execTablesDelete {table index} (h : Kept s₀ s) : Completes s₀ (execTablesDelete table index s) :=
  .next (h.tblCmd (fun _ ht => ht.keyedCommand.untouch))

theorem fillTbl {ws} (h : Kept s₀ s) : Kept s₀ (s.fillTbl ws) := h.wrList

theorem readKey {table} (h : Kept s₀ s) : Kept s₀ (s.readKey table) := by
  unfold State.readKey
  split
  · split
    · exact h.fillTbl.setFld.tblEnd
    · exact h.tblEnd
  · split
    · split
      · exact h.fillTbl.tblEnd
      · exact h.tblEnd
    · exact h.tblEnd
  · refine .ite ?_ h.tblEnd
    extract_lets
    split
    · exact h.wr.tblEnd
    · exact h.tblEnd

theorem execTablesReadKey {table _index} (h : Kept s₀ s) : Completes s₀ (execTablesReadKey table _index s) :=
  .next (h.tblCmd (fun _ ht => ht.readKey))

theorem setIdx {table i ws} (h : Kept s₀ s) : Kept s₀ (s.setIdx table i ws) := by
  unfold State.setIdx
  split
  · exact h.modTables
  · exact h.modTables
  · exact h.modTables
  · exact h.modTables

theorem writeIdx {table i} (h : Kept s₀ s) : Kept s₀ (s.writeIdx table i) := .ite h.tblEnd h.setIdx.tblEnd

theorem execTablesWriteIndexed {table index} (h : Kept s₀ s) : Completes s₀ (execTablesWriteIndexed table index s) :=
  .next (h.tblCmd (fun _ ht => ht.writeIdx.untouch))

theorem readIdx {table i} (h : Kept s₀ s) : Kept s₀ (s.readIdx table i) := by
  unfold State.readIdx
  split
  · split
    · exact h.fillTbl.setFld.tblEnd
    · exact h.tblEnd
  · split
    · exact h.fillTbl.tblEnd
    · exact h.tblEnd
  · exact .ite h.tblEnd h.fillTbl.tblEnd

theorem execTablesReadIndex {table index} (h : Kept s₀ s) : Completes s₀ (execTablesReadIndex table index s) :=
  .next (h.tblCmd (fun _ ht => ht.readIdx))

theorem flushL2 (h : Kept s₀ s) : Kept s₀ s.flushL2 := .ite h.tblEnd h.modTables.tblEnd

theorem execFlush {table} (h : Kept s₀ s) : Completes s₀ (execFlush table s) :=
  .next (h.tblCmd (fun _ ht => .ite ht.flushL2 ht.tblEnd))

/-- Here and in the two that follow the function, and the one whose answer it splits on, stand behind an equation,
  so that no
check of the proof evaluates an address on the way. -/
theorem logShadow {r} (h : Kept s₀ s) : Kept s₀ (s.logShadow r) := by
  obtain ⟨f, hf⟩ : ∃ f, f = State.logShadow := ⟨_, rfl⟩
  obtain ⟨hole, hhole⟩ : ∃ g, g = State.hole := ⟨_, rfl⟩
  rw [← hf]
  delta State.logShadow at hf
  rw [← hhole] at hf
  subst hf
  beta_reduce
  split
  extract_lets
  split
  · exact h.unmapped
  · exact .ite h h.logDma

theorem auditOne {r} (h : Kept s₀ s) : Kept s₀ (s.auditOne r) := by
  obtain ⟨f, hf⟩ : ∃ f, f = State.auditOne := ⟨_, rfl⟩
  obtain ⟨list, hlist⟩ : ∃ g, g = State.shadowList := ⟨_, rfl⟩
  rw [← hf]
  delta State.auditOne at hf
  rw [← hlist] at hf
  subst hf
  beta_reduce
  extract_lets
  split
  · exact h.logShadow.setFld.setFld
  · exact h.logShadow.setFld.modTables

theorem execAuditPass (h : Kept s₀ s) : Completes s₀ (execAuditPass s) :=
  h.whenWorks (.ite (.next (h.setFld.setFld.modTables.foldl (fun _ _ ht => ht.auditOne))) (.next h))

theorem auditFix {r k sh} (h : Kept s₀ s) : Kept s₀ (s.auditFix r k sh) := by
  unfold State.auditFix
  extract_lets v route
  split
  · exact h.modTables
  · exact h.modTables
  · split
    · exact h.setL2
    · exact h.setL2
    · exact h.l2Insert.getD h
    · exact h
  · exact .ite h.setIdx h

theorem auditConfirm {x} (h : Kept s₀ s) : Kept s₀ (s.auditConfirm x) := by
  obtain ⟨f, hf⟩ : ∃ f, f = State.auditConfirm := ⟨_, rfl⟩
  obtain ⟨list, hlist⟩ : ∃ g, g = State.shadowList := ⟨_, rfl⟩
  rw [← hf]
  delta State.auditConfirm at hf
  rw [← hlist] at hf
  subst hf
  beta_reduce
  split
  · exact h.setFld
  · extract_lets _ _ _ _ s2
    have h2 : Kept s₀ s2 := .ite h.setFld.count h.setFld.count.modTables.present
    exact .ite h (.ite h2.auditFix.count h2)

theorem execAuditConfirm (h : Kept s₀ s) : Completes s₀ (execAuditConfirm s) :=
  h.whenWorks (.ite (.next h) (.next (syncFill (h.modTables.foldl (fun _ _ ht => ht.auditConfirm)))))

/-! ### FaultBlk -/

theorem shows {x} (h : Kept s₀ s) : Kept s₀ (s.shows x) := by
  unfold State.shows
  split
  · exact h
  · exact .ite h.present h
  · exact h.keyEcc

theorem execFaultEvent {shown} (h : Kept s₀ s) : Completes s₀ (execFaultEvent shown s) := by
  unfold Machine.execFaultEvent
  refine whenUp h ?_
  extract_lets s
  split
  · exact .next h.shows
  · extract_lets s0 s1
    have h0 : Kept s₀ s0 := h.shows.modFlt.countFault
    have h1 : Kept s₀ s1 := .ite h0.count.setFld h0
    exact .ite (.next h1.logFault) (.next (logFault (react (.ite h1.remember h1))))

theorem execFaultReset (h : Kept s₀ s) : Completes s₀ (execFaultReset s) := by
  unfold Machine.execFaultReset
  refine whenUp h ?_
  split
  · exact .ite (.next h.warmReset) (.next h)
  · exact .next h

theorem execCoreRetireDone (h : Kept s₀ s) : Completes s₀ (execCoreRetireDone s) := by
  unfold Machine.execCoreRetireDone
  refine whenUp h ?_
  split
  · exact .next h
  · exact .next h.modFlt.setFld.modCore.retireResult.syncRetire

theorem execSramCopyDone {spare} (h : Kept s₀ s) : Completes s₀ (execSramCopyDone spare s) :=
  h.whenUp (.ite (.next h) (.next (syncRetire (retireResult (.ite h.setFld.modFlt.setFld h.setFld.modFlt)))))

theorem execSramScrub {bank word upset} (h : Kept s₀ s) : Completes s₀ (execSramScrub bank word upset s) := by
  unfold Machine.execSramScrub
  refine whenUp h ?_
  extract_lets
  refine .ite (.next h) ?_
  split
  · exact .next h.present
  · exact .next h.present
  · exact .next h.upd.present

theorem execFaultRetire {m value} (h : Kept s₀ s) : Completes s₀ (execFaultRetire m value s) :=
  h.whenUp (.ite (.next h) (.ite (.next h.gatedAccess) (.ite (.next h.refuse)
    (.next (setFld (.ite h.retireBank (.ite h.retireCore h.retireResult)))))))

theorem execInj {value} (h : Kept s₀ s) : Completes s₀ (execInj value s) :=
  .next (h.ownWrite (fun _ ht => .ite ht.refuse (.ite ht ht.modFlt.setFld)))

theorem execClearFirst (h : Kept s₀ s) : Completes s₀ (execClearFirst s) :=
  .next (h.ownWrite (fun _ ht => ht.setFld.setFld))

theorem execAbort {value} (h : Kept s₀ s) : Completes s₀ (execAbort value s) :=
  .next (h.ownWrite (fun _ ht => .ite ht.refuse (.ite ht.setFld.refuse ht.abortStart)))

theorem forcedEnd {f} (h : Kept s₀ s) : Kept s₀ (s.forcedEnd f) := .ite h.present.abortEnds h

theorem execAbortDone (h : Kept s₀ s) : Completes s₀ (execAbortDone s) := by
  unfold Machine.execAbortDone
  refine whenUp h ?_
  split
  · exact .next (.ite h.forcedEnd h.abortEnds)
  · exact .next h

theorem execAbortForced (h : Kept s₀ s) : Completes s₀ (execAbortForced s) := by
  unfold Machine.execAbortForced
  refine h.whenUp ?_
  split
  · exact .ite (.next h) (.next (forcedEnd (modFlt (.ite h.memFilter.upd h))))
  · exact .next h

/-! ### Time -/

theorem trgCtrlWrite {t v} (h : Kept s₀ s) : Kept s₀ (s.trgCtrlWrite t v) := .ite h.refuse (h.wr.forceTriggers h)

theorem execTriggerArm {trigger value} (h : Kept s₀ s) : Completes s₀ (execTriggerArm trigger value s) :=
  .next (h.ownWrite (fun _ ht => ht.trgCtrlWrite))

theorem incWrite {d v} (h : Kept s₀ s) : Kept s₀ (s.incWrite d v) := .ite h.refuse (.ite h.wr.modDom h.refuse)

theorem execIncNsWrite {d value} (h : Kept s₀ s) : Completes s₀ (execIncNsWrite d value s) :=
  .next (h.ownWrite (fun _ ht => ht.incWrite))

theorem askStep {d t} (h : Kept s₀ s) : Kept s₀ (s.askStep d t) := h.modDom

theorem execSet {d} (h : Kept s₀ s) : Completes s₀ (execSet d s) := .next (h.ownWrite (fun _ ht => ht.askStep))

theorem adjWrite {d v} (h : Kept s₀ s) : Kept s₀ (s.adjWrite d v) := .ite h (.ite h.askStep h.refuse)

theorem execAdj {d value} (h : Kept s₀ s) : Completes s₀ (execAdj d value s) :=
  .next (h.ownWrite (fun _ ht => ht.adjWrite))

theorem execKick {d} (h : Kept s₀ s) : Completes s₀ (execKick d s) :=
  .next (h.ownWrite (fun _ ht => .ite ht.startWatchdog ht))

theorem execNsRead {d} (h : Kept s₀ s) : Completes s₀ (execNsRead d s) :=
  .next (h.ownAccess (fun _ ht => ht.wr64.wr.answer))

theorem execLocalLoRead {wide} (h : Kept s₀ s) : Completes s₀ (execLocalLoRead wide s) :=
  .next (h.ownAccess (fun _ ht => ht.wr.answer))

theorem execCapture {channel} (h : Kept s₀ s) : Completes s₀ (execCapture channel s) :=
  h.whenWorks (.ite (.next h.captureNow) (.next h))

theorem execCapCmd {value} (h : Kept s₀ s) : Completes s₀ (execCapCmd value s) :=
  .next (h.ownWrite (fun _ ht => ht.foldl (fun _ _ hu => .ite hu.captureNow hu)))

theorem execCaptureRead {channel} (h : Kept s₀ s) : Completes s₀ (execCaptureRead channel s) :=
  .next (h.ownAccess (fun _ ht => ht.wrList.answer))

theorem execClk10mUpdate (h : Kept s₀ s) : Completes s₀ (execClk10mUpdate s) :=
  h.whenWorks (.ite (.next h.wr.setFld.upd) (.next h))

theorem execClk10mLoss (h : Kept s₀ s) : Completes s₀ (execClk10mLoss s) := h.whenWorks (.next h.setFld)

theorem execClk10mPresent (h : Kept s₀ s) : Completes s₀ (execClk10mPresent s) :=
  h.whenWorks (.ite (.next h) (.next h.setFld.upd))

theorem execPpsOut (h : Kept s₀ s) : Completes s₀ (execPpsOut s) := h.whenWorks (.ite (.next h.upd) (.next h))

theorem tsqRd {q v} (h : Kept s₀ s) : Kept s₀ (s.tsqRd q v) := .ite h.setFld h.refuse

theorem execTsqRdWrite {queue value} (h : Kept s₀ s) : Completes s₀ (execTsqRdWrite queue value s) :=
  .next (h.ownWrite (fun _ ht => ht.tsqRd))

/-! ### TimeLate -/

theorem trgAct {t target arg time late} (h : Kept s₀ s) : Kept s₀ (s.trgAct t target arg time late) := by
  unfold State.trgAct
  split
  · exact h.mqPost
  · exact .ite h.wakeEvent h
  · exact h.rngFire
  · exact .ite h.roundBoundary h
  · exact .ite h.ngTrigger h
  · exact h

theorem execTriggerFire {trigger} (h : Kept s₀ s) : Completes s₀ (execTriggerFire trigger s) :=
  h.whenWorks (.ite (.next h.trgFired.trgAct) (.next h))

theorem execTimeStale {d} (h : Kept s₀ s) : Completes s₀ (execTimeStale d s) :=
  h.whenWorks (.ite (.next h.setFld.setFld.present.roundsDomain) (.next h))

theorem switchTo {d} (h : Kept s₀ s) : Kept s₀ (s.switchTo d) :=
  present (count (roundsSwitch (h.stepTick.wr.wr.setFld.setFld.setFld.moveTriggers.forceTriggers h.stepTick)))

theorem selWrite {v} (h : Kept s₀ s) : Kept s₀ (s.selWrite v) :=
  .ite h.refuse (.ite h.setFld.setFld h.setFld.setFld.switchTo)

theorem execSelWrite {value} (h : Kept s₀ s) : Completes s₀ (execSelWrite value s) :=
  .next (h.ownWrite (fun _ ht => ht.selWrite))

theorem execDomainSwitch (h : Kept s₀ s) : Completes s₀ (execDomainSwitch s) :=
  h.whenWorks (.ite (.next h.switchTo) (.next h))

end Kept

end Sys2Proof.Machine
end

section
/-! SUPPORT. What every command keeps, said of each function of the model in the order of its files.
Register commands, boot records, `exec` and the ticks. -/

namespace Sys2Proof.Machine

variable {s₀ s : State}

namespace Kept

/-! ### RegCommands -/

theorem nextOf {o} (_h : Kept s₀ s) (ho : Completes s₀ o) : Kept s₀ (nextOf s o) := by
  obtain ⟨t, rfl, ht⟩ := ho
  exact ht

theorem execCfgLock {value} (h : Kept s₀ s) : Completes s₀ (execCfgLock value s) := .ite (.next h.setLock) (.next h)

theorem sysctlCmd {a w} (h : Kept s₀ s) : KeptOpt s₀ (s.sysctlCmd a w) :=
  .ite (.some (h.nextOf h.execSoftware)) (.ite (.some (h.nextOf h.execCfgLock))
    (.ite (.some (h.nextOf h.execBootConfirm)) (.ite (.some (h.nextOf h.execBar2WinWrite)) (.ite (.some
    (h.nextOf h.execRbAdv)) (.ite (.some (h.nextOf h.execAbort)) .none)))))

theorem ckgenCmd {a w} (h : Kept s₀ s) : KeptOpt s₀ (s.ckgenCmd a w) :=
  .ite (.some (h.nextOf h.execPllCtrlWrite)) (.ite (.some (h.nextOf h.execGateWrite)) .none)

theorem pmuCmd {a w} (h : Kept s₀ s) : KeptOpt s₀ (s.pmuCmd a w) :=
  .ite (.ite (.some (h.nextOf h.execStateReqRun)) (.ite (.some (h.nextOf h.execStateReqTrim))
    (.ite (.some (h.nextOf h.execStateReqWatch)) (.ite (.some (h.free.nextOf h.free.execStateReqSleep))
    (.some h.refuse))))) .none

theorem faultCmd {m a w} (h : Kept s₀ s) : KeptOpt s₀ (s.faultCmd m a w) :=
  .ite (.some (h.nextOf h.execInj)) (.ite (.some (.ite (h.nextOf h.execClearFirst) h))
    (.ite (.some (h.nextOf h.execFaultRetire)) .none))

theorem dbgCmd {a w} (h : Kept s₀ s) : KeptOpt s₀ (s.dbgCmd a w) := by
  unfold State.dbgCmd
  refine .ite ?_ .none
  extract_lets s1 s2
  have h1 : Kept s₀ s1 := .ite (h.nextOf h.execNewChal) h
  have h2 : Kept s₀ s2 := .ite (h1.nextOf h1.execSubmit) h1
  exact .some (.ite (h2.nextOf h2.execDrop) h2)

theorem nvmcCmd {a w} (h : Kept s₀ s) : KeptOpt s₀ (s.nvmcCmd a w) := .ite (.some (.ite h.nvmStart h.refuse)) .none

theorem keysCmd {a w} (h : Kept s₀ s) : KeptOpt s₀ (s.keysCmd a w) :=
  .ite (.ite (.some (h.nextOf h.execKeyWrite)) (.ite (.some (h.nextOf h.execKeyErase))
    (.ite (.some (h.nextOf h.execZeroise)) (.ite (.some (h.nextOf h.execReadState)) (.some h.keyRefuse))))) (.ite
    (.ite (.some (h.nextOf h.execProvision)) (.ite (.some (h.nextOf h.execDeploy)) (.some h.refuse))) .none)

theorem postmarkCmd {a w} (h : Kept s₀ s) : KeptOpt s₀ (s.postmarkCmd a w) := by
  unfold State.postmarkCmd
  extract_lets
  refine .ite (.some (h.nextOf h.execSelWrite)) (.ite (.some (h.nextOf h.execCapCmd)) ?_)
  split
  · exact .some h.tsqRd
  · exact .some (h.nextOf h.execIncNsWrite)
  · exact .some (h.nextOf h.execAdj)
  · extract_lets s1
    have h1 : Kept s₀ s1 := .ite (h.nextOf h.execSet) h
    exact .some (.ite (h1.nextOf h1.execKick) h1)
  · exact .some h.trgCtrlWrite
  · exact .none

theorem dispatchCmd {a w} (h : Kept s₀ s) : KeptOpt s₀ (s.dispatchCmd a w) := .map fun _ => h.writeThread0

theorem pigeonCmd {a w} (h : Kept s₀ s) : KeptOpt s₀ (s.pigeonCmd a w) := by
  unfold State.pigeonCmd
  extract_lets
  split
  · exact .some (h.nextOf h.execCommit)
  · exact .ite (.some (h.nextOf h.execPop)) (.ite (.some (h.nextOf h.execMark))
      (.ite (.some (h.nextOf h.execRewind)) (.ite (.some (h.nextOf h.execRelease)) (.some h.refuse))))
  · exact .none

theorem portCmd {a w} (h : Kept s₀ s) : KeptOpt s₀ (s.portCmd a w) :=
  .ite (.some (.ite (h.nextOf h.execRetrain) h)) (.ite (.some (h.nextOf h.execRcAccess))
    (.map fun _ => h.nextOf h.execEmacModeWrite))

theorem sortCmd {a w} (h : Kept s₀ s) : KeptOpt s₀ (s.sortCmd a w) :=
  .ite (.some (.ite (h.nextOf h.execSwap) h)) (.ite (.ite (.some (h.nextOf h.execCamWrite))
    (.ite (.some (h.nextOf h.execCamRead)) (.ite (.some (h.nextOf h.execCamClear)) (.ite (.some
    (h.nextOf h.execSetBanks)) (.some h.refuse))))) .none)

theorem tablesCmd {a w} (h : Kept s₀ s) : KeptOpt s₀ (s.tablesCmd a w) :=
  .ite (.ite (.some (h.nextOf h.execTablesAdd)) (.ite (.some (h.nextOf h.execTablesUpdate))
    (.ite (.some (h.nextOf h.execTablesDelete)) (.ite (.some (h.nextOf h.execTablesReadKey)) (.ite (.some
    (h.nextOf h.execTablesWriteIndexed)) (.ite (.some (h.nextOf h.execTablesReadIndex)) (.ite (.some
    (h.nextOf h.execFlush)) (.some h.refuse)))))))) .none

theorem tmCmd {a w} (h : Kept s₀ s) : KeptOpt s₀ (s.tmCmd a w) := by
  unfold State.tmCmd
  refine .ite (.some (.ite h.flushCmd h.refuse)) ?_
  split
  · exact .some h.commitQueue
  · exact .some h.commitShaper
  · exact .some h.commitPolicer
  · exact .some h.commitEgmap
  · exact .some (h.nextOf h.execFloodCommit)
  · exact .none

theorem regsvcCmd {a w} (h : Kept s₀ s) : KeptOpt s₀ (s.regsvcCmd a w) :=
  .ite (.ite (.some (h.nextOf h.execFlowAdmit)) (.ite (.some (h.nextOf h.execFlowRelease))
    (.ite (.some (h.nextOf h.execFlowRead)) (.some h.refuse)))) .none

theorem wmacCmd {a w} (h : Kept s₀ s) : KeptOpt s₀ (s.wmacCmd a w) :=
  .ite (.ite (.some (h.nextOf h.execCtxAdd)) (.ite (.some (h.nextOf h.execCtxUpdate))
    (.ite (.some (h.nextOf h.execCtxRemove)) (.ite (.some (h.nextOf h.execCtxRead)) (.some h.refuse))))) .none

theorem roundsCmd {a w} (h : Kept s₀ s) : KeptOpt s₀ (s.roundsCmd a w) := by
  unfold State.roundsCmd
  split
  · exact .some (h.nextOf h.execPlanSwap)
  · exact .some h.writeJointCtrl
  · exact .some (h.nextOf h.execTwtEntryWrite)
  · exact .none

theorem radioCmd {r a w} (h : Kept s₀ s) : KeptOpt s₀ (s.radioCmd r a w) := by
  unfold State.radioCmd
  refine .ite (.some h.synthWrite) (.ite (.some (.ite (h.nextOf h.execCalCmdFull) h))
    (.ite (.some h.chainEnWrite) (.ite ?_ .none)))
  extract_lets s1
  have h1 : Kept s₀ s1 := .ite (h.nextOf h.execAbortRanging) h
  exact .some (.ite (h1.nextOf h1.execArm) h1)

theorem nglCmd {a w} (h : Kept s₀ s) : KeptOpt s₀ (s.nglCmd a w) :=
  .ite (.some h.ngCtrlWrite) (.ite (.ite (.some (h.nextOf h.execNodeAdd))
    (.ite (.some (h.nextOf h.execNodeUpdate)) (.ite (.some (h.nextOf h.execNodeRemove)) (.ite (.some
    (h.nextOf h.execNodeRead)) (.some h.refuse))))) .none)

theorem cmdWrite {m b a w} (h : Kept s₀ s) : KeptOpt s₀ (s.cmdWrite m b a w) :=
  .ite h.sysctlCmd (.ite h.ckgenCmd (.ite h.pmuCmd (.ite h.faultCmd
    (.ite h.dbgCmd (.ite h.nvmcCmd (.ite h.keysCmd (.ite h.postmarkCmd (.ite h.dispatchCmd (.ite h.pigeonCmd
    (.ite h.portCmd (.ite h.sortCmd (.ite h.tablesCmd (.ite h.tmCmd (.ite h.regsvcCmd (.ite h.wmacCmd
    (.ite h.roundsCmd (.ite (.ite (.some (h.nextOf h.execLdpcRetire)) .none) (.ite h.radioCmd (.ite h.radioCmd
    (.ite h.nglCmd .none))))))))))))))))))))

theorem afterSwEntry {a} (h : Kept s₀ s) : Kept s₀ (s.afterSwEntry a) := .ite h.swEntryHook h

theorem writeWord {m a w} (h : Kept s₀ s) : Kept s₀ (s.writeWord m a w) := by
  unfold State.writeWord
  split
  · next _ e => exact (h.cmdWrite _ e)
  · exact h.plainWrite.afterSwEntry

/-! ### Regs -/

theorem selfOp {c code} {t} (h : Kept s₀ s) (h' : Kept s₀ t) : Kept s₀ (s.selfOp c code t) :=
  .ite (h.nextOf h.execYieldOp) (.ite (h.nextOf h.execExitOp)
    (.ite (h.nextOf h.execWaitEv) (.ite (h.nextOf h.execSleepUntil) (.ite (h.nextOf h.execPost) (.ite
    (h.nextOf h.execRecv) (.ite (h.nextOf h.execTakeCompl) (.ite (h.nextOf h.execSetEv) (.ite
    (h.nextOf h.execClrEv) (.ite (h.nextOf h.execStart) (.ite (h.nextOf h.execSuspend) (.ite
    (h.nextOf h.execDelete) h')))))))))))

theorem busWord {m a w} (h : Kept s₀ s) : Kept s₀ (s.busWord m a w) := by
  unfold State.busWord
  split
  · exact .ite (h.selfOp h.selfWrite) h.selfWrite
  · exact h
  · exact h.writeWord

theorem execRegisterWrite {m addr size value} (h : Kept s₀ s) : Completes s₀
    (execRegisterWrite m addr size value s) := by
  unfold Machine.execRegisterWrite
  extract_lets
  split
  · next _ e => exact .next (h.stopped _ e)
  · exact .next (.ite h.touch.busWord.busWord h.touch.busWord)

theorem execBadSize {m write addr size} (h : Kept s₀ s) : Completes s₀ (execBadSize m write addr size s) :=
  .ite (.next h.badSizeAccess) (.next h)

theorem execCfgStatusRead {m block} (h : Kept s₀ s) : Completes s₀ (execCfgStatusRead m block s) := by
  unfold Machine.execCfgStatusRead
  extract_lets
  split
  · next _ e => exact .next (h.stopped _ e)
  · exact .next h.touch.wr.answer

theorem counterAccess {m a low size c f} (h : Kept s₀ s) (hf : ∀ t, Kept s₀ t → Kept s₀ (f t)) :
    Kept s₀ (s.counterAccess m a low size c f) := by
  unfold State.counterAccess
  split
  · next t e => exact h.stopped t e
  · exact .ite (hf _ h.touch.freshCtr) h

theorem execCounterRead {m addr} (h : Kept s₀ s) : Completes s₀ (execCounterRead m addr s) :=
  .next (h.counterAccess (fun _ ht => ht.clearCtr.answer))

theorem execCounterLowRead {m addr} (h : Kept s₀ s) : Completes s₀ (execCounterLowRead m addr s) :=
  .next (h.counterAccess (fun _ ht => ht.upd.clearCtr.answer))

theorem execCounterHighRead {m addr} (h : Kept s₀ s) : Completes s₀ (execCounterHighRead m addr s) := by
  unfold Machine.execCounterHighRead
  extract_lets
  refine .next (counterAccess h (fun _ ht => ?_))
  split
  · exact ht.upd.answer
  · exact ht.answer

theorem execGatedAccess {m write addr} (h : Kept s₀ s) : Completes s₀ (execGatedAccess m write addr s) :=
  .ite (.next h) (.ite (.next h.closedAccess) (.ite (.next h.gatedAccess) (.next h)))

theorem execAddrUnmapped {m write addr} (h : Kept s₀ s) : Completes s₀ (execAddrUnmapped m write addr s) :=
  .ite (.next h) (.next h.unmappedAccess)

theorem execSwEntryWrite {high value} (h : Kept s₀ s) : Completes s₀ (execSwEntryWrite high value s) :=
  .next (h.ownWrite (fun _ ht => ht.plainWrite.swEntryHook))

/-! ### BootLate -/

theorem romClear {a} (h : Kept s₀ s) : Kept s₀ (s.romClear a) := .ite h.wr h

theorem readCommand {a o} (h : Kept s₀ s) (e : s.readCommand a = some o) : Completes s₀ o := by
  unfold State.readCommand at e
  extract_lets b c at e
  split_ifs at e
  case neg =>
    obtain ⟨k, -, rfl⟩ := Option.map_eq_some_iff.mp e
    exact h.execCaptureRead
  all_goals cases e
  · exact h.execCfgStatusRead
  · exact h.execCounterLowRead
  · exact h.execCounterHighRead
  · exact h.execMaxDelayRead
  · exact h.execRxLast0Read
  · exact h.execLocalLoRead
  · exact h.execNsRead
  · exact h.execNsRead

theorem readWord {a} (h : Kept s₀ s) : Kept s₀ (s.readWord a).2 := by
  unfold State.readWord
  split
  · next t e => exact h.stopped t e
  · split
    · next e => exact h.nextOf (h.readCommand e)
    · exact h.touch
    · exact h.touch

theorem romTriple {a mask value} (h : Kept s₀ s) : KeptExc s₀ (s.romTriple a mask value) :=
  .ite .error (.ite .error (.ok (romClear (h.readWord.nextOf h.readWord.execRegisterWrite))))

theorem romTriples {n bs} (h : Kept s₀ s) : KeptExc s₀ (State.romTriples n bs s) := by
  induction n generalizing s bs with
  | zero => exact .ok h
  | succ n ih =>
    unfold State.romTriples
    split
    · exact .error
    · next t e => exact ih (h.romTriple t e)

theorem regWritesBody {b} (h : Kept s₀ s) : KeptExc s₀ (s.regWritesBody b) := .ite .error h.romTriples

theorem execRegWrites (h : Kept s₀ s) : Completes s₀ (execRegWrites s) :=
  .ite (.next h) (.next (h.record (fun _ _ => h.regWritesBody)))

theorem keyRecord {b} (h : Kept s₀ s) : KeptExc s₀ (s.keyRecord b) :=
  .ite .error (.ite (.ok h.keyResult) (.ok h.landChange))

theorem innerRecords {n bs} (h : Kept s₀ s) : KeptExc s₀ (State.innerRecords n bs s) := by
  induction n generalizing s bs with
  | zero => exact .ok h
  | succ n ih =>
    unfold State.innerRecords
    refine .ite (.ok h) ?_
    extract_lets type resume len body dest r
    have hr : KeptExc s₀ r :=
      .ite .error (.ite .error (.ite .error (.ite h.applyLoad (.ite h.regWritesBody h.keyRecord))))
    clear_value r
    split
    · exact .error
    · next t => exact ih (hr t rfl)

theorem bootUnbound (h : Kept s₀ s) : Kept s₀ s.bootUnbound := h.setFld.upd

theorem sealedBody {b} (h : Kept s₀ s) : KeptExc s₀ (s.sealedBody b) := by
  unfold State.sealedBody
  refine .ite (.ok h) (.ite .error ?_)
  split
  · exact .ok h.bootUnbound
  · exact h.innerRecords

theorem execSealed (h : Kept s₀ s) : Completes s₀ (execSealed s) :=
  .ite (.next h) (.next (h.record (fun _ _ => h.sealedBody)))

/-! ### Dispatch -/

theorem exec {i} (h : Kept s₀ s) : Completes s₀ (exec i s) := by
  unfold Machine.exec
  split
  · exact h.execRegisterWrite
  · exact h.execBadSize
  · exact h.execCfgStatusRead
  · exact h.execCounterRead
  · exact h.execCounterLowRead
  · exact h.execCounterHighRead
  · exact h.execGatedAccess
  · exact h.execAddrUnmapped
  · exact h.execPowerOn
  · exact h.execPin
  · exact h.execPowerFail
  · exact h.execPmicPgTimeout
  · exact h.execVinAoLoss
  · exact h.execBrownout
  · exact h.execThermalWarn
  · exact h.execThermal
  · exact h.execThermalResetRelease
  · exact h.execAvsRecompute
  · exact h.execAvsWriteDone
  · exact h.execAvsRetry
  · exact h.execAvsSettle
  · exact h.execBranchWake
  · exact h.execBranchIdleStop
  · exact h.execGateWrite
  · exact h.execPllCtrlWrite
  · exact h.execPllLock
  · exact h.execPllUnlock
  · exact h.execClockLoss
  · exact h.execStateReqRun
  · exact h.execStateReqTrim
  · exact h.execStateReqWatch
  · exact h.execWatchEntryDone
  · exact h.execStateReqSleep
  · exact h.execSleepEntryDone
  · exact h.execAbortedWake
  · exact h.execWakeLinkEnergy
  · exact h.execWakePatternMatch
  · exact h.execWakeWlanRequest
  · exact h.execWakeNguordFrame
  · exact h.execWakePcie
  · exact h.execWakeAlarm
  · exact h.execWakeIn
  · exact h.execSleepExit
  · exact h.execBoot
  · exact h.execPmic
  · exact h.execNvmTiming
  · exact h.execClocks
  · exact h.execHostpRecord
  · exact h.execHostpLate
  · exact h.execDramRecord
  · exact h.execLoad
  · exact h.execRegWrites
  · exact h.execSealed
  · exact h.execLockRecord
  · exact h.execEntry
  · exact h.execBootConfirm
  · exact h.execBootTimeout
  · exact h.execSoftware
  · exact h.execHost
  · exact h.execPerstHostpReset
  · exact h.execDebugReset
  · exact h.execCfgLock
  · exact h.execBar2WinWrite
  · exact h.execRbAdv
  · exact h.execImageOpen
  · exact h.execImageWrite
  · exact h.execImageCommit
  · exact h.execResetMsg
  · exact h.execNvmRead
  · exact h.execNvmProgram
  · exact h.execNvmErase4k
  · exact h.execNvmErase64k
  · exact h.execNvmOpDone
  · exact h.execNvmTimeout
  · exact h.execSynthWrite
  · exact h.execRetuneStart
  · exact h.execRetuneDone
  · exact h.execRfUnlock
  · exact h.execRadioStart
  · exact h.execCalDone
  · exact h.execCalCmdFull
  · exact h.execCalDue
  · exact h.execCalTrack
  · exact h.execRfCalOverdue
  · exact h.execChainEnWrite
  · exact h.execTxReady
  · exact h.execTxUntimedReady
  · exact h.execDozeStart
  · exact h.execDozeEnd
  · exact h.execRxPreamble
  · exact h.execSecondDetect
  · exact h.execCodewordEnqueue
  · exact h.execCodewordReclass
  · exact h.execEngineFree
  · exact h.execDecodeEnd
  · exact h.execLdpcRetire
  · exact h.execBist
  · exact h.execCsiCapture
  · exact h.execCtxAdd
  · exact h.execCtxUpdate
  · exact h.execCtxRemove
  · exact h.execCtxRead
  · exact h.execTxDescriptor
  · exact h.execPpduFill
  · exact h.execBlockAckRx
  · exact h.execBlockAckTimeout
  · exact h.execEmlsrIcfFail
  · exact h.execMpduRx
  · exact h.execBlockAckReqRx
  · exact h.execReorderFlush
  · exact h.execBeaconTx
  · exact h.execTriggerFire
  · exact h.execTriggerArm
  · exact h.execTimeStale
  · exact h.execDomainSwitch
  · exact h.execSelWrite
  · exact h.execIncNsWrite
  · exact h.execSet
  · exact h.execAdj
  · exact h.execKick
  · exact h.execNsRead
  · exact h.execLocalLoRead
  · exact h.execCapture
  · exact h.execCapCmd
  · exact h.execCaptureRead
  · exact h.execClk10mUpdate
  · exact h.execClk10mLoss
  · exact h.execPpsOut
  · exact h.execTsqRdWrite
  · exact h.execPlanSwap
  · exact h.execPlanCheckDone
  · exact h.execSegmentStart
  · exact h.execTwtEntryWrite
  · exact h.execTwtSpStart
  · exact h.execTwtMissed
  · exact h.execRspStart
  · exact h.execJoin
  · exact h.execLeft
  · exact h.execPeerBeaconRx
  · exact h.execNgRxDetect
  · exact h.execNgHeaderResult
  · exact h.execNgRxEnd
  · exact h.execNgSecondDetect
  · exact h.execArm
  · exact h.execAbortRanging
  · exact h.execPoll
  · exact h.execResp
  · exact h.execFinal
  · exact h.execReport
  · exact h.execRngTimeout
  · exact h.execNglEnable
  · exact h.execParentBeaconRx
  · exact h.execResyncScan
  · exact h.execNgFrameRx
  · exact h.execNgAckRx
  · exact h.execNgAckTimeout
  · exact h.execBackoffEnd
  · exact h.execNgSlotStart
  · exact h.execNgCalStart
  · exact h.execNgLifetime
  · exact h.execNgTxDescriptor
  · exact h.execNgDropRecord
  · exact h.execNodeAdd
  · exact h.execNodeUpdate
  · exact h.execNodeRemove
  · exact h.execNodeRead
  · exact h.execLaneEnter
  · exact h.execPassStart
  · exact h.execPassEnd
  · exact h.execCamWrite
  · exact h.execCamRead
  · exact h.execCamClear
  · exact h.execSetBanks
  · exact h.execSwap
  · exact h.execSwapDone
  · exact h.execCamScrub
  · exact h.execTablesLookup
  · exact h.execLearn
  · exact h.execL2Sweep
  · exact h.execSessSweep
  · exact h.execTablesAdd
  · exact h.execTablesUpdate
  · exact h.execTablesDelete
  · exact h.execTablesReadKey
  · exact h.execTablesWriteIndexed
  · exact h.execTablesReadIndex
  · exact h.execFlush
  · exact h.execAuditPass
  · exact h.execAuditConfirm
  · exact h.execTmEnqueue
  · exact h.execRefill
  · exact h.execEgressReady
  · exact h.execQueueCommit
  · exact h.execEgmapCommit
  · exact h.execFloodCommit
  · exact h.execShaperCommit
  · exact h.execQueueFlush
  · exact h.execSampleWalk
  · exact h.execMaxDelayRead
  · exact h.execFlowAdmit
  · exact h.execFlowRelease
  · exact h.execFlowRead
  · exact h.execFlowFreed
  · exact h.execBooking
  · exact h.execOccurrenceEnd
  · exact h.execFrameDeadline
  · exact h.execFrerReset
  · exact h.execOutcomeRecord
  · exact h.execEmacRxFrame
  · exact h.execEmacTxEnd
  · exact h.execLinkUp
  · exact h.execLinkDown
  · exact h.execEmacModeWrite
  · exact h.execPauseRx
  · exact h.execRxBufferXoff
  · exact h.execSdsPreset
  · exact h.execHostTxFrame
  · exact h.execHostTxCompletion
  · exact h.execHostRxFrame
  · exact h.execCoalTimeout
  · exact h.execRcAccess
  · exact h.execRcAccessDone
  · exact h.execDramRequest
  · exact h.execDramPowerDown
  · exact h.execDramScrub
  · exact h.execRetrain
  · exact h.execRetrainDone
  · exact h.execKeyWrite
  · exact h.execKeyErase
  · exact h.execZeroise
  · exact h.execReadState
  · exact h.execChangeLanded
  · exact h.execEncrypt
  · exact h.execDecrypt
  · exact h.execMac
  · exact h.execVerify
  · exact h.execHash
  · exact h.execDerive
  · exact h.execSealCreate
  · exact h.execAttest
  · exact h.execRandom
  · exact h.execSealCompletion
  · exact h.execEntropy
  · exact h.execProvision
  · exact h.execDeploy
  · exact h.execNewChal
  · exact h.execSubmit
  · exact h.execDrop
  · exact h.execNextRead
  · exact h.execYieldOp
  · exact h.execExitOp
  · exact h.execWaitEv
  · exact h.execSleepUntil
  · exact h.execPost
  · exact h.execRecv
  · exact h.execTakeCompl
  · exact h.execSetEv
  · exact h.execClrEv
  · exact h.execStart
  · exact h.execSuspend
  · exact h.execDelete
  · exact h.execWakeTime
  · exact h.execSliceEnd
  · exact h.execAffinityWrite
  · exact h.execVectorRaise
  · exact h.execComplLatchDrain
  · exact h.execSupItemPost
  · exact h.execCommit
  · exact h.execHwRecord
  · exact h.execPop
  · exact h.execMark
  · exact h.execRewind
  · exact h.execRelease
  · exact h.execLevelAge
  · exact h.execFifoDisable
  · exact h.execFaultEvent
  · exact h.execFaultReset
  · exact h.execCoreRetireDone
  · exact h.execSwEntryWrite
  · exact h.execSramCopyDone
  · exact h.execSramScrub
  · exact h.execFaultRetire
  · exact h.execInj
  · exact h.execClearFirst
  · exact h.execAbort
  · exact h.execAbortDone
  · exact h.execAbortForced
  · exact h.execWatchExitDone
  · exact h.execRxLast0Read
  · exact h.execPcieLinkUp
  · exact h.execPcieLinkDown
  · exact h.execHealthOk
  · exact h.execClk10mPresent
  · exact h.execCodewordDeadline

/-! ### Ticks -/

theorem radioTick {r} (h : Kept s₀ s) : Kept s₀ (s.radioTick r) := h.checkHeader.airBegins.deafen

theorem busyTick (h : Kept s₀ s) : Kept s₀ s.busyTick := syncRetire (h.foldl (fun _ _ ht => .ite ht.setFld ht))

theorem idleTick (h : Kept s₀ s) : Kept s₀ s.idleTick :=
  .ite h.clockTick (nglTick (busyTick (h.clockTick.foldl (fun _ _ ht => ht.radioTick))))

end Kept

end Sys2Proof.Machine
end

section
/-! Every command completes and keeps what `Kept` says; every step keeps the canonical form. -/

namespace Sys2Proof.Machine

/-- Settles O55: `exec` completes every command from every state, and keeps the queue and the blown fuses. -/
theorem everyCommandCompletes : Obligations.EveryCommandCompletes := by
  unfold Obligations.EveryCommandCompletes
  intro c s
  obtain ⟨t, ht, -, hpending, hfuses⟩ := (Kept.refl s).exec (i := c)
  exact ⟨t, ht, hpending, hfuses⟩

/-- A command from a state in canonical form leaves one. -/
theorem canonical_of_exec {c : Instr} {s t : State} (h : s.canonical) (e : exec c s = .next t) : t.canonical := by
  obtain ⟨u, hu, hcanonical, -⟩ := (Kept.refl s).exec (i := c)
  cases hu.symm.trans e
  exact hcanonical h

/-- Settles O56: a step is a command, an answer through BAR2 or an idle tick, and each keeps the form. -/
theorem everyStepKeepsTheCanonicalForm : Obligations.EveryStepKeepsTheCanonicalForm := by
  unfold Obligations.EveryStepKeepsTheCanonicalForm
  intro s t hs e
  unfold step at e
  split at e
  · split at e
    · next hserved =>
      cases e
      exact ((Kept.refl s).bar2Served _ hserved).1 hs
    · split at e
      · next c u hheld => exact canonical_of_exec (((Kept.refl s).heldNext hheld).1 hs) e
      · cases e
        exact (Kept.refl s).idleTick.1 hs
  · next c rest _ => exact canonical_of_exec (s := { s with pending := rest }) hs e

end Sys2Proof.Machine
end

section
/-! Warm resets (R98 to R102, R107, R132). -/

namespace Sys2Proof.Machine

variable {s : State}

/-! ### The causes -/

theorem exec_software_of_key {w : Word} (hrun : s.dark = false) (hkey : getBits w 16 16 = 0xB007)
    (hwarm : w.getLsbD 0 = true) : exec (.software w) s = .next (s.warmReset causeSoftware) := by
  show execSoftware w s = _
  rw [execSoftware, if_neg (by simp [hrun]), if_neg (not_not_intro hkey), if_pos hwarm]

/-- SOFTWARE without the key is refused and changes nothing else. -/
theorem exec_software_of_no_key {w : Word} (hrun : s.dark = false) (hkey : getBits w 16 16 ≠ 0xB007) :
    exec (.software w) s = .next (s.refuse A.SYSCTL_RESET .cfgRange) := by
  show execSoftware w s = _
  rw [execSoftware, if_neg (by simp [hrun]), if_pos hkey]

theorem exec_host_of_perst (hmode : s.fld F.HOSTP_CFG_MODE = 1) (hcfg : s.flag F.SYSCTL_RST_CFG_PERST_RESETS = true)
    (hrun : s.dark = false) (hphase : s.boot.phase ≠ .halted) : exec .host s = .next (s.warmReset causeHost) :=
  if_pos ⟨hmode, hcfg, by simp [hrun], hphase⟩

/-- A grant of level 2 or more reaches INTERNAL registers. -/
theorem State.debugReach_of_level (hlevel : 2 ≤ s.fld F.DBG_STATUS_LEVEL) (hrun : s.dark = false) :
    s.debugReach = .i ∨ s.debugReach = .f := by
  unfold State.debugReach
  rw [if_neg (by simp [hrun])]
  split
  · next h => exact absurd hlevel (by rw [h]; decide)
  · next h => exact absurd hlevel (by rw [h]; decide)
  · exact .inl rfl
  · exact .inr rfl

theorem exec_debugReset_of_level (hlevel : 2 ≤ s.fld F.DBG_STATUS_LEVEL) (hrun : s.dark = false)
    (hphase : s.boot.phase ≠ .halted) : exec .debugReset s = .next (s.warmReset causeDebug) :=
  if_pos ⟨State.debugReach_of_level hlevel hrun, hphase⟩

/-! ### BOOT_TIMEOUT -/

/-- The booted slot is marked failed (R107). -/
def State.slotMarked (s : State) : State :=
  s.setFld F.SYSCTL_BOOT_STATUS_SLOT_FAIL (s.fld F.SYSCTL_BOOT_STATUS_SLOT_FAIL ||| 2 ^ s.slot)

theorem State.fld_slotMarked (s : State) : s.slotMarked.fld F.SYSCTL_BOOT_STATUS_SLOT_FAIL =
    s.fld F.SYSCTL_BOOT_STATUS_SLOT_FAIL ||| 2 ^ s.fld F.SYSCTL_BOOT_STATUS_SLOT := by
  rw [State.slotMarked, State.fld_setFld_same _ _ _ (by decide)]
  exact Nat.mod_eq_of_lt (Nat.or_lt_two_pow (s.fld_lt F.SYSCTL_BOOT_STATUS_SLOT_FAIL)
    (Nat.pow_lt_pow_right (by decide) s.slot_lt))

theorem exec_bootTimeout_of_late {ms : Nat} (hwdog : s.boot.wdogMs = some ms) (hphase : s.boot.phase = .firmware)
    (hrun : s.dark = false) (hlate : s.boot.entryTime.toNat + ms * 500000 < s.time.tick.toNat) :
    exec .bootTimeout s = .next (s.slotMarked.warmReset causeBootTimeout) := by
  show execBootTimeout s = _
  unfold execBootTimeout
  rw [hwdog]
  exact if_pos ⟨hphase, hlate, by simp [hrun]⟩

/-- What a warm reset leaves says nothing of BOOT_STATUS before it. -/
theorem warmLeaves_of_slotMarked {t : State} {cause : Word} (h : warmLeaves s.slotMarked t cause) :
    warmLeaves s t cause := by
  have hrd : ∀ {a : Nat}, a ≠ A.SYSCTL_BOOT_STATUS → s.slotMarked.rd a = s.rd a :=
    State.rd_setFld_ne s F.SYSCTL_BOOT_STATUS_SLOT_FAIL _
  have hfld : ∀ {f : Fld}, f.addr ≠ A.SYSCTL_BOOT_STATUS → s.slotMarked.fld f = s.fld f :=
    State.fld_setFld_ne s F.SYSCTL_BOOT_STATUS_SLOT_FAIL _ _
  obtain ⟨hcause, hsram, hmem, hctrs, hnvm, hfuses, hhost, hpending, hpmu, hcore, hcpu, hack, hstraps, hdigest, hppr,
    hused, hrest⟩ := h
  refine ⟨hcause, hsram, hmem, hctrs, hnvm, hfuses, hhost, hpending, fun a hw h1 h2 => ?_, hcore.trans (hfld (by decide)),
    hcpu.trans (hfld (by decide)), hack.trans ?_, hstraps.trans (hrd (by decide)), fun n hn => ?_, fun k hk => ?_,
    hused.trans (hrd (by decide)), hrest⟩
  · exact (hpmu a hw h1 h2).trans (hrd (ne_of_window (ws := [0x00]) (by simp [hw]) (by decide)))
  · exact congrArg (fun v => decide (v ≠ 0)) (hfld (by decide))
  · exact (hdigest n hn).trans (hrd ((by decide : ∀ n < 12, A.SYSCTL_IMAGE_DIGEST n ≠ A.SYSCTL_BOOT_STATUS) n hn))
  · exact (hppr k hk).trans (hrd ((by decide : ∀ k < 8, A.DRAMC_PPR k ≠ A.SYSCTL_BOOT_STATUS) k hk))

/-- BOOT_TIMEOUT is a warm reset that leaves the slot marked failed. -/
theorem warmLeaves_bootTimeout (hphase : s.boot.phase ≠ .waiting) :
    warmLeaves s (s.slotMarked.warmReset causeBootTimeout) 0x09 ∧
      (s.slotMarked.warmReset causeBootTimeout).fld F.SYSCTL_BOOT_STATUS_SLOT_FAIL =
        s.fld F.SYSCTL_BOOT_STATUS_SLOT_FAIL ||| 2 ^ s.fld F.SYSCTL_BOOT_STATUS_SLOT := by
  have hmarked : s.slotMarked.boot.phase ≠ .waiting := hphase
  have hmerged : 5 < s.slotMarked.mergedCause causeBootTimeout := by
    rw [State.mergedCause, if_neg hmarked]
    decide
  refine ⟨warmLeaves_of_slotMarked (warmLeaves_warmReset _ hmarked (by decide) (by decide)), ?_⟩
  rw [State.fld_bootStatus_warmReset _ 0 hmerged rfl (by decide), State.fld_slotMarked]

/-! ### PERST_HOSTP_RESET -/

/-- What is left of a state whose HOSTP is reset. -/
def State.hostpReset (s : State) : State :=
  { s with
    regs := s.regs.filter (fun r => decide (windowOf r.1 ≠ 0x0C) || hostpKept r.1)
    ctrs := s.ctrs.filter (fun r => decide (windowOf r.1 ≠ 0x0C))
    ctrShadow := s.ctrShadow.filter (fun r => decide (windowOf r.1 ≠ 0x0C))
    hostp := {} }

theorem exec_perstHostpReset_of_perst (hmode : s.fld F.HOSTP_CFG_MODE = 1)
    (hcfg : s.flag F.SYSCTL_RST_CFG_PERST_RESETS = false) (hrun : s.dark = false) :
    exec .perstHostpReset s = .next s.hostpReset :=
  if_pos ⟨hmode, by simp [hcfg], by simp [hrun]⟩

theorem hostpKept_iff (a : Nat) :
    hostpKept a = true ↔ a ∈ [A.HOSTP_CFG, A.HOSTP_IDS, A.HOSTP_SUBSYS, A.HOSTP_CLASS, A.HOSTP_PM_CFG] := by
  simp [hostpKept]

theorem State.rd_hostpReset (a : Nat) :
    s.hostpReset.rd a = if decide (windowOf a ≠ 0x0C) || hostpKept a then s.rd a else resetWord a :=
  sget_filter resetWord (fun k => decide (windowOf k ≠ 0x0C) || hostpKept k) s.regs a

theorem State.ctr_hostpReset (a : Nat) : s.hostpReset.ctr a = if windowOf a = 0x0C then 0 else s.ctr a := by
  refine (sget_filter (fun _ => 0) (fun k => decide (windowOf k ≠ 0x0C)) s.ctrs a).trans ?_
  by_cases h : windowOf a = 0x0C
  · simp [h]
  · simp [h, State.ctr]

/-! ### The statement -/

/-- Settles O9: each cause is a warm reset of the state, or of the state with its slot marked, and PERST_HOSTP_RESET filters
registers and counters by their window. -/
theorem warmResetsKeepWhatTheSpecLists : Obligations.WarmResetsKeepWhatTheSpecLists := by
  unfold Obligations.WarmResetsKeepWhatTheSpecLists
  refine ⟨fun s w hrun hkey hwarm hphase => ⟨_, exec_software_of_key hrun hkey hwarm, ?_⟩,
    fun s w hrun hkey => ⟨_, exec_software_of_no_key hrun hkey, ?_, ?_⟩,
    fun s hmode hcfg hrun hphase hrom => ⟨_, exec_host_of_perst hmode hcfg hrun hrom, ?_⟩,
    fun s hlevel hrun hphase hrom => ⟨_, exec_debugReset_of_level hlevel hrun hrom, ?_⟩,
    fun s ms hwdog hphase hrun hlate => ⟨_, exec_bootTimeout_of_late hwdog hphase hrun hlate, ?_⟩,
    fun s hmode hcfg hrun => ⟨_, exec_perstHostpReset_of_perst hmode hcfg hrun, fun a hw ha => ?_, fun a h => ?_,
      fun a => State.ctr_hostpReset a, rfl⟩⟩
  · exact warmLeaves_warmReset s hphase (by decide) (by decide)
  · exact onlyFields_refuse _ _ (by simp) (onlyFields_refl s _)
  · exact regsFrame_refuse s _ _
  · exact warmLeaves_warmReset s hphase (by decide) (by decide)
  · exact warmLeaves_warmReset s hphase (by decide) (by decide)
  · exact warmLeaves_bootTimeout (by simp [hphase])
  · exact (State.rd_hostpReset a).trans (if_neg (by simp [hw, (hostpKept_iff a).not.mpr ha]))
  · refine (State.rd_hostpReset a).trans (if_pos ?_)
    rw [Bool.or_eq_true, hostpKept_iff, decide_eq_true_eq]
    exact h

end Sys2Proof.Machine
end

section
/-! BOOT: the choice of a slot, its checks and the start of its records (R103 to R106, R112, R113, R120, R121). -/

namespace Sys2Proof.Machine

variable {s : State}

/-! ### The ROM starts and halts -/

theorem exec_boot (hphase : s.boot.phase = .waiting) (hmode : s.power.mode = .on) :
    exec .boot s = s.release.bootRom :=
  if_neg (by simp [hphase, hmode])

/-- The link's training is none of the ROM's progress. -/
theorem State.trainLink_keeps (s : State) : s.trainLink.boot.phase = s.boot.phase ∧
    s.trainLink.rd A.SYSCTL_BOOT_STATUS = s.rd A.SYSCTL_BOOT_STATUS := by
  unfold State.trainLink State.setActive
  split
  · exact ⟨rfl, rfl⟩
  · exact ⟨rfl, (State.rd_wr_ne _ _ (by decide)).trans (State.rd_wr_ne _ _ (by decide))⟩

/-- The ROM halts with STAGE 0xFF and keeps the code (R103). -/
theorem State.romHalt_leaves (s : State) : s.romHalt.boot.phase = .halted ∧
    s.romHalt.fld F.SYSCTL_BOOT_STATUS_STAGE = 0xFF ∧
    s.romHalt.fld F.SYSCTL_BOOT_STATUS_CODE = s.fld F.SYSCTL_BOOT_STATUS_CODE := by
  obtain ⟨hphase, hrd⟩ := State.trainLink_keeps
    { s.setFld F.SYSCTL_BOOT_STATUS_STAGE 0xFF with boot := { s.boot with phase := .halted } }
  have hfld : ∀ f : Fld, f.addr = A.SYSCTL_BOOT_STATUS →
      s.romHalt.fld f = (s.setFld F.SYSCTL_BOOT_STATUS_STAGE 0xFF).fld f := by
    intro f hf
    unfold State.fld
    rw [hf]
    exact congrArg (getBits · f.lo f.len) hrd
  refine ⟨hphase, ?_, ?_⟩
  · rw [hfld _ rfl, State.fld_setFld_same _ _ _ (by decide)]
    rfl
  · rw [hfld _ rfl, State.fld_setFld_apart _ _ _ _ (by decide) (by decide)]

/-! ### The slot -/

/-- A slot chosen is one of the two. -/
theorem State.chooseSlot_lt {k : Nat} (h : s.chooseSlot = some k) : k < 2 := by
  unfold State.chooseSlot at h
  split_ifs at h
  all_goals
    cases h
    decide

/-- The release of RST_OUT_N changes nothing that the choice of a slot reads. -/
theorem State.chooseSlot_release (s : State) : s.release.chooseSlot = s.chooseSlot := rfl

theorem State.signatureFault_release (s : State) (k : Nat) : s.release.signatureFault k = s.signatureFault k := rfl

theorem State.entryGood_release (s : State) (k : Nat) : s.release.entryGood k = s.entryGood k := rfl

/-- The slot that the ROM reads from stands in BOOT_STATUS. -/
def State.slotTaken (s : State) (k : Nat) : State := s.release.setFld F.SYSCTL_BOOT_STATUS_SLOT k

theorem State.slot_slotTaken {k : Nat} (hk : k < 2) : (s.slotTaken k).slot = k :=
  (State.fld_setFld_same _ _ _ (by decide)).trans (Nat.mod_eq_of_lt hk)

/-- A slot fails its checks: its own bit of SLOT_FAIL and the code (R104). -/
theorem slotFails_slotTaken (s : State) {k code : Nat} (hk : k < 2) (hcode : code < 256) :
    slotFails s ((s.slotTaken k).bootFail code) k code := by
  obtain ⟨hcause, hfld, hfail, hphase, hnvm, hfuses⟩ := slotFails_bootFail (s.slotTaken k) hcode
  rw [State.slot_slotTaken hk] at hfail
  refine ⟨hcause, hfld, hfail.trans (congrArg (· ||| 2 ^ k) ?_), hphase, hnvm, hfuses⟩
  exact State.fld_setFld_apart s.release _ _ _ (by decide) (by decide)

/-! ### The start of the records -/

/-- What the ROM records of an image that it takes (R112, R113). -/
def State.imageHeld (s : State) (k : Nat) : State :=
  ((((s.setFld F.SYSCTL_BOOT_STATUS_STAGE 3).setFld F.SYSCTL_BOOT_STATUS_RESUMED 0).setFld F.SYSCTL_SVN_IMAGE_SVN
    (s.imgSvn k)).wr A.SYSCTL_IMG_SEQ (BitVec.ofNat 32 (s.imgNat k 12 4))).wrWords (A.SYSCTL_IMAGE_DIGEST 0) 12
    (s.imgDigest k).toNat

theorem State.nvm_imageHeld (s : State) (k : Nat) : (s.imageHeld k).nvm = s.nvm := by
  unfold State.imageHeld
  rw [regsFrame_wrWords]
  rfl

/-- The ROM looks at record 0 with the image held. -/
theorem State.startRecords_eq (s : State) (k : Nat) : ∃ b, b.phase = .records ∧ b.recIdx = 0 ∧
    s.startRecords k false = State.settleRecords 256 { s.imageHeld k with boot := b } :=
  ⟨_, rfl, rfl, rfl⟩

/-- The same, of a state whose parts are known. -/
theorem State.startRecords_looks (s : State) (k : Nat) : ∃ u : State, u.boot.phase = .records ∧ u.boot.recIdx = 0 ∧
    u.nvm = s.nvm ∧ u.regs = (s.imageHeld k).regs ∧ s.startRecords k false = State.settleRecords 256 u := by
  obtain ⟨b, hphase, hidx, hstart⟩ := s.startRecords_eq k
  have hnvm := s.nvm_imageHeld k
  generalize s.imageHeld k = v at hstart hnvm ⊢
  exact ⟨{ v with boot := b }, hphase, hidx, hnvm, rfl, hstart⟩

/-- A record of a known type is not passed over (R115). -/
theorem State.settleRecords_of_known {u : State} {n : Nat} (hlo : 1 ≤ (u.dirEntry u.slot u.boot.recIdx).type)
    (hhi : (u.dirEntry u.slot u.boot.recIdx).type ≤ 10) : State.settleRecords (n + 1) u = u :=
  if_pos (.inr ⟨hlo, hhi⟩)

/-- BOOT_STATUS of an image that is taken. -/
theorem State.fld_imageHeld (s : State) (k : Nat) {f : Fld} (hf : f.addr = A.SYSCTL_BOOT_STATUS) :
    (s.imageHeld k).fld f =
      ((s.setFld F.SYSCTL_BOOT_STATUS_STAGE 3).setFld F.SYSCTL_BOOT_STATUS_RESUMED 0).fld f := by
  unfold State.fld State.imageHeld
  rw [hf, State.rd_wrWords _ (by decide), State.rd_wr_ne _ _ (by decide), State.rd_setFld_ne _ _ _ (by decide)]

theorem State.imgSvn_lt (s : State) (k : Nat) : s.imgSvn k < 256 :=
  leNat_lt_of_length (n := 1) _ (by simp [State.img])

/-- SVN and IMG_SEQ hold what the image says. -/
theorem State.imageHeld_svn_seq (s : State) (k : Nat) :
    (s.imageHeld k).fld F.SYSCTL_SVN_IMAGE_SVN = s.imgSvn k ∧
      (s.imageHeld k).rd A.SYSCTL_IMG_SEQ = BitVec.ofNat 32 (s.imgNat k 12 4) := by
  constructor
  · have hrd : (s.imageHeld k).rd F.SYSCTL_SVN_IMAGE_SVN.addr = _ :=
      (State.rd_wrWords _ (by decide)).trans (State.rd_wr_ne _ _ (by decide))
    unfold State.fld
    rw [hrd]
    exact (State.fld_setFld_same _ _ _ (by decide)).trans (Nat.mod_eq_of_lt (s.imgSvn_lt k))
  · exact (State.rd_wrWords _ (by decide)).trans (State.rd_wr_same _ _ _)

/-- With a known type first, the ROM stands at record 0 of the image (R113 to R115). -/
theorem State.startRecords_leaves {k : Nat} (hslot : s.slot = k) (hlo : 1 ≤ (s.dirEntry k 0).type)
    (hhi : (s.dirEntry k 0).type ≤ 10) {t : State} (ht : t = s.startRecords k false) :
    t.boot.phase = .records ∧ t.boot.recIdx = 0 ∧ t.fld F.SYSCTL_BOOT_STATUS_SLOT = k ∧
      t.fld F.SYSCTL_BOOT_STATUS_STAGE = 3 ∧ t.flag F.SYSCTL_BOOT_STATUS_RESUMED = false ∧
      t.fld F.SYSCTL_SVN_IMAGE_SVN = s.imgSvn k ∧ t.rd A.SYSCTL_IMG_SEQ = BitVec.ofNat 32 (s.imgNat k 12 4) := by
  obtain ⟨u, hphase, hidx, hnvm, hregs, hstart⟩ := s.startRecords_looks k
  have hrd : ∀ a, u.rd a = (s.imageHeld k).rd a := fun a => congrArg (sget resetWord · a) hregs
  have hfld : ∀ f, u.fld f = (s.imageHeld k).fld f := fun f => congrArg (getBits · f.lo f.len) (hrd f.addr)
  have hboot : ∀ f : Fld, f.addr = A.SYSCTL_BOOT_STATUS → u.fld f =
      ((s.setFld F.SYSCTL_BOOT_STATUS_STAGE 3).setFld F.SYSCTL_BOOT_STATUS_RESUMED 0).fld f :=
    fun f hf => (hfld f).trans (s.fld_imageHeld k hf)
  have hheld : u.slot = k := by
    unfold State.slot at *
    rw [hboot _ rfl, State.fld_setFld_apart _ _ _ _ (by decide) (by decide),
      State.fld_setFld_apart _ _ _ _ (by decide) (by decide), hslot]
  have hdir : u.dirEntry u.slot u.boot.recIdx = s.dirEntry k 0 := by
    rw [hheld, hidx, dirEntry_of_nvm hnvm]
  obtain rfl : t = u := by
    rw [ht, hstart]
    exact State.settleRecords_of_known (n := 255) (hdir ▸ hlo) (hdir ▸ hhi)
  obtain ⟨hsvn, hseq⟩ := s.imageHeld_svn_seq k
  refine ⟨hphase, hidx, hheld, ?_, ?_, (hfld _).trans hsvn, (hrd _).trans hseq⟩
  · rw [hboot _ rfl, State.fld_setFld_apart _ _ _ _ (by decide) (by decide), State.fld_setFld_same _ _ _ (by decide)]
    rfl
  · exact (congrArg (fun v => decide (v ≠ 0)) (hboot _ rfl)).trans (State.flag_setFld_zero (by decide))

/-! ### The ROM's branches -/

/-- In SCRAPPED the ROM halts (R120). -/
theorem exec_boot_of_scrapped (hphase : s.boot.phase = .waiting) (hmode : s.power.mode = .on) (hlc : s.fuses.lcBits = 4) :
    exec .boot s = .next (s.release.setFld F.SYSCTL_BOOT_STATUS_CODE codeLifecycle).romHalt := by
  rw [exec_boot hphase hmode]
  exact if_pos hlc

section fresh

variable (hphase : s.boot.phase = .waiting) (hmode : s.power.mode = .on) (hlc : s.fuses.lcBits ≠ 4)
  (hcause : s.fld F.SYSCTL_RESET_CAUSE_CAUSE ≠ 6)
include hphase hmode hlc hcause

/-- With no resume due, the ROM goes by its choice of a slot. -/
theorem exec_boot_of_fresh : exec .boot s =
    match s.chooseSlot with
    | none => .next (s.release.setFld F.SYSCTL_BOOT_STATUS_CODE s.haltCode).romHalt
    | some k =>
      match s.signatureFault k with
      | some c => .next ((s.slotTaken k).bootFail c)
      | none =>
        if s.imgSvn k < s.fuses.rb0 then .next ((s.slotTaken k).bootFail codeRollback)
        else if ¬ s.entryGood k then .next ((s.slotTaken k).bootFail codeBadRecord)
        else .next ((s.slotTaken k).startRecords k false) := by
  have hresume : s.release.canResume = false := by
    have h : decide (s.release.fld F.SYSCTL_RESET_CAUSE_CAUSE = causeSleepWake) = false := decide_eq_false hcause
    simp [State.canResume, h]
  rw [exec_boot hphase hmode]
  refine (if_neg hlc).trans ((if_neg (by simp [hresume])).trans ?_)
  rfl

theorem exec_boot_of_no_slot (h : s.chooseSlot = none) :
    exec .boot s = .next (s.release.setFld F.SYSCTL_BOOT_STATUS_CODE s.haltCode).romHalt := by
  rw [exec_boot_of_fresh hphase hmode hlc hcause, h]

variable {k : Nat} (hslot : s.chooseSlot = some k)
include hslot

theorem exec_boot_of_bad_signature {c : Nat} (h : s.signatureFault k = some c) :
    exec .boot s = .next ((s.slotTaken k).bootFail c) := by
  rw [exec_boot_of_fresh hphase hmode hlc hcause, hslot]
  dsimp only
  rw [h]

theorem exec_boot_of_signed (h : s.signatureFault k = none) : exec .boot s =
    if s.imgSvn k < s.fuses.rb0 then .next ((s.slotTaken k).bootFail codeRollback)
    else if ¬ s.entryGood k then .next ((s.slotTaken k).bootFail codeBadRecord)
    else .next ((s.slotTaken k).startRecords k false) := by
  rw [exec_boot_of_fresh hphase hmode hlc hcause, hslot]
  dsimp only
  rw [h]

end fresh

/-! ### The statement -/

theorem State.fld_code_romHalt (s : State) {code : Nat} (h : code < 256) :
    (s.setFld F.SYSCTL_BOOT_STATUS_CODE code).romHalt.fld F.SYSCTL_BOOT_STATUS_CODE = code := by
  obtain ⟨-, -, hcode⟩ := (s.setFld F.SYSCTL_BOOT_STATUS_CODE code).romHalt_leaves
  rw [hcode, State.fld_setFld_same _ _ _ (by decide)]
  exact Nat.mod_eq_of_lt h

/-- Settles O14: the ROM's branches one by one; a slot that fails is `slotFails_slotTaken`. -/
theorem bootChoosesAndChecksTheSlot : Obligations.BootChoosesAndChecksTheSlot := by
  unfold Obligations.BootChoosesAndChecksTheSlot
  refine ⟨fun s hphase hmode hlc => ?_, fun s hphase hmode hlc hcause hnone => ?_,
    fun s k hphase hmode hlc hcause hslot => ?_⟩
  · obtain ⟨hhalted, hstage, -⟩ := (s.release.setFld F.SYSCTL_BOOT_STATUS_CODE codeLifecycle).romHalt_leaves
    exact ⟨_, exec_boot_of_scrapped hphase hmode hlc, hhalted, hstage, s.release.fld_code_romHalt (by decide)⟩
  · obtain ⟨hhalted, hstage, -⟩ := (s.release.setFld F.SYSCTL_BOOT_STATUS_CODE s.haltCode).romHalt_leaves
    exact ⟨_, exec_boot_of_no_slot hphase hmode hlc hcause hnone, hhalted, hstage⟩
  · have hk := State.chooseSlot_lt hslot
    cases hsig : s.signatureFault k with
    | some c =>
      refine ⟨_, exec_boot_of_bad_signature hphase hmode hlc hcause hslot hsig, fun c' hc hlt => ?_, nofun, nofun, nofun⟩
      cases hc
      exact slotFails_slotTaken s hk hlt
    | none =>
      rw [exec_boot_of_signed hphase hmode hlc hcause hslot hsig]
      by_cases hsvn : s.imgSvn k < s.fuses.rb0
      · rw [if_pos hsvn]
        exact ⟨_, rfl, nofun, fun _ _ => slotFails_slotTaken s hk (by decide), fun _ h => absurd hsvn (Nat.not_lt.mpr h),
          fun _ h => absurd hsvn (Nat.not_lt.mpr h)⟩
      · rw [if_neg hsvn]
        by_cases hentry : s.entryGood k = true
        · rw [if_neg (not_not_intro hentry)]
          exact ⟨_, rfl, nofun, fun _ h => absurd h hsvn, fun _ _ h => absurd (h.symm.trans hentry) nofun,
            fun _ _ _ hlo hhi => State.startRecords_leaves (State.slot_slotTaken hk) hlo hhi rfl⟩
        · rw [if_pos hentry]
          exact ⟨_, rfl, nofun, fun _ h => absurd h hsvn, fun _ _ _ => slotFails_slotTaken s hk (by decide),
            fun _ _ h => absurd h hentry⟩

end Sys2Proof.Machine
end

section
/-! The operations of the decoder pool (R190 to R200): what each changes of the waiting codewords, the engines, the
registers and the counters, and what it leaves. -/

namespace Sys2Proof.Machine

variable {s t u : State} {e : Nat} {c : Codeword} {fs : List Fld} {cs : List Nat}

/-! ### Counters that advance -/

theorem counted_count (s : State) (a n : Nat) : counted s (s.count a n) a n := (s.ctr_count a n a).trans (if_pos rfl)

theorem counted_trans {a m n : Nat} (h : counted s t a m) (k : counted t u a n) : counted s u a (m + n) := by
  unfold counted at *
  rw [k, h, BitVec.ofNat_add, BitVec.add_assoc]

/-- Nothing is added to a counter that reads as before. -/
theorem counted_zero {a : Nat} (h : t.ctr a = s.ctr a) : counted s t a 0 := h.trans (BitVec.add_zero _).symm

/-- A counter that advances once reads as before on either side of it. -/
theorem counted_of_kept {a n : Nat} (h : t.ctr a = s.ctr a) (k : counted t u a n) : counted s u a n :=
  k.trans (congrArg (· + _) h)

theorem counted_then_kept {a n : Nat} (h : counted s t a n) (k : u.ctr a = t.ctr a) : counted s u a n := k.trans h

theorem onlyCtrs_trans (h : onlyCtrs s t cs) (k : onlyCtrs t u cs) : onlyCtrs s u cs :=
  fun a ha => (k a ha).trans (h a ha)

/-! ### Codewords that wait, and engines -/

theorem State.setWaiting_frame (s : State) (l : List Codeword) :
    s.setWaiting l = { s with regs := (s.setWaiting l).regs, ldpc := { s.ldpc with waiting := l } } := rfl

/-- The codewords that wait are shown in QUEUE alone (R211). -/
theorem onlyFields_setWaiting (l : List Codeword) (hq : whole A.LDPC_QUEUE ∈ fs) (h : onlyFields s t fs) :
    onlyFields s (t.setWaiting l) fs :=
  onlyFields_wr _ _ hq (onlyFields_wr _ _ hq (onlyFields_wr _ _ hq (onlyFields_of_regs rfl h)))

theorem State.setEngine_frame (s : State) (e : Nat) (d : Option Decode) :
    s.setEngine e d = { s with
      regs := (s.setEngine e d).regs
      ldpc := { s.ldpc with engines := (s.setEngine e d).ldpc.engines } } := rfl

theorem State.decoding_setEngine (s : State) (e : Nat) (d : Option Decode) (k : Nat) :
    (s.setEngine e d).decoding k = if k = e then d else s.decoding k := sget_sput _ s.ldpc.engines e d k

theorem State.decoding_setEngine_same (s : State) (e : Nat) (d : Option Decode) : (s.setEngine e d).decoding e = d :=
  (s.decoding_setEngine e d e).trans (if_pos rfl)

theorem State.decoding_of_engines (h : t.ldpc.engines = s.ldpc.engines) (k : Nat) : t.decoding k = s.decoding k :=
  congrArg (fun l => sget (fun _ => none) l k) h

/-- An engine's BUSY bit is the one that its decode moves (R212). -/
theorem onlyFields_setEngine (e : Nat) (d : Option Decode) (hb : F.LDPC_ENG_STATUS_BUSY e ∈ fs)
    (h : onlyFields s t fs) : onlyFields s (t.setEngine e d) fs :=
  onlyFields_setFld _ _ hb (onlyFields_of_regs rfl h)

theorem State.busy_setEngine_some (s : State) (e : Nat) (d : Decode) :
    (s.setEngine e (some d)).flag (F.LDPC_ENG_STATUS_BUSY e) = true :=
  State.flag_setFld_one (of_decide_eq_true rfl) Nat.one_pos

theorem State.busy_setEngine_none (s : State) (e : Nat) :
    (s.setEngine e none).flag (F.LDPC_ENG_STATUS_BUSY e) = false := State.flag_setFld_zero (of_decide_eq_true rfl)

/-! ### Codewords that end -/

/-- From `s` to `t` nothing has changed but counters, and what NGR's receptions and REGSVC's flows hear of codewords that
end. -/
def endsFrame (s t : State) : Prop := t = { s with ctrs := t.ctrs, regsvc := t.regsvc, ngr := t.ngr }

theorem endsFrame_refl (s : State) : endsFrame s s := rfl

theorem endsFrame_trans (h : endsFrame s t) (k : endsFrame t u) : endsFrame s u := by
  unfold endsFrame at *
  rw [k, h]

theorem endsFrame_foldl {f : State → Codeword → State} (hf : ∀ t c, endsFrame t (f t c)) (l : List Codeword) (s : State) :
    endsFrame s (l.foldl f s) := by
  induction l generalizing s with
  | nil => exact endsFrame_refl s
  | cons c l ih => exact endsFrame_trans (hf s c) (ih _)

theorem endsFrame.ldpc_eq (h : endsFrame s t) : t.ldpc = s.ldpc := by
  unfold endsFrame at h
  rw [h]

theorem endsFrame.regs_eq (h : endsFrame s t) : t.regs = s.regs := by
  unfold endsFrame at h
  rw [h]

theorem endsFrame.mem_eq (h : endsFrame s t) : t.mem = s.mem := by
  unfold endsFrame at h
  rw [h]

theorem endsFrame.air_eq (h : endsFrame s t) : t.air = s.air := by
  unfold endsFrame at h
  rw [h]

/-- A codeword's end reaches NGR's receptions alone (R339). -/
theorem State.ngCodeword_frame (s : State) (c : Codeword) (ok missed : Bool) :
    s.ngCodeword c ok missed = { s with ngr := (s.ngCodeword c ok missed).ngr } := by
  unfold State.ngCodeword
  split <;> rfl

theorem State.ctrs_ngCodeword (s : State) (c : Codeword) (ok missed : Bool) :
    (s.ngCodeword c ok missed).ctrs = s.ctrs := by rw [s.ngCodeword_frame]

theorem State.regs_ngCodeword (s : State) (c : Codeword) (ok missed : Bool) :
    (s.ngCodeword c ok missed).regs = s.regs := by rw [s.ngCodeword_frame]

theorem State.ldpc_ngCodeword (s : State) (c : Codeword) (ok missed : Bool) :
    (s.ngCodeword c ok missed).ldpc = s.ldpc := by rw [s.ngCodeword_frame]

/-- A codeword that ends `DEC_MISSED` is counted, and reported to its frame or flow (R193). -/
theorem State.cwMissed_frame (s : State) (c : Codeword) :
    s.cwMissed c = { s.count (C.LDPC_DEC_MISSED c.cls.rank) with
      regsvc := (s.cwMissed c).regsvc, ngr := (s.cwMissed c).ngr } := by
  have hng := (s.count (C.LDPC_DEC_MISSED c.cls.rank)).ngCodeword_frame c false true
  unfold State.cwMissed
  dsimp only
  generalize (s.count (C.LDPC_DEC_MISSED c.cls.rank)).ngCodeword c false true = v at hng ⊢
  split
  · split
    · rw [hng]
      rfl
    · rw [hng]
  · rw [hng]

theorem endsFrame_cwMissed (s : State) (c : Codeword) : endsFrame s (s.cwMissed c) := by
  unfold endsFrame
  rw [s.cwMissed_frame]
  rfl

theorem State.ctrs_cwMissed (s : State) (c : Codeword) :
    (s.cwMissed c).ctrs = (s.count (C.LDPC_DEC_MISSED c.cls.rank)).ctrs := by rw [s.cwMissed_frame]

theorem missedCtr_inj (k l : CwClass) : C.LDPC_DEC_MISSED k.rank = C.LDPC_DEC_MISSED l.rank ↔ k = l := by
  cases k <;> cases l <;> decide

theorem counted_cwMissed (s : State) (c : Codeword) (k : CwClass) :
    counted s (s.cwMissed c) (C.LDPC_DEC_MISSED k.rank) (if c.cls = k then 1 else 0) := by
  have hctr : ∀ a, (s.cwMissed c).ctr a = (s.count (C.LDPC_DEC_MISSED c.cls.rank)).ctr a :=
    State.ctr_of_ctrs (s.ctrs_cwMissed c)
  by_cases hk : c.cls = k
  · rw [if_pos hk, ← hk]
    exact counted_then_kept (counted_count s _ 1) (hctr _)
  · rw [if_neg hk]
    refine counted_zero ((hctr _).trans ((s.ctr_count _ _ _).trans (if_neg fun h => hk ?_)))
    exact ((missedCtr_inj k c.cls).mp h).symm

/-- Of codewords that end `DEC_MISSED`, each counts under its class. -/
theorem counted_foldl_cwMissed (k : CwClass) (l : List Codeword) (s : State) :
    counted s (l.foldl State.cwMissed s) (C.LDPC_DEC_MISSED k.rank)
      (l.filter (fun c => decide (c.cls = k))).length := by
  induction l generalizing s with
  | nil => exact counted_zero rfl
  | cons c l ih =>
    have hstep := counted_trans (counted_cwMissed s c k) (ih (s.cwMissed c))
    have hlen : ((c :: l).filter (fun c => decide (c.cls = k))).length =
        (if c.cls = k then 1 else 0) + (l.filter (fun c => decide (c.cls = k))).length := by
      by_cases hk : c.cls = k
      · simp [hk, Nat.add_comm]
      · simp [hk]
    rw [hlen]
    exact hstep

/-- A codeword that ends `DEC_CANCELLED` is counted, and reported to its frame (R189). -/
theorem State.cwCancelled_frame (s : State) (c : Codeword) :
    s.cwCancelled c = { s.count C.LDPC_DEC_CANCELLED with ngr := (s.cwCancelled c).ngr } :=
  (s.count C.LDPC_DEC_CANCELLED).ngCodeword_frame c false false

theorem endsFrame_cwCancelled (s : State) (c : Codeword) : endsFrame s (s.cwCancelled c) := by
  unfold endsFrame
  rw [s.cwCancelled_frame]
  rfl

theorem State.ctrs_cwCancelled (s : State) (c : Codeword) :
    (s.cwCancelled c).ctrs = (s.count C.LDPC_DEC_CANCELLED).ctrs := by rw [s.cwCancelled_frame]

theorem counted_cwCancelled (s : State) (c : Codeword) : counted s (s.cwCancelled c) C.LDPC_DEC_CANCELLED 1 :=
  counted_then_kept (counted_count s _ 1) (State.ctr_of_ctrs (s.ctrs_cwCancelled c) _)

theorem onlyCtrs_cwCancelled (c : Codeword) (hm : C.LDPC_DEC_CANCELLED ∈ cs) (h : onlyCtrs s t cs) :
    onlyCtrs s (t.cwCancelled c) cs :=
  onlyCtrs_of_ctrs (t.ctrs_cwCancelled c) (onlyCtrs_count _ 1 hm h)

/-- Each codeword that is cancelled counts. -/
theorem counted_foldl_cwCancelled (l : List Codeword) (s : State) :
    counted s (l.foldl State.cwCancelled s) C.LDPC_DEC_CANCELLED l.length := by
  induction l generalizing s with
  | nil => exact counted_zero rfl
  | cons c l ih =>
    rw [List.length_cons, Nat.add_comm]
    exact counted_trans (counted_cwCancelled s c) (ih _)

theorem onlyCtrs_foldl_cwCancelled (l : List Codeword) (hm : C.LDPC_DEC_CANCELLED ∈ cs) (h : onlyCtrs s t cs) :
    onlyCtrs s (l.foldl State.cwCancelled t) cs := by
  induction l generalizing t with
  | nil => exact h
  | cons c l ih => exact ih (onlyCtrs_cwCancelled c hm h)

/-! ### Codewords that arrive -/

/-- The next order of arrival is taken. -/
def State.orderTaken (s : State) : State := s.modLdpc (fun p => { p with next := p.next + 1 })

/-- A codeword with its order of arrival. -/
def State.inOrder (s : State) (c : Codeword) : Codeword := { c with order := s.ldpc.next }

/-- While an entry outside the reserved ones is free, one is free for any codeword (R193). -/
theorem State.poolFull_of_room (h : s.ldpc.waiting.length + s.fld F.LDPC_RESERVE_REG_ENTRIES < 768) (c : Codeword) :
    s.poolFull c = false := by
  have hle := List.length_filter_le (fun x : Codeword => decide (x.cls ≠ .registered)) s.ldpc.waiting
  unfold State.poolFull
  dsimp only
  rw [decide_eq_false (by omega), decide_eq_false (p := 768 ≤ _ + _) (by omega), Bool.and_false]
  rfl

theorem State.cwArrive_of_room (h : s.ldpc.waiting.length + s.fld F.LDPC_RESERVE_REG_ENTRIES < 768) (c : Codeword) :
    s.cwArrive c = s.orderTaken.setWaiting (s.ldpc.waiting ++ [s.inOrder c]) := by
  have hroom : s.orderTaken.poolFull (s.inOrder c) = false := State.poolFull_of_room (s := s.orderTaken) h _
  unfold State.cwArrive
  exact if_pos (by rw [Bool.not_eq_true]; exact hroom)

/-- The codeword that is discarded for `c` where no entry is free (R193). -/
def State.discarded (s : State) (c : Codeword) : Codeword :=
  let cand := if c.cls = .registered then s.ldpc.waiting else s.ldpc.waiting ++ [c]
  match latestOf .bulk cand with
  | some v => v
  | none => (latestOf .immediate cand).getD c

theorem State.poolFull_of_768 (h : 768 ≤ s.ldpc.waiting.length) (c : Codeword) : s.poolFull c = true := by
  unfold State.poolFull
  dsimp only
  rw [decide_eq_true h]
  rfl

theorem State.cwArrive_of_full (h : s.orderTaken.poolFull (s.inOrder c) = true) :
    s.cwArrive c = (s.orderTaken.setWaiting ((s.ldpc.waiting ++ [s.inOrder c]).filter
      (fun x => decide (x.order ≠ (s.discarded (s.inOrder c)).order)))).cwMissed (s.discarded (s.inOrder c)) := by
  unfold State.cwArrive
  exact if_neg (not_not_intro h)

/-- The later of two deadlines; ties the later arrival (R193). -/
def laterOf (b : Option Codeword) (c : Codeword) : Option Codeword :=
  match b with
  | some x => if x.deadline ≤ c.deadline then some c else b
  | none => some c

theorem latestOf_eq_foldl (k : CwClass) (l : List Codeword) :
    latestOf k l = (l.filter (fun c => decide (c.cls = k))).foldl laterOf none := rfl

theorem laterOf_eq_or (b : Option Codeword) (c : Codeword) : laterOf b c = b ∨ laterOf b c = some c := by
  unfold laterOf
  split
  · split
    · exact .inr rfl
    · exact .inl rfl
  · exact .inr rfl

theorem foldl_laterOf_mem {v : Codeword} (l : List Codeword) {b : Option Codeword} (h : l.foldl laterOf b = some v) :
    b = some v ∨ v ∈ l := by
  induction l generalizing b with
  | nil => exact .inl h
  | cons c l ih =>
    rcases ih h with hb | hin
    · rcases laterOf_eq_or b c with hkeep | htake
      · exact .inl (hkeep.symm.trans hb)
      · exact .inr (Option.some.inj (htake.symm.trans hb) ▸ List.mem_cons_self)
    · exact .inr (List.mem_cons_of_mem _ hin)

/-- The latest of a class is one of that class. -/
theorem latestOf_mem {k : CwClass} {l : List Codeword} {v : Codeword} (h : latestOf k l = some v) :
    v ∈ l ∧ v.cls = k := by
  rw [latestOf_eq_foldl] at h
  rcases foldl_laterOf_mem _ h with hnone | hin
  · cases hnone
  · obtain ⟨hin, hcls⟩ := List.mem_filter.mp hin
    exact ⟨hin, of_decide_eq_true hcls⟩

/-- What is discarded is a codeword that is not Registered, or the one that arrives (R193). -/
theorem State.discarded_cases (s : State) (c : Codeword) :
    (s.discarded c ∈ s.ldpc.waiting ∧ (s.discarded c).cls ≠ .registered) ∨ s.discarded c = c := by
  have hcand : ∀ (k : CwClass) {v : Codeword}, k ≠ .registered →
      latestOf k (if c.cls = .registered then s.ldpc.waiting else s.ldpc.waiting ++ [c]) = some v →
      (v ∈ s.ldpc.waiting ∧ v.cls ≠ .registered) ∨ v = c := by
    intro k v hk hv
    obtain ⟨hin, hcls⟩ := latestOf_mem hv
    split at hin
    · exact .inl ⟨hin, hcls ▸ hk⟩
    · rcases List.mem_append.mp hin with hin | hin
      · exact .inl ⟨hin, hcls ▸ hk⟩
      · exact .inr (List.mem_singleton.mp hin)
  unfold State.discarded
  dsimp only
  split
  · next v hv => exact hcand .bulk nofun hv
  · cases hi : latestOf .immediate (if c.cls = .registered then s.ldpc.waiting else s.ldpc.waiting ++ [c]) with
    | none => exact .inr rfl
    | some v => exact hcand .immediate nofun hi

/-- From `s` to `t` nothing has changed but registers, counters, the pool, and what NGR's receptions and REGSVC's flows
hear of codewords that end. -/
def poolFrame (s t : State) : Prop :=
  t = { s with regs := t.regs, ctrs := t.ctrs, ldpc := t.ldpc, regsvc := t.regsvc, ngr := t.ngr }

theorem poolFrame_refl (s : State) : poolFrame s s := rfl

theorem poolFrame_trans (h : poolFrame s t) (k : poolFrame t u) : poolFrame s u := by
  unfold poolFrame at *
  rw [k, h]

theorem poolFrame_of_endsFrame (h : endsFrame s t) : poolFrame s t := by
  unfold poolFrame
  unfold endsFrame at h
  rw [h]

theorem poolFrame.mem_eq (h : poolFrame s t) : t.mem = s.mem := by
  unfold poolFrame at h
  rw [h]

theorem poolFrame.air_eq (h : poolFrame s t) : t.air = s.air := by
  unfold poolFrame at h
  rw [h]

/-- What an arrival leaves: the engines, every register but QUEUE, and all outside the pool's frame. -/
structure arrivalKept (s t : State) : Prop where
  frame : poolFrame s t
  engines : t.ldpc.engines = s.ldpc.engines
  fields : onlyFields s t [whole A.LDPC_QUEUE]

theorem arrivalKept_cwArrive (s : State) (c : Codeword) : arrivalKept s (s.cwArrive c) := by
  have hwait : ∀ l, arrivalKept s (s.orderTaken.setWaiting l) := fun l =>
    ⟨rfl, rfl, onlyFields_setWaiting l (List.mem_singleton_self _) (onlyFields_of_regs rfl (onlyFields_refl s _))⟩
  cases hfull : s.orderTaken.poolFull (s.inOrder c) with
  | true =>
    rw [State.cwArrive_of_full hfull]
    have hends := endsFrame_cwMissed (s.orderTaken.setWaiting ((s.ldpc.waiting ++ [s.inOrder c]).filter
      (fun x => decide (x.order ≠ (s.discarded (s.inOrder c)).order)))) (s.discarded (s.inOrder c))
    obtain ⟨hframe, hengines, hfields⟩ := hwait ((s.ldpc.waiting ++ [s.inOrder c]).filter
      (fun x => decide (x.order ≠ (s.discarded (s.inOrder c)).order)))
    exact ⟨poolFrame_trans hframe (poolFrame_of_endsFrame hends), (congrArg LdpcSt.engines hends.ldpc_eq).trans hengines,
      onlyFields_of_regs hends.regs_eq hfields⟩
  | false =>
    have hroom : s.cwArrive c = s.orderTaken.setWaiting (s.ldpc.waiting ++ [s.inOrder c]) := by
      unfold State.cwArrive
      exact if_pos (by rw [Bool.not_eq_true]; exact hfull)
    rw [hroom]
    exact hwait _

theorem arrivalKept_cwRequeue (s : State) (c : Codeword) : arrivalKept s (s.cwRequeue c) := by
  obtain ⟨hframe, hengines, hfields⟩ :=
    arrivalKept_cwArrive (s.count C.LDPC_DEC_REQUEUED) { c with arrival := s.now }
  exact ⟨poolFrame_trans (t := s.count C.LDPC_DEC_REQUEUED) rfl hframe, hengines, hfields⟩

end Sys2Proof.Machine
end

section
/-! The choice and the end of a decode (R192 to R195): the order of R194, what an engine takes, and what it leaves when a
decode ends or a deadline passes. -/

namespace Sys2Proof.Machine

variable {s t u : State} {e : Nat} {c : Codeword} {d : Decode}

/-! ### The order of R194 -/

theorem mem_insertBy {α : Type} (le : α → α → Bool) (x y : α) (l : List α) :
    y ∈ insertBy le x l ↔ y = x ∨ y ∈ l := by
  induction l with
  | nil => exact List.mem_cons
  | cons z l ih =>
    unfold insertBy
    split
    · rw [List.mem_cons, ih, List.mem_cons, or_left_comm]
    · exact List.mem_cons

theorem mem_sortBy {α : Type} (le : α → α → Bool) (y : α) (l : List α) : y ∈ sortBy le l ↔ y ∈ l := by
  have hfold : ∀ acc : List α, y ∈ l.foldl (fun acc x => insertBy le x acc) acc ↔ y ∈ acc ∨ y ∈ l := by
    induction l with
    | nil => simp
    | cons x l ih =>
      intro acc
      rw [List.foldl_cons, ih, mem_insertBy, List.mem_cons, or_assoc, or_left_comm]
  exact (hfold []).trans (or_iff_right List.not_mem_nil)

/-- The first codeword of a list has the earliest deadline in it. -/
def firstIsEarliest (l : List Codeword) : Prop := ∀ c ∈ l.head?, ∀ d ∈ l, c.deadline ≤ d.deadline

theorem deadline_le_of_cwLe {a b : Codeword} (h : cwLe a b = true) : a.deadline ≤ b.deadline := by
  simp only [cwLe, Bool.or_eq_true, Bool.and_eq_true, decide_eq_true_eq] at h
  omega

theorem deadline_le_of_not_cwLe {a b : Codeword} (h : ¬ cwLe a b = true) : b.deadline ≤ a.deadline := by
  simp only [cwLe, Bool.or_eq_true, Bool.and_eq_true, decide_eq_true_eq] at h
  omega

theorem firstIsEarliest_insertBy (x : Codeword) {l : List Codeword} (h : firstIsEarliest l) :
    firstIsEarliest (insertBy cwLe x l) := by
  cases l with
  | nil =>
    intro c hc d hd
    cases hc
    exact List.mem_singleton.mp hd ▸ Nat.le_refl _
  | cons y l =>
    have hy : ∀ d ∈ y :: l, y.deadline ≤ d.deadline := h y rfl
    unfold insertBy
    split
    · next hle =>
      intro c hc d hd
      cases hc
      rcases List.mem_cons.mp hd with rfl | hd
      · exact Nat.le_refl _
      · rcases (mem_insertBy cwLe x d l).mp hd with rfl | hd
        · exact deadline_le_of_cwLe hle
        · exact hy d (List.mem_cons_of_mem _ hd)
    · next hle =>
      intro c hc d hd
      cases hc
      rcases List.mem_cons.mp hd with rfl | hd
      · exact Nat.le_refl _
      · exact Nat.le_trans (deadline_le_of_not_cwLe hle) (hy d hd)

theorem firstIsEarliest_sortBy (l : List Codeword) : firstIsEarliest (sortBy cwLe l) := by
  have hfold : ∀ acc, firstIsEarliest acc → firstIsEarliest (l.foldl (fun acc x => insertBy cwLe x acc) acc) := by
    induction l with
    | nil => exact fun _ h => h
    | cons x l ih => exact fun acc h => ih _ (firstIsEarliest_insertBy x h)
  exact hfold [] nofun

/-- An engine without the Registered-first role considers first a codeword of the earliest deadline of all. -/
theorem State.engineOrder_earliest {rest : List Codeword} (hrole : s.flag (F.LDPC_ENG_STATUS_REG_FIRST e) = false)
    (horder : s.engineOrder e = c :: rest) : ∀ x ∈ s.ldpc.waiting, c.deadline ≤ x.deadline := by
  have hall : s.engineOrder e = sortBy cwLe s.ldpc.waiting := by
    unfold State.engineOrder
    dsimp only
    rw [if_neg fun h => Bool.false_ne_true (hrole.symm.trans h.1)]
  have hfirst := firstIsEarliest_sortBy s.ldpc.waiting
  rw [← hall, horder] at hfirst
  intro x hx
  refine hfirst c rfl x ?_
  rw [← horder, hall]
  exact (mem_sortBy cwLe x _).mpr hx

theorem State.engineOrder_of_empty (h : s.ldpc.waiting = []) (e : Nat) : s.engineOrder e = [] := by
  unfold State.engineOrder
  dsimp only
  rw [h, List.filter_nil, ite_self]
  rfl

/-- The limit of a codeword that starts reaches MIN, keeps its class's cap, and ends before its deadline (R194). -/
theorem State.startable_bounds {n : Nat} (h : s.startable c = some n) :
    s.fld F.LDPC_ITER_CFG_MIN_ITER ≤ n ∧ n ≤ s.cwCap c.cls ∧ 80 * n + 38 ≤ bbCycles (c.deadline - s.now) := by
  unfold State.startable at h
  split at h
  · next k hk =>
    unfold State.iterations at hk
    dsimp only at hk
    split at hk
    · cases hk
    · next hleft =>
      split at h
      · next hmin =>
        cases Option.some.inj h
        have hk := Option.some.inj hk
        refine ⟨hmin, hk ▸ Nat.min_le_left _ _, ?_⟩
        omega
      · cases h
  · cases h

/-! ### ENGINE_FREE -/

theorem exec_engineFree (e : Fin 14) (hfirst : s.engineFirst e.val = true) (hworks : s.takesWork 0x80 = true) :
    exec (.engineFree e) s = .next (State.engineChoose e.val (s.engineOrder e.val) s) := if_pos ⟨hfirst, hworks⟩

theorem exec_engineFree_of_empty (e : Fin 14) (h : s.ldpc.waiting = []) : exec (.engineFree e) s = .next s := by
  show execEngineFree e s = _
  unfold execEngineFree
  dsimp only
  rw [State.engineOrder_of_empty h]
  exact ite_self _

/-- The state in which engine e has taken the codeword c, with the limit n (R194). -/
def State.decodeBegun (s : State) (e : Nat) (c : Codeword) (n : Nat) : State :=
  (s.setWaiting (s.ldpc.waiting.filter (fun x => decide (x.order ≠ c.order)))).setEngine e
    (some { cw := c, limit := n, start := s.now })

theorem State.engineChoose_of_startable {n : Nat} (h : s.startable c = some n) (rest : List Codeword) :
    State.engineChoose e (c :: rest) s = s.decodeBegun e c n := by
  unfold State.engineChoose
  rw [h]
  rfl

theorem State.decoding_decodeBegun (s : State) (e : Nat) (c : Codeword) (n k : Nat) :
    (s.decodeBegun e c n).decoding k = if k = e then some { cw := c, limit := n, start := s.now } else s.decoding k :=
  State.decoding_setEngine _ _ _ _

theorem onlyFields_decodeBegun (s : State) (e : Nat) (c : Codeword) (n : Nat) :
    onlyFields s (s.decodeBegun e c n) [whole A.LDPC_QUEUE, F.LDPC_ENG_STATUS_BUSY e] :=
  onlyFields_setEngine e _ (by simp) (onlyFields_setWaiting _ (by simp) (onlyFields_refl s _))

theorem engineFree_rule (s : State) (e : Fin 14) (c : Codeword) (rest : List Codeword) (n : Nat)
    (hfirst : s.engineFirst e.val = true) (hworks : s.takesWork 0x80 = true)
    (horder : s.engineOrder e.val = c :: rest) (hstart : s.startable c = some n) :
    ∃ t, exec (.engineFree e) s = .next t ∧ t.decoding e.val = some { cw := c, limit := n, start := s.now } ∧
      s.fld F.LDPC_ITER_CFG_MIN_ITER ≤ n ∧ n ≤ s.cwCap c.cls ∧ 80 * n + 38 ≤ bbCycles (c.deadline - s.now) ∧
      (s.flag (F.LDPC_ENG_STATUS_REG_FIRST e.val) = false → ∀ d ∈ s.ldpc.waiting, c.deadline ≤ d.deadline) ∧
      t.ldpc.waiting = s.ldpc.waiting.filter (fun x => decide (x.order ≠ c.order)) ∧
      (∀ k, k ≠ e.val → t.decoding k = s.decoding k) ∧
      t.flag (F.LDPC_ENG_STATUS_BUSY e.val) = true ∧
      onlyFields s t [whole A.LDPC_QUEUE, F.LDPC_ENG_STATUS_BUSY e.val] ∧
      t = { s with regs := t.regs, ldpc := t.ldpc } := by
  obtain ⟨hmin, hcap, hcycles⟩ := State.startable_bounds hstart
  refine ⟨s.decodeBegun e.val c n, ?_, (s.decoding_decodeBegun _ _ _ _).trans (if_pos rfl), hmin, hcap, hcycles,
    fun hrole => State.engineOrder_earliest hrole horder, rfl,
    fun k hk => (s.decoding_decodeBegun _ _ _ _).trans (if_neg hk), State.busy_setEngine_some _ _ _,
    onlyFields_decodeBegun s _ c n, rfl⟩
  rw [exec_engineFree e hfirst hworks, horder, State.engineChoose_of_startable hstart]

/-! ### DECODE_END -/

/-- Engine e is free again, and the iterations that it ran are counted. -/
def State.decodeOver (s : State) (e n : Nat) : State := (s.setEngine e none).count C.LDPC_ITER_TOTAL n

section
variable {i : BitVec 5} {zero : Bool} {e : Fin 14} (hworks : s.takesWork 0x80 = true) (hd : s.decoding e.val = some d)
include hworks hd

theorem exec_decodeEnd_of_zero : exec (.decodeEnd e i true true) s =
    .next (((s.decodeOver e.val (min d.limit i.toNat)).count (C.LDPC_DEC_OK d.cw.cls.rank)).ngCodeword d.cw true
      false) := by
  refine (State.whenWorks_of_takesWork hworks _).trans ?_
  rw [hd]
  rfl

theorem exec_decodeEnd_of_not_zero : exec (.decodeEnd e i false true) s =
    .next (((s.decodeOver e.val d.limit).count C.LDPC_DEC_FAIL).ngCodeword d.cw false false) := by
  refine (State.whenWorks_of_takesWork hworks _).trans ?_
  rw [hd]
  rfl

theorem exec_decodeEnd_of_disagreed : exec (.decodeEnd e i zero false) s =
    .next (((s.decodeOver e.val (if zero then min d.limit i.toNat else d.limit)).present 0x13 e.val).cwRequeue
      d.cw) := by
  refine (State.whenWorks_of_takesWork hworks _).trans ?_
  rw [hd]
  rfl

end

/-- The state in which a decode of engine e has ended and its codeword is reported, under the counter a. -/
def State.decodeReported (s : State) (e n a : Nat) (c : Codeword) (ok : Bool) : State :=
  ((s.decodeOver e n).count a).ngCodeword c ok false

theorem decodeReported_rule (s : State) (e n : Nat) {a : Nat} (c : Codeword) (ok : Bool) (ha : a ≠ C.LDPC_ITER_TOTAL) :
    (s.decodeReported e n a c ok).decoding e = none ∧
      (s.decodeReported e n a c ok).flag (F.LDPC_ENG_STATUS_BUSY e) = false ∧
      (s.decodeReported e n a c ok).ldpc.waiting = s.ldpc.waiting ∧
      counted s (s.decodeReported e n a c ok) C.LDPC_ITER_TOTAL n ∧ counted s (s.decodeReported e n a c ok) a 1 ∧
      onlyCtrs s (s.decodeReported e n a c ok) [C.LDPC_ITER_TOTAL, a] ∧
      onlyFields s (s.decodeReported e n a c ok) [F.LDPC_ENG_STATUS_BUSY e] ∧
      s.decodeReported e n a c ok = { s with
        regs := (s.decodeReported e n a c ok).regs, ctrs := (s.decodeReported e n a c ok).ctrs
        ldpc := (s.decodeReported e n a c ok).ldpc, ngr := (s.decodeReported e n a c ok).ngr } := by
  have hframe := ((s.decodeOver e n).count a).ngCodeword_frame c ok false
  have hctrs := ((s.decodeOver e n).count a).ctrs_ngCodeword c ok false
  have hregs := ((s.decodeOver e n).count a).regs_ngCodeword c ok false
  have hldpc := ((s.decodeOver e n).count a).ldpc_ngCodeword c ok false
  unfold State.decodeReported
  generalize ((s.decodeOver e n).count a).ngCodeword c ok false = t at hframe hctrs hregs hldpc ⊢
  refine ⟨?_, ?_, ?_, ?_, ?_, ?_, ?_, ?_⟩
  · rw [State.decoding_of_engines (congrArg LdpcSt.engines hldpc)]
    exact s.decoding_setEngine_same e none
  · rw [flag_of_rd (f := F.LDPC_ENG_STATUS_BUSY e) (congrArg (fun m => sget resetWord m _) hregs)]
    exact s.busy_setEngine_none e
  · rw [hldpc]
    rfl
  · exact counted_then_kept (counted_then_kept (counted_count (s.setEngine e none) _ n)
      (((s.decodeOver e n).ctr_count a 1 _).trans (if_neg ha.symm))) (State.ctr_of_ctrs hctrs _)
  · exact counted_then_kept (counted_of_kept (((s.setEngine e none).ctr_count _ n a).trans (if_neg ha))
      (counted_count (s.decodeOver e n) a 1)) (State.ctr_of_ctrs hctrs _)
  · exact onlyCtrs_of_ctrs hctrs (onlyCtrs_count _ _ (by simp) (onlyCtrs_count (t := s.setEngine e none) _ _ (by simp)
      (onlyCtrs_of_ctrs rfl (onlyCtrs_refl s _))))
  · exact onlyFields_of_regs hregs (onlyFields_setEngine e none (by simp) (onlyFields_refl s _))
  · rw [hframe]
    rfl

theorem decOk_ne_iterTotal (k : CwClass) : C.LDPC_DEC_OK k.rank ≠ C.LDPC_ITER_TOTAL := by cases k <;> decide

theorem decodeEnd_agreed_rule (s : State) (e : Fin 14) (d : Decode) (i : BitVec 5) (zero : Bool)
    (hworks : s.takesWork 0x80 = true) (hd : s.decoding e.val = some d) :
    ∃ t, exec (.decodeEnd e i zero true) s = .next t ∧ t.decoding e.val = none ∧
      t.flag (F.LDPC_ENG_STATUS_BUSY e.val) = false ∧ t.ldpc.waiting = s.ldpc.waiting ∧
      counted s t C.LDPC_ITER_TOTAL (if zero then min d.limit i.toNat else d.limit) ∧
      (zero = true → counted s t (C.LDPC_DEC_OK d.cw.cls.rank) 1 ∧
        onlyCtrs s t [C.LDPC_ITER_TOTAL, C.LDPC_DEC_OK d.cw.cls.rank]) ∧
      (zero = false → counted s t C.LDPC_DEC_FAIL 1 ∧ onlyCtrs s t [C.LDPC_ITER_TOTAL, C.LDPC_DEC_FAIL]) ∧
      onlyFields s t [F.LDPC_ENG_STATUS_BUSY e.val] ∧
      t = { s with regs := t.regs, ctrs := t.ctrs, ldpc := t.ldpc, ngr := t.ngr } := by
  cases zero with
  | true =>
    obtain ⟨hfree, hbusy, hwait, htotal, hone, hctrs, hfields, hframe⟩ :=
      decodeReported_rule s e.val (min d.limit i.toNat) d.cw true (decOk_ne_iterTotal d.cw.cls)
    exact ⟨_, exec_decodeEnd_of_zero hworks hd, hfree, hbusy, hwait, htotal, fun _ => ⟨hone, hctrs⟩, nofun, hfields,
      hframe⟩
  | false =>
    obtain ⟨hfree, hbusy, hwait, htotal, hone, hctrs, hfields, hframe⟩ :=
      decodeReported_rule s e.val d.limit (a := C.LDPC_DEC_FAIL) d.cw false (by decide)
    exact ⟨_, exec_decodeEnd_of_not_zero hworks hd, hfree, hbusy, hwait, htotal, nofun, fun _ => ⟨hone, hctrs⟩, hfields,
      hframe⟩

theorem reserve_ne_busy : ∀ e : Fin 14, F.LDPC_RESERVE_REG_ENTRIES.addr ≠ (F.LDPC_ENG_STATUS_BUSY e.val).addr := by
  decide

theorem decodeEnd_disagreed_rule (s : State) (e : Fin 14) (d : Decode) (i : BitVec 5) (zero : Bool)
    (hworks : s.takesWork 0x80 = true) (hd : s.decoding e.val = some d)
    (hroom : s.ldpc.waiting.length + s.fld F.LDPC_RESERVE_REG_ENTRIES < 768) :
    ∃ t, exec (.decodeEnd e i zero false) s = .next t ∧ t.decoding e.val = none ∧ noted s t 0x13 e.val false ∧
      t.ldpc.waiting = s.ldpc.waiting ++ [{ d.cw with arrival := s.now, order := s.ldpc.next }] ∧
      (s.flt.queue.length < 16 → counted s t C.LDPC_DEC_REQUEUED 1) ∧ t.mem = s.mem := by
  refine ⟨_, exec_decodeEnd_of_disagreed hworks hd, ?_⟩
  generalize (if zero then min d.limit i.toNat else d.limit) = n
  have hfault := faultsPresented_present (s.decodeOver e.val n) 0x13 e.val false
  have hqueue : s.flt.queue.length < 16 → (s.decodeOver e.val n).present 0x13 e.val = _ :=
    (s.decodeOver e.val n).present_of_room 0x13 e.val
  generalize (s.decodeOver e.val n).present 0x13 e.val = u at hfault hqueue ⊢
  have hldpc : u.ldpc = (s.setEngine e.val none).ldpc := by rw [hfault.frame]; rfl
  have htime : u.time = s.time := by rw [hfault.frame]; rfl
  have hreserve : u.fld F.LDPC_RESERVE_REG_ENTRIES = s.fld F.LDPC_RESERVE_REG_ENTRIES :=
    (fld_of_rd (hfault.rd _ (by decide))).trans (s.fld_setFld_ne _ _ _ (reserve_ne_busy e))
  have hfree : (u.count C.LDPC_DEC_REQUEUED).ldpc.waiting.length +
      (u.count C.LDPC_DEC_REQUEUED).fld F.LDPC_RESERVE_REG_ENTRIES < 768 := by
    rw [State.fld_count, hreserve]
    show u.ldpc.waiting.length + _ < 768
    rw [hldpc]
    exact hroom
  unfold State.cwRequeue
  rw [State.cwArrive_of_room hfree]
  refine ⟨?_, fun h => ?_, ?_, fun h => ?_, ?_⟩
  · refine (State.decoding_of_engines (congrArg LdpcSt.engines hldpc) e.val).trans ?_
    exact s.decoding_setEngine_same e.val none
  · show u.flt.queue = _
    rw [hqueue h]
    rfl
  · show u.ldpc.waiting ++ [{ d.cw with arrival := u.time.tick.toNat, order := u.ldpc.next }] = _
    rw [hldpc, htime]
    rfl
  · refine counted_of_kept ?_ (counted_count u C.LDPC_DEC_REQUEUED 1)
    rw [hqueue h]
    exact ((s.setEngine e.val none).ctr_count _ n _).trans (if_neg (by decide))
  · show u.mem = s.mem
    rw [hfault.frame]
    rfl

/-! ### CODEWORD_DEADLINE -/

theorem codewordDeadline_rule (s : State) (hup : s.dark = false) :
    ∃ t, exec .codewordDeadline s = .next t ∧
      t.ldpc.waiting = s.ldpc.waiting.filter (fun c => (s.startable c).isSome) ∧
      (∀ k : CwClass, counted s t (C.LDPC_DEC_MISSED k.rank)
        (s.ldpc.waiting.filter (fun c => (s.startable c).isNone && decide (c.cls = k))).length) ∧
      t.ldpc.engines = s.ldpc.engines ∧ onlyFields s t [whole A.LDPC_QUEUE] ∧ t.mem = s.mem := by
  have hkept : onlyFields s (s.setWaiting (s.ldpc.waiting.filter (fun c => (s.startable c).isSome)))
      [whole A.LDPC_QUEUE] := onlyFields_setWaiting _ (List.mem_singleton_self _) (onlyFields_refl s _)
  have hends := endsFrame_foldl endsFrame_cwMissed (s.ldpc.waiting.filter (fun c => (s.startable c).isNone))
    (s.setWaiting (s.ldpc.waiting.filter (fun c => (s.startable c).isSome)))
  refine ⟨_, if_neg (by rw [hup]; exact Bool.false_ne_true), congrArg LdpcSt.waiting hends.ldpc_eq, fun k => ?_,
    (congrArg LdpcSt.engines hends.ldpc_eq).trans rfl, onlyFields_of_regs hends.regs_eq hkept, hends.mem_eq⟩
  have hcount := counted_foldl_cwMissed k (s.ldpc.waiting.filter (fun c => (s.startable c).isNone))
    (s.setWaiting (s.ldpc.waiting.filter (fun c => (s.startable c).isSome)))
  rw [List.filter_filter] at hcount
  simp only [Bool.and_comm (decide _)] at hcount
  exact hcount

end Sys2Proof.Machine
end

section
/-! The retirement of an engine (R199, R208) and the known-answer decode (R200), and the statement of the engines of the
pool. -/

namespace Sys2Proof.Machine

variable {s t u : State} {e k : Nat}

/-! ### Bits of a mask -/

/-- Taking a power of two from a number that has its bit clears that bit alone. -/
theorem testBit_sub_two_pow_of_set {a : Nat} (h : a.testBit e = true) (j : Nat) :
    (a - 2 ^ e).testBit j = (a.testBit j && decide (j ≠ e)) := by
  obtain ⟨b, rfl⟩ := Nat.exists_eq_add_of_le (Nat.ge_two_pow_of_testBit h)
  have hb : b.testBit e = false := by simpa [Nat.testBit_two_pow_add_eq] using h
  rw [Nat.add_sub_cancel_left]
  rcases Nat.lt_trichotomy j e with hj | rfl | hj
  · rw [Nat.testBit_two_pow_add_gt hj, decide_eq_true (Nat.ne_of_lt hj), Bool.and_true]
  · rw [hb, decide_eq_false (not_not_intro rfl), Bool.and_false]
  · obtain ⟨i, rfl⟩ := Nat.exists_eq_add_of_lt hj
    have heven : b / 2 ^ e % 2 = 0 := by
      simpa [Nat.testBit_eq_decide_div_mod_eq] using hb
    have hhalf : (2 ^ e + b) / 2 ^ (e + 1) = b / 2 ^ (e + 1) := by
      rw [pow_succ, ← Nat.div_div_eq_div_mul, ← Nat.div_div_eq_div_mul, Nat.add_div_left _ (by positivity)]
      omega
    rw [decide_eq_true (Nat.ne_of_gt hj), Bool.and_true, show e + i + 1 = i + (e + 1) by omega, Nat.testBit_add,
      Nat.testBit_add, hhalf]

/-! ### An engine that stops -/

/-- What the stop of engine e leaves: every register but QUEUE and its BUSY bit, and all outside the pool's frame. -/
structure engineStopped (e : Nat) (s t : State) : Prop where
  frame : poolFrame s t
  free : t.decoding e = none
  fields : onlyFields s t [whole A.LDPC_QUEUE, F.LDPC_ENG_STATUS_BUSY e]

theorem engineStopped_stopEngine (s : State) (e : Nat) : engineStopped e s (s.stopEngine e) := by
  unfold State.stopEngine
  split
  · next d hd =>
    obtain ⟨hframe, hengines, hfields⟩ := arrivalKept_cwRequeue (s.decodeOver e (s.iterSoFar d)) d.cw
    refine ⟨poolFrame_trans (t := s.decodeOver e (s.iterSoFar d)) rfl hframe, ?_, fun g hg happart => ?_⟩
    · exact (State.decoding_of_engines hengines e).trans (s.decoding_setEngine_same e none)
    · refine (hfields g hg fun f hf => happart f ?_).trans
        (onlyFields_setEngine e none (by simp) (onlyFields_refl s _) g hg happart)
      exact List.mem_singleton.mp hf ▸ List.mem_cons_self
  · next hnone => exact ⟨poolFrame_refl s, hnone, onlyFields_refl s _⟩

/-- A field of the pool other than QUEUE and the engine's BUSY bit reads the same once the engine has stopped. -/
theorem State.fld_stopEngine (s : State) (e : Nat) {g : Fld} (hg : g.lo + g.len ≤ 32)
    (h : ∀ f ∈ [whole A.LDPC_QUEUE, F.LDPC_ENG_STATUS_BUSY e], fldsApart g f = true) :
    (s.stopEngine e).fld g = s.fld g :=
  (engineStopped_stopEngine s e).fields g hg fun f hf => of_decide_eq_true (h f hf)

/-! ### The engine leaves, and a spare comes in -/

/-- The fields that the retirement of engine e writes, with their values. -/
def State.outFields (s : State) (e : Nat) : List (Fld × Nat) :=
  [(F.LDPC_ENGINE_MAP_ACTIVE, s.fld F.LDPC_ENGINE_MAP_ACTIVE - 2 ^ e),
    (F.LDPC_ENGINE_MAP_RETIRED, s.fld F.LDPC_ENGINE_MAP_RETIRED ||| 2 ^ e), (F.LDPC_ENG_STATUS_RETIRED e, 1),
    (F.LDPC_ENG_STATUS_SPARE e, 0), (F.LDPC_ENG_STATUS_REG_FIRST e, 0)]

/-- Engine e is no longer active: it shows as retired, without SPARE and without a role (R199). -/
def State.engineOut (s : State) (e : Nat) : State := s.setFlds (s.outFields e)

/-- The fields that a spare which comes in writes, with their values. -/
def State.inFields (s : State) (k role : Nat) : List (Fld × Nat) :=
  [(F.LDPC_ENG_STATUS_SPARE k, 0), (F.LDPC_ENGINE_MAP_ACTIVE, s.fld F.LDPC_ENGINE_MAP_ACTIVE ||| 2 ^ k),
    (F.LDPC_ENG_STATUS_REG_FIRST k, role)]

/-- Spare k becomes active, with a role (R199). -/
def State.spareIn (s : State) (k role : Nat) : State := s.setFlds (s.inFields k role)

/-- The fields of `State.outFields`. -/
def outNames (e : Nat) : List Fld :=
  [F.LDPC_ENGINE_MAP_ACTIVE, F.LDPC_ENGINE_MAP_RETIRED, F.LDPC_ENG_STATUS_RETIRED e, F.LDPC_ENG_STATUS_SPARE e,
    F.LDPC_ENG_STATUS_REG_FIRST e]

/-- The fields of `State.inFields`. -/
def inNames (k : Nat) : List Fld :=
  [F.LDPC_ENG_STATUS_SPARE k, F.LDPC_ENGINE_MAP_ACTIVE, F.LDPC_ENG_STATUS_REG_FIRST k]

theorem outNames_apart : ∀ e : Fin 14, (outNames e.val).Pairwise (fun f g => fldsApart f g = true) ∧
    ∀ f ∈ outNames e.val, f.lo + f.len ≤ 32 := by decide

theorem inNames_apart : ∀ k : Fin 14, (inNames k.val).Pairwise (fun f g => fldsApart f g = true) ∧
    ∀ f ∈ inNames k.val, f.lo + f.len ≤ 32 := by decide

theorem State.fld_engineOut (s : State) (he : e < 14) {f : Fld} {v : Nat} (hm : (f, v) ∈ s.outFields e) :
    (s.engineOut e).fld f = v % 2 ^ f.len := by
  obtain ⟨hpair, hfits⟩ := outNames_apart ⟨e, he⟩
  exact s.fld_setFlds_of_mem (fs := outNames e) rfl hpair hfits hm

theorem State.fld_spareIn (s : State) {role : Nat} (hk : k < 14) {f : Fld} {v : Nat} (hm : (f, v) ∈ s.inFields k role) :
    (s.spareIn k role).fld f = v % 2 ^ f.len := by
  obtain ⟨hpair, hfits⟩ := inNames_apart ⟨k, hk⟩
  exact s.fld_setFlds_of_mem (fs := inNames k) rfl hpair hfits hm

theorem State.fld_engineOut_of_apart (s : State) (e : Nat) {g : Fld} (hg : g.lo + g.len ≤ 32)
    (h : ∀ f ∈ outNames e, fldsApart g f = true) : (s.engineOut e).fld g = s.fld g :=
  s.fld_setFlds_of_apart (fs := outNames e) rfl hg h

theorem State.fld_spareIn_of_apart (s : State) (k role : Nat) {g : Fld} (hg : g.lo + g.len ≤ 32)
    (h : ∀ f ∈ inNames k, fldsApart g f = true) : (s.spareIn k role).fld g = s.fld g :=
  s.fld_setFlds_of_apart (fs := inNames k) rfl hg h

theorem spare_apart_out : ∀ e k : Fin 14, k ≠ e →
    ∀ f ∈ outNames e.val, fldsApart (F.LDPC_ENG_STATUS_SPARE k.val) f = true := by decide

theorem retired_apart_in : ∀ k : Fin 14, ∀ f ∈ inNames k.val, fldsApart F.LDPC_ENGINE_MAP_RETIRED f = true := by
  decide

theorem map_apart_stop : ∀ e : Fin 14, ∀ f ∈ [whole A.LDPC_QUEUE, F.LDPC_ENG_STATUS_BUSY e.val],
    fldsApart F.LDPC_ENGINE_MAP_ACTIVE f = true ∧ fldsApart F.LDPC_ENGINE_MAP_RETIRED f = true := by decide

theorem spare_apart_stop : ∀ e k : Fin 14, ∀ f ∈ [whole A.LDPC_QUEUE, F.LDPC_ENG_STATUS_BUSY e.val],
    fldsApart (F.LDPC_ENG_STATUS_SPARE k.val) f = true := by decide

/-- The lowest spare other than engine e comes in for it, with its role (R199). -/
theorem State.retireEngine_of_spare (hactive : s.engineActive e = true)
    (hfind : (List.range 14).find? (fun k => ((s.stopEngine e).engineOut e).flag (F.LDPC_ENG_STATUS_SPARE k)) = some k) :
    s.retireEngine e = ((s.stopEngine e).engineOut e).spareIn k (s.fld (F.LDPC_ENG_STATUS_REG_FIRST e)) := by
  unfold State.retireEngine
  dsimp only
  rw [if_pos hactive, if_neg (not_not_intro hactive)]
  split
  · next j hj =>
    cases Option.some.inj (hj.symm.trans hfind)
    rfl
  · next hnone => exact absurd (hfind.symm.trans hnone) nofun

section
variable (he : e < 14) (hactive : s.engineActive e = true)
  (hk : k < 14) (hne : k ≠ e) (hspare : s.flag (F.LDPC_ENG_STATUS_SPARE k) = true)
  (hlow : ∀ j < k, j ≠ e → s.flag (F.LDPC_ENG_STATUS_SPARE j) = false)

include he in
/-- Once engine e is out, its SPARE bit is clear and the others are as before. -/
theorem State.spare_engineOut {j : Nat} (hj : j < 14) :
    ((s.stopEngine e).engineOut e).flag (F.LDPC_ENG_STATUS_SPARE j) =
      (s.flag (F.LDPC_ENG_STATUS_SPARE j) && decide (j ≠ e)) := by
  by_cases hje : j = e
  · subst hje
    have hzero := (s.stopEngine j).fld_engineOut he (f := F.LDPC_ENG_STATUS_SPARE j) (v := 0) (by simp [State.outFields])
    simp [State.flag, hzero]
  · have hout := (s.stopEngine e).fld_engineOut_of_apart e (g := F.LDPC_ENG_STATUS_SPARE j) (of_decide_eq_true rfl)
      (spare_apart_out ⟨e, he⟩ ⟨j, hj⟩ fun h => hje (congrArg Fin.val h))
    have hstop := s.fld_stopEngine e (g := F.LDPC_ENG_STATUS_SPARE j) (of_decide_eq_true rfl)
      (spare_apart_stop ⟨e, he⟩ ⟨j, hj⟩)
    simp only [State.flag, hout, hstop, ne_eq, hje, not_false_eq_true, decide_true, Bool.and_true]

include he hk hne hspare hlow in
theorem State.find_spare :
    (List.range 14).find? (fun j => ((s.stopEngine e).engineOut e).flag (F.LDPC_ENG_STATUS_SPARE j)) = some k := by
  refine List.find?_range_eq_some.mpr ⟨?_, List.mem_range.mpr hk, fun j hj => ?_⟩
  · rw [State.spare_engineOut he hk, hspare, decide_eq_true hne]
    rfl
  · rw [State.spare_engineOut he (Nat.lt_trans hj hk)]
    by_cases hje : j = e
    · simp [hje]
    · rw [hlow j hj hje]
      rfl

include he hactive in
/-- The active engines once e is out: all but e. -/
theorem State.active_engineOut (j : Nat) :
    (((s.stopEngine e).engineOut e).fld F.LDPC_ENGINE_MAP_ACTIVE).testBit j = (s.engineActive j && decide (j ≠ e)) := by
  have hstop : (s.stopEngine e).fld F.LDPC_ENGINE_MAP_ACTIVE = s.fld F.LDPC_ENGINE_MAP_ACTIVE :=
    s.fld_stopEngine e (by decide) fun f hf => (map_apart_stop ⟨e, he⟩ f hf).1
  have hlt : s.fld F.LDPC_ENGINE_MAP_ACTIVE - 2 ^ e < 2 ^ F.LDPC_ENGINE_MAP_ACTIVE.len :=
    Nat.lt_of_le_of_lt (Nat.sub_le _ _) (s.fld_lt _)
  rw [(s.stopEngine e).fld_engineOut he (f := F.LDPC_ENGINE_MAP_ACTIVE) List.mem_cons_self, hstop,
    Nat.mod_eq_of_lt hlt]
  exact testBit_sub_two_pow_of_set hactive j

include he hk hne in
/-- An active engine is retired, and the lowest spare comes in with its role (R199). -/
theorem retireEngine_rule (s : State) (hactive : s.engineActive e = true)
    (hspare : s.flag (F.LDPC_ENG_STATUS_SPARE k) = true)
    (hlow : ∀ j < k, j ≠ e → s.flag (F.LDPC_ENG_STATUS_SPARE j) = false) :
    (s.retireEngine e).decoding e = none ∧
      ((s.retireEngine e).fld F.LDPC_ENGINE_MAP_RETIRED).testBit e = true ∧
      (∀ j < 14, (s.retireEngine e).engineActive j = ((s.engineActive j && decide (j ≠ e)) || decide (j = k))) ∧
      (s.retireEngine e).flag (F.LDPC_ENG_STATUS_SPARE k) = false ∧
      (s.retireEngine e).fld (F.LDPC_ENG_STATUS_REG_FIRST k) = s.fld (F.LDPC_ENG_STATUS_REG_FIRST e) ∧
      (s.retireEngine e).mem = s.mem := by
  obtain ⟨hframe, hfree, -⟩ := engineStopped_stopEngine s e
  have hregs : regsFrame (s.stopEngine e) (((s.stopEngine e).engineOut e).spareIn k
      (s.fld (F.LDPC_ENG_STATUS_REG_FIRST e))) := regsFrame_trans (regsFrame_setFlds _ _) (regsFrame_setFlds _ _)
  have hretired : (((s.stopEngine e).engineOut e).fld F.LDPC_ENGINE_MAP_RETIRED).testBit e = true := by
    have hlt : 2 ^ e < 2 ^ F.LDPC_ENGINE_MAP_RETIRED.len := Nat.pow_lt_pow_right (by decide) he
    rw [(s.stopEngine e).fld_engineOut he (f := F.LDPC_ENGINE_MAP_RETIRED)
      (List.mem_cons_of_mem _ List.mem_cons_self), Nat.mod_eq_of_lt (Nat.or_lt_two_pow (State.fld_lt _ _) hlt),
      Nat.testBit_or, Nat.testBit_two_pow_self, Bool.or_true]
  have hactives := State.active_engineOut (s := s) he hactive
  rw [State.retireEngine_of_spare hactive (State.find_spare he hk hne hspare hlow)]
  generalize (s.stopEngine e).engineOut e = v at hregs hretired hactives ⊢
  refine ⟨?_, ?_, fun j hj => ?_, ?_, ?_, ?_⟩
  · rw [hregs]
    exact hfree
  · rw [v.fld_spareIn_of_apart k _ (by decide) (retired_apart_in ⟨k, hk⟩)]
    exact hretired
  · have hlt : 2 ^ k < 2 ^ F.LDPC_ENGINE_MAP_ACTIVE.len := Nat.pow_lt_pow_right (by decide) hk
    unfold State.engineActive
    rw [v.fld_spareIn hk (f := F.LDPC_ENGINE_MAP_ACTIVE) (List.mem_cons_of_mem _ List.mem_cons_self),
      Nat.mod_eq_of_lt (Nat.or_lt_two_pow (v.fld_lt _) hlt), Nat.testBit_or, hactives, Nat.testBit_two_pow]
    simp only [State.engineActive, eq_comm]
  · unfold State.flag
    rw [v.fld_spareIn hk (f := F.LDPC_ENG_STATUS_SPARE k) (v := 0) List.mem_cons_self]
    rfl
  · rw [v.fld_spareIn hk (f := F.LDPC_ENG_STATUS_REG_FIRST k) (v := s.fld (F.LDPC_ENG_STATUS_REG_FIRST e))
      (by simp [State.inFields])]
    exact Nat.mod_eq_of_lt (s.fld_lt (F.LDPC_ENG_STATUS_REG_FIRST e))
  · rw [hregs]
    exact hframe.mem_eq

end

/-! ### LDPC_RETIRE -/

/-- What a write of RETIRE does behind the clock that it starts (R208). -/
def State.retireWritten (u : State) (e : Nat) : State :=
  if 14 ≤ e ∨ ¬ u.engineRetirable e then u.refuse A.LDPC_RETIRE .cfgRange
  else if (u.fld F.LDPC_ENGINE_MAP_RETIRED).testBit e then u
  else u.retireEngine e

theorem exec_ldpcRetire (v : Word) (hworks : s.takesWork 0x80 = true) :
    exec (.ldpcRetire v) s = .next ((s.touch A.LDPC_RETIRE).retireWritten (getBits v 0 4)) :=
  congrArg Host.Outcome.next (State.ownWrite_of_takesWork (a := A.LDPC_RETIRE) hworks _ _)

theorem ldpcRetire_refused_rule (s u : State) (v : Word) (hworks : s.takesWork 0x80 = true)
    (hu : u = s.touch A.LDPC_RETIRE) (h14 : 14 ≤ getBits v 0 4) :
    ∃ t, exec (.ldpcRetire v) s = .next t ∧ refusedOnly u t A.LDPC_RETIRE 2 := by
  refine ⟨_, exec_ldpcRetire v hworks, ?_⟩
  unfold State.retireWritten
  rw [← hu, if_pos (.inl h14)]
  exact refusedOnly_refuse u _ .cfgRange

/-- Starting the clock of the pool leaves its registers. -/
theorem State.fld_touch_retire (s : State) {g : Fld} (h : g.addr ≠ A.CKGEN_ACTIVE) :
    (s.touch A.LDPC_RETIRE).fld g = s.fld g := fld_of_rd (s.rd_touch _ h)

theorem engStatus_ne_active (e : Nat) : A.LDPC_ENG_STATUS e ≠ A.CKGEN_ACTIVE := by
  unfold A.LDPC_ENG_STATUS A.CKGEN_ACTIVE
  omega

theorem ldpcRetire_rule (s : State) (v : Word) (e k : Nat) (hworks : s.takesWork 0x80 = true) (hev : e = getBits v 0 4)
    (he : e < 14) (hactive : s.engineActive e = true) (hret : (s.fld F.LDPC_ENGINE_MAP_RETIRED).testBit e = false)
    (hable : s.engineRetirable e = true) (hk : k < 14) (hne : k ≠ e)
    (hspare : s.flag (F.LDPC_ENG_STATUS_SPARE k) = true)
    (hlow : ∀ j < k, j ≠ e → s.flag (F.LDPC_ENG_STATUS_SPARE j) = false) :
    ∃ t, exec (.ldpcRetire v) s = .next t ∧ t.decoding e = none ∧ t.engineActive e = false ∧
      (t.fld F.LDPC_ENGINE_MAP_RETIRED).testBit e = true ∧ t.engineActive k = true ∧
      t.flag (F.LDPC_ENG_STATUS_SPARE k) = false ∧
      t.fld (F.LDPC_ENG_STATUS_REG_FIRST k) = s.fld (F.LDPC_ENG_STATUS_REG_FIRST e) ∧
      (∀ j < 14, j ≠ e → j ≠ k → t.engineActive j = s.engineActive j) ∧ t.mem = s.mem := by
  have hmap : (s.touch A.LDPC_RETIRE).fld F.LDPC_ENGINE_MAP_ACTIVE = s.fld F.LDPC_ENGINE_MAP_ACTIVE :=
    s.fld_touch_retire (by decide)
  have hmask : (s.touch A.LDPC_RETIRE).fld F.LDPC_ENGINE_MAP_RETIRED = s.fld F.LDPC_ENGINE_MAP_RETIRED :=
    s.fld_touch_retire (by decide)
  have hrole : (s.touch A.LDPC_RETIRE).fld (F.LDPC_ENG_STATUS_REG_FIRST e) = s.fld (F.LDPC_ENG_STATUS_REG_FIRST e) :=
    s.fld_touch_retire (engStatus_ne_active e)
  have hspares : ∀ j, (s.touch A.LDPC_RETIRE).flag (F.LDPC_ENG_STATUS_SPARE j) = s.flag (F.LDPC_ENG_STATUS_SPARE j) :=
    fun j => flag_of_rd (s.rd_touch _ (engStatus_ne_active j))
  have hactives : ∀ j, (s.touch A.LDPC_RETIRE).engineActive j = s.engineActive j := fun j => by
    unfold State.engineActive
    rw [hmap]
  have hables : (s.touch A.LDPC_RETIRE).engineRetirable e = s.engineRetirable e := by
    unfold State.engineRetirable State.activeEngines
    rw [hactives, hmap]
  have hmem : (s.touch A.LDPC_RETIRE).mem = s.mem := by rw [s.touch_frame]
  have hexec := exec_ldpcRetire v hworks
  rw [← hev] at hexec
  generalize s.touch A.LDPC_RETIRE = u at hmask hrole hspares hactives hables hmem hexec
  have hwritten : u.retireWritten e = u.retireEngine e := by
    unfold State.retireWritten
    rw [if_neg (by rw [hables, hable]; simp; omega), if_neg (by rw [hmask, hret]; exact Bool.false_ne_true)]
  obtain ⟨hfree, hretired, hmapped, hclear, hgiven, hkept⟩ := retireEngine_rule he hk hne u
    ((hactives e).trans hactive) ((hspares k).trans hspare) fun j hj hje => (hspares j).trans (hlow j hj hje)
  refine ⟨_, hwritten ▸ hexec, hfree, ?_, hretired, ?_, hclear, hgiven.trans hrole, fun j hj hje hjk => ?_,
    hkept.trans hmem⟩
  · rw [hmapped e he]
    simp [hne.symm]
  · rw [hmapped k hk]
    simp
  · rw [hmapped j hj, hactives]
    simp [hje, hjk]

/-! ### BIST -/

/-- While fewer than 16 events wait in all, a permanent error that is presented joins FAULT's queue (R683). -/
theorem State.present_perm_of_room (s : State) (src unit : Nat) (h : s.flt.queue.length < 16) :
    s.present src unit true = { s with flt := { s.flt with queue := s.flt.queue ++
      [{ src := src, unit := unit, perm := true, inj := false, full := false }] } } :=
  if_pos (Nat.lt_of_le_of_lt (List.length_filter_le _ _) h)

/-- A failed known-answer decode of engine e is counted (R200). -/
def State.bistFailed (s : State) (e : Nat) : State :=
  s.setFld (F.LDPC_ENG_STATUS_BIST_FAIL e) (min 0xFFFF (s.fld (F.LDPC_ENG_STATUS_BIST_FAIL e) + 1))

theorem exec_bist_of_fail (e : Fin 14) (hworks : s.takesWork 0x80 = true) (hperiod : s.fld F.LDPC_BIST_CFG_PERIOD_MS ≠ 0)
    (hwait : s.ldpc.waiting = []) (hfree : s.decoding e.val = none)
    (hret : (s.fld F.LDPC_ENGINE_MAP_RETIRED).testBit e.val = false) (hwatch : s.inWatch = false) :
    exec (.bist e false) s = .next ((s.bistFailed e.val).present 0x13 e.val true) :=
  (State.whenWorks_of_takesWork hworks _).trans (if_neg (by simp [hperiod, hwait, hfree, hret, hwatch]))

theorem exec_bist_of_pass (e : Fin 14) : exec (.bist e true) s = .next s := by
  show s.whenWorks 0x80 _ = _
  unfold State.whenWorks
  split
  · exact if_pos (by simp)
  · rfl

theorem bistFail_ne_pending (e : Nat) : (F.LDPC_ENG_STATUS_BIST_FAIL e).addr ≠ A.FAULT_PENDING (0x13 / 32) := by
  unfold F.LDPC_ENG_STATUS_BIST_FAIL A.LDPC_ENG_STATUS A.FAULT_PENDING
  dsimp only
  omega

theorem bist_rule (s : State) (e : Fin 14) (hworks : s.takesWork 0x80 = true)
    (hperiod : s.fld F.LDPC_BIST_CFG_PERIOD_MS ≠ 0) (hwait : s.ldpc.waiting = []) (hfree : s.decoding e.val = none)
    (hret : (s.fld F.LDPC_ENGINE_MAP_RETIRED).testBit e.val = false) (hwatch : s.inWatch = false) :
    ∃ t, exec (.bist e false) s = .next t ∧
      t.fld (F.LDPC_ENG_STATUS_BIST_FAIL e.val) = min 65535 (s.fld (F.LDPC_ENG_STATUS_BIST_FAIL e.val) + 1) ∧
      noted s t 0x13 e.val true ∧
      (s.flt.queue.length < 16 → onlyFields s t [F.LDPC_ENG_STATUS_BIST_FAIL e.val] ∧
        t = { s with regs := t.regs, flt := t.flt }) := by
  have hfault := faultsPresented_present (s.bistFailed e.val) 0x13 e.val true
  refine ⟨_, exec_bist_of_fail e hworks hperiod hwait hfree hret hwatch, ?_, fun hroom => ?_, fun hroom => ?_⟩
  · rw [fld_of_rd (hfault.rd _ (bistFail_ne_pending e.val)), State.bistFailed,
      State.fld_setFld_same _ _ _ (of_decide_eq_true rfl)]
    exact Nat.mod_eq_of_lt (Nat.lt_of_le_of_lt (Nat.min_le_left _ _) (of_decide_eq_true rfl))
  · rw [State.present_perm_of_room (s.bistFailed e.val) _ _ hroom]
    rfl
  · rw [State.present_perm_of_room (s.bistFailed e.val) _ _ hroom]
    exact ⟨onlyFields_of_regs rfl (onlyFields_setFld _ _ (List.mem_singleton_self _) (onlyFields_refl s _)), rfl⟩

/-! ### The statement -/

/-- Settles O21: each clause is the rule of its command. -/
theorem decoderEngines : Obligations.DecoderEngines := by
  unfold Obligations.DecoderEngines
  exact ⟨engineFree_rule, fun s e h => exec_engineFree_of_empty e h, decodeEnd_agreed_rule, decodeEnd_disagreed_rule,
    codewordDeadline_rule, ldpcRetire_refused_rule,
    fun s v e k hworks hev he hactive hret hable hk hne hspare hlow _ =>
      ldpcRetire_rule s v e k hworks hev he hactive hret hable hk hne hspare hlow,
    bist_rule, fun s e => exec_bist_of_pass e⟩

end Sys2Proof.Machine
end

section
/-! A write of LDPC.ITER_CFG (R198, R209): which check refuses it, what it leaves when it takes effect, and the statement
on admitted flows. -/

namespace Sys2Proof.Machine

variable {s u : State} {w : Word}

/-! ### A write that reaches its register, and one that a check refuses -/

/-- An aligned word access that a master may make, to a register of a block that takes work, reaches the register. -/
theorem State.stopped_of_takesWork {m : Master} {write : Bool} {a size : Nat} (c : Instr) (hregs : inRegs a = true)
    (hocc : occupied (windowOf a) = true) (hsize : goodSize a size = true) (hworks : s.takesWork (windowOf a) = true)
    (hgrant : s.granted m write a = true) : s.stopped m write a size c = none := by
  unfold State.takesWork at hworks
  simp only [Bool.and_eq_true, Bool.not_eq_true'] at hworks
  obtain ⟨hgated, hawaits⟩ := hworks
  have hreach : s.reaches m a = true := by
    unfold State.reaches
    rw [hregs, hocc]
    rfl
  simp only [State.stopped, State.dark_of_not_gated hgated, hgrant, hreach, hregs, hgated, hsize, hawaits, not_true_eq_false,
    Bool.false_eq_true, or_self, if_false]

/-- A word that a check refuses is recorded as refused, and the register keeps its value (R10). -/
theorem State.plainWrite_of_refused {a : Nat} {v : Word} {d : RegDesc} {ix : List Nat} {c : RefCode}
    (hw : w = wordPut s a v) (hfind : findReg a = some (d, ix))
    (href : checkFields s.locked w d.fields = some c ∨
      checkFields s.locked w d.fields = none ∧ firstRef (s.regConds (firstWindow (windowOf a)) a w) = some c) :
    s.plainWrite a v = s.refuse a c := by
  subst hw
  unfold wordPut at href
  rcases href with h | ⟨h, hcond⟩
  · simp only [State.plainWrite, hfind, h]
  · simp only [State.plainWrite, hfind, h, hcond]

/-! ### ITER_CFG -/

/-- The fields of ITER_CFG: MIN_ITER, and the limits of the Bulk, Immediate and Registered classes (R209). -/
def iterFields : List RegField :=
  [⟨28, 24, .rw, .const 2, .btw 0 16⟩, ⟨20, 16, .rw, .const 8, .nzBtw 0 16⟩, ⟨12, 8, .rw, .const 6, .nzBtw 0 16⟩,
    ⟨4, 0, .rw, .const 6, .nzBtw 0 16⟩]

theorem findReg_iterCfg : findReg A.LDPC_ITER_CFG = some (⟨A.LDPC_ITER_CFG, [], iterFields⟩, []) := by decide

theorem iterFields_fit : iterFields.Pairwise RegField.apart ∧ ∀ f ∈ iterFields, f.fits := by
  unfold RegField.apart RegField.fits
  decide

/-- Every bit of ITER_CFG may be written. -/
theorem wordPut_iterCfg (u : State) (v : Word) : wordPut u A.LDPC_ITER_CFG v = v := by
  have hused : usedBits (firstWindow (windowOf A.LDPC_ITER_CFG)) A.LDPC_ITER_CFG = BitVec.allOnes 32 := by decide
  unfold wordPut
  rw [hused, BitVec.and_allOnes, BitVec.not_allOnes, BitVec.and_zero, BitVec.or_zero]

theorem exec_iterCfgWrite {m : Master} {addr : BitVec 64} {v : DWord} (haddr : addr.toNat = A.LDPC_ITER_CFG)
    (hworks : s.takesWork (windowOf A.LDPC_ITER_CFG) = true) (hgrant : s.granted m true A.LDPC_ITER_CFG = true) :
    exec (.registerWrite m addr 4 v) s =
      .next ((s.touch A.LDPC_ITER_CFG).plainWrite A.LDPC_ITER_CFG (v.setWidth 32)) := by
  have hstop : s.stopped m true addr.toNat 4 (.registerWrite m addr 4 v) = none := by
    rw [haddr]
    exact State.stopped_of_takesWork _ (by decide) (by decide) (by decide) hworks hgrant
  rw [exec_registerWrite_plain hstop (by rw [haddr]; rfl) (by rw [haddr]; rfl) (by rw [haddr]; decide)
    (by rw [haddr]; decide), haddr]

/-- A value of a range from a bound to a bound is in range, or refused with `CFG_RANGE` (R11). -/
theorem Range.check_btw_cases (lo hi v : Nat) :
    (Range.btw lo hi).check v = none ∨ (Range.btw lo hi).check v = some .cfgRange := by
  simp only [Range.check]
  split
  · exact .inl rfl
  · exact .inr rfl

/-- Of a range without 0, only 0 is refused with another code than `CFG_RANGE` (R14). -/
theorem Range.check_nzBtw_cases (lo hi v : Nat) : (Range.nzBtw lo hi).check v = none ∨
    ∃ c, (Range.nzBtw lo hi).check v = some c ∧ (v ≠ 0 → c = .cfgRange) := by
  simp only [Range.check]
  split
  · next hv => exact .inr ⟨_, rfl, fun h => absurd hv h⟩
  · split
    · exact .inl rfl
    · exact .inr ⟨_, rfl, fun _ => rfl⟩

/-- A field of ITER_CFG that is out of range is refused; with every limit non-zero, with `CFG_RANGE` (R11, R14). -/
theorem checkFields_iterCfg (locked : Bool) (w : Word) : checkFields locked w iterFields = none ∨
    ∃ c, checkFields locked w iterFields = some c ∧
      (getBits w 16 5 ≠ 0 → getBits w 8 5 ≠ 0 → getBits w 0 5 ≠ 0 → c = .cfgRange) := by
  simp only [iterFields, checkFields, RegField.check]
  rcases Range.check_btw_cases 0 16 (getBits w 24 5) with h | h <;> rw [h]
  · rcases Range.check_nzBtw_cases 0 16 (getBits w 16 5) with h | ⟨c, h, hc⟩ <;> rw [h]
    · rcases Range.check_nzBtw_cases 0 16 (getBits w 8 5) with h | ⟨c, h, hc⟩ <;> rw [h]
      · rcases Range.check_nzBtw_cases 0 16 (getBits w 0 5) with h | ⟨c, h, hc⟩ <;> rw [h]
        · exact .inl rfl
        · exact .inr ⟨c, rfl, fun _ _ => hc⟩
      · exact .inr ⟨c, rfl, fun _ h _ => hc h⟩
    · exact .inr ⟨c, rfl, fun h _ _ => hc h⟩
  · exact .inr ⟨_, rfl, fun _ _ _ => rfl⟩

/-- Limits from 1 to 16 that MIN_ITER does not pass are in range. -/
theorem checkFields_iterCfg_of_limits (locked : Bool)
    (h : ∀ lo ∈ [16, 8, 0], 1 ≤ getBits w lo 5 ∧ getBits w lo 5 ≤ 16 ∧ getBits w 24 5 ≤ getBits w lo 5) :
    checkFields locked w iterFields = none := by
  have hlimit : ∀ lo ∈ [16, 8, 0], Range.check (.nzBtw 0 16) (getBits w lo 5) = none := by
    intro lo hlo
    obtain ⟨h1, h16, -⟩ := h lo hlo
    unfold Range.check
    dsimp only
    rw [if_neg (by omega), if_pos ⟨Nat.zero_le _, h16⟩]
  have hmin : Range.check (.btw 0 16) (getBits w 24 5) = none := by
    obtain ⟨-, h16, hle⟩ := h 16 (by simp)
    exact if_pos ⟨Nat.zero_le _, Nat.le_trans hle h16⟩
  simp only [iterFields, checkFields, RegField.check]
  rw [hmin, hlimit 16 (by simp), hlimit 8 (by simp), hlimit 0 (by simp)]

/-- A flow is live in the states ADMITTED, DEGRADED and REVOKED (R502; notes/assumptions/55.md). -/
theorem State.anyFlowLive_iff (u : State) :
    u.anyFlowLive = true ↔ ∃ f < 512, u.flowState f ≠ 0 ∧ u.flowState f ≠ 4 := by
  simp only [State.anyFlowLive, State.heldFlows, allFlows, List.any_eq_true, List.mem_filter, List.mem_range,
    decide_eq_true_eq, and_assoc]
  rfl

/-- While a flow is live, a change of MIN_ITER or CAP_REG is refused with `CFG_RANGE` (R198). -/
theorem firstRef_iterCfg_of_live (hlive : u.anyFlowLive = true)
    (hchange : getBits w 24 5 ≠ u.fld F.LDPC_ITER_CFG_MIN_ITER ∨ getBits w 0 5 ≠ u.fld F.LDPC_ITER_CFG_CAP_REG) :
    firstRef (u.regConds (firstWindow (windowOf A.LDPC_ITER_CFG)) A.LDPC_ITER_CFG w) = some .cfgRange := by
  show firstRef (u.ldpcConds A.LDPC_ITER_CFG w) = _
  simp only [State.ldpcConds, refRange, firstRef, if_true, hlive, Bool.true_and, Bool.or_eq_true, decide_eq_true_eq,
    hchange, ite_self]

/-- With no flow live, or without such a change, no condition refuses limits that MIN_ITER does not pass. -/
theorem firstRef_iterCfg_of_legal
    (hsafe : u.anyFlowLive = false ∨
      (getBits w 24 5 = u.fld F.LDPC_ITER_CFG_MIN_ITER ∧ getBits w 0 5 = u.fld F.LDPC_ITER_CFG_CAP_REG))
    (h : ∀ lo ∈ [16, 8, 0], getBits w 24 5 ≤ getBits w lo 5) :
    firstRef (u.regConds (firstWindow (windowOf A.LDPC_ITER_CFG)) A.LDPC_ITER_CFG w) = none := by
  have hmin : ¬ (getBits w 16 5 < getBits w 24 5 ∨ getBits w 8 5 < getBits w 24 5 ∨ getBits w 0 5 < getBits w 24 5) := by
    have := h 16 (by simp)
    have := h 8 (by simp)
    have := h 0 (by simp)
    omega
  show firstRef (u.ldpcConds A.LDPC_ITER_CFG w) = _
  simp only [State.ldpcConds, refRange, firstRef, if_true, hmin, decide_false, Bool.false_eq_true, if_false]
  rcases hsafe with hlive | ⟨hmin, hreg⟩
  · simp [hlive]
  · simp [hmin, hreg]

/-- ITER_CFG has no field that CFG_LOCK protects, so a write of it that passes its checks changes the register alone. -/
theorem State.plainWrite_iterCfg (hfields : checkFields u.locked w iterFields = none)
    (hconds : firstRef (u.regConds (firstWindow (windowOf A.LDPC_ITER_CFG)) A.LDPC_ITER_CFG w) = none) :
    u.plainWrite A.LDPC_ITER_CFG w =
      u.wr A.LDPC_ITER_CFG (applyFields u.locked (u.rd A.LDPC_ITER_CFG) w iterFields) := by
  have hrwl : ∀ f ∈ iterFields, f.acc ≠ .rwl := by decide
  have hplain : ¬ lockedChange u.locked (u.rd A.LDPC_ITER_CFG) w iterFields = true := fun h => by
    obtain ⟨-, f, hf, hacc, -⟩ := lockedChange_iff.mp h
    exact hrwl f hf hacc
  have hbits : rwlBits iterFields = 0#32 := by decide
  have hnote : ∀ t : State, t.noteRwl A.LDPC_ITER_CFG (u.rd A.LDPC_ITER_CFG) iterFields = t := fun t => by
    unfold State.noteRwl
    rw [hbits]
    exact if_neg fun h => h.2 (by rw [BitVec.and_zero, BitVec.and_zero])
  rw [State.plainWrite_of_checks (wordPut_iterCfg u w).symm findReg_iterCfg hfields hconds, hnote]
  unfold State.writeFields
  dsimp only
  rw [if_neg hplain]
  rfl

/-- Each field of ITER_CFG takes what is written. -/
theorem getBits_applyFields_iterCfg (locked : Bool) (old w : Word) :
    ∀ lo ∈ [24, 16, 8, 0], getBits (applyFields locked old w iterFields) lo 5 = getBits w lo 5 := by
  obtain ⟨hpair, hfits⟩ := iterFields_fit
  have hfield : ∀ f ∈ iterFields, getBits (applyFields locked old w iterFields) f.lo (f.hi + 1 - f.lo) =
      f.next locked old w := fun f hf => getBits_putFields_of_mem _ _ hpair hfits hf
  intro lo hlo
  fin_cases hlo
  · exact hfield ⟨28, 24, .rw, .const 2, .btw 0 16⟩ (by decide)
  · exact hfield ⟨20, 16, .rw, .const 8, .nzBtw 0 16⟩ (by decide)
  · exact hfield ⟨12, 8, .rw, .const 6, .nzBtw 0 16⟩ (by decide)
  · exact hfield ⟨4, 0, .rw, .const 6, .nzBtw 0 16⟩ (by decide)

/-- What a refused write of ITER_CFG leaves: the register, and all but CFG_STATUS. -/
theorem refuse_iterCfg_leaves (u : State) (c : RefCode) :
    (u.refuse A.LDPC_ITER_CFG c).rd A.LDPC_ITER_CFG = u.rd A.LDPC_ITER_CFG ∧
      onlyFields u (u.refuse A.LDPC_ITER_CFG c) [whole (cfgStatusOf A.LDPC_ITER_CFG)] ∧
      u.refuse A.LDPC_ITER_CFG c = { u with regs := (u.refuse A.LDPC_ITER_CFG c).regs } :=
  ⟨u.refuse_rd _ c _ (by decide), onlyFields_refuse _ c (List.mem_singleton_self _) (onlyFields_refl u _),
    regsFrame_refuse u _ c⟩

/-- Settles O58: the write is refused by a field's range or by the condition of R198, or passes both and takes effect. -/
theorem admittedFlowsHoldTheIterations : Obligations.AdmittedFlowsHoldTheIterations := by
  intro s u m addr v w haddr hworks hgrant hu hw
  refine ⟨_, exec_iterCfgWrite haddr hworks hgrant, ?_, ?_⟩
  · rintro ⟨f, hf, hstate⟩ hchange
    rw [← hu, ← hw]
    have hlive : u.anyFlowLive = true := by
      refine u.anyFlowLive_iff.mpr ⟨f, hf, ?_⟩
      simp only [List.mem_cons, List.not_mem_nil, or_false] at hstate
      omega
    obtain ⟨c, hrefuse, hcode⟩ : ∃ c, u.plainWrite A.LDPC_ITER_CFG w = u.refuse A.LDPC_ITER_CFG c ∧
        (getBits w 16 5 ≠ 0 → getBits w 8 5 ≠ 0 → getBits w 0 5 ≠ 0 → c = .cfgRange) := by
      rcases checkFields_iterCfg u.locked w with hnone | ⟨c, hc, hcode⟩
      · exact ⟨_, State.plainWrite_of_refused (wordPut_iterCfg u w).symm findReg_iterCfg
          (.inr ⟨hnone, firstRef_iterCfg_of_live hlive hchange⟩), fun _ _ _ => rfl⟩
      · exact ⟨c, State.plainWrite_of_refused (wordPut_iterCfg u w).symm findReg_iterCfg (.inl hc), hcode⟩
    obtain ⟨hrd, hfields, hframe⟩ := refuse_iterCfg_leaves u c
    rw [hrefuse]
    refine ⟨hrd, fun h16 h8 h0 hfree => ?_, hfields, hframe⟩
    rw [hcode h16 h8 h0]
    exact u.refuse_code _ .cfgRange hfree
  · intro hsafe hlimits
    rw [← hu, ← hw]
    have hlegal : u.anyFlowLive = false ∨
        (getBits w 24 5 = u.fld F.LDPC_ITER_CFG_MIN_ITER ∧ getBits w 0 5 = u.fld F.LDPC_ITER_CFG_CAP_REG) := by
      refine hsafe.imp_left fun hall => Bool.eq_false_iff.mpr fun hlive => ?_
      obtain ⟨f, hf, h0, h4⟩ := u.anyFlowLive_iff.mp hlive
      exact (hall f hf).elim h0 h4
    rw [State.plainWrite_iterCfg (checkFields_iterCfg_of_limits _ hlimits)
      (firstRef_iterCfg_of_legal hlegal fun lo hlo => (hlimits lo hlo).2.2)]
    refine ⟨fun lo hlo => ?_, onlyFields_wr _ _ (List.mem_singleton_self _) (onlyFields_refl u _), rfl⟩
    rw [State.rd_wr_same]
    exact getBits_applyFields_iterCfg _ _ w lo hlo

end Sys2Proof.Machine
end

section
/-! Receptions (R178, R186 to R189): the header check, the start of a reception, and the second detector's restart, each by
what it changes of the radio, the counters and the pool. -/

namespace Sys2Proof.Machine

variable {s t u : State} {r : Nat} {x : RxPpdu} {p : RxPreamble} {cs : List Nat}

/-! ### The header check -/

/-- From `s` to `t` nothing has changed but counters and what the radios hold. -/
def airFrame (s t : State) : Prop := t = { s with ctrs := t.ctrs, air := t.air }

theorem airFrame_refl (s : State) : airFrame s s := rfl

theorem airFrame_trans (h : airFrame s t) (k : airFrame t u) : airFrame s u := by
  unfold airFrame at *
  rw [k, h]

theorem airFrame_count (s : State) (a n : Nat) : airFrame s (s.count a n) := rfl

theorem airFrame_modRadio (s : State) (r : Nat) (f : RadioSt → RadioSt) : airFrame s (s.modRadio r f) := rfl

theorem airFrame.ldpc_eq (h : airFrame s t) : t.ldpc = s.ldpc := by
  unfold airFrame at h
  rw [h]

theorem airFrame.mem_eq (h : airFrame s t) : t.mem = s.mem := by
  unfold airFrame at h
  rw [h]

/-- What the header check of radio r leaves: all but counters and what the radio holds; of that, the commands; the other
radios; and every counter but the three of received headers. -/
structure headerKept (r : Nat) (s t : State) : Prop where
  frame : airFrame s t
  others : otherRadios s t r
  cmds : (t.radio r).cmds = (s.radio r).cmds
  nextRx : t.air.nextRx = s.air.nextRx
  ctrs : onlyCtrs s t [C.RADIO_RX_HDR_FAIL r, C.RADIO_RX_PPDU r, C.RADIO_VEXT_RX r]

theorem headerKept_refl (r : Nat) (s : State) : headerKept r s s := ⟨rfl, fun _ _ => rfl, rfl, rfl, onlyCtrs_refl s _⟩

theorem headerKept_trans (h : headerKept r s t) (k : headerKept r t u) : headerKept r s u :=
  ⟨airFrame_trans h.frame k.frame, otherRadios_trans h.others k.others, k.cmds.trans h.cmds, k.nextRx.trans h.nextRx,
    onlyCtrs_trans h.ctrs k.ctrs⟩

theorem headerKept_count (s : State) {a : Nat}
    (h : a ∈ [C.RADIO_RX_HDR_FAIL r, C.RADIO_RX_PPDU r, C.RADIO_VEXT_RX r]) : headerKept r s (s.count a) :=
  ⟨rfl, fun _ _ => rfl, rfl, rfl, onlyCtrs_count a 1 h (onlyCtrs_refl s _)⟩

theorem headerKept_modRadio (s : State) {f : RadioSt → RadioSt} (h : (f (s.radio r)).cmds = (s.radio r).cmds) :
    headerKept r s (s.modRadio r f) :=
  ⟨rfl, otherRadios_modRadio s r f, (congrArg RadioSt.cmds (s.radio_modRadio_same r f)).trans h, rfl, onlyCtrs_refl s _⟩

/-- A PPDU in V-mode that passes its header check counts (R207). -/
def State.countVext (s : State) (r : Nat) (f : PhyFormat) : State :=
  if f = .vmode then s.count (C.RADIO_VEXT_RX r) else s

theorem headerKept_countVext (s : State) (r : Nat) (f : PhyFormat) : headerKept r s (s.countVext r f) := by
  unfold State.countVext
  split
  · exact headerKept_count s (by simp)
  · exact headerKept_refl r s

theorem State.radio_countVext (s : State) (r q : Nat) (f : PhyFormat) : (s.countVext r f).radio q = s.radio q := by
  unfold State.countVext
  split <;> rfl

/-- The header of a reception has failed its check (R187). -/
def State.headerFailed (s : State) (r : Nat) (x : RxPpdu) (ok : Bool) (dur : BitVec 24) : State :=
  (s.count (C.RADIO_RX_HDR_FAIL r)).modRadio r (fun y => { y with
    rx := none, busyUntil := if ok then max y.busyUntil (x.begun + dur.toNat) else y.busyUntil })

/-- A header that passes its check is counted (R187). -/
def State.headerCounted (s : State) (r : Nat) : State :=
  (s.count (C.RADIO_RX_PPDU r)).modRadio r (fun y => { y with csiCount := y.csiCount + 1 })

/-- The header of a format that the radio does not receive has passed its check (R178). -/
def State.headerForeign (s : State) (r : Nat) (x : RxPpdu) (dur : BitVec 24) : State :=
  (s.headerCounted r).modRadio r (fun y => { y with rx := none, busyUntil := max y.busyUntil (x.begun + dur.toNat) })

/-- A reception whose header has passed its check, with the times that it states (R187). -/
def RxPpdu.passed (x : RxPpdu) (f : PhyFormat) (dd dur : BitVec 24) (el : Bool) : RxPpdu :=
  { x with hdrOk := true, fmt := f, dataEnd := x.begun + dd.toNat, endT := x.begun + dur.toNat, elicits := el }

/-- The header of a reception has passed its check (R187). -/
def State.headerPassed (s : State) (r : Nat) (x : RxPpdu) (f : PhyFormat) (dd dur : BitVec 24) (el : Bool) : State :=
  ((s.headerCounted r).countVext r f).modRadio r (fun y => { y with rx := some (x.passed f dd dur el) })

theorem State.checkHeader_of_none (h : (s.radio r).rx = none) : s.checkHeader r = s := by
  unfold State.checkHeader
  rw [h]

theorem State.checkHeader_of_early (h : (s.radio r).rx = some x) (hwait : x.hdrOk = true ∨ s.now < x.hdrAt) :
    s.checkHeader r = s := by
  unfold State.checkHeader
  rw [h]
  exact if_pos hwait

section
variable {f : PhyFormat} {dd dur : BitVec 24} {el ok : Bool} (hrx : (s.radio r).rx = some x) (hopen : x.hdrOk = false)
  (hdue : x.hdrAt ≤ s.now)
include hrx hopen hdue

theorem State.checkHeader_of_failed (h : x.header = .failed ok dur) : s.checkHeader r = s.headerFailed r x ok dur := by
  have hcheck : ¬ (x.hdrOk = true ∨ s.now < x.hdrAt) := by simp [hopen, Nat.not_lt.mpr hdue]
  unfold State.checkHeader
  rw [hrx]
  dsimp only
  rw [if_neg hcheck, h]
  rfl

theorem State.checkHeader_of_foreign (h : x.header = .passed f dd dur el) (hno : s.receives r f = false) :
    s.checkHeader r = s.headerForeign r x dur := by
  have hcheck : ¬ (x.hdrOk = true ∨ s.now < x.hdrAt) := by simp [hopen, Nat.not_lt.mpr hdue]
  unfold State.checkHeader
  rw [hrx]
  dsimp only
  rw [if_neg hcheck, h]
  exact if_pos (by rw [Bool.not_eq_true]; exact hno)

theorem State.checkHeader_of_passed (h : x.header = .passed f dd dur el) (hyes : s.receives r f = true) :
    s.checkHeader r = s.headerPassed r x f dd dur el := by
  have hcheck : ¬ (x.hdrOk = true ∨ s.now < x.hdrAt) := by simp [hopen, Nat.not_lt.mpr hdue]
  unfold State.checkHeader
  rw [hrx]
  dsimp only
  rw [if_neg hcheck]
  split
  · next hfailed => exact absurd (h.symm.trans hfailed) nofun
  · next hpassed =>
    cases h.symm.trans hpassed
    exact if_neg (not_not_intro hyes)

end

theorem headerKept_headerFailed (s : State) (r : Nat) (x : RxPpdu) (ok : Bool) (dur : BitVec 24) :
    headerKept r s (s.headerFailed r x ok dur) :=
  headerKept_trans (headerKept_count s (by simp)) (headerKept_modRadio _ rfl)

theorem headerKept_headerCounted (s : State) (r : Nat) : headerKept r s (s.headerCounted r) :=
  headerKept_trans (headerKept_count s (by simp)) (headerKept_modRadio _ rfl)

theorem headerKept_headerForeign (s : State) (r : Nat) (x : RxPpdu) (dur : BitVec 24) :
    headerKept r s (s.headerForeign r x dur) :=
  headerKept_trans (headerKept_headerCounted s r) (headerKept_modRadio _ rfl)

theorem headerKept_headerPassed (s : State) (r : Nat) (x : RxPpdu) (f : PhyFormat) (dd dur : BitVec 24) (el : Bool) :
    headerKept r s (s.headerPassed r x f dd dur el) :=
  headerKept_trans (headerKept_headerCounted s r)
    (headerKept_trans (headerKept_countVext _ r f) (headerKept_modRadio _ rfl))

theorem headerKept_checkHeader (s : State) (r : Nat) : headerKept r s (s.checkHeader r) := by
  cases hrx : (s.radio r).rx with
  | none =>
    rw [State.checkHeader_of_none hrx]
    exact headerKept_refl r s
  | some x =>
    by_cases hwait : x.hdrOk = true ∨ s.now < x.hdrAt
    · rw [State.checkHeader_of_early hrx hwait]
      exact headerKept_refl r s
    · obtain ⟨hopen, hdue⟩ := not_or.mp hwait
      have hopen := Bool.eq_false_iff.mpr hopen
      have hdue := Nat.not_lt.mp hdue
      cases hheader : x.header with
      | failed ok dur =>
        rw [State.checkHeader_of_failed hrx hopen hdue hheader]
        exact headerKept_headerFailed s r x ok dur
      | passed f dd dur el =>
        cases hreceives : s.receives r f with
        | false =>
          rw [State.checkHeader_of_foreign hrx hopen hdue hheader hreceives]
          exact headerKept_headerForeign s r x dur
        | true =>
          rw [State.checkHeader_of_passed hrx hopen hdue hheader hreceives]
          exact headerKept_headerPassed s r x f dd dur el

theorem checkHeader_failed_rule (s : State) (r : Fin 3) (x : RxPpdu) (ok : Bool) (dur : BitVec 24)
    (hrx : (s.radio r.val).rx = some x) (hopen : x.hdrOk = false) (hdue : x.hdrAt ≤ s.now)
    (hheader : x.header = .failed ok dur) :
    counted s (s.checkHeader r.val) (C.RADIO_RX_HDR_FAIL r.val) 1 ∧ ((s.checkHeader r.val).radio r.val).rx = none ∧
      ((s.checkHeader r.val).radio r.val).busyUntil =
        (if ok then max (s.radio r.val).busyUntil (x.begun + dur.toNat) else (s.radio r.val).busyUntil) ∧
      otherRadios s (s.checkHeader r.val) r.val := by
  have hkept := headerKept_checkHeader s r.val
  rw [State.checkHeader_of_failed hrx hopen hdue hheader] at hkept ⊢
  refine ⟨counted_count s _ 1, ?_, ?_, hkept.others⟩ <;> unfold State.headerFailed <;> rw [State.radio_modRadio_same]
  rfl

theorem headerCtrs_ne : ∀ r : Fin 3, C.RADIO_RX_PPDU r.val ≠ C.RADIO_VEXT_RX r.val := by decide

theorem counted_countVext (s : State) (r : Fin 3) (f : PhyFormat) {t : State} {n : Nat}
    (h : counted s t (C.RADIO_RX_PPDU r.val) n) : counted s (t.countVext r.val f) (C.RADIO_RX_PPDU r.val) n := by
  unfold State.countVext
  split
  · exact counted_then_kept h ((t.ctr_count _ 1 _).trans (if_neg (headerCtrs_ne r)))
  · exact h

theorem checkHeader_passed_rule (s : State) (r : Fin 3) (x : RxPpdu) (f : PhyFormat) (dd dur : BitVec 24) (el : Bool)
    (hrx : (s.radio r.val).rx = some x) (hopen : x.hdrOk = false) (hdue : x.hdrAt ≤ s.now)
    (hheader : x.header = .passed f dd dur el) :
    counted s (s.checkHeader r.val) (C.RADIO_RX_PPDU r.val) 1 ∧ otherRadios s (s.checkHeader r.val) r.val ∧
      (s.receives r.val f = true → ((s.checkHeader r.val).radio r.val).rx = some { x with
        hdrOk := true, fmt := f, dataEnd := x.begun + dd.toNat, endT := x.begun + dur.toNat, elicits := el }) ∧
      (s.receives r.val f = false → ((s.checkHeader r.val).radio r.val).rx = none ∧
        ((s.checkHeader r.val).radio r.val).busyUntil = max (s.radio r.val).busyUntil (x.begun + dur.toNat)) := by
  have hothers := (headerKept_checkHeader s r.val).others
  have hone : counted s (s.headerCounted r.val) (C.RADIO_RX_PPDU r.val) 1 := counted_count s _ 1
  cases hreceives : s.receives r.val f with
  | false =>
    rw [State.checkHeader_of_foreign hrx hopen hdue hheader hreceives] at hothers ⊢
    refine ⟨hone, hothers, nofun, fun _ => ?_⟩
    unfold State.headerForeign State.headerCounted
    rw [State.radio_modRadio_same, State.radio_modRadio_same]
    exact ⟨rfl, rfl⟩
  | true =>
    rw [State.checkHeader_of_passed hrx hopen hdue hheader hreceives] at hothers ⊢
    refine ⟨counted_countVext s r f hone, hothers, fun _ => ?_, nofun⟩
    unfold State.headerPassed
    rw [State.radio_modRadio_same]
    rfl

/-! ### The start of a reception -/

/-- What a reception holds when it starts on a preamble (R187). -/
def State.rxOf (s : State) (p : RxPreamble) : RxPpdu :=
  { id := s.air.nextRx, begun := s.now, hdrAt := s.now + p.after.toNat, header := p.header, agc := p.agc
    power := p.lltf.toInt, sat := p.sat, hdrOk := false, dataEnd := 0, endT := 0, elicits := false
    stamp := (s.selected, (s.dom s.selected).ns, (s.dom s.selected).sec.toNat), ns := (s.time.domA.ns, s.time.domB.ns) }

/-- Converters that a preamble finds saturated are counted (R154). -/
def State.countSat (s : State) (r : Nat) (p : RxPreamble) : State := if p.sat then s.count (C.RADIO_RX_SAT r) else s

/-- The state in which a reception has started, before its header is checked. -/
def State.rxBegun (s : State) (r : Nat) (p : RxPreamble) : State :=
  ({ s.countSat r p with air := { (s.countSat r p).air with nextRx := (s.countSat r p).air.nextRx + 1 } } :
    State).modRadio r (fun y => { y with rx := some (s.rxOf p) })

theorem State.startRx_eq (s : State) (r : Nat) (p : RxPreamble) : s.startRx r p = (s.rxBegun r p).checkHeader r := rfl

theorem State.countSat_frame (s : State) (r : Nat) (p : RxPreamble) :
    s.countSat r p = { s with ctrs := (s.countSat r p).ctrs } := by
  unfold State.countSat
  split <;> rfl

theorem onlyCtrs_countSat (r : Nat) (p : RxPreamble) (ha : C.RADIO_RX_SAT r ∈ cs) (h : onlyCtrs s t cs) :
    onlyCtrs s (t.countSat r p) cs := by
  unfold State.countSat
  split
  · exact onlyCtrs_count _ 1 ha h
  · exact h

theorem State.radio_rxBegun (s : State) (r : Nat) (p : RxPreamble) :
    (s.rxBegun r p).radio r = { s.radio r with rx := some (s.rxOf p) } := by
  unfold State.rxBegun
  rw [State.radio_modRadio_same, s.countSat_frame]
  rfl

/-- The counters that the start of a reception on radio r may move. -/
def startCtrs (r : Nat) : List Nat :=
  [C.RADIO_RX_SAT r, C.RADIO_RX_HDR_FAIL r, C.RADIO_RX_PPDU r, C.RADIO_VEXT_RX r]

/-- What the start of a reception on radio r leaves, and what it shows. -/
structure rxStarted (r : Nat) (p : RxPreamble) (s t : State) : Prop where
  frame : airFrame s t
  others : otherRadios s t r
  cmds : (t.radio r).cmds = (s.radio r).cmds
  nextRx : t.air.nextRx = s.air.nextRx + 1
  ctrs : onlyCtrs s t (startCtrs r)
  sat : p.sat = true → t.ctr (C.RADIO_RX_SAT r) = s.ctr (C.RADIO_RX_SAT r) + BitVec.ofNat 64 1
  rx : 0 < p.after.toNat → (t.radio r).rx = some (s.rxOf p)

theorem satCtr_not_mem : ∀ r : Fin 3, C.RADIO_RX_SAT r.val ∉
    [C.RADIO_RX_HDR_FAIL r.val, C.RADIO_RX_PPDU r.val, C.RADIO_VEXT_RX r.val] := by decide

theorem rxStarted_startRx (s : State) (r : Fin 3) (p : RxPreamble) : rxStarted r.val p s (s.startRx r.val p) := by
  have hsat := s.countSat_frame r.val p
  have hradio := s.radio_rxBegun r.val p
  have hframe : airFrame s (s.rxBegun r.val p) := by
    unfold airFrame State.rxBegun
    rw [hsat]
    rfl
  have hothers : otherRadios s (s.rxBegun r.val p) r.val :=
    otherRadios_trans (otherRadios_of_air (t := s.countSat r.val p) (by rw [hsat]) _)
      (otherRadios_modRadio ({ s.countSat r.val p with air := _ } : State) r.val _)
  have hnext : (s.rxBegun r.val p).air.nextRx = s.air.nextRx + 1 := by
    show (s.countSat r.val p).air.nextRx + 1 = _
    rw [hsat]
  have hctrs : onlyCtrs s (s.rxBegun r.val p) (startCtrs r.val) :=
    onlyCtrs_of_ctrs (t := s.countSat r.val p) rfl
      (onlyCtrs_countSat r.val p List.mem_cons_self (onlyCtrs_refl s _))
  have hcount : p.sat = true → (s.rxBegun r.val p).ctr (C.RADIO_RX_SAT r.val) =
      s.ctr (C.RADIO_RX_SAT r.val) + BitVec.ofNat 64 1 := fun h => by
    show (s.countSat r.val p).ctr _ = _
    unfold State.countSat
    rw [if_pos h]
    exact counted_count s _ 1
  obtain ⟨kframe, kothers, kcmds, knext, kctrs⟩ := headerKept_checkHeader (s.rxBegun r.val p) r.val
  rw [State.startRx_eq]
  refine ⟨airFrame_trans hframe kframe, otherRadios_trans hothers kothers, ?_, knext.trans hnext, ?_, fun h => ?_,
    fun h => ?_⟩
  · rw [kcmds, hradio]
  · exact onlyCtrs_trans hctrs fun a ha => kctrs a fun h => ha (List.mem_cons_of_mem _ h)
  · exact (kctrs _ (satCtr_not_mem r)).trans (hcount h)
  · have hearly : (s.rxBegun r.val p).now < (s.rxOf p).hdrAt := by
      have hnow : (s.rxBegun r.val p).now = s.now := by
        unfold State.now
        rw [hframe]
      rw [hnow]
      exact Nat.lt_add_of_pos_right h
    have hrx : ((s.rxBegun r.val p).radio r.val).rx = some (s.rxOf p) := by rw [hradio]
    rw [State.checkHeader_of_early hrx (.inr hearly)]
    exact hrx

/-! ### RX_PREAMBLE -/

theorem State.takesWork_of_listens (h : s.listens r = true) : s.takesWork (radioBlock r) = true := by
  unfold State.listens State.radioRuns at h
  simp only [Bool.and_eq_true] at h
  exact h.1.1.1.2

/-- A weaker preamble, or a DSSS one off Radio 24, is not detected (R186). -/
theorem State.detects_eq_false (h : p.power.toInt < sgn 8 (s.fld (F.RADIO_DET_CFG_PD_LEVEL r)) ∨ (p.dsss = true ∧ r ≠ 0)) :
    s.detects r p = false := by
  unfold State.detects
  rcases h with hweak | ⟨hdsss, hr⟩
  · rw [decide_eq_false (p := _ ≤ _) (Int.not_le.mpr hweak), Bool.and_false]
  · rw [hdsss, decide_eq_false hr]
    rfl

theorem exec_rxPreamble_of_undetected (r : Fin 3) (h : s.detects r.val p = false) :
    exec (.rxPreamble r p) s = .next s := by
  show s.whenWorks _ _ = _
  unfold State.whenWorks
  split
  · exact if_neg fun hall => Bool.false_ne_true (h.symm.trans hall.2.2)
  · rfl

theorem exec_secondDetect_of_undetected (r : Fin 3) (h : s.detects r.val p = false) :
    exec (.secondDetect r p) s = .next s := by
  show s.whenWorks _ _ = _
  unfold State.whenWorks
  split
  · rw [h, Bool.and_false]
  · rfl

theorem exec_rxPreamble (r : Fin 3) (hlisten : s.listens r.val = true) (hidle : s.rxActive r.val = none)
    (hdetect : s.detects r.val p = true) :
    exec (.rxPreamble r p) s = .next ((s.setAside r.val).startRx r.val p) :=
  (State.whenWorks_of_takesWork (State.takesWork_of_listens hlisten) _).trans
    (if_pos ⟨hlisten, by rw [hidle]; rfl, hdetect⟩)

theorem rxPreamble_rule (s : State) (r : Fin 3) (p : RxPreamble) (hlisten : s.listens r.val = true)
    (hidle : s.rxActive r.val = none) (hdetect : s.detects r.val p = true) :
    ∃ t, exec (.rxPreamble r p) s = .next t ∧ t.air.nextRx = s.air.nextRx + 1 ∧ otherRadios s t r.val ∧
      t = { s with ctrs := t.ctrs, air := t.air } ∧
      (p.sat = true → counted s t (C.RADIO_RX_SAT r.val) 1) ∧
      (0 < p.after.toNat → ∃ x, (t.radio r.val).rx = some x ∧ x.id = s.air.nextRx ∧ x.hdrOk = false ∧
        x.hdrAt = s.now + p.after.toNat ∧ x.header = p.header ∧ x.agc = p.agc) := by
  have haside : airFrame s (s.setAside r.val) := airFrame_modRadio s _ _
  have hothers : otherRadios s (s.setAside r.val) r.val := otherRadios_modRadio s _ _
  obtain ⟨hframe, kothers, -, hnext, -, hsat, hrx⟩ := rxStarted_startRx (s.setAside r.val) r p
  exact ⟨_, exec_rxPreamble r hlisten hidle hdetect, hnext, otherRadios_trans hothers kothers,
    airFrame_trans haside hframe, hsat, fun h => ⟨_, hrx h, rfl, rfl, rfl, rfl, rfl⟩⟩

/-! ### An abandoned reception -/

/-- What the cancelling of a reception's codewords leaves of the pool, the radios and the counters (R189). -/
structure rxCancelled (s t : State) : Prop where
  frame : poolFrame s t
  waiting : t.ldpc.waiting = s.ldpc.waiting
  ctrs : onlyCtrs s t [C.LDPC_DEC_CANCELLED, C.LDPC_ITER_TOTAL]

theorem rxCancelled_trans (h : rxCancelled s t) (k : rxCancelled t u) : rxCancelled s u :=
  ⟨poolFrame_trans h.frame k.frame, k.waiting.trans h.waiting, onlyCtrs_trans h.ctrs k.ctrs⟩

theorem rxCancelled_foldl {α : Type} {f : State → α → State} (hf : ∀ t a, rxCancelled t (f t a)) (l : List α) (s : State) :
    rxCancelled s (l.foldl f s) := by
  induction l generalizing s with
  | nil => exact ⟨rfl, rfl, onlyCtrs_refl s _⟩
  | cons a l ih => exact rxCancelled_trans (hf s a) (ih _)

theorem rxCancelled_cwCancelled (s : State) (c : Codeword) : rxCancelled s (s.cwCancelled c) :=
  ⟨poolFrame_of_endsFrame (endsFrame_cwCancelled s c), congrArg LdpcSt.waiting (endsFrame_cwCancelled s c).ldpc_eq,
    onlyCtrs_cwCancelled c (by simp) (onlyCtrs_refl s _)⟩

theorem rxCancelled_decodeOver (s : State) (e n : Nat) : rxCancelled s (s.decodeOver e n) :=
  ⟨rfl, rfl, onlyCtrs_count _ n (by simp) (onlyCtrs_of_ctrs rfl (onlyCtrs_refl s _))⟩

/-- The waiting codewords of a reception are cancelled, and so are those that engines decode (R189). -/
theorem rxCancelled_cancelRx (s : State) (r : Nat) (x : RxPpdu) :
    rxCancelled (s.setWaiting (s.ldpc.waiting.filter (fun c => !ofRx r x c))) (s.cancelRx r x.id) := by
  refine rxCancelled_trans (rxCancelled_foldl rxCancelled_cwCancelled _ _) (rxCancelled_foldl (fun t e => ?_) _ _)
  dsimp only
  split
  · split
    · exact rxCancelled_trans (rxCancelled_decodeOver t e _) (rxCancelled_cwCancelled _ _)
    · exact ⟨rfl, rfl, onlyCtrs_refl t _⟩
  · exact ⟨rfl, rfl, onlyCtrs_refl t _⟩

theorem State.rx_of_rxActive (h : s.rxActive r = some x) : (s.radio r).rx = some x := by
  unfold State.rxActive at h
  split at h
  · next y hy =>
    split at h
    · exact hy.trans h
    · cases h
  · cases h

section
variable {r : Fin 3} (hlisten : s.listens r.val = true) (hx : s.rxActive r.val = some x)
  (hdetect : s.detects r.val p = true)
include hlisten hx hdetect

theorem exec_secondDetect_of_early (hopen : x.hdrOk = false) : exec (.secondDetect r p) s =
    .next (((s.count (C.RADIO_RX_FALSE_DETECT r.val)).cancelRx r.val x.id).startRx r.val p) := by
  refine (State.whenWorks_of_takesWork (State.takesWork_of_listens hlisten) _).trans ?_
  rw [hlisten, hdetect, hx]
  exact if_pos (by rw [hopen]; exact Bool.false_ne_true)

theorem exec_secondDetect_of_capture (hok : x.hdrOk = true)
    (hcap : x.power + s.fld (F.RADIO_DET_CFG_CAP_DB r.val) ≤ p.power.toInt ∨ x.sat = true ∨ p.sat = true) :
    exec (.secondDetect r p) s = .next ((((s.count (C.RADIO_RX_LOST_CAPTURE r.val)).cancelRx r.val
      x.id).dropAnswer r.val x.id).startRx r.val p) := by
  refine (State.whenWorks_of_takesWork (State.takesWork_of_listens hlisten) _).trans ?_
  rw [hlisten, hdetect, hx]
  exact (if_neg (not_not_intro hok)).trans (if_pos hcap)

end

/-- A preamble below the capture threshold leaves a reception whose header has passed (R188). -/
theorem exec_secondDetect_of_weak {r : Fin 3} (hx : s.rxActive r.val = some x) (hok : x.hdrOk = true)
    (hsat : x.sat = false) (hpsat : p.sat = false)
    (hweak : p.power.toInt < x.power + s.fld (F.RADIO_DET_CFG_CAP_DB r.val)) : exec (.secondDetect r p) s = .next s := by
  show s.whenWorks _ _ = _
  unfold State.whenWorks
  split
  · rw [hx]
    cases s.listens r.val && s.detects r.val p with
    | false => rfl
    | true => exact (if_neg (not_not_intro hok)).trans (if_neg (by simp [hsat, hpsat, Int.not_le.mpr hweak]))
  · rfl

/-- The two counters of abandoned receptions are none of those that cancelling and starting move. -/
theorem abandonCtrs_not_mem : ∀ r : Fin 3, ∀ a ∈ [C.RADIO_RX_FALSE_DETECT r.val, C.RADIO_RX_LOST_CAPTURE r.val],
    a ∉ startCtrs r.val ∧ a ∉ [C.LDPC_DEC_CANCELLED, C.LDPC_ITER_TOTAL] := by
  unfold startCtrs
  decide

/-- What a restart on a new preamble leaves of the abandoned reception, once it is counted in `a` (R188, R189). -/
structure restarted (r : Nat) (x : RxPpdu) (p : RxPreamble) (a : Nat) (s t : State) : Prop where
  ctr : counted s t a 1
  waiting : t.ldpc.waiting = s.ldpc.waiting.filter (fun c => !ofRx r x c)
  rx : 0 < p.after.toNat → ∃ y, (t.radio r).rx = some y ∧ y.id = s.air.nextRx ∧ y.hdrOk = false
  mem : t.mem = s.mem

/-- A restart behind the cancelling of the codewords, whose step in between moves what the radios hold alone. -/
theorem restarted_startRx {v : State} (r : Fin 3) (p : RxPreamble) {a : Nat}
    (ha : a ∈ [C.RADIO_RX_FALSE_DETECT r.val, C.RADIO_RX_LOST_CAPTURE r.val])
    (hu : rxCancelled ((s.count a).setWaiting (s.ldpc.waiting.filter (fun c => !ofRx r.val x c))) u)
    (hv : v = { u with air := v.air }) (hnext : v.air.nextRx = u.air.nextRx) :
    restarted r.val x p a s (v.startRx r.val p) := by
  obtain ⟨hstart, hcancel⟩ := abandonCtrs_not_mem r a ha
  obtain ⟨kframe, kwaiting, kctrs⟩ := hu
  obtain ⟨jframe, -, -, -, jctrs, -, jrx⟩ := rxStarted_startRx v r p
  have hldpc : v.ldpc = u.ldpc := by rw [hv]
  have hmem : v.mem = u.mem := by rw [hv]
  have hctrs : v.ctrs = u.ctrs := by rw [hv]
  have hair : u.air.nextRx = s.air.nextRx := congrArg AirSt.nextRx kframe.air_eq
  refine ⟨?_, ?_, fun h => ⟨_, jrx h, hnext.trans hair, rfl⟩, ?_⟩
  · exact counted_then_kept (counted_count s a 1)
      (((jctrs a hstart).trans (State.ctr_of_ctrs hctrs a)).trans (kctrs a hcancel))
  · rw [jframe.ldpc_eq, hldpc, kwaiting]
    rfl
  · rw [jframe.mem_eq, hmem, kframe.mem_eq]
    rfl

theorem secondDetect_early_rule (s : State) (r : Fin 3) (p : RxPreamble) (x : RxPpdu) (hlisten : s.listens r.val = true)
    (hx : s.rxActive r.val = some x) (hopen : x.hdrOk = false) (hdetect : s.detects r.val p = true) :
    ∃ t, exec (.secondDetect r p) s = .next t ∧ counted s t (C.RADIO_RX_FALSE_DETECT r.val) 1 ∧
      t.ldpc.waiting = s.ldpc.waiting.filter (fun c => !ofRx r.val x c) ∧
      (0 < p.after.toNat → ∃ y, (t.radio r.val).rx = some y ∧ y.id = s.air.nextRx ∧ y.hdrOk = false) ∧
      t.mem = s.mem := by
  have hexec := exec_secondDetect_of_early hlisten hx hdetect hopen
  have hcancel := rxCancelled_cancelRx (s.count (C.RADIO_RX_FALSE_DETECT r.val)) r.val x
  generalize (s.count (C.RADIO_RX_FALSE_DETECT r.val)).cancelRx r.val x.id = u at hexec hcancel
  obtain ⟨hctr, hwaiting, hrx, hmem⟩ := restarted_startRx r p (by simp) hcancel rfl rfl
  exact ⟨_, hexec, hctr, hwaiting, hrx, hmem⟩

/-- The block ack to an abandoned reception is dropped, and the other commands stay (R189). -/
theorem State.cmds_dropAnswer {c : AirCmd} {n : Nat} (h : c ∈ ((s.dropAnswer r n).radio r).cmds) :
    c ∈ (s.radio r).cmds ∧ ∀ l, c.kind ≠ .blockAck n l := by
  unfold State.dropAnswer at h
  rw [State.radio_modRadio_same] at h
  obtain ⟨hin, hkind⟩ := List.mem_filter.mp h
  refine ⟨hin, fun l hl => ?_⟩
  rw [hl] at hkind
  exact of_decide_eq_true hkind rfl

theorem secondDetect_capture_rule (s : State) (r : Fin 3) (p : RxPreamble) (x : RxPpdu)
    (hlisten : s.listens r.val = true) (hx : s.rxActive r.val = some x) (hok : x.hdrOk = true)
    (hdetect : s.detects r.val p = true)
    (hcap : x.power + s.fld (F.RADIO_DET_CFG_CAP_DB r.val) ≤ p.power.toInt ∨ x.sat = true ∨ p.sat = true) :
    ∃ t, exec (.secondDetect r p) s = .next t ∧ counted s t (C.RADIO_RX_LOST_CAPTURE r.val) 1 ∧
      t.ldpc.waiting = s.ldpc.waiting.filter (fun c => !ofRx r.val x c) ∧
      (∀ c ∈ (t.radio r.val).cmds, c ∈ (s.radio r.val).cmds ∧ ∀ l, c.kind ≠ .blockAck x.id l) ∧
      (0 < p.after.toNat → ∃ y, (t.radio r.val).rx = some y ∧ y.id = s.air.nextRx ∧ y.hdrOk = false) ∧
      t.mem = s.mem := by
  have hexec := exec_secondDetect_of_capture hlisten hx hdetect hok hcap
  have hcancel := rxCancelled_cancelRx (s.count (C.RADIO_RX_LOST_CAPTURE r.val)) r.val x
  generalize (s.count (C.RADIO_RX_LOST_CAPTURE r.val)).cancelRx r.val x.id = u at hexec hcancel
  obtain ⟨hctr, hwaiting, hrx, hmem⟩ := restarted_startRx (v := u.dropAnswer r.val x.id) r p (by simp) hcancel rfl rfl
  refine ⟨_, hexec, hctr, hwaiting, fun c hc => ?_, hrx, hmem⟩
  rw [(rxStarted_startRx _ r p).cmds] at hc
  obtain ⟨hin, hkind⟩ := State.cmds_dropAnswer hc
  rw [State.radio_of_air hcancel.frame.air_eq] at hin
  exact ⟨hin, hkind⟩

end Sys2Proof.Machine
end

section
/-! Codewords of WLAN receptions (R179, R190, R191, R193): the class and deadline with which one enters the pool, the one
that a full pool discards, and what the first header of an RU does to the codewords that wait. -/

namespace Sys2Proof.Machine

variable {s : State} {x : RxPpdu} {w : CwIn}

/-! ### Class and deadline -/

/-- A codeword of a registered flow's RU is Registered (R190). -/
theorem State.classify_of_flow (s : State) (r : Nat) (x : RxPpdu) {f : Fin 512} (h : w.flow = some f) :
    (s.classify r x w).1 = .registered := by
  unfold State.classify
  rw [h]
  rfl

/-- Without a flow, a codeword of a PPDU that may elicit a response is Immediate (R190). -/
theorem State.classify_of_elicits {r : Nat} (hflow : w.flow = none) (hrsp : s.runningRsp r = none)
    (hhead : x.head w.ru.toNat = none) (helicits : x.elicits = true) :
    s.classify r x w = (.immediate, s.immDeadline x.dataEnd, none) := by
  unfold State.classify
  rw [hhead, hflow, hrsp]
  exact if_pos helicits

/-- Without a flow or a response, a codeword is Bulk (R190). -/
theorem State.classify_of_bulk {r : Nat} (hflow : w.flow = none) (hrsp : s.runningRsp r = none)
    (hhead : x.head w.ru.toNat = none) (helicits : x.elicits = false) (hpeer : w.peerTid = none) :
    s.classify r x w = (.bulk, s.bulkDeadline s.now none, none) := by
  unfold State.classify
  rw [hhead, hflow, hrsp, hpeer]
  exact if_neg (by rw [helicits]; exact Bool.false_ne_true)

/-! ### CODEWORD_ENQUEUE -/

/-- The codeword that a reception of radio r hands to the pool (R190). -/
def State.wlanCodeword (s : State) (r : Nat) (x : RxPpdu) (w : CwIn) : Codeword :=
  { id := s.ldpc.next, radio := r, rx := x.id, part := 1, ru := w.ru.toNat, cls := (s.classify r x w).1
    deadline := (s.classify r x w).2.1, arrival := s.now, dataEnd := x.dataEnd, flow := (s.classify r x w).2.2
    order := 0 }

section
variable {r : Fin 3} (hworks : s.takesWork (radioBlock r.val) = true) (hrx : (s.radio r.val).rx = some x)
  (hok : x.hdrOk = true) (hbcc : w.bcc = false) (hdsss : x.fmt ≠ .dsss) (hofdm : x.fmt ≠ .ofdm)
include hworks hrx hok hbcc hdsss hofdm

theorem exec_codewordEnqueue : exec (.codewordEnqueue r.castSucc w) s = .next
    (if (x.head w.ru.toNat).any (fun h => !h.addressed) then s.count C.LDPC_DEC_CANCELLED
      else s.cwArrive (s.wlanCodeword r.val x w)) := by
  have henters : ¬ (¬ x.hdrOk = true ∨ w.bcc = true ∨ x.fmt = .dsss ∨ x.fmt = .ofdm) := by
    simp [hok, hbcc, hdsss, hofdm]
  show execCodewordEnqueue r.castSucc w s = _
  unfold execCodewordEnqueue
  rw [Fin.val_castSucc, State.whenWorks_of_takesWork hworks]
  dsimp only
  rw [if_neg (fin3_ne_three r), hrx]
  dsimp only
  rw [if_neg henters]
  split <;> rfl

theorem exec_codewordEnqueue_of_unread (hhead : x.head w.ru.toNat = none) :
    exec (.codewordEnqueue r.castSucc w) s = .next (s.cwArrive (s.wlanCodeword r.val x w)) := by
  rw [exec_codewordEnqueue hworks hrx hok hbcc hdsss hofdm, hhead]
  rfl

theorem exec_codewordEnqueue_of_foreign {h : FirstHeader} (hhead : x.head w.ru.toNat = some h)
    (hother : h.addressed = false) :
    exec (.codewordEnqueue r.castSucc w) s = .next (s.count C.LDPC_DEC_CANCELLED) := by
  rw [exec_codewordEnqueue hworks hrx hok hbcc hdsss hofdm, hhead, Option.any_some, hother]
  rfl

end

theorem codewordEnqueue_room_rule (s : State) (r : Fin 3) (w : CwIn) (x : RxPpdu)
    (hworks : s.takesWork (radioBlock r.val) = true) (hrx : (s.radio r.val).rx = some x) (hok : x.hdrOk = true)
    (hbcc : w.bcc = false) (hdsss : x.fmt ≠ .dsss) (hofdm : x.fmt ≠ .ofdm) (hhead : x.head w.ru.toNat = none)
    (hroom : s.ldpc.waiting.length + s.fld F.LDPC_RESERVE_REG_ENTRIES < 768) :
    ∃ t c, exec (.codewordEnqueue (r.castSucc) w) s = .next t ∧ t.ldpc.waiting = s.ldpc.waiting ++ [c] ∧
      c.radio = r.val ∧ c.rx = x.id ∧ c.ru = w.ru.toNat ∧ c.arrival = s.now ∧ c.order = s.ldpc.next ∧
      (w.flow ≠ none → c.cls = .registered) ∧
      (w.flow = none → s.runningRsp r.val = none → x.elicits = true →
        c.cls = .immediate ∧ c.deadline = x.dataEnd + 8000 - s.fld F.LDPC_DL_CFG_IMM_MARGIN * 50) ∧
      (w.flow = none → s.runningRsp r.val = none → x.elicits = false → w.peerTid = none →
        c.cls = .bulk ∧ c.deadline = s.now + 500 * s.fld F.LDPC_DL_CFG_BULK_DL_US) ∧
      onlyFields s t [whole A.LDPC_QUEUE] ∧ t = { s with regs := t.regs, ldpc := t.ldpc } := by
  refine ⟨_, s.inOrder (s.wlanCodeword r.val x w),
    (exec_codewordEnqueue_of_unread hworks hrx hok hbcc hdsss hofdm hhead).trans
      (congrArg Host.Outcome.next (State.cwArrive_of_room hroom _)), rfl, rfl, rfl, rfl, rfl, rfl, fun hflow => ?_,
    fun hflow hrsp hel => ?_, fun hflow hrsp hel hpeer => ?_,
    onlyFields_setWaiting _ (List.mem_singleton_self _) (onlyFields_of_regs rfl (onlyFields_refl s _)), rfl⟩
  · obtain ⟨f, hf⟩ := Option.ne_none_iff_exists'.mp hflow
    exact s.classify_of_flow r.val x hf
  · have hclass := State.classify_of_elicits hflow hrsp hhead hel
    exact ⟨congrArg Prod.fst hclass, congrArg (fun k => k.2.1) hclass⟩
  · have hclass := State.classify_of_bulk hflow hrsp hhead hel hpeer
    exact ⟨congrArg Prod.fst hclass, (congrArg (fun k => k.2.1) hclass).trans
      (congrArg (s.now + ·) (Nat.mul_comm (s.fld F.LDPC_DL_CFG_BULK_DL_US) 500))⟩

/-- A BCC codeword never enters the pool (R179). -/
theorem exec_codewordEnqueue_of_bcc (r : Fin 3) (hbcc : w.bcc = true) :
    exec (.codewordEnqueue (r.castSucc) w) s = .next s := by
  show s.whenWorks _ _ = _
  unfold State.whenWorks
  split
  · rw [Fin.val_castSucc, if_neg (fin3_ne_three r)]
    split
    · rfl
    · exact if_pos (.inr (.inl hbcc))
  · rfl

theorem codewordEnqueue_foreign_rule (s : State) (r : Fin 3) (w : CwIn) (x : RxPpdu) (h : FirstHeader)
    (hworks : s.takesWork (radioBlock r.val) = true) (hrx : (s.radio r.val).rx = some x) (hok : x.hdrOk = true)
    (hbcc : w.bcc = false) (hdsss : x.fmt ≠ .dsss) (hofdm : x.fmt ≠ .ofdm) (hhead : x.head w.ru.toNat = some h)
    (hother : h.addressed = false) :
    ∃ t, exec (.codewordEnqueue (r.castSucc) w) s = .next t ∧ counted s t C.LDPC_DEC_CANCELLED 1 ∧
      onlyCtrs s t [C.LDPC_DEC_CANCELLED] ∧ t = { s with ctrs := t.ctrs } :=
  ⟨_, exec_codewordEnqueue_of_foreign hworks hrx hok hbcc hdsss hofdm hhead hother, counted_count s _ 1,
    onlyCtrs_count _ 1 (List.mem_singleton_self _) (onlyCtrs_refl s _), rfl⟩

theorem codewordEnqueue_full_rule (s : State) (r : Fin 3) (w : CwIn) (x : RxPpdu)
    (hworks : s.takesWork (radioBlock r.val) = true) (hrx : (s.radio r.val).rx = some x) (hok : x.hdrOk = true)
    (hbcc : w.bcc = false) (hdsss : x.fmt ≠ .dsss) (hofdm : x.fmt ≠ .ofdm) (hhead : x.head w.ru.toNat = none)
    (hfull : 768 ≤ s.ldpc.waiting.length) :
    ∃ t v, exec (.codewordEnqueue (r.castSucc) w) s = .next t ∧ counted s t (C.LDPC_DEC_MISSED v.cls.rank) 1 ∧
      v ∉ t.ldpc.waiting ∧ ((v ∈ s.ldpc.waiting ∧ v.cls ≠ .registered) ∨ v.order = s.ldpc.next) := by
  have hfull : s.orderTaken.poolFull (s.inOrder (s.wlanCodeword r.val x w)) = true :=
    State.poolFull_of_768 (s := s.orderTaken) hfull _
  have hcases := s.discarded_cases (s.inOrder (s.wlanCodeword r.val x w))
  refine ⟨_, s.discarded (s.inOrder (s.wlanCodeword r.val x w)),
    (exec_codewordEnqueue_of_unread hworks hrx hok hbcc hdsss hofdm hhead).trans
      (congrArg Host.Outcome.next (State.cwArrive_of_full hfull)), ?_, ?_, ?_⟩
  · exact (State.ctr_of_ctrs (State.ctrs_cwMissed _ _) _).trans (counted_count _ _ 1)
  · rw [(endsFrame_cwMissed _ _).ldpc_eq]
    intro hin
    exact of_decide_eq_true (List.mem_filter.mp hin).2 rfl
  · exact hcases.imp_right fun h => congrArg Codeword.order h

/-! ### CODEWORD_RECLASS -/

/-- The header of an RU of radio r's reception has been read (R191). -/
def State.headerRead (s : State) (r : Nat) (x : RxPpdu) (h : FirstHeader) : State :=
  s.modRadio r (fun y => { y with rx := some { x with
    heads := h :: x.heads, sta := if h.addressed then some h.sta.toNat else x.sta } })

theorem exec_codewordReclass_of_foreign {r : Fin 3} {h : FirstHeader} (hworks : s.takesWork (radioBlock r.val) = true)
    (hrx : (s.radio r.val).rx = some x) (hother : h.addressed = false) : exec (.codewordReclass r h) s = .next
      ((s.ldpc.waiting.filter (ofRu r.val x h.ru.toNat)).foldl State.cwCancelled
        ((s.headerRead r.val x h).setWaiting (s.ldpc.waiting.filter (fun c => !ofRu r.val x h.ru.toNat c)))) := by
  refine (State.whenWorks_of_takesWork hworks _).trans ?_
  rw [hrx]
  exact if_pos (by rw [hother]; exact Bool.false_ne_true)

theorem exec_codewordReclass_of_own {r : Fin 3} {h : FirstHeader} (hworks : s.takesWork (radioBlock r.val) = true)
    (hrx : (s.radio r.val).rx = some x) (hown : h.addressed = true) : exec (.codewordReclass r h) s = .next
      ((s.headerRead r.val x h).setWaiting (s.ldpc.waiting.map
        (fun c => if ofRu r.val x h.ru.toNat c then s.reclassed r.val h c else c))) := by
  refine (State.whenWorks_of_takesWork hworks _).trans ?_
  rw [hrx]
  exact if_neg (not_not_intro hown)

theorem State.radio_headerRead (s : State) (r : Nat) (x : RxPpdu) (h : FirstHeader) :
    ((s.headerRead r x h).radio r).rx = some { x with
      heads := h :: x.heads, sta := if h.addressed then some h.sta.toNat else x.sta } :=
  congrArg RadioSt.rx (s.radio_modRadio_same r _)

theorem codewordReclass_foreign_rule (s : State) (r : Fin 3) (h : FirstHeader) (x : RxPpdu)
    (hworks : s.takesWork (radioBlock r.val) = true) (hrx : (s.radio r.val).rx = some x)
    (hother : h.addressed = false) :
    ∃ t, exec (.codewordReclass r h) s = .next t ∧
      t.ldpc.waiting = s.ldpc.waiting.filter (fun c => !ofRu r.val x h.ru.toNat c) ∧
      counted s t C.LDPC_DEC_CANCELLED (s.ldpc.waiting.filter (ofRu r.val x h.ru.toNat)).length ∧
      onlyCtrs s t [C.LDPC_DEC_CANCELLED] ∧ (t.radio r.val).rx = some { x with heads := h :: x.heads } ∧
      otherRadios s t r.val ∧ t.mem = s.mem := by
  have hends := endsFrame_foldl endsFrame_cwCancelled (s.ldpc.waiting.filter (ofRu r.val x h.ru.toNat))
    ((s.headerRead r.val x h).setWaiting (s.ldpc.waiting.filter (fun c => !ofRu r.val x h.ru.toNat c)))
  refine ⟨_, exec_codewordReclass_of_foreign hworks hrx hother, congrArg LdpcSt.waiting hends.ldpc_eq,
    counted_foldl_cwCancelled _ _, onlyCtrs_foldl_cwCancelled _ (List.mem_singleton_self _) (onlyCtrs_refl s _), ?_,
    otherRadios_trans (otherRadios_modRadio s r.val _) (otherRadios_of_air hends.air_eq _), hends.mem_eq⟩
  refine ((congrArg RadioSt.rx (State.radio_of_air hends.air_eq r.val)).trans (s.radio_headerRead r.val x h)).trans ?_
  rw [hother]
  rfl

/-- A codeword that changes class keeps its order of arrival (R191). -/
theorem State.order_reclassed (s : State) (r : Nat) (h : FirstHeader) (c : Codeword) :
    (s.reclassed r h c).order = c.order := by
  unfold State.reclassed
  split <;> split <;> rfl

/-- A header of a registered flow makes its RU's codewords Registered (R191). -/
theorem State.reclassed_of_flow (s : State) (r : Nat) {h : FirstHeader} {f : Fin 512} (c : Codeword)
    (hf : h.flow = some f) : (s.reclassed r h c).cls = .registered := by
  unfold State.reclassed
  rw [hf]
  dsimp only
  split
  · assumption
  · rfl

/-- A header that no response follows makes its RU's codewords Bulk (R191). -/
theorem State.reclassed_of_silent (s : State) (r : Nat) {h : FirstHeader} (c : Codeword) (hf : h.flow = none)
    (hresp : h.response = false) : (s.reclassed r h c).cls = .bulk := by
  unfold State.reclassed
  rw [hf]
  dsimp only
  split
  · next hb => exact hb.resolve_left (by rw [hresp]; exact Bool.false_ne_true)
  · rfl

/-- A header that a response follows leaves its RU's codewords (R191). -/
theorem State.reclassed_of_response (s : State) (r : Nat) {h : FirstHeader} (c : Codeword) (hf : h.flow = none)
    (hresp : h.response = true) : s.reclassed r h c = c := by
  unfold State.reclassed
  rw [hf]
  exact if_pos (.inl hresp)

theorem codewordReclass_own_rule (s : State) (r : Fin 3) (h : FirstHeader) (x : RxPpdu)
    (hworks : s.takesWork (radioBlock r.val) = true) (hrx : (s.radio r.val).rx = some x) (hown : h.addressed = true) :
    ∃ t, exec (.codewordReclass r h) s = .next t ∧ t.ldpc.waiting.length = s.ldpc.waiting.length ∧
      (∀ (i : Nat) (c : Codeword), s.ldpc.waiting[i]? = some c → ∃ d : Codeword, t.ldpc.waiting[i]? = some d ∧
        d.order = c.order ∧
        (ofRu r.val x h.ru.toNat c = false → d = c) ∧
        (ofRu r.val x h.ru.toNat c = true → (h.flow ≠ none → d.cls = .registered) ∧
          (h.flow = none → h.response = false → d.cls = .bulk) ∧ (h.flow = none → h.response = true → d = c))) ∧
      (t.radio r.val).rx = some { x with heads := h :: x.heads, sta := some h.sta.toNat } ∧
      t.ctrs = s.ctrs ∧ onlyFields s t [whole A.LDPC_QUEUE] ∧ otherRadios s t r.val := by
  refine ⟨_, exec_codewordReclass_of_own hworks hrx hown, List.length_map _, fun i c hc => ?_, ?_, rfl,
    onlyFields_setWaiting _ (List.mem_singleton_self _) (onlyFields_of_regs rfl (onlyFields_refl s _)),
    otherRadios_modRadio s r.val _⟩
  · refine ⟨_, (List.getElem?_map ..).trans (congrArg (Option.map _) hc), ?_⟩
    dsimp only
    cases hmine : ofRu r.val x h.ru.toNat c with
    | false => exact ⟨rfl, fun _ => rfl, nofun⟩
    | true =>
      refine ⟨s.order_reclassed r.val h c, nofun, fun _ => ⟨fun hflow => ?_, s.reclassed_of_silent r.val c,
        s.reclassed_of_response r.val c⟩⟩
      obtain ⟨f, hf⟩ := Option.ne_none_iff_exists'.mp hflow
      exact s.reclassed_of_flow r.val c hf
  · refine (s.radio_headerRead r.val x h).trans ?_
    rw [hown]
    rfl

end Sys2Proof.Machine
end

section
/-! Channel-state capture (R201, R202): a hardware record that fits and one that does not, which counters a record leaves,
and the statement of receptions and codewords. -/

namespace Sys2Proof.Machine

variable {s t u : State}

/-! ### Counters that hardware records leave -/

/-- The counters of the blocks from LDPC's window on are as before. -/
def phyCtrsKept (s t : State) : Prop := ∀ a, 0x40800000 ≤ a → t.ctr a = s.ctr a

namespace phyCtrsKept

theorem refl (s : State) : phyCtrsKept s s := fun _ _ => rfl

theorem wr {a v} (h : phyCtrsKept s t) : phyCtrsKept s (t.wr a v) := h

theorem setFld {f v} (h : phyCtrsKept s t) : phyCtrsKept s (t.setFld f v) := h

theorem disp {x} (h : phyCtrsKept s t) : phyCtrsKept s { t with disp := x } := h

theorem hostp {x} (h : phyCtrsKept s t) : phyCtrsKept s { t with hostp := x } := h

theorem flt {x} (h : phyCtrsKept s t) : phyCtrsKept s { t with flt := x } := h

theorem poison {l} (h : phyCtrsKept s t) : phyCtrsKept s { t with poison := l } := h

theorem setByte {a b} (h : phyCtrsKept s t) : phyCtrsKept s (t.setByte a b) := h

theorem setFifo {n f} (h : phyCtrsKept s t) : phyCtrsKept s (t.setFifo n f) := h

theorem modCore {c f} (h : phyCtrsKept s t) : phyCtrsKept s (t.modCore c f) := h.disp.wr

theorem count {a n} (h : phyCtrsKept s t) (ha : a < 0x40800000) : phyCtrsKept s (t.count a n) := fun b hb =>
  ((t.ctr_count a n b).trans (if_neg (Nat.ne_of_gt (Nat.lt_of_lt_of_le ha hb)))).trans (h b hb)

/-! Interrupts (R617, R623, R627, R628) count in DISPATCH alone. -/

theorem placeNotify {n} (h : phyCtrsKept s t) : phyCtrsKept s (t.placeNotify n) := by
  have hnotify : ∀ c, phyCtrsKept s (t.notify c) := fun _ => h.modCore
  unfold State.placeNotify
  dsimp only
  split
  · exact hnotify _
  · split
    · exact hnotify _
    · split
      · split
        · exact hnotify _
        · exact h
      · exact h

theorem place {n} (h : phyCtrsKept s t) : phyCtrsKept s (t.place n) := h.disp.setFld.disp.placeNotify

theorem endWait {n} (h : phyCtrsKept s t) : phyCtrsKept s (t.endWait n) := h.disp.wr.wr.setFld

theorem wake {n res} (h : phyCtrsKept s t) : phyCtrsKept s (t.wake n res) := by
  unfold State.wake
  dsimp only
  split
  · exact h.endWait.disp
  · exact h.endWait.disp.place

theorem takeEvents {n m consume} (h : phyCtrsKept s t) : phyCtrsKept s (t.takeEvents n m consume) := by
  unfold State.takeEvents
  dsimp only
  split
  · exact h.disp.wr
  · exact h.disp

theorem setEvents {n m} (h : phyCtrsKept s t) : phyCtrsKept s (t.setEvents n m) := by
  unfold State.setEvents
  dsimp only
  split
  · exact h.wr.takeEvents.wake
  · exact h.wr

theorem dispatchCtrs_lt : C.DISPATCH_VEC_DROPPED < 0x40800000 ∧ C.DISPATCH_COMPL_MERGED < 0x40800000 := by decide

theorem msiSend {v} (h : phyCtrsKept s t) : phyCtrsKept s (t.msiSend v) := by
  unfold State.msiSend
  split
  · exact h.count dispatchCtrs_lt.1
  · split
    · exact h.wr
    · exact h.hostp

theorem setCompl {n l} (h : phyCtrsKept s t) : phyCtrsKept s (t.setCompl n l) := h.disp.setFld.setFld

theorem raiseCompletion {v n} (h : phyCtrsKept s t) : phyCtrsKept s (t.raiseCompletion v n) := by
  unfold State.raiseCompletion
  dsimp only
  split
  · exact (h.disp.count dispatchCtrs_lt.2).setEvents
  · split
    · exact h.setCompl.setEvents
    · exact h.disp.setEvents

theorem raise {v} (h : phyCtrsKept s t) : phyCtrsKept s (t.raise v) := by
  unfold State.raise
  dsimp only
  split
  · exact h.msiSend
  · split
    · exact h.count dispatchCtrs_lt.1
    · split
      · exact h.raiseCompletion
      · exact h.setEvents

/-! A hardware record (R633) counts in PIGEON, in FAULT where its place is not mapped (R125), and in DISPATCH. -/

theorem faultCtrs_lt : C.FAULT_COUNT 0x02 < 0x40800000 ∧ C.FAULT_LOG_LOST < 0x40800000 := by decide

theorem countFault {src} (h : phyCtrsKept s t) (hsrc : C.FAULT_COUNT src < 0x40800000) :
    phyCtrsKept s (t.countFault src) := h.wr.count hsrc

theorem unmapped {a} (h : phyCtrsKept s t) : phyCtrsKept s (t.unmapped a) := by
  unfold State.unmapped State.present State.presentEv
  split
  · exact h.flt
  · exact (h.countFault faultCtrs_lt.1).count faultCtrs_lt.2

theorem logDma {a n} (h : phyCtrsKept s t) : phyCtrsKept s (t.logDma a n) := by
  unfold State.logDma
  split
  · exact h.unmapped
  · exact h

theorem storeBytes {a bs} (h : phyCtrsKept s t) : phyCtrsKept s (t.storeBytes a bs) := by
  induction bs generalizing t a with
  | nil => exact h
  | cons b bs ih =>
    refine ih ?_
    split
    · exact h.setByte
    · exact h

theorem dmaWrite {a bs} (h : phyCtrsKept s t) : phyCtrsKept s (t.dmaWrite a bs) := h.logDma.storeBytes.poison

theorem syncFifo {n} (h : phyCtrsKept s t) : phyCtrsKept s (t.syncFifo n) := h.wr.wr.wr.wr

theorem finishFifo {n f} (h : phyCtrsKept s t) : phyCtrsKept s (t.finishFifo n f) := by
  unfold State.finishFifo
  dsimp only
  split
  · exact h.setFifo.syncFifo.raise
  · exact h.setFifo.syncFifo

theorem pigeonCtrs_lt {n : Nat} (h : n < 256) : C.PIGEON_RECORDS n < 0x40800000 ∧ C.PIGEON_REFUSED n < 0x40800000 ∧
    C.PIGEON_IDLE_ITEMS n < 0x40800000 := by
  unfold C.PIGEON_RECORDS C.PIGEON_REFUSED C.PIGEON_IDLE_ITEMS
  omega

theorem hwRecord {n items} (h : phyCtrsKept s t) (hn : n < 256) : phyCtrsKept s (t.hwRecord n items).2 := by
  obtain ⟨hrecords, hrefused, hidle⟩ := pigeonCtrs_lt hn
  unfold State.hwRecord
  dsimp only
  split
  · exact h.count hrefused
  · split
    · exact (h.dmaWrite.count hrecords).finishFifo
    · split
      · exact ((h.dmaWrite.count hidle).dmaWrite.count hrecords).finishFifo
      · exact h.count hrefused

end phyCtrsKept

/-- A record that does not fit is refused and counted (R633). -/
theorem State.hwRecord_of_not_fits {n : Nat} {items : List Word} (h : s.recordFits n items.length = false) :
    (s.hwRecord n items).2 = s.count (C.PIGEON_REFUSED n) := by
  unfold State.recordFits at h
  unfold State.hwRecord
  dsimp only at h ⊢
  split
  · rfl
  · next hopen =>
    simp only [not_or, not_not, Nat.not_lt, Nat.not_le] at hopen
    obtain ⟨hen, hprod, hlen, hhalf, hmax⟩ := hopen
    simp only [hen, hprod, hlen, hhalf, hmax, ne_eq, not_false_eq_true, and_self, decide_true, Bool.true_and,
      Bool.or_eq_false_iff, decide_eq_false_iff_not] at h
    obtain ⟨hrest, hother⟩ := h
    rw [if_neg hrest]
    split
    · next hfree => simp [hfree.1, hfree.2] at hother
    · rfl

/-! ### CSI_CAPTURE -/

section
variable {r : Fin 3} {e : CsiIn} {x : RxPpdu} (hworks : s.takesWork (radioBlock r.val) = true)
  (hrx : (s.radio r.val).rx = some x) (hok : x.hdrOk = true) (hen : s.flag (F.RADIO_CSI_CFG_EN r.val) = true)
  (hmatch : s.csiMatches r.val e = true)
include hworks hrx hok hen hmatch

theorem exec_csiCapture : exec (.csiCapture r e) s = .next
    (if s.recordFits (s.fld (F.RADIO_CSI_CFG_FIFO r.val)) (s.csiRecord r.val x e).length then
      ((s.hwRecord (s.fld (F.RADIO_CSI_CFG_FIFO r.val)) (s.csiRecord r.val x e)).2.count
        (C.RADIO_CSI_CAPTURED r.val)).modRadio r.val (fun y => { y with
          csiSeq := (y.csiSeq + 1) % 65536, csiDropped := 0 })
    else ((s.hwRecord (s.fld (F.RADIO_CSI_CFG_FIFO r.val)) (s.csiRecord r.val x e)).2.count
      (C.RADIO_CSI_DROPPED r.val)).modRadio r.val (fun y => { y with csiDropped := min 255 (y.csiDropped + 1) })) := by
  have hcaptures : ¬ (¬ x.hdrOk = true ∨ ¬ s.flag (F.RADIO_CSI_CFG_EN r.val) = true ∨ ¬ s.csiMatches r.val e = true) := by
    simp [hok, hen, hmatch]
  refine (State.whenWorks_of_takesWork hworks _).trans ?_
  rw [hrx]
  dsimp only
  rw [if_neg hcaptures]
  split <;> rfl

end

/-- Two counts and a change of one radio's record: the counters and the radios alone have changed. -/
theorem countsAndRadio_rule {a b : Nat} (hab : a ≠ b) (r : Nat) (f : RadioSt → RadioSt)
    (ht : t = ((s.count a).count b).modRadio r f) :
    otherRadios s t r ∧ counted s t b 1 ∧ counted s t a 1 ∧ t.radio r = f (s.radio r) ∧
      t = { s with ctrs := t.ctrs, air := t.air } := by
  have hcounts : (s.count a).count b = { s with ctrs := ((s.count a).count b).ctrs } := rfl
  have hframe : ∀ u : State, u.modRadio r f = { u with air := (u.modRadio r f).air } := fun _ => rfl
  subst ht
  refine ⟨otherRadios_modRadio ((s.count a).count b) r f,
    counted_of_kept ((s.ctr_count a 1 b).trans (if_neg hab.symm)) (counted_count (s.count a) b 1),
    counted_then_kept (counted_count s a 1) (((s.count a).ctr_count b 1 a).trans (if_neg hab)),
    State.radio_modRadio_same ((s.count a).count b) r f, ?_⟩
  rw [hframe, hcounts]

theorem csiCtrs_above : ∀ r : Fin 3, 0x40800000 ≤ C.RADIO_CSI_CAPTURED r.val ∧
    0x40800000 ≤ C.RADIO_CSI_DROPPED r.val := by decide

theorem csiCapture_rule (s : State) (r : Fin 3) (e : CsiIn) (x : RxPpdu) (hworks : s.takesWork (radioBlock r.val) = true)
    (hrx : (s.radio r.val).rx = some x) (hok : x.hdrOk = true) (hen : s.flag (F.RADIO_CSI_CFG_EN r.val) = true)
    (hmatch : s.csiMatches r.val e = true) :
    ∃ t, exec (.csiCapture r e) s = .next t ∧ otherRadios s t r.val ∧
      (s.recordFits (s.fld (F.RADIO_CSI_CFG_FIFO r.val)) (s.csiRecord r.val x e).length = false →
        counted s t (C.RADIO_CSI_DROPPED r.val) 1 ∧ counted s t (C.PIGEON_REFUSED (s.fld (F.RADIO_CSI_CFG_FIFO r.val))) 1 ∧
        (t.radio r.val).csiDropped = min 255 ((s.radio r.val).csiDropped + 1) ∧
        (t.radio r.val).csiSeq = (s.radio r.val).csiSeq ∧ t = { s with ctrs := t.ctrs, air := t.air }) ∧
      (s.recordFits (s.fld (F.RADIO_CSI_CFG_FIFO r.val)) (s.csiRecord r.val x e).length = true →
        counted s t (C.RADIO_CSI_CAPTURED r.val) 1 ∧ (t.radio r.val).csiDropped = 0 ∧
        (t.radio r.val).csiSeq = ((s.radio r.val).csiSeq + 1) % 65536) := by
  obtain ⟨hcaptured, hdropped⟩ := csiCtrs_above r
  have hexec := exec_csiCapture hworks hrx hok hen hmatch
  have hfifo : s.fld (F.RADIO_CSI_CFG_FIFO r.val) < 256 := s.fld_lt (F.RADIO_CSI_CFG_FIFO r.val)
  cases hfits : s.recordFits (s.fld (F.RADIO_CSI_CFG_FIFO r.val)) (s.csiRecord r.val x e).length with
  | false =>
    have hbelow := (phyCtrsKept.pigeonCtrs_lt hfifo).2.1
    rw [hfits, if_neg Bool.false_ne_true, State.hwRecord_of_not_fits hfits] at hexec
    obtain ⟨hothers, hdrop, hrefuse, hradio, hframe⟩ :=
      countsAndRadio_rule (Nat.ne_of_lt (Nat.lt_of_lt_of_le hbelow hdropped)) r.val _ rfl
    exact ⟨_, hexec, hothers, fun _ => ⟨hdrop, hrefuse, congrArg RadioSt.csiDropped hradio,
      by rw [hradio], hframe⟩, nofun⟩
  | true =>
    have hair := (lateKept_hwRecord s (s.csiRecord r.val x e) hfifo).air
    have hctrs := (phyCtrsKept.refl s).hwRecord (items := s.csiRecord r.val x e) hfifo
    rw [hfits, if_pos rfl] at hexec
    generalize (s.hwRecord (s.fld (F.RADIO_CSI_CFG_FIFO r.val)) (s.csiRecord r.val x e)).2 = u at hair hctrs hexec
    refine ⟨_, hexec, otherRadios_trans (otherRadios_of_air hair r.val) (otherRadios_modRadio (u.count _) r.val _),
      nofun, fun _ => ⟨?_, ?_, ?_⟩⟩
    · exact counted_of_kept (hctrs _ hcaptured) (counted_count _ _ 1)
    · exact congrArg RadioSt.csiDropped (State.radio_modRadio_same _ r.val _)
    · refine (congrArg RadioSt.csiSeq (State.radio_modRadio_same _ r.val _)).trans ?_
      exact congrArg (fun y : RadioSt => (y.csiSeq + 1) % 65536) (State.radio_of_air hair r.val)

/-! ### The statement -/

/-- Settles O20: each clause is the rule of its command or of the header check. -/
theorem receptionsAndCodewords : Obligations.ReceptionsAndCodewords := by
  unfold Obligations.ReceptionsAndCodewords
  exact ⟨fun s r p h => ⟨exec_rxPreamble_of_undetected r (State.detects_eq_false h),
      exec_secondDetect_of_undetected r (State.detects_eq_false h)⟩,
    rxPreamble_rule, checkHeader_failed_rule, checkHeader_passed_rule, secondDetect_early_rule,
    secondDetect_capture_rule, fun s r p x hx hok hsat hpsat hweak => exec_secondDetect_of_weak hx hok hsat hpsat hweak,
    codewordEnqueue_room_rule, fun s r w hbcc => exec_codewordEnqueue_of_bcc r hbcc, codewordEnqueue_foreign_rule,
    codewordEnqueue_full_rule, codewordReclass_foreign_rule, codewordReclass_own_rule, csiCapture_rule⟩

end Sys2Proof.Machine
end
